-- ==== Sys2Proof/Word.lean ====
section
/-! DEFINITION. The word types of the module: registers are 32 bits wide (00_scope.md, "Register access codes"),
bytes are 8 bits, and points in time are PTP nanoseconds (R6). -/

namespace Sys2Proof

/-- A register value (00_scope.md: registers are 32 bits wide). -/
abbrev Word := BitVec 32

/-- A byte of a message, of a CAN payload or of a digest record. -/
abbrev Byte := BitVec 8

/-- A point in time: PTP nanoseconds (R6). A natural number, so that durations add without wrapping. -/
abbrev Time := Nat

/-- A power or cap in steps of 0.1 kW (R74, R75). -/
abbrev Power := Nat

end Sys2Proof
end

