-- ==== Sys2Proof/Syntax.lean ====
section
/-! DEFINITION. The names and operands of the module's commands, and `Instr`: one constructor per row of
spec/opcode_table.json. A VCP request carries its header (`Hdr`); an event carries what the event itself brings
(the unit it concerns and the values measured outside the module). -/

namespace Sys2Proof

/-! ### Names -/

/-- Table 3-3: the modes. -/
inductive Mode | off | commission | run | fallback | isolate | maintain
deriving DecidableEq, Repr

/-- Table 9-2: the role of the module in its pair. -/
inductive Role | undecided | keeper | reliefMirror | reliefCold | reliefResync | barred
deriving DecidableEq, Repr

/-- HELLO reply ROLE (Table 14-5): the role of a client session. -/
inductive ClientRole | observer | operator | engineer | authority | scheduler | rack | vendorService
deriving DecidableEq, Repr

/-- The ports VCP arrives on (Table 14-2), in the order of R403. -/
inductive Port | mgmtA | mgmtB | service
deriving DecidableEq, Repr

/-- Table 14-14: status codes. -/
inductive Status
  | ok | accepted | completed | alreadyComplete | busy | deadlineUnmeetable | yield | badOpcode | badAddress | badParam
  | version | denied | notKeeper | notPresent | domainDown | cardReset | faulted | noAck | updateState
deriving DecidableEq, Repr

/-- Slot of the module in the CDU (R252). -/
inductive SlotId | a | b
deriving DecidableEq, Repr

/-- The two inputs of main and of field power. -/
inductive InputId | a | b
deriving DecidableEq, Repr

/-- Table 3-8: the rows of safety limits and reflexes that Preman evaluates; rack-level rows name their rack. -/
inductive ReflexRow
  | pressureHigh | pressureTrip | dpLow | dpHigh | pumpTrip | supplyHigh | supplyOver | supplyLow
  | rackFlow (r : Fin 16) | rackFlowCap (r : Fin 16) | rackReturn (r : Fin 16) | returnHigh
deriving DecidableEq, Repr

/-- Table 15-7: the gated domains. -/
inductive Domain | compute (i : Fin 16) | store (k : Fin 8) | package | slot (s : Fin 6)
deriving DecidableEq, Repr

/-- A cluster by physical die, die row and physical column (INT_CL_SEL, Table 8-18). -/
structure ClusterAt where
  die : Fin 16
  row : Fin 16
  col : Fin 17
deriving DecidableEq, Repr

/-! ### VCP operands -/

/-- Table 14-3: what the header of a request carries, and what its reception says of it. -/
structure Hdr where
  /-- The DTLS association the packet arrived in. -/
  assoc : Nat
  session : BitVec 16
  version : BitVec 8
  sequence : BitVec 32
  unit : BitVec 16
  /-- OPCODE (Table 14-8). -/
  opcode : Nat := 0
  /-- The management port the packet arrived on; none: the port of the newest packet before it (R391, R393). -/
  port : Option Port := none
  /-- LENGTH equals the bytes received (R396). -/
  lengthOk : Bool := true
  /-- Every reserved parameter bit and byte is 0 (R396). -/
  reservedZero : Bool := true
  /-- DELIVER_BY, 0 for "when possible". -/
  deliverBy : Nat := 0
deriving DecidableEq, Repr

/-- R392: one subjectAltName URI of a client certificate. -/
inductive CertUri | role (r : ClientRole) | rack (n : Nat) | unknown
deriving DecidableEq, Repr

/-- A client certificate as R391, R392 and R457 judge it. -/
structure Cert where
  /-- SHA-256 digest of SubjectPublicKeyInfo. -/
  identity : Nat
  uris : List CertUri
  /-- The chain ends at an installed trust anchor. -/
  anchored : Bool
  /-- The chain ends at the Akven root. -/
  akven : Bool
deriving DecidableEq, Repr

/-- Table 14-10: one band entry of POLICY_SET. -/
structure BandEntry where
  loop : BitVec 8
  mask : BitVec 8
  spLo : BitVec 16
  spHi : BitVec 16
  outLo : BitVec 16
  outHi : BitVec 16
deriving DecidableEq, Repr

/-- Table 16-6: the manifest header of an image envelope, with what its reception says of its form. -/
structure Manifest where
  /-- MAGIC, FMT, reserved bytes, CHAIN_LEN and CHUNKS are as R460 gives. -/
  wellFormed : Bool
  kind : BitVec 8
  securityFlag : Bool
  imageLen : Nat
  version : BitVec 32
  securityVer : Nat
  mirrorCompat : Nat
  minPreman : BitVec 32
  /-- SHA-384 of the header (R461). -/
  digest : Nat
  /-- EPOCH of the OWNER certificate of the chain, when the chain holds one (R455). -/
  ownerEpoch : Option Nat
deriving DecidableEq, Repr

/-- The role extension of the certificate that signed an image (R452). -/
inductive ImgSigner | firmware | application | owner
deriving DecidableEq, Repr

/-- What a site's configuration says and no register holds (R12, R14, R18, R19, R508): the pumps driven by a VFD, the racks of each
sector, the sense input of a process value, the client identity of a rack, and a node whose traffic runs on Buoyline channel 5
(racks 0 to 15, the drives 16). -/
inductive SiteItem
  | vfdPumps (set : BitVec 8)
  | sectors (racks : List (BitVec 16))
  | processValue (j : Fin 4) (input : Option (Fin 64))
  | rackIdentity (r : Fin 16) (identity : Nat)
  | channelFive (node : Fin 17) (on : Bool)
deriving DecidableEq, Repr

/-- What a WRITE brings: the 32-bit values of registers from its offset on (R407), or a site configuration (R508). -/
inductive WriteBody
  | words (values : List Word)
  | site (i : SiteItem)
deriving DecidableEq, Repr

/-! ### The engine's operands -/

/-- Table 6-1 element formats, with the codes of FORMAT in Table 5-8. -/
inductive Fmt | mxfp4 | e2m3 | e3m2 | e4m3 | e5m2 | mxint8 | bf16
deriving DecidableEq, Repr

/-- Table 6-5 OUT_FORMAT: an element format, FP32 or RAW. -/
inductive OutFmt | elem (f : Fmt) | fp32 | raw
deriving DecidableEq, Repr

/-- What a cell or a vector unit hands to a closure adder (R159, R163, R164). -/
inductive PartialIn
  /-- An MX block pair: formats, element codes and scale bytes (R159). -/
  | mx (fa fb : Fmt) (a b : List Nat) (xa xb : Nat)
  /-- One BF16 product (R163). -/
  | bf16 (a b : Nat)
  /-- One FP32 lane through VACC (R164). -/
  | vacc (w : Nat)
  /-- A lane of a vector register of a cluster, through VACC (R125, R164). -/
  | lane (src : ClusterAt) (reg : Fin 32) (lane : Fin 16)
deriving DecidableEq, Repr

/-- Table 6-6: the operations of a vector unit, but for VACC (`PartialIn.lane`). VCVT is given by its four directions. -/
inductive VOp
  | vadd | vsub | vmul | vfma | vmin | vmax | vabs | vneg | vcmp | vsel | vrcp | vrsqrt | vdiv | vsqrt
  | vexp | vexp2 | vlog | vlog2 | vtanh | vsigm | vsilu | vsoftplus | vgelu
  | vcvtToBf16 | vcvtFromBf16
  /-- To and from an MX element under a scale byte, the second operand. -/
  | vcvtToElem (f : Fmt) | vcvtFromElem (f : Fmt)
  | vlsum
deriving DecidableEq, Repr

/-- An operand of a vector operation: a code from the cluster store, or a lane of one of the unit's 32 registers (R125). -/
inductive VArg | code (w : Nat) | reg (r : Fin 32) (lane : Fin 16)
deriving DecidableEq, Repr

/-- One lane of one vector operation in the vector unit of a cluster, and the register lane it writes; VLSUM takes the 16 lanes of
a vector. -/
structure VStep where
  unit : ClusterAt
  op : VOp
  args : List VArg
  dst : Fin 32
  lane : Fin 16
deriving DecidableEq, Repr

/-- Table 6-3: a contribution record that arrives from another part of the reduction. -/
structure Contribution where
  src : ClusterAt
  sum : Int
  floor : Int
  residue : Nat
  nonfinite : Bool
  clamped : Bool
  inexact : Bool
  count : Nat
deriving DecidableEq, Repr

/-- One output element: the accumulator it is reduced in (one of the 64 of its cluster, R125, R127), the partials and the
contributions that reach it, and whether its readout keeps the accumulator (R168). -/
structure ElemWork where
  unit : ClusterAt
  acc : Fin 64
  parts : List PartialIn
  contribs : List Contribution
  keep : Bool := false
deriving DecidableEq, Repr

/-- One output tensor of a leg, by its number in the image (R177). -/
structure TensorWork where
  number : Nat
  elems : List ElemWork
deriving DecidableEq, Repr

/-- R225, R226: one transfer of contribution records as this module receives or sends it, with its 64-byte digest record (Table 8-2):
the cluster that sends, the tensor, the SUM values, and the fields of the record. -/
structure Transfer where
  src : ClusterAt
  /-- The cluster that reduces the tensor and reads it out (R227). -/
  dst : ClusterAt
  /-- The ordinal of the module that sends; none: this module. -/
  srcOrd : Option Nat := none
  /-- This module sends the records, and keeps its copy of them (R225). -/
  sends : Bool := false
  tensor : Nat
  firstK : Nat
  sums : List Int
  digest : Nat
  /-- The second pass of the receiver gave the same digest (R226 item 2). -/
  passesAgree : Bool
deriving DecidableEq, Repr

/-- R227: a readout as the receiving closure adder checks it: its own sums and the reduced result, from element index `firstK`. -/
structure Readout where
  dst : ClusterAt
  tensor : Nat
  firstK : Nat
  locals : List Int
  result : List Int
deriving DecidableEq, Repr

/-- R184: what a residue check of Table 6-7 compares: the integers with the residues the hardware carries beside them. -/
inductive ResidueCheck
  /-- Block product: decoded operands, and r(S) as carried. -/
  | product (a b : List Int) (rS : Nat)
  /-- Left shift on placement by k: r(S), and the residue formed. -/
  | left (rS k rOut : Nat)
  /-- Rounded right shift by d: r(S), the quotient and the remainder of the rounding. -/
  | right (rS : Nat) (q rem : Int) (d : Nat)
  /-- Clamp: the sign, and the residue formed. -/
  | clamp (neg : Bool) (rOut : Nat)
  /-- Accumulation: the residues of the placed partials and of the contributions, and r(A) as carried. -/
  | accumulate (placed contribs : List Nat) (rA : Nat)
  /-- Readout: r(A) as carried, and A. -/
  | readout (rA : Nat) (a : Int)
  /-- Final conversion: r(A), the output significand M with its lowest bit at 2^(F+j), and R = A − M × 2^j. -/
  | final (rA : Nat) (m : Int) (j : Nat) (r : Int)
deriving DecidableEq, Repr

/-- R226: DIGEST_QUERY: a re-derived digest is asked for, its answer comes in, or a peer asks this module for one of its own. -/
inductive DigestAsk | ask | answer (digest : Nat) | asked (ord : Nat)
deriving DecidableEq, Repr

/-- R237, R238: the outcome of one reciprocal round: tile digests of the pair and of the third cluster. -/
structure RoundResult where
  row : Fin 16
  col : Fin 17
  die : Fin 16
  digestA : Nat
  digestB : Nat
  digestC : Nat
deriving DecidableEq, Repr

/-- What the engine computes in one leg besides its results: the work the checks look at. Cluster code is not an
interface of the module (R197), so the work arrives with the command that starts the leg. -/
structure LegWork where
  tensors : List TensorWork := []
  transfers : List Transfer := []
  /-- Residue checks by cluster, and whether each fell in a test slot (R184, R230). -/
  residues : List (ClusterAt × Bool × ResidueCheck) := []
  /-- Readouts of reduced tensors (R227). -/
  readouts : List Readout := []
  /-- A byte-parity error, or an uncorrectable DRAM error met by a scheduled copy: the path code of R200. -/
  parity : List Nat := []
  /-- The vector program: its lanes in order (R179 to R182). -/
  vector : List VStep := []
  /-- R181: flags raised by vector work that `vector` does not list. -/
  vflags : BitVec 4 := 0
  /-- R232: the leg digests of the two halves, when the DUAL variant runs. -/
  dual : Option (Nat × Nat) := none
  rounds : List RoundResult := []
  /-- R202, R203, in a checkpoint leg: the closure digest of the ring positions and the body it writes, and the ring positions. -/
  ckptDigest : Nat := 0
  ringPos : List Nat := []
deriving DecidableEq, Repr

/-- What the first leg after TRAVERSE_START brings: the digests that the two checkpoint slots give when they are read (R205), and the
work of the leg. -/
structure FirstWork where
  /-- Digests computed over the bodies of slots A and B. -/
  digests : Nat × Nat
  work : LegWork
deriving DecidableEq, Repr

/-- A provisional (run-ahead) action of the engine (Table 4-6). -/
structure ProvAction where
  raId : BitVec 32
  /-- Loop 0, 1 or 2 (Table 4-6), or 4 for a stage-up brought forward. -/
  loop : Fin 5
  /-- Change of the setpoint in the units of Table 3-17. -/
  sp : Int
  racks : BitVec 16
  /-- Change of the racks' balancing position [0.1 %]. -/
  pos : Int
  notice : Bool
  /-- Expected start of the load (PTP ns). -/
  expected : Nat
deriving DecidableEq, Repr

/-- The results one leg commits (R191, Table 3-9). -/
structure EngineOut where
  /-- Per loop: demanded setpoint and output. -/
  loops : List (Fin 5 × Int × Int) := []
  /-- Per rack: balancing position [0.1 %]. -/
  positions : List (Fin 16 × Nat) := []
  /-- Per rack: confirmed capacity, and the cap the optimiser wants [0.1 kW]. -/
  capacity : List (Fin 16 × Nat) := []
  want : List (Fin 16 × Nat) := []
  /-- Per loop: the heat D the bound loop cannot remove [0.1 kW] (R87). -/
  unserved : List (Fin 5 × Nat) := []
  /-- R109: the leak probability of racks [0.1 %], for telemetry. -/
  leakProb : List (Fin 16 × Nat) := []
  prov : List ProvAction := []
  withdraw : List (BitVec 32) := []
deriving DecidableEq, Repr

/-- Table 7-10: a hall link entry. -/
structure HallLink where
  ordA : Nat
  linkA : Nat
  ordB : Nat
  linkB : Nat
  lat : Nat
  routeSets : BitVec 4
deriving DecidableEq, Repr

/-- Table 5-11, Table 5-12: a copy descriptor. -/
structure CopyDesc where
  cls : Nat
  shape : Nat
  notify : Bool
  digest : Bool
  link : Bool
  tag : BitVec 16
  length : Nat
  rows : Nat
  src : Nat
  dst : Nat
  srcStride : Nat
  dstStride : Nat
  /-- Scheduled class: the array cycle in the leg. -/
  issueCycle : Nat := 0
  deliverBy : Nat
  /-- Every reserved bit is 0. -/
  reservedZero : Bool := true
deriving DecidableEq, Repr

/-- What firmware brings with a ring doorbell: the descriptors it has written to the ring, and the bits of CE_EVENTS it clears (R153). -/
structure Doorbell where
  descs : List CopyDesc
  clear : Word
deriving DecidableEq, Repr

/-- Table 5-8: a weight stream descriptor, and the store die it stands for. -/
structure StreamDesc where
  store : Fin 8
  startCycle : Nat
  /-- Bit i: the stream goes to logical compute die i. -/
  dest : BitVec 16
  /-- Code of FORMAT; 0 and the codes above 7 are reserved. -/
  format : Nat
  last : Bool
  elemBase : Nat
  /-- Element beats of 32 B, 1 to 4 194 304. -/
  elemLen : Nat
  scaleBase : Nat
deriving DecidableEq, Repr

/-- R197: a test slot entry: first cycle, length in cycles, and the logical compute dies it names. -/
structure SlotEntry where
  startCycle : Nat
  cycles : Nat
  dies : BitVec 16
deriving DecidableEq, Repr

/-- Table 7-6: a leg program of a variant with its lists. -/
structure LegProgram where
  variant : Nat
  program : Nat
  fanDuty : Nat
  power : Nat
  ckptWindow : Nat
  rotWindow : Nat
  streams : List StreamDesc
  copies : List CopyDesc
  slots : List SlotEntry
  reservedZero : Bool
deriving DecidableEq, Repr

/-- R206: an entry of the variant table. -/
structure VariantEntry where
  index : Nat
  kind : Nat
  module_ : Nat
  retiredC : BitVec 16
  retiredS : BitVec 8
deriving DecidableEq, Repr

/-- R196: an entry of the section directory. -/
structure ImageSection where
  type : Nat
  variant : Nat
  off : Nat
  len : Nat
deriving DecidableEq, Repr

/-- Table 6-5: the arithmetic record of an output tensor, and whether an MX output block of it spans clusters. -/
structure TensorRec where
  floor : Int
  format : Nat
  commit : Bool
  reservedZero : Bool
  partialsMax : Nat
  spans : Bool
deriving DecidableEq, Repr

/-- The header and the declarations of a traverse image that the module checks or uses (Tables 7-4 to 7-10). -/
structure Image where
  magic : Nat
  fmtMajor : Nat
  fmtMinor : Nat
  len : Nat
  mirrorId : Nat
  version : BitVec 32
  clock : Nat
  modules : Nat
  permille : Nat
  legCycles : Nat
  nPrograms : Nat
  ckptBytes : Nat
  weightBytes : Nat
  /-- TOOL_VER, and whether the module supports its cluster code (R197). -/
  toolVer : BitVec 32
  toolSupported : Bool
  reservedZero : Bool
  /-- PERIOD, and PHASES: the program of each phase position (R198). -/
  period : Nat
  phases : List Nat
  /-- PROGRAM: the leg programs of the variants (R197). -/
  programs : List LegProgram
  /-- CKPT_OVERLAY and ROT_OVERLAY: their copies by variant (R202, R211). -/
  ckptOverlay : List (Nat × CopyDesc)
  rotOverlay : List (Nat × CopyDesc)
  /-- CKPT_MAP by variant: canonical offset, logical engine address, length (R202). -/
  ckptMap : List (Nat × Nat × Nat × Nat)
  /-- N_VARIANTS, and VARIANTS (R206). -/
  nVariants : Nat
  variants : List VariantEntry
  /-- N_SECTIONS, and the section directory (R196). -/
  nSections : Nat
  sections : List ImageSection
  /-- TENSORS, by output tensor number (R177). -/
  tensors : List TensorRec
  /-- Ring base and length (RINGS). -/
  rings : List (Nat × Nat)
  hall : List HallLink
  /-- PATH_SHARE: path code and free permille (R200). -/
  pathShare : List (Nat × Nat)
  /-- Largest bytes any weight buffer holds in a cycle (R134). -/
  weightBufferMax : Nat
  /-- Sequence lengths: recurrent, cluster-store attention, DRAM attention (R149). -/
  seqLens : Nat × Nat × Nat
  /-- An MX operand meets a BF16 operand (R160). -/
  mixesBf16 : Bool
  /-- Variants declare different vector sequences (R182). -/
  vectorDiffers : Bool
  /-- Overlay copies fit their windows in every program (R202). -/
  overlaysFit : Bool
  /-- Hall links that bring scheduled beats to one part in the same block, largest count (R351). -/
  forwardedMax : Nat
deriving DecidableEq, Repr

/-! ### Card bus, cards, sensors -/

/-- What one sense input's converter reads (Table 11-9). -/
inductive SenseRaw
  /-- Pt100 or Pt1000 temperature [0.01 °C]. -/
  | temp (c : Int)
  | microAmp (v : Nat)
  | milliVolt (v : Int)
  | cableDry
  /-- A wet reading with its distance [0.1 m]. -/
  | cableWet (d : Nat)
  | cableBreak
  | contact (closed : Bool)
deriving DecidableEq, Repr

/-- Table 11-2: a card descriptor as read, with the outcome of its CRC. -/
structure CardDesc where
  crcOk : Bool
  type : Nat
  hwRev : Nat
  fwVer : Nat
  serial : BitVec 32
deriving DecidableEq, Repr

/-- What the uplinks of one card-bus frame bring (R312, R318, R323 to R328). -/
inductive Uplink
  /-- Coil current samples of one valve channel, 10 µs apart, in order [mA]. -/
  | valve (ch : Fin 96) (samples : List Nat)
  /-- A motor channel: the periods [ns] of the tachometer pulses since the last frame, in order, the speed the encoder shows [rpm],
  quadrature counts since the last frame, FAULT input open. -/
  | motor (ch : Fin 48) (periods : List Nat) (encRpm : Nat) (counts : Int) (faultOpen : Bool)
  | sense (i : Fin 64) (raw : SenseRaw)
  /-- A pulse input: rising edges since the last frame, mean period [ns], a rate above 10 kHz. -/
  | pulse (i : Fin 16) (edges period : Nat) (overRate : Bool)
  /-- An analog output: readback [0.01 %], load outside the rating. -/
  | ao (i : Fin 16) (readback : Nat) (overload : Bool)
  /-- A valid uplink of the slot. -/
  | good (s : Fin 6)
  /-- The uplink of the slot failed its CRC-16, or is missing. -/
  | badCrc (s : Fin 6)
  | missed (s : Fin 6)
  /-- The card's downlink segment of the frame failed its CRC-16 (R311). -/
  | badSegment (s : Fin 6)
  /-- R313: the card acknowledges the write of the last service window: its status is good, and the CRC-16 of what it stored. -/
  | serviceAck (s : Fin 6) (ok : Bool) (crc : BitVec 16)
  /-- Pressure decay of an isolated rack or of a closed sector [mbar/min] (Table 4-7 bit 3). -/
  | decayRack (r : Fin 16) (rate : Nat)
  | decaySector (k : Fin 8) (rate : Nat)
deriving DecidableEq, Repr

/-- The state a card reports of one channel at the release of outputs (R434). -/
inductive CardChannel
  | valve (ch : Fin 96) (energised : Bool)
  | motor (ch : Fin 48) (running : Bool) (command : Nat)
  | ao (i : Fin 16) (demand : Nat)
deriving DecidableEq, Repr

/-- The measured values that refresh every 10 ms (R43, R151). -/
structure Measured where
  mainA : Nat
  mainB : Nat
  fieldA : Nat
  fieldB : Nat
  fieldIA : Nat
  fieldIB : Nat
  fanRpm : List Nat
  inlet : Int
  /-- Per die unit instance: power [0.1 W], junction [0.1 °C] and corrected memory errors since the last refresh. -/
  dies : List (Fin 25 × Nat × Int × Nat)
  bankV : Nat
deriving DecidableEq, Repr

/-! ### Buoyline -/

/-- A CAN frame (Table 13-4). -/
structure CanFrame where
  xtd : Bool
  rtr : Bool
  id : Nat
  fdf : Bool
  brs : Bool
  esi : Bool
  dlc : Fin 16
  data : List Byte
deriving DecidableEq, Repr

/-- Readings a manifold node or a drive reports; the manual gives the identifiers (Table 13-5), not the payload
layout, so the values arrive beside the frame. -/
inductive NodeReading
  /-- Rack telemetry: flow and return flow [0.1 m³/h], supply flow, ΔT [0.01 K], return temperature [0.01 °C]. -/
  | rack (flow supplyFlow returnFlow : Nat) (dT returnT : Int)
  /-- Drive status: trip reported, speed [0.1 %]. -/
  | drive (trip : Bool) (speed : Nat)
  | none
deriving DecidableEq, Repr

/-- How a frame arrives: what its payload reads as, and the module time of its start of frame (R377). -/
structure Reception where
  reading : NodeReading
  sof : Nat
deriving DecidableEq, Repr

/-- Table 13-3: a filter entry. -/
structure FilterEntry where
  kind : Nat
  xtd : Bool
  action : Nat
  buffer : Nat
  id1 : Nat
  id2 : Nat
  reservedZero : Bool
deriving DecidableEq, Repr

/-- How a transmit attempt failed (R383). -/
inductive TxFailure | errorFrame | noAck | arbitrationLost | delayNotFound
deriving DecidableEq, Repr

/-! ### Pair and hall -/

/-- R31, R261: what a module reads at its role decision: the partner's LAMP line and the SLOT_ID strap of the backplane. -/
structure RoleLines where
  otherLamp : Bool
  slot : SlotId
deriving DecidableEq, Repr

/-- R256, Table 12-7: a Flash message of the partner. -/
structure FlashMsg where
  slot : SlotId
  role : Role
  mode : Mode
  leg : Nat
  seq : BitVec 16
deriving DecidableEq, Repr

/-- Table 9-11: a health report. -/
structure HealthReport where
  seq : BitVec 32
  time : Nat
  role : Role
  flags : BitVec 8
  links : BitVec 4
  legsCompared : Nat
  legsMismatch : Nat
  legsLate : Nat
  stagesTested : Nat
  stagesFailed : Nat
  suspect : Nat
  retiredC : BitVec 16
  retiredS : BitVec 8
  fansFailed : Nat
  junction : Int
  ckptLeg : Option Nat
  pairId : Nat
deriving DecidableEq, Repr

/-- Table 17-3: the body of an action record. -/
structure ActionBody where
  unit : Nat
  source : Nat
  action : Nat
  causeSeq : BitVec 32 := 0
  raId : BitVec 32 := 0
  linkSeq : BitVec 32 := 0
  leg : Nat := 0
  old : Int := 0
  new : Int := 0
  /-- Readings: unit, offset, value. -/
  readings : List (Nat × Nat × Word) := []
deriving DecidableEq, Repr

/-- Bodies of Table 17-2. -/
inductive LogBody
  | pad
  | action (b : ActionBody)
  | words (ws : List Nat)
  /-- R482: a record of the Keeper: ORIGIN_SEQ, ORIGIN_SLOT and the original body. -/
  | mirrored (origin : BitVec 32) (slot : SlotId) (body : LogBody)
deriving DecidableEq, Repr

/-! ### Grants and leak sequences -/

/-- R83: one grant and its acknowledgement window. -/
structure Grant where
  seq : BitVec 32
  kind : Nat
  cap : Nat
  raId : BitVec 32 := 0
  expected : Nat := 0
  leftAt : Nat
  /-- The window is open. -/
  open_ : Bool := true
  acked : Bool := false
deriving DecidableEq, Repr

/-- Table 4-8: leak stages. -/
inductive LeakStage | clear | suspect | confirmed | isolated | escalated | uncontained
deriving DecidableEq, Repr

/-- R112: where the sequence of Table 4-9 stands for a rack. -/
structure LeakRun where
  t0 : Nat
  /-- Steps 1 and 2 have been carried out; both headers have shown their dip (step 7a). -/
  begun : Bool := false
  closed : Bool := false
  /-- The CAP_ACK of the step 2 grant has arrived. -/
  acked : Bool := false
  /-- Sequence of the step 2 grant. -/
  grantSeq : BitVec 32
  /-- t_v, once the isolation valves were taken. -/
  tv : Option Nat := none
  /-- t_e, once the headers were taken. -/
  te : Option Nat := none
  /-- Channels taken, each with its judgement (none: not yet). -/
  isolation : List (Nat × Option Bool) := []
  headers : List (Nat × Option Bool) := []
  /-- A judgement asks for step 5b or 7b in the next frame. -/
  escalateAt : Option Nat := none
  uncontainAt : Option Nat := none
deriving DecidableEq, Repr

/-- R190: what one reception brings to an input set: an uplink of the card bus, or a frame of a Buoyline channel. -/
inductive InputVal
  | uplink (u : Uplink)
  | can (channel : Fin 6) (f : CanFrame) (reading : NodeReading)
deriving DecidableEq, Repr

/-- R116, R289: a pull-in as a Keeper forwards it: its start, whether its PEAK still runs, what holds it, and what has been judged
of it, with VLV_LAST. -/
structure ValveCopy where
  ch : Fin 96
  startAt : Nat
  peak : Bool
  reflex : Bool
  leakHeld : Bool
  peakSeen : Bool
  dipFound : Bool
  judged : Bool
  ttpDone : Bool
  openSince : Bool
  last : Word
deriving DecidableEq, Repr

/-- Table 9-8, R93, R116: the grant, acknowledgement, Beacon and leak state of a rack as a Keeper mirrors it. -/
structure RackCopy where
  cap : Nat
  seq : BitVec 32
  acked : Option Nat
  grants : List Grant
  stage : LeakStage
  leak : Option LeakRun
  noAck : Bool
  beaconNoAck : Bool
  safetyFlow : Bool
  /-- R91: raises not yet acknowledged. -/
  raises : List (Nat × BitVec 32)
  /-- Table 4-7: the sources active, and all seen since SUSPECT. -/
  sources : BitVec 8
  seen : BitVec 8
  /-- Position of the balancing valve, in 1/1 000 000 of 0.1 % (R58). -/
  pos : Int
deriving DecidableEq, Repr

/-- Who sent a request: what an outcome notification needs (R401). -/
structure Origin where
  identity : Nat
  session : BitVec 16
  sequence : BitVec 32
deriving DecidableEq, Repr

/-- A command on a channel (R299, R321). -/
structure ChanCmd where
  origin : Origin
  tag : BitVec 16
  /-- 0 RELEASE/STOP, 1 ENERGISE/RUN, 2 TEST_PULSE. -/
  action : Nat
  committed : Nat
  /-- Planned start frame (R300, R301). -/
  planned : Nat
  acceptedAt : Nat
deriving DecidableEq, Repr

/-- R90: decisions on caps that wait for the end of their card-bus frame, with the time of the decision: a step for a bound loop
with the heat to remove, and the caps an engine result asks for, with the racks whose raise R88 allowed then. -/
inductive CapAsk
  | bound (decided : Nat) (loop d : Nat)
  | engine (decided : Nat) (want : List (Fin 16 × Nat)) (ready : List (Fin 16))
deriving DecidableEq, Repr

/-- Table 9-8, R271: the accepted work that waits for its frame: commands on channels, requests on the mode and on leak releases, and
decisions on caps. -/
structure Waiting where
  valves : List (Fin 96 × ChanCmd)
  motors : List (Fin 48 × ChanCmd)
  modes : List (Hdr × Nat)
  releases : List (Hdr × Word)
  caps : List CapAsk
deriving DecidableEq, Repr

/-- Table 9-8: one item of the mirror. -/
inductive MirrorItem
  /-- An input frame of the card bus and Buoyline: what was received in it, with the times at which each reception completed (R190). -/
  | inputFrame (frame : Nat) (values : List (Nat × InputVal))
  /-- An output frame: valve phases held, motor commands, analog demands and LOOP_SP_ACTIVE of loops 0 and 1; the pull-ins in
  progress and the valves a leak sequence holds (R116, R289). -/
  | outputFrame (chans : List CardChannel) (valves : List ValveCopy) (sp0 sp1 : Int)
  /-- An accepted command: identity, session, sequence, unit, TAG, committed time. -/
  | command (identity : Nat) (session : BitVec 16) (sequence : BitVec 32) (unit : BitVec 16) (tag : BitVec 16)
      (committed : Nat)
  | commandEnd (identity : Nat) (sequence : BitVec 32) (status : Status)
  /-- The queue of accepted work as it stands. -/
  | waiting (w : Waiting)
  /-- R204: the leg at whose boundary the Keeper restores. -/
  | restoreAt (leg : Nat)
  /-- R404: a kept reply. -/
  | reply (identity : Nat) (sequence : BitVec 32) (status : Status) (committed : Nat)
  /-- A configuration write of one register. -/
  | register (unit : BitVec 16) (offset : BitVec 16) (value : Word)
  /-- A site configuration accepted (R12, R14, R18, R19). -/
  | site (i : SiteItem)
  /-- GRP_MAP: the members of a class and group (key class × 256 + group). -/
  | group (key members : Nat)
  | envelope (v : Nat)
  | band (e : BandEntry)
  | preview (id : BitVec 32) (racks : BitVec 16) (start duration load ramp : Nat)
  | previewCancel (id : BitVec 32)
  /-- A datum set accepted: version and boundary. -/
  | datum (version applyAt : Nat)
  | mode (m prev : Mode) (forced fallbackLoops commissioned armed : Bool) (isolated : BitVec 16)
  | rack (r : Fin 16) (c : RackCopy)
  /-- Table 9-8: reflexes in force with the loops they hold, the SAFETY cause of every rack, and the run-ahead actions in force
  with their records and notices, and the sightings so far. -/
  | plantEvents (active : List ReflexRow) (holds : List (List ReflexRow)) (safetyAll : Bool)
      (prov : List (ProvAction × BitVec 32 × BitVec 16)) (sightings : Nat)
  /-- A Logbook record; of an action with its body (R475, R482). -/
  | logRecord (type : Nat) (time : Nat) (length : Nat) (seq : BitVec 32) (body : LogBody)
  /-- The digest of the Keeper's controller state record, and of the Relief's own. -/
  | controllerDigest (theirs own : Nat)
  | checkpoint (leg mirrorId digest phase bodyLen : Nat) (rings : List Nat)
deriving DecidableEq, Repr

/-- A mirror item as it reaches the Relief. -/
structure MirrorMsg where
  item : MirrorItem
  /-- R267, R269: the Relief's own state equals the item. -/
  same : Bool
deriving DecidableEq, Repr

/-- Table 12-9 HALL_CTRL payloads. -/
inductive HallMsg
  | intervals (v : Word)
  | routeSet (set : Fin 4) (leg : Nat)
  | stopAt (leg : Nat) (faulted : Bool)
  | restoreAt (leg ckptLeg : Nat)
  | linkReport (ord link : Nat) (up : Bool)
  | claimReport (ord : Nat)
deriving DecidableEq, Repr

/-- Why a link goes DOWN (Table 12-5). -/
inductive LinkCause | errorRatio | badBurst | lockLost | late | svcTimeout | noSignal | retrain
deriving DecidableEq, Repr

/-- Table 12-8, Table 12-9: a service message fragment sequence received whole. -/
structure ServiceMsg where
  type : Nat
  reliable : Bool
  seq : BitVec 32
  ackSeq : BitVec 32
  srcOrd : Nat
  dstOrd : Nat
  msgId : BitVec 16
  /-- The payload, as the words that Table 12-9 lists. -/
  payload : List Nat
deriving DecidableEq, Repr

/-- Table 12-7: a service beat: idle, a Flash, or a fragment of a message with its LEN data bytes. -/
inductive ServiceBeat
  | idle
  | flash (f : FlashMsg)
  | fragment (first last : Bool) (data : List Nat)
deriving DecidableEq, Repr

/-- Table 12-2: a control beat as the module sends it. -/
structure ControlBeat where
  hallCount : Nat
  echoCount : Nat
  echoAge : Nat
  beatMap : Nat
  poison : Nat
  ord : Nat
  depth : Nat
  link : Nat
  slot : SlotId
  locked : Bool
  credits : Nat
  routeSet : Nat
  forwarded : Bool
deriving DecidableEq, Repr

/-- R338, Table 12-2: a link block as it arrives. -/
structure LinkBlockIn where
  crcOk : Bool
  decoded : Bool
  corrected : Nat
  hallCount : Nat
  echoCount : Nat
  echoAge : Nat
  poison : Bool
  peerOrd : Nat
  peerLink : Nat
  peerSlot : SlotId
  peerDepth : Nat
  peerLocked : Bool
  routeSet : Fin 4
  forwarded : Bool
  credits : Nat
  scheduled : Bool
  service : ServiceBeat
deriving DecidableEq, Repr

/-- A 24-byte or longer ISO 15693 request of the Survey port is one of the rows; KIND of JOURNAL_WRITE (R502). -/
structure JournalWrite where
  kind : BitVec 8
  w0 : Word
  w1 : Word
  cmacOk : Bool
  /-- The field collapses during or after this step of Table 18-7, 0 for before step 1 (none: it stays). -/
  collapse : Option (Fin 5)
  /-- R504: the cover closes before step 3. -/
  closes : Bool
deriving DecidableEq, Repr

/-- Resync phases of Table 9-12. -/
inductive ResyncPhase | idle | handshake | bulk | delta | checkpoint | join
deriving DecidableEq, Repr

/-- The rails of Table 15-5, by order. -/
abbrev Rail := Fin 9

/-! ### The commands -/

/-- One constructor per row of spec/opcode_table.json, in the table's order. -/
inductive Instr
  | dtlsHandshake (assoc : Nat) (port : Port) (cert : Cert) (ok : Bool)
  | hello (h : Hdr) (majors minor1 minor2 : BitVec 8) (caps : BitVec 64) (name : Nat)
  | bye (h : Hdr)
  | sessionTimeout (sid : BitVec 16)
  | dtlsClosure (assoc : Nat)
  | malformed
  | read (h : Hdr) (off count : BitVec 16)
  | registerWrite (h : Hdr) (off : BitVec 16) (values : WriteBody)
  | readMulti (h : Hdr) (entries : List (BitVec 16 × BitVec 16))
  | writeGroup (h : Hdr) (off : BitVec 16) (value : Word)
  | subscribe (h : Hdr) (off count period : BitVec 16) (kind : BitVec 8)
  | unsubscribe (h : Hdr) (subId : BitVec 16)
  | telemetrySample
  | capAck (h : Hdr) (rack : BitVec 8) (seq : BitVec 32) (power : BitVec 32)
  | envelopeSet (h : Hdr) (envelope : BitVec 32)
  | preview (h : Hdr) (id : BitVec 32) (racks flags : BitVec 16) (start : BitVec 64) (duration load ramp : BitVec 32)
  | previewCancel (h : Hdr) (id : BitVec 32)
  | energise (h : Hdr) (tag : BitVec 16)
  | release (h : Hdr) (tag : BitVec 16)
  | testPulse (h : Hdr) (tag : BitVec 16)
  | motorRun (h : Hdr) (tag speed : BitVec 16)
  | motorStop (h : Hdr) (tag speed : BitVec 16)
  | abortValve (h : Hdr) (tag : BitVec 16)
  | abortMotor (h : Hdr) (tag : BitVec 16)
  | abortCopy (h : Hdr) (ring : BitVec 8) (tag : BitVec 16)
  | modeSet (h : Hdr) (mode : BitVec 8)
  | modeSetFallback (h : Hdr)
  | policySet (h : Hdr) (entries : List BandEntry)
  | logSnapshot (h : Hdr)
  | logRead (h : Hdr) (src : BitVec 32) (max : BitVec 16)
  | updateBegin (h : Hdr) (restart : Bool) (m : Manifest)
  | updateChunk (h : Hdr) (chunk : BitVec 32) (piece : BitVec 8) (len : Nat) (hashOk : Bool)
  | updateVerify (h : Hdr)
  | updateVerifyDone (unit : Fin 7) (signed : Bool) (signer : Option ImgSigner) (hashOk : Bool)
  | updateActivate (h : Hdr) (flags : BitVec 8)
  | updateConfirm (h : Hdr)
  | updateAbort (h : Hdr)
  | traverseLoad (h : Hdr) (bank : BitVec 8)
  | loadDone (img : Image) (manifestOk : Bool)
  | traverseStart (h : Hdr) (src : BitVec 8) (startAt : BitVec 64)
  | traverseFirstLeg (out : EngineOut) (work : FirstWork)
  | traverseStop (h : Hdr)
  | datumPush (h : Hdr) (setVer : BitVec 32) (chunk nChunks : BitVec 16) (len : Nat) (setOk sigOk : Bool)
      (applyAt : BitVec 64)
  | datumDiscard
  | datumApply
  | integrityReport (h : Hdr)
  | integrityPeriodic
  | locate (h : Hdr) (action : BitVec 8)
  | locateButton (withWrite : Bool)
  | hwPanelWrite (h : Hdr) (value : Word)
  | handover (h : Hdr) (flags : BitVec 8) (at_ : BitVec 64)
  | loopOutWrite (h : Hdr) (value : Word)
  | aoOutWrite (h : Hdr) (value : Word)
  | beaconCtrlWrite (h : Hdr) (value : Word)
  | loopPumpRestore (h : Hdr) (value : Word)
  | leakRelease (h : Hdr) (value : Word)
  | rackCfgWrite (h : Hdr) (rack : Fin 16) (value : Word)
  | dieRetire (h : Hdr)
  | dieRestore (h : Hdr)
  | join (h : Hdr) (value : Word)
  | linkRetrain (h : Hdr) (value : Word)
  | linkEnable (h : Hdr) (value : Word)
  | blRecover (h : Hdr) (value : Word)
  | calNow (h : Hdr) (value : Word)
  | auxCfgWrite (h : Hdr) (value : Word)
  | auxOutLevel (h : Hdr) (level : Bool)
  | auxAttach (pin : Fin 16)
  | auxCapture (pin : Fin 16) (at_ : Nat)
  | tripClear (h : Hdr) (value : Word)
  | restartsExhaustedClear (h : Hdr) (value : Word)
  | encoderFaultClear (h : Hdr) (value : Word)
  | intCtrlWrite (h : Hdr) (value : Word)
  | serviceEnClear (h : Hdr) (value : Word)
  | ceRingTail (ring : Fin 3) (tail : BitVec 16) (descs : Doorbell)
  | blTxReq (c : Fin 6) (mask : Word) (records : List (Fin 32 × CanFrame))
  | blTxCancel (c : Fin 6) (mask : Word)
  | blFilterSwap (c : Fin 6) (bank : Bool) (count : Nat) (entries : List FilterEntry)
  | blRxLock (c : Fin 6) (k : Fin 64) (lock : Bool)
  | cardBusFrame (up : List Uplink)
  | cardFaulted (s : Fin 6)
  | cardEject (s : Fin 6)
  | domainDrainEnd (d : Domain)
  | domainReady (d : Domain)
  | cardPresence (s : Fin 6)
  | enumDebounceEnd (s : Fin 6) (desc : CardDesc)
  | cardEnumDone (s : Fin 6) (chans : List CardChannel)
  | mainInputLoss (i : InputId)
  | fieldInputLoss (i : InputId)
  | fieldPowerReturn (i : InputId)
  | fanFail (k : Fin 6)
  | thermalWarn
  | thermalShutdown
  | harnessOpen
  | harnessClose
  | legStart (out : EngineOut) (work : LegWork)
  | checksClosed
  | restoreResume (digests : Nat × Nat) (out : EngineOut) (work : LegWork)
  | withheldFallback
  | engineLost
  | returnToRun
  | fallbackTick
  | policyBoundClear (l : Fin 5)
  | boundCapStep (l : Fin 5)
  | redundantSwitch (l : Fin 2)
  | reserveStart
  | dpHighCut
  | primaryValveOpen
  | supplyOvertempCapdown
  | primaryValveClose
  | rackFlowLow (r : Fin 16)
  | rackFlowCapdown (r : Fin 16)
  | rackReturnHigh (r : Fin 16)
  | returnHighCapcut
  | reflexRepeat (row : ReflexRow)
  | reflexRelease (row : ReflexRow)
  | stageUp
  | stageDown
  | rotation
  | rotationSwap
  | ackWindowClose (r : Fin 16) (seq : BitVec 32)
  | grantRepeat (r : Fin 16)
  | previewEnd (id : BitVec 32)
  | leakSourceClear (r : Fin 16)
  | flowImbalance (r : Fin 16)
  | reservoirCheck (level : Nat)
  | leakClear (r : Fin 16)
  | leakIsolateTimeout (r : Fin 16)
  | peakEnd (ch : Fin 96)
  | dipEnd (ch : Fin 96)
  | ttpTimeout (ch : Fin 96)
  | releaseDone (ch : Fin 96)
  | releaseFault (ch : Fin 96)
  | valveTrip (ch : Fin 96) (mA : Nat)
  | openLoad (ch : Fin 96)
  | cardHold (s : Fin 6)
  | dutyExpire (ch : Fin 96)
  | testPulseEnd (ch : Fin 96) (mA : Nat)
  | kickExit (ch : Fin 48)
  | kickTimeout (ch : Fin 48)
  | rampDone (ch : Fin 48)
  | tachLow (ch : Fin 48)
  | driveFault (ch : Fin 48)
  | backoffEnd (ch : Fin 48)
  | failuresReset (ch : Fin 48)
  | encoderIndex (ch : Fin 48) (edge : Int)
  | calibration (i : Fin 64)
  | noPulse (i : Fin 16)
  | openLoop (i : Fin 16)
  | copyComplete (ce : Fin 8) (status : Status) (bytes digest : Nat)
  | peerCopyRequest (ord bytes : Nat)
  | digestQuery (leg index : Nat) (q : DigestAsk)
  | legDigest (leg digest : Nat)
  | testOverdue (c : ClusterAt)
  | suspectEnter (c : ClusterAt)
  | marginTest (failed : List ClusterAt)
  | uncorrectableError (die : Fin 25)
  | packageResetDone (early : Bool)
  | flashEmit
  | flashReceive (onPair : Bool) (msg : FlashMsg)
  | flashMiss
  | flashPairLost
  | lampStuck
  | lockstepMismatch
  | deadmanRelease
  | lampReleaseSeen
  | claim
  | stageLatchClear
  | simultaneous
  | roleDecision (lines : RoleLines)
  | handoverReady
  | handoverAbandon
  | handoverLampRelease
  | healthReportSend
  | health (r : HealthReport)
  | reliefUnhealthy
  | testWindowRequest (ch : Fin 96)
  | stageTestPulse (ch : Fin 96) (mA : Nat) (otherDrives : Bool)
  | mirror (item : MirrorMsg)
  | resyncPhaseDone (pairIdEqual : Bool) (moved : Nat) (digestOk : Bool)
  | resyncJoin
  | hallCtrl (m : HallMsg)
  | linkSignal (l : Fin 32)
  | linkTrainTimeout (l : Fin 32)
  | linkLocked (l : Fin 32) (hallCount arrival echoCount echoAge : Nat)
  | linkUp (l : Fin 32) (delay : Nat)
  | linkBackoffEnd (l : Fin 32)
  | linkBlock (l : Fin 32) (b : LinkBlockIn)
  | beatLate (l : Fin 32)
  | linkDown (l : Fin 32) (cause : LinkCause)
  | linkDegraded (l : Fin 32) (ser : Nat)
  | unlocked
  | routeReturn (set : Fin 4)
  | serviceRetransmit (l : Fin 32)
  | ack (l : Fin 32)
  | bulkOpen (ord : Nat) (session : BitVec 16) (bytes dst deliverBy : Nat)
  | bulkReply (ord : Nat) (session : BitVec 16) (status : Status)
  | bulkClose (ord : Nat) (session : BitVec 16) (status : Status) (bytes : Nat)
  | canFrameReceive (c : Fin 6) (f : CanFrame) (reading : Reception)
  | canTxDone (c : Fin 6) (j : Fin 32)
  | canTxError (c : Fin 6) (j : Fin 32) (why : TxFailure)
  | busOff (c : Fin 6)
  | busOffStale (c : Fin 6)
  | recovered (c : Fin 6)
  | ptpSync (port : InputId) (offset : Int) (pathDelay : Nat)
  | ptpHoldover
  | timeStep
  | sagStart
  | sagShort
  | sagTrigger
  | lastLightDone (energy : Nat) (bankHeld : Bool)
  | powerApplied
  | busQualified (chosenOk otherOk : Bool)
  | lastLightArm
  | bankMeasure (discharge : Nat)
  | startupRestore (chans : List CardChannel)
  | engineStartup
  | railFault (r : Rail) (die : Option (Fin 24))
  | rootFail
  | deckHeartbeat
  | deckTimeout
  | trialBoot (unit : Fin 7)
  | healthyMinute (unit : Fin 7)
  | actionAfter
  | loopTrace
  | bmuFrame (bytes : List Byte)
  | bmuStale
  | bmuLinkSend
  | flowPulse
  | measurementCycle (supply return_ : Int) (sensorOk : Bool) (rateHigh : Bool)
  | setDay
  | coverOpen
  | displayButton
  | displayTimeout
  | auxSupplyLoss
  | inventory
  | getSystemInformation
  | readSingleBlock (block : Nat)
  | readMultipleBlocks (first count : Nat)
  | unsupportedCommand
  | auth (nonce : BitVec 64)
  | authResp (cmacOk : Bool)
  | surveySessionEnd (fieldDropped : Bool)
  | journalWrite (j : JournalWrite)
  | mainInputReturn (i : InputId)
  | measureRefresh (m : Measured)
  | codewordLock (l : Fin 32) (kind length power : Nat)
  | pllUnlock (pllA : Bool)
  | cardLogicSupplyFault (s : Fin 6)
  | peakReached (ch : Fin 96) (t : Nat) (mA : Nat)
  | dipFound (ch : Fin 96) (t : Nat) (mA : Nat)
  | calibrationDone (i : Fin 64) (gain offset : Int)
  | auxInputEdge (pin : Fin 16) (level : Bool)
  | ppsOut (pin : Fin 16)
  | canRxError (c : Fin 6)
  | ptpAnnounce (port : InputId) (better : Bool) (gmClass : BitVec 8)
  | keyUpdate (assoc : Nat)
  | qualificationRestart
  | stageLatchSet
  | ceRingLayoutWrite (ring : Fin 3) (base : Option Word) (size : Option Word)
  | coverClose
  | auxSupplyReturn
  | cellLow
  | operatingHour
  | bmuPowerUp (crcOk : Bool)
deriving DecidableEq, Repr

end Sys2Proof
end

