-- ==== Sys2Proof/Config.lean ====
section
/-! DEFINITION. What one module fixes, and the FREE VALUES: what the manual leaves open is an opaque constant here, without a
body, so that no proof can see what it is. A free value that is fresh at each use is applied to the counter `State.free`. -/

namespace Sys2Proof.Config

/-! ### Values a module fixes (ratings and limits the manual states) -/

/-- R188, R310: a card-bus frame lasts 50 µs. -/
def frameNs : Nat := 50000

/-- One microsecond, one millisecond, one second and one hour in nanoseconds. -/
def us : Nat := 1000
def ms : Nat := 1000000
def sec : Nat := 1000000000
def hour : Nat := 3600 * sec

/-- R400, R271: what admission adds for a failover gap. -/
def gapNs : Nat := 1000000

/-- Table 14-2: sessions of the module, and of the service port. -/
def maxSessions : Nat := 64
def maxServiceSessions : Nat := 2

/-- R402: accepted requests that have not ended, of the module and of one session. -/
def maxAccepted : Nat := 1024
def maxAcceptedSession : Nat := 64

/-- R404: replies kept per client identity. -/
def keptReplies : Nat := 256

/-- R413: event notifications one session's queue holds. -/
def notifyQueue : Nat := 256

/-- R412: subscriptions of a session and of the module, and register values per second. -/
def maxSubsSession : Nat := 128
def maxSubs : Nat := 1024
def maxTelemetry : Nat := 200000

/-- R96: active previews. -/
def maxPreviews : Nat := 64

/-- R471: bytes of the Logbook ring. -/
def logRing : Nat := 16777216

/-- R477: bytes of each writer's queue, and the reserve of Preman's. -/
def logQueue : Nat := 262144
def logReserve : Nat := 65536

/-! ### Per-module constants whose value no rule gives (Table 14-17 "Per module", Table 5-17 "Per die") -/

/-- SYS_ID.HW_REV of the module (Table 14-18). Free: the manual gives no value. -/
opaque hwRev : BitVec 8
/-- SYS_SERIAL (Table 14-18). Free. -/
opaque serial : BitVec 32
/-- DIE_INFO.SILICON_STEP of a die (Table 5-17). Free. -/
opaque siliconStep : Nat → BitVec 8
/-- The lowest card firmware version the running Deck supports (R315), by card type. Free: no rule gives it. -/
opaque minCardFw : Nat → Nat
/-- VERSION of the Preman image made at the factory (R463), and the mirror-compatible IDs of the Preman and Deck images made there
(R266). Free: no rule gives them. -/
opaque premanVersion : Nat
/-- R452, R456: what the security block and the certificates hold: the UDS, HMAC-SHA-384 over a hash, the public key that the UDS
and the one that a CDI gives, the header hash and the versions of the images made at the factory. No rule gives their values. -/
opaque uds : BitVec 256
opaque hmacSha384 : BitVec 256 → Nat → BitVec 384
opaque deviceId : BitVec 256 → Nat
opaque aliasKey : BitVec 384 → Nat
opaque akvenRoot : Nat
opaque factoryHeader : Nat → Nat
opaque deckVersion : Nat
opaque premanCompat : Nat
opaque deckCompat : Nat

/-! ### Free values: open at each use -/

/-- When the grants of one decision leave the module, counted from the decision; R82 bounds it by 2 ms. -/
opaque grantDelay : Nat → Nat
/-- LOOP_PV of plant loop 2: the racks have one ΔT each and the register shows one value (Table 3-5); no rule says which. -/
opaque loopTwoPv : List Int → Int
/-- A new session ID: R397 gives only "0x0001–0xFFFF, not in use". -/
opaque sessionId : Nat → BitVec 16
/-- A fresh SUB_ID (Table 14-11: unique in the session, 0x0001–0xFFFF). -/
opaque subId : Nat → BitVec 16
/-- The value a filtered sense reading takes (R333 gives the filter's time constant, not its law): old value, input. -/
opaque filtered : Nat → Int → Int → Int
/-- The duty [%] Preman gives the other fans when one fails (R42: "raises the other fans"; R41: Preman's own). -/
opaque fanDuty : Nat → Nat
/-- The steering [0.01 ppm] Preman applies for an offset from the master (R441 bounds it by ±5 ppm and gives no law). -/
opaque steer : Nat → Int → Int
/-- SAVE_TIME of a completed save [10 µs] (Table 15-2 bounds the phases and gives no exact time). -/
opaque saveTime : Nat → Nat
/-- A fan's speed at 100 % duty [rpm] (R41, R42 compare with the commanded speed and give no rpm). Free. -/
opaque fanFullRpm : Nat
/-- Bytes a copy had moved when it was stopped (R145 and R444 give only that BYTES_DONE says it). -/
opaque bytesMoved : Nat → Nat
/-- Where in DRAM the loaded image and the two checkpoint slots lie (R141, R203): the spec gives no address. -/
opaque imageBase : Nat
opaque ckptBase : Nat → Nat
/-- R350: HALL_CFG.PAIRS of ordinal 0 differs from the module's; the manual says no message that carries it. -/
opaque pairsDiffer : Nat → Bool
/-- ISO 11898-1: the receive error counter falls to a value from 119 to 127 after a reception when it stood above 127. -/
opaque recAfter : Nat → Nat
/-- R371: the transmitter delay a channel measures in a frame with bit rate switching [25 ns]. -/
opaque tdcv : Nat → Nat
/-- VCMP's result by the ordering found (0 less, 1 equal, 2 greater, 3 unordered), and whether VSEL takes its first operand under
a selector: Table 6-6 gives neither code. Free. -/
opaque vcmp : Nat → BitVec 32
opaque vselFirst : BitVec 32 → Bool
/-- IEEE 754-2019 leaves open whether tininess is detected before or after rounding. Free. -/
opaque tinyBefore : Bool
/-- What VCVT makes of a NaN in an MX element format (R175 speaks of accumulators only). Free. -/
opaque vcvtNan : Nat → BitVec 8
/-- What answers where a Survey block that Table 18-6 does not map is read (R501 is silent). -/
opaque surveyUnmapped : Nat → BitVec 32
/-- The ISO error of a refused AUTH_RESP or JOURNAL_WRITE (R502 gives no code), the nonce the BMU-1 draws (R502), and what both
copies of a legal register hold after a verifier's new verification of a register whose copies had both failed (R492). -/
opaque surveyRefusal : Nat → Nat
opaque bmuNonce : Nat → BitVec 64
opaque verifiedLegal : Nat → Nat → Nat
/-- What ISO 15693 Inventory and Get System Information tell of the chip (R501): its UID, and the blocks it declares. Free. -/
opaque surveyUid : BitVec 64
opaque surveyBlocks : Nat
/-- Table 12-1 and Ch. 11 name PRBS31, a CRC-32 and a CRC-16 without their polynomials (R491 gives only the CRC-16 of Ch. 18). Free. -/
opaque prbs31 : Nat → BitVec 8
opaque crc32 : List Nat → BitVec 32
opaque cardCrc : List Nat → BitVec 16
/-- R310, R313: Akven fixes the content of what a card is written: a part of its channel configuration (card type, part, the registers
of its channels), the configuration of one unit, and a piece of a firmware image (update unit, VERSION, piece). Free. -/
opaque cardConfig : Nat → Nat → List (Nat × BitVec 32) → List Nat
opaque unitConfig : Nat → List (Nat × BitVec 32) → List Nat
opaque cardFirmware : Nat → BitVec 32 → Nat → List Nat
/-- Table 12-2 CREDITS: what the receiving copy engine can take. Free. -/
opaque copyCredits : Nat → BitVec 8
/-- LEGAL_VER and CHECKSUM of the BMU-1, fixed at its manufacture (R494). Free. -/
opaque legalVer : BitVec 16
opaque legalChecksum : BitVec 16

/-- The EN 1434-1 heat coefficient of water (R489) in nWh per (0.1 L × 0.01 K) at a temperature [0.01 °C] pair and
position; the standard's table is not in the manual. -/
opaque heatCoefficient : Int → Int → Bool → Nat

/-- VSILU (6) and VGELU (8) of −∞ and the flags they raise: the product of an infinity and a zero, which R179 leaves to a standard that
has neither function. Free. -/
opaque vNegInf : Nat → BitVec 32
opaque vNegInfFlags : Nat → BitVec 4

end Sys2Proof.Config
end

