-- ==== Sys2Proof/Machine/State.lean ====
section
/-! DEFINITION. The state of one VXM-2504 as plain data, and the state after reset. Each field's docstring names the
rule that gives it. Registers that hold a plain value live in `State.regs`, one map over (unit, offset); live state
(modes, phases, queues, timers) has fields of its own, and the read-only registers that show it are computed from it
(Machine/Flags.lean), so that every piece of state has one home. -/

namespace Sys2Proof.Machine

open Sys2Proof

/-- A sparse total map over natural keys: strictly rising keys, and no entry equal to the default of its key. -/
abbrev IMap (α : Type) := List (Nat × α)

/-! ### Sessions and requests (Vexene Control Protocol) -/

/-- R391: a DTLS association. -/
structure Assoc where
  id : Nat
  port : Port
  cert : Cert
  /-- When the keys in force were set, how often they have been, and the packets exchanged under them (R391). -/
  keyedAt : Time := 0
  keyGen : Nat := 0
  records : Nat := 0
deriving DecidableEq, Repr

/-- R412: a subscription. -/
structure Sub where
  id : BitVec 16
  unit : Nat
  off : Nat
  count : Nat
  period : Nat
  telemetry : Bool
  events : Bool
  /-- Start of the frame last sampled. -/
  sampledAt : Option Time := none
deriving DecidableEq, Repr

/-- Table 14-12: a notification (NOTIFY body). -/
structure Notify where
  unit : Nat
  status : Status
  time : Time
  causeSeq : BitVec 32 := 0
  tag : BitVec 16 := 0
  eventReg : Nat := 0xFFFF
  eventBit : Nat := 0xFF
  code : Nat := 0
  /-- Byte 0 of DETAIL where DETAIL is carried (LOCATE path, failing section or slot). -/
  detail : Option Nat := none
deriving DecidableEq, Repr

/-- A VCP session (R393). -/
structure Session where
  id : BitVec 16
  assoc : Nat
  port : Port
  identity : Nat
  name : Nat
  role : ClientRole
  /-- R18: the rack bound to a RACK session. -/
  rack : Nat := 0xFF
  major : Nat
  minor : Nat
  caps : BitVec 64
  /-- When the newest packet arrived (R393). -/
  lastPacket : Time
  /-- Table 14-12 NOTIFY_SEQ of the next NOTIFY, and DROPPED since the last one. -/
  notifySeq : Nat := 0
  dropped : Nat := 0
  /-- R413: notifications waiting, oldest first. -/
  queue : List Notify := []
  /-- R399: this session's copies of GRP_SEL and INT_CL_SEL. -/
  grpSel : Word := 0
  clSel : Word := 0
  subs : List Sub := []
deriving DecidableEq, Repr

/-- R402: an accepted request that has not ended. -/
structure Accepted where
  origin : Origin
  unit : Nat
  tag : BitVec 16
  committed : Time
  /-- Deck interprets the request (R450, R451). -/
  deck : Bool
  /-- It completes at its committed time by time alone. -/
  timed : Bool := false
  /-- R271: it came with the mirror. -/
  inherited : Bool := false
deriving DecidableEq, Repr

/-- R404: a kept reply, with the outcome once the request has ended. -/
structure Kept where
  identity : Nat
  sequence : BitVec 32
  status : Status
  committed : Time
  outcome : Option Notify := none
deriving DecidableEq, Repr

/-- R486: a text line: a record by its SEQ, or "SKIP" with the number of records skipped. -/
inductive TxLine | record (seq : BitVec 32) | skip (n : Nat)
deriving DecidableEq, Repr

/-- R456: a TCG DICE TcbInfo entry: image kind, SHA-384 of the active manifest header, VERSION and SECURITY_VER. -/
structure TcbInfo where
  kind : Nat
  headerHash : Nat
  version : Nat
  securityVer : Nat
deriving DecidableEq, Repr

/-- R456: the Alias certificate: its key, the DeviceID key that signed it, and its TcbInfo entries. -/
structure AliasCert where
  key : Nat
  issuer : Nat
  tcb : List TcbInfo
deriving DecidableEq, Repr

/-- What leaves the module. Data words are the reply data of the opcode, in the order of its table. -/
inductive Out
  /-- R394, R395: a reply with what it echoes of the request's header. -/
  | reply (version : BitVec 8) (opcode : Nat) (session : BitVec 16) (sequence : BitVec 32) (unit : Nat) (status : Status) (detail : Nat) (committed : Time)
      (data : List Nat)
  /-- Table 4-2: a CAP_GRANT. -/
  | grant (rack : Fin 16) (kind : Nat) (seq : BitVec 32) (cap : Power) (raId : BitVec 32) (expected : Time) (leaves : Time)
  | notify (session : BitVec 16) (seq : Nat) (dropped : Nat) (n : Notify)
  /-- Table 14-13: a telemetry sample. -/
  | telemetry (session : BitVec 16) (sub : BitVec 16) (time : Time) (leg : Nat) (values : List Nat)
  /-- R249: an unsolicited integrity report (Table 8-12). -/
  | integrity (session : BitVec 16) (body : List Nat)
  /-- R456: the chain presented in a DTLS handshake: Alias, DeviceID, Akven root. -/
  | certChain (assoc : Nat) (alias_ : Option AliasCert) (deviceId root : Nat)
  /-- R256: a Flash on the pair, and its message on every partner link that is up. -/
  | flash (msg : FlashMsg)
  /-- R337: the link frame that starts on each link that sends, with the control beat of its first block. -/
  | linkFrames (frame : Nat) (beats : List (Fin 32 × ControlBeat))
  /-- R58, R388: a balancing command to a manifold node [0.1 %]. -/
  | balance (rack : Fin 16) (pos : Nat)
  /-- R388: a speed command to a VFD [0.1 %]. -/
  | vfd (pump : Fin 8) (speed : Nat) (run : Bool)
  /-- R351: a block forwarded to the partner: partner link, fabric link of arrival, HALL_COUNT. -/
  | forwarded (via arrival hallCount : Nat)
  /-- R357: a service message by TYPE, with its payload words. -/
  | service (type : Nat) (dst : Nat) (payload : List Nat)
  /-- R274: a health report. -/
  | health (r : HealthReport)
  /-- R267: an item of the mirror. -/
  | mirror (item : MirrorItem)
  /-- R499: a BMU-1 link frame. -/
  | bmu (bytes : List Byte)
  /-- R501: an answer of the Survey port: words, or an ISO error. -/
  | survey (words : List Word)
  | surveyError (code : Nat)
  /-- R154: how a firmware write of a ring's layout was answered. -/
  | ringLayout (ring : Fin 3) (st : Status)
  /-- R502, R503: AUTH and JOURNAL_WRITE answers. -/
  | surveyNonce (n : BitVec 64)
  /-- R495: what the display shows: page, number, and decimals. -/
  | display (page value decimals : Nat)
  /-- R486: one text line on AUX_14, as its last character leaves. -/
  | logLine (line : TxLine)
  /-- R329: a pin driven by PPS_OUT or GPIO_OUT, or a LEG_STROBE pulse. -/
  | pin (pin : Fin 16) (level : Bool)
deriving DecidableEq, Repr

/-! ### Plant control -/

/-- A measured value, and since when it is stale (R60). -/
structure Reading where
  value : Int := 0
  stale : Bool := true
  staleSince : Time := 0
deriving DecidableEq, Repr

/-- A plant loop (class 0x9). Setpoints are held in 1/60 000 000 of their unit and outputs in 1/1 000 000 of 0.1 %, so
that every rate limit of R57 moves them by a whole amount. -/
structure Loop where
  /-- The base value last committed by the engine (R69); none: the operator's LOOP_SP (R57). -/
  base : Option Int := none
  /-- LOOP_SP_ACTIVE: the setpoint in force, provisional components included. -/
  spActive : Int := 0
  /-- LOOP_OUT in force, and the value it moves to at OUT_RATE. -/
  out : Int := 0
  target : Int := 0
  /-- R66: a new SP band moves the setpoint in force to its nearest edge. -/
  spEdge : Bool := false
  manual : Bool := false
  policyBound : Bool := false
  /-- When the demand last returned inside the band (R49). -/
  insideSince : Option Time := none
  /-- CAPACITY_BOUND by its causes: staging (Table 3-6), and a stale input without a redundant sensor (R60). -/
  capacityBound : Bool := false
  staleBound : Bool := false
  /-- The rows of Table 3-8 that hold this loop's actuator (R63). -/
  holders : List ReflexRow := []
  /-- R87: heat the bound loop cannot remove, and the last step. -/
  unserved : Power := 0
  lastBoundStep : Time := 0
  /-- R60: the input is stale since, and the redundant sensor is in use. -/
  staleSince : Option Time := none
  redundant : Bool := false
  /-- Table 3-10: gains in force and integrator, in 1/(1 000 000 · max(TI,1)) of 0.1 %. -/
  kp : Nat := 0
  ti : Nat := 0
  integ : Int := 0
  /-- R63: value of the last DROPPED record of this actuator. -/
  droppedValue : Option Int := none
  /-- R69: the setpoint in force without its provisional components; none: no leg has committed one. -/
  spBase : Option Int := none
  /-- R47: the card-bus frame in which an engine result last moved the actuator. -/
  actedIn : Option Nat := none
deriving DecidableEq, Repr

/-- Timers of one row of Table 3-8 (R62, R63). -/
structure RowState where
  /-- The condition has held since. -/
  condSince : Option Time := none
  /-- The release condition has held since. -/
  okSince : Option Time := none
  /-- The action is in force, since. -/
  active : Bool := false
  since : Time := 0
  lastStep : Time := 0
deriving DecidableEq, Repr

/-- R61: what a pump is. -/
inductive PumpUse | none | idle | duty | reserve
deriving DecidableEq, Repr

/-- A secondary pump (R61, R509). -/
structure Pump where
  use : PumpUse := .none
  tripped : Bool := false
  /-- The pump is driven by a VFD on Buoyline (R12). -/
  vfd : Bool := false
  vfdTrip : Bool := false
  vfdStatusAt : Option Time := none
  /-- R387: the newest speed command sent to the VFD. -/
  sentAt : Option Time := none
  /-- Run time, and run time since its last rest (Table 3-6) [ns]. -/
  runNs : Nat := 0
  sinceRest : Nat := 0
  /-- Speed in 1/1 000 000 of 0.1 %; ramping down to leave the duty set as idle or reserve. -/
  speed : Int := 0
  leaving : Option PumpUse := Option.none
  starting : Bool := false
deriving DecidableEq, Repr

/-! ### Caps and leaks -/

/-- A rack as the cap broker and the leak response keep it. -/
structure Rack where
  cap : Power := 0
  confirmed : Power := 0
  grantSeq : BitVec 32 := 0
  /-- R80: Preman's ceiling in MRAM; 0 when never written. -/
  ceiling : Nat := 0
  /-- R84: the acknowledged cap; none since power-up. -/
  acked : Option Power := none
  /-- Grants whose window is open or that may be repeated, newest first. -/
  grants : List Grant := []
  noAck : Bool := false
  /-- The NO_ACK cause of the Beacon, and what it becomes in the next card-bus frame (R84, R85). -/
  beaconNoAck : Bool := false
  noAckNext : Option Bool := none
  raisedAt : Option Time := none
  /-- R91: unacknowledged raises, oldest first: the cap before each, and its grant sequence. -/
  raises : List (Power × BitVec 32) := []
  /-- R86: runs of grant sequences sent, first and last, newest run first. -/
  sent : List (BitVec 32 × BitVec 32) := []
  power : Power := 0
  /-- Table 4-7 sources active now, and all seen since SUSPECT (R111). -/
  sources : BitVec 8 := 0
  seen : BitVec 8 := 0
  /-- Cables that reported the rack, now and since SUSPECT. -/
  cables : List Nat := []
  seenCables : List Nat := []
  alarmAt : Time := 0
  imbalanceSince : Option Time := none
  /-- Every rack-level source clear since (R111, R117). -/
  clearSince : Option Time := some 0
  stage : LeakStage := .clear
  leak : Option LeakRun := none
  /-- SAFETY causes by the rows of Table 4-10: the rack flow row. -/
  safetyFlow : Bool := false
  /-- Manifold node telemetry (Table 1-1). -/
  flow : Nat := 0
  supplyFlow : Nat := 0
  returnFlow : Nat := 0
  dT : Int := 0
  returnT : Int := 0
  teleAt : Option Time := none
  /-- Balancing valve: position in force in 1/1 000 000 of 0.1 %, target, and the newest command sent (R58); 10.0 % at
  reset, the least an open valve may have, the model’s choice (log entry 107). -/
  pos : Int := 100000000
  target : Int := 100000000
  sentAt : Option Time := none
  sentPos : Nat := 0
  /-- The position last committed by the engine, without provisional components (R101). -/
  base : Int := 100000000
  /-- R60: the node's telemetry was stale in the last frame. -/
  teleStale : Bool := true
  /-- R63: value of the last DROPPED record of the balancing valve [0.1 %]. -/
  droppedValue : Option Int := none
  /-- R47: the frame in which an engine result last moved the valve, and the one in which a level-2 action last cut the cap. -/
  actedIn : Option Nat := none
  cutIn : Option Nat := none
deriving DecidableEq, Repr

/-- An active preview (R96 to R99). -/
structure Preview where
  id : BitVec 32
  racks : BitVec 16
  start : Time
  duration : Nat
  load : Nat
  ramp : Nat
  /-- Content that replaces this one from the next leg boundary (R98). -/
  next : Option (BitVec 16 × Time × Nat × Nat × Nat) := none
deriving DecidableEq, Repr

/-- A provisional component in force (R101). -/
structure Provisional where
  act : ProvAction
  /-- Logbook sequence of the ACTION record (R106). -/
  logSeq : BitVec 32
  /-- Racks that received a NOTICE under this RA_ID. -/
  noticed : BitVec 16 := 0
  /-- The stage-up it brings forward has been made (Table 4-6). -/
  staged : Bool := false
deriving DecidableEq, Repr

/-! ### Station cards and their channels -/

/-- Table 10-3: valve channel phases. -/
inductive Phase | off | deferred | peak | held | releasing | test
deriving DecidableEq, Repr

/-- A valve channel (class 0x1). -/
structure Valve where
  phase : Phase := .off
  /-- Start of the last pull-in; start of the release or of the test pulse. -/
  startAt : Time := 0
  relAt : Time := 0
  /-- The 200 µs of a test pulse are over (R305). -/
  pulseEnded : Bool := false
  /-- R303: an aborted pull-in is released in the next frame. -/
  releaseNext : Bool := false
  /-- The pull-in is a reflex (leak) pull-in (R292). -/
  reflex : Bool := false
  current : Nat := 0
  runMax : Nat := 0
  peakSeen : Bool := false
  dipFound : Bool := false
  /-- The pull-in has been judged at DIP_END or is not to be judged (R287). -/
  judged : Bool := true
  tripped : Bool := false
  leakHeld : Bool := false
  /-- OPEN_LOAD detected since the pull-in (R507). -/
  openSince : Bool := false
  /-- TTP_TIMEOUT has been judged for this pull-in (R286). -/
  ttpDone : Bool := false
  /-- Whether a DEFERRED pull-in waits for budget or for duty (R39, R290). -/
  waitBudget : Bool := false
  waitDuty : Bool := false
  /-- R291, R39: the pull-in that waits has set DUTY_LIMIT, and FIELD_LIMIT. -/
  toldDuty : Bool := false
  toldBudget : Bool := false
  /-- R290: charges in the duty account with their start times [0.01 A²s]. -/
  charges : List (Time × Nat) := []
  cmd : Option ChanCmd := none
  /-- R303: what completed in the current frame: tag and action. -/
  doneFrame : Option (Time × BitVec 16 × Nat) := none
  /-- R306: start frame of a granted Relief test window; R275: the last stage test of the channel. -/
  window : Option Time := none
  testedAt : Time := 0
  cardReset : Bool := false
deriving DecidableEq, Repr

/-- Table 11-6: motor channel states. -/
inductive MotState | stopped | kick | ramp | running | backoff | faulted
deriving DecidableEq, Repr

/-- A motor channel (class 0x2). Commands in 1/1 000 000 of 0.1 %. -/
structure Motor where
  st : MotState := .stopped
  enteredAt : Time := 0
  target : Nat := 0
  command : Int := 0
  /-- SPEED of the command in progress [0.1 %], and whether it has acted. -/
  reqSpeed : Nat := 0
  started : Bool := false
  rpm : Nat := 0
  /-- R318: the periods of the last 8 tachometer pulses [ns], newest first, and the last pulse. -/
  periods : List Nat := []
  lastPulse : Time := 0
  /-- R322: an aborted RUN is stopped in the next frame. -/
  stopNext : Bool := false
  failures : Nat := 0
  /-- FAULT input open since, speed below TACH_LIMIT since, RUNNING without a failure since. -/
  faultSince : Option Time := none
  lowSince : Option Time := none
  runSince : Option Time := none
  tachCount : Nat := 0
  position : Int := 0
  indexes : Nat := 0
  refValid : Bool := false
  slipRun : Nat := 0
  encFault : Bool := false
  cmd : Option ChanCmd := none
  doneFrame : Option (Time × BitVec 16 × Nat) := none
  cardReset : Bool := false
deriving DecidableEq, Repr

/-- A sense input (class 0x3, instances 0 to 63). -/
structure Sense where
  value : Int := 0
  stale : Bool := true
  fault : Bool := false
  /-- 0 DRY, 1 WET, 2 BREAK. -/
  cable : Nat := 0
  sampledAt : Time := 0
  /-- R325: the previous cable reading was wet, and when. -/
  wetAt : Option Time := none
  lastCal : Time := 0
  calQueued : Option Time := none
  calStart : Option Time := none
  cardReset : Bool := false
deriving DecidableEq, Repr

/-- A pulse input (class 0x3, instances 64 to 79). -/
structure Pulse where
  count : Nat := 0
  flow : Nat := 0
  lastPulse : Time := 0
deriving DecidableEq, Repr

/-- An analog output (class 0x4) [0.01 % of span]. -/
structure Analog where
  demand : Nat := 0
  readback : Nat := 0
  lowSince : Option Time := none
  openLoop : Bool := false
  overload : Bool := false
deriving DecidableEq, Repr

/-- An AUX pin (class 0xE). -/
structure Aux where
  func : Nat := 0
  outLevel : Bool := false
  level : Bool := false
  /-- R330: t_w and the new function. -/
  switching : Option (Time × Nat × Bool) := none
  capture : Nat := 0
  captureUnread : Bool := false
  count : Nat := 0
  lastPps : Time := 0
deriving DecidableEq, Repr

/-- CARD_STATE.STATE (Table 11-18). -/
inductive CardSt | absent | enumerating | active | mismatch | gated | faulted
deriving DecidableEq, Repr

/-- A card slot (Table 11-18). -/
structure Card where
  st : CardSt := .absent
  type : Nat := 0
  hwRev : Nat := 0
  fwVer : Nat := 0
  serial : BitVec 32 := 0
  reason : Nat := 0
  /-- HOLD of the downlink segment (R311), and the card in HOLD (R297). -/
  hold : Bool := true
  cardHold : Bool := true
  /-- Consecutive discarded uplinks (R312). -/
  missedRun : Nat := 0
  seenAt : Time := 0
  /-- End of the last valid frame from the card bus master (R297). -/
  lastFrame : Time := 0
  /-- R469: the card runs the image the module wrote last, and the enumerations tried on it since it restarted. -/
  newFw : Bool := false
  attempts : Nat := 0
  /-- R314: halves of the descriptor read since presence was seen; 3 once R315 is checked. -/
  descReads : Nat := 0
  /-- R311: the segment of the frame failed its CRC-16: no frame for the card. -/
  segBad : Bool := false
deriving DecidableEq, Repr

/-- R313: what a service window is used for: a half of the descriptor, one of the 16 parts of a card's channel configuration, the
configuration of one channel unit, the calibration table of a sense input, a 128-byte piece of card firmware. -/
inductive SvcUse | descriptor (half : Nat) | config (part : Nat) | channel (unit : Nat) | calibration (input : Nat) | firmware (piece : Nat)
deriving DecidableEq, Repr

/-- R313: a request for a service window of one card, from Deck or from Preman. -/
structure SvcReq where
  card : Nat
  use : SvcUse
  deck : Bool := false
deriving DecidableEq, Repr

/-- R313: the requests for service windows, in order of arrival, and the write of the last window, with its data, whose
acknowledgement is due. -/
structure SvcWindow where
  queue : List SvcReq := []
  sent : Option (SvcReq × List Nat) := none
deriving DecidableEq, Repr

/-! ### Engine -/

/-- Table 7-11: sequencer states. -/
inductive SeqSt | empty | loading | loaded | starting | running | restoring | faulted
deriving DecidableEq, Repr

/-- Table 3-6: what staging decides in a leg (R67). -/
inductive Staging | up | down | rotate | swap
deriving DecidableEq, Repr

/-- Table 7-3: what the module keeps of a leg. -/
structure LegRec where
  leg : Nat
  start : Time
  variant : Nat
  rotStep : Nat
  program : Nat
  restored : Bool := false
  rotLeg : Bool := false
  ckptLeg : Bool := false
  withheld : Bool := false
  committed : Bool := false
  checksOk : Bool := false
  checksClosed : Bool := false
  tflags : BitVec 4 := 0
  cflags : BitVec 4 := 0
  vflags : BitVec 4 := 0
  nInexact : Nat := 0
  nSat : Nat := 0
  /-- FAIL bits of Table 7-3. -/
  fail : BitVec 6 := 0
  /-- The leg was discarded by a restore (Table 7-8): its record stays, and nothing of it is released. -/
  dropped : Bool := false
  /-- The input set of the leg: receptions with the times at which they completed (R190). -/
  inputs : List (Time × InputVal) := []
  /-- The weight streams of the leg, with the physical dies each goes to (R133). -/
  streams : List (StreamDesc × BitVec 16) := []
  /-- Transfers whose digest differs: the transfer, D_rx, and D_re once it has come (R226). -/
  disputes : List (Transfer × Nat × Option Nat) := []
  /-- Contribution records this module has sent, kept until the start of leg n + 2 (R225). -/
  retained : List Transfer := []
  /-- R181: the sticky vector flags of each cluster that has raised any. -/
  vClusters : IMap (BitVec 4) := []
  /-- Digest of the leg's output tensors (R232), and the Relief's, when it came in time (R233). -/
  digest : Nat := 0
  reliefDigest : Option Nat := none
  /-- What failed in the leg (Table 8-3): residue mismatches; contribution records by sender, with whether the residue was
  what differed; readouts; paths; a Dual mismatch. -/
  residueBad : List ClusterAt := []
  /-- Clusters with a residue mismatch inside a test slot (R230). -/
  slotResidues : List ClusterAt := []
  contribBad : List (ClusterAt × Bool) := []
  readoutBad : List ClusterAt := []
  parity : List Nat := []
  dualBad : Bool := false
  /-- Reciprocal rounds that ended in the leg's test slots (R237). -/
  rounds : List RoundResult := []
  /-- Committed tensors that carry SAT (R187). -/
  satTensors : List Nat := []
  /-- R202, R203: what a checkpoint leg has written: digest and ring positions. -/
  ckptDigest : Nat := 0
  ringPos : List Nat := []
  out : EngineOut := {}
  /-- R67: staging decided in the leg, which acts with its results. -/
  staging : List Staging := []
deriving DecidableEq, Repr

/-- Table 7-7: a checkpoint slot: 0 EMPTY, 1 WRITING, 2 CLOSED, 3 INVALID. -/
structure Ckpt where
  state : Nat := 0
  mirrorId : Nat := 0
  leg : Nat := 0
  start : Time := 0
  phase : Nat := 0
  variant : Nat := 0
  rotStep : Nat := 0
  /-- BODY_LEN, DIGEST, and the write position of each DRAM ring. -/
  bodyLen : Nat := 0
  digest : Nat := 0
  rings : List Nat := []
deriving DecidableEq, Repr

/-- The traverse sequencer (Table 7-13). -/
structure Seqr where
  st : SeqSt := .empty
  image : Option Image := none
  /-- Array clock in force: 0 750 MHz, 1 600 MHz, 2 375 MHz. -/
  clock : Nat := 0
  leg : Nat := 0
  /-- A leg has started since the load. -/
  anyLeg : Bool := false
  legStart : Time := 0
  phase : Nat := 0
  variant : Nat := 0
  rotStep : Nat := 0
  degraded : Bool := false
  routeSet : Nat := 0
  /-- Legs until the next checkpoint leg, and the leg from which the next rotation step is counted (R201). -/
  ckptIn : Nat := 0
  rotFrom : Nat := 0
  /-- Intervals accepted, acting from the next checkpoint and rotation leg (R222). -/
  ckptEvery : Nat := 100
  rotEvery : Nat := 1000
  slotA : Ckpt := {}
  slotB : Ckpt := {}
  /-- The slot written last: the slots take turns (R203). -/
  lastB : Bool := true
  /-- Records of legs n, n-1, n-2, newest first (R192). -/
  legs : List LegRec := []
  /-- R217: bank being loaded, time of acceptance and committed time; whose request it is. -/
  loading : Option (Nat × Time × Time) := none
  loadOrigin : Option Origin := none
  /-- R218: committed start, FROM, and whose request it is. -/
  starting : Option (Time × Nat × Option Origin) := none
  /-- R219: the traverse stops at the end of this leg. -/
  stopAt : Option Nat := none
  stopOrigin : Option Origin := none
  /-- R204: t_s of the restore in progress; weights reloaded [byte]; release legs discarded. -/
  restore : Option (Time × Nat) := none
  /-- R208: a requested placement change waits for the slot of a checkpoint leg above this one; it falls due once that slot is
  CLOSED; a declared failure asks for its change at the next leg boundary. -/
  placement : Option Nat := none
  placementDue : Bool := false
  placementNow : Bool := false
  /-- A rollback asked by a failed leg, at the start of this leg (R228). -/
  rollbackAt : Option Nat := none
  /-- R214, R216, R270: boundaries named by ordinal 0. -/
  hallStop : Option Nat := none
  hallRestore : Option (Nat × Nat) := none
  hallRoute : Option (Nat × Nat) := none
  /-- Legs of a restore counted as withheld, and consecutive withheld legs (R68). -/
  withheldRun : Nat := 0
  cleanRun : Nat := 0
  /-- The first leg that counts towards RETURN_LEGS (R53). -/
  cleanFrom : Nat := 0
  /-- ROUND counter (R238). -/
  round : Nat := 0
  /-- R190: receptions that no leg has taken yet, newest first, with the times at which they completed. -/
  inputs : List (Time × InputVal) := []
  /-- R215, R216: the hall's stop is one that leaves the sequencer FAULTED. -/
  hallFault : Bool := false
deriving DecidableEq, Repr

/-- DIE_STATE.STATE and what belongs to a die (Table 5-16). -/
structure Die where
  /-- 0 ACTIVE, 1 IDLE, 2 GATED, 3 RETIRED. -/
  st : Nat := 2
  power : Nat := 0
  junction : Int := 0
  /-- DIE_CTRL requests waiting for their boundary (R152). -/
  retireReq : Bool := false
  restoreReq : Bool := false
  /-- R129: a failure retires the die at the next leg boundary. -/
  failed : Bool := false
  /-- Times of uncorrectable errors in the last 72 h (R246). -/
  ueTimes : List Time := []
  /-- Die row and failed physical column of each spare in use (R128). -/
  spares : List (Nat × Nat) := []
  /-- Remaps waiting for the checkpoint boundary. -/
  sparesNext : List (Nat × Nat) := []
deriving DecidableEq, Repr

/-- Table 8-6: a cluster. -/
structure Cluster where
  /-- 0 HEALTHY, 1 SUSPECT, 2 FAILED. -/
  st : Nat := 0
  overdueSince : Option Time := none
  /-- Times of residue mismatches (24 h) and of failures while SUSPECT (72 h). -/
  residues : List Time := []
  failTimes : List Time := []
  clean : Nat := 0
  lastRound : Time := 0
deriving DecidableEq, Repr

/-- The integrity program (Ch. 8). -/
structure Integ where
  reportSeq : Nat := 0
  lastReport : Time := 0
  /-- Counts from power-up (Table 8-12), saturating. -/
  residue : Nat := 0
  checkCorrupt : Nat := 0
  dataCorrupt : Nat := 0
  rtFail : Nat := 0
  compare : Nat := 0
  resets : Nat := 0
  /-- Event reports sent in the current second (R249). -/
  reportsInSecond : Nat := 0
  secondAt : Time := 0
  /-- R243: active datum set; a set in push: version, next chunk, count, bytes, time of the first; a pending set. -/
  datumVer : Nat := 0
  push : Option (Nat × Nat × Nat × Nat × Time) := none
  datumNext : Option (Nat × Time) := none
  datumOrigin : Option Origin := none
  /-- Inactive MRAM slot holds the pending set (R245). -/
  datumSlot : Nat := 0
  /-- R242: a margin test runs since; last one ended. -/
  margin : Bool := false
  lastMargin : Time := 0
  /-- R234: times of unresolved mismatches. -/
  unresolved : List Time := []
  /-- R246, R247: a package reset is in progress since t_u. -/
  resetAt : Option Time := none
  /-- DUAL asked for and in force (R251). -/
  dual : Bool := false
  /-- R234: the Relief's whole-array sweep runs. -/
  sweep : Bool := false
  /-- Test periods count from here: the start of the traverse, or of the program (R239). -/
  since : Time := 0
deriving DecidableEq, Repr

/-- A copy waiting or running (R139 to R147). -/
structure Copy where
  desc : CopyDesc
  ring : Nat
  running : Bool := false
deriving DecidableEq, Repr

/-- A finished copy as written back (Table 5-11): ring (3 for a scheduled copy), TAG, STATUS, BYTES_DONE, DIGEST_OUT. -/
structure CopyEnd where
  ring : Nat
  tag : BitVec 16
  status : Status
  bytes : Nat
  digest : Nat
  at_ : Time
deriving DecidableEq, Repr

/-- The copy engines (Table 5-10, Table 5-23). -/
structure Copies where
  /-- Copies of rings 0 to 2 in ring order, the running one first. -/
  ring0 : List Copy := []
  ring1 : List Copy := []
  ring2 : List Copy := []
  /-- HEAD and TAIL indices. -/
  head0 : Nat := 0
  head1 : Nat := 0
  head2 : Nat := 0
  tail0 : Nat := 0
  tail1 : Nat := 0
  tail2 : Nat := 0
  /-- CE_STATUS.BUSY. -/
  busy : BitVec 8 := 0
  /-- R144: incoming peer requests waiting at CE6: ordinal and bytes. -/
  incoming : List (Nat × Nat) := []
  /-- R139: the ring CE7 served last. -/
  lastRing : Nat := 2
  /-- R142: the scheduled copies of the leg that have not ended: engine, descriptor, and when it is issued. -/
  sched : List (Nat × CopyDesc × Time) := []
  ended : List CopyEnd := []
  /-- R145: ABORTs that wait for the arbitration point of their frame: ring and TAG. -/
  aborts : List (Hdr × Nat × BitVec 16) := []
deriving DecidableEq, Repr

/-! ### Pair -/

/-- A planned handover (Table 9-7). -/
structure Handover where
  acceptedAt : Time
  /-- t_h and the number of leg h. -/
  th : Time
  leg : Nat
  ready : Bool := false
  released : Bool := false
  /-- Step 6: the partner holds LAMP; step 8 makes this module its Relief. -/
  yielded : Bool := false
  origin : Option Origin := none
deriving DecidableEq, Repr

/-- The module as one of a pair (Ch. 9). -/
structure Pair where
  role : Role := .undecided
  /-- Role a BARRED module returns to (R262). -/
  barredFrom : Role := .reliefResync
  slot : SlotId := .a
  harnessClosed : Bool := true
  lampOwn : Bool := false
  /-- The other LAMP line as filtered, and when it was released. -/
  lampOther : Bool := false
  otherReleasedAt : Time := 0
  lampSince : Time := 0
  /-- R258: the stage latch. -/
  stages : Bool := false
  /-- R256: own Flash: last emission, sequence, and the conditions. -/
  lastFlash : Time := 0
  flashSeq : Nat := 0
  flashOk : Bool := true
  /-- Last partner Flash on the pair and on the service channel. -/
  flashPairAt : Option Time := none
  flashChainAt : Option Time := none
  missCounted : Bool := false
  /-- The partner's role and mode from its Flash. -/
  partnerRole : Role := .undecided
  /-- R259: a complete forwarded output frame was loaded, and the last one's time. -/
  outputLoaded : Bool := false
  outputAt : Option Time := none
  /-- R269: LOOP_SP_ACTIVE of loops 0 and 1 in the last forwarded output frame. -/
  fwdSp0 : Int := 0
  fwdSp1 : Int := 0
  /-- Hold registers: the last forwarded values (Table 9-8). -/
  holdRegs : List CardChannel := []
  /-- R116, R289: the pull-ins of the last forwarded output frame. -/
  holdValves : List ValveCopy := []
  health : Option (HealthReport × Time) := none
  wasHealthy : Bool := false
  lastReportAt : Time := 0
  reportSeq : Nat := 0
  legsCompared : Nat := 0
  legsMismatch : Nat := 0
  legsLate : Nat := 0
  stagesTested : Nat := 0
  stagesFailed : Nat := 0
  handover : Option Handover := none
  /-- Table 9-7 on the Relief: leg h and t_h as the Keeper named them, and whether READY was answered; the claim of a planned handover
  whose first frame has not completed (step 8). -/
  offer : Option (Nat × Time × Bool) := none
  arriving : Bool := false
  /-- R204: the leg at whose boundary the Keeper restores. -/
  restoreAt : Option Nat := none
  /-- R266: mirror-compatible IDs of the running Preman and Deck, and the partner's pair ID. -/
  premanCompat : Nat := 0
  deckCompat : Nat := 0
  partnerId : Option Nat := none
  idMatch : Bool := false
  resync : ResyncPhase := .idle
  resyncPct : Nat := 0
  joinReady : Bool := false
  joinAt : Option Nat := none
  /-- Checkpoint received in phase 4: its leg. -/
  joinLeg : Option Nat := none
  /-- R93: grants outstanding at a claim are resent by then. -/
  claimedAt : Option Time := none
  /-- R270: legs run outside the hall count until realigned. -/
  misaligned : Bool := false
  /-- R306: the Relief's own request for a window. -/
  testAsked : Option Nat := none
  /-- R268: own legs start this long after the Keeper's. -/
  lateBy : Nat := 0
  /-- The leg in progress of the Keeper, from its Flash, and bytes copied in phases 2 to 4 of a resync. -/
  partnerLeg : Nat := 0
  copied : Nat := 0
  /-- R265: a handover the Keeper asks for by itself waits. -/
  selfHandover : Bool := false
  /-- R247: t_u of a Keeper that releases LAMP in the next card-bus frame. -/
  dropLamp : Option Time := none
deriving DecidableEq, Repr

/-! ### Links and hall -/

/-- Table 12-3: link states. -/
inductive LinkSt | disabled | down | training | aligning | up | backoff
deriving DecidableEq, Repr

/-- A reliable service message that waits for its ACK_SEQ (R358). -/
structure Unacked where
  type : Nat
  seq : Nat
  msgId : Nat
  dst : Nat
  payload : List Nat
  sentAt : Time
  resends : Nat := 0
deriving DecidableEq, Repr

/-- A Chain link (class 0x6). -/
structure Link where
  st : LinkSt := .down
  /-- t_d, or the time of the last entry. -/
  since : Time := 0
  peerLocked : Bool := false
  peerOrd : Nat := 0
  peerLink : Nat := 0
  peerSlot : SlotId := .a
  peerDepth : Nat := 15
  mismatch : Bool := false
  /-- R343: the largest delay measured [PLL-A cycles], and PAD. -/
  delay : Option Nat := none
  pad : Nat := 0
  ser : Nat := 0
  /-- Times of failed blocks (1 ms) and of LATE blocks (1 s). -/
  badTimes : List Time := []
  lateTimes : List Time := []
  failures : Nat := 0
  upSince : Time := 0
  cableKind : Nat := 0
  cableLen : Nat := 0
  cablePower : Nat := 0
  /-- Service channel: sequences and unacknowledged messages (R356 to R358). -/
  txSeq : Nat := 0
  rxSeq : Nat := 0
  ackDue : Option Time := none
  unacked : List Unacked := []
  seenIds : List (Nat × Nat) := []
  credits : Nat := 0
  /-- R338: HALL_COUNT of the newest block received, and the own count at its arrival. -/
  heard : Option (Nat × Nat) := none
  /-- R355: the bytes of the message whose fragments arrive. -/
  partial_ : List Nat := []
deriving DecidableEq, Repr

/-- R360: a bulk session with a peer. -/
structure Bulk where
  ord : Nat
  session : BitVec 16
  bytes : Nat
  done : Nat := 0
  /-- This module opened it. -/
  opener : Bool
  /-- The peer has answered OK. -/
  open_ : Bool
deriving DecidableEq, Repr

/-- Hall reference and hall count (Table 12-12). -/
structure Hall where
  depth : Nat := 15
  refLink : Option Nat := none
  locked : Bool := false
  /-- HALL_COUNT − 3 × module time, in PLL-A cycles; 0 at a root (R347). -/
  offset : Int := 0
  counted : Bool := false
  lostAt : Option Time := none
  running : Bool := false
  /-- Links reported down to ordinal 0: ordinal and link (R353). -/
  downLinks : List (Nat × Nat) := []
  bulks : List Bulk := []
  /-- MSG_ID of the next message. -/
  msgId : Nat := 0
deriving DecidableEq, Repr

/-! ### Buoyline -/

/-- BL_STATUS.STATE (Table 13-7). -/
inductive BusSt | errorActive | errorPassive | busOff | offline
deriving DecidableEq, Repr

/-- A stored frame: the frame, its timestamp and the matching filter entry (Table 13-4). -/
structure CanRec where
  frame : CanFrame
  time : Time
  entry : Nat
deriving DecidableEq, Repr

/-- A Buoyline channel (class 0x5). -/
structure Bus where
  st : BusSt := .offline
  recovering : Bool := false
  tec : Nat := 0
  rec_ : Nat := 0
  tdcv : Nat := 0
  busOffTimes : List Time := []
  /-- Bus-off or OFFLINE since (R385). -/
  offSince : Option Time := some 0
  /-- The channel stopped recovering by itself (R386). -/
  manualOnly : Bool := false
  /-- Filter banks 0 and 1, and bank and count in force (R375 to R377). -/
  bank0 : List FilterEntry := []
  bank1 : List FilterEntry := []
  bank : Bool := false
  count : Nat := 0
  /-- R377: the newest switch, with the bank and count that a frame already in progress is filtered by. -/
  swap : Option (Time × Bool × Nat) := none
  /-- Receive buffers and their shadows (R379, R380). -/
  rx : IMap (Option CanRec) := []
  shadow : IMap (Option CanRec) := []
  /-- Transmit buffers with their failed attempts (R382, R383). -/
  tx : IMap (Option CanFrame) := []
  pend : BitVec 32 := 0
  tries : IMap Nat := []
  cancelled : BitVec 32 := 0
  /-- The buffer on the bus. -/
  onBus : Option Nat := none
deriving DecidableEq, Repr

/-! ### Logbook -/

/-- A Logbook record (Table 17-1) and where it lies in the ring. -/
structure LogRec where
  seq : BitVec 32
  type : Nat
  mirrored : Bool := false
  length : Nat
  time : Time
  pos : Nat
  body : LogBody
deriving DecidableEq, Repr

/-- An ACTION_AFTER record that falls due (R475). -/
structure AfterDue where
  due : Time
  seq : BitVec 32
  body : ActionBody
deriving DecidableEq, Repr

/-- The Logbook (class 0xB). -/
structure Logbook where
  ring : List LogRec := []
  nextSeq : BitVec 32 := 1
  nextPos : Nat := 0
  used : Nat := 0
  wrapped : Bool := false
  prevPresent : Bool := false
  prevLost : Bool := false
  prevFirst : BitVec 32 := 0
  prevLast : BitVec 32 := 0
  after : List AfterDue := []
  /-- Bytes waiting in the queues of Preman and Deck (R477). -/
  premanQ : Nat := 0
  deckQ : Nat := 0
  /-- Records dropped since the last GAP of each writer (R479). -/
  gapPreman : Nat := 0
  gapDeck : Nat := 0
  lastTrace : Time := 0
  /-- R486: the text lines that wait for AUX_14, oldest first, and how much of the first has been sent [bit × 10⁹]. -/
  txLines : List TxLine := []
  txSent : Nat := 0
deriving DecidableEq, Repr

/-! ### Power, clocks and firmware -/

/-- A valid last-light record as Table 15-2 gives it. -/
structure SavedRecord where
  mode : Mode
  forced : Bool
  isolated : BitVec 16
  commissioned : Bool
  envelope : Power
  /-- Caps, grant sequences, leak stages with their sequence data, and NO_ACK causes. -/
  racks : IMap Rack
  /-- The other Beacon causes. -/
  safetyAll : Bool
  tripActive : Bool
  spActive : List Int
  loopOut : List Int
  spBand : List Word
  outBand : List Word
  beaconManual : BitVec 16
  nextLogSeq : BitVec 32
  reportSeq : Nat
  duty : List (List (Time × Nat))
  pumpRun : List Nat
  sagAt : Time
  /-- The last valid checkpoint: leg, slot, MIRROR_ID and DIGEST. -/
  ckpt : Option (Nat × Nat × Nat × Nat)
  /-- Phase B was committed, with the saved tail of the Logbook, newest first (R481). -/
  phaseB : Bool
  tail : List LogRec
  consumed : Bool := false
deriving DecidableEq, Repr

/-- Power, start-up and last light (Ch. 15). -/
structure Power_ where
  /-- PWR_STATE.STEP: 0 unpowered, 1 to 7, 15 complete. -/
  step : Nat := 0
  /-- The combined bus reached 42.0 V at (step 1), step 2 started at. -/
  appliedAt : Option Time := none
  stepAt : Time := 0
  busOk : Bool := false
  /-- Bus below 40.0 V since (R423). -/
  sagSince : Option Time := none
  /-- 0 NOT_ARMED, 1 ARMED, 2 SAVING. -/
  llState : Nat := 0
  saveAt : Time := 0
  prevSaved : Bool := false
  prevLog : Bool := false
  bankV : Nat := 0
  /-- R428: the record of the newest save, the other of the two MRAM slots, and whether the newest lies in the second one. -/
  saved : Option SavedRecord := none
  older : Option SavedRecord := none
  slotB : Bool := false
  mainA : Bool := true
  mainB : Bool := true
  fieldA : Bool := true
  fieldB : Bool := true
  /-- ROM recovery (R454). -/
  recovery : Bool := false
  /-- R440: clocks on the backup oscillator. -/
  backup : Bool := false
  pllA : Bool := false
  steer : Int := 0
  marginClock : Bool := false
  /-- Closed gates (PWR_DOMAIN), and gates closing: domain code, t_g, by ejector. -/
  closed : List Nat := List.range 24
  closing : List (Nat × Time × Bool) := []
  /-- R437: rails on fault. -/
  failedRails : List Nat := []
  /-- PWR_LASTSAVE of the save under way or done, read from the record's header at the next boot. -/
  lastSave : Nat × Nat := (0, 0)
deriving DecidableEq, Repr

/-- PTP (R416, R417): 0 FREERUN, 1 LOCKING, 2 LOCKED, 3 HOLDOVER. -/
structure Ptp where
  st : Nat := 0
  port : InputId := .a
  gmClass : Nat := 0
  pathDelay : Nat := 0
  offset : Int := 0
  lastSync : Option Time := none
  goodSyncs : Nat := 0
  /-- R442: reference depth 0xF is reported before a time step since. -/
  stepSince : Option Time := none
deriving DecidableEq, Repr

/-- The fans and the thermal responses (R42). -/
structure Fans where
  failed : BitVec 6 := 0
  duty : Nat := 0
  /-- Tachometer of fan k below 30 % since. -/
  slowSince : IMap (Option Time) := []
  rpm : IMap Nat := []
  junction : Int := 0
  inlet : Int := 0
  gatedHot : Bool := false
deriving DecidableEq, Repr

/-- Table 16-5: bank states. -/
inductive BankSt | empty | downloading | unverified | verifying | verified | trial | active | rejected
deriving DecidableEq, Repr

/-- One flash bank of an image kind. -/
structure Bank where
  st : BankSt := .empty
  man : Option Manifest := none
deriving DecidableEq, Repr

/-- An update unit (class 0xC). -/
structure Upd where
  bankA : Bank := {}
  bankB : Bank := {}
  activeB : Bool := false
  trial : Bool := false
  bootsLeft : Nat := 0
  healthy : Nat := 0
  /-- Session that holds the download, next chunk (table?, index), next piece. -/
  owner : BitVec 16 := 0
  table : Bool := false
  nextChunk : Nat := 0
  nextPiece : Nat := 0
  /-- R463: verification accepted at, committed by, and whose it is. -/
  verify : Option (Time × Time × Origin) := none
  /-- R464: an activation runs until its committed time. -/
  activating : Option Time := none
  lastMinute : Time := 0
  /-- R467: the newest stage completion: the card-bus frame of its stamp, and 1 verification, 2 activation, 3 confirmation. -/
  stageDone : Option (Nat × Nat) := none
deriving DecidableEq, Repr

/-- Deck under Preman's watch (R451), and the fused counters (R455). -/
structure Firmware where
  /-- R456: CDI_P, and the Alias certificate Preman has issued. -/
  cdiP : BitVec 384 := 0
  aliasCert : Option AliasCert := none
  /-- R467: UPDATE_ABORTs that wait for the arbitration point of the frame. -/
  aborts : List Hdr := []
  deckUp : Bool := true
  lastBeat : Time := 0
  restarts : List Time := []
  deckStopped : Bool := false
  restartAt : Option Time := none
  counters : IMap Nat := []
deriving DecidableEq, Repr

/-! ### Benchmark unit -/

/-- A monthly record. -/
structure Month where
  energy : Nat := 0
  volume : Nat := 0
  time : Nat := 0
deriving DecidableEq, Repr

/-- One slot of the BMU-1 parameter journal (R503) and its CRC-16. -/
structure Params where
  /-- [0.1 L]. -/
  pulseValue : Nat := 1
  flowPos : Bool := false
  setDay : Nat := 1
  customer : Word := 0
  seq : Nat := 0
  crc : BitVec 16 := 0xC07E
deriving DecidableEq, Repr

/-- R491: one of the two copies of a legal register, as 32-bit words, with its CRC-16. No words: a register of zeros. -/
structure LegalCopy where
  words : List Nat := []
  crc : BitVec 16 := 0xFFFF
deriving DecidableEq, Repr

/-- The BMU-1 itself (Ch. 18). -/
structure Bmu where
  /-- Table 18-3, two copies each: 0 ENERGY [kWh], 1 VOLUME [0.01 m³], 2 ERR_HOURS, 3 OP_HOURS, 4 AUDIT, 5 to 16 MONTH_1 to MONTH_12
  (energy, volume, set time). -/
  legal : IMap (LegalCopy × LegalCopy) := []
  /-- R489: the residues below one step of ENERGY [nWh] and of VOLUME [0.1 L]. -/
  energyRes : Nat := 0
  volumeRes : Nat := 0
  /-- BMU_TIME [s] as it was at module time `clockAt`. -/
  clock : Nat := 0
  clockAt : Int := 0
  /-- Newest supply and return temperature [0.01 °C], flow [0.001 m³/h], power [0.1 kW], and the last flow pulse. -/
  tSupply : Int := 0
  tReturn : Int := 0
  flow : Nat := 0
  power : Nat := 0
  lastPulse : Option Time := none
  /-- The status word (Table 18-9). -/
  sensorFault : Bool := false
  dtLow : Bool := false
  dtRange : Bool := false
  flowHigh : Bool := false
  recordFault : Bool := false
  repaired : Bool := false
  paramFault : Bool := false
  cellLow : Bool := false
  accessOpened : Bool := false
  cellPower : Bool := false
  /-- R496: the 12 V aux supply. -/
  aux : Bool := true
  /-- R493: the cover, the time it was last opened [s], and whether a verifier has written since. -/
  coverOpen : Bool := false
  openedAt : Nat := 0
  verified : Bool := false
  /-- The last set day stored: the BMU-1 time of its 00:00 (R504). -/
  storedTo : Nat := 0
  /-- R503: the two slots, and the commit byte that names the active one. -/
  slot0 : Params := {}
  slot1 : Params := {}
  active1 : Bool := false
  /-- R495: display page 1 to 5, whether it is on, and the last press. -/
  page : Nat := 1
  displayOn : Bool := true
  pressedAt : Time := 0
  /-- R499: SEQ of the next frame, the month it carries (0 for MONTH_1), and the last frame sent. -/
  frameSeq : BitVec 16 := 0
  monthRot : Nat := 0
  sentAt : Option Time := none
  /-- R502: nonce of an AUTH that waits for its AUTH_RESP; session open since. -/
  nonce : Option (BitVec 64) := none
  session : Option Time := none
deriving DecidableEq, Repr

/-- The module's copy of the BMU-1 registers (class 0xD, Table 18-8). -/
structure Mirror where
  present : Bool := false
  seq : BitVec 16 := 0
  rxAt : Time := 0
  stale : Bool := true
  /-- Integers of the newest good frame (Table 18-5). -/
  time : Nat := 0
  energy : Nat := 0
  volume : Nat := 0
  tSupply : Nat := 0
  tReturn : Nat := 0
  flow : Nat := 0
  power : Nat := 0
  status : Nat := 0
  audit : Nat := 0
  errHours : Nat := 0
  legalVer : Nat := 0
  checksum : Nat := 0
  months : IMap Month := []
deriving DecidableEq, Repr

/-! ### The machine -/

/-- Mode, loops and the plant's measured values (Ch. 3). -/
structure Plant where
  mode : Mode := .off
  prevMode : Mode := .off
  commissioned : Bool := false
  fbLoops : Bool := false
  engineOk : Bool := false
  forced : Bool := false
  isolated : BitVec 16 := 0
  /-- A return to RUN armed by MODE_SET (R53). -/
  armed : Bool := false
  /-- R52: what waits for the frame boundary: the loss of the engine (an engine fault, or 20 withheld legs), the return of the
  loops to the engine, and the MODE_SETs of the frame in their order with the code each names. -/
  fall : Option Bool := none
  rejoin : Bool := false
  modeAsks : List (Hdr × Nat) := []
  /-- R117: releases of racks that wait in the same way. -/
  releaseAsks : List (Hdr × Word) := []
  /-- R109: the leak probability of each rack from the newest committed leg [0.1 %]. -/
  leakProb : IMap Nat := []
  /-- The first and next tick of the fallback PI loops (R69). -/
  nextTick : Time := 0
  loops : IMap Loop := []
  pumps : IMap Pump := []
  rows : IMap RowState := []
  /-- Secondary supply pressure and ΔP [mbar], supply and secondary return temperature [0.01 °C]. -/
  supplyP : Reading := {}
  dp : Reading := {}
  supplyT : Reading := {}
  returnT : Reading := {}
  /-- R109: reservoir levels of the last 60 s, newest first [0.01 %], with their times. -/
  levels : List (Time × Nat) := []
  rowSuspect : Bool := false
  /-- R61: common speed ≥ 90 % since, ≤ 40 % since, module run time since the last rotation [ns], rotation under way. -/
  fastSince : Option Time := none
  slowSince : Option Time := none
  rotRun : Nat := 0
  rotating : Option Nat := none
  /-- Sense inputs assigned to the process values: supply header, return header, supply temperature, secondary
  return temperature (R508 item 4); none: not assigned. -/
  pvInputs : List (Option (Fin 64)) := [some 0, some 1, some 2, some 3]
  /-- R14: the sector of each rack; the number of sectors. -/
  sectorOf : IMap Nat := []
  sectors : Nat := 8
  /-- R18, R508 item 6: the client identity bound to each rack; 0: none. -/
  rackIdentity : IMap Nat := []
  /-- R19: the nodes whose traffic is assigned to Buoyline channel 5: racks 0 to 15, the drives 16. -/
  channelFive : BitVec 17 := 0
  /-- Bands accepted for the next boundary, in order of acceptance (R411). -/
  bandsNext : List (BandEntry × Option Origin) := []
  /-- CAP_CTRL, SIGHT_CTRL and LEAK_CTRL accepted, acting from the next leg boundary (R121). -/
  ctrlNext : List (Nat × Word) := []
  /-- R39: the channels whose pull-ins wait, in order of request. -/
  pullIns : List Nat := []
  raiseRate : Nat := 50
  horizon : Nat := 600
  depth : Nat := 120
  resRate : Nat := 50
  decay : Nat := 100
  /-- R119: outputs that conduct, and the SAFETY cause of every rack. -/
  beacons : BitVec 16 := 0
  /-- The causes of each Beacon as last recorded (R474). -/
  causes : IMap Nat := []
  safetyAll : Bool := false
deriving DecidableEq, Repr

/-- The cap broker (Ch. 4). -/
structure Broker where
  envelope : Power := 0
  racks : IMap Rack := []
  previews : List Preview := []
  /-- Preview IDs accepted since power-up (R107). -/
  everPreviews : List (BitVec 32) := []
  prov : List Provisional := []
  /-- RA_IDs whose components are removed at the next leg boundary, and whether they are notified (R104). -/
  revoke : List (BitVec 32 × Bool) := []
  /-- Sightings since power-up, and the run-ahead IDs of those not withdrawn (R100, R56). -/
  sightings : Nat := 0
  sighted : List (BitVec 32) := []
  /-- Decisions on caps of the frame in progress (R90). -/
  asks : List CapAsk := []
deriving DecidableEq, Repr

/-- VCP state (Ch. 14). -/
structure Vcp where
  assocs : List Assoc := []
  sessions : List Session := []
  accepted : List Accepted := []
  kept : List Kept := []
  /-- GRP_MAP: members of each class and group: key (class, group) to a bit set. -/
  groups : IMap Nat := []
  /-- R271: outcomes of inherited requests since the claim, by client identity. -/
  handed : List (Nat × Notify) := []
deriving DecidableEq, Repr

/-- The state of the module. -/
structure State where
  /-- Module time (R441) and the card-bus frame in progress (R310). -/
  now : Time := 0
  frame : Nat := 0
  /-- The model's own counter: each free value drawn advances it (log entry 3). No rule names it. -/
  free : Nat := 0
  /-- Registers with plain storage: key unit × 0x1000 + offset (R7, R419); resets by their tables. -/
  regs : IMap Word := []
  /-- What has left the module, newest first: the model's own record of its outputs. -/
  outbox : List Out := []
  vcp : Vcp := {}
  plant : Plant := {}
  broker : Broker := {}
  valves : IMap Valve := []
  motors : IMap Motor := []
  senses : IMap Sense := []
  pulses : IMap Pulse := []
  analogs : IMap Analog := []
  auxs : IMap Aux := []
  cards : IMap Card := []
  /-- The service window of the card bus (R313). -/
  service : SvcWindow := {}
  seqr : Seqr := {}
  dies : IMap Die := []
  clusters : IMap Cluster := []
  integ : Integ := {}
  copies : Copies := {}
  pair : Pair := {}
  links : IMap Link := []
  hall : Hall := {}
  buses : IMap Bus := []
  /-- R378: the input-frame log since the last card-bus frame, newest first: channel, record, and what a node or drive says in it. -/
  frameLog : List (Nat × CanRec × NodeReading) := []
  power : Power_ := {}
  ptp : Ptp := {}
  fans : Fans := {}
  upds : IMap Upd := []
  fw : Firmware := {}
  log : Logbook := {}
  bmu : Bmu := {}
  mirror : Mirror := {}
  /-- Commands that wait, first in, first out. -/
  pending : List Instr := []
deriving DecidableEq, Repr

/-- Table 2-3: what an LED of the front panel shows. -/
inductive Led | off | green | amber | red | blue | blinkGreen | blinkAmber | blinkRed
deriving DecidableEq, Repr

/-- Why a command stops the machine. The manual gives no command a machine stop: every request is answered
(R396, R445) and every event changes state, so there is no reason to name. -/
inductive Fault
deriving DecidableEq, Repr

/-- Why a command has no meaning. The manual gives every command of its table an effect, so there is no other reason. -/
inductive Refusal
  /-- No meaning written yet; raised by no meaning, only by an arm of exec. Safe. -/
  | notModelled (mnemonic : String)
deriving DecidableEq, Repr

/-- The module right after reset: unpowered, before power is applied (Table 15-4 counts from power applied), every
register at its table's reset value (an empty map) and every other field at the value its type gives. -/
def State.reset : State := {}

end Sys2Proof.Machine
end

