-- ==== Sys2Proof/Machine/Maps.lean ====
section
/-! DEFINITION. Sparse maps in one canonical form, and the bit-field helpers every register uses: fields listed from the
high bit down (00_scope.md, "Register access codes"), two's complement, saturation. -/

namespace Sys2Proof.Machine

/-! ### Maps -/

/-- The value at key `k`, the default `d` where the map lists none. -/
def mget {α : Type} (d : α) (m : IMap α) (k : Nat) : α :=
  match m with
  | [] => d
  | (k', v) :: t => if k' = k then v else mget d t k

/-- The map without key `k`. -/
def merase {α : Type} (m : IMap α) (k : Nat) : IMap α :=
  m.filter (fun p => p.1 ≠ k)

/-- The map with `(k, v)` put at its place. -/
def minsert {α : Type} (m : IMap α) (k : Nat) (v : α) : IMap α :=
  match m with
  | [] => [(k, v)]
  | (k', v') :: t => if k ≤ k' then (k, v) :: (k', v') :: t else (k', v') :: minsert t k v

/-- Writing `v` at `k`: the default removes the entry, so that equal maps are equal data. -/
def mset {α : Type} [DecidableEq α] (d : α) (m : IMap α) (k : Nat) (v : α) : IMap α :=
  if v = d then merase m k else minsert (merase m k) k v

/-- The canonical form: keys strictly rise. -/
def msorted {α : Type} (m : IMap α) : Bool :=
  match m with
  | [] => true
  | (k, _) :: t => (match t with | [] => true | (k', _) :: _ => decide (k < k')) && msorted t

/-! ### Bits of a register -/

/-- Bits [hi:lo] of a register as a number. -/
def fld (w : Word) (hi lo : Nat) : Nat := (w.toNat >>> lo) % 2 ^ (hi + 1 - lo)

/-- Bit `n` of a register. -/
def bitOf (w : Word) (n : Nat) : Bool := w.getLsbD n

/-- A Boolean as a bit. -/
def b2n (b : Bool) : Nat := if b then 1 else 0

/-- A register value from a number. -/
def wd (n : Nat) : Word := BitVec.ofNat 32 n

/-- `w` with bits [hi:lo] set to `v`. -/
def putFld (w : Word) (hi lo v : Nat) : Word :=
  let m : Word := wd ((2 ^ (hi + 1 - lo) - 1) * 2 ^ lo)
  (w &&& ~~~ m) ||| (wd (v * 2 ^ lo) &&& m)

/-- `w` with bit `n` set. -/
def orBit (w : Word) (n : Nat) : Word := w ||| wd (2 ^ n)

/-- `w` with bit `n` cleared. -/
def clrBit (w : Word) (n : Nat) : Word := w &&& ~~~ wd (2 ^ n)

/-- The signed value of the low `n` bits of `v` (two's complement). -/
def sgn (n v : Nat) : Int :=
  let x := v % 2 ^ n
  if 2 ^ (n - 1) ≤ x then (x : Int) - (2 ^ n : Nat) else x

/-- The two's complement code of `x` in `n` bits. -/
def tc (n : Nat) (x : Int) : Nat := (x % (2 ^ n : Nat)).toNat

/-- `x` held inside [lo, hi]. -/
def clampI (lo hi x : Int) : Int := if x < lo then lo else if hi < x then hi else x

/-- A signed value saturated into the two's complement code of `n` bits. -/
def tcSat (n : Nat) (x : Int) : Nat := tc n (clampI (-(2 ^ (n - 1) : Nat)) ((2 ^ (n - 1) : Nat) - 1) x)

/-- `n` saturated at `top`. -/
def sat (top n : Nat) : Nat := if top < n then top else n

/-- A number of bits set in `w` among its low `n`. -/
def popN (n : Nat) (w : Nat) : Nat :=
  match n with
  | 0 => 0
  | n + 1 => b2n (w.testBit n) + popN n w

/-- Whether any element of the list satisfies `p`, with its index. -/
def findIdxOpt {α : Type} (p : α → Bool) (l : List α) (i : Nat := 0) : Option Nat :=
  match l with
  | [] => none
  | a :: t => if p a then some i else findIdxOpt p t (i + 1)

/-- ⌈a / b⌉ for natural numbers. -/
def ceilDiv (a b : Nat) : Nat := (a + b - 1) / b

/-- The elements 0 to n − 1 in rising order. -/
def upTo (n : Nat) : List Nat := List.range n

/-- The last element of a list, if any. -/
def lastOpt {α : Type} (l : List α) : Option α :=
  match l with
  | [] => none
  | [a] => some a
  | _ :: t => lastOpt t

end Sys2Proof.Machine
end

