-- ==== Sys2Proof/Machine/Regs.lean ====
section
/-! DEFINITION. The registers: for each kind of unit the offset, access code, reserved bits and reset value of every
register, as the chapters' register maps and field tables give them (R7, R8, R419 to R421), and the functions that find
a register by unit and offset. Reset values that differ by instance are in `resetVal`. -/

namespace Sys2Proof.Machine

/-- Table 0-5: access codes. -/
inductive Access | ro | rw | w1c | wo | rc
deriving DecidableEq, Repr

/-- One row of a register map: `count` registers from `off` on, `stride` bytes apart. -/
structure RegRow where
  off : Nat
  stride : Nat
  count : Nat
  acc : Access
  /-- Reserved bits (R8). -/
  reserved : Word
  reset : Word
deriving DecidableEq, Repr

/-! ### Offsets -/


/-! Table 2-11, registers of the system unit. -/

abbrev Off.hwMainV : Nat := 0x100
abbrev Off.hwFieldV : Nat := 0x104
abbrev Off.hwFieldI : Nat := 0x108
abbrev Off.hwFieldBudget : Nat := 0x10C
abbrev Off.hwFan : Nat := 0x110
abbrev Off.hwFanSpeed : Nat := 0x114
abbrev Off.hwTemp : Nat := 0x12C
abbrev Off.hwEvents : Nat := 0x130
abbrev Off.hwPanel : Nat := 0x134

/-! Table 3-11, registers of the system unit. -/

abbrev Off.sysMode : Nat := 0x200
abbrev Off.sysModeCtrl : Nat := 0x204
abbrev Off.sysModeEvents : Nat := 0x208
abbrev Off.sysPressureLimit : Nat := 0x20C

/-! Table 3-16, registers of a plant loop. -/

abbrev Off.loopCtrl : Nat := 0x000
abbrev Off.loopSp : Nat := 0x004
abbrev Off.loopSpActive : Nat := 0x008
abbrev Off.loopPv : Nat := 0x00C
abbrev Off.loopOut : Nat := 0x010
abbrev Off.loopSpBand : Nat := 0x014
abbrev Off.loopOutBand : Nat := 0x018
abbrev Off.loopState : Nat := 0x01C
abbrev Off.loopEvents : Nat := 0x020
abbrev Off.loopFbGain : Nat := 0x024
abbrev Off.loopSafe : Nat := 0x028
abbrev Off.loopPumpTrip : Nat := 0x02C
abbrev Off.loopPumpRestore : Nat := 0x030
abbrev Off.loopRack : Nat := 0x040

/-! Table 4-11, registers of a Beacon output. -/

abbrev Off.beaconState : Nat := 0x000
abbrev Off.beaconCtrl : Nat := 0x004

/-! Table 4-14, registers of the cap broker. -/

abbrev Off.capCtrl : Nat := 0x000
abbrev Off.capEnvelope : Nat := 0x004
abbrev Off.capSum : Nat := 0x008
abbrev Off.capEvents : Nat := 0x00C
abbrev Off.sightCtrl : Nat := 0x010
abbrev Off.raStatus : Nat := 0x014
abbrev Off.leakRelease : Nat := 0x018
abbrev Off.leakCtrl : Nat := 0x01C
abbrev Off.capRackCfg : Nat := 0x100
abbrev Off.capRackCap : Nat := 0x104
abbrev Off.capRackGrant : Nat := 0x108
abbrev Off.capRackState : Nat := 0x10C
abbrev Off.capRackLeakMap : Nat := 0x110
abbrev Off.capRackFlow : Nat := 0x114

/-! Table 5-16, registers of an engine die. -/

abbrev Off.dieInfo : Nat := 0x000
abbrev Off.dieState : Nat := 0x004
abbrev Off.dieSpare : Nat := 0x008
abbrev Off.diePowerTemp : Nat := 0x018
abbrev Off.dieEcc : Nat := 0x01C
abbrev Off.dieCtrl : Nat := 0x020

/-! Table 5-23, registers of the hub die, beside those of a die. -/

abbrev Off.ceStatus : Nat := 0x100
abbrev Off.ceEvents : Nat := 0x104
abbrev Off.ceRingBase : Nat := 0x110
abbrev Off.ceRingCtrl : Nat := 0x114
abbrev Off.ceRingHead : Nat := 0x118
abbrev Off.ceRingTail : Nat := 0x11C
abbrev Off.ceMerge : Nat := 0x140

/-! Table 7-13, registers of the hub die, beside those of a die. -/

abbrev Off.trvState : Nat := 0x200
abbrev Off.trvCtrl : Nat := 0x204
abbrev Off.trvLegLo : Nat := 0x208
abbrev Off.trvLegHi : Nat := 0x20C
abbrev Off.trvCkptLo : Nat := 0x210
abbrev Off.trvCkptHi : Nat := 0x214
abbrev Off.trvImage : Nat := 0x218
abbrev Off.trvMirrorLo : Nat := 0x21C
abbrev Off.trvMirrorHi : Nat := 0x220
abbrev Off.trvGeometry : Nat := 0x224
abbrev Off.trvEvents : Nat := 0x228
abbrev Off.trvFlagCount : Nat := 0x22C
abbrev Off.trvWithheld : Nat := 0x230

/-! Table 8-13, registers of the hub die, beside those of a die. -/

abbrev Off.intCtrl : Nat := 0x300
abbrev Off.intStatus : Nat := 0x304
abbrev Off.intEvents : Nat := 0x308
abbrev Off.intCountA : Nat := 0x30C
abbrev Off.intCountB : Nat := 0x310
abbrev Off.intClSel : Nat := 0x314
abbrev Off.intClState : Nat := 0x318
abbrev Off.intDatum : Nat := 0x31C
abbrev Off.intMargin : Nat := 0x320

/-! Table 9-13, registers of the system unit. -/

abbrev Off.pairState : Nat := 0x300
abbrev Off.pairCtrl : Nat := 0x304
abbrev Off.pairEvents : Nat := 0x308
abbrev Off.pairHealth : Nat := 0x30C
abbrev Off.pairCount : Nat := 0x310

/-! Table 10-5, registers of a valve channel. -/

abbrev Off.vlvPeak : Nat := 0x000
abbrev Off.vlvHold : Nat := 0x004
abbrev Off.vlvTtp : Nat := 0x008
abbrev Off.vlvDipWin : Nat := 0x00C
abbrev Off.vlvTestDip : Nat := 0x010
abbrev Off.vlvDuty : Nat := 0x014
abbrev Off.vlvRole : Nat := 0x018
abbrev Off.vlvCmd : Nat := 0x01C
abbrev Off.vlvStatus : Nat := 0x020
abbrev Off.vlvEvents : Nat := 0x024
abbrev Off.vlvLast : Nat := 0x028
abbrev Off.vlvDutyUsed : Nat := 0x02C
abbrev Off.vlvCount : Nat := 0x030

/-! Table 11-12, registers of a motor channel. -/

abbrev Off.motKick : Nat := 0x000
abbrev Off.motTach : Nat := 0x004
abbrev Off.motRestart : Nat := 0x008
abbrev Off.motRamp : Nat := 0x00C
abbrev Off.motEnc : Nat := 0x010
abbrev Off.motIo : Nat := 0x014
abbrev Off.motCmd : Nat := 0x018
abbrev Off.motStatus : Nat := 0x01C
abbrev Off.motSpeed : Nat := 0x020
abbrev Off.motEvents : Nat := 0x024
abbrev Off.motTachCount : Nat := 0x028
abbrev Off.motEncPos : Nat := 0x02C
abbrev Off.motEncCount : Nat := 0x030

/-! Table 11-14, registers of a sense input. -/

abbrev Off.snsCfg : Nat := 0x000
abbrev Off.snsScale : Nat := 0x004
abbrev Off.snsValue : Nat := 0x008
abbrev Off.snsEvents : Nat := 0x00C
abbrev Off.snsCal : Nat := 0x010
abbrev Off.snsCalResult : Nat := 0x014
abbrev Off.snsPartner : Nat := 0x018

/-! Table 11-15, registers of a pulse input. -/

abbrev Off.plsCfg : Nat := 0x000
abbrev Off.plsCount : Nat := 0x004
abbrev Off.plsFlow : Nat := 0x008
abbrev Off.plsEvents : Nat := 0x00C

/-! Table 11-16, registers of an analog output. -/

abbrev Off.aoCfg : Nat := 0x000
abbrev Off.aoOut : Nat := 0x004
abbrev Off.aoStatus : Nat := 0x008
abbrev Off.aoEvents : Nat := 0x00C

/-! Table 11-17, registers of an AUX pin. -/

abbrev Off.auxCfg : Nat := 0x000
abbrev Off.auxState : Nat := 0x004
abbrev Off.auxEvents : Nat := 0x008
abbrev Off.auxCaptureLo : Nat := 0x00C
abbrev Off.auxCaptureHi : Nat := 0x010
abbrev Off.auxCount : Nat := 0x014

/-! Table 11-18, registers of a card slot, in the system unit at 0x400 + 0x20 × (s − 1). -/

abbrev Off.cardDesc : Nat := 0x000
abbrev Off.cardSerial : Nat := 0x004
abbrev Off.cardState : Nat := 0x008
abbrev Off.cardErr : Nat := 0x00C
abbrev Off.cardExpect : Nat := 0x010

/-! Table 12-10, registers of a Chain link. -/

abbrev Off.linkState : Nat := 0x000
abbrev Off.linkLat : Nat := 0x004
abbrev Off.linkCw : Nat := 0x008
abbrev Off.linkBad : Nat := 0x00C
abbrev Off.linkSer : Nat := 0x010
abbrev Off.linkSvc : Nat := 0x014
abbrev Off.linkEvents : Nat := 0x018
abbrev Off.linkCtrl : Nat := 0x01C
abbrev Off.linkCable : Nat := 0x020

/-! Table 12-12, registers of the system unit. -/

abbrev Off.hallCfg : Nat := 0x600
abbrev Off.hallState : Nat := 0x604
abbrev Off.hallCountLo : Nat := 0x608
abbrev Off.hallCountHi : Nat := 0x60C
abbrev Off.hallEvents : Nat := 0x610

/-! Table 13-6, registers of a Buoyline channel. -/

abbrev Off.blCtrl : Nat := 0x000
abbrev Off.blNbt : Nat := 0x004
abbrev Off.blDbt : Nat := 0x008
abbrev Off.blTdc : Nat := 0x00C
abbrev Off.blFilter : Nat := 0x010
abbrev Off.blRecover : Nat := 0x014
abbrev Off.blStatus : Nat := 0x018
abbrev Off.blErr : Nat := 0x01C
abbrev Off.blEvents : Nat := 0x020
abbrev Off.blRxNewLo : Nat := 0x024
abbrev Off.blRxNewHi : Nat := 0x028
abbrev Off.blRxLockLo : Nat := 0x02C
abbrev Off.blRxLockHi : Nat := 0x030
abbrev Off.blTxReq : Nat := 0x034
abbrev Off.blTxCancel : Nat := 0x038
abbrev Off.blTxPend : Nat := 0x03C
abbrev Off.blTxDone : Nat := 0x040
abbrev Off.blTxFail : Nat := 0x044
abbrev Off.blFrames : Nat := 0x048
abbrev Off.blFaults : Nat := 0x04C

/-! Table 14-17, registers of the system unit. -/

abbrev Off.sysId : Nat := 0x000
abbrev Off.sysSerial : Nat := 0x004
abbrev Off.sysCapsLo : Nat := 0x008
abbrev Off.sysCapsHi : Nat := 0x00C
abbrev Off.sysTimeLo : Nat := 0x010
abbrev Off.sysTimeHi : Nat := 0x014
abbrev Off.vcpCtrl : Nat := 0x500
abbrev Off.vcpState : Nat := 0x504
abbrev Off.vcpEvents : Nat := 0x508
abbrev Off.vcpCount : Nat := 0x50C
abbrev Off.ptpCfg : Nat := 0x520
abbrev Off.ptpState : Nat := 0x524
abbrev Off.ptpOffset : Nat := 0x528
abbrev Off.grpSel : Nat := 0x540
abbrev Off.grpMap : Nat := 0x544

/-! Table 15-10, registers of the system unit. -/

abbrev Off.pwrState : Nat := 0x700
abbrev Off.pwrBank : Nat := 0x704
abbrev Off.pwrEvents : Nat := 0x708
abbrev Off.pwrLastsave : Nat := 0x70C
abbrev Off.pwrDomain : Nat := 0x710
abbrev Off.pwrXreset : Nat := 0x714
abbrev Off.clkState : Nat := 0x720

/-! Table 16-9, registers of an update unit. -/

abbrev Off.updState : Nat := 0x000
abbrev Off.updVerA : Nat := 0x004
abbrev Off.updVerB : Nat := 0x008
abbrev Off.updProgress : Nat := 0x00C
abbrev Off.updTrial : Nat := 0x010
abbrev Off.updCtrl : Nat := 0x014
abbrev Off.updEvents : Nat := 0x018
abbrev Off.updSecurity : Nat := 0x01C

/-! Table 17-6, registers of the Logbook. -/

abbrev Off.logOldest : Nat := 0x000
abbrev Off.logNewest : Nat := 0x004
abbrev Off.logOldestPos : Nat := 0x008
abbrev Off.logPrevFirst : Nat := 0x00C
abbrev Off.logPrevLast : Nat := 0x010
abbrev Off.logDrop : Nat := 0x014
abbrev Off.logEvents : Nat := 0x018
abbrev Off.logState : Nat := 0x01C

/-! Table 18-8, registers of the Benchmark mirror, unit 0xD000. -/

abbrev Off.bmuId : Nat := 0x000
abbrev Off.bmuEnergy : Nat := 0x004
abbrev Off.bmuVolume : Nat := 0x008
abbrev Off.bmuTemp : Nat := 0x00C
abbrev Off.bmuFlow : Nat := 0x010
abbrev Off.bmuPower : Nat := 0x014
abbrev Off.bmuStatus : Nat := 0x018
abbrev Off.bmuAudit : Nat := 0x01C
abbrev Off.bmuTime : Nat := 0x020
abbrev Off.bmuRxLo : Nat := 0x024
abbrev Off.bmuRxHi : Nat := 0x028
abbrev Off.bmuLink : Nat := 0x02C

/-! Table 18-10, registers of the monthly units 0xD001 to 0xD00C. -/

abbrev Off.bmuMEnergy : Nat := 0x000
abbrev Off.bmuMVolume : Nat := 0x004
abbrev Off.bmuMTime : Nat := 0x008

/-! ### Register maps -/

/-- Table 2-11 (R43): registers of the system unit. -/
def sysRegs2_11 : List RegRow := [
  ⟨Off.hwMainV, 4, 1, .ro, 0x00000000, 0x00000000⟩,
  ⟨Off.hwFieldV, 4, 1, .ro, 0x00000000, 0x00000000⟩,
  ⟨Off.hwFieldI, 4, 1, .ro, 0x00000000, 0x00000000⟩,
  ⟨Off.hwFieldBudget, 4, 1, .rw, 0xFFFF0000, 0x00000A28⟩,
  ⟨Off.hwFan, 4, 1, .ro, 0xFFFFC080, 0x00000000⟩,
  ⟨Off.hwFanSpeed, 4, 6, .ro, 0xFFFF0000, 0x00000000⟩,
  ⟨Off.hwTemp, 4, 1, .ro, 0x00000000, 0x00000000⟩,
  ⟨Off.hwEvents, 4, 1, .w1c, 0xFFFFFF00, 0x00000000⟩,
  ⟨Off.hwPanel, 4, 1, .rw, 0xFFFFFFFE, 0x00000000⟩]

/-- Table 3-11 (R72): registers of the system unit. -/
def sysRegs3_11 : List RegRow := [
  ⟨Off.sysMode, 4, 1, .ro, 0x0000F000, 0x00000000⟩,
  ⟨Off.sysModeCtrl, 4, 1, .rw, 0x0000FFFE, 0x03E80001⟩,
  ⟨Off.sysModeEvents, 4, 1, .w1c, 0xFFFFFFE0, 0x00000000⟩,
  ⟨Off.sysPressureLimit, 4, 1, .rw, 0x00000000, 0x1B581770⟩]

/-- Table 9-13 (R278): registers of the system unit. -/
def sysRegs9_13 : List RegRow := [
  ⟨Off.pairState, 4, 1, .ro, 0x00000F80, 0x00000000⟩,
  ⟨Off.pairCtrl, 4, 1, .rw, 0x0000FFF8, 0x0E100003⟩,
  ⟨Off.pairEvents, 4, 1, .w1c, 0xFFFFF800, 0x00000000⟩,
  ⟨Off.pairHealth, 4, 1, .ro, 0x000F0000, 0x0000FFFF⟩,
  ⟨Off.pairCount, 4, 1, .rc, 0x00000000, 0x00000000⟩]

/-- Table 12-12 (R365): registers of the system unit. -/
def sysRegs12_12 : List RegRow := [
  ⟨Off.hallCfg, 4, 1, .rw, 0xFFFFFEF0, 0x00000000⟩,
  ⟨Off.hallState, 4, 1, .ro, 0x00000FFF, 0xF0000000⟩,
  ⟨Off.hallCountLo, 4, 1, .ro, 0x00000000, 0x00000000⟩,
  ⟨Off.hallCountHi, 4, 1, .ro, 0x00000000, 0x00000000⟩,
  ⟨Off.hallEvents, 4, 1, .w1c, 0xFFFFFFC0, 0x00000000⟩]

/-- Table 14-17 (R422): registers of the system unit. -/
def sysRegs14_17 : List RegRow := [
  ⟨Off.sysId, 4, 1, .ro, 0x00000000, 0x00000000⟩,
  ⟨Off.sysSerial, 4, 1, .ro, 0x00000000, 0x00000000⟩,
  ⟨Off.sysCapsLo, 4, 1, .ro, 0x00000000, 0x000000FF⟩,
  ⟨Off.sysCapsHi, 4, 1, .ro, 0x00000000, 0x00000000⟩,
  ⟨Off.sysTimeLo, 4, 1, .ro, 0x00000000, 0x00000000⟩,
  ⟨Off.sysTimeHi, 4, 1, .ro, 0x00000000, 0x00000000⟩,
  ⟨Off.vcpCtrl, 4, 1, .rw, 0x0000FFFE, 0x001E0001⟩,
  ⟨Off.vcpState, 4, 1, .ro, 0x00003800, 0x00000000⟩,
  ⟨Off.vcpEvents, 4, 1, .w1c, 0xFFFFFFC0, 0x00000000⟩,
  ⟨Off.vcpCount, 4, 1, .rc, 0x00000000, 0x00000000⟩,
  ⟨Off.ptpCfg, 4, 1, .rw, 0xFFFF00F8, 0x00000003⟩,
  ⟨Off.ptpState, 4, 1, .ro, 0x07000000, 0x00000000⟩,
  ⟨Off.ptpOffset, 4, 1, .ro, 0x00000000, 0x00000000⟩,
  ⟨Off.grpSel, 4, 1, .rw, 0xFFFF0F00, 0x00000000⟩,
  ⟨Off.grpMap, 4, 4, .rw, 0x00000000, 0x00000000⟩]

/-- Table 15-10 (R448): registers of the system unit. -/
def sysRegs15_10 : List RegRow := [
  ⟨Off.pwrState, 4, 1, .ro, 0x00FF0000, 0x00000000⟩,
  ⟨Off.pwrBank, 4, 1, .ro, 0x00000000, 0x00000000⟩,
  ⟨Off.pwrEvents, 4, 1, .w1c, 0xFFFFFE00, 0x00000000⟩,
  ⟨Off.pwrLastsave, 4, 1, .ro, 0x00000000, 0x00000000⟩,
  ⟨Off.pwrDomain, 4, 1, .ro, 0x00000003, 0xFFFFFF00⟩,
  ⟨Off.pwrXreset, 4, 1, .rc, 0x00FF0000, 0x00000000⟩,
  ⟨Off.clkState, 4, 1, .ro, 0x00FF0000, 0x00000000⟩]

/-- Table 3-16 (R73): registers of a plant loop. -/
def loopRegs : List RegRow := [
  ⟨Off.loopCtrl, 4, 1, .rw, 0x000000FF, 0x00000000⟩,
  ⟨Off.loopSp, 4, 1, .rw, 0xFFFF0000, 0x00000000⟩,
  ⟨Off.loopSpActive, 4, 1, .ro, 0xFFFF0000, 0x00000000⟩,
  ⟨Off.loopPv, 4, 1, .ro, 0xFFFF0000, 0x00000000⟩,
  ⟨Off.loopOut, 4, 1, .rw, 0xFFFF0000, 0x00000000⟩,
  ⟨Off.loopSpBand, 4, 1, .rw, 0x00000000, 0x00000000⟩,
  ⟨Off.loopOutBand, 4, 1, .rw, 0x00000000, 0x00000000⟩,
  ⟨Off.loopState, 4, 1, .ro, 0xFFFFFFE0, 0x00000000⟩,
  ⟨Off.loopEvents, 4, 1, .w1c, 0xFFFFFFF8, 0x00000000⟩,
  ⟨Off.loopFbGain, 4, 1, .rw, 0x00000000, 0x00000000⟩,
  ⟨Off.loopSafe, 4, 1, .rw, 0x00000000, 0x00000000⟩,
  ⟨Off.loopPumpTrip, 4, 1, .ro, 0xFFFF0000, 0x00000000⟩,
  ⟨Off.loopPumpRestore, 4, 1, .wo, 0xFFFFFFF8, 0x00000000⟩,
  ⟨Off.loopRack, 4, 16, .ro, 0x00000000, 0x00000000⟩]

/-- Table 4-11 (R120): registers of a Beacon output. -/
def beaconRegs : List RegRow := [
  ⟨Off.beaconState, 4, 1, .ro, 0x7FFFFFE0, 0x00000000⟩,
  ⟨Off.beaconCtrl, 4, 1, .rw, 0xFFFFFFFE, 0x00000000⟩]

/-- Table 4-14 (R121): registers of the cap broker. -/
def capRegs : List RegRow := [
  ⟨Off.capCtrl, 4, 1, .rw, 0xFFFF00FF, 0x00003200⟩,
  ⟨Off.capEnvelope, 4, 1, .ro, 0x00000000, 0x00000000⟩,
  ⟨Off.capSum, 4, 1, .ro, 0x00000000, 0x00000000⟩,
  ⟨Off.capEvents, 4, 1, .w1c, 0xFFFFFFC0, 0x00000000⟩,
  ⟨Off.sightCtrl, 4, 1, .rw, 0x00000000, 0x02580078⟩,
  ⟨Off.raStatus, 4, 1, .ro, 0xFF800000, 0x00000000⟩,
  ⟨Off.leakRelease, 4, 1, .wo, 0xFFFFFFF0, 0x00000000⟩,
  ⟨Off.leakCtrl, 4, 1, .rw, 0x00000000, 0x00320064⟩,
  ⟨Off.capRackCfg, 32, 16, .rw, 0x00000000, 0x271003E8⟩,
  ⟨Off.capRackCap, 32, 16, .ro, 0x00000000, 0x00000000⟩,
  ⟨Off.capRackGrant, 32, 16, .ro, 0x00000000, 0x00000000⟩,
  ⟨Off.capRackState, 32, 16, .ro, 0xFF00F8F0, 0x00000000⟩,
  ⟨Off.capRackLeakMap, 32, 16, .rw, 0x00000000, 0xFF000000⟩,
  ⟨Off.capRackFlow, 32, 16, .rw, 0xFFFF0000, 0x000002D0⟩]

/-- Table 5-16 (R151): registers of an engine die. -/
def dieRegs : List RegRow := [
  ⟨Off.dieInfo, 4, 1, .ro, 0x000000FF, 0x00000000⟩,
  ⟨Off.dieState, 4, 1, .ro, 0x0F00FFE0, 0x00000000⟩,
  ⟨Off.dieSpare, 4, 4, .ro, 0x00000000, 0x00000000⟩,
  ⟨Off.diePowerTemp, 4, 1, .ro, 0x00000000, 0x00000000⟩,
  ⟨Off.dieEcc, 4, 1, .rc, 0x00000000, 0x00000000⟩,
  ⟨Off.dieCtrl, 4, 1, .rw, 0xFFFFFFFC, 0x00000000⟩]

/-- Table 5-23 (R153): registers of the hub die, beside those of a die. -/
def hubRegs5_23 : List RegRow := [
  ⟨Off.ceStatus, 4, 1, .ro, 0xFFFFFF00, 0x00000000⟩,
  ⟨Off.ceEvents, 4, 1, .w1c, 0xFFFFFFE0, 0x00000000⟩,
  ⟨Off.ceRingBase, 16, 3, .rw, 0x00000000, 0x03800000⟩,
  ⟨Off.ceRingCtrl, 16, 3, .rw, 0xFFFF0000, 0x00000100⟩,
  ⟨Off.ceRingHead, 16, 3, .ro, 0xFFFF0000, 0x00000000⟩,
  ⟨Off.ceRingTail, 16, 3, .rw, 0xFFFF0000, 0x00000000⟩,
  ⟨Off.ceMerge, 4, 1, .rc, 0xC0000000, 0x00000000⟩]

/-- Table 7-13 (R222): registers of the hub die, beside those of a die. -/
def hubRegs7_13 : List RegRow := [
  ⟨Off.trvState, 4, 1, .ro, 0x00030000, 0x00000000⟩,
  ⟨Off.trvCtrl, 4, 1, .rw, 0x00000000, 0x006403E8⟩,
  ⟨Off.trvLegLo, 4, 1, .ro, 0x00000000, 0x00000000⟩,
  ⟨Off.trvLegHi, 4, 1, .ro, 0x00000000, 0x00000000⟩,
  ⟨Off.trvCkptLo, 4, 1, .ro, 0x00000000, 0xFFFFFFFF⟩,
  ⟨Off.trvCkptHi, 4, 1, .ro, 0x00000000, 0xFFFFFFFF⟩,
  ⟨Off.trvImage, 4, 1, .ro, 0x00000000, 0x00000000⟩,
  ⟨Off.trvMirrorLo, 4, 1, .ro, 0x00000000, 0x00000000⟩,
  ⟨Off.trvMirrorHi, 4, 1, .ro, 0x00000000, 0x00000000⟩,
  ⟨Off.trvGeometry, 4, 1, .ro, 0x00000000, 0x00000000⟩,
  ⟨Off.trvEvents, 4, 1, .w1c, 0xFFFFFC00, 0x00000000⟩,
  ⟨Off.trvFlagCount, 4, 1, .rc, 0x00000000, 0x00000000⟩,
  ⟨Off.trvWithheld, 4, 1, .rc, 0x00000000, 0x00000000⟩]

/-- Table 8-13 (R251): registers of the hub die, beside those of a die. -/
def hubRegs8_13 : List RegRow := [
  ⟨Off.intCtrl, 4, 1, .rw, 0xFF0000F8, 0x003C3C06⟩,
  ⟨Off.intStatus, 4, 1, .ro, 0x00000000, 0x00000001⟩,
  ⟨Off.intEvents, 4, 1, .w1c, 0xFFFFF000, 0x00000000⟩,
  ⟨Off.intCountA, 4, 1, .rc, 0x00000000, 0x00000000⟩,
  ⟨Off.intCountB, 4, 1, .rc, 0x00000000, 0x00000000⟩,
  ⟨Off.intClSel, 4, 1, .rw, 0xFFFFE000, 0x00000000⟩,
  ⟨Off.intClState, 4, 1, .ro, 0x0C000000, 0x00000000⟩,
  ⟨Off.intDatum, 4, 1, .ro, 0x00000000, 0x00000000⟩,
  ⟨Off.intMargin, 4, 1, .rw, 0x0000FFFF, 0x00A80000⟩]

/-- Table 10-5 (R308): registers of a valve channel. -/
def vlvRegs : List RegRow := [
  ⟨Off.vlvPeak, 4, 1, .rw, 0x00000000, 0x00640032⟩,
  ⟨Off.vlvHold, 4, 1, .rw, 0xFFFF0000, 0x00000019⟩,
  ⟨Off.vlvTtp, 4, 1, .rw, 0x00000000, 0x05DC0064⟩,
  ⟨Off.vlvDipWin, 4, 1, .rw, 0x00000000, 0x04B00032⟩,
  ⟨Off.vlvTestDip, 4, 1, .rw, 0x00000000, 0x05960032⟩,
  ⟨Off.vlvDuty, 4, 1, .rw, 0xFF000000, 0x000A01F4⟩,
  ⟨Off.vlvRole, 4, 1, .rw, 0xFFFF0FF0, 0x00000000⟩,
  ⟨Off.vlvCmd, 4, 1, .wo, 0x0000FFFC, 0x00000000⟩,
  ⟨Off.vlvStatus, 4, 1, .ro, 0x003F0000, 0x00000000⟩,
  ⟨Off.vlvEvents, 4, 1, .w1c, 0xFFFFF000, 0x00000000⟩,
  ⟨Off.vlvLast, 4, 1, .ro, 0x00000000, 0xFFFFFFFF⟩,
  ⟨Off.vlvDutyUsed, 4, 1, .ro, 0xFFFF0000, 0x00000000⟩,
  ⟨Off.vlvCount, 4, 1, .rc, 0x00000000, 0x00000000⟩]

/-- Table 11-12 (R332): registers of a motor channel. -/
def motRegs : List RegRow := [
  ⟨Off.motKick, 4, 1, .rw, 0x00000000, 0x012C0BB8⟩,
  ⟨Off.motTach, 4, 1, .rw, 0x0000FF00, 0x1E050002⟩,
  ⟨Off.motRestart, 4, 1, .rw, 0x000000FF, 0x000A0300⟩,
  ⟨Off.motRamp, 4, 1, .rw, 0x00000000, 0x00640BB8⟩,
  ⟨Off.motEnc, 4, 1, .rw, 0x000000FF, 0x00000200⟩,
  ⟨Off.motIo, 4, 1, .rw, 0xFFFFFC78, 0x00000000⟩,
  ⟨Off.motCmd, 4, 1, .wo, 0x0000000E, 0x00000000⟩,
  ⟨Off.motStatus, 4, 1, .ro, 0x010FFFFF, 0x00000000⟩,
  ⟨Off.motSpeed, 4, 1, .ro, 0x00000000, 0x00000000⟩,
  ⟨Off.motEvents, 4, 1, .w1c, 0xFFFFFC00, 0x00000000⟩,
  ⟨Off.motTachCount, 4, 1, .ro, 0x00000000, 0x00000000⟩,
  ⟨Off.motEncPos, 4, 1, .ro, 0x00000000, 0x00000000⟩,
  ⟨Off.motEncCount, 4, 1, .rc, 0x00000000, 0x00000000⟩]

/-- Table 11-14 (R333): registers of a sense input. -/
def snsRegs : List RegRow := [
  ⟨Off.snsCfg, 4, 1, .rw, 0x000F0000, 0x00000000⟩,
  ⟨Off.snsScale, 4, 1, .rw, 0x00000000, 0x00000000⟩,
  ⟨Off.snsValue, 4, 1, .ro, 0x00000000, 0x80000000⟩,
  ⟨Off.snsEvents, 4, 1, .w1c, 0xFFFFFFC0, 0x00000000⟩,
  ⟨Off.snsCal, 4, 1, .rw, 0x0000FFFE, 0x02580000⟩,
  ⟨Off.snsCalResult, 4, 1, .ro, 0x00000000, 0x00000000⟩,
  ⟨Off.snsPartner, 4, 1, .rw, 0xFFFFFF40, 0x00000000⟩]

/-- Table 11-15 (R333): registers of a pulse input. -/
def plsRegs : List RegRow := [
  ⟨Off.plsCfg, 4, 1, .rw, 0x000000FE, 0x03E80200⟩,
  ⟨Off.plsCount, 4, 1, .ro, 0x00000000, 0x00000000⟩,
  ⟨Off.plsFlow, 4, 1, .ro, 0x00000000, 0x00000000⟩,
  ⟨Off.plsEvents, 4, 1, .w1c, 0xFFFFFFF8, 0x00000000⟩]

/-- Table 11-16 (R334): registers of an analog output. -/
def aoRegs : List RegRow := [
  ⟨Off.aoCfg, 4, 1, .rw, 0xFFFF00FC, 0x0000FF00⟩,
  ⟨Off.aoOut, 4, 1, .rw, 0xFFFF0000, 0x00000000⟩,
  ⟨Off.aoStatus, 4, 1, .ro, 0x1FFF0000, 0x00000000⟩,
  ⟨Off.aoEvents, 4, 1, .w1c, 0xFFFFFFF8, 0x00000000⟩]

/-- Table 11-17 (R335): registers of an AUX pin. -/
def auxRegs : List RegRow := [
  ⟨Off.auxCfg, 4, 1, .rw, 0xFFFFFFE0, 0x00000000⟩,
  ⟨Off.auxState, 4, 1, .ro, 0x01FFFFFE, 0x02000000⟩,
  ⟨Off.auxEvents, 4, 1, .w1c, 0xFFFFFFFC, 0x00000000⟩,
  ⟨Off.auxCaptureLo, 4, 1, .ro, 0x00000000, 0x00000000⟩,
  ⟨Off.auxCaptureHi, 4, 1, .ro, 0x00000000, 0x00000000⟩,
  ⟨Off.auxCount, 4, 1, .ro, 0x00000000, 0x00000000⟩]

/-- Table 11-18 (R336): registers of a card slot, in the system unit at 0x400 + 0x20 × (s − 1). -/
def cardRegs : List RegRow := [
  ⟨Off.cardDesc, 4, 1, .ro, 0x00000000, 0x00000000⟩,
  ⟨Off.cardSerial, 4, 1, .ro, 0x00000000, 0x00000000⟩,
  ⟨Off.cardState, 4, 1, .ro, 0x003FFFFF, 0x00000000⟩,
  ⟨Off.cardErr, 4, 1, .rc, 0x00000000, 0x00000000⟩,
  ⟨Off.cardExpect, 4, 1, .rw, 0xFFFFFF00, 0x00000001⟩]

/-- Table 12-10 (R363): registers of a Chain link. -/
def linkRegs : List RegRow := [
  ⟨Off.linkState, 4, 1, .ro, 0x000007FF, 0x1000F000⟩,
  ⟨Off.linkLat, 4, 1, .ro, 0x00000000, 0x00000000⟩,
  ⟨Off.linkCw, 4, 1, .rc, 0x00000000, 0x00000000⟩,
  ⟨Off.linkBad, 4, 1, .rc, 0x00000000, 0x00000000⟩,
  ⟨Off.linkSer, 4, 1, .ro, 0x00000000, 0x00000000⟩,
  ⟨Off.linkSvc, 4, 1, .rc, 0x00000000, 0x00000000⟩,
  ⟨Off.linkEvents, 4, 1, .w1c, 0xFFFFFC00, 0x00000000⟩,
  ⟨Off.linkCtrl, 4, 1, .rw, 0xFFFFFFFC, 0x00000001⟩,
  ⟨Off.linkCable, 4, 1, .ro, 0x00000000, 0x00000000⟩]

/-- Table 13-6 (R389): registers of a Buoyline channel. -/
def blRegs : List RegRow := [
  ⟨Off.blCtrl, 4, 1, .rw, 0xFFFF0080, 0x00004837⟩,
  ⟨Off.blNbt, 4, 1, .rw, 0x00000000, 0x027E2020⟩,
  ⟨Off.blDbt, 4, 1, .rw, 0xFFC00000, 0x00013C84⟩,
  ⟨Off.blTdc, 4, 1, .rw, 0xFFFF0080, 0x00009000⟩,
  ⟨Off.blFilter, 4, 1, .rw, 0xFFFEF000, 0x00000000⟩,
  ⟨Off.blRecover, 4, 1, .wo, 0xFFFFFFFE, 0x00000000⟩,
  ⟨Off.blStatus, 4, 1, .ro, 0x0F8000FF, 0xC0000000⟩,
  ⟨Off.blErr, 4, 1, .ro, 0xFFFF0000, 0x00000000⟩,
  ⟨Off.blEvents, 4, 1, .w1c, 0xFFFFFF00, 0x00000000⟩,
  ⟨Off.blRxNewLo, 4, 1, .w1c, 0x00000000, 0x00000000⟩,
  ⟨Off.blRxNewHi, 4, 1, .w1c, 0x00000000, 0x00000000⟩,
  ⟨Off.blRxLockLo, 4, 1, .rw, 0x00000000, 0x00000000⟩,
  ⟨Off.blRxLockHi, 4, 1, .rw, 0x00000000, 0x00000000⟩,
  ⟨Off.blTxReq, 4, 1, .wo, 0x00000000, 0x00000000⟩,
  ⟨Off.blTxCancel, 4, 1, .wo, 0x00000000, 0x00000000⟩,
  ⟨Off.blTxPend, 4, 1, .ro, 0x00000000, 0x00000000⟩,
  ⟨Off.blTxDone, 4, 1, .w1c, 0x00000000, 0x00000000⟩,
  ⟨Off.blTxFail, 4, 1, .w1c, 0x00000000, 0x00000000⟩,
  ⟨Off.blFrames, 4, 1, .rc, 0x00000000, 0x00000000⟩,
  ⟨Off.blFaults, 4, 1, .rc, 0x00000000, 0x00000000⟩]

/-- Table 16-9 (R470): registers of an update unit. -/
def updRegs : List RegRow := [
  ⟨Off.updState, 4, 1, .ro, 0x003F0000, 0x00000000⟩,
  ⟨Off.updVerA, 4, 1, .ro, 0x00000000, 0x00000000⟩,
  ⟨Off.updVerB, 4, 1, .ro, 0x00000000, 0x00000000⟩,
  ⟨Off.updProgress, 4, 1, .ro, 0x00000000, 0x00000000⟩,
  ⟨Off.updTrial, 4, 1, .ro, 0x3FFF0000, 0x00000000⟩,
  ⟨Off.updCtrl, 4, 1, .rw, 0xFFFFFFFE, 0x00000000⟩,
  ⟨Off.updEvents, 4, 1, .w1c, 0xFFFFFE00, 0x00000000⟩,
  ⟨Off.updSecurity, 4, 1, .ro, 0x0000FFFF, 0x00000000⟩]

/-- Table 17-6 (R487): registers of the Logbook. -/
def logRegs : List RegRow := [
  ⟨Off.logOldest, 4, 1, .ro, 0x00000000, 0x00000000⟩,
  ⟨Off.logNewest, 4, 1, .ro, 0x00000000, 0x00000000⟩,
  ⟨Off.logOldestPos, 4, 1, .ro, 0xFF000000, 0x00000000⟩,
  ⟨Off.logPrevFirst, 4, 1, .ro, 0x00000000, 0x00000000⟩,
  ⟨Off.logPrevLast, 4, 1, .ro, 0x00000000, 0x00000000⟩,
  ⟨Off.logDrop, 4, 1, .rc, 0x00000000, 0x00000000⟩,
  ⟨Off.logEvents, 4, 1, .w1c, 0xFFFFFFF0, 0x00000000⟩,
  ⟨Off.logState, 4, 1, .ro, 0x1FC00000, 0x00000000⟩]

/-- Table 18-8 (R505): registers of the Benchmark mirror, unit 0xD000. -/
def bmuRegs : List RegRow := [
  ⟨Off.bmuId, 4, 1, .ro, 0x00000000, 0x00000000⟩,
  ⟨Off.bmuEnergy, 4, 1, .ro, 0x00000000, 0x00000000⟩,
  ⟨Off.bmuVolume, 4, 1, .ro, 0x00000000, 0x00000000⟩,
  ⟨Off.bmuTemp, 4, 1, .ro, 0x00000000, 0x00000000⟩,
  ⟨Off.bmuFlow, 4, 1, .ro, 0x00000000, 0x00000000⟩,
  ⟨Off.bmuPower, 4, 1, .ro, 0x00000000, 0x00000000⟩,
  ⟨Off.bmuStatus, 4, 1, .ro, 0x7FFFFC00, 0x80000000⟩,
  ⟨Off.bmuAudit, 4, 1, .ro, 0x00000000, 0x00000000⟩,
  ⟨Off.bmuTime, 4, 1, .ro, 0x00000000, 0x00000000⟩,
  ⟨Off.bmuRxLo, 4, 1, .ro, 0x00000000, 0x00000000⟩,
  ⟨Off.bmuRxHi, 4, 1, .ro, 0x00000000, 0x00000000⟩,
  ⟨Off.bmuLink, 4, 1, .rc, 0x00000000, 0x00000000⟩]

/-- Table 18-10 (R505): registers of the monthly units 0xD001 to 0xD00C. -/
def monthRegs : List RegRow := [
  ⟨Off.bmuMEnergy, 4, 1, .ro, 0x00000000, 0x00000000⟩,
  ⟨Off.bmuMVolume, 4, 1, .ro, 0x00000000, 0x00000000⟩,
  ⟨Off.bmuMTime, 4, 1, .ro, 0x00000000, 0x00000000⟩]

/-- R336: the card slot registers of slot `s` (0 to 5), placed in the system unit. -/
def cardRegsAt (s : Nat) : List RegRow :=
  cardRegs.map (fun r => { r with off := 0x400 + 0x20 * s + r.off })

/-- R421: the registers of the system unit. -/
def sysRegs : List RegRow :=
  sysRegs2_11 ++ sysRegs3_11 ++ sysRegs9_13 ++ sysRegs12_12 ++ sysRegs14_17 ++ sysRegs15_10 ++ cardRegsAt 0 ++ cardRegsAt 1 ++ cardRegsAt 2 ++ cardRegsAt 3 ++ cardRegsAt 4 ++ cardRegsAt 5

/-- The registers of the hub die unit 0x8018 beyond those of a die. -/
def hubRegs : List RegRow := hubRegs5_23 ++ hubRegs7_13 ++ hubRegs8_13

/-! ### Units -/

/-- Class of a unit address: bits [15:12]. -/
def unitClass (u : Nat) : Nat := u / 0x1000 % 16

/-- Instance of a unit address: bits [11:0]. -/
def unitInst (u : Nat) : Nat := u % 0x1000

/-- The unit address of an instance of a class. -/
def unitOf (cls inst : Nat) : Nat := cls * 0x1000 + inst

/-- Table 14-15: how many instances a class has. -/
def classSize (cls : Nat) : Nat :=
  match cls with
  | 0 => 1 | 1 => 0x60 | 2 => 0x30 | 3 => 0x50 | 4 => 0x10 | 5 => 6 | 6 => 0x20 | 7 => 0x10 | 8 => 0x19 | 9 => 5
  | 10 => 1 | 11 => 1 | 12 => 0x10 | 13 => 0x10 | 14 => 0x10 | _ => 0

abbrev U.sys : Nat := 0x0000
abbrev U.vlv (c : Nat) : Nat := 0x1000 + c
abbrev U.mot (c : Nat) : Nat := 0x2000 + c
abbrev U.sns (c : Nat) : Nat := 0x3000 + c
abbrev U.pls (c : Nat) : Nat := 0x3040 + c
abbrev U.ao (c : Nat) : Nat := 0x4000 + c
abbrev U.bl (c : Nat) : Nat := 0x5000 + c
abbrev U.link (c : Nat) : Nat := 0x6000 + c
abbrev U.beacon (c : Nat) : Nat := 0x7000 + c
abbrev U.die (c : Nat) : Nat := 0x8000 + c
abbrev U.hub : Nat := 0x8018
abbrev U.loop (c : Nat) : Nat := 0x9000 + c
abbrev U.cap : Nat := 0xA000
abbrev U.log : Nat := 0xB000
abbrev U.upd (c : Nat) : Nat := 0xC000 + c
abbrev U.bmu (c : Nat) : Nat := 0xD000 + c
abbrev U.aux (c : Nat) : Nat := 0xE000 + c

/-- The register map of a unit (R419); none for a unit without registers. -/
def unitRegs (u : Nat) : List RegRow :=
  let i := unitInst u
  match unitClass u with
  | 0 => if i = 0 then sysRegs else []
  | 1 => if i < 0x60 then vlvRegs else []
  | 2 => if i < 0x30 then motRegs else []
  | 3 => if i < 0x40 then snsRegs else if i < 0x50 then plsRegs else []
  | 4 => if i < 0x10 then aoRegs else []
  | 5 => if i < 6 then blRegs else []
  | 6 => if i < 0x20 then linkRegs else []
  | 7 => if i < 0x10 then beaconRegs else []
  | 8 => if i < 0x18 then dieRegs else if i = 0x18 then dieRegs ++ hubRegs else []
  | 9 => if i < 2 || i = 3 then loopRegs.filter (fun r => r.off < 0x40)
         else if i = 2 then loopRegs else if i = 4 then loopRegs.filter (fun r => r.off < 0x40) else []
  | 10 => if i = 0 then capRegs else []
  | 11 => if i = 0 then logRegs else []
  | 12 => if i < 7 then updRegs else []
  | 13 => if i = 0 then bmuRegs else if i < 13 then monthRegs else []
  | 14 => if i < 16 then auxRegs else []
  | _ => []

/-- `off` is a register of the row. -/
def RegRow.hits (r : RegRow) (off : Nat) : Bool :=
  decide (r.off ≤ off) && decide ((off - r.off) % r.stride = 0) && decide ((off - r.off) / r.stride < r.count)

/-- The row of the register at `off` of unit `u`. -/
def findReg (u off : Nat) : Option RegRow := (unitRegs u).find? (fun r => r.hits off)

/-- Table 3-17: reset values of a plant loop that its instance gives. -/
def loopReset (i off : Nat) : Option Nat :=
  if off = Off.loopSp then some ([1200, 3200, 1200, 5500].getD i 168)
  else if off = Off.loopCtrl then
    some ([0x00646400, 0x00641400, 0x00643200, 0x00641400].getD i 0)
  else if off = Off.loopSpBand then
    some ([2500 * 65536 + 500, 4500 * 65536 + 1700, 2000 * 65536 + 600, 6000 * 65536 + 4500].getD i 0)
  else if off = Off.loopOutBand then
    some ([1000 * 65536, 1000 * 65536, 1000 * 65536 + 100, 1000 * 65536].getD i 0)
  else if off = Off.loopFbGain then some ([0x01900032, 0x00500258].getD i 0)
  else if off = Off.loopSafe then
    some ([3000 * 65536 + 400, 4700 * 65536 + 1500, 6000 * 65536 + 200, 6500 * 65536].getD i 0)
  else none

/-- Reset value of the register with key `unit × 0x1000 + offset`. -/
def resetVal (key : Nat) : Word :=
  let u := key / 0x1000
  let off := key % 0x1000
  let i := unitInst u
  let plain : Word := match findReg u off with | some r => r.reset | none => 0
  match unitClass u with
  | 0 =>
    -- Table 11-18: CARD_EXPECT of slots 1 to 6
    if off = 0x450 then 1 else if off = 0x430 then 1 else if off = 0x410 then 1
    else if off = 0x470 then 2 else if off = 0x490 then 3 else if off = 0x4B0 then 3 else plain
  | 1 =>
    -- Table 1-2, R309
    if off = Off.vlvRole then
      if i < 32 then wd (i / 2 * 0x1000 + 2 + i % 2)
      else if i < 48 then wd ((i - 32) / 2 * 0x1000 + 4 + i % 2) else 0
    else plain
  | 5 => if off = Off.blCtrl ∧ i = 5 then 0x4816 else plain
  | 8 =>
    if i = 0x18 ∧ off = Off.ceRingBase + 0x10 then 0x03810000
    else if i = 0x18 ∧ off = Off.ceRingBase + 0x20 then 0x03820000 else plain
  | 9 => match loopReset i off with | some v => wd v | none => plain
  | _ => plain

/-- The key of a register in `State.regs`. -/
def regKey (u off : Nat) : Nat := u * 0x1000 + off

/-- The stored value of a register. -/
def State.reg (s : State) (u off : Nat) : Word := mget (resetVal (regKey u off)) s.regs (regKey u off)

/-- Store a register's value. -/
def State.setReg (s : State) (u off : Nat) (v : Word) : State :=
  { s with regs := mset (resetVal (regKey u off)) s.regs (regKey u off) v }

/-- A field of a stored register. -/
def State.fldOf (s : State) (u off hi lo : Nat) : Nat := fld (s.reg u off) hi lo

/-- A bit of a stored register. -/
def State.bitAt (s : State) (u off n : Nat) : Bool := bitOf (s.reg u off) n

/-- Hardware sets an event bit (R7: W1C; the set wins). -/
def State.setEvent (s : State) (u off n : Nat) : State := s.setReg u off (orBit (s.reg u off) n)

/-- A saturating count field [hi:lo] of an RC register grows by `k` (R7). -/
def State.addCount (s : State) (u off hi lo k : Nat) : State :=
  s.setReg u off (putFld (s.reg u off) hi lo (sat (2 ^ (hi + 1 - lo) - 1) (fld (s.reg u off) hi lo + k)))

end Sys2Proof.Machine
end

