-- ==== Sys2Proof/Machine/Access.lean ====
section
/-! DEFINITION. Reading and writing the parts of the state: every per-unit part has one read and one write here, and all
meanings go through them. -/

namespace Sys2Proof.Machine

open Sys2Proof

/-- The valve channel (class 0x1). -/
def State.valve (s : State) (k : Nat) : Valve := mget {} s.valves k
/-- Write it. -/
def State.setValve (s : State) (k : Nat) (v : Valve) : State := { s with valves := mset {} s.valves k v }
/-- Change it. -/
def State.modValve (s : State) (k : Nat) (g : Valve → Valve) : State := s.setValve k (g (s.valve k))

/-- The motor channel (class 0x2). -/
def State.motor (s : State) (k : Nat) : Motor := mget {} s.motors k
/-- Write it. -/
def State.setMotor (s : State) (k : Nat) (v : Motor) : State := { s with motors := mset {} s.motors k v }
/-- Change it. -/
def State.modMotor (s : State) (k : Nat) (g : Motor → Motor) : State := s.setMotor k (g (s.motor k))

/-- The sense input (class 0x3). -/
def State.sense (s : State) (k : Nat) : Sense := mget {} s.senses k
/-- Write it. -/
def State.setSense (s : State) (k : Nat) (v : Sense) : State := { s with senses := mset {} s.senses k v }
/-- Change it. -/
def State.modSense (s : State) (k : Nat) (g : Sense → Sense) : State := s.setSense k (g (s.sense k))

/-- The pulse input (class 0x3, instances 64 to 79). -/
def State.pulse (s : State) (k : Nat) : Pulse := mget {} s.pulses k
/-- Write it. -/
def State.setPulse (s : State) (k : Nat) (v : Pulse) : State := { s with pulses := mset {} s.pulses k v }
/-- Change it. -/
def State.modPulse (s : State) (k : Nat) (g : Pulse → Pulse) : State := s.setPulse k (g (s.pulse k))

/-- The analog output (class 0x4). -/
def State.analog (s : State) (k : Nat) : Analog := mget {} s.analogs k
/-- Write it. -/
def State.setAnalog (s : State) (k : Nat) (v : Analog) : State := { s with analogs := mset {} s.analogs k v }
/-- Change it. -/
def State.modAnalog (s : State) (k : Nat) (g : Analog → Analog) : State := s.setAnalog k (g (s.analog k))

/-- The AUX pin (class 0xE). -/
def State.aux (s : State) (k : Nat) : Aux := mget {} s.auxs k
/-- Write it. -/
def State.setAux (s : State) (k : Nat) (v : Aux) : State := { s with auxs := mset {} s.auxs k v }
/-- Change it. -/
def State.modAux (s : State) (k : Nat) (g : Aux → Aux) : State := s.setAux k (g (s.aux k))

/-- The card slot, 0 to 5 for slots 1 to 6. -/
def State.card (s : State) (k : Nat) : Card := mget {} s.cards k
/-- Write it. -/
def State.setCard (s : State) (k : Nat) (v : Card) : State := { s with cards := mset {} s.cards k v }
/-- Change it. -/
def State.modCard (s : State) (k : Nat) (g : Card → Card) : State := s.setCard k (g (s.card k))

/-- The engine die, 0 to 24 (class 0x8); the hub resets to ACTIVE (Table 5-18). -/
def State.die (s : State) (k : Nat) : Die := mget (if k = 24 then { st := 0 } else {}) s.dies k
/-- Write it. -/
def State.setDie (s : State) (k : Nat) (v : Die) : State := { s with dies := mset (if k = 24 then { st := 0 } else {}) s.dies k v }
/-- Change it. -/
def State.modDie (s : State) (k : Nat) (g : Die → Die) : State := s.setDie k (g (s.die k))

/-- The cluster, by the key of `clKey`. -/
def State.cluster (s : State) (k : Nat) : Cluster := mget {} s.clusters k
/-- Write it. -/
def State.setCluster (s : State) (k : Nat) (v : Cluster) : State := { s with clusters := mset {} s.clusters k v }
/-- Change it. -/
def State.modCluster (s : State) (k : Nat) (g : Cluster → Cluster) : State := s.setCluster k (g (s.cluster k))

/-- The Chain link (class 0x6). -/
def State.link (s : State) (k : Nat) : Link := mget {} s.links k
/-- Write it. -/
def State.setLink (s : State) (k : Nat) (v : Link) : State := { s with links := mset {} s.links k v }
/-- Change it. -/
def State.modLink (s : State) (k : Nat) (g : Link → Link) : State := s.setLink k (g (s.link k))

/-- The Buoyline channel (class 0x5). -/
def State.bus (s : State) (k : Nat) : Bus := mget {} s.buses k
/-- Write it. -/
def State.setBus (s : State) (k : Nat) (v : Bus) : State := { s with buses := mset {} s.buses k v }
/-- Change it. -/
def State.modBus (s : State) (k : Nat) (g : Bus → Bus) : State := s.setBus k (g (s.bus k))

/-- The update unit (class 0xC). -/
def State.upd (s : State) (k : Nat) : Upd := mget {} s.upds k
/-- Write it. -/
def State.setUpd (s : State) (k : Nat) (v : Upd) : State := { s with upds := mset {} s.upds k v }
/-- Change it. -/
def State.modUpd (s : State) (k : Nat) (g : Upd → Upd) : State := s.setUpd k (g (s.upd k))

/-- The rack (R13). -/
def State.rack (s : State) (k : Nat) : Rack := mget {} s.broker.racks k
/-- Write it. -/
def State.setRack (s : State) (k : Nat) (v : Rack) : State := { s with broker.racks := mset {} s.broker.racks k v }
/-- Change it. -/
def State.modRack (s : State) (k : Nat) (g : Rack → Rack) : State := s.setRack k (g (s.rack k))

/-- The plant loop (class 0x9). -/
def State.loop (s : State) (k : Nat) : Loop := mget {} s.plant.loops k
/-- Write it. -/
def State.setLoop (s : State) (k : Nat) (v : Loop) : State := { s with plant.loops := mset {} s.plant.loops k v }
/-- Change it. -/
def State.modLoop (s : State) (k : Nat) (g : Loop → Loop) : State := s.setLoop k (g (s.loop k))

/-- The secondary pump (R61). -/
def State.pump (s : State) (k : Nat) : Pump := mget {} s.plant.pumps k
/-- Write it. -/
def State.setPump (s : State) (k : Nat) (v : Pump) : State := { s with plant.pumps := mset {} s.plant.pumps k v }
/-- Change it. -/
def State.modPump (s : State) (k : Nat) (g : Pump → Pump) : State := s.setPump k (g (s.pump k))

/-- The key of a cluster: die, die row, physical column. -/
def clKey (c : ClusterAt) : Nat := c.die.val * 272 + c.row.val * 17 + c.col.val

/-- The condition of one row of Table 3-8. -/
def rowKey (r : ReflexRow) : Nat :=
  match r with
  | .pressureHigh => 0 | .pressureTrip => 1 | .dpLow => 2 | .dpHigh => 3 | .pumpTrip => 4 | .supplyHigh => 5
  | .supplyOver => 6 | .supplyLow => 7 | .returnHigh => 8
  | .rackFlow r => 16 + r.val | .rackFlowCap r => 32 + r.val | .rackReturn r => 48 + r.val

/-- The timers of a row of Table 3-8. -/
def State.row (s : State) (r : ReflexRow) : RowState := mget {} s.plant.rows (rowKey r)
/-- Write them. -/
def State.setRow (s : State) (r : ReflexRow) (v : RowState) : State :=
  { s with plant.rows := mset {} s.plant.rows (rowKey r) v }
/-- Change them. -/
def State.modRow (s : State) (r : ReflexRow) (g : RowState → RowState) : State := s.setRow r (g (s.row r))

/-- The racks in rising order (R13). -/
def racks16 : List (Fin 16) := List.finRange 16

/-- `f` applied for each of a list in turn. -/
def forEach {α : Type} (l : List α) (f : α → State → State) (s : State) : State := l.foldl (fun s c => f c s) s

/-- Another channel still runs a command of this origin (R302). -/
def originBusy (s : State) (o : Origin) : Bool :=
  let same := fun (c : Option ChanCmd) => match c with
    | some k => decide (k.origin.identity = o.identity) && decide (k.origin.sequence = o.sequence)
    | none => false
  s.valves.any (fun e => same e.2.cmd) || s.motors.any (fun e => same e.2.cmd)

/-- A free value is drawn: the counter advances (log entry 3). -/
def State.draw (s : State) : State := { s with free := s.free + 1 }

/-- A message leaves the module. -/
def State.emit (s : State) (o : Out) : State := { s with outbox := o :: s.outbox }

end Sys2Proof.Machine
end

