-- ==== Sys2Proof/Machine/Flags.lean ====
section
/-! DEFINITION. Codes, predicates and the registers that show live state: every read-only register is computed here from
the state it shows, by the field tables of the chapters, so that it has no second home. `regRead` reads any register. -/

namespace Sys2Proof.Machine

open Sys2Proof

/-! ### Codes of the tables -/

/-- Table 3-3. -/
def modeCode : Mode → Nat
  | .off => 0 | .commission => 1 | .run => 2 | .fallback => 3 | .isolate => 4 | .maintain => 5

/-- Table 9-2. -/
def roleCode : Role → Nat
  | .undecided => 0 | .keeper => 1 | .reliefMirror => 2 | .reliefCold => 3 | .reliefResync => 4 | .barred => 5

/-- Table 14-5 ROLE. -/
def clientRoleCode : ClientRole → Nat
  | .observer => 0 | .operator => 1 | .engineer => 2 | .authority => 3 | .scheduler => 4 | .rack => 5 | .vendorService => 6

/-- Table 14-14. -/
def statusCode : Status → Nat
  | .ok => 0x0000 | .accepted => 0x0001 | .completed => 0x0002 | .alreadyComplete => 0x0003 | .busy => 0x0010
  | .deadlineUnmeetable => 0x0011 | .yield => 0x0012 | .badOpcode => 0x0020 | .badAddress => 0x0021
  | .badParam => 0x0022 | .version => 0x0023 | .denied => 0x0030 | .notKeeper => 0x0031 | .notPresent => 0x0040
  | .domainDown => 0x0041 | .cardReset => 0x0042 | .faulted => 0x0050 | .noAck => 0x0051 | .updateState => 0x0060

/-- Table 4-8. -/
def stageCode : LeakStage → Nat
  | .clear => 0 | .suspect => 1 | .confirmed => 2 | .isolated => 3 | .escalated => 4 | .uncontained => 5

/-- Table 10-3. -/
def phaseCode : Phase → Nat
  | .off => 0 | .deferred => 1 | .peak => 2 | .held => 3 | .releasing => 4 | .test => 5

/-- Table 11-6. -/
def motCode : MotState → Nat
  | .stopped => 0 | .kick => 1 | .ramp => 2 | .running => 3 | .backoff => 4 | .faulted => 5

/-- Table 11-18 STATE. -/
def cardCode : CardSt → Nat
  | .absent => 0 | .enumerating => 1 | .active => 2 | .mismatch => 3 | .gated => 4 | .faulted => 5

/-- Table 12-3. -/
def linkCode : LinkSt → Nat
  | .disabled => 0 | .down => 1 | .training => 2 | .aligning => 3 | .up => 4 | .backoff => 5

/-- Table 13-7 BL_STATUS.STATE. -/
def busCode : BusSt → Nat
  | .errorActive => 0 | .errorPassive => 1 | .busOff => 2 | .offline => 3

/-- Table 7-11. -/
def seqCode : SeqSt → Nat
  | .empty => 0 | .loading => 1 | .loaded => 2 | .starting => 3 | .running => 4 | .restoring => 5 | .faulted => 6

/-- Table 16-5. -/
def bankCode : BankSt → Nat
  | .empty => 0 | .downloading => 1 | .unverified => 2 | .verifying => 3 | .verified => 4 | .trial => 5 | .active => 6
  | .rejected => 7

/-! ### Roles, modes and presence -/

/-- The module runs the plant (Table 9-2). -/
def isKeeper (s : State) : Bool := decide (s.pair.role = .keeper)

/-- R264 step 3: the module answers commands: it is the Keeper, and no handover has passed t_h. -/
def keeperNow (s : State) : Bool :=
  isKeeper s && (match s.pair.handover with | some h => !(h.ready && decide (h.th ≤ s.now)) | none => true)

/-- The module is a Relief of any kind (Table 9-2). -/
def isRelief (s : State) : Bool :=
  decide (s.pair.role = .reliefMirror) || decide (s.pair.role = .reliefCold) || decide (s.pair.role = .reliefResync)

/-- RUN, or ISOLATE with engine-driven loops (R61, R88): the engine drives the loops. -/
def engineDriven (s : State) : Bool :=
  decide (s.plant.mode = .run) || (decide (s.plant.mode = .isolate) && !s.plant.fbLoops)

/-- COMMISSION or MAINTAIN. -/
def inService (s : State) : Bool := decide (s.plant.mode = .commission) || decide (s.plant.mode = .maintain)

/-- Slot (0 to 5) of a channel's card: VDC-16 (R10), MDC-8 and SNC-32 units by Table 14-15. -/
def slotOfValve (c : Nat) : Nat := c / 16
def slotOfMotor (c : Nat) : Nat := c / 8
/-- Sense inputs 0 to 31 are of slot 5, 32 to 63 of slot 6 (Table 11-3). -/
def slotOfSense (c : Nat) : Nat := 4 + c / 32
/-- Pulse inputs and analog outputs: 8 of each SNC-32 (Table 11-3). -/
def slotOfPulse (c : Nat) : Nat := 4 + c / 8
def slotOfAnalog (c : Nat) : Nat := 4 + c / 8

/-- Card types of Table 11-3: 1 VDC-16, 2 MDC-8, 3 SNC-32. -/
def cardReady (s : State) (slot type : Nat) : Bool :=
  decide ((s.card slot).st = .active) && decide ((s.card slot).type = type)

/-- The slot, 0 to 5, a unit's card stands in (Table 11-3). -/
def slotOfUnit (u : Nat) : Option Nat :=
  let i := unitInst u
  match unitClass u with
  | 1 => some (slotOfValve i)
  | 2 => some (slotOfMotor i)
  | 3 => if i < 64 then some (slotOfSense i) else some (slotOfPulse (i - 64))
  | 4 => some (slotOfAnalog i)
  | _ => none

/-- R297, R311: the card applies the commands of its segment. -/
def cardTakes (s : State) (slot : Nat) : Bool := !(s.card slot).cardHold && !(s.card slot).segBad

/-- R313: a request for a service window arrives. -/
def askService (q : SvcReq) (s : State) : State := { s with service.queue := s.service.queue ++ [q] }

/-- R4, R315, R420: the unit's slot holds a matching ACTIVE card. Units of other classes have no card. -/
def unitPresent (s : State) (u : Nat) : Bool :=
  let i := unitInst u
  match unitClass u with
  | 1 => cardReady s (slotOfValve i) 1
  | 2 => cardReady s (slotOfMotor i) 2
  | 3 => if i < 64 then cardReady s (slotOfSense i) 3 else cardReady s (slotOfPulse (i - 64)) 3
  | 4 => cardReady s (slotOfAnalog i) 3
  | 13 => s.mirror.present
  | _ => true

/-! ### Caps (Ch. 4) -/

/-- R74: rating and floor of rack r. -/
def rating (s : State) (r : Nat) : Power := s.fldOf U.cap (Off.capRackCfg + 0x20 * r) 31 16
def floor (s : State) (r : Nat) : Power := s.fldOf U.cap (Off.capRackCfg + 0x20 * r) 15 0

/-- Rack r as an operand. -/
def fin16 (r : Nat) : Fin 16 := ⟨r % 16, Nat.mod_lt _ (by decide)⟩

/-- The sum of `f` over the 16 racks. -/
def sumRacks (f : Nat → Nat) : Nat := (upTo 16).foldl (fun a r => a + f r) 0

def capSum (s : State) : Power := sumRacks (fun r => (s.rack r).cap)
def floorSum (s : State) : Power := sumRacks (floor s)

/-- Bit r of a rack set. -/
def inSet (w : BitVec 16) (r : Nat) : Bool := w.getLsbD r

/-- R19: the Buoyline channel of rack n's manifold node, or of the drives (16). -/
def nodeBus (s : State) (n : Nat) : Nat := if s.plant.channelFive.getLsbD n then 5 else if n = 16 then 4 else n / 4

/-- R14: the sector of rack r; by default sector k holds racks 2k and 2k + 1 (Table 1-2). -/
def sectorOf (s : State) (r : Nat) : Nat := mget (r / 2) s.plant.sectorOf r

/-- The rack's leak stage is 2 to 5. -/
def leakDeep (s : State) (r : Nat) : Bool := decide (2 ≤ stageCode (s.rack r).stage)

/-- R118, Table 4-9: the LEAK cause of BEACON_r, by the racks in stages 2 to 5 behind it: rack r itself, an escalated
rack of its sector, or an uncontained rack. -/
def leakCause (s : State) (r : Nat) : Bool :=
  leakDeep s r || (upTo 16).any (fun q =>
    (decide (4 ≤ stageCode (s.rack q).stage) && decide (sectorOf s q = sectorOf s r))
    || decide ((s.rack q).stage = .uncontained))

/-- Table 4-10: the active causes of BEACON_r as in BEACON_STATE [4:0]. -/
def beaconCauses (s : State) (r : Nat) : Nat :=
  b2n (s.rack r).beaconNoAck
  + 2 * b2n (leakCause s r)
  + 4 * b2n ((s.rack r).safetyFlow || s.plant.safetyAll)
  + 8 * b2n (s.row .pressureTrip).active
  + 16 * b2n (s.bitAt (U.beacon r) Off.beaconCtrl 0)

/-- R88 items 1, 4 and 6: what holds raises on rack r at any moment. Loops 0, 1 and 2 serve every rack (log entry 12). -/
def raiseHold (s : State) (r : Nat) : Bool :=
  !engineDriven s || inSet s.plant.isolated r
  || [0, 1, 2].any (fun l => (s.loop l).policyBound || (s.loop l).capacityBound || (s.loop l).staleBound || !(s.loop l).holders.isEmpty)
  || decide (beaconCauses s r ≠ 0) || decide ((s.rack r).stage ≠ .clear)
  || (s.row .pressureTrip).active || (s.row .supplyOver).active || (s.row .returnHigh).active
  || (s.row (.rackFlowCap (fin16 r))).active || (s.row (.rackReturn (fin16 r))).active

/-! ### Loops (Ch. 3) -/

/-- The unit of the held setpoints and outputs. -/
def spUnit : Int := 60000000
def outUnit : Int := 1000000

/-- The pump is in the duty set. -/
def pumpDuty (s : State) (p : Nat) : Bool := decide ((s.pump p).use = .duty)

def dutyCount (s : State) : Nat := ((upTo 8).filter (pumpDuty s)).length

/-- Bit p: pump p runs (Table 3-17, instance 4). -/
def pumpsRunning (s : State) : Nat :=
  (upTo 8).foldl (fun a p => a + b2n (decide (0 < (s.pump p).speed) || (s.pump p).starting) * 2 ^ p) 0

/-- LOOP_PV (Table 3-5, Table 3-17). On instance 2 no rule says which rack's ΔT one register shows: a free value of the
sixteen (log entry 13). -/
def loopPv (s : State) (l : Nat) : Int :=
  match l with
  | 0 => s.plant.dp.value
  | 1 => s.plant.supplyT.value
  | 2 => Config.loopTwoPv ((upTo 16).map (fun r => (s.rack r).dT))
  | 3 => s.plant.returnT.value
  | _ => dutyCount s

/-- LOOP_OUT: on instance 4 the running pumps; on instance 2, which has one field for sixteen valves, the manual value, the model’s
choice (log entry 110). -/
def loopOut (s : State) (l : Nat) : Int := if l = 4 then pumpsRunning s else (s.loop l).out / outUnit

/-- LOOP_SP_ACTIVE: on instance 4 the interval written. -/
def loopSpActive (s : State) (l : Nat) : Int :=
  if l = 4 then s.fldOf (U.loop 4) Off.loopSp 15 0 else (s.loop l).spActive / spUnit

/-- Table 3-21. SOURCE is 0 while the engine drives the loops, and 1 under the Preman PI loops or hold. -/
def loopState (s : State) (l : Nat) : Word :=
  wd (b2n (s.loop l).policyBound + 2 * b2n (s.loop l).manual + 4 * b2n (!engineDriven s)
    + 8 * b2n (!(s.loop l).holders.isEmpty) + 16 * b2n ((s.loop l).capacityBound || (s.loop l).staleBound))

def loopRack (s : State) (r : Nat) : Word :=
  wd (sat 0xFFFF (s.rack r).flow * 65536 + ((s.rack r).pos / outUnit).toNat % 65536)

def pumpTripReg (s : State) : Word :=
  wd ((upTo 8).foldl (fun a p => a + b2n (s.pump p).tripped * 2 ^ p
    + b2n (decide ((s.pump p).use = .reserve)) * 2 ^ (8 + p)) 0)

/-- Table 3-12. -/
def sysModeReg (s : State) : Word :=
  wd (s.plant.isolated.toNat * 65536 + modeCode s.plant.prevMode * 256 + 128 * b2n s.plant.commissioned
    + 64 * b2n s.plant.fbLoops + 32 * b2n s.plant.engineOk + 16 * b2n s.plant.forced + modeCode s.plant.mode)

/-! ### Caps registers -/

def capRackCap (s : State) (r : Nat) : Word := wd ((s.rack r).confirmed % 65536 * 65536 + (s.rack r).cap % 65536)

/-- Table 4-22. -/
def capRackState (s : State) (r : Nat) : Word :=
  let k := s.rack r
  wd (k.sources.toNat * 65536 + stageCode k.stage * 256 + 8 * b2n (decide (k.cap = floor s r)) + 4 * b2n (raiseHold s r)
    + 2 * b2n k.noAck + b2n (match k.grants with | g :: _ => !g.acked | [] => false))

def beaconStateReg (s : State) (r : Nat) : Word := wd (2 ^ 31 * b2n (inSet s.plant.beacons r) + beaconCauses s r)

def raStatus (s : State) : Word :=
  wd (s.broker.previews.length % 128 * 65536 + sat 0xFFFF s.broker.prov.length)

/-! ### Channels (Ch. 10, 11) -/

/-- Table 10-12. -/
def vlvStatus (s : State) (c : Nat) : Word :=
  let v := s.valve c
  wd (phaseCode v.phase * 2 ^ 28 + b2n (s.card (slotOfValve c)).cardHold * 2 ^ 27 + b2n v.leakHeld * 2 ^ 26
    + b2n v.tripped * 2 ^ 25 + b2n v.waitBudget * 2 ^ 24 + b2n v.waitDuty * 2 ^ 23 + b2n v.cmd.isSome * 2 ^ 22
    + sat 0xFFFF v.current)

/-- R290: the duty account of a channel at time t: the charges whose start lies in (t − WINDOW, t] [0.01 A²s]. -/
def dutyAt (s : State) (c : Nat) (t : Time) : Nat :=
  let w := s.fldOf (U.vlv c) Off.vlvDuty 23 16 * Config.sec
  (s.valve c).charges.foldl (fun a e => if e.1 ≤ t ∧ t < e.1 + w then a + e.2 else a) 0

/-- R318: the encoder is the speed source. -/
def encSource (s : State) (c : Nat) : Bool :=
  decide (0 < s.fldOf (U.mot c) Off.motEnc 31 16) && !(s.motor c).encFault

/-- Table 11-13 MOT_STATUS. -/
def motStatus (s : State) (c : Nat) : Word :=
  let m := s.motor c
  wd (motCode m.st * 2 ^ 28 + b2n (s.card (slotOfMotor c)).cardHold * 2 ^ 27 + b2n (encSource s c) * 2 ^ 26
    + b2n m.cmd.isSome * 2 ^ 25 + m.failures % 16 * 2 ^ 20)

def motSpeed (s : State) (c : Nat) : Word :=
  wd (sat 0xFFFF (s.motor c).rpm * 65536 + ((s.motor c).command / outUnit).toNat % 65536)

def motEncPos (s : State) (c : Nat) : Word := wd ((s.motor c).indexes % 65536 * 65536 + tc 16 (s.motor c).position)

def snsValue (s : State) (i : Nat) : Word :=
  let v := s.sense i
  wd (b2n v.stale * 2 ^ 31 + b2n v.fault * 2 ^ 30 + v.cable % 4 * 2 ^ 28
    + sat 4095 ((s.now - v.sampledAt) / Config.ms) * 65536 + tc 16 v.value)

def aoStatus (s : State) (i : Nat) : Word :=
  let a := s.analog i
  wd (b2n (s.card (slotOfAnalog i)).cardHold * 2 ^ 31 + b2n a.openLoop * 2 ^ 30 + b2n a.overload * 2 ^ 29
    + sat 0xFFFF a.readback)

/-- Table 11-17 AUX_STATE: during a switch the pin is SAFE and DETACHED (Table 11-11). -/
def auxState (s : State) (p : Nat) : Word :=
  let a := s.aux p
  wd (a.func % 16 * 2 ^ 28 + b2n a.switching.isSome * 2 ^ 27 + b2n a.switching.isSome * 2 ^ 26
    + b2n (a.switching.isSome || decide (a.func = 0)) * 2 ^ 25 + b2n a.level)

/-- Table 11-18. -/
def cardStateReg (s : State) (k : Nat) : Word :=
  let c := s.card k
  wd (cardCode c.st * 2 ^ 28 + c.reason % 16 * 2 ^ 24 + b2n c.hold * 2 ^ 23
    + b2n (decide (c.st ≠ .absent) && (s.power.fieldA || s.power.fieldB)) * 2 ^ 22)

def cardDescReg (s : State) (k : Nat) : Word :=
  wd ((s.card k).type % 256 * 2 ^ 24 + (s.card k).hwRev % 256 * 65536 + (s.card k).fwVer % 65536)

/-! ### Engine (Ch. 5 to 8) -/

/-- R210: the rotation ring of the compute dies. -/
def ring16 : List Nat := [0, 1, 2, 3, 7, 11, 15, 14, 10, 6, 5, 9, 13, 12, 8, 4]

/-- Ring position of a compute die. -/
def ringPos (i : Nat) : Nat := match findIdxOpt (fun j => decide (j = i)) ring16 with | some p => p | none => 0

/-- R210: the logical die that an ACTIVE compute die serves at the rotation step in force; 0xFF for any other die. -/
def logicalOf (s : State) (i : Nat) : Nat :=
  if (s.die i).st = 0 then ring16.getD ((ringPos i + 16 - s.seqr.rotStep % 16) % 16) 0xFF else 0xFF

/-- DIE_STATE (Table 5-18). -/
def dieStateReg (s : State) (i : Nat) : Word :=
  let d := s.die i
  wd (d.st % 16 * 2 ^ 28 + (if i < 16 then logicalOf s i else 0xFF) * 65536
    + (if i < 16 then d.spares.length % 32 else 0))

/-- DIE_INFO (Table 5-17). -/
def dieInfoReg (i : Nat) : Word :=
  wd ((if i < 16 then 0 else if i < 24 then 1 else 2) * 2 ^ 24
    + (if i < 16 then i else if i < 24 then i - 16 else 0) * 65536 + (Config.siliconStep i).toNat * 256)

/-- DIE_SPARE_q (Table 5-19): one byte per die row. -/
def dieSpareReg (s : State) (i q : Nat) : Word :=
  wd ((upTo 4).foldl (fun a j =>
    a + (match (s.die i).spares.find? (fun p => decide (p.1 = 4 * q + j)) with
         | some p => (0x80 + p.2 % 16) * 256 ^ j
         | none => 0)) 0)

def diePowerReg (s : State) (i : Nat) : Word := wd (sat 0xFFFF (s.die i).power * 65536 + tcSat 16 (s.die i).junction)

/-- TRV_STATE (Table 7-14). -/
def trvState (s : State) : Word :=
  let q := s.seqr
  wd (seqCode q.st * 2 ^ 28 + q.clock % 4 * 2 ^ 26 + b2n q.degraded * 2 ^ 25
    + b2n (match q.image with | some i => decide (1 < i.modules) | none => false) * 2 ^ 24
    + q.rotStep % 16 * 2 ^ 20 + q.routeSet % 4 * 2 ^ 18 + q.variant % 65536)

/-- CE_STATUS.BUSY of CE0 to CE5: an issued scheduled copy has not ended. -/
def schedBusy (s : State) : BitVec 8 :=
  BitVec.ofNat 8 ((upTo 6).foldl (fun a e => a + b2n (s.copies.sched.any (fun c => decide (c.1 = e) && decide (c.2.2 ≤ s.now))) * 2 ^ e) 0)

/-- R203: the newest CLOSED slot: the one written last, or else the other. -/
def newestCkpt (s : State) : Option Ckpt :=
  let a := if s.seqr.lastB then s.seqr.slotB else s.seqr.slotA
  let b := if s.seqr.lastB then s.seqr.slotA else s.seqr.slotB
  if a.state = 2 then some a else if b.state = 2 then some b else none

/-- R204, R218: a CLOSED slot of the loaded image's MIRROR_ID. -/
def usableCkpt (s : State) (c : Ckpt) : Bool :=
  decide (c.state = 2) && (match s.seqr.image with | some i => decide (c.mirrorId = i.mirrorId) | none => true)

/-- The last valid checkpoint that the loaded image can be restored from (R205). -/
def lastCkpt (s : State) : Option Ckpt :=
  let a := if s.seqr.lastB then s.seqr.slotB else s.seqr.slotA
  let b := if s.seqr.lastB then s.seqr.slotA else s.seqr.slotB
  if usableCkpt s a then some a else if usableCkpt s b then some b else none

/-- TRV_CKPT as a 64-bit value, all ones when there is none. -/
def ckptLeg64 (s : State) : Nat := match newestCkpt s with | some c => c.leg | none => 2 ^ 64 - 1

def imageOr (s : State) (f : Image → Nat) : Nat := match s.seqr.image with | some i => f i | none => 0

/-- R206: the image holds a variant. -/
def holdsVariant (i : Image) (v : Nat) : Bool := i.variants.any (fun e => decide (e.index = v))

/-- Clusters of the compute dies that satisfy `p`. -/
def countClusters (s : State) (p : Cluster → Bool) : Nat := (s.clusters.filter (fun e => p e.2)).length

/-- Mirror comparison in force (R231). -/
def mirrorActive (s : State) : Bool :=
  s.bitAt U.hub Off.intCtrl 1 && s.pair.idMatch
  && (decide (s.pair.role = .reliefMirror)
      || (isKeeper s && (match s.pair.health with | some (h, _) => decide (h.role = .reliefMirror) | none => false)))

/-- INT_STATUS (Table 8-15). -/
def intStatus (s : State) : Word :=
  wd (countClusters s (fun c => decide (c.st = 1)) * 2 ^ 19
    + countClusters s (fun c => c.overdueSince.isSome) * 2 ^ 6
    + b2n s.integ.margin * 32 + b2n (mirrorActive s) * 16 + b2n s.integ.dual * 8 + b2n s.integ.resetAt.isSome * 4
    + b2n s.integ.datumNext.isSome * 2 + b2n (s.bitAt U.hub Off.intCtrl 2))

/-- INT_CL_STATE (Table 8-18) of the cluster the session has selected. -/
def intClState (s : State) (sel : Word) : Word :=
  let key := fld sel 12 9 * 272 + fld sel 8 5 * 17 + fld sel 4 0
  let c := s.cluster key
  wd (c.st % 4 * 2 ^ 30 + b2n c.overdueSince.isSome * 2 ^ 29 + b2n (decide (fld sel 4 0 = 16)) * 2 ^ 28
    + sat 3 c.failTimes.length * 2 ^ 24 + sat 1000 c.clean * 2 ^ 14
    + sat 16383 ((s.now - c.lastRound) / (60 * Config.sec)))

/-! ### Pair (Ch. 9) -/

/-- A partner Flash was seen on the path in the last 300 µs (Table 9-14). -/
def flashSeen (s : State) (t : Option Time) : Bool :=
  match t with | some t => decide (s.now ≤ t + 300 * Config.us) | none => false

/-- R256: Preman runs, its cores have agreed, and the sag trigger has not been reached. -/
def flashRuns (s : State) : Bool :=
  decide (2 ≤ s.power.step) && !s.power.recovery && s.pair.flashOk && decide (s.power.llState ≠ 2)

/-- R259: the Relief is armed. -/
def armed (s : State) : Bool :=
  isRelief s && s.pair.harnessClosed && flashRuns s && s.pair.outputLoaded
  && ((match s.pair.outputAt with | some t => decide (s.now ≤ t + 100 * Config.us) | none => false)
      || !(flashSeen s s.pair.flashPairAt || flashSeen s s.pair.flashChainAt))

/-- R254: the Relief is healthy, as its Keeper judges it. -/
def reliefHealthy (s : State) : Bool :=
  isKeeper s && s.pair.harnessClosed &&
  match s.pair.health with
  | some (h, t) =>
    (decide (h.role = .reliefMirror) || decide (h.role = .reliefCold))
    && decide (s.now ≤ t + 2500 * Config.ms)
    && h.flags.getLsbD 0 && h.flags.getLsbD 1 && h.flags.getLsbD 2 && h.flags.getLsbD 5
  | none => false

/-- R252, R352: partner link j is up: link j of slot A meets link j of slot B. -/
def partnerUp (s : State) (j : Nat) : Bool :=
  let l := s.link j
  decide (j < 4) && (s.bitAt U.sys Off.hallCfg 8 || decide (imageOr s (·.modules) ≤ 1)) && decide (l.st = .up) && !l.mismatch && decide (l.peerSlot ≠ s.pair.slot) && decide (l.peerLink = j)

def partnerLinks (s : State) : Nat := (upTo 4).foldl (fun a j => a + b2n (partnerUp s j) * 2 ^ j) 0

/-- PAIR_STATE (Table 9-14). -/
def pairStateReg (s : State) : Word :=
  let p := s.pair
  wd (roleCode p.role * 2 ^ 28 + b2n p.lampOwn * 2 ^ 27 + b2n p.lampOther * 2 ^ 26 + b2n p.stages * 2 ^ 25
    + b2n (armed s) * 2 ^ 24 + b2n (decide (p.slot = .b)) * 2 ^ 23 + b2n p.harnessClosed * 2 ^ 22
    + b2n (flashSeen s p.flashPairAt) * 2 ^ 21 + b2n (flashSeen s p.flashChainAt) * 2 ^ 20 + partnerLinks s * 65536
    + b2n p.idMatch * 2 ^ 15 + b2n (reliefHealthy s) * 2 ^ 14
    + b2n p.handover.isSome * 2 ^ 13
    + b2n p.joinReady * 2 ^ 12 + sat 100 p.resyncPct)

/-- PAIR_HEALTH (Table 9-17). -/
def pairHealthReg (s : State) : Word :=
  match s.pair.health with
  | some (h, t) => wd (h.flags.toNat * 2 ^ 24 + roleCode h.role * 2 ^ 20 + sat 0xFFFF ((s.now - t) / Config.ms))
  | none => 0x0000FFFF

/-! ### Links and hall (Ch. 12) -/

/-- A link the image's hall section names for this module's ordinal, in the route set. -/
def inRoute (s : State) (l set : Nat) : Bool :=
  let ord := s.fldOf U.sys Off.hallCfg 3 0
  match s.seqr.image with
  | some i => decide (1 < i.modules) && i.hall.any (fun h => h.routeSets.getLsbD set &&
      ((decide (h.ordA = ord) && decide (h.linkA = l)) || (decide (h.ordB = ord) && decide (h.linkB = l))))
  | none => false

/-- R346: the root: the Keeper that holds ordinal 0, which a module outside a hall keeps (log entry 30). -/
def isRoot (s : State) : Bool := isKeeper s && decide (s.fldOf U.sys Off.hallCfg 3 0 = 0)

/-- PLL-A cycles (3 GHz) in one array cycle of a clock code. -/
def pllPerArray (clock : Nat) : Nat := if clock = 0 then 4 else if clock = 1 then 5 else 8

/-- R343: TRAINED: the measured delay in array cycles at the clock in force, rounded up, with a guard of 4. -/
def trained (s : State) (l : Nat) : Nat :=
  match (s.link l).delay with | some d => ceilDiv d (pllPerArray s.seqr.clock) + 4 | none => 0

/-- LINK_STATE (Table 12-11). -/
def linkStateReg (s : State) (l : Nat) : Word :=
  let k := s.link l
  wd (linkCode k.st * 2 ^ 28 + k.peerOrd % 16 * 2 ^ 24 + k.peerLink % 32 * 2 ^ 19
    + b2n (decide (k.peerSlot = .b)) * 2 ^ 18 + b2n (partnerUp s l) * 2 ^ 17
    + b2n (decide (s.hall.refLink = some l) && s.hall.locked && !isRoot s) * 2 ^ 16
    + k.peerDepth % 16 * 2 ^ 12 + b2n (inRoute s l s.seqr.routeSet) * 2 ^ 11)

def linkLatReg (s : State) (l : Nat) : Word :=
  let k := s.link l
  wd (sat 0xFFFF (trained s l) * 65536 + (if s.seqr.st = .running then sat 0xFFFF k.pad else 0))

def linkCableReg (s : State) (l : Nat) : Word :=
  let k := s.link l
  wd (k.cableKind % 256 * 2 ^ 24 + k.cableLen % 256 * 65536 + sat 0xFFFF k.cablePower)

/-- R347: the hall count in PLL-A cycles, 3 per nanosecond of module time on a root. -/
def hallCount (s : State) : Nat := ((3 * s.now : Nat) + s.hall.offset).toNat % 2 ^ 64

/-- HALL_STATE (Table 12-13). -/
def hallStateReg (s : State) : Word :=
  let h := s.hall
  let root := isRoot s
  wd ((if root then 0 else h.depth % 16) * 2 ^ 28 + (if root then 0 else h.refLink.getD 0 % 32) * 2 ^ 23 + b2n (root || h.locked) * 2 ^ 22
    + b2n root * 2 ^ 21 + s.seqr.routeSet % 4 * 2 ^ 19 + b2n h.running * 2 ^ 18
    + ((upTo 32).filter (fun l => decide ((s.link l).st = .up))).length * 2 ^ 12)

/-! ### Buoyline (Ch. 13) -/

def blStatusReg (s : State) (c : Nat) : Word :=
  let b := s.bus c
  wd (busCode b.st * 2 ^ 30 + b2n (decide (b.st ≠ .offline) && !s.pair.stages) * 2 ^ 29 + b2n b.recovering * 2 ^ 28 + b.tdcv % 128 * 65536
    + sat 0xFF (b.busOffTimes.filter (fun t => decide (s.now < t + 60 * Config.sec))).length * 256)

def blErrReg (s : State) (c : Nat) : Word :=
  let b := s.bus c
  wd ((if b.st = .busOff then 255 else sat 0xFF b.tec) * 256 + sat 0xFF b.rec_)

/-! ### VCP, time and power -/

/-- VCP_STATE (Table 14-18). -/
def vcpStateReg (s : State) : Word :=
  wd (s.vcp.sessions.length % 128 * 2 ^ 25
    + (s.vcp.sessions.foldl (fun a e => a + e.subs.length) 0) % 2048 * 2 ^ 14 + s.vcp.accepted.length % 2048)

def ptpStateReg (s : State) : Word :=
  wd (s.ptp.st % 16 * 2 ^ 28 + b2n (decide (s.ptp.port = .b)) * 2 ^ 27 + s.ptp.gmClass % 256 * 65536
    + sat 0xFFFF s.ptp.pathDelay)

def pwrStateReg (s : State) : Word :=
  let p := s.power
  wd (p.step % 16 * 2 ^ 28 + p.llState % 4 * 2 ^ 26 + b2n p.prevSaved * 2 ^ 25 + b2n p.prevLog * 2 ^ 24
    + sat 0xFFFF p.bankV)

/-- PWR_DOMAIN (Table 15-11) from the closed gates (Table 15-7). -/
def pwrDomainReg (s : State) : Word :=
  wd (s.power.closed.eraseDups.foldl (fun a d =>
    a + (if d < 16 then 2 ^ (16 + d) else if d < 24 then 2 ^ (d - 8) else if 0x20 ≤ d ∧ d < 0x26 then 2 ^ (d - 0x20 + 2)
         else 0)) 0)

def clkStateReg (s : State) : Word :=
  let src := if s.power.backup then 3 else if !isRoot s && s.hall.locked then 2
    else if s.ptp.st = 1 ∨ s.ptp.st = 2 then 1 else 0
  wd (src * 2 ^ 28 + s.seqr.clock % 4 * 2 ^ 26 + b2n s.power.pllA * 2 ^ 25 + b2n s.power.marginClock * 2 ^ 24
    + tc 16 s.power.steer)

/-- SYS_ID (Table 14-18) of a VXM-2504-F. -/
def sysIdReg : Word := wd (0x2504 * 65536 + 0x0F * 256 + Config.hwRev.toNat)

def hwFanReg (s : State) : Word := wd (s.fans.failed.toNat * 256 + sat 100 s.fans.duty)

def hwTempReg (s : State) : Word := wd (tcSat 16 s.fans.junction * 65536 + tcSat 16 s.fans.inlet)

/-! ### Update, Logbook, mirror -/

def bankVer (b : Bank) : Word := match b.man with | some m => if b.st = .empty then 0 else m.version | none => 0

/-- UPD_STATE.BUSY, [22]: an activation runs until its committed time. -/
def updActivating (s : State) (u : Upd) : Bool := match u.activating with | some t => decide (s.now < t) | none => false

/-- UPD_STATE (Table 16-10). -/
def updStateReg (s : State) (k : Nat) : Word :=
  let u := s.upd k
  wd (bankCode u.bankA.st * 2 ^ 28 + bankCode u.bankB.st * 2 ^ 24 + b2n u.activeB * 2 ^ 23
    + b2n (u.verify.isSome || updActivating s u) * 2 ^ 22 + u.owner.toNat)

def updProgressReg (s : State) (k : Nat) : Word := wd (b2n (s.upd k).table * 2 ^ 31 + (s.upd k).nextChunk % 2 ^ 31)

def updTrialReg (s : State) (k : Nat) : Word := wd ((s.upd k).bootsLeft % 4 * 2 ^ 30 + sat 0xFFFF (s.upd k).healthy)

/-- R455: the anti-rollback counter of an image kind. -/
def counterOf (k : Nat) : Nat := k

def activeBank (u : Upd) : Bank := if u.activeB then u.bankB else u.bankA
def otherBank (u : Upd) : Bank := if u.activeB then u.bankA else u.bankB

def updSecurityReg (s : State) (k : Nat) : Word :=
  wd (mget 0 s.fw.counters (counterOf k) % 256 * 2 ^ 24
    + (match (activeBank (s.upd k)).man with | some m => m.securityVer % 256 | none => 0) * 65536)

/-- Oldest and newest record of the ring (the ring list is newest first). -/
def logNewest (s : State) : Word := match s.log.ring with | r :: _ => r.seq | [] => 0
def logOldest (s : State) : Word := match lastOpt s.log.ring with | some r => r.seq | none => 0
def logOldestPos (s : State) : Word := match lastOpt s.log.ring with | some r => wd r.pos | none => 0

def logStateReg (s : State) : Word :=
  wd (b2n s.log.prevPresent * 2 ^ 31 + b2n s.log.prevLost * 2 ^ 30 + b2n s.log.wrapped * 2 ^ 29 + s.log.used / 8)

/-- The mirrored month m (1 to 12) of the BMU-1. -/
def mirrorMonth (s : State) (m : Nat) : Month := mget {} s.mirror.months m

/-! ### Reading any register -/

/-- GRP_MAP_m of a selection: the members of its class and group (Table 14-18). -/
def grpMap (s : State) (sel : Word) (m : Nat) : Word :=
  wd (mget 0 s.vcp.groups (fld sel 15 12 * 256 + fld sel 7 0) / 2 ^ (32 * m))

/-- Live registers of the system unit; none where the value is stored. -/
def sysView (s : State) (grp : Word) (off : Nat) : Option Word :=
  if off = Off.sysId then some sysIdReg
  else if off = Off.sysSerial then some (wd Config.serial.toNat)
  else if off = Off.sysTimeLo then some (wd s.now)
  else if off = Off.hwFan then some (hwFanReg s)
  else if Off.hwFanSpeed ≤ off ∧ off < Off.hwTemp then
    some (wd (sat 0xFFFF (mget 0 s.fans.rpm ((off - Off.hwFanSpeed) / 4))))
  else if off = Off.hwTemp then some (hwTempReg s)
  else if off = Off.sysMode then some (sysModeReg s)
  else if off = Off.pairState then some (pairStateReg s)
  else if off = Off.pairHealth then some (pairHealthReg s)
  else if 0x400 ≤ off ∧ off < 0x4C0 then
    let k := (off - 0x400) / 0x20
    match (off - 0x400) % 0x20 with
    | 0x00 => some (cardDescReg s k)
    | 0x04 => some (wd (s.card k).serial.toNat)
    | 0x08 => some (cardStateReg s k)
    | _ => none
  else if off = Off.vcpState then some (vcpStateReg s)
  else if off = Off.ptpState then some (ptpStateReg s)
  else if off = Off.ptpOffset then some (wd (tcSat 32 s.ptp.offset))
  else if off = Off.grpSel then some grp
  else if Off.grpMap ≤ off ∧ off < Off.grpMap + 16 then some (grpMap s grp ((off - Off.grpMap) / 4))
  else if off = Off.hallState then some (hallStateReg s)
  else if off = Off.hallCountLo then some (wd (hallCount s))
  else if off = Off.pwrState then some (pwrStateReg s)
  else if off = Off.pwrDomain then some (pwrDomainReg s)
  else if off = Off.clkState then some (clkStateReg s)
  else none

/-- Live registers of a plant loop (R73). -/
def loopView (s : State) (l off : Nat) : Option Word :=
  if off = Off.loopSpActive then some (wd (tc 16 (loopSpActive s l)))
  else if off = Off.loopPv then some (wd (tcSat 16 (loopPv s l)))
  else if off = Off.loopOut then some (wd (tc 16 (loopOut s l)))
  else if off = Off.loopState then some (loopState s l)
  else if off = Off.loopPumpTrip then some (if l = 4 then pumpTripReg s else 0)
  else if Off.loopRack ≤ off then some (loopRack s ((off - Off.loopRack) / 4))
  else none

/-- Live registers of the cap broker (R121). -/
def capView (s : State) (off : Nat) : Option Word :=
  if off = Off.capEnvelope then some (wd s.broker.envelope)
  else if off = Off.capSum then some (wd (capSum s))
  else if off = Off.raStatus then some (raStatus s)
  else if 0x100 ≤ off then
    let r := (off - 0x100) / 0x20
    match (off - 0x100) % 0x20 with
    | 0x04 => some (capRackCap s r)
    | 0x08 => some (wd (s.rack r).grantSeq.toNat)
    | 0x0C => some (capRackState s r)
    | _ => none
  else none

/-- Live registers of a valve channel (R308). -/
def vlvView (s : State) (c off : Nat) : Option Word :=
  if off = Off.vlvStatus then some (vlvStatus s c)
  else if off = Off.vlvDutyUsed then some (wd (sat 0xFFFF (dutyAt s c s.now)))
  else none

/-- Live registers of a motor channel (R332). -/
def motView (s : State) (c off : Nat) : Option Word :=
  if off = Off.motStatus then some (motStatus s c)
  else if off = Off.motSpeed then some (motSpeed s c)
  else if off = Off.motTachCount then some (wd (s.motor c).tachCount)
  else if off = Off.motEncPos then some (motEncPos s c)
  else none

/-- Live registers of an engine die, and of the hub beside them (R151, R153, R222, R251). -/
def dieView (s : State) (sel : Word) (i off : Nat) : Option Word :=
  if off = Off.dieInfo then some (dieInfoReg i)
  else if off = Off.dieState then some (dieStateReg s i)
  else if Off.dieSpare ≤ off ∧ off < Off.diePowerTemp then
    some (if i < 16 then dieSpareReg s i ((off - Off.dieSpare) / 4) else 0)
  else if off = Off.diePowerTemp then some (diePowerReg s i)
  else if i ≠ 24 then none
  else if off = Off.ceStatus then some (wd (s.copies.busy ||| schedBusy s).toNat)
  else if off = Off.ceRingHead then some (wd s.copies.head0)
  else if off = Off.ceRingHead + 0x10 then some (wd s.copies.head1)
  else if off = Off.ceRingHead + 0x20 then some (wd s.copies.head2)
  else if off = Off.ceRingTail then some (wd s.copies.tail0)
  else if off = Off.ceRingTail + 0x10 then some (wd s.copies.tail1)
  else if off = Off.ceRingTail + 0x20 then some (wd s.copies.tail2)
  else if off = Off.trvState then some (trvState s)
  else if off = Off.trvLegLo then some (wd s.seqr.leg)
  else if off = Off.trvCkptLo then some (wd (ckptLeg64 s))
  else if off = Off.trvImage then some (wd (imageOr s (fun i => i.version.toNat)))
  else if off = Off.trvMirrorLo then some (wd (imageOr s (·.mirrorId)))
  else if off = Off.trvGeometry then some (wd (imageOr s (fun i => i.legCycles * 256 + i.permille % 256)))
  else if off = Off.intStatus then some (intStatus s)
  else if off = Off.intClSel then some sel
  else if off = Off.intClState then some (intClState s sel)
  else if off = Off.intDatum then some (wd s.integ.datumVer)
  else none

/-- Live registers of the Benchmark mirror (R505). -/
def bmuView (s : State) (i off : Nat) : Option Word :=
  let m := s.mirror
  if i = 0 then
    if off = Off.bmuId then some (wd (m.legalVer % 65536 * 65536 + m.checksum % 65536))
    else if off = Off.bmuEnergy then some (wd m.energy)
    else if off = Off.bmuVolume then some (wd m.volume)
    else if off = Off.bmuTemp then some (wd (m.tSupply % 65536 * 65536 + m.tReturn % 65536))
    else if off = Off.bmuFlow then some (wd m.flow)
    else if off = Off.bmuPower then some (wd m.power)
    else if off = Off.bmuStatus then some (wd (b2n m.stale * 2 ^ 31 + m.status % 1024))
    else if off = Off.bmuAudit then some (wd (m.audit % 65536 * 65536 + sat 0xFFFF m.errHours))
    else if off = Off.bmuTime then some (wd m.time)
    else if off = Off.bmuRxLo then some (wd m.rxAt)
    else none
  else
    let e := mirrorMonth s i
    if off = Off.bmuMEnergy then some (wd e.energy)
    else if off = Off.bmuMVolume then some (wd e.volume)
    else some (wd e.time)

/-- The register at `off` of unit `u`, as a session that has selected group `grp` and cluster `sel` reads it. Before power
is applied every live register stands at its reset value (log entry 11); that of DIE_INFO and DIE_STATE is the die's own (R151). -/
def regRead (s : State) (grp sel : Word) (u off : Nat) : Word :=
  let i := unitInst u
  let live : Option Word := match unitClass u with
    | 0 => sysView s grp off
    | 1 => vlvView s i off
    | 2 => motView s i off
    | 3 => if i < 64 then (if off = Off.snsValue then some (snsValue s i) else none)
           else if off = Off.plsCount then some (wd (s.pulse (i - 64)).count)
           else if off = Off.plsFlow then some (wd (s.pulse (i - 64)).flow) else none
    | 4 => if off = Off.aoOut then some (wd (sat 0xFFFF (s.analog i).demand))
           else if off = Off.aoStatus then some (aoStatus s i) else none
    | 5 => if off = Off.blStatus then some (blStatusReg s i)
           else if off = Off.blErr then some (blErrReg s i)
           else if off = Off.blFilter then some (wd (b2n (s.bus i).bank * 65536 + (s.bus i).count % 4096))
           else if off = Off.blTxPend then some (wd (s.bus i).pend.toNat) else none
    | 6 => if off = Off.linkState then some (linkStateReg s i)
           else if off = Off.linkLat then some (linkLatReg s i)
           else if off = Off.linkSer then some (wd (s.link i).ser)
           else if off = Off.linkCable then some (linkCableReg s i) else none
    | 7 => if off = Off.beaconState then some (beaconStateReg s i) else none
    | 8 => dieView s sel i off
    | 9 => loopView s i off
    | 10 => capView s off
    | 11 => if off = Off.logOldest then some (logOldest s)
            else if off = Off.logPrevFirst then some (if s.log.prevPresent then s.log.prevFirst else 0)
            else if off = Off.logPrevLast then some (if s.log.prevPresent then s.log.prevLast else 0)
            else if off = Off.logState then some (logStateReg s) else none
    | 12 => if off = Off.updState then some (updStateReg s i)
            else if off = Off.updVerA then some (bankVer (s.upd i).bankA)
            else if off = Off.updVerB then some (bankVer (s.upd i).bankB)
            else if off = Off.updProgress then some (updProgressReg s i)
            else if off = Off.updTrial then some (updTrialReg s i)
            else if off = Off.updSecurity then some (updSecurityReg s i) else none
    | 13 => bmuView s i off
    | 14 => if off = Off.auxState then some (auxState s i)
            else if off = Off.auxCaptureLo then some (wd (s.aux i).capture)
            else if off = Off.auxCount then some (wd (s.aux i).count) else none
    | _ => none
  match live with
  | some v => if s.power.step = 0 ∧ !(unitClass u = 8 ∧ off < Off.dieSpare) then resetVal (regKey u off) else v
  | none =>
    -- WO registers and self-clearing bits read 0 (R7, R152, R278, R333, R364)
    match findReg u off with
    | some r => if r.acc = .wo then 0 else s.reg u off
    | none => 0

/-- A register as the module itself reads it (for Logbook readings, Table 17-4). -/
def regNow (s : State) (u off : Nat) : Word := regRead s 0 0 u off

/-! ### The front panel (Table 2-3) -/

def ledPower (s : State) : Led :=
  if !s.power.busOk then .off else if s.power.mainA && s.power.mainB then .green else .blinkGreen

def ledRole (s : State) : Led := if s.pair.lampOwn then .green else if isRelief s then .blinkGreen else .off

def ledMode (s : State) : Led :=
  match s.plant.mode with
  | .off => .off
  | .run => .green
  | .fallback => .amber
  | .isolate => .amber
  | .commission => .blinkAmber
  | .maintain => .blinkAmber

/-- R454: it blinks in ROM recovery. Where one condition asks for a steady light and another for a blinking one, it blinks (log
entry 52). -/
def ledFault (s : State) : Led :=
  if s.power.recovery || !s.power.fieldA || !s.power.fieldB || !s.pair.harnessClosed then .blinkRed
  else if s.fans.failed ≠ 0 ∨ s.seqr.degraded ∨ s.bitAt U.sys Off.pwrEvents 3 then .red
  else .off

def ledLocate (s : State) : Led := if s.bitAt U.sys Off.hwPanel 0 then .blue else .off

end Sys2Proof.Machine
end

