-- ==== Sys2Proof/Machine/Record.lean ====
section
/-! DEFINITION. Shared operations that report: writing the Logbook (Ch. 17), sending notifications (R413, R414), setting an
event with its notification, and ending an accepted request (R401). -/

namespace Sys2Proof.Machine

open Sys2Proof

/-! ### The mirror (R267) -/

/-- Table 9-8: the Keeper sends an item to its Relief over the partner links, while one is up. -/
def toPartner (i : MirrorItem) (s : State) : State :=
  if isKeeper s && decide (partnerLinks s ≠ 0) then s.emit (.mirror i) else s

/-- The accepted work that waits for its frame. -/
def waitingOf (s : State) : Waiting :=
  { valves := (List.finRange 96).filterMap (fun c => (s.valve c.val).cmd.map (fun k => (c, k))),
    motors := (List.finRange 48).filterMap (fun c => (s.motor c.val).cmd.map (fun k => (c, k))),
    modes := s.plant.modeAsks, releases := s.plant.releaseAsks, caps := s.broker.asks }

/-- Table 9-8: the queue as it will stand after `eff` goes to the Relief, before the reply. -/
def mirrorQueue (eff : State → State) (s : State) : State :=
  if isKeeper s && decide (partnerLinks s ≠ 0) then toPartner (.waiting (waitingOf (eff s))) s else s

/-! ### The service channel (R356 to R359) -/

/-- Hops from every ordinal to `dst` over the image's hall links; 16: no path. -/
def hopsTo (i : Image) (dst : Nat) : List Nat :=
  let relax := fun (d : List Nat) => (upTo 16).map (fun o =>
    i.hall.foldl (fun a h => if h.ordA = o then Nat.min a (d.getD h.ordB 16 + 1) else if h.ordB = o then Nat.min a (d.getD h.ordA 16 + 1) else a)
      (d.getD o 16))
  (upTo 16).foldl (fun d _ => relax d) ((upTo 16).map (fun o => if o = dst then 0 else 16))

/-- The partner as a destination (Table 12-8), and R359's link towards a destination: the lowest UP partner link, or the UP hall
link on the fewest hops, the lowest link number first. -/
abbrev toPartnerOrd : Nat := 0xFE

def linkTowards (s : State) (dst : Nat) : Option Nat :=
  let own := s.fldOf U.sys Off.hallCfg 3 0
  if dst = toPartnerOrd ∨ dst = own then (upTo 4).find? (partnerUp s)
  else match s.seqr.image with
    | none => none
    | some i =>
      let d := hopsTo i dst
      let ends : List (Nat × Nat) := i.hall.filterMap (fun h =>
        if h.ordA = own then some (h.linkA, h.ordB) else if h.ordB = own then some (h.linkB, h.ordA) else none)
      let up := ends.filter (fun e => decide ((s.link e.1).st = .up) && !(s.link e.1).mismatch && decide (d.getD e.2 16 < 16))
      (up.foldl (fun (a : Option (Nat × Nat)) e => match a with
        | some b => if d.getD e.2 16 < d.getD b.2 16 ∨ (d.getD e.2 16 = d.getD b.2 16 ∧ e.1 < b.1) then some e else some b
        | none => some e) none).map (·.1)

/-- Table 12-9: LEG_DIGEST and ACK are not RELIABLE. -/
def reliableType (type : Nat) : Bool := decide (type ≠ 0x12) && decide (type ≠ 0x30)

/-- R356 to R358: a message leaves on its link, with the ACK_SEQ due there, and waits for its own if it is RELIABLE; with no
UP path it is dropped. -/
def sendService (type dst : Nat) (payload : List Nat) (s : State) : State :=
  match linkTowards s dst with
  | none => s
  | some l =>
    let s1 := s.emit (.service type dst payload)
    if reliableType type then
      let id := s.hall.msgId
      let s2 := { s1 with hall.msgId := (id + 1) % 65536 }
      s2.modLink l (fun k =>
        let m : Unacked := { type := type, seq := (k.txSeq + 1) % 2 ^ 32, msgId := id, dst := dst, payload := payload, sentAt := s.now }
        { k with txSeq := (k.txSeq + 1) % 2 ^ 32, unacked := k.unacked ++ [m], ackDue := none })
    else s1.modLink l (fun k => { k with ackDue := none })

/-- A HALL_CTRL message of ordinal 0 to every other ordinal of the image. -/
def sendHall (payload : List Nat) (s : State) : State :=
  (upTo (imageOr s (·.modules))).foldl (fun a o => if o = 0 then a else sendService 0x10 o payload a) s

/-! ### The Logbook -/

/-- Table 17-2 codes. -/
abbrev Log.pad : Nat := 0x0000
abbrev Log.action : Nat := 0x0001
abbrev Log.actionAfter : Nat := 0x0002
abbrev Log.revoke : Nat := 0x0003
abbrev Log.dropped : Nat := 0x0004
abbrev Log.override : Nat := 0x0005
abbrev Log.loopTrace : Nat := 0x0010
abbrev Log.integrity : Nat := 0x0020
abbrev Log.parity : Nat := 0x0021
abbrev Log.saturated : Nat := 0x0022
abbrev Log.session : Nat := 0x0030
abbrev Log.outcome : Nat := 0x0031
abbrev Log.timeStep : Nat := 0x0040
abbrev Log.lastLight : Nat := 0x0041
abbrev Log.gap : Nat := 0x7FFE
abbrev Log.previousLife : Nat := 0x7FFF

/-- Table 17-3 ACTION codes. -/
abbrev Act.set : Nat := 1
abbrev Act.energise : Nat := 2
abbrev Act.release : Nat := 3
abbrev Act.testPulse : Nat := 4
abbrev Act.run : Nat := 5
abbrev Act.stop : Nat := 6
abbrev Act.stage : Nat := 7
abbrev Act.grant : Nat := 8
abbrev Act.beacon : Nat := 9
abbrev Act.mode : Nat := 10
abbrev Act.band : Nat := 11
abbrev Act.provisional : Nat := 12
abbrev Act.leakStage : Nat := 13

/-- The two spans share a byte. -/
def overlaps (p l p' l' : Nat) : Bool := decide (p < p' + l') && decide (p' < p + l)

/-- R478: the record is placed at `pos`; older records it overwrites leave the ring first. The first overwriting since
start-up sets WRAPPED. -/
def logPlace (pos len type : Nat) (mirrored : Bool) (time : Time) (body : LogBody) (s : State) : State :=
  let keep := s.log.ring.filter (fun r => !overlaps r.pos r.length pos len)
  let gone := s.log.ring.filter (fun r => overlaps r.pos r.length pos len)
  let freed := gone.foldl (fun a r => a + r.length) 0
  let first := !gone.isEmpty && !s.log.wrapped
  let rec_ : LogRec := { seq := s.log.nextSeq, type, mirrored, length := len, time, pos, body }
  let s1 := { s with log := { s.log with
    ring := rec_ :: keep, nextSeq := s.log.nextSeq + 1,
    nextPos := if pos + len = Config.logRing then 0 else pos + len,
    used := s.log.used - freed + len, wrapped := s.log.wrapped || !gone.isEmpty,
    prevPresent := s.log.prevPresent && keep.any (fun r => decide (r.seq = s.log.prevLast)) } }
  if first then s1.setEvent U.log Off.logEvents 1 else s1

/-- R486: the length of a text line [byte]: 97 for a record (8, 4, 16 and 64 digits, three spaces, CR LF), and for a skip "SKIP",
a space, the number, and CR LF. -/
def txLen : TxLine → Nat
  | .record _ => 97
  | .skip n => 7 + (toString n).length

/-- R486: the text waiting [byte]. -/
def txBytes (l : List TxLine) : Nat := l.foldl (fun a x => a + txLen x) 0

/-- The records among waiting lines. -/
def txRecords (l : List TxLine) : Nat :=
  l.foldl (fun a x => match x with | .record _ => a + 1 | .skip n => a + n) 0

/-- R486: the text line of a record waits for AUX_14; beyond 64 KiB the waiting lines are discarded for a SKIP line. -/
def logTx (s : State) : State :=
  if (s.aux 14).func = 7 ∧ (s.aux 14).switching.isNone then
    let l := s.log.txLines ++ [.record (s.log.nextSeq - 1)]
    if 65536 < txBytes l then
      ({ s with log := { s.log with txLines := [.skip (txRecords l)], txSent := 0 } }).setEvent U.log Off.logEvents 3
    else { s with log := { s.log with txLines := l } }
  else s

/-- R471: a record that does not fit before the end, or would end 8 bytes before it, follows a PAD record. R486: its text line
goes to LOG_TX. -/
def logPut (type len : Nat) (mirrored : Bool) (time : Time) (body : LogBody) (s : State) : State :=
  let pos := s.log.nextPos
  logTx (if Config.logRing < pos + len ∨ pos + len + 8 = Config.logRing then
      logPlace 0 len type mirrored time body (logPlace pos (Config.logRing - pos) Log.pad false s.now .pad s)
    else logPlace pos len type mirrored time body s)

/-- Table 11-10: at 115 200 baud, 8N1, a byte takes 10 bit times, so that no more than one line ends in a frame: the first
waiting line leaves once all its bits have been sent. -/
def sendLine (s : State) : State :=
  match s.log.txLines with
  | x :: t =>
    let need := txLen x * 10 * Config.sec
    if need ≤ s.log.txSent then
      ({ s with log := { s.log with txLines := t, txSent := if t = [] then 0 else s.log.txSent - need } }).emit (.logLine x)
    else s
  | [] => s

/-- R486: what one card-bus frame sends on AUX_14. -/
def frameTx (s : State) : State :=
  if (s.aux 14).func = 7 ∧ s.log.txLines ≠ [] then
    sendLine { s with log.txSent := s.log.txSent + Config.frameNs * 115200 }
  else s

/-- Record length: header and body, rounded up to 8 bytes (Table 17-1). -/
def recLen (body : Nat) : Nat := (16 + body + 7) / 8 * 8

/-- R479: a GAP record precedes the next record of a writer that lost some. -/
def logGap (deck : Bool) (s : State) : State :=
  let n := if deck then s.log.gapDeck else s.log.gapPreman
  if n = 0 then s
  else
    let s1 := logPut Log.gap (recLen 8) false s.now (.words [b2n deck, n])
      { s with log := if deck then { s.log with gapDeck := 0 } else { s.log with gapPreman := 0 } }
    toPartner (.logRecord Log.gap s.now (recLen 8) (s1.log.nextSeq - 1) (.words [b2n deck, n])) s1

/-- R477, R479: submit a record. A record that finds its queue full, or only Preman's reserve left, is dropped and counted.
The queues empty at every card-bus frame (log entry 14). -/
def logSubmit (deck reserved : Bool) (type bodyLen : Nat) (time : Time) (body : LogBody) (s : State) : State :=
  let len := recLen bodyLen
  let q := if deck then s.log.deckQ else s.log.premanQ
  let room := if deck || reserved then Config.logQueue else Config.logQueue - Config.logReserve
  if room < q + len then
    let s1 := if deck then { s with log.gapDeck := s.log.gapDeck + 1 } else { s with log.gapPreman := s.log.gapPreman + 1 }
    let s2 := if deck then s1.addCount U.log Off.logDrop 31 16 1 else s1.addCount U.log Off.logDrop 15 0 1
    s2.setEvent U.log Off.logEvents 2
  else
    let s1 := logGap deck s
    let s2 := if deck then { s1 with log.deckQ := s1.log.deckQ + len } else { s1 with log.premanQ := s1.log.premanQ + len }
    let s3 := logPut type len false time body s2
    toPartner (.logRecord type time len (s3.log.nextSeq - 1) body) s3

/-- Table 17-4: what an action record of a unit reads. -/
def readingsOf (s : State) (u rack : Nat) : List (Nat × Nat × Word) :=
  let rd := fun (v o : Nat) => (v, o, regNow s v o)
  match unitClass u with
  | 1 => [rd u Off.vlvStatus, rd u Off.vlvLast, rd u Off.vlvDutyUsed]
  | 2 => [rd u Off.motStatus, rd u Off.motSpeed]
  | 4 =>
    let l := s.fldOf u Off.aoCfg 15 8
    if l < 4 then [rd u Off.aoStatus, rd (U.loop l) Off.loopPv] else [rd u Off.aoStatus]
  | 9 =>
    [rd u Off.loopSpActive, rd u Off.loopPv,
     if u = U.loop 2 ∧ rack < 16 then rd u (Off.loopRack + 4 * rack) else rd u Off.loopOut, rd u Off.loopState]
  | 10 =>
    if rack < 16 then
      [rd u (Off.capRackCap + 0x20 * rack), rd u (Off.capRackState + 0x20 * rack), rd u Off.capSum, rd u Off.capEnvelope]
    else [rd u Off.capSum, rd u Off.capEnvelope]
  | 7 => [rd u Off.beaconState]
  | 0 => [rd u Off.sysMode, rd (U.loop 0) Off.loopPv, rd (U.loop 1) Off.loopPv]
  | _ => []

/-- R475: an ACTION_AFTER record falls due 100 ms after the frame of the action at time t; `seq` names the action's record. -/
def afterDue (t : Time) (seq : BitVec 32) (body : ActionBody) (s : State) : State :=
  { s with log.after := s.log.after ++ [{ due := t / Config.frameNs * Config.frameNs + 100 * Config.ms, seq, body }] }

/-- R475: the records that an ACTION_AFTER record follows. -/
def hasAfter (type : Nat) : Bool := [Log.action, Log.revoke, Log.override].elem type

/-- R482: a record of the Keeper in the Relief's ring: its own SEQ, the original TIME, and an 8-byte prefix. -/
def logMirrored (type len : Nat) (time : Time) (seq : BitVec 32) (slot : SlotId) (body : LogBody) (s : State) : State :=
  if 4096 < len + 8 then
    ({ s with log := { s.log with gapPreman := s.log.gapPreman + 1 } }.addCount U.log Off.logDrop 15 0 1).setEvent U.log Off.logEvents 2
  else
    let s1 := logPut type (len + 8) true time (.mirrored seq slot body) s
    match body with
    | .action b => if hasAfter type then afterDue time (s1.log.nextSeq - 1) b s1 else s1
    | _ => s1

/-- The start of the card-bus frame in progress. -/
def frameStart (s : State) : Time := s.frame * Config.frameNs

/-- R474, R475: an ACTION, REVOKE or OVERRIDE record with the readings of the frame, and its ACTION_AFTER record falling
due 100 ms after the frame. `rack` is 16 where no rack is concerned. -/
def logActionAs (type u source action : Nat) (rack : Nat) (old new : Int) (causeSeq raId link : BitVec 32)
    (s : State) : State :=
  let readings := readingsOf s u rack
  let body : ActionBody :=
    { unit := u, source, action, causeSeq, raId, linkSeq := link, leg := s.seqr.leg, old, new, readings }
  let n := s.log.ring.length
  let s1 := logSubmit false true type (0x28 + 8 * readings.length) s.now (.action body) s
  if s1.log.ring.length = n ∧ s1.log.nextSeq = s.log.nextSeq then s1
  else if hasAfter type then afterDue (frameStart s) (s1.log.nextSeq - 1) body s1 else s1

/-- An ACTION record without run-ahead ID. -/
def logAction (u source action rack : Nat) (old new : Int) (causeSeq : BitVec 32 := 0) (s : State) : State :=
  logActionAs Log.action u source action rack old new causeSeq 0 0 s

/-- A DROPPED record: an action body without readings (Table 17-2). -/
def logDropped (u source action : Nat) (old new : Int) (s : State) : State :=
  logSubmit false false Log.dropped 0x28 s.now
    (.action { unit := u, source, action, leg := s.seqr.leg, old, new }) s

/-- A record whose body is a list of numbers. -/
def logWords (type bodyLen : Nat) (ws : List Nat) (s : State) : State :=
  logSubmit false false type bodyLen s.now (.words ws) s

/-! ### Notifications -/

/-- R413: the session holds an EVENTS subscription to the unit. -/
def subscribed (e : Session) (u : Nat) : Bool := e.subs.any (fun b => b.events && decide (b.unit = u))

/-- An outcome notification is told from an event by EVENT_REG = 0xFFFF (Table 14-12). -/
def isOutcome (n : Notify) : Bool := decide (n.eventReg = 0xFFFF)

/-- R413: an event notification joins the queue of a session, or is dropped and counted. -/
def enqueueEvent (n : Notify) (e : Session) : Session :=
  if subscribed e n.unit then
    if (e.queue.filter (fun m => !isOutcome m)).length < Config.notifyQueue then { e with queue := e.queue ++ [n] }
    else { e with dropped := e.dropped + 1 }
  else e

/-- Some session has to drop it. -/
def dropsEvent (n : Notify) (e : Session) : Bool :=
  subscribed e n.unit && decide (Config.notifyQueue ≤ (e.queue.filter (fun m => !isOutcome m)).length)

/-- R413: notify an event to every session subscribed to its unit. -/
def notifyEvent (n : Notify) (s : State) : State :=
  let s1 := { s with vcp.sessions := s.vcp.sessions.map (enqueueEvent n) }
  if s.vcp.sessions.any (dropsEvent n) then s1.setEvent U.sys Off.vcpEvents 3 else s1

/-- Set an event bit and notify it with a status (R413, R414). -/
def eventWith (st : Status) (code : Nat) (detail : Option Nat) (u off bit : Nat) (s : State) : State :=
  notifyEvent { unit := u, status := st, time := s.now, eventReg := off, eventBit := bit, code, detail } (s.setEvent u off bit)

/-- Set an event bit and notify it with status OK. -/
def event (u off bit : Nat) (s : State) : State := eventWith .ok 0 none u off bit s

/-- R414: each waiting notification leaves with the session's next NOTIFY_SEQ, DROPPED with the first. -/
def drainSession (e : Session) : Session × List Out :=
  let maxMajor1 := decide (e.major = 1) || !e.caps.getLsbD 6
  let out := e.queue.foldl (fun (a : List Out × Nat × Nat) n =>
    let n' := if maxMajor1 then { n with detail := none } else n
    (.notify e.id a.2.1 a.2.2 n' :: a.1, a.2.1 + 1, 0)) ([], e.notifySeq, e.dropped)
  if e.queue.isEmpty then (e, [])
  else ({ e with queue := [], notifySeq := out.2.1, dropped := 0 }, out.1)

/-- R391: the notifications a session is sent are records of its association. -/
def countSent (ss : List Session) (a : Assoc) : Assoc :=
  match ss.find? (fun e => decide (e.assoc = a.id)) with
  | some e => { a with records := a.records + e.queue.length }
  | none => a

/-- R413: all waiting notifications leave; they do so at every card-bus frame (log entry 15). -/
def drainNotify (s : State) : State :=
  let outs := (s.vcp.sessions.map (fun e => (drainSession e).2)).foldl (fun a o => o ++ a) []
  { s with vcp.sessions := s.vcp.sessions.map (fun e => (drainSession e).1), vcp.assocs := s.vcp.assocs.map (countSent s.vcp.sessions),
           outbox := outs ++ s.outbox }

/-! ### Accepted requests -/

/-- The accepted request of an origin. -/
def isOrigin (o : Origin) (a : Accepted) : Bool :=
  decide (a.origin.identity = o.identity) && decide (a.origin.sequence = o.sequence)

/-- R401: the session an outcome goes to: the one that sent the request while it is open, else another of the identity. -/
def outcomeSession (s : State) (o : Origin) : Option (BitVec 16) :=
  match s.vcp.sessions.find? (fun e => decide (e.id = o.session) && decide (e.identity = o.identity)) with
  | some e => some e.id
  | none => (s.vcp.sessions.find? (fun e => decide (e.identity = o.identity))).map (·.id)

/-- Give a notification to one session. -/
def notifySession (sid : BitVec 16) (n : Notify) (s : State) : State :=
  { s with vcp.sessions := s.vcp.sessions.map (fun e => if e.id = sid then { e with queue := e.queue ++ [n] } else e) }

/-- R271: the outcome of an inherited request goes to each session of its client identity, and to those opened within 10 s of the claim. -/
def handOver (identity : Nat) (n : Notify) (s : State) : State :=
  { s with vcp := { s.vcp with
    sessions := s.vcp.sessions.map (fun e => if e.identity = identity then { e with queue := e.queue ++ [n] } else e),
    handed := (identity, n) :: s.vcp.handed } }

/-- R401: end an accepted request with its one outcome notification. An origin that holds no accepted request changes
nothing. -/
def endRequest (o : Origin) (st : Status) (s : State) : State :=
  match s.vcp.accepted.find? (isOrigin o) with
  | none => s
  | some a =>
    let n : Notify := { unit := a.unit, status := st, time := s.now, causeSeq := o.sequence, tag := a.tag }
    let kept := s.vcp.kept.map (fun k =>
      if k.identity = o.identity ∧ k.sequence = o.sequence then { k with outcome := some n } else k)
    let s1 := toPartner (.commandEnd o.identity o.sequence st)
      { s with vcp := { s.vcp with accepted := s.vcp.accepted.filter (fun b => !isOrigin o b), kept := kept } }
    if a.inherited && (outcomeSession s o).isSome then handOver o.identity n s1
    else match outcomeSession s o with
    | some sid => notifySession sid n s1
    | none =>
      let s2 := if a.inherited then handOver o.identity n s1 else s1
      logWords Log.outcome 48 [o.sequence.toNat, statusCode st, a.tag.toNat, s.now, o.identity] s2

/-- End the request of a channel command, if the channel had one of a client (the channel no longer holds it). A request
that commands a group completes with its last channel (R302). -/
def endChanCmd (c : Option ChanCmd) (st : Status) (s : State) : State :=
  match c with
  | some k => if st = .completed ∧ originBusy s k.origin then s else endRequest k.origin st s
  | none => s

end Sys2Proof.Machine
end

