-- ==== Sys2Proof/Machine/ArithOps.lean ====
section
/-! DEFINITION. Arithmetic of the engine (Ch. 6) and the closure digests (R223, R224): element formats, block partials,
placement on the window, contributions, the one rounding of the readout, and residues. Every function is exact. -/

namespace Sys2Proof.Machine

open Sys2Proof

/-! ### Element formats (Table 6-1) -/

/-- Width of an element code [bit]. -/
def fmtWidth : Fmt → Nat
  | .mxfp4 => 4 | .e2m3 => 6 | .e3m2 => 6 | .e4m3 => 8 | .e5m2 => 8 | .mxint8 => 8 | .bf16 => 16

/-- Mantissa field M [bit]; 0 where the format has none. -/
def fmtMan : Fmt → Nat
  | .mxfp4 => 1 | .e2m3 => 3 | .e3m2 => 2 | .e4m3 => 3 | .e5m2 => 2 | .mxint8 => 0 | .bf16 => 7

/-- Exponent bias. -/
def fmtBias : Fmt → Int
  | .mxfp4 => 1 | .e2m3 => 1 | .e3m2 => 3 | .e4m3 => 7 | .e5m2 => 15 | .mxint8 => 0 | .bf16 => 127

/-- The quantum's exponent q. -/
def fmtQuantum : Fmt → Int
  | .mxfp4 => -1 | .e2m3 => -3 | .e3m2 => -4 | .e4m3 => -9 | .e5m2 => -16 | .mxint8 => -6 | .bf16 => -133

/-- emax of an MX format. -/
def fmtEmax : Fmt → Int
  | .mxfp4 => 2 | .e2m3 => 2 | .e3m2 => 4 | .e4m3 => 8 | .e5m2 => 15 | .mxint8 => 0 | .bf16 => 127

/-- The code of the largest finite magnitude. -/
def fmtMax : Fmt → Nat
  | .mxfp4 => 0x7 | .e2m3 => 0x1F | .e3m2 => 0x1F | .e4m3 => 0x7E | .e5m2 => 0x7B | .mxint8 => 0x7F | .bf16 => 0x7F7F

/-- The format comes in blocks of 32 with a scale (R155). -/
def fmtIsMx (f : Fmt) : Bool := decide (f ≠ .bf16)

/-- Table 6-1, last column: the code is NaN or infinity. -/
def nonFinite (f : Fmt) (c : Nat) : Bool :=
  match f with
  | .e4m3 => decide (c % 128 = 127)
  | .e5m2 => decide (124 ≤ c % 128)
  | .bf16 => decide (c / 128 % 256 = 255)
  | _ => false

/-- R156: sign, and the significand with its exponent, of a floating code with M mantissa and `w` bits. -/
def floatParts (w man : Nat) (bias : Int) (c : Nat) : Int × Int :=
  let e := c / 2 ^ man % 2 ^ (w - 1 - man)
  let f := c % 2 ^ man
  let sig : Nat := if e = 0 then f else 2 ^ man + f
  let neg := decide (c / 2 ^ (w - 1) % 2 = 1)
  (if neg then -(sig : Int) else sig, (Nat.max e 1 : Nat) - bias - man)

/-- R156: the integer m of an element in units of 2^q. -/
def elemInt (f : Fmt) (c : Nat) : Int :=
  match f with
  | .mxint8 => sgn 8 c
  | f =>
    let p := floatParts (fmtWidth f) (fmtMan f) (fmtBias f) c
    p.1 * (2 ^ (p.2 - fmtQuantum f).toNat : Nat)

/-! ### Partials (R159 to R164) -/

/-- Σ a_i × b_i. -/
def dot (a b : List Int) : Int := (List.zipWith (· * ·) a b).foldl (· + ·) 0

/-- A partial (S, e); none: NONFINITE (R161, R164). -/
def partialOf (p : PartialIn) : Option (Int × Int) :=
  match p with
  | .mx fa fb a b xa xb =>
    if xa = 255 ∨ xb = 255 ∨ a.any (nonFinite fa) ∨ b.any (nonFinite fb) then none
    else some (dot (a.map (elemInt fa)) (b.map (elemInt fb)),
      (xa : Int) - 127 + ((xb : Int) - 127) + fmtQuantum fa + fmtQuantum fb)
  | .bf16 a b =>
    if nonFinite .bf16 a || nonFinite .bf16 b then none
    else
      let x := floatParts 16 7 127 a
      let y := floatParts 16 7 127 b
      some (x.1 * y.1, x.2 + y.2)
  | .lane _ _ _ => none
  | .vacc w => if w / 2 ^ 23 % 256 = 255 then none else some (floatParts 32 23 127 w)

/-- R165: place a partial on the window with floor `f`: the value in units of 2^f, CLAMPED, INEXACT. -/
def place (s e f : Int) : Int × Bool × Bool :=
  if s = 0 then (0, false, false)
  else if f ≤ e then
    let k := (e - f).toNat
    if 255 < k ∨ 2 ^ (255 - k) ≤ s.natAbs then (if 0 < s then (2 ^ 255 : Nat) else -(2 ^ 255 : Nat), true, false)
    else (s * (2 ^ k : Nat), false, false)
  else
    let d := (f - e).toNat
    let q := s / (2 ^ d : Nat)
    let rem := s % (2 ^ d : Nat)
    let half : Int := (2 ^ (d - 1) : Nat)
    (if half < rem ∨ (rem = half ∧ q % 2 = 1) then q + 1 else q, false, decide (rem ≠ 0))

/-! ### The long accumulator (R166 to R170) -/

/-- R166, R167: an accumulator with its residue (R183) and sticky flags, and whether a contribution record failed its check. -/
structure Acc where
  sum : Int := 0
  count : Nat := 0
  /-- r(A), carried beside A: the residues of what was added (Table 6-7). -/
  residue : Nat := 0
  nonfinite : Bool := false
  clamped : Bool := false
  inexact : Bool := false
  /-- Sending clusters of records that failed R170, and whether the residue was what differed. -/
  bad : List (ClusterAt × Bool) := []
deriving DecidableEq, Repr

/-- R183: the residue of an integer. -/
def res7 (x : Int) : Nat := (x % 7).toNat

/-- The residue of a value shifted left by k: 2³ = 8 ≡ 1 (mod 7). -/
def resShift (r k : Nat) : Nat := r * 2 ^ (k % 3) % 7

/-- R183, R184: the relation of one row of Table 6-7; 0b111 is never valid. -/
def residueHolds (c : ResidueCheck) : Bool :=
  match c with
  | .product a b r => decide (r ≠ 7) && decide (r = (List.zipWith (fun x y => res7 x * res7 y) a b).foldl (· + ·) 0 % 7)
  | .left r k out => decide (r ≠ 7) && decide (out = resShift r k)
  | .right r q rem d => decide (r ≠ 7) && decide (r = (resShift (res7 q) d + res7 rem) % 7)
  | .clamp neg out => decide (out = if neg then 6 else 1)
  | .accumulate placed contribs r =>
    placed.all (fun x => decide (x < 7)) && contribs.all (fun x => decide (x < 7)) && decide (r = (placed ++ contribs).foldl (· + ·) 0 % 7)
  | .readout r a => decide (r = res7 a)
  | .final r m j rest => decide (r ≠ 7) && decide (r = (resShift (res7 m) j + res7 rest) % 7)

/-- One partial is placed and added. -/
def addPartial (f : Int) (a : Acc) (p : PartialIn) : Acc :=
  match partialOf p with
  | none => { a with nonfinite := true, count := a.count + 1 }
  | some (s, e) =>
    let v := place s e f
    { a with sum := a.sum + v.1, count := a.count + 1, residue := (a.residue + res7 v.1) % 7, clamped := a.clamped || v.2.1, inexact := a.inexact || v.2.2 }

/-- R170: a contribution record is checked, then added with no shift and no rounding. -/
def addContrib (f : Int) (a : Acc) (c : Contribution) : Acc :=
  if c.floor ≠ f ∨ c.residue ≠ res7 c.sum ∨ 4294967295 < a.count + c.count then
    { a with bad := (c.src, decide (c.residue ≠ res7 c.sum)) :: a.bad }
  else { a with
    sum := a.sum + c.sum, count := a.count + c.count, residue := (a.residue + c.residue) % 7, nonfinite := a.nonfinite || c.nonfinite,
    clamped := a.clamped || c.clamped, inexact := a.inexact || c.inexact }

/-- What reaches an accumulator in one reduction, from the value it holds (R167, R168). -/
def reduceFrom (f : Int) (a : Acc) (w : ElemWork) : Acc := w.contribs.foldl (addContrib f) (w.parts.foldl (addPartial f) a)

/-- One reduction from the start state of R167. -/
def reduce (f : Int) (w : ElemWork) : Acc := reduceFrom f {} w

/-- An accumulator's place in a leg's file: 64 in each cluster (Table 5-3). -/
def accKey (w : ElemWork) : Nat := clKey w.unit * 64 + w.acc.val

/-- R168: an element is reduced in its accumulator and read out, which keeps the accumulator or clears it. -/
def readElem (f : Int) (file : IMap Acc) (w : ElemWork) : Acc × IMap Acc :=
  let a := reduceFrom f (mget {} file (accKey w)) w
  (a, mset {} file (accKey w) (if w.keep then a else {}))

/-- The elements of a tensor in order. -/
def readElems (f : Int) (file : IMap Acc) (l : List ElemWork) : List Acc × IMap Acc :=
  match l with
  | [] => ([], file)
  | w :: t =>
    let r := readElem f file w
    let rest := readElems f r.2 t
    (r.1 :: rest.1, rest.2)

/-! ### Final conversion (R171 to R176) -/

/-- Round a non-negative integer over 2^d to nearest, ties to even. -/
def rne (m d : Nat) : Nat :=
  let q := m / 2 ^ d
  let r := m % 2 ^ d
  if d = 0 then m else if 2 ^ (d - 1) < r ∨ (r = 2 ^ (d - 1) ∧ q % 2 = 1) then q + 1 else q

/-- `m` × 2^g rounded to an integer, to nearest with ties to even. -/
def roundScaled (m : Nat) (g : Int) : Nat := if 0 ≤ g then m * 2 ^ g.toNat else rne m (-g).toNat

/-- The magnitude code of `m` × 2^g in a floating format with `man` mantissa bits: one rounding, subnormals kept; not yet held
at the largest finite code. -/
def roundMag (man : Nat) (bias : Int) (m : Nat) (g : Int) : Nat :=
  if m = 0 then 0
  else
    let x := (Nat.log2 m : Int) + g
    let e := if x < 1 - bias then 1 - bias else x
    (e + bias - 1).toNat * 2 ^ man + roundScaled m (g - (e - man))

/-- R172: A held inside the 256-bit window. -/
def satAcc (a : Int) : Int := clampI (-(2 ^ 255 : Nat)) ((2 ^ 255 : Nat) - 1) a

/-- Round to a signed floating code held at `top`: the code and SAT. -/
def toFloat (width man : Nat) (bias : Int) (top : Nat) (v g : Int) : Nat × Bool :=
  let c := roundMag man bias v.natAbs g
  let m := if top < c then top else c
  ((if v < 0 ∧ m ≠ 0 then 2 ^ (width - 1) + m else m), decide (top < c))

/-- R174: one element of an MX block: `v` × 2^g. A total of 0, or one that rounds to 0, takes the code of +0 (R173). -/
def toElem (f : Fmt) (v g : Int) : Nat × Bool :=
  match f with
  | .mxint8 =>
    let r := roundScaled v.natAbs (g + 6)
    let m : Nat := if 127 < r then 127 else r
    (tc 8 (if v < 0 then -(m : Int) else m), decide (127 < r))
  | f => toFloat (fmtWidth f) (fmtMan f) (fmtBias f) (fmtMax f) v g

/-- R174: the scale exponent of a block from its largest total. -/
def blockExp (f : Fmt) (mmax : Nat) (floor : Int) : Int × Bool :=
  let x := (Nat.log2 mmax : Int) + floor - fmtEmax f
  if 127 < x then (127, true) else if x < -127 then (-127, false) else (x, false)

/-- R174, R175: one MX output block: scale byte, element codes, SAT. -/
def mxBlock (f : Fmt) (floor : Int) (accs : List Acc) : Nat × List Nat × Bool :=
  if accs.any (·.nonfinite) then (0xFF, accs.map (fun _ => 0), false)
  else
    let v := accs.map (fun a => satAcc a.sum)
    let cut := accs.any (fun a => decide (satAcc a.sum ≠ a.sum))
    let mmax := v.foldl (fun m x => Nat.max m x.natAbs) 0
    if mmax = 0 then (0, v.map (fun _ => 0), cut)
    else
      let x := blockExp f mmax floor
      let es := v.map (fun t => toElem f t (floor - x.1))
      ((x.1 + 127).toNat, es.map (·.1), cut || x.2 || es.any (·.2))

/-- R171 to R175: one FP32 or BF16 output, and SAT. -/
def scalarOut (width man : Nat) (top nan : Nat) (floor : Int) (a : Acc) : Nat × Bool :=
  if a.nonfinite then (nan, false)
  else
    let v := satAcc a.sum
    let r := toFloat width man 127 top v floor
    (r.1, r.2 || decide (v ≠ a.sum))

/-! ### Bytes (R158, R169) -/

/-- `n` bytes of a number, little-endian. -/
def leBytes (n v : Nat) : List Nat := (upTo n).map (fun i => v / 256 ^ i % 256)

/-- Codes of width `w` as one little-endian bit string. -/
def packBits (w : Nat) (l : List Nat) : Nat := l.foldr (fun c a => a * 2 ^ w + c % 2 ^ w) 0

/-- Table 6-3: a contribution record's 64 bytes. -/
def contribBytes (floor : Int) (a : Acc) : List Nat :=
  leBytes 36 (tc 288 a.sum) ++ leBytes 2 (tc 16 floor) ++ [a.residue]
    ++ [4 * b2n a.nonfinite + 2 * b2n a.clamped + b2n a.inexact] ++ leBytes 4 a.count ++ List.replicate 20 0

/-- The list in pieces of 32. -/
def blocks32 {α : Type} (fuel : Nat) (l : List α) : List (List α) :=
  match fuel with
  | 0 => []
  | n + 1 => match l with | [] => [] | l => l.take 32 :: blocks32 n (l.drop 32)

/-- A tensor as it is written to hub SRAM: elements, then scales (log entry 21), and SAT. -/
def tensorOut (fmt : OutFmt) (floor : Int) (accs : List Acc) : List Nat × Bool :=
  match fmt with
  | .raw => (accs.foldr (fun a b => contribBytes floor a ++ b) [], false)
  | .fp32 =>
    let o := accs.map (scalarOut 32 23 0x7F7FFFFF 0x7FC00000 floor)
    (o.foldr (fun a b => leBytes 4 a.1 ++ b) [], o.any (·.2))
  | .elem .bf16 =>
    let o := accs.map (scalarOut 16 7 0x7F7F 0x7FC0 floor)
    (o.foldr (fun a b => leBytes 2 a.1 ++ b) [], o.any (·.2))
  | .elem f =>
    let o := (blocks32 accs.length accs).map (mxBlock f floor)
    (o.foldr (fun b a => leBytes (4 * fmtWidth f) (packBits (fmtWidth f) b.2.1) ++ a) [] ++ o.map (·.1), o.any (fun b => b.2.2))

/-! ### Closure digests -/

/-- R223: p = 2⁶¹ − 1. -/
def digestP : Nat := 2 ^ 61 - 1

/-- 32-bit little-endian words of a byte string, padded with zero bytes. -/
def leWords (fuel : Nat) (l : List Nat) : List Nat :=
  match fuel with
  | 0 => []
  | n + 1 => match l with
    | [] => []
    | l => (l.getD 0 0 + 256 * l.getD 1 0 + 65536 * l.getD 2 0 + 16777216 * l.getD 3 0) :: leWords n (l.drop 4)

/-- Σ (j + 1) × u_j, from index j. -/
def weighted (j : Nat) (l : List Nat) : Nat := match l with | [] => 0 | u :: t => (j + 1) * u + weighted (j + 1) t

/-- R223: the closure digest of a byte string. -/
def byteDigest (l : List Nat) : Nat := weighted 0 (leWords l.length l) % digestP

/-- R224: the closure digest of accumulator values from element index k on. -/
def accDigest (k : Nat) (l : List Int) : Nat :=
  match l with
  | [] => 0
  | a :: t => ((k + 1) * (a % (digestP : Int)).toNat + accDigest (k + 1) t) % digestP

/-! ### A leg's arithmetic -/

/-- One output tensor computed: its reductions, bytes and flags. -/
structure TensorDone where
  commit : Bool
  number : Nat
  bytes : List Nat
  /-- Table 6-8. -/
  flags : BitVec 4
  bad : List (ClusterAt × Bool)
deriving DecidableEq, Repr

/-- Table 6-5: OUT_FORMAT. -/
def outFmtOf (n : Nat) : Option OutFmt :=
  match n with
  | 1 => some (.elem .mxfp4) | 2 => some (.elem .e2m3) | 3 => some (.elem .e3m2) | 4 => some (.elem .e4m3) | 5 => some (.elem .e5m2)
  | 6 => some (.elem .mxint8) | 7 => some (.elem .bf16) | 8 => some .fp32 | 9 => some .raw | _ => none

/-- R177, R178: an output tensor is reduced and converted by its record in the image. R186: its flags are the OR over its accumulators. -/
def computeTensor (recs : List TensorRec) (file : IMap Acc) (t : TensorWork) : Option TensorDone × IMap Acc :=
  match recs[t.number]? with
  | none => (none, file)
  | some r => match outFmtOf r.format with
    | none => (none, file)
    | some fmt =>
      let x := readElems r.floor file t.elems
      let o := tensorOut fmt r.floor x.1
      (some { commit := r.commit, number := t.number, bytes := o.1,
              flags := BitVec.ofNat 4 (8 * b2n (x.1.any (·.nonfinite)) + 4 * b2n o.2 + 2 * b2n (x.1.any (·.clamped))
                + b2n (x.1.any (·.inexact))),
              bad := x.1.foldl (fun l a => l ++ a.bad) [] }, x.2)

/-- The output tensors of a leg in order. Accumulators hold nothing from the leg before (R189). -/
def computeTensors (recs : List TensorRec) (file : IMap Acc) (l : List TensorWork) : List TensorDone :=
  match l with
  | [] => []
  | t :: rest =>
    let r := computeTensor recs file t
    match r.1 with
    | some d => d :: computeTensors recs r.2 rest
    | none => computeTensors recs r.2 rest

/-- R227: the local digest of a readout and the digests of the contributions it received add up to that of the result. -/
def readoutCloses (ts : List Transfer) (r : Readout) : Bool :=
  let mine := ts.filter (fun t => !t.sends && decide (t.dst = r.dst) && decide (t.tensor = r.tensor))
  decide ((accDigest r.firstK r.locals + mine.foldl (fun a t => a + accDigest t.firstK t.sums) 0) % digestP = accDigest r.firstK r.result)

/-- Insertion in tensor number order. -/
def byNumber (t : TensorDone) (l : List TensorDone) : List TensorDone :=
  match l with
  | [] => [t]
  | u :: r => if t.number ≤ u.number then t :: u :: r else u :: byNumber t r

/-- R232: the leg digest. -/
def legDigestOf (l : List TensorDone) : Nat :=
  byteDigest ((l.foldr byNumber []).foldr (fun t a => t.bytes ++ a) [])

end Sys2Proof.Machine
end

