-- ==== Sys2Proof/Machine/Operands.lean ====
section
/-! DEFINITION. The common form of every request (Ch. 14): finding the session, the header check, the kept replies, the
opcode, unit and role checks of R398, admission (R400, R402) and the reply (R395). `vcp` runs a request; what an opcode
itself checks and does is its `body`. -/

namespace Sys2Proof.Machine

open Sys2Proof

/-- What the opcode's own checks answer (R398 step 5), before admission. -/
inductive Answer
  /-- Refused; nothing changes. DETAIL is the index of the failing item. -/
  | refuse (st : Status) (detail : Nat)
  /-- A final status other than OK and ACCEPTED with reply data, and the state it leaves (WRITE_GROUP, ABORT). -/
  | status (st : Status) (detail : Nat) (data : List Nat) (after : State)
  /-- Nothing is answered yet: the request waits to be judged, as `after` keeps it (R52). -/
  | wait (after : State)
  /-- OK, with COMMITTED and the reply data. -/
  | done (committed : Time) (data : List Nat) (after : State)
  /-- ACCEPTED, with the committed time, the unit and TAG of its notification, the effect, and reply data. -/
  | accept (committed : Time) (unit : Nat) (tag : BitVec 16) (effect : State → State) (data : List Nat := [])

/-- What R398 checks for an opcode before its own checks. -/
structure Op where
  /-- The opcode (Table 14-8). -/
  code : Nat := 0
  /-- The reply is kept (R404). -/
  kept : Bool := true
  /-- Deck interprets it (Table 16-2). -/
  deck : Bool := false
  /-- The capability bit of Table 14-4 that gates the opcode. -/
  cap : Option Nat := none
  /-- Check 3, the unit address: a status and DETAIL when it fails. -/
  unit : State → Session → Option (Status × Nat) := fun _ _ => none
  /-- Check 4, the role (Table 14-6). -/
  role : State → Session → Bool := fun _ _ => true
  /-- A Relief serves it (R272). -/
  relief : Bool := false
  /-- ROM recovery serves it (R454). -/
  rom : Bool := false

/-! ### Units (R420) -/

/-- Group or all-units instance (R9). -/
def isGroup (u : Nat) : Bool := decide (0xF00 ≤ unitInst u)

/-- The unit exists and holds registers. -/
def unitExists (u : Nat) : Bool := !(unitRegs u).isEmpty

/-- R444 step 1: the gate of the unit's slot is closing. -/
def unitClosing (s : State) (u : Nat) : Bool :=
  match slotOfUnit u with
  | some k => s.power.closing.any (fun e => decide (e.1 = 0x20 + k))
  | none => false

/-- Check 3 for an opcode addressed to one unit of a class: existence, then the card's gate (R444), then the card (R420,
R4). -/
def unitOfClass (u : Nat) (classes : List Nat) (s : State) : Option (Status × Nat) :=
  if !unitExists u || !classes.elem (unitClass u) then some (.badAddress, 0)
  else if unitClosing s u then some (.domainDown, 0)
  else if !unitPresent s u then some (.notPresent, 0)
  else none

/-- Check 3 for an opcode that addresses no unit: UNIT is 0x0000 (Table 14-3). -/
def noUnit (u : Nat) : Option (Status × Nat) := if u = 0 then none else some (.badAddress, 0)

/-- R397: class 0xD needs BENCHMARK_MIRROR. -/
def hasCap (e : Session) (bit : Nat) : Bool := e.caps.getLsbD bit

/-! ### Roles (Table 14-6) -/

def roleIn (roles : List ClientRole) (e : Session) : Bool := roles.elem e.role

/-- Class Read: RACK reads classes 0x0, 0x7 and 0xA only. -/
def mayRead (e : Session) (u : Nat) : Bool := decide (e.role ≠ .rack) || [0, 7, 10].elem (unitClass u)

/-! ### The header and the kept replies -/

/-- Check 1 (R396): LENGTH, reserved parameters and SESSION, then VERSION. -/
def headerCheck (h : Hdr) (e : Option Session) : Option Status :=
  match e with
  | none => some .badParam
  | some e =>
    if !h.lengthOk || !h.reservedZero then some .badParam
    else if h.version.toNat ≠ e.major * 16 + e.minor then some .version
    else none

/-- The session a header names, in its association. -/
def sessionOf (s : State) (h : Hdr) : Option Session :=
  s.vcp.sessions.find? (fun e => decide (e.id = h.session) && decide (e.assoc = h.assoc))

/-- R404: the kept reply of an identity and sequence. -/
def keptOf (s : State) (identity : Nat) (seq : BitVec 32) : Option Kept :=
  s.vcp.kept.find? (fun k => decide (k.identity = identity) && decide (k.sequence = seq))

/-- a is newer than b modulo 2³² (as R81 and R473 compare sequences). -/
def seqNewer (a b : BitVec 32) : Bool := decide (1 ≤ (a - b).toNat) && decide ((a - b).toNat < 2 ^ 31)

/-- The newest sequence kept for an identity. -/
def newestKept (s : State) (identity : Nat) : Option (BitVec 32) :=
  (s.vcp.kept.filter (fun k => decide (k.identity = identity))).foldl
    (fun a k => match a with | some b => if seqNewer k.sequence b then some k.sequence else some b | none => some k.sequence)
    none

/-- R404: the sequence lies more than 256 below the newest one kept. -/
def seqStale (s : State) (identity : Nat) (seq : BitVec 32) : Bool :=
  match newestKept s identity with
  | some n => seqNewer n seq && decide (256 < (n - seq).toNat)
  | none => false

/-- R404: keep a reply, at most 256 per identity, newest first; a kept one is never replaced. -/
def keepReply (identity : Nat) (seq : BitVec 32) (st : Status) (committed : Time) (s : State) : State :=
  if (keptOf s identity seq).isSome then s else
  let mine := (s.vcp.kept.filter (fun k => decide (k.identity = identity))).take (Config.keptReplies - 1)
  let others := s.vcp.kept.filter (fun k => decide (k.identity ≠ identity))
  { s with vcp.kept := { identity, sequence := seq, status := st, committed } :: mine ++ others }

/-! ### Replies -/

/-- R395: the reply leaves. -/
def sendReply (h : Hdr) (st : Status) (detail : Nat) (committed : Time) (data : List Nat) (s : State) : State :=
  s.emit (.reply h.version h.opcode h.session h.sequence h.unit.toNat st detail committed data)

/-- Table 14-18: VCP_COUNT counts ACCEPTED replies, and BUSY and DEADLINE_UNMEETABLE refusals. -/
def countReply (st : Status) (s : State) : State :=
  match st with
  | .accepted => s.addCount U.sys Off.vcpCount 15 0 1
  | .busy => s.addCount U.sys Off.vcpCount 31 16 1
  | .deadlineUnmeetable => s.addCount U.sys Off.vcpCount 31 16 1
  | _ => s

/-- The reply with its count and, where R404 keeps it, its copy. -/
def finish (op : Op) (h : Hdr) (identity : Nat) (st : Status) (detail : Nat) (committed : Time) (data : List Nat)
    (s : State) : State :=
  let s1 := countReply st s
  let s2 := if op.kept && decide (st ≠ .notKeeper) then
    toPartner (.reply identity h.sequence st committed) (keepReply identity h.sequence st committed s1) else s1
  sendReply h st detail committed data s2

/-- R396: a discarded datagram is counted. -/
def malformed (s : State) : State := s.setEvent U.sys Off.vcpEvents 5

/-- R391: a request and its one reply are two records under the keys of an association. -/
def countRecords (assoc : Nat) (s : State) : State :=
  { s with vcp.assocs := s.vcp.assocs.map (fun a => if a.id = assoc then { a with records := a.records + 2 } else a) }

/-- R391, R393: the newest packet of a session, and the port it came through: a session moves between the management ports. -/
def touch (h : Hdr) (sid : BitVec 16) (s : State) : State :=
  let via := fun (p : Port) => match h.port with | some q => if p = .service ∨ q = .service then p else q | none => p
  let s1 := countRecords h.assoc s
  { s1 with vcp.sessions := s.vcp.sessions.map (fun e => if e.id = sid then { e with lastPacket := s.now, port := via e.port } else e) }

/-! ### Admission (R400, R402) -/

/-- R400: DELIVER_BY cannot be met. -/
def deadlineMissed (h : Hdr) (committed now : Time) : Bool :=
  decide (h.deliverBy ≠ 0) && (decide (h.deliverBy < committed) || decide (h.deliverBy < now))

/-- R402: no room for another accepted request. -/
def queueFull (s : State) (sid : BitVec 16) : Bool :=
  decide (Config.maxAccepted ≤ s.vcp.accepted.length)
  || decide (Config.maxAcceptedSession ≤ (s.vcp.accepted.filter (fun a => decide (a.origin.session = sid))).length)

/-- Checks 2 to 4 of R398 (R405: any other OPCODE is unknown), then who may interpret it now: Deck answers only while it runs (R451), a module that is not
Keeper only what R272 lets a Relief serve. -/
def preCheck (op : Op) (h : Hdr) (e : Session) (s : State) : Option (Status × Nat) :=
  if h.opcode ≠ op.code || (match op.cap with | some b => !hasCap e b | none => false) then some (.badOpcode, 0)
  else match op.unit s e with
    | some r => some r
    | none =>
      if !op.role s e then some (.denied, 0)
      else if op.deck && !s.fw.deckUp then some (.faulted, 0)
      else if !op.relief && !keeperNow s then some (.notKeeper, 0)
      else none

/-- The request's origin (R401). -/
def originOf (h : Hdr) (e : Session) : Origin := { identity := e.identity, session := e.id, sequence := h.sequence }

/-- Carry an answer through admission to its reply. -/
def settle (op : Op) (h : Hdr) (e : Session) (a : Answer) (s : State) : State :=
  match a with
  | .refuse st d => finish op h e.identity st d 0 [] s
  | .wait s' => s'
  | .status st d data s' => finish op h e.identity st d 0 data s'
  | .done c data s' =>
    if deadlineMissed h c s.now then finish op h e.identity .deadlineUnmeetable 0 0 [] s
    else finish op h e.identity .ok 0 c data s'
  | .accept c u tag eff data =>
    if deadlineMissed h c s.now then finish op h e.identity .deadlineUnmeetable 0 0 [] s
    else if queueFull s e.id then finish op h e.identity .busy 0 0 [] (s.setEvent U.sys Off.vcpEvents 2)
    else
      let entry : Accepted := { origin := originOf h e, unit := u, tag, committed := c, deck := op.deck }
      -- the reply is kept before the effect, so that an effect that completes at once finds it
      eff (finish op h e.identity .accepted 0 c data
        (mirrorQueue eff
          (toPartner (.command e.identity e.id h.sequence h.unit tag c) { s with vcp.accepted := s.vcp.accepted ++ [entry] })))

/-- R404: answer a repeated request from its kept reply, sending its outcome again when it has ended. -/
def answerKept (h : Hdr) (e : Session) (k : Kept) (s : State) : State :=
  let s1 := sendReply h k.status 0xFFFF k.committed [] s
  match k.outcome with
  | some n => notifySession e.id n s1
  | none => s1

/-- The association of a header. -/
def assocOf (s : State) (h : Hdr) : Option Assoc := s.vcp.assocs.find? (fun a => decide (a.id = h.assoc))

/-- The module does not answer the association at all: the service port with SERVICE_EN = 0 (Table 14-18), or in ROM
recovery anything but what the ROM serves on the service port to a certificate of the Akven root (R454). -/
def silentTo (op : Op) (a : Assoc) (s : State) : Bool :=
  (decide (a.port = .service) && !s.bitAt U.sys Off.vcpCtrl 0)
  || (s.power.recovery && !(op.rom && decide (a.port = .service) && a.cert.akven
      && a.cert.uris.elem (.role .vendorService)))

/-- One request, judged in the order of R398. -/
def vcp (op : Op) (h : Hdr) (body : Session → State → Answer) (s : State) : State :=
  match assocOf s h with
  | none => malformed s
  | some a =>
    if silentTo op a s then s
    else match sessionOf s h with
    | none => finish op h a.cert.identity .badParam 0 0 [] s
    | some e =>
      let s := touch h e.id s
      match headerCheck h (some e) with
      | some st => finish op h e.identity st 0 0 [] s
      | none =>
        match keptOf s e.identity h.sequence with
        | some k => answerKept h e k s
        | none =>
          if seqStale s e.identity h.sequence then
            sendReply h .badParam 0 0 [] (s.setEvent U.sys Off.vcpEvents 4)
          else match preCheck op h e s with
            | some (st, d) => finish op h e.identity st d 0 [] s
            | none => settle op h e (body e s) s

/-- R52: a request that waited is judged: checks 2 to 5 of R398 as they stand now. A session that has ended gets no answer. -/
def vcpLate (op : Op) (h : Hdr) (body : Session → State → Answer) (s : State) : State :=
  match sessionOf s h with
  | none => s
  | some e =>
    match keptOf s e.identity h.sequence with
    | some k => answerKept h e k s
    | none => match preCheck op h e s with
      | some (st, d) => finish op h e.identity st d 0 [] s
      | none => settle op h e (body e s) s

/-! ### Roles by opcode class (Table 14-6) -/

def rolesOperator : State → Session → Bool := fun _ e => roleIn [.operator, .engineer] e
def rolesEngineer : State → Session → Bool := fun _ e => roleIn [.engineer] e
def rolesLocate : State → Session → Bool := fun _ e => roleIn [.observer, .operator, .engineer, .vendorService] e
def rolesVendor : State → Session → Bool := fun _ e => roleIn [.engineer, .vendorService] e
def rolesScheduler : State → Session → Bool := fun _ e => roleIn [.scheduler] e
def rolesAuthority : State → Session → Bool := fun _ e => roleIn [.authority] e
def rolesRack : State → Session → Bool := fun _ e => roleIn [.rack] e

/-- The start of the next card-bus frame (R310). -/
def nextFrame (s : State) : Time := (s.frame + 1) * Config.frameNs

/-! ### Legs (R188) -/

/-- Table 7-2: array cycles in one card-bus frame at a clock. -/
def frameCycles (clock : Nat) : Nat := if clock = 0 then 37500 else if clock = 1 then 30000 else 18750

/-- The length of a leg of the loaded image [ns]; 1 ms, the default, with no image. -/
def legNs (s : State) : Nat :=
  match s.seqr.image with
  | some i => i.legCycles / frameCycles i.clock * Config.frameNs
  | none => Config.ms

/-- The traverse runs legs. -/
def legsRun (s : State) : Bool := decide (s.seqr.st = .running)

/-- The first leg boundary at or after now; with no leg in progress, the next card-bus frame (R411). -/
def nextBoundary (s : State) : Time := if legsRun s then s.seqr.legStart + legNs s else nextFrame s

/-- An accepted request whose promise is kept by time alone ends at its committed time (log entry 18). -/
def markTimed (o : Origin) (s : State) : State :=
  { s with vcp.accepted := s.vcp.accepted.map (fun a => if isOrigin o a then { a with timed := true } else a) }

end Sys2Proof.Machine
end

