-- ==== Sys2Proof/Machine/Beats.lean ====
section
/-! DEFINITION. Link frames, blocks and beats as bytes (R337 to R339, R355, R356): what the module sends on its Chain links. -/

namespace Sys2Proof.Machine

open Sys2Proof

/-- `n` bytes from `off`, little-endian. -/
def leAt (l : List Nat) (off n : Nat) : Nat := (upTo n).foldr (fun i a => a * 256 + l.getD (off + i) 0) 0

/-- Table 12-1: a link frame starts every 150 000 counts, with a marker of 60 counts; 7 of its 2 058 blocks take 510 counts. -/
def frameCounts : Nat := 150000
def blockStart (f b : Nat) : Nat := frameCounts * f + 60 + b * 510 / 7

/-- Table 12-1: the frame marker: FRAME, zeros, and PRBS31, 1 120 bytes. -/
def markerBytes (f : Nat) : List Nat := leBytes 8 f ++ List.replicate 8 0 ++ (upTo 1104).map (fun i => (Config.prbs31 i).toNat)

/-- Table 12-2. -/
def controlBytes (c : ControlBeat) : List Nat :=
  leBytes 8 c.hallCount ++ leBytes 8 c.echoCount ++ leBytes 2 c.echoAge ++ leBytes 5 c.beatMap ++ leBytes 5 c.poison
    ++ [c.ord % 16 * 16 + c.depth % 16, c.link % 32 * 8 + b2n (decide (c.slot = .b)) * 4 + b2n c.locked * 2, c.credits % 256,
        c.routeSet % 4 * 64 + b2n c.forwarded * 32]

/-- R338: the control beat of the block that starts at hall count `n` on link `l`. -/
def controlBeat (s : State) (l n : Nat) : ControlBeat :=
  let k := s.link l
  let heard := k.heard.getD (0, n)
  { hallCount := n, echoCount := heard.1, echoAge := (n - heard.2) % 65536, beatMap := 0, poison := 0,
    ord := s.fldOf U.sys Off.hallCfg 3 0, depth := if isRoot s then (if s.ptp.stepSince.isSome then 15 else 0) else s.hall.depth, link := l, slot := s.pair.slot,
    locked := isRoot s || s.hall.locked, credits := (Config.copyCredits s.free).toNat, routeSet := s.seqr.routeSet, forwarded := false }

/-- Table 12-7. -/
def serviceBytes (b : ServiceBeat) : List Nat :=
  match b with
  | .idle => List.replicate 32 0
  | .flash f => [1, b2n (decide (f.slot = .b)), roleCode f.role, modeCode f.mode, 0] ++ leBytes 8 f.leg ++ leBytes 2 f.seq.toNat ++ List.replicate 17 0
  | .fragment first last data => [2, b2n first + 2 * b2n last] ++ leBytes 2 data.length ++ data ++ List.replicate (28 - data.length) 0

/-- Table 12-1: block `b`: beats 0 to 39, BLOCK_SEQ and the CRC-32 over the beats (its polynomial is free), 1 285 bytes. -/
def blockBytes (b : Nat) (service : ServiceBeat) (control : ControlBeat) (data : List Nat) : List Nat :=
  let beats := serviceBytes service ++ controlBytes control ++ data
  beats ++ [b % 256] ++ leBytes 4 (Config.crc32 beats).toNat

/-- R337: the links that send: every one whose lanes are on. -/
def sendsFrames (s : State) (l : Nat) : Bool := s.bitAt (U.link l) Off.linkCtrl 0

/-- R337: link frame f starts at the hall count 150 000 × f, on every link. -/
def sendFrames (s : State) : State :=
  let f := hallCount s / frameCounts
  let ls := (List.finRange 32).filter (fun l => sendsFrames s l.val)
  if ls.isEmpty then s else s.emit (.linkFrames f (ls.map (fun l => (l, controlBeat s l.val (blockStart f 0)))))

/-! ### Messages (R356) -/

/-- Table 12-9: the bytes of a payload: LEG_DIGEST and the reports as words of 8 bytes, a bulk session as Table 12-9 lays it out. -/
def payloadWords (type : Nat) (l : List Nat) : List Nat :=
  if type = 0x20 then [leAt l 0 2, leAt l 4 8, leAt l 12 8, leAt l 20 8]
  else if type = 0x21 then [leAt l 0 2, leAt l 2 2]
  else if type = 0x22 then [leAt l 0 2, leAt l 2 2, leAt l 4 8]
  else (upTo (l.length / 8)).map (fun i => leAt l (8 * i) 8)

def payloadBytes (type : Nat) (p : List Nat) : List Nat :=
  if type = 0x20 then leBytes 2 (p.getD 0 0) ++ [0, 0] ++ leBytes 8 (p.getD 1 0) ++ leBytes 8 (p.getD 2 0) ++ leBytes 8 (p.getD 3 0)
  else if type = 0x21 then leBytes 2 (p.getD 0 0) ++ leBytes 2 (p.getD 1 0)
  else if type = 0x22 then leBytes 2 (p.getD 0 0) ++ leBytes 2 (p.getD 1 0) ++ leBytes 8 (p.getD 2 0)
  else p.foldr (fun w a => leBytes 8 w ++ a) []

/-- Table 12-8: a message of 16 header bytes and its payload, as its fragments carry it. -/
def messageBytes (m : ServiceMsg) : List Nat :=
  let p := payloadBytes m.type m.payload
  [m.type % 256, b2n m.reliable] ++ leBytes 2 p.length ++ leBytes 4 m.seq.toNat ++ leBytes 4 m.ackSeq.toNat ++ [m.srcOrd % 256, m.dstOrd % 256]
    ++ leBytes 2 m.msgId.toNat ++ p

/-- The message of the bytes received, where LENGTH fits them. -/
def messageOf (l : List Nat) : Option ServiceMsg :=
  if 16 ≤ l.length ∧ leAt l 2 2 + 16 = l.length ∧ leAt l 2 2 ≤ 1024 then
    let type := l.getD 0 0
    some { type := type, reliable := decide (l.getD 1 0 % 2 = 1), seq := BitVec.ofNat 32 (leAt l 4 4), ackSeq := BitVec.ofNat 32 (leAt l 8 4),
           srcOrd := l.getD 12 0, dstOrd := l.getD 13 0, msgId := BitVec.ofNat 16 (leAt l 14 2), payload := payloadWords type (l.drop 16) }
  else none

end Sys2Proof.Machine
end

