-- ==== Sys2Proof/Machine/CapOps.lean ====
section
/-! DEFINITION. Shared operations on caps, grants and Beacon outputs (Ch. 4): sending a grant, lowering caps, the
acknowledgement window, and the Beacon outputs following their causes. -/

namespace Sys2Proof.Machine

open Sys2Proof

/-- KIND codes of Table 4-2. -/
abbrev Kind.set : Nat := 0
abbrev Kind.notice : Nat := 1
abbrev Kind.revoke : Nat := 2

/-- R82, R83: when the grants of a decision made at `t` leave: a free delay of at most 2 ms after it (log entry 5). -/
def leavesFrom (t : Time) (s : State) : Time := Nat.max s.now (t + Nat.min (Config.grantDelay s.free) (2 * Config.ms))

/-- The grants of a decision made now. -/
def grantLeaves (s : State) : Time := leavesFrom s.now s

/-- R80: the ceiling a module keeps once a sequence has been seen. -/
def ceilingFor (ceiling : Nat) (q : BitVec 32) : Nat := if ceiling ≤ q.toNat then q.toNat + 65536 else ceiling

/-- R86: the runs of sequences sent, with one more. -/
def extendSent (q : BitVec 32) (l : List (BitVec 32 × BitVec 32)) : List (BitVec 32 × BitVec 32) :=
  match l with
  | (a, b) :: t => if q = b + 1 then (a, q) :: t else (q, q) :: (a, b) :: t
  | [] => [(q, q)]

/-- R80: the sequence of the next grant to rack r, and the ceiling in MRAM: a grant that reaches it moves it 65 536 up. -/
def nextGrantSeq (k : Rack) : BitVec 32 × Nat :=
  let n := k.grantSeq + 1
  (n, ceilingFor k.ceiling n)

/-- Table 9-8: the state of rack r as it is mirrored. -/
def rackCopy (k : Rack) : RackCopy :=
  { cap := k.cap, seq := k.grantSeq, acked := k.acked, grants := k.grants, stage := k.stage, leak := k.leak, noAck := k.noAck,
    beaconNoAck := k.beaconNoAck, safetyFlow := k.safetyFlow, raises := k.raises, sources := k.sources, seen := k.seen, pos := k.pos }

/-- Table 9-8: the grant, acknowledgement and leak state of rack r goes to the Relief. -/
def mirrorRack (r : Nat) (s : State) : State := toPartner (.rack (fin16 r) (rackCopy (s.rack r))) s

/-- Send a grant to rack r, leaving at `leaves` (R80). Its window opens then (R83). -/
def sendGrant (r : Nat) (kind : Nat) (raId : BitVec 32) (expected leaves : Time) (s : State) : State :=
  let k := s.rack r
  let (q, ceil) := nextGrantSeq k
  let g : Grant := { seq := q, kind := kind, cap := k.cap, raId := raId, expected := expected, leftAt := leaves }
  mirrorRack r ((s.setRack r { k with
    grantSeq := q, ceiling := ceil, sent := extendSent q k.sent,
    grants := g :: (k.grants.filter (fun o => !o.acked)) }).emit (.grant (fin16 r) kind q k.cap raId expected leaves))

/-- Set the cap of rack r and send its SET grant, with the ACTION record taken before (R474). -/
def grantSet (source : Nat) (new : Power) (causeSeq : BitVec 32) (leaves : Time) (r : Nat) (s : State) : State :=
  sendGrant r Kind.set 0 0 leaves
    ((logAction U.cap source Act.grant r (s.rack r).cap new causeSeq s).modRack r (fun k => { k with cap := new }))

/-- Lower the cap of rack r to `cap` where that is lower, with its grant (R82); raises nothing. A level-2 action says in which frame
it cut (R47). -/
def lowerCap (source : Nat) (causeSeq : BitVec 32) (leaves : Time) (r : Nat) (cap : Power) (s : State) : State :=
  if cap < (s.rack r).cap then
    grantSet source cap causeSeq leaves r (s.modRack r (fun k => { k with
      raises := [], cutIn := if source = 2 then some s.frame else k.cutIn }))
  else s

/-- Lower every rack that `p` picks to its floor, in ascending rack order (R82). -/
def floorCaps (source : Nat) (p : Nat → Bool) (s : State) : State :=
  let leaves := grantLeaves s
  (upTo 16).foldl (fun s r => if p r then lowerCap source 0 leaves r (floor s r) s else s) s.draw

/-- R77: what an envelope cut by `x` takes from rack r. -/
def envelopeShare (x head total : Nat) : Nat := Nat.min head (ceilDiv (x * head) total)

/-- R77: lower the caps so that their sum comes inside the envelope. -/
def envelopeCut (causeSeq : BitVec 32) (s : State) : State :=
  let sum := capSum s
  if sum ≤ s.broker.envelope then s
  else
    let x := sum - s.broker.envelope
    let total := sumRacks (fun r => (s.rack r).cap - floor s r)
    let leaves := grantLeaves s
    let s0 := (s.draw).setEvent U.cap Off.capEvents 1
    (upTo 16).foldl (fun a r =>
      lowerCap 4 causeSeq leaves r ((s.rack r).cap - envelopeShare x ((s.rack r).cap - floor s r) total) a) s0

/-! ### Acknowledgement (R81 to R86) -/

/-- R86: the module has sent this sequence to the rack. -/
def grantSent (k : Rack) (q : BitVec 32) : Bool := k.sent.any (fun e => decide ((q - e.1).toNat ≤ (e.2 - e.1).toNat))

/-- R91: the cap that the rack's power is counted against: the one before the oldest raise not yet acknowledged. -/
def countedCap (k : Rack) : Power := match k.raises with | e :: _ => e.1 | [] => k.cap

/-- R84: the acknowledged cap, or the rating when no CAP_ACK has arrived since power-up. -/
def ackedCap (s : State) (r : Nat) : Power := match (s.rack r).acked with | some c => c | none => rating s r

/-- R83: the window of a grant closes 5 ms after the grant left. -/
def windowEnd (g : Grant) : Time := g.leftAt + 5 * Config.ms

/-- The card-bus frame that holds a point in time. -/
def frameOf (t : Time) : Nat := t / Config.frameNs

/-- R83, R84, R85: a CAP_ACK for grant `q` of rack r closes the windows of that grant and every older one; the newest grant
acknowledged clears NO_ACK in the next card-bus frame. -/
def ackGrant (r : Nat) (q : BitVec 32) (power : Nat) (s : State) : State :=
  let k := s.rack r
  match k.grants.find? (fun g => decide (g.seq = q)) with
  | none => s.setRack r { k with power := power }
  | some g =>
    let grants := k.grants.map (fun o =>
      if o.seq = q then { o with open_ := false, acked := true }
      else if seqNewer q o.seq then { o with open_ := false } else o)
    -- grants older than an acknowledged one are forgotten: nothing asks for them again
    let grants := grants.filter (fun o => !seqNewer q o.seq)
    mirrorRack r (s.setRack r { k with
      power := power, acked := if g.acked then k.acked else some g.cap, grants,
      raises := k.raises.filter (fun e => !(decide (e.2 = q) || seqNewer q e.2)),
      -- R112 step 3 waits for the answer to its grant
      leak := k.leak.map (fun l =>
        if q = l.grantSeq ∨ seqNewer q l.grantSeq then { l with acked := true } else l),
      noAckNext := if q = k.grantSeq then some false else k.noAckNext })

/-- R84: the window of grant `g` of rack r closes unanswered. -/
def closeUnanswered (r : Nat) (g : Grant) (s : State) : State :=
  let k := s.rack r
  let lowers := decide (g.kind = Kind.set) && decide (g.cap < ackedCap s r)
  let s1 := s.setRack r { k with
    grants := k.grants.map (fun o => if o.seq = g.seq then { o with open_ := false } else o),
    noAck := true, beaconNoAck := k.beaconNoAck || lowers }
  eventWith .noAck 0 none U.cap Off.capEvents 0 (mirrorRack r s1)

/-! ### Beacon outputs (R29, R119) -/

/-- Field power lets an output conduct (R29): either input present. -/
def fieldOn (s : State) : Bool := s.power.fieldA || s.power.fieldB

/-- The output stages of this module are enabled (R20, R258). -/
def stagesOn (s : State) : Bool := s.pair.stages

/-- R29: the module's logic drives the outputs: it is powered, and the state of its restart has been restored (Table 15-4). -/
def logicRuns (s : State) : Bool := decide (7 ≤ s.power.step)

/-- R474: record each Beacon whose causes changed. -/
def recordBeacons (s : State) : State :=
  (upTo 16).foldl (fun s r =>
    let c := beaconCauses s r
    let o := mget 0 s.plant.causes r
    if c = o then s
    else
      let src := if c / 16 = o / 16 then 2 else 6
      logAction (U.beacon r) src Act.beacon 16 o c 0 { s with plant.causes := mset 0 s.plant.causes r c }) s

/-- R119: every output follows its causes, as the output stages and field power let it (R20, R29). Before the logic runs again
nothing changes. -/
def driveBeacons (s : State) : State :=
  if !logicRuns s then s
  else
    let s1 := recordBeacons s
    let outs := (upTo 16).foldl (fun (a : BitVec 16) r =>
      if stagesOn s1 && fieldOn s1 && decide (beaconCauses s1 r ≠ 0) then a ||| BitVec.ofNat 16 (2 ^ r) else a) 0
    { s1 with plant.beacons := outs }

/-- R85: NO_ACK flags and causes clear in the card-bus frame after the acknowledgement. -/
def settleNoAck (s : State) : State :=
  (upTo 16).foldl (fun s r =>
    let k := s.rack r
    match k.noAckNext with
    | some b => mirrorRack r (s.setRack r { k with noAck := b, beaconNoAck := b && k.beaconNoAck, noAckNext := none })
    | none => s) s

/-! ### Previews -/

/-- R98: new content of an active preview, from the next leg boundary. -/
def replacePreview (id : BitVec 32) (racks : BitVec 16) (start duration load ramp : Nat) (s : State) : State :=
  let swap : Preview → Preview := fun p => if p.id = id then { p with next := some (racks, start, duration, load, ramp) } else p
  { s with broker.previews := s.broker.previews.map swap }

/-- R96: a new preview. -/
def addPreview (id : BitVec 32) (racks : BitVec 16) (start duration load ramp : Nat) (s : State) : State :=
  let p : Preview := { id := id, racks := racks, start := start, duration := duration, load := load, ramp := ramp }
  { s with broker.previews := s.broker.previews ++ [p], broker.everPreviews := id :: s.broker.everPreviews.filter (· ≠ id) }

/-- R104, R107: a cancelled preview is no longer active. -/
def cancelPreview (id : BitVec 32) (s : State) : State :=
  { s with broker.previews := s.broker.previews.filter (fun p => decide (p.id ≠ id)) }

end Sys2Proof.Machine
end

