-- ==== Sys2Proof/Machine/ValveOps.lean ====
section
/-! DEFINITION. Shared operations on valve channels (Ch. 10) and the field current budget (R38 to R40): planning and starting
pull-ins, releases and test pulses, and the answers to the valve commands. -/

namespace Sys2Proof.Machine

open Sys2Proof

/-- The valve channels by instance. -/
def valves96 : List Nat := List.range 96

def vlvRole (s : State) (c : Nat) : Nat := s.fldOf (U.vlv c) Off.vlvRole 3 0
def vlvIndex (s : State) (c : Nat) : Nat := s.fldOf (U.vlv c) Off.vlvRole 15 12
def peakI (s : State) (c : Nat) : Nat := s.fldOf (U.vlv c) Off.vlvPeak 31 16
def holdI (s : State) (c : Nat) : Nat := s.fldOf (U.vlv c) Off.vlvHold 15 0
/-- PEAK_MS in nanoseconds. -/
def peakNs (s : State) (c : Nat) : Nat := s.fldOf (U.vlv c) Off.vlvPeak 15 0 * Config.ms
/-- Times of Table 10-7 after the start of PEAK, from 10 µs units. -/
def at10us (s : State) (c off hi lo : Nat) : Time := (s.valve c).startAt + s.fldOf (U.vlv c) off hi lo * 10000
def fieldBudget (s : State) : Nat := s.fldOf U.sys Off.hwFieldBudget 15 0

/-- R290: PEAK_I² × PEAK_MS rounded up to 0.01 A²s. -/
def chargeOf (i msec : Nat) : Nat := ceilDiv (i * i * msec) 100000
def pullCharge (s : State) (c : Nat) : Nat := chargeOf (peakI s c) (s.fldOf (U.vlv c) Off.vlvPeak 15 0)

/-- R291: the account lets an ordinary pull-in start at `t`. -/
def dutyOk (s : State) (c : Nat) (t : Time) : Bool :=
  decide (dutyAt s c t + pullCharge s c ≤ s.fldOf (U.vlv c) Off.vlvDuty 15 0)

/-- R306: a granted Relief test window holds the channel from f to f + 5 frames. -/
def inWindow (s : State) (c : Nat) (t : Time) : Bool :=
  match (s.valve c).window with
  | some f => decide (f ≤ t) && decide (t < f + 5 * Config.frameNs)
  | none => false

/-- R39: what a channel draws in the frame at `t`; a PEAK that ends in that frame still counts with its peak current. -/
def drawAt (s : State) (t : Time) (c : Nat) : Nat :=
  let v := s.valve c
  if v.phase = .peak ∨ v.phase = .held then (if t ≤ v.startAt + peakNs s c then peakI s c else holdI s c) else 0

/-- What planned pull-ins draw at `t`. -/
def plannedDraw (s : State) (t : Time) (started : List (Nat × Time)) : Nat :=
  started.foldl (fun a e => a + (if t ≤ e.2 + peakNs s e.1 then peakI s e.1 else holdI s e.1)) 0

/-- The field sum of R39 in the frame at `t`. -/
def fieldSum (s : State) (t : Time) (started : List (Nat × Time)) : Nat :=
  valves96.foldl (fun a c => a + drawAt s t c) 0 + plannedDraw s t started

/-- The card of the channel takes commands: it is fitted and not in HOLD (R297). -/
def vlvCardLive (s : State) (c : Nat) : Bool :=
  cardReady s (slotOfValve c) 1 && cardTakes s (slotOfValve c)

/-- R39, R291: which of the waiting pull-ins start in the frame at `t`, in order of request: a channel that waits for its
own duty account or a test window is passed over; one that does not fit the budget holds back the rest. -/
def startPass (s : State) (t : Time) (can : Nat → Bool) (blocked : Bool) (started : List (Nat × Time)) (q : List Nat) :
    List (Nat × Time) × List Nat :=
  match q with
  | [] => (started, [])
  | c :: rest =>
    if !dutyOk s c t || inWindow s c t || blocked || !can c then
      let r := startPass s t can blocked started rest
      (r.1, c :: r.2)
    else if fieldSum s t started + peakI s c ≤ fieldBudget s then
      startPass s t can false (started ++ [(c, t)]) rest
    else
      let r := startPass s t can true started rest
      (r.1, c :: r.2)

/-- The frame boundary at or after a time. -/
def ceilFrame (t : Time) : Time := ceilDiv t Config.frameNs * Config.frameNs

/-- The next time after `t` at which more may start: a PEAK's end counted from the next frame, a charge leaving an account,
a window's end. -/
def nextChance (s : State) (t : Time) (started : List (Nat × Time)) (q : List Nat) : Option Time :=
  let peaks := valves96.filterMap (fun c =>
    if (s.valve c).phase = .peak ∨ (s.valve c).phase = .held then
      some ((s.valve c).startAt + peakNs s c + Config.frameNs) else none)
  let plans := started.map (fun e => e.2 + peakNs s e.1 + Config.frameNs)
  let own := (q.map (fun c =>
    (s.valve c).charges.map (fun e => ceilFrame (e.1 + s.fldOf (U.vlv c) Off.vlvDuty 23 16 * Config.sec))
    ++ (match (s.valve c).window with | some f => [f + 5 * Config.frameNs] | none => []))).flatten
  ((peaks ++ plans ++ own).map ceilFrame).foldl (fun a x =>
    if t < x then (match a with | some y => some (Nat.min x y) | none => some x) else a) none

/-- The plan of the waiting pull-ins from the frame at `t` on: each channel with its start frame. -/
def planLoop (s : State) (fuel : Nat) (t : Time) (started : List (Nat × Time)) (q : List Nat) : List (Nat × Time) :=
  match fuel with
  | 0 => started
  | n + 1 =>
    let r := startPass s t (fun _ => true) false started q
    if r.2.isEmpty then r.1
    else match nextChance s t r.1 r.2 with
      | some t' => planLoop s n t' r.1 r.2
      | none => r.1

/-- R300: the planned start of a channel of the queue `q`. -/
def plannedStart (s : State) (q : List Nat) (c : Nat) : Option Time :=
  ((planLoop s 1024 (nextFrame s) [] q).find? (fun e => decide (e.1 = c))).map (·.2)

/-! ### Starting and ending -/

/-- A pull-in starts (R282, R290). With no field power it draws nothing and the channel shows OFF (R506). -/
def startPull (reflex : Bool) (c : Nat) (s : State) : State :=
  let v := s.valve c
  let seq := match v.cmd with | some k => k.origin.sequence | none => 0
  let s1 := logAction (U.vlv c) (if reflex then 2 else 6) Act.energise 16 (phaseCode v.phase) 2 seq s
  let s2 := (s1.setReg (U.vlv c) Off.vlvLast 0xFFFFFFFF).addCount (U.vlv c) Off.vlvCount 31 16 1
  ({ s2 with plant.pullIns := s2.plant.pullIns.filter (fun d => d ≠ c) }).setValve c { v with
    phase := if fieldOn s then .peak else .off, startAt := s.now, reflex := reflex, runMax := 0, peakSeen := false,
    dipFound := false, judged := false, ttpDone := false, openSince := false, waitBudget := false, waitDuty := false,
    toldDuty := false, toldBudget := false, releaseNext := false, pulseEnded := false, charges := v.charges ++ [(s.now, pullCharge s c)] }

/-- R284: a release starts. An ordinary pull-in that it ends is not judged (R287). -/
def startRelease (source : Nat) (c : Nat) (s : State) : State :=
  let v := s.valve c
  let seq := match v.cmd with | some k => k.origin.sequence | none => 0
  (logAction (U.vlv c) source Act.release 16 (phaseCode v.phase) 4 seq s).setValve c { v with
    phase := .releasing, relAt := s.now, judged := v.judged || !v.reflex, releaseNext := false }

/-- R305: a test pulse starts. -/
def startTest (source : Nat) (c : Nat) (s : State) : State :=
  let v := s.valve c
  let seq := match v.cmd with | some k => k.origin.sequence | none => 0
  (logAction (U.vlv c) source Act.testPulse 16 (phaseCode v.phase) 5 seq s).setValve c { v with
    phase := .test, relAt := s.now, pulseEnded := false }

/-- The command of a channel ends with a status; a waiting pull-in leaves the queue. -/
def dropValveCmd (c : Nat) (st : Status) (s : State) : State :=
  let v := s.valve c
  endChanCmd v.cmd st (({ s with plant.pullIns := s.plant.pullIns.filter (fun d => d ≠ c) }).setValve c { v with
    cmd := none, phase := if v.phase = Phase.deferred then Phase.off else v.phase, waitBudget := false, waitDuty := false,
    toldDuty := false, toldBudget := false })

/-- R301: a level-2 action ends the command of a channel. -/
def preemptValve (c : Nat) (s : State) : State :=
  if (s.valve c).cmd.isSome then (dropValveCmd c .denied s).setEvent (U.vlv c) Off.vlvEvents 10 else s

/-- R301: end each accepted ENERGISE that would now start later than its planned frame, oldest first. -/
def preemptLate (s : State) : State :=
  forEach s.plant.pullIns (fun c a =>
    match (a.valve c).cmd, plannedStart a a.plant.pullIns c with
    | some k, some t => if k.planned < t then preemptValve c a else a
    | _, _ => a) s

/-- R40, R292, R301: a leak sequence takes a channel and starts its reflex pull-in in this frame. -/
def reflexPull (c : Nat) (s : State) : State :=
  let s1 := (preemptValve c s).modValve c (fun v => { v with leakHeld := true })
  preemptLate (startPull true c s1)

/-! ### The frame's work on valve channels -/

/-- R39, R291: waiting flags of a pull-in that did not start, and each event once per deferred pull-in, the model’s choice where a
client has cleared it meanwhile (log entry 105). -/
def deferPull (c : Nat) (s : State) : State :=
  let v := s.valve c
  let duty := !dutyOk s c s.now
  let budget := !duty && !inWindow s c s.now
  let s1 := s.setValve c { v with
    phase := .deferred, waitDuty := duty, waitBudget := budget, toldDuty := v.toldDuty || duty, toldBudget := v.toldBudget || budget }
  let s2 := if duty && !v.toldDuty then s1.setEvent (U.vlv c) Off.vlvEvents 5 else s1
  if budget && !v.toldBudget then (s2.setEvent (U.vlv c) Off.vlvEvents 6).setEvent U.sys Off.hwEvents 7 else s2

/-- Commands whose frame has come: releases and test pulses, and the release of an aborted pull-in (R303). -/
def frameCommands (s : State) : State :=
  forEach valves96 (fun c a =>
    let v := a.valve c
    if v.releaseNext && (v.phase = .peak || v.phase = .held) then startRelease 6 c a
    else match v.cmd with
      | some k =>
        if k.planned ≤ a.now ∧ vlvCardLive a c then
          if k.action = 0 ∧ v.phase ≠ .releasing then startRelease 6 c a
          else if k.action = 2 ∧ v.phase = .off then startTest 6 c a
          else a
        else a
      | none => a) s

/-- The pull-ins of a frame (R39, R291, R297), with the field sum as it stood in `before`: those that may start do, the others are
DEFERRED. -/
def framePulls (before s : State) : State :=
  let r := startPass before s.now (vlvCardLive s) false [] s.plant.pullIns
  let s1 := forEach (r.1.map (·.1)) (startPull false) s
  forEach (r.2.filter (vlvCardLive s)) deferPull s1

/-! ### Current samples -/

/-- The 10 µs samples of a frame that ends now, with their times (R280, R286). -/
def sampleTimes (now : Time) (i : Nat) (l : List Nat) : List (Time × Nat) :=
  match l with
  | [] => []
  | m :: t => (now + 10000 * (i + 1) - Config.frameNs, m) :: sampleTimes now (i + 1) t

/-- R286: the running maximum over the samples inside the dip window, until the current reaches PEAK_I or a dip is
found. -/
def runMaxOf (s : State) (c : Nat) (l : List (Time × Nat)) (m : Nat) : Nat :=
  match l with
  | [] => m
  | (t, i) :: rest =>
    if peakI s c * 10 ≤ i then m
    else if at10us s c Off.vlvDipWin 15 0 ≤ t ∧ t ≤ at10us s c Off.vlvDipWin 31 16 ∧ m < i then runMaxOf s c rest i
    else runMaxOf s c rest m

/-- Samples of one channel: VLV_STATUS.CURRENT and the running maximum. -/
def valveSamples (c : Nat) (l : List Nat) (s : State) : State :=
  let v := s.valve c
  let cur := match lastOpt l with | some m => m | none => v.current
  let rm := if v.phase = .peak ∧ !v.peakSeen ∧ !v.dipFound then runMaxOf s c (sampleTimes s.now 0 l) v.runMax else v.runMax
  s.setValve c { v with current := cur, runMax := rm }

/-! ### Commands -/

/-- What VALVE_CMD and a WRITE of VLV_CMD carry (R299). -/
structure ValveReq where
  action : Nat
  tag : BitVec 16
  origin : Origin

/-- Put an accepted command on its channel. -/
def acceptValve (c : Nat) (q : ValveReq) (committed planned : Time) (s : State) : State :=
  let s1 := s.modValve c (fun v => { v with
    cmd := some { origin := q.origin, tag := q.tag, action := q.action, committed, planned, acceptedAt := s.now } })
  if q.action = 1 then { s1 with plant.pullIns := s1.plant.pullIns ++ [c] } else s1

/-- R299, checks 2 to 6, of one channel. -/
def valveRefusal (s : State) (c : Nat) (action : Nat) : Option Status :=
  let v := s.valve c
  if 2 < action ∨ vlvRole s c = 0 then some .badParam
  else if v.leakHeld then some .denied
  else if action = 2 then
    (if s.plant.mode ≠ .maintain ∨ v.phase ≠ .off then some .denied
     else if v.cmd.isSome then some .busy
     else if v.tripped || !fieldOn s then some .faulted else none)
  else if !inService s then some .denied
  else if v.cmd.isSome then some .busy
  else if action = 1 ∧ (v.tripped || !fieldOn s) then some .faulted
  else none

/-- R299: nothing to do. -/
def valveIdle (s : State) (c : Nat) (action : Nat) : Bool :=
  let v := s.valve c
  (decide (action = 1) && decide (v.phase = .held))
  || (decide (action = 0) && (decide (v.phase = .off) || decide (v.phase = .releasing) || !fieldOn s))

/-- R300: planned start and committed time. -/
def valvePlan (s : State) (c : Nat) (action : Nat) : Time × Time :=
  match action with
  | 0 => (nextFrame s, nextFrame s + 10 * Config.ms + Config.gapNs)
  | 1 =>
    let t := match plannedStart s (s.plant.pullIns ++ [c]) c with | some t => t | none => nextFrame s
    (t, t + peakNs s c + Config.gapNs)
  | _ => (nextFrame s, nextFrame s + Config.ms)

/-- R299, R300: the answer to one valve command. -/
def valveAnswer (c : Nat) (q : ValveReq) (s : State) : Answer :=
  match valveRefusal s c q.action with
  | some st => .refuse st 0
  | none =>
    if valveIdle s c q.action then .done s.now [] s
    else
      let p := valvePlan s c q.action
      .accept p.2 (U.vlv c) q.tag (acceptValve c q p.2 p.1)

/-- Table 14-6: channel commands. -/
def chanOp (code cls : Nat) (h : Hdr) : Op :=
  { code := code, unit := fun s _ => unitOfClass h.unit.toNat [cls] s, role := rolesOperator, deck := true }

/-- One VALVE_CMD. -/
def valveCmd (h : Hdr) (action : Nat) (tag : BitVec 16) (s : State) : State :=
  vcp (chanOp 0x50 1 h) h (fun e s =>
    valveAnswer (unitInst h.unit.toNat) { action, tag, origin := originOf h e } s) s

end Sys2Proof.Machine
end

