-- ==== Sys2Proof/Machine/MotorOps.lean ====
section
/-! DEFINITION. Shared operations on motor channels (Ch. 11): the transitions of Table 11-7 and the answers to the motor
commands. Commands are held in 1/1 000 000 of 0.1 %. -/

namespace Sys2Proof.Machine

open Sys2Proof

def motors48 : List Nat := List.range 48

def kickExit (s : State) (c : Nat) : Nat := s.fldOf (U.mot c) Off.motKick 31 16
def kickNs (s : State) (c : Nat) : Nat := s.fldOf (U.mot c) Off.motKick 15 0 * Config.ms
def backoffNs (s : State) (c : Nat) : Nat := s.fldOf (U.mot c) Off.motRestart 31 16 * Config.sec
def restarts (s : State) (c : Nat) : Nat := s.fldOf (U.mot c) Off.motRestart 15 8
def fullRpm (s : State) (c : Nat) : Nat := s.fldOf (U.mot c) Off.motRamp 15 0
def rampRate (s : State) (c : Nat) : Nat := s.fldOf (U.mot c) Off.motRamp 31 16
/-- The pump a channel drives (MOT_IO). -/
def pumpOfMotor (s : State) (c : Nat) : Option Nat :=
  if s.bitAt (U.mot c) Off.motIo 7 then some (s.fldOf (U.mot c) Off.motIo 2 0) else none
/-- The channel that drives pump p (R12). -/
def motorOfPump (s : State) (p : Nat) : Option Nat :=
  motors48.find? (fun c => decide (pumpOfMotor s c = some p) && cardReady s (slotOfMotor c) 2)

/-- A speed as a share of FULL_RPM, as a command. -/
def shareOf (s : State) (c rpm : Nat) : Int := (rpm * 1000 * 1000000 / Nat.max 1 (fullRpm s c) : Nat)

/-- How far a command moves in one frame at RAMP [0.1 %/s]. -/
def rampStep (s : State) (c : Nat) : Int := (rampRate s c * 50 : Nat)

/-- Seconds-per-ramp as nanoseconds: the time a command needs over `d` (R321). -/
def rampNs (s : State) (c : Nat) (d : Int) : Nat := d.natAbs * 1000 / Nat.max 1 (rampRate s c)

/-- RUN is on in this state (Table 11-6). -/
def motRuns : MotState → Bool
  | .kick => true | .ramp => true | .running => true | _ => false

/-- A change of a channel's command or state, with its ACTION record (R474). -/
def motorTo (source : Nat) (st : MotState) (cmd : Int) (c : Nat) (s : State) : State :=
  let m := s.motor c
  let seq := match m.cmd with | some k => k.origin.sequence | none => 0
  let s1 := logAction (U.mot c) source (if motRuns st then Act.run else Act.stop) 16 (m.command / outUnit) (cmd / outUnit) seq s
  s1.setMotor c { m with
    st, enteredAt := s.now, command := cmd, lowSince := none, faultSince := if motRuns st then m.faultSince else none,
    runSince := if st = .running then some s.now else none }

/-- The client's command on the channel ends. -/
def endMotorCmd (c : Nat) (st : Status) (s : State) : State :=
  let m := s.motor c
  match m.cmd with
  | some k => endChanCmd (some k) st (s.setMotor c { m with
      cmd := none, doneFrame := if st = .completed then some (s.frame, k.tag, k.action) else m.doneFrame })
  | none => s

/-- R321: a level-2 action or a loop source ends the client's command. -/
def preemptMotor (c : Nat) (s : State) : State :=
  if (s.motor c).cmd.isSome then (endMotorCmd c .denied s).setEvent (U.mot c) Off.motEvents 8 else s

/-- Table 11-7: STOP, or a target of 0, from any state but FAULTED. -/
def motorStop (source c : Nat) (s : State) : State :=
  let m := s.motor c
  let s1 := s.setMotor c { m with target := 0 }
  if m.st = .faulted ∨ m.st = .stopped then s1 else motorTo source .stopped 0 c s1

/-- Table 11-7: RUN with a target. A channel that kicks, ramps or backs off takes the new target. -/
def motorRun (source : Nat) (target : Nat) (c : Nat) (s : State) : State :=
  if target = 0 then motorStop source c s
  else
    let m := s.motor c
    let s1 := s.setMotor c { m with target := target }
    match m.st with
    | .stopped =>
      if m.rpm < kickExit s c then motorTo source .kick (1000 * outUnit) c s1
      else motorTo source .ramp (shareOf s c m.rpm) c s1
    | .running => if m.command = target then s1 else motorTo source .ramp m.command c s1
    | _ => s1

/-- A loop source moves a running channel: within one frame's ramp the channel passes RAMP and is RUNNING again, and the
continuous movement is no action (R474). -/
def motorFollow (target : Nat) (c : Nat) (s : State) : State :=
  let m := s.motor c
  if m.st = .running ∧ 0 < target ∧ ((target : Int) - m.command).natAbs ≤ (rampStep s c).natAbs then
    s.setMotor c { m with target := target, command := target }
  else if m.target = target ∧ (m.st ≠ .stopped ∨ target = 0) then s
  else motorRun 4 target c s

/-- R319: one failure: BACKOFF, or FAULTED with RESTARTS_EXHAUSTED when the restarts are used up. A RUN in progress ends
with FAULTED (R321). -/
def motorFail (bit c : Nat) (s : State) : State :=
  let m := s.motor c
  let s1 := endMotorCmd c .faulted (s.setEvent (U.mot c) Off.motEvents bit)
  if restarts s c ≤ m.failures then
    (motorTo 1 .faulted 0 c s1).setEvent (U.mot c) Off.motEvents 7
  else motorTo 1 .backoff 0 c (s1.modMotor c (fun m => { m with failures := m.failures + 1 }))

/-- Table 11-7: RAMP reaches its target: RUNNING, and the completion of a RUN is stamped. -/
def motorReached (c : Nat) (s : State) : State :=
  let m := s.motor c
  endMotorCmd c .completed (motorTo 1 .running m.target c s)

/-! ### Commands (R321, R322) -/

/-- What MOTOR_CMD and a WRITE of MOT_CMD carry. -/
structure MotorReq where
  action : Nat
  tag : BitVec 16
  speed : Nat
  origin : Origin

/-- A reflex of Table 3-8 holds the pump's speed (R63). -/
def motorHeld (s : State) (c : Nat) : Bool :=
  match pumpOfMotor s c with
  | some p => pumpDuty s p && !(s.loop 0).holders.isEmpty
  | none => false

/-- R299 as R321 applies it. -/
def motorRefusal (s : State) (c : Nat) (q : MotorReq) : Option Status :=
  let m := s.motor c
  if 1 < q.action ∨ 1000 < q.speed ∨ ((pumpOfMotor s c).isNone ∧ s.plant.mode ≠ .commission) then some .badParam
  else if !inService s || motorHeld s c then some .denied
  else if m.cmd.isSome then some .busy
  else if q.action = 1 ∧ m.st = .faulted then some .faulted
  else none

/-- R321: what the frame of acceptance leaves of a duration counted from the state's entry. -/
def leftOf (s : State) (c d : Nat) : Nat := (s.motor c).enteredAt + d - s.now

/-- R321: the committed time. -/
def motorCommitted (s : State) (c : Nat) (q : MotorReq) : Time :=
  let m := s.motor c
  let target : Int := q.speed * outUnit
  if q.action = 0 ∨ q.speed = 0 then nextFrame s + Config.gapNs
  else
    let ramp := rampNs s c target
    nextFrame s + Config.gapNs + match m.st with
      | .kick => leftOf s c (kickNs s c) + ramp
      | .backoff => leftOf s c (backoffNs s c) + kickNs s c + ramp
      | .ramp => rampNs s c (target - m.command)
      | .running => rampNs s c (target - m.command)
      | _ => kickNs s c + ramp

/-- Put an accepted command on its channel; it acts in the next frame. -/
def acceptMotor (c : Nat) (q : MotorReq) (committed : Time) (s : State) : State :=
  s.modMotor c (fun m => { m with
    cmd := some { origin := q.origin, tag := q.tag, action := q.action, committed, planned := nextFrame s,
                  acceptedAt := s.now },
    reqSpeed := q.speed, started := false })

/-- The answer to one motor command. -/
def motorAnswer (c : Nat) (q : MotorReq) (s : State) : Answer :=
  match motorRefusal s c q with
  | some st => .refuse st 0
  | none =>
    if q.action = 0 ∧ (s.motor c).st = .stopped then .done s.now [] s
    else .accept (motorCommitted s c q) (U.mot c) q.tag (acceptMotor c q (motorCommitted s c q))

/-- One MOTOR_CMD. -/
def motorCmd (h : Hdr) (action : Nat) (tag : BitVec 16) (speed : Nat) (s : State) : State :=
  vcp (chanOp 0x51 2 h) h (fun e s =>
    motorAnswer (unitInst h.unit.toNat) { action, tag, speed, origin := originOf h e } s) s

/-- The frame's commands on motor channels, after the stop of an aborted RUN (R322). A STOP, or a RUN to 0, completes in its
frame; a RUN that finds its channel at the target completes at once. -/
def frameMotorCmds (s : State) : State :=
  forEach motors48 (fun c a =>
    let live := cardTakes a (slotOfMotor c) && cardReady a (slotOfMotor c) 2
    let a := if live && (a.motor c).stopNext then motorStop 6 c (a.modMotor c (fun m => { m with stopNext := false })) else a
    let m := a.motor c
    match m.cmd with
    | some k =>
      if k.planned ≤ a.now ∧ !m.started ∧ live then
        let a1 := a.setMotor c { m with started := true }
        if k.action = 0 ∨ m.reqSpeed = 0 then endMotorCmd c .completed (motorStop 6 c a1)
        else
          let a2 := motorRun 6 (m.reqSpeed * 1000000) c a1
          if (a2.motor c).st = .running then endMotorCmd c .completed a2 else a2
      else a
    | none => a) s

/-- R318: a channel in RAMP moves its command by one frame's ramp. -/
def frameRamp (s : State) : State :=
  forEach motors48 (fun c a =>
    let m := a.motor c
    if m.st = .ramp then
      let d := (m.target : Int) - m.command
      a.setMotor c { m with command :=
        if d.natAbs ≤ (rampStep a c).natAbs then m.target
        else if 0 < d then m.command + rampStep a c else m.command - rampStep a c }
    else a) s

end Sys2Proof.Machine
end

