-- ==== Sys2Proof/Machine/PlantOps.lean ====
section
/-! DEFINITION. Shared operations on the plant (Ch. 3): outputs of the loops and the common pump speed, pumps and staging,
the safety rows of Table 3-8, and the changes of mode. -/

namespace Sys2Proof.Machine

open Sys2Proof

def pumps8 : List Nat := List.range 8
def loops4 : List Nat := [0, 1, 2, 3]

/-! ### Bands and rates -/

def bandLo (s : State) (l off : Nat) : Int := sgn 16 (s.fldOf (U.loop l) off 15 0)
def bandHi (s : State) (l off : Nat) : Int := sgn 16 (s.fldOf (U.loop l) off 31 16)
/-- OUT and SP bands in held units. -/
def outLo (s : State) (l : Nat) : Int := bandLo s l Off.loopOutBand * outUnit
def outHi (s : State) (l : Nat) : Int := bandHi s l Off.loopOutBand * outUnit
def spLo (s : State) (l : Nat) : Int := bandLo s l Off.loopSpBand * spUnit
def spHi (s : State) (l : Nat) : Int := bandHi s l Off.loopSpBand * spUnit
def safeLo (s : State) (l : Nat) : Int := bandLo s l Off.loopSafe
def safeHi (s : State) (l : Nat) : Int := bandHi s l Off.loopSafe
def outRate (s : State) (l : Nat) : Nat := s.fldOf (U.loop l) Off.loopCtrl 15 8
def spRate (s : State) (l : Nat) : Nat := s.fldOf (U.loop l) Off.loopCtrl 31 16

/-- What OUT_RATE and SP_RATE allow in one card-bus frame, in held units. -/
def outStep (s : State) (l : Nat) : Int := (outRate s l * 50 : Nat)
def spStep (s : State) (l : Nat) : Int := (spRate s l * (if l = 0 then 3000 else 50) : Nat)

/-- `x` moved towards `t` by at most `d`. -/
def approach (x t d : Int) : Int := if x < t then (if t ≤ x + d then t else x + d) else if x - d ≤ t then t else x - d

/-- LOOP_SP as the operator wrote it, in held units. -/
def loopSpBase (s : State) (l : Nat) : Int := sgn 16 (s.fldOf (U.loop l) Off.loopSp 15 0) * spUnit

/-- R69, R57: the base setpoint. -/
def baseSp (s : State) (l : Nat) : Int := match (s.loop l).base with | some b => b | none => loopSpBase s l

/-- R101: the provisional change of loop l's setpoint. -/
def provSp (s : State) (l : Nat) : Int :=
  s.broker.prov.foldl (fun a p => if p.act.loop.val = l then a + p.act.sp * spUnit else a) 0

/-- Where the setpoint in force goes while the engine drives: base plus provisional components, inside the band (R48). -/
def spTarget (s : State) (l : Nat) : Int := clampI (spLo s l) (spHi s l) (baseSp s l + provSp s l)

/-- R60: a manifold node's telemetry is fresh. -/
def teleFresh (s : State) (r : Nat) : Bool :=
  match (s.rack r).teleAt with | some t => decide (s.now ≤ t + 500 * Config.ms) | none => false

/-! ### Pumps -/

/-- The pump has its one path (R12). -/
def pumpPath (s : State) (p : Nat) : Bool := (s.pump p).vfd || motors48.any (fun c => decide (pumpOfMotor s c = some p))

def reservePump (s : State) : Option Nat := pumps8.find? (fun p => decide ((s.pump p).use = .reserve))
def idlePump (s : State) : Option Nat := pumps8.find? (fun p => decide ((s.pump p).use = .idle) && !(s.pump p).tripped)

/-- R388: a speed command to the VFD of pump p. -/
def sendSpeed (p : Nat) (s : State) : State :=
  let k := s.pump p
  (s.setPump p { k with sentAt := some s.now }).emit (.vfd ⟨p % 8, Nat.mod_lt _ (by decide)⟩ (k.speed / outUnit).toNat (decide (0 < k.speed)))

/-- R387: the newest speed command is repeated every 100 ms. -/
def repeatSpeed (p : Nat) (s : State) : State :=
  let k := s.pump p
  let due := match k.sentAt with | some t => decide (t + 100 * Config.ms ≤ s.now) | none => true
  if k.vfd && due then sendSpeed p s else s

/-- Command a pump through its path: a motor channel, or a speed command to its VFD (R388). `reflex` ends a client's command
on the channel (R321). -/
def pumpSpeed (source : Nat) (p : Nat) (speed : Int) (s : State) : State :=
  let k := s.pump p
  let s1 := s.setPump p { k with speed := speed }
  match motorOfPump s p with
  | some c =>
    let s2 := if source = 2 then preemptMotor c s1 else s1
    if source = 2 ∧ (s.motor c).target ≠ speed.toNat then motorRun 2 speed.toNat c s2 else motorFollow speed.toNat c s2
  | none =>
    if k.vfd && decide (k.speed ≠ speed) then sendSpeed p s1 else s1

/-- Every duty pump takes the common speed. -/
def pushDuty (source : Nat) (s : State) : State :=
  forEach pumps8 (fun p a => if pumpDuty a p then pumpSpeed source p (a.loop 0).out a else a) s

/-- R61, R509: put a pump to a use. -/
def setUse (p : Nat) (u : PumpUse) (s : State) : State := s.modPump p (fun k => { k with use := u })

/-- The duty set as a bit set (the unit's scaling on instance 4). -/
def dutyMask (s : State) : Nat := pumps8.foldl (fun a p => a + b2n (pumpDuty s p) * 2 ^ p) 0

/-- A stage change with its ACTION record (R474): `change` is made, OLD and NEW are the duty sets. -/
def stageAction (source : Nat) (change : State → State) (s : State) : State :=
  change (logAction (U.loop 4) source Act.stage 16 (dutyMask s) (dutyMask (change s)) 0 s)

/-- Table 3-8: the reserve pump starts at the common speed and is a duty pump. -/
def startReserve (s : State) : State :=
  match reservePump s with
  | some p =>
    let a := stageAction 2 (setUse p .duty) s
    pumpSpeed 2 p (a.loop 0).out (a.modPump p (fun k => { k with starting := true, sinceRest := 0 }))
  | none => s

/-- Table 3-8: pump p has tripped: it leaves the duty set and the reserve starts. -/
def pumpTripped (p : Nat) (s : State) : State :=
  let k := s.pump p
  if k.tripped || decide (k.use = .none) then s
  else
    let duty := decide (k.use = .duty)
    let a := stageAction 2 (fun s => s.setPump p { k with use := .none, tripped := true, speed := 0, leaving := none,
                                                           starting := false }) s
    if duty then
      (startReserve a).modRow .pumpTrip (fun r => { r with active := true, since := s.now })
        |>.modLoop 4 (fun l => { l with holders := .pumpTrip :: l.holders.filter (· ≠ .pumpTrip) })
    else a

/-! ### Outputs -/

/-- R48: a level-2 value that lies outside the OUT band sets OVERRIDE with its record. -/
def overrideIf (l : Nat) (old new : Int) (s : State) : State :=
  if new < outLo s l ∨ outHi s l < new then
    logActionAs Log.override (U.loop l) 2 Act.set 16 (old / outUnit) (new / outUnit) 0 0 0 (s.setEvent (U.loop l) Off.loopEvents 2)
  else s

/-- R47: an engine result that moved the actuator in this frame is dropped for a level-2 action, and recorded. -/
def dropActed (u : Nat) (acted : Option Nat) (old new : Int) (s : State) : State :=
  if acted = some s.frame ∧ old ≠ new then logDropped u 4 Act.set (old / outUnit) (new / outUnit) s else s

/-- A reflex moves the output of loop l at once (Table 3-8), with its ACTION record. -/
def reflexOut (l : Nat) (new : Int) (s : State) : State :=
  let k := s.loop l
  let s0 := dropActed (U.loop l) k.actedIn k.out k.target s
  let s1 := logAction (U.loop l) 2 Act.set 16 (k.out / outUnit) (new / outUnit) 0 (overrideIf l k.out new s0)
  let s2 := s1.modLoop l (fun k => { k with out := new, target := new, actedIn := none })
  if l = 0 then pushDuty 2 s2 else s2

/-- R63: a row of Table 3-8 holds the actuator of a loop. -/
def holdLoop (l : Nat) (row : ReflexRow) (s : State) : State :=
  s.modLoop l (fun k => { k with holders := if k.holders.elem row then k.holders else k.holders ++ [row] })

/-- R63: the actuators of loop 2 are the balancing valves, one of each rack, and only the flow row of its rack holds one. -/
def rackHeld (s : State) (r : Nat) : Bool := (s.loop 2).holders.elem (.rackFlow (fin16 r))

/-- A source drives loop l: the engine, or the PI loops and the loops that hold beside them (Table 3-3). -/
def loopsDriven (s : State) : Bool := engineDriven s || s.plant.fbLoops

/-- The row lets the actuators go: an actuator nothing else holds resumes from its value, inside its band where a source drives the
loops (R63, R66). -/
def releaseLoops (row : ReflexRow) (s : State) : State :=
  forEach [0, 1, 2, 3, 4] (fun l a => a.modLoop l (fun k => { k with
    holders := k.holders.filter (· ≠ row),
    droppedValue := if k.holders = [row] then none else k.droppedValue,
    target := if k.holders = [row] && decide (l < 4) && decide (l ≠ 2) && loopsDriven a then clampI (outLo a l) (outHi a l) k.out
      else k.target })) s

/-- R63: a cut of the common speed by 5 % of full speed; one that changes nothing is not applied. -/
def cutSpeed (s : State) : State :=
  let o := (s.loop 0).out
  if o ≤ 0 then s else reflexOut 0 (if o < 50 * outUnit then 0 else o - 50 * outUnit) s

/-- Rack r's balancing valve to 100 % by a reflex. -/
def rackOpen (r : Nat) (s : State) : State :=
  let k := s.rack r
  let new : Int := 1000 * outUnit
  (logAction (U.loop 2) 2 Act.set r (k.pos / outUnit) 1000 0
    (overrideIf 2 k.pos new (dropActed (U.loop 2) k.actedIn k.pos k.target s))).modRack r
    (fun k => { k with pos := new, target := new, actedIn := none })

/-- R63, R66: the valve of rack r is let go: it moves into the OUT band where a source drives the loops. -/
def rackLetGo (r : Nat) (s : State) : State :=
  let edge := fun (x : Int) => clampI (outLo s 2) (outHi s 2) x
  s.modRack r (fun k => { k with droppedValue := none, target := if loopsDriven s then edge k.pos else k.target })

/-- Every cap lowered by 10 % of its rating, no lower than its floor (Table 3-8, R74). -/
def cutCaps (s : State) : State :=
  let leaves := grantLeaves s
  forEach (upTo 16) (fun r a =>
    lowerCap 2 0 leaves r (Nat.max (floor a r) ((a.rack r).cap - rating a r / 10)) a) s.draw

/-! ### The rows of Table 3-8 -/

/-- All rows, rack-level ones for each rack. -/
def allRows : List ReflexRow :=
  [.pressureHigh, .pressureTrip, .dpLow, .dpHigh, .supplyHigh, .supplyOver, .supplyLow, .returnHigh]
  ++ racks16.map .rackFlow ++ racks16.map .rackReturn

def psHigh (s : State) : Int := s.fldOf U.sys Off.sysPressureLimit 15 0
def psTrip (s : State) : Int := s.fldOf U.sys Off.sysPressureLimit 31 16

/-- A reading that counts (R62). -/
def liveOf (r : Reading) : Option Int := if r.stale then none else some r.value

/-- Rack flow against instance 2 SAFE_LO, both times 1000: flow and its limit. -/
def flowPair (s : State) (r : Nat) : Option (Int × Int) :=
  if teleFresh s r then
    some (((s.rack r).flow * 1000 : Nat), s.fldOf U.cap (Off.capRackFlow + 0x20 * r) 15 0 * safeLo s 2)
  else none

/-- R62: the rack-level rows are evaluated for a rack outside the isolated set. -/
def rackRowLive (s : State) : ReflexRow → Bool
  | .rackFlow r => !inSet s.plant.isolated r.val
  | .rackFlowCap r => !inSet s.plant.isolated r.val
  | .rackReturn r => !inSet s.plant.isolated r.val
  | _ => true

/-- Table 3-8: the condition of a row; none while an input is stale or the row is not evaluated. -/
def rowCond (s : State) (row : ReflexRow) : Option Bool :=
  if !rackRowLive s row then none
  else match row with
  | .pressureHigh => (liveOf s.plant.supplyP).map (fun v => decide (psHigh s ≤ v))
  | .pressureTrip => (liveOf s.plant.supplyP).map (fun v => decide (psTrip s ≤ v))
  | .dpLow => (liveOf s.plant.dp).map (fun v => decide (v < safeLo s 0) && decide (pumpsRunning s ≠ 0))
  | .dpHigh => (liveOf s.plant.dp).map (fun v => decide (safeHi s 0 ≤ v))
  | .supplyHigh => (liveOf s.plant.supplyT).map (fun v => decide (safeHi s 1 ≤ v))
  | .supplyOver => (liveOf s.plant.supplyT).map (fun v => decide (safeHi s 1 + 300 ≤ v))
  | .supplyLow => (liveOf s.plant.supplyT).map (fun v => decide (v ≤ safeLo s 1))
  | .returnHigh => (liveOf s.plant.returnT).map (fun v => decide (safeHi s 3 ≤ v))
  | .rackFlow r => (flowPair s r.val).map (fun p => decide (p.1 < p.2))
  | .rackFlowCap r => (flowPair s r.val).map (fun p => decide (p.1 < p.2))
  | .rackReturn r => if teleFresh s r.val then some (decide (safeHi s 2 ≤ (s.rack r.val).returnT)) else none
  | .pumpTrip => none

/-- Table 3-8: the release condition of a row. -/
def rowOk (s : State) (row : ReflexRow) : Option Bool :=
  if !rackRowLive s row then none
  else match row with
  | .pressureHigh => (liveOf s.plant.supplyP).map (fun v => decide (v < psHigh s - 300))
  | .pressureTrip => (liveOf s.plant.supplyP).map (fun v => decide (v < psHigh s))
  | .dpLow => (liveOf s.plant.dp).map (fun v => decide (safeLo s 0 < v))
  | .dpHigh => (liveOf s.plant.dp).map (fun v => decide (v < safeHi s 0 - 200))
  | .supplyHigh => (liveOf s.plant.supplyT).map (fun v => decide (v < safeHi s 1 - 100))
  | .supplyOver => (liveOf s.plant.supplyT).map (fun v => decide (v < safeHi s 1))
  | .supplyLow => (liveOf s.plant.supplyT).map (fun v => decide (safeLo s 1 + 100 < v))
  | .returnHigh => (liveOf s.plant.returnT).map (fun v => decide (v < safeHi s 3))
  | .rackFlow r => (flowPair s r.val).map (fun p => decide (p.2 < p.1))
  | .rackFlowCap r => (flowPair s r.val).map (fun p => decide (p.2 < p.1))
  | .rackReturn r => if teleFresh s r.val then some (decide ((s.rack r.val).returnT < safeHi s 2 - 200)) else none
  | .pumpTrip => none

/-- A timer that runs while `c` holds: it keeps its start, starts now, or goes back to 0. -/
def sinceOf (now : Time) (c : Option Bool) (t : Option Time) : Option Time :=
  match c with
  | some true => some (match t with | some x => x | none => now)
  | _ => none

/-- The timers of every row follow the readings (R62). The release timer of the cap row of a rack's flow is that of its
condition. -/
def timeRows (s : State) : State :=
  forEach (allRows ++ racks16.map .rackFlowCap) (fun row a =>
    let k := a.row row
    let n := { k with condSince := sinceOf a.now (rowCond a row) k.condSince,
                      okSince := sinceOf a.now (rowOk a row) k.okSince }
    if n = k then a else a.setRow row n) s

/-- The action of a row at its first time or its repeat. -/
def rowAct (row : ReflexRow) (s : State) : State :=
  match row with
  | .pressureHigh => cutSpeed (holdLoop 0 row s)
  | .dpHigh => cutSpeed (holdLoop 0 row s)
  | .pressureTrip =>
    (floorCaps 2 (fun _ => true)
      (forEach pumps8 (fun p a => if pumpDuty a p then pumpSpeed 2 p 0 a else a)
        ((holdLoop 0 row (reflexOut 0 0 s)).modRow row (fun k => { k with active := true })))).setEvent
      U.sys Off.sysModeEvents 4
  | .dpLow => startReserve (holdLoop 4 row s)
  | .pumpTrip => s
  | .supplyHigh => reflexOut 1 (1000 * outUnit) (holdLoop 1 row s)
  | .supplyLow => reflexOut 1 0 (holdLoop 1 row s)
  | .supplyOver => floorCaps 2 (fun _ => true) { s with plant.safetyAll := true }
  | .rackFlow r => rackOpen r.val (holdLoop 2 row s)
  | .rackFlowCap r => floorCaps 2 (fun q => decide (q = r.val)) (s.modRack r.val (fun k => { k with safetyFlow := true }))
  | .rackReturn r => floorCaps 2 (fun q => decide (q = r.val)) s
  | .returnHigh => cutCaps s

/-- A row's action comes into force. -/
def rowStart (row : ReflexRow) (s : State) : State :=
  rowAct row (s.modRow row (fun k => { k with active := true, since := s.now, lastStep := s.now, okSince := none }))

/-- What a row set ends with its release condition. -/
def rowEnd (row : ReflexRow) (s : State) : State :=
  let s1 := releaseLoops row (s.modRow row (fun k => { k with active := false, condSince := none, okSince := none }))
  match row with
  | .supplyOver => { s1 with plant.safetyAll := false }
  | .rackFlow r => rackLetGo r.val s1
  | .rackFlowCap r => s1.modRack r.val (fun k => { k with safetyFlow := false })
  | _ => s1

/-- Table 3-8, column "Persistence": how long the condition has to hold. -/
def rowHolds (s : State) (row : ReflexRow) (d : Nat) : Bool :=
  match (s.row row).condSince with
  | some t => !(s.row row).active && decide (t + d ≤ s.now)
  | none => false

/-- R62: the timers follow, and the single-frame rows act. Only the Keeper runs the plant. -/
def evalRows (s : State) : State :=
  if !isKeeper s then s
  else
    let s1 := timeRows s
    let s2 := if rowHolds s1 .pressureTrip 0 then rowStart .pressureTrip s1 else s1
    if rowHolds s2 .pressureHigh 0 then rowStart .pressureHigh s2 else s2

/-- R62: on a rack's entry to the isolated set the timers of its rows go back to 0 and their actions are released. -/
def clearRackRows (r : Nat) (s : State) : State :=
  let f := fin16 r
  forEach [.rackFlow f, .rackFlowCap f, .rackReturn f] (fun row a => rowEnd row a) s

/-! ### Revocation (R104 to R106) -/

/-- R101: the provisional change of rack r's balancing position [0.1 %]. -/
def provPos (s : State) (r : Nat) : Int :=
  s.broker.prov.foldl (fun a p => if p.act.loop.val = 2 ∧ inSet p.act.racks r then a + p.act.pos else a) 0

/-- R101, R105: where rack r's balancing valve goes: its base value with the provisional components, inside the band. -/
def rackTarget (r : Nat) (s : State) : State :=
  s.modRack r (fun k => { k with target := clampI (outLo s 2) (outHi s 2) (k.base + provPos s r * outUnit) })

/-- Remove the provisional components of a run-ahead ID, with their REVOKE records and, where `notify`, NOTICE_REVOKE
grants to the racks that had a NOTICE. -/
def removeProv (raId : BitVec 32) (notify : Bool) (s : State) : State :=
  let mine := s.broker.prov.filter (fun p => decide (p.act.raId = raId))
  let s1 := forEach mine (fun p a => logActionAs Log.revoke (U.loop p.act.loop.val) 5 Act.provisional 16
    p.act.sp 0 0 raId p.logSeq a) s
  let s2 := { s1 with broker := { s1.broker with
    prov := s1.broker.prov.filter (fun p => decide (p.act.raId ≠ raId)), sighted := s1.broker.sighted.filter (fun i => decide (i ≠ raId)) } }
  let moved := mine.foldl (fun (a : BitVec 16) p => if p.act.loop.val = 2 then a ||| p.act.racks else a) 0
  let s2 := forEach (upTo 16) (fun r a =>
    if inSet moved r ∧ engineDriven a ∧ rackHeld a r = false then rackTarget r a else a) s2
  let told := mine.foldl (fun (a : BitVec 16) p => a ||| p.noticed) 0
  if notify && decide (told ≠ 0) then
    let leaves := grantLeaves s2
    forEach (upTo 16) (fun r a => if inSet told r then sendGrant r Kind.revoke raId 0 leaves a else a) s2.draw
  else s2

/-- R104: revoke a run-ahead ID: at the next leg boundary while a traverse runs, at once when no leg is in progress. -/
def revokeRa (raId : BitVec 32) (notify : Bool) (s : State) : State :=
  if s.seqr.st = .running ∨ s.seqr.st = .restoring then { s with broker.revoke := s.broker.revoke ++ [(raId, notify)] }
  else removeProv raId notify s

/-- R56: every provisional action in force is revoked. -/
def revokeAll (s : State) : State :=
  forEach ((s.broker.prov.map (fun p => p.act.raId)).eraseDups) (fun r a => revokeRa r true a) s

/-! ### Fallback loops (R69) -/

/-- The unit of the PI computation: 1/(1 000 000 · max(TI,1)) of 0.1 %. -/
def piScale (ti : Nat) : Int := (Nat.max 1 ti : Nat)

/-- Table 3-10: the error of loop 0 or 1 in the units of Table 3-17. -/
def piErr (s : State) (l : Nat) : Int :=
  let sp := (s.loop l).spActive / spUnit
  if l = 0 then sp - loopPv s 0 else loopPv s 1 - sp

/-- KP × e in PI units. -/
def piProp (l kp ti : Nat) (e : Int) : Int := kp * e * (if l = 0 then 1000 else 10000) * piScale ti

/-- The growth of I on one tick: KP × e × 0.010 s / TI. -/
def piGrow (l kp ti : Nat) (e : Int) : Int := if ti = 0 then 0 else kp * e * (if l = 0 then 100 else 1000)

/-- R69: the PI loop of instance l takes control, from the setpoint last committed without its provisional components. -/
def piStart (l : Nat) (s : State) : State :=
  let kp := s.fldOf (U.loop l) Off.loopFbGain 31 16
  let ti := s.fldOf (U.loop l) Off.loopFbGain 15 0
  let sp := clampI (spLo s l) (spHi s l) (match (s.loop l).spBase with | some b => b | none => loopSpBase s l)
  let s1 := s.modLoop l (fun k => { k with spActive := sp, spBase := some sp, kp, ti, manual := false, target := k.out })
  s1.modLoop l (fun k => { k with integ := k.out * piScale ti - piProp l kp ti (piErr s1 l) })

/-- Table 3-10: one tick. The output is limited, held by the rate limit, and I grows only while u was not held. -/
def piTick (l : Nat) (s : State) : State :=
  if !(s.loop l).holders.isEmpty then s
  else if (if l = 0 then s.plant.dp.stale else s.plant.supplyT.stale) then s.setEvent (U.loop l) Off.loopEvents 1
  else
    let k := s.loop l
    let sc := piScale k.ti
    let e := piErr s l
    let u := k.integ + piProp l k.kp k.ti e
    let lim := clampI (outLo s l * sc) (outHi s l * sc) u
    -- OUT_RATE over 10 ms: 200 frames
    let step := outStep s l * 200 * sc
    let prev := k.out * sc
    let v := approach prev lim step
    let held := decide (lim ≠ u) || decide (v ≠ lim)
    let sp := approach k.spActive (clampI (spLo s l) (spHi s l) k.spActive) (spStep s l * 200)
    s.setLoop l { k with
      out := v / sc, target := v / sc, integ := if held then k.integ else k.integ + piGrow l k.kp k.ti e,
      spActive := sp, spBase := some sp }

/-! ### Modes -/

/-- The engine may drive again (Table 3-4): RETURN_LEGS clean legs. -/
def returnReady (s : State) : Bool :=
  s.plant.engineOk && decide (s.fldOf U.sys Off.sysModeCtrl 31 16 ≤ s.seqr.cleanRun)

/-- R53: clean legs count from the legs that start after this entry. -/
def restartClean (s : State) : State :=
  { s with seqr := { s.seqr with cleanRun := 0, cleanFrom := s.seqr.leg + 1 } }

/-- The Preman PI loops take control (R69): the first tick is 10 ms after the frame of entry. -/
def enterFallbackLoops (s : State) : State :=
  restartClean ({ piStart 1 (piStart 0 s) with plant.nextTick := s.now + 10 * Config.ms })

/-- A pump that runs when a loop source takes the outputs is a duty pump (log entry 17). -/
def adoptPumps (s : State) : State :=
  forEach pumps8 (fun p a =>
    let runs := match motorOfPump a p with | some c => motRuns (a.motor c).st | none => decide (0 < (a.pump p).speed)
    if runs && decide ((a.pump p).use = .idle) then setUse p .duty a else a) s

/-- R321: entry to a mode with a loop source ends the motor commands of the pumps. -/
def takePumps (s : State) : State :=
  forEach motors48 (fun c a => if (pumpOfMotor a c).isSome then preemptMotor c a else a) (adoptPumps s)

/-- R73: MANUAL clears on the loops that a source starts to drive. -/
def clearManual (ls : List Nat) (s : State) : State :=
  forEach ls (fun l a => a.modLoop l (fun k => { k with manual := false })) s

/-- Every output stays where it is: Table 3-3 "held", and a withheld leg (R67). -/
def holdOutputs (s : State) : State :=
  forEach (upTo 16) (fun r a => if (a.rack r).target = (a.rack r).pos then a else a.modRack r (fun k => { k with target := k.pos }))
    (forEach loops4 (fun l a => a.modLoop l (fun k => { k with target := k.out })) s)

/-- The effects of entering a mode (R52 to R56, R69, R73, R92). -/
def modeEntry (m : Mode) (fb : Bool) (s : State) : State :=
  match m with
  | .off => floorCaps 6 (fun _ => true) { s with plant.forced := false, plant.armed := false }
  | .commission => floorCaps 6 (fun _ => true) { s with plant.forced := false, plant.armed := false }
  | .maintain => revokeAll { s with plant.forced := false, plant.armed := false }
  | .run => clearManual [0, 1, 2, 3, 4] (takePumps s)
  | .fallback => takePumps (enterFallbackLoops (revokeAll s))
  | .isolate => takePumps (if fb then (if s.plant.fbLoops then s else enterFallbackLoops s) else clearManual [0, 1, 2, 3, 4] s)

/-- Table 9-8, R53: the mode, what belongs to it and the isolated set go to the Relief. -/
def mirrorMode (s : State) : State :=
  let p := s.plant
  toPartner (.mode p.mode p.prevMode p.forced p.fbLoops p.commissioned p.armed p.isolated) s

/-- R50, R52: the mode changes, with its event, notification and record. -/
def changeMode (source : Nat) (causeSeq : BitVec 32) (m : Mode) (fb : Bool) (s : State) : State :=
  let old := s.plant.mode
  let s1 := logAction U.sys source Act.mode 16 (modeCode old) (modeCode m) causeSeq s
  let s2 := modeEntry m fb (holdOutputs s1)
  let s3 := { s2 with plant := { s2.plant with mode := m, prevMode := old, fbLoops := fb } }
  event U.sys Off.sysModeEvents 0 (mirrorMode s3)

/-- R52: the engine is lost (`lost`), or 20 legs were withheld: the module's own transition waits for the frame boundary. -/
def engineDown (lost : Bool) (s : State) : State :=
  { s with plant := { s.plant with engineOk := false,
                                   fall := if isKeeper s then some (lost || s.plant.fall.getD false) else s.plant.fall },
           seqr.cleanRun := 0 }

/-- Table 3-4: what the loss of the engine does at the frame boundary. -/
def engineFall (lost : Bool) (s : State) : State :=
  match s.plant.mode with
  | .run =>
    let s1 := changeMode 2 0 .fallback true s
    if lost then s1.setEvent U.sys Off.sysModeEvents 2 else s1
  | .isolate => if s.plant.fbLoops then s else
      mirrorMode { enterFallbackLoops (holdOutputs s) with plant.fbLoops := true }
  | _ => s

/-- Table 3-4: the return to RUN, or of the loops to the engine in ISOLATE, may take place. -/
def mayReturn (s : State) : Bool :=
  !s.plant.forced && (s.bitAt U.sys Off.sysModeCtrl 0 || s.plant.armed) && returnReady s
  && (decide (s.plant.mode = .fallback) || (decide (s.plant.mode = .isolate) && s.plant.fbLoops))

/-- It takes place. -/
def returnEngine (s : State) : State :=
  let s1 := { s with plant.armed := false }
  if s.plant.mode = .fallback ∧ s.plant.isolated = 0 then changeMode 2 0 .run false s1
  else mirrorMode { clearManual [0, 1, 2, 3, 4] s1 with plant.fbLoops := false }

/-- R112 step 1, R54, R62: rack r joins the isolated set. -/
def isolateRack (r : Nat) (s : State) : State :=
  if inSet s.plant.isolated r then s
  else
    let s1 := (clearRackRows r { s with plant.isolated := s.plant.isolated ||| BitVec.ofNat 16 (2 ^ r) }).setEvent
      U.sys Off.sysModeEvents 1
    match s.plant.mode with
    | .run => changeMode 2 0 .isolate false s1
    | .fallback => changeMode 2 0 .isolate true s1
    | _ => mirrorMode s1

/-- R118: rack r leaves the isolated set. -/
def unisolateRack (r : Nat) (s : State) : State :=
  mirrorMode { s with plant.isolated := s.plant.isolated &&& ~~~ BitVec.ofNat 16 (2 ^ r) }

/-- Table 3-4: the last isolated rack is released, so ISOLATE ends at the frame boundary. -/
def leaveIsolate (s : State) : State :=
  if s.plant.mode = .isolate ∧ s.plant.isolated = 0 then
    (if s.plant.fbLoops || s.plant.forced then changeMode 2 0 .fallback true s else changeMode 2 0 .run false s)
  else s

end Sys2Proof.Machine
end

