-- ==== Sys2Proof/Machine/LeakOps.lean ====
section
/-! DEFINITION. Shared operations of the leak response (R109 to R118, R507): sources and stages, the sequence of Table 4-9,
judging dips, escalation and release. -/

namespace Sys2Proof.Machine

open Sys2Proof

/-- Table 4-7: supply flow minus return flow above 2 % of the supply flow. -/
def imbalanced (k : Rack) : Bool := decide (k.supplyFlow < 50 * (k.supplyFlow - k.returnFlow))

/-- A change of stage: ACTION record and NOTIFY with EVENT_BIT 8 of CAP_RACK_STATE_r (R111). -/
def setStage (r : Nat) (st : LeakStage) (s : State) : State :=
  let old := (s.rack r).stage
  if old = st then s
  else
    let s1 := logAction U.cap 2 Act.leakStage r (stageCode old) (stageCode st) 0 s
    notifyEvent { unit := U.cap, status := .ok, time := s.now, eventReg := Off.capRackState + 0x20 * r, eventBit := 8,
                  code := stageCode st }
      (mirrorRack r (s1.modRack r (fun k => { k with stage := st })))

/-! ### Channels of a rack and of a sector -/

/-- The channel with a role and an index on a fitted card (R309, R112). -/
def roleChan (s : State) (role idx : Nat) : Option Nat :=
  valves96.find? (fun c => decide (vlvRole s c = role) && decide (vlvIndex s c = idx) && cardReady s (slotOfValve c) 1)

/-- Isolation valves of rack r and header valves of sector k: supply, then return. -/
def isolationRoles (r : Nat) : List (Nat × Nat) := [(2, r), (3, r)]
def headerRoles (k : Nat) : List (Nat × Nat) := [(4, k), (5, k)]

/-- R507: the judgement of a pull-in in progress: its dip decides, one already judged stands; none: still open. -/
def dipOf (v : Valve) : Option Bool := if v.dipFound then some true else if v.judged && !v.releaseNext then some false else none

/-- R507: the leak sequence takes one channel; the answer is its judgement where it is made at once. A pull-in that was to be aborted
runs on as the leak pull-in. -/
def takeChannel (c : Nat) (s : State) : State × Option Bool :=
  let v := s.valve c
  match v.phase with
  | .peak => ((preemptValve c s).modValve c (fun v => { v with
        leakHeld := true, reflex := true, releaseNext := false, judged := v.judged && !v.releaseNext }), dipOf v)
  | .held => ((preemptValve c s).modValve c (fun v => { v with leakHeld := true, releaseNext := false }),
      some (decide (s.fldOf (U.vlv c) Off.vlvLast 31 16 ≠ 0xFFFF) && !v.openSince))
  | _ => (reflexPull c s, none)

/-- Take the channels of a list of roles in turn: each with its judgement; a role without a channel counts as no dip and
sets CAP_EVENTS.VALVE_NOT_MOVED (R112). Channels without instance are listed as 96. -/
def takeRoles (roles : List (Nat × Nat)) (s : State) : State × List (Nat × Option Bool) :=
  roles.foldl (fun a q =>
    match roleChan a.1 q.1 q.2 with
    | some c =>
      -- a header in PEAK or HELD for another rack of the sector is judged as it stands
      let r := takeChannel c a.1
      (r.1, a.2 ++ [(c, r.2)])
    | none => (a.1.setEvent U.cap Off.capEvents 4, a.2 ++ [(96, some false)])) (s, [])

/-! ### Steps of Table 4-9 -/

/-- Change a rack's leak run. -/
def modLeak (r : Nat) (g : LeakRun → LeakRun) (s : State) : State :=
  s.modRack r (fun k => { k with leak := k.leak.map g })

/-- Step 5b, first part: ESCALATED; t_e is the next frame. -/
def escalate (r : Nat) (s : State) : State :=
  modLeak r (fun l => { l with escalateAt := some (nextFrame s) }) (setStage r .escalated s)

/-- Step 7b, first part: UNCONTAINED. -/
def uncontain (r : Nat) (s : State) : State :=
  (modLeak r (fun l => { l with uncontainAt := some (nextFrame s) }) (setStage r .uncontained s)).setEvent
    U.cap Off.capEvents 5

/-- Steps 5 and 7: what the judgements collected so far decide for a rack. -/
def judgeRack (r : Nat) (s : State) : State :=
  match (s.rack r).leak with
  | none => s
  | some l =>
    match (s.rack r).stage with
    | .confirmed =>
      if l.isolation.any (fun e => decide (e.2 = some false)) then escalate r (s.setEvent U.cap Off.capEvents 4)
      else if l.tv.isSome && l.isolation.all (fun e => decide (e.2 = some true)) then setStage r .isolated s
      else s
    | .isolated =>
      -- a pull-in made again after a loss of field power (R506) showed no dip
      if l.isolation.any (fun e => decide (e.2 = some false)) then escalate r (s.setEvent U.cap Off.capEvents 4) else s
    | .escalated =>
      if l.headers.any (fun e => decide (e.2 = some false)) then uncontain r (s.setEvent U.cap Off.capEvents 4)
      -- step 7a: both headers showed their dip
      else if !l.headers.isEmpty && l.headers.all (fun e => decide (e.2 = some true)) && !l.closed then
        notifyEvent { unit := U.cap, status := .ok, time := s.now, eventReg := Off.capRackState + 0x20 * r, eventBit := 8,
                      code := stageCode .escalated } (modLeak r (fun l => { l with closed := true }) s)
      else s
    | _ => s

/-- Step 3: t_v, the isolation valves are energised. -/
def takeIsolation (r : Nat) (s : State) : State :=
  match (s.rack r).leak with
  | some l =>
    if l.tv.isSome || !l.begun then s
    else
      let t := takeRoles (isolationRoles r) s
      judgeRack r (modLeak r (fun l => { l with tv := some s.now, isolation := t.2 }) t.1)
  | none => s

/-- Step 5b, second part, in frame t_e: the sector to its floor, its Beacons (by their LEAK cause), the header valves. -/
def takeHeaders (r : Nat) (s : State) : State :=
  let k := sectorOf s r
  let s1 := floorCaps 2 (fun q => decide (sectorOf s q = k)) s
  let t := takeRoles (headerRoles k) s1
  judgeRack r (modLeak r (fun l => { l with te := some s.now, headers := t.2, escalateAt := none }) t.1)

/-- Step 7b, second part: the whole row to its floor; every Beacon (by its LEAK cause); NOTIFY. -/
def rowUncontained (r : Nat) (s : State) : State :=
  notifyEvent { unit := U.cap, status := .ok, time := s.now, eventReg := Off.capEvents, eventBit := 5 }
    (floorCaps 2 (fun _ => true) (modLeak r (fun l => { l with uncontainAt := none }) s))

/-- R112: rack r reaches CONFIRMED; its sequence starts at t0, the next frame. -/
def confirmLeak (r : Nat) (s : State) : State :=
  (setStage r .confirmed s).modRack r (fun k => { k with leak := some { t0 := nextFrame s, grantSeq := k.grantSeq } })

/-- Steps 1 and 2 in frame t0: the cap to its floor, the isolated set and the mode; the grant at the floor leaves even when the cap
already stood there. -/
def startSequence (leaves : Time) (r : Nat) (s : State) : State :=
  let s1 := grantSet 2 (floor s r) 0 leaves r ((isolateRack r s).modRack r (fun k => { k with raises := [], cutIn := some s.frame }))
  modLeak r (fun l => { l with begun := true, grantSeq := (s1.rack r).grantSeq }) s1

/-- The sequences whose t0 has come, side by side, their grants leaving together in ascending rack order (R115). -/
def startLeaks (s : State) : State :=
  let due := (upTo 16).filter (fun r => match (s.rack r).leak with | some l => !l.begun && decide (l.t0 ≤ s.now) | none => false)
  if due = [] then s else
    let leaves := grantLeaves s
    forEach due (startSequence leaves) s.draw

/-! ### Sources and stages (R109 to R111) -/

/-- R111: sources seen since SUSPECT that are independent: different bits of Table 4-7, or two cables. -/
def independent (seen : BitVec 8) (cables : List Nat) (reservoir : Bool) : Bool :=
  decide (2 ≤ popN 4 seen.toNat + b2n reservoir) || decide (2 ≤ cables.eraseDups.length)

/-- The reservoir source counts for every rack (R111). -/
def withRow (s : State) (b : BitVec 8) : BitVec 8 := if s.plant.rowSuspect then b ||| 16 else b

/-- Evaluate the stage of rack r from its sources; a Relief's stages are the mirrored ones (Table 9-8). `wet` is set when a cable
with a location names the rack now. -/
def evalStage (r : Nat) (wet : Bool) (s : State) : State :=
  let k := s.rack r
  let own : BitVec 8 := k.sources &&& 15
  if !isKeeper s then s
  else match k.stage with
  | .clear =>
    if wet then confirmLeak r (s.modRack r (fun k => { k with seen := own, seenCables := k.cables }))
    else if own ≠ 0 then
      let s1 := setStage r .suspect (s.modRack r (fun k => { k with seen := own, seenCables := k.cables }))
      if independent own k.cables s.plant.rowSuspect then confirmLeak r s1 else s1
    else s
  | .suspect =>
    let seen := k.seen ||| withRow s own
    let cables := (k.seenCables ++ k.cables).eraseDups
    let s1 := s.modRack r (fun k => { k with seen := seen, seenCables := cables })
    if wet || independent (seen &&& 15) cables (seen.getLsbD 4) then confirmLeak r s1 else s1
  | _ => s

/-- A source of rack r becomes active or clears: the sources, the 60 s timer of R111 and R117, and the stage. -/
def setSource (r bit : Nat) (on wet : Bool) (s : State) : State :=
  let k := s.rack r
  let b : BitVec 8 := BitVec.ofNat 8 (2 ^ bit)
  let src := if on then k.sources ||| b else k.sources &&& ~~~ b
  let clear := decide (src &&& 15 = 0)
  evalStage r wet (s.modRack r (fun k => { k with
    sources := src, clearSince := if clear then (match k.clearSince with | some t => some t | none => some s.now) else none }))

/-- R110: the location interval of cable c at a distance [0.1 m], in 0.005 m steps: half a metre and 0.5 % of the length. -/
def cableSpan (s : State) (c d : Nat) : Int × Int :=
  let tol : Int := 1000 + s.fldOf (U.sns c) Off.snsCfg 15 0
  ((d : Int) * 200 - tol, (d : Int) * 200 + tol)

/-- The rack's segment on cable c meets the interval. -/
def segmentMeets (s : State) (r c d : Nat) : Bool :=
  let w := s.reg U.cap (Off.capRackLeakMap + 0x20 * r)
  let span := cableSpan s c d
  decide (fld w 31 24 = c) && decide ((fld w 11 0 : Int) * 200 ≤ span.2) && decide (span.1 ≤ (fld w 23 12 : Int) * 200)

/-- R109, R325: cable c reads wet at d: every rack whose segment meets the interval. -/
def cableWet (c d : Nat) (s : State) : State :=
  forEach (upTo 16) (fun r a =>
    if segmentMeets a r c d then
      setSource r 0 true true (a.modRack r (fun k => { k with cables := (c :: k.cables).eraseDups }))
    else a) s

/-- Cable c no longer reads wet. -/
def cableDry (c : Nat) (s : State) : State :=
  forEach (upTo 16) (fun r a =>
    let k := a.rack r
    if k.cables.elem c then
      let rest := k.cables.filter (· ≠ c)
      setSource r 0 (!rest.isEmpty) false (a.modRack r (fun k => { k with cables := rest }))
    else a) s

/-- R114: pressure decay on a rack in the isolated set (Table 4-7). -/
def decayRack (r rate : Nat) (s : State) : State :=
  if !inSet s.plant.isolated r then s
  else
    let s1 := setSource r 3 (decide (s.plant.decay < rate)) false s
    if isKeeper s ∧ s.plant.decay < rate ∧ (s1.rack r).stage = .isolated then escalate r s1 else s1

/-- R114: pressure decay in a sector that is closed: the racks whose sequences closed it are its source's; the others keep their
leak stages. -/
def decaySector (k rate : Nat) (s : State) : State :=
  forEach (upTo 16) (fun r a =>
    let closer := match (a.rack r).leak with | some l => l.te.isSome | none => false
    if decide (sectorOf a r = k) && closer then
      let a1 := setSource r 3 (decide (a.plant.decay < rate)) false a
      if isKeeper a ∧ a.plant.decay < rate ∧ (a1.rack r).stage = .escalated then uncontain r a1 else a1
    else a) s

/-! ### Judgement and frames -/

/-- R287: the judgement of a leak pull-in on channel c reaches every rack whose sequence holds it. -/
def dipJudged (c : Nat) (dip : Bool) (s : State) : State :=
  let mark := fun (l : List (Nat × Option Bool)) => l.map (fun e => if e.1 = c ∧ e.2 = none then (c, some dip) else e)
  forEach (upTo 16) (fun r a =>
    judgeRack r (modLeak r (fun l => { l with isolation := mark l.isolation, headers := mark l.headers }) a)) s

/-- R506: channel c, held by a leak sequence and OFF, is pulled in again when its card clears HOLD; its judgement is open. -/
def repullLeak (c : Nat) (s : State) : State :=
  let open_ := fun (l : List (Nat × Option Bool)) => l.map (fun e => if e.1 = c then (c, none) else e)
  startPull true c (forEach (upTo 16) (fun r a =>
    modLeak r (fun l => { l with isolation := open_ l.isolation, headers := open_ l.headers }) a) s)

/-- Table 4-9 in the frame that starts now: step 3 for racks whose CAP_ACK has arrived, and escalations and losses of
containment that fall due. -/
def frameLeaks (s : State) : State :=
  forEach (upTo 16) (fun r a =>
    match (a.rack r).leak with
    | none => a
    | some l =>
      let a1 := if l.begun && l.tv.isNone && l.acked && decide (l.t0 ≤ a.now) then takeIsolation r a else a
      let a2 := if l.escalateAt.any (fun t => decide (t ≤ a.now)) then takeHeaders r a1 else a1
      if l.uncontainAt.any (fun t => decide (t ≤ a.now)) then rowUncontained r a2 else a2) s

/-! ### Release (R117, R118) -/

/-- R117: the write is accepted; an escalation of its frame, still to be carried out, goes before it. -/
def leakReleasable (s : State) (r : Nat) : Bool :=
  decide (3 ≤ stageCode (s.rack r).stage) && decide ((s.rack r).sources &&& 15 = 0)
  && (match (s.rack r).leak with | some l => l.escalateAt.isNone && l.uncontainAt.isNone | none => true)
  && (match (s.rack r).clearSince with | some t => decide (t + 60 * Config.sec ≤ s.now) | none => false)

/-- De-energise the leak-held channels of a role list in the next frame. -/
def freeRoles (roles : List (Nat × Nat)) (s : State) : State :=
  forEach roles (fun q a =>
    forEach valves96 (fun c a =>
      if vlvRole a c = q.1 ∧ vlvIndex a c = q.2 ∧ (a.valve c).leakHeld then
        let a1 := a.modValve c (fun v => { v with leakHeld := false, reflex := false, judged := true })
        if (a.valve c).phase = .peak ∨ (a.valve c).phase = .held then startRelease 6 c a1 else a1
      else a) a) s

/-- R118: rack r is released. -/
def releaseLeak (r : Nat) (s : State) : State :=
  let k := sectorOf s r
  let s1 := freeRoles (isolationRoles r) s
  let others := (upTo 16).any (fun q => decide (q ≠ r) && decide (sectorOf s q = k) && leakDeep s q)
  let s2 := if others then s1 else freeRoles (headerRoles k) s1
  unisolateRack r (setStage r .clear (s2.modRack r (fun k => { k with leak := none, seen := 0, seenCables := [] })))

end Sys2Proof.Machine
end

