-- ==== Sys2Proof/Machine/StationOps.lean ====
section
/-! DEFINITION. Shared operations on the inputs of a card-bus frame (Ch. 11): what each uplink brings, the staleness of
readings, and the process values of the plant loops. -/

namespace Sys2Proof.Machine

open Sys2Proof

/-! ### Sense inputs (R323 to R325, R333) -/

def snsType (s : State) (i : Nat) : Nat := s.fldOf (U.sns i) Off.snsCfg 31 28
def snsHi (s : State) (i : Nat) : Int := sgn 16 (s.fldOf (U.sns i) Off.snsScale 31 16)
def snsLo (s : State) (i : Nat) : Int := sgn 16 (s.fldOf (U.sns i) Off.snsScale 15 0)

/-- Table 11-9: conversion period. -/
def snsPeriod (ty : Nat) : Nat :=
  if ty ≤ 6 then 10 * Config.ms else if ty = 9 then 200 * Config.ms else Config.frameNs

/-- Linear scaling of SNS_SCALE: `x` of `span` above the low end. -/
def scaled (lo hi x span : Int) : Int := lo + (hi - lo) * x / span

/-- R333: FILTER takes a value through its time constant. -/
def filteredValue (s : State) (i : Nat) (old new : Int) : Int :=
  let f := s.fldOf (U.sns i) Off.snsCfg 23 20
  if f = 0 then new else Config.filtered f old new

/-- R326: a calibration holds the input for at most 40 ms. -/
def calHolds (s : State) (i : Nat) : Bool :=
  match (s.sense i).calStart with | some t => decide (s.now < t + 40 * Config.ms) | none => false

/-- A valid reading is taken; during a calibration the input keeps its last value with STALE set (R326). -/
def snsTake (i : Nat) (x : Int) (s : State) : State :=
  let v := s.sense i
  if calHolds s i then s
  else s.setSense i { v with
    value := if v.stale then x else filteredValue s i v.value x, stale := false, fault := false, sampledAt := s.now }

/-- R324: an out-of-range reading: the value stays at the last valid one, whose age grows (R323). -/
def snsRange (i : Nat) (s : State) : State :=
  if calHolds s i then s else (s.modSense i (fun v => { v with fault := true })).setEvent (U.sns i) Off.snsEvents 1

/-- R325, R109: a leak cable's reading. -/
def snsCable (i : Nat) (wet : Option Nat) (s : State) : State :=
  let v := s.sense i
  match wet with
  | none => cableDry i (s.setSense i { v with cable := 0, fault := false, wetAt := none, stale := false, sampledAt := s.now })
  | some d =>
    let len := s.fldOf (U.sns i) Off.snsCfg 15 0
    let d := Nat.min d len
    match v.wetAt with
    | none => s.setSense i { v with wetAt := some s.now, stale := false, fault := false, sampledAt := s.now }
    | some t =>
      -- R325: the next conversion comes 200 ms after the last
      if s.now < t + 200 * Config.ms then s
      else
      let s1 := s.setSense i { v with cable := 1, value := d, fault := false, stale := false, sampledAt := s.now, wetAt := some s.now }
      cableWet i d (if v.cable = 1 then s1 else s1.setEvent (U.sns i) Off.snsEvents 3)

/-- What one input's converter reads; a reading that does not fit the configured TYPE is not taken. -/
def senseUplink (i : Nat) (raw : SenseRaw) (s : State) : State :=
  let ty := snsType s i
  match raw with
  | .temp c => if 1 ≤ ty ∧ ty ≤ 6 then snsTake i c s else s
  | .microAmp v =>
    if ty ≠ 7 then s
    else if v < 3600 ∨ 21000 < v then snsRange i s
    else snsTake i (scaled (snsLo s i) (snsHi s i) ((v : Int) - 4000) 16000) s
  | .milliVolt v =>
    if ty ≠ 8 then s
    else if v < -500 ∨ 10500 < v then snsRange i s
    else snsTake i (scaled (snsLo s i) (snsHi s i) v 10000) s
  | .cableDry => if ty = 9 then snsCable i none s else s
  | .cableWet d => if ty = 9 then snsCable i (some d) s else s
  | .cableBreak =>
    if ty ≠ 9 then s
    else
      let s1 := cableDry i (s.modSense i (fun v => { v with
        cable := 2, fault := true, wetAt := none, stale := false, sampledAt := s.now }))
      if (s.sense i).cable = 2 then s1 else event (U.sns i) Off.snsEvents 4 s1
  | .contact b => if ty = 10 then snsTake i (b2n b) s else s

/-- R323: a value older than its conversion period plus 1 ms reads STALE. -/
def staleSenses (s : State) : State :=
  forEach (upTo 64) (fun i a =>
    let v := a.sense i
    if snsType a i ≠ 0 ∧ !v.stale ∧ v.sampledAt + snsPeriod (snsType a i) + Config.ms < a.now then
      (a.setSense i { v with stale := true }).setEvent (U.sns i) Off.snsEvents 0
    else a) s

/-! ### Pulse inputs, analog outputs, motors -/

/-- R328: PLS_FLOW [0.001 m³/h] of a mean period [ns]. -/
def flowOf (k period : Nat) : Nat := 3600000 * 1000000000 / Nat.max 1 (k * period)

def pulseUplink (i edges period : Nat) (above : Bool) (s : State) : State :=
  if !s.bitAt (U.pls i) Off.plsCfg 0 then s
  else
    let p := s.pulse i
    let s1 := if edges = 0 then s else s.setPulse i { p with
      count := (p.count + edges) % 2 ^ 32, flow := flowOf (s.fldOf (U.pls i) Off.plsCfg 31 16) period, lastPulse := s.now }
    if above then s1.setEvent (U.pls i) Off.plsEvents 1 else s1

/-- R327: readback and load of an analog output. -/
def aoUplink (i rb : Nat) (above : Bool) (s : State) : State :=
  let a := s.analog i
  let low := decide (s.fldOf (U.ao i) Off.aoCfg 1 0 = 0) && decide (2 * rb < a.demand)
  let s1 := s.setAnalog i { a with
    readback := rb, overload := above, openLoop := a.openLoop && low,
    lowSince := sinceOf s.now (some low) a.lowSince }
  if above && !a.overload then s1.setEvent (U.ao i) Off.aoEvents 1 else s1

/-- Table 11-7: the speed lies below TACH_LIMIT % of the commanded speed. -/
def tachBelow (s : State) (c rpm : Nat) : Bool :=
  decide ((rpm : Int) * 100 * 1000 * outUnit < (s.fldOf (U.mot c) Off.motTach 31 24 : Int) * (s.motor c).command * fullRpm s c)

/-- R318: the tachometer's speed [rpm]: 60 / (PPR × T) over the mean of the last 8 pulse periods, 0 after 1 s without a pulse. -/
def tachRpm (now : Time) (ppr : Nat) (periods : List Nat) (last : Time) : Nat :=
  if periods = [] ∨ last + Config.sec ≤ now then 0
  else 60 * Config.sec * periods.length / Nat.max 1 (ppr * periods.foldl (· + ·) 0)

def motorUplink (c : Nat) (periods : List Nat) (encRpm : Nat) (counts : Int) (open_ : Bool) (s : State) : State :=
  let m := s.motor c
  let ps := (periods.reverse ++ m.periods).take 8
  let last := if periods = [] then m.lastPulse else s.now
  let rpm := if encSource s c then encRpm else tachRpm s.now (s.fldOf (U.mot c) Off.motTach 7 0) ps last
  let judged := decide (m.st = .ramp) || decide (m.st = .running)
  s.setMotor c { m with
    rpm, periods := ps, lastPulse := last, tachCount := (m.tachCount + periods.length) % 2 ^ 32, position := m.position + counts,
    lowSince := sinceOf s.now (some (judged && tachBelow s c rpm)) m.lowSince,
    faultSince := sinceOf s.now (some open_) m.faultSince }

/-! ### Cards (R312) -/

/-- The card slots 0 to 5. -/
def slots6 : List Nat := List.range 6

/-- A discarded uplink: counted, unless field power is away (R506). `hi`, `lo` select the field of CARD_ERR. -/
def discarded (k hi lo : Nat) (s : State) : State :=
  if !fieldOn s then s
  else (s.modCard k (fun c => { c with missedRun := c.missedRun + 1 })).addCount U.sys (0x400 + 0x20 * k + Off.cardErr) hi lo 1

/-- The card that sends an uplink's values: its readings count only from a matching ACTIVE card. -/
def uplinkCard : Uplink → Option (Nat × Nat)
  | .valve ch _ => some (slotOfValve ch.val, 1)
  | .motor ch _ _ _ _ => some (slotOfMotor ch.val, 2)
  | .sense i _ => some (slotOfSense i.val, 3)
  | .pulse i _ _ _ => some (slotOfPulse i.val, 3)
  | .ao i _ _ => some (slotOfAnalog i.val, 3)
  | _ => none

/-- One item of the frame's uplinks. -/
def uplink (u : Uplink) (s : State) : State :=
  let live := match uplinkCard u with | some (k, ty) => cardReady s k ty && fieldOn s | none => true
  if !live then s
  else match u with
  | .valve ch l => valveSamples ch.val l s
  | .motor ch rpm p n f => motorUplink ch.val rpm p n f s
  | .sense i raw => senseUplink i.val raw s
  | .pulse i e p o => pulseUplink i.val e p o s
  | .ao i rb o => aoUplink i.val rb o s
  | .good k => s.modCard k.val (fun c => { c with missedRun := 0, seenAt := s.now })
  | .badCrc k => discarded k.val 31 16 s
  | .missed k => discarded k.val 15 0 s
  | .badSegment k => s.modCard k.val (fun c => { c with segBad := true })
  | .serviceAck _ _ _ => s
  | .decayRack r rate => decayRack r.val rate s
  | .decaySector k rate => decaySector k.val rate s

/-! ### Process values (R60) -/

/-- The sense input assigned to process value `j` of the commissioning record, or its redundant partner in use. -/
def pvSense (s : State) (j : Nat) (redundant : Bool) : Option Sense :=
  match s.plant.pvInputs.getD j none with
  | none => none
  | some i =>
    if redundant && s.bitAt (U.sns i.val) Off.snsPartner 7 then some (s.sense (s.fldOf (U.sns i.val) Off.snsPartner 5 0))
    else some (s.sense i.val)

/-- A reading follows its sense input. -/
def follow (now : Time) (r : Reading) (v : Option Int) : Reading :=
  match v with
  | some x => { value := x, stale := false, staleSince := r.staleSince }
  | none => { r with stale := true, staleSince := if r.stale then r.staleSince else now }

def liveSense (v : Option Sense) : Option Int := match v with | some x => if x.stale || x.fault then none else some x.value | none => none

/-- A process value: its input's reading, or the redundant sensor's where that is in use. -/
def pvLive (s : State) (j : Nat) (red : Bool) : Option Int :=
  match liveSense (pvSense s j false) with
  | some x => some x
  | none => if red then liveSense (pvSense s j true) else none

/-- R60: the telemetry of rack r's node goes stale, so its balancing valve holds, or is fresh again. -/
def nodeStale (r : Nat) (s : State) : State :=
  let k := s.rack r
  let stale := !teleFresh s r
  if stale = k.teleStale then s
  else
    let drives := stale && engineDriven s && !inSet s.plant.isolated r
    let s1 := s.setRack r { k with teleStale := stale, target := if drives && !rackHeld s r then k.pos else k.target }
    if drives then s1.setEvent (U.loop 2) Off.loopEvents 1 else s1

/-- R60: the stale state of a loop's input, from which its output holds; a reading that comes back ends the redundant sensor's use and the bound. -/
def loopStale (l : Nat) (stale : Bool) (s : State) : State :=
  let k := s.loop l
  let first := stale && k.staleSince.isNone
  let s1 := s.setLoop l { k with staleSince := sinceOf s.now (some stale) k.staleSince,
                                 target := if first && engineDriven s && k.holders.isEmpty then k.out else k.target }
  if first && loopsDriven s then s1.setEvent (U.loop l) Off.loopEvents 1 else s1

/-- R60: a loop whose own sensors read again leaves the redundant one, and the bound a stale input set. -/
def ownSensor (l : Nat) (ok : Bool) (s : State) : State :=
  if ok then s.modLoop l (fun k => { k with redundant := false, staleBound := false }) else s

/-- The process values follow the sense inputs of the frame. -/
def processValues (s : State) : State :=
  let red0 := (s.loop 0).redundant
  let sup := pvLive s 0 red0
  let ret := pvLive s 1 red0
  let dp := match sup, ret with | some a, some b => some (a - b) | _, _ => none
  let st := pvLive s 2 (s.loop 1).redundant
  let rt := pvLive s 3 false
  let p := s.plant
  let s1 := { s with plant := { p with
    supplyP := follow s.now p.supplyP sup, dp := follow s.now p.dp dp,
    supplyT := follow s.now p.supplyT st, returnT := follow s.now p.returnT rt } }
  let s1 := forEach (upTo 16) nodeStale s1
  let s2 := loopStale 3 rt.isNone (loopStale 1 st.isNone (loopStale 0 dp.isNone s1))
  ownSensor 1 (pvLive s 2 false).isSome (ownSensor 0 ((pvLive s 0 false).isSome && (pvLive s 1 false).isSome) s2)

/-! ### Bands and control registers at their boundary -/

/-- R66: what lies outside a new band moves to its nearest edge; a held actuator stays (R63). -/
def bandEdges (l : Nat) (mask : BitVec 8) (s : State) : State :=
  let s1 := if mask.getLsbD 0 then s.modLoop l (fun k => { k with spEdge := true }) else s
  if mask.getLsbD 1 ∧ l = 2 then
    forEach (upTo 16) (fun r a => if rackHeld a r then a
      else a.modRack r (fun k => { k with target := clampI (outLo a 2) (outHi a 2) k.target })) s1
  else if mask.getLsbD 1 ∧ (s.loop l).holders = [] then
    s1.modLoop l (fun k => { k with target := clampI (outLo s l) (outHi s l) k.target })
  else s1

/-- R411, R66: the bands accepted for a boundary come into force in order of acceptance, each with its record (R474), and
their requests complete. -/
def applyBands (s : State) : State :=
  let s1 := forEach s.plant.bandsNext (fun e a =>
    let l := e.1.loop.toNat
    let a0 := logAction (U.loop l) 6 Act.band 16 0 0 (match e.2 with | some o => o.sequence | none => 0) a
    let a1 := if e.1.mask.getLsbD 0 then
      a0.setReg (U.loop l) Off.loopSpBand (wd (e.1.spHi.toNat * 65536 + e.1.spLo.toNat)) else a0
    let a2 := if e.1.mask.getLsbD 1 then
      a1.setReg (U.loop l) Off.loopOutBand (wd (e.1.outHi.toNat * 65536 + e.1.outLo.toNat)) else a1
    let a3 := bandEdges l e.1.mask a2
    match e.2 with | some o => endRequest o .completed a3 | none => a3) s
  { s1 with plant.bandsNext := [] }

/-- The registers of R121 that act from a leg boundary on. -/
def ctrlOffset (off : Nat) : Bool := [Off.capCtrl, Off.sightCtrl, Off.leakCtrl].elem off

/-- R121: CAP_CTRL, SIGHT_CTRL and LEAK_CTRL come into force. -/
def applyCtrl (s : State) : State :=
  let s1 := forEach s.plant.ctrlNext (fun e a =>
    if e.1 = Off.capCtrl then { a with plant.raiseRate := fld e.2 15 8 }
    else if e.1 = Off.sightCtrl then { a with plant.horizon := fld e.2 31 16, plant.depth := fld e.2 15 0 }
    else { a with plant.resRate := fld e.2 31 16, plant.decay := fld e.2 15 0 }) s
  { s1 with plant.ctrlNext := [] }

end Sys2Proof.Machine
end

