-- ==== Sys2Proof/Machine/BusOps.lean ====
section
/-! DEFINITION. Shared operations of the Buoyline channels (Ch. 13): joining the bus, bus monitoring, which transmit buffer is on
the bus, and the error counters of ISO 11898-1. -/

namespace Sys2Proof.Machine

open Sys2Proof

def buses6 : List Nat := List.range 6

/-- R385: the channel takes part in the bus: neither bus-off nor OFFLINE. -/
def busActive (b : Bus) : Bool := decide (b.st = .errorActive) || decide (b.st = .errorPassive)

/-- R368: the channel transmits, acknowledges and signals errors. -/
def busDrives (s : State) (c : Nat) : Bool := busActive (s.bus c) && s.pair.stages

/-- A transmit buffer's record (R379); one never written is a standard data frame with identifier 0 (log entry 33). -/
def txFrame (b : Bus) (j : Nat) : CanFrame :=
  (mget none b.tx j).getD { xtd := false, rtr := false, id := 0, fdf := false, brs := false, esi := false, dlc := 0, data := [] }

/-- R379: where channel c's filter banks, receive buffer k (its shadow 0x80 above) and transmit buffer j lie in hub SRAM. -/
def busBase (c : Nat) : Nat := 0x03C00000 + 0x40000 * c
def filterBankAt (c : Nat) (bank : Bool) : Nat := busBase c + b2n bank * 0x8000
def rxBufferAt (c k : Nat) (shadow : Bool) : Nat := busBase c + 0x10000 + 0x100 * k + b2n shadow * 0x80
def txBufferAt (c j : Nat) : Nat := busBase c + 0x14000 + 0x80 * j

/-- R382: the arbitration field as ISO 11898-1 compares it, bit by bit from the base identifier; the lower wins. -/
def arbitration (f : CanFrame) : Nat :=
  if f.xtd then f.id / 2 ^ 18 % 2 ^ 11 * 2 ^ 21 + 2 ^ 20 + 2 ^ 19 + f.id % 2 ^ 18 * 2 + b2n f.rtr
  else f.id % 2 ^ 11 * 2 ^ 21 + b2n f.rtr * 2 ^ 20

/-- R382: the pending buffer that would win, the lower index among equals. -/
def txWinner (b : Bus) : Option Nat :=
  ((upTo 32).filter (fun j => b.pend.getLsbD j)).foldl (fun a j => match a with
    | some k => if arbitration (txFrame b j) < arbitration (txFrame b k) then some j else some k
    | none => some j) none

/-- The winner starts while no frame of the channel is on the bus (log entry 34). -/
def startTx (c : Nat) (s : State) : State :=
  if busDrives s c && (s.bus c).onBus.isNone then s.modBus c (fun b => { b with onBus := txWinner b }) else s

def startBuses (s : State) : State := forEach buses6 startTx s

/-- R387: transmit requests pending on an outgoing Keeper are lost, and its error counters stay at 0 (R368). -/
def dropTx (s : State) : State :=
  forEach buses6 (fun c a => a.modBus c (fun b => { b with
    pend := 0, cancelled := 0, onBus := none, tries := [], tec := 0, rec_ := 0,
    st := if b.st = .offline then .offline else .errorActive, recovering := false,
    offSince := if b.st = .offline then b.offSince else none })) s

/-- R372: an enabled channel joins the bus, with its error counters at 0. -/
def joinBus (c : Nat) (s : State) : State :=
  if (s.bus c).st = .offline ∧ s.bitAt (U.bl c) Off.blCtrl 0 then
    startTx c (s.modBus c (fun b => { b with st := .errorActive, tec := 0, rec_ := 0, offSince := none, recovering := false }))
  else s

def joinBuses (s : State) : State := forEach buses6 joinBus s

/-- R385, R386: entry to bus-off; more than BUSOFF_MAX entries within 60 s end recovery by itself. -/
def enterBusOff (c : Nat) (s : State) : State :=
  let b := s.bus c
  let times := (s.now :: b.busOffTimes).filter (fun t => decide (s.now < t + 60 * Config.sec))
  let max := s.fldOf (U.bl c) Off.blCtrl 15 12
  let forced := decide (max ≠ 0) && decide (max < times.length)
  let recover := s.bitAt (U.bl c) Off.blCtrl 4 && !forced && !b.manualOnly
  let s1 := s.setBus c { b with
    st := .busOff, tec := 255, busOffTimes := times, offSince := some s.now, recovering := recover, onBus := none,
    manualOnly := b.manualOnly || forced }
  let s2 := event (U.bl c) Off.blEvents 0 s1
  if forced then s2.setEvent (U.bl c) Off.blEvents 5 else s2

/-- The state that goes with the counters (ISO 11898-1): bus-off above 255 transmit errors, error-passive above 127 of either. -/
def judgeBus (c : Nat) (s : State) : State :=
  let b := s.bus c
  if !busActive b then s
  else if 255 < b.tec then enterBusOff c s
  else
    let passive := decide (127 < b.tec) || decide (127 < b.rec_)
    if passive && decide (b.st = .errorActive) then event (U.bl c) Off.blEvents 1 (s.setBus c { b with st := .errorPassive })
    else if !passive then s.setBus c { b with st := .errorActive }
    else s

/-- A transmit error: 8 more; an error-passive sender without ACK adds none (ISO 11898-1). -/
def txError (c : Nat) (noAck : Bool) (s : State) : State :=
  let b := s.bus c
  let n := if noAck && decide (b.st = .errorPassive) then 0 else 8
  judgeBus c ((s.setBus c { b with tec := b.tec + n }).addCount (U.bl c) Off.blFaults 31 16 1)

/-- A receive error; a channel in bus monitoring keeps its counters at 0 (R368). -/
def rxError (c : Nat) (s : State) : State :=
  let s1 := s.addCount (U.bl c) Off.blFaults 31 16 1
  if busDrives s c then judgeBus c (s1.modBus c (fun b => { b with rec_ := Nat.min 255 (b.rec_ + 1) })) else s1

/-- A valid reception lowers the receive error counter (ISO 11898-1). -/
def rxGood (c : Nat) (s : State) : State :=
  let b := s.bus c
  if b.rec_ = 0 then s
  else if 127 < b.rec_ then judgeBus c ((s.setBus c { b with rec_ := 119 + Config.recAfter s.free % 9 }).draw)
  else judgeBus c (s.setBus c { b with rec_ := b.rec_ - 1 })

/-! ### What nodes and drives report (Table 13-5) -/

/-- Telemetry of a manifold node, and the status of a drive, on their channels (R19). -/
def takeReading (c : Nat) (f : CanFrame) (reading : NodeReading) (t : Time) (s : State) : State :=
  let id := f.id
  if f.xtd || f.rtr then s
  else if 0x100 ≤ id ∧ id < 0x200 ∧ id % 16 < 12 ∧ nodeBus s ((id - 0x100) / 16) = c then
    match reading with
    | .rack flow supply ret dT tRet =>
      s.modRack ((id - 0x100) / 16) (fun k =>
        let k1 := { k with flow := flow, supplyFlow := supply, returnFlow := ret, dT := dT, returnT := tRet, teleAt := some t }
        { k1 with imbalanceSince := if imbalanced k1 then some (k.imbalanceSince.getD t) else none })
    | _ => s
  else if 0x401 ≤ id ∧ id < 0x500 ∧ (id - 0x401) % 0x20 < 7 ∧ nodeBus s 16 = c then
    match reading with
    | .drive trip _ => s.modPump ((id - 0x401) / 0x20) (fun k => { k with vfdTrip := trip, vfdStatusAt := some t })
    | _ => s
  else s

end Sys2Proof.Machine
end

