-- ==== Sys2Proof/Machine/PairOps.lean ====
section
/-! DEFINITION. Shared operations of the pair (Ch. 9): leg boundaries, the start of a planned handover, and what the module
asks of its partner by itself. -/

namespace Sys2Proof.Machine

open Sys2Proof

/-- The first leg boundary at or after `t`, with the leg that starts there; a card-bus frame boundary while no leg runs. -/
def boundaryFrom (s : State) (t : Time) : Time × Nat :=
  if legsRun s then
    let n := Nat.max 1 (ceilDiv (t - s.seqr.legStart) (Nat.max 1 (legNs s)))
    (s.seqr.legStart + n * legNs s, s.seqr.leg + n)
  else (ceilFrame t, s.seqr.leg)

/-- R264 step 1: a planned handover begins. -/
def startHandover (at_ : Time) (origin : Option Origin) (s : State) : State :=
  let b := boundaryFrom s (Nat.max at_ (s.now + 2 * Config.ms))
  sendService 0x11 toPartnerOrd [0, b.2, b.1]
    { s with pair := { s.pair with
      handover := some { acceptedAt := s.now, th := b.1, leg := b.2, origin }, selfHandover := false } }

/-- Table 9-7 step 8. -/
def handoverDone (s : State) (at_ : Time) : Time := (boundaryFrom s (Nat.max at_ (s.now + 2 * Config.ms))).1 + 250 * Config.us

/-- R265: the Keeper asks for a handover by itself, with COLD_OK = 1 and AT = 0; one that R263 would refuse now waits. -/
def askHandover (s : State) : State :=
  if !isKeeper s || !reliefHealthy s || s.pair.handover.isSome then s
  else if s.seqr.st = .restoring then { s with pair.selfHandover := true }
  else startHandover 0 none s

end Sys2Proof.Machine
end

