-- ==== Sys2Proof/Machine/CopyOps.lean ====
section
/-! DEFINITION. Shared operations of the copy engines (Ch. 5): engine addresses, what R141 permits, rings, starting and ending
copies. The data of a copy is outside the model (log entry 6); its outcome arrives
with COPY_COMPLETE. -/

namespace Sys2Proof.Machine

open Sys2Proof

/-- Table 5-9: what an engine address names; a peer's memory is DRAM (1), a cluster store (2) or another mapped one (3). -/
inductive Mem
  | dram (off : Nat) | weight (k : Nat) | hub (off : Nat) | cluster (die row col : Nat) | peer (ord kind : Nat)
  | unmapped
deriving DecidableEq, Repr

/-- Table 5-9: a local address. -/
def localMem (a : Nat) : Mem :=
  if a < 0x4000000000 then .dram a
  else if a < 0x4040000000 then .weight ((a - 0x4000000000) / 0x8000000)
  else if 0x5000000000 ≤ a ∧ a < 0x5004000000 then .hub (a - 0x5000000000)
  else if 0x6000000000 ≤ a ∧ a < 0x6100000000 ∧ a / 2 ^ 27 % 2 = 0 ∧ a % 2 ^ 18 < 0x30000 ∧ a / 2 ^ 18 % 32 < 16 then
    .cluster (a / 2 ^ 28 % 16) (a / 2 ^ 23 % 16) (a / 2 ^ 18 % 32)
  else .unmapped

/-- R138: a 48-bit engine address. -/
def memOf (a : Nat) : Mem :=
  if 2 ^ 48 ≤ a then .unmapped
  else if a < 2 ^ 47 then (if a / 2 ^ 40 ≠ 0 then .unmapped else localMem a)
  else if a / 2 ^ 40 % 8 ≠ 0 then .unmapped
  else match localMem (a % 2 ^ 40) with
    | .unmapped => .unmapped
    | .dram _ => .peer (a / 2 ^ 43 % 16) 1
    | .cluster _ _ _ => .peer (a / 2 ^ 43 % 16) 2
    | _ => .peer (a / 2 ^ 43 % 16) 3

/-- The compute die that serves a logical die at the rotation step in force (R210). -/
def physicalOf (s : State) (l : Nat) : Option Nat := (upTo 16).find? (fun i => decide (logicalOf s i = l))

/-- R146: the memory belongs to a gated die. -/
def memGated (s : State) : Mem → Bool
  | .weight k => s.power.closed.elem (16 + k) || s.power.closed.elem 24
  | .cluster d _ _ => match physicalOf s d with
    | some i => s.power.closed.elem i || s.power.closed.elem 24
    | none => true
  | _ => false

/-! ### Hub SRAM (Table 5-6) -/

/-- The regions of hub SRAM. -/
inductive HubRegion | logbook | preman | deck | inputs | traverse | copyRings | buoyline | reserved
deriving DecidableEq, Repr

def hubRegion (off : Nat) : HubRegion :=
  if off < 0x1000000 then .logbook else if off < 0x1400000 then .preman else if off < 0x2400000 then .deck
  else if off < 0x2C00000 then .inputs else if off < 0x3800000 then .traverse else if off < 0x3C00000 then .copyRings
  else if off < 0x3E00000 then .buoyline else .reserved

/-- Who a region is written by: rings of Preman (1) and of Deck (2). -/
def hubWriter (ring : Nat) (g : HubRegion) : Bool :=
  match g with
  | .logbook => decide (ring = 1) | .preman => decide (ring = 1) | .deck => decide (ring = 2) | .inputs => decide (ring = 1)
  | .traverse => decide (ring = 2) | .copyRings => true | .buoyline => true | .reserved => false

/-- Table 5-13: what Deck's ring may use: Deck private, and the traverse buffers. -/
def deckHub (off : Nat) : Bool := decide (hubRegion off = .deck) || decide (hubRegion off = .traverse)

/-- Bytes from the first to the last of `rows` rows. -/
def extent (rows stride len : Nat) : Nat := (rows - 1) * stride + len

/-- R141: a DRAM range meets the area of a loaded image, its checkpoint slots or its rings. Where the image and the slots lie the
implementation decides. -/
def imageDram (s : State) (off len : Nat) : Bool :=
  let meets := fun (b l : Nat) => decide (off < b + l) && decide (b < off + len)
  match s.seqr.image with
  | some i => meets Config.imageBase i.len || meets (Config.ckptBase 0) (0x400 + i.ckptBytes)
      || meets (Config.ckptBase 1) (0x400 + i.ckptBytes) || i.rings.any (fun r => meets r.1 r.2)
  | none => false

/-! ### What a descriptor may do (R138 to R141, R146, Table 5-13) -/

/-- The rows of a descriptor. -/
def copyRows (d : CopyDesc) : Nat := if d.shape = 0 then 1 else d.rows

/-- The bytes it moves. -/
def copyBytes (d : CopyDesc) : Nat := d.length * (copyRows d)

/-- Tables 5-11, 5-12, R141: the descriptor's form. -/
def copyForm (cls : Nat) (d : CopyDesc) : Bool :=
  decide (d.cls = cls) && d.reservedZero && decide (d.shape ≤ 1) && decide (32 ≤ d.length) && decide (d.length % 32 = 0)
  && decide (d.srcStride % 32 = 0) && decide (d.dstStride % 32 = 0) && decide (1 ≤ d.rows) && decide (d.rows ≤ 65535)
  && decide ((copyBytes d) ≤ 2 ^ 32) && (decide (d.shape = 1) || (decide (d.rows = 1) && decide (d.srcStride = 0) && decide (d.dstStride = 0)))
  && (if cls = 0 then decide (d.deliverBy = 0) else decide (d.issueCycle = 0))

/-- R138: one row lies in one memory. -/
def rowMapped (a len : Nat) : Bool :=
  match memOf a, memOf (a + len - 1) with
  | .unmapped, _ => false
  | _, .unmapped => false
  | .dram _, .dram _ => true
  | .weight _, .weight _ => true
  | .hub _, .hub _ => true
  | .cluster d r c, .cluster e q b => decide (d = e) && decide (r = q) && decide (c = b)
  | .peer o k, .peer p l => decide (o = p) && decide (k = l)
  | _, _ => false

/-- Every row of both sides is mapped. -/
def copyMapped (d : CopyDesc) : Bool :=
  (upTo (copyRows d)).all (fun j => rowMapped (d.src + j * d.srcStride) d.length && rowMapped (d.dst + j * d.dstStride) d.length)

/-- R141: firmware copies of engine memories run only while the sequencer runs no traverse. -/
def idleOnly (s : State) : Option Status := if !legsRun s && decide (s.seqr.st ≠ .restoring) then none else some .denied

/-- Table 5-13 for DRAM and hub SRAM, `toHub` naming the direction. -/
def firmwareHub (s : State) (ring h a : Nat) (toHub : Bool) (d : CopyDesc) : Option Status :=
  let hubLen := extent (copyRows d) (if toHub then d.dstStride else d.srcStride) d.length
  let dramLen := extent (copyRows d) (if toHub then d.srcStride else d.dstStride) d.length
  let last := h + hubLen - 1
  let owner := if ring = 2 then deckHub h && deckHub last && decide (hubRegion h = hubRegion last) && !imageDram s a dramLen
    else !toHub || (hubWriter 1 (hubRegion h) && hubWriter 1 (hubRegion last))
  if owner then none else some .denied

/-- Table 5-13, R141, R146: the pair and its owner, for class 0 (CE0 to CE5) and rings 0, 1, 2 (as class 1, 2, 3). -/
def pairRefusal (s : State) (user : Nat) (d : CopyDesc) : Option Status :=
  let fw := fun (_ : Unit) => if user = 2 then idleOnly s else if user = 3 then some .denied else some .badParam
  match memOf d.src, memOf d.dst with
  | .dram _, .weight _ => if user = 0 then none else fw ()
  | .dram _, .cluster _ _ _ => if user = 0 then none else fw ()
  | .cluster _ _ _, .dram _ => if user = 0 then none else fw ()
  | .hub _, .cluster _ _ _ => if user = 0 then none else some .badParam
  | .cluster _ _ _, .hub _ => if user = 0 then none else some .badParam
  | .cluster _ _ _, .cluster _ _ _ => if user = 0 then none else some .badParam
  | .cluster _ _ _, .peer o 2 => if user ≠ 0 then some .badParam else if imageOr s (·.modules) ≤ o then some .notPresent else none
  | .dram _, .peer o 1 =>
    if user ≠ 1 then some .badParam
    else if imageOr s (·.modules) ≤ o ∧ o ≠ s.fldOf U.sys Off.hallCfg 3 0 then some .notPresent else none
  | .hub h, .dram a => if user < 2 then some .badParam else firmwareHub s (user - 1) h a false d
  | .dram a, .hub h => if user < 2 then some .badParam else firmwareHub s (user - 1) h a true d
  | _, _ => some .badParam

/-! ### Paths and their free shares (Table 5-7, R143, R200) -/

/-- The path between two memories, as PATH_SHARE codes it. -/
def pathOf (src dst : Mem) : Nat :=
  match src, dst with
  | .cluster _ _ _, .cluster _ _ _ => 2
  | _, .cluster _ _ _ => 3
  | .cluster _ _ _, .hub _ => 3
  | .cluster _ _ _, .dram _ => 3
  | _, .weight _ => 4
  | _, .peer _ _ => 5
  | _, _ => 1

/-- R200: the free share of a path [permille]; all of it with no image that says less. -/
def freeShareOf (s : State) (p : Nat) : Nat :=
  match s.seqr.image with
  | some i => (match i.pathShare.find? (fun e => decide (e.1 = p)) with | some e => Nat.min 1000 e.2 | none => 1000)
  | none => 1000

/-- Table 5-7: bytes a path carries in 50 µs: DRAM, a hub link to a compute die, to a store die, a Chain link (R337), and a mesh edge. -/
def pathBytes (p : Nat) : Nat :=
  if p = 1 then 27300000 else if p = 3 then 10000000 else if p = 4 then 5000000 else if p = 5 then 2502528 else 75000000

/-- R143, R200: `bytes` from now on, within the free share of a path. -/
def pathInTime (s : State) (p bytes deliverBy : Nat) : Bool :=
  decide (freeShareOf s p ≠ 0) && decide (s.now + ceilDiv (bytes * 50000 * 1000) (pathBytes p * Nat.max 1 (freeShareOf s p)) ≤ deliverBy)

/-- DELIVER_BY (0: none) can be met on every path of the copy; one that touches DRAM also takes the DRAM path. -/
def copyInTime (s : State) (d : CopyDesc) : Bool :=
  let dram := match memOf d.src, memOf d.dst with | .dram _, _ => true | _, .dram _ => true | _, .peer _ 1 => true | _, _ => false
  decide (d.deliverBy = 0) || (pathInTime s (pathOf (memOf d.src) (memOf d.dst)) (copyBytes d) d.deliverBy && (!dram || pathInTime s 1 (copyBytes d) d.deliverBy))

/-- R138, R141, R146: why a descriptor may not run (`user` as in `pairRefusal`). -/
def copyRefusal (s : State) (user : Nat) (d : CopyDesc) : Option Status :=
  if !copyForm (Nat.min user 2) d then some .badParam
  else if !copyMapped d then some .badAddress
  else match pairRefusal s user d with
    | some st => some st
    | none =>
      if memGated s (memOf d.src) || memGated s (memOf d.dst) then some .domainDown
      else if !copyInTime s d then some .deadlineUnmeetable
      else none

/-! ### Rings -/

def Copies.ring (c : Copies) (k : Nat) : List Copy := if k = 0 then c.ring0 else if k = 1 then c.ring1 else c.ring2
def Copies.setRing (c : Copies) (k : Nat) (l : List Copy) : Copies :=
  if k = 0 then { c with ring0 := l } else if k = 1 then { c with ring1 := l } else { c with ring2 := l }
def Copies.head (c : Copies) (k : Nat) : Nat := if k = 0 then c.head0 else if k = 1 then c.head1 else c.head2
def Copies.setHead (c : Copies) (k n : Nat) : Copies :=
  if k = 0 then { c with head0 := n } else if k = 1 then { c with head1 := n } else { c with head2 := n }
def Copies.tail (c : Copies) (k : Nat) : Nat := if k = 0 then c.tail0 else if k = 1 then c.tail1 else c.tail2
def Copies.setTail (c : Copies) (k n : Nat) : Copies :=
  if k = 0 then { c with tail0 := n } else if k = 1 then { c with tail1 := n } else { c with tail2 := n }

/-- CE_RING_CTRL.SIZE. -/
def ringSize (s : State) (k : Nat) : Nat := Nat.max 1 (s.fldOf U.hub (Off.ceRingCtrl + 0x10 * k) 15 0)

/-- R140, R147: the event and, for a ring, the merged count of a copy that has ended. -/
def copyEvent (ring : Nat) (d : CopyDesc) (st : Status) (s : State) : State :=
  match st with
  | .completed =>
    if !d.notify then s
    else
      let s1 := s.setEvent U.hub Off.ceEvents 0
      if ring < 3 then s1.addCount U.hub Off.ceMerge (10 * ring + 9) (10 * ring) 1 else s1
  | .denied => s.setEvent U.hub Off.ceEvents 1
  | .badParam => s.setEvent U.hub Off.ceEvents 1
  | .domainDown => s.setEvent U.hub Off.ceEvents 2
  | .faulted => s.setEvent U.hub Off.ceEvents 3
  | _ => s

/-- The engine of a ring (Table 5-10): CE6 serves ring 0, CE7 rings 1 and 2. -/
def ringEngine (k : Nat) : Nat := if k = 0 then 6 else 7

def setBusy (e : Nat) (on : Bool) (s : State) : State :=
  { s with copies.busy := if on then s.copies.busy ||| BitVec.ofNat 8 (2 ^ e) else s.copies.busy &&& ~~~ BitVec.ofNat 8 (2 ^ e) }

/-- R360: the peer of a ring-0 descriptor. -/
def peerOf (d : CopyDesc) : Option Nat := match memOf d.dst with | .peer o _ => some o | _ => none

/-- R360: CE6 opens a bulk session towards the peer of a descriptor it starts. -/
def openBulk (d : CopyDesc) (s : State) : State :=
  match peerOf d with
  | some o =>
    let n := (copyBytes d)
    sendService 0x20 o [d.tag.toNat, n, d.dst % 2 ^ 40, d.deliverBy]
      { s with hall.bulks := s.hall.bulks ++ [{ ord := o, session := d.tag, bytes := n, opener := true, open_ := false }] }
  | none => s

/-- R360: the opener's session with a descriptor's peer ends, an open one with BULK_CLOSE. -/
def closeBulk (d : CopyDesc) (st : Status) (bytes : Nat) (s : State) : State :=
  let mine := fun (b : Bulk) => b.opener && decide (b.session = d.tag) && decide (peerOf d = some b.ord)
  match s.hall.bulks.find? mine with
  | some b =>
    let s1 := { s with hall.bulks := s.hall.bulks.filter (fun b => !mine b) }
    if b.open_ then sendService 0x22 b.ord [d.tag.toNat, statusCode st, bytes] s1 else s1
  | none => s

/-- R360: the next ring-0 descriptor waits: a session with its peer is open in the other direction. -/
def bulkHeld (s : State) : Bool :=
  match s.copies.ring0 with
  | c :: _ => !c.running && (match peerOf c.desc with | some o => s.hall.bulks.any (fun b => decide (b.ord = o)) | none => false)
  | [] => false

/-- R140: what is written back: BYTES_DONE whole beats of 32 B, all of them on COMPLETED; DIGEST_OUT in 61 bits. -/
def copyEndOf (ring : Nat) (d : CopyDesc) (st : Status) (bytes digest : Nat) (s : State) : CopyEnd :=
  { ring := ring, tag := d.tag, status := st, bytes := if st = .completed then (copyBytes d) else Nat.min (copyBytes d) bytes / 32 * 32,
    digest := if d.digest then digest % 2 ^ 61 else 0, at_ := s.now }

/-- R140: the copy `d` of a ring ends and is written back; HEAD, which named it until now, moves past it (log entry 112). A copy
answered YIELD is queued again at the tail of ring 0 (R144). -/
def endCopy (k : Nat) (d : CopyDesc) (st : Status) (bytes digest : Nat) (rest : List Copy) (s : State) : State :=
  let e := copyEndOf k d st bytes digest s
  let c := (s.copies.setRing k rest).setHead k ((s.copies.head k + 1) % ringSize s k)
  let c := if st = .yield ∧ k = 0 then
      { c with ring0 := c.ring0 ++ [{ desc := d, ring := 0 }], tail0 := (c.tail0 + 1) % ringSize s 0 } else c
  copyEvent k d st { s with copies := { c with ended := e :: c.ended } }

/-- The ring CE7 serves next: the other of rings 1 and 2 where it holds a descriptor. -/
def nextFirmwareRing (c : Copies) : Nat :=
  let last := if c.lastRing = 1 then 1 else 2
  if (c.ring (3 - last)).isEmpty then last else 3 - last

/-- The copy at the head of a ring starts, or ends without moving data (R141). -/
def startHead (k : Nat) (s : State) : State :=
  match s.copies.ring k with
  | [] => s
  | c :: rest =>
    if c.running then s
    else match copyRefusal s (k + 1) c.desc with
      | some st => endCopy k c.desc st 0 0 rest s
      | none =>
        let s1 := setBusy (ringEngine k) true { s with copies := s.copies.setRing k ({ c with running := true } :: rest) }
        if k = 0 then openBulk c.desc s1 else s1

/-- R142: CE6 starts what it may start of ring 0, in ring order. -/
def serveService (fuel : Nat) (s : State) : State :=
  match fuel with
  | 0 => s
  | n + 1 =>
    if s.copies.ring0.isEmpty || s.copies.ring0.any (·.running) || !s.copies.incoming.isEmpty || bulkHeld s then s
    else serveService n (startHead 0 s)

/-- CE7 is moving data. -/
def firmwareBusy (c : Copies) : Bool := c.ring1.any (·.running) || c.ring2.any (·.running)

/-- R139: CE7 serves rings 1 and 2 alternately, one descriptor at a time. -/
def serveFirmware (fuel : Nat) (s : State) : State :=
  match fuel with
  | 0 => s
  | n + 1 =>
    if firmwareBusy s.copies || (s.copies.ring1.isEmpty && s.copies.ring2.isEmpty) then s
    else
      let k := nextFirmwareRing s.copies
      serveFirmware n (startHead k { s with copies.lastRing := k })

/-- R139, R144: CE6 takes its own descriptors while no incoming request waits; CE7 serves rings 1 and 2 in turn. -/
def startCopies (s : State) : State :=
  let s1 := serveService (s.copies.ring0.length + 1) s
  serveFirmware (s1.copies.ring1.length + s1.copies.ring2.length + 1) s1

/-- The running copy of a ring ends. -/
def endRunning (k : Nat) (st : Status) (bytes digest : Nat) (s : State) : State :=
  match s.copies.ring k with
  | c :: rest => if c.running then closeBulk c.desc st bytes (setBusy (ringEngine k) false (endCopy k c.desc st bytes digest rest s)) else s
  | [] => s

/-- R444, R445: every copy of a ring that meets the memory `p` ends with DOMAIN_DOWN: a running one with the bytes it has moved
(free), a waiting one as it is reached. -/
def dropCopies (p : Mem → Bool) (s : State) : State :=
  startCopies (forEach [0, 1, 2] (fun k a =>
    match a.copies.ring k with
    | c :: _ =>
      if c.running && (p (memOf c.desc.src) || p (memOf c.desc.dst)) then
        endRunning k .domainDown (Config.bytesMoved a.free) 0 a.draw
      else a
    | [] => a) s)

end Sys2Proof.Machine
end

