-- ==== Sys2Proof/Machine/CardOps.lean ====
section
/-! DEFINITION. Shared operations of power domains and cards: gates (R443 to R447), what a card's removal or loss of power
does to its channels (R23, R316, R506), and the states cards report (R434), and the service window (R313). -/

namespace Sys2Proof.Machine

open Sys2Proof

/-! ### Domains (Table 15-7) -/

def domainCode : Domain → Nat
  | .compute i => i.val
  | .store k => 16 + k.val
  | .package => 24
  | .slot k => 0x20 + k.val

/-- Table 15-7: the drain limit. Two card-bus frames for a slot, 100 µs for a die. -/
def drainNs (_ : Nat) : Nat := 100 * Config.us

/-- R444 step 1: the gate closes; `ejector` says how its pending commands will end. -/
def closeGate (code : Nat) (ejector : Bool) (s : State) : State :=
  if s.power.closed.elem code then s
  else { s with power := { s.power with closed := code :: s.power.closed, closing := (code, s.now, ejector) :: s.power.closing } }

/-- R447: a reset is signalled across a crossing. -/
def signalReset (code : Nat) (s : State) : State :=
  let s1 := (s.setEvent U.sys Off.pwrEvents 5).addCount U.sys Off.pwrXreset 15 0 1
  s1.setReg U.sys Off.pwrXreset (putFld (s1.reg U.sys Off.pwrXreset) 31 24 code)

/-- A die of the engine loses power. -/
def gateDie (i : Nat) (s : State) : State := s.modDie i (fun d => { d with st := if d.st = 3 then 3 else 2, power := 0 })

def dies24 : List Nat := List.range 24

/-- The engine package goes down at once, without draining (R42, R443): every die gated, every copy ended, nothing released. -/
def gatePackage (s : State) : State :=
  let s1 := dropCopies (fun _ => true) s
  let s2 := forEach dies24 gateDie { s1 with power := { s1.power with
    closed := (24 :: dies24 ++ s1.power.closed).eraseDups, closing := s1.power.closing.filter (fun e => decide (0x20 ≤ e.1)) } }
  signalReset 24 s2

/-- R444 steps 2 and 3 of a die: its copies end with DOMAIN_DOWN. -/
def dieDown (code : Nat) (s : State) : State :=
  if code = 24 then forEach dies24 gateDie (dropCopies (fun _ => true) s)
  else gateDie code (dropCopies (fun m => match m with
    | .weight k => decide (code = 16 + k)
    | .cluster d _ _ => decide (physicalOf s d = some code)
    | _ => false) s)

/-- R446, Table 15-7: the engine domains open again, but for the gates of RETIRED dies; a drain still under way ends here. -/
def openPackage (s : State) : State :=
  let s1 := if s.power.closing.any (fun e => decide (e.1 = 24)) then signalReset 24 (dieDown 24 s) else s
  let s2 := { s1 with power := { s1.power with
    closed := s1.power.closed.filter (fun d => decide (24 < d) || (decide (d < 24) && decide ((s1.die d).st = 3))),
    closing := s1.power.closing.filter (fun e => decide (0x20 ≤ e.1)) } }
  forEach dies24 (fun i a => a.modDie i (fun d => { d with st := if d.st = 2 then 1 else d.st })) s2

/-- The sequencer stops where it stands: nothing more is released (Table 8-10 step 1, Table 7-12). -/
def stopLegs (st : SeqSt) (s : State) : State :=
  { s with seqr := { s.seqr with st := if s.seqr.st = .empty ∨ s.seqr.st = .loading then .empty else st,
                                 loading := none, starting := none, stopAt := none, restore := none, legs := s.seqr.legs.map (fun r => { r with dropped := true }) },
            copies.sched := [] }

/-! ### Channels of a card -/

def valvesOf (k : Nat) : List Nat := valves96.filter (fun c => decide (slotOfValve c = k))
def motorsOf (k : Nat) : List Nat := motors48.filter (fun c => decide (slotOfMotor c = k))
def sensesOf (k : Nat) : List Nat := (upTo 64).filter (fun c => decide (slotOfSense c = k))
def analogsOf (k : Nat) : List Nat := (upTo 16).filter (fun c => decide (slotOfAnalog c = k))

/-- A coil that has lost its supply: OFF, without current, its pull-in no longer running. An ordinary pull-in is not judged;
a reflex one is still due at its DIP_END (R506). -/
def coilOff (v : Valve) : Valve :=
  { v with phase := .off, current := 0, judged := if v.reflex then v.judged else true, dipFound := false, peakSeen := false,
           releaseNext := false, pulseEnded := false, tripped := v.tripped }

/-- R506: valve channel c as both field inputs are lost. -/
def valveUnpowered (c : Nat) (s : State) : State :=
  let s1 := match (s.valve c).cmd with
    | some k => dropValveCmd c (if k.action = 0 then .completed else .faulted) s
    | none => dropValveCmd c .faulted s
  s1.modValve c coilOff

/-- A motor channel whose card has no power: RUN and SPEED off. -/
def motorUnpowered (st : Status) (c : Nat) (s : State) : State :=
  (endMotorCmd c st s).modMotor c (fun m => { m with st := .stopped, command := 0, started := false, lowSince := none,
                                                     faultSince := none, runSince := none, failures := 0, stopNext := false,
                                                     periods := [], refValid := false })

/-- R506: a card without power. -/
def cardUnpowered (k : Nat) (s : State) : State :=
  match (s.card k).type with
  | 1 => forEach (valvesOf k) valveUnpowered s
  | 2 => forEach (motorsOf k) (motorUnpowered .faulted) s
  | 3 => forEach (analogsOf k) (fun i a => a.modAnalog i (fun x => { x with demand := 0, readback := 0, lowSince := none })) s
  | _ => s

/-- R23, R444 step 2: every pending command of a card's channels ends, and its channels are off. -/
def cardRemoved (st : Status) (k : Nat) (s : State) : State :=
  match (s.card k).type with
  | 1 => forEach (valvesOf k) (fun c a =>
      let busy := (a.valve c).cmd.isSome
      (dropValveCmd c st a).modValve c (fun v => { coilOff v with cardReset := v.cardReset || (busy && decide (st = .cardReset)) })) s
  | 2 => forEach (motorsOf k) (fun c a =>
      let busy := (a.motor c).cmd.isSome
      (motorUnpowered st c a).modMotor c (fun m => { m with cardReset := m.cardReset || (busy && decide (st = .cardReset)) })) s
  | 3 => forEach (sensesOf k) (fun i a =>
      let busy := (a.sense i).calQueued.isSome || (a.sense i).calStart.isSome
      a.modSense i (fun v => { v with stale := true, calQueued := none, calStart := none,
                                      cardReset := v.cardReset || (busy && decide (st = .cardReset)) }))
      (forEach (analogsOf k) (fun i a => a.modAnalog i (fun x => { x with demand := 0, readback := 0, lowSince := none })) s)
  | _ => s

/-- R316: CARD_RESET of the channels that had commands pending, once the card is refitted. -/
def refitted (k : Nat) (s : State) : State :=
  match (s.card k).type with
  | 1 => forEach (valvesOf k) (fun c a =>
      if (a.valve c).cardReset then (a.modValve c (fun v => { v with cardReset := false })).setEvent (U.vlv c) Off.vlvEvents 11 else a) s
  | 2 => forEach (motorsOf k) (fun c a =>
      if (a.motor c).cardReset then (a.modMotor c (fun v => { v with cardReset := false })).setEvent (U.mot c) Off.motEvents 9 else a) s
  | 3 => forEach (sensesOf k) (fun c a =>
      if (a.sense c).cardReset then (a.modSense c (fun v => { v with cardReset := false })).setEvent (U.sns c) Off.snsEvents 5 else a) s
  | _ => s

/-- R434: a state that a card reports becomes the command in force. -/
def applyChan (e : CardChannel) (s : State) : State :=
  match e with
  | .valve c on => s.modValve c.val (fun v => { v with phase := if on then .held else .off })
  | .motor c on cmd => s.modMotor c.val (fun m => { m with
      st := if on then .running else .stopped, enteredAt := s.now, command := cmd * outUnit, target := cmd * 1000000,
      runSince := if on then some s.now else none })
  | .ao i d => s.modAnalog i.val (fun a => { a with demand := d })

/-- The slot a reported channel belongs to. -/
def chanSlot : CardChannel → Nat
  | .valve c _ => slotOfValve c.val
  | .motor c _ _ => slotOfMotor c.val
  | .ao i _ => slotOfAnalog i.val

/-! ### Cards -/

/-- A change of a card's state is notified on the system unit (Table 11-4); EVENT_REG is CARD_STATE of the slot. -/
def cardNotify (k : Nat) (st : Status) (detail : Option Nat) (s : State) : State :=
  notifyEvent { unit := U.sys, status := st, time := s.now, eventReg := 0x400 + 0x20 * k + Off.cardState, eventBit := 28, detail } s

/-- R313: the requests of a card that goes away end with it. -/
def dropService (k : Nat) (s : State) : State :=
  { s with service := { queue := s.service.queue.filter (fun q => decide (q.card ≠ k)),
                        sent := match s.service.sent with | some e => if e.1.card = k then none else some e | none => none } }

/-- R469: a card that has not completed enumeration within 3 attempts on a new image starts from its previous bank. -/
def tryFirmware (c : Card) : Card :=
  if !c.newFw then c else if 3 ≤ c.attempts then { c with newFw := false, attempts := 0 } else { c with attempts := c.attempts + 1 }

/-- R316 step 1: presence seen, or a FAULTED card answers again: the gate reopens by enumeration (R446). -/
def enumerate (k : Nat) (seenAt : Time) (s : State) : State :=
  let s1 := { s with power := { s.power with
    closed := s.power.closed.filter (fun d => decide (d ≠ 0x20 + k)), closing := s.power.closing.filter (fun e => decide (e.1 ≠ 0x20 + k)) } }
  (dropService k s1).modCard k (fun c => { tryFirmware c with
    st := .enumerating, hold := true, cardHold := true, reason := 0, seenAt, missedRun := 0, descReads := 0, segBad := false })

/-- R315: why a card is a MISMATCH: its REASON. -/
def mismatch (s : State) (k : Nat) (d : CardDesc) : Option Nat :=
  if !d.crcOk then some 4
  else if d.type ≠ s.fldOf U.sys (0x400 + 0x20 * k + Off.cardExpect) 7 0 then some 1
  else if d.type = 0 ∨ 3 < d.type ∨ (d.type = 3 ∧ k < 4) then some 2
  else if d.fwVer < Config.minCardFw d.type then some 3
  else none

/-! ### The service window (R313) -/

/-- The stored registers of a card's channels. -/
def storedRegs (s : State) (k : Nat) : List (Nat × Word) := s.regs.filter (fun e => decide (slotOfUnit (e.1 / 0x1000) = some k))

/-- The firmware image a card of a type runs: the active bank of its update unit (Table 16-4). -/
def cardImage (s : State) (k : Nat) : Bank := activeBank (s.upd ((s.card k).type + 2))

/-- R469: 128-byte pieces of a card's image. -/
def firmwarePieces (s : State) (k : Nat) : Nat := match (cardImage s k).man with | some m => ceilDiv m.imageLen 128 | none => 0

/-- The data of a write; none for a read. -/
def svcData (s : State) (q : SvcReq) : Option (List Nat) :=
  match q.use with
  | .config p => some ((Config.cardConfig (s.card q.card).type p (storedRegs s q.card)).take 128)
  | .channel u => some ((Config.unitConfig u (s.regs.filter (fun e => decide (e.1 / 0x1000 = u)))).take 128)
  | .firmware p => some ((Config.cardFirmware ((s.card q.card).type + 2)
      (match (cardImage s q.card).man with | some m => m.version | none => 0) p).take 128)
  | _ => none

/-- R469: a card whose image is written restarts on it, and is enumerated again. -/
def pieceWritten (k p : Nat) (s : State) : State :=
  if p + 1 < firmwarePieces s k then askService { card := k, use := .firmware (p + 1) } s
  else enumerate k s.now (s.modCard k (fun c => { c with newFw := true, attempts := 0 }))

/-- Table 16-7: a card is held with HOLD = 1 and written through the service window. -/
def flashCard (k : Nat) (s : State) : State :=
  if firmwarePieces s k = 0 then enumerate k s.now s
  else askService { card := k, use := .firmware 0 } (s.modCard k (fun c => { c with hold := true, cardHold := true }))

/-- R313: a write is complete when the acknowledgement in the next frame's uplink matches. -/
def svcAck (up : List Uplink) (s : State) : State :=
  match s.service.sent with
  | none => s
  | some (q, data) =>
    let matches_ := up.any (fun u => match u with
      | .serviceAck k ok crc => decide (k.val = q.card) && ok && decide (crc = Config.cardCrc data)
      | _ => false)
    let s1 := { s with service.sent := none }
    if !matches_ then { s1 with service.queue := q :: s1.service.queue }
    else match q.use with
    | .firmware p => pieceWritten q.card p s1
    | _ => s1

/-- R314: when the presence debounce ends, the descriptor is to be read in two service windows. -/
def askDescriptor (k : Nat) (s : State) : State :=
  let c := s.card k
  if c.st = .enumerating ∧ c.descReads = 0 ∧ c.seenAt + 100 * Config.ms + Config.frameNs ≤ s.now
      ∧ !s.service.queue.any (fun q => decide (q.card = k)) then
    askService { card := k, use := .descriptor 1 } (askService { card := k, use := .descriptor 0 } s)
  else s

/-- R313: Preman's requests come before Deck's, and otherwise the oldest comes first. -/
def svcNext (q : List SvcReq) : Option SvcReq := match q.find? (fun r => !r.deck) with | some r => some r | none => q.head?

/-- R313: one transaction, on one card: a read is replied to in the window, and a write waits for its acknowledgement. -/
def svcServe (s : State) : State :=
  match svcNext s.service.queue with
  | none => s
  | some q =>
    let s1 := { s with service.queue := s.service.queue.erase q }
    match svcData s q with
    | some d => { s1 with service.sent := some (q, d) }
    | none => match q.use with
      | .descriptor _ => s1.modCard q.card (fun c => { c with descReads := c.descReads + 1 })
      | _ => s1

/-- The service window of the frame that ends, after the acknowledgement its uplinks bring. Without field power no card answers. -/
def serviceFrame (up : List Uplink) (s : State) : State :=
  if !fieldOn s then s else svcServe (forEach (List.range 6) askDescriptor (svcAck up s))

end Sys2Proof.Machine
end

