-- ==== Sys2Proof/Machine/Hardware.lean ====
section
/-! DEFINITION. Cards and their gates, inputs of power, fans and temperatures, the harness loop and the locate flag
(Ch. 2, 11, 15). -/

namespace Sys2Proof.Machine

open Sys2Proof

/-! ### Cards -/

/-- R23: an ejector lever's switch opens: the gate of the slot closes. -/
def execCardEject (k : Fin 6) (s : State) : Host.Outcome State Fault Refusal :=
  .next (if (s.card k.val).st = .absent then s else closeGate (0x20 + k.val) true s)

/-- R443: a card's logic supply faults: the gate of the slot closes. -/
def execCardLogicSupplyFault (k : Fin 6) (s : State) : Host.Outcome State Fault Refusal :=
  .next (if (s.card k.val).st = .absent then s else closeGate (0x20 + k.val) false s)

/-- R312: after 20 consecutive discarded uplinks the card is FAULTED, and its gate closes (R443). -/
def execCardFaulted (k : Fin 6) (s : State) : Host.Outcome State Fault Refusal :=
  let c := s.card k.val
  if 20 ≤ c.missedRun ∧ (c.st = .active ∨ c.st = .enumerating) then
    .next (closeGate (0x20 + k.val) false
      (cardNotify k.val .faulted (some (k.val + 1)) (s.setCard k.val { c with st := .faulted, hold := true })))
  else .next s

/-- R444 steps 2 and 3 of a slot: pending commands end, with CARD_RESET after the ejector and DOMAIN_DOWN otherwise. -/
def slotDown (k : Nat) (ejector : Bool) (s : State) : State :=
  (dropService k (cardRemoved (if ejector then .cardReset else .domainDown) k s)).modCard k (fun c => { c with
    st := if c.st = .faulted then .faulted else .gated, hold := true })

/-- R444: the drain limit of a closing gate has passed: the domain powers down, and its reset is signalled (R447). -/
def execDomainDrainEnd (d : Domain) (s : State) : Host.Outcome State Fault Refusal :=
  let code := domainCode d
  match s.power.closing.find? (fun e => decide (e.1 = code)) with
  | some e =>
    if e.2.1 + drainNs code ≤ s.now then
      let s1 := { s with power.closing := s.power.closing.filter (fun f => decide (f.1 ≠ code)) }
      .next (signalReset code (if 0x20 ≤ code then slotDown (code - 0x20) e.2.2 s1 else dieDown code s1))
    else .next s
  | none => .next s

/-- R446: a reopened die reports ready: its requests are accepted again. A card slot reopens by enumeration. -/
def execDomainReady (d : Domain) (s : State) : Host.Outcome State Fault Refusal :=
  let code := domainCode d
  -- R42: an engine domain that opens again may be gated by its temperature again
  let opened := fun (s : State) => { s with
    power.closed := s.power.closed.filter (fun e => decide (e ≠ code)), fans.gatedHot := s.fans.gatedHot && decide (0x20 ≤ code) }
  let wake := fun (i : Nat) (s : State) => s.modDie i (fun x => { x with
    st := if x.st = 2 then (if legsRun s then 0 else 1) else x.st })
  -- Table 15-7: the gate of a RETIRED die stays closed
  if s.power.closing.any (fun e => decide (e.1 = code)) ∨ !s.power.closed.elem code ∨ (code < 24 ∧ (s.die code).st = 3)
      ∨ (code ≤ 24 ∧ s.integ.resetAt.isSome) then .next s
  else match d with
    | .slot _ => .next s
    | .package => .next (opened s)
    | .compute i => .next (wake i.val (opened s))
    | .store k => .next (wake (16 + k.val) (opened s))

/-- R316 step 1: a presence contact closes, or a FAULTED card answers again. -/
def execCardPresence (k : Fin 6) (s : State) : Host.Outcome State Fault Refusal :=
  let c := s.card k.val
  if 5 ≤ s.power.step ∧ (c.st = .absent ∨ c.st = .gated ∨ c.st = .faulted ∨ c.st = .mismatch) then
    .next (enumerate k.val s.now s)
  else .next s

/-- R316 steps 2 to 4: the debounce has ended and both halves of the descriptor are read: R315 is checked, and a card that passes is
written its channel configuration in 16 service windows. -/
def execEnumDebounceEnd (k : Fin 6) (desc : CardDesc) (s : State) : Host.Outcome State Fault Refusal :=
  let c := s.card k.val
  if c.st = .enumerating ∧ c.descReads = 2 ∧ fieldOn s then
    let s1 := s.setCard k.val { c with descReads := 3, type := if desc.crcOk ∧ (1 ≤ desc.type ∧ desc.type ≤ 3) then desc.type else 0xFF, hwRev := desc.hwRev, fwVer := desc.fwVer, serial := desc.serial }
    match mismatch s k.val desc with
    | some r => .next (cardNotify k.val .ok none (s1.modCard k.val (fun c => { c with st := .mismatch, reason := r })))
    | none => .next (forEach (upTo 16) (fun p => askService { card := k.val, use := .config p }) s1)
  else .next s

/-- Table 16-7: with an activation of the card's kind under way, the next card of the type follows once this one is ACTIVE. -/
def nextCardUpdate (k : Nat) (s : State) : State :=
  let u := (s.card k).type + 2
  if (s.upd u).activating.isSome then
    match slots6.find? (fun j => decide (k < j) && decide ((s.card j).type = (s.card k).type) && decide ((s.card j).st = .active)) with
    | some j => if (s.upd u).trial then flashCard j s else enumerate j s.now s
    | none => s.modUpd u (fun x => { x with activating := none })
  else s

/-- R316 steps 5 and 6: the configuration is written: ACTIVE, and HOLD clears for the next frame. At start-up it stays until
outputs are released (R434). The channels are as the card reports them: off on a card that was never powered (R298). -/
def execCardEnumDone (k : Fin 6) (chans : List CardChannel) (s : State) : Host.Outcome State Fault Refusal :=
  let c := s.card k.val
  if c.st = .enumerating ∧ (c.type = 1 ∨ c.type = 2 ∨ c.type = 3) ∧ c.seenAt + 100900 * Config.us ≤ s.now ∧ fieldOn s
      ∧ c.descReads = 3 ∧ !s.service.queue.any (fun q => decide (q.card = k.val)) then
    let s1 := s.setCard k.val { c with st := .active, hold := decide (s.power.step < 7), lastFrame := s.now, newFw := false, attempts := 0 }
    .next (nextCardUpdate k.val (cardNotify k.val .ok none (refitted k.val
      (forEach (chans.filter (fun e => decide (chanSlot e = k.val))) applyChan s1))))
  else .next s

/-! ### Inputs of power -/

/-- R36: one main input leaves its range. -/
def execMainInputLoss (i : InputId) (s : State) : Host.Outcome State Fault Refusal :=
  match i with
  | .a => .next (event U.sys Off.hwEvents 0 { s with power.mainA := false })
  | .b => .next (event U.sys Off.hwEvents 1 { s with power.mainB := false })

/-- Table 2-3: a main input comes back into its range; MAIN_A_LOSS and MAIN_B_LOSS stay until written. -/
def execMainInputReturn (i : InputId) (s : State) : Host.Outcome State Fault Refusal :=
  match i with
  | .a => .next { s with power.mainA := true }
  | .b => .next { s with power.mainB := true }

/-- R29, R37, R506: a field input falls below 18 V; with both low, card and Beacon outputs have no supply. -/
def execFieldInputLoss (i : InputId) (s : State) : Host.Outcome State Fault Refusal :=
  let had := fieldOn s
  let s1 := match i with
    | .a => event U.sys Off.hwEvents 2 { s with power.fieldA := false }
    | .b => event U.sys Off.hwEvents 3 { s with power.fieldB := false }
  if had && !fieldOn s1 then
    .next { forEach (slots6.filter (fun k => decide ((s.card k).st = .active))) cardUnpowered s1 with plant.beacons := 0 }
  else .next s1

/-- R506: field power is back: each card starts in HOLD and is enumerated again from step 2. -/
def execFieldPowerReturn (i : InputId) (s : State) : Host.Outcome State Fault Refusal :=
  let had := fieldOn s
  let s1 := match i with | .a => { s with power.fieldA := true } | .b => { s with power.fieldB := true }
  if had then .next s1
  else .next (forEach slots6 (fun k a =>
    if (a.card k).st = .active ∨ (a.card k).st = .enumerating then enumerate k (a.now - 100 * Config.ms) a else a) s1)

/-! ### Fans, temperatures and measured values -/

/-- R42: fan k has failed, or has run below 30 % of the commanded speed for 5 s. Two failed fans make a Keeper ask for a
handover. -/
def execFanFail (k : Fin 6) (s : State) : Host.Outcome State Fault Refusal :=
  if s.fans.failed.getLsbD k.val then .next s
  else
    let failed := s.fans.failed ||| BitVec.ofNat 6 (2 ^ k.val)
    let duty := Nat.max s.fans.duty (Nat.min 100 (Config.fanDuty s.free))
    let s1 := ({ s.draw with fans := { s.fans with failed, duty } }).setEvent U.sys Off.hwEvents 4
    .next (if 2 ≤ popN 6 failed.toNat then askHandover s1 else s1)

/-- R42: the junction stands at 97 °C or above. -/
def execThermalWarn (s : State) : Host.Outcome State Fault Refusal :=
  .next (if 970 ≤ s.fans.junction then event U.sys Off.hwEvents 5 s else s)

/-- R42: the junction stands at 105 °C or above: the engine is gated, and FALLBACK is entered with outputs held. -/
def execThermalShutdown (s : State) : Host.Outcome State Fault Refusal :=
  if 1050 ≤ s.fans.junction ∧ !s.fans.gatedHot then
    .next (engineDown true (stopLegs .loaded (gatePackage { s with fans.gatedHot := true })))
  else .next s

/-- Two fields of a measured pair of inputs. -/
def pairReg (a b : Nat) : Word := wd (sat 0xFFFF b * 65536 + sat 0xFFFF a)

/-- R42: the highest of the 25 die sensors. -/
def hottest (s : State) : Int := (upTo 25).foldl (fun a i => if a < (s.die i).junction then (s.die i).junction else a) (s.die 0).junction

/-- R43, R151: the measured values refresh, and the slow fans are timed (R42), against a full speed that is free. -/
def execMeasureRefresh (m : Measured) (s : State) : Host.Outcome State Fault Refusal :=
  let s1 := ((s.setReg U.sys Off.hwMainV (pairReg m.mainA m.mainB)).setReg U.sys Off.hwFieldV (pairReg m.fieldA m.fieldB)).setReg
    U.sys Off.hwFieldI (pairReg m.fieldIA m.fieldIB)
  let fans := m.fanRpm.zipIdx.foldl (fun (f : Fans) e =>
    let slow := decide (e.1 * 100 < Config.fanFullRpm * f.duty * 30 / 100)
    { f with rpm := mset 0 f.rpm e.2 e.1, slowSince := mset none f.slowSince e.2 (sinceOf s.now (some slow) (mget none f.slowSince e.2)) })
    { s.fans with inlet := m.inlet }
  let s2 := { s1 with fans := fans, power.bankV := m.bankV }
  let s3 := forEach m.dies (fun e a =>
    (a.modDie e.1.val (fun d => { d with power := e.2.1, junction := e.2.2.1 })).addCount (U.die e.1.val) Off.dieEcc 31 0 e.2.2.2) s2
  .next { s3 with fans.junction := hottest s3 }

/-! ### Harness and locate -/

/-- R31, R262: the harness loop opens: a Keeper keeps LAMP, a Relief becomes BARRED. -/
def execHarnessOpen (s : State) : Host.Outcome State Fault Refusal :=
  let s1 := event U.sys Off.hwEvents 6 { s with pair.harnessClosed := false }
  .next (if isRelief s then { s1 with pair := { s1.pair with role := .barred, barredFrom := s.pair.role } } else s1)

/-- R262: the harness loop closes again: a Relief returns to its previous role. -/
def execHarnessClose (s : State) : Host.Outcome State Fault Refusal :=
  let s1 := { s with pair.harnessClosed := true }
  .next (if s.pair.role = .barred ∧ !s.pair.harnessClosed then { s1 with pair.role := s.pair.barredFrom } else s1)

/-- R26: a change of the locate flag by a path: 0 button, 1 VCP LOCATE, 2 write of HW_PANEL. -/
def setLocate (path : Nat) (on : Bool) (s : State) : State :=
  if s.bitAt U.sys Off.hwPanel 0 = on then s
  else notifyEvent { unit := U.sys, status := .ok, time := s.now, eventReg := Off.hwPanel, eventBit := 0, code := path,
                     detail := some path } (s.setReg U.sys Off.hwPanel (wd (b2n on)))

/-- What R398 checks for LOCATE before its own checks (Tables 14-3, 14-6, 16-2). -/
def opLocate (h : Hdr) : Op :=
  { code := 0xB0, unit := fun _ _ => noUnit h.unit.toNat, role := rolesLocate, relief := true }

/-- R26, R410: LOCATE. -/
def execLocate (h : Hdr) (action : BitVec 8) (s : State) : Host.Outcome State Fault Refusal :=
  .next (vcp (opLocate h) h
    (fun _ s => if 1 < action.toNat then .refuse .badParam 0
      else .done (nextFrame s) [] (setLocate 1 (decide (action = 1)) s)) s)

/-- R26: the button toggles the flag; a press in the hub cycle of a write is ignored. -/
def execLocateButton (withWrite : Bool) (s : State) : Host.Outcome State Fault Refusal :=
  .next (if withWrite then s else setLocate 0 (!s.bitAt U.sys Off.hwPanel 0) s)

end Sys2Proof.Machine
end

