-- ==== Sys2Proof/Machine/Power.lean ====
section
/-! DEFINITION. Sag detection, last light, and the start-up order up to the release of outputs (Ch. 15). -/

namespace Sys2Proof.Machine

open Sys2Proof

/-! ### What survives without power -/

/-- The register is part of the commissioning record or of the configuration that flash keeps: every RW register but the
locate flag, the functions of the AUX pins and the receive locks (log entry 20). -/
def keptReg (key : Nat) : Bool :=
  match findReg (key / 0x1000) (key % 0x1000) with
  | some r => decide (r.acc = .rw) && decide (key ≠ regKey U.sys Off.hwPanel) && decide (unitClass (key / 0x1000) ≠ 14)
      && !(decide (unitClass (key / 0x1000) = 5) && [Off.blRxLockLo, Off.blRxLockHi].elem (key % 0x1000))
  | none => false

/-- R80: of a rack only its sequence ceiling lies in Preman's own MRAM area. -/
def bareRacks (m : IMap Rack) : IMap Rack :=
  (m.map (fun e => (e.1, ({ ceiling := e.2.ceiling } : Rack)))).filter (fun e => decide (e.2 ≠ ({} : Rack)))

/-- A pump keeps its place in the pump set and its trip. -/
def barePump (k : Pump) : Pump := { use := k.use, tripped := k.tripped, vfd := k.vfd }

/-- A die stays RETIRED and keeps its spares (R128, R240). -/
def bareDie (d : Die) : Die := { st := if d.st = 3 then 3 else 2, spares := d.spares, ueTimes := d.ueTimes }

/-- Table 16-8: a verification starts again from the beginning; a download resumes, from table chunk 0 while the table was
incomplete, and nobody holds it. -/
def bareBank (b : Bank) : Bank := if b.st = .verifying then { b with st := .unverified } else b
def bareUpd (u : Upd) : Upd :=
  { u with
    bankA := bareBank u.bankA, bankB := bareBank u.bankB, owner := 0, nextPiece := 0, nextChunk := if u.table then 0 else u.nextChunk,
    verify := none, activating := none, healthy := 0, lastMinute := 0, stageDone := none }

/-- R496: the 12 V aux is gated: the BMU-1 runs on its cell. -/
def auxOff (b : Bmu) : Bmu := if b.aux then { b with aux := false, cellPower := true } else b

/-- R495, R496: the 12 V aux returns. -/
def auxOn (b : Bmu) : Bmu := { b with aux := true, displayOn := true }

/-- The module without power: MRAM, flash and fuses, what field power holds (R29, R258), and the world around it stay. -/
def powerDown (s : State) : State :=
  { State.reset with
    now := s.now, frame := s.frame, free := s.free, outbox := s.outbox, pending := s.pending,
    regs := s.regs.filter (fun e => keptReg e.1),
    vcp := { groups := s.vcp.groups },
    broker := { racks := bareRacks s.broker.racks },
    plant := { pumps := (s.plant.pumps.map (fun e => (e.1, barePump e.2))).filter (fun e => decide (e.2 ≠ ({} : Pump))),
               channelFive := s.plant.channelFive, pvInputs := s.plant.pvInputs, sectorOf := s.plant.sectorOf, sectors := s.plant.sectors,
               rackIdentity := s.plant.rackIdentity, beacons := s.plant.beacons,
               raiseRate := s.fldOf U.cap Off.capCtrl 15 8, horizon := s.fldOf U.cap Off.sightCtrl 31 16,
               depth := s.fldOf U.cap Off.sightCtrl 15 0, resRate := s.fldOf U.cap Off.leakCtrl 31 16,
               decay := s.fldOf U.cap Off.leakCtrl 15 0 },
    cards := (s.cards.map (fun e => (e.1, ({ newFw := e.2.newFw, attempts := e.2.attempts } : Card)))).filter (fun e => decide (e.2 ≠ ({} : Card))),
    dies := (s.dies.map (fun e => (e.1, bareDie e.2))).filter (fun e => decide (e.1 ≠ 24) && decide (e.2 ≠ ({} : Die))),
    clusters := s.clusters,
    integ := { datumVer := s.integ.datumVer, datumSlot := s.integ.datumSlot },
    pair := { slot := s.pair.slot, harnessClosed := s.pair.harnessClosed, lampOther := s.pair.lampOther,
              otherReleasedAt := s.pair.otherReleasedAt, stages := s.pair.stages },
    power := { saved := s.power.saved, older := s.power.older, slotB := s.power.slotB, mainA := s.power.mainA, mainB := s.power.mainB, fieldA := s.power.fieldA,
               fieldB := s.power.fieldB, lastSave := s.power.lastSave },
    upds := (s.upds.map (fun e => (e.1, bareUpd e.2))).filter (fun e => decide (e.2 ≠ ({} : Upd))), fw := { counters := s.fw.counters },
    bmu := auxOff s.bmu }

/-- R465: the boot record names the previous bank again; the bank in trial is REJECTED. -/
def rollBank (u : Upd) : Upd :=
  let back := fun (b : Bank) => if b.st = .empty then b else { b with st := .active }
  let bad := fun (b : Bank) => { b with st := .rejected }
  { u with
    bankA := if u.activeB then back u.bankA else bad u.bankA, bankB := if u.activeB then bad u.bankB else back u.bankB,
    activeB := !u.activeB, trial := false, bootsLeft := 0, healthy := 0 }

/-- R266: the mirror-compatible ID of the image in force of kind `k`: of its manifest, or of the image made at the factory. -/
def compatOf (s : State) (k : Nat) (factory : Nat) : Nat :=
  match (activeBank (s.upd k)).man with | some m => m.mirrorCompat | none => factory

/-- R456: the entry of update unit k's image in use: of its manifest, or of the image made at the factory. -/
def tcbInfo (s : State) (k : Nat) : Option TcbInfo :=
  let b := activeBank (s.upd k)
  match b.man with
  | some m => if b.st = .active ∨ b.st = .trial then some { kind := k + 1, headerHash := m.digest, version := m.version.toNat, securityVer := m.securityVer } else none
  | none => if k < 2 then
      some { kind := k + 1, headerHash := Config.factoryHeader k, version := if k = 0 then Config.premanVersion else Config.deckVersion, securityVer := 0 }
    else none

/-- R456: Preman issues the Alias certificate, signed with the DeviceID key, with an entry for each image kind in use. -/
def issueAlias (s : State) : State :=
  { s with fw.aliasCert := some { key := Config.aliasKey s.fw.cdiP, issuer := Config.deviceId Config.uds, tcb := (upTo 7).filterMap (tcbInfo s) } }

/-- R456: the ROM forms CDI_P from the UDS and the manifest header of the Preman image it starts. -/
def formCdi (s : State) : State :=
  let header := match (activeBank (s.upd 0)).man with | some m => m.digest | none => Config.factoryHeader 0
  { s with fw.cdiP := Config.hmacSha384 Config.uds header }

/-- R466 step 2: a counter rises to at least `v`, with COUNTER_ADVANCED. -/
def advanceCounter (k counter v : Nat) (s : State) : State :=
  if mget 0 s.fw.counters counter < v then
    ({ s with fw.counters := mset 0 s.fw.counters counter v }).setEvent (U.upd k) Off.updEvents 7
  else s

/-- R466 step 2: the counters that the confirmed image of unit k advances. -/
def advanceFor (k : Nat) (s : State) : State :=
  match (activeBank (s.upd k)).man with
  | some m =>
    let s1 := if m.securityFlag then advanceCounter k (counterOf k) m.securityVer s else s
    match m.ownerEpoch with | some e => advanceCounter k 8 e s1 | none => s1
  | none => s

/-- Table 16-8: Preman that finds an image ACTIVE with its counter behind advances the counter before it runs anything else. -/
def catchUpCounters (s : State) : State :=
  forEach (upTo 7) (fun k a => if (activeBank (a.upd k)).st = .active then advanceFor k a else a) s

/-- Preman and Deck run the images in force (R456, Table 16-8); Deck's heartbeats count from here (R451). -/
def startFirmware (s0 : State) : State :=
  let s := issueAlias (formCdi (catchUpCounters s0))
  { s with
    pair := { s.pair with premanCompat := compatOf s 0 Config.premanCompat, deckCompat := compatOf s 1 Config.deckCompat },
    fw := { s.fw with deckUp := true, lastBeat := s.now } }

/-! ### Sag and save -/

/-- R423: the bus falls below 40.0 V: the window opens. -/
def execSagStart (s : State) : Host.Outcome State Fault Refusal :=
  .next (if s.power.step = 0 ∨ s.power.llState = 2 ∨ s.power.sagSince.isSome then s
    else { s with power := { s.power with sagSince := some s.now, busOk := false } })

/-- R423: the bus returns within the window: SAG_SHORT, and nothing else. -/
def execSagShort (s : State) : Host.Outcome State Fault Refusal :=
  match s.power.sagSince with
  | some t =>
    if s.now < t + 50 * Config.us then
      .next (({ s with power := { s.power with sagSince := none, busOk := true } }).setEvent U.sys Off.pwrEvents 2)
    else .next s
  | none => .next s

/-- Table 15-2, phase A: the controller state record. -/
def recordOf (s : State) : SavedRecord :=
  { mode := s.plant.mode, forced := s.plant.forced, isolated := s.plant.isolated, commissioned := s.plant.commissioned,
    envelope := s.broker.envelope, racks := s.broker.racks, safetyAll := s.plant.safetyAll,
    tripActive := (s.row .pressureTrip).active,
    spActive := loops4.map (fun l => (s.loop l).spBase.getD (s.loop l).spActive), loopOut := loops4.map (fun l => (s.loop l).out),
    spBand := loops4.map (fun l => s.reg (U.loop l) Off.loopSpBand), outBand := loops4.map (fun l => s.reg (U.loop l) Off.loopOutBand),
    beaconManual := (upTo 16).foldl (fun a r => if s.bitAt (U.beacon r) Off.beaconCtrl 0 then a ||| BitVec.ofNat 16 (2 ^ r) else a) 0,
    nextLogSeq := s.log.nextSeq, reportSeq := s.integ.reportSeq,
    duty := valves96.map (fun c => (s.valve c).charges), pumpRun := pumps8.map (fun p => (s.pump p).runNs),
    sagAt := s.now,
    ckpt := (lastCkpt s).map (fun c => (c.leg, b2n (decide (c = s.seqr.slotB)), c.mirrorId, c.digest)),
    phaseB := false, tail := [] }

/-- Table 15-3: a trigger in steps 3 to 6 saves the restored state that was not yet applied again, unchanged. -/
def recordToSave (s : State) : SavedRecord :=
  match s.power.saved with
  | some r => if !r.consumed && decide (s.power.step ≤ 6) then { r with nextLogSeq := s.log.nextSeq } else recordOf s
  | none => recordOf s

/-- R424 to R428, Table 15-1: a trigger reached while last light is armed: Flash ends, Deck halts, the engine and the BMU-1's
aux power are gated, the cards hold, and phase A is saved. -/
def armedTrigger (s : State) : State :=
  -- R480: the record of the trigger is written whatever waits in the queues, which empty here (log entry 14)
  let s1 := logWords Log.lastLight 8 [0] { s with log := { s.log with premanQ := 0 } }
  let s2 := gatePackage { s1 with pair.flashOk := false, fw.deckUp := false, bmu := auxOff s1.bmu }
  let s3 := forEach slots6 (fun k a => a.modCard k (fun c => { c with hold := true })) s2
  { s3 with log := { s3.log with after := [] },
            power := { s3.power with llState := 2, saveAt := s.now, sagSince := none, busOk := false, saved := some (recordToSave s1),
                                     older := s.power.saved, slotB := !s.power.slotB } }

/-- R424: a sag trigger. Not armed: every rail is gated and nothing is saved; a save under way is not cancelled. -/
def sagTrigger (s : State) : State :=
  if s.power.llState = 1 then armedTrigger s else if s.power.llState = 2 then s else powerDown s

/-- R423, R424: the window of 50 µs expires with the bus still below 40.0 V. -/
def execSagTrigger (s : State) : Host.Outcome State Fault Refusal :=
  match s.power.sagSince with
  | some t => .next (if t + 50 * Config.us ≤ s.now then sagTrigger s else s)
  | none => .next s

/-- R481: the newest records that fit whole in 1 MiB, newest first. -/
def tailOf (room : Nat) (l : List LogRec) : List LogRec :=
  match l with
  | [] => []
  | r :: t => if r.length ≤ room then r :: tailOf (room - r.length) t else []

/-- R428, R432: the save is complete, phase B with it where the bank has held, and the hub is in reset. -/
def execLastLightDone (energy : Nat) (bankHeld : Bool) (s : State) : Host.Outcome State Fault Refusal :=
  if s.power.llState = 2 ∧ s.power.saveAt + 20000 * Config.us ≤ s.now then
    let saved := s.power.saved.map (fun r =>
      if r.phaseB then r else { r with phaseB := bankHeld, tail := if bankHeld then tailOf 1048576 s.log.ring else [] })
    let time := if bankHeld then Nat.min 0xFFFE (Config.saveTime s.free) else 0xFFFF
    .next (powerDown { s.draw with power := { s.power with saved := saved, lastSave := (time, sat 0xFFFF energy) } })
  else .next s

/-! ### Start-up -/

/-- R433: the bus first reaches 42.0 V; the qualification starts. -/
def execPowerApplied (s : State) : Host.Outcome State Fault Refusal :=
  if s.power.step = 0 then
    .next { s with power := { s.power with step := 1, appliedAt := some s.now, stepAt := s.now, busOk := true } }
  else .next s

/-- R432: the bus falls below 42.0 V during the qualification, which starts again when it next reaches 42.0 V. -/
def execQualificationRestart (s : State) : Host.Outcome State Fault Refusal :=
  if s.power.step = 1 then .next { s with power := { s.power with step := 0, appliedAt := none, busOk := false } } else .next s

/-- R432, R453, R454: after 100 ms the rails come up and the ROM starts Preman from the chosen bank, or from the other one where
that is VERIFIED or ACTIVE and passes; with neither the module stays in ROM recovery. -/
def execBusQualified (chosenOk otherOk : Bool) (s : State) : Host.Outcome State Fault Refusal :=
  match s.power.appliedAt with
  | some t =>
    if s.power.step = 1 ∧ t + 100 * Config.ms ≤ s.now then
      let o := otherBank (s.upd 0)
      let fallsBack := !chosenOk && otherOk && (decide (o.st = .verified) || decide (o.st = .active))
      let s1 : State := { s with power := { s.power with step := 2, stepAt := s.now, recovery := !chosenOk && !fallsBack },
                                 bmu := auxOn s.bmu }
      let s2 := if fallsBack then (s1.modUpd 0 rollBank).setEvent (U.upd 0) Off.updEvents 5 else s1
      .next (if s2.power.recovery then { s2 with fw.deckUp := false } else startFirmware s2)
    else .next s
  | none => .next s

/-- R429, R480, R481: step 3 reads the last-light record: the previous life of the Logbook, PREV_SAVED and PREV_LOG. -/
def readRecord (s : State) : State :=
  match s.power.saved with
  | some r =>
    if r.consumed then
      logWords Log.previousLife 16 [0, 0, 0] (s.setEvent U.sys Off.pwrEvents 1)
    else
      let body := r.tail.foldl (fun n e => n + e.length) 0
      -- restored records lie from offset 0 on, the oldest first
      let ring := (r.tail.foldr (fun e (a : List LogRec × Nat) => ({ e with pos := a.2 } :: a.1, a.2 + e.length)) ([], 0)).1
      let has := r.phaseB && !r.tail.isEmpty
      let first : BitVec 32 := match lastOpt r.tail with | some e => e.seq | none => 0
      let last : BitVec 32 := match r.tail with | e :: _ => e.seq | [] => 0
      let s1 := { s with
        log := { s.log with ring := ring, nextPos := body, used := body, nextSeq := r.nextLogSeq, prevPresent := has,
                            prevLost := !r.phaseB, prevFirst := first, prevLast := last },
        power := { s.power with prevSaved := true, prevLog := r.phaseB } }
      let s2 := (s1.setReg U.log Off.logPrevFirst first).setReg U.log Off.logPrevLast last
      logWords Log.previousLife 16 [b2n has, first.toNat, last.toNat]
        (if has then s2.setEvent U.log Off.logEvents 0 else s2)
  | none => logWords Log.previousLife 16 [0, 0, 0] (s.setEvent U.sys Off.pwrEvents 1)

/-- R424: the bank has reached 46.0 V after step 2: last light is armed, and step 3 begins. -/
def execLastLightArm (s : State) : Host.Outcome State Fault Refusal :=
  if s.power.step = 2 ∧ !s.power.recovery then
    let s1 := { s with power := { s.power with step := 3, stepAt := s.now, llState := 1, pllA := true, bankV := Nat.max 4600 s.power.bankV } }
    .next (readRecord (s1.setReg U.sys Off.pwrLastsave (wd (s.power.lastSave.1 * 65536 + s.power.lastSave.2))))
  else .next s

/-- R431: the discharge from 52.0 V to 50.0 V at 1.00 A took `discharge` × 10 µs: C = 1.00 A × t / 2.0 V. Step 3 ends. -/
def execBankMeasure (discharge : Nat) (s : State) : Host.Outcome State Fault Refusal :=
  if s.power.step = 3 then
    let c := discharge * 5
    let s1 := ({ s with power := { s.power with step := 4, stepAt := s.now } }).setReg U.sys Off.pwrBank
      (wd (sat 0xFFFF c * 65536 + sat 0xFFFF discharge))
    .next (joinBuses (if c < 5000 then event U.sys Off.pwrEvents 3 s1 else s1))
  else .next s

/-- R55: the mode a saved mode comes back as. -/
def restoredMode (m : Mode) (isolated : BitVec 16) : Mode :=
  match m with
  | .run => if isolated = 0 then .fallback else .isolate
  | .fallback => if isolated = 0 then .fallback else .isolate
  | .isolate => if isolated = 0 then .fallback else .isolate
  | m => m

/-- A rack as its saved state gives it: no CAP_ACK has arrived since power-up (R84), and no window is open. -/
def restoredRack (ceiling : Nat) (k : Rack) : Rack :=
  { cap := k.cap, grantSeq := k.grantSeq, ceiling := Nat.max ceiling k.ceiling, sources := k.sources, seen := k.seen, cables := k.cables,
    seenCables := k.seenCables, stage := k.stage, leak := k.leak, clearSince := k.clearSince, safetyFlow := k.safetyFlow,
    beaconNoAck := k.beaconNoAck, noAck := k.noAck, sent := k.sent, pos := k.pos, target := k.pos, base := k.base, sentPos := k.sentPos }

/-- R112, R116: the channels a sequence has taken stay held. -/
def holdLeakChannels (s : State) : State :=
  forEach (upTo 16) (fun r a =>
    match (a.rack r).leak with
    | some l => forEach ((l.isolation ++ l.headers).map (·.1)) (fun c a =>
        if c < 96 then a.modValve c (fun v => { v with leakHeld := true }) else a) a
    | none => a) s

/-- R55, R79: a valid record is applied and marked consumed. PREV_MODE then is the mode it saved, the model’s choice (log entry 106). -/
def applyRecord (r : SavedRecord) (s : State) : State :=
  let m := restoredMode r.mode r.isolated
  let s1 := { s with
    plant := { s.plant with mode := m, prevMode := r.mode, forced := r.forced, isolated := r.isolated, commissioned := r.commissioned,
                            fbLoops := decide (m = .fallback) || decide (m = .isolate), safetyAll := r.safetyAll },
    broker := { s.broker with envelope := r.envelope,
                              racks := (upTo 16).foldl (fun a q => mset {} a q (restoredRack (s.rack q).ceiling (mget {} r.racks q))) [] },
    power := { s.power with saved := some { r with consumed := true } }, integ.reportSeq := r.reportSeq }
  let s2 := forEach loops4 (fun l a => (a.setReg (U.loop l) Off.loopSpBand (r.spBand.getD l 0)).setReg (U.loop l) Off.loopOutBand
    (r.outBand.getD l 0) |>.modLoop l (fun k => { k with
      spActive := r.spActive.getD l 0, spBase := some (r.spActive.getD l 0), base := some (r.spActive.getD l 0), out := r.loopOut.getD l 0, target := r.loopOut.getD l 0 })) s1
  let s3 := forEach valves96 (fun c a => a.modValve c (fun v => { v with charges := r.duty.getD c [] })) s2
  let s4 := forEach pumps8 (fun p a => a.modPump p (fun k => { k with runNs := r.pumpRun.getD p 0 })) s3
  let s5 := forEach (upTo 16) (fun q a => a.setReg (U.beacon q) Off.beaconCtrl (wd (b2n (inSet r.beaconManual q)))) s4
  -- the rows whose SAFETY cause is restored are in force again, so that their release conditions end it (R119)
  let back := fun (row : ReflexRow) (on : Bool) (a : State) => a.modRow row (fun k => { k with active := on, since := a.now, lastStep := a.now })
  let s6 := back .pressureTrip r.tripActive (back .supplyOver r.safetyAll s5)
  let s7 := forEach racks16 (fun q a => back (.rackFlowCap q) (a.rack q.val).safetyFlow a) s6
  holdLeakChannels (s7.setEvent U.sys Off.pwrEvents 0)

/-- R55, R79, R80: with no valid record the module starts in OFF, every cap at its floor, the envelope their sum, and grant
sequences resume at their ceilings. -/
def applyNothing (s : State) : State :=
  let s1 := forEach (upTo 16) (fun r a => a.modRack r (fun k => { k with
    cap := floor a r, grantSeq := BitVec.ofNat 32 (k.ceiling - 1) })) s
  { s1 with broker.envelope := floorSum s1 }

/-- R434: the Keeper makes the state of each ACTIVE card the command in force, and only then clears HOLD; a Relief and a BARRED
module release nothing. -/
def releaseOutputs (chans : List CardChannel) (s : State) : State :=
  if !isKeeper s then s
  else
    let s1 := forEach chans applyChan s
    let s2 := forEach slots6 (fun k a => if (a.card k).st = .active then a.modCard k (fun c => { c with hold := false }) else a) s1
    if s2.plant.fbLoops then takePumps (enterFallbackLoops s2) else s2

/-- R433 step 6: mode, envelope and state are restored, the record is consumed, and outputs are released. -/
def execStartupRestore (chans : List CardChannel) (s : State) : Host.Outcome State Fault Refusal :=
  if s.power.step = 5 ∨ s.power.step = 6 then
    let s1 := match s.power.saved with
      | some r => if r.consumed then applyNothing s else applyRecord r s
      | none => applyNothing s
    .next (driveBeacons (releaseOutputs chans { s1 with power := { s1.power with step := 7, stepAt := s.now } }))
  else .next s

end Sys2Proof.Machine
end

