-- ==== Sys2Proof/Machine/Bmu.lean ====
section
/-! DEFINITION. The Benchmark unit (Ch. 18): the BMU-1's legal registers and measurement, its cover, display and supply, the
one-way link to the module and the module's mirror, and the Survey port. -/

namespace Sys2Proof.Machine

open Sys2Proof

/-! ### CRC-16 and the legal registers (R491, R492) -/

/-- One bit of a CRC with polynomial 0x1021. -/
def crcBit (c : BitVec 16) : BitVec 16 := if c.msb then (c <<< 1) ^^^ 0x1021#16 else c <<< 1

def crcByte (c : BitVec 16) (b : Nat) : BitVec 16 :=
  (upTo 8).foldl (fun a _ => crcBit a) (c ^^^ BitVec.ofNat 16 (b % 256 * 256))

/-- R491: polynomial 0x1021, initial value 0xFFFF, no reflection. -/
def crc16 (l : List Nat) : BitVec 16 := l.foldl crcByte 0xFFFF#16

/-- The CRC of 32-bit words, each little-endian (log entry 48). -/
def crcWords (l : List Nat) : BitVec 16 := crc16 ((l.map (leBytes 4)).flatten)

def sealCopy (l : List Nat) : LegalCopy := { words := l, crc := crcWords l }

def copyGood (c : LegalCopy) : Bool := decide (crcWords c.words = c.crc)

/-- Indices of Table 18-3. -/
abbrev Legal.energy : Nat := 0
abbrev Legal.volume : Nat := 1
abbrev Legal.errHours : Nat := 2
abbrev Legal.opHours : Nat := 3
abbrev Legal.audit : Nat := 4
abbrev Legal.month (m : Nat) : Nat := 5 + m

def legalRegs : List Nat := List.range 17

def legalOf (b : Bmu) (i : Nat) : LegalCopy × LegalCopy := mget ({}, {}) b.legal i
def setLegal (i : Nat) (v : LegalCopy × LegalCopy) (b : Bmu) : Bmu := { b with legal := mset ({}, {}) b.legal i v }

/-- R492: one register's copies are checked: a bad copy is rewritten from the good one; with both bad, RECORD_FAULT. -/
def checkCopies (b : Bmu) (i : Nat) : Bmu :=
  let c := legalOf b i
  match copyGood c.1, copyGood c.2 with
  | true, true => b
  | true, false => { setLegal i (c.1, c.1) b with repaired := true }
  | false, true => { setLegal i (c.2, c.2) b with repaired := true }
  | false, false => { b with recordFault := true }

/-- R492: at every read and at every update. -/
def checkLegal (b : Bmu) : Bmu := legalRegs.foldl checkCopies b

/-- Word `w` of legal register `i`, as its first copy holds it. -/
def legalWord (b : Bmu) (i w : Nat) : Nat := (legalOf b i).1.words.getD w 0

/-- R491: a register is written twice, each copy with its CRC. -/
def putLegal (i : Nat) (l : List Nat) (b : Bmu) : Bmu := setLegal i (sealCopy l, sealCopy l) b

def activeParams (b : Bmu) : Params := if b.active1 then b.slot1 else b.slot0

/-- BMU_TIME [s since 2000-01-01 00:00 UTC]. -/
def bmuTime (s : State) : Nat := (s.bmu.clock + ((s.now : Int) - s.bmu.clockAt) / (Config.sec : Nat)).toNat

/-- R492, R503: accumulation goes on. -/
def accumulates (b : Bmu) : Bool := !b.recordFault && !b.paramFault

/-! ### Measurement (R489, R490) -/

/-- ΔΘ [0.01 K]. -/
def deltaTheta (b : Bmu) : Int := b.tSupply - b.tReturn

/-- R489, Table 18-2: the energy of one pulse [nWh]. -/
def pulseEnergy (b : Bmu) : Nat :=
  let d := deltaTheta b
  if b.sensorFault ∨ d < 50 then 0
  else (activeParams b).pulseValue * Config.heatCoefficient b.tSupply b.tReturn (activeParams b).flowPos * d.toNat

/-- R489: ENERGY and VOLUME take what a pulse adds; the residues stay below one step, and the registers wrap (Table 18-3). -/
def addPulse (b : Bmu) : Bmu :=
  let e := b.energyRes + pulseEnergy b
  let v := b.volumeRes + (activeParams b).pulseValue
  let b1 := putLegal Legal.energy [(legalWord b Legal.energy 0 + e / 1000000000000) % 1000000000] { b with energyRes := e % 1000000000000 }
  putLegal Legal.volume [(legalWord b1 Legal.volume 0 + v / 100) % 1000000000] { b1 with volumeRes := v % 100 }

/-- FLOW [0.001 m³/h] and POWER [0.1 kW] from the time between two pulses (log entry 49). -/
def pulseRate (now : Time) (b : Bmu) : Bmu :=
  match b.lastPulse with
  | some t =>
    if t < now then
      { b with flow := (activeParams b).pulseValue * 360000000000 / (now - t), power := pulseEnergy b * 36 / (now - t), lastPulse := some now }
    else b
  | none => { b with lastPulse := some now }

/-- R489: a flow pulse. -/
def execFlowPulse (s : State) : Host.Outcome State Fault Refusal :=
  let b := checkLegal s.bmu
  .next { s with bmu := pulseRate s.now (if accumulates b then addPulse b else b) }

/-- R490: the temperatures [0.01 °C] and the conditions of Table 18-2. -/
def execMeasurementCycle (supply return_ : Int) (sensorOk rateHigh : Bool) (s : State) : Host.Outcome State Fault Refusal :=
  let bad := !sensorOk || decide (supply < 200) || decide (10500 < supply) || decide (return_ < 200) || decide (10500 < return_)
  let d := supply - return_
  .next { s with bmu := { s.bmu with
    tSupply := supply, tReturn := return_, sensorFault := bad, flowHigh := rateHigh,
    dtLow := !bad && decide (d < 50), dtRange := !bad && ((decide (50 ≤ d) && decide (d < 300)) || decide (7000 < d)) } }

/-- Table 18-3: an hour counter stops at its top. -/
def addHour (i : Nat) (b : Bmu) : Bmu := putLegal i [Nat.min 999999 (legalWord b i 0 + 1)] b

/-- R491, Table 18-2: an hour of BMU-1 time. -/
def execOperatingHour (s : State) : Host.Outcome State Fault Refusal :=
  let b := checkLegal s.bmu
  let b1 := if b.recordFault then b else addHour Legal.opHours (if b.sensorFault then addHour Legal.errHours b else b)
  .next { s with bmu := b1 }

/-! ### The set day (R491, R504) -/

/-- The day of the month of day `d` since 2000-01-01 (a day count of the Gregorian calendar). -/
def dayOfMonth (d : Nat) : Nat :=
  -- days since 2000-03-01, in a year that starts in March
  let z := d + 146097 - 60
  let doe := z % 146097
  let yoe := (doe - doe / 1460 + doe / 36524 - doe / 146096) / 365
  let doy := doe - (365 * yoe + yoe / 4 - yoe / 100)
  let mp := (5 * doy + 2) / 153
  doy - (153 * mp + 2) / 5 + 1

/-- 00:00 of the day in progress on the BMU-1's clock. -/
def midnight (s : State) : Nat := bmuTime s / 86400 * 86400

/-- R504: the day in progress is a set day that has not been stored. -/
def setDayDue (s : State) : Bool :=
  decide (dayOfMonth (bmuTime s / 86400) = (activeParams s.bmu).setDay) && decide (s.bmu.storedTo < midnight s)

/-- R491: the monthly values move by one, and MONTH_1 takes ENERGY and VOLUME. -/
def storeMonth (time : Nat) (b : Bmu) : Bmu :=
  let moved := (List.range 11).foldl (fun (a : Bmu) k =>
    let m := 11 - k
    putLegal (Legal.month m) [legalWord b (Legal.month (m - 1)) 0, legalWord b (Legal.month (m - 1)) 1, legalWord b (Legal.month (m - 1)) 2] a) b
  putLegal (Legal.month 0) [legalWord b Legal.energy 0, legalWord b Legal.volume 0, time] { moved with storedTo := time }

/-- R491: at 00:00 of the set day. -/
def execSetDay (s : State) : Host.Outcome State Fault Refusal :=
  let b := checkLegal s.bmu
  let b1 := if b.recordFault then b else storeMonth (midnight s) b
  .next (if setDayDue s then { s with bmu := b1 } else s)

/-! ### Cover (R493) -/

/-- R493: the cover opens: AUDIT rises by 1, and stops at its top. -/
def execCoverOpen (s : State) : Host.Outcome State Fault Refusal :=
  .next (if s.bmu.coverOpen then s
    else
      let b := checkLegal s.bmu
      { s with bmu := { putLegal Legal.audit [Nat.min 65535 (legalWord b Legal.audit 0 + 1)] b with
        coverOpen := true, accessOpened := true, openedAt := bmuTime s, verified := false } })

/-- R493: the cover closes; ACCESS_OPENED clears when a verifier wrote a new verification record while it was open (log entry 50). -/
def closeCover (b : Bmu) : Bmu := { b with coverOpen := false, accessOpened := b.accessOpened && !b.verified, verified := false }

def execCoverClose (s : State) : Host.Outcome State Fault Refusal :=
  .next (if s.bmu.coverOpen then { s with bmu := closeCover s.bmu } else s)

/-! ### Display (R495) -/

/-- Page 5 is shown only while an error condition holds. -/
def errorHolds (b : Bmu) : Bool :=
  b.dtRange || b.dtLow || b.sensorFault || b.flowHigh || b.recordFault || b.paramFault

/-- R492, R503, R495: the code of page 5; 0 where the manual gives the condition no code. -/
def errCode (b : Bmu) : Nat := if b.recordFault then 10 else if b.paramFault then 20 else 0

/-- Table 18-4: the number a page shows and its decimals. -/
def pageValue (b : Bmu) : Nat × Nat :=
  let e := legalWord b Legal.energy 0
  let v := legalWord b Legal.volume 0
  match b.page with
  | 1 => if e < 100000000 then (e, 3) else (e / 10, 2)
  | 2 => if v < 100000000 then (v, 2) else (v / 10, 1)
  | 3 => (Config.legalVer.toNat, 0)
  | 4 => (Config.legalChecksum.toNat, 0)
  | _ => (errCode b, 0)

def showPage (s : State) : State :=
  if s.bmu.displayOn then s.emit (.display s.bmu.page (pageValue s.bmu).1 (pageValue s.bmu).2) else s

/-- The page after a press. -/
def nextPage (b : Bmu) : Nat := if b.page < 4 then b.page + 1 else if b.page = 4 ∧ errorHolds b then 5 else 1

/-- R495: a press wakes a display that is off; it moves to the next page otherwise. -/
def execDisplayButton (s : State) : Host.Outcome State Fault Refusal :=
  let b := checkLegal s.bmu
  let b1 := if b.displayOn then { b with page := nextPage b, pressedAt := s.now } else { b with displayOn := true, page := 1, pressedAt := s.now }
  .next (showPage { s with bmu := b1 })

/-- R495: 30 s without a press: page 1 on aux supply, off on the cell. -/
def execDisplayTimeout (s : State) : Host.Outcome State Fault Refusal :=
  if s.bmu.pressedAt + 30 * Config.sec ≤ s.now then
    let b := checkLegal s.bmu
    .next (showPage { s with bmu := { b with page := 1, displayOn := b.aux } })
  else .next s

/-! ### Supply (R496, R503) -/

def execAuxSupplyLoss (s : State) : Host.Outcome State Fault Refusal :=
  .next { s with bmu := auxOff s.bmu }

def execAuxSupplyReturn (s : State) : Host.Outcome State Fault Refusal :=
  .next { s with bmu := auxOn s.bmu }

def execCellLow (s : State) : Host.Outcome State Fault Refusal := .next { s with bmu.cellLow := true }

/-- The words of a parameter set that its CRC covers. -/
def paramWords (p : Params) : List Nat := [p.pulseValue, b2n p.flowPos, p.setDay, p.customer.toNat, p.seq]

def paramCrc (p : Params) : BitVec 16 := crcWords (paramWords p)

/-- R503: the active slot is checked at power-up; the other slot is never taken in its place. -/
def execBmuPowerUp (crcOk : Bool) (s : State) : Host.Outcome State Fault Refusal :=
  let p := activeParams s.bmu
  .next (if crcOk && decide (paramCrc p = p.crc) then s else { s with bmu.paramFault := true })

/-! ### The one-way link (R499, R500) -/

/-- Bits [15:0] of BMU_STATUS (Table 18-9). -/
def statusWord (b : Bmu) : Nat :=
  b2n b.cellPower + b2n b.dtRange * 2 + b2n b.dtLow * 4 + b2n b.sensorFault * 8 + b2n b.flowHigh * 16 + b2n b.accessOpened * 32
  + b2n b.cellLow * 64 + b2n b.recordFault * 128 + b2n b.repaired * 256 + b2n b.paramFault * 512

/-- Table 18-5, bytes 0 to 53. -/
def frameBody (time : Nat) (b : Bmu) : List Nat :=
  let m := Legal.month b.monthRot
  [0x42, 0x55] ++ leBytes 2 b.frameSeq.toNat ++ leBytes 4 time ++ leBytes 4 (legalWord b Legal.energy 0)
  ++ leBytes 4 (legalWord b Legal.volume 0) ++ leBytes 2 (tc 16 b.tSupply) ++ leBytes 2 (tc 16 b.tReturn) ++ leBytes 4 b.flow
  ++ leBytes 4 b.power ++ leBytes 2 (statusWord b) ++ leBytes 2 (legalWord b Legal.audit 0) ++ leBytes 4 (legalWord b Legal.errHours 0)
  ++ leBytes 2 Config.legalVer.toNat ++ leBytes 2 Config.legalChecksum.toNat ++ [b.monthRot + 1, 0]
  ++ leBytes 4 (legalWord b m 0) ++ leBytes 4 (legalWord b m 1) ++ leBytes 4 (legalWord b m 2)

/-- A frame: its body and the CRC over it. -/
def frameBytes (body : List Nat) : List Nat := body ++ leBytes 2 (crc16 body).toNat

/-- R499: one frame per second, on aux only; the conditions "since the previous frame" start again. -/
def execBmuLinkSend (s : State) : Host.Outcome State Fault Refusal :=
  if s.bmu.aux && (match s.bmu.sentAt with | some t => decide (t + Config.sec ≤ s.now) | none => true) then
    let b := checkLegal s.bmu
    let bytes := (frameBytes (frameBody (bmuTime s) b)).map (fun n => BitVec.ofNat 8 n)
    .next (({ s with bmu := { b with
      frameSeq := b.frameSeq + 1, monthRot := (b.monthRot + 1) % 12, sentAt := some s.now, repaired := false, cellPower := false } }).emit
        (.bmu bytes))
  else .next s

/-- R500: START and CRC. -/
def frameGood (l : List Nat) : Bool :=
  decide (l.length = 56) && decide (leAt l 0 2 = 0x5542) && decide ((crc16 (l.take 54)).toNat = leAt l 54 2)

/-- R500: the frames missed before this one. -/
def missedFrames (m : Mirror) (seq : Nat) : Nat :=
  let d := (seq + 65536 - m.seq.toNat) % 65536
  if m.present ∧ 1 < d ∧ d ≤ 100 then d - 1 else 0

/-- R500, Table 18-5: the mirror takes the values of a good frame. -/
def takeLinkFrame (now : Time) (l : List Nat) (m : Mirror) : Mirror :=
  let k := leAt l 40 1
  { m with
    present := true, seq := BitVec.ofNat 16 (leAt l 2 2), rxAt := now, stale := false, time := leAt l 4 4, energy := leAt l 8 4,
    volume := leAt l 12 4, tSupply := leAt l 16 2, tReturn := leAt l 18 2, flow := leAt l 20 4, power := leAt l 24 4, status := leAt l 28 2,
    audit := leAt l 30 2, errHours := leAt l 32 4, legalVer := leAt l 36 2, checksum := leAt l 38 2,
    months := if 1 ≤ k ∧ k ≤ 12 then
        mset {} m.months k ({ energy := leAt l 42 4, volume := leAt l 46 4, time := leAt l 50 4 } : Month)
      else m.months }

/-- R500: a link frame arrives; a module without power receives nothing. -/
def execBmuFrame (bytes : List Byte) (s : State) : Host.Outcome State Fault Refusal :=
  let l := bytes.map (·.toNat)
  .next (if s.power.step < 2 then s
    else if frameGood l then
      let s1 := s.addCount (U.bmu 0) Off.bmuLink 15 0 (missedFrames s.mirror (leAt l 2 2))
      { s1 with mirror := takeLinkFrame s.now l s.mirror }
    else s.addCount (U.bmu 0) Off.bmuLink 31 16 1)

/-- R500: 3 s without a good frame; the last values stay. -/
def execBmuStale (s : State) : Host.Outcome State Fault Refusal :=
  .next (if s.mirror.present ∧ s.mirror.rxAt + 3 * Config.sec ≤ s.now then { s with mirror.stale := true } else s)

/-! ### Survey port (R501 to R504) -/

/-- Table 18-6; a block it does not map reads as a free value. -/
def surveyBlock (s : State) (n : Nat) : Word :=
  let b := s.bmu
  let p := activeParams b
  match n with
  | 0 => wd (legalWord b Legal.energy 0)
  | 1 => wd (legalWord b Legal.volume 0)
  | 2 => wd (legalWord b Legal.errHours 0)
  | 3 => wd (legalWord b Legal.opHours 0)
  | 4 => wd (legalWord b Legal.audit 0 * 65536)
  | 5 => wd (Config.legalVer.toNat * 65536 + Config.legalChecksum.toNat)
  | 6 => wd (statusWord b)
  | 7 => wd (bmuTime s)
  | 8 => wd p.pulseValue
  | 9 => wd (b2n p.flowPos)
  | 10 => wd p.setDay
  | 11 => p.customer
  | 12 => wd p.seq
  | 13 => wd b.openedAt
  | n => if 16 ≤ n ∧ n < 52 then wd (legalWord b (Legal.month ((n - 16) / 3)) ((n - 16) % 3)) else Config.surveyUnmapped n

def execInventory (s : State) : Host.Outcome State Fault Refusal :=
  .next (s.emit (.survey [wd Config.surveyUid.toNat, wd (Config.surveyUid.toNat / 2 ^ 32)]))

/-- R501: blocks of 4 bytes. -/
def execGetSystemInformation (s : State) : Host.Outcome State Fault Refusal :=
  .next (s.emit (.survey [wd Config.surveyUid.toNat, wd (Config.surveyUid.toNat / 2 ^ 32), wd Config.surveyBlocks, wd 4]))

def execReadSingleBlock (block : Nat) (s : State) : Host.Outcome State Fault Refusal :=
  let s1 := { s with bmu := checkLegal s.bmu }
  .next (s1.emit (.survey [surveyBlock s1 block]))

/-- `count` blocks from `first`. -/
def execReadMultipleBlocks (first count : Nat) (s : State) : Host.Outcome State Fault Refusal :=
  let s1 := { s with bmu := checkLegal s.bmu }
  .next (s1.emit (.survey ((upTo count).map (fun i => surveyBlock s1 (first + i)))))

/-- R501: ISO error 0x01, command not supported. -/
def execUnsupportedCommand (s : State) : Host.Outcome State Fault Refusal := .next (s.emit (.surveyError 0x01))

/-- R502: AUTH: the BMU-1 answers with a nonce of its own. -/
def execAuth (nonce : BitVec 64) (s : State) : Host.Outcome State Fault Refusal :=
  .next (({ s.draw with bmu := { s.bmu with nonce := some nonce, session := none } }).emit (.surveyNonce (Config.bmuNonce s.free)))

/-- R502: AUTH_RESP opens the session when its CMAC is right and an AUTH came before it. -/
def execAuthResp (cmacOk : Bool) (s : State) : Host.Outcome State Fault Refusal :=
  .next (if s.bmu.nonce.isSome ∧ cmacOk then ({ s with bmu := { s.bmu with nonce := none, session := some s.now } }).emit (.survey [])
    else ({ s.draw with bmu.nonce := none }).emit (.surveyError (Config.surveyRefusal s.free)))

/-- R502: the session is open: it lasts 60 s. -/
def surveyOpen (s : State) : Bool := match s.bmu.session with | some t => decide (s.now < t + 60 * Config.sec) | none => false

def execSurveySessionEnd (fieldDropped : Bool) (s : State) : Host.Outcome State Fault Refusal :=
  .next (if fieldDropped then { s with bmu := { s.bmu with session := none, nonce := none } }
    else if surveyOpen s then s else { s with bmu.session := none })

/-- R503 step 1: the active set with the change of R502, and JOURNAL_SEQ + 1. A clock write changes no parameter. -/
def changedSet (j : JournalWrite) (p : Params) : Params :=
  let p1 := { p with seq := (p.seq + 1) % 2 ^ 32 }
  match j.kind.toNat with
  | 0 => { p1 with pulseValue := j.w0.toNat, flowPos := bitOf j.w1 0 }
  | 1 => { p1 with setDay := fld j.w0 7 0, customer := j.w1 }
  | _ => p1

def setInactive (p : Params) (b : Bmu) : Bmu := if b.active1 then { b with slot0 := p } else { b with slot1 := p }

/-- R492: a register whose copies had both failed holds a new, unstated value once it is verified again. -/
def reverify (draw : Nat) (b : Bmu) : Bmu :=
  if b.recordFault then
    let b1 := legalRegs.foldl (fun a i =>
      if copyGood (legalOf a i).1 || copyGood (legalOf a i).2 then a
      else putLegal i [Config.verifiedLegal draw (4 * i), Config.verifiedLegal draw (4 * i + 1), Config.verifiedLegal draw (4 * i + 2)] a) b
    { b1 with recordFault := false }
  else b

/-- R503 step 3: the commit byte names the new set; R502 KIND 2 sets the clock; PARAM_FAULT clears, and a metrological write is
a new verification (log entry 50). -/
def commitJournal (j : JournalWrite) (s : State) : State :=
  let b := { s.bmu with active1 := !s.bmu.active1, paramFault := false }
  if j.kind = 0 then { s.draw with bmu := { reverify s.free b with verified := true } }
  else if j.kind = 2 then { s with bmu := { b with clock := j.w0.toNat, clockAt := s.now } }
  else { s with bmu := b }

/-- The field has collapsed: the session ends with it (R502). -/
def fieldGone (s : State) : State := { s with bmu := { s.bmu with session := none, nonce := none } }

/-- The steps of Table 18-7, up to a collapse of the field. -/
def writeJournal (j : JournalWrite) (s : State) : State :=
  let p := changedSet j (activeParams s.bmu)
  let old := if s.bmu.active1 then s.bmu.slot0.crc else s.bmu.slot1.crc
  let step1 := { s with bmu := setInactive { p with crc := old } s.bmu }
  let step2 := { s with bmu := setInactive { p with crc := paramCrc p } s.bmu }
  let stopped := fun (k : Nat) => match j.collapse with | some n => decide (n.val ≤ k) | none => false
  if stopped 0 then fieldGone s
  else if stopped 1 then fieldGone step1
  else if stopped 2 then fieldGone step2
  else if j.closes && decide (j.kind = 0) then ({ step2 with bmu := closeCover step2.bmu }).emit (.surveyError 0x0F)
  else
    let step3 := commitJournal j step2
    let s1 := if stopped 4 then fieldGone step3 else step3.emit (.survey [wd p.seq])
    if j.closes then { s1 with bmu := closeCover s1.bmu } else s1

/-- R502, R503. A write without a session or with a CMAC that fails changes nothing, nor does a metrological write with the cover
closed; an unknown KIND is a write command that is not supported (log entry 51). -/
def execJournalWrite (j : JournalWrite) (s : State) : Host.Outcome State Fault Refusal :=
  .next (
    if !surveyOpen s || !j.cmacOk || (decide (j.kind = 0) && !s.bmu.coverOpen) then s.draw.emit (.surveyError (Config.surveyRefusal s.free))
    else if 2 < j.kind.toNat then s.emit (.surveyError 0x01)
    else writeJournal j s)

end Sys2Proof.Machine
end

