-- ==== Sys2Proof/Machine/Caps.lean ====
section
/-! DEFINITION. The commands and events of the cap broker, of previews and of the leak response (Ch. 4). -/

namespace Sys2Proof.Machine

open Sys2Proof

/-! ### Envelope and acknowledgement -/

/-- R76, R78. -/
def envelopeAnswer (h : Hdr) (env : Nat) (o : Origin) (s : State) : Answer :=
  if env < floorSum s then .refuse .badParam 0
  else .accept (s.now + 2 * Config.ms) U.cap 0 (fun s =>
    markTimed o (envelopeCut h.sequence (toPartner (.envelope env) { s with broker.envelope := env })))

/-- What R398 checks for ENVELOPE_SET before its own checks (Tables 14-3, 14-6, 16-2). -/
def opEnvelopeSet (h : Hdr) : Op :=
  { code := 0x32, unit := fun _ _ => noUnit h.unit.toNat, role := rolesAuthority }

/-- R16, R76 to R78: ENVELOPE_SET. -/
def execEnvelopeSet (h : Hdr) (envelope : BitVec 32) (s : State) : Host.Outcome State Fault Refusal :=
  .next (vcp (opEnvelopeSet h) h
    (fun e s => envelopeAnswer h envelope.toNat (originOf h e) s) s)

/-- R81 to R86: CAP_ACK. -/
def capAckAnswer (rack : Nat) (seq : BitVec 32) (power : Nat) (s : State) : Answer :=
  if 15 < rack then .refuse .badParam 0
  else if grantSent (s.rack rack) seq then .done s.now [] (ackGrant rack seq power s)
  else .refuse .badParam 0

/-- What R398 checks for CAP_ACK before its own checks (Tables 14-3, 14-6, 16-2). -/
def opCapAck (h : Hdr) (rack : BitVec 8) : Op :=
  { code := 0x31, unit := fun _ _ => noUnit h.unit.toNat, role := fun _ e => roleIn [.rack] e && decide (e.rack = rack.toNat) }

/-- R18: a RACK session acts for its own rack only. -/
def execCapAck (h : Hdr) (rack : BitVec 8) (seq : BitVec 32) (power : BitVec 32) (s : State) :
    Host.Outcome State Fault Refusal :=
  .next (vcp (opCapAck h rack) h
    (fun _ s => capAckAnswer rack.toNat seq power.toNat s) s)

/-- R83, R84: the window of a grant closes without a CAP_ACK. One that arrives in the frame in which the window closes is in
time, so the window closes with the end of that frame; the Beacon output follows its cause in the next frame (R119). -/
def execAckWindowClose (r : Fin 16) (seq : BitVec 32) (s : State) : Host.Outcome State Fault Refusal :=
  match (s.rack r.val).grants.find? (fun g => decide (g.seq = seq)) with
  | some g =>
    if g.open_ ∧ frameOf (windowEnd g) < frameOf s.now then .next (closeUnanswered r.val g s) else .next s
  | none => .next s

/-- R85: the newest grant, its window closed unanswered, is repeated 100 ms after it left. -/
def execGrantRepeat (r : Fin 16) (s : State) : Host.Outcome State Fault Refusal :=
  match (s.rack r.val).grants with
  | g :: _ =>
    if !g.open_ ∧ !g.acked ∧ g.leftAt + 100 * Config.ms ≤ s.now then
      let s1 := if g.kind = Kind.revoke then s
        else logActionAs Log.action U.cap 2 Act.grant r.val (s.rack r.val).cap (s.rack r.val).cap 0 g.raId 0 s
      .next (sendGrant r.val g.kind g.raId g.expected s.now s1)
    else .next s
  | [] => .next s

/-! ### Previews -/

/-- R97: the start of the leg at which the first result that uses the preview may act. -/
def previewCommitted (s : State) : Time := nextBoundary s + 2 * legNs s

/-- R95 to R98: the checks and the effect of PREVIEW. -/
def previewAnswer (id : BitVec 32) (racks flags : BitVec 16) (start : Nat) (duration load ramp : Nat) (e : Session) (o : Origin)
    (s : State) : Answer :=
  let replace := flags.getLsbD 0
  let active := s.broker.previews.any (fun p => decide (p.id = id))
  if flags.toNat / 2 ≠ 0 then .refuse .badParam 0
  else if replace && !hasCap e 3 then .refuse .badParam 0
  else if id.toNat = 0 ∨ 0x7FFFFFFF < id.toNat ∨ racks = 0 ∨ start < s.now ∨ s.now + s.plant.horizon * Config.sec < start
      ∨ duration < 1000 ∨ 86400000 < duration ∨ (active ∧ !replace) then .refuse .badParam 0
  else if active then
    .accept (previewCommitted s) 0 0 (fun s => markTimed o (toPartner (.preview id racks start duration load ramp)
      (replacePreview id racks start duration load ramp s)))
  else if Config.maxPreviews ≤ s.broker.previews.length then .refuse .busy 0
  else
    .accept (previewCommitted s) 0 0 (fun s => markTimed o (toPartner (.preview id racks start duration load ramp)
      (addPreview id racks start duration load ramp s)))

/-- What R398 checks for PREVIEW before its own checks (Tables 14-3, 14-6, 16-2). -/
def opPreview (h : Hdr) : Op :=
  { code := 0x40, unit := fun _ _ => noUnit h.unit.toNat, role := rolesScheduler, deck := true }

/-- R95: PREVIEW. -/
def execPreview (h : Hdr) (id : BitVec 32) (racks flags : BitVec 16) (start : BitVec 64) (duration load ramp : BitVec 32)
    (s : State) : Host.Outcome State Fault Refusal :=
  .next (vcp (opPreview h) h
    (fun e s => previewAnswer id racks flags start.toNat duration.toNat load.toNat ramp.toNat e (originOf h e) s) s)

/-- R107: the checks and the effect of PREVIEW_CANCEL. A preview that ends by itself in the frame of the cancel has ended. -/
def cancelAnswer (id : BitVec 32) (o : Origin) (s : State) : Answer :=
  if s.broker.previews.any (fun p => decide (p.id = id) && decide (frameOf s.now < frameOf (p.start + p.duration * Config.ms))) then
    .accept (nextBoundary s) 0 0 (fun s => revokeRa id true (markTimed o (toPartner (.previewCancel id) (cancelPreview id s))))
  else if s.broker.everPreviews.elem id then .status .alreadyComplete 0 [] s
  else .refuse .badParam 0

/-- What R398 checks for PREVIEW_CANCEL before its own checks (Tables 14-3, 14-6, 16-2). -/
def opPreviewCancel (h : Hdr) : Op :=
  { code := 0x41, unit := fun _ _ => noUnit h.unit.toNat, role := rolesScheduler, deck := true }

/-- R107: PREVIEW_CANCEL. -/
def execPreviewCancel (h : Hdr) (id : BitVec 32) (s : State) : Host.Outcome State Fault Refusal :=
  .next (vcp (opPreviewCancel h) h
    (fun e s => cancelAnswer id (originOf h e) s) s)

/-- R99: a preview ends by itself at START + DURATION; no NOTICE_REVOKE is sent (R104). -/
def execPreviewEnd (id : BitVec 32) (s : State) : Host.Outcome State Fault Refusal :=
  if s.broker.previews.any (fun p => decide (p.id = id) && decide (p.start + p.duration * Config.ms ≤ s.now)) then
    .next (revokeRa id false { s with broker.previews := s.broker.previews.filter (fun p => decide (p.id ≠ id)) })
  else .next s

/-! ### Leak sources and the sequence -/

/-- R109: a leak alarm of rack r is 10 s old, so its source clears. -/
def execLeakSourceClear (r : Fin 16) (s : State) : Host.Outcome State Fault Refusal :=
  let k := s.rack r.val
  if k.sources.getLsbD 1 ∧ k.alarmAt + 10 * Config.sec ≤ s.now then .next (setSource r.val 1 false false s) else .next s

/-- Table 4-7 bit 2: the imbalance has lasted 10 s. -/
def execFlowImbalance (r : Fin 16) (s : State) : Host.Outcome State Fault Refusal :=
  match (s.rack r.val).imbalanceSince with
  | some t =>
    if imbalanced (s.rack r.val) ∧ t + 10 * Config.sec ≤ s.now then .next (setSource r.val 2 true false s) else .next s
  | none => .next s

/-- Table 4-7 bit 4: the newest level, and the one of 60 s before (the newest reading at least 60 s old). -/
def reservoirFalls (s : State) (level : Nat) : Bool :=
  match s.plant.levels.find? (fun e => decide (e.1 + 60 * Config.sec ≤ s.now)) with
  | some e => decide (level + s.plant.resRate < e.2)
  | none => false

/-- R109, R111: the reservoir is evaluated once per second; the source counts for every rack and on its own only sets
ROW_SUSPECT. -/
def execReservoirCheck (level : Nat) (s : State) : Host.Outcome State Fault Refusal :=
  let falls := reservoirFalls s level
  let was := s.plant.rowSuspect
  let s1 := { s with plant.rowSuspect := falls,
                     plant.levels := (s.now, level) :: s.plant.levels.filter (fun e => decide (s.now ≤ e.1 + 61 * Config.sec)) }
  let s2 := forEach (upTo 16) (fun r a =>
    evalStage r false (a.modRack r (fun k => { k with
      sources := if falls then k.sources ||| 16 else k.sources &&& ~~~ 16 }))) s1
  if falls && !was then .next (event U.cap Off.capEvents 3 s2) else .next s2

/-- R111: every rack-level source has been clear for 60 s, from SUSPECT. -/
def execLeakClear (r : Fin 16) (s : State) : Host.Outcome State Fault Refusal :=
  let k := s.rack r.val
  match k.clearSince with
  | some t =>
    if k.stage = .suspect ∧ t + 60 * Config.sec ≤ s.now then
      .next (setStage r.val .clear (s.setRack r.val { k with seen := 0, seenCables := [] }))
    else .next s
  | none => .next s

/-- Table 4-9 step 3: 20 ms after t0 the isolation valves are energised without the CAP_ACK. -/
def execLeakIsolateTimeout (r : Fin 16) (s : State) : Host.Outcome State Fault Refusal :=
  match (s.rack r.val).leak with
  | some l => if l.t0 + 20 * Config.ms ≤ s.now then .next (takeIsolation r.val s) else .next s
  | none => .next s

end Sys2Proof.Machine
end

