-- ==== Sys2Proof/Machine/Plant.lean ====
section
/-! DEFINITION. The commands and events of plant control (Ch. 3): MODE_SET, POLICY_SET, the rows of Table 3-8, the
fallback loops, and pump staging. -/

namespace Sys2Proof.Machine

open Sys2Proof

/-! ### MODE_SET (R51 to R54, R410, R508) -/

/-- R508: the number of the first missing item of the commissioning record. -/
def missingItem (s : State) : Option Nat :=
  let rackOk := (upTo 16).all (fun r => (isolationRoles r).all (fun p => (roleChan s p.1 p.2).isSome))
  let sectOk := (upTo s.plant.sectors).all (fun k => (headerRoles k).all (fun p => (roleChan s p.1 p.2).isSome))
  let pumps := (pumps8.filter (pumpPath s)).length
  let pv := decide (s.plant.pvInputs.length = 4) && s.plant.pvInputs.all (fun e =>
    match e with | some i => cardReady s (slotOfSense i.val) 3 | none => false)
  let ao := [1, 3].all (fun l => (upTo 16).any (fun i => decide (s.fldOf (U.ao i) Off.aoCfg 15 8 = l)))
  if !(rackOk && sectOk) then some 1
  else if s.plant.sectors = 0 ∨ 8 < s.plant.sectors ∨ !(upTo 16).all (fun r => decide (sectorOf s r < s.plant.sectors)) then some 2
  else if pumps < 2 then some 3
  else if !pv then some 4
  else if !ao then some 5
  else if !(upTo 16).all (fun r => decide (mget 0 s.plant.rackIdentity r ≠ 0)) then some 6
  else none

/-- Entering RUN, or what stands for it (Table 3-4, OFF → RUN): FALLBACK with the return armed while the engine is not
committing; ISOLATE while racks are isolated. -/
def enterRun (seq : BitVec 32) (s : State) : State :=
  let ok := s.plant.engineOk
  let s1 := { s with plant := { s.plant with commissioned := true, armed := !ok } }
  if s.plant.isolated = 0 then (if ok then changeMode 6 seq .run false s1 else changeMode 6 seq .fallback true s1)
  else changeMode 6 seq .isolate (!ok) s1

/-- Table 3-8: a MODE_SET RUN or MAINTAIN answered OK or ACCEPTED below PS_HIGH ends the pressure trip. -/
def releaseTrip (m : Mode) (s : State) : State :=
  if (m = .run ∨ m = .maintain) ∧ (s.row .pressureTrip).active ∧ rowOk s .pressureTrip = some true then rowEnd .pressureTrip s else s

/-- R410: a transition is answered OK with the frame boundary of the change, which is the frame it is judged in (R52). -/
def modeDone (m : Mode) (after : State → State) (s : State) : Answer := .done s.now [] (after (releaseTrip m s))

/-- R410: a MODE_SET towards RUN that only arms the return. -/
def modeAccept (o : Origin) (m : Mode) (after : State → State) (s : State) : Answer :=
  .accept (s.now + Config.gapNs) U.sys 0 (fun s => markTimed o (after (releaseTrip m s)))

/-- A transition to RUN of Table 3-4 from OFF, COMMISSION or MAINTAIN. -/
def runAnswer (o : Origin) (s : State) : Answer :=
  if s.plant.engineOk then modeDone .run (enterRun o.sequence) s else modeAccept o .run (enterRun o.sequence) s

/-- Table 3-4, FALLBACK → RUN by MODE_SET: FORCED clears, and the return is armed or takes place. -/
def fallbackToRun (o : Origin) (s : State) : Answer :=
  let arm := fun (s : State) => mirrorMode { s with plant := { s.plant with forced := false, armed := true } }
  if returnReady s then
    modeDone .run (fun s => changeMode 6 o.sequence .run false { arm s with plant.armed := false }) s
  else modeAccept o .run arm s

/-- The mode a MODE_SET names (Table 3-3); ISOLATE and the codes 0x6 to 0xFF are not to be asked for (R51). -/
def askedMode (code : Nat) : Option Mode :=
  match code with
  | 0 => some .off | 1 => some .commission | 2 => some .run | 3 => some .fallback | 5 => some .maintain | _ => none

/-- Table 3-4 judged for one MODE_SET. -/
def modeAnswer (code : Nat) (e : Session) (o : Origin) (s : State) : Answer :=
  let change := fun (m : Mode) => modeDone m (changeMode 6 o.sequence m false) s
  match askedMode code with
  | none => .refuse .badParam 0
  | some m =>
    if m = .commission ∧ e.role ≠ .engineer then .refuse .denied 0
    else if m = s.plant.mode then .done s.now [] (releaseTrip m s)
    else match s.plant.mode, m with
    | .off, .commission => change .commission
    | .off, .maintain => change .maintain
    | .off, .run => if s.plant.commissioned then runAnswer o s else .refuse .denied 0
    | .commission, .off => change .off
    | .commission, .maintain => change .maintain
    | .commission, .run => match missingItem s with | some k => .refuse .denied k | none => runAnswer o s
    | .run, .fallback => modeDone .fallback (fun s =>
        changeMode 6 o.sequence .fallback true { s with plant.forced := true }) s
    | .run, .maintain => change .maintain
    | .run, .off => change .off
    | .fallback, .maintain => change .maintain
    | .fallback, .off => change .off
    | .fallback, .run => fallbackToRun o s
    | .isolate, .maintain => change .maintain
    | .isolate, .off => change .off
    | .maintain, .off => change .off
    | .maintain, .commission => if s.plant.isolated = 0 then change .commission else .refuse .denied 0
    | .maintain, .run => if s.plant.commissioned then runAnswer o s else .refuse .denied 0
    | _, _ => .refuse .denied 0

/-- What R398 checks for MODE_SET before its own checks (Tables 14-3, 14-6, 16-2). -/
def opModeSet (h : Hdr) (code : Nat) : Op :=
  { code := 0x60, unit := fun _ _ => noUnit h.unit.toNat, role := if code = 3 then rolesEngineer else rolesOperator, deck := decide (code ≠ 3) }

/-- R52: a MODE_SET waits for the frame boundary at which it is judged; a code that names no mode, or ISOLATE, is refused (R51). -/
def modeAsk (h : Hdr) (code : Nat) (s : State) : Answer :=
  if (askedMode code).isNone then .refuse .badParam 0
  else .wait { s with plant.modeAsks := s.plant.modeAsks ++ [(h, code)] }

/-- One MODE_SET. Preman interprets the forced FALLBACK, Deck the others (Table 16-2). -/
def modeSet (h : Hdr) (code : Nat) (s : State) : State := vcp (opModeSet h code) h (fun _ s => modeAsk h code s) s

/-- A waiting MODE_SET is judged against the mode as it now stands (R52, Table 3-4). -/
def judgeMode (h : Hdr) (code : Nat) (s : State) : State :=
  vcpLate (opModeSet h code) h (fun e s => modeAnswer code e (originOf h e) s) s

/-- R52: the MODE_SETs of the frame that has ended, in their order. -/
def judgeModes (s : State) : State :=
  forEach s.plant.modeAsks (fun q a => judgeMode q.1 q.2 a) { s with plant.modeAsks := [] }

/-- R52: the module's own transitions at a frame boundary: the loss of the engine, racks that leave or join the isolated set, and
the return of the loops to the engine. -/
def ownTransitions (s : State) : State :=
  let s1 := match s.plant.fall with | some lost => engineFall lost { s with plant.fall := none } | none => s
  let s2 := leaveIsolate (startLeaks s1)
  if s2.plant.rejoin then
    let s3 := { s2 with plant.rejoin := false }
    if mayReturn s3 then returnEngine s3 else s3
  else s2

/-- R53: MODE_SET. -/
def execModeSet (h : Hdr) (mode : BitVec 8) (s : State) : Host.Outcome State Fault Refusal := .next (modeSet h mode.toNat s)

/-- R53: MODE_SET FALLBACK, which sets FORCED. -/
def execModeSetFallback (h : Hdr) (s : State) : Host.Outcome State Fault Refusal := .next (modeSet h 3 s)

/-! ### POLICY_SET (R64 to R66, R411) -/

/-- Table 3-5: the setpoint range of a loop. -/
def spRange (l : Nat) : Int × Int :=
  match l with | 0 => (500, 2500) | 1 => (1700, 4500) | 2 => (600, 2000) | 3 => (4500, 6000) | _ => (24, 720)

/-- R65: the margins between an SP band and the safety limits in `safe` (LO, HI). -/
def safeMargins (l : Nat) (lo hi sLo sHi : Int) : Bool :=
  match l with
  | 0 => decide (sLo + 100 ≤ lo) && decide (hi ≤ sHi - 100)
  | 1 => decide (hi ≤ sHi - 100) && decide (sLo + 100 ≤ lo)
  | 3 => decide (hi ≤ sHi - 200)
  | _ => true

/-- R65, R411: an SP band. -/
def spBandOk (s : State) (l : Nat) (lo hi : Int) : Bool :=
  decide (lo ≤ hi) && decide ((spRange l).1 ≤ lo) && decide (hi ≤ (spRange l).2) && safeMargins l lo hi (safeLo s l) (safeHi s l)

/-- R411: an OUT band. -/
def outBandOk (l lo hi : Nat) : Bool := decide (lo ≤ hi) && decide (hi ≤ 1000) && (decide (l ≠ 2) || decide (100 ≤ lo))

/-- R411: one entry, with the loops that earlier entries name. -/
def bandEntryOk (s : State) (seen : List Nat) (b : BandEntry) : Bool :=
  let l := b.loop.toNat
  decide (l < 4) && decide (b.mask.toNat ≠ 0) && decide (b.mask.toNat < 4) && !seen.elem l
  && (!b.mask.getLsbD 0 || spBandOk s l b.spLo.toInt b.spHi.toInt)
  && (!b.mask.getLsbD 1 || outBandOk l b.outLo.toNat b.outHi.toNat)

/-- The index of the first failing entry. -/
def firstBadBand (s : State) (seen : List Nat) (i : Nat) (l : List BandEntry) : Option Nat :=
  match l with
  | [] => none
  | b :: t => if bandEntryOk s seen b then firstBadBand s (b.loop.toNat :: seen) (i + 1) t else some i

/-- R411: when bands accepted now come into force. -/
def bandsBoundary (s : State) : Time :=
  if s.plant.fbLoops then (if s.now ≤ s.plant.nextTick then s.plant.nextTick else nextFrame s)
  else if engineDriven s then nextBoundary s else nextFrame s

/-- R411: the bands wait for their boundary; the request ends with the last of its entries. -/
def queueBands (o : Origin) (l : List BandEntry) (s : State) : State :=
  let n := l.length
  let tagged := l.zipIdx.map (fun e => (e.1, if e.2 + 1 = n then some o else none))
  let s := forEach l (fun b a => toPartner (.band b) a) s
  { s with plant.bandsNext := s.plant.bandsNext ++ tagged }

/-- R411. -/
def policyAnswer (l : List BandEntry) (o : Origin) (s : State) : Answer :=
  if l.length = 0 ∨ 4 < l.length then .refuse .badParam 0
  else match firstBadBand s [] 0 l with
    | some i => .refuse .badParam i
    | none => .accept (bandsBoundary s + Config.gapNs) 0 0 (queueBands o l)

/-- What R398 checks for POLICY_SET before its own checks (Tables 14-3, 14-6, 16-2). -/
def opPolicySet (h : Hdr) : Op :=
  { code := 0x61, unit := fun _ _ => noUnit h.unit.toNat, role := rolesOperator, deck := true }

/-- R411: POLICY_SET. -/
def execPolicySet (h : Hdr) (entries : List BandEntry) (s : State) : Host.Outcome State Fault Refusal :=
  .next (vcp (opPolicySet h) h
    (fun e s => policyAnswer entries (originOf h e) s) s)

/-! ### The engine and the loop source -/

/-- R68: 20 consecutive withheld legs. -/
def execWithheldFallback (s : State) : Host.Outcome State Fault Refusal :=
  .next (if 20 ≤ s.seqr.withheldRun then engineDown false s else s)

/-- Table 3-4: the engine is absent, stopped, resetting or faulted. -/
def engineGone (s : State) : Bool :=
  s.integ.resetAt.isSome || !(decide (s.seqr.st = .running) || decide (s.seqr.st = .restoring))

/-- R53: the engine is lost. -/
def execEngineLost (s : State) : Host.Outcome State Fault Refusal := .next (if engineGone s then engineDown true s else s)

/-- R53, R71: the return to RUN, or of the loops to the engine in ISOLATE, at the next frame boundary (R52). -/
def execReturnToRun (s : State) : Host.Outcome State Fault Refusal :=
  .next (if isKeeper s && mayReturn s then { s with plant.rejoin := true } else s)

/-- R69: a tick of the Preman PI loops; bands accepted for it come into force first (R66). -/
def execFallbackTick (s : State) : Host.Outcome State Fault Refusal :=
  if isKeeper s ∧ s.plant.fbLoops ∧ s.plant.nextTick ≤ s.now then
    let s1 := applyBands { s with plant.nextTick := s.plant.nextTick + 10 * Config.ms }
    .next (pushDuty 2 (piTick 1 (piTick 0 s1)))
  else .next s

/-- R49: POLICY_BOUND clears 10 s after the demand has returned inside the band. -/
def execPolicyBoundClear (l : Fin 5) (s : State) : Host.Outcome State Fault Refusal :=
  let k := s.loop l.val
  match k.insideSince with
  | some t => .next (if k.policyBound ∧ t + 10 * Config.sec ≤ s.now then s.setLoop l.val { k with policyBound := false } else s)
  | none => .next s

/-! ### Caps of a bound loop (R87) -/

/-- Table 4-4: the racks a bound loop affects. -/
def boundRacks (s : State) (l : Nat) : List Nat :=
  let free := (upTo 16).filter (fun r => !inSet s.plant.isolated r)
  match l with
  | 0 => free
  | 1 => free
  | 2 => (upTo 16).filter (fun r => decide (outHi s 2 ≤ (s.rack r).pos)
      && decide (sgn 16 (s.fldOf (U.loop 2) Off.loopSp 15 0) < (s.rack r).dT))
  | _ => []

/-- Put rack r where falling return temperature places it, ties in rising rack number. -/
def byReturn (s : State) (r : Nat) (l : List Nat) : List Nat :=
  match l with
  | [] => [r]
  | q :: t => if (s.rack q).returnT < (s.rack r).returnT then r :: q :: t else q :: byReturn s r t

/-- R87: what each rack loses of `d`, the racks in order, each down to its floor at most. -/
def shareCut (s : State) (d : Nat) (l : List Nat) : List (Nat × Nat) :=
  match l with
  | [] => []
  | r :: t =>
    let take := Nat.min d ((s.rack r).cap - floor s r)
    (r, take) :: shareCut s (d - take) t

/-- R87: one step for bound loop l, decided at `decided`: the smaller of `d` and 2 % of the affected racks' ratings (rounded down to
a step: log entry 108), taken in order of falling return temperature; the grants leave in ascending rack order (R82). -/
def boundCut (decided : Time) (l d : Nat) (s : State) : State :=
  let racks := boundRacks s l
  let share := racks.foldl (fun a r => a + rating s r) 0 * 2 / 100
  let cuts := (shareCut s (Nat.min d share) (racks.foldl (fun a r => byReturn s r a) [])).filter (fun e => decide (0 < e.2))
  if cuts = [] then s
  else
    let leaves := leavesFrom decided s
    (forEach (upTo 16) (fun r a => match cuts.find? (fun e => decide (e.1 = r)) with
      | some e => lowerCap 4 0 leaves r ((a.rack r).cap - e.2) a
      | none => a) s.draw).setEvent U.cap Off.capEvents 2

/-- R87: a step falls due, every 100 ms while a loop is bound and the engine supplies heat it cannot remove; it is carried out with
the other decisions of its frame (R90). -/
def execBoundCapStep (l : Fin 5) (s : State) : Host.Outcome State Fault Refusal :=
  let k := s.loop l
  let bound := k.policyBound || k.capacityBound || k.staleBound
  if isKeeper s ∧ engineDriven s ∧ bound ∧ 0 < k.unserved ∧ k.lastBoundStep + 100 * Config.ms ≤ s.now then
    .next { (s.modLoop l.val (fun k => { k with lastBoundStep := s.now })) with
      broker.asks := s.broker.asks ++ [.bound s.now l.val k.unserved] }
  else .next s

/-- R60: the input of loop 0 or 1 has been stale for 2 s. -/
def execRedundantSwitch (l : Fin 2) (s : State) : Host.Outcome State Fault Refusal :=
  let k := s.loop l.val
  match k.staleSince with
  | none => .next s
  | some t =>
    if t + 2 * Config.sec ≤ s.now ∧ !k.staleBound then
      let live := if l.val = 0 then (pvLive s 0 true).isSome && (pvLive s 1 true).isSome else (pvLive s 2 true).isSome
      if live then .next (s.setLoop l.val { k with redundant := true })
      else .next ((s.setLoop l.val { k with staleBound := true }).setEvent (U.loop l.val) Off.loopEvents 0)
    else .next s

/-! ### The rows of Table 3-8 -/

/-- The row acts once its condition has held for `d`. -/
def rowAfter (row : ReflexRow) (d : Nat) (s : State) : State := if isKeeper s && rowHolds s row d then rowStart row s else s

/-- Table 3-8: ΔP below SAFE_LO with pumps running for 2 s. -/
def execReserveStart (s : State) : Host.Outcome State Fault Refusal := .next (rowAfter .dpLow (2 * Config.sec) s)

/-- Table 3-8: ΔP at SAFE_HI for 1 s. -/
def execDpHighCut (s : State) : Host.Outcome State Fault Refusal := .next (rowAfter .dpHigh Config.sec s)

/-- Table 3-8: supply temperature at SAFE_HI for 10 s. -/
def execPrimaryValveOpen (s : State) : Host.Outcome State Fault Refusal := .next (rowAfter .supplyHigh (10 * Config.sec) s)

/-- Table 3-8: supply temperature at SAFE_HI + 3 K for 5 s. -/
def execSupplyOvertempCapdown (s : State) : Host.Outcome State Fault Refusal := .next (rowAfter .supplyOver (5 * Config.sec) s)

/-- Table 3-8: supply temperature at SAFE_LO for 10 s. -/
def execPrimaryValveClose (s : State) : Host.Outcome State Fault Refusal := .next (rowAfter .supplyLow (10 * Config.sec) s)

/-- Table 3-8: rack flow below SAFE_LO for 5 s. -/
def execRackFlowLow (r : Fin 16) (s : State) : Host.Outcome State Fault Refusal := .next (rowAfter (.rackFlow r) (5 * Config.sec) s)

/-- Table 3-8: rack flow still low a further 5 s after the valve opened. -/
def execRackFlowCapdown (r : Fin 16) (s : State) : Host.Outcome State Fault Refusal :=
  let k := s.row (.rackFlow r)
  .next (if k.active ∧ k.since + 5 * Config.sec ≤ s.now then rowAfter (.rackFlowCap r) (5 * Config.sec) s else s)

/-- Table 3-8: rack return temperature at SAFE_HI for 5 s. -/
def execRackReturnHigh (r : Fin 16) (s : State) : Host.Outcome State Fault Refusal :=
  .next (rowAfter (.rackReturn r) (5 * Config.sec) s)

/-- Table 3-8: secondary return temperature at SAFE_HI for 5 s. -/
def execReturnHighCapcut (s : State) : Host.Outcome State Fault Refusal := .next (rowAfter .returnHigh (5 * Config.sec) s)

/-- Table 3-8: the time between two steps of a repeated row. -/
def rowPeriod : ReflexRow → Option Nat
  | .pressureHigh => some (100 * Config.ms)
  | .dpHigh => some (100 * Config.ms)
  | .returnHigh => some (5 * Config.sec)
  | _ => none

/-- R62, R63: the row's step is repeated while its condition holds. -/
def execReflexRepeat (row : ReflexRow) (s : State) : Host.Outcome State Fault Refusal :=
  match rowPeriod row with
  | none => .next s
  | some d =>
    let k := s.row row
    if isKeeper s ∧ k.active ∧ rowCond s row = some true ∧ k.lastStep + d ≤ s.now then
      .next (rowAct row (s.modRow row (fun k => { k with lastStep := s.now })))
    else .next s

/-- The rows of Table 3-8 whose release is a condition that has held for 10 s. -/
def releasedByTime : ReflexRow → Bool
  | .pressureTrip => false
  | .pumpTrip => false
  | _ => true

/-- Table 3-8: once ΔP stands again, staging chooses a new reserve among the idle pumps. -/
def chooseReserve (s : State) : State :=
  match reservePump s, idlePump s with
  | none, some p => setUse p .reserve s
  | _, _ => s

/-- R63: the release condition has held for 10 s. -/
def execReflexRelease (row : ReflexRow) (s : State) : Host.Outcome State Fault Refusal :=
  match (s.row row).okSince with
  | some t =>
    if isKeeper s ∧ (s.row row).active ∧ releasedByTime row ∧ t + 10 * Config.sec ≤ s.now then
      .next (if row = .dpLow then chooseReserve (rowEnd row s) else rowEnd row s)
    else .next s
  | none => .next s

/-! ### Staging and rotation (R61) -/

/-- The duty pump that `f` puts first: the largest value, ties to the lowest pump. -/
def mostOf (s : State) (f : Pump → Nat) : Option Nat :=
  (pumps8.filter (pumpDuty s)).foldl (fun a p => match a with
    | none => some p
    | some q => if f (s.pump q) < f (s.pump p) then some p else some q) none

/-- A condition that has held for `d`. -/
def heldFor (s : State) (t : Option Time) (d : Nat) : Bool := match t with | some t => decide (t + d ≤ s.now) | none => false

/-- Staging runs (R61): the Keeper's engine drives, and a leg is in progress whose results carry what is decided (R67). -/
def stagingRuns (s : State) : Bool :=
  isKeeper s && engineDriven s && (s.loop 4).holders.isEmpty && legsRun s && !s.seqr.legs.isEmpty

/-- R67: something of the kind is decided and waits for the release of its leg. -/
def stagingWaits (s : State) (p : Staging → Bool) : Bool := s.seqr.legs.any (fun r => r.staging.any p)
def isStage (d : Staging) : Bool := decide (d = .up) || decide (d = .down)

/-- Staging decided in the leg in progress. -/
def decidedNow (s : State) : List Staging := match s.seqr.legs with | r :: _ => r.staging | [] => []

/-- R67: a decision of staging goes into the record of the leg in progress. -/
def decideStaging (d : Staging) (s : State) : State :=
  match s.seqr.legs with
  | r :: t => { s with seqr.legs := { r with staging := r.staging ++ [d] } :: t }
  | [] => s

/-- R101: a run-ahead action asks for a stage-up it has not had yet. -/
def stageForward (s : State) : Bool := s.broker.prov.any (fun p => decide (p.act.loop.val = 4) && !p.staged)

/-- It has had it. -/
def markStaged (s : State) : State :=
  { s with broker.prov := s.broker.prov.map (fun p => if p.act.loop.val = 4 then { p with staged := true } else p) }

def stageUpDue (s : State) : Bool :=
  stagingRuns s && heldFor s s.plant.fastSince (if stageForward s then 0 else 30 * Config.sec) && !stagingWaits s isStage
def stageDownDue (s : State) : Bool :=
  stagingRuns s && heldFor s s.plant.slowSince (60 * Config.sec) && decide (2 < dutyCount s) && !stagingWaits s isStage

/-- Pump p starts and joins the duty set. -/
def joinDuty (source p : Nat) (s : State) : State :=
  let a := stageAction source (setUse p .duty) s
  pumpSpeed source p (a.loop 0).out (a.modPump p (fun k => { k with starting := true, sinceRest := 0, leaving := none }))

/-- Table 3-6, stage up: an idle pump, the lowest, starts; with none, CAPACITY_BOUND is set on instance 0. -/
def stageUp (source : Nat) (s : State) : State :=
  match idlePump s with
  | some p => (joinDuty source p s).modLoop 0 (fun k => { k with capacityBound := false })
  | none =>
    if (s.loop 0).capacityBound then s
    else (s.modLoop 0 (fun k => { k with capacityBound := true })).setEvent (U.loop 0) Off.loopEvents 0

/-- Table 3-6: the speed has stood at 90 % for 30 s: a stage-up is decided (R67). -/
def execStageUp (s : State) : Host.Outcome State Fault Refusal := .next (if stageUpDue s then decideStaging .up s else s)

/-- Pump p ramps down at OUT_RATE and leaves the duty set. -/
def leaveDuty (source p : Nat) (use : PumpUse) (s : State) : State :=
  stageAction source (fun a => a.modPump p (fun k => { k with use, leaving := some use, starting := false, sinceRest := 0 })) s

/-- Table 3-6, stage down: the duty pump with the most run hours becomes idle. -/
def stageDown (s : State) : State :=
  if 2 < dutyCount s then match mostOf s (fun k => k.runNs) with | some p => leaveDuty 4 p .idle s | none => s else s

/-- Table 3-6: the speed has stood at 40 % or below for 60 s: a stage-down is decided (R67). -/
def execStageDown (s : State) : Host.Outcome State Fault Refusal := .next (if stageDownDue s then decideStaging .down s else s)

/-- Table 3-6: the rotation is due; beside a stage change of the same leg it is judged again at the next one. -/
def rotationDue (s : State) : Bool :=
  stagingRuns s && decide (s.plant.mode = .run) && s.plant.rotating.isNone && !stageUpDue s && !stageDownDue s
  && decide (decidedNow s = []) && !stagingWaits s (fun d => decide (d = .rotate))
  && !pumps8.any (fun p => (s.pump p).tripped)
  && decide (s.fldOf (U.loop 4) Off.loopSp 15 0 * Config.hour ≤ s.plant.rotRun)

/-- Table 3-6: the reserve pump starts and ramps to the common speed. -/
def startRotation (s : State) : State :=
  match reservePump s with
  | some p => pumpSpeed 4 p (s.loop 0).out
      { (s.modPump p (fun k => { k with starting := true, sinceRest := 0 })) with plant.rotating := some p }
  | none => s

/-- Table 3-6: a rotation is decided (R67). -/
def execRotation (s : State) : Host.Outcome State Fault Refusal := .next (if rotationDue s then decideStaging .rotate s else s)

/-- The speed a pump runs at, as its path shows it. -/
def pumpActual (s : State) (p : Nat) : Int :=
  match motorOfPump s p with
  | some c => if motRuns (s.motor c).st then (s.motor c).command else 0
  | none => (s.pump p).speed

/-- Table 3-6: the started reserve joins the duty set, and the duty pump with the most hours since its last rest becomes the
reserve. -/
def swapReserve (s : State) : State :=
  match s.plant.rotating with
  | some p =>
    if (s.pump p).use ≠ .reserve then { s with plant.rotating := none }
    else
      let rest := mostOf s (fun k => k.sinceRest)
      let s1 := stageAction 4 (setUse p .duty) { s with plant := { s.plant with rotating := none, rotRun := 0 } }
      let s2 := s1.modPump p (fun k => { k with starting := false })
      match rest with
      | some q => leaveDuty 4 q .reserve s2
      | none => s2
  | none => s

/-- Table 3-6: the started reserve is within 5 % of the common speed: the swap is decided (R67). -/
def execRotationSwap (s : State) : Host.Outcome State Fault Refusal :=
  match s.plant.rotating with
  | some p =>
    if (s.pump p).use ≠ .reserve then .next { s with plant.rotating := none }
    else if stagingRuns s ∧ stagingWaits s (fun d => decide (d = .swap)) = false
        ∧ (pumpActual s p - (s.loop 0).out).natAbs ≤ (50 * outUnit).natAbs then .next (decideStaging .swap s)
    else .next s
  | none => .next s

/-- R67: a decision of staging acts with the results of its leg; a reflex that holds the pump set drops it (R47, R63). -/
def commitStaging (d : Staging) (s : State) : State :=
  if !(s.loop 4).holders.isEmpty then logDropped (U.loop 4) 4 Act.stage (dutyMask s) (dutyMask s) s
  else match d with
    | .up => markStaged (stageUp (if stageForward s then 5 else 4) { s with plant.fastSince := some s.now })
    | .down => stageDown { s with plant.slowSince := some s.now }
    | .rotate => startRotation s
    | .swap => swapReserve s

end Sys2Proof.Machine
end

