-- ==== Sys2Proof/Machine/CardBus.lean ====
section
/-! DEFINITION. The card-bus frame (R310), and the events of sense inputs, analog outputs, pulse inputs and AUX pins
(Ch. 11). -/

namespace Sys2Proof.Machine

open Sys2Proof

/-! ### The frame -/

/-- A card that receives a valid frame: HOLD ends unless its segment, or HOLD_ALL, keeps it (R297, R311). Leak-held channels that a loss of
field power left OFF are pulled in again (R506). -/
def frameCard (k : Nat) (s : State) : State :=
  let c := s.card k
  -- R427: HOLD_ALL in every frame of a save
  let hold := c.hold || decide (s.power.llState = 2)
  if c.st = .absent ∨ c.st = .gated ∨ !fieldOn s ∨ c.segBad then s
  else
    let s1 := s.setCard k { c with lastFrame := s.now, cardHold := hold && (c.cardHold || decide (s.power.llState = 2)) }
    if c.cardHold && !hold && decide (c.type = 1) then
      forEach (valves96.filter (fun v => decide (slotOfValve v = k))) (fun v a =>
        if (a.valve v).leakHeld && decide ((a.valve v).phase = .off) && isKeeper a then repullLeak v a else a) s1
    else s1

/-- R57: setpoints move at SP_RATE while the engine drives, and outputs at OUT_RATE to their targets. A held actuator stays
where its reflex put it (R63). The setpoint without its provisional components moves the same way (R69). -/
def moveLoop (l : Nat) (s : State) : State :=
  s.modLoop l (fun k =>
    let clean := match k.spBase with | some b => b | none => k.spActive
    { k with
      out := approach k.out k.target (outStep s l),
      spBase := if engineDriven s then some (approach clean (clampI (spLo s l) (spHi s l) (baseSp s l)) (spStep s l)) else k.spBase,
      spActive := if engineDriven s then approach k.spActive (spTarget s l) (spStep s l)
        else if k.spEdge && !(s.plant.fbLoops && decide (l < 2)) then
          approach k.spActive (clampI (spLo s l) (spHi s l) k.spActive) (spStep s l)
        else k.spActive })

/-- R58, R387: a rack's balancing valve, not below 10.0 %; a rack in the isolated set keeps its position. The newest position is sent
every 100 ms. -/
def moveRack (r : Nat) (s : State) : State :=
  let k := s.rack r
  let pos := if inSet s.plant.isolated r then k.pos
    else approach k.pos (if k.target < 100 * outUnit then 100 * outUnit else k.target) (outStep s 2)
  let due := match k.sentAt with | some t => decide (t + 100 * Config.ms ≤ s.now) | none => true
  let p := (pos / outUnit).toNat
  if due = true then
    (s.setRack r { k with pos := pos, sentAt := some s.now, sentPos := p }).emit (.balance (fin16 r) p)
  else if pos = k.pos then s else s.setRack r { k with pos := pos }

/-- Pumps: duty pumps take the common speed, a pump that leaves the duty set ramps down at OUT_RATE, a started one has
joined when it is within 5 % (Table 3-6); run hours count. -/
def movePump (push : Bool) (p : Nat) (s : State) : State :=
  let k := s.pump p
  let s1 := if k.leaving.isSome then
      let v := approach k.speed 0 (outStep s 0)
      (pumpSpeed 4 p v s).modPump p (fun k => { k with leaving := if v = 0 then none else k.leaving })
    else if (k.use = .duty ∨ k.starting) ∧ push then pumpSpeed 4 p (s.loop 0).out s
    else s
  if 0 < k.speed ∨ k.starting then
    s1.modPump p (fun k => { k with
      runNs := k.runNs + Config.frameNs, sinceRest := k.sinceRest + Config.frameNs,
      starting := k.starting && decide (k.use ≠ .duty) })
  else s1

/-- R327: an output bound to a plant loop follows LOOP_OUT [0.1 %], shown in 0.01 %. -/
def moveAnalog (i : Nat) (s : State) : State :=
  let l := s.fldOf (U.ao i) Off.aoCfg 15 8
  if l < 4 ∧ cardReady s (slotOfAnalog i) 3 ∧ (s.analog i).demand ≠ ((s.loop l).out / (outUnit / 10)).toNat then
    s.modAnalog i (fun a => { a with demand := ((s.loop l).out / (outUnit / 10)).toNat })
  else s

/-- The plant side of a frame. In COMMISSION, MAINTAIN and OFF the pumps follow only a common speed that moves. -/
def frameOutputs (s : State) : State :=
  let before := (s.loop 0).out
  let s1 := forEach loops4 moveLoop s
  let push := engineDriven s || s.plant.fbLoops || decide (before ≠ (s1.loop 0).out)
  let s2 := forEach pumps8 repeatSpeed (forEach pumps8 (movePump push) s1)
  let s3 := forEach (upTo 16) moveRack (forEach (upTo 16) moveAnalog s2)
  let fast := decide (900 * outUnit ≤ (s3.loop 0).out)
  let slow := decide ((s3.loop 0).out ≤ 400 * outUnit)
  -- Table 3-6: CAPACITY_BOUND for want of a pump ends with the demand for one
  let s4 := if (s3.loop 0).capacityBound && !fast then s3.modLoop 0 (fun k => { k with capacityBound := false }) else s3
  { s4 with plant := { s4.plant with
    fastSince := sinceOf s.now (some fast) s4.plant.fastSince, slowSince := sinceOf s.now (some slow) s4.plant.slowSince,
    rotRun := s4.plant.rotRun + Config.frameNs } }

/-- R66, R411: bands wait for a leg boundary while the engine drives, for a tick under the Preman loops, and otherwise for
the next frame; CAP_CTRL, SIGHT_CTRL and LEAK_CTRL wait for a leg boundary while legs run (R121), and act
at the next frame while none run, the model’s choice (log entry 111). -/
def frameBands (s : State) : State :=
  let s1 := if s.plant.fbLoops || (engineDriven s && legsRun s) then s else applyBands s
  if legsRun s then s1 else applyCtrl s1

/-- R401: requests that time alone completes. -/
def completeTimed (s : State) : State :=
  forEach ((s.vcp.accepted.filter (fun a => a.timed && decide (a.committed ≤ s.now))).map (·.origin))
    (fun o a => endRequest o .completed a) s

/-- R297, R318: no valid frame for 100 µs: the card holds, and its valve channels say so. -/
def execCardHold (k : Fin 6) (s : State) : Host.Outcome State Fault Refusal :=
  let c := s.card k.val
  if c.st ≠ .absent ∧ fieldOn s ∧ !c.cardHold ∧ c.lastFrame + 100 * Config.us ≤ s.now then
    let s1 := s.setCard k.val { c with cardHold := true }
    if c.type = 1 then
      .next (forEach (valves96.filter (fun v => decide (slotOfValve v = k.val))) (fun v a => a.setEvent (U.vlv v) Off.vlvEvents 7) s1)
    else .next s1
  else .next s

/-! ### Sense inputs, pulse inputs and analog outputs -/

/-- R326: the input's calibration is due. -/
def calDue (s : State) (i : Nat) : Bool :=
  let ty := snsType s i
  let per := s.fldOf (U.sns i) Off.snsCal 31 16
  let v := s.sense i
  decide (1 ≤ ty) && decide (ty ≤ 8) && v.calStart.isNone && cardReady s (slotOfSense i) 3
  && (v.calQueued.isSome || (decide (per ≠ 0) && decide (v.lastCal + per * Config.sec ≤ s.now)))
  && !(s.bitAt (U.sns i) Off.snsPartner 7 && (s.sense (s.fldOf (U.sns i) Off.snsPartner 5 0)).stale)

/-- R326: the card calibrates one input at a time, the oldest calibration first, ties in rising instance order. -/
def calFirst (s : State) (i : Nat) : Bool :=
  (upTo 64).all (fun j => decide (slotOfSense j ≠ slotOfSense i) || decide (j = i)
    || ((s.sense j).calStart.isNone && (!calDue s j || decide ((s.sense i).lastCal < (s.sense j).lastCal)
        || (decide ((s.sense i).lastCal = (s.sense j).lastCal) && decide (i < j)))))

/-- R326: a calibration starts: the input holds its last value with STALE set. -/
def execCalibration (i : Fin 64) (s : State) : Host.Outcome State Fault Refusal :=
  if calDue s i.val ∧ calFirst s i.val then
    .next ((s.modSense i.val (fun v => { v with calStart := some s.now, stale := true })).setEvent (U.sns i.val) Off.snsEvents 0)
  else .next s

/-- R326: a calibration ends; a gain error beyond ±0.5 % keeps the previous calibration. The module reads the input's calibration
table in a service window (R313). -/
def execCalibrationDone (i : Fin 64) (gain offset : Int) (s : State) : Host.Outcome State Fault Refusal :=
  match (s.sense i.val).calStart with
  | none => .next s
  | some _ =>
    let s1 := (askService { card := slotOfSense i.val, use := .calibration i.val, deck := true } s).modSense i.val (fun v => { v with
      calStart := none, calQueued := none, lastCal := s.now, stale := false, sampledAt := s.now })
    if 5000 < gain.natAbs then .next (s1.setEvent (U.sns i.val) Off.snsEvents 2)
    else .next (s1.setReg (U.sns i.val) Off.snsCalResult (wd (tcSat 16 gain * 65536 + tcSat 16 offset)))

/-- R328: 10 s without a pulse. -/
def execNoPulse (i : Fin 16) (s : State) : Host.Outcome State Fault Refusal :=
  let p := s.pulse i.val
  if s.bitAt (U.pls i.val) Off.plsCfg 0 ∧ p.lastPulse + 10 * Config.sec ≤ s.now then
    .next ((s.setPulse i.val { p with flow := 0 }).setEvent (U.pls i.val) Off.plsEvents 0)
  else .next s

/-- R327: a 4–20 mA output's readback has been below 50 % of the demand for 100 ms. -/
def execOpenLoop (i : Fin 16) (s : State) : Host.Outcome State Fault Refusal :=
  let a := s.analog i.val
  match a.lowSince with
  | some t =>
    if t + 100 * Config.ms ≤ s.now then .next ((s.setAnalog i.val { a with openLoop := true }).setEvent (U.ao i.val) Off.aoEvents 0)
    else .next s
  | none => .next s

/-! ### AUX pins (R329 to R331) -/

/-- Table 11-10: the pins that offer a function. -/
def auxOffers (pin func : Nat) : Bool :=
  match func with
  | 0 => true | 1 => true | 2 => true
  | 3 => decide (pin < 2) | 4 => decide (pin < 8) | 5 => decide (8 ≤ pin) && decide (pin < 12)
  | 6 => decide (pin = 2) || decide (pin = 3) | 7 => decide (pin = 14) | _ => false

/-- Table 11-11 step 3: 5.02 µs after the write the new function attaches. -/
def execAuxAttach (pin : Fin 16) (s : State) : Host.Outcome State Fault Refusal :=
  let a := s.aux pin.val
  match a.switching with
  | some (t, f, l) =>
    if t + 5020 ≤ s.now then
      let s1 := s.setAux pin.val { a with func := f, outLevel := l, switching := none, level := if f = 2 then l else a.level }
      if f = 2 then .next (s1.emit (.pin pin l)) else .next s1
    else .next s
  | none => .next s

/-- R329: a rising edge on a CAPTURE pin, timestamped at 10 ns resolution. -/
def execAuxCapture (pin : Fin 16) (at_ : Nat) (s : State) : Host.Outcome State Fault Refusal :=
  let a := s.aux pin.val
  if a.func = 4 ∧ a.switching.isNone then
    let s1 := s.setAux pin.val { a with
      capture := at_ / 10 * 10, captureUnread := true, count := (a.count + 1) % 2 ^ 32, level := true }
    if a.captureUnread then .next (s1.setEvent (U.aux pin.val) Off.auxEvents 0) else .next s1
  else if a.switching.isSome then .next (s.setEvent (U.aux pin.val) Off.auxEvents 1)
  else .next s

/-- R329, R330: an edge on an input pin; in the guard time it is ignored and sets GUARD_EDGE. -/
def execAuxInputEdge (pin : Fin 16) (level : Bool) (s : State) : Host.Outcome State Fault Refusal :=
  let a := s.aux pin.val
  if a.switching.isSome then .next (s.setEvent (U.aux pin.val) Off.auxEvents 1)
  else if a.func = 1 ∨ a.func = 4 then .next (s.setAux pin.val { a with level := level })
  else if a.func = 5 then
    .next (s.setAux pin.val { a with level := level, count := if level && !a.level then (a.count + 1) % 2 ^ 32 else a.count })
  else .next s

/-- R329: at a whole PTP second a PPS_OUT pin goes high for 100 ms, then low. -/
def execPpsOut (pin : Fin 16) (s : State) : Host.Outcome State Fault Refusal :=
  let a := s.aux pin.val
  if a.func = 3 ∧ a.switching.isNone ∧ a.lastPps < s.now / Config.sec then
    .next (((s.setAux pin.val { a with lastPps := s.now / Config.sec }).emit (.pin pin true)).emit (.pin pin false))
  else .next s

end Sys2Proof.Machine
end

