-- ==== Sys2Proof/Machine/Buoyline.lean ====
section
/-! DEFINITION. The Buoyline channels (Ch. 13): what Deck commands, and what arrives from the bus. -/

namespace Sys2Proof.Machine

open Sys2Proof

/-! ### Filtering (R374 to R377) -/

/-- R376: an entry with a reserved code, or a STORE_INDEXED whose buffer index can exceed 63, counts as OFF. -/
def entryOff (e : FilterEntry) : Bool :=
  !e.reservedZero || decide (e.kind = 0) || decide (3 < e.kind) || decide (3 < e.action) || decide (63 < e.buffer)
    || (decide (e.action = 3) && (decide (e.kind ≠ 1) || decide (63 < e.buffer + (e.id2 - e.id1))))

/-- Table 13-3: RANGE, DUAL and MASK. -/
def entryMatches (e : FilterEntry) (f : CanFrame) : Bool :=
  !entryOff e && (e.xtd == f.xtd) &&
    (if e.kind = 1 then decide (e.id1 ≤ f.id) && decide (f.id ≤ e.id2)
     else if e.kind = 2 then decide (f.id = e.id1) || decide (f.id = e.id2)
     else decide (f.id &&& e.id2 = e.id1 &&& e.id2))

/-- R377: the entries a frame is tested against: of the bank in force, or for a frame that started before the newest switch of the
old one. -/
def entriesFor (b : Bus) (sof : Time) : List FilterEntry :=
  let now := (b.bank, b.count)
  let e := match b.swap with | some (t, bank, count) => if sof ≤ t then (bank, count) else now | none => now
  (if e.1 then b.bank1 else b.bank0).take e.2

/-- R376: the first entry that matches, and its index. -/
def matchEntry (b : Bus) (f : CanFrame) (sof : Time) : Option (Nat × FilterEntry) :=
  let l := entriesFor b sof
  match findIdxOpt (fun e => entryMatches e f) l with
  | some i => l[i]?.map (fun e => (i, e))
  | none => none

/-- R374: the safety match. -/
def safetyMatch (s : State) (c : Nat) (f : CanFrame) : Bool :=
  s.bitAt (U.bl c) Off.blCtrl 5 && !f.xtd && decide (0x010 ≤ f.id) && decide (f.id ≤ 0x03F)

/-- R374, R376: the frame goes into the input-frame log. -/
def frameLogged (s : State) (c : Nat) (f : CanFrame) (sof : Time) : Bool :=
  safetyMatch s c f || (match matchEntry (s.bus c) f sof with
    | some (_, e) => decide (e.action ≠ 2)
    | none => s.bitAt (U.bl c) Off.blCtrl 6)

/-- R376: the buffer a stored frame goes to, with the entry that stores it. -/
def frameBuffer (s : State) (c : Nat) (f : CanFrame) (sof : Time) : Option (Nat × Nat) :=
  match matchEntry (s.bus c) f sof with
  | some (i, e) => if e.action = 0 then some (e.buffer, i) else if e.action = 3 then some (e.buffer + (f.id - e.id1), i) else none
  | none => none

/-- BL_RX_NEW and BL_RX_LOCK bit k. -/
def newOff (k : Nat) : Nat := if k < 32 then Off.blRxNewLo else Off.blRxNewHi
def lockOff (k : Nat) : Nat := if k < 32 then Off.blRxLockLo else Off.blRxLockHi
def rxLocked (s : State) (c k : Nat) : Bool := s.bitAt (U.bl c) (lockOff k) (k % 32)

/-- R380: a frame reaches receive buffer k. -/
def storeFrame (c k : Nat) (r : CanRec) (s : State) : State :=
  if rxLocked s c k then
    let overrun := (mget none (s.bus c).shadow k).isSome
    let s1 := s.modBus c (fun b => { b with shadow := mset none b.shadow k (some r) })
    if overrun then (s1.setEvent (U.bl c) Off.blEvents 3).addCount (U.bl c) Off.blFaults 15 0 1 else s1
  else (s.modBus c (fun b => { b with rx := mset none b.rx k (some r) })).setEvent (U.bl c) (newOff k) (k % 32)

/-! ### What Preman and Deck take from the log (R388) -/

/-- R109: a leak alarm of rack r, received at `t`. -/
def leakAlarm (r : Nat) (t : Time) (s : State) : State := setSource r 1 true false (s.modRack r (fun k => { k with alarmAt := t }))

/-- The identifiers of Table 13-5 on their channels (R19): leak alarms, drive trips, telemetry and drive status. -/
def takeFrame (c : Nat) (f : CanFrame) (reading : NodeReading) (t : Time) (s : State) : State :=
  let id := f.id
  if f.xtd || f.rtr then s
  else if 0x010 ≤ id ∧ id < 0x020 ∧ nodeBus s (id - 0x010) = c then leakAlarm (id - 0x010) t s
  else if 0x030 ≤ id ∧ id < 0x038 ∧ nodeBus s 16 = c then pumpTripped (id - 0x030) (s.modPump (id - 0x030) (fun k => { k with vfdTrip := true }))
  else takeReading c f reading t s

/-- Table 4-7 bit 2 clears when the supply flow no longer exceeds the return flow by 2 %. -/
def imbalanceEnds (c : Nat) (f : CanFrame) (s : State) : State :=
  let r := (f.id - 0x100) / 16
  if 0x100 ≤ f.id ∧ f.id < 0x200 ∧ nodeBus s r = c ∧ (s.rack r).sources.getLsbD 2 ∧ (s.rack r).imbalanceSince.isNone then setSource r 2 false false s
  else s

/-- R374: at the end of a card-bus frame the input-frame log is evaluated, in order of arrival. -/
def takeLog (s : State) : State :=
  forEach s.frameLog.reverse (fun e a => imbalanceEnds e.1 e.2.1.frame (takeFrame e.1 e.2.1.frame e.2.2 e.2.1.time a)) s

/-- R373: a valid frame arrives. On a module without LAMP it only counts (R368); an FD frame on a
channel without FD_EN is answered by an error frame (R367). What the log receives is evaluated when the card-bus frame ends (Table 13-1). -/
def execCanFrameReceive (ch : Fin 6) (f : CanFrame) (reading : Reception) (s : State) : Host.Outcome State Fault Refusal :=
  let c := ch.val
  let sof := reading.sof
  if !busActive (s.bus c) then .next s
  else if f.fdf && !s.bitAt (U.bl c) Off.blCtrl 1 then .next (rxError c s)
  else
    let s1 := s.addCount (U.bl c) Off.blFrames 31 16 1
    if !s.pair.stages then .next s1
    else
      let s2 := rxGood c s1
      let entry := if safetyMatch s c f && (frameBuffer s c f sof).isNone then 0xFFFF
        else match matchEntry (s.bus c) f sof with | some (i, _) => i | none => 0xFFFF
      let r : CanRec := { frame := f, time := s.now / 10 * 10, entry := entry }
      let s3 := match frameBuffer s c f sof with | some (k, _) => storeFrame c k r s2 | none => s2
      .next (if frameLogged s c f sof then { s3 with frameLog := (c, r, reading.reading) :: s3.frameLog } else s3)

/-- R380, R381: Deck locks a buffer, or unlocks it: a frame in the shadow moves to the primary. -/
def execBlRxLock (ch : Fin 6) (buf : Fin 64) (lock : Bool) (s : State) : Host.Outcome State Fault Refusal :=
  let c := ch.val
  let k := buf.val
  let w := s.reg (U.bl c) (lockOff k)
  if lock then .next (s.setReg (U.bl c) (lockOff k) (orBit w (k % 32)))
  else
    let s1 := s.setReg (U.bl c) (lockOff k) (clrBit w (k % 32))
    match mget none (s.bus c).shadow k with
    | some r => .next (storeFrame c k r (s1.modBus c (fun b => { b with shadow := mset none b.shadow k none })))
    | none => .next s1

/-- R377: Deck writes the bank not in force, and switches bank and count together. Entries for the bank in force are not taken. -/
def execBlFilterSwap (ch : Fin 6) (bank : Bool) (count : Nat) (entries : List FilterEntry) (s : State) : Host.Outcome State Fault Refusal :=
  let c := ch.val
  let b := s.bus c
  let l := entries.take 2048
  let b1 := if bank = b.bank then b else if bank then { b with bank1 := l } else { b with bank0 := l }
  let s1 := s.setBus c { b1 with bank := bank, count := Nat.min 2048 count, swap := some (s.now, b.bank, b.count) }
  .next (if bank = b.bank then s1 else s1.setEvent (U.bl c) Off.blEvents 6)

/-! ### Transmission (R382 to R384) -/

/-- R382: records are written, and the buffers that are not pending become so. -/
def execBlTxReq (ch : Fin 6) (mask : Word) (records : List (Fin 32 × CanFrame)) (s : State) : Host.Outcome State Fault Refusal :=
  let c := ch.val
  let b := s.bus c
  let tx := records.foldl (fun m e => if b.pend.getLsbD e.1.val then m else mset none m e.1.val (some e.2)) b.tx
  let fresh := mask &&& ~~~ b.pend
  let tries := (upTo 32).foldl (fun m j => if fresh.getLsbD j then mset 0 m j 0 else m) b.tries
  .next (startTx c (s.setBus c { b with tx := tx, pend := b.pend ||| fresh, tries := tries, cancelled := b.cancelled &&& ~~~ fresh }))

/-- R384: pending buffers that are not on the bus are removed; the one on the bus finishes its attempt first. -/
def execBlTxCancel (ch : Fin 6) (mask : Word) (s : State) : Host.Outcome State Fault Refusal :=
  let c := ch.val
  let b := s.bus c
  let on : BitVec 32 := match b.onBus with | some j => wd (2 ^ j) | none => 0
  .next (s.setBus c { b with pend := b.pend &&& ~~~ (mask &&& ~~~ on), cancelled := b.cancelled ||| (mask &&& on &&& b.pend) })

/-- The buffer's bit leaves PEND and the bus. -/
def clearPend (j : Nat) (b : Bus) : Bus :=
  { b with pend := clrBit b.pend j, cancelled := clrBit b.cancelled j, onBus := none, tries := mset 0 b.tries j 0 }

/-- R383: the frame on the bus is sent. -/
def execCanTxDone (ch : Fin 6) (buf : Fin 32) (s : State) : Host.Outcome State Fault Refusal :=
  let c := ch.val
  let j := buf.val
  if busDrives s c && decide ((s.bus c).onBus = some j) then
    let f := txFrame (s.bus c) j
    let s1 := s.modBus c (fun b => { clearPend j b with tec := b.tec - 1 })
    -- R371: the delay is measured with bit rate switching, at an edge no earlier than TDCF
    let first := s.fldOf (U.bl c) Off.blTdc 6 0
    let s2 := if f.fdf && f.brs && s.bitAt (U.bl c) Off.blCtrl 2 then
        (s1.modBus c (fun b => { b with tdcv := first + Config.tdcv s.free % (128 - first) })).draw else s1
    .next (startTx c (judgeBus c ((s2.setEvent (U.bl c) Off.blTxDone j).addCount (U.bl c) Off.blFrames 15 0 1)))
  else .next s

/-- R383: the attempt has used a retry; RETRY failed attempts end the request. -/
def retryUsed (c j : Nat) (s : State) : State :=
  let n := mget 0 (s.bus c).tries j + 1
  let max := s.fldOf (U.bl c) Off.blCtrl 11 8
  if max ≠ 0 ∧ max ≤ n then
    ((s.modBus c (clearPend j)).setEvent (U.bl c) Off.blTxFail j).setEvent (U.bl c) Off.blEvents 4
  else s.modBus c (fun b => { b with tries := mset 0 b.tries j n, onBus := none })

/-- R383, R384, R371: an attempt fails or loses arbitration. -/
def execCanTxError (ch : Fin 6) (buf : Fin 32) (why : TxFailure) (s : State) : Host.Outcome State Fault Refusal :=
  let c := ch.val
  let j := buf.val
  let b := s.bus c
  if busDrives s c && decide (b.onBus = some j) then
    let gone := b.cancelled.getLsbD j
    let s1 := if why = .arbitrationLost then
        s.modBus c (fun b => { b with onBus := none })
      else if gone then s else retryUsed c j s
    let s2 := if gone then s1.modBus c (clearPend j) else s1
    let s3 := match why with
      | .arbitrationLost => s2
      | .noAck => txError c true s2
      | .errorFrame => txError c false s2
      | .delayNotFound => txError c false (s2.setEvent (U.bl c) Off.blEvents 7)
    .next (startTx c s3)
  else .next s

/-! ### Errors and bus-off (R385, R386) -/

/-- R385: a received frame has an error. -/
def execCanRxError (ch : Fin 6) (s : State) : Host.Outcome State Fault Refusal :=
  .next (if busActive (s.bus ch.val) then rxError ch.val s else s)

/-- R385: the channel enters bus-off. -/
def execBusOff (ch : Fin 6) (s : State) : Host.Outcome State Fault Refusal :=
  .next (if busDrives s ch.val then enterBusOff ch.val s else s)

/-- R385: after 500 ms in bus-off or OFFLINE the channel's manifold nodes are stale and its drives lost. -/
def execBusOffStale (ch : Fin 6) (s : State) : Host.Outcome State Fault Refusal :=
  let c := ch.val
  match (s.bus c).offSince with
  | some t =>
    if t + 500 * Config.ms ≤ s.now ∧ !busActive (s.bus c) then
      let s2 := if nodeBus s 16 = c then
          forEach pumps8 (fun p a => if (a.pump p).vfd then a.modPump p (fun k => { k with vfdStatusAt := none }) else a) s else s
      .next (forEach ((upTo 16).filter (fun r => decide (nodeBus s r = c))) (fun r a => a.modRack r (fun k => { k with teleAt := none })) s2)
    else .next s
  | none => .next s

/-- R386: the recovery sequence ends. -/
def execRecovered (ch : Fin 6) (s : State) : Host.Outcome State Fault Refusal :=
  let c := ch.val
  let b := s.bus c
  if b.st = .busOff ∧ b.recovering then
    .next (startTx c ((s.setBus c { b with
      st := .errorActive, tec := 0, rec_ := 0, recovering := false, offSince := none, manualOnly := false }).setEvent (U.bl c) Off.blEvents 2))
  else .next s

end Sys2Proof.Machine
end

