-- ==== Sys2Proof/Machine/VecOps.lean ====
section
/-! DEFINITION. The vector units (R179 to R182, Table 6-6): binary32 operations with one rounding to nearest, ties to even, the
sticky flags of R181, and the leg's vector program, whose results reach the closure adders through VACC (R164). -/

namespace Sys2Proof.Machine

open Sys2Proof

/-! ### Codes -/

/-- R179: a NaN result. -/
def vNan : Nat := 0x7FC00000

def vInf (neg : Bool) : Nat := 0x7F800000 + 0x80000000 * b2n neg
def vZero (neg : Bool) : Nat := 0x80000000 * b2n neg
def vNeg (w : Nat) : Bool := decide (2 ^ 31 ≤ w % 2 ^ 32)
def vMag (w : Nat) : Nat := w % 2 ^ 31
def vIsNan (w : Nat) : Bool := decide (0x7F800000 < vMag w)
def vIsInf (w : Nat) : Bool := decide (vMag w = 0x7F800000)
def vIsZero (w : Nat) : Bool := decide (vMag w = 0)
/-- A signalling NaN: a NaN whose top fraction bit is 0. -/
def vIsSnan (w : Nat) : Bool := vIsNan w && decide (vMag w < 0x7FC00000)

/-- The value of a finite code: significand and exponent (R156 with FP32's row of Table 6-1). -/
def vVal (w : Nat) : Int × Int := floatParts 32 23 127 w

/-- R181: the sticky flags, as VFLAGS places them (Table 7-3). -/
def vInvalid : BitVec 4 := 8
def vDivZero : BitVec 4 := 4
def vOverflow : BitVec 4 := 2
def vUnderflow : BitVec 4 := 1

/-! ### One rounding -/

/-- Whether `m` × 2^g lies below 2^−126, before rounding or after rounding to 24 bits (IEEE 754-2019 7.5). -/
def vTiny (m : Nat) (g : Int) : Bool :=
  let x : Int := (Nat.log2 m : Int) + g
  let carried : Bool := decide (roundScaled m (g - (x - 23)) = 2 ^ 24)
  decide (x < -126) && (Config.tinyBefore || !(decide (x = -127) && carried))

/-- The binary32 code nearest to ± `m` × 2^g, where `m` may carry a sticky lowest bit, with OVERFLOW and UNDERFLOW. -/
def vRound (neg : Bool) (m : Nat) (g : Int) : Nat × BitVec 4 :=
  if m = 0 then (vZero neg, 0)
  else
    let c := roundMag 23 127 m g
    let x : Int := (Nat.log2 m : Int) + g
    let e : Int := if x < -126 then -126 else x
    let d := (e - 23 - g).toNat
    let inexact := decide (m % 2 ^ d ≠ 0)
    if 0x7F800000 ≤ c then (vInf neg, vOverflow)
    else (c + 0x80000000 * b2n neg, if inexact && vTiny m g then vUnderflow else 0)

/-- A sum of two finite values; an exact zero takes the sign `zneg` (+0 unless both operands are −0). -/
def vAddVal (a b : Int × Int) (zneg : Bool) : Nat × BitVec 4 :=
  let e := if a.2 ≤ b.2 then a.2 else b.2
  let s : Int := a.1 * (2 ^ (a.2 - e).toNat : Nat) + b.1 * (2 ^ (b.2 - e).toNat : Nat)
  if s = 0 then (vZero zneg, 0) else vRound (decide (s < 0)) s.natAbs e

/-- A quotient of two naturals × 2^g, with a sticky bit below 64 further bits. -/
def vQuot (n d : Nat) (g : Int) : Nat × Int :=
  let q := n * 2 ^ 64 / d
  (2 * q + b2n (decide (n * 2 ^ 64 % d ≠ 0)), g - 65)

/-- ⌊√n⌋, bit by bit from bit `k` − 1. -/
def isqrt (k n r : Nat) : Nat :=
  match k with
  | 0 => r
  | k + 1 => if (r + 2 ^ k) * (r + 2 ^ k) ≤ n then isqrt k n (r + 2 ^ k) else isqrt k n r

/-- √(m × 2^e) for positive `m`, with a sticky bit. -/
def vRoot (m : Nat) (e : Int) : Nat × Int :=
  let odd := decide (e % 2 = 1)
  let n := (if odd then 2 * m else m) * 2 ^ 64
  let e' := (if odd then e - 1 else e) - 64
  let r := isqrt 50 n 0
  (2 * r + b2n (decide (r * r ≠ n)), e' / 2 - 1)

/-- 1/√(m × 2^e) for positive `m`, with a sticky bit. -/
def vRecipRoot (m : Nat) (e : Int) : Nat × Int :=
  let odd := decide (e % 2 = 1)
  let n := if odd then 2 * m else m
  let e' := if odd then e - 1 else e
  let r := isqrt 70 (2 ^ 128 / n) 0
  (2 * r + b2n (decide (r * r * n ≠ 2 ^ 128)), -64 - e' / 2 - 1)

/-! ### The operations (Table 6-6) -/

/-- A NaN operand gives the NaN of R179; a signalling one sets INVALID. -/
def vNanOr (l : List Nat) (r : Nat × BitVec 4) : Nat × BitVec 4 :=
  if l.any vIsNan then (vNan, if l.any vIsSnan then vInvalid else 0) else r

def vInvalidOp : Nat × BitVec 4 := (vNan, vInvalid)

def vFlip (w : Nat) : Nat := if vNeg w then w - 2 ^ 31 else w + 2 ^ 31

def vAdd (x y : Nat) : Nat × BitVec 4 :=
  vNanOr [x, y] (
    if vIsInf x && vIsInf y then (if vNeg x = vNeg y then (x, 0) else vInvalidOp)
    else if vIsInf x then (x, 0)
    else if vIsInf y then (y, 0)
    else vAddVal (vVal x) (vVal y) (vNeg x && vNeg y))

def vMul (x y : Nat) : Nat × BitVec 4 :=
  let neg := vNeg x != vNeg y
  vNanOr [x, y] (
    if vIsInf x && vIsZero y || vIsZero x && vIsInf y then vInvalidOp
    else if vIsInf x || vIsInf y then (vInf neg, 0)
    else vRound neg ((vVal x).1.natAbs * (vVal y).1.natAbs) ((vVal x).2 + (vVal y).2))

/-- x × y + z with one rounding. -/
def vFma (x y z : Nat) : Nat × BitVec 4 :=
  let neg := vNeg x != vNeg y
  if vIsInf x && vIsZero y || vIsZero x && vIsInf y then vInvalidOp
  else vNanOr [x, y, z] (
    if vIsInf x || vIsInf y then (if vIsInf z && vNeg z != neg then vInvalidOp else (vInf neg, 0))
    else if vIsInf z then (z, 0)
    else vAddVal ((vVal x).1 * (vVal y).1, (vVal x).2 + (vVal y).2) (vVal z) (neg && vNeg z))

/-- Ordering of two codes that are not NaN, −0 below +0. -/
def vKey (w : Nat) : Int := if vNeg w then -(vMag w : Int) - 1 else vMag w

def vMin (x y : Nat) : Nat × BitVec 4 := vNanOr [x, y] (if vKey x ≤ vKey y then x else y, 0)
def vMax (x y : Nat) : Nat × BitVec 4 := vNanOr [x, y] (if vKey x ≤ vKey y then y else x, 0)

/-- The ordering VCMP finds: 0 less, 1 equal (−0 equals +0), 2 greater, 3 unordered. -/
def vOrder (x y : Nat) : Nat :=
  if vIsNan x || vIsNan y then 3
  else if vIsZero x && vIsZero y then 1
  else if vKey x < vKey y then 0 else if vKey x = vKey y then 1 else 2

def vDiv (x y : Nat) : Nat × BitVec 4 :=
  let neg := vNeg x != vNeg y
  vNanOr [x, y] (
    if vIsInf x && vIsInf y || vIsZero x && vIsZero y then vInvalidOp
    else if vIsInf x then (vInf neg, 0)
    else if vIsInf y || vIsZero x then (vZero neg, 0)
    else if vIsZero y then (vInf neg, vDivZero)
    else
      let q := vQuot (vVal x).1.natAbs (vVal y).1.natAbs ((vVal x).2 - (vVal y).2)
      vRound neg q.1 q.2)

def vSqrt (x : Nat) : Nat × BitVec 4 :=
  vNanOr [x] (
    if vIsZero x then (x, 0)
    else if vNeg x then vInvalidOp
    else if vIsInf x then (x, 0)
    else
      let r := vRoot (vVal x).1.natAbs (vVal x).2
      vRound false r.1 r.2)

def vRsqrt (x : Nat) : Nat × BitVec 4 :=
  vNanOr [x] (
    if vIsZero x then (vInf (vNeg x), vDivZero)
    else if vNeg x then vInvalidOp
    else if vIsInf x then (vZero false, 0)
    else
      let r := vRecipRoot (vVal x).1.natAbs (vVal x).2
      vRound false r.1 r.2)

/-! ### Functions (Table 6-6), nearest binary32

A function value is computed in fixed point with 768 fraction bits, and rounded once with its lowest bit sticky: none of these
functions takes a value that is a binary32 number, or lies midway between two, but where a limit below gives it. -/

/-- Fraction bits of the fixed point. -/
abbrev fxBits : Nat := 768

/-- 1 in fixed point. -/
def fxOne : Nat := 2 ^ fxBits

/-- x × y in fixed point. -/
def fxMul (x y : Nat) : Nat := x * y / fxOne

/-- ± m × 2^e as a magnitude in fixed point. -/
def fxOf (m : Nat) (e : Int) : Nat := if 0 ≤ e + fxBits then m * 2 ^ (e + fxBits).toNat else m / 2 ^ (-(e + fxBits)).toNat

/-- 1 + x/k + x²/(k (k+1)) + … , `n` terms from the one `t`. -/
def fxExpTerms (n k x t : Nat) : Nat :=
  match n with
  | 0 => t
  | n + 1 => t + fxExpTerms n (k + 1) x (fxMul t x / k)

/-- x squared `n` times. -/
def fxSquare (n x : Nat) : Nat := match n with | 0 => x | n + 1 => fxSquare n (fxMul x x)

/-- e^(x) for 0 ≤ x < 2⁹. -/
def fxExp (x : Nat) : Nat := fxSquare 10 (fxExpTerms 160 1 (x / 2 ^ 10) fxOne)

/-- e^(−x). Beyond 2⁹ it lies below every step of the fixed point that matters: 0. -/
def fxExpNeg (x : Nat) : Nat := if 2 ^ 9 * fxOne ≤ x then 0 else fxOne * fxOne / fxExp x

/-- y + y³/3 + y⁵/5 + … : artanh y, `n` terms, `p` the power. -/
def fxArtanhTerms (n k p y2 : Nat) : Nat :=
  match n with
  | 0 => 0
  | n + 1 => p / k + fxArtanhTerms n (k + 2) (fxMul p y2) y2

/-- ln (a/b) for b ≤ a ≤ 2 b: 2 artanh ((a − b)/(a + b)). -/
def fxLnRatio (a b : Nat) : Nat :=
  let y := (a - b) * fxOne / (a + b)
  2 * fxArtanhTerms 260 1 y (fxMul y y)

/-- ln 2. -/
def fxLn2 : Nat := fxLnRatio 2 1

/-- π by Machin's formula, each arctangent from its alternating series: 1/(k v^k). -/
def fxArctanTerms (n k p v2 : Nat) : Nat :=
  match n with
  | 0 => 0
  | n + 1 => p / k - fxArctanTerms n (k + 2) (p / v2) v2

def fxPi : Nat := 4 * (4 * fxArctanTerms 360 1 (fxOne / 5) 25 - fxArctanTerms 360 1 (fxOne / 239) (239 * 239))

/-- x/1 + x³/(1·3) + x⁵/(1·3·5) + … -/
def fxPhiTerms (n k t x2 : Nat) : Nat :=
  match n with
  | 0 => t
  | n + 1 => t + fxPhiTerms n (k + 2) (fxMul t x2 / k) x2

/-- Φ(x) − 1/2 for 0 ≤ x < 16: the normal density times the series. -/
def fxPhiHalf (x : Nat) : Nat :=
  let x2 := fxMul x x
  fxMul (fxExpNeg (x2 / 2)) (fxPhiTerms 1200 3 x x2) * fxOne / isqrt 800 (2 * fxPi * fxOne) 0

/-- Φ(−x) for x ≥ 0; beyond 16 it lies below 2^−185: 0 stands for it. -/
def fxPhiTail (x : Nat) : Nat := if 16 * fxOne ≤ x then 0 else fxOne / 2 - fxPhiHalf x

/-- A fixed-point value, with a sticky bit below it, rounded. -/
def fxRound (neg : Bool) (x : Nat) : Nat × BitVec 4 := vRound neg (2 * x + 1) (-(fxBits : Int) - 1)

/-- e^(± x) × 2^n rounded, for a magnitude x < 1 in fixed point or larger. -/
def fxScaled (x : Nat) (n : Int) : Nat × BitVec 4 := vRound false (2 * x + 1) (n - fxBits - 1)

/-- A value below every subnormal, and one above every finite code. -/
def vTinyValue (neg : Bool) : Nat × BitVec 4 := vRound neg 1 (-1000)
def vHugeValue : Nat × BitVec 4 := vRound false 1 1000

/-- e^x of a finite x. -/
def vExp (x : Nat) : Nat × BitVec 4 :=
  let m := fxOf (vVal x).1.natAbs (vVal x).2
  if 2 ^ 8 * fxOne ≤ m then (if vNeg x then vTinyValue false else vHugeValue)
  else fxRound false (if vNeg x then fxExpNeg m else fxExp m)

/-- 2^x of a finite x; exact for a whole x. -/
def vExp2 (x : Nat) : Nat × BitVec 4 :=
  let m := fxOf (vVal x).1.natAbs (vVal x).2
  if 2 ^ 8 * fxOne ≤ m then (if vNeg x then vTinyValue false else vHugeValue)
  else
    let n : Int := if vNeg x then -((m / fxOne : Nat) : Int) else (m / fxOne : Nat)
    let f := fxMul (m % fxOne) fxLn2
    if m % fxOne = 0 then vRound false 1 n else fxScaled (if vNeg x then fxExpNeg f else fxExp f) n

/-- |ln| of a positive finite code, with its sign: m × 2^e with 1 ≤ m < 2. -/
def vLnParts (x : Nat) : Bool × Nat :=
  let v := vVal x
  let k := Nat.log2 v.1.natAbs
  let e : Int := v.2 + k
  let l := fxLnRatio v.1.natAbs (2 ^ k)
  if 0 ≤ e then (false, e.toNat * fxLn2 + l) else (true, e.natAbs * fxLn2 - l)

def vLog (x : Nat) : Nat × BitVec 4 := let p := vLnParts x; fxRound p.1 p.2

/-- log₂ x; exact for a power of two. -/
def vLog2 (x : Nat) : Nat × BitVec 4 :=
  let v := vVal x
  let k := Nat.log2 v.1.natAbs
  if v.1.natAbs = 2 ^ k then vAddVal (v.2 + k, 0) (0, 0) false
  else let p := vLnParts x; fxRound p.1 (p.2 * fxOne / fxLn2)

def vTanh (x : Nat) : Nat × BitVec 4 :=
  let t := fxExpNeg (2 * fxOf (vVal x).1.natAbs (vVal x).2)
  fxRound (vNeg x) ((fxOne - t) * fxOne / (fxOne + t))

/-- 1/(1 + e^(−x)) in fixed point. -/
def fxSigm (x : Nat) : Nat :=
  let t := fxExpNeg (fxOf (vVal x).1.natAbs (vVal x).2)
  (if vNeg x then t else fxOne) * fxOne / (fxOne + t)

def vSigm (x : Nat) : Nat × BitVec 4 := fxRound false (fxSigm x)

def vSilu (x : Nat) : Nat × BitVec 4 := fxRound (vNeg x) (fxMul (fxOf (vVal x).1.natAbs (vVal x).2) (fxSigm x))

/-- ln (1 + e^x) = max (x, 0) + ln (1 + e^(−|x|)). -/
def vSoftplus (x : Nat) : Nat × BitVec 4 :=
  let m := fxOf (vVal x).1.natAbs (vVal x).2
  fxRound false ((if vNeg x then 0 else m) + fxLnRatio (fxOne + fxExpNeg m) fxOne)

/-- x Φ(x). -/
def vGelu (x : Nat) : Nat × BitVec 4 :=
  let m := fxOf (vVal x).1.natAbs (vVal x).2
  let tail := fxPhiTail m
  fxRound (vNeg x) (fxMul m (if vNeg x then tail else fxOne - tail))

/-- The values of a function at its limits and where it is exact. Operation by its place in Table 6-6, 0 VEXP to 8 VGELU. -/
def vLimit (k x : Nat) : Option (Nat × BitVec 4) :=
  let one := 0x3F800000
  if k ≤ 1 then
    if vIsInf x then some (if vNeg x then vZero false else x, 0) else if vIsZero x then some (one, 0) else none
  else if k ≤ 3 then
    if vIsZero x then some (vInf true, vDivZero) else if vNeg x then some vInvalidOp
    else if vIsInf x then some (x, 0) else if x = one then some (vZero false, 0) else none
  else if k = 4 then
    if vIsInf x then some (one + 2 ^ 31 * b2n (vNeg x), 0) else if vIsZero x then some (x, 0) else none
  else if k = 5 then
    if vIsInf x then some (if vNeg x then vZero false else one, 0) else if vIsZero x then some (0x3F000000, 0) else none
  else if k = 7 then
    if vIsInf x then some (if vNeg x then vZero false else x, 0) else none
  else if vIsZero x then some (x, 0)
  else if vIsInf x then some (if vNeg x then ((Config.vNegInf k).toNat, Config.vNegInfFlags k) else (x, 0)) else none

def vFunction (k x : Nat) : Nat × BitVec 4 :=
  vNanOr [x] (match vLimit k x with
    | some r => r
    | none =>
      match k with
      | 0 => vExp x | 1 => vExp2 x | 2 => vLog x | 3 => vLog2 x | 4 => vTanh x | 5 => vSigm x | 6 => vSilu x | 7 => vSoftplus x
      | _ => vGelu x)

/-- The flags of a conversion out of FP32: held at the largest magnitude, or inexact below the smallest normal value 2^emin. -/
def vCvtFlags (held : Bool) (emin : Int) (v : Int × Int) (back : Int × Int) : BitVec 4 :=
  let e := if v.2 ≤ back.2 then v.2 else back.2
  let exact := decide (v.1 * (2 ^ (v.2 - e).toNat : Nat) = back.1 * (2 ^ (back.2 - e).toNat : Nat))
  if held then vOverflow
  else if !exact && decide ((Nat.log2 v.1.natAbs : Int) + v.2 < emin) then vUnderflow else 0

/-- VCVT to BF16: saturation as in R172. -/
def vToBf16 (x : Nat) : Nat × BitVec 4 :=
  if vIsNan x then (0x7FC0, if vIsSnan x then vInvalid else 0)
  else if vIsInf x then (0x7F80 + 0x8000 * b2n (vNeg x), 0)
  else
    let r := toFloat 16 7 127 0x7F7F (vVal x).1 (vVal x).2
    (if vNeg x && decide (r.1 = 0) then 0x8000 else r.1, vCvtFlags r.2 (-126) (vVal x) (floatParts 16 7 127 r.1))

/-- VCVT to an MX element under scale byte `sc`: saturation as in R172; an infinity stays one where the format has one. -/
def vToElem (f : Fmt) (x sc : Nat) : Nat × BitVec 4 :=
  if vIsNan x || decide (sc = 255) then ((Config.vcvtNan (b2n (vIsNan x))).toNat, if vIsSnan x then vInvalid else 0)
  else if vIsInf x && decide (f = .e5m2) then (0x7C + 0x80 * b2n (vNeg x), 0)
  else
    let v : Int × Int := if vIsInf x then ((if vNeg x then -1 else 1), 512) else vVal x
    let g := v.2 - ((sc : Int) - 127)
    let r := toElem f v.1 g
    (r.1, if f = .mxint8 then (if r.2 then vOverflow else 0) else vCvtFlags r.2 (1 - fmtBias f) (v.1, g) (elemInt f r.1, fmtQuantum f))

/-- VCVT from an MX element under scale byte `sc` (R156, R157), held at the largest finite magnitude (R172). -/
def vFromElem (f : Fmt) (c sc : Nat) : Nat × BitVec 4 :=
  if f = .e5m2 && decide (c % 128 = 124) && decide (sc ≠ 255) then (vInf (decide (128 ≤ c)), 0)
  else if nonFinite f c || decide (sc = 255) then (vNan, 0)
  else
    let r := vRound (decide (elemInt f c < 0)) (elemInt f c).natAbs ((sc : Int) - 127 + fmtQuantum f)
    if vIsInf r.1 then (0x7F7FFFFF + 0x80000000 * b2n (vNeg r.1), r.2) else r

/-- Adjacent pairs added, each with its own rounding; the flags gather. -/
def vPairs (l : List Nat) : List Nat × BitVec 4 :=
  match l with
  | a :: b :: t =>
    let r := vAdd a b
    let rest := vPairs t
    (r.1 :: rest.1, r.2 ||| rest.2)
  | l => (l, 0)

/-- R180: the fixed tree over 16 lanes. -/
def vLsum (l : List Nat) : Nat × BitVec 4 :=
  let a := vPairs l
  let b := vPairs a.1
  let c := vPairs b.1
  let d := vPairs c.1
  (d.1.headD 0, a.2 ||| b.2 ||| c.2 ||| d.2)

/-- One lane of one operation. -/
def vEval (op : VOp) (a : List Nat) : Nat × BitVec 4 :=
  let x := a.getD 0 0
  let y := a.getD 1 0
  let z := a.getD 2 0
  match op with
  | .vadd => vAdd x y
  | .vsub => vNanOr [x, y] (vAdd x (vFlip y))
  | .vmul => vMul x y
  | .vfma => vFma x y z
  | .vmin => vMin x y
  | .vmax => vMax x y
  | .vabs => vNanOr [x] (vMag x, 0)
  | .vneg => vNanOr [x] (vFlip x, 0)
  | .vcmp => ((Config.vcmp (vOrder x y)).toNat, if vIsSnan x || vIsSnan y then vInvalid else 0)
  | .vsel => vNanOr [if Config.vselFirst (BitVec.ofNat 32 z) then x else y] (if Config.vselFirst (BitVec.ofNat 32 z) then x else y, 0)
  | .vrcp => vDiv 0x3F800000 x
  | .vrsqrt => vRsqrt x
  | .vdiv => vDiv x y
  | .vsqrt => vSqrt x
  | .vexp => vFunction 0 x
  | .vexp2 => vFunction 1 x
  | .vlog => vFunction 2 x
  | .vlog2 => vFunction 3 x
  | .vtanh => vFunction 4 x
  | .vsigm => vFunction 5 x
  | .vsilu => vFunction 6 x
  | .vsoftplus => vFunction 7 x
  | .vgelu => vFunction 8 x
  | .vcvtToBf16 => vToBf16 x
  | .vcvtFromBf16 => vNanOr [x * 2 ^ 16] (x * 2 ^ 16, 0)
  | .vcvtToElem f => vToElem f x y
  | .vcvtFromElem f => vFromElem f x y
  | .vlsum => vLsum a

/-! ### The leg's vector program -/

/-- A register lane's place: 32 registers of 16 lanes in each cluster (Table 5-3). -/
def laneKey (c : ClusterAt) (r : Fin 32) (l : Fin 16) : Nat := (clKey c * 32 + r.val) * 16 + l.val

/-- The vector registers of a leg, and the sticky flags of each cluster (R181). A lane not written yet reads as +0 (log entry 117). -/
structure VecState where
  regs : IMap Nat := []
  flags : IMap (BitVec 4) := []

/-- An operand's code. -/
def vArg (v : VecState) (u : ClusterAt) (a : VArg) : Nat :=
  match a with
  | .code w => w
  | .reg r l => mget 0 v.regs (laneKey u r l)

/-- One step: the lane of its destination register, and its cluster's flags. -/
def vStep (v : VecState) (p : VStep) : VecState :=
  let r := vEval p.op (p.args.map (vArg v p.unit))
  let k := clKey p.unit
  { regs := mset 0 v.regs (laneKey p.unit p.dst p.lane) r.1, flags := mset 0 v.flags k (mget 0 v.flags k ||| r.2) }

/-- The program of a leg in order; registers hold nothing from the leg before (R189). -/
def vRun (l : List VStep) : VecState := l.foldl vStep {}

/-- The OR over all clusters. -/
def allFlags (m : IMap (BitVec 4)) : BitVec 4 := m.foldl (fun a e => a ||| e.2) 0

/-- VACC: a lane is handed to the closure adder. -/
def laneIn (v : VecState) (p : PartialIn) : PartialIn :=
  match p with
  | .lane u r l => .vacc (mget 0 v.regs (laneKey u r l))
  | p => p

/-- A tensor's work with its VACC lanes taken from the vector registers. -/
def withLanes (v : VecState) (t : TensorWork) : TensorWork :=
  { t with elems := t.elems.map (fun e => { e with parts := e.parts.map (laneIn v) }) }

end Sys2Proof.Machine
end

