-- ==== Sys2Proof/Machine/EngineOps.lean ====
section
/-! DEFINITION. Shared operations of the engine (Ch. 5, 7, 8): integrity events and reports, cluster states, placement and
variants, restores, legs and the release of their results. -/

namespace Sys2Proof.Machine

open Sys2Proof

/-! ### Integrity events and reports (R249, R250) -/

/-- Table 8-11. -/
inductive IntEv
  | checkCorrupt | dataCorrupt | residue | rtFail | suspectEnter | suspectClear | clusterFailed | dieRetired | testOverdue
  | compareMismatch | ue | packageReset | marginFail | datumApplied | datumRejected | mirrorLate
deriving DecidableEq, Repr

/-- Its code. -/
def intCode : IntEv → Nat
  | .checkCorrupt => 1 | .dataCorrupt => 2 | .residue => 3 | .rtFail => 4 | .suspectEnter => 5 | .suspectClear => 6
  | .clusterFailed => 7 | .dieRetired => 8 | .testOverdue => 9 | .compareMismatch => 10 | .ue => 11 | .packageReset => 12
  | .marginFail => 13 | .datumApplied => 14 | .datumRejected => 15 | .mirrorLate => 16

/-- Its bit of INT_EVENTS (Table 8-16), where it has one. -/
def intBit : IntEv → Option Nat
  | .checkCorrupt => some 0 | .dataCorrupt => some 1 | .rtFail => some 2 | .testOverdue => some 3 | .suspectEnter => some 4
  | .clusterFailed => some 5 | .compareMismatch => some 6 | .ue => some 7 | .packageReset => some 8 | .marginFail => some 9
  | .datumApplied => some 10 | .mirrorLate => some 11
  | .residue => none | .suspectClear => none | .dieRetired => none | .datumRejected => none

/-- A cluster in the form of INT_CL_SEL (Table 8-18). -/
def clusterLoc (c : ClusterAt) : Nat := c.die.val * 512 + c.row.val * 32 + c.col.val

def top32 : Nat := 2 ^ 32 - 1

/-- Bit i: compute die i retired; bit k: store die k retired. -/
def retiredC (s : State) : Nat := (upTo 16).foldl (fun a i => a + b2n (decide ((s.die i).st = 3)) * 2 ^ i) 0
def retiredS (s : State) : Nat := (upTo 8).foldl (fun a k => a + b2n (decide ((s.die (16 + k)).st = 3)) * 2 ^ k) 0

/-- Table 8-12: the fields of a report, in order. -/
def reportBody (kind event leg loc : Nat) (s : State) : List Nat :=
  let g := s.integ
  [g.reportSeq % 2 ^ 32, kind, event, s.now, leg, loc, (intStatus s).toNat, g.residue, g.checkCorrupt, g.dataCorrupt, g.rtFail,
   g.compare, countClusters s (fun c => decide (c.st = 2)), retiredC s, retiredS s, sat 0xFFFF g.resets, g.datumVer]

/-- A report: REPORT_SEQ rises by 1, then the report leaves to each session that `p` picks. -/
def sendReport (kind event leg loc : Nat) (p : Session → Bool) (s : State) : State :=
  let s1 := { s with integ.reportSeq := s.integ.reportSeq + 1 }
  let body := reportBody kind event leg loc s1
  forEach (s1.vcp.sessions.filter p) (fun e a => a.emit (.integrity e.id body)) s1

/-- Counts of Table 8-12 and of Table 8-17 that an event raises. -/
def intCount (ev : IntEv) (s : State) : State :=
  let g := s.integ
  match ev with
  | .residue => ({ s with integ.residue := sat top32 (g.residue + 1) }).addCount U.hub Off.intCountA 31 16 1
  | .dataCorrupt => ({ s with integ.dataCorrupt := sat top32 (g.dataCorrupt + 1) }).addCount U.hub Off.intCountA 15 0 1
  | .checkCorrupt => ({ s with integ.checkCorrupt := sat top32 (g.checkCorrupt + 1) }).addCount U.hub Off.intCountB 31 16 1
  | .rtFail => ({ s with integ.rtFail := sat top32 (g.rtFail + 1) }).addCount U.hub Off.intCountB 15 0 1
  | .compareMismatch => { s with integ.compare := sat top32 (g.compare + 1) }
  | .packageReset => { s with integ.resets := sat 0xFFFF (g.resets + 1) }
  | _ => s

/-- R249: one event of Table 8-11: its bit, its count, NOTIFY with its code, a KIND 1 report (at most 100 per second) and a
Logbook record. An event without a bit carries EVENT_BIT 0xFF (log entry 22). -/
def intEvent (ev : IntEv) (c : Option ClusterAt) (leg : Nat) (s : State) : State :=
  let loc := match c with | some c => clusterLoc c | none => top32
  let s1 := intCount ev s
  let s2 := match intBit ev with | some b => s1.setEvent U.hub Off.intEvents b | none => s1
  let s3 := notifyEvent { unit := U.hub, status := .ok, time := s.now, eventReg := Off.intEvents,
                          eventBit := (match intBit ev with | some b => b | none => 0xFF), code := intCode ev } s2
  let second := s.now / Config.sec
  let n := if s3.integ.secondAt = second then s3.integ.reportsInSecond else 0
  let s4 := if n < 100 then
      sendReport 1 (intCode ev) leg loc (fun e => subscribed e U.hub)
        { s3 with integ := { s3.integ with secondAt := second, reportsInSecond := n + 1 } }
    else s3
  logWords Log.integrity 64 (reportBody 1 (intCode ev) leg loc s4) s4

/-! ### Cluster states (Table 8-6) -/

def hours (n : Nat) : Nat := n * Config.hour

/-- The times of a list that lie within the last `d`. -/
def within (s : State) (d : Nat) (l : List Time) : List Time := l.filter (fun t => decide (s.now < t + d))

def clusterOf (s : State) (c : ClusterAt) : Cluster := s.cluster (clKey c)

/-- HEALTHY → SUSPECT. -/
def suspect (c : ClusterAt) (s : State) : State :=
  intEvent .suspectEnter (some c) s.seqr.leg
    (s.modCluster (clKey c) (fun k => { k with st := 1, clean := 0, failTimes := [] }))

/-- The spare of a die row is in use. -/
def spareUsed (s : State) (die row : Nat) : Bool :=
  ((s.die die).spares ++ (s.die die).sparesNext).any (fun e => decide (e.1 = row))

/-- The spare-column cluster of a cluster's row. -/
def spareOf (c : ClusterAt) : ClusterAt := { c with col := 16 }

/-- R128, R129: what a cluster's failure asks for: a spare remap, or the retirement of its die where the spare is in use or
FAILED, at the next leg boundary (R208). A spare that fails unused asks for nothing. -/
def replaceCluster (c : ClusterAt) (s : State) : State :=
  let d := c.die.val
  let used := spareUsed s d c.row.val
  if c.col.val = 16 ∧ !used then s
  else
    let s1 := if used || decide ((clusterOf s (spareOf c)).st = 2) then s.modDie d (fun x => { x with failed := true })
      else s.modDie d (fun x => { x with sparesNext := x.sparesNext ++ [(c.row.val, c.col.val)] })
    { s1 with seqr.placementNow := true }

/-- A failure of a cluster: a failed reciprocal test, or a residue mismatch charged to it (R240). -/
def failCluster (isResidue : Bool) (c : ClusterAt) (s : State) : State :=
  let k := clusterOf s c
  let res := if isResidue then s.now :: within s (hours 24) k.residues else k.residues
  let s0 := s.setCluster (clKey c) { k with residues := res }
  match k.st with
  | 0 => if isResidue && decide (res.length < 3) then s0 else suspect c s0
  | 1 =>
    let f := s.now :: within s (hours 72) k.failTimes
    if f.length < 2 then s0.modCluster (clKey c) (fun k => { k with clean := 0, failTimes := f })
    else replaceCluster c (intEvent .clusterFailed (some c) s.seqr.leg
      (s0.modCluster (clKey c) (fun k => { k with st := 2, failTimes := f })))
  | _ => s0

/-- A completed round: TEST_OVERDUE ends, and the age counts from now. -/
def roundDone (c : ClusterAt) (s : State) : State :=
  s.modCluster (clKey c) (fun k => { k with overdueSince := none, lastRound := s.now })

/-- A clean round; 1 000 of them clear SUSPECT. -/
def cleanRound (c : ClusterAt) (s : State) : State :=
  let s1 := roundDone c s
  let k := clusterOf s1 c
  if k.st ≠ 1 then s1
  else if k.clean + 1 < 1000 then s1.setCluster (clKey c) { k with clean := k.clean + 1 }
  else intEvent .suspectClear (some c) s.seqr.leg (s1.setCluster (clKey c) { k with st := 0, clean := 0, failTimes := [] })

/-- A failed test. -/
def failedRound (c : ClusterAt) (s : State) : State :=
  failCluster false c (intEvent .rtFail (some c) s.seqr.leg (roundDone c s))

/-! ### Reciprocal rounds (R237, R238) -/

/-- R238: the partner's physical die in a round. -/
def partnerDie (d : Fin 16) (round : Nat) : Fin 16 := fin16 (d.val + 1 + round % 15)

/-- R238: the seed of a round. -/
def roundSeed (round row col : Nat) : BitVec 64 := BitVec.ofNat 64 round ^^^ BitVec.ofNat 64 (row * 256 + col)

/-- R237: one step of the generator, shifts 13 left, 7 right, 17 left. -/
def xorshift (x : BitVec 64) : BitVec 64 :=
  let a := x ^^^ (x <<< 13)
  let b := a ^^^ (a >>> 7)
  b ^^^ (b <<< 17)

/-- R237: the 16 MXFP4 codes of a draw, and the block scale it gives. -/
def drawCodes (x : BitVec 64) : List Nat := (upTo 16).map (fun i => x.toNat / 16 ^ i % 16)
def drawScale (x : BitVec 64) : Nat := 0x78 + x.toNat % 16

/-- R238: the lowest die that is neither of two and not RETIRED. -/
def thirdDie (s : State) (a b : Nat) : Option Nat :=
  (upTo 16).find? (fun i => decide (i ≠ a) && decide (i ≠ b) && decide ((s.die i).st ≠ 3))

/-- R238: one round is judged: the cluster or clusters whose digest differs from the other two fail. -/
def judgeRound (r : RoundResult) (s : State) : State :=
  let a : ClusterAt := { die := r.die, row := r.row, col := r.col }
  let b : ClusterAt := { a with die := partnerDie r.die s.seqr.round }
  let s0 := { s with seqr.round := s.seqr.round + 1 }
  if r.digestA = r.digestB then cleanRound b (cleanRound a s0)
  else match thirdDie s a.die.val b.die.val with
    | none => failedRound b (failedRound a s0)
    | some i =>
      let c : ClusterAt := { a with die := fin16 i }
      if r.digestC = r.digestA then cleanRound c (failedRound b (cleanRound a s0))
      else if r.digestC = r.digestB then cleanRound c (cleanRound b (failedRound a s0))
      else failedRound c (failedRound b (failedRound a s0))

/-! ### Placement (R206 to R208) -/

/-- The dies of the package take part in the traverse, or stand idle. -/
def setDies (active : Bool) (s : State) : State :=
  forEach dies24 (fun i a => if (a.die i).st = 0 ∨ (a.die i).st = 1 then a.modDie i (fun d => { d with st := if active then 0 else 1 }) else a) s

/-- Table 7-9: the index of a variant by the dies it goes without. -/
def variantIndex (modules ord : Nat) (dual : Bool) (c st : List Nat) : Option Nat :=
  match c, st with
  | [], [] => some (if dual && decide (modules = 1) then 0x400 else 0)
  | [i], [] => some (0x100 + 16 * (if 1 < modules then ord else 0) + i)
  | [i, j], [] => if modules = 1 then some (0x200 + i * (31 - i) / 2 + (j - i - 1)) else none
  | [], [k] => if modules = 1 then some (0x300 + k) else none
  | _, _ => none

/-- R207: the variant that the retired dies ask for. -/
def variantFor (s : State) (img : Image) : Option Nat :=
  let c := (upTo 16).filter (fun i => decide ((s.die i).st = 3))
  let st := (upTo 8).filter (fun k => decide ((s.die (16 + k)).st = 3))
  match variantIndex img.modules (s.fldOf U.sys Off.hallCfg 3 0) s.integ.dual c st with
  | some v => if v = 0 ∨ holdsVariant img v then some v else none
  | none => none

/-- R128: the physical column that serves logical column `l` of a die row. -/
def physicalCol (s : State) (die row l : Nat) : Nat :=
  match (s.die die).spares.find? (fun e => decide (e.1 = row)) with
  | some e => if l < e.2 then l else l + 1
  | none => l

/-- R138, R128, R210: the physical cluster that a cluster address names. -/
def physicalCluster (s : State) (l row col : Nat) : Option (Nat × Nat × Nat) := (physicalOf s l).map (fun d => (d, row, physicalCol s d row col))

/-- Table 15-7: a RETIRED die leaves the traverse and its gate closes. -/
def retireDie (i : Nat) (s : State) : State :=
  closeGate i false (intEvent .dieRetired none s.seqr.leg (s.modDie i (fun d => { d with st := 3, failed := false, retireReq := false, restoreReq := false })))

/-- R152, Table 8-6: a die returns to service: it opens again (R446), and its FAILED clusters are SUSPECT. -/
def restoreDie (i : Nat) (s : State) : State :=
  let b := s.modDie i (fun d => { d with st := if s.power.closed.elem i then 2 else 1, restoreReq := false })
  { b with clusters := b.clusters.map (fun e =>
      if e.1 / 272 = i ∧ e.2.st = 2 then (e.1, { e.2 with st := 1, clean := 0, failTimes := [] }) else e) }

/-- R128, R152, R208, R240: the remaps and the failed dies come into force, and with `asked` the retirements and restorations that
were requested. -/
def applyDies (asked : Bool) (s : State) : State :=
  forEach dies24 (fun i a =>
    let d := a.die i
    let a1 := if d.failed || (asked && d.retireReq) then retireDie i a else if asked && d.restoreReq then restoreDie i a else a
    if d.sparesNext = [] then a1
    else a1.modDie i (fun d => { d with spares := d.spares ++ d.sparesNext, sparesNext := [] })) s

/-- DEGRADED (R207), with its event when it is set anew. -/
def setDegraded (on : Bool) (s : State) : State :=
  let s1 := { s with seqr.degraded := on }
  if on && !s.seqr.degraded then s1.setEvent U.hub Off.trvEvents 6 else s1

/-- The variant index changes. -/
def setVariant (v : Nat) (s : State) : State :=
  let s1 := setDegraded (decide (0x300 ≤ v) && decide (v < 0x400)) { s with seqr.variant := v }
  if s.seqr.variant = v then s1 else s1.setEvent U.hub Off.trvEvents 4

/-- The sequencer enters FAULTED: the image stays loaded, and the mode follows Table 3-4 (R205, R207, R215, R216). -/
def faultSeq (s : State) : State :=
  engineDown true (setDies false ((stopLegs .faulted s).setEvent U.hub Off.trvEvents 9))

/-- What a placement change finds (R207). -/
inductive Placed | runs (s : State) | handsOver (s : State) | stops (s : State)

/-- The state the choice leaves. -/
def Placed.state : Placed → State
  | .runs t => t
  | .handsOver t => t
  | .stops t => t

/-- R207: the waiting placement is applied (with `asked`, what was requested too) and its variant chosen; Dual comparison goes with the
DUAL variant (R231). A Keeper with a healthy Relief that has no variant asks for a
handover and keeps the placement it has (log entry 24). -/
def choosePlacement (asked : Bool) (img : Image) (s : State) : Placed :=
  let s0 := if asked then { s with seqr := { s.seqr with placement := none, placementDue := false, placementNow := false },
                                   integ.dual := s.bitAt U.hub Off.intCtrl 0 && holdsVariant img 0x400 }
    else { s with seqr.placementNow := false }
  let s1 := applyDies asked s0
  match variantFor s1 img with
  | some v => .runs ((setVariant v s1) |> fun a => { a with integ.dual := a.integ.dual && decide (v = 0x400) })
  | none => if reliefHealthy s then .handsOver (askHandover (setDegraded true s)) else .stops (setDegraded true s1)

/-! ### Restores (R204, R205) -/

/-- Mark the slot that holds checkpoint leg `n` (state WRITING or CLOSED) with `st`. -/
def markCkpt (p : Ckpt → Bool) (st : Nat) (s : State) : State :=
  let f := fun (c : Ckpt) => if p c then { c with state := st } else c
  { s with seqr.slotA := f s.seqr.slotA, seqr.slotB := f s.seqr.slotB }

/-- Table 7-8 step 1: the legs that have run since are discarded; their records stay. -/
def dropLegs (s : State) : State := { s with seqr.legs := s.seqr.legs.map (fun r => { r with dropped := true }) }

/-- The scheduled copies of the leg end with it. -/
def endScheduled (s : State) : State := { s with copies.sched := [] }

/-- R204 step 1: the sequencer stops at t_s and enters RESTORING; the later legs are discarded, and a slot they were writing
with them. With no CLOSED slot it enters FAULTED (R205). -/
def startRestore (reload : Nat) (s : State) : State :=
  let s1 := endScheduled (markCkpt (fun c => decide (c.state = 1)) 3 (dropLegs { s with seqr.rollbackAt := none }))
  match lastCkpt s1 with
  | none => faultSeq s1
  | some _ =>
    { toPartner (.restoreAt (s.seqr.leg + 1)) s1 with
        seqr.st := .restoring, seqr.restore := some (s.now, reload), plant.engineOk := false, seqr.cleanRun := 0 }
      |>.setEvent U.hub Off.trvEvents 3

/-- R229: a failed check on a mirroring Relief: it leaves mirroring and resyncs; it releases nothing. -/
def leaveMirror (s : State) : State :=
  if s.pair.role = .reliefMirror then
    { s with pair := { s.pair with role := .reliefResync, resync := .handshake, resyncPct := 0, joinReady := false, joinLeg := none } }
  else s

/-- R208: a placement change at this boundary: the new placement by a restore, or what R207 step 5 gives; `rolls` says that a rollback
comes with it, which runs under the placement that stays (R228). -/
def changePlacement (rolls : Bool) (img : Image) (s : State) : State :=
  match choosePlacement s.seqr.placementDue img s with
  | .runs t => startRestore (if t.seqr.variant = s.seqr.variant then 0 else img.weightBytes) t
  | .handsOver t => let a := { t with seqr.placementNow := false }; if rolls then startRestore 0 a else a
  | .stops t => faultSeq t

/-- R214, R219: what ordinal 0 names goes to the other modules; another module tells ordinal 0, which names it (log entry 120). -/
def tellHall (payload : List Nat) (s : State) : State :=
  if s.fldOf U.sys Off.hallCfg 3 0 = 0 then sendHall payload s else sendService 0x10 0 payload s

/-- R215, R216, R248, R352: the hall traverse stops at one boundary, within 4 legs, and leaves the sequencers FAULTED. -/
def stopHall (s : State) : State :=
  if s.hall.running then
    let n := s.seqr.leg + 4
    tellHall [2, n, 1] { s with seqr := { s.seqr with hallStop := some n, hallFault := true } }
  else s

/-! ### Checks of a leg (R228, R233, R234) -/

/-- FAIL bits of Table 7-3. -/
abbrev Fail.residue : Nat := 0
abbrev Fail.digest : Nat := 1
abbrev Fail.mirror : Nat := 2
abbrev Fail.nonfinite : Nat := 3
abbrev Fail.contribution : Nat := 4
abbrev Fail.parity : Nat := 5

def failBit (n : Nat) : BitVec 6 := BitVec.ofNat 6 (2 ^ n)

/-- A check that failed asks for a rollback (Table 8-3): every FAIL bit but NONFINITE_COMMIT. -/
def wantsRollback (r : LegRec) : Bool := decide (r.fail &&& ~~~ failBit Fail.nonfinite ≠ 0)

/-- Put a record back in its place. -/
def setLeg (r : LegRec) (s : State) : State :=
  { s with seqr.legs := s.seqr.legs.map (fun q => if q.leg = r.leg ∧ !q.dropped then r else q) }

/-- The record of leg `n`, unless the leg was discarded. -/
def legRec (s : State) (n : Nat) : Option LegRec := s.seqr.legs.find? (fun r => decide (r.leg = n) && !r.dropped)

/-- R226 item 4: a digest mismatch is DATA_CORRUPT, charged to the sending cluster. -/
def dataCorrupt (src : ClusterAt) (r : LegRec) (s : State) : State × LegRec :=
  (intEvent .dataCorrupt (some src) r.leg s, { r with fail := r.fail ||| failBit Fail.digest })

/-- R234, no healthy Relief: a cluster in use (as placed in state `s`) that is GOOD becomes SUSPECT. -/
def suspectUsed (s : State) (c : ClusterAt) (a : State) : State :=
  let sp := (s.die c.die.val).spares
  let used := if c.col.val = 16 then sp.any (fun e => decide (e.1 = c.row.val))
    else !sp.any (fun e => decide (e.1 = c.row.val) && decide (e.2 = c.col.val))
  if used && decide ((clusterOf a c).st = 0) then suspect c a else a

/-- The same for every cluster in use of die `d`. -/
def suspectDie (s : State) (d : Fin 16) (a : State) : State :=
  forEach (List.finRange 16) (fun row a => forEach (List.finRange 17) (fun col a =>
    suspectUsed s { die := d, row := row, col := col } a) a) a

/-- R234: a mismatch that no other check explains. Three within 24 h on one Keeper ask for a handover, or make every cluster
in service SUSPECT. -/
def unresolvedMismatch (s : State) : State :=
  let l := s.now :: within s (hours 24) s.integ.unresolved
  let s1 := { s with integ.unresolved := l }
  if l.length < 3 ∨ !isKeeper s then s1
  else if reliefHealthy s then askHandover s1
  else
    forEach ((List.finRange 16).filter (fun d => decide ((s.die d.val).st = 0))) (suspectDie s) s1

/-- R234: the comparison of two computations of leg `r` has failed. -/
def compareFailed (r : LegRec) (s : State) : State :=
  let s1 := intEvent .compareMismatch none r.leg s
  let explained := !(r.residueBad.isEmpty && r.contribBad.isEmpty && r.readoutBad.isEmpty)
    || decide (r.fail &&& failBit Fail.digest ≠ 0)
  if explained then s1 else unresolvedMismatch s1

/-- The Mirror digests of leg `r` differ. -/
def mirrorDiffers (s : State) (r : LegRec) : Bool :=
  isKeeper s && mirrorActive s && (match r.reliefDigest with | some d => decide (d ≠ r.digest) | none => false)

/-- The counts and events of a leg's failed checks (Table 8-3), and the rounds its test slots completed (R230). -/
def chargeLeg (r : LegRec) (s : State) : State :=
  let s1 := forEach r.residueBad (fun c a => failCluster true c (intEvent .residue (some c) r.leg a)) s
  let s2 := forEach r.contribBad (fun e a =>
    if e.2 then failCluster true e.1 (intEvent .residue (some e.1) r.leg a) else a) s1
  -- R228: a record that failed on FLOOR or COUNT, and a readout, are reported by a record that names the cluster (log entry 118)
  let s2 := forEach ((r.contribBad.filter (fun e => !e.2)).map (·.1) ++ r.readoutBad) (fun c a =>
    logWords Log.integrity 64 (reportBody 1 0 r.leg (clusterLoc c) a) a) s2
  let s4 := forEach r.parity (fun p a => logWords Log.parity 16 [p, r.leg] a) s2
  -- R230: what test slots found
  let s5 := forEach r.slotResidues (fun c a => failedRound c (intEvent .residue (some c) r.leg a)) s4
  if s.bitAt U.hub Off.intCtrl 2 then forEach r.rounds judgeRound s5 else s5

/-- R203: the slot of a checkpoint leg becomes CLOSED or INVALID; a placement change requested before that leg falls due (R208). -/
def closeCkpt (r : LegRec) (s : State) : State :=
  if !r.ckptLeg then s
  else
    let ok := decide (r.fail = 0)
    let s0 := markCkpt (fun c => decide (c.state = 1) && decide (c.leg = r.leg)) (if ok then 2 else 3) s
    -- R267: a slot that becomes CLOSED goes to a Relief that does not write its own
    let s1 := match lastCkpt s0 with
      | some c => if ok && decide (s.pair.partnerRole ≠ .reliefMirror) then toPartner (.checkpoint c.leg c.mirrorId c.digest c.phase c.bodyLen c.rings) s0 else s0
      | none => s0
    -- R277: the checkpoint of phase 4 is superseded before the join
    let s1 := if ok && s1.pair.joinReady && s1.pair.joinAt.isNone then { s1 with pair := { s1.pair with joinReady := false, resync := .checkpoint } } else s1
    if ok && (match s.seqr.placement with | some n => decide (n < r.leg) | none => false) then { s1 with seqr.placementDue := true } else s1

/-- R67: the checks of leg `n` close: unanswered disputes are DATA_CORRUPT, the record gets CHECKS_CLOSED and CHECKS_OK, the
flag counts move (Table 7-19), and the checkpoint slot closes. -/
def closeLeg (n : Nat) (s : State) : State :=
  match legRec s n with
  | none => s
  | some r0 =>
    if r0.checksClosed then s
    else
      let d : State × LegRec := (r0.disputes.filter (fun q => q.2.2.isNone)).foldl
        (fun (a : State × LegRec) q => dataCorrupt q.1.src a.2 a.1) (s, { r0 with disputes := [] })
      let bad := mirrorDiffers d.1 d.2 || d.2.dualBad
      let r1 : LegRec := if bad then { d.2 with fail := d.2.fail ||| failBit Fail.mirror } else d.2
      let s1 := chargeLeg r1 d.1
      let s2 := if bad then compareFailed r1 s1 else s1
      let r2 : LegRec := { r1 with checksClosed := true, checksOk := decide (r1.fail = 0) }
      let s3 := if mirrorDiffers d.1 d.2 then { s2 with pair.legsMismatch := s2.pair.legsMismatch + 1 } else s2
      let s4 := if 0 < r2.nSat then s3.addCount U.hub Off.trvFlagCount 31 16 1 else s3
      let s5 := if 0 < r2.nInexact then s4.addCount U.hub Off.trvFlagCount 15 0 1 else s4
      closeCkpt r2 (setLeg r2 s5)

/-! ### Release (R191, Table 3-9) -/

/-- R48, R49: a demand outside its band binds the loop. -/
def bindLoop (l : Nat) (s : State) : State :=
  let k := s.loop l
  let t := s.setLoop l { k with policyBound := true, insideSince := none }
  if k.policyBound then t else t.setEvent (U.loop l) Off.loopEvents 0

/-- A value inside a band. -/
def insideBand (lo hi x : Int) : Bool := decide (lo ≤ x) && decide (x ≤ hi)

/-- R48: a demanded setpoint, with and without its provisional components, and an output against their bands; R49: a demand
outside its band sets POLICY_BOUND. -/
def demand (l : Nat) (sp out : Int) (s : State) : State :=
  let spU := sp * spUnit
  let inside := insideBand (spLo s l) (spHi s l) spU && insideBand (spLo s l) (spHi s l) (spU + provSp s l)
    && (decide (l = 2) || insideBand (outLo s l) (outHi s l) (out * outUnit))
  let k := s.loop l
  let s1 := if inside then s.setLoop l { k with insideSince := sinceOf s.now (some true) k.insideSince } else bindLoop l s
  s1.modLoop l (fun k => { k with base := some (clampI (spLo s l) (spHi s l) spU) })

/-- R60: a loop whose input is stale holds its output. -/
def inputStale (s : State) (l : Nat) : Bool := (s.loop l).staleSince.isSome

/-- R59: loop 3 opens only above its threshold, and falls to OUT_LO below the threshold − 2.00 K. -/
def divertTarget (s : State) (out : Int) : Int :=
  let th := sgn 16 (s.fldOf (U.loop 3) Off.loopSp 15 0)
  let t := s.plant.returnT.value
  let cur := (s.loop 3).out
  if t < th - 200 then outLo s 3
  else if t ≤ th then (if cur < out then cur else out)
  else out

/-- R63: an engine result not applied under REFLEX_HOLD is recorded once per value. -/
def heldResult (l : Nat) (out : Int) (s : State) : State :=
  let k := s.loop l
  if k.droppedValue = some out then s
  else logDropped (U.loop l) 4 Act.set (k.out / outUnit) out (s.setLoop l { k with droppedValue := some out })

/-- R63: the same for the balancing valve of rack r. -/
def heldRack (r : Nat) (pos : Int) (s : State) : State :=
  let k := s.rack r
  if k.droppedValue = some pos then s
  else logDropped (U.loop 2) 4 Act.set (k.pos / outUnit) pos (s.setRack r { k with droppedValue := some pos })

/-- One loop's committed result: base setpoint, and output clamped to its band. -/
def applyLoop (e : Fin 5 × Int × Int) (s : State) : State :=
  let l := e.1.val
  if l = 4 then s
  else
    let s1 := demand l e.2.1 e.2.2 s
    if l = 2 then s1
    else if !(s1.loop l).holders.isEmpty then heldResult l e.2.2 s1
    else if inputStale s1 l then s1.setEvent (U.loop l) Off.loopEvents 1
    else
      let t := clampI (outLo s1 l) (outHi s1 l) (e.2.2 * outUnit)
      s1.modLoop l (fun k => { k with target := if l = 3 then divertTarget s1 t else t, actedIn := some s.frame })

/-- One rack's committed balancing position; a demand outside the OUT band binds loop 2. -/
def applyPosition (e : Fin 16 × Nat) (s : State) : State :=
  let r := e.1.val
  let v : Int := (e.2 : Int) * outUnit
  let s1 := if insideBand (outLo s 2) (outHi s 2) v then s else bindLoop 2 s
  if rackHeld s1 r then heldRack r e.2 s1
  else if inSet s.plant.isolated r then s1
  else if !teleFresh s r then s1.setEvent (U.loop 2) Off.loopEvents 1
  else rackTarget r (s1.modRack r (fun k => { k with base := clampI (outLo s 2) (outHi s 2) v, actedIn := some s.frame }))

/-- R89: what one raise may add. -/
def raiseStep (s : State) (r : Nat) : Power := s.plant.raiseRate * rating s r / 10000

/-- R88, R89: the cap rack `r` may be raised to: the optimiser's wish, confirmed capacity, the step and the room left. -/
def raiseTo (s : State) (r want : Nat) : Power :=
  let k := s.rack r
  let room := s.broker.envelope - capSum s
  Nat.min (Nat.min want k.confirmed) (Nat.min (rating s r) (k.cap + Nat.min (raiseStep s r) room))

/-- R89: raises of one rack lie 100 ms apart. -/
def raiseTime (s : State) (r : Nat) : Bool :=
  match (s.rack r).raisedAt with | some t => decide (t + 100 * Config.ms ≤ s.now) | none => true

/-- One rack's raise, with its grant (R82, R91). -/
def raiseCap (leaves : Time) (r cap : Nat) (s : State) : State :=
  grantSet 4 cap 0 leaves r (s.modRack r (fun k => { k with raisedAt := some s.now, raises := k.raises ++ [(k.cap, k.grantSeq + 1)] }))

/-- R88: a raise of rack r to what is wanted is allowed now. -/
def mayRaise (s : State) (r want : Nat) : Bool :=
  decide ((s.rack r).cap < raiseTo s r want) && !raiseHold s r && raiseTime s r

/-- R90: the caps the optimiser wants wait for the end of the frame, with the racks whose raise R88 allows now, or whose cap a level-2
action has cut in this frame (R47). -/
def askCaps (want : List (Fin 16 × Nat)) (s : State) : State :=
  let ready := want.filter (fun e => mayRaise s e.1.val e.2
    || (decide ((s.rack e.1.val).cap < e.2) && decide ((s.rack e.1.val).cutIn = some s.frame)))
  if want = [] then s else { s with broker.asks := s.broker.asks ++ [.engine s.now want (ready.map (·.1))] }

/-- What is wanted for rack r. -/
def wantFor (want : List (Fin 16 × Nat)) (r : Nat) : Option Nat := (want.find? (fun e => decide (e.1.val = r))).map (·.2)

/-- R90: the cap-downs of an engine result. -/
def engineCuts (decided : Time) (want : List (Fin 16 × Nat)) (s : State) : State :=
  let leaves := leavesFrom decided s
  forEach (upTo 16) (fun r a => match wantFor want r with
    | some w => lowerCap 4 0 leaves r (Nat.max (floor a r) w) a
    | none => a) s.draw

/-- R88 to R90: its raises, each judged against the caps before it, in ascending rack order (log entry 109). A raise that no longer
meets R88 is dropped and recorded. -/
def engineRaises (decided : Time) (want : List (Fin 16 × Nat)) (ready : List (Fin 16)) (s : State) : State :=
  let leaves := leavesFrom decided s
  forEach (upTo 16) (fun r a => match wantFor want r with
    | some w =>
      if mayRaise a r w then raiseCap leaves r (raiseTo a r w) a
      else if ready.elem (fin16 r) then logDropped U.cap 4 Act.grant (a.rack r).cap w a else a
    | none => a) s.draw

/-- R90: the decisions on caps of one frame in their order: for bound loops, engine cap-downs, raises. Preman cap-downs and envelope
cuts have been carried out when they were made. -/
def settleCaps (s : State) : State :=
  let l := s.broker.asks
  let s0 := { s with broker.asks := [] }
  if !isKeeper s then s0
  else
    let s1 := forEach l (fun q a => match q with | .bound t k d => boundCut t k d a | .engine _ _ _ => a) s0
    let s2 := forEach l (fun q a => match q with | .bound _ _ _ => a | .engine t w _ => engineCuts t w a) s1
    forEach l (fun q a => match q with | .bound _ _ _ => a | .engine t w g => engineRaises t w g a) s2

/-- R100: an action of a sighting carries the ID of one that stands, or of the next one. -/
def sightingOk (s : State) (id : BitVec 32) : Bool := s.broker.sighted.elem id || decide (id.toNat % 2 ^ 31 = s.broker.sightings + 1)

/-- R94: the start of the load that causes an action: of its preview, or as the sighting expects it. -/
def loadStart (s : State) (p : ProvAction) : Option Time :=
  if p.raId.getLsbD 31 then (if sightingOk s p.raId then some p.expected else none)
  else (s.broker.previews.find? (fun q => decide (q.id = p.raId))).map (·.start)

/-- R94, R101, R104: the action may come into force. -/
def provAllowed (s : State) (p : ProvAction) : Bool :=
  (match loadStart s p with | some t => decide (t ≤ s.now + s.plant.depth * Config.sec) | none => false)
  && !s.broker.revoke.any (fun e => decide (e.1 = p.raId))
  && (match p.loop.val with | 0 => decide (0 ≤ p.sp) | 1 => decide (p.sp ≤ 0) | 2 => decide (0 ≤ p.pos) | 4 => true | _ => false)

/-- Table 4-6: racks already told under a run-ahead ID. -/
def noticedOf (s : State) (id : BitVec 32) : BitVec 16 :=
  s.broker.prov.foldl (fun (a : BitVec 16) p => if p.act.raId = id then a ||| p.noticed else a) 0

/-- The component in force under the action's ID in its loop. -/
def oldProv (p : ProvAction) (s : State) : Option Provisional :=
  s.broker.prov.find? (fun q => decide (q.act.raId = p.raId) && decide (q.act.loop = p.loop))

/-- R106: the ACTION record of a provisional action that is new or has new content. -/
def recordProv (p : ProvAction) (old : Option Provisional) (s : State) : State :=
  let l := p.loop.val
  logActionAs Log.action (U.loop l) 5 Act.provisional 16
    (match old with | some q => (if l = 2 then q.act.pos else q.act.sp) | none => 0) (if l = 2 then p.pos else p.sp) 0 p.raId 0 s

/-- The component that comes into force: an unchanged one keeps its record. `fresh` names the racks that now get their notice. -/
def newProv (p : ProvAction) (old : Option Provisional) (fresh : BitVec 16) (s : State) : Provisional :=
  match old with
  | some q => { q with act := p, logSeq := if q.act = p then q.logSeq else s.log.nextSeq - 1, noticed := q.noticed ||| fresh }
  | none => { act := p, logSeq := s.log.nextSeq - 1, noticed := fresh }

/-- The component takes its place; the first action of a sighting counts it (R100). -/
def storeProv (p : ProvAction) (old : Option Provisional) (fresh : BitVec 16) (s : State) : State :=
  let rest := s.broker.prov.filter (fun q => !(decide (q.act.raId = p.raId) && decide (q.act.loop = p.loop)))
  let new := p.raId.getLsbD 31 && !s.broker.sighted.elem p.raId
  { s with broker := { s.broker with
      prov := rest ++ [newProv p old fresh s],
      sightings := if new then s.broker.sightings + 1 else s.broker.sightings,
      sighted := if new then s.broker.sighted ++ [p.raId] else s.broker.sighted } }

/-- R48: the component takes its setpoint or a position outside the band. -/
def provBinds (p : ProvAction) (s : State) : Bool :=
  let l := p.loop.val
  if l = 2 then (upTo 16).any (fun r => inSet p.racks r && !insideBand (outLo s 2) (outHi s 2) ((s.rack r).base + provPos s r * outUnit))
  else decide (l < 2) && !insideBand (spLo s l) (spHi s l) (baseSp s l + provSp s l)

/-- R47, R101: the effect on one rack's balancing valve; one that a reflex holds drops it, with a record. -/
def actRack (p : ProvAction) (r : Nat) (s : State) : State :=
  if !inSet p.racks r || inSet s.plant.isolated r then s
  else if rackHeld s r then logDropped (U.loop 2) 5 Act.provisional ((s.rack r).pos / outUnit) p.pos s
  else rackTarget r s

/-- The effect of a component on its loop and its racks' positions, or the stage-up it brings forward (Table 4-6: the condition of
Table 3-6 without its 30 s). -/
def actProv (p : ProvAction) (old : Option Provisional) (s : State) : State :=
  let s1 := if provBinds p s then bindLoop p.loop.val s else s
  if p.loop.val = 2 then forEach (upTo 16) (actRack p) s1
  else if p.loop.val = 4 ∧ old.isNone ∧ 900 * outUnit ≤ (s.loop 0).out ∧ (s.loop 4).holders = [] then markStaged (stageUp 5 s1)
  else s1

/-- R105: the NOTICE grants of the racks that have had none under this ID. -/
def noticeProv (p : ProvAction) (fresh : BitVec 16) (s : State) : State :=
  let leaves := grantLeaves s
  forEach (upTo 16) (fun r a => if inSet fresh r then
    sendGrant r Kind.notice p.raId p.expected leaves (logActionAs Log.action U.cap 5 Act.grant r (a.rack r).cap (a.rack r).cap 0 p.raId 0 a)
    else a) s.draw

/-- R101: one provisional action comes into force, or takes its new content under the same ID (R98). -/
def applyProv (p : ProvAction) (s : State) : State :=
  if !provAllowed s p then s
  else
    let old := oldProv p s
    let fresh := if p.notice then p.racks &&& ~~~ noticedOf s p.raId else 0
    let s1 := if old.map (·.act) = some p then s else recordProv p old s
    let s2 := actProv p old (storeProv p old fresh s1)
    if fresh = 0 then s2 else noticeProv p fresh s2

/-- R87: the heat a bound loop cannot remove, as the engine supplies it. -/
def applyUnserved (e : Fin 5 × Nat) (s : State) : State := s.modLoop e.1.val (fun k => { k with unserved := e.2 })

/-- The committed results of a leg reach the plant. -/
def applyOut (o : EngineOut) (s : State) : State :=
  let s1 := forEach o.loops applyLoop s
  let s2 := forEach o.positions applyPosition s1
  let s3 := forEach o.unserved applyUnserved s2
  let s3 := { s3 with plant.leakProb := o.leakProb.foldl (fun m e => mset 0 m e.1.val e.2) s3.plant.leakProb }
  let s4 := forEach o.capacity (fun e a => a.modRack e.1.val (fun k => { k with confirmed := e.2 })) s3
  let s5 := forEach o.withdraw (fun id a => revokeRa id true a) s4
  askCaps o.want (forEach o.prov applyProv s5)

/-- A leg is withheld (R191): its record says so, outputs hold, and it counts (R68). -/
def withhold (r : LegRec) (s : State) : State :=
  let s1 := setLeg { r with withheld := true, staging := [] } s
  let s1 := if s.seqr.withheldRun + 1 = 20 then s1.setEvent U.sys Off.sysModeEvents 3 else s1
  let s2 := { s1 with plant.engineOk := false, seqr.withheldRun := s.seqr.withheldRun + 1, seqr.cleanRun := 0 }
  let s3 := if isKeeper s && engineDriven s then holdOutputs s2 else s2
  (s3.setEvent U.hub Off.trvEvents 2).addCount U.hub Off.trvWithheld 31 0 1

/-- A leg whose every check closed is released; only a Keeper in RUN or ISOLATE with engine-driven loops commits it. -/
def releaseLeg (r : LegRec) (s : State) : State :=
  let commit := isKeeper s && engineDriven s
  let s1 := setLeg { r with committed := commit, staging := [] } s
  let s2 := { s1 with plant.engineOk := true, seqr.withheldRun := 0,
                      seqr.cleanRun := if s.seqr.cleanFrom ≤ r.leg then s.seqr.cleanRun + 1 else s.seqr.cleanRun }
  if commit then
    forEach r.satTensors (fun t a => logSubmit true false Log.saturated 16 a.now (.words [t, r.leg]) a) (forEach r.staging commitStaging (applyOut r.out s2))
  else s2

/-- R191, R451, R270: the release due for a leg: withheld while Deck is stopped or the module's legs stand outside the hall. -/
def releaseDue (r : LegRec) (s : State) : State :=
  if r.checksOk && s.fw.deckUp && !s.pair.misaligned then releaseLeg r s else withhold r s

/-! ### The next leg (R188 to R203) -/

/-- R225, R226: a transfer received whose digest differs from the one attached. -/
def disputeOf (t : Transfer) : Option (Transfer × Nat × Option Nat) :=
  let d := accDigest t.firstK t.sums
  if t.sends ∨ d = t.digest then none else some (t, d, none)

/-- Table 8-2: the digest record of a transfer, as the sending closure adder writes it. -/
def digestRecordBytes (leg : Nat) (t : Transfer) : List Nat :=
  leBytes 4 0x47445856 ++ leBytes 4 t.tensor ++ leBytes 4 t.firstK ++ leBytes 4 t.sums.length ++ leBytes 8 leg ++ leBytes 8 t.digest
    ++ List.replicate 32 0

/-! ### The schedule of a leg (R133, R142, R190, R194) -/

/-- R197: the program of a variant. -/
def programOf (i : Image) (variant program : Nat) : Option LegProgram :=
  i.programs.find? (fun p => decide (p.variant = variant) && decide (p.program = program))

/-- The program a phase position names. -/
def programAt (i : Image) (phase : Nat) : Nat := i.phases.getD (phase % Nat.max 1 i.phases.length) 0

/-- R133: the physical compute dies of a stream, through the rotation in force. -/
def physicalMask (s : State) (m : BitVec 16) : BitVec 16 :=
  BitVec.ofNat 16 ((upTo 16).foldl (fun a l => if m.getLsbD l then (match physicalOf s l with | some d => a ||| 2 ^ d | none => a) else a) 0)

/-- R133: array cycles a stream occupies its store die: 4 000 B in each. -/
def streamCycles (d : StreamDesc) : Nat := ceilDiv (d.elemLen * 32) 4000

/-- R132, R133: when a stream has reached its compute dies: 48 cycles after its last beat left. -/
def streamEnd (d : StreamDesc) : Nat := d.startCycle + streamCycles d + 48

/-- R142: the time of an array cycle of a leg. -/
def cycleTime (clock start cycle : Nat) : Time := start + cycle * Config.frameNs / frameCycles clock

/-- R142, R202, R211: the copies of a leg: the program's own, and the overlays of a checkpoint and of a rotation leg, whose
ISSUE_CYCLE counts from their reserved windows (log entry 119). -/
def legCopies (i : Image) (p : LegProgram) (ckpt rot : Bool) : List (Nat × CopyDesc) :=
  let over_ := fun (l : List (Nat × CopyDesc)) (w : Nat) =>
    (l.filter (fun e => decide (e.1 = p.variant))).map (fun e => (w + e.2.issueCycle, e.2))
  p.copies.map (fun d => (d.issueCycle, d)) ++ (if ckpt then over_ i.ckptOverlay p.ckptWindow else [])
    ++ (if rot then over_ i.rotOverlay p.rotWindow else [])

/-- R139, R142: a leg's copies are issued at their cycles, by the six engines in turn (log entry 119); one that may not run ends
without moving data (R141). -/
def issueCopies (start : Time) (l : List (Nat × CopyDesc)) (s : State) : State :=
  l.zipIdx.foldl (fun a e =>
    let d := e.1.2
    match copyRefusal a 0 d with
    | some st => copyEvent 3 d st { a with copies.ended := copyEndOf 3 d st 0 0 a :: a.copies.ended }
    | none => { a with copies.sched := a.copies.sched ++ [(e.2 % 6, d, cycleTime a.seqr.clock start e.1.1)] }) s

/-- R190: the receptions that completed by the start of a leg are its input set. -/
def inputsUntil (start : Time) (l : List (Time × InputVal)) : List (Time × InputVal) := l.filter (fun e => decide (e.1 ≤ start))

/-- R190: where no leg precedes, the interval reaches one leg back from the start. -/
def inputsFor (n start : Nat) (s : State) : List (Time × InputVal) :=
  let l := inputsUntil start s.seqr.inputs
  if (legRec s (n - 1)).isSome && decide (0 < n) then l else l.filter (fun e => decide (start < e.1 + legNs s))
def inputsAfter (start : Time) (l : List (Time × InputVal)) : List (Time × InputVal) := l.filter (fun e => decide (start < e.1))

/-- R194, R237: a slot of the program holds a phase of a round on the logical die that physical die `d` serves. -/
def slotServes (s : State) (p : LegProgram) (d : Nat) : Bool :=
  p.slots.any (fun e => decide (768 ≤ e.cycles) && e.dies.getLsbD (logicalOf s d))

/-- The record of a leg: what its work computes and which checks fail in it. -/
def legOf (n start phase : Nat) (restored ckpt rot : Bool) (out : EngineOut) (w : LegWork) (s : State) : LegRec :=
  let v := vRun w.vector
  let recs := (match s.seqr.image with | some i => i.tensors | none => [])
  let program := (match s.seqr.image with | some i => programAt i phase | none => 0)
  let prog := (match s.seqr.image with | some i => programOf i s.seqr.variant program | none => none)
  let ts := computeTensors recs [] (w.tensors.map (withLanes v))
  let broken := w.residues.filter (fun e => !residueHolds e.2.2)
  let residueBad := (broken.filter (fun e => !e.2.1)).map (·.1)
  let readoutBad := (w.readouts.filter (fun r => !readoutCloses w.transfers r)).map (·.dst)
  let inSlots := fun (d : Nat) => match prog with | some p => slotServes s p d | none => false
  let contrib := ts.foldl (fun a t => a ++ t.bad) []
  let orF := fun (p : TensorDone → Bool) => ts.foldl (fun (a : BitVec 4) t => if p t then a ||| t.flags else a) 0
  let dual := s.integ.dual && decide (s.seqr.variant = 0x400) && (match w.dual with | some (a, b) => decide (a ≠ b) | none => false)
  let c := orF (fun t => t.commit)
  let bit := fun (b : Bool) (n : Nat) => if b then failBit n else (0 : BitVec 6)
  let disputes := w.transfers.filterMap disputeOf
  { leg := n, start := start, variant := s.seqr.variant, rotStep := s.seqr.rotStep,
    program := program, inputs := inputsFor n start s,
    streams := (match prog with | some p => p.streams.map (fun d => (d, physicalMask s d.dest)) | none => []),
    restored := restored, rotLeg := rot, ckptLeg := ckpt, tflags := orF (fun _ => true), cflags := c,
    vflags := w.vflags ||| allFlags v.flags, vClusters := v.flags,
    nInexact := (ts.filter (fun t => t.flags.getLsbD 0)).length, nSat := (ts.filter (fun t => t.flags.getLsbD 2)).length,
    fail := bit (!residueBad.isEmpty) Fail.residue ||| bit (!readoutBad.isEmpty) Fail.digest ||| bit (c.getLsbD 3) Fail.nonfinite
      ||| bit (!contrib.isEmpty) Fail.contribution ||| bit (!w.parity.isEmpty) Fail.parity,
    disputes := disputes, retained := w.transfers.filter (·.sends), digest := legDigestOf ts, residueBad := residueBad,
    slotResidues := (broken.filter (fun e => e.2.1)).map (·.1), contribBad := contrib,
    readoutBad := readoutBad, parity := w.parity, dualBad := dual,
    rounds := w.rounds.filter (fun r => inSlots r.die.val && inSlots (partnerDie r.die s.seqr.round).val),
    ckptDigest := w.ckptDigest, ringPos := w.ringPos,
    satTensors := (ts.filter (fun t => t.commit && t.flags.getLsbD 2)).map (·.number), out := out }

/-- FAN_DUTY of the program that runs in a phase position under the variant in force. -/
def fanDutyAt (s : State) (i : Image) (phase : Nat) : Nat :=
  match programOf i s.seqr.variant (programAt i phase) with | some p => p.fanDuty | none => 0

/-- R199: the highest FAN_DUTY among the legs that start within `span`, the first of them in `phase`. -/
def fanDutyAhead (s : State) (phase span : Nat) : Nat :=
  match s.seqr.image with
  | none => 0
  | some i => (upTo (Nat.min i.phases.length (span / Nat.max 1 (legNs s) + 1))).foldl (fun a j => Nat.max a (fanDutyAt s i (phase + j))) 0

/-- R199: the fans run at the larger of the legs' duty and the duty thermal control needs (free). -/
def fansFor (phase : Nat) (s : State) : State :=
  { s.draw with fans.duty := Nat.min 100 (Nat.max (fanDutyAhead s phase (2000 * Config.ms)) (Config.fanDuty s.free)) }

/-- R199: before the first leg, whose time is committed, the fans rise in the same way. -/
def fansStarting (s : State) : State :=
  match s.seqr.st, s.seqr.starting with
  | .starting, some (t, src, _) =>
    if t ≤ s.now + 2000 * Config.ms then
      let phase := match src, lastCkpt s with | 1, some c => c.phase | _, _ => 0
      { s with fans.duty := Nat.min 100 (Nat.max s.fans.duty (fanDutyAhead s phase (s.now + 2000 * Config.ms - t))) }
    else s
  | _, _ => s

/-- R202, R203: the slot a checkpoint leg writes: the slots take turns. -/
def writeCkpt (n start next : Nat) (r : LegRec) (s : State) : State :=
  let q := s.seqr
  let c : Ckpt := { state := 1, mirrorId := imageOr s (·.mirrorId), leg := n, start := start, phase := next, variant := q.variant,
                    rotStep := q.rotStep, bodyLen := imageOr s (·.ckptBytes), digest := r.ckptDigest, rings := r.ringPos.take 64 }
  if q.lastB then { s with seqr := { q with slotA := c, lastB := false } } else { s with seqr := { q with slotB := c, lastB := true } }

/-- Table 7-7: the header of a slot. -/
def ckptHeaderBytes (c : Ckpt) : List Nat :=
  leBytes 4 0x4B435856 ++ leBytes 4 c.state ++ leBytes 8 c.mirrorId ++ leBytes 8 c.leg ++ leBytes 8 c.start ++ leBytes 8 c.bodyLen
    ++ leBytes 8 (c.digest % 2 ^ 61) ++ leBytes 4 c.phase ++ leBytes 2 c.variant ++ [c.rotStep % 256, c.rings.length % 256] ++ List.replicate 72 0

/-- R203: the ring positions at offset 0x80, zeros up to 0x400. -/
def ckptRingBytes (c : Ckpt) : List Nat :=
  let l := c.rings.foldr (fun x a => leBytes 8 x ++ a) []
  l ++ List.replicate (0x380 - l.length) 0

/-- Table 7-3: the leg output record, 64 bytes. -/
def legRecordBytes (r : LegRec) : List Nat :=
  leBytes 8 r.leg ++ leBytes 8 r.start ++ leBytes 2 r.variant ++ [r.rotStep % 256, r.program % 256]
    ++ leBytes 4 (b2n r.restored * 64 + b2n r.rotLeg * 32 + b2n r.ckptLeg * 16 + b2n r.withheld * 8 + b2n r.committed * 4 + b2n r.checksOk * 2
      + b2n r.checksClosed)
    ++ leBytes 4 r.tflags.toNat ++ leBytes 4 r.cflags.toNat ++ leBytes 4 r.vflags.toNat ++ leBytes 2 r.nInexact ++ leBytes 2 r.nSat
    ++ leBytes 4 r.fail.toNat ++ List.replicate 20 0

/-- R192: where the record of leg `n` lies in hub SRAM; it stays until leg n + 3 starts. -/
def legRecordAt (n : Nat) : Nat := 0x02C00000 + 0x400000 * (n % 3)

/-- The bytes of hub SRAM that hold leg output records. -/
def legRecordByte (s : State) (off : Nat) : Option Nat :=
  (s.seqr.legs.find? (fun r => decide (legRecordAt r.leg ≤ off) && decide (off < legRecordAt r.leg + 64))).bind
    (fun r => (legRecordBytes r)[off - legRecordAt r.leg]?)

/-- R329: a LEG_STROBE pin pulses at the start of a leg. -/
def legStrobe (s : State) : State :=
  forEach [2, 3] (fun p a => if (a.aux p).func = 6 ∧ (a.aux p).switching.isNone then (a.emit (.pin (fin16 p) true)).emit (.pin (fin16 p) false) else a) s

/-- R201: TRV_CTRL intervals: CKPT_INTERVAL and ROT_INTERVAL. -/
def ckptInterval (s : State) : Nat := s.fldOf U.hub Off.trvCtrl 31 16
def rotInterval (s : State) : Nat := s.fldOf U.hub Off.trvCtrl 15 0

/-- R233: a mirroring Relief sends its leg digest. -/
def sendLegDigest (r : LegRec) (s : State) : State :=
  if s.pair.role = .reliefMirror && mirrorActive s then sendService 0x12 toPartnerOrd [r.leg, r.digest] s else s

/-- R201: a rotation step falls due in leg `n`, counted from the previous one or from leg 0. -/
def rotationFalls (every rotFrom n : Nat) : Bool := decide (every ≠ 0) && decide (rotFrom + every ≤ n)

/-- Leg `n` starts at `start` in phase position `phase`. `first`: the first leg after a start or a restore is a checkpoint leg
(R201). A rotation step that falls due on a checkpoint leg runs in the following leg; rotation runs only with BASE or DUAL
(R211). -/
def beginLeg (n start phase : Nat) (first restored : Bool) (out : EngineOut) (w : LegWork) (s : State) : State :=
  let s := setDies true s
  let q := s.seqr
  let ckpt := first || decide (q.ckptIn ≤ 1)
  let every := if q.rotEvery = 0 then rotInterval s else q.rotEvery
  let rotFrom := if q.rotEvery = 0 ∧ every ≠ 0 then n else q.rotFrom
  let rot := rotationFalls every rotFrom n && !ckpt && (decide (q.variant = 0) || decide (q.variant = 0x400))
  let ckptEvery := if ckpt then ckptInterval s else q.ckptEvery
  let period := (match q.image with | some i => i.phases.length | none => 1)
  let next := (phase + 1) % Nat.max 1 period
  let r := legOf n start phase restored ckpt rot out w s
  let s1 := { s with seqr := { q with
      st := .running, leg := n, anyLeg := true, legStart := start, phase := next, ckptEvery := ckptEvery,
      ckptIn := if ckpt then ckptEvery else q.ckptIn - 1,
      rotEvery := if rot then rotInterval s else every,
      rotFrom := if rot then n else rotFrom, inputs := inputsAfter start q.inputs,
      legs := r :: q.legs.take 2 } }
  let s2 := if ckpt then writeCkpt n start next r s1 else s1
  let s3 := match q.image with
    | some i => (match programOf i q.variant (programAt i phase) with | some p => issueCopies start (legCopies i p ckpt rot) (endScheduled s2) | none => s2)
    | none => s2
  sendLegDigest r (legStrobe (fansFor phase s3))

/-- R211: the rotation overlay of the leg that ended has moved every logical die one hop. -/
def endRotation (s : State) : State :=
  match s.seqr.legs with
  | r :: _ => if r.rotLeg then ({ s with seqr.rotStep := (s.seqr.rotStep + 1) % 16 }).setEvent U.hub Off.trvEvents 5 else s
  | [] => s

/-! ### Leg boundaries -/

/-- R98: a replaced preview takes its new content at the boundary. -/
def previewsAtBoundary (s : State) : State :=
  { s with broker.previews := (s.broker.previews.map (fun p => match p.next with
      | some (racks, start, dur, load, ramp) => { p with racks := racks, start := start, duration := dur, load := load, ramp := ramp, next := none }
      | none => p)) }

/-- What waits for a leg boundary: bands (R66), control registers (R121), previews (R98) and removals (R104). -/
def boundaryWork (s : State) : State :=
  let s1 := if engineDriven s then applyBands s else s
  let s2 := previewsAtBoundary (applyCtrl s1)
  let l := s2.broker.revoke
  forEach l (fun e a => removeProv e.1 e.2 a) { s2 with broker.revoke := [] }

/-! ### Loading (R217) -/

/-- A bank of the traverse image kind, update unit 2. -/
def traverseBank (s : State) (bank : Nat) : Bank := if bank = 0 then (s.upd 2).bankA else (s.upd 2).bankB

/-- R459: a bank that counts as verified. -/
def bankVerified (b : Bank) : Bool := decide (b.st = .verified) || decide (b.st = .trial) || decide (b.st = .active)

/-- R217: 2 s plus 4 s per GiB after acceptance. -/
def loadEnd (s : State) (bank : Nat) : Time :=
  s.now + 2 * Config.sec + ceilDiv (4 * Config.sec * (match (traverseBank s bank).man with | some m => m.imageLen | none => 0)) (2 ^ 30)

/-- The sequencer enters LOADING. -/
def startLoad (bank : Nat) (o : Option Origin) (s : State) : State :=
  { s with seqr := { s.seqr with st := .loading, loading := some (bank, s.now, loadEnd s bank), loadOrigin := o } }

/-- Table 16-7: the load that an activation of the traverse kind asks for has ended; nothing more waits for it. -/
def endLoadUpdate (s : State) : State := s.modUpd 2 (fun u => { u with activating := none })

/-- Table 16-7: the bank in force of the traverse kind is loaded, when an activation waits for it. -/
def loadActivated (s : State) : State :=
  if (s.upd 2).activating.isSome then
    (if (activeBank (s.upd 2)).st = .empty then endLoadUpdate { s with seqr := { s.seqr with st := .empty } }
     else startLoad (b2n (s.upd 2).activeB) none s)
  else s

/-- R219: the traverse stops at a boundary: legs are discarded, outputs hold, and the mode follows Table 3-4. A stop of the hall by R215
or R216 leaves FAULTED (Table 7-11). -/
def stopTraverse (s : State) : State :=
  let o := s.seqr.stopOrigin
  let s1 := markCkpt (fun c => decide (c.state = 1)) 3 { s with seqr.stopOrigin := none, seqr.hallStop := none }
  let s2 := if s.seqr.hallFault then faultSeq { s1 with seqr.hallFault := false }
    else loadActivated (engineDown true (setDies false (stopLegs .loaded s1)))
  match o with | some o => endRequest o .completed s2 | none => s2

end Sys2Proof.Machine
end

