-- ==== Sys2Proof/Machine/Integrity.lean ====
section
/-! DEFINITION. Commands and events of engine integrity (Ch. 8): digests, cluster tests, margin tests, datum sets, uncorrectable
errors and the package reset, and integrity reports. -/

namespace Sys2Proof.Machine

open Sys2Proof

/-! ### Digests (R226, R233) -/

/-- R226: the sender's answer settles one dispute. -/
def settleDispute (n i d : Nat) (s : State) : State :=
  match legRec s n with
  | none => s
  | some r =>
    if r.checksClosed then s
    else match r.disputes[i]? with
    | some (t, rx, none) =>
      let r1 := { r with disputes := r.disputes.set i (t, rx, some d) }
      if t.passesAgree && decide (d = rx) then intEvent .checkCorrupt (some t.src) n (setLeg r1 s)
      else
        let q := dataCorrupt t.src r1 s
        setLeg q.2 q.1
    | _ => s

/-- R226: the open dispute `i` of leg `n`. -/
def openDispute (n i : Nat) (s : State) : Option Transfer :=
  match legRec s n with
  | some r => (match r.disputes[i]? with | some (t, _, none) => if r.checksClosed then none else some t | _ => none)
  | none => none

/-- R225, R226: the digest re-derived from the retained copy `i` of leg `n`, kept until leg n + 2 starts. -/
def rederived (n i : Nat) (s : State) : Option Nat :=
  if s.seqr.leg < n + 2 then
    match legRec s n with
    | some r => (r.retained[i]?).map (fun t => accDigest t.firstK t.sums)
    | none => none
  else none

/-- R226: a request for a re-derived digest goes out to the module that sent the records, its answer comes in, or a peer's request is
answered from the retained copy. A sender of this module is asked inside it. -/
def execDigestQuery (leg index : Nat) (q : DigestAsk) (s : State) : Host.Outcome State Fault Refusal :=
  match q with
  | .answer d => .next (settleDispute leg index d s)
  | .ask =>
    .next (match openDispute leg index s with
      | some t => (match t.srcOrd with | some o => sendService 0x13 o [leg, index] s | none => s)
      | none => s)
  | .asked ord => .next (match rederived leg index s with | some d => sendService 0x13 ord [leg, index, d] s | none => s)

/-- R233: the start of the last card-bus frame of leg n + 1, the last moment a digest of leg n counts. -/
def digestInTime (s : State) (n : Nat) : Bool :=
  decide (s.seqr.leg ≤ n) || (decide (s.seqr.leg = n + 1) && decide (s.now ≤ s.seqr.legStart + legNs s - Config.frameNs))

/-- R233: the Relief's leg digest reaches the Keeper. -/
def execLegDigest (leg digest : Nat) (s : State) : Host.Outcome State Fault Refusal :=
  if isKeeper s && mirrorActive s then
    match legRec s leg with
    | some r =>
      if digestInTime s leg && !r.checksClosed then
        .next (setLeg { r with reliefDigest := some digest } { s with pair.legsCompared := s.pair.legsCompared + 1 })
      else .next (intEvent .mirrorLate none leg { s with pair.legsLate := s.pair.legsLate + 1 })
    | none => .next (intEvent .mirrorLate none leg { s with pair.legsLate := s.pair.legsLate + 1 })
  else .next s

/-! ### Cluster tests (R239, R240, R242) -/

/-- R239: the period of a cluster's tests. -/
def testPeriod (s : State) (k : Cluster) : Nat :=
  let p := s.fldOf U.hub Off.intCtrl 15 8 * 10 * Config.sec
  if k.st = 1 then p / 16 else p

/-- R239: a cluster has gone longer than its period without a completed round. -/
def execTestOverdue (c : ClusterAt) (s : State) : Host.Outcome State Fault Refusal :=
  let k := clusterOf s c
  let due := decide (Nat.max k.lastRound s.integ.since + testPeriod s k < s.now)
  if s.bitAt U.hub Off.intCtrl 2 ∧ (s.die c.die.val).st = 0 ∧ k.st ≠ 2 ∧ k.overdueSince.isNone ∧ due then
    .next (intEvent .testOverdue (some c) s.seqr.leg (s.setCluster (clKey c) { k with overdueSince := some s.now }))
  else .next s

/-- Table 8-6: TEST_OVERDUE held for 24 h. -/
def execSuspectEnter (c : ClusterAt) (s : State) : Host.Outcome State Fault Refusal :=
  let k := clusterOf s c
  match k.overdueSince with
  | some t => .next (if k.st = 0 ∧ t + hours 24 ≤ s.now then suspect c s else s)
  | none => .next s

/-- R242: the margin test falls due: the Relief leaves mirroring for it and counts as cold standby. -/
def startMargin (s : State) : State :=
  { s with integ.margin := true, power.marginClock := true, pair.role := .reliefCold }

/-- R242: the rounds under stress have run: each failed cluster takes a failed test; then the Relief resyncs. -/
def endMargin (failed : List ClusterAt) (s : State) : State :=
  let s1 := forEach failed (fun c a => failedRound c (intEvent .marginFail (some c) a.seqr.leg a)) s
  { s1 with integ := { s1.integ with margin := false, lastMargin := s.now }, power.marginClock := false, seqr.round := s1.seqr.round + 16,
            pair := { s1.pair with role := .reliefResync, resync := .handshake, joinReady := false, joinLeg := none } }

/-- R241, R242: the margin test of a Relief starts when its period has passed while the Keeper is in RUN, and ends with the
clusters that failed under stress (log entry 25). -/
def execMarginTest (failed : List ClusterAt) (s : State) : Host.Outcome State Fault Refusal :=
  let p := s.fldOf U.hub Off.intMargin 31 16
  if s.integ.margin then .next (endMargin failed s)
  else if s.pair.role = .reliefMirror ∧ p ≠ 0 ∧ s.plant.mode = .run ∧ s.integ.lastMargin + hours p ≤ s.now then .next (startMargin s)
  else .next s

/-! ### Uncorrectable errors and the package reset (R246 to R248) -/

/-- R246: the error counts against its die; two within 72 h retire it at the restart. -/
def chargeDie (i : Nat) (s : State) : State :=
  let l := s.now :: within s (hours 72) (s.die i).ueTimes
  s.modDie i (fun d => { d with ueTimes := l, failed := d.failed || (decide (2 ≤ l.length) && decide (i < 24)) })

/-- R246: the package reset begins: nothing more is released, the dies leave the traverse, and the gate of the package closes with
those of its dies (Table 15-7); copies still running at its drain limit end with DOMAIN_DOWN. -/
def beginReset (s : State) : State :=
  let s1 := setDies false (stopLegs .loaded s)
  { s1 with integ.resetAt := some s.now, plant.engineOk := false, seqr.cleanRun := 0,
            power := { s1.power with closed := (24 :: dies24 ++ s1.power.closed).eraseDups,
                                     closing := (24, s.now, false) :: s1.power.closing.filter (fun e => decide (0x20 ≤ e.1)) } }

/-- R248: a module of a hall that cannot hand over stops the hall traverse (`s` as it was before the reset). -/
def hallReset (s a : State) : State := if s.hall.running then tellHall [2, s.seqr.leg + 4, 1] a else a

/-- R246, R247: the event and the package reset (`s` as it was before). A Keeper with a healthy Relief gives up LAMP in the next
frame. -/
def uncorrectable (s a : State) : State :=
  let s1 := beginReset (intEvent .ue none s.seqr.leg (holdOutputs a))
  if reliefHealthy s then { s1 with pair.dropLamp := some s.now } else hallReset s s1

/-- R246, R247: an uncorrectable error in a package memory. -/
def execUncorrectableError (die : Fin 25) (s : State) : Host.Outcome State Fault Refusal :=
  let s1 := chargeDie die.val s
  .next (if s.integ.resetAt.isSome then s1 else uncorrectable s s1)

/-- R247 step 5, R248: after the reset a single-module traverse is restored from its last valid checkpoint, a Relief resyncs,
and a hall traverse waits for TRAVERSE_START. -/
def afterReset (s : State) : State :=
  match s.seqr.image with
  | none => s
  | some i =>
    if isRelief s then
      -- the Relief restarts under the placement that its dies now give
      let a := (choosePlacement false i s).state
      { a with pair := { a.pair with role := .reliefResync, resync := .handshake, joinReady := false, joinLeg := none } }
    else if 1 < i.modules ∨ !s.seqr.anyLeg then s
    else match choosePlacement false i s with
      | .runs t => startRestore i.weightBytes (setDies true t)
      | .handsOver t => startRestore i.weightBytes (setDies true t)
      | .stops t => faultSeq t

/-- R247 step 4: a package reset runs from t_u + 50 µs and ends by t_u + 450 ms. -/
def resetEnds (early : Bool) (t now : Nat) : Bool :=
  decide (t + Config.frameNs ≤ now) && (early || decide (t + 450 * Config.ms ≤ now))

/-- R246, R247: the package reset ends, `early` when it does so before its latest time; the digest of the checkpoint is judged as the
restore's copies complete (R204, R205). -/
def execPackageResetDone (early : Bool) (s : State) : Host.Outcome State Fault Refusal :=
  match s.integ.resetAt with
  | none => .next s
  | some t => if !resetEnds early t s.now then .next s else .next (afterReset (openPackage (intEvent .packageReset none s.seqr.leg { s with integ.resetAt := none })))

/-! ### Datum sets (R243 to R245) -/

/-- R244: the chunk is in order. -/
def datumInOrder (s : State) (ver chunk n : Nat) : Bool :=
  match s.integ.push with
  | some (v, next, m, _, _) => decide (chunk = 0) || (decide (v = ver) && decide (next = chunk) && decide (m = n))
  | none => decide (chunk = 0)

/-- R244: the chunk is taken; the 60 s count from the first one. -/
def takeChunk (ver chunk n len : Nat) (s : State) : State :=
  let (bytes, t) := match s.integ.push with
    | some (_, _, _, b, t) => if chunk = 0 then (len, s.now) else (b + len, t)
    | none => (len, s.now)
  { s with integ.push := some (ver, chunk + 1, n, bytes, t) }

/-- The bytes pushed before this chunk. -/
def pushedBytes (s : State) (chunk : Nat) : Nat :=
  match s.integ.push with | some (_, _, _, b, _) => if chunk = 0 then 0 else b | none => 0

/-- R244: a set that fails is discarded. -/
def rejectSet (s : State) : State := intEvent .datumRejected none s.seqr.leg { s with integ.push := none }

/-- R244: DATUM_PUSH. -/
def datumAnswer (ver chunk n len : Nat) (setOk sigOk : Bool) (applyAt : Nat) (o : Origin) (s : State) : Answer :=
  if n = 0 ∨ 128 < n ∨ n ≤ chunk ∨ len = 0 ∨ 8192 < len ∨ 1048576 < pushedBytes s chunk + len ∨ !datumInOrder s ver chunk n then
    .refuse .badParam 0
  else if ver ≤ s.integ.datumVer then .status .denied 0 [] (rejectSet s)
  else if chunk + 1 < n then .done s.now [] (takeChunk ver chunk n len s)
  else if !setOk then .status .badParam 0 [] (rejectSet s)
  else if !sigOk then .status .denied 0 [] (rejectSet s)
  else
    let at_ := (boundaryFrom s (Nat.max applyAt s.now)).1
    .accept at_ U.hub 0 (fun s => toPartner (.datum ver at_)
      { s with integ := { s.integ with push := none, datumNext := some (ver, at_), datumOrigin := some o } })

/-- What R398 checks for DATUM_PUSH before its own checks (Tables 14-3, 14-6, 16-2). -/
def opDatumPush (h : Hdr) : Op :=
  { code := 0xA0, unit := fun _ _ => noUnit h.unit.toNat, role := rolesVendor, cap := some 1 }

/-- R244. -/
def execDatumPush (h : Hdr) (setVer : BitVec 32) (chunk nChunks : BitVec 16) (len : Nat) (setOk sigOk : Bool) (applyAt : BitVec 64)
    (s : State) : Host.Outcome State Fault Refusal :=
  .next (vcp (opDatumPush h) h
    (fun e s => datumAnswer setVer.toNat chunk.toNat nChunks.toNat len setOk sigOk applyAt.toNat (originOf h e) s) s)

/-- R244: 60 s with chunks missing. -/
def execDatumDiscard (s : State) : Host.Outcome State Fault Refusal :=
  match s.integ.push with
  | some (_, _, _, _, t) => .next (if t + 60 * Config.sec ≤ s.now then { s with integ.push := none } else s)
  | none => .next s

/-- R245: the set is written to the inactive MRAM slot, committed by one sequence write, and applied. -/
def execDatumApply (s : State) : Host.Outcome State Fault Refusal :=
  match s.integ.datumNext with
  | some (v, t) =>
    if t ≤ s.now then
      let o := s.integ.datumOrigin
      let s1 := intEvent .datumApplied none s.seqr.leg
        { s with integ := { s.integ with datumVer := v, datumNext := none, datumOrigin := none, datumSlot := 1 - s.integ.datumSlot } }
      .next (match o with | some o => endRequest o .completed s1 | none => s1)
    else .next s
  | none => .next s

/-! ### Reports (R249, R415) -/

/-- What R398 checks for INTEGRITY_REPORT before its own checks (Tables 14-3, 14-6, 16-2). -/
def opIntegrityReport (h : Hdr) : Op :=
  { code := 0xA1, kept := false, unit := fun _ _ => noUnit h.unit.toNat, relief := true, role := fun _ e => roleIn [.observer, .operator, .engineer, .vendorService] e }

/-- R415: INTEGRITY_REPORT: the reply carries a KIND 2 report. A Relief serves it (R272). -/
def execIntegrityReport (h : Hdr) (s : State) : Host.Outcome State Fault Refusal :=
  .next (vcp (opIntegrityReport h) h
    (fun _ s =>
      let s1 := { s with integ.reportSeq := s.integ.reportSeq + 1 }
      .done s.now (reportBody 2 0 s1.seqr.leg top32 s1) s1) s)

/-- R249: every REPORT_PERIOD a KIND 0 report goes to the sessions subscribed to the hub unit. -/
def execIntegrityPeriodic (s : State) : Host.Outcome State Fault Refusal :=
  if s.integ.lastReport + s.fldOf U.hub Off.intCtrl 23 16 * Config.sec ≤ s.now then
    .next (sendReport 0 0 s.seqr.leg top32 (fun e => subscribed e U.hub) { s with integ.lastReport := s.now })
  else .next s

end Sys2Proof.Machine
end

