-- ==== Sys2Proof/Machine/Copies.lean ====
section
/-! DEFINITION. The commands and events of the copy engines (R139 to R147, R153, R154). -/

namespace Sys2Proof.Machine

open Sys2Proof

/-- R153: firmware rings the doorbell of a ring: TAIL counts modulo SIZE, and a tail that would pass the head, leaving more than
SIZE − 1 descriptors, is ignored with OVERRUN (log entry 113). With the doorbell it clears the events it has taken (log entry 116). -/
def execCeRingTail (ring : Fin 3) (tail : BitVec 16) (descs : Doorbell) (s : State) : Host.Outcome State Fault Refusal :=
  let s := s.setReg U.hub Off.ceEvents (s.reg U.hub Off.ceEvents &&& ~~~ descs.clear)
  let k := ring.val
  let n := ringSize s k
  let t := tail.toNat % n
  let held := (s.copies.tail k + n - s.copies.head k) % n
  let more := (t + n - s.copies.tail k) % n
  if n ≤ held + more then .next (s.setEvent U.hub Off.ceEvents 4)
  else
    let new := (descs.descs.take more).map (fun d => ({ desc := d, ring := k } : Copy))
    .next (startCopies { s with copies := (s.copies.setRing k (s.copies.ring k ++ new)).setTail k t })

/-- Table 5-25: a power of two from 16 to 4 096. -/
def ringSizeOk (n : Nat) : Bool := [16, 32, 64, 128, 256, 512, 1024, 2048, 4096].elem n

/-- R154: firmware writes the base or the size of a ring; refused with BUSY while descriptors are outstanding and with
BAD_PARAM outside the copy-engine region, the layout then staying as it is. HEAD and TAIL, which are equal, count modulo the new SIZE
(log entry 114). -/
def execCeRingLayoutWrite (ring : Fin 3) (base size : Option Word) (s : State) : Host.Outcome State Fault Refusal :=
  let k := ring.val
  let ob := Off.ceRingBase + 0x10 * k
  let oc := Off.ceRingCtrl + 0x10 * k
  let b := match base with | some w => w | none => s.reg U.hub ob
  let z := match size with | some w => w | none => s.reg U.hub oc
  let n := z.toNat
  if s.copies.head k ≠ s.copies.tail k then .next (s.emit (.ringLayout ring .busy))
  else if b.toNat % 64 ≠ 0 ∨ b.toNat < 0x3800000 ∨ 0x3C00000 < b.toNat + 64 * n ∨ !ringSizeOk n then .next (s.emit (.ringLayout ring .badParam))
  else
    let s1 := (s.setReg U.hub ob b).setReg U.hub oc z
    .next ({ s1 with copies := (s1.copies.setHead k (s.copies.head k % n)).setTail k (s.copies.tail k % n) }.emit (.ringLayout ring .ok))

/-- R339, Table 8-3: the leg in progress fails by parity on a path of Table 5-7. -/
def poisonLeg (path : Nat) (s : State) : State :=
  { s with seqr.legs := s.seqr.legs.map (fun r => if r.leg = s.seqr.leg ∧ !r.dropped then
      { r with fail := r.fail ||| 0x20#6, parity := r.parity ++ [path] } else r) }

/-- R146, R236: a parity or uncorrectable error met on a path fails the leg that a scheduled copy serves (Table 8-3), and is counted
per path in the Logbook for every other copy. -/
def copyFault (scheduled : Bool) (d : CopyDesc) (s : State) : State :=
  let p := pathOf (memOf d.src) (memOf d.dst)
  if scheduled then poisonLeg p s
  else logWords Log.parity 16 [p, s.seqr.leg] s

/-- R140, R142: the oldest issued scheduled copy of engine `e`, and the others. -/
def takeSched (e : Nat) (now : Time) (l : List (Nat × CopyDesc × Time)) : Option (CopyDesc × List (Nat × CopyDesc × Time)) :=
  match l with
  | [] => none
  | c :: t => if c.1 = e ∧ c.2.2 ≤ now then some (c.2.1, t) else (takeSched e now t).map (fun p => (p.1, c :: p.2))

/-- R140: a scheduled copy ends. -/
def endSched (e : Nat) (st : Status) (bytes digest : Nat) (s : State) : State :=
  match takeSched e s.now s.copies.sched with
  | none => s
  | some (d, rest) =>
    let s1 := copyEvent 3 d st { s with copies := { s.copies with sched := rest, ended := copyEndOf 3 d st bytes digest s :: s.copies.ended } }
    if st = .faulted then copyFault true d s1 else s1

/-- The descriptor that runs on a ring. -/
def runningDesc (k : Nat) (s : State) : Option CopyDesc := ((s.copies.ring k).find? (·.running)).map (·.desc)

/-- R140, R146: the copy that runs on a ring ends, and the engine takes the next one. -/
def endOn (k : Nat) (st : Status) (bytes digest : Nat) (s : State) : State :=
  let s1 := match runningDesc k s with | some d => if st = .faulted then copyFault false d s else s | none => s
  startCopies (endRunning k st bytes digest s1)

/-- R140, R142, R147: a copy ends: on CE0 to CE5 the one they were issued, on CE6 that of ring 0 or an incoming request, on CE7 that of
ring 1 or 2. -/
def execCopyComplete (ce : Fin 8) (status : Status) (bytes digest : Nat) (s : State) : Host.Outcome State Fault Refusal :=
  if ce.val < 6 then .next (endSched ce.val status bytes digest s)
  else if ce.val = 6 then
    if s.copies.ring0.any (·.running) then .next (endOn 0 status bytes digest s)
    else match s.copies.incoming with
      | _ :: t => .next (startCopies (setBusy 6 (!t.isEmpty) { s with copies.incoming := t }))
      | [] => .next s
  else if s.copies.ring1.any (·.running) then .next (endOn 1 status bytes digest s)
  else .next (endOn 2 status bytes digest s)

/-- R144: a peer's request reaches CE6 and is served before the module's own descriptors that have not started. -/
def execPeerCopyRequest (ord bytes : Nat) (s : State) : Host.Outcome State Fault Refusal :=
  .next (setBusy 6 true { s with copies.incoming := s.copies.incoming ++ [(ord, bytes)] })

/-- R145: the copies of a ring without the first one of a tag, and that one. -/
def takeCopy (tag : BitVec 16) (l : List Copy) : Option (Copy × List Copy) :=
  match l with
  | [] => none
  | c :: t => if c.desc.tag = tag then some (c, t) else (takeCopy tag t).map (fun p => (p.1, c :: p.2))

/-- R145: the copy has completed in the frame that ends at or contains `now`. -/
def completedIn (ring : Nat) (tag : BitVec 16) (frame : Nat) (s : State) : Bool :=
  s.copies.ended.any (fun e => decide (e.ring = ring) && decide (e.tag = tag) && decide (e.status = .completed)
    && decide (e.at_ / Config.frameNs = frame))

/-- R145: an abort waits for the arbitration point of its frame; a TAG that names no copy is answered at once. -/
def abortCopyAsk (h : Hdr) (ring : Nat) (tag : BitVec 16) (s : State) : Answer :=
  if 2 < ring then .refuse .badParam 0
  else if (takeCopy tag (s.copies.ring ring)).isSome || completedIn ring tag (s.now / Config.frameNs) s then
    .wait { s with copies.aborts := s.copies.aborts ++ [(h, ring, tag)] }
  else .refuse .badParam 0

/-- R145: the arbitration at the end of `frame`: a completion stamped in it wins; otherwise the copy stops at a 32-byte boundary. One
that had only been queued ends where HEAD stands, and HEAD moves past it (log entry 115). -/
def abortCopyAnswer (ring : Nat) (tag : BitVec 16) (frame : Nat) (s : State) : Answer :=
  if completedIn ring tag frame s then .status .alreadyComplete 0 [] s
  else match takeCopy tag (s.copies.ring ring) with
    | none => .refuse .badParam 0
    | some (c, rest) =>
      let moved := if c.running then Config.bytesMoved s.free else 0
      let s1 := if c.running then closeBulk c.desc .denied (Nat.min (copyBytes c.desc) moved / 32 * 32) (setBusy (ringEngine ring) false s.draw) else s
      .done s.now [] (startCopies (endCopy ring c.desc .denied moved 0 rest s1))

/-- What R398 checks for ABORT of a copy before its own checks (Tables 14-3, 14-6, 16-2). -/
def opAbortCopy (h : Hdr) : Op :=
  { code := 0x52, unit := fun _ _ => if h.unit.toNat = U.hub then none else some (.badAddress, 0), role := rolesEngineer }

/-- R145: ABORT to unit 0x8018. -/
def execAbortCopy (h : Hdr) (ring : BitVec 8) (tag : BitVec 16) (s : State) : Host.Outcome State Fault Refusal :=
  .next (vcp (opAbortCopy h) h
    (fun _ s => abortCopyAsk h ring.toNat tag s) s)

/-- R145: the arbitration point of the copy engines at the end of a card-bus frame. -/
def judgeAborts (frame : Nat) (s : State) : State :=
  forEach s.copies.aborts (fun q a => vcpLate (opAbortCopy q.1) q.1 (fun _ a => abortCopyAnswer q.2.1 q.2.2 frame a) a)
    { s with copies.aborts := [] }

end Sys2Proof.Machine
end

