-- ==== Sys2Proof/Machine/Sessions.lean ====
section
/-! DEFINITION. DTLS associations, sessions, reading and telemetry (Ch. 14): R390 to R397, R406, R408, R412, R415. -/

namespace Sys2Proof.Machine

open Sys2Proof

/-! ### Ends of sessions -/

/-- Table 17-2: a SESSION record at HELLO and at the end of a session. -/
def logSession (e : Session) (s : State) : State :=
  logWords Log.session 72 [clientRoleCode e.role, e.rack, e.identity, e.name] s

/-- R393: the session ends: its subscriptions and its queue go with it, and a download it held is free (R461). -/
def endSession (sid : BitVec 16) (s : State) : State :=
  match s.vcp.sessions.find? (fun e => decide (e.id = sid)) with
  | none => s
  | some e =>
    let s1 := logSession e { s with vcp.sessions := s.vcp.sessions.filter (fun x => decide (x.id ≠ sid)) }
    forEach (upTo 7) (fun k a => a.modUpd k (fun u => if u.owner = sid then { u with owner := 0 } else u)) s1

/-- The sessions of an association end. -/
def endAssocSession (a : Nat) (s : State) : State :=
  forEach ((s.vcp.sessions.filter (fun e => decide (e.assoc = a))).map (·.id)) endSession s

/-- R422: the sessions of the service port end. -/
def endServiceSessions (s : State) : State :=
  forEach ((s.vcp.sessions.filter (fun e => decide (e.port = .service))).map (·.id)) endSession s

/-! ### DTLS (R391, R457) -/

/-- R457: trust anchors are installed. -/
def anchorsIn (s : State) : Bool := decide ((activeBank (s.upd 6)).st ≠ .empty)

/-- The certificate chains to what the module accepts. -/
def certAccepted (s : State) (c : Cert) : Bool := if anchorsIn s then c.anchored else c.akven

/-- R456: the module presents the chain Alias, DeviceID and Akven root in every handshake. -/
def presentChain (assoc : Nat) (s : State) : State :=
  s.emit (.certChain assoc s.fw.aliasCert (Config.deviceId Config.uds) Config.akvenRoot)

/-- R391: a handshake that succeeds opens an association; one that fails opens no session and sets CERT_REJECTED. The module
answers from start-up step 2 on, and the service port only while SERVICE_EN is 1. -/
def execDtlsHandshake (assoc : Nat) (port : Port) (cert : Cert) (ok : Bool) (s : State) : Host.Outcome State Fault Refusal :=
  .next (
    if s.power.step < 2 ∨ (port = .service ∧ !s.bitAt U.sys Off.vcpCtrl 0) ∨ s.vcp.assocs.any (fun a => decide (a.id = assoc)) then s
    else if ok && certAccepted s cert then
      { presentChain assoc s with vcp.assocs := s.vcp.assocs ++ [{ id := assoc, port, cert, keyedAt := s.now }] }
    else (presentChain assoc s).setEvent U.sys Off.vcpEvents 1)

/-- R393: a DTLS alert or closure ends the session of the association. -/
def execDtlsClosure (assoc : Nat) (s : State) : Host.Outcome State Fault Refusal :=
  let s1 := endAssocSession assoc s
  .next { s1 with vcp.assocs := s1.vcp.assocs.filter (fun a => decide (a.id ≠ assoc)) }

/-- R391: the keys of an association are updated after 2²⁴ records or 1 h. -/
def execKeyUpdate (assoc : Nat) (s : State) : Host.Outcome State Fault Refusal :=
  .next { s with vcp.assocs := s.vcp.assocs.map (fun a =>
    if a.id = assoc ∧ (2 ^ 24 ≤ a.records ∨ a.keyedAt + Config.hour ≤ s.now) then
      { a with keyedAt := s.now, keyGen := a.keyGen + 1, records := 0 } else a) }

/-- R396: a datagram that fails DTLS, has a wrong MAGIC or is too short is counted and not answered. -/
def execMalformed (s : State) : Host.Outcome State Fault Refusal := .next (if s.power.step < 2 then s else malformed s)

/-- R393: no packet for SESSION_TIMEOUT: the session ends, and SESSION_TIMEOUT is set. -/
def execSessionTimeout (sid : BitVec 16) (s : State) : Host.Outcome State Fault Refusal :=
  .next (match s.vcp.sessions.find? (fun e => decide (e.id = sid)) with
    | some e =>
      if e.lastPacket + s.fldOf U.sys Off.vcpCtrl 31 16 * Config.sec ≤ s.now then
        (endSession sid s).setEvent U.sys Off.vcpEvents 0
      else s
    | none => s)

/-! ### HELLO (R392, R397) -/

/-- R392: the role a certificate gives, with its rack; none where HELLO is refused. -/
def certRole (s : State) (c : Cert) : Option (ClientRole × Nat) :=
  match c.uris with
  | [.role r] => if r = .rack then none else some (r, 0xFF)
  | [.rack n] => if n < 16 ∧ c.identity ≠ 0 ∧ mget 0 s.plant.rackIdentity n = c.identity then some (.rack, n) else none
  | _ => none

/-- Table 14-2, R457: the roles the port serves, and those accepted while no anchor is installed. -/
def roleServed (s : State) (port : Port) (r : ClientRole) : Bool :=
  (decide (port ≠ .service) || [ClientRole.observer, .operator, .engineer, .vendorService].elem r)
  && (anchorsIn s || [ClientRole.engineer, .vendorService].elem r)

/-- R397: the highest common major, with the lower of the two highest minors. -/
def negotiate (majors minor1 minor2 : Nat) : Option (Nat × Nat) :=
  if majors.testBit 1 then some (2, Nat.min minor2 1) else if majors.testBit 0 then some (1, Nat.min minor1 3) else none

/-- Table 14-4: the capabilities a version includes. -/
def capsOf (major minor : Nat) : BitVec 64 :=
  if major = 2 then (if minor = 0 then 0x7F else 0xFF) else BitVec.ofNat 64 (2 ^ (minor + 1) - 1)

/-- A nonzero ID that is not in use, from a free value on. -/
def freshId (v : BitVec 16) (used : List (BitVec 16)) : BitVec 16 :=
  (((upTo (used.length + 2)).map (fun k => v + BitVec.ofNat 16 k)).find? (fun x => decide (x ≠ 0) && !used.elem x)).getD 1

/-- R393: the session limits of Table 14-2, the session that the association gives up not counted. -/
def sessionsFull (s : State) (a : Assoc) : Bool :=
  let others := s.vcp.sessions.filter (fun e => decide (e.assoc ≠ a.id))
  decide (Config.maxSessions ≤ others.length)
  || (decide (a.port = .service) && decide (Config.maxServiceSessions ≤ (others.filter (fun e => decide (e.port = .service))).length))

def helloOp : Op := { code := 0x01, relief := true, rom := true }

/-- R393: the new session of an association, in place of the one it held, and the reply data of Table 14-5. -/
def openSession (a : Assoc) (role : ClientRole) (rack major minor : Nat) (caps : BitVec 64) (name : Nat) (s : State) :
    State × List Nat :=
  let s1 := endAssocSession a.id s
  let id := freshId (Config.sessionId s1.free) (s1.vcp.sessions.map (·.id))
  let e : Session := { id := id, assoc := a.id, port := a.port, identity := a.cert.identity, name := name, role := role, rack := rack,
                       major := major, minor := minor, caps := caps &&& capsOf major minor, lastPacket := s.now }
  let s2 := logSession e ({ s1 with vcp.sessions := s1.vcp.sessions ++ [e] }).draw
  (s2, [major, minor, id.toNat, e.caps.toNat, s.now, clientRoleCode role, rack, roleCode s.pair.role,
        (if s.pair.slot = .a then 0 else 1), Config.serial.toNat, a.cert.identity])

/-- R271: a session opened within 10 s of the claim gets the outcomes of its identity's inherited requests. -/
def giveHanded (identity assoc : Nat) (s : State) : State :=
  match s.pair.claimedAt with
  | some t =>
    if s.now ≤ t + 10 * Config.sec then
      let ns := ((s.vcp.handed.filter (fun e => decide (e.1 = identity))).map (·.2)).reverse
      { s with vcp.sessions := s.vcp.sessions.map (fun e => if e.assoc = assoc then { e with queue := e.queue ++ ns } else e) }
    else s
  | none => s

/-- The checks of HELLO after its header and its kept reply (R392, R393, R397). -/
def helloJudged (h : Hdr) (a : Assoc) (majors minor1 minor2 : Nat) (caps : BitVec 64) (name : Nat) (s : State) : State :=
  let refuse := fun (st : Status) (s : State) => finish helloOp h a.cert.identity st 0 0 [] s
  if h.opcode ≠ helloOp.code then refuse .badOpcode s
  else if h.unit ≠ 0 then refuse .badAddress s
  else match certRole s a.cert with
    | none => refuse .denied (s.setEvent U.sys Off.vcpEvents 1)
    | some (role, rack) =>
      if !roleServed s a.port role then refuse .denied s
      else match negotiate majors minor1 minor2 with
        | none => refuse .version s
        | some (major, minor) =>
          if sessionsFull s a then refuse .busy s
          else if deadlineMissed h s.now s.now then refuse .deadlineUnmeetable s
          else
            let r := openSession a role rack major minor caps name s
            finish helloOp h a.cert.identity .ok 0 s.now r.2 (giveHanded a.cert.identity a.id r.1)

/-- R393, R397: HELLO opens a session. -/
def execHello (h : Hdr) (majors minor1 minor2 : BitVec 8) (caps : BitVec 64) (name : Nat) (s : State) : Host.Outcome State Fault Refusal :=
  .next (match assocOf s h with
    | none => malformed s
    | some a =>
      if silentTo helloOp a s then s
      else
      let s := countRecords h.assoc s
      if !h.lengthOk || !h.reservedZero || decide (h.session ≠ 0) || decide (3 < majors.toNat) || decide (0xFF < caps.toNat) then
        finish helloOp h a.cert.identity .badParam 0 0 [] s
      else match keptOf s a.cert.identity h.sequence with
        | some k => sendReply h k.status 0xFFFF k.committed [] s
        | none =>
          if seqStale s a.cert.identity h.sequence then
            sendReply h .badParam 0 0 [] (s.setEvent U.sys Off.vcpEvents 4)
          else helloJudged h a majors.toNat minor1.toNat minor2.toNat caps name s)

/-- What R398 checks for BYE before its own checks (Tables 14-3, 14-6, 16-2). -/
def opBye (h : Hdr) : Op :=
  { code := 0x02, relief := true, unit := fun _ _ => noUnit h.unit.toNat }

/-- R415: BYE ends the session after its reply. -/
def execBye (h : Hdr) (s : State) : Host.Outcome State Fault Refusal :=
  .next (vcp (opBye h) h (fun e s => .done s.now [] (endSession e.id s)) s)

/-! ### Reading (R406, R408) -/

/-- R422, R222, R335, R365, R485, R505: the register a read of another latches. -/
def latchOf (s : State) (u off : Nat) : List (Nat × Word) :=
  let hi := fun (n : Nat) => wd (n / 2 ^ 32)
  match unitClass u with
  | 0 => if off = Off.sysTimeLo then [(Off.sysTimeHi, hi s.now)]
         else if off = Off.hallCountLo then [(Off.hallCountHi, hi (hallCount s))] else []
  | 8 => if off = Off.trvLegLo then [(Off.trvLegHi, hi s.seqr.leg)]
         else if off = Off.trvCkptLo then [(Off.trvCkptHi, hi (ckptLeg64 s))]
         else if off = Off.trvMirrorLo then [(Off.trvMirrorHi, hi (imageOr s (·.mirrorId)))] else []
  | 11 => if off = Off.logOldest then [(Off.logNewest, logNewest s), (Off.logOldestPos, logOldestPos s)] else []
  | 13 => if u = U.bmu 0 ∧ off = Off.bmuRxLo then [(Off.bmuRxHi, hi s.mirror.rxAt)] else []
  | 14 => if off = Off.auxCaptureLo then [(Off.auxCaptureHi, hi (s.aux (unitInst u)).capture)] else []
  | _ => []

/-- What a read changes: a read of an RC register clears it for every session (R7), of PWR_XRESET its COUNT (R448); LO latches
HI; a read of AUX_CAPTURE_LO takes the capture (R335). -/
def afterRead (u off : Nat) (s : State) : State :=
  let s1 := (latchOf s u off).foldl (fun a e => a.setReg u e.1 e.2) s
  let s2 := match findReg u off with
    | some r =>
      if r.acc = .rc then
        (if u = U.sys ∧ off = Off.pwrXreset then s1.setReg u off (putFld (s1.reg u off) 15 0 0) else s1.setReg u off 0)
      else s1
    | none => s1
  if unitClass u = 14 ∧ off = Off.auxCaptureLo then s2.modAux (unitInst u) (fun a => { a with captureUnread := false }) else s2

/-- R406: the registers of a unit at the offsets given, in order, as one snapshot. -/
def readAll (grp sel : Word) (l : List (Nat × Nat)) (s : State) : List Nat × State :=
  l.foldl (fun a e => (a.1 ++ [(regRead a.2 grp sel e.1 e.2).toNat], afterRead e.1 e.2 a.2)) ([], s)

/-- The registers of a range. -/
def rangeOf (u off count : Nat) : List (Nat × Nat) := (upTo count).map (fun i => (u, off + 4 * i))

/-- R420: the index of the first offset of a range that is not a register. -/
def notRegister (u off count : Nat) : Option Nat := (upTo count).find? (fun i => (findReg u (off + 4 * i)).isNone)

/-- R420, R397: the unit a request on registers addresses, then its offsets, the first `count` of them. -/
def unitWithRegs (u off count : Nat) (s : State) (e : Session) : Option (Status × Nat) :=
  if unitClass u = 13 ∧ !hasCap e 0 then some (.badAddress, 0)
  else match unitOfClass u (upTo 15) s with
    | some r => some r
    | none => (notRegister u off count).map (fun i => (.badAddress, i))

/-- What R398 checks for READ before its own checks (Tables 14-3, 14-6, 16-2). -/
def opRead (h : Hdr) (off count : BitVec 16) : Op :=
  { code := 0x10, kept := false, relief := true, unit := unitWithRegs h.unit.toNat off.toNat (Nat.min 64 count.toNat), role := fun _ e => mayRead e h.unit.toNat }

/-- R406: READ. -/
def readAnswer (u off count : Nat) (e : Session) (s : State) : Answer :=
  if count < 1 ∨ 64 < count then .refuse .badParam 0
  else
    let r := readAll e.grpSel e.clSel (rangeOf u off count) s
    .done s.now r.1 r.2

def execRead (h : Hdr) (off count : BitVec 16) (s : State) : Host.Outcome State Fault Refusal :=
  .next (vcp (opRead h off count) h
    (readAnswer h.unit.toNat off.toNat count.toNat) s)

/-- R408: one entry, judged as a READ of one register. -/
def entryRefusal (s : State) (e : Session) (u off : Nat) : Option Status :=
  match unitWithRegs u off 1 s e with
  | some (st, _) => some st
  | none => if !mayRead e u then some .denied else none

/-- What R398 checks for READ_MULTI before its own checks (Tables 14-3, 14-6, 16-2). -/
def opReadMulti (h : Hdr) : Op :=
  { code := 0x13, kept := false, relief := true, cap := some 4, unit := fun _ _ => noUnit h.unit.toNat }

/-- R408: READ_MULTI: the first failing entry gives the status, or all values form one snapshot. -/
def readMultiAnswer (l : List (Nat × Nat)) (e : Session) (s : State) : Answer :=
  if l.length < 1 ∨ 64 < l.length then .refuse .badParam 0
  else match findIdxOpt (fun x => (entryRefusal s e x.1 x.2).isSome) l with
    | some i =>
      let x := l.getD i (0, 0)
      .refuse ((entryRefusal s e x.1 x.2).getD .badParam) i
    | none =>
      let r := readAll e.grpSel e.clSel l s
      .done s.now r.1 r.2

def execReadMulti (h : Hdr) (entries : List (BitVec 16 × BitVec 16)) (s : State) : Host.Outcome State Fault Refusal :=
  .next (vcp (opReadMulti h) h
    (readMultiAnswer (entries.map (fun x => (x.1.toNat, x.2.toNat)))) s)

/-! ### Subscriptions (R412) -/

/-- The telemetry load of the module [values/s]. -/
def telemetryLoad (s : State) : Rat :=
  s.vcp.sessions.foldl (fun a e => e.subs.foldl (fun a b => if b.telemetry then a + mkRat (b.count * 1000) b.period else a) a) 0

/-- R397: a PERIOD of 10 to 99 ms needs TELEMETRY_FAST. -/
def periodOk (e : Session) (count period : Nat) : Bool :=
  if count = 0 then decide (period = 0) else decide ((if hasCap e 7 then 10 else 100) ≤ period)

/-- What R412 refuses. -/
def subRefusal (s : State) (e : Session) (u off count period kind : Nat) : Option (Status × Nat) :=
  if kind < 1 ∨ 3 < kind ∨ 64 < count ∨ (count = 0 ∧ kind.testBit 0) ∨ !periodOk e count period then some (.badParam, 0)
  else if (upTo count).any (fun i => match findReg u (off + 4 * i) with | some r => decide (r.acc = .rc) | none => false) then
    some (.badParam, 0)
  else if Config.maxSubsSession ≤ e.subs.length
      ∨ Config.maxSubs ≤ s.vcp.sessions.foldl (fun a e => a + e.subs.length) 0
      ∨ (kind.testBit 0 ∧ (Config.maxTelemetry : Rat) < telemetryLoad s + mkRat (count * 1000) period) then some (.busy, 0)
  else none

def subscribeAnswer (u off count period kind : Nat) (e : Session) (s : State) : Answer :=
  match subRefusal s e u off count period kind with
  | some (st, d) => .refuse st d
  | none =>
    let id := freshId (Config.subId s.free) (e.subs.map (·.id))
    let b : Sub := { id := id, unit := u, off := off, count := count, period := period, telemetry := kind.testBit 0, events := kind.testBit 1 }
    let add : Session → Session := fun x => if x.id = e.id then { x with subs := x.subs ++ [b] } else x
    let s1 : State := { s with vcp.sessions := s.vcp.sessions.map add }
    .done s.now [id.toNat] s1.draw

/-- What R398 checks for SUBSCRIBE before its own checks (Tables 14-3, 14-6, 16-2). -/
def opSubscribe (h : Hdr) (off count : BitVec 16) : Op :=
  { code := 0x20, relief := true, unit := unitWithRegs h.unit.toNat off.toNat (Nat.min 64 count.toNat), role := fun _ e => mayRead e h.unit.toNat }

/-- R412: SUBSCRIBE. -/
def execSubscribe (h : Hdr) (off count period : BitVec 16) (kind : BitVec 8) (s : State) : Host.Outcome State Fault Refusal :=
  .next (vcp (opSubscribe h off count) h
    (subscribeAnswer h.unit.toNat off.toNat count.toNat period.toNat kind.toNat) s)

/-- What R398 checks for UNSUBSCRIBE before its own checks (Tables 14-3, 14-6, 16-2). -/
def opUnsubscribe (h : Hdr) : Op :=
  { code := 0x21, relief := true, unit := fun _ _ => noUnit h.unit.toNat }

/-- UNSUBSCRIBE ends the subscription its session names; any other SUB_ID is refused. -/
def execUnsubscribe (h : Hdr) (subId : BitVec 16) (s : State) : Host.Outcome State Fault Refusal :=
  .next (vcp (opUnsubscribe h) h (fun e s =>
    if e.subs.any (fun b => decide (b.id = subId)) then
      let drop : Session → Session := fun x => if x.id = e.id then { x with subs := x.subs.filter (fun b => decide (b.id ≠ subId)) } else x
      .done s.now [] { s with vcp.sessions := s.vcp.sessions.map drop }
    else .refuse .badParam 0) s)

/-- R412: the subscription is sampled in the frame in progress, which starts on its PERIOD. -/
def sampleDue (s : State) (b : Sub) : Bool :=
  b.telemetry && decide (frameStart s % (b.period * Config.ms) = 0) && decide (b.sampledAt ≠ some (frameStart s))

/-- R412: one sample leaves. -/
def sampleOne (e : Session) (b : Sub) (s : State) : State :=
  if sampleDue s b then
    let r := readAll e.grpSel e.clSel (rangeOf b.unit b.off b.count) s
    let s1 : State := r.2.emit (.telemetry e.id b.id (frameStart s) s.seqr.leg r.1)
    let mark : Sub → Sub := fun c => if c.id = b.id then { c with sampledAt := some (frameStart s) } else c
    let take : Session → Session := fun x => if x.id = e.id then { x with subs := x.subs.map mark } else x
    { s1 with vcp.sessions := s1.vcp.sessions.map take }
  else s

/-- R412: every due sample of every session. -/
def execTelemetrySample (s : State) : Host.Outcome State Fault Refusal :=
  .next (forEach s.vcp.sessions (fun e a => forEach e.subs (sampleOne e) a) s)

end Sys2Proof.Machine
end

