-- ==== Sys2Proof/Machine/RegOps.lean ====
section
/-! DEFINITION. Shared operations of register writes (R407, R422): storing a value with what its change brings about, on the
module that accepted the write and on the Relief that mirrors it (R267), and the conditions on values that several registers share. -/

namespace Sys2Proof.Machine

open Sys2Proof

/-! ### What a stored change brings about -/

/-- A bit that a write changes, from 0 to 1 or from 1 to 0. -/
def rises (old new : Word) (n : Nat) : Bool := !bitOf old n && bitOf new n
def falls (old new : Word) (n : Nat) : Bool := bitOf old n && !bitOf new n

/-- R12: the pump set follows MOT_IO: a pump that gains its path becomes the reserve where there is none, else idle; one that
loses it leaves the set. -/
def followPaths (before : Nat → Bool) (s : State) : State :=
  forEach pumps8 (fun p a =>
    if pumpPath a p ∧ !before p ∧ (a.pump p).use = .none ∧ !(a.pump p).tripped then
      setUse p (if (reservePump a).isSome then .idle else .reserve) a
    else if before p ∧ !pumpPath a p then a.modPump p (fun k => { k with use := .none, leaving := none, starting := false })
    else a) s

/-- R372: a channel whose ENABLE falls leaves the bus. -/
def leaveBus (c : Nat) (s : State) : State :=
  s.modBus c (fun b => { b with
    st := .offline, recovering := false, tec := 0, rec_ := 0, offSince := some s.now, onBus := none, pend := 0, cancelled := 0 })

/-- R208: a requested placement change waits for the slot of the next checkpoint leg. -/
def askPlacement (s : State) : State := { s with seqr.placement := some s.seqr.leg }

/-- R330: a change of FUNC starts the guard sequence at t_w; an old output is disabled, and the pin pulled down. -/
def startSwitch (p : Nat) (v : Word) (s : State) : State :=
  let s1 := s.modAux p (fun a => { a with switching := some (s.now, fld v 3 0, bitOf v 4) })
  if (s.aux p).func = 2 ∧ (s.aux p).outLevel then s1.emit (.pin (fin16 p) false) else s1

/-- R331: a change of OUT_LEVEL alone under GPIO_OUT is at the pin at once. -/
def driveAux (p : Nat) (level : Bool) (s : State) : State :=
  (s.modAux p (fun a => { a with outLevel := level, level := level })).emit (.pin (fin16 p) level)

/-- R330, R331: AUX_CFG. -/
def auxEffect (p : Nat) (v : Word) (s : State) : State :=
  let a := s.aux p
  if fld v 3 0 ≠ a.func then startSwitch p v s
  else if a.func = 2 then (if bitOf v 4 = a.outLevel then s else driveAux p (bitOf v 4) s)
  else s.modAux p (fun a => { a with outLevel := bitOf v 4 })

/-- R208, R251: INT_CTRL: a change of DUAL waits for a placement change, and the program's periods count from its start. -/
def intEffect (old new : Word) (s : State) : State :=
  let s1 := if bitOf old 0 = bitOf new 0 then s else askPlacement s
  if rises old new 2 then { s1 with integ.since := s.now } else s1

/-- What the change of a configuration register brings about besides its value, `s` holding the new one already. -/
def configEffect (u off : Nat) (old new : Word) (before : Nat → Bool) (s : State) : State :=
  let i := unitInst u
  match unitClass u with
  | 0 => if off = Off.vcpCtrl ∧ falls old new 0 then endServiceSessions s else s
  | 2 => if off = Off.motIo then followPaths before s else s
  | 5 =>
    if off ≠ Off.blCtrl then s
    else if rises old new 0 then joinBus i s
    else if falls old new 0 then leaveBus i s else s
  | 8 => if u = U.hub ∧ off = Off.intCtrl then intEffect old new s else s
  | 14 => if off = Off.auxCfg then auxEffect i new s else s
  | _ => s

/-- R313: the configuration of a channel of an ACTIVE card is written to the card. -/
def sendConfig (u : Nat) (s : State) : State :=
  match slotOfUnit u with
  | some k => if (s.card k).st = .active then askService { card := k, use := .channel u, deck := true } s else s
  | none => s

/-- Store a configuration register with what its change brings about. -/
def storeConfig (u off : Nat) (v : Word) (s : State) : State :=
  sendConfig u <| configEffect u off (s.reg u off) v (pumpPath s) (s.setReg u off v)

/-- Table 9-8: the Keeper mirrors an accepted configuration write before it stores it. -/
def writeConfig (u off : Nat) (v : Word) (s : State) : State :=
  storeConfig u off v (toPartner (.register (BitVec.ofNat 16 u) (BitVec.ofNat 16 off) v) s)

/-! ### Conditions on values -/

/-- A field lies in [lo, hi]. -/
def between (lo hi x : Nat) : Bool := decide (lo ≤ x) && decide (x ≤ hi)

/-- R38: the configured channels, `pk`, `hd` and `role` as the write would leave them. -/
def fieldFits (pk hd role : Nat → Nat) (budget : Nat) : Bool :=
  let on := valves96.filter (fun c => decide (role c ≠ 0))
  decide (on.foldl (fun a c => a + hd c) 0 + on.foldl (fun a c => Nat.max a (pk c)) 0 ≤ budget)

/-- `f` with the value `v` at `c`. -/
def withAt (f : Nat → Nat) (c v : Nat) (d : Nat) : Nat := if d = c then v else f d

/-- R288: a time of Tables 10-7 in 10 µs units is no longer than PEAK_MS. -/
def inPeak (t peakMs : Nat) : Bool := decide (t ≤ peakMs * 100)

/-- R369: the cycles of one bit, and the rate it gives within bounds [bit/s]. -/
def bitCycles (brp t1 t2 : Nat) : Nat := brp * (1 + t1 + t2)

/-- R369 to R371 for the timing registers of one channel, as a write would leave them. -/
def timingOk (nbt dbt tdc : Word) : Bool :=
  let nb := fld nbt 31 25
  let n1 := fld nbt 24 17
  let n2 := fld nbt 16 9
  let nj := fld nbt 8 1
  let db := fld dbt 21 16
  let d1 := fld dbt 15 10
  let d2 := fld dbt 9 5
  let dj := fld dbt 4 0
  let nc := bitCycles nb n1 n2
  let dc := bitCycles db d1 d2
  between 1 64 nb && between 2 255 n1 && between 1 128 n2 && between 1 128 nj
    && between 1 32 db && between 1 32 d1 && between 1 16 d2 && between 1 16 dj
    -- 10 kbit/s to 1 Mbit/s; the nominal rate to 8 Mbit/s
    && between 40 4000 nc && between 5 nc dc
    && decide (nj ≤ n2) && decide (dj ≤ d2) && decide (8 ≤ 1 + n1 + n2) && decide (5 ≤ 1 + d1 + d2)
    -- R370: up to 125 kbit/s
    && (!bitOf nbt 0 || (decide (320 ≤ nc) && decide (3 ≤ n1)))
    -- R371: above 1 Mbit/s
    && (!bitOf tdc 15 || decide (db ≤ 2)) && (decide (40 ≤ dc) || bitOf tdc 15)

/-- R122: the segments of two racks on one cable overlap (they may touch). -/
def segmentsOverlap (a b : Word) : Bool :=
  decide (fld a 31 24 = fld b 31 24) && decide (fld a 31 24 ≠ 0xFF)
    && decide (fld a 11 0 < fld b 23 12) && decide (fld b 11 0 < fld a 23 12)

/-! ### The site's configuration (R12, R14, R18, R19, R508; log entry 103) -/

/-- R14: the sectors as lists of racks: one to eight, every rack in exactly one, each with its pair of header valves. -/
def sectorsOk (s : State) (l : List (BitVec 16)) : Bool :=
  decide (1 ≤ l.length) && decide (l.length ≤ 8)
  && (upTo 16).all (fun r => decide ((l.filter (fun m => inSet m r)).length = 1))
  && (upTo l.length).all (fun k => (headerRoles k).all (fun q => valves96.any (fun c => decide (vlvRole s c = q.1) && decide (vlvIndex s c = q.2))))

/-- R12, R14: a configuration the module refuses. -/
def siteOk (s : State) (i : SiteItem) : Bool :=
  match i with
  | .vfdPumps set => pumps8.all (fun p => !set.getLsbD p || motors48.all (fun c => decide (pumpOfMotor s c ≠ some p)))
  | .sectors l => sectorsOk s l
  | _ => true

/-- A pump put on a VFD gets its path, one taken off it loses it (R12). -/
def setVfd (set : BitVec 8) (s : State) : State :=
  forEach pumps8 (fun p a =>
    let on := set.getLsbD p
    if on = (a.pump p).vfd then a
    else
      let a1 := a.modPump p (fun k => { k with vfd := on, vfdTrip := false, vfdStatusAt := none })
      if on then setUse p (if (reservePump a).isSome then .idle else .reserve) a1 else setUse p .none a1) s

/-- The configuration comes into force. -/
def writeSite (i : SiteItem) (s : State) : State :=
  match i with
  | .vfdPumps set => setVfd set s
  | .sectors l => { s with plant := { s.plant with
      sectors := l.length,
      sectorOf := (upTo 16).map (fun r => (r, ((upTo l.length).find? (fun k => inSet (l.getD k 0) r)).getD 0)) } }
  | .processValue j x => { s with plant.pvInputs := s.plant.pvInputs.set j.val x }
  | .rackIdentity r id => { s with plant.rackIdentity := mset 0 s.plant.rackIdentity r.val id }
  | .channelFive n on => { s with plant.channelFive :=
      if on then s.plant.channelFive ||| BitVec.ofNat 17 (2 ^ n.val) else s.plant.channelFive &&& ~~~ BitVec.ofNat 17 (2 ^ n.val) }

end Sys2Proof.Machine
end

