-- ==== Sys2Proof/Machine/Traverse.lean ====
section
/-! DEFINITION. Commands and events of the traverse sequencer (Ch. 7): loading, starting and stopping, leg boundaries, the
closing of checks and restores. -/

namespace Sys2Proof.Machine

open Sys2Proof

/-! ### The pair ID (R266) -/

/-- R266: the closure digest of Preman's and Deck's mirror-compatible IDs and of the loaded traverse's MIRROR_ID. -/
def pairId (s : State) : Nat :=
  byteDigest (leBytes 8 s.pair.premanCompat ++ leBytes 8 s.pair.deckCompat ++ leBytes 8 (imageOr s (·.mirrorId)))

/-- R266, Table 9-12: the pair IDs are compared. A mirroring Relief whose ID differs is cold; a cold one whose ID has become equal resyncs. -/
def comparePairIds (s : State) : State :=
  let eq := decide (s.pair.partnerId = some (pairId s))
  let role : Role := if s.pair.role = .reliefMirror ∧ s.pair.partnerId.isSome ∧ !eq then .reliefCold
    else if s.pair.role = .reliefCold ∧ eq ∧ !s.pair.idMatch then .reliefResync else s.pair.role
  { s with pair := { s.pair with idMatch := eq, role := role, resync := if role = s.pair.role then s.pair.resync else if eq then .handshake else .idle } }

/-! ### What an image has to meet (R188, R193, R195, R196, R202, R134, R149, R160, R177, R182) -/

/-- R188, Table 7-2. -/
def legLengthOk (clock cycles : Nat) : Bool :=
  let f := frameCycles clock
  decide (cycles % f = 0) && decide (5 * f ≤ cycles) && decide (cycles ≤ 200 * f)

/-- Sections have a type of Table 7-5, start at multiples of 64, end inside the image, and do not overlap. -/
def sectionsOk (len : Nat) (l : List ImageSection) : Bool :=
  match l with
  | [] => true
  | a :: t => decide (1 ≤ a.type) && decide (a.type ≤ 0x0C) && decide (a.off % 64 = 0) && decide (a.off + a.len ≤ len)
      && t.all (fun b => !(decide (a.off < b.off + b.len) && decide (b.off < a.off + a.len))) && sectionsOk len t

/-- R177: the arithmetic record of a tensor. -/
def tensorOk (t : TensorRec) : Bool :=
  decide (-320 ≤ t.floor) && decide (t.floor ≤ 255) && (outFmtOf t.format).isSome && t.reservedZero && decide (t.partialsMax ≠ 0)
  && decide (t.partialsMax < 2 ^ 32) && !t.spans

/-- The dies of a bit set, in rising order. -/
def diesIn (n m : Nat) : List Nat := (upTo n).filter (fun i => m.testBit i)

/-- Table 7-9: KIND by the index. -/
def variantKind (v : Nat) : Nat := if v = 0x400 then 4 else v / 0x100

/-- R206, Table 7-9: an entry an image of MODULES modules may hold: its index is that of its kind, module and retired dies. -/
def variantOk (modules : Nat) (v : VariantEntry) : Bool :=
  let one := decide (v.kind = 1)
  decide (v.kind = variantKind v.index) && (decide (modules = 1) || decide (v.kind ≤ 1))
    && (if one then decide (v.module_ = (v.index - 0x100) / 16) && decide (v.module_ < modules) else decide (v.module_ = 0xFF))
    && decide (variantIndex modules v.module_ (decide (v.kind = 4)) (diesIn 16 v.retiredC.toNat) (diesIn 8 v.retiredS.toNat) = some v.index)

/-- R213: a hall link entry. -/
def hallLinkOk (modules : Nat) (h : HallLink) : Bool :=
  decide (h.ordA < modules) && decide (h.ordB < modules) && decide (h.linkA < 32) && decide (h.linkB < 32)

/-- R193: in every program the test slots that name a logical die together last long enough. -/
def slotsLongEnough (i : Image) (p : LegProgram) : Bool :=
  (upTo 16).all (fun l => decide (ceilDiv (i.permille * i.legCycles) 1000 ≤ (p.slots.filter (fun e => e.dies.getLsbD l)).foldl (fun a e => a + e.cycles) 0))

/-- Tables 5-8, 7-6: the fields of a leg program and of its streams lie in their ranges. -/
def programOk (i : Image) (p : LegProgram) : Bool :=
  decide (p.program < i.nPrograms) && decide (p.fanDuty ≤ 100) && p.reservedZero && holdsVariant i p.variant
    && p.streams.all (fun d => decide (1 ≤ d.format) && decide (d.format ≤ 7) && decide (1 ≤ d.elemLen) && decide (d.elemLen ≤ 4194304)
        && (decide (d.format ≠ 7) || decide (d.scaleBase = 0)))
    && slotsLongEnough i p

/-- R197: every variant has each of its programs. -/
def programsWhole (i : Image) : Bool :=
  i.variants.all (fun v => (upTo i.nPrograms).all (fun n => (programOf i v.index n).isSome))

/-- R217 item 2: the TYPE of the first section that fails a check (0: the header and the directory), by Table 7-5. -/
def imageFault (s : State) (i : Image) : Option Nat :=
  if i.magic ≠ 0x52545856 ∨ i.fmtMajor ≠ 1 ∨ 4294967296 < i.len ∨ 2 < i.clock ∨ i.modules = 0 ∨ 16 < i.modules ∨ 100 < i.permille
      ∨ (s.bitAt U.hub Off.intCtrl 2 ∧ i.permille < 5) ∨ !legLengthOk i.clock i.legCycles ∨ i.nPrograms = 0 ∨ 256 < i.nPrograms
      ∨ !i.reservedZero ∨ !i.toolSupported
      ∨ i.nSections ≠ i.sections.length ∨ !sectionsOk i.len i.sections then some 0x00
  else if !holdsVariant i 0 ∨ !i.variants.all (variantOk i.modules) ∨ (if i.modules = 1 then 146 else 257) < i.variants.length
      ∨ i.nVariants ≠ i.variants.length ∨ i.vectorDiffers then some 0x01
  else if i.phases = [] ∨ 65536 < i.phases.length ∨ i.period ≠ i.phases.length ∨ i.phases.any (fun p => decide (i.nPrograms ≤ p)) then some 0x02
  else if !i.programs.all (programOk i) ∨ !programsWhole i ∨ 524288 < i.weightBufferMax
      ∨ 1048576 < i.seqLens.1 ∨ 65536 < i.seqLens.2.1 ∨ 1048576 < i.seqLens.2.2 ∨ i.mixesBf16 then some 0x03
  else if !i.overlaysFit then some 0x04
  else if 64 < i.rings.length then some 0x07
  else if i.pathShare.any (fun e => decide (1000 < e.2) || decide (e.1 = 0) || decide (5 < e.1)) then some 0x08
  else if (i.modules = 1 ∧ i.hall ≠ []) ∨ i.hall.any (fun h => !hallLinkOk i.modules h) then some 0x09
  else if i.tensors.any (fun t => !tensorOk t) then some 0x0C
  else none

/-! ### Loading (R217) -/

/-- R217. -/
def loadAnswer (bank : Nat) (o : Origin) (s : State) : Answer :=
  if 1 < bank then .refuse .badParam 0
  else if !(decide (s.seqr.st = .empty) || decide (s.seqr.st = .loaded) || decide (s.seqr.st = .faulted)) then .refuse .busy 0
  else if !bankVerified (traverseBank s bank) then .refuse .updateState 0
  else .accept (loadEnd s bank) U.hub 0 (startLoad bank (some o))

/-- What R398 checks for TRAVERSE_LOAD before its own checks (Tables 14-3, 14-6, 16-2). -/
def opTraverseLoad (h : Hdr) : Op :=
  { code := 0x90, unit := fun _ _ => noUnit h.unit.toNat, role := rolesEngineer, deck := true }

/-- R217: TRAVERSE_LOAD. -/
def execTraverseLoad (h : Hdr) (bank : BitVec 8) (s : State) : Host.Outcome State Fault Refusal :=
  .next (vcp (opTraverseLoad h) h
    (fun e s => loadAnswer bank.toNat (originOf h e) s) s)

/-- The loaded image replaces the one before it; the legs of the traverse count from its start again. -/
def loaded (img : Image) (s : State) : State :=
  let s1 : State := { s with seqr := { s.seqr with
    st := .loaded, image := some img, loading := none, loadOrigin := none, leg := 0, anyLeg := false, phase := 0, legs := [],
    cleanRun := 0, cleanFrom := 0, variant := 0, rotFrom := 0, routeSet := 0, hallFault := false, hallStop := none, hallRestore := none, hallRoute := none } }
  comparePairIds ((setDies false s1).setEvent U.hub Off.trvEvents 0)

/-- A load check has failed: EMPTY, LOAD_FAIL, and NOTIFY with the failing section. -/
def loadFailed (section_ : Nat) (s : State) : State :=
  eventWith .badParam section_ (some section_) U.hub Off.trvEvents 1
    (comparePairIds { s with seqr := { s.seqr with st := .empty, image := none, loading := none, loadOrigin := none, legs := [] } })

/-- R218: when the first leg of a start accepted now runs. -/
def firstLegAt (s : State) (startAt : Nat) : Time :=
  ceilFrame (Nat.max startAt (s.now + (if 1 < imageOr s (·.modules) then 100 * Config.ms else 10 * Config.ms)))

/-- The sequencer enters STARTING. -/
def startTraverse (src startAt : Nat) (o : Option Origin) (s : State) : State :=
  { s with seqr := { s.seqr with st := .starting, starting := some (firstLegAt s startAt, src, o) } }

/-- R220: at start-up a Keeper starts a single-module image by itself once it is loaded; `auto` says that the load was its own.
Table 16-7: the load of an activation starts with FROM = 1 where MIRROR_ID is unchanged. -/
def afterLoad (auto : Bool) (oldId : Option Nat) (s : State) : State :=
  let s1 := endLoadUpdate s
  if auto && isKeeper s && (decide (imageOr s (·.modules) = 1) || (s.upd 2).activating.isSome) then
    startTraverse (if (s.upd 2).activating.isSome && decide (oldId = some (imageOr s (·.mirrorId))) then 1 else 0) 0 none s1
  else if auto && isRelief s then { s1 with pair := { s1.pair with role := .reliefResync, resync := .handshake } }
  else s1

/-- R217: the load ends. -/
def execLoadDone (img : Image) (manifestOk : Bool) (s : State) : Host.Outcome State Fault Refusal :=
  if s.seqr.st = .loading then
    let o := s.seqr.loadOrigin
    let bad := if !manifestOk then some 0 else imageFault s img
    .next (match bad with
      | some k =>
        let s1 := endLoadUpdate (loadFailed k s)
        match o with | some o => endRequest o .badParam s1 | none => s1
      | none =>
        let s1 := afterLoad o.isNone (s.seqr.image.map (·.mirrorId)) (loaded img s)
        match o with | some o => endRequest o .completed s1 | none => s1)
  else .next s

/-! ### Starting (R213, R218) -/

/-- R351: the module stands in a hall of pairs: a partner link is up. -/
def lowestPartner (s : State) : Option Nat := (upTo 4).find? (partnerUp s)

/-- R213, R351: the latency compared with LAT_CYCLES. -/
def comparedLatency (s : State) (l : Nat) : Nat :=
  match lowestPartner s with
  | some j => trained s l + trained s j + 40
  | none => trained s l

/-- This module's end of the image's hall links: link, LAT_CYCLES, route sets, and the peer's ordinal and link. -/
structure HallEnd where
  link : Nat
  lat : Nat
  sets : BitVec 4
  peerOrd : Nat
  peerLink : Nat
deriving DecidableEq, Repr

def ownHallLinks (s : State) (i : Image) : List HallEnd :=
  let ord := s.fldOf U.sys Off.hallCfg 3 0
  i.hall.filterMap (fun h => if h.ordA = ord then some ⟨h.linkA, h.lat, h.routeSets, h.ordB, h.linkB⟩
    else if h.ordB = ord then some ⟨h.linkB, h.lat, h.routeSets, h.ordA, h.linkA⟩ else none)

/-- R349, R350: the link is UP and its peer is the one the HALL entry names. -/
def hallLinkUp (s : State) (e : HallEnd) : Bool :=
  let k := s.link e.link
  decide (k.st = .up) && !k.mismatch && decide (k.peerOrd = e.peerOrd) && decide (k.peerLink = e.peerLink)

/-- R213, R351: why the hall links of this module refuse the start. -/
def hallRefusal (s : State) (i : Image) : Option Status :=
  if i.modules ≤ 1 then none
  else
    let l := ownHallLinks s i
    if s.bitAt U.sys Off.hallCfg 8 ∧ 4 < i.forwardedMax then some .badParam
    else if l.any (fun e => e.sets.getLsbD 0 && !hallLinkUp s e) then some .notPresent
    else if l.any (fun e => hallLinkUp s e && decide (e.lat < comparedLatency s e.link)) then some .faulted
    else none

/-- R218; R350: whether the module's PAIRS differs from that of ordinal 0 is a free value. -/
def startAnswer (src startAt : Nat) (o : Origin) (s : State) : Answer :=
  if 1 < src then .refuse .badParam 0
  else if !(decide (s.seqr.st = .loaded) || decide (s.seqr.st = .faulted)) then .refuse .busy 0
  else match s.seqr.image with
  | none => .refuse .busy 0
  | some i =>
    if src = 1 ∧ (lastCkpt s).isNone then .refuse .notPresent 0
    else if s.seqr.st = .faulted ∧ (variantFor (applyDies true s) i).isNone then .refuse .faulted 0
    else if 1 < i.modules ∧ s.fldOf U.sys Off.hallCfg 3 0 ≠ 0 ∧ Config.pairsDiffer s.free then
      .status .faulted 0 [] (s.draw.setEvent U.sys Off.hallEvents 4)
    else match hallRefusal s i with
    | some st => .refuse st 0
    | none => .accept (firstLegAt s startAt) U.hub 0 (fun a => startTraverse src startAt (some o) a.draw)

/-- What R398 checks for TRAVERSE_START before its own checks (Tables 14-3, 14-6, 16-2). -/
def opTraverseStart (h : Hdr) : Op :=
  { code := 0x91, unit := fun _ _ => noUnit h.unit.toNat, role := rolesEngineer, deck := true }

/-- R218: TRAVERSE_START. -/
def execTraverseStart (h : Hdr) (src : BitVec 8) (startAt : BitVec 64) (s : State) : Host.Outcome State Fault Refusal :=
  .next (vcp (opTraverseStart h) h
    (fun e s => startAnswer src.toNat startAt.toNat (originOf h e) s) s)

/-- R213: a trained latency below LAT_CYCLES is padded. -/
def padLinks (i : Image) (s : State) : State :=
  forEach (ownHallLinks s i) (fun e a => a.modLink e.link (fun k => { k with pad := e.lat - trained a e.link })) s

/-- R204, R205: the DIGEST of the last valid checkpoint is recomputed, `digests` being what slots A and B then give. One that does not
match is INVALID, with CKPT_BAD, and the other slot is used if it is CLOSED. -/
def soundCkpt (fuel : Nat) (digests : Nat × Nat) (s : State) : Option Ckpt × State :=
  match fuel with
  | 0 => (none, s)
  | n + 1 =>
    match lastCkpt s with
    | none => (none, s)
    | some c =>
      let got := if s.seqr.slotA = c then digests.1 else digests.2
      if got = c.digest then (some c, s)
      else soundCkpt n digests ((markCkpt (fun k => decide (k = c)) 3 s).setEvent U.hub Off.trvEvents 8)

/-- R218, R198, R201: the first leg runs. With FROM = 0 the number is 0, or one above the last leg while the image stays loaded
(Table 7-16); with FROM = 1 the checkpoint's phase is taken, and the leg is one above the last leg started. -/
def firstLeg (start : Time) (src : Option Ckpt) (i : Image) (out : EngineOut) (w : LegWork) (s : State) : State :=
  let s1 := padLinks i { s with
    seqr := { s.seqr with clock := i.clock, starting := none, rotEvery := rotInterval s, cleanRun := 0, withheldRun := 0 },
    integ.since := start, hall.running := decide (1 < i.modules), power.pllA := true }
  match src with
  | some c =>
    let n := if s1.seqr.anyLeg then s1.seqr.leg + 1 else c.leg + 1
    beginLeg n start c.phase true true out w (s1.setEvent U.hub Off.trvEvents 3)
  | none => beginLeg (if s1.seqr.anyLeg then s1.seqr.leg + 1 else 0) start 0 true false out w s1

/-- R218, R207, R205: the committed first leg boundary arrives. A placement change that fell due while LOADED is applied now. -/
def execTraverseFirstLeg (out : EngineOut) (work : FirstWork) (s : State) : Host.Outcome State Fault Refusal :=
  match s.seqr.st, s.seqr.starting, s.seqr.image with
  | .starting, some (t, src, o), some i =>
    if s.now < t then .next s
    else
      let done := fun (st : Status) (a : State) => match o with | some o => endRequest o st a | none => a
      match choosePlacement true i s with
      | .runs a =>
        if src = 1 then
          match soundCkpt 2 work.digests a with
          | (some c, b) => .next (done .completed (firstLeg t (some c) i out work.work b))
          | (none, b) => .next (done .faulted (faultSeq { b with seqr.starting := none }))
        else .next (done .completed (firstLeg t none i out work.work a))
      | .handsOver a => .next (done .faulted { a with seqr := { a.seqr with st := .loaded, starting := none } })
      | .stops a => .next (done .faulted (faultSeq { a with seqr.starting := none }))
  | _, _, _ => .next s

/-! ### Stopping (R219) -/

/-- R219: in a hall ordinal 0 names the boundary, no later than 4 legs after acceptance. -/
def stopLeg (s : State) : Nat := if 1 < imageOr s (·.modules) then s.seqr.leg + 4 else s.seqr.leg + 1

def stopTime (s : State) : Time := s.seqr.legStart + (stopLeg s - s.seqr.leg) * legNs s

/-- R219: the stop waits for its boundary; a restore is abandoned, and a start is cancelled, at once. A second stop ends with the
first one's boundary. In a hall off ordinal 0 the module tells ordinal 0, and stops where that names it (log entry 120). -/
def askStop (o : Origin) (s : State) : State :=
  match s.seqr.st with
  | .running =>
    let n := match s.seqr.stopAt with | some n => Nat.min n (stopLeg s) | none => stopLeg s
    let s0 := match s.seqr.stopOrigin with | some q => endRequest q .completed s | none => s
    let s1 := { s0 with seqr := { s0.seqr with stopOrigin := some o, stopAt := some n } }
    if 1 < imageOr s (·.modules) then tellHall [2, n, 0] s1 else s1
  | .restoring =>
    let s1 := if 1 < imageOr s (·.modules) then tellHall [2, s.seqr.leg + 1, 0] s else s
    stopTraverse { s1 with seqr.stopOrigin := some o }
  | .starting =>
    let s1 := match s.seqr.starting with | some (_, _, some q) => endRequest q .denied s | _ => s
    endRequest o .completed { s1 with seqr := { s1.seqr with st := .loaded, starting := none } }
  | _ => s

/-- R219. -/
def stopAnswer (o : Origin) (s : State) : Answer :=
  match s.seqr.st with
  | .running => .accept (stopTime s) U.hub 0 (askStop o)
  | .restoring => .accept (nextFrame s) U.hub 0 (askStop o)
  | .starting => .accept (nextFrame s) U.hub 0 (askStop o)
  | _ => .done s.now [] s

/-- What R398 checks for TRAVERSE_STOP before its own checks (Tables 14-3, 14-6, 16-2). -/
def opTraverseStop (h : Hdr) : Op :=
  { code := 0x92, unit := fun _ _ => noUnit h.unit.toNat, role := rolesEngineer, deck := true }

/-- R219: TRAVERSE_STOP. -/
def execTraverseStop (h : Hdr) (s : State) : Host.Outcome State Fault Refusal :=
  .next (vcp (opTraverseStop h) h
    (fun e s => stopAnswer (originOf h e) s) s)

/-! ### Leg boundaries -/

/-- What a leg boundary does besides starting the next leg. -/
inductive Boundary | stop | rollback | placement | hallRestore (ckptLeg : Nat) | join | withKeeper | go
deriving DecidableEq, Repr

/-- A boundary named for leg `n` has come. -/
def named (t : Option Nat) (m : Nat) : Bool := match t with | some n => decide (n ≤ m) | none => false

/-- Table 7-12: a stop goes before a restore. -/
def boundaryOf (s : State) (m : Nat) : Boundary :=
  if named s.seqr.stopAt m || named s.seqr.hallStop m then .stop
  else if (match legRec s (m - 2) with | some r => decide (2 ≤ m) && wantsRollback r && r.checksClosed | none => false) then .rollback
  else if s.seqr.placementNow || s.seqr.placementDue then .placement
  else if decide (s.pair.role = .reliefMirror) && named s.pair.restoreAt m then .withKeeper
  else match s.seqr.hallRestore with
    | some (n, c) => if n ≤ m then .hallRestore c else if named s.pair.joinAt m then .join else .go
    | none => if named s.pair.joinAt m then .join else .go

/-- R216: ordinal 0's route set comes into force at its boundary. -/
def switchRoute (m : Nat) (s : State) : State :=
  match s.seqr.hallRoute with
  | some (n, set) => if n ≤ m then ({ s with seqr := { s.seqr with routeSet := set, hallRoute := none } }).setEvent U.hub Off.trvEvents 7
    |>.setEvent U.sys Off.hallEvents 5 else s
  | none => s

/-- R214, R270: a hall-wide restore from the checkpoint of one leg; the module's legs are aligned again. -/
def hallRestore (c : Nat) (s : State) : State :=
  let s1 := markCkpt (fun k => decide (c < k.leg) && decide (k.state = 2)) 3 s
  let s2 := startRestore 0 { s1 with seqr.hallRestore := none }
  { s2 with pair.misaligned := false }

/-- R228, R229: a failed leg rolls the Keeper or a lone module back; a mirroring Relief leaves mirroring instead, and its legs
stop until it has resynced. A placement change that waits is applied with the rollback. -/
def rollback (m : Nat) (s : State) : State :=
  if isRelief s then setDies false (stopLegs .loaded (leaveMirror s))
  else match s.seqr.image with
    | some i =>
      -- R214: in a hall the restore is hall-wide
      let s1 := match lastCkpt s with
        | some c => if 1 < i.modules then tellHall [3, m, c.leg] s else s
        | none => s
      if s.seqr.placementNow || s.seqr.placementDue then changePlacement true i s1 else startRestore 0 s1
    | none => s

/-- The release due at the boundary before leg `m` (R191). -/
def releaseAt (m : Nat) (s : State) : State :=
  if m < 2 then s
  else
    let s1 := closeLeg (m - 2) s
    match legRec s1 (m - 2) with
    | some r => if r.committed || r.withheld then s1 else releaseDue r s1
    | none => s1

/-- R188: a leg boundary: the release due, what waits for a boundary, and the next leg or what stands before it. -/
def execLegStart (out : EngineOut) (work : LegWork) (s : State) : Host.Outcome State Fault Refusal :=
  let t := s.seqr.legStart + legNs s
  if legsRun s ∧ t ≤ s.now then
    let m := s.seqr.leg + 1
    let s1 := boundaryWork (releaseAt m (endRotation s))
    let go := fun (a : State) => let b := switchRoute m a; beginLeg m t b.seqr.phase false false out work b
    match boundaryOf s1 m with
    | .stop => .next (stopTraverse s1)
    | .rollback => .next (rollback m s1)
    | .placement =>
      match s1.seqr.image with
      | some i =>
        match choosePlacement s1.seqr.placementDue i s1 with
        | .runs a => .next (startRestore (if a.seqr.variant = s1.seqr.variant then 0 else i.weightBytes) a)
        | .handsOver a => .next (go { a with seqr := { a.seqr with placementNow := false, placementDue := false } })
        | .stops a => .next (if 1 < i.modules then faultSeq (tellHall [2, m, 1] a) else faultSeq a)
      | none => .next s1
    | .hallRestore c => .next (hallRestore c s1)
    | .withKeeper => .next (startRestore 0 { s1 with pair.restoreAt := none })
    | .join => .next ((startRestore 0 { s1 with pair.joinAt := none }).setEvent U.sys Off.pairEvents 7)
    | .go => .next (go s1)
  else .next s

/-- R67, R233: the checks of the leg before the one in progress close; a Mirror comparison waits for the Relief's digest up to
the last card-bus frame. -/
def execChecksClosed (s : State) : Host.Outcome State Fault Refusal :=
  if legsRun s ∧ 1 ≤ s.seqr.leg then
    let n := s.seqr.leg - 1
    match legRec s n with
    | some r =>
      if isKeeper s && mirrorActive s && r.reliefDigest.isNone && digestWait s n then .next s else .next (closeLeg n s)
    | none => .next s
  else .next s
where
  /-- The last frame of the leg in progress has not begun. -/
  digestWait (s : State) (n : Nat) : Bool :=
    decide (s.seqr.leg = n + 1) && decide (s.now < s.seqr.legStart + legNs s - Config.frameNs)

/-- R204 step 3: legs resume at the first card-bus frame boundary after the copies: the withheld legs of the restore count, what
waits for a leg boundary comes about, and the leg after the last one started runs from the checkpointed state. -/
def resume (c : Ckpt) (ts : Time) (out : EngineOut) (w : LegWork) (s : State) : State :=
  let start := ceilFrame s.now
  let lost := (start - ts) / Nat.max 1 (legNs s)
  let s1 := ({ s with seqr := { s.seqr with restore := none, withheldRun := s.seqr.withheldRun + lost, cleanRun := 0 } }).addCount
    U.hub Off.trvWithheld 31 0 lost
  beginLeg (s1.seqr.leg + 1) start c.phase true true out w (boundaryWork s1)

/-- R204, R205: the restore copies complete. With no sound slot the sequencer enters FAULTED. -/
def execRestoreResume (digests : Nat × Nat) (out : EngineOut) (work : LegWork) (s : State) : Host.Outcome State Fault Refusal :=
  match s.seqr.st, s.seqr.restore with
  | .restoring, some (ts, _) =>
    match soundCkpt 2 digests s with
    | (some c, a) => .next (resume c ts out work a)
    | (none, a) => .next (faultSeq a)
  | _, _ => .next s

/-! ### Start-up (R220, R433 step 7) -/

/-- R220, R436: start-up step 7: the engine domains open, and the traverse image of the active bank is loaded. -/
def execEngineStartup (s : State) : Host.Outcome State Fault Refusal :=
  if s.power.step = 7 then
    let b := if (activeBank (s.upd 2)).st = .empty then none else some (if (s.upd 2).activeB then 1 else 0)
    let s2 := openPackage { s with fans.gatedHot := false, power := { s.power with step := 15, stepAt := s.now } }
    .next (match b with
      | some k => if bankVerified (traverseBank s2 k) ∧ s2.seqr.st = .empty then startLoad k none s2 else s2
      | none => s2)
  else .next s

end Sys2Proof.Machine
end

