-- ==== Sys2Proof/Machine/Pair.lean ====
section
/-! DEFINITION. Commands and events of the pair (Ch. 9): Flash, LAMP and the stage latch, claims, planned handovers, health
reports, stage tests, the mirror and the resync. -/

namespace Sys2Proof.Machine

open Sys2Proof

/-! ### Flash (R255, R256, R262) -/

/-- R256: a Flash leaves every 250 µs ± 5 µs and re-arms the deadman (R257). -/
def execFlashEmit (s : State) : Host.Outcome State Fault Refusal :=
  if flashRuns s ∧ s.pair.lastFlash + 245 * Config.us ≤ s.now then
    let q := (s.pair.flashSeq + 1) % 65536
    let m : FlashMsg := { slot := s.pair.slot, role := s.pair.role, mode := s.plant.mode, leg := s.seqr.leg, seq := BitVec.ofNat 16 q }
    .next (({ s with pair := { s.pair with lastFlash := s.now, flashSeq := q } }).emit (.flash m))
  else .next s

/-- R255: a Flash of the other slot on the service channel. -/
def chainFlash (msg : FlashMsg) (s : State) : State :=
  if msg.slot = s.pair.slot then s
  else { s with pair := { s.pair with
    flashChainAt := some s.now, missCounted := false, partnerRole := msg.role, partnerLeg := msg.leg } }

/-- R255: a partner Flash arrives: as a pulse on the pair, or as a message of the other slot on the service channel. -/
def execFlashReceive (onPair : Bool) (msg : FlashMsg) (s : State) : Host.Outcome State Fault Refusal :=
  if onPair then .next { s with pair := { s.pair with flashPairAt := some s.now, missCounted := false } }
  else .next (chainFlash msg s)

/-- The newest partner Flash on either path. -/
def lastPartnerFlash (s : State) : Option Time :=
  match s.pair.flashPairAt, s.pair.flashChainAt with
  | some a, some b => some (Nat.max a b)
  | some a, none => some a
  | none, b => b

/-- No partner Flash on either path for `d`. -/
def flashSilent (s : State) (d : Nat) : Bool := match lastPartnerFlash s with | some t => decide (t + d ≤ s.now) | none => true

/-- Table 9-4: no partner Flash for 300 µs counts one miss. -/
def execFlashMiss (s : State) : Host.Outcome State Fault Refusal :=
  if flashSilent s (300 * Config.us) ∧ (lastPartnerFlash s).isSome ∧ !s.pair.missCounted then
    .next (({ s with pair.missCounted := true }).setEvent U.sys Off.pairEvents 0 |>.addCount U.sys Off.pairCount 15 0 1)
  else .next s

/-- Table 9-5: no Flash on the pair for 1 ms, while the service channel carries it. -/
def execFlashPairLost (s : State) : Host.Outcome State Fault Refusal :=
  let quiet := match s.pair.flashPairAt with | some t => decide (t + Config.ms ≤ s.now) | none => true
  .next (if quiet && flashSeen s s.pair.flashChainAt then s.setEvent U.sys Off.pairEvents 5 else s)

/-- Table 9-5: the other LAMP is asserted without Flash for 1 ms. -/
def execLampStuck (s : State) : Host.Outcome State Fault Refusal :=
  .next (if isRelief s && s.pair.lampOther && flashSilent s Config.ms then event U.sys Off.pairEvents 10 s else s)

/-- R256: the hub resets and starts again by the start-up order, from step 2; the deadman, the lines and the stage latches go on
in hardware. -/
def hubReset (s : State) : State :=
  let d := powerDown s
  startFirmware { d with
    power := { d.power with step := 2, appliedAt := s.power.appliedAt, stepAt := s.now, busOk := s.power.busOk },
    pair := { d.pair with lampOwn := s.pair.lampOwn, lampSince := s.pair.lampSince, lastFlash := s.pair.lastFlash },
    bmu := s.bmu }

/-- R256: the cores disagree: Flash stops, and a Keeper resets its hub. -/
def execLockstepMismatch (s : State) : Host.Outcome State Fault Refusal :=
  .next (if isKeeper s then hubReset s else { s with pair.flashOk := false })

/-! ### LAMP and the stage latch (R257 to R260) -/

/-- R257: the deadman releases LAMP 500 µs after the last Flash at the earliest. -/
def execDeadmanRelease (s : State) : Host.Outcome State Fault Refusal :=
  .next (if s.pair.lampOwn ∧ s.pair.lastFlash + 500 * Config.us ≤ s.now then { s with pair.lampOwn := false } else s)

/-- R259: the filtered release of the other line; the claim counts from it. -/
def execLampReleaseSeen (s : State) : Host.Outcome State Fault Refusal :=
  .next (if s.pair.lampOther then { s with pair := { s.pair with lampOther := false, otherReleasedAt := s.now } } else s)

/-- R93: grants are sent again, and windows outstanding are dropped without effect. -/
def resendGrants (s : State) : State :=
  let leaves := grantLeaves s
  forEach (upTo 16) (fun r a => sendGrant r Kind.set 0 0 leaves (a.modRack r (fun k => { k with grants := [], noAckNext := none }))) s.draw

/-- R116, R289: a forwarded pull-in goes on on the module's own card, counted from its start frame; what had been judged stands. -/
def adoptPull (e : ValveCopy) (s : State) : State :=
  let c := e.ch.val
  (s.modValve c (fun v => { v with
    phase := if e.peak then .peak else v.phase, startAt := e.startAt, reflex := e.reflex, leakHeld := e.leakHeld, peakSeen := e.peakSeen,
    dipFound := e.dipFound, judged := e.judged, ttpDone := e.ttpDone, openSince := e.openSince })).setReg (U.vlv c) Off.vlvLast e.last

/-- R273: outputs start from the hold registers; the loops take the outputs their actuators hold. -/
def adoptHold (s : State) : State :=
  let s1 := forEach s.pair.holdValves adoptPull (forEach s.pair.holdRegs applyChan s)
  let s2 := forEach slots6 (fun k a => if (a.card k).st = .active then a.modCard k (fun c => { c with hold := false }) else a) s1
  let common := pumps8.filterMap (fun p => match motorOfPump s2 p with
    | some c => if motRuns (s2.motor c).st then some (s2.motor c).command else none | none => none)
  let s3 := match common with | v :: _ => s2.modLoop 0 (fun k => { k with out := v, target := v }) | [] => s2
  forEach [1, 3] (fun l a =>
    match (upTo 16).find? (fun i => decide (a.fldOf (U.ao i) Off.aoCfg 15 8 = l)) with
    | some i => let v : Int := (a.analog i).demand * (outUnit / 10); a.modLoop l (fun k => { k with out := v, target := v })
    | none => a) s3

/-- R273: loops 0 and 1 take the setpoints of the last forwarded output frame. -/
def takeForwarded (s : State) : State :=
  (s.modLoop 0 (fun k => { k with spActive := s.pair.fwdSp0, spBase := some s.pair.fwdSp0, base := some s.pair.fwdSp0 })).modLoop 1
    (fun k => { k with spActive := s.pair.fwdSp1, spBase := some s.pair.fwdSp1, base := some s.pair.fwdSp1 })

/-- R71, R69: a mirroring Relief that claims under the Preman PI loops starts them from the forwarded values. -/
def warmClaim (s : State) : State :=
  let s1 := takeForwarded s
  if s1.plant.fbLoops then { piStart 1 (piStart 0 s1) with plant.nextTick := s.now + 10 * Config.ms } else s1

/-- Table 9-10: a RELIEF_COLD or RELIEF_RESYNC that claims: FALLBACK or ISOLATE with the loops' setpoints from the last forwarded
frame, and the traverse from the newest shared checkpoint, or from the start. -/
def coldClaim (s : State) : State :=
  let m := s.plant.mode
  let driven := decide (m = .run) || decide (m = .fallback) || decide (m = .isolate)
  let s1 := takeForwarded s
  let s2 := if driven then changeMode 2 0 (if s.plant.isolated = 0 then .fallback else .isolate) true
      { s1 with plant.engineOk := false, plant.fbLoops := false } else s1
  let s3 := if s2.seqr.st = .running ∨ s2.seqr.st = .restoring then setDies false (stopLegs .loaded s2) else s2
  match s3.seqr.image with
  | some i =>
    if i.modules = 1 ∧ (s3.seqr.st = .loaded ∨ s3.seqr.st = .faulted) then
      startTraverse (b2n (lastCkpt s3).isSome) 0 none s3
    else s3
  | none => s3

/-- R270: ordinal 0 names a hall-wide restore boundary, 4 legs on, from the newest checkpoint (log entry 31). -/
def nameRestore (s : State) : State :=
  match lastCkpt s with
  | some c => sendHall [3, s.seqr.leg + 4, c.leg] { s with seqr.hallRestore := some (s.seqr.leg + 4, c.leg) }
  | none => s

/-- R270: the new Keeper of an ordinal reports its claim; its legs stand outside the hall until it realigns. -/
def hallClaim (s : State) : State :=
  if 1 < imageOr s (·.modules) then
    let s1 := { s with pair.misaligned := true }
    let own := s.fldOf U.sys Off.hallCfg 3 0
    if own = 0 then nameRestore s1 else sendService 0x10 0 [5, own] s1
  else s

/-- R264: the claim ends a planned handover: the Keeper named its leg, READY was answered, and its Flash continues. -/
def plannedClaim (s : State) : Bool :=
  !flashSilent s (300 * Config.us) && (match s.pair.offer with | some (_, th, ready) => ready && decide (th ≤ s.now) | none => false)

/-- R259, R273: the Relief asserts LAMP and becomes Keeper. -/
def takeLamp (s : State) : State :=
  let role := s.pair.role
  let p : Pair := { s.pair with
    role := .keeper, lampOwn := true, lampSince := s.now, stages := true, claimedAt := some s.now, health := none, wasHealthy := false,
    handover := none, offer := none, arriving := plannedClaim s }
  let timed := s.vcp.accepted.map (fun a => { a with timed := true })
  let s0 := { s with pair := p, vcp := { s.vcp with accepted := timed, handed := [] } }
  let s1 := (s0.setEvent U.sys Off.pairEvents 1).addCount U.sys Off.pairCount 31 24 1
  let s3 := startBuses (adoptHold s1)
  let s4 := if role = .reliefMirror then hallClaim (warmClaim s3) else coldClaim s3
  driveBeacons (resendGrants s4)

/-- R259: an armed Relief claims 100 µs after the filtered release of the other LAMP. -/
def execClaim (s : State) : Host.Outcome State Fault Refusal :=
  .next (if armed s ∧ !s.pair.lampOther ∧ s.pair.otherReleasedAt + 100 * Config.us ≤ s.now then takeLamp s else s)

/-- R264 step 8, R247: the partner holds LAMP now: the old Keeper is a Relief. After a planned handover to a mirroring Relief it
mirrors at once, with its next leg 100 µs later; otherwise it resyncs, or is cold where the pair IDs differ. -/
def yieldLamp (s : State) : State :=
  let p := s.pair
  let done : Bool := match p.handover with | some h => h.released | none => false
  let origin : Option Origin := match p.handover with | some h => h.origin | none => none
  let role : Role := if !p.idMatch then .reliefCold else if done ∧ p.partnerRole = .reliefMirror then .reliefMirror else .reliefResync
  let p1 : Pair := { p with
    role := role, handover := none, health := none, wasHealthy := false, outputLoaded := false,
    resync := if role = .reliefResync then .handshake else .idle }
  let s1 := { dropTx s with pair := p1 }
  let s2 := if role = .reliefMirror then { s1 with seqr.legStart := s1.seqr.legStart + 100 * Config.us } else s1
  let s3 := if done then s2.setEvent U.sys Off.pairEvents 2 else s2
  match origin with | some o => endRequest o .completed s3 | none => s3

/-- R258: the other LAMP asserts: the stage latch clears. In a planned handover the old Keeper is a Relief once the new one's first frame has
completed (Table 9-7 step 8). -/
def execStageLatchClear (s : State) : Host.Outcome State Fault Refusal :=
  let s1 := { s with pair := { s.pair with lampOther := true, stages := false } }
  if isKeeper s && !s.pair.lampOwn then
    match s.pair.handover with
    | some h => if h.released then .next { s1 with pair.handover := some { h with yielded := true } } else .next (yieldLamp s1)
    | none => .next (yieldLamp s1)
  else .next s1

/-- Table 9-7 step 8: the first frame of the new Keeper has completed, on the module that leaves and on the one that takes over. -/
def handoverEnds (s : State) : State :=
  let s1 := match s.pair.handover with
    | some h => if h.yielded ∧ h.th + 250 * Config.us ≤ s.now then yieldLamp s else s
    | none => s
  if s1.pair.arriving && (match s1.pair.claimedAt with | some t => decide (ceilFrame t + Config.frameNs ≤ s1.now) | none => true) then
    ({ s1 with pair.arriving := false }).setEvent U.sys Off.pairEvents 2
  else s1

/-- R260: both lines are asserted: slot B backs off; no stage latch sets while both are. -/
def execSimultaneous (s : State) : Host.Outcome State Fault Refusal :=
  if !s.pair.lampOwn then .next s
  else
    let s1 := ({ s with pair := { s.pair with lampOther := true, stages := false } }).setEvent U.sys Off.pairEvents 4
    match s.pair.slot with
    | .a => .next s1
    | .b => .next { dropTx s1 with pair := { s1.pair with
        lampOwn := false, role := .reliefResync, resync := .handshake, handover := none, outputLoaded := false } }

/-- R260, R258: slot A's latch sets once LAMP_B has fallen. -/
def execStageLatchSet (s : State) : Host.Outcome State Fault Refusal :=
  .next (if s.pair.slot = .a ∧ s.pair.lampOwn then { s with pair := { s.pair with lampOther := false, stages := true } } else s)

/-! ### The role decision (R261) -/

/-- R261, R31: start-up step 4. The module reads SLOT_ID and the harness loop; with the loop open its output stages are off. -/
def execRoleDecision (lines : RoleLines) (s : State) : Host.Outcome State Fault Refusal :=
  let p := { s.pair with slot := lines.slot }
  let done := fun (q : Pair) => { s with pair := q, power := { s.power with step := 5, stepAt := s.now } }
  if s.power.step ≠ 4 then .next s
  else if !p.harnessClosed then
    .next ((done { p with role := .barred, stages := false, barredFrom := if p.idMatch then .reliefResync else .reliefCold, lampOther := lines.otherLamp }).setEvent
      U.sys Off.hwEvents 6)
  else if s.now < s.power.stepAt + 2 * Config.ms then .next s
  else if p.lampOwn && lines.otherLamp then .next (done { p with role := .barred, lampOther := true })
  else if lines.otherLamp then
    .next (done { p with role := if p.idMatch then .reliefResync else .reliefCold, lampOther := true, resync := .handshake })
  else if lines.slot = .b ∧ s.now < s.power.stepAt + 5 * Config.ms then .next s
  else .next (done { p with role := .keeper, lampOwn := true, lampSince := s.now, lampOther := false, stages := true })

/-! ### Planned handover (R263 to R265) -/

/-- R263: the conditions in their order. -/
def handoverAnswer (h : Hdr) (flags : BitVec 8) (at_ : Nat) (e : Session) (s : State) : Answer :=
  let cold := flags.getLsbD 0
  if 1 < flags.toNat ∨ (cold ∧ !hasCap e 2) then .refuse .badParam 0
  else if !keeperNow s then .refuse .notKeeper 0
  else if flashSilent s Config.sec then .refuse .notPresent 0
  else if s.pair.handover.isSome ∨ s.pair.partnerRole = .reliefResync ∨ s.seqr.st = .restoring then .refuse .busy 0
  else if s.pair.partnerRole = .reliefCold ∧ !cold then .refuse .denied 0
  else if s.pair.partnerRole = .barred ∨ !reliefHealthy s then .refuse .faulted 0
  else .accept (handoverDone s at_) U.sys 0 (startHandover at_ (some (originOf h e)))

/-- What R398 checks for HANDOVER before its own checks (Tables 14-3, 14-6, 16-2). -/
def opHandover (h : Hdr) : Op :=
  { code := 0xB1, unit := fun _ _ => noUnit h.unit.toNat, role := rolesOperator, relief := true }

/-- R263: HANDOVER. -/
def execHandover (h : Hdr) (flags : BitVec 8) (at_ : BitVec 64) (s : State) : Host.Outcome State Fault Refusal :=
  .next (vcp (opHandover h) h
    (fun e s => handoverAnswer h flags at_.toNat e s) s)

/-- Table 9-11. -/
def ownHealth (s : State) : HealthReport :=
  let p := s.pair
  let engine := s.seqr.image.isSome && !s.seqr.degraded && decide (s.seqr.st ≠ .faulted)
  let fans := popN 6 s.fans.failed.toNat
  { seq := BitVec.ofNat 32 (p.reportSeq + 1), time := s.now, role := p.role,
    flags := BitVec.ofNat 8 (128 * b2n (decide (p.stagesFailed = 0)) + 64 * b2n (decide (p.legsMismatch = 0)) + 32 * b2n engine
      + 16 * b2n (s.power.fieldA && s.power.fieldB) + 8 * b2n (s.power.mainA && s.power.mainB) + 4 * b2n (decide (fans ≤ 1))
      + 2 * b2n (armed s) + b2n p.harnessClosed),
    links := BitVec.ofNat 4 (partnerLinks s), legsCompared := p.legsCompared, legsMismatch := p.legsMismatch, legsLate := p.legsLate,
    stagesTested := p.stagesTested, stagesFailed := p.stagesFailed, suspect := countClusters s (fun c => decide (c.st = 1)),
    retiredC := BitVec.ofNat 16 (retiredC s), retiredS := BitVec.ofNat 8 (retiredS s), fansFailed := fans, junction := s.fans.junction,
    ckptLeg := (newestCkpt s).map (·.leg), pairId := pairId s }

/-- The checks of the last two legs that closed were clean. -/
def lastLegsClean (s : State) : Bool := ((s.seqr.legs.filter (fun r => r.checksClosed && !r.dropped)).take 2).all (·.checksOk)

/-- R264 step 2: the Relief answers READY when it is healthy and the checks of its last two legs closed clean, no later than
t_h − 250 µs; the READY reaches the Keeper. -/
def execHandoverReady (s : State) : Host.Outcome State Fault Refusal :=
  match s.pair.handover, s.pair.offer with
  | some h, _ => .next (if s.now + 250 * Config.us ≤ h.th then { s with pair.handover := some { h with ready := true } } else s)
  | none, some (leg, th, _) =>
    let f := (ownHealth s).flags
    if isRelief s && f.getLsbD 0 && f.getLsbD 1 && f.getLsbD 2 && f.getLsbD 5 && decide (s.pair.role ≠ .reliefResync) && lastLegsClean s
        && decide (s.now + 250 * Config.us ≤ th) then
      .next (sendService 0x11 toPartnerOrd [1, leg] { s with pair.offer := some (leg, th, true) })
    else .next s
  | none, none => .next s

/-- R264 step 2: without READY the handover is abandoned. -/
def execHandoverAbandon (s : State) : Host.Outcome State Fault Refusal :=
  match s.pair.handover with
  | some h =>
    if !h.ready ∧ h.th ≤ s.now + 250 * Config.us then
      let s1 := eventWith .faulted 0 none U.sys Off.pairEvents 3 { s with pair.handover := none }
      .next (match h.origin with | some o => endRequest o .faulted s1 | none => s1)
    else .next s
  | none => .next s

/-- R264 step 4: LAMP is released 50 µs after t_h; R247: after an uncorrectable error, in the frame after t_u. -/
def execHandoverLampRelease (s : State) : Host.Outcome State Fault Refusal :=
  match s.pair.dropLamp, s.pair.handover with
  | some t, _ =>
    .next (if frameOf t < s.now / Config.frameNs then { s with pair := { s.pair with lampOwn := false, dropLamp := none } } else s)
  | none, some h =>
    .next (if h.ready ∧ !h.released ∧ h.th + 50 * Config.us ≤ s.now then
      { s with pair := { s.pair with lampOwn := false, handover := some { h with released := true } } } else s)
  | none, none => .next s

/-! ### Health (R254, R274) -/

/-- R274: every 1 000 ms the Relief reports; its counts start again. -/
def execHealthReportSend (s : State) : Host.Outcome State Fault Refusal :=
  if (isRelief s || decide (s.pair.role = .barred)) && decide (s.pair.lastReportAt + Config.sec ≤ s.now) then
    .next (({ s with pair := { s.pair with
      reportSeq := s.pair.reportSeq + 1, lastReportAt := s.now, legsCompared := 0, legsMismatch := 0, legsLate := 0,
      stagesTested := 0, stagesFailed := 0 } }).emit (.health (ownHealth s)))
  else .next s

/-- R254, R274: UNHEALTHY with NOTIFY when the Relief stops being healthy. -/
def watchHealth (s : State) : State :=
  let ok := reliefHealthy s
  let s1 := { s with pair.wasHealthy := ok }
  if s.pair.wasHealthy && !ok then event U.sys Off.pairEvents 9 s1 else s1

/-- R274, R266: a health report reaches the Keeper and is kept; a handover that waited for it may begin (R265). -/
def execHealth (r : HealthReport) (s : State) : Host.Outcome State Fault Refusal :=
  if isKeeper s then
    let s1 := comparePairIds { s with pair := { s.pair with health := some (r, s.now), partnerRole := r.role, partnerId := some r.pairId } }
    let s2 := watchHealth s1
    .next (if s2.pair.selfHandover then askHandover s2 else s2)
  else .next s

/-- R254: the newest report has aged past 2 500 ms. -/
def execReliefUnhealthy (s : State) : Host.Outcome State Fault Refusal := .next (if isKeeper s then watchHealth s else s)

/-! ### Stage tests (R275, R306) -/

/-- R306 item 1: what the Keeper's channel has to be. -/
def windowAllowed (s : State) (c : Nat) : Bool :=
  let v := s.valve c
  decide (v.phase = .off) && !v.tripped && !v.leakHeld && v.window.isNone

/-- R275: the channel's stage test is due on the Relief, one channel at a time. -/
def stageTestDue (s : State) (c : Nat) : Bool :=
  isRelief s && s.bitAt U.sys Off.pairCtrl 0 && s.pair.testAsked.isNone && cardReady s (slotOfValve c) 1
  && decide ((s.valve c).phase = .off)
  && decide ((s.valve c).testedAt + s.fldOf U.sys Off.pairCtrl 31 16 * Config.sec ≤ s.now)

/-- R306: the Relief asks for a test window; the Keeper grants the frame after the next. -/
def execTestWindowRequest (ch : Fin 96) (s : State) : Host.Outcome State Fault Refusal :=
  let c := ch.val
  if isKeeper s then
    if windowAllowed s c then
      let f := nextFrame s + Config.frameNs
      .next (sendService 0x11 toPartnerOrd [3, c, f] (s.modValve c (fun v => { v with window := some f })))
    else .next s
  else if stageTestDue s c then .next (sendService 0x11 toPartnerOrd [2, c] { s with pair.testAsked := some c })
  else .next s

/-- R306 item 3, R305: the pulse of the Relief's card in the granted window: judged, or not run where the other module drives the coil. -/
def execStageTestPulse (ch : Fin 96) (mA : Nat) (otherDrives : Bool) (s : State) : Host.Outcome State Fault Refusal :=
  let c := ch.val
  let granted := match (s.valve c).window with | some f => decide (f ≤ s.now) | none => false
  if isRelief s && decide (s.pair.testAsked = some c) && granted then
    let s1 := { s with pair.testAsked := none }
    if otherDrives then .next (s1.modValve c (fun v => { v with window := none }))
    else
      let bad := decide (mA < s.fldOf (U.vlv c) Off.vlvTestDip 31 24 * 10) || decide (s.fldOf (U.vlv c) Off.vlvTestDip 23 16 * 10 < mA)
      let s2 := { s1 with pair.stagesTested := s1.pair.stagesTested + 1 }.modValve c (fun v => { v with testedAt := s.now, current := mA, window := none })
      .next (if bad then { s2 with pair.stagesFailed := s2.pair.stagesFailed + 1 }.setEvent (U.vlv c) Off.vlvEvents 9 else s2)
  else .next s

/-! ### The mirror (R267) -/

/-- R203, Table 9-8: a checkpoint of the Keeper is complete in one of the Relief's slots; the slots take turns. -/
def storeCkpt (c : Ckpt) (s : State) : State :=
  if s.seqr.lastB then { s with seqr := { s.seqr with slotA := c, lastB := false } }
  else { s with seqr := { s.seqr with slotB := c, lastB := true } }

/-- R234: a mismatch on a mirroring Relief: it leaves mirroring, sweeps its array and resyncs. -/
def mirrorMismatch (s : State) : State :=
  if s.pair.role = .reliefMirror then
    leaveMirror (intEvent .compareMismatch none s.seqr.leg { s with
      integ.sweep := true, pair.legsMismatch := s.pair.legsMismatch + 1 })
  else s

/-- The stage of a code of Table 4-8. -/
def stageOf (n : Nat) : LeakStage :=
  match n with | 0 => .clear | 1 => .suspect | 2 => .confirmed | 3 => .isolated | 4 => .escalated | _ => .uncontained

/-- Table 9-8: rack r as mirrored; the Relief keeps its own ceiling above the sequences it has seen (R80). -/
def rackFrom (c : RackCopy) (k : Rack) : Rack :=
  { k with cap := c.cap, grantSeq := c.seq, acked := c.acked, grants := c.grants, stage := c.stage, leak := c.leak, noAck := c.noAck,
           beaconNoAck := c.beaconNoAck, safetyFlow := c.safetyFlow, raises := c.raises, sources := c.sources, seen := c.seen,
           pos := c.pos, target := c.pos, base := c.pos, ceiling := ceilingFor k.ceiling c.seq,
           sent := if k.grantSeq = c.seq then k.sent else extendSent c.seq k.sent }

/-- R368: the newest readings of the nodes and drives, in the frames that the Keeper forwards. -/
def forwardedReadings (values : List (Nat × InputVal)) (s : State) : State :=
  forEach values.reverse (fun e a => match e.2 with | .can c f reading => takeReading c.val f reading e.1 a | _ => a) s

/-- R266, R267, R404: one item of the mirror, as a Relief or a BARRED module applies, keeps or compares it. -/
def mirrorItem (i : MirrorItem) (s : State) : State :=
  match i with
  | .inputFrame _ values => forwardedReadings values { s with seqr.inputs := values ++ s.seqr.inputs }
  | .outputFrame chans vs a b =>
    { s with pair := { s.pair with holdRegs := chans, holdValves := vs, fwdSp0 := a, fwdSp1 := b, outputLoaded := true, outputAt := some s.now } }
  | .command id sid q u tag c =>
    let o : Origin := { identity := id, session := sid, sequence := q }
    { s with vcp.accepted := s.vcp.accepted ++ [{ origin := o, unit := u.toNat, tag := tag, committed := c, deck := false, inherited := true }] }
  | .reply id q st c => keepReply id q st c s
  | .commandEnd id q st =>
    let o : Origin := { identity := id, session := 0, sequence := q }
    let tag := match s.vcp.accepted.find? (isOrigin o) with | some a => (a.unit, a.tag) | none => (0, 0)
    let n : Notify := { unit := tag.1, status := st, time := s.now, causeSeq := q, tag := tag.2 }
    { s with vcp := { s.vcp with
      accepted := s.vcp.accepted.filter (fun b => !isOrigin o b),
      kept := s.vcp.kept.map (fun k => if k.identity = id ∧ k.sequence = q then { k with outcome := some n } else k) } }
  | .register u off v =>
    let s1 := storeConfig u.toNat off.toNat v s
    if u.toNat = U.cap ∧ ctrlOffset off.toNat then applyCtrl { s1 with plant.ctrlNext := [(off.toNat, v)] } else s1
  | .site i => writeSite i s
  | .group key members => { s with vcp.groups := mset 0 s.vcp.groups key members }
  | .envelope v => { s with broker.envelope := v }
  | .preview id racks start d l r =>
    if s.broker.previews.any (fun p => decide (p.id = id)) then replacePreview id racks start d l r s else addPreview id racks start d l r s
  | .previewCancel id => cancelPreview id s
  | .datum v t => { s with integ := { s.integ with datumNext := some (v, t), datumOrigin := none } }
  | .band e => { s with plant.bandsNext := s.plant.bandsNext ++ [(e, none)] }
  | .mode m prev forced fb comm armed iso =>
    { s with plant := { s.plant with
        mode := m, prevMode := prev, forced := forced, fbLoops := fb, commissioned := comm, armed := armed, isolated := iso } }
  | .waiting w =>
    let s1 := forEach valves96 (fun c a =>
      let k := (w.valves.find? (fun e => decide (e.1.val = c))).map (·.2)
      if (a.valve c).cmd = k then a else a.modValve c (fun v => { v with cmd := k })) s
    let s2 := forEach (upTo 48) (fun c a =>
      let k := (w.motors.find? (fun e => decide (e.1.val = c))).map (·.2)
      if (a.motor c).cmd = k then a else a.modMotor c (fun v => { v with cmd := k })) s1
    { s2 with plant.modeAsks := w.modes, plant.releaseAsks := w.releases, broker.asks := w.caps }
  | .restoreAt leg => { s with pair.restoreAt := some leg }
  | .rack r c => s.modRack r.val (rackFrom c)
  | .plantEvents active holds all prov n =>
    let s1 := forEach (allRows ++ racks16.map .rackFlowCap ++ [.pumpTrip]) (fun row a =>
      if active.elem row = (a.row row).active then a
      else a.modRow row (fun k => { k with active := active.elem row, since := a.now, lastStep := a.now })) s
    let s2 := forEach [0, 1, 2, 3, 4] (fun l a => a.modLoop l (fun k => { k with holders := holds.getD l [] })) s1
    { s2 with plant.safetyAll := all,
              broker := { s2.broker with prov := prov.map (fun e => { act := e.1, logSeq := e.2.1, noticed := e.2.2 }), sightings := n,
                                         sighted := ((prov.map (fun e => e.1.raId)).filter (fun i => i.getLsbD 31)).eraseDups } }
  | .logRecord ty t len q b => logMirrored ty len t q (if s.pair.slot = .a then .b else .a) b s
  | .controllerDigest theirs own => if theirs = own then s else mirrorMismatch s
  | .checkpoint leg mid digest phase bodyLen rings =>
    let c : Ckpt := { state := 2, mirrorId := mid, leg := leg, phase := phase, bodyLen := bodyLen, digest := digest, rings := rings.take 64 }
    if mid = imageOr s (·.mirrorId) ∧ s.pair.role ≠ .reliefMirror then
      let s1 := storeCkpt c s
      -- R277: the checkpoint of phase 4 is superseded before the join
      if s.pair.joinReady then { s1 with pair := { s1.pair with joinReady := false, resync := .checkpoint } } else s1
    else s

/-- Table 9-8: the items of plant event state, which a mirroring Relief compares with its own. -/
def plantItem : MirrorItem → Bool
  | .mode .. => true
  | .rack .. => true
  | .plantEvents .. => true
  | _ => false

/-- R267: an item of the mirror arrives; `same`: the Relief's own plant event state is what the item says. A difference is a Mirror
mismatch, and the Keeper's state is taken. -/
def execMirror (item : MirrorMsg) (s : State) : Host.Outcome State Fault Refusal :=
  if isRelief s || decide (s.pair.role = .barred) then
    let s1 := mirrorItem item.item s
    .next (if plantItem item.item && !item.same then mirrorMismatch s1 else s1)
  else .next s

/-! ### Resync (R276, R277) -/

/-- R277: the join waits for PAIR_CTRL.JOIN: JOIN_AUTO is 0, or the image is a hall image. -/
def joinWaits (s : State) : Bool := !s.bitAt U.sys Off.pairCtrl 1 || decide (1 < imageOr s (·.modules))

/-- Bytes of phases 2 to 4: the rings and the checkpoint body. -/
def resyncBytes (s : State) : Nat :=
  match s.seqr.image with | some i => i.rings.foldl (fun a r => a + r.2) 0 + i.ckptBytes | none => 0

/-- The Keeper rolls back at the next leg boundary. -/
def askJoin (s : State) : State := if isKeeper s then { s with pair.joinAt := some (s.seqr.leg + 1) } else s

/-- R277: the join begins: at the next leg boundary, or in a hall where ordinal 0 names it. -/
def joinNow (s : State) : State :=
  let s1 := { s with pair := { s.pair with joinReady := false, resync := .idle } }
  if 1 < imageOr s (·.modules) then
    (if s.fldOf U.sys Off.hallCfg 3 0 = 0 then nameRestore s1 else sendService 0x10 0 [5, s.fldOf U.sys Off.hallCfg 3 0] s1)
  else askJoin s1

/-- Table 9-12 phase 1: the Relief loads its own verified traverse image when none is loaded. -/
def loadForResync (s : State) : State :=
  if isRelief s && decide (s.seqr.st = .empty) then
    (if bankVerified (activeBank (s.upd 2)) then startLoad (b2n (s.upd 2).activeB) none s else s)
  else s

/-- Table 9-12: the module takes part in a resync: a RELIEF_RESYNC, or the Keeper of one. -/
def resyncing (s : State) : Bool := decide (s.pair.role = .reliefResync) || (isKeeper s && decide (s.pair.partnerRole = .reliefResync))

/-- R276: a phase ends. -/
def execResyncPhaseDone (pairIdEqual : Bool) (moved : Nat) (digestOk : Bool) (s : State) : Host.Outcome State Fault Refusal :=
  if !resyncing s then .next s
  else
    let p := s.pair
    let copied := p.copied + moved
    let pct := Nat.min 100 (copied * 100 / Nat.max 1 (resyncBytes s))
    match p.resync with
    | .idle => .next (loadForResync { s with pair := { p with resync := .handshake, copied := 0, resyncPct := 0, joinReady := false } })
    | .handshake =>
      let s1 := { s with pair := { p with idMatch := pairIdEqual, copied := 0, resyncPct := 0, joinReady := false } }
      if pairIdEqual then .next { s1 with pair.resync := .bulk }
      else .next { s1 with pair := { s1.pair with resync := .idle, role := if isKeeper s then .keeper else .reliefCold } }
    | .bulk => .next { s with pair := { p with resync := .delta, copied := copied, resyncPct := pct } }
    | .delta =>
      .next { s with pair := { p with resync := if moved < 67108864 then .checkpoint else .delta, copied := copied, resyncPct := pct } }
    | .checkpoint =>
      if digestOk then
        let s1 := { s with pair := { p with resync := .join, joinReady := true, copied := copied, resyncPct := 100 } }
        .next (if joinWaits s then s1 else askJoin s1)
      else .next s
    | .join => .next s

/-- R276 phase 5: the join. A Relief restores the shared checkpoint with the Keeper's leg numbers and becomes RELIEF_MIRROR. -/
def execResyncJoin (s : State) : Host.Outcome State Fault Refusal :=
  if isKeeper s then .next (if s.pair.joinReady ∧ s.pair.joinAt.isNone then joinNow s else s)
  else if s.pair.role = .reliefResync ∧ s.pair.joinReady ∧ (lastCkpt s).isSome then
    let s1 := { s with pair := { s.pair with role := .reliefMirror, resync := .idle, joinReady := false, joinAt := none },
                       integ.sweep := false, seqr.leg := s.pair.partnerLeg, seqr.anyLeg := true }
    .next ((startRestore 0 (setDies true s1)).setEvent U.sys Off.pairEvents 8 |>.addCount U.sys Off.pairCount 23 16 1)
  else .next s

end Sys2Proof.Machine
end

