-- ==== Sys2Proof/Machine/Links.lean ====
section
/-! DEFINITION. Chain links and the hall (Ch. 12): training, blocks, error responses, the hall reference and count, route sets,
the service channel and bulk sessions. -/

namespace Sys2Proof.Machine

open Sys2Proof

/-! ### The hall: boundaries ordinal 0 names (R215, R216, R353) -/

/-- A hall link is among those reported down. -/
def reportedDown (s : State) (h : HallLink) : Bool :=
  s.hall.downLinks.any (fun d => (decide (d.1 = h.ordA) && decide (d.2 = h.linkA)) || (decide (d.1 = h.ordB) && decide (d.2 = h.linkB)))

/-- R216: the route set is used and avoids every link that is down. -/
def routeHolds (s : State) (i : Image) (set : Nat) : Bool :=
  i.hall.any (fun h => h.routeSets.getLsbD set) && !i.hall.any (fun h => h.routeSets.getLsbD set && reportedDown s h)

/-- Ordinal 0 names a route set and the boundary, 4 legs on, at which every module switches. -/
def nameRoute (set : Nat) (s : State) : State :=
  let n := s.seqr.leg + 4
  sendHall [1, set, n] { s with seqr.hallRoute := some (n, set) }

/-- R216: a link of the route set in force is down. -/
def reroute (s : State) : State :=
  match s.seqr.image with
  | none => s
  | some i =>
    match (upTo 4).find? (routeHolds s i) with
    | some set => if set = s.seqr.routeSet then s else nameRoute set s
    | none => stopHall s

/-- R353: ordinal 0 takes a report of a link. A link outside the route set in force changes nothing. -/
def noteLink (ord l : Nat) (up : Bool) (s : State) : State :=
  let rest := s.hall.downLinks.filter (fun d => !(decide (d.1 = ord) && decide (d.2 = l)))
  let s1 := { s with hall.downLinks := if up then rest else rest ++ [(ord, l)] }
  if !up && s.hall.running && imageOr s (fun i => b2n (i.hall.any (fun h => h.routeSets.getLsbD s.seqr.routeSet && reportedDown s1 h))) = 1
  then reroute s1 else s1

/-- R353: in a hall, a module reports its links to ordinal 0. -/
def reportLink (l : Nat) (up : Bool) (s : State) : State :=
  if imageOr s (·.modules) ≤ 1 then s
  else
    let own := s.fldOf U.sys Off.hallCfg 3 0
    if isRoot s then noteLink 0 l up s else sendService 0x10 0 [4, own, l, b2n up] s

/-- R357, Table 12-9: a HALL_CTRL message: from ordinal 0 intervals and boundaries, to ordinal 0 reports. -/
def execHallCtrl (m : HallMsg) (s : State) : Host.Outcome State Fault Refusal :=
  match m with
  | .intervals v => .next (if s.fldOf U.sys Off.hallCfg 3 0 = 0 then s else s.setReg U.hub Off.trvCtrl v)
  | .routeSet set leg => .next { s with seqr.hallRoute := some (leg, set.val) }
  | .stopAt leg f =>
    let s1 := { s with seqr := { s.seqr with hallStop := some leg, hallFault := s.seqr.hallFault || f } }
    .next (if isRoot s then sendHall [2, leg, b2n f] s1 else s1)
  | .restoreAt leg c => .next { s with seqr.hallRestore := some (leg, c) }
  | .linkReport ord l up => .next (if isRoot s then noteLink ord l up s else s)
  | .claimReport _ => .next (if isRoot s then nameRestore s else s)

/-! ### The reference link and the hall count (R346 to R348) -/

/-- R346: the reference link a module that is not the root chooses. -/
def chooseRef (s : State) : Option Nat :=
  if !isKeeper s then lowestPartner s
  else
    let up := (upTo 32).filter (fun l => decide ((s.link l).st = .up) && !(s.link l).mismatch && (s.link l).peerLocked
      && decide ((s.link l).peerDepth < 15))
    up.foldl (fun a l => match a with
      | some b => if (s.link l).peerDepth < (s.link b).peerDepth then some l else some b
      | none => some l) none

/-- The module takes link `l` as its reference, with the peer's depth plus 1. -/
def takeRef (l : Nat) (s : State) : State :=
  let changed := decide (s.hall.refLink ≠ some l)
  let s1 := { s with hall := { s.hall with refLink := some l, depth := Nat.min 15 ((s.link l).peerDepth + 1), lostAt := none } }
  if changed then s1.setEvent U.sys Off.hallEvents 0 else s1

/-- R348: the reference is lost: another is chosen at once, or the module holds its frequency and count without one. -/
def loseRef (s : State) : State :=
  if isRoot s then s
  else match chooseRef s with
    | some l => takeRef l s
    | none => { s with hall := { s.hall with refLink := none, lostAt := some (s.hall.lostAt.getD s.now) } }

/-- R347: what a block says the own count should be at its arrival. -/
def countFrom (peer arrival echo age : Nat) : Int := (peer : Int) + ((arrival : Int) - echo - age) / 2

/-- R347: a measurement that differs by more than one array cycle: COUNTER_SLIP, and the hall traverse stops. -/
def checkCount (expected own : Int) (s : State) : State :=
  let d := expected - own
  let lim : Int := pllPerArray s.seqr.clock
  if lim < d ∨ d < -lim then stopHall (s.setEvent U.sys Off.hallEvents 2) else s

/-- R346: link `l` may serve as the first reference while it still aligns: no UP link qualifies. -/
def mayAlignOn (s : State) (l : Nat) : Bool :=
  match chooseRef s with
  | some r => decide (r = l)
  | none => decide ((s.link l).st = .aligning) && !(s.link l).mismatch
      && (if isKeeper s then (s.link l).peerLocked && decide ((s.link l).peerDepth < 15) else decide (l < 4))

/-- R346, R347: the module is LOCKED to its reference link: the first time it aligns its count, from then on it checks it. -/
def execLinkLocked (l : Fin 32) (hallCount_ arrival echoCount echoAge : Nat) (s : State) : Host.Outcome State Fault Refusal :=
  if isRoot s || !mayAlignOn s l.val then .next s
  else
    let want := countFrom hallCount_ arrival echoCount echoAge
    let s1 := takeRef l.val { s with hall.locked := true }
    .next (if s.hall.counted then checkCount want arrival s1
      else { s1 with hall := { s1.hall with counted := true, offset := s.hall.offset + (want - arrival) } })

/-- R348: no reference link qualified for 10 ms. -/
def execUnlocked (s : State) : Host.Outcome State Fault Refusal :=
  match s.hall.lostAt with
  | some t =>
    if !isRoot s ∧ t + 10 * Config.ms ≤ s.now ∧ (chooseRef s).isNone then
      .next (stopHall (({ s with hall := { s.hall with locked := false, depth := 15, lostAt := none } }).setEvent U.sys Off.hallEvents 1))
    else .next s
  | none => .next s

/-! ### A link goes DOWN -/

/-- R358: messages that had no ACK_SEQ move, with their MSG_ID, to the next UP link towards their destination, or are dropped. -/
def moveMessages (l : Nat) (s : State) : State :=
  let waiting := (s.link l).unacked
  forEach waiting (fun m a =>
    match linkTowards a m.dst with
    | some j => (a.modLink j (fun k =>
        { k with txSeq := (k.txSeq + 1) % 2 ^ 32, unacked := k.unacked ++ [{ m with seq := (k.txSeq + 1) % 2 ^ 32, sentAt := a.now, resends := 0 }] })).emit
          (.service m.type m.dst m.payload)
    | none => a) (s.modLink l (fun k => { k with unacked := [] }))

/-- R362: bulk sessions without another UP link end; the opener's descriptor with NOT_PRESENT and the bytes delivered (free). -/
def dropBulks (s : State) : State :=
  let lost := s.hall.bulks.filter (fun b => (linkTowards s b.ord).isNone)
  forEach lost (fun b a =>
    let a1 := { a with hall.bulks := a.hall.bulks.filter (fun c => decide (c ≠ b)) }
    if b.opener then endRunning 0 .notPresent (Nat.min b.bytes (Config.bytesMoved a1.free)) 0 a1.draw else a1) s

/-- Table 9-5: every partner link is down now. -/
def partnerLost (before : Nat) (s : State) : State :=
  if before ≠ 0 ∧ partnerLinks s = 0 then watchHealth (s.setEvent U.sys Off.pairEvents 6) else s

/-- Table 12-5: the link leaves for `dest`, with all that hangs on it when it was UP. -/
def linkFalls (l : Nat) (dest : LinkSt) (s : State) : State :=
  let up := decide ((s.link l).st = .up)
  let before := partnerLinks s
  let s1 := (s.modLink l (fun k => { k with st := dest, since := s.now, badTimes := [], lateTimes := [], pad := 0, ackDue := none })).setEvent
    (U.link l) Off.linkEvents 0
  if !up then s1
  else
    let s2 := moveMessages l s1
    let s3 := if s.hall.refLink = some l then loseRef s2 else s2
    startCopies (dropBulks (partnerLost before (reportLink l false s3)))

/-- The state a link falls to: DISABLED while LINK_CTRL.ENABLE is 0. -/
def fallTo (s : State) (l : Nat) (dest : LinkSt) : LinkSt := if s.bitAt (U.link l) Off.linkCtrl 0 then dest else .disabled

/-- A link that trains or carries traffic. -/
def linkAlive (s : State) (l : Nat) : Bool :=
  decide ((s.link l).st = .training) || decide ((s.link l).st = .aligning) || decide ((s.link l).st = .up)

/-- R345, Table 12-5: a threshold, a lost lock, a timeout or a lost signal. -/
def execLinkDown (l : Fin 32) (cause : LinkCause) (s : State) : Host.Outcome State Fault Refusal :=
  let fall := fun (a : State) => if linkAlive a l.val then linkFalls l.val (fallTo a l.val .backoff) a else a
  match cause with
  | .noSignal =>
    let gone := fun (a : State) => a.modLink l.val (fun k => { k with cableKind := 0, cableLen := 0, cablePower := 0 })
    if (s.link l.val).st = .down ∨ (s.link l.val).st = .disabled then .next s
    else .next (gone (if (s.link l.val).st = .backoff then s.modLink l.val (fun k => { k with st := .down }) else linkFalls l.val (fallTo s l.val .down) s))
  | .badBurst => .next (if linkAlive s l.val then fall (s.setEvent (U.link l.val) Off.linkEvents 5) else s)
  | .svcTimeout => .next (if linkAlive s l.val then fall (s.setEvent (U.link l.val) Off.linkEvents 8) else s)
  | .retrain => .next (if linkAlive s l.val then linkFalls l.val (fallTo s l.val .training) s else s)
  | .errorRatio => .next (fall s)
  | .lockLost => .next (fall s)
  | .late => .next (fall s)

/-- Table 12-5: SER above 1 × 10⁻⁵ over 1 s (in 10⁻¹²): the link stays UP. -/
def execLinkDegraded (l : Fin 32) (ser : Nat) (s : State) : Host.Outcome State Fault Refusal :=
  let s1 := s.modLink l.val (fun k => { k with ser := ser })
  .next (if (s.link l.val).st = .up ∧ 10000000 < ser then event (U.link l.val) Off.linkEvents 4 s1 else s1)

/-! ### Training (R340 to R343) -/

/-- R342 step 1. -/
def execLinkSignal (l : Fin 32) (s : State) : Host.Outcome State Fault Refusal :=
  if (s.link l.val).st = .down ∧ s.bitAt (U.link l.val) Off.linkCtrl 0 then
    .next (s.modLink l.val (fun k => { k with st := .training, since := s.now, peerLocked := false, mismatch := false }))
  else .next s

/-- R340: a passive copper cable that reports more than 2 m. -/
def cableBad (k : Link) : Bool := decide (k.cableKind = 1) && decide (2 < k.cableLen)

/-- R342 steps 2 and 3: the cable is read and checked, and the link aligns. -/
def execCodewordLock (l : Fin 32) (kind length power : Nat) (s : State) : Host.Outcome State Fault Refusal :=
  let k := s.link l.val
  if k.st = .training ∧ s.now ≤ k.since + 200 * Config.ms then
    let k1 := { k with cableKind := kind, cableLen := length, cablePower := power }
    if cableBad k1 then .next ((s.setLink l.val { k1 with st := .backoff, since := s.now }).setEvent (U.link l.val) Off.linkEvents 9)
    else .next (s.setLink l.val { k1 with st := .aligning })
  else .next s

/-- R342: both ends are LOCKED. -/
def bothLocked (s : State) (l : Nat) : Bool := (isRoot s || s.hall.locked) && (s.link l).peerLocked

/-- R342: a step has missed its time. -/
def trainLate (s : State) (l : Nat) : Bool :=
  let k := s.link l
  match k.st with
  | .training => decide (k.since + 200 * Config.ms < s.now)
  | .aligning => (!bothLocked s l && decide (k.since + 340 * Config.ms < s.now)) || decide (k.since + 400 * Config.ms < s.now)
  | _ => false

/-- R342: BACKOFF, DOWN and one training failure. -/
def execLinkTrainTimeout (l : Fin 32) (s : State) : Host.Outcome State Fault Refusal :=
  if trainLate s l.val then
    .next ((s.modLink l.val (fun k => { k with st := .backoff, since := s.now, failures := k.failures + 1 })).setEvent (U.link l.val) Off.linkEvents 0)
  else .next s

/-- R353: TRAINED of a returning link against the LAT_CYCLES of the running hall image. -/
def latencyHigh (s : State) (l : Nat) : Bool :=
  s.hall.running && (match s.seqr.image with
    | some i => (ownHallLinks s i).any (fun e => decide (e.link = l) && decide (e.lat < comparedLatency s l))
    | none => false)

/-- R342 step 5, R343, R353: the link is UP. A partner link that returns puts a mirroring Relief into RELIEF_RESYNC. -/
def execLinkUp (l : Fin 32) (delay : Nat) (s : State) : Host.Outcome State Fault Refusal :=
  if (s.link l.val).st = .aligning ∧ bothLocked s l.val then
    let before := partnerLinks s
    let s1 := event (U.link l.val) Off.linkEvents 1
      (s.modLink l.val (fun k => { k with st := .up, upSince := s.now, delay := some delay, txSeq := 0, rxSeq := 0 }))
    -- R266: the service channel of the pair starts
    let s2 := if before = 0 ∧ partnerLinks s1 ≠ 0 then sendService 0x11 toPartnerOrd [4, pairId s1] (leaveMirror s1) else s1
    let s3 := if s2.hall.lostAt.isSome then loseRef s2 else s2
    if latencyHigh s3 l.val then .next (s3.setEvent (U.link l.val) Off.linkEvents 2)
    else
      let lat := match s3.seqr.image with | some i => ((ownHallLinks s3 i).find? (fun e => decide (e.link = l.val))).map (·.lat) | none => none
      let s4 := match lat with | some c => if s3.hall.running then s3.modLink l.val (fun k => { k with pad := c - trained s3 l.val }) else s3 | none => s3
      .next (reportLink l.val true s4)
  else .next s

/-- R341: 1 s after a failure; a cable that R340 holds stays in BACKOFF. -/
def execLinkBackoffEnd (l : Fin 32) (s : State) : Host.Outcome State Fault Refusal :=
  let k := s.link l.val
  if k.st = .backoff ∧ k.since + Config.sec ≤ s.now ∧ !cableBad k then
    .next (s.setLink l.val { k with st := fallTo s l.val .training, since := s.now, peerLocked := false, mismatch := false })
  else .next s

/-! ### Blocks (R338, R339, R343 to R345) -/

/-- Links 0 to 3 are partner links, unless the module stands in a hall of singles (R350, R352). -/
def isPartnerLink (s : State) (l : Nat) : Bool :=
  decide (l < 4) && (s.bitAt U.sys Off.hallCfg 8 || decide (imageOr s (·.modules) ≤ 1))

/-- R349, R350, R352: the peer's identity, as the control beat gives it. -/
def takeIdentity (l : Nat) (b : LinkBlockIn) (s : State) : State :=
  if b.forwarded then s
  else
    let pairs := s.bitAt U.sys Off.hallCfg 8
    let partner := isPartnerLink s l
    let mism := if partner then decide (b.peerLink ≠ l) || decide (b.peerSlot = s.pair.slot)
                else pairs && decide (b.peerSlot ≠ s.pair.slot)
    let clash := !partner && decide (b.peerOrd = s.fldOf U.sys Off.hallCfg 3 0)
    let s1 := s.modLink l (fun k => { k with
      peerOrd := b.peerOrd, peerLink := b.peerLink, peerSlot := b.peerSlot, peerDepth := b.peerDepth, peerLocked := b.peerLocked,
      mismatch := mism || clash, credits := b.credits, heard := some (b.hallCount, hallCount s) })
    let s2 := if mism then s1.setEvent (U.link l) Off.linkEvents 3 else s1
    if clash then s2.setEvent U.sys Off.hallEvents 3 else s2

/-- Table 12-9, PAIR_CTRL: the partner's handover offer, its pair ID, or the window it grants for a stage test; READY and a window asked for are
commands of their own. -/
def takePair (p : List Nat) (s : State) : State :=
  match p with
  | [0, leg, th] => if isRelief s then { s with pair.offer := some (leg, th, false) } else s
  | [3, c, f] => if isRelief s ∧ s.pair.testAsked = some c then s.modValve c (fun v => { v with window := some f }) else s
  | [4, id] => comparePairIds { s with pair.partnerId := some id }
  | _ => s

/-- R356 to R359: a service message: ACK_SEQ frees what waits; a RELIABLE message in order is acknowledged within 10 µs; one for
another ordinal is passed on unchanged. A repeated MSG_ID is discarded. -/
def takeMessage (l : Nat) (m : ServiceMsg) (s : State) : State :=
  let s1 := s.modLink l (fun k => { k with unacked := k.unacked.filter (fun u => decide (m.ackSeq.toNat < u.seq)) })
  let s2 := if m.reliable then s1.modLink l (fun k => { k with
      rxSeq := if m.seq.toNat = (k.rxSeq + 1) % 2 ^ 32 then m.seq.toNat else k.rxSeq,
      ackDue := some (k.ackDue.getD (s.now + 10 * Config.us)) }) else s1
  let id := (m.srcOrd, m.msgId.toNat)
  if (s2.link l).seenIds.elem id then s2
  else
    let s3 := s2.modLink l (fun k => { k with seenIds := id :: k.seenIds })
    if m.dstOrd = toPartnerOrd ∨ m.dstOrd = s.fldOf U.sys Off.hallCfg 3 0 then (if isPartnerLink s l && decide (m.type = 0x11) then takePair m.payload s3 else s3)
    else sendService m.type m.dstOrd m.payload s3

/-- R355: a fragment arrives: the first one begins a message, the last one completes it. -/
def takeFragment (l : Nat) (first last : Bool) (data : List Nat) (s : State) : State :=
  let all := if first then data else (s.link l).partial_ ++ data
  if last then
    let s1 := s.modLink l (fun k => { k with partial_ := [] })
    match messageOf all with | some m => takeMessage l m s1 | none => s1
  else s.modLink l (fun k => { k with partial_ := all })

/-- R355, R356: what the service beat of a block brings. -/
def takeService (l : Nat) (b : ServiceBeat) (s : State) : State :=
  match b with
  | .idle => s
  | .flash f => if isPartnerLink s l then chainFlash f s else s
  | .fragment first last data => takeFragment l first last data s

/-- R351: in a hall of pairs a block with scheduled beats that came directly on a hall link goes on to the partner. -/
def forwardBlock (l : Nat) (b : LinkBlockIn) (s : State) : State :=
  if s.bitAt U.sys Off.hallCfg 8 && b.scheduled && !b.forwarded && decide (4 ≤ l) then
    match lowestPartner s with
    | some j => s.emit (.forwarded j l b.hallCount)
    | none => s
  else s

/-- Table 12-5, R339: a failed block is counted, and the leg its scheduled beats serve fails; the eighth within 1 ms takes the link down. -/
def badBlock (l : Nat) (b : LinkBlockIn) (s0 : State) : State :=
  let s := if b.scheduled then poisonLeg 5 s0 else s0
  let s1 := if b.decoded then s else s.addCount (U.link l) Off.linkBad 31 16 1
  let s2 := if b.crcOk then s1 else s1.addCount (U.link l) Off.linkBad 15 0 1
  let times := (s.now :: (s.link l).badTimes).filter (fun t => decide (s.now ≤ t + Config.ms))
  if 8 ≤ times.length then linkFalls l (fallTo s l .backoff) (s2.setEvent (U.link l) Off.linkEvents 5)
  else s2.modLink l (fun k => { k with badTimes := times })

/-- R338, R339: a block arrives; a receiver acts only on one that decoded and whose CRC-32 passes. -/
def execLinkBlock (l : Fin 32) (b : LinkBlockIn) (s : State) : Host.Outcome State Fault Refusal :=
  let j := l.val
  if !linkAlive s j then .next s
  else
    let s0 := s.addCount (U.link j) Off.linkCw 31 0 b.corrected
    if !b.crcOk || !b.decoded then .next (badBlock j b s0)
    else
      let s1 := if b.poison then (if b.scheduled then poisonLeg 5 s0 else s0).setEvent (U.link j) Off.linkEvents 6 else s0
      let s2 := takeIdentity j b s1
      let s3 := if !isRoot s2 && decide (s2.hall.refLink = some j) && s2.hall.counted && !b.forwarded then
          checkCount (countFrom b.hallCount (hallCount s2) b.echoCount b.echoAge) (hallCount s2) s2
        else s2
      .next (forwardBlock j b (takeService j b.service s3))

/-- R344: a beat missed its delivery cycle and is delivered poisoned; two LATE blocks within 1 s take the link down. -/
def execBeatLate (l : Fin 32) (s : State) : Host.Outcome State Fault Refusal :=
  let j := l.val
  if (s.link j).st = .up then
    let s1 := ((poisonLeg 5 s).addCount (U.link j) Off.linkSvc 15 0 1).setEvent (U.link j) Off.linkEvents 7
    let times := (s.now :: (s.link j).lateTimes).filter (fun t => decide (s.now ≤ t + Config.sec))
    .next (if 2 ≤ times.length then linkFalls j (fallTo s j .backoff) s1 else s1.modLink j (fun k => { k with lateTimes := times }))
  else .next s

/-- R353: every link of a lower route set has been UP for 10 s. -/
def execRouteReturn (set : Fin 4) (s : State) : Host.Outcome State Fault Refusal :=
  match s.seqr.image with
  | none => .next s
  | some i =>
    let own := (ownHallLinks s i).filter (fun e => e.sets.getLsbD set.val)
    let upLong := own.all (fun e => hallLinkUp s e && decide ((s.link e.link).upSince + 10 * Config.sec ≤ s.now))
    .next (if isRoot s && s.hall.running && decide (set.val < s.seqr.routeSet) && routeHolds s i set.val && upLong && s.seqr.hallRoute.isNone
      then nameRoute set.val s else s)

/-! ### Service channel (R358) -/

/-- R358: the oldest message without ACK_SEQ 20 µs after it left is sent again, up to 8 times; then the link goes DOWN. -/
def execServiceRetransmit (l : Fin 32) (s : State) : Host.Outcome State Fault Refusal :=
  let j := l.val
  match (s.link j).unacked with
  | [] => .next s
  | m :: t =>
    if s.now < m.sentAt + 20 * Config.us then .next s
    else if m.resends < 8 then
      .next (((s.modLink j (fun k => { k with unacked := { m with resends := m.resends + 1, sentAt := s.now } :: t })).addCount
        (U.link j) Off.linkSvc 31 16 1).emit (.service m.type m.dst m.payload))
    else .next (linkFalls j (fallTo s j .backoff) (s.setEvent (U.link j) Off.linkEvents 8))

/-- R358: no ACK_SEQ sent for 10 µs. -/
def execAck (l : Fin 32) (s : State) : Host.Outcome State Fault Refusal :=
  match (s.link l.val).ackDue with
  | some t =>
    .next (if t ≤ s.now then (s.modLink l.val (fun k => { k with ackDue := none })).emit (.service 0x30 (s.link l.val).peerOrd [(s.link l.val).rxSeq]) else s)
  | none => .next s

/-! ### Bulk sessions (R360, R361) -/

/-- R360, R200: DELIVER_BY (0: none) can be met within the free shares of one link and of DRAM. -/
def bulkInTime (s : State) (bytes deliverBy : Nat) : Bool :=
  decide (deliverBy = 0) || (pathInTime s 5 bytes deliverBy && pathInTime s 1 bytes deliverBy)

/-- R361, R252: the module counts as lower than the peer; in a pair, slot A does. -/
def lowerThan (s : State) (ord : Nat) : Bool :=
  let own := s.fldOf U.sys Off.hallCfg 3 0
  if own = ord then decide (s.pair.slot = .a) else decide (own < ord)

/-- R360, R361: the answer to a BULK_OPEN. -/
def bulkAnswer (s : State) (ord bytes dst deliverBy : Nat) : Status :=
  let held := s.hall.bulks.filter (fun b => decide (b.ord = ord))
  let own := held.any (fun b => b.opener && !b.open_)
  let dram := match memOf dst with | .dram _ => true | _ => false
  if held.any (fun b => b.open_) then .busy
  else if own && lowerThan s ord then .yield
  else if !dram then .denied
  else if memGated s (memOf dst) then .domainDown
  else if !bulkInTime s bytes deliverBy then .deadlineUnmeetable
  else .ok

/-- R360: a peer opens a bulk session. -/
def execBulkOpen (ord : Nat) (session : BitVec 16) (bytes dst deliverBy : Nat) (s : State) : Host.Outcome State Fault Refusal :=
  let st := bulkAnswer s ord bytes dst deliverBy
  let s1 := sendService 0x21 ord [session.toNat, statusCode st] s
  .next (if st = .ok then
    { s1 with hall.bulks := s1.hall.bulks ++ [{ ord := ord, session := session, bytes := bytes, opener := false, open_ := true }] } else s1)

/-- R360, R361: the answer to the module's BULK_OPEN: open, or the descriptor ends with the status (YIELD queues it again, R144). -/
def execBulkReply (ord : Nat) (session : BitVec 16) (status : Status) (s : State) : Host.Outcome State Fault Refusal :=
  let mine := fun (b : Bulk) => b.opener && !b.open_ && decide (b.ord = ord) && decide (b.session = session)
  if !s.hall.bulks.any mine then .next s
  else if status = .ok then
    .next { s with hall.bulks := s.hall.bulks.map (fun b => if mine b then { b with open_ := true } else b) }
  else .next (startCopies (endRunning 0 status 0 0 { s with hall.bulks := s.hall.bulks.filter (fun b => !mine b) }))

/-- R360: the opener closes its session; a descriptor that waited for it may open now. -/
def execBulkClose (ord : Nat) (session : BitVec 16) (_status : Status) (_bytes : Nat) (s : State) : Host.Outcome State Fault Refusal :=
  let its := fun (b : Bulk) => !b.opener && decide (b.ord = ord) && decide (b.session = session)
  .next (startCopies { s with hall.bulks := s.hall.bulks.filter (fun b => !its b) })

end Sys2Proof.Machine
end

