-- ==== Sys2Proof/Machine/TimeOps.lean ====
section
/-! DEFINITION. R442: a step of the module time. Only the times of the frames move: every time at which something began or falls
due moves with them, so that no timer runs faster or slower. Times already written down (records, replies, receptions, leg
starts) and times promised in module time (previews, expected times, a handover's t_h) stay as they are. -/

namespace Sys2Proof.Machine

open Sys2Proof

/-- A time moved by `d`; 0 stands for a time that never was. -/
def sh (d : Int) (t : Time) : Time := if t = 0 then 0 else Nat.max 1 ((t : Int) + d).toNat

end Sys2Proof.Machine

namespace Sys2Proof

def Grant.shiftTime (d : Int) (x : Grant) : Grant := { x with
    leftAt := Machine.sh d x.leftAt }

def LeakRun.shiftTime (d : Int) (x : LeakRun) : LeakRun := { x with
    t0 := Machine.sh d x.t0, tv := x.tv.map (Machine.sh d), te := x.te.map (Machine.sh d), escalateAt := x.escalateAt.map (Machine.sh d),
    uncontainAt := x.uncontainAt.map (Machine.sh d) }

def ChanCmd.shiftTime (d : Int) (x : ChanCmd) : ChanCmd := { x with
    committed := Machine.sh d x.committed, planned := Machine.sh d x.planned, acceptedAt := Machine.sh d x.acceptedAt }

end Sys2Proof

namespace Sys2Proof.Machine

def Assoc.shiftTime (d : Int) (x : Assoc) : Assoc := { x with
    keyedAt := sh d x.keyedAt }

def Sub.shiftTime (d : Int) (x : Sub) : Sub := { x with
    sampledAt := x.sampledAt.map (sh d) }

def Session.shiftTime (d : Int) (x : Session) : Session := { x with
    lastPacket := sh d x.lastPacket, subs := x.subs.map (·.shiftTime d) }

def Accepted.shiftTime (d : Int) (x : Accepted) : Accepted := { x with
    committed := sh d x.committed }

def Reading.shiftTime (d : Int) (x : Reading) : Reading := { x with
    staleSince := sh d x.staleSince }

def Loop.shiftTime (d : Int) (x : Loop) : Loop := { x with
    insideSince := x.insideSince.map (sh d), lastBoundStep := sh d x.lastBoundStep, staleSince := x.staleSince.map (sh d) }

def RowState.shiftTime (d : Int) (x : RowState) : RowState := { x with
    condSince := x.condSince.map (sh d), okSince := x.okSince.map (sh d), since := sh d x.since, lastStep := sh d x.lastStep }

def Pump.shiftTime (d : Int) (x : Pump) : Pump := { x with
    vfdStatusAt := x.vfdStatusAt.map (sh d), sentAt := x.sentAt.map (sh d) }

def Rack.shiftTime (d : Int) (x : Rack) : Rack := { x with
    grants := x.grants.map (·.shiftTime d), raisedAt := x.raisedAt.map (sh d), alarmAt := sh d x.alarmAt,
    imbalanceSince := x.imbalanceSince.map (sh d), clearSince := x.clearSince.map (sh d), leak := x.leak.map (·.shiftTime d),
    teleAt := x.teleAt.map (sh d), sentAt := x.sentAt.map (sh d) }

def Valve.shiftTime (d : Int) (x : Valve) : Valve := { x with
    startAt := sh d x.startAt, relAt := sh d x.relAt, charges := x.charges.map (fun p => (sh d p.1, p.2)),
    cmd := x.cmd.map (·.shiftTime d), doneFrame := x.doneFrame.map (fun p => (sh d p.1, p.2)), window := x.window.map (sh d),
    testedAt := sh d x.testedAt }

def Motor.shiftTime (d : Int) (x : Motor) : Motor := { x with
    enteredAt := sh d x.enteredAt, faultSince := x.faultSince.map (sh d), lowSince := x.lowSince.map (sh d),
    runSince := x.runSince.map (sh d), lastPulse := sh d x.lastPulse, cmd := x.cmd.map (·.shiftTime d),
    doneFrame := x.doneFrame.map (fun p => (sh d p.1, p.2)) }

def Sense.shiftTime (d : Int) (x : Sense) : Sense := { x with
    sampledAt := sh d x.sampledAt, wetAt := x.wetAt.map (sh d), lastCal := sh d x.lastCal,
    calQueued := x.calQueued.map (sh d), calStart := x.calStart.map (sh d) }

def Pulse.shiftTime (d : Int) (x : Pulse) : Pulse := { x with
    lastPulse := sh d x.lastPulse }

def Analog.shiftTime (d : Int) (x : Analog) : Analog := { x with
    lowSince := x.lowSince.map (sh d) }

def Aux.shiftTime (d : Int) (x : Aux) : Aux := { x with
    switching := x.switching.map (fun p => (sh d p.1, p.2)), lastPps := sh d x.lastPps }

def Card.shiftTime (d : Int) (x : Card) : Card := { x with
    seenAt := sh d x.seenAt, lastFrame := sh d x.lastFrame }

def Copies.shiftTime (d : Int) (x : Copies) : Copies := { x with
    sched := x.sched.map (fun c => (c.1, c.2.1, sh d c.2.2)) }

def Seqr.shiftTime (d : Int) (x : Seqr) : Seqr := { x with
    legStart := sh d x.legStart, loading := x.loading.map (fun p => (p.1, sh d p.2.1, sh d p.2.2)),
    starting := x.starting.map (fun p => (sh d p.1, p.2)), restore := x.restore.map (fun p => (sh d p.1, p.2)) }

def Die.shiftTime (d : Int) (x : Die) : Die := { x with
    ueTimes := x.ueTimes.map (sh d) }

def Cluster.shiftTime (d : Int) (x : Cluster) : Cluster := { x with
    overdueSince := x.overdueSince.map (sh d), residues := x.residues.map (sh d), failTimes := x.failTimes.map (sh d),
    lastRound := sh d x.lastRound }

def Integ.shiftTime (d : Int) (x : Integ) : Integ := { x with
    lastReport := sh d x.lastReport, secondAt := sh d x.secondAt,
    push := x.push.map (fun p => (p.1, p.2.1, p.2.2.1, p.2.2.2.1, sh d p.2.2.2.2)),
    datumNext := x.datumNext.map (fun p => (p.1, sh d p.2)), lastMargin := sh d x.lastMargin,
    unresolved := x.unresolved.map (sh d), resetAt := x.resetAt.map (sh d), since := sh d x.since }

def Handover.shiftTime (d : Int) (x : Handover) : Handover := { x with
    acceptedAt := sh d x.acceptedAt }

def Pair.shiftTime (d : Int) (x : Pair) : Pair := { x with
    otherReleasedAt := sh d x.otherReleasedAt, lampSince := sh d x.lampSince, lastFlash := sh d x.lastFlash,
    flashPairAt := x.flashPairAt.map (sh d), flashChainAt := x.flashChainAt.map (sh d), outputAt := x.outputAt.map (sh d),
    health := x.health.map (fun p => (p.1, sh d p.2)), lastReportAt := sh d x.lastReportAt,
    handover := x.handover.map (·.shiftTime d), claimedAt := x.claimedAt.map (sh d), dropLamp := x.dropLamp.map (sh d) }

def Unacked.shiftTime (d : Int) (x : Unacked) : Unacked := { x with
    sentAt := sh d x.sentAt }

def Link.shiftTime (d : Int) (x : Link) : Link := { x with
    since := sh d x.since, badTimes := x.badTimes.map (sh d), lateTimes := x.lateTimes.map (sh d), upSince := sh d x.upSince,
    ackDue := x.ackDue.map (sh d), unacked := x.unacked.map (·.shiftTime d) }

def Hall.shiftTime (d : Int) (x : Hall) : Hall := { x with
    lostAt := x.lostAt.map (sh d) }

def Bus.shiftTime (d : Int) (x : Bus) : Bus := { x with
    busOffTimes := x.busOffTimes.map (sh d), offSince := x.offSince.map (sh d), swap := x.swap.map (fun p => (sh d p.1, p.2)) }

def AfterDue.shiftTime (d : Int) (x : AfterDue) : AfterDue := { x with
    due := sh d x.due }

def Logbook.shiftTime (d : Int) (x : Logbook) : Logbook := { x with
    after := x.after.map (·.shiftTime d), lastTrace := sh d x.lastTrace }

def Power_.shiftTime (d : Int) (x : Power_) : Power_ := { x with
    appliedAt := x.appliedAt.map (sh d), stepAt := sh d x.stepAt, sagSince := x.sagSince.map (sh d), saveAt := sh d x.saveAt,
    closing := x.closing.map (fun p => (p.1, sh d p.2.1, p.2.2)) }

def Ptp.shiftTime (d : Int) (x : Ptp) : Ptp := { x with
    lastSync := x.lastSync.map (sh d) }

def Fans.shiftTime (d : Int) (x : Fans) : Fans := { x with
    slowSince := x.slowSince.map (fun e => (e.1, e.2.map (sh d))) }

def Upd.shiftTime (d : Int) (x : Upd) : Upd := { x with
    verify := x.verify.map (fun p => (sh d p.1, sh d p.2.1, p.2.2)), activating := x.activating.map (sh d),
    lastMinute := sh d x.lastMinute }

def Firmware.shiftTime (d : Int) (x : Firmware) : Firmware := { x with
    lastBeat := sh d x.lastBeat, restarts := x.restarts.map (sh d), restartAt := x.restartAt.map (sh d) }

def Bmu.shiftTime (d : Int) (x : Bmu) : Bmu := { x with
    clockAt := x.clockAt + d, lastPulse := x.lastPulse.map (sh d), pressedAt := sh d x.pressedAt,
    sentAt := x.sentAt.map (sh d), session := x.session.map (sh d) }

def Plant.shiftTime (d : Int) (x : Plant) : Plant := { x with
    nextTick := sh d x.nextTick, loops := x.loops.map (fun e => (e.1, e.2.shiftTime d)),
    pumps := x.pumps.map (fun e => (e.1, e.2.shiftTime d)), rows := x.rows.map (fun e => (e.1, e.2.shiftTime d)),
    supplyP := x.supplyP.shiftTime d, dp := x.dp.shiftTime d, supplyT := x.supplyT.shiftTime d,
    returnT := x.returnT.shiftTime d, levels := x.levels.map (fun p => (sh d p.1, p.2)), fastSince := x.fastSince.map (sh d),
    slowSince := x.slowSince.map (sh d) }

def Broker.shiftTime (d : Int) (x : Broker) : Broker := { x with
    racks := x.racks.map (fun e => (e.1, e.2.shiftTime d)) }

def Vcp.shiftTime (d : Int) (x : Vcp) : Vcp := { x with
    assocs := x.assocs.map (·.shiftTime d), sessions := x.sessions.map (·.shiftTime d),
    accepted := x.accepted.map (·.shiftTime d) }

/-- Every timer of the state moved by `d` ns; the time itself is set by R442. -/
def State.shiftTime (d : Int) (x : State) : State := { x with
    vcp := x.vcp.shiftTime d, plant := x.plant.shiftTime d, broker := x.broker.shiftTime d,
    valves := x.valves.map (fun e => (e.1, e.2.shiftTime d)), motors := x.motors.map (fun e => (e.1, e.2.shiftTime d)),
    senses := x.senses.map (fun e => (e.1, e.2.shiftTime d)), pulses := x.pulses.map (fun e => (e.1, e.2.shiftTime d)),
    analogs := x.analogs.map (fun e => (e.1, e.2.shiftTime d)), auxs := x.auxs.map (fun e => (e.1, e.2.shiftTime d)),
    cards := x.cards.map (fun e => (e.1, e.2.shiftTime d)), seqr := x.seqr.shiftTime d,
    dies := x.dies.map (fun e => (e.1, e.2.shiftTime d)), clusters := x.clusters.map (fun e => (e.1, e.2.shiftTime d)),
    integ := x.integ.shiftTime d, copies := x.copies.shiftTime d, pair := x.pair.shiftTime d, links := x.links.map (fun e => (e.1, e.2.shiftTime d)),
    hall := x.hall.shiftTime d, buses := x.buses.map (fun e => (e.1, e.2.shiftTime d)), power := x.power.shiftTime d,
    ptp := x.ptp.shiftTime d, fans := x.fans.shiftTime d, upds := x.upds.map (fun e => (e.1, e.2.shiftTime d)),
    fw := x.fw.shiftTime d, log := x.log.shiftTime d, bmu := x.bmu.shiftTime d }

end Sys2Proof.Machine
end

