-- ==== Sys2Proof/Machine/Clocks.lean ====
section
/-! DEFINITION. PTP (R416, R417), module time (R441, R442), and faults of rails and clocks (R437, R440). -/

namespace Sys2Proof.Machine

open Sys2Proof

/-! ### PTP -/

/-- PTP_CFG.PORT_A and PORT_B. -/
def ptpPortOn (s : State) (p : InputId) : Bool := s.bitAt U.sys Off.ptpCfg (match p with | .a => 0 | .b => 1)

/-- R416: the port whose master ranks better gives the time; `better` says that this port's master ranks above the one in use.
Where two rank equal, MGMT_A is used. -/
def execPtpAnnounce (port : InputId) (better : Bool) (gmClass : BitVec 8) (s : State) : Host.Outcome State Fault Refusal :=
  if !ptpPortOn s port then .next s
  else if better || decide (s.ptp.port = port) || !ptpPortOn s s.ptp.port then
    .next { s with ptp := { s.ptp with port := port, gmClass := gmClass.toNat } }
  else .next s

/-- R441: a root steers towards zero offset by at most ±5 ppm (500 × 0.01 ppm) while LOCKING or LOCKED; how hard is free. -/
def steerTo (offset : Int) (s : State) : State :=
  if !isRoot s || s.power.backup then s
  else
    let n : Int := ((Config.steer s.free offset).natAbs % 501 : Nat)
    { s.draw with power.steer := if offset = 0 then 0 else if 0 < offset then -n else n }

/-- R417: LOCKING from the first Sync; LOCKED after 16 in a row below 1 000 ns. -/
def execPtpSync (port : InputId) (offset : Int) (pathDelay : Nat) (s : State) : Host.Outcome State Fault Refusal :=
  if !ptpPortOn s port || decide (s.ptp.port ≠ port) then .next s
  else
    let p := s.ptp
    let good := if offset.natAbs < 1000 then p.goodSyncs + 1 else 0
    let st := if p.st = 0 ∨ p.st = 3 then 1 else if p.st = 1 ∧ 16 ≤ good then 2 else p.st
    let n := if p.st = 0 ∨ p.st = 3 then (if offset.natAbs < 1000 then 1 else 0) else good
    .next (steerTo offset { s with ptp := { p with st := st, offset := offset, pathDelay := pathDelay, lastSync := some s.now, goodSyncs := n } })

/-- R417: no Sync for 5 s after LOCKED. -/
def execPtpHoldover (s : State) : Host.Outcome State Fault Refusal :=
  match s.ptp.lastSync with
  | some t => .next (if s.ptp.st = 2 ∧ t + 5 * Config.sec ≤ s.now then { s with ptp := { s.ptp with st := 3, goodSyncs := 0 } } else s)
  | none => .next s

/-! ### Module time -/

/-- R442: the sequencer runs nothing. -/
def seqrIdle (s : State) : Bool := decide (s.seqr.st = .empty) || decide (s.seqr.st = .loaded) || decide (s.seqr.st = .faulted)

/-- R442: a root steps its time by a whole multiple of 50 µs towards its master, and the remainder is steered. It first reports
reference depth 0xF for 20 ms; the first command starts that, and one that comes after it makes the step. -/
def execTimeStep (s : State) : Host.Outcome State Fault Refusal :=
  let off := s.ptp.offset
  if isRoot s && decide (1000000 ≤ off.natAbs) && seqrIdle s && s.vcp.accepted.isEmpty then
    match s.ptp.stepSince with
    | none => .next { s with ptp := { s.ptp with stepSince := some s.now } }
    | some t =>
      if s.now < t + 20 * Config.ms then .next s
      else
        let frames : Int := Int.tdiv off 50000
        let new := (max 0 ((s.now : Int) - frames * 50000)).toNat
        let d : Int := (new : Int) - s.now
        let s1 := s.shiftTime d
        let s2 := { s1 with now := new, frame := new / Config.frameNs, ptp := { s1.ptp with offset := off + d, stepSince := none } }
        .next (logWords Log.timeStep 16 [s.now, new] (s2.setEvent U.sys Off.pwrEvents 7))
  else .next { s with ptp := { s.ptp with stepSince := none } }

/-! ### Rails and clocks -/

/-- R437, Table 15-5: what a rail's fault does. -/
def execRailFault (r : Rail) (die : Option (Fin 24)) (s : State) : Host.Outcome State Fault Refusal :=
  if s.power.step = 0 then .next s
  else
    let s1 := s.setEvent U.sys Off.pwrEvents 4
    if r.val < 4 then .next (sagTrigger s1)
    else if r.val = 4 then .next (if s1.integ.resetAt.isSome then s1 else beginReset (holdOutputs s1))
    else if r.val = 5 then
      .next (forEach (upTo 32) (fun l a => if linkAlive a l then linkFalls l (fallTo a l .down) a else a) s1)
    else if r.val = 6 then .next s1
    else match die with
      | some d =>
        -- an uncorrectable fault of the die: it retires (R129) with the package reset (R246)
        let s2 := (chargeDie d.val s1).modDie d.val (fun k => { k with failed := true })
        .next (if s1.integ.resetAt.isSome then s2 else uncorrectable s1 s2)
      | none => .next s1

/-- R440: every clock switches to the backup; a Keeper with a healthy Relief asks for a handover. -/
def execRootFail (s : State) : Host.Outcome State Fault Refusal :=
  if s.power.backup then .next s
  else .next (askHandover (event U.sys Off.pwrEvents 6 { s with power := { s.power with backup := true } }))

/-- PWR_EVENTS.PLL_UNLOCK (Table 15-11). -/
def execPllUnlock (pllA : Bool) (s : State) : Host.Outcome State Fault Refusal :=
  let s1 := s.setEvent U.sys Off.pwrEvents 8
  .next (if pllA then { s1 with power.pllA := false } else s1)

end Sys2Proof.Machine
end

