-- ==== Sys2Proof/Machine/RegWrite.lean ====
section
/-! DEFINITION. WRITE and WRITE_GROUP (R399, R407, R409): who may write a register, what each register's chapter asks of a value,
and what an accepted write does. Every row of the table that names a register write runs through `registerWriteAt`. -/

namespace Sys2Proof.Machine

open Sys2Proof

/-! ### Who may write (R399, R153, R389, R272) -/

/-- Registers that only firmware writes (R153, R389): refused with DENIED for every role. -/
def firmwareOnly (u off : Nat) : Bool :=
  (decide (u = U.hub) && decide (0x100 ≤ off) && decide (off < 0x200))
  || (decide (unitClass u = 5) && (decide (off = Off.blFilter)
      || (decide (Off.blRxNewLo ≤ off) && decide (off ≤ Off.blTxFail))))

/-- R399: the selection registers. -/
def selectionReg (u off : Nat) : Bool :=
  (decide (u = U.sys) && decide (off = Off.grpSel)) || (decide (u = U.hub) && decide (off = Off.intClSel))

/-- The registers that may be written only in COMMISSION. -/
def commissionOnly (u off : Nat) : Bool :=
  match unitClass u with
  | 0 => [Off.sysPressureLimit, Off.hallCfg, Off.ptpCfg].elem off
      || (decide (0x400 ≤ off) && decide (off < 0x4C0) && decide ((off - 0x400) % 0x20 = Off.cardExpect))
  | 1 => decide (off = Off.vlvRole)
  | 2 => decide (off = Off.motIo)
  | 3 => if unitInst u < 64 then [Off.snsCfg, Off.snsScale, Off.snsPartner].elem off else decide (off = Off.plsCfg)
  | 4 => decide (off = Off.aoCfg)
  | 5 => [Off.blCtrl, Off.blNbt, Off.blDbt, Off.blTdc].elem off
  | 9 => decide (off = Off.loopSafe)
  | 10 => decide (0x100 ≤ off) && [0x00, 0x10, 0x14].elem (off % 0x20)
  | _ => false

/-- R399: what an OPERATOR may not write besides the registers of COMMISSION. -/
def engineerOnly (u off : Nat) : Bool :=
  match unitClass u with
  | 0 => decide (off = Off.vcpCtrl) || (decide (Off.grpMap ≤ off) && decide (off < Off.grpMap + 16))
  | 5 => decide (off = Off.blRecover)
  | 6 => decide (off = Off.linkCtrl)
  | 8 => decide (off = Off.dieCtrl) || (decide (u = U.hub) && [Off.intCtrl, Off.intMargin].elem off)
  | 10 => decide (off = Off.leakRelease)
  | 12 => decide (off = Off.updCtrl)
  | _ => false

/-- R399. -/
def mayWrite (e : Session) (u off : Nat) : Bool :=
  if firmwareOnly u off then false
  else match e.role with
    | .engineer => true
    | .operator => !commissionOnly u off && !engineerOnly u off
    | .vendorService => selectionReg u off || (decide (u = U.hub) && [Off.intCtrl, Off.intMargin].elem off)
        || (decide (unitClass u = 12) && decide (off = Off.updCtrl))
    | .rack => false
    | _ => selectionReg u off

/-- The INT_ registers, which Preman interprets (Table 14-6). -/
def intReg (u off : Nat) : Bool := decide (u = U.hub) && decide (0x300 ≤ off) && decide (off < 0x324)

/-- R272, R278, R251, R389, R422: the registers of its own that a module that is not Keeper lets a client write. -/
def reliefWrites (u off : Nat) : Bool :=
  let w1c := match findReg u off with | some r => decide (r.acc = .w1c) | none => false
  (decide (u = U.sys) && [Off.grpSel, Off.hwPanel].elem off)
  || (decide (unitClass u = 12) && decide (off = Off.updCtrl)) || (decide (unitClass u = 6) && decide (off = Off.linkCtrl))
  || (w1c && [0, 6, 8, 11, 12, 14].elem (unitClass u) && !intReg u off)

/-! ### Judging one register -/

/-- A write of one register as a request brings it. -/
structure Write where
  session : Session
  origin : Origin
  unit : Nat
  off : Nat
  value : Word

/-- What a register's rules make of a write. -/
inductive Judged
  | refuse (st : Status)
  /-- It takes effect in the frame of the write. -/
  | ok (effect : State → State)
  /-- R407: LOOP_SP_BAND or LOOP_OUT_BAND, as a POLICY_SET of one band. -/
  | band (b : BandEntry)
  /-- VLV_CMD or MOT_CMD, as its command. -/
  | command (a : Answer)

/-- A status where a condition fails; the first that fails counts. -/
def firstFail (l : List (Bool × Status)) : Option Status := (l.find? (fun e => !e.1)).map (·.2)

/-- The mode is COMMISSION. -/
def commissioning (s : State) : Bool := decide (s.plant.mode = .commission)

/-- A refusal, or the effect. -/
def judged (r : Option Status) (eff : State → State) : Judged :=
  match r with | some st => .refuse st | none => .ok eff

/-! #### System unit (class 0x0) -/

/-- GRP_SEL of the session as it stands now. -/
def grpOf (w : Write) (s : State) : Word :=
  match s.vcp.sessions.find? (fun e => decide (e.id = w.session.id)) with | some e => e.grpSel | none => w.session.grpSel

/-- A write to the session's own copy of a selection register. -/
def select (w : Write) (g : Session → Session) (s : State) : State :=
  { s with vcp.sessions := s.vcp.sessions.map (fun e => if e.id = w.session.id then g e else e) }

/-- The key of the class and group a session has selected, and GRP_MAP_m with a new word. -/
def groupKey (sel : Word) : Nat := fld sel 15 12 * 256 + fld sel 7 0
def putMap (m v old : Nat) : Nat := old % 2 ^ (32 * m) + v * 2 ^ (32 * m) + old / 2 ^ (32 * m + 32) * 2 ^ (32 * m + 32)

/-- The bits of word m that instances of the class have. -/
def mapFits (cls m v : Nat) : Bool := (upTo 32).all (fun b => !v.testBit b || decide (32 * m + b < classSize cls))

def writeGroupMap (w : Write) (m : Nat) (s : State) : State :=
  let key := groupKey (grpOf w s)
  let v := putMap m w.value.toNat (mget 0 s.vcp.groups key)
  toPartner (.group key v) { s with vcp.groups := mset 0 s.vcp.groups key v }

def judgeSys (w : Write) (s : State) : Judged :=
  let v := w.value
  let off := w.off
  let store := writeConfig w.unit off v
  if off = Off.hwFieldBudget then
    judged (firstFail [(between 100 3000 (fld v 15 0) && fieldFits (peakI s) (holdI s) (vlvRole s) (fld v 15 0), .badParam)]) store
  else if off = Off.hwPanel then .ok (setLocate 2 (bitOf v 0))
  else if off = Off.sysModeCtrl then judged (firstFail [(between 100 10000 (fld v 31 16), .badParam)]) store
  else if off = Off.sysPressureLimit then
    judged (firstFail [(commissioning s, .denied), (between 2000 9500 (fld v 15 0), .badParam),
      (between (fld v 15 0 + 500) 10000 (fld v 31 16), .badParam)]) store
  else if off = Off.pairCtrl then
    judged (firstFail [(decide (60 ≤ fld v 31 16), .badParam), (!bitOf v 2 || s.pair.joinReady, .denied)])
      (fun s => let s1 := writeConfig w.unit off (clrBit v 2) s; if bitOf v 2 then joinNow s1 else s1)
  else if off = Off.vcpCtrl then
    judged (firstFail [(bitOf v 0 || decide (w.session.port ≠ .service), .denied), (between 5 600 (fld v 31 16), .badParam)]) store
  else if off = Off.ptpCfg then judged (firstFail [(commissioning s, .denied), (decide (fld v 15 8 ≤ 127), .badParam)]) store
  else if off = Off.grpSel then
    judged (firstFail [(between 1 9 (fld v 15 12) || decide (fld v 15 12 = 0xC) || decide (fld v 15 12 = 0xE), .badParam),
      (decide (fld v 7 0 ≠ 255), .badParam)]) (select w (fun e => { e with grpSel := v }))
  else if Off.grpMap ≤ off ∧ off < Off.grpMap + 16 then
    judged (firstFail [(mapFits (fld (grpOf w s) 15 12) ((off - Off.grpMap) / 4) v.toNat, .badParam)]) (writeGroupMap w ((off - Off.grpMap) / 4))
  else if off = Off.hallCfg then judged (firstFail [(commissioning s, .denied)]) store
  else judged (firstFail [(commissioning s, .denied), (decide (fld v 7 0 ≤ 3), .badParam)]) store

/-! #### Valve channels (class 0x1, R295, R308, R309) -/

/-- R15, R309: VLV_ROLE. -/
def roleOk (s : State) (c : Nat) (v : Word) : Bool :=
  let role := fld v 3 0
  let idx := fld v 15 12
  decide (role ≤ 5) && (decide (2 ≤ role) || decide (idx = 0)) && (decide (role < 4) || decide (idx < 8))
    && (decide (role < 2) || valves96.all (fun d => decide (d = c) || decide (vlvRole s d ≠ role) || decide (vlvIndex s d ≠ idx)))
    && fieldFits (peakI s) (holdI s) (withAt (vlvRole s) c role) (fieldBudget s)

/-- R288, R293, R38 and the ranges of Tables 10-6 to 10-9. -/
def valveCfgOk (s : State) (c off : Nat) (v : Word) : Bool :=
  let u := U.vlv c
  let ms := s.fldOf u Off.vlvPeak 15 0
  if off = Off.vlvPeak then
    between 25 600 (fld v 31 16) && between 1 500 (fld v 15 0) && decide (holdI s c < fld v 31 16)
      && inPeak (s.fldOf u Off.vlvTtp 31 16) (fld v 15 0) && inPeak (s.fldOf u Off.vlvDipWin 31 16) (fld v 15 0)
      && decide (chargeOf (fld v 31 16) (fld v 15 0) ≤ s.fldOf u Off.vlvDuty 15 0)
      && fieldFits (withAt (peakI s) c (fld v 31 16)) (holdI s) (vlvRole s) (fieldBudget s)
  else if off = Off.vlvHold then
    between 5 200 (fld v 15 0) && decide (fld v 15 0 < peakI s c)
      && fieldFits (peakI s) (withAt (holdI s) c (fld v 15 0)) (vlvRole s) (fieldBudget s)
  else if off = Off.vlvTtp then decide (fld v 15 0 < fld v 31 16) && inPeak (fld v 31 16) ms
  else if off = Off.vlvDipWin then decide (fld v 15 0 < fld v 31 16) && inPeak (fld v 31 16) ms
  else if off = Off.vlvTestDip then decide (fld v 31 24 < fld v 23 16) && between 10 1000 (fld v 15 0)
  else between 1 60 (fld v 23 16) && decide (1 ≤ fld v 15 0) && decide (pullCharge s c ≤ fld v 15 0)

/-- A write of 1s clears events (R7). -/
def clearEvents (w : Write) (s : State) : State := s.setReg w.unit w.off (s.reg w.unit w.off &&& ~~~ w.value)

def judgeValve (w : Write) (s : State) : Judged :=
  let c := unitInst w.unit
  if w.off = Off.vlvCmd then
    .command (valveAnswer c { action := fld w.value 1 0, tag := BitVec.ofNat 16 (fld w.value 31 16), origin := w.origin } s)
  else if w.off = Off.vlvEvents then
    let trip := bitOf w.value 0 || bitOf w.value 8
    judged (firstFail [(!trip || inService s, .denied)])
      (fun s => let s1 := clearEvents w s; if trip then s1.modValve c (fun x => { x with tripped := false }) else s1)
  else if w.off = Off.vlvRole then
    judged (firstFail [(commissioning s, .denied), (roleOk s c w.value, .badParam)]) (writeConfig w.unit w.off w.value)
  else
    judged (firstFail [(inService s, .denied), (decide ((s.valve c).phase = .off), .busy), (valveCfgOk s c w.off w.value, .badParam)])
      (writeConfig w.unit w.off w.value)

/-! #### Motor channels (class 0x2, R320, R332) -/

def motorCfgOk (off : Nat) (v : Word) : Bool :=
  if off = Off.motKick then between 1 60000 (fld v 31 16) && between 500 10000 (fld v 15 0)
  else if off = Off.motTach then between 5 95 (fld v 31 24) && between 1 60 (fld v 23 16) && between 1 64 (fld v 7 0)
  else if off = Off.motRestart then between 1 600 (fld v 31 16) && decide (fld v 15 8 ≤ 15)
  else if off = Off.motRamp then between 1 1000 (fld v 31 16) && between 100 60000 (fld v 15 0)
  else decide (fld v 31 16 = 0) || decide (16 ≤ fld v 31 16)

/-- R12: a pump is driven through one path. -/
def motIoOk (s : State) (c : Nat) (v : Word) : Bool :=
  let p := fld v 2 0
  decide (fld v 9 8 ≤ 1) && (!bitOf v 7
    || (!(s.pump p).vfd && motors48.all (fun d => decide (d = c) || decide (pumpOfMotor s d ≠ some p))))

/-- R332, R320: clearing RESTARTS_EXHAUSTED returns a FAULTED channel to STOPPED; clearing ENCODER_FAULT returns the speed source
to the encoder, whose next index only sets the reference. -/
def clearMotor (c : Nat) (v : Word) (s : State) : State :=
  let s1 := if bitOf v 7 ∧ (s.motor c).st = .faulted then
      (motorTo 6 .stopped 0 c s).modMotor c (fun m => { m with failures := 0, target := 0 }) else s
  if bitOf v 6 then s1.modMotor c (fun m => { m with encFault := false, refValid := false, slipRun := 0 }) else s1

def judgeMotor (w : Write) (s : State) : Judged :=
  let c := unitInst w.unit
  let v := w.value
  if w.off = Off.motCmd then
    .command (motorAnswer c { action := fld v 0 0, tag := BitVec.ofNat 16 (fld v 31 16), speed := fld v 15 4, origin := w.origin } s)
  else if w.off = Off.motEvents then
    judged (firstFail [(!(bitOf v 7 || bitOf v 6) || inService s, .denied)]) (fun s => clearMotor c v (clearEvents w s))
  else if w.off = Off.motIo then
    judged (firstFail [(commissioning s, .denied), (motIoOk s c v, .badParam)]) (writeConfig w.unit w.off v)
  else
    judged (firstFail [(inService s, .denied), (decide ((s.motor c).st = .stopped), .busy), (motorCfgOk w.off v, .badParam)])
      (writeConfig w.unit w.off v)

/-! #### Sense and pulse inputs (class 0x3, R326, R333) -/

/-- SNS_CFG (Table 11-14): PARAM is free for the 2-wire types, a length for a leak cable, and 0 for the others. -/
def snsCfgOk (v : Word) : Bool :=
  let ty := fld v 31 28
  decide (ty ≤ 0xA) && decide (fld v 27 24 ≤ 3) && decide (fld v 23 20 ≤ 12)
    && (if ty = 1 ∨ ty = 4 then true else if ty = 9 then between 1 1500 (fld v 15 0) else decide (fld v 15 0 = 0))

/-- R326: CAL_NOW queues the input, of TYPE 1 to 8. -/
def queueCal (i : Nat) (s : State) : State :=
  if between 1 8 (snsType s i) ∧ (s.sense i).calQueued.isNone then s.modSense i (fun x => { x with calQueued := some s.now }) else s

def judgeSense (w : Write) (s : State) : Judged :=
  let i := unitInst w.unit
  let v := w.value
  let store := writeConfig w.unit w.off v
  if 64 ≤ i then
    judged (firstFail [(commissioning s, .denied), (decide (1 ≤ fld v 31 16) && decide (fld v 15 8 ≤ 100), .badParam)]) store
  else if w.off = Off.snsCal then
    judged (firstFail [(decide (fld v 31 16 = 0) || decide (60 ≤ fld v 31 16), .badParam)])
      (fun s => let s1 := writeConfig w.unit w.off (clrBit v 0) s; if bitOf v 0 then queueCal i s1 else s1)
  else
    judged (firstFail [(commissioning s, .denied), (decide (w.off ≠ Off.snsCfg) || snsCfgOk v, .badParam)]) store

/-! #### Analog outputs (class 0x4, R327, R334) -/

/-- A manual demand, with its ACTION record (R474). -/
def writeDemand (i : Nat) (w : Write) (s : State) : State :=
  let new := fld w.value 15 0
  (logAction w.unit 6 Act.set 16 (s.analog i).demand new w.origin.sequence s).modAnalog i (fun a => { a with demand := new })

def judgeAnalog (w : Write) (s : State) : Judged :=
  let i := unitInst w.unit
  let v := w.value
  if w.off = Off.aoCfg then
    judged (firstFail [(commissioning s, .denied),
      (decide (fld v 15 8 < 4) || decide (fld v 15 8 = 0xFF), .badParam), (decide (fld v 1 0 ≤ 1), .badParam)]) (writeConfig w.unit w.off v)
  else
    judged (firstFail [(inService s && decide (3 < s.fldOf w.unit Off.aoCfg 15 8), .denied), (decide (fld v 15 0 ≤ 10000), .badParam)])
      (writeDemand i w)

/-! #### Buoyline channels (class 0x5, R369 to R372, R386) -/

/-- R386: bus-off recovery is started by hand. -/
def recoverBus (c : Nat) (v : Word) (s : State) : State :=
  if bitOf v 0 ∧ (s.bus c).st = .busOff then s.modBus c (fun b => { b with recovering := true }) else s

/-- R372: fields of BL_CTRL besides ENABLE, TERM and RETRY. -/
def ctrlFixed (w : Word) : Word := w &&& ~~~ (0x00000F09 : Word)

def judgeBuoy (w : Write) (s : State) : Judged :=
  let u := w.unit
  let v := w.value
  let on := s.bitAt u Off.blCtrl 0
  let nbt := if w.off = Off.blNbt then v else s.reg u Off.blNbt
  let dbt := if w.off = Off.blDbt then v else s.reg u Off.blDbt
  let tdc := if w.off = Off.blTdc then v else s.reg u Off.blTdc
  if w.off = Off.blRecover then .ok (recoverBus (unitInst u) v)
  else if w.off = Off.blCtrl then
    judged (firstFail [(commissioning s, .denied), (!on || decide (ctrlFixed v = ctrlFixed (s.reg u Off.blCtrl)), .busy)]) (writeConfig u w.off v)
  else
    judged (firstFail [(commissioning s, .denied), (!on, .busy), (timingOk nbt dbt tdc, .badParam)]) (writeConfig u w.off v)

/-! #### Chain links (class 0x6, R364) -/

/-- R364: the links that a client may not take down. -/
def linkNeeded (s : State) (l : Nat) : Bool :=
  (s.hall.running && inRoute s l s.seqr.routeSet) || decide (s.hall.refLink = some l)
    || (partnerUp s l && decide (partnerLinks s = 2 ^ l))

/-- R364, R341: ENABLE and RETRAIN. -/
def writeLink (l : Nat) (v : Word) (s : State) : State :=
  let was := s.bitAt (U.link l) Off.linkCtrl 0
  let s1 := s.setReg (U.link l) Off.linkCtrl (clrBit v 1)
  if !bitOf v 0 then
    (if !was then s1 else if linkAlive s l then linkFalls l .disabled s1 else s1.modLink l (fun k => { k with st := .disabled }))
  else if !was then s1.modLink l (fun k => { k with st := .down, since := s.now })
  else if bitOf v 1 ∧ linkAlive s l then linkFalls l .training s1
  else s1

def judgeLink (w : Write) (s : State) : Judged :=
  let l := unitInst w.unit
  let down := bitOf w.value 1 || (!bitOf w.value 0 && s.bitAt w.unit Off.linkCtrl 0)
  judged (firstFail [(!(down && linkNeeded s l), .denied)]) (writeLink l w.value)

/-! #### Beacon outputs (class 0x7, R120) -/

/-- The MANUAL cause, with the ACTION record of the write (R474). -/
def writeBeacon (r : Nat) (w : Write) (s : State) : State :=
  let s1 := writeConfig w.unit w.off w.value s
  let c := beaconCauses s1 r
  let s2 := logAction w.unit 6 Act.beacon 16 (beaconCauses s r) c w.origin.sequence s1
  { s2 with plant.causes := mset 0 s2.plant.causes r c }

def judgeBeacon (w : Write) (s : State) : Judged :=
  judged (firstFail [(inService s, .denied)]) (writeBeacon (unitInst w.unit) w)

/-! #### Engine dies and the hub (class 0x8) -/

/-- R152: DIE_CTRL of a compute die; it reads back 0. -/
def writeDie (i : Nat) (v : Word) (s : State) : State :=
  if bitOf v 0 then askPlacement (s.modDie i (fun d => { d with retireReq := true }))
  else if bitOf v 1 then askPlacement (s.modDie i (fun d => { d with restoreReq := true }))
  else s

/-- R222, R214: TRV_CTRL; ordinal 0 passes it on. -/
def writeTrv (w : Write) (s : State) : State :=
  let s1 := writeConfig w.unit w.off w.value s
  if 1 < imageOr s (·.modules) ∧ s.fldOf U.sys Off.hallCfg 3 0 = 0 then sendHall [0, w.value.toNat] s1 else s1

/-- R251: the image holds a DUAL variant (index 0x400). -/
def dualOffered (s : State) : Bool := imageOr s (fun i => b2n (holdsVariant i 0x400)) = 1

def judgeDie (w : Write) (s : State) : Judged :=
  let i := unitInst w.unit
  let v := w.value
  let store := writeConfig w.unit w.off v
  if w.off = Off.dieCtrl then
    judged (firstFail [(decide (i < 16), .badParam), (decide (v = 0) || decide (s.plant.mode = .maintain), .denied),
      (decide (v ≠ 3) && (!bitOf v 1 || decide ((s.die i).st = 3)), .badParam)]) (writeDie i v)
  else if w.off = Off.trvCtrl then
    judged (firstFail [(decide (s.fldOf U.sys Off.hallCfg 3 0 = 0) || decide (imageOr s (·.modules) ≤ 1), .denied),
      (between 10 10000 (fld v 31 16), .badParam), (decide (fld v 15 0 = 0) || between 100 65000 (fld v 15 0), .badParam)]) (writeTrv w)
  else if w.off = Off.intCtrl then
    judged (firstFail [(bitOf v 2 || decide (s.plant.mode = .maintain), .denied),
      (decide (1 ≤ fld v 23 16) && between 6 60 (fld v 15 8), .badParam), (!bitOf v 0 || dualOffered s, .badParam)]) store
  else if w.off = Off.intClSel then
    judged (firstFail [(decide (fld v 4 0 ≤ 16), .badParam)]) (select w (fun e => { e with clSel := v }))
  else if w.off = Off.intMargin then
    judged (firstFail [(decide (fld v 31 16 = 0) || between 24 2160 (fld v 31 16), .badParam)]) store
  else .refuse .denied

/-! #### Plant loops (class 0x9, R64, R70, R73, R509) -/

/-- R73, R474: a manual write of LOOP_OUT. Instance 2 moves every rack's valve; instance 4 names the pumps that run. -/
def writeOut (l : Nat) (w : Write) (s : State) : State :=
  let v := fld w.value 15 0
  let s1 := (logAction w.unit 6 Act.set 16 (loopOut s l) v w.origin.sequence s).modLoop l (fun k => { k with manual := true })
  if l = 4 then
    forEach pumps8 (fun p a =>
      if v.testBit p then (if pumpDuty a p then a else joinDuty 6 p a)
      else if pumpDuty a p then leaveDuty 6 p (if (reservePump a).isSome then .idle else .reserve) a else a) s1
  else
    let s2 := s1.modLoop l (fun k => { k with target := v * outUnit })
    if l = 2 then forEach (upTo 16) (fun r a => a.modRack r (fun k => { k with target := v * outUnit })) s2 else s2

/-- The values LOOP_OUT takes: 0.1 %, on instance 2 no less than 10.0 % (R58), and on instance 4 pumps of the pump set. -/
def outOk (s : State) (l v : Nat) : Bool :=
  if l = 4 then decide (v < 256) && pumps8.all (fun p => !v.testBit p || decide ((s.pump p).use ≠ .none))
  else decide (v ≤ 1000) && (decide (l ≠ 2) || decide (100 ≤ v))

/-- LOOP_SP: the operator's base value, in force as the base while no loop source drives (R57, R69). -/
def writeSp (l : Nat) (w : Write) (s : State) : State :=
  (writeConfig w.unit w.off w.value s).modLoop l (fun k => { k with
    base := if engineDriven s || s.plant.fbLoops then k.base else none })

def spInRange (l : Nat) (v : Word) : Bool :=
  let x := sgn 16 (fld v 15 0)
  decide ((spRange l).1 ≤ x) && decide (x ≤ (spRange l).2)

/-- R509: the path of a tripped pump still reports its fault. -/
def pathFaulted (s : State) (p : Nat) : Bool :=
  if (s.pump p).vfd then
    (s.pump p).vfdTrip || (match (s.pump p).vfdStatusAt with | some t => decide (t + 500 * Config.ms < s.now) | none => true)
  else motors48.any (fun c => decide (pumpOfMotor s c = some p) && decide ((s.motor c).st = .faulted))

/-- R509: the pump is restored; with the last one the pump-trip row of Table 3-8 is released. -/
def restorePump (p : Nat) (s : State) : State :=
  let use : PumpUse := if (reservePump s).isSome then .idle else .reserve
  let s1 := stageAction 6 (fun a => a.modPump p (fun k => { k with use := use, tripped := false, vfdTrip := false })) s
  let s2 := if pumps8.any (fun q => (s1.pump q).tripped) then s1 else rowEnd .pumpTrip s1
  notifyEvent { unit := U.loop 4, status := .ok, time := s.now, eventReg := Off.loopPumpTrip, code := p } s2

/-- The band entry a write of a band register stands for. -/
def bandOf (l off : Nat) (v : Word) : BandEntry :=
  let lo : BitVec 16 := BitVec.ofNat 16 (fld v 15 0)
  let hi : BitVec 16 := BitVec.ofNat 16 (fld v 31 16)
  if off = Off.loopSpBand then { loop := BitVec.ofNat 8 l, mask := 1, spLo := lo, spHi := hi, outLo := 0, outHi := 0 }
  else { loop := BitVec.ofNat 8 l, mask := 2, spLo := 0, spHi := 0, outLo := lo, outHi := hi }

def judgeLoop (w : Write) (s : State) : Judged :=
  let l := unitInst w.unit
  let v := w.value
  let store := writeConfig w.unit w.off v
  if w.off = Off.loopCtrl then judged (firstFail [(decide (l = 4) || decide (1 ≤ fld v 15 8), .badParam)]) store
  else if w.off = Off.loopSp then judged (firstFail [(spInRange l v, .badParam)]) (writeSp l w)
  else if w.off = Off.loopOut then
    judged (firstFail [(inService s && (s.loop l).holders.isEmpty, .denied), (outOk s l (fld v 15 0), .badParam)]) (writeOut l w)
  else if w.off = Off.loopSpBand ∨ w.off = Off.loopOutBand then
    (if l < 4 ∧ bandEntryOk s [] (bandOf l w.off v) then .band (bandOf l w.off v) else .refuse .badParam)
  else if w.off = Off.loopFbGain then
    judged (firstFail [(decide (l < 2), .badParam), (!s.plant.fbLoops, .denied), (decide (1 ≤ fld v 31 16), .badParam)]) store
  else if w.off = Off.loopSafe then
    judged (firstFail [(decide (l < 4), .badParam), (commissioning s, .denied),
      (safeMargins l (bandLo s l Off.loopSpBand) (bandHi s l Off.loopSpBand) (sgn 16 (fld v 15 0)) (sgn 16 (fld v 31 16)), .badParam)]) store
  else
    judged (firstFail [(decide (l = 4) && pumpPath s (fld v 2 0) && (s.pump (fld v 2 0)).tripped, .badParam),
      (!pathFaulted s (fld v 2 0), .denied)]) (restorePump (fld v 2 0))

/-! #### The cap broker (class 0xA, R74, R117, R121, R122) -/

/-- R74: the cap of rack r inside a new rating and floor. -/
def capInside (s : State) (r : Nat) (v : Word) : Nat := Nat.max (fld v 15 0) (Nat.min (fld v 31 16) (s.rack r).cap)

/-- R74: the bounds, and the sums of floors and caps that the write would leave. -/
def rackCfgOk (s : State) (r : Nat) (v : Word) : Bool :=
  decide (fld v 15 0 ≤ fld v 31 16) && decide (fld v 31 16 ≤ 10000)
    && decide (sumRacks (withAt (floor s) r (fld v 15 0)) ≤ Nat.max s.broker.envelope (floorSum s))
    && decide (sumRacks (withAt (fun q => (s.rack q).cap) r (capInside s r v)) ≤ Nat.max s.broker.envelope (capSum s))

/-- R74: the rating and floor, and the cap moved into them with its SET grant. -/
def writeRackCfg (r : Nat) (w : Write) (s : State) : State :=
  let new := capInside s r w.value
  let s1 := writeConfig w.unit w.off w.value s
  if new = (s.rack r).cap then s1 else grantSet 6 new w.origin.sequence (grantLeaves s1) r s1.draw

/-- R122: CAP_RACK_LEAK_MAP. -/
def leakMapOk (s : State) (r : Nat) (v : Word) : Bool :=
  (decide (fld v 31 24 ≤ 63) || decide (fld v 31 24 = 0xFF)) && decide (fld v 11 0 ≤ fld v 23 12) && decide (fld v 23 12 ≤ 1500)
    && (upTo 16).all (fun q => decide (q = r) || !segmentsOverlap v (s.reg U.cap (Off.capRackLeakMap + 0x20 * q)))

/-- R121: a control register waits for the next leg boundary. -/
def writeCtrl (w : Write) (s : State) : State :=
  let s1 := writeConfig w.unit w.off w.value s
  { s1 with plant.ctrlNext := s1.plant.ctrlNext ++ [(w.off, w.value)] }

def judgeCap (w : Write) (s : State) : Judged :=
  let v := w.value
  let r := (w.off - 0x100) / 0x20
  if w.off = Off.capCtrl then judged (firstFail [(between 1 50 (fld v 15 8), .badParam)]) (writeCtrl w)
  else if w.off = Off.sightCtrl then
    judged (firstFail [(between 60 600 (fld v 31 16) && between 10 120 (fld v 15 0), .badParam)]) (writeCtrl w)
  else if w.off = Off.leakCtrl then
    judged (firstFail [(between 10 1000 (fld v 31 16) && between 10 2000 (fld v 15 0), .badParam)]) (writeCtrl w)
  else if w.off = Off.leakRelease then
    judged none id
  else if w.off % 0x20 = 0x00 then
    judged (firstFail [(commissioning s, .denied), (rackCfgOk s r v, .badParam)]) (writeRackCfg r w)
  else if w.off % 0x20 = 0x10 then
    judged (firstFail [(commissioning s, .denied), (leakMapOk s r v, .badParam)]) (writeConfig w.unit w.off v)
  else judged (firstFail [(commissioning s, .denied), (between 10 10000 (fld v 15 0), .badParam)]) (writeConfig w.unit w.off v)

/-! #### AUX pins (class 0xE, R329 to R331) -/

def judgeAux (w : Write) (s : State) : Judged :=
  let p := unitInst w.unit
  judged (firstFail [((s.aux p).switching.isNone, .busy), (auxOffers p (fld w.value 3 0), .badParam)]) (writeConfig w.unit w.off w.value)

/-! #### Any register -/

/-- R7, R8, R73: one register's write: read-only, RC and reserved bits first, then the rules of its unit. -/
def judgeWrite (w : Write) (s : State) : Judged :=
  match findReg w.unit w.off with
  | none => .refuse .badAddress
  | some r =>
    if unitClass w.unit = 9 ∧ w.off = Off.loopPumpTrip ∧ unitInst w.unit < 4 then .refuse .badParam
    else match r.acc with
    | .ro => .refuse .badAddress
    | .rc => .ok id
    | _ =>
      if w.value &&& r.reserved ≠ 0 then .refuse .badParam
      else if r.acc = .w1c ∧ unitClass w.unit ≠ 1 ∧ unitClass w.unit ≠ 2 then .ok (clearEvents w)
      else match unitClass w.unit with
        | 0 => judgeSys w s
        | 1 => judgeValve w s
        | 2 => judgeMotor w s
        | 3 => judgeSense w s
        | 4 => judgeAnalog w s
        | 5 => judgeBuoy w s
        | 6 => judgeLink w s
        | 7 => judgeBeacon w s
        | 8 => judgeDie w s
        | 9 => judgeLoop w s
        | 10 => judgeCap w s
        | 14 => judgeAux w s
        -- UPD_CTRL: AUTO_CONFIRM of the module's own unit (R470)
        | _ => .ok (fun s => s.setReg w.unit w.off w.value)

/-! ### WRITE (R407) -/

/-- What the judged registers of one request come to. -/
structure Batch where
  /-- The state with the accepted writes judged so far. -/
  tent : State
  /-- Their effects, in order. -/
  effect : State → State := id
  bands : List BandEntry := []
  /-- The latest committed time of a command among them. -/
  committed : Option Time := none
  /-- The refusals: index or instance, and status. -/
  bad : List (Nat × Status) := []
  good : Nat := 0

/-- Add an accepted write. -/
def Batch.add (b : Batch) (f : State → State) : Batch :=
  { b with tent := f b.tent, effect := fun s => f (b.effect s), good := b.good + 1 }

/-- Add a refusal. -/
def Batch.fail (b : Batch) (i : Nat) (st : Status) : Batch := { b with bad := b.bad ++ [(i, st)] }

/-- Add what one register's rules made of a write. -/
def Batch.take (b : Batch) (i : Nat) (j : Judged) : Batch :=
  match j with
  | .refuse st => b.fail i st
  | .ok f => b.add f
  | .band e => { b with bands := b.bands ++ [e], good := b.good + 1 }
  | .command (.refuse st _) => b.fail i st
  | .command (.status st _ _ _) => b.fail i st
  | .command (.done _ _ _) => b.add id
  | .command (.wait _) => b.add id
  | .command (.accept c _ _ f _) => { b.add f with committed := some (Nat.max c (b.committed.getD 0)) }

/-- The reply of a batch none of whose writes was refused: OK, or ACCEPTED where a command or a band is among them. -/
def Batch.answer (b : Batch) (u : Nat) (tag : BitVec 16) (o : Origin) (data : List Nat) (s : State) : Answer :=
  let late := if b.bands.isEmpty then b.committed else some (Nat.max (bandsBoundary s + Config.gapNs) (b.committed.getD 0))
  match late with
  | some c => .accept c u (if b.bands.isEmpty then tag else 0) (fun s => let s1 := b.effect s; if b.bands.isEmpty then s1 else queueBands o b.bands s1) data
  | none => .done (nextFrame s) data b.tent

/-- TAG of VLV_CMD and MOT_CMD. -/
def tagOf (v : Word) : BitVec 16 := BitVec.ofNat 16 (fld v 31 16)

/-- A WO command register in a range of several. -/
def commandIn (u off n : Nat) : Option Nat :=
  if n ≤ 1 then none
  else (upTo n).find? (fun i => match findReg u (off + 4 * i) with | some r => decide (r.acc = .wo) | none => false)

/-- R407: the registers of a range, judged in order, each in the state that the ones before it leave. -/
def writeAnswer (u off : Nat) (vs : List Word) (e : Session) (o : Origin) (s : State) : Answer :=
  if vs.length < 1 ∨ 16 < vs.length then .refuse .badParam 0
  else match commandIn u off vs.length with
    | some i => .refuse .badParam i
    | none =>
      let start : Batch := { tent := s }
      let b : Batch := vs.zipIdx.foldl (fun (b : Batch) x =>
        if b.bad.isEmpty then b.take x.2 (judgeWrite { session := e, origin := o, unit := u, off := off + 4 * x.2, value := x.1 } b.tent) else b) start
      match b.bad with
      | (i, st) :: _ => .refuse st i
      | [] => b.answer u (tagOf (vs.headD 0)) o [] s

/-- Checks 2 to 4 of a WRITE of `n` registers. -/
def writeOp (u off n : Nat) : Op :=
  let offs := (upTo n).map (fun i => off + 4 * i)
  { code := 0x11, unit := unitWithRegs u off n, role := fun _ e => offs.all (mayWrite e u),
    deck := !offs.all (intReg u), relief := offs.all (reliefWrites u) }

/-- R117: a release of a rack waits for the frame boundary at which it is judged against the leaks of its frame. -/
def releaseAsk (h : Hdr) (v : Word) (a : Answer) (s : State) : Answer :=
  match a with
  | .done _ _ _ => .wait { s with plant.releaseAsks := s.plant.releaseAsks ++ [(h, v)] }
  | a => a

/-- WRITE of a range of registers. -/
def writeRegs (h : Hdr) (off : Nat) (vs : List Word) (s : State) : State :=
  let u := h.unit.toNat
  vcp (writeOp u off (Nat.min 16 vs.length)) h (fun e s =>
    let a := writeAnswer u off vs e (originOf h e) s
    if u = U.cap ∧ off = Off.leakRelease then releaseAsk h (vs.headD 0) a s else a) s

/-- R117: a release that waited is judged. -/
def judgeRelease (h : Hdr) (v : Word) (s : State) : State :=
  vcpLate (writeOp U.cap Off.leakRelease 1) h (fun _ s =>
    if leakReleasable s (fld v 3 0) then .done s.now [] (releaseLeak (fld v 3 0) s) else .refuse .denied 0) s

/-- The releases of the frame that has ended, in their order. -/
def judgeReleases (s : State) : State :=
  forEach s.plant.releaseAsks (fun q a => judgeRelease q.1 q.2 a) { s with plant.releaseAsks := [] }

/-- WRITE of one register, at a fixed offset. -/
def registerWriteAt (h : Hdr) (off : Nat) (v : Word) (s : State) : State := writeRegs h off [v] s

/-! ### The site's configuration (log entry 103) -/

/-- R12, R14, R15, R19: it may be written only in COMMISSION, and what breaks a rule leaves the previous one in force. -/
def siteAnswer (i : SiteItem) (s : State) : Answer :=
  if !commissioning s then .refuse .denied 0
  else if !siteOk s i then .refuse .badParam 0
  else .done (nextFrame s) [] (toPartner (.site i) (writeSite i s))

/-- What R398 checks before: the system unit, and the role that writes what is written only in COMMISSION (R399). -/
def opSite (h : Hdr) : Op :=
  { code := 0x11, unit := fun _ _ => if h.unit.toNat = U.sys then none else some (.badAddress, 0), role := rolesEngineer, deck := true }

/-- R407: WRITE of registers, or of an item of the site's configuration, for which the manual names no register. -/
def execRegisterWrite (h : Hdr) (off : BitVec 16) (values : WriteBody) (s : State) : Host.Outcome State Fault Refusal :=
  .next (match values with
    | .words vs => writeRegs h off.toNat vs s
    | .site i => vcp (opSite h) h (fun _ s => siteAnswer i s) s)

/-! ### WRITE_GROUP (R9, R302, R409) -/

/-- The units of a class that have registers, in rising order. -/
def classUnits (cls : Nat) : List Nat := ((upTo (classSize cls)).map (unitOf cls)).filter unitExists

/-- The members of a group or of all units (R409). -/
def groupMembers (s : State) (u : Nat) : List Nat :=
  let cls := unitClass u
  if unitInst u = 0xFFF then
    (classUnits cls).filter (fun m => unitPresent s m && !(decide (cls = 8) && s.power.closed.elem (unitInst m)))
  else (upTo 128).filterMap (fun i =>
    if (mget 0 s.vcp.groups (cls * 256 + (unitInst u - 0xF00))).testBit i then some (unitOf cls i) else none)

/-- The unit whose register stands for the class. -/
def groupRep (u off : Nat) : Option Nat := (classUnits (unitClass u)).find? (fun m => (findReg m off).isSome)

/-- R9, R420: a group address of a class that has groups, and a register of some unit of the class. -/
def groupUnit (u off : Nat) : Option (Status × Nat) :=
  if !isGroup u || [0, 10, 11, 13, 15].elem (unitClass u) || (groupRep u off).isNone then some (.badAddress, 0) else none

/-- One member, judged as a WRITE of one register. -/
def judgeMember (e : Session) (o : Origin) (m off : Nat) (v : Word) (s : State) : Judged :=
  match unitWithRegs m off 1 s e with
  | some (st, _) => .refuse st
  | none =>
    if !mayWrite e m off then .refuse .denied
    else judgeWrite { session := e, origin := o, unit := m, off := off, value := v } s

/-- The accepted part of a batch with refusals takes effect; its commands and bands have no outcome of their own. -/
def Batch.part (b : Batch) (o : Origin) : State :=
  if b.bands.isEmpty then b.tent
  else
    let s := queueBands o b.bands b.tent
    { s with plant.bandsNext := s.plant.bandsNext.map (fun x => if x.2 = some o then (x.1, none) else x) }

/-- R409: each member is judged by its own register, reserved bits included: a mixed sense and pulse group with a bit that only some
members reserve is written where it is accepted, the model’s choice against R8 (log entry 104). -/
def groupAnswer (u off : Nat) (v : Word) (e : Session) (o : Origin) (s : State) : Answer :=
  let members := groupMembers s u
  if members.isEmpty then .refuse (if unitInst u = 0xFFF then .notPresent else .badParam) 0
  else
    let start : Batch := { tent := s }
    let b : Batch := members.foldl (fun (b : Batch) m => b.take (unitInst m) (judgeMember e o m off v b.tent)) start
    match b.bad with
    | [] => b.answer u (tagOf v) o [b.good, 0] s
    | (i, st) :: _ => .status st i [b.good, b.bad.length] (b.part o)

/-- What R398 checks for WRITE_GROUP before its own checks (Tables 14-3, 14-6, 16-2). -/
def opWriteGroup (h : Hdr) (off : BitVec 16) : Op :=
  let rep := (groupRep h.unit.toNat off.toNat).getD h.unit.toNat
  { code := 0x12, cap := some 5, unit := fun _ _ => groupUnit h.unit.toNat off.toNat, role := fun _ e => mayWrite e rep off.toNat,
    deck := !intReg rep off.toNat, relief := reliefWrites rep off.toNat }

/-- R409: WRITE_GROUP. -/
def execWriteGroup (h : Hdr) (off : BitVec 16) (value : Word) (s : State) : Host.Outcome State Fault Refusal :=
  .next (vcp (opWriteGroup h off) h
    (fun e s => groupAnswer h.unit.toNat off.toNat value e (originOf h e) s) s)

/-! ### The rows that name one register -/

/-- R26: HW_PANEL. -/
def execHwPanelWrite (h : Hdr) (value : Word) (s : State) : Host.Outcome State Fault Refusal := .next (registerWriteAt h Off.hwPanel value s)

/-- R73: LOOP_OUT. -/
def execLoopOutWrite (h : Hdr) (value : Word) (s : State) : Host.Outcome State Fault Refusal := .next (registerWriteAt h Off.loopOut value s)

/-- R327: AO_OUT. -/
def execAoOutWrite (h : Hdr) (value : Word) (s : State) : Host.Outcome State Fault Refusal := .next (registerWriteAt h Off.aoOut value s)

/-- R120: BEACON_CTRL. -/
def execBeaconCtrlWrite (h : Hdr) (value : Word) (s : State) : Host.Outcome State Fault Refusal :=
  .next (registerWriteAt h Off.beaconCtrl value s)

/-- R509: LOOP_PUMP_RESTORE. -/
def execLoopPumpRestore (h : Hdr) (value : Word) (s : State) : Host.Outcome State Fault Refusal :=
  .next (registerWriteAt h Off.loopPumpRestore value s)

/-- R117: LEAK_RELEASE. -/
def execLeakRelease (h : Hdr) (value : Word) (s : State) : Host.Outcome State Fault Refusal := .next (registerWriteAt h Off.leakRelease value s)

/-- R74: CAP_RACK_CFG_r. -/
def execRackCfgWrite (h : Hdr) (rack : Fin 16) (value : Word) (s : State) : Host.Outcome State Fault Refusal :=
  .next (registerWriteAt h (Off.capRackCfg + 0x20 * rack.val) value s)

/-- R152: DIE_CTRL.RETIRE. -/
def execDieRetire (h : Hdr) (s : State) : Host.Outcome State Fault Refusal := .next (registerWriteAt h Off.dieCtrl 1 s)

/-- R152: DIE_CTRL.RESTORE. -/
def execDieRestore (h : Hdr) (s : State) : Host.Outcome State Fault Refusal := .next (registerWriteAt h Off.dieCtrl 2 s)

/-- R277: PAIR_CTRL. -/
def execJoin (h : Hdr) (value : Word) (s : State) : Host.Outcome State Fault Refusal := .next (registerWriteAt h Off.pairCtrl value s)

/-- R364: LINK_CTRL.RETRAIN. -/
def execLinkRetrain (h : Hdr) (value : Word) (s : State) : Host.Outcome State Fault Refusal := .next (registerWriteAt h Off.linkCtrl value s)

/-- R364: LINK_CTRL.ENABLE. -/
def execLinkEnable (h : Hdr) (value : Word) (s : State) : Host.Outcome State Fault Refusal := .next (registerWriteAt h Off.linkCtrl value s)

/-- R386: BL_RECOVER. -/
def execBlRecover (h : Hdr) (value : Word) (s : State) : Host.Outcome State Fault Refusal := .next (registerWriteAt h Off.blRecover value s)

/-- R326: SNS_CAL. -/
def execCalNow (h : Hdr) (value : Word) (s : State) : Host.Outcome State Fault Refusal := .next (registerWriteAt h Off.snsCal value s)

/-- R330: AUX_CFG. -/
def execAuxCfgWrite (h : Hdr) (value : Word) (s : State) : Host.Outcome State Fault Refusal := .next (registerWriteAt h Off.auxCfg value s)

/-- R331: AUX_CFG with the function in force and a new OUT_LEVEL. -/
def execAuxOutLevel (h : Hdr) (level : Bool) (s : State) : Host.Outcome State Fault Refusal :=
  .next (registerWriteAt h Off.auxCfg (wd ((s.aux (unitInst h.unit.toNat)).func + 16 * b2n level)) s)

/-- R295: VLV_EVENTS. -/
def execTripClear (h : Hdr) (value : Word) (s : State) : Host.Outcome State Fault Refusal := .next (registerWriteAt h Off.vlvEvents value s)

/-- R332: MOT_EVENTS.RESTARTS_EXHAUSTED. -/
def execRestartsExhaustedClear (h : Hdr) (value : Word) (s : State) : Host.Outcome State Fault Refusal :=
  .next (registerWriteAt h Off.motEvents value s)

/-- R320, R332: MOT_EVENTS.ENCODER_FAULT. -/
def execEncoderFaultClear (h : Hdr) (value : Word) (s : State) : Host.Outcome State Fault Refusal :=
  .next (registerWriteAt h Off.motEvents value s)

/-- R251: INT_CTRL. -/
def execIntCtrlWrite (h : Hdr) (value : Word) (s : State) : Host.Outcome State Fault Refusal := .next (registerWriteAt h Off.intCtrl value s)

/-- R422: VCP_CTRL. -/
def execServiceEnClear (h : Hdr) (value : Word) (s : State) : Host.Outcome State Fault Refusal := .next (registerWriteAt h Off.vcpCtrl value s)

end Sys2Proof.Machine
end

