-- ==== Sys2Proof/Machine/Update.lean ====
section
/-! DEFINITION. Firmware and update (Ch. 16): Deck under Preman's watch, the stages of an update, trial, confirmation and
rollback. Each update unit k (class 0xC) holds the banks of the image kind with code k + 1 (Table 16-4). -/

namespace Sys2Proof.Machine

open Sys2Proof

/-! ### Deck (R451) -/

/-- R451, R401: accepted requests of Deck end with FAULTED; what had not begun does not begin (log entry 47). -/
def endDeckRequests (s : State) : State :=
  let ended := fun (o : Option Origin) => match o with
    | some q => s.vcp.accepted.any (fun a => a.deck && isOrigin q a)
    | none => false
  let s1 := forEach valves96 (fun c a => if (a.valve c).cmd.isSome then dropValveCmd c .faulted a else a) s
  let s2 := forEach motors48 (fun c a => if (a.motor c).cmd.isSome then endMotorCmd c .faulted a else a) s1
  let q := s2.seqr
  let s3 := { s2 with
    plant.bandsNext := s2.plant.bandsNext.filter (fun e => !ended e.2),
    seqr := { q with
      st := if q.st = .loading ∧ q.loadOrigin.isSome then .empty else if q.st = .starting then .loaded else q.st,
      loading := if q.loadOrigin.isSome then none else q.loading, starting := if q.st = .starting then none else q.starting,
      loadOrigin := none } }
  forEach ((s3.vcp.accepted.filter (·.deck)).map (·.origin)) (fun o a => endRequest o .faulted a) s3

/-- Preman halts the Deck cores: legs are withheld from now on (R68). -/
def haltDeck (s : State) : State := endDeckRequests { s with fw.deckUp := false }

/-- Preman halts Deck and restarts it from its active bank within 2 s. -/
def restartDeck (s : State) : State := haltDeck { s with fw.restartAt := some (s.now + 2 * Config.sec) }

/-- R451: Deck's heartbeat. The first one after a restart shows that Deck runs again, on the image in force. -/
def execDeckHeartbeat (s : State) : Host.Outcome State Fault Refusal :=
  .next (if s.fw.deckUp then { s with fw.lastBeat := s.now }
    else if s.fw.restartAt.isSome ∧ !s.fw.deckStopped ∧ s.power.llState ≠ 2 then
      comparePairIds { s with
        fw := { s.fw with deckUp := true, lastBeat := s.now, restartAt := none },
        pair.deckCompat := compatOf s 1 Config.deckCompat }
    else s)

/-- R451: 50 ms without a heartbeat: Deck is halted and restarted. A Deck that was restarted three times within 1 h outside trial
stays stopped, with NOTIFY FAULTED on the update unit of Deck. -/
def execDeckTimeout (s : State) : Host.Outcome State Fault Refusal :=
  if s.fw.deckUp ∧ 2 ≤ s.power.step ∧ s.fw.lastBeat + 50 * Config.ms ≤ s.now then
    if (s.upd 1).trial then .next (restartDeck s)
    else
      let recent := s.fw.restarts.filter (fun t => decide (s.now < t + Config.hour))
      if 3 ≤ recent.length then
        .next (notifyEvent { unit := U.upd 1, status := .faulted, time := s.now, eventReg := Off.updEvents }
          (haltDeck { s with fw := { s.fw with deckStopped := true, restartAt := none, restarts := recent } }))
      else .next (restartDeck { s with fw.restarts := s.now :: recent })
  else .next s

/-! ### Banks and images -/

/-- Table 16-4: the largest image of unit k [byte]. -/
def largestImage (k : Nat) : Nat :=
  match k with
  | 0 => 2 ^ 18
  | 1 => 500 * 2 ^ 20
  | 2 => 2 ^ 32
  | 6 => 2 ^ 15
  | _ => 2 ^ 22

/-- A download always goes to the other bank (R459). -/
def setOther (b : Bank) (u : Upd) : Upd := if u.activeB then { u with bankA := b } else { u with bankB := b }

def setActive (b : Bank) (u : Upd) : Upd := if u.activeB then { u with bankB := b } else { u with bankA := b }

/-- R460: the bytes of the chunk table, one SHA-384 per payload chunk, and of the payload. -/
def chunkBytes (m : Manifest) (table : Bool) : Nat := if table then ceilDiv m.imageLen 65536 * 48 else m.imageLen

/-- R460, R462: the bytes of piece `p` of chunk `c`; whether it is the last piece of its chunk; whether the chunk is the last. -/
def pieceLen (total c p : Nat) : Nat := Nat.min 8192 (Nat.min 65536 (total - c * 65536) - p * 8192)
def lastPiece (total c p : Nat) : Bool := decide (Nat.min 65536 (total - c * 65536) ≤ (p + 1) * 8192)
def lastChunk (total c : Nat) : Bool := decide (total ≤ (c + 1) * 65536)

/-- NEXT_CHUNK: [31] TABLE, [30:0] index. -/
def nextChunkWord (u : Upd) : Nat := b2n u.table * 2 ^ 31 + u.nextChunk % 2 ^ 31

/-- A second session downloads to the unit while the first stays open. -/
def otherDownloads (s : State) (e : Session) (k : Nat) : Bool :=
  let o := (s.upd k).owner
  decide (o ≠ 0) && decide (o ≠ e.id) && s.vcp.sessions.any (fun x => decide (x.id = o))

/-- What R398 checks for an update opcode; ROM recovery serves `rom` opcodes for the Preman unit (R454). -/
def updOp (code : Nat) (h : Hdr) (rom : Bool) : Op :=
  { code := code, unit := fun s _ => unitOfClass h.unit.toNat [12] s, role := rolesVendor, relief := true, rom := rom && decide (h.unit.toNat = U.upd 0) }

/-! ### Download (R461, R462) -/

/-- R461. -/
def beginAnswer (k : Nat) (restart : Bool) (m : Manifest) (e : Session) (s : State) : Answer :=
  let u := s.upd k
  let o := otherBank u
  if otherDownloads s e k then .refuse .busy 0
  else if (activeBank u).st = .trial then .refuse .updateState 0
  else if !m.wellFormed ∨ m.kind.toNat ≠ k + 1 ∨ largestImage k < m.imageLen ∨ 255 < m.securityVer then .refuse .badParam 0
  else
    let same := match o.man with
      | some n => (decide (o.st = .downloading) || decide (o.st = .unverified)) && decide (n.digest = m.digest)
      | none => false
    let u' : Upd := if same && !restart then { u with owner := if o.st = .downloading then e.id else 0, nextPiece := 0 }
      else if m.imageLen = 0 then setOther { st := .unverified, man := some m } { u with owner := 0, table := false, nextChunk := 0, nextPiece := 0 }
      else setOther { st := .downloading, man := some m } { u with owner := e.id, table := true, nextChunk := 0, nextPiece := 0 }
    -- a verification of the bank that is emptied stops, as R467 gives
    let s1 := match u.verify with
      | some (_, _, q) => if same && !restart then s else endRequest q .denied s
      | none => s
    .done s.now [nextChunkWord u'] (s1.setUpd k (if same && !restart then u' else { u' with verify := none }))

def execUpdateBegin (h : Hdr) (restart : Bool) (m : Manifest) (s : State) : Host.Outcome State Fault Refusal :=
  .next (vcp (updOp 0x80 h true) h (fun e s => beginAnswer (unitInst h.unit.toNat) restart m e s) s)

/-- R462: where the download stands after the last piece of a chunk that passes its check. -/
def chunkPassed (m : Manifest) (u : Upd) : Upd :=
  if lastChunk (chunkBytes m u.table) u.nextChunk then
    (if u.table then { u with table := false, nextChunk := 0, nextPiece := 0 }
     else setOther { st := .unverified, man := some m } { u with owner := 0, nextChunk := u.nextChunk + 1, nextPiece := 0 })
  else { u with nextChunk := u.nextChunk + 1, nextPiece := 0 }

/-- R462: a chunk that fails is expected again; a table that fails, from its chunk 0. -/
def chunkFailed (u : Upd) : Upd := { u with nextChunk := if u.table then 0 else u.nextChunk, nextPiece := 0 }

/-- R462: a check is due with the last piece of the whole table, and of each payload chunk. -/
def checkDue (m : Manifest) (u : Upd) : Bool := !u.table || lastChunk (chunkBytes m true) u.nextChunk

/-- R462. Every reply carries NEXT_CHUNK. -/
def chunkAnswer (k : Nat) (chunk : BitVec 32) (piece len : Nat) (hashOk : Bool) (e : Session) (s : State) : Answer :=
  let u := s.upd k
  let o := otherBank u
  let bad : Answer := .status .badParam 0 [nextChunkWord u] s
  if otherDownloads s e k then .status .busy 0 [nextChunkWord u] s
  else match o.st, o.man with
  | .downloading, some m =>
    let total := chunkBytes m u.table
    if chunk.toNat ≠ nextChunkWord u ∨ piece ≠ u.nextPiece ∨ len ≠ pieceLen total u.nextChunk piece then bad
    else
      let u1 := { u with owner := e.id }
      if !lastPiece total u.nextChunk piece then
        let u2 := { u1 with nextPiece := u.nextPiece + 1 }
        .done s.now [nextChunkWord u2] (s.setUpd k u2)
      else if checkDue m u && !hashOk then
        let u2 := chunkFailed u1
        .status .badParam 0 [nextChunkWord u2] ((s.setUpd k u2).setEvent (U.upd k) Off.updEvents 0)
      else
        let u2 := chunkPassed m u1
        .done s.now [nextChunkWord u2] (s.setUpd k u2)
  | _, _ => bad

def execUpdateChunk (h : Hdr) (chunk : BitVec 32) (piece : BitVec 8) (len : Nat) (hashOk : Bool) (s : State) :
    Host.Outcome State Fault Refusal :=
  .next (vcp (updOp 0x81 h true) h (fun e s => chunkAnswer (unitInst h.unit.toNat) chunk piece.toNat len hashOk e s) s)

/-! ### Verification (R463) -/

/-- R463: 1 s plus 4 s per GiB. -/
def verifyEnd (s : State) (m : Manifest) : Time := s.now + Config.sec + ceilDiv (4 * Config.sec * m.imageLen) (2 ^ 30)

/-- R463. -/
def verifyAnswer (k : Nat) (o : Origin) (s : State) : Answer :=
  let b := otherBank (s.upd k)
  match b.st, b.man with
  | .unverified, some m =>
    let t := verifyEnd s m
    .accept t (U.upd k) 0 (fun a => a.modUpd k (fun u =>
      setOther { st := .verifying, man := some m } { u with verify := some (s.now, t, o) }))
  | _, _ => .refuse .updateState 0

def execUpdateVerify (h : Hdr) (s : State) : Host.Outcome State Fault Refusal :=
  .next (vcp (updOp 0x82 h true) h (fun e s => verifyAnswer (unitInst h.unit.toNat) (originOf h e) s) s)

/-- R455: below the kind's counter, or an OWNER certificate below the EPOCH counter. -/
def belowCounter (s : State) (k : Nat) (m : Manifest) : Bool :=
  decide (m.securityVer < mget 0 s.fw.counters (counterOf k))
  || (match m.ownerEpoch with | some e => decide (e < mget 0 s.fw.counters 8) | none => false)

/-- The VERSION of the Preman image in force. -/
def premanVersion (s : State) : Nat :=
  match (activeBank (s.upd 0)).man with | some m => m.version.toNat | none => Config.premanVersion

/-- R457: the first trust-anchor image may be unsigned when it came from the service port in COMMISSION. -/
def unsignedAllowed (s : State) (k : Nat) (o : Origin) : Bool :=
  decide (k = 6) && !anchorsIn s && decide (s.plant.mode = .commission)
  && s.vcp.sessions.any (fun e => decide (e.id = o.session) && decide (e.port = .service))

/-- R467: a stage completion is stamped. -/
def stampStage (stage : Nat) (s : State) (u : Upd) : Upd := { u with stageDone := some (s.now / Config.frameNs, stage) }

/-- Table 16-4: the roles that may sign an image of unit k. -/
def signsKind (k : Nat) (g : ImgSigner) : Bool :=
  match g with
  | .firmware => decide (k = 0) || (decide (3 ≤ k) && decide (k ≤ 5))
  | .application => decide (k = 1) || decide (k = 2)
  | .owner => decide (k = 1) || decide (k = 2) || decide (k = 6)

/-- R452, R463: verification ends: VERIFIED, or REJECTED with its event. `signer` is the role of the signing certificate of a chain
and signature that pass. -/
def execUpdateVerifyDone (unit : Fin 7) (signed : Bool) (signer : Option ImgSigner) (hashOk : Bool) (s : State) : Host.Outcome State Fault Refusal :=
  let k := unit.val
  let u := s.upd k
  match u.verify, (otherBank u).man with
  | some (_, _, o), some m =>
    let ends := fun (st : BankSt) => s.setUpd k (stampStage 1 s (setOther { st, man := some m } { u with verify := none }))
    let rejected := fun (bit : Nat) => endRequest o .denied ((ends .rejected).setEvent (U.upd k) Off.updEvents bit)
    .next (
      if !(if signed then (match signer with | some g => signsKind k g | none => false) else unsignedAllowed s k o) then rejected 1
      else if belowCounter s k m then rejected 2
      else if premanVersion s < m.minPreman.toNat ∨ !hashOk then rejected 1
      else endRequest o .completed (ends .verified))
  | _, _ => .next s

/-! ### Activation (R464, Table 16-7) -/

/-- The cards of unit k's kind: 3 VDC-16, 4 MDC-8, 5 SNC-32. -/
def cardsOfKind (s : State) (k : Nat) : List Nat :=
  if 3 ≤ k ∧ k ≤ 5 then slots6.filter (fun j => decide ((s.card j).type = k - 2) && decide ((s.card j).st = .active)) else []

/-- A channel of an affected card is leak-held. -/
def kindLeakHeld (s : State) (k : Nat) : Bool :=
  (cardsOfKind s k).any (fun j => decide ((s.card j).type = 1) && (valvesOf j).any (fun c => (s.valve c).leakHeld))

/-- Table 16-7: the committed time of an activation of bank `b` of unit k, and of a rollback to it. -/
def activateEnd (s : State) (k : Nat) (b : Bank) : Time :=
  match k with
  | 0 => s.now + 3001000 * Config.us
  | 1 => s.now + 2001000 * Config.us
  | 2 => s.now + 2 * Config.sec
      + ceilDiv (4 * Config.sec * (match b.man with | some m => m.imageLen | none => 0)) (2 ^ 30) + 11000 * Config.us
  | 6 => nextFrame s
  | _ => s.now + (cardsOfKind s k).length * 3001000 * Config.us

/-- Table 16-7: a Preman that is activated restarts its hub from start-up step 2; a Keeper saves its last-light record first. -/
def restartPreman (s : State) : State :=
  let s1 := if isKeeper s then
      { s with power := { s.power with saved := some { recordOf s with phaseB := true, tail := tailOf 1048576 s.log.ring },
                                       older := s.power.saved, slotB := !s.power.slotB } }
    else s
  hubReset s1

/-- Table 16-7: the traverse stops at the next leg boundary, and the bank in force is loaded. -/
def restartTraverse (s : State) : State :=
  match s.seqr.st with
  | .running => { s with seqr.stopAt := match s.seqr.stopAt with | some n => some (Nat.min n (s.seqr.leg + 1)) | none => some (s.seqr.leg + 1) }
  | .restoring => stopTraverse s
  | .starting => loadActivated ({ s with seqr := { s.seqr with st := .loaded, starting := none } })
  | _ => loadActivated s

/-- Table 16-7, R469: what happens to the running kind when another of its banks comes into force. Cards are written the image of a
trial, and start from their previous bank by themselves when the module rolls back. -/
def restartKind (k : Nat) (s : State) : State :=
  match k with
  | 0 => restartPreman s
  | 1 => restartDeck s
  | 2 => restartTraverse s
  | 6 => s
  | _ => match cardsOfKind s k with
    | j :: _ => if (s.upd k).trial then flashCard j s else enumerate j s.now (s.modCard j (fun c => { c with newFw := false }))
    | [] => s

/-- The boot record of an activation: ACTIVE_BANK, TRIAL = 1, BOOTS_LEFT = 3. -/
def toTrial (u : Upd) : Upd :=
  let old := activeBank u
  let new := otherBank u
  let u1 := setOther { new with st := .trial } (setActive { old with st := if old.st = .active then .verified else old.st } u)
  { u1 with activeB := !u.activeB, trial := true, bootsLeft := 3, healthy := 0 }

/-- R464: the commit, and the effects of Table 16-7. -/
def activate (k : Nat) (o : Origin) (until_ : Time) (s : State) : State :=
  let s1 := s.modUpd k (fun u => { stampStage 2 s (toTrial u) with activating := some until_, lastMinute := s.now })
  markTimed o (restartKind k (issueAlias (s1.setEvent (U.upd k) Off.updEvents 3)))

/-- R464 check 1. A kind that was never updated has no ACTIVE bank yet, and in ROM recovery none that runs (log entry 43). -/
def mayActivate (s : State) (k : Nat) : Bool :=
  let u := s.upd k
  decide ((otherBank u).st = .verified)
  && (decide ((activeBank u).st = .active) || decide ((activeBank u).st = .empty) || (decide (k = 0) && s.power.recovery))

/-- R464. -/
def activateAnswer (k : Nat) (force : Bool) (o : Origin) (s : State) : Answer :=
  if !mayActivate s k then .refuse .updateState 0
  else if isKeeper s && reliefHealthy s && !force then .refuse .denied 0
  else if decide (3 ≤ k ∧ k ≤ 5) && ((isKeeper s && decide (s.plant.mode ≠ .maintain)) || kindLeakHeld s k) then .refuse .denied 0
  else
    let t := activateEnd s k (otherBank (s.upd k))
    .accept t (U.upd k) 0 (activate k o t)

def execUpdateActivate (h : Hdr) (flags : BitVec 8) (s : State) : Host.Outcome State Fault Refusal :=
  .next (vcp (updOp 0x83 h true) h (fun e s => activateAnswer (unitInst h.unit.toNat) (flags.getLsbD 0) (originOf h e) s) s)

/-! ### Trial, confirmation and rollback (R465 to R467) -/

/-- R465: the kind falls back to its previous bank, with ROLLBACK and NOTIFY FAULTED; the certificate is issued again (R456). -/
def rollUnit (k : Nat) (s : State) : State :=
  eventWith .faulted 0 none (U.upd k) Off.updEvents 5 (issueAlias ((s.modUpd k rollBank)))

/-- R465: an image in trial is about to start: it uses one boot, or the kind rolls back when none is left. -/
def execTrialBoot (unit : Fin 7) (s : State) : Host.Outcome State Fault Refusal :=
  let k := unit.val
  let u := s.upd k
  .next (
    if !u.trial then s
    else if u.bootsLeft = 0 then
      let s1 := rollUnit k s
      -- Preman, Deck and a card start from the previous bank as they restart; a traverse is loaded from it
      if k = 0 then issueAlias (formCdi { s1 with pair.premanCompat := compatOf s1 0 Config.premanCompat })
      else if k = 2 then restartTraverse (s1.modUpd 2 (fun u => { u with activating := some s.now })) else s1
    else (s.setUpd k { u with bootsLeft := u.bootsLeft - 1, healthy := 0, lastMinute := s.now }).setEvent (U.upd k) Off.updEvents 4)

/-- R466: confirmation, in its order. -/
def confirm (k : Nat) (s : State) : State :=
  let u := s.upd k
  let a := activeBank u
  let s1 := (s.setUpd k (stampStage 3 s (setActive { a with st := .active } { u with trial := false, bootsLeft := 0 }))).setEvent
    (U.upd k) Off.updEvents 6
  let s2 := advanceFor k s1
  let p := otherBank (s2.upd k)
  issueAlias <| match p.st, p.man with
  | .empty, _ => s2
  | _, some m => s2.modUpd k (setOther { p with st := if belowCounter s2 k m then .rejected else .verified })
  | _, none => s2.modUpd k (setOther { p with st := .verified })

/-- R466. -/
def mayConfirm (s : State) (k : Nat) : Bool := (s.upd k).trial && decide (30 ≤ (s.upd k).healthy)

def confirmAnswer (k : Nat) (s : State) : Answer :=
  if mayConfirm s k then .done s.now [] (confirm k s) else .refuse .updateState 0

def execUpdateConfirm (h : Hdr) (s : State) : Host.Outcome State Fault Refusal :=
  .next (vcp (updOp 0x84 h false) h (fun _ s => confirmAnswer (unitInst h.unit.toNat) s) s)

/-- The image of unit k runs. -/
def kindRuns (s : State) (k : Nat) : Bool :=
  match k with
  | 1 => s.fw.deckUp
  | 2 => legsRun s
  | _ => decide (2 ≤ s.power.step)

/-- R465, R466: a minute in trial without a trial boot; at 30 of them the module confirms by itself with AUTO_CONFIRM = 1. -/
def execHealthyMinute (unit : Fin 7) (s : State) : Host.Outcome State Fault Refusal :=
  let k := unit.val
  let u := s.upd k
  if u.trial && kindRuns s k && decide (u.lastMinute + 60 * Config.sec ≤ s.now) then
    let s1 := s.setUpd k { u with healthy := sat 0xFFFF (u.healthy + 1), lastMinute := s.now }
    .next (if s1.bitAt (U.upd k) Off.updCtrl 0 && mayConfirm s1 k then confirm k s1 else s1)
  else .next s

/-- R467: the download or the verified image is dropped. -/
def abortBank (k : Nat) (s : State) : State :=
  (s.modUpd k (fun u => setOther {} { u with owner := 0, table := false, nextChunk := 0, nextPiece := 0 })).setEvent
    (U.upd k) Off.updEvents 8

/-- R467: the trial ends without waiting for a boot: the kind restarts on its previous bank. -/
def abortTrial (k : Nat) (until_ : Time) (s : State) : State :=
  restartKind k (((rollUnit k s).modUpd k (fun u => { u with activating := some until_ })).setEvent (U.upd k) Off.updEvents 8)

/-- R467: the stage whose completion is stamped in `frame`. -/
def stageJustDone (frame : Nat) (u : Upd) : Option Nat :=
  match u.stageDone with
  | some (f, n) => if f = frame then some n else none
  | none => none

/-- R467: the abort of a unit with no stage completing in the frame. -/
def abortNow (k : Nat) (o : Origin) (s : State) : Answer :=
  let u := s.upd k
  let b := otherBank u
  let t := activateEnd s k b
  if u.trial then .accept t (U.upd k) 0 (fun a => markTimed o (abortTrial k t a))
  else match b.st with
  | .verifying =>
    let s1 := abortBank k (s.modUpd k (fun u => { u with verify := none }))
    .done s.now [] (match u.verify with | some (_, _, q) => endRequest q .denied s1 | none => s1)
  | .downloading => .done s.now [] (abortBank k s)
  | .unverified => .done s.now [] (abortBank k s)
  | .verified => .done s.now [] (abortBank k s)
  | _ => .refuse .updateState 0

/-- R467: what a late abort does to the state that the stage left. -/
def abortLate (k stage : Nat) (s : State) : State :=
  if stage = 3 then s
  else if (s.upd k).trial then abortTrial k (activateEnd s k (otherBank (s.upd k))) s
  else if (otherBank (s.upd k)).st = .verified then abortBank k s
  else s

/-- R467: the arbitration of `frame`: a stage that completes in it wins, and the abort then applies to what it left. -/
def abortAnswer (k : Nat) (o : Origin) (frame : Nat) (s : State) : Answer :=
  match stageJustDone frame (s.upd k) with
  | some n => .status .alreadyComplete 0 [] (abortLate k n s)
  | none => abortNow k o s

/-- R467: an UPDATE_ABORT waits for the arbitration point of its frame. -/
def execUpdateAbort (h : Hdr) (s : State) : Host.Outcome State Fault Refusal :=
  .next (vcp (updOp 0x85 h false) h (fun _ s => .wait { s with fw.aborts := s.fw.aborts ++ [h] }) s)

/-- R467: the one arbitration point of the update units at the end of `frame`. -/
def judgeUpdAborts (frame : Nat) (s : State) : State :=
  forEach s.fw.aborts (fun h a => vcpLate (updOp 0x85 h false) h (fun e a => abortAnswer (unitInst h.unit.toNat) (originOf h e) frame a) a)
    { s with fw.aborts := [] }

end Sys2Proof.Machine
end

