-- ==== Sys2Proof/Machine/Frame.lean ====
section
/-! DEFINITION. CARD_BUS_FRAME (R310): the work of one 50 µs frame in its order. -/

namespace Sys2Proof.Machine

open Sys2Proof

/-- R264 step 3: after t_h the module that hands over commands and forwards no frame. -/
def leavesPlant (s : State) : Bool := match s.pair.handover with | some h => h.ready && decide (h.th < s.now) | none => false

/-- What comes first in a frame of the Keeper: the limits of Table 3-8, then the module's own transitions (R52, R62). -/
def keeperLimits (s : State) : State := if !isKeeper s || leavesPlant s then s else ownTransitions (evalRows s)

/-- What only the Keeper does in a frame: it runs the plant (Table 9-2). Currents that the frame's commands release count in the
field sum until the next frame (R39). -/
def keeperFrame (s : State) : State :=
  if !isKeeper s || leavesPlant s then s
  else
    let s1 := frameLeaks (settleNoAck s)
    framePulls s1 (frameCommands s1) |> frameMotorCmds |> frameRamp |> frameOutputs |> frameBands |> completeTimed

/-- R116, R289: what is forwarded of a channel's pull-in. -/
def valveCopy (s : State) (c : Fin 96) : ValveCopy :=
  let v := s.valve c.val
  { ch := c, startAt := v.startAt, peak := decide (v.phase = .peak), reflex := v.reflex, leakHeld := v.leakHeld, peakSeen := v.peakSeen,
    dipFound := v.dipFound, judged := v.judged, ttpDone := v.ttpDone, openSince := v.openSince, last := s.reg (U.vlv c.val) Off.vlvLast }

/-- R267, R269: the Keeper forwards the frame it received and the frame it is about to transmit: what each output is commanded
to, with its pull-ins, LOOP_SP_ACTIVE of loops 0 and 1 without provisional components, and the plant's events in force. -/
def mirrorFrame (values : List (Nat × InputVal)) (s : State) : State :=
  if isKeeper s && decide (partnerLinks s ≠ 0) && !leavesPlant s then
    let on := fun (c : Fin 96) => decide ((s.valve c.val).phase = .peak) || decide ((s.valve c.val).phase = .held)
    let vs := (List.finRange 96).map (fun c => CardChannel.valve c (on c))
    let ms := (List.finRange 48).map (fun c => CardChannel.motor c (motRuns (s.motor c.val).st) ((s.motor c.val).command / outUnit).toNat)
    let as_ := (List.finRange 16).map (fun c => CardChannel.ao c (s.analog c.val).demand)
    let pulls := ((List.finRange 96).filter (fun c => on c || (s.valve c.val).leakHeld)).map (valveCopy s)
    let clean := fun (l : Nat) => (s.loop l).spBase.getD (s.loop l).spActive
    let events := MirrorItem.plantEvents ((allRows ++ racks16.map ReflexRow.rackFlowCap ++ [ReflexRow.pumpTrip]).filter (fun r => (s.row r).active))
      ([0, 1, 2, 3, 4].map (fun l => (s.loop l).holders)) s.plant.safetyAll
      (s.broker.prov.map (fun p => (p.act, p.logSeq, p.noticed))) s.broker.sightings
    toPartner (.outputFrame (vs ++ ms ++ as_) pulls (clean 0) (clean 1))
      (mirrorQueue id (toPartner events (toPartner (.inputFrame s.frame values) s)))
  else s

/-- R190: what the frame that ended at `now` received, newest first: the uplinks, complete at its end, and the logged Buoyline frames. -/
def frameValues (up : List Uplink) (s : State) : List (Nat × InputVal) :=
  (up.map (fun u => (s.now, InputVal.uplink u))).reverse ++ s.frameLog.map (fun e =>
    (e.2.1.time, InputVal.can ⟨e.1 % 6, Nat.mod_lt _ (by decide)⟩ e.2.1.frame e.2.2))

/-- R190, Table 9-8: a Relief builds its input sets from what its Keeper forwards; every other module from what it received. While no
legs run, only what the first leg may still take is kept. -/
def gatherInputs (values : List (Nat × InputVal)) (s : State) : State :=
  let own := if isRelief s then s.seqr.inputs else values ++ s.seqr.inputs
  { s with seqr.inputs := if legsRun s then own else own.filter (fun e => decide (s.now < e.1 + legNs s)) }

/-- R310, R312: the state in which the requests that waited are judged: the decisions on caps of the frame that ends are carried out
(R90), time reaches the boundary, the uplinks of that frame are taken, the limits are evaluated, and the module's own transitions
are made (R52). -/
def frameBefore (up : List Uplink) (s : State) : State :=
  let f := s.now / Config.frameNs + 1
  let s0 := handoverEnds { settleCaps s with now := f * Config.frameNs, frame := f - 1 }
  let taken := forEach up uplink (gatherInputs (frameValues up s0) (forEach slots6 (fun k a => a.modCard k (fun c => { c with segBad := false })) s0))
  let s1 := { judgeUpdAborts (f - 1) (judgeAborts (f - 1) (processValues (staleSenses (serviceFrame up (takeLog taken))))) with frame := f }
  keeperLimits (fansStarting (forEach slots6 frameCard s1))

/-- R310: what follows in the new frame, with the receptions of the one that ended: its commands start, outputs move, and the
Logbook's and the sessions' queues empty. -/
def frameAfter (values : List (Nat × InputVal)) (s : State) : State :=
  let s4 := frameTx (mirrorFrame values (driveBeacons (keeperFrame s)))
  sendFrames <| drainNotify { s4 with frameLog := [], log := { s4.log with premanQ := 0, deckQ := 0 } }

/-- The receptions of the frame that ends (R190). -/
def frameReceived (up : List Uplink) (s : State) : List (Nat × InputVal) :=
  let f := s.now / Config.frameNs + 1
  frameValues up (handoverEnds { settleCaps s with now := f * Config.frameNs, frame := f - 1 })

/-- R310, R312: one frame; the module's own transitions come before the requests that waited (R52, R117). With the module
unpowered only time passes. -/
def execCardBusFrame (up : List Uplink) (s : State) : Host.Outcome State Fault Refusal :=
  let f := s.now / Config.frameNs + 1
  if s.power.step = 0 then .next { s with now := f * Config.frameNs, frame := f }
  else .next (frameAfter (frameReceived up s) (judgeReleases (judgeModes (frameBefore up s))))

end Sys2Proof.Machine
end

