-- ==== Sys2Proof/Machine/Logbook.lean ====
section
/-! DEFINITION. Reading the Logbook, and the records that time alone writes (Ch. 17). -/

namespace Sys2Proof.Machine

open Sys2Proof

/-! ### Reading (R483, R484) -/

/-- The opcodes of class Logbook: served by a Relief, interpreted by Preman. -/
def logOp (code : Nat) (h : Hdr) : Op := { code := code, unit := fun _ _ => noUnit h.unit.toNat, role := rolesLocate, relief := true }

/-- R483: OLDEST, NEWEST, PREV_FIRST, PREV_LAST, LOG_DROP summed, LOG_STATE. -/
def snapshotData (s : State) : List Nat :=
  let rd := fun (o : Nat) => regNow s U.log o
  let drop := rd Off.logDrop
  [(rd Off.logOldest).toNat, (logNewest s).toNat, (rd Off.logPrevFirst).toNat, (rd Off.logPrevLast).toNat,
   fld drop 31 16 + fld drop 15 0, (rd Off.logState).toNat]

def execLogSnapshot (h : Hdr) (s : State) : Host.Outcome State Fault Refusal :=
  .next (vcp (logOp 0x70 h) h (fun _ s => .done s.now (snapshotData s) s) s)

/-- R484 item 3: whole records in sequence order while they fit, and always one when one exists. -/
def takeRecords (room : Nat) (first : Bool) (l : List LogRec) : List LogRec :=
  match l with
  | [] => []
  | r :: t => if first || decide (r.length ≤ room) then r :: takeRecords (room - r.length) false t else []

/-- R473: `a` is older than `b`. -/
def seqOlder (a b : BitVec 32) : Bool := seqNewer b a

/-- Table 17-3 and the bodies of Table 17-2, field by field. -/
def bodyData : LogBody → List Nat
  | .pad => []
  | .words ws => ws
  | .action b => [b.unit, b.source, b.action, b.causeSeq.toNat, b.raId.toNat, b.linkSeq.toNat, b.leg, (BitVec.ofInt 32 b.old).toNat,
      (BitVec.ofInt 32 b.new).toNat, b.readings.length] ++ (b.readings.map (fun x => [x.1, x.2.1, x.2.2.toNat])).flatten
  | .mirrored q slot b => [q.toNat, b2n (decide (slot = .b))] ++ bodyData b

/-- Table 17-1: a whole record. -/
def recordData (r : LogRec) : List Nat := [r.seq.toNat, b2n r.mirrored * 2 ^ 15 + r.type, r.length, r.time] ++ bodyData r.body

/-- R484: the copy is one step, so that nothing is overwritten while it runs (log entry 44). -/
def logReadAnswer (src : BitVec 32) (max : Nat) (s : State) : Answer :=
  let oldest := logOldest s
  let newest := logNewest s
  if max < 16 ∨ 8192 < max ∨ max % 8 ≠ 0 then .refuse .badParam 0
  else if seqNewer src (newest + 1) then .refuse .badParam 0
  else
    let start := if seqOlder src oldest then oldest else src
    let got := takeRecords max true (s.log.ring.reverse.filter (fun r => !seqOlder r.seq start))
    let next : BitVec 32 := match lastOpt got with | some r => r.seq + 1 | none => start
    .done s.now ([oldest.toNat, newest.toNat, next.toNat, (start - src).toNat, got.length] ++ (got.map recordData).flatten) s

def execLogRead (h : Hdr) (src : BitVec 32) (max : BitVec 16) (s : State) : Host.Outcome State Fault Refusal :=
  .next (vcp (logOp 0x71 h) h (fun _ s => logReadAnswer src max.toNat s) s)

/-! ### Records that time writes (R475, Table 17-2) -/

/-- R475: one ACTION_AFTER record: new readings of the same registers, and LINK_SEQ names the record it follows. -/
def writeAfter (d : AfterDue) (s : State) : State :=
  let readings := d.body.readings.map (fun x => (x.1, x.2.1, regNow s x.1 x.2.1))
  logSubmit false true Log.actionAfter (0x28 + 8 * readings.length) s.now
    (.action { d.body with linkSeq := d.seq, leg := s.seqr.leg, readings }) s

/-- R475: the records that fall due are written; a Relief, which writes what its Keeper sends, lets its own copies lapse. -/
def execActionAfter (s : State) : Host.Outcome State Fault Refusal :=
  let due := s.log.after.filter (fun d => decide (d.due ≤ s.now))
  let s1 := { s with log.after := s.log.after.filter (fun d => !decide (d.due ≤ s.now)) }
  .next (if isRelief s then s1 else forEach due writeAfter s1)

/-- LOOP_SP_ACTIVE, LOOP_PV and LOOP_OUT of loops 0 to 3. -/
def traceBody (s : State) : List Nat :=
  ([0, 1, 2, 3].map (fun l => [Off.loopSpActive, Off.loopPv, Off.loopOut].map (fun o => (regNow s (U.loop l) o).toNat))).flatten

/-- Table 17-2: once per second in RUN, FALLBACK and ISOLATE. -/
def traceMode (m : Mode) : Bool := decide (m = .run) || decide (m = .fallback) || decide (m = .isolate)

def execLoopTrace (s : State) : Host.Outcome State Fault Refusal :=
  .next (if traceMode s.plant.mode && isKeeper s && decide (s.log.lastTrace + Config.sec ≤ s.now) then
      logWords Log.loopTrace 48 (traceBody s) { s with log.lastTrace := s.now }
    else s)

end Sys2Proof.Machine
end

