-- ==== Sys2Proof/Machine/Motors.lean ====
section
/-! DEFINITION. The commands and events of the motor channels (Ch. 11, R317 to R322). -/

namespace Sys2Proof.Machine

open Sys2Proof

/-- R321: MOTOR_CMD RUN. -/
def execMotorRun (h : Hdr) (tag speed : BitVec 16) (s : State) : Host.Outcome State Fault Refusal :=
  .next (motorCmd h 1 tag speed.toNat s)

/-- R321: MOTOR_CMD STOP. -/
def execMotorStop (h : Hdr) (tag speed : BitVec 16) (s : State) : Host.Outcome State Fault Refusal :=
  .next (motorCmd h 0 tag speed.toNat s)

/-- R322: an ABORT of a command that is not in progress: one whose completion is stamped in this frame, or none. -/
def abortMotorStamped (c : Nat) (tag : BitVec 16) (o : Origin) (s : State) : Answer :=
  match (s.motor c).doneFrame with
  | some (f, t, a) =>
    if f = s.frame ∧ t = tag then
      if a = 1 ∧ (s.motor c).cmd.isNone then
        let q : MotorReq := { action := 0, tag, speed := 0, origin := o }
        let entry : Accepted := { origin := o, unit := U.mot c, tag, committed := motorCommitted s c q, deck := true }
        .status .alreadyComplete 0 []
          (acceptMotor c q (motorCommitted s c q) { s with vcp.accepted := s.vcp.accepted ++ [entry] })
      else .status .alreadyComplete 0 [] s
    else .refuse .badParam 0
  | none => .refuse .badParam 0

/-- R322: a RUN that has begun is stopped from the next frame. -/
def abortRun (c : Nat) (s : State) : State :=
  (endMotorCmd c .denied s).modMotor c (fun m => { m with stopNext := m.stopNext || (s.motor c).started })

/-- R322: the arbitration of an ABORT on a motor channel. -/
def abortMotorAnswer (c : Nat) (tag : BitVec 16) (o : Origin) (s : State) : Answer :=
  match (s.motor c).cmd with
  | some k =>
    if k.tag = tag then (if k.action = 1 then .done s.now [] (abortRun c s) else .refuse .denied 0)
    else abortMotorStamped c tag o s
  | none => abortMotorStamped c tag o s

/-- R322: ABORT to a motor channel. -/
def execAbortMotor (h : Hdr) (tag : BitVec 16) (s : State) : Host.Outcome State Fault Refusal :=
  .next (vcp (chanOp 0x52 2 h) h (fun e s => abortMotorAnswer (unitInst h.unit.toNat) tag (originOf h e) s) s)

/-- R319, Table 3-8: a failure; FAULTED is a pump trip. -/
def failMotor (bit c : Nat) (s : State) : State :=
  let s1 := motorFail bit c s
  match pumpOfMotor s c with
  | some p => if (s1.motor c).st = .faulted ∧ isKeeper s1 then pumpTripped p s1 else s1
  | none => s1

/-- Table 11-7: KICK ends above KICK_EXIT; RAMP starts from KICK_EXIT as a share of FULL_RPM. -/
def execKickExit (ch : Fin 48) (s : State) : Host.Outcome State Fault Refusal :=
  let c := ch.val
  if (s.motor c).st = .kick ∧ kickExit s c < (s.motor c).rpm then
    .next (motorTo 1 .ramp (shareOf s c (kickExit s c)) c s)
  else .next s

/-- Table 11-7: KICK_TIMEOUT after entry. -/
def execKickTimeout (ch : Fin 48) (s : State) : Host.Outcome State Fault Refusal :=
  let c := ch.val
  let m := s.motor c
  if m.st = .kick ∧ m.rpm ≤ kickExit s c ∧ m.enteredAt + kickNs s c ≤ s.now then .next (failMotor 2 c s) else .next s

/-- Table 11-7: the command has reached its target. -/
def execRampDone (ch : Fin 48) (s : State) : Host.Outcome State Fault Refusal :=
  let c := ch.val
  if (s.motor c).st = .ramp ∧ (s.motor c).command = (s.motor c).target then .next (motorReached c s) else .next s

/-- Table 11-7: speed below TACH_LIMIT % of the commanded speed for TACH_WINDOW. -/
def execTachLow (ch : Fin 48) (s : State) : Host.Outcome State Fault Refusal :=
  let c := ch.val
  let m := s.motor c
  match m.lowSince with
  | some t =>
    if (m.st = .ramp ∨ m.st = .running) ∧ t + s.fldOf (U.mot c) Off.motTach 23 16 * Config.sec ≤ s.now then
      .next (failMotor 1 c s)
    else .next s
  | none => .next s

/-- Table 11-7: the FAULT input has been open for 100 ms. -/
def execDriveFault (ch : Fin 48) (s : State) : Host.Outcome State Fault Refusal :=
  let c := ch.val
  let m := s.motor c
  match m.faultSince with
  | some t => if motRuns m.st ∧ t + 100 * Config.ms ≤ s.now then .next (failMotor 3 c s) else .next s
  | none => .next s

/-- Table 11-7: BACKOFF elapses: the channel kicks again. -/
def execBackoffEnd (ch : Fin 48) (s : State) : Host.Outcome State Fault Refusal :=
  let c := ch.val
  let m := s.motor c
  if m.st = .backoff ∧ m.enteredAt + backoffNs s c ≤ s.now then
    .next ((motorTo 1 .kick (1000 * outUnit) c s).setEvent (U.mot c) Off.motEvents 4)
  else .next s

/-- R319: 60 s in RUNNING without a failure. -/
def execFailuresReset (ch : Fin 48) (s : State) : Host.Outcome State Fault Refusal :=
  let c := ch.val
  let m := s.motor c
  match m.runSince with
  | some t => if m.st = .running ∧ t + 60 * Config.sec ≤ s.now then .next (s.setMotor c { m with failures := 0 }) else .next s
  | none => .next s

/-- R320, Table 11-8: an index arrives; `edge` is the count of the same sample, applied first. -/
def execEncoderIndex (ch : Fin 48) (edge : Int) (s : State) : Host.Outcome State Fault Refusal :=
  let c := ch.val
  let m := s.motor c
  let cpr := s.fldOf (U.mot c) Off.motEnc 31 16
  let tol := s.fldOf (U.mot c) Off.motEnc 15 8
  let at_ := (m.position + edge).natAbs
  let off := ((at_ : Int) - cpr).natAbs
  let m0 := { m with position := 0, indexes := m.indexes + 1, refValid := true }
  if cpr = 0 then .next s
  else if !m.refValid then .next (s.setMotor c m0)
  else if off = 0 then .next (s.setMotor c { m0 with slipRun := 0 })
  else if off ≤ tol then
    .next (((s.setMotor c { m0 with slipRun := 0 }).setEvent (U.mot c) Off.motEvents 0).addCount
      (U.mot c) Off.motEncCount 31 16 1)
  else
    let s1 := ((s.setMotor c { m0 with slipRun := m.slipRun + 1 }).setEvent (U.mot c) Off.motEvents 5).addCount
      (U.mot c) Off.motEncCount 15 0 1
    if 2 ≤ m.slipRun ∧ !m.encFault then
      .next ((s1.modMotor c (fun m => { m with encFault := true })).setEvent (U.mot c) Off.motEvents 6)
    else .next s1

end Sys2Proof.Machine
end

