-- ==== Sys2Proof/Machine/Valves.lean ====
section
/-! DEFINITION. The commands and events of the valve channels (Ch. 10). An event whose channel is not in the state the event
belongs to, or whose time has not come, changes nothing (log entry 2). -/

namespace Sys2Proof.Machine

open Sys2Proof

/-- R299: ENERGISE. -/
def execEnergise (h : Hdr) (tag : BitVec 16) (s : State) : Host.Outcome State Fault Refusal := .next (valveCmd h 1 tag s)

/-- R299: RELEASE. -/
def execRelease (h : Hdr) (tag : BitVec 16) (s : State) : Host.Outcome State Fault Refusal := .next (valveCmd h 0 tag s)

/-- R299, R307: TEST_PULSE. -/
def execTestPulse (h : Hdr) (tag : BitVec 16) (s : State) : Host.Outcome State Fault Refusal := .next (valveCmd h 2 tag s)

/-- Table 10-4: the abort of an ENERGISE in progress: a waiting pull-in is dropped, one in PEAK is released in the next
frame and not judged. -/
def abortPull (c : Nat) (s : State) : State :=
  let s1 := if (s.valve c).phase = .peak then
      s.modValve c (fun v => { v with releaseNext := true, judged := true }) else s
  dropValveCmd c .denied s1

/-- Table 10-4: an ABORT of a command that is not in progress: one whose completion is stamped in this frame, or none. -/
def abortStamped (c : Nat) (tag : BitVec 16) (o : Origin) (s : State) : Answer :=
  match (s.valve c).doneFrame with
  | some (f, t, a) =>
    if f = s.frame ∧ t = tag then
      if a = 1 ∧ (s.valve c).cmd.isNone then
        let p := valvePlan s c 0
        let entry : Accepted := { origin := o, unit := U.vlv c, tag, committed := p.2, deck := false }
        .status .alreadyComplete 0 []
          (acceptValve c { action := 0, tag, origin := o } p.2 p.1 { s with vcp.accepted := s.vcp.accepted ++ [entry] })
      else .status .alreadyComplete 0 [] s
    else .refuse .badParam 0
  | none => .refuse .badParam 0

/-- Table 10-4: the arbitration of an ABORT on a valve channel (R303). -/
def abortValveAnswer (c : Nat) (tag : BitVec 16) (o : Origin) (s : State) : Answer :=
  let v := s.valve c
  if v.leakHeld then .refuse .denied 0
  else match v.cmd with
    | some k =>
      if k.tag = tag then
        if k.action = 1 then .done s.now [] (abortPull c s) else .refuse .denied 0
      else abortStamped c tag o s
    | none => abortStamped c tag o s

/-- R303: ABORT to a valve channel. -/
def execAbortValve (h : Hdr) (tag : BitVec 16) (s : State) : Host.Outcome State Fault Refusal :=
  .next (vcp (chanOp 0x52 1 h) h (fun e s => abortValveAnswer (unitInst h.unit.toNat) tag (originOf h e) s) s)

/-- The client's command on a valve channel completes in this frame (R283, R284). -/
def completeValve (c : Nat) (s : State) : State :=
  match (s.valve c).cmd with
  | some k => endChanCmd (some k) .completed
      (s.modValve c (fun v => { v with cmd := none, doneFrame := some (s.frame, k.tag, k.action) }))
  | none => s

/-- R283: the PEAK ends and the channel is HELD. -/
def execPeakEnd (ch : Fin 96) (s : State) : Host.Outcome State Fault Refusal :=
  let c := ch.val
  let v := s.valve c
  if v.phase = .peak ∧ v.startAt + peakNs s c ≤ s.now then
    .next (completeValve c (s.modValve c (fun v => { v with phase := .held })))
  else .next s

/-- R285: the first sample at or above PEAK_I, `t` units of 10 µs after the start of PEAK. -/
def execPeakReached (ch : Fin 96) (t : Nat) (mA : Nat) (s : State) : Host.Outcome State Fault Refusal :=
  let c := ch.val
  let v := s.valve c
  if v.phase = .peak ∧ !v.peakSeen ∧ peakI s c * 10 ≤ mA ∧ v.startAt + t * 10000 ≤ s.now then
    let s1 := (s.setValve c { v with peakSeen := true, current := mA }).setReg (U.vlv c) Off.vlvLast
      (putFld (s.reg (U.vlv c) Off.vlvLast) 15 0 (sat 0xFFFE t))
    if t < s.fldOf (U.vlv c) Off.vlvTtp 15 0 then .next (event (U.vlv c) Off.vlvEvents 2 s1)
    else if s.fldOf (U.vlv c) Off.vlvTtp 31 16 < t ∧ !v.ttpDone then .next (event (U.vlv c) Off.vlvEvents 3 s1)
    else .next s1
  else .next s

/-- R285: TTP_MAX passes without PEAK_I: TTP_HIGH, and TTP reads 0xFFFF. -/
def execTtpTimeout (ch : Fin 96) (s : State) : Host.Outcome State Fault Refusal :=
  let c := ch.val
  let v := s.valve c
  if (v.phase = .peak ∨ v.phase = .held) ∧ !v.peakSeen ∧ !v.ttpDone ∧ at10us s c Off.vlvTtp 31 16 ≤ s.now then
    .next (event (U.vlv c) Off.vlvEvents 3 ((s.setValve c { v with ttpDone := true }).setReg (U.vlv c) Off.vlvLast
      (putFld (s.reg (U.vlv c) Off.vlvLast) 15 0 0xFFFF)))
  else .next s

/-- R286: a sample `t` units of 10 µs after the start, inside the window, lies DEPTH below the running maximum. -/
def execDipFound (ch : Fin 96) (t : Nat) (mA : Nat) (s : State) : Host.Outcome State Fault Refusal :=
  let c := ch.val
  let v := s.valve c
  if v.phase = .peak ∧ !v.peakSeen ∧ !v.dipFound ∧ !v.judged
      ∧ s.fldOf (U.vlv c) Off.vlvDipWin 15 0 ≤ t ∧ t ≤ s.fldOf (U.vlv c) Off.vlvDipWin 31 16
      ∧ mA + s.fldOf (U.vlv c) Off.vlvTestDip 15 0 ≤ v.runMax ∧ v.startAt + t * 10000 ≤ s.now then
    .next (dipJudged c true ((s.setValve c { v with dipFound := true, current := mA }).setReg (U.vlv c) Off.vlvLast
      (putFld (s.reg (U.vlv c) Off.vlvLast) 31 16 t)))
  else .next s

/-- R287: DIP_END judges a pull-in: without a dip VALVE_NOT_MOVED is set and counted. -/
def execDipEnd (ch : Fin 96) (s : State) : Host.Outcome State Fault Refusal :=
  let c := ch.val
  let v := s.valve c
  if !v.judged ∧ at10us s c Off.vlvDipWin 31 16 ≤ s.now then
    let s1 := s.setValve c { v with judged := true }
    -- a reflex pull-in that a trip or a loss of field power ended counts as without a dip (R287)
    let dip := v.dipFound && (decide (v.phase = .peak) || decide (v.phase = .held))
    if dip then .next (dipJudged c true s1)
    else
      .next (dipJudged c false (((s1.setEvent (U.vlv c) Off.vlvEvents 4).addCount (U.vlv c) Off.vlvCount 15 0 1).setReg
        (U.vlv c) Off.vlvLast (putFld (s.reg (U.vlv c) Off.vlvLast) 31 16 0xFFFF)))
  else .next s

/-- R284, R305: the current has fallen below 50 mA: a release or a test ends in OFF. -/
def execReleaseDone (ch : Fin 96) (s : State) : Host.Outcome State Fault Refusal :=
  let c := ch.val
  let v := s.valve c
  if v.phase = .releasing ∨ (v.phase = .test ∧ v.pulseEnded) then
    let s1 := s.setValve c { v with phase := .off, current := sat 49 v.current }
    match v.cmd with
    | some k => if k.action = 1 then .next s1 else .next (completeValve c s1)
    | none => .next s1
  else .next s

/-- R284: the current has not fallen 10 ms after the release: the channel is opened for good. -/
def execReleaseFault (ch : Fin 96) (s : State) : Host.Outcome State Fault Refusal :=
  let c := ch.val
  let v := s.valve c
  if v.phase = .releasing ∧ v.relAt + 10 * Config.ms ≤ s.now then
    .next (dropValveCmd c .faulted
      (eventWith .faulted 0 none (U.vlv c) Off.vlvEvents 8 (s.setValve c { v with phase := .off, tripped := true })))
  else .next s

/-- R294: the channel after a trip; an ordinary pull-in that it ends is not judged (R287). -/
def trippedValve (mA : Nat) (now : Time) (v : Valve) : Valve :=
  { v with phase := .releasing, relAt := now, tripped := true, current := mA, judged := v.judged || !v.reflex, releaseNext := false }

/-- R304: a trip in the frame of a completion wins: the notification, which has not left yet, says FAULTED. -/
def unstamp (c : Nat) (s : State) : State :=
  match (s.valve c).doneFrame with
  | some (f, t, _) =>
    let fix := fun (n : Notify) => if n.unit = U.vlv c ∧ n.tag = t ∧ n.status = .completed ∧ f = s.frame ∧ n.time / Config.frameNs = f
      then { n with status := Status.faulted } else n
    { s with vcp := { s.vcp with
      sessions := s.vcp.sessions.map (fun e => { e with queue := e.queue.map fix }),
      kept := s.vcp.kept.map (fun k => { k with outcome := k.outcome.map fix }) } }
  | none => s

/-- R294, R304: a sample above 8.00 A. -/
def execValveTrip (ch : Fin 96) (mA : Nat) (s : State) : Host.Outcome State Fault Refusal :=
  let c := ch.val
  let v := s.valve c
  if 8000 < mA then
    .next (dropValveCmd c .faulted
      (eventWith .faulted 0 none (U.vlv c) Off.vlvEvents 0
        ((unstamp c s).setValve c (trippedValve mA s.now v))))
  else .next s

/-- R296: an open load in HELD; the channel keeps driving. -/
def execOpenLoad (ch : Fin 96) (s : State) : Host.Outcome State Fault Refusal :=
  let c := ch.val
  if (s.valve c).phase = .held then
    .next (event (U.vlv c) Off.vlvEvents 1 (s.modValve c (fun v => { v with openSince := true })))
  else .next s

/-- R290: charges leave the account WINDOW seconds after their start. -/
def execDutyExpire (ch : Fin 96) (s : State) : Host.Outcome State Fault Refusal :=
  let c := ch.val
  let w := s.fldOf (U.vlv c) Off.vlvDuty 23 16 * Config.sec
  .next (s.modValve c (fun v => { v with charges := v.charges.filter (fun e => decide (s.now < e.1 + w)) }))

/-- R305: the 200 µs of a test pulse end: the sample is judged against its band, and the coil is released. -/
def execTestPulseEnd (ch : Fin 96) (mA : Nat) (s : State) : Host.Outcome State Fault Refusal :=
  let c := ch.val
  let v := s.valve c
  if v.phase = .test ∧ !v.pulseEnded ∧ v.relAt + 200 * Config.us ≤ s.now then
    let s1 := s.setValve c { v with pulseEnded := true, current := mA }
    if mA < s.fldOf (U.vlv c) Off.vlvTestDip 31 24 * 10 ∨ s.fldOf (U.vlv c) Off.vlvTestDip 23 16 * 10 < mA then
      .next (s1.setEvent (U.vlv c) Off.vlvEvents 9)
    else .next s1
  else .next s

end Sys2Proof.Machine
end

