-- ==== Sys2Proof/Machine/Dispatch.lean ====
section
/-! DEFINITION. One arm per command: each is one direct call of its meaning. -/

namespace Sys2Proof.Machine

open Sys2Proof

/-- The effect of a command on everything but the queue of waiting commands. -/
def exec (i : Instr) (s : State) : Host.Outcome State Fault Refusal :=
  match i with
  | .dtlsHandshake assoc port cert ok => Sys2Proof.Machine.execDtlsHandshake assoc port cert ok s
  | .hello h majors minor1 minor2 caps name => Sys2Proof.Machine.execHello h majors minor1 minor2 caps name s
  | .bye h => Sys2Proof.Machine.execBye h s
  | .sessionTimeout sid => Sys2Proof.Machine.execSessionTimeout sid s
  | .dtlsClosure assoc => Sys2Proof.Machine.execDtlsClosure assoc s
  | .malformed => Sys2Proof.Machine.execMalformed s
  | .read h off count => Sys2Proof.Machine.execRead h off count s
  | .registerWrite h off values => Sys2Proof.Machine.execRegisterWrite h off values s
  | .readMulti h entries => Sys2Proof.Machine.execReadMulti h entries s
  | .writeGroup h off value => Sys2Proof.Machine.execWriteGroup h off value s
  | .subscribe h off count period kind => Sys2Proof.Machine.execSubscribe h off count period kind s
  | .unsubscribe h subId => Sys2Proof.Machine.execUnsubscribe h subId s
  | .telemetrySample => Sys2Proof.Machine.execTelemetrySample s
  | .capAck h rack seq power => Sys2Proof.Machine.execCapAck h rack seq power s
  | .envelopeSet h envelope => Sys2Proof.Machine.execEnvelopeSet h envelope s
  | .preview h id racks flags start duration load ramp => Sys2Proof.Machine.execPreview h id racks flags start duration load ramp s
  | .previewCancel h id => Sys2Proof.Machine.execPreviewCancel h id s
  | .energise h tag => Sys2Proof.Machine.execEnergise h tag s
  | .release h tag => Sys2Proof.Machine.execRelease h tag s
  | .testPulse h tag => Sys2Proof.Machine.execTestPulse h tag s
  | .motorRun h tag speed => Sys2Proof.Machine.execMotorRun h tag speed s
  | .motorStop h tag speed => Sys2Proof.Machine.execMotorStop h tag speed s
  | .abortValve h tag => Sys2Proof.Machine.execAbortValve h tag s
  | .abortMotor h tag => Sys2Proof.Machine.execAbortMotor h tag s
  | .abortCopy h ring tag => Sys2Proof.Machine.execAbortCopy h ring tag s
  | .modeSet h mode => Sys2Proof.Machine.execModeSet h mode s
  | .modeSetFallback h => Sys2Proof.Machine.execModeSetFallback h s
  | .policySet h entries => Sys2Proof.Machine.execPolicySet h entries s
  | .logSnapshot h => Sys2Proof.Machine.execLogSnapshot h s
  | .logRead h src max => Sys2Proof.Machine.execLogRead h src max s
  | .updateBegin h restart m => Sys2Proof.Machine.execUpdateBegin h restart m s
  | .updateChunk h chunk piece len hashOk => Sys2Proof.Machine.execUpdateChunk h chunk piece len hashOk s
  | .updateVerify h => Sys2Proof.Machine.execUpdateVerify h s
  | .updateVerifyDone unit signed signer hashOk => Sys2Proof.Machine.execUpdateVerifyDone unit signed signer hashOk s
  | .updateActivate h flags => Sys2Proof.Machine.execUpdateActivate h flags s
  | .updateConfirm h => Sys2Proof.Machine.execUpdateConfirm h s
  | .updateAbort h => Sys2Proof.Machine.execUpdateAbort h s
  | .traverseLoad h bank => Sys2Proof.Machine.execTraverseLoad h bank s
  | .loadDone img manifestOk => Sys2Proof.Machine.execLoadDone img manifestOk s
  | .traverseStart h src startAt => Sys2Proof.Machine.execTraverseStart h src startAt s
  | .traverseFirstLeg out work => Sys2Proof.Machine.execTraverseFirstLeg out work s
  | .traverseStop h => Sys2Proof.Machine.execTraverseStop h s
  | .datumPush h setVer chunk nChunks len setOk sigOk applyAt => Sys2Proof.Machine.execDatumPush h setVer chunk nChunks len setOk sigOk applyAt s
  | .datumDiscard => Sys2Proof.Machine.execDatumDiscard s
  | .datumApply => Sys2Proof.Machine.execDatumApply s
  | .integrityReport h => Sys2Proof.Machine.execIntegrityReport h s
  | .integrityPeriodic => Sys2Proof.Machine.execIntegrityPeriodic s
  | .locate h action => Sys2Proof.Machine.execLocate h action s
  | .locateButton withWrite => Sys2Proof.Machine.execLocateButton withWrite s
  | .hwPanelWrite h value => Sys2Proof.Machine.execHwPanelWrite h value s
  | .handover h flags at_ => Sys2Proof.Machine.execHandover h flags at_ s
  | .loopOutWrite h value => Sys2Proof.Machine.execLoopOutWrite h value s
  | .aoOutWrite h value => Sys2Proof.Machine.execAoOutWrite h value s
  | .beaconCtrlWrite h value => Sys2Proof.Machine.execBeaconCtrlWrite h value s
  | .loopPumpRestore h value => Sys2Proof.Machine.execLoopPumpRestore h value s
  | .leakRelease h value => Sys2Proof.Machine.execLeakRelease h value s
  | .rackCfgWrite h rack value => Sys2Proof.Machine.execRackCfgWrite h rack value s
  | .dieRetire h => Sys2Proof.Machine.execDieRetire h s
  | .dieRestore h => Sys2Proof.Machine.execDieRestore h s
  | .join h value => Sys2Proof.Machine.execJoin h value s
  | .linkRetrain h value => Sys2Proof.Machine.execLinkRetrain h value s
  | .linkEnable h value => Sys2Proof.Machine.execLinkEnable h value s
  | .blRecover h value => Sys2Proof.Machine.execBlRecover h value s
  | .calNow h value => Sys2Proof.Machine.execCalNow h value s
  | .auxCfgWrite h value => Sys2Proof.Machine.execAuxCfgWrite h value s
  | .auxOutLevel h level => Sys2Proof.Machine.execAuxOutLevel h level s
  | .auxAttach pin => Sys2Proof.Machine.execAuxAttach pin s
  | .auxCapture pin at_ => Sys2Proof.Machine.execAuxCapture pin at_ s
  | .tripClear h value => Sys2Proof.Machine.execTripClear h value s
  | .restartsExhaustedClear h value => Sys2Proof.Machine.execRestartsExhaustedClear h value s
  | .encoderFaultClear h value => Sys2Proof.Machine.execEncoderFaultClear h value s
  | .intCtrlWrite h value => Sys2Proof.Machine.execIntCtrlWrite h value s
  | .serviceEnClear h value => Sys2Proof.Machine.execServiceEnClear h value s
  | .ceRingTail ring tail descs => Sys2Proof.Machine.execCeRingTail ring tail descs s
  | .blTxReq c mask records => Sys2Proof.Machine.execBlTxReq c mask records s
  | .blTxCancel c mask => Sys2Proof.Machine.execBlTxCancel c mask s
  | .blFilterSwap c bank count entries => Sys2Proof.Machine.execBlFilterSwap c bank count entries s
  | .blRxLock c k lock => Sys2Proof.Machine.execBlRxLock c k lock s
  | .cardBusFrame up => Sys2Proof.Machine.execCardBusFrame up s
  | .cardFaulted k => Sys2Proof.Machine.execCardFaulted k s
  | .cardEject k => Sys2Proof.Machine.execCardEject k s
  | .domainDrainEnd d => Sys2Proof.Machine.execDomainDrainEnd d s
  | .domainReady d => Sys2Proof.Machine.execDomainReady d s
  | .cardPresence k => Sys2Proof.Machine.execCardPresence k s
  | .enumDebounceEnd k desc => Sys2Proof.Machine.execEnumDebounceEnd k desc s
  | .cardEnumDone k chans => Sys2Proof.Machine.execCardEnumDone k chans s
  | .mainInputLoss inp => Sys2Proof.Machine.execMainInputLoss inp s
  | .fieldInputLoss inp => Sys2Proof.Machine.execFieldInputLoss inp s
  | .fieldPowerReturn inp => Sys2Proof.Machine.execFieldPowerReturn inp s
  | .fanFail k => Sys2Proof.Machine.execFanFail k s
  | .thermalWarn => Sys2Proof.Machine.execThermalWarn s
  | .thermalShutdown => Sys2Proof.Machine.execThermalShutdown s
  | .harnessOpen => Sys2Proof.Machine.execHarnessOpen s
  | .harnessClose => Sys2Proof.Machine.execHarnessClose s
  | .legStart out work => Sys2Proof.Machine.execLegStart out work s
  | .checksClosed => Sys2Proof.Machine.execChecksClosed s
  | .restoreResume digests out work => Sys2Proof.Machine.execRestoreResume digests out work s
  | .withheldFallback => Sys2Proof.Machine.execWithheldFallback s
  | .engineLost => Sys2Proof.Machine.execEngineLost s
  | .returnToRun => Sys2Proof.Machine.execReturnToRun s
  | .fallbackTick => Sys2Proof.Machine.execFallbackTick s
  | .policyBoundClear l => Sys2Proof.Machine.execPolicyBoundClear l s
  | .boundCapStep l => Sys2Proof.Machine.execBoundCapStep l s
  | .redundantSwitch l => Sys2Proof.Machine.execRedundantSwitch l s
  | .reserveStart => Sys2Proof.Machine.execReserveStart s
  | .dpHighCut => Sys2Proof.Machine.execDpHighCut s
  | .primaryValveOpen => Sys2Proof.Machine.execPrimaryValveOpen s
  | .supplyOvertempCapdown => Sys2Proof.Machine.execSupplyOvertempCapdown s
  | .primaryValveClose => Sys2Proof.Machine.execPrimaryValveClose s
  | .rackFlowLow r => Sys2Proof.Machine.execRackFlowLow r s
  | .rackFlowCapdown r => Sys2Proof.Machine.execRackFlowCapdown r s
  | .rackReturnHigh r => Sys2Proof.Machine.execRackReturnHigh r s
  | .returnHighCapcut => Sys2Proof.Machine.execReturnHighCapcut s
  | .reflexRepeat row => Sys2Proof.Machine.execReflexRepeat row s
  | .reflexRelease row => Sys2Proof.Machine.execReflexRelease row s
  | .stageUp => Sys2Proof.Machine.execStageUp s
  | .stageDown => Sys2Proof.Machine.execStageDown s
  | .rotation => Sys2Proof.Machine.execRotation s
  | .rotationSwap => Sys2Proof.Machine.execRotationSwap s
  | .ackWindowClose r seq => Sys2Proof.Machine.execAckWindowClose r seq s
  | .grantRepeat r => Sys2Proof.Machine.execGrantRepeat r s
  | .previewEnd id => Sys2Proof.Machine.execPreviewEnd id s
  | .leakSourceClear r => Sys2Proof.Machine.execLeakSourceClear r s
  | .flowImbalance r => Sys2Proof.Machine.execFlowImbalance r s
  | .reservoirCheck level => Sys2Proof.Machine.execReservoirCheck level s
  | .leakClear r => Sys2Proof.Machine.execLeakClear r s
  | .leakIsolateTimeout r => Sys2Proof.Machine.execLeakIsolateTimeout r s
  | .peakEnd ch => Sys2Proof.Machine.execPeakEnd ch s
  | .dipEnd ch => Sys2Proof.Machine.execDipEnd ch s
  | .ttpTimeout ch => Sys2Proof.Machine.execTtpTimeout ch s
  | .releaseDone ch => Sys2Proof.Machine.execReleaseDone ch s
  | .releaseFault ch => Sys2Proof.Machine.execReleaseFault ch s
  | .valveTrip ch mA => Sys2Proof.Machine.execValveTrip ch mA s
  | .openLoad ch => Sys2Proof.Machine.execOpenLoad ch s
  | .cardHold k => Sys2Proof.Machine.execCardHold k s
  | .dutyExpire ch => Sys2Proof.Machine.execDutyExpire ch s
  | .testPulseEnd ch mA => Sys2Proof.Machine.execTestPulseEnd ch mA s
  | .kickExit ch => Sys2Proof.Machine.execKickExit ch s
  | .kickTimeout ch => Sys2Proof.Machine.execKickTimeout ch s
  | .rampDone ch => Sys2Proof.Machine.execRampDone ch s
  | .tachLow ch => Sys2Proof.Machine.execTachLow ch s
  | .driveFault ch => Sys2Proof.Machine.execDriveFault ch s
  | .backoffEnd ch => Sys2Proof.Machine.execBackoffEnd ch s
  | .failuresReset ch => Sys2Proof.Machine.execFailuresReset ch s
  | .encoderIndex ch edge => Sys2Proof.Machine.execEncoderIndex ch edge s
  | .calibration inp => Sys2Proof.Machine.execCalibration inp s
  | .noPulse inp => Sys2Proof.Machine.execNoPulse inp s
  | .openLoop inp => Sys2Proof.Machine.execOpenLoop inp s
  | .copyComplete ce status bytes digest => Sys2Proof.Machine.execCopyComplete ce status bytes digest s
  | .peerCopyRequest ord bytes => Sys2Proof.Machine.execPeerCopyRequest ord bytes s
  | .digestQuery leg index q => Sys2Proof.Machine.execDigestQuery leg index q s
  | .legDigest leg digest => Sys2Proof.Machine.execLegDigest leg digest s
  | .testOverdue c => Sys2Proof.Machine.execTestOverdue c s
  | .suspectEnter c => Sys2Proof.Machine.execSuspectEnter c s
  | .marginTest failed => Sys2Proof.Machine.execMarginTest failed s
  | .uncorrectableError die => Sys2Proof.Machine.execUncorrectableError die s
  | .packageResetDone early => Sys2Proof.Machine.execPackageResetDone early s
  | .flashEmit => Sys2Proof.Machine.execFlashEmit s
  | .flashReceive onPair msg => Sys2Proof.Machine.execFlashReceive onPair msg s
  | .flashMiss => Sys2Proof.Machine.execFlashMiss s
  | .flashPairLost => Sys2Proof.Machine.execFlashPairLost s
  | .lampStuck => Sys2Proof.Machine.execLampStuck s
  | .lockstepMismatch => Sys2Proof.Machine.execLockstepMismatch s
  | .deadmanRelease => Sys2Proof.Machine.execDeadmanRelease s
  | .lampReleaseSeen => Sys2Proof.Machine.execLampReleaseSeen s
  | .claim => Sys2Proof.Machine.execClaim s
  | .stageLatchClear => Sys2Proof.Machine.execStageLatchClear s
  | .simultaneous => Sys2Proof.Machine.execSimultaneous s
  | .roleDecision lines => Sys2Proof.Machine.execRoleDecision lines s
  | .handoverReady => Sys2Proof.Machine.execHandoverReady s
  | .handoverAbandon => Sys2Proof.Machine.execHandoverAbandon s
  | .handoverLampRelease => Sys2Proof.Machine.execHandoverLampRelease s
  | .healthReportSend => Sys2Proof.Machine.execHealthReportSend s
  | .health r => Sys2Proof.Machine.execHealth r s
  | .reliefUnhealthy => Sys2Proof.Machine.execReliefUnhealthy s
  | .testWindowRequest ch => Sys2Proof.Machine.execTestWindowRequest ch s
  | .stageTestPulse ch mA otherDrives => Sys2Proof.Machine.execStageTestPulse ch mA otherDrives s
  | .mirror item => Sys2Proof.Machine.execMirror item s
  | .resyncPhaseDone pairIdEqual moved digestOk => Sys2Proof.Machine.execResyncPhaseDone pairIdEqual moved digestOk s
  | .resyncJoin => Sys2Proof.Machine.execResyncJoin s
  | .hallCtrl m => Sys2Proof.Machine.execHallCtrl m s
  | .linkSignal l => Sys2Proof.Machine.execLinkSignal l s
  | .linkTrainTimeout l => Sys2Proof.Machine.execLinkTrainTimeout l s
  | .linkLocked l hallCount arrival echoCount echoAge => Sys2Proof.Machine.execLinkLocked l hallCount arrival echoCount echoAge s
  | .linkUp l delay => Sys2Proof.Machine.execLinkUp l delay s
  | .linkBackoffEnd l => Sys2Proof.Machine.execLinkBackoffEnd l s
  | .linkBlock l b => Sys2Proof.Machine.execLinkBlock l b s
  | .beatLate l => Sys2Proof.Machine.execBeatLate l s
  | .linkDown l cause => Sys2Proof.Machine.execLinkDown l cause s
  | .linkDegraded l ser => Sys2Proof.Machine.execLinkDegraded l ser s
  | .unlocked => Sys2Proof.Machine.execUnlocked s
  | .routeReturn set => Sys2Proof.Machine.execRouteReturn set s
  | .serviceRetransmit l => Sys2Proof.Machine.execServiceRetransmit l s
  | .ack l => Sys2Proof.Machine.execAck l s
  | .bulkOpen ord session bytes dst deliverBy => Sys2Proof.Machine.execBulkOpen ord session bytes dst deliverBy s
  | .bulkReply ord session status => Sys2Proof.Machine.execBulkReply ord session status s
  | .bulkClose ord session status bytes => Sys2Proof.Machine.execBulkClose ord session status bytes s
  | .canFrameReceive c f reading => Sys2Proof.Machine.execCanFrameReceive c f reading s
  | .canTxDone c j => Sys2Proof.Machine.execCanTxDone c j s
  | .canTxError c j why => Sys2Proof.Machine.execCanTxError c j why s
  | .busOff c => Sys2Proof.Machine.execBusOff c s
  | .busOffStale c => Sys2Proof.Machine.execBusOffStale c s
  | .recovered c => Sys2Proof.Machine.execRecovered c s
  | .ptpSync port offset pathDelay => Sys2Proof.Machine.execPtpSync port offset pathDelay s
  | .ptpHoldover => Sys2Proof.Machine.execPtpHoldover s
  | .timeStep => Sys2Proof.Machine.execTimeStep s
  | .sagStart => Sys2Proof.Machine.execSagStart s
  | .sagShort => Sys2Proof.Machine.execSagShort s
  | .sagTrigger => Sys2Proof.Machine.execSagTrigger s
  | .lastLightDone energy bankHeld => Sys2Proof.Machine.execLastLightDone energy bankHeld s
  | .powerApplied => Sys2Proof.Machine.execPowerApplied s
  | .busQualified chosenOk otherOk => Sys2Proof.Machine.execBusQualified chosenOk otherOk s
  | .lastLightArm => Sys2Proof.Machine.execLastLightArm s
  | .bankMeasure discharge => Sys2Proof.Machine.execBankMeasure discharge s
  | .startupRestore chans => Sys2Proof.Machine.execStartupRestore chans s
  | .engineStartup => Sys2Proof.Machine.execEngineStartup s
  | .railFault r die => Sys2Proof.Machine.execRailFault r die s
  | .rootFail => Sys2Proof.Machine.execRootFail s
  | .deckHeartbeat => Sys2Proof.Machine.execDeckHeartbeat s
  | .deckTimeout => Sys2Proof.Machine.execDeckTimeout s
  | .trialBoot unit => Sys2Proof.Machine.execTrialBoot unit s
  | .healthyMinute unit => Sys2Proof.Machine.execHealthyMinute unit s
  | .actionAfter => Sys2Proof.Machine.execActionAfter s
  | .loopTrace => Sys2Proof.Machine.execLoopTrace s
  | .bmuFrame bytes => Sys2Proof.Machine.execBmuFrame bytes s
  | .bmuStale => Sys2Proof.Machine.execBmuStale s
  | .bmuLinkSend => Sys2Proof.Machine.execBmuLinkSend s
  | .flowPulse => Sys2Proof.Machine.execFlowPulse s
  | .measurementCycle supply return_ sensorOk rateHigh => Sys2Proof.Machine.execMeasurementCycle supply return_ sensorOk rateHigh s
  | .setDay => Sys2Proof.Machine.execSetDay s
  | .coverOpen => Sys2Proof.Machine.execCoverOpen s
  | .displayButton => Sys2Proof.Machine.execDisplayButton s
  | .displayTimeout => Sys2Proof.Machine.execDisplayTimeout s
  | .auxSupplyLoss => Sys2Proof.Machine.execAuxSupplyLoss s
  | .inventory => Sys2Proof.Machine.execInventory s
  | .getSystemInformation => Sys2Proof.Machine.execGetSystemInformation s
  | .readSingleBlock block => Sys2Proof.Machine.execReadSingleBlock block s
  | .readMultipleBlocks first count => Sys2Proof.Machine.execReadMultipleBlocks first count s
  | .unsupportedCommand => Sys2Proof.Machine.execUnsupportedCommand s
  | .auth nonce => Sys2Proof.Machine.execAuth nonce s
  | .authResp cmacOk => Sys2Proof.Machine.execAuthResp cmacOk s
  | .surveySessionEnd fieldDropped => Sys2Proof.Machine.execSurveySessionEnd fieldDropped s
  | .journalWrite j => Sys2Proof.Machine.execJournalWrite j s
  | .mainInputReturn inp => Sys2Proof.Machine.execMainInputReturn inp s
  | .measureRefresh m => Sys2Proof.Machine.execMeasureRefresh m s
  | .codewordLock l kind length power => Sys2Proof.Machine.execCodewordLock l kind length power s
  | .pllUnlock pllA => Sys2Proof.Machine.execPllUnlock pllA s
  | .cardLogicSupplyFault k => Sys2Proof.Machine.execCardLogicSupplyFault k s
  | .peakReached ch t mA => Sys2Proof.Machine.execPeakReached ch t mA s
  | .dipFound ch t mA => Sys2Proof.Machine.execDipFound ch t mA s
  | .calibrationDone inp gain offset => Sys2Proof.Machine.execCalibrationDone inp gain offset s
  | .auxInputEdge pin level => Sys2Proof.Machine.execAuxInputEdge pin level s
  | .ppsOut pin => Sys2Proof.Machine.execPpsOut pin s
  | .canRxError c => Sys2Proof.Machine.execCanRxError c s
  | .ptpAnnounce port better gmClass => Sys2Proof.Machine.execPtpAnnounce port better gmClass s
  | .keyUpdate assoc => Sys2Proof.Machine.execKeyUpdate assoc s
  | .qualificationRestart => Sys2Proof.Machine.execQualificationRestart s
  | .stageLatchSet => Sys2Proof.Machine.execStageLatchSet s
  | .ceRingLayoutWrite ring base size => Sys2Proof.Machine.execCeRingLayoutWrite ring base size s
  | .coverClose => Sys2Proof.Machine.execCoverClose s
  | .auxSupplyReturn => Sys2Proof.Machine.execAuxSupplyReturn s
  | .cellLow => Sys2Proof.Machine.execCellLow s
  | .operatingHour => Sys2Proof.Machine.execOperatingHour s
  | .bmuPowerUp crcOk => Sys2Proof.Machine.execBmuPowerUp crcOk s

end Sys2Proof.Machine
end

