-- ==== Sys2Proof/Machine/Step.lean ====
section
/-! DEFINITION. One step: the command at the front of the queue, or one tick of the timestamp clock on an empty queue. -/

namespace Sys2Proof.Machine

open Sys2Proof

/-- Table 15-6, R441: the timestamp clock runs at 100 MHz, so one count is 10 ns. -/
def tickNs : Nat := 10

/-- With no command waiting, module time advances by one timestamp tick and nothing else happens: every other effect of
the passing of time is a command of the table (log entry 1). -/
def idle (s : State) : State := { s with now := s.now + tickNs }

/-- Take the command at the front of the queue and run it on the queue's rest. -/
def step (s : State) : Host.Outcome State Fault Refusal :=
  match s.pending with
  | [] => .next (idle s)
  | c :: rest => exec c { s with pending := rest }

/-- The state with the command a table word spells put in front of the queue; unchanged where the word spells none. -/
def State.withFetchWord (s : State) (nbits w : Nat) : State :=
  match decodeTableWord nbits w with
  | some c => { s with pending := c :: s.pending }
  | none => s

end Sys2Proof.Machine
end

