-- ==== Sys2Proof/Safety.lean ====
section
/-! DEFINITION. The terms the statements use: when a request is served (R398), what a reply is, and frames: which parts of
the state, which registers and which units a command may change. -/

namespace Sys2Proof.Safety

open Sys2Proof Sys2Proof.Machine

/-! ### Frames -/

/-- The parts of the state. -/
inductive Part
  | now | frame | free | regs | outbox | vcp | plant | broker | valves | motors | senses | pulses
  | analogs | auxs | cards | service | seqr | dies | clusters | integ | copies | pair | links | hall | buses
  | frameLog | power | ptp | fans | upds | fw | log | bmu | mirror | pending
deriving DecidableEq, Repr

/-- A part is the same in two states. -/
def Part.Same (p : Part) (s t : State) : Prop :=
  match p with
  | .now => t.now = s.now
  | .frame => t.frame = s.frame
  | .free => t.free = s.free
  | .regs => t.regs = s.regs
  | .outbox => t.outbox = s.outbox
  | .vcp => t.vcp = s.vcp
  | .plant => t.plant = s.plant
  | .broker => t.broker = s.broker
  | .valves => t.valves = s.valves
  | .motors => t.motors = s.motors
  | .senses => t.senses = s.senses
  | .pulses => t.pulses = s.pulses
  | .analogs => t.analogs = s.analogs
  | .auxs => t.auxs = s.auxs
  | .cards => t.cards = s.cards
  | .service => t.service = s.service
  | .seqr => t.seqr = s.seqr
  | .dies => t.dies = s.dies
  | .clusters => t.clusters = s.clusters
  | .integ => t.integ = s.integ
  | .copies => t.copies = s.copies
  | .pair => t.pair = s.pair
  | .links => t.links = s.links
  | .hall => t.hall = s.hall
  | .buses => t.buses = s.buses
  | .frameLog => t.frameLog = s.frameLog
  | .power => t.power = s.power
  | .ptp => t.ptp = s.ptp
  | .fans => t.fans = s.fans
  | .upds => t.upds = s.upds
  | .fw => t.fw = s.fw
  | .log => t.log = s.log
  | .bmu => t.bmu = s.bmu
  | .mirror => t.mirror = s.mirror
  | .pending => t.pending = s.pending

/-- No part outside the list changes. -/
def ChangesOnly (ps : List Part) (s t : State) : Prop := ∀ p, p ∉ ps → p.Same s t

/-- Registers in which reporting may leave a trace, whatever the command: LOG_DROP and LOG_EVENTS (R477, R478), VCP_EVENTS (R413) and
VCP_COUNT (Table 14-18). -/
def reportRegs : List (Nat × Nat) :=
  [(U.log, Off.logDrop), (U.log, Off.logEvents), (U.sys, Off.vcpEvents), (U.sys, Off.vcpCount)]

/-- No stored register outside the list and `reportRegs` changes. -/
def RegsOnly (l : List (Nat × Nat)) (s t : State) : Prop :=
  ∀ u off, off < 0x1000 → (u, off) ∉ l → (u, off) ∉ reportRegs → t.reg u off = s.reg u off

/-- No stored register changes. -/
def RegsSame (s t : State) : Prop := t.regs = s.regs

/-! ### Requests (Ch. 14) -/

/-- R398: the request of session `e` passes checks 1 to 4 and is not a repeated one, so that its opcode's own checks judge it. -/
structure Served (op : Op) (h : Hdr) (e : Session) (s : State) : Prop where
  assoc : ∃ a, assocOf s h = some a ∧ silentTo op a s = false
  session : sessionOf s h = some e
  header : headerCheck h (some e) = none
  fresh : keptOf s e.identity h.sequence = none
  notStale : seqStale s e.identity h.sequence = false
  checks : preCheck op h e (touch h e.id s) = none

/-- R52, R117, R145, R467: the request, which has waited for its frame boundary, passes checks 2 to 4 there, so that its opcode's own
checks judge it. -/
structure ServedLate (op : Op) (h : Hdr) (e : Session) (s : State) : Prop where
  session : sessionOf s h = some e
  fresh : keptOf s e.identity h.sequence = none
  checks : preCheck op h e s = none

/-- R400, R402: an accepted request finds its deadline met and room. -/
def Admits (h : Hdr) (e : Session) (c : Time) (s : State) : Prop := deadlineMissed h c s.now = false ∧ queueFull s e.id = false

/-- `o` leaves the module between `s` and `t`. -/
def Sends (o : Out) (s t : State) : Prop := ∃ l, t.outbox = l ++ s.outbox ∧ o ∈ l

/-- R395: the request is answered with a status, COMMITTED and data. -/
def Answers (h : Hdr) (st : Status) (c : Time) (data : List Nat) (s t : State) : Prop :=
  Sends (.reply h.version h.opcode h.session h.sequence h.unit.toNat st 0 c data) s t

/-- R401, R402: the request waits among the accepted ones. -/
def Waits (o : Origin) (t : State) : Prop := ∃ a ∈ t.vcp.accepted, isOrigin o a = true

/-! ### Judged writes (R407, R409) -/

/-- The state a judged write leaves: a refused one changes nothing. -/
def after (f : State → Judged) (s : State) : State := match f s with | .ok g => g s | _ => s

/-- The status a refused write gets. -/
def refusal (j : Judged) : Option Status := match j with | .refuse st => some st | _ => none

/-- The write is accepted and takes effect in its frame. -/
def takesEffect (j : Judged) : Bool := match j with | .ok _ => true | _ => false

/-- The write is accepted or refused in its frame: it is no command and no band. -/
def decidedNow (j : Judged) : Bool := match j with | .ok _ => true | .refuse _ => true | _ => false

/-! ### The benchmark unit (Ch. 18) -/

/-- The commands that act on the BMU-1 or on the module's copy of its registers: measurement, its cover, display, supply and clock, the
one-way link, and the Survey port. -/
def ofBmu (c : Instr) : Bool :=
  match c with
  | .bmuFrame _ | .bmuStale | .bmuLinkSend | .flowPulse | .measurementCycle _ _ _ _ | .setDay | .coverOpen | .coverClose
  | .displayButton | .displayTimeout | .auxSupplyLoss | .auxSupplyReturn | .cellLow | .operatingHour | .bmuPowerUp _ | .inventory
  | .getSystemInformation | .readSingleBlock _ | .readMultipleBlocks _ _ | .unsupportedCommand | .auth _ | .authResp _
  | .surveySessionEnd _ | .journalWrite _ => true
  | _ => false

end Sys2Proof.Safety
end

