-- ==== Sys2Proof/Certificates/Slice0/Obligations.lean ====
section
/-! DEFINITION. The statements for the provers, from the numbered rules of the spec. Each says what a command answers for every
state and operands that meet its hypotheses, its effect, and its frame: the parts, registers and units it leaves unchanged. -/

open Sys2Proof Sys2Proof.Machine Sys2Proof.Safety

/-! ### Valve channels (Ch. 10) -/

/-- R299, R300, R303, Table 10-4: a valve command (ENERGISE, RELEASE, TEST_PULSE) that its checks pass is put on its channel with its planned start
and committed time, an ENERGISE also at the end of the queue of pull-ins, and answered ACCEPTED; one with nothing to do is
answered OK, and a refused one with its status, both without effect on any channel. ABORT of an ENERGISE in progress is answered OK: the command
leaves the channel, a waiting pull-in is dropped, and one in PEAK is marked for release in the next frame and not judged. A channel that
a leak holds refuses it with DENIED. -/
def Obligations.ValveCommandsAnswered : Prop :=
  (∀ (h : Hdr) (tag : BitVec 16) (e : Session) (s u : State), u = touch h e.id s → Served (chanOp 0x50 1 h) h e s →
     let c := unitInst h.unit.toNat
     let decides := fun (i : Instr) (a : Nat) =>
       let plan := valvePlan u c a
       (valveRefusal u c a = none → valveIdle u c a = false → Admits h e plan.2 u →
         ∃ t, exec i s = .next t ∧ Answers h .accepted plan.2 [] s t
           ∧ t.valve c = { s.valve c with cmd := some { origin := originOf h e, tag := tag, action := a, committed := plan.2,
                                                        planned := plan.1, acceptedAt := s.now } }
           ∧ (∀ j, j ≠ c → t.valve j = s.valve j)
           ∧ t.plant = { s.plant with pullIns := if a = 1 then s.plant.pullIns ++ [c] else s.plant.pullIns }
           ∧ Waits (originOf h e) t ∧ ChangesOnly [.valves, .plant, .vcp, .outbox, .regs] s t ∧ RegsOnly [] s t)
       ∧ (valveRefusal u c a = none → valveIdle u c a = true → deadlineMissed h s.now s.now = false →
         ∃ t, exec i s = .next t ∧ Answers h .ok s.now [] s t ∧ ChangesOnly [.vcp, .outbox, .regs] s t ∧ RegsOnly [] s t)
       ∧ (∀ st, valveRefusal u c a = some st →
         ∃ t, exec i s = .next t ∧ Answers h st 0 [] s t ∧ ChangesOnly [.vcp, .outbox, .regs] s t ∧ RegsOnly [] s t)
     decides (.release h tag) 0 ∧ decides (.energise h tag) 1 ∧ decides (.testPulse h tag) 2)
  ∧ (∀ (h : Hdr) (tag : BitVec 16) (e : Session) (s : State) (k : ChanCmd), Served (chanOp 0x52 1 h) h e s →
     let c := unitInst h.unit.toNat
     let v := s.valve c
     ((s.valve c).leakHeld = false → v.cmd = some k → k.tag = tag → k.action = 1 → deadlineMissed h s.now s.now = false →
       ∃ t, exec (.abortValve h tag) s = .next t ∧ Answers h .ok s.now [] s t
         ∧ t.valve c = { v with
             cmd := none, phase := if v.phase = .deferred then .off else v.phase, waitBudget := false, waitDuty := false,
             toldDuty := false, toldBudget := false, releaseNext := v.releaseNext || decide (v.phase = .peak), judged := v.judged || decide (v.phase = .peak) }
         ∧ c ∉ t.plant.pullIns ∧ (∀ j, j ≠ c → t.valve j = s.valve j)
         ∧ ChangesOnly [.valves, .plant, .vcp, .outbox, .regs, .log] s t ∧ RegsOnly [] s t)
     ∧ ((s.valve c).leakHeld = true →
       ∃ t, exec (.abortValve h tag) s = .next t ∧ Answers h .denied 0 [] s t
         ∧ ChangesOnly [.vcp, .outbox, .regs] s t ∧ RegsOnly [] s t))

/-- R283 to R287: the events of one pull-in: the end of PEAK holds the channel and completes its command; the first sample at
PEAK_I is written to VLV_LAST.TTP and judged against VLV_TTP; TTP_MAX without one reads 0xFFFF; a dip is written to VLV_LAST.DIP; and
a pull-in without a dip at DIP_END sets VALVE_NOT_MOVED and counts. -/
def Obligations.PullInJudged : Prop :=
  ∀ (ch : Fin 96) (s : State),
    let c := ch.val
    let v := s.valve c
    let last := s.reg (U.vlv c) Off.vlvLast
    let events := s.reg (U.vlv c) Off.vlvEvents
    (v.phase = .peak → v.startAt + peakNs s c ≤ s.now →
      ∃ t, exec (.peakEnd ch) s = .next t
        ∧ t.valve c = { v with phase := .held, cmd := none,
                               doneFrame := match v.cmd with | some k => some (s.frame, k.tag, k.action) | none => v.doneFrame }
        ∧ (∀ j, j ≠ c → t.valve j = s.valve j) ∧ ChangesOnly [.valves, .vcp, .outbox, .regs, .log] s t ∧ RegsOnly [] s t)
    ∧ (∀ n mA, v.phase = .peak → v.peakSeen = false → peakI s c * 10 ≤ mA → v.startAt + n * 10000 ≤ s.now →
      ∃ t, exec (.peakReached ch n mA) s = .next t ∧ t.valve c = { v with peakSeen := true, current := mA }
        ∧ t.reg (U.vlv c) Off.vlvLast = putFld last 15 0 (sat 0xFFFE n)
        ∧ t.reg (U.vlv c) Off.vlvEvents = (if n < s.fldOf (U.vlv c) Off.vlvTtp 15 0 then orBit events 2
                                           else if s.fldOf (U.vlv c) Off.vlvTtp 31 16 < n ∧ v.ttpDone = false then orBit events 3 else events)
        ∧ (∀ j, j ≠ c → t.valve j = s.valve j) ∧ ChangesOnly [.valves, .vcp, .outbox, .regs] s t
        ∧ RegsOnly [(U.vlv c, Off.vlvLast), (U.vlv c, Off.vlvEvents)] s t)
    ∧ (v.phase = .peak ∨ v.phase = .held → v.peakSeen = false → v.ttpDone = false → at10us s c Off.vlvTtp 31 16 ≤ s.now →
      ∃ t, exec (.ttpTimeout ch) s = .next t ∧ t.valve c = { v with ttpDone := true }
        ∧ t.reg (U.vlv c) Off.vlvLast = putFld last 15 0 0xFFFF ∧ t.reg (U.vlv c) Off.vlvEvents = orBit events 3
        ∧ (∀ j, j ≠ c → t.valve j = s.valve j) ∧ ChangesOnly [.valves, .vcp, .outbox, .regs] s t
        ∧ RegsOnly [(U.vlv c, Off.vlvLast), (U.vlv c, Off.vlvEvents)] s t)
    ∧ (∀ n mA, v.phase = .peak → v.peakSeen = false → v.dipFound = false → v.judged = false →
        s.fldOf (U.vlv c) Off.vlvDipWin 15 0 ≤ n → n ≤ s.fldOf (U.vlv c) Off.vlvDipWin 31 16 →
        mA + s.fldOf (U.vlv c) Off.vlvTestDip 15 0 ≤ v.runMax → v.startAt + n * 10000 ≤ s.now →
      ∃ t, exec (.dipFound ch n mA) s = .next t ∧ t.valve c = { v with dipFound := true, current := mA }
        ∧ t.reg (U.vlv c) Off.vlvLast = putFld last 31 16 n
        ∧ (∀ j, j ≠ c → t.valve j = s.valve j) ∧ ChangesOnly [.valves, .broker, .vcp, .outbox, .regs, .log] s t)
    ∧ (v.judged = false → at10us s c Off.vlvDipWin 31 16 ≤ s.now →
      ∃ t, exec (.dipEnd ch) s = .next t ∧ t.valve c = { v with judged := true }
        ∧ (v.dipFound = false → t.fldOf (U.vlv c) Off.vlvLast 31 16 = 0xFFFF ∧ t.bitAt (U.vlv c) Off.vlvEvents 4 = true
            ∧ t.fldOf (U.vlv c) Off.vlvCount 15 0 = sat 0xFFFF (s.fldOf (U.vlv c) Off.vlvCount 15 0 + 1))
        ∧ (v.dipFound = true → v.phase = .peak ∨ v.phase = .held →
            t.reg (U.vlv c) Off.vlvLast = last ∧ t.reg (U.vlv c) Off.vlvEvents = events)
        ∧ (∀ j, j ≠ c → t.valve j = s.valve j) ∧ ChangesOnly [.valves, .broker, .vcp, .outbox, .regs, .log] s t)

/-- R284, R290, R294, R296, R305: how a drive ends: the current falls and the channel is OFF; it does not fall within 10 ms and the
channel is tripped; a sample above 8.00 A trips it into its release; an open load is noted while the channel keeps driving;
charges leave the duty account WINDOW seconds after their start; and a test pulse's sample is judged against its band. -/
def Obligations.DriveEnds : Prop :=
  ∀ (ch : Fin 96) (s : State),
    let c := ch.val
    let v := s.valve c
    let events := s.reg (U.vlv c) Off.vlvEvents
    let dropped : Valve → Valve := fun w =>
      { w with cmd := none, waitBudget := false, waitDuty := false, toldDuty := false, toldBudget := false }
    (v.phase = .releasing ∨ (v.phase = .test ∧ v.pulseEnded = true) →
      ∃ t, exec (.releaseDone ch) s = .next t ∧ (t.valve c).phase = .off ∧ (t.valve c).current < 50
        ∧ ((t.valve c).cmd = none ∨ ∃ k, v.cmd = some k ∧ k.action = 1 ∧ (t.valve c).cmd = some k)
        ∧ (∀ j, j ≠ c → t.valve j = s.valve j) ∧ ChangesOnly [.valves, .vcp, .outbox, .regs, .log] s t ∧ RegsOnly [] s t)
    ∧ (v.phase = .releasing → v.relAt + 10 * Config.ms ≤ s.now →
      ∃ t, exec (.releaseFault ch) s = .next t ∧ t.valve c = dropped { v with phase := .off, tripped := true }
        ∧ t.reg (U.vlv c) Off.vlvEvents = orBit events 8 ∧ c ∉ t.plant.pullIns
        ∧ (∀ j, j ≠ c → t.valve j = s.valve j) ∧ ChangesOnly [.valves, .plant, .vcp, .outbox, .regs, .log] s t
        ∧ RegsOnly [(U.vlv c, Off.vlvEvents)] s t)
    ∧ (∀ mA, 8000 < mA →
      ∃ t, exec (.valveTrip ch mA) s = .next t
        ∧ t.valve c = dropped { v with phase := .releasing, relAt := s.now, tripped := true, current := mA,
                                       judged := v.judged || !v.reflex, releaseNext := false }
        ∧ t.reg (U.vlv c) Off.vlvEvents = orBit events 0 ∧ c ∉ t.plant.pullIns
        ∧ (∀ j, j ≠ c → t.valve j = s.valve j) ∧ ChangesOnly [.valves, .plant, .vcp, .outbox, .regs, .log] s t
        ∧ RegsOnly [(U.vlv c, Off.vlvEvents)] s t)
    ∧ (v.phase = .held →
      ∃ t, exec (.openLoad ch) s = .next t ∧ t.valve c = { v with openSince := true } ∧ t.reg (U.vlv c) Off.vlvEvents = orBit events 1
        ∧ (∀ j, j ≠ c → t.valve j = s.valve j) ∧ ChangesOnly [.valves, .vcp, .outbox, .regs] s t
        ∧ RegsOnly [(U.vlv c, Off.vlvEvents)] s t)
    ∧ (∃ t, exec (.dutyExpire ch) s = .next t ∧ (∀ j, j ≠ c → t.valve j = s.valve j)
        ∧ (∀ q, q ∈ (t.valve c).charges ↔ q ∈ v.charges ∧ s.now < q.1 + s.fldOf (U.vlv c) Off.vlvDuty 23 16 * Config.sec)
        ∧ t.valve c = { v with charges := (t.valve c).charges } ∧ ChangesOnly [.valves] s t)
    ∧ (∀ mA, v.phase = .test → v.pulseEnded = false → v.relAt + 200 * Config.us ≤ s.now →
      ∃ t, exec (.testPulseEnd ch mA) s = .next t ∧ t.valve c = { v with pulseEnded := true, current := mA }
        ∧ t.reg (U.vlv c) Off.vlvEvents =
            (if mA < s.fldOf (U.vlv c) Off.vlvTestDip 31 24 * 10 ∨ s.fldOf (U.vlv c) Off.vlvTestDip 23 16 * 10 < mA
             then orBit events 9 else events)
        ∧ (∀ j, j ≠ c → t.valve j = s.valve j) ∧ ChangesOnly [.valves, .regs] s t ∧ RegsOnly [(U.vlv c, Off.vlvEvents)] s t)

/-! ### Motor channels (Ch. 11) -/

/-- R321, R322: MOTOR_CMD RUN or STOP: a command that its checks pass is put on its channel with its committed time and answered ACCEPTED; STOP
of a stopped channel is answered OK; a refused one is answered with its status; the last two change no channel. ABORT of a RUN in progress is
answered OK: its command ends, and a run that has begun is marked to stop in the next frame; ABORT of a STOP is refused with DENIED. -/
def Obligations.MotorCommandsAnswered : Prop :=
  (∀ (h : Hdr) (tag speed : BitVec 16) (e : Session) (s u : State), u = touch h e.id s → Served (chanOp 0x51 2 h) h e s →
     let c := unitInst h.unit.toNat
     let decides := fun (i : Instr) (action : Nat) =>
       let q : MotorReq := { action := action, tag := tag, speed := speed.toNat, origin := originOf h e }
       (motorRefusal u c q = none → action = 1 ∨ (s.motor c).st ≠ .stopped → Admits h e (motorCommitted u c q) u →
         ∃ t, exec i s = .next t ∧ Answers h .accepted (motorCommitted u c q) [] s t
           ∧ t.motor c = { s.motor c with
               cmd := some { origin := originOf h e, tag := tag, action := action, committed := motorCommitted u c q,
                             planned := (s.frame + 1) * 50000, acceptedAt := s.now },
               reqSpeed := speed.toNat, started := false }
           ∧ (∀ j, j ≠ c → t.motor j = s.motor j) ∧ Waits (originOf h e) t
           ∧ ChangesOnly [.motors, .vcp, .outbox, .regs] s t ∧ RegsOnly [] s t)
       ∧ (∀ st, motorRefusal u c q = some st →
         ∃ t, exec i s = .next t ∧ Answers h st 0 [] s t ∧ ChangesOnly [.vcp, .outbox, .regs] s t ∧ RegsOnly [] s t)
     decides (.motorRun h tag speed) 1 ∧ decides (.motorStop h tag speed) 0
     ∧ (motorRefusal u c { action := 0, tag := tag, speed := speed.toNat, origin := originOf h e } = none →
         (s.motor c).st = .stopped → deadlineMissed h s.now s.now = false →
       ∃ t, exec (.motorStop h tag speed) s = .next t ∧ Answers h .ok s.now [] s t
         ∧ ChangesOnly [.vcp, .outbox, .regs] s t ∧ RegsOnly [] s t))
  ∧ (∀ (h : Hdr) (tag : BitVec 16) (e : Session) (s : State) (k : ChanCmd), Served (chanOp 0x52 2 h) h e s →
     let c := unitInst h.unit.toNat
     let m := s.motor c
     m.cmd = some k → k.tag = tag →
     (k.action = 1 → deadlineMissed h s.now s.now = false →
       ∃ t, exec (.abortMotor h tag) s = .next t ∧ Answers h .ok s.now [] s t ∧ (t.motor c).cmd = none
         ∧ (t.motor c).stopNext = (m.stopNext || m.started) ∧ (t.motor c).st = m.st ∧ (t.motor c).target = m.target
         ∧ (∀ j, j ≠ c → t.motor j = s.motor j) ∧ ChangesOnly [.motors, .vcp, .outbox, .regs, .log] s t ∧ RegsOnly [] s t)
     ∧ (k.action ≠ 1 →
       ∃ t, exec (.abortMotor h tag) s = .next t ∧ Answers h .denied 0 [] s t
         ∧ ChangesOnly [.vcp, .outbox, .regs] s t ∧ RegsOnly [] s t))

/-- Table 11-7, R319, R320, Table 11-8: the transitions of a motor channel that go on: KICK ends in RAMP above KICK_EXIT, RAMP in RUNNING at its target,
BACKOFF in KICK with its event, and 60 s in RUNNING clear FAILURES; and an encoder index sets POSITION to 0 and counts; off by more than the
tolerance it is a slip, counted with its event, and the third slip in a row is an encoder fault. -/
def Obligations.MotorGoesOn : Prop :=
  (∀ (ch : Fin 48) (s : State),
     let c := ch.val
     let m := s.motor c
     (m.st = .kick → kickExit s c < m.rpm →
       ∃ t, exec (.kickExit ch) s = .next t ∧ (t.motor c).st = .ramp ∧ (t.motor c).enteredAt = s.now
         ∧ (t.motor c).command = shareOf s c (kickExit s c) ∧ (t.motor c).target = m.target ∧ (t.motor c).cmd = m.cmd
         ∧ (∀ j, j ≠ c → t.motor j = s.motor j) ∧ ChangesOnly [.motors, .outbox, .regs, .log] s t ∧ RegsOnly [] s t)
     ∧ (m.st = .ramp → m.command = m.target →
       ∃ t, exec (.rampDone ch) s = .next t ∧ (t.motor c).st = .running ∧ (t.motor c).command = m.target ∧ (t.motor c).cmd = none
         ∧ (t.motor c).runSince = some s.now
         ∧ (∀ j, j ≠ c → t.motor j = s.motor j) ∧ ChangesOnly [.motors, .vcp, .outbox, .regs, .log] s t ∧ RegsOnly [] s t)
     ∧ (m.st = .backoff → m.enteredAt + backoffNs s c ≤ s.now →
       ∃ t, exec (.backoffEnd ch) s = .next t ∧ (t.motor c).st = .kick ∧ (t.motor c).command = 1000 * outUnit
         ∧ (t.motor c).enteredAt = s.now ∧ t.reg (U.mot c) Off.motEvents = orBit (s.reg (U.mot c) Off.motEvents) 4
         ∧ (∀ j, j ≠ c → t.motor j = s.motor j) ∧ ChangesOnly [.motors, .outbox, .regs, .log] s t
         ∧ RegsOnly [(U.mot c, Off.motEvents)] s t)
     ∧ (∀ r, m.runSince = some r → m.st = .running → r + 60 * Config.sec ≤ s.now →
       ∃ t, exec (.failuresReset ch) s = .next t ∧ t.motor c = { m with failures := 0 }
         ∧ (∀ j, j ≠ c → t.motor j = s.motor j) ∧ ChangesOnly [.motors] s t))
  ∧ (∀ (ch : Fin 48) (edge : Int) (s : State),
     let c := ch.val
     let m := s.motor c
     let cpr := s.fldOf (U.mot c) Off.motEnc 31 16
     let off := (((m.position + edge).natAbs : Int) - cpr).natAbs
     cpr ≠ 0 →
     ∃ t, exec (.encoderIndex ch edge) s = .next t ∧ (t.motor c).position = 0 ∧ (t.motor c).indexes = m.indexes + 1
       ∧ (t.motor c).refValid = true
       ∧ (m.refValid = true → off ≤ s.fldOf (U.mot c) Off.motEnc 15 8 → (t.motor c).slipRun = 0
           ∧ t.fldOf (U.mot c) Off.motEncCount 31 16 =
               (let n := s.fldOf (U.mot c) Off.motEncCount 31 16; if off = 0 then n else sat 0xFFFF (n + 1)))
       ∧ (m.refValid = false → t.reg (U.mot c) Off.motEncCount = s.reg (U.mot c) Off.motEncCount)
       ∧ (m.refValid = true → s.fldOf (U.mot c) Off.motEnc 15 8 < off →
           (t.motor c).slipRun = m.slipRun + 1 ∧ t.bitAt (U.mot c) Off.motEvents 5 = true
           ∧ t.fldOf (U.mot c) Off.motEncCount 15 0 = sat 0xFFFF (s.fldOf (U.mot c) Off.motEncCount 15 0 + 1)
           ∧ ((t.motor c).encFault = true ↔ m.encFault = true ∨ 2 ≤ m.slipRun))
       ∧ (∀ j, j ≠ c → t.motor j = s.motor j) ∧ ChangesOnly [.motors, .regs] s t
       ∧ RegsOnly [(U.mot c, Off.motEvents), (U.mot c, Off.motEncCount)] s t)

/-- R319: the three failures of a motor channel (KICK_TIMEOUT, TACH_LOW, DRIVE_FAULT) set their event and end its command; while restarts
are left the channel backs off and counts the failure, and with none left it is FAULTED with RESTARTS_EXHAUSTED. -/
def Obligations.MotorFailures : Prop :=
  ∀ (ch : Fin 48) (s : State),
    let c := ch.val
    let m := s.motor c
    let fails := fun (i : Instr) (bit : Nat) =>
      ∃ t, exec i s = .next t ∧ t.bitAt (U.mot c) Off.motEvents bit = true
        ∧ (m.failures < restarts s c →
            (t.motor c).st = .backoff ∧ (t.motor c).failures = m.failures + 1 ∧ (t.motor c).enteredAt = s.now ∧ (t.motor c).cmd = none
            ∧ (∀ j, j ≠ c → t.motor j = s.motor j) ∧ ChangesOnly [.motors, .vcp, .outbox, .regs, .log] s t
            ∧ RegsOnly [(U.mot c, Off.motEvents)] s t)
        ∧ (restarts s c ≤ m.failures → (t.motor c).st = .faulted ∧ t.bitAt (U.mot c) Off.motEvents 7 = true
            ∧ ChangesOnly [.motors, .plant, .vcp, .outbox, .regs, .log] s t)
    (m.st = .kick → m.rpm ≤ kickExit s c → m.enteredAt + kickNs s c ≤ s.now → fails (.kickTimeout ch) 2)
    ∧ (∀ l, m.st = .ramp ∨ m.st = .running → m.lowSince = some l → l + s.fldOf (U.mot c) Off.motTach 23 16 * Config.sec ≤ s.now →
        fails (.tachLow ch) 1)
    ∧ (∀ f, motRuns m.st = true → m.faultSince = some f → f + 100 * Config.ms ≤ s.now → fails (.driveFault ch) 3)

/-! ### The envelope, caps and previews (Ch. 4) -/

/-- R76 to R78: ENVELOPE_SET below the sum of the floors is refused; any other is accepted, committed 2 ms after now: the envelope is in
force, every cap keeps its value or loses its share of R77, no cap falls below its floor, and the caps fit the envelope. -/
def Obligations.EnvelopeInForce : Prop :=
  ∀ (h : Hdr) (env : BitVec 32) (e : Session) (s u : State), u = touch h e.id s → Served (opEnvelopeSet h) h e s →
    (floorSum s ≤ env.toNat → Admits h e (s.now + 2000000) u →
      ∃ t, exec (.envelopeSet h env) s = .next t ∧ Answers h .accepted (s.now + 2000000) [] s t ∧ Waits (originOf h e) t
        ∧ t.broker.envelope = env.toNat ∧ capSum t ≤ env.toNat
        ∧ (∀ r, r < 16 → (t.rack r).cap =
            (if capSum s ≤ env.toNat then (s.rack r).cap
             else (s.rack r).cap - envelopeShare (capSum s - env.toNat) ((s.rack r).cap - floor s r)
                    (sumRacks (fun q => (s.rack q).cap - floor s q))))
        ∧ (∀ r, r < 16 → floor s r ≤ (s.rack r).cap → floor s r ≤ (t.rack r).cap)
        ∧ (∀ r, r < 16 → (t.rack r).cap ≤ (s.rack r).cap ∧ ((s.rack r).cap ≤ rating s r → (t.rack r).cap ≤ rating t r))
        ∧ t.bitAt U.cap Off.capEvents 1 = (s.bitAt U.cap Off.capEvents 1 || decide (env.toNat < capSum s))
        ∧ ChangesOnly [.broker, .vcp, .outbox, .regs, .log, .free] s t ∧ RegsOnly [(U.cap, Off.capEvents)] s t)
    ∧ (env.toNat < floorSum s →
      ∃ t, exec (.envelopeSet h env) s = .next t ∧ Answers h .badParam 0 [] s t ∧ ChangesOnly [.vcp, .outbox, .regs] s t
        ∧ RegsOnly [] s t)

/-- R81 to R86: CAP_ACK of a grant whose window or answer is kept acknowledges its cap and closes its window and every older one; the
answer to the newest grant will clear NO_ACK. A sequence the module has not sent is refused.
R83 to R85: a grant's window that closes unanswered sets NO_ACK and its event, and the SAFETY cause when the grant lowers the
acknowledged cap; the newest grant, unanswered, is sent again 100 ms after it left, under a new sequence, with the same cap. -/
def Obligations.CapAcknowledged : Prop :=
  (∀ (h : Hdr) (rack : BitVec 8) (seq power : BitVec 32) (e : Session) (s : State), Served (opCapAck h rack) h e s →
     let k := s.rack rack.toNat
     (rack.toNat < 16 → grantSent k seq = true → deadlineMissed h s.now s.now = false →
       ∃ t, exec (.capAck h rack seq power) s = .next t ∧ Answers h .ok s.now [] s t ∧ (t.rack rack.toNat).power = power.toNat
         ∧ (t.rack rack.toNat).cap = k.cap
         ∧ (∀ g, k.grants.find? (fun g => decide (g.seq = seq)) = some g →
             (g.acked = false → (t.rack rack.toNat).acked = some g.cap)
             ∧ (∀ o ∈ (t.rack rack.toNat).grants, o.seq = seq ∨ seqNewer seq o.seq = true → o.open_ = false)
             ∧ (seq = k.grantSeq → (t.rack rack.toNat).noAckNext = some false))
         ∧ (∀ q, q ≠ rack.toNat → t.rack q = s.rack q) ∧ ChangesOnly [.broker, .vcp, .outbox, .regs] s t ∧ RegsOnly [] s t)
     ∧ ((15 < rack.toNat ∨ grantSent k seq = false) →
       ∃ t, exec (.capAck h rack seq power) s = .next t ∧ Answers h .badParam 0 [] s t
         ∧ ChangesOnly [.vcp, .outbox, .regs] s t ∧ RegsOnly [] s t))
  ∧ (∀ (r : Fin 16) (s : State),
     let k := s.rack r.val
     (∀ seq g, k.grants.find? (fun g => decide (g.seq = seq)) = some g → g.open_ = true → frameOf (windowEnd g) < frameOf s.now →
       ∃ t, exec (.ackWindowClose r seq) s = .next t ∧ (t.rack r.val).noAck = true
         ∧ (t.rack r.val).beaconNoAck = (k.beaconNoAck || (decide (g.kind = 0) && decide (g.cap < ackedCap s r.val)))
         ∧ (∀ o ∈ (t.rack r.val).grants, o.seq = seq → o.open_ = false) ∧ (t.rack r.val).cap = k.cap
         ∧ t.bitAt U.cap Off.capEvents 0 = true ∧ (∀ q, q ≠ r.val → t.rack q = s.rack q)
         ∧ ChangesOnly [.broker, .plant, .vcp, .outbox, .regs, .log] s t ∧ RegsOnly [(U.cap, Off.capEvents)] s t)
     ∧ (∀ g rest, k.grants = g :: rest → g.open_ = false → g.acked = false → g.leftAt + 100 * Config.ms ≤ s.now →
       ∃ t, exec (.grantRepeat r) s = .next t ∧ (t.rack r.val).grantSeq = k.grantSeq + 1 ∧ (t.rack r.val).cap = k.cap
         ∧ Sends (.grant (fin16 r.val) g.kind (k.grantSeq + 1) k.cap g.raId g.expected s.now) s t
         ∧ (∀ q, q ≠ r.val → t.rack q = s.rack q) ∧ ChangesOnly [.broker, .outbox, .regs, .log] s t ∧ RegsOnly [] s t))

/-- R95 to R98: a PREVIEW inside the limits of R96 that names no active preview is added and accepted, committed two legs after the next
boundary; one that replaces an active preview becomes its next content; the 65th is refused with BUSY, and one outside the limits,
or that names an active preview without REPLACE, with BAD_PARAM.
R99, R104, R107: PREVIEW_CANCEL of an active preview whose end lies after the frame is accepted for the next leg boundary and takes
the preview away, with a revocation of its components waiting while legs run; the cancel of one that is no longer active is
ALREADY_COMPLETE, of one never accepted BAD_PARAM; and a preview whose time has passed ends by itself without a notice. -/
def Obligations.PreviewsAccepted : Prop :=
  (∀ (h : Hdr) (id : BitVec 32) (racks flags : BitVec 16) (start : BitVec 64) (duration load ramp : BitVec 32) (e : Session) (s u : State),
    u = touch h e.id s → Served (opPreview h) h e s →
    let active := s.broker.previews.any (fun p => decide (p.id = id))
    let replace := flags.getLsbD 0
    let inLimits := flags.toNat < 2 ∧ (replace = true → hasCap e 3 = true) ∧ 1 ≤ id.toNat ∧ id.toNat ≤ 0x7FFFFFFF ∧ racks ≠ 0 ∧ s.now ≤ start.toNat
      ∧ start.toNat ≤ s.now + s.plant.horizon * 1000000000 ∧ 1000 ≤ duration.toNat ∧ duration.toNat ≤ 86400000
    let refused := fun (st : Status) => ∃ t, exec (.preview h id racks flags start duration load ramp) s = .next t ∧ Answers h st 0 [] s t
      ∧ ChangesOnly [.vcp, .outbox, .regs] s t ∧ RegsOnly [] s t
    (inLimits → active = false → s.broker.previews.length < 64 → Admits h e (previewCommitted u) u →
      ∃ t, exec (.preview h id racks flags start duration load ramp) s = .next t ∧ Answers h .accepted (previewCommitted u) [] s t
        ∧ Waits (originOf h e) t
        ∧ t.broker = { s.broker with
            previews := s.broker.previews ++ [{ id, racks, start := start.toNat, duration := duration.toNat, load := load.toNat, ramp := ramp.toNat }],
            everPreviews := id :: s.broker.everPreviews.filter (· ≠ id) }
        ∧ ChangesOnly [.broker, .vcp, .outbox, .regs] s t ∧ RegsOnly [] s t)
    ∧ (inLimits → active = true → replace = true → Admits h e (previewCommitted u) u →
      ∃ t, exec (.preview h id racks flags start duration load ramp) s = .next t ∧ Answers h .accepted (previewCommitted u) [] s t
        ∧ Waits (originOf h e) t
        ∧ (∀ p ∈ t.broker.previews, p.id = id → p.next = some (racks, start.toNat, duration.toNat, load.toNat, ramp.toNat))
        ∧ (∀ p, p.id ≠ id → (p ∈ t.broker.previews ↔ p ∈ s.broker.previews))
        ∧ ChangesOnly [.broker, .vcp, .outbox, .regs] s t ∧ RegsOnly [] s t)
    ∧ (inLimits → active = false → 64 ≤ s.broker.previews.length → refused .busy)
    ∧ (inLimits → active = true → replace = false → refused .badParam)
    ∧ (¬ inLimits → refused .badParam))
  ∧ ((∀ (h : Hdr) (id : BitVec 32) (e : Session) (s u : State), u = touch h e.id s → Served (opPreviewCancel h) h e s →
    let running := s.broker.previews.any (fun p => decide (p.id = id) && decide (s.now / 50000 < (p.start + p.duration * 1000000) / 50000))
    (running = true → Admits h e (nextBoundary u) u →
      ∃ t, exec (.previewCancel h id) s = .next t ∧ Answers h .accepted (nextBoundary u) [] s t
        ∧ (∀ p, p ∈ t.broker.previews ↔ p ∈ s.broker.previews ∧ p.id ≠ id)
        ∧ (s.seqr.st = .running → t.broker.revoke = s.broker.revoke ++ [(id, true)] ∧ t.broker.prov = s.broker.prov)
        ∧ (s.seqr.st = .loaded → ∀ p ∈ t.broker.prov, p.act.raId ≠ id)
        ∧ ChangesOnly [.broker, .vcp, .outbox, .regs, .log, .free] s t ∧ RegsOnly [] s t)
    ∧ (running = false →
      ∃ t, exec (.previewCancel h id) s = .next t
        ∧ Answers h (if s.broker.everPreviews.elem id then .alreadyComplete else .badParam) 0 [] s t
        ∧ ChangesOnly [.vcp, .outbox, .regs] s t ∧ RegsOnly [] s t))
  ∧ ∀ (id : BitVec 32) (s : State),
    s.broker.previews.any (fun p => decide (p.id = id) && decide (p.start + p.duration * 1000000 ≤ s.now)) = true →
    ∃ t, exec (.previewEnd id) s = .next t ∧ (∀ p, p ∈ t.broker.previews ↔ p ∈ s.broker.previews ∧ p.id ≠ id)
      ∧ (s.seqr.st = .running → t.broker.revoke = s.broker.revoke ++ [(id, false)])
      ∧ (s.seqr.st = .loaded → ∀ p ∈ t.broker.prov, p.act.raId ≠ id)
      ∧ (∀ o ∈ t.outbox, (∃ r q c x l, o = .grant r Kind.revoke q c id x l) → o ∈ s.outbox)
      ∧ ChangesOnly [.broker, .outbox, .regs, .log, .free] s t ∧ RegsOnly [] s t)

/-- R109 to R112: leak sources: a rack's alarm clears after 10 s; a flow imbalance counts after 10 s; the reservoir's fall sets ROW_SUSPECT
and a source of every rack; SUSPECT ends after 60 s with every source clear; and 20 ms after t0 the isolation valves are taken
without the CAP_ACK. -/
def Obligations.LeakSources : Prop :=
  ∀ (r : Fin 16) (s : State),
    let k := s.rack r.val
    (k.sources.getLsbD 1 = true → k.alarmAt + 10000000000 ≤ s.now →
      ∃ t, exec (.leakSourceClear r) s = .next t ∧ (t.rack r.val).sources = k.sources &&& ~~~ 2
        ∧ (∀ q, q ≠ r.val → (t.rack q).sources = (s.rack q).sources))
    ∧ (∀ z, k.imbalanceSince = some z → imbalanced k = true → z + 10000000000 ≤ s.now →
      ∃ t, exec (.flowImbalance r) s = .next t ∧ (t.rack r.val).sources = k.sources ||| 4
        ∧ (isKeeper s = true → k.stage = .clear → 1 ≤ stageCode (t.rack r.val).stage)
        ∧ (∀ q, q ≠ r.val → (t.rack q).sources = (s.rack q).sources))
    ∧ (∀ level, ∃ t, exec (.reservoirCheck level) s = .next t ∧ t.plant.rowSuspect = reservoirFalls s level
        ∧ (∀ q, q < 16 → (t.rack q).sources.getLsbD 4 = reservoirFalls s level)
        ∧ (reservoirFalls s level = true → s.plant.rowSuspect = false → t.bitAt U.cap Off.capEvents 3 = true))
    ∧ (∀ z, k.clearSince = some z → k.stage = .suspect → z + 60000000000 ≤ s.now →
      ∃ t, exec (.leakClear r) s = .next t ∧ t.rack r.val = { k with stage := .clear, seen := 0, seenCables := [] }
        ∧ (∀ q, q ≠ r.val → t.rack q = s.rack q) ∧ ChangesOnly [.broker, .vcp, .outbox, .regs, .log] s t ∧ RegsOnly [] s t)
    ∧ (∀ l, k.leak = some l → l.begun = true → l.tv = none → l.t0 + 20 * Config.ms ≤ s.now →
      ∃ t l', exec (.leakIsolateTimeout r) s = .next t ∧ (t.rack r.val).leak = some l' ∧ l'.tv = some s.now
        ∧ l'.isolation.length = (isolationRoles r.val).length ∧ (t.rack r.val).cap = k.cap
        ∧ ChangesOnly [.broker, .valves, .plant, .vcp, .outbox, .regs, .log] s t)

/-! ### Plant control (Ch. 3) -/

/-- R51, R52: a MODE_SET that names a mode waits, in order, for the frame boundary, at which it is judged; ISOLATE and the codes without
a mode are refused with BAD_PARAM at once. R53, R54, R410, Table 3-4, judged there: the mode it is in already is answered OK; on a
plain transition of the table it is answered OK with the boundary, the mode changes, FORCED and the armed return clear, every
output stays where it is, and OFF and COMMISSION lower every cap to its floor; FALLBACK from RUN is forced; RUN is entered while the
engine commits its legs, and FALLBACK with the return armed while it does not; what the table has no row for is DENIED.
R64 to R66, R411: POLICY_SET of one to four bands that pass their checks is accepted: the bands wait, in order, for their
boundary, one reporting gap before COMMITTED; the first entry that fails is named in the reply's detail, and none or more than four
are refused; both change nothing. -/
def Obligations.ModeAndPolicy : Prop :=
  ((∀ (h : Hdr) (code : BitVec 8) (e : Session) (s u : State), u = touch h e.id s → Served (opModeSet h code.toNat) h e s →
     (∀ m, askedMode code.toNat = some m →
       ∃ t, exec (.modeSet h code) s = .next t ∧ t.plant = { s.plant with modeAsks := s.plant.modeAsks ++ [(h, code.toNat)] }
         ∧ t.vcp = u.vcp ∧ ChangesOnly [.plant, .vcp] s t)
     ∧ (code = 3 →
       ∃ t, exec (.modeSetFallback h) s = .next t ∧ t.plant = { s.plant with modeAsks := s.plant.modeAsks ++ [(h, 3)] }
         ∧ t.vcp = u.vcp ∧ ChangesOnly [.plant, .vcp] s t)
     ∧ (askedMode code.toNat = none →
       ∃ t, exec (.modeSet h code) s = .next t ∧ Answers h .badParam 0 [] s t ∧ ChangesOnly [.vcp, .outbox, .regs] s t ∧ RegsOnly [] s t))
  ∧ (∀ (up : List Uplink) (s : State), s.power.step ≠ 0 →
     exec (.cardBusFrame up) s = .next (frameAfter (frameReceived up s) (judgeReleases (judgeModes (frameBefore up s)))))
  ∧ (∀ (h : Hdr) (code : Nat) (e : Session) (s : State), s.plant.modeAsks = [(h, code)] →
       ServedLate (opModeSet h code) h e { s with plant.modeAsks := [] } → deadlineMissed h s.now s.now = false →
     let t := judgeModes s
     let held := ∀ l, l < 5 → (t.loop l).out = (s.loop l).out
     let parts : List Part := [.broker, .free, .integ, .log, .motors, .outbox, .plant, .regs, .seqr, .vcp]
     let plain : List (Mode × Mode) :=
       [(.off, .commission), (.off, .maintain), (.commission, .off), (.commission, .maintain), (.run, .maintain), (.run, .off),
        (.fallback, .maintain), (.fallback, .off), (.isolate, .maintain), (.isolate, .off), (.maintain, .off)]
     (∀ m, (s.plant.mode, m) ∈ plain → askedMode code = some m → (m = .commission → e.role = .engineer) →
       Answers h .ok s.now [] s t ∧ t.plant.mode = m ∧ t.plant.prevMode = s.plant.mode ∧ t.plant.forced = false ∧ t.plant.armed = false
       ∧ t.plant.fbLoops = false ∧ t.bitAt U.sys Off.sysModeEvents 0 = true ∧ held
       ∧ (∀ r, r < 16 → (t.rack r).cap = if m = .off ∨ m = .commission then Nat.min (s.rack r).cap (floor s r) else (s.rack r).cap)
       ∧ t.plant.modeAsks = [] ∧ ChangesOnly parts s t)
     ∧ (s.plant.mode = .run → code = 3 →
       Answers h .ok s.now [] s t ∧ t.plant.mode = .fallback ∧ t.plant.prevMode = .run ∧ t.plant.forced = true ∧ t.plant.fbLoops = true
       ∧ t.plant.nextTick = s.now + 10 * Config.ms ∧ t.bitAt U.sys Off.sysModeEvents 0 = true ∧ held
       ∧ (∀ r, r < 16 → (t.rack r).cap = (s.rack r).cap) ∧ ChangesOnly parts s t)
     ∧ (s.plant.mode = .off ∨ s.plant.mode = .maintain → s.plant.commissioned = true → s.plant.isolated = 0 → code = 2 →
       (s.plant.engineOk = true → Answers h .ok s.now [] s t ∧ t.plant.mode = .run ∧ t.plant.fbLoops = false
         ∧ (∀ l, l < 5 → (t.loop l).manual = false) ∧ held ∧ ChangesOnly parts s t)
       ∧ (s.plant.engineOk = false → Admits h e (s.now + Config.gapNs) s →
         Answers h .accepted (s.now + Config.gapNs) [] s t ∧ t.plant.mode = .fallback ∧ t.plant.armed = true ∧ t.plant.fbLoops = true
         ∧ held ∧ ChangesOnly parts s t))
     ∧ (∀ m, askedMode code = some m → s.plant.mode = m → (m = .commission → e.role = .engineer) → (s.row .pressureTrip).active = false →
       Answers h .ok s.now [] s t ∧ t.plant = { s.plant with modeAsks := [] } ∧ ChangesOnly [.outbox, .plant, .regs, .vcp] s t)
     ∧ (∀ m, askedMode code = some m → (s.plant.mode, m) ∈ [(.run, .commission), (.fallback, .commission), (.isolate, .commission),
           (.isolate, .run), (.isolate, .fallback), (.off, .fallback), (.commission, .fallback), (.maintain, .fallback)] →
       Answers h .denied 0 [] s t ∧ t.plant = { s.plant with modeAsks := [] } ∧ ChangesOnly [.outbox, .plant, .regs, .vcp] s t)))
  ∧ (∀ (h : Hdr) (entries : List BandEntry) (e : Session) (s u : State), u = touch h e.id s → Served (opPolicySet h) h e s →
    (1 ≤ entries.length → entries.length ≤ 4 →
      (firstBadBand u [] 0 entries = none → Admits h e (bandsBoundary u + Config.gapNs) u →
        ∃ t, exec (.policySet h entries) s = .next t ∧ Answers h .accepted (bandsBoundary u + Config.gapNs) [] s t
          ∧ Waits (originOf h e) t
          ∧ (∃ l, t.plant = { s.plant with bandsNext := s.plant.bandsNext ++ l } ∧ l.map Prod.fst = entries)
          ∧ ChangesOnly [.vcp, .outbox, .plant, .regs] s t ∧ RegsOnly [] s t)
      ∧ (∀ k, firstBadBand u [] 0 entries = some k →
        ∃ t, exec (.policySet h entries) s = .next t
          ∧ Sends (.reply h.version h.opcode h.session h.sequence h.unit.toNat .badParam k 0 []) s t
          ∧ ChangesOnly [.vcp, .outbox, .regs] s t ∧ RegsOnly [] s t))
    ∧ (entries.length < 1 ∨ 4 < entries.length →
      ∃ t, exec (.policySet h entries) s = .next t ∧ Answers h .badParam 0 [] s t ∧ ChangesOnly [.vcp, .outbox, .regs] s t ∧ RegsOnly [] s t))

/-- R52, R53, R67 to R71: 20 withheld legs, or the engine's loss, make the Keeper leave RUN at the next frame boundary: the mode is
FALLBACK then, with every output held, after a loss with ENGINE_LOST; the return waits for the boundary too and takes it back to
RUN; and a tick of the fallback loops moves the outputs no further than OUT_RATE, and none that a reflex holds. -/
def Obligations.LoopSource : Prop :=
  ∀ (s : State), isKeeper s = true →
    let parts : List Part := [.broker, .free, .integ, .log, .motors, .outbox, .plant, .regs, .seqr, .vcp]
    (20 ≤ s.seqr.withheldRun →
      ∃ t, exec .withheldFallback s = .next t
        ∧ t.plant = { s.plant with engineOk := false, fall := some (s.plant.fall.getD false) } ∧ t.seqr = { s.seqr with cleanRun := 0 }
        ∧ ChangesOnly [.plant, .seqr] s t)
    ∧ (engineGone s = true →
      ∃ t, exec .engineLost s = .next t ∧ t.plant = { s.plant with engineOk := false, fall := some true }
        ∧ t.seqr = { s.seqr with cleanRun := 0 } ∧ ChangesOnly [.plant, .seqr] s t)
    ∧ (∀ lost, s.plant.mode = .run →
      let t := engineFall lost s
      t.plant.mode = .fallback ∧ t.plant.prevMode = .run ∧ t.plant.fbLoops = true ∧ t.bitAt U.sys Off.sysModeEvents 0 = true
      ∧ t.bitAt U.sys Off.sysModeEvents 2 = (lost || s.bitAt U.sys Off.sysModeEvents 2)
      ∧ (∀ l, l < 5 → (t.loop l).out = (s.loop l).out) ∧ ChangesOnly parts s t)
    ∧ (mayReturn s = true →
      (∃ t, exec .returnToRun s = .next t ∧ t = { s with plant.rejoin := true })
      ∧ (s.plant.isolated = 0 → s.plant.mode = .fallback →
        let t := returnEngine s
        t.plant.mode = .run ∧ t.plant.prevMode = .fallback ∧ t.plant.fbLoops = false ∧ t.plant.armed = false
        ∧ t.bitAt U.sys Off.sysModeEvents 0 = true
        ∧ (∀ l, l < 5 → (t.loop l).out = (s.loop l).out ∧ (t.loop l).manual = false) ∧ ChangesOnly parts s t))
    ∧ (s.plant.fbLoops = true → s.plant.nextTick ≤ s.now →
        ∃ t, exec .fallbackTick s = .next t ∧ t.plant.nextTick = s.plant.nextTick + 10 * Config.ms ∧ t.plant.mode = s.plant.mode
          ∧ (∀ l, l < 2 → ((t.loop l).out - (s.loop l).out).natAbs ≤ (outStep s l * 200).natAbs)
          ∧ (∀ l, l < 2 → (s.loop l).holders ≠ [] → (t.loop l).out = (s.loop l).out)
          ∧ (∀ l, 2 ≤ l → l < 5 → (t.loop l).out = (s.loop l).out) ∧ (∀ r, r < 16 → (t.rack r).cap = (s.rack r).cap)
          ∧ ChangesOnly [.broker, .integ, .log, .motors, .outbox, .plant, .regs, .vcp] s t)

/-- R49, R60, R87, R90: POLICY_BOUND clears 10 s after the demand came back inside the band; a loop whose input was stale for 2 s uses
the redundant one or is bound; and while a loop is bound a cap-down falls due every 100 ms and is carried out with the other
decisions of its frame: the caps of its racks fall together by at most the heat unserved and 2 % of their ratings, none below its
floor, none rises, and no other rack's changes. -/
def Obligations.BoundLoops : Prop :=
  ∀ (s : State),
    (∀ (l : Fin 5) z, (s.loop l.val).insideSince = some z → (s.loop l.val).policyBound = true → z + 10 * Config.sec ≤ s.now →
      ∃ t, exec (.policyBoundClear l) s = .next t ∧ t.loop l.val = { s.loop l.val with policyBound := false }
        ∧ (∀ j, j ≠ l.val → t.loop j = s.loop j) ∧ ChangesOnly [.plant] s t)
    ∧ (∀ (l : Fin 2) z, (s.loop l.val).staleSince = some z → (s.loop l.val).staleBound = false → z + 2 * Config.sec ≤ s.now →
      let live := if l.val = 0 then (pvLive s 0 true).isSome && (pvLive s 1 true).isSome else (pvLive s 2 true).isSome
      ∃ t, exec (.redundantSwitch l) s = .next t
        ∧ (live = true → t.loop l.val = { s.loop l.val with redundant := true } ∧ t.regs = s.regs)
        ∧ (live = false → t.loop l.val = { s.loop l.val with staleBound := true }
            ∧ t.reg (U.loop l.val) Off.loopEvents = orBit (s.reg (U.loop l.val) Off.loopEvents) 0)
        ∧ (∀ j, j ≠ l.val → t.loop j = s.loop j) ∧ ChangesOnly [.plant, .regs] s t
        ∧ RegsOnly [(U.loop l.val, Off.loopEvents)] s t)
    ∧ (∀ (l : Fin 5), isKeeper s = true → engineDriven s = true →
        (s.loop l.val).policyBound = true ∨ (s.loop l.val).capacityBound = true ∨ (s.loop l.val).staleBound = true →
        0 < (s.loop l.val).unserved → (s.loop l.val).lastBoundStep + 100 * Config.ms ≤ s.now →
      ∃ t, exec (.boundCapStep l) s = .next t ∧ t.loop l.val = { s.loop l.val with lastBoundStep := s.now }
        ∧ (∀ j, j ≠ l.val → t.loop j = s.loop j)
        ∧ t.broker = { s.broker with asks := s.broker.asks ++ [.bound s.now l.val (s.loop l.val).unserved] }
        ∧ ChangesOnly [.broker, .plant] s t)
    ∧ (∀ (decided : Time) (l : Fin 5) (d : Nat),
      let t := boundCut decided l.val d s
      capSum t ≤ capSum s
      ∧ capSum s - capSum t ≤ Nat.min d ((boundRacks s l.val).foldl (fun a r => a + rating s r) 0 * 2 / 100)
      ∧ (capSum t < capSum s → t.bitAt U.cap Off.capEvents 2 = true)
      ∧ (∀ r, r < 16 → (t.rack r).cap ≤ (s.rack r).cap ∧ (floor s r ≤ (s.rack r).cap → floor s r ≤ (t.rack r).cap))
      ∧ (∀ r, r ∉ boundRacks s l.val → t.rack r = s.rack r)
      ∧ ChangesOnly [.broker, .free, .log, .outbox, .regs] s t ∧ RegsOnly [(U.cap, Off.capEvents)] s t)

/-- R61 to R63, Table 3-8: a row of the table acts once its condition has held for its persistence: the row is in force from now,
its loop is held and its output moved, or the caps go to their floors; a repeated row acts again after its period; and a
row whose release condition has held for 10 s ends and lets every actuator go. -/
def Obligations.SafetyRows : Prop :=
  ∀ (s : State), isKeeper s = true →
    let parts : List Part := [.broker, .free, .log, .motors, .outbox, .plant, .regs, .vcp]
    let inForce := fun (row : ReflexRow) (t : State) => (t.row row).active = true ∧ (t.row row).since = s.now
    let full : Int := 1000 * outUnit
    let cut : Int := if (s.loop 0).out ≤ 0 then (s.loop 0).out else if (s.loop 0).out < 50 * outUnit then 0 else (s.loop 0).out - 50 * outUnit
    (rowHolds s .dpLow (2 * Config.sec) = true →
      ∃ t, exec .reserveStart s = .next t ∧ inForce .dpLow t ∧ .dpLow ∈ (t.loop 4).holders
        ∧ (∀ p, reservePump s = some p → (t.pump p).use = .duty ∧ (t.pump p).speed = (s.loop 0).out)
        ∧ (∀ r, r < 16 → (t.rack r).cap = (s.rack r).cap) ∧ ChangesOnly parts s t)
    ∧ (rowHolds s .dpHigh Config.sec = true →
      ∃ t, exec .dpHighCut s = .next t ∧ inForce .dpHigh t ∧ (t.loop 0).out = cut ∧ .dpHigh ∈ (t.loop 0).holders
        ∧ (∀ l, l ≠ 0 → (t.loop l).out = (s.loop l).out) ∧ ChangesOnly parts s t)
    ∧ (rowHolds s .supplyHigh (10 * Config.sec) = true →
      ∃ t, exec .primaryValveOpen s = .next t ∧ inForce .supplyHigh t ∧ (t.loop 1).out = full ∧ .supplyHigh ∈ (t.loop 1).holders
        ∧ (∀ l, l ≠ 1 → (t.loop l).out = (s.loop l).out) ∧ ChangesOnly parts s t)
    ∧ (rowHolds s .supplyLow (10 * Config.sec) = true →
      ∃ t, exec .primaryValveClose s = .next t ∧ inForce .supplyLow t ∧ (t.loop 1).out = 0 ∧ .supplyLow ∈ (t.loop 1).holders
        ∧ (∀ l, l ≠ 1 → (t.loop l).out = (s.loop l).out) ∧ ChangesOnly parts s t)
    ∧ (rowHolds s .supplyOver (5 * Config.sec) = true →
      ∃ t, exec .supplyOvertempCapdown s = .next t ∧ inForce .supplyOver t
        ∧ (∀ r, r < 16 → (t.rack r).cap = Nat.min (s.rack r).cap (floor s r)) ∧ ChangesOnly parts s t)
    ∧ (rowHolds s .returnHigh (5 * Config.sec) = true →
      ∃ t, exec .returnHighCapcut s = .next t ∧ inForce .returnHigh t
        ∧ (∀ r, r < 16 → (t.rack r).cap = Nat.min (s.rack r).cap (Nat.max (floor s r) ((s.rack r).cap - rating s r / 10)))
        ∧ ChangesOnly parts s t)
    ∧ (∀ r : Fin 16, rowHolds s (.rackFlow r) (5 * Config.sec) = true →
      ∃ t, exec (.rackFlowLow r) s = .next t ∧ inForce (.rackFlow r) t ∧ (t.rack r.val).pos = full ∧ .rackFlow r ∈ (t.loop 2).holders
        ∧ (∀ q, q ≠ r.val → t.rack q = s.rack q) ∧ ChangesOnly parts s t)
    ∧ (∀ r : Fin 16, (s.row (.rackFlow r)).active = true → (s.row (.rackFlow r)).since + 5 * Config.sec ≤ s.now →
        rowHolds s (.rackFlowCap r) (5 * Config.sec) = true →
      ∃ t, exec (.rackFlowCapdown r) s = .next t ∧ inForce (.rackFlowCap r) t
        ∧ (t.rack r.val).cap = Nat.min (s.rack r.val).cap (floor s r.val) ∧ (∀ q, q ≠ r.val → t.rack q = s.rack q)
        ∧ ChangesOnly parts s t)
    ∧ (∀ r : Fin 16, rowHolds s (.rackReturn r) (5 * Config.sec) = true →
      ∃ t, exec (.rackReturnHigh r) s = .next t ∧ inForce (.rackReturn r) t
        ∧ (t.rack r.val).cap = Nat.min (s.rack r.val).cap (floor s r.val) ∧ (∀ q, q ≠ r.val → t.rack q = s.rack q)
        ∧ ChangesOnly parts s t)
    ∧ (rowCond s .dpHigh = some true → (s.row .dpHigh).active = true → (s.row .dpHigh).lastStep + 100 * Config.ms ≤ s.now →
      ∃ t, exec (.reflexRepeat .dpHigh) s = .next t ∧ (t.row .dpHigh).lastStep = s.now ∧ (t.loop 0).out = cut ∧ ChangesOnly parts s t)
    ∧ (∀ row z, (s.row row).okSince = some z → (s.row row).active = true → releasedByTime row = true → z + 10 * Config.sec ≤ s.now →
      ∃ t, exec (.reflexRelease row) s = .next t ∧ (t.row row).active = false
        ∧ (∀ l, l < 5 → row ∉ (t.loop l).holders ∧ (t.loop l).out = (s.loop l).out)
        ∧ (∀ r, (t.rack r).cap = (s.rack r).cap) ∧ ChangesOnly [.broker, .plant] s t)

/-- R61, R67, Table 3-6: while the engine drives, a stage-up, a stage-down and a rotation that fall due, and the exchange at its end, are
decided in the leg in progress; with the results of that leg a stage-up starts the lowest idle pump and it joins the duty set; a
stage-down takes a duty pump out of it, which becomes idle; and a rotation runs the reserve up and then exchanges it for the duty
pump with the most hours since its rest. -/
def Obligations.Staging : Prop :=
  (∀ (s : State), ∀ r l, s.seqr.legs = r :: l →
    let decides := fun (i : Instr) (d : Machine.Staging) =>
      ∃ t, exec i s = .next t ∧ t = { s with seqr.legs := { r with staging := r.staging ++ [d] } :: l }
    (stageUpDue s = true → decides .stageUp .up) ∧ (stageDownDue s = true → decides .stageDown .down)
    ∧ (rotationDue s = true → decides .rotation .rotate)
    ∧ (∀ p, s.plant.rotating = some p → (s.pump p).use = .reserve → stagingRuns s = true →
        (∀ x ∈ s.seqr.legs, Machine.Staging.swap ∉ x.staging) → (pumpActual s p - (s.loop 0).out).natAbs ≤ (50 * outUnit).natAbs →
        decides .rotationSwap .swap))
  ∧ ∀ (s : State), (s.loop 4).holders = [] →
    (∀ p, idlePump s = some p →
      let t := commitStaging .up s
      (t.pump p).use = .duty ∧ (t.pump p).speed = (s.loop 0).out ∧ t.plant.fastSince = some s.now
      ∧ (∀ q, q ≠ p → t.pump q = s.pump q) ∧ (∀ l, (t.loop l).out = (s.loop l).out)
      ∧ ChangesOnly [.broker, .log, .motors, .outbox, .plant, .regs, .vcp] s t)
    ∧ (idlePump s = none → let t := commitStaging .up s; (t.loop 0).capacityBound = true ∧ ∀ q, t.pump q = s.pump q)
    ∧ (2 < dutyCount s → ∀ p, mostOf s (fun k => k.runNs) = some p →
      let t := commitStaging .down s
      (t.pump p).use = .idle ∧ t.plant.slowSince = some s.now ∧ (∀ q, q ≠ p → t.pump q = s.pump q) ∧ (∀ l, t.loop l = s.loop l)
      ∧ ChangesOnly [.log, .outbox, .plant, .regs] s t ∧ RegsOnly [] s t)
    ∧ (∀ p, reservePump s = some p →
      let t := commitStaging .rotate s
      t.plant.rotating = some p ∧ (t.pump p).use = .reserve ∧ (t.pump p).speed = (s.loop 0).out
      ∧ (∀ q, q ≠ p → t.pump q = s.pump q) ∧ (∀ l, t.loop l = s.loop l) ∧ ChangesOnly [.log, .motors, .outbox, .plant, .regs, .vcp] s t)
    ∧ (∀ p q, s.plant.rotating = some p → (s.pump p).use = .reserve → mostOf s (fun k => k.sinceRest) = some q → p < 8 →
      let t := commitStaging .swap s
      t.plant.rotating = none ∧ t.plant.rotRun = 0 ∧ (t.pump p).use = .duty ∧ (t.pump q).use = .reserve
      ∧ (∀ j, j ≠ p → j ≠ q → t.pump j = s.pump j) ∧ (∀ l, t.loop l = s.loop l)
      ∧ ChangesOnly [.log, .outbox, .plant, .regs] s t ∧ RegsOnly [] s t)

/-! ### The card bus and its inputs (Ch. 11) -/

/-- R310, R52, R57, R90, R117, R145, R414, R467: CARD_BUS_FRAME takes module time to the next multiple of 50 µs and counts the frame (that
one command is a whole frame is the model's choice, log entry 1); unpowered, that is all. Else nothing waits any longer for the frame's
boundary: mode changes, releases, ABORTs, decisions on caps; the Logbook's queues and the input-frame log are empty; and outputs 1 to 3
move by at most what OUT_RATE allows in a frame. On a Keeper outside a handover an accepted request whose time has come and that
time alone completes is no longer waiting; a module that is no Keeper moves no output, cap or leak stage. -/
def Obligations.FrameOfTheCardBus : Prop :=
  ∀ (up : List Uplink) (s : State),
    ∃ t, exec (.cardBusFrame up) s = .next t ∧ t.now = (s.now / 50000 + 1) * 50000 ∧ t.frame = s.now / 50000 + 1
      ∧ s.now < t.now ∧ t.now ≤ s.now + 50000
      ∧ (s.power.step = 0 → t = { s with now := t.now, frame := t.frame })
      ∧ (s.power.step ≠ 0 → t.plant.modeAsks = [] ∧ t.plant.releaseAsks = [] ∧ t.fw.aborts = [] ∧ t.copies.aborts = [] ∧ t.broker.asks = []
          ∧ t.frameLog = [] ∧ t.log.premanQ = 0 ∧ t.log.deckQ = 0)
      ∧ (∀ l, 1 ≤ l → l < 4 → ((t.loop l).out - (s.loop l).out).natAbs ≤ (outStep s l).natAbs)
      ∧ (s.power.step ≠ 0 → isKeeper s = true → s.pair.handover = none → ∀ a ∈ t.vcp.accepted, a.timed = true → t.now < a.committed)
      ∧ (isKeeper s = false → (∀ l, (t.loop l).out = (s.loop l).out)
          ∧ ∀ r, (t.rack r).cap = (s.rack r).cap ∧ (t.rack r).pos = (s.rack r).pos ∧ (t.rack r).stage = (s.rack r).stage)
      ∧ (s.fw.aborts = [] → s.copies.aborts = [] →
          ChangesOnly [.now, .frame, .analogs, .broker, .buses, .cards, .copies, .fans, .frameLog, .free, .fw, .integ, .log, .motors, .outbox,
                       .pair, .plant, .power, .pulses, .regs, .senses, .seqr, .service, .valves, .vcp] s t)

/-- R297, R318, R326 to R328: a card without a valid frame for 100 µs holds, and each of its valve channels notes it; a calibration
holds its input's last value, and its end writes CAL_RESULT or, beyond ±0.5 % gain, keeps the calibration,
and asks for the input's calibration table; 10 s without a pulse
reads as no flow; and a 4–20 mA output that reads back low for 100 ms is an open loop. -/
def Obligations.InputsOfTheCards : Prop :=
  ∀ (s : State),
    (∀ k : Fin 6, (s.card k.val).st ≠ .absent → fieldOn s = true → (s.card k.val).cardHold = false →
        (s.card k.val).lastFrame + 100 * Config.us ≤ s.now →
      ∃ t, exec (.cardHold k) s = .next t ∧ t.card k.val = { s.card k.val with cardHold := true }
        ∧ (∀ c, c < 96 → slotOfValve c = k.val → (s.card k.val).type = 1 → t.bitAt (U.vlv c) Off.vlvEvents 7 = true)
        ∧ (∀ c, c < 96 → slotOfValve c ≠ k.val → t.reg (U.vlv c) Off.vlvEvents = s.reg (U.vlv c) Off.vlvEvents)
        ∧ (∀ j, j ≠ k.val → t.card j = s.card j) ∧ ChangesOnly [.cards, .regs] s t)
    ∧ (∀ i : Fin 64, calDue s i.val = true → calFirst s i.val = true →
      ∃ t, exec (.calibration i) s = .next t ∧ t.sense i.val = { s.sense i.val with calStart := some s.now, stale := true }
        ∧ t.reg (U.sns i.val) Off.snsEvents = orBit (s.reg (U.sns i.val) Off.snsEvents) 0
        ∧ (∀ j, j ≠ i.val → t.sense j = s.sense j) ∧ ChangesOnly [.senses, .regs] s t ∧ RegsOnly [(U.sns i.val, Off.snsEvents)] s t)
    ∧ (∀ (i : Fin 64) (gain offset : Int) z, (s.sense i.val).calStart = some z →
      ∃ t, exec (.calibrationDone i gain offset) s = .next t
        ∧ t.sense i.val = { s.sense i.val with calStart := none, calQueued := none, lastCal := s.now, stale := false, sampledAt := s.now }
        ∧ (gain.natAbs ≤ 5000 → t.reg (U.sns i.val) Off.snsCalResult = wd (tcSat 16 gain * 65536 + tcSat 16 offset)
            ∧ RegsOnly [(U.sns i.val, Off.snsCalResult)] s t)
        ∧ (5000 < gain.natAbs → t.reg (U.sns i.val) Off.snsEvents = orBit (s.reg (U.sns i.val) Off.snsEvents) 2
            ∧ RegsOnly [(U.sns i.val, Off.snsEvents)] s t)
        ∧ t.service = { s.service with queue := t.service.queue }
        ∧ (∃ q ∈ t.service.queue, q.card = slotOfSense i.val ∧ q.use = .calibration i.val)
        ∧ (∀ j, j ≠ i.val → t.sense j = s.sense j) ∧ ChangesOnly [.senses, .regs, .service] s t)
    ∧ (∀ i : Fin 16, s.bitAt (U.pls i.val) Off.plsCfg 0 = true → (s.pulse i.val).lastPulse + 10 * Config.sec ≤ s.now →
      ∃ t, exec (.noPulse i) s = .next t ∧ t.pulse i.val = { s.pulse i.val with flow := 0 }
        ∧ t.reg (U.pls i.val) Off.plsEvents = orBit (s.reg (U.pls i.val) Off.plsEvents) 0
        ∧ (∀ j, j ≠ i.val → t.pulse j = s.pulse j) ∧ ChangesOnly [.pulses, .regs] s t ∧ RegsOnly [(U.pls i.val, Off.plsEvents)] s t)
    ∧ (∀ (i : Fin 16) z, (s.analog i.val).lowSince = some z → z + 100 * Config.ms ≤ s.now →
      ∃ t, exec (.openLoop i) s = .next t ∧ t.analog i.val = { s.analog i.val with openLoop := true }
        ∧ t.reg (U.ao i.val) Off.aoEvents = orBit (s.reg (U.ao i.val) Off.aoEvents) 0
        ∧ (∀ j, j ≠ i.val → t.analog j = s.analog j) ∧ ChangesOnly [.analogs, .regs] s t ∧ RegsOnly [(U.ao i.val, Off.aoEvents)] s t)

/-- R329 to R331: 5.02 µs after the write of its function a pin attaches to it; a capture takes its edge at 10 ns resolution and notes one
that overwrites another; an edge in the guard time is ignored and noted; a counter counts rising edges; and a PPS_OUT pin
pulses once a second. -/
def Obligations.AuxPins : Prop :=
  ∀ (pin : Fin 16) (s : State),
    let a := s.aux pin.val
    let noted := fun (b : Nat) (t : State) =>
      t.reg (U.aux pin.val) Off.auxEvents = orBit (s.reg (U.aux pin.val) Off.auxEvents) b ∧ RegsOnly [(U.aux pin.val, Off.auxEvents)] s t
    let others := fun (t : State) => ∀ j, j ≠ pin.val → t.aux j = s.aux j
    (∀ z f l, a.switching = some (z, f, l) →
      (z + 5020 ≤ s.now →
        ∃ t, exec (.auxAttach pin) s = .next t
          ∧ t.aux pin.val = { a with func := f, outLevel := l, switching := none, level := if f = 2 then l else a.level }
          ∧ (f = 2 → Sends (.pin pin l) s t) ∧ others t ∧ ChangesOnly [.auxs, .outbox] s t)
      ∧ (∀ at_, ∃ t, exec (.auxCapture pin at_) s = .next t ∧ noted 1 t ∧ ChangesOnly [.regs] s t)
      ∧ (∀ level, ∃ t, exec (.auxInputEdge pin level) s = .next t ∧ noted 1 t ∧ ChangesOnly [.regs] s t))
    ∧ (a.switching = none →
      (∀ at_, a.func = 4 →
        ∃ t, exec (.auxCapture pin at_) s = .next t
          ∧ t.aux pin.val = { a with capture := at_ / 10 * 10, captureUnread := true, count := (a.count + 1) % 2 ^ 32, level := true }
          ∧ (a.captureUnread = true → noted 0 t) ∧ (a.captureUnread = false → t.regs = s.regs)
          ∧ others t ∧ ChangesOnly [.auxs, .regs] s t)
      ∧ (∀ level, a.func = 1 →
        ∃ t, exec (.auxInputEdge pin level) s = .next t ∧ t.aux pin.val = { a with level := level } ∧ others t ∧ ChangesOnly [.auxs] s t)
      ∧ (∀ level, a.func = 5 →
        ∃ t, exec (.auxInputEdge pin level) s = .next t
          ∧ t.aux pin.val = { a with level := level, count := if level && !a.level then (a.count + 1) % 2 ^ 32 else a.count }
          ∧ others t ∧ ChangesOnly [.auxs] s t)
      ∧ (a.func = 3 → a.lastPps < s.now / Config.sec →
        ∃ t, exec (.ppsOut pin) s = .next t ∧ t.aux pin.val = { a with lastPps := s.now / Config.sec }
          ∧ t.outbox = .pin pin false :: .pin pin true :: s.outbox ∧ others t ∧ ChangesOnly [.auxs, .outbox] s t))

/-! ### Cards, power domains, inputs and fans (Ch. 2, 11, 15) -/

/-- R23, R312, R443, R444, R446, R447: an ejector, a faulted logic supply or 20 discarded uplinks close a slot's gate; at the end of the
drain limit the slot or die is down, its pending commands and copies are ended, and the reset is signalled; a die that
reports ready opens again, but for a RETIRED one, whose gate stays closed. -/
def Obligations.DomainsClose : Prop :=
  ∀ (s : State),
    (∀ (k : Fin 6), (s.card k.val).st ≠ .absent → (0x20 + k.val) ∉ s.power.closed →
      (∃ t, exec (.cardEject k) s = .next t
        ∧ t.power = { s.power with closed := (0x20 + k.val) :: s.power.closed, closing := (0x20 + k.val, s.now, true) :: s.power.closing }
        ∧ ChangesOnly [.power] s t)
      ∧ (∃ t, exec (.cardLogicSupplyFault k) s = .next t
        ∧ t.power = { s.power with closed := (0x20 + k.val) :: s.power.closed, closing := (0x20 + k.val, s.now, false) :: s.power.closing }
        ∧ ChangesOnly [.power] s t))
    ∧ (∀ (k : Fin 6), 20 ≤ (s.card k.val).missedRun → (s.card k.val).st = .active →
      ∃ t, exec (.cardFaulted k) s = .next t ∧ t.card k.val = { s.card k.val with st := .faulted, hold := true }
        ∧ (0x20 + k.val) ∈ t.power.closed ∧ (∀ j, j ≠ k.val → t.card j = s.card j)
        ∧ ChangesOnly [.cards, .outbox, .power, .regs, .vcp] s t ∧ RegsOnly [] s t)
    ∧ (∀ (k : Fin 6) z e, s.power.closing.find? (fun c => decide (c.1 = 0x20 + k.val)) = some (0x20 + k.val, z, e) → z + 100 * Config.us ≤ s.now →
      ∃ t, exec (.domainDrainEnd (.slot k)) s = .next t
        ∧ (t.card k.val).st = (if (s.card k.val).st = .faulted then .faulted else .gated) ∧ (t.card k.val).hold = true
        ∧ (∀ c, c < 96 → slotOfValve c = k.val → (s.card k.val).type = 1 → (t.valve c).cmd = none ∧ (t.valve c).phase = .off)
        ∧ (∀ c, c < 48 → slotOfMotor c = k.val → (s.card k.val).type = 2 → (t.motor c).cmd = none ∧ (t.motor c).st = .stopped)
        ∧ (∀ c, c < 96 → slotOfValve c ≠ k.val → t.valve c = s.valve c)
        ∧ t.bitAt U.sys Off.pwrEvents 5 = true ∧ t.fldOf U.sys Off.pwrXreset 31 24 = 0x20 + k.val
        ∧ (∀ f ∈ t.power.closing, f.1 ≠ 0x20 + k.val) ∧ (∀ j, j ≠ k.val → t.card j = s.card j)
        ∧ ChangesOnly [.analogs, .cards, .log, .motors, .outbox, .plant, .power, .regs, .senses, .service, .valves, .vcp] s t)
    ∧ (∀ (i : Fin 16) z e, s.power.closing.find? (fun c => decide (c.1 = i.val)) = some (i.val, z, e) → z + 100 * Config.us ≤ s.now →
      ∃ t, exec (.domainDrainEnd (.compute i)) s = .next t
        ∧ t.die i.val = { s.die i.val with st := if (s.die i.val).st = 3 then 3 else 2, power := 0 }
        ∧ t.bitAt U.sys Off.pwrEvents 5 = true ∧ t.fldOf U.sys Off.pwrXreset 31 24 = i.val ∧ (∀ j, j ≠ i.val → t.die j = s.die j)
        ∧ ChangesOnly [.copies, .dies, .free, .hall, .links, .log, .outbox, .plant, .power, .regs, .vcp] s t)
    ∧ (∀ (i : Fin 16), i.val ∈ s.power.closed → (∀ e ∈ s.power.closing, e.1 ≠ i.val) → (s.die i.val).st ≠ 3 → s.integ.resetAt = none →
      ∃ t, exec (.domainReady (.compute i)) s = .next t ∧ i.val ∉ t.power.closed
        ∧ t.die i.val = { s.die i.val with st := if (s.die i.val).st = 2 then (if legsRun s then 0 else 1) else (s.die i.val).st }
        ∧ (∀ j, j ≠ i.val → t.die j = s.die j) ∧ ChangesOnly [.dies, .fans, .power] s t)
    ∧ (∀ (i : Fin 16), (s.die i.val).st = 3 → ∃ t, exec (.domainReady (.compute i)) s = .next t ∧ t = s)

/-- R313 to R316, R434: a card that is seen is enumerated in HOLD with its gate open; once both halves of its descriptor are read, the
descriptor is taken: one that does not fit its slot is a MISMATCH, and a card that fits is to be written its channel configuration in
sixteen service windows; the end of enumeration makes it ACTIVE, with HOLD kept before outputs are released, and tells the
sessions. A service window serves one request, Preman's before Deck's, the oldest first: a half of a descriptor is read, and a
write is sent, whose acknowledgement is due. -/
def Obligations.CardsEnumerated : Prop :=
  (∀ (k : Fin 6) (s : State),
    let c := s.card k.val
    (5 ≤ s.power.step → c.st = .absent ∨ c.st = .gated ∨ c.st = .faulted ∨ c.st = .mismatch →
      ∃ t, exec (.cardPresence k) s = .next t
        ∧ t.card k.val = { c with st := .enumerating, hold := true, cardHold := true, reason := 0, seenAt := s.now, missedRun := 0,
                                  descReads := 0, segBad := false, newFw := (t.card k.val).newFw, attempts := (t.card k.val).attempts }
        ∧ (c.newFw = false → (t.card k.val).newFw = false)
        ∧ (0x20 + k.val) ∉ t.power.closed ∧ (∀ q ∈ t.service.queue, q.card ≠ k.val) ∧ (∀ j, j ≠ k.val → t.card j = s.card j)
        ∧ ChangesOnly [.cards, .power, .service] s t)
    ∧ (∀ desc, c.st = .enumerating → c.descReads = 2 → fieldOn s = true →
      let read := { c with descReads := 3, type := if desc.crcOk = true ∧ 1 ≤ desc.type ∧ desc.type ≤ 3 then desc.type else 0xFF,
                           hwRev := desc.hwRev, fwVer := desc.fwVer, serial := desc.serial }
      (mismatch s k.val desc = none → ∃ t, exec (.enumDebounceEnd k desc) s = .next t ∧ t.card k.val = read
          ∧ (∀ p, p < 16 → { card := k.val, use := .config p } ∈ t.service.queue)
          ∧ (∀ j, j ≠ k.val → t.card j = s.card j) ∧ ChangesOnly [.cards, .service] s t)
      ∧ (∀ r, mismatch s k.val desc = some r →
        ∃ t, exec (.enumDebounceEnd k desc) s = .next t ∧ t.card k.val = { read with st := .mismatch, reason := r }
          ∧ (∀ j, j ≠ k.val → t.card j = s.card j) ∧ ChangesOnly [.cards, .outbox, .regs, .vcp] s t ∧ RegsOnly [] s t))
    ∧ (∀ chans, c.st = .enumerating → 1 ≤ c.type → c.type ≤ 3 → c.seenAt + 100900 * Config.us ≤ s.now → fieldOn s = true → c.descReads = 3 →
      (∀ q ∈ s.service.queue, q.card ≠ k.val) → (s.upd (c.type + 2)).activating = none →
      ∃ t, exec (.cardEnumDone k chans) s = .next t
        ∧ t.card k.val = { c with st := .active, hold := decide (s.power.step < 7), lastFrame := s.now, newFw := false, attempts := 0 }
        ∧ (c.type = 1 → ∀ v, v < 96 → slotOfValve v = k.val → (s.valve v).cardReset = true → t.bitAt (U.vlv v) Off.vlvEvents 11 = true)
        ∧ (∀ v, v < 96 → slotOfValve v ≠ k.val → t.valve v = s.valve v)
        ∧ (∀ j, j ≠ k.val → t.card j = s.card j)
        ∧ ChangesOnly [.analogs, .cards, .motors, .outbox, .plant, .power, .regs, .senses, .valves, .vcp] s t))
  ∧ ∀ (s : State) (q : SvcReq), svcNext s.service.queue = some q →
    let t := svcServe s
    q ∈ s.service.queue ∧ (q.deck = true → ∀ x ∈ s.service.queue, x.deck = true) ∧ t.service.queue = s.service.queue.erase q
    ∧ (∀ d, svcData s q = some d → t.service.sent = some (q, d) ∧ ChangesOnly [.service] s t)
    ∧ (∀ n, q.use = .descriptor n → t.card q.card = { s.card q.card with descReads := (s.card q.card).descReads + 1 }
        ∧ (∀ j, j ≠ q.card → t.card j = s.card j) ∧ ChangesOnly [.cards, .service] s t)

/-- R29, R36, R37, R42, R43, R506: a main or field input that fails sets its event; with both field inputs gone the coils of every active
valve card are off and its commands ended; a main input that returns is in range again; a failed fan raises the duty; 97 °C warns;
105 °C gates every die, stops the legs and takes the engine from the plant at the frame boundary; and the measured values are what was
measured, the junction being the highest of the 25 dies'. -/
def Obligations.PowerFansAndHeat : Prop :=
  ∀ (s : State),
    (∀ i : InputId, ∃ t, exec (.mainInputLoss i) s = .next t
        ∧ t.power = (match i with | .a => { s.power with mainA := false } | .b => { s.power with mainB := false })
        ∧ t.bitAt U.sys Off.hwEvents (match i with | .a => 0 | .b => 1) = true
        ∧ ChangesOnly [.outbox, .power, .regs, .vcp] s t ∧ RegsOnly [(U.sys, Off.hwEvents)] s t)
    ∧ (∀ i : InputId, ∃ t, exec (.mainInputReturn i) s = .next t
        ∧ t.power = (match i with | .a => { s.power with mainA := true } | .b => { s.power with mainB := true }) ∧ ChangesOnly [.power] s t)
    ∧ (∀ i : InputId, ∃ t, exec (.fieldInputLoss i) s = .next t
        ∧ t.bitAt U.sys Off.hwEvents (match i with | .a => 2 | .b => 3) = true
        ∧ (fieldOn t = true → ChangesOnly [.outbox, .power, .regs, .vcp] s t ∧ RegsOnly [(U.sys, Off.hwEvents)] s t)
        ∧ (fieldOn s = true → fieldOn t = false → t.plant.beacons = 0
            ∧ ∀ c, c < 96 → (s.card (slotOfValve c)).st = .active → (s.card (slotOfValve c)).type = 1 →
                (t.valve c).phase = .off ∧ (t.valve c).cmd = none)
        ∧ ChangesOnly [.analogs, .log, .motors, .outbox, .plant, .power, .regs, .valves, .vcp] s t)
    ∧ (fieldOn s = false → ∀ i : InputId, ∃ t, exec (.fieldPowerReturn i) s = .next t ∧ fieldOn t = true
        ∧ (∀ k, k < 6 → (s.card k).st = .active → (t.card k).st = .enumerating ∧ (t.card k).cardHold = true
            ∧ (t.card k).seenAt = s.now - 100 * Config.ms)
        ∧ ChangesOnly [.cards, .power, .service] s t)
    ∧ (∀ k : Fin 6, s.fans.failed.getLsbD k.val = false →
      ∃ t, exec (.fanFail k) s = .next t ∧ t.fans.failed = s.fans.failed ||| BitVec.ofNat 6 (2 ^ k.val) ∧ s.fans.duty ≤ t.fans.duty
        ∧ t.bitAt U.sys Off.hwEvents 4 = true ∧ ChangesOnly [.fans, .free, .hall, .links, .outbox, .pair, .regs] s t)
    ∧ (970 ≤ s.fans.junction →
      ∃ t, exec .thermalWarn s = .next t ∧ t.reg U.sys Off.hwEvents = orBit (s.reg U.sys Off.hwEvents) 5
        ∧ ChangesOnly [.outbox, .regs, .vcp] s t ∧ RegsOnly [(U.sys, Off.hwEvents)] s t)
    ∧ (1050 ≤ s.fans.junction → s.fans.gatedHot = false →
      ∃ t, exec .thermalShutdown s = .next t ∧ t.fans.gatedHot = true
        ∧ (∀ i, i < 24 → (t.die i).st = (if (s.die i).st = 3 then 3 else 2) ∧ (t.die i).power = 0)
        ∧ (t.seqr.st = .loaded ∨ t.seqr.st = .empty) ∧ (∀ r ∈ t.seqr.legs, r.dropped = true) ∧ t.fldOf U.sys Off.pwrXreset 31 24 = 24
        ∧ (isKeeper s = true → t.plant.fall = some true) ∧ t.plant.engineOk = false
        ∧ (∀ l, l < 5 → (t.loop l).out = (s.loop l).out)
        ∧ ChangesOnly [.broker, .copies, .dies, .fans, .free, .hall, .integ, .links, .log, .motors, .outbox, .plant, .power, .regs,
                       .seqr, .vcp] s t)
    ∧ (∀ m : Measured, ∃ t, exec (.measureRefresh m) s = .next t ∧ t.reg U.sys Off.hwMainV = pairReg m.mainA m.mainB
        ∧ t.reg U.sys Off.hwFieldV = pairReg m.fieldA m.fieldB ∧ t.reg U.sys Off.hwFieldI = pairReg m.fieldIA m.fieldIB
        ∧ (∀ i, i < 25 → (t.die i).junction ≤ t.fans.junction) ∧ (∃ i, i < 25 ∧ (t.die i).junction = t.fans.junction) ∧ t.fans.inlet = m.inlet ∧ t.power.bankV = m.bankV
        ∧ ((m.dies.map (fun e => e.1)).Nodup → ∀ e ∈ m.dies, (t.die e.1.val).power = e.2.1 ∧ (t.die e.1.val).junction = e.2.2.1)
        ∧ ChangesOnly [.dies, .fans, .power, .regs] s t)

/-- R26, R31, R262, R410: an open harness loop bars a Relief and leaves a Keeper its LAMP, and the closed loop gives the Relief its role
back; LOCATE sets or clears the locate flag at the next frame boundary, and the button toggles it unless a write comes with it. -/
def Obligations.HarnessAndLocate : Prop :=
  ∀ (s : State),
    (∃ t, exec .harnessOpen s = .next t ∧ t.bitAt U.sys Off.hwEvents 6 = true ∧ t.pair.harnessClosed = false
        ∧ (isKeeper s = true → t.pair.role = .keeper) ∧ (isRelief s = true → t.pair.role = .barred ∧ t.pair.barredFrom = s.pair.role)
        ∧ ChangesOnly [.outbox, .pair, .regs, .vcp] s t ∧ RegsOnly [(U.sys, Off.hwEvents)] s t)
    ∧ (s.pair.harnessClosed = false →
      ∃ t, exec .harnessClose s = .next t
        ∧ t.pair = { s.pair with harnessClosed := true, role := if s.pair.role = .barred then s.pair.barredFrom else s.pair.role }
        ∧ ChangesOnly [.pair] s t)
    ∧ (∀ (h : Hdr) (action : BitVec 8) (e : Session), Served (opLocate h) h e s →
      (action.toNat ≤ 1 → deadlineMissed h (nextFrame s) s.now = false →
        ∃ t, exec (.locate h action) s = .next t ∧ Answers h .ok (nextFrame s) [] s t
          ∧ t.bitAt U.sys Off.hwPanel 0 = decide (action = 1)
          ∧ ChangesOnly [.outbox, .regs, .vcp] s t ∧ RegsOnly [(U.sys, Off.hwPanel)] s t)
      ∧ (1 < action.toNat →
        ∃ t, exec (.locate h action) s = .next t ∧ Answers h .badParam 0 [] s t ∧ ChangesOnly [.outbox, .regs, .vcp] s t ∧ RegsOnly [] s t))
    ∧ (∃ t, exec (.locateButton false) s = .next t ∧ t.bitAt U.sys Off.hwPanel 0 = !s.bitAt U.sys Off.hwPanel 0
        ∧ ChangesOnly [.outbox, .regs, .vcp] s t ∧ RegsOnly [(U.sys, Off.hwPanel)] s t)
    ∧ (∃ t, exec (.locateButton true) s = .next t ∧ t = s)

/-! ### Power, start-up, time and clocks (Ch. 15) -/

/-- R423 to R428, R432: a sag opens its window; a bus that is back within 50 µs leaves only SAG_SHORT; the window's end saves the
controller state record where last light is armed and gates the engine, and otherwise loses everything that does not survive
without power; and the completed save ends in hub reset, with the record kept. -/
def Obligations.SagsAndLastLight : Prop :=
  ∀ (s : State),
    let off := fun (t : State) =>
      t.power.step = 0 ∧ t.seqr = State.reset.seqr ∧ t.copies = State.reset.copies ∧ t.vcp.accepted = [] ∧ t.vcp.sessions = []
        ∧ (∀ u o, o < 0x1000 → t.reg u o = if keptReg (regKey u o) then s.reg u o else resetVal (regKey u o))
        ∧ (∀ i, (s.die i).st = 3 → i < 24 → (t.die i).st = 3) ∧ t.clusters = s.clusters ∧ t.fw.counters = s.fw.counters
        ∧ t.bmu = auxOff s.bmu ∧ t.pair.stages = s.pair.stages ∧ t.plant.beacons = s.plant.beacons
        ∧ (msorted s.broker.racks = true → ∀ r, (t.rack r).ceiling = (s.rack r).ceiling) ∧ t.now = s.now ∧ t.pending = s.pending
    (s.power.step ≠ 0 → s.power.llState ≠ 2 → s.power.sagSince = none →
      ∃ t, exec .sagStart s = .next t ∧ t.power = { s.power with sagSince := some s.now, busOk := false } ∧ ChangesOnly [.power] s t)
    ∧ (∀ z, s.power.sagSince = some z → s.now < z + 50 * Config.us →
      ∃ t, exec .sagShort s = .next t ∧ t.power = { s.power with sagSince := none, busOk := true }
        ∧ t.reg U.sys Off.pwrEvents = orBit (s.reg U.sys Off.pwrEvents) 2
        ∧ ChangesOnly [.power, .regs] s t ∧ RegsOnly [(U.sys, Off.pwrEvents)] s t)
    ∧ (∀ z, s.power.sagSince = some z → z + 50 * Config.us ≤ s.now → s.power.llState ≠ 1 → s.power.llState ≠ 2 →
      ∃ t, exec .sagTrigger s = .next t ∧ off t ∧ t.power.saved = s.power.saved ∧ t.power.older = s.power.older)
    ∧ (∀ z, s.power.sagSince = some z → z + 50 * Config.us ≤ s.now → s.power.llState = 1 → s.power.step = 7 →
      ∃ t r, exec .sagTrigger s = .next t ∧ t.power.llState = 2 ∧ t.power.saveAt = s.now ∧ t.power.saved = some r
        ∧ r.mode = s.plant.mode ∧ r.forced = s.plant.forced ∧ r.isolated = s.plant.isolated ∧ r.envelope = s.broker.envelope
        ∧ r.racks = s.broker.racks ∧ r.loopOut = [(s.loop 0).out, (s.loop 1).out, (s.loop 2).out, (s.loop 3).out]
        ∧ r.consumed = false ∧ r.phaseB = false ∧ t.power.older = s.power.saved ∧ t.power.slotB = !s.power.slotB ∧ t.pair.flashOk = false ∧ t.fw.deckUp = false ∧ t.bmu = auxOff s.bmu
        ∧ (∀ i, i < 24 → (t.die i).st = (if (s.die i).st = 3 then 3 else 2)) ∧ (∀ k, k < 6 → (t.card k).hold = true)
        ∧ (∀ c, t.valve c = s.valve c) ∧ (∀ l, t.loop l = s.loop l)
        ∧ ChangesOnly [.bmu, .cards, .copies, .dies, .free, .fw, .hall, .links, .log, .outbox, .pair, .power, .regs] s t)
    ∧ (∀ energy held r, s.power.llState = 2 → s.power.saveAt + 20000 * Config.us ≤ s.now → s.power.saved = some r → r.phaseB = false →
      ∃ t, exec (.lastLightDone energy held) s = .next t ∧ off t
        ∧ t.power.saved = some { r with phaseB := held, tail := if held then tailOf 1048576 s.log.ring else [] }
        ∧ (held = false → t.power.lastSave.1 = 0xFFFF) ∧ (held = true → t.power.lastSave.1 ≤ 0xFFFE))

/-- R424, R431 to R434, R453: start-up: the bus qualifies for 100 ms, and again from the start when it falls; the ROM starts the chosen
bank or the other valid one, or stays in recovery; the armed bank lets step 3 read the record; the bank's capacity is
measured; and the restore applies a record once, or starts in OFF with every cap at its floor. -/
def Obligations.StartUp : Prop :=
  ∀ (s : State),
    (s.power.step = 0 →
      ∃ t, exec .powerApplied s = .next t
        ∧ t.power = { s.power with step := 1, appliedAt := some s.now, stepAt := s.now, busOk := true } ∧ ChangesOnly [.power] s t)
    ∧ (s.power.step = 1 →
      ∃ t, exec .qualificationRestart s = .next t ∧ t.power = { s.power with step := 0, appliedAt := none, busOk := false }
        ∧ ChangesOnly [.power] s t)
    ∧ (∀ z (chosenOk otherOk : Bool), s.power.appliedAt = some z → s.power.step = 1 → z + 100 * Config.ms ≤ s.now →
      let o := otherBank (s.upd 0)
      let back := !chosenOk && otherOk && (decide (o.st = .verified) || decide (o.st = .active))
      ∃ t, exec (.busQualified chosenOk otherOk) s = .next t ∧ t.power.step = 2 ∧ t.power.stepAt = s.now
        ∧ t.power.recovery = (!chosenOk && !back) ∧ t.fw.deckUp = (chosenOk || back)
        ∧ (t.upd 0).activeB = (if back then !(s.upd 0).activeB else (s.upd 0).activeB)
        ∧ (back = true → t.bitAt (U.upd 0) Off.updEvents 5 = true) ∧ (∀ k, k ≠ 0 → t.upd k = s.upd k) ∧ t.bmu = auxOn s.bmu
        ∧ (t.power.recovery = false → ∃ c, t.fw.aliasCert = some c ∧ c.key = Config.aliasKey t.fw.cdiP)
        ∧ (∀ c, mget 0 s.fw.counters c ≤ mget 0 t.fw.counters c)
        ∧ ChangesOnly [.bmu, .fw, .pair, .power, .regs, .upds] s t
        ∧ RegsOnly ((upTo 7).map (fun k => (U.upd k, Off.updEvents))) s t)
    ∧ (s.power.step = 2 → s.power.recovery = false →
      ∃ t, exec .lastLightArm s = .next t ∧ t.power.step = 3 ∧ t.power.llState = 1 ∧ 4600 ≤ t.power.bankV
        ∧ t.reg U.sys Off.pwrLastsave = wd (s.power.lastSave.1 * 65536 + s.power.lastSave.2)
        ∧ (∀ r, s.power.saved = some r → r.consumed = false → t.power.prevSaved = true ∧ t.power.prevLog = r.phaseB)
        ∧ (s.power.saved = none → t.bitAt U.sys Off.pwrEvents 1 = true)
        ∧ ChangesOnly [.log, .outbox, .power, .regs] s t)
    ∧ (∀ n, s.power.step = 3 →
      ∃ t, exec (.bankMeasure n) s = .next t ∧ t.power.step = 4 ∧ t.reg U.sys Off.pwrBank = wd (sat 0xFFFF (n * 5) * 65536 + sat 0xFFFF n)
        ∧ (n * 5 < 5000 → t.bitAt U.sys Off.pwrEvents 3 = true)
        ∧ (∀ c, c < 6 → (s.bus c).st = .offline → s.bitAt (U.bl c) Off.blCtrl 0 = true → (t.bus c).st = .errorActive ∧ (t.bus c).tec = 0)
        ∧ ChangesOnly [.buses, .outbox, .power, .regs, .vcp] s t)
    ∧ (∀ chans, s.power.step = 5 ∨ s.power.step = 6 →
      ∃ t, exec (.startupRestore chans) s = .next t ∧ t.power.step = 7
        ∧ (∀ r, s.power.saved = some r → r.consumed = false →
            t.plant.mode = restoredMode r.mode r.isolated ∧ t.plant.isolated = r.isolated ∧ t.broker.envelope = r.envelope
            ∧ t.power.saved = some { r with consumed := true } ∧ (∀ q, q < 16 → (t.rack q).cap = (mget {} r.racks q).cap)
            ∧ t.bitAt U.sys Off.pwrEvents 0 = true)
        ∧ (s.power.saved = none → t.plant.mode = s.plant.mode ∧ (∀ q, q < 16 → (t.rack q).cap = floor s q)
            ∧ t.broker.envelope = floorSum s)
        ∧ (isKeeper s = true → ∀ k, k < 6 → (s.card k).st = .active → (t.card k).hold = false)
        ∧ (isKeeper s = false → t.cards = s.cards))

/-- R416, R417, R437, R440 to R442: PTP locks from 16 Syncs in a row below 1 000 ns and holds over after 5 s without one; a root steps its
time by whole frames towards its master; a failed rail sets its event and acts by its row; the backup clock takes over once. -/
def Obligations.TimeAndClocks : Prop :=
  ∀ (s : State),
    (∀ p better (gm : BitVec 8), ptpPortOn s p = true → better = true ∨ s.ptp.port = p →
      ∃ t, exec (.ptpAnnounce p better gm) s = .next t ∧ t.ptp = { s.ptp with port := p, gmClass := gm.toNat } ∧ ChangesOnly [.ptp] s t)
    ∧ (∀ p offset delay, ptpPortOn s p = true → s.ptp.port = p →
      ∃ t, exec (.ptpSync p offset delay) s = .next t ∧ t.ptp.offset = offset ∧ t.ptp.pathDelay = delay ∧ t.ptp.lastSync = some s.now
        ∧ (s.ptp.st = 0 ∨ s.ptp.st = 3 → t.ptp.st = 1)
        ∧ (s.ptp.st = 1 → t.ptp.st = if offset.natAbs < 1000 ∧ 15 ≤ s.ptp.goodSyncs then 2 else 1)
        ∧ (s.ptp.st = 2 → t.ptp.st = 2) ∧ (isRoot s = true → s.power.backup = false → t.power.steer.natAbs ≤ 500)
        ∧ (isRoot s = false → t.power = s.power) ∧ ChangesOnly [.free, .power, .ptp] s t)
    ∧ (∀ z, s.ptp.lastSync = some z → s.ptp.st = 2 → z + 5 * Config.sec ≤ s.now →
      ∃ t, exec .ptpHoldover s = .next t ∧ t.ptp = { s.ptp with st := 3, goodSyncs := 0 } ∧ ChangesOnly [.ptp] s t)
    ∧ (isRoot s = true → 1000000 ≤ s.ptp.offset.natAbs → seqrIdle s = true → s.vcp.accepted = [] →
        Int.tdiv s.ptp.offset 50000 * 50000 ≤ s.now →
      (s.ptp.stepSince = none → ∃ t, exec .timeStep s = .next t ∧ t.ptp = { s.ptp with stepSince := some s.now } ∧ ChangesOnly [.ptp] s t)
      ∧ (∀ z, s.ptp.stepSince = some z → z + 20 * Config.ms ≤ s.now →
        ∃ t, exec .timeStep s = .next t ∧ (t.now : Int) = s.now - Int.tdiv s.ptp.offset 50000 * 50000 ∧ t.now % 50000 = s.now % 50000
          ∧ t.frame = t.now / 50000 ∧ t.ptp.offset.natAbs < 50000 ∧ t.bitAt U.sys Off.pwrEvents 7 = true
          ∧ (∀ l, (t.loop l).out = (s.loop l).out) ∧ (∀ r, (t.rack r).cap = (s.rack r).cap)
          ∧ RegsOnly [(U.sys, Off.pwrEvents)] s t))
    ∧ (∀ (r : Rail) (d : Option (Fin 24)), s.power.step ≠ 0 →
      (r.val < 4 → s.power.llState = 1 → ∃ t, exec (.railFault r d) s = .next t ∧ t.power.llState = 2 ∧ t.bitAt U.sys Off.pwrEvents 4 = true)
      ∧ (r.val < 4 → s.power.llState ≠ 1 → s.power.llState ≠ 2 → ∃ t, exec (.railFault r d) s = .next t ∧ t.power.step = 0 ∧ t.power.saved = s.power.saved)
      ∧ (r.val = 4 → s.integ.resetAt = none →
        ∃ t, exec (.railFault r d) s = .next t ∧ t.integ.resetAt = some s.now ∧ t.plant.engineOk = false ∧ (∀ l ∈ t.seqr.legs, l.dropped = true)
          ∧ (∀ l, l < 5 → (t.loop l).out = (s.loop l).out) ∧ t.bitAt U.sys Off.pwrEvents 4 = true)
      ∧ (r.val = 5 → ∃ t, exec (.railFault r d) s = .next t ∧ (∀ l, l < 32 → linkAlive t l = false) ∧ t.bitAt U.sys Off.pwrEvents 4 = true)
      ∧ (r.val = 6 → ∃ t, exec (.railFault r d) s = .next t ∧ t.reg U.sys Off.pwrEvents = orBit (s.reg U.sys Off.pwrEvents) 4
          ∧ ChangesOnly [.regs] s t ∧ RegsOnly [(U.sys, Off.pwrEvents)] s t))
    ∧ (s.power.backup = false →
      ∃ t, exec .rootFail s = .next t ∧ t.power = { s.power with backup := true } ∧ t.bitAt U.sys Off.pwrEvents 6 = true
        ∧ (t.pair.role = s.pair.role) ∧ ChangesOnly [.hall, .links, .outbox, .pair, .power, .regs, .vcp] s t)
    ∧ (∀ a : Bool, ∃ t, exec (.pllUnlock a) s = .next t ∧ t.reg U.sys Off.pwrEvents = orBit (s.reg U.sys Off.pwrEvents) 8
        ∧ t.power = { s.power with pllA := s.power.pllA && !a } ∧ ChangesOnly [.power, .regs] s t ∧ RegsOnly [(U.sys, Off.pwrEvents)] s t)

/-! ### Engine integrity (Ch. 8) -/

/-- R226, R233, R239, R241, R242: a request for a re-derived digest leaves as a DIGEST_QUERY to the module that sent the records, a peer's
is answered from the retained copy, and an answer settles its dispute: agreeing passes and the digest received make it CHECK_CORRUPT,
anything else DATA_CORRUPT; a Relief's digest in time is compared and a
late one counts MIRROR_LATE; a cluster past its period without a round is TEST_OVERDUE and, 24 h later, SUSPECT; and a
mirroring Relief's margin test makes it cold standby and ends in a resync. -/
def Obligations.DigestsAndTests : Prop :=
  ∀ (s : State),
    (∀ leg i x, openDispute leg i s = some x → ∀ o, x.srcOrd = some o → linkTowards s o ≠ none →
        ∃ t, exec (.digestQuery leg i .ask) s = .next t ∧ t.outbox = .service 0x13 o [leg, i] :: s.outbox
          ∧ ChangesOnly [.hall, .links, .outbox] s t)
    ∧ (∀ leg i o d, rederived leg i s = some d → linkTowards s o ≠ none →
        ∃ t, exec (.digestQuery leg i (.asked o)) s = .next t ∧ t.outbox = .service 0x13 o [leg, i, d] :: s.outbox
          ∧ ChangesOnly [.hall, .links, .outbox] s t)
    ∧ (∀ leg i d r, legRec s leg = some r → ∀ x rx, r.checksClosed = false → r.disputes[i]? = some (x, rx, none) →
      let settled := { r with disputes := r.disputes.set i (x, rx, some d) }
      let corrupt := ¬ (x.passesAgree = true ∧ d = rx)
      ∃ t, exec (.digestQuery leg i (.answer d)) s = .next t
        ∧ legRec t leg = some { settled with fail := if corrupt then r.fail ||| failBit Fail.digest else r.fail }
        ∧ t.bitAt U.hub Off.intEvents (if corrupt then 1 else 0) = true
        ∧ ChangesOnly [.integ, .log, .outbox, .regs, .seqr, .vcp] s t ∧ RegsOnly [(U.hub, Off.intEvents), (U.hub, Off.intCountA), (U.hub, Off.intCountB)] s t)
    ∧ (∀ leg d r, legRec s leg = some r → isKeeper s = true → mirrorActive s = true →
      (digestInTime s leg = true → r.checksClosed = false →
        ∃ t, exec (.legDigest leg d) s = .next t ∧ legRec t leg = some { r with reliefDigest := some d }
          ∧ t.pair = { s.pair with legsCompared := s.pair.legsCompared + 1 } ∧ ChangesOnly [.pair, .seqr] s t)
      ∧ (digestInTime s leg = false →
        ∃ t, exec (.legDigest leg d) s = .next t ∧ t.seqr = s.seqr ∧ t.pair = { s.pair with legsLate := s.pair.legsLate + 1 }
          ∧ t.bitAt U.hub Off.intEvents 11 = true
          ∧ ChangesOnly [.integ, .log, .outbox, .pair, .regs, .vcp] s t ∧ RegsOnly [(U.hub, Off.intEvents)] s t))
    ∧ (∀ c : ClusterAt, s.bitAt U.hub Off.intCtrl 2 = true → (s.die c.die.val).st = 0 → (clusterOf s c).st ≠ 2 →
        (clusterOf s c).overdueSince = none → Nat.max (clusterOf s c).lastRound s.integ.since + testPeriod s (clusterOf s c) < s.now →
      ∃ t, exec (.testOverdue c) s = .next t ∧ clusterOf t c = { clusterOf s c with overdueSince := some s.now }
        ∧ (∀ d, clKey d ≠ clKey c → clusterOf t d = clusterOf s d) ∧ t.bitAt U.hub Off.intEvents 3 = true
        ∧ ChangesOnly [.clusters, .integ, .log, .outbox, .regs, .vcp] s t ∧ RegsOnly [(U.hub, Off.intEvents)] s t)
    ∧ (∀ (c : ClusterAt) z, (clusterOf s c).overdueSince = some z → (clusterOf s c).st = 0 → z + hours 24 ≤ s.now →
      ∃ t, exec (.suspectEnter c) s = .next t ∧ clusterOf t c = { clusterOf s c with st := 1, clean := 0, failTimes := [] }
        ∧ (∀ d, clKey d ≠ clKey c → clusterOf t d = clusterOf s d) ∧ t.bitAt U.hub Off.intEvents 4 = true
        ∧ ChangesOnly [.clusters, .integ, .log, .outbox, .regs, .vcp] s t ∧ RegsOnly [(U.hub, Off.intEvents)] s t)
    ∧ (∀ failed, s.integ.margin = false → s.pair.role = .reliefMirror → s.plant.mode = .run → s.fldOf U.hub Off.intMargin 31 16 ≠ 0 →
        s.integ.lastMargin + hours (s.fldOf U.hub Off.intMargin 31 16) ≤ s.now →
      ∃ t, exec (.marginTest failed) s = .next t ∧ t.pair = { s.pair with role := .reliefCold } ∧ t.integ = { s.integ with margin := true }
        ∧ t.power = { s.power with marginClock := true } ∧ ChangesOnly [.integ, .pair, .power] s t)
    ∧ (∀ failed, s.integ.margin = true →
      ∃ t, exec (.marginTest failed) s = .next t ∧ t.pair.role = .reliefResync ∧ t.pair.resync = .handshake ∧ t.integ.margin = false
        ∧ t.integ.lastMargin = s.now ∧ t.power = { s.power with marginClock := false } ∧ t.seqr.round = s.seqr.round + 16
        ∧ (failed ≠ [] → t.bitAt U.hub Off.intEvents 9 = true ∧ t.bitAt U.hub Off.intEvents 2 = true)
        ∧ ChangesOnly [.clusters, .dies, .integ, .log, .outbox, .pair, .power, .regs, .seqr, .vcp] s t)

/-- R246, R247, R249, R415: an uncorrectable error begins the package reset: it is charged to its die, nothing more is released, the
outputs hold, and a Keeper with a healthy Relief drops LAMP; a second one while it lasts is only charged; a reset that is
not due to end goes on, and the end of one is reported; and a report is sent when asked for and every REPORT_PERIOD. -/
def Obligations.PackageReset : Prop :=
  ∀ (s : State),
    (∀ die : Fin 25, s.integ.resetAt = none →
      ∃ t, exec (.uncorrectableError die) s = .next t ∧ t.integ.resetAt = some s.now ∧ t.plant.engineOk = false ∧ (∀ l ∈ t.seqr.legs, l.dropped = true)
        ∧ (∃ l, (t.die die.val).ueTimes = s.now :: l) ∧ t.bitAt U.hub Off.intEvents 7 = true
        ∧ (∀ l, l < 5 → (t.loop l).out = (s.loop l).out) ∧ (∀ l, l < 4 → (t.loop l).target = (s.loop l).out)
        ∧ (∀ r, (t.rack r).cap = (s.rack r).cap)
        ∧ (t.pair.dropLamp = if reliefHealthy s then some s.now else s.pair.dropLamp)
        ∧ ChangesOnly [.broker, .copies, .dies, .free, .hall, .integ, .links, .log, .outbox, .pair, .plant, .power, .regs, .seqr, .vcp] s t)
    ∧ (∀ (die : Fin 25) z, s.integ.resetAt = some z →
      ∃ t, exec (.uncorrectableError die) s = .next t ∧ (∃ l, (t.die die.val).ueTimes = s.now :: l)
        ∧ (∀ j, j ≠ die.val → t.die j = s.die j) ∧ ChangesOnly [.dies] s t)
    ∧ (∀ z early, s.integ.resetAt = some z → resetEnds early z s.now = false → exec (.packageResetDone early) s = .next s)
    ∧ (∀ z early, s.integ.resetAt = some z → z + 50000 ≤ s.now → (early = true ∨ z + 450 * Config.ms ≤ s.now) →
      ∃ t, exec (.packageResetDone early) s = .next t ∧ t.integ.resetAt = none ∧ t.bitAt U.hub Off.intEvents 8 = true
        ∧ t.integ.resets = sat 0xFFFF (s.integ.resets + 1)
        ∧ (isRelief s = true → s.seqr.image ≠ none → t.pair.role = .reliefResync))
    ∧ (∀ (h : Hdr) (e : Session), Served (opIntegrityReport h) h e s → deadlineMissed h s.now s.now = false →
      ∃ t, exec (.integrityReport h) s = .next t ∧ t.integ = { s.integ with reportSeq := s.integ.reportSeq + 1 }
        ∧ Answers h .ok s.now (reportBody 2 0 s.seqr.leg top32 { s with integ := t.integ }) s t
        ∧ ChangesOnly [.integ, .outbox, .regs, .vcp] s t ∧ RegsOnly [] s t)
    ∧ (s.integ.lastReport + s.fldOf U.hub Off.intCtrl 23 16 * Config.sec ≤ s.now →
      ∃ t, exec .integrityPeriodic s = .next t ∧ t.integ.lastReport = s.now
        ∧ ChangesOnly [.integ, .outbox, .regs, .vcp] s t ∧ RegsOnly [] s t)

/-- R243 to R245: datum chunks arrive in order: one that is not, or does not fit, is refused with BAD_PARAM; a version that is not newer is
DENIED and its set discarded; a good one is taken; the last of a valid set is accepted for the leg boundary at or after
APPLY_AT, where the set is applied from the other slot; and a set with chunks missing after 60 s is discarded. -/
def Obligations.DatumSets : Prop :=
  (∀ (h : Hdr) (ver : BitVec 32) (chunk n : BitVec 16) (len : Nat) (setOk sigOk : Bool) (applyAt : BitVec 64) (e : Session) (s u : State),
    u = touch h e.id s → Served (opDatumPush h) h e s →
    let fits := chunk.toNat < n.toNat ∧ n.toNat ≤ 128 ∧ 1 ≤ len ∧ len ≤ 8192 ∧ pushedBytes s chunk.toNat + len ≤ 1048576
      ∧ datumInOrder s ver.toNat chunk.toNat n.toNat = true
    (¬ fits → ∃ t, exec (.datumPush h ver chunk n len setOk sigOk applyAt) s = .next t ∧ Answers h .badParam 0 [] s t ∧ ChangesOnly [.outbox, .regs, .vcp] s t ∧ RegsOnly [] s t)
    ∧ (fits → ver.toNat ≤ s.integ.datumVer →
      ∃ t, exec (.datumPush h ver chunk n len setOk sigOk applyAt) s = .next t ∧ Answers h .denied 0 [] s t ∧ t.integ.push = none ∧ t.integ.datumVer = s.integ.datumVer
        ∧ t.integ.datumNext = s.integ.datumNext ∧ ChangesOnly [.integ, .log, .outbox, .regs, .vcp] s t ∧ RegsOnly [] s t)
    ∧ (fits → s.integ.datumVer < ver.toNat → chunk.toNat + 1 < n.toNat → deadlineMissed h s.now s.now = false →
      ∃ t, exec (.datumPush h ver chunk n len setOk sigOk applyAt) s = .next t ∧ Answers h .ok s.now [] s t
        ∧ (∃ z, t.integ = { s.integ with push := some (ver.toNat, chunk.toNat + 1, n.toNat, pushedBytes s chunk.toNat + len, z) })
        ∧ ChangesOnly [.integ, .outbox, .regs, .vcp] s t ∧ RegsOnly [] s t)
    ∧ (fits → s.integ.datumVer < ver.toNat → n.toNat ≤ chunk.toNat + 1 → setOk = true → sigOk = true →
        Admits h e (boundaryFrom u (Nat.max applyAt.toNat u.now)).1 u →
      let at_ := (boundaryFrom u (Nat.max applyAt.toNat u.now)).1
      ∃ t, exec (.datumPush h ver chunk n len setOk sigOk applyAt) s = .next t ∧ Answers h .accepted at_ [] s t ∧ Waits (originOf h e) t ∧ (1 ≤ legNs s → applyAt.toNat ≤ at_)
        ∧ t.integ = { s.integ with push := none, datumNext := some (ver.toNat, at_), datumOrigin := some (originOf h e) }
        ∧ ChangesOnly [.integ, .outbox, .regs, .vcp] s t ∧ RegsOnly [] s t))
  ∧ ∀ (s : State),
    (∀ a b c d z, s.integ.push = some (a, b, c, d, z) → z + 60 * Config.sec ≤ s.now →
      ∃ t, exec .datumDiscard s = .next t ∧ t.integ = { s.integ with push := none } ∧ ChangesOnly [.integ] s t)
    ∧ (∀ v z, s.integ.datumNext = some (v, z) → z ≤ s.now → s.integ.datumSlot ≤ 1 →
      ∃ t, exec .datumApply s = .next t ∧ t.integ.datumVer = v ∧ t.integ.datumNext = none ∧ t.integ.datumSlot = 1 - s.integ.datumSlot
        ∧ t.bitAt U.hub Off.intEvents 10 = true
        ∧ ChangesOnly [.integ, .log, .outbox, .regs, .vcp] s t ∧ RegsOnly [(U.hub, Off.intEvents)] s t)

/-! ### Copy engines (Ch. 5) -/

/-- R139, R140, R144, R145, R147, R153, R154: a doorbell adds its descriptors, which wait while the engines are busy and start
where nothing else waits, or sets OVERRUN and adds nothing, and with it firmware clears events it has taken; a ring's layout is written
while it is empty and the new one valid, and otherwise stays, with BUSY or BAD_PARAM; a scheduled copy and one of CE6 end as they
completed or failed; a peer's request waits for CE6; ABORT of a copy waits for its frame's end, where a completion wins over it and a
queued copy ends DENIED; and one of a copy that its ring does not hold, or of a ring above 2, is refused. -/
def Obligations.CopyRings : Prop :=
  ∀ (s : State),
    (∀ (ring : Fin 3) (tail : BitVec 16) (descs : List CopyDesc) (clear : Word),
      let k := ring.val
      let n := ringSize s k
      let kept := s.reg U.hub Off.ceEvents &&& ~~~ clear
      let held := (s.copies.tail k + n - s.copies.head k) % n
      let more := (tail.toNat % n + n - s.copies.tail k) % n
      (n ≤ held + more → ∃ t, exec (.ceRingTail ring tail ⟨descs, clear⟩) s = .next t
          ∧ t.reg U.hub Off.ceEvents = orBit kept 4 ∧ ChangesOnly [.regs] s t ∧ RegsOnly [(U.hub, Off.ceEvents)] s t)
      ∧ (held + more < n → firmwareBusy s.copies = true → s.copies.ring0.any (fun c => c.running) = true → s.copies.incoming ≠ [] →
        ∃ t, exec (.ceRingTail ring tail ⟨descs, clear⟩) s = .next t
          ∧ t.copies.ring k = s.copies.ring k ++ (descs.take more).map (fun d => { desc := d, ring := k })
          ∧ t.copies.tail k = tail.toNat % n ∧ t.copies.head k = s.copies.head k
          ∧ t.reg U.hub Off.ceEvents = kept ∧ ChangesOnly [.copies, .regs] s t ∧ RegsOnly [(U.hub, Off.ceEvents)] s t)
      ∧ (∀ d rest, descs.take more = d :: rest → held + more < n → k ≠ 0 → s.copies.ring0 = [] → s.copies.ring1 = [] → s.copies.ring2 = [] →
          copyRefusal s (k + 1) d = none →
        ∃ t, exec (.ceRingTail ring tail ⟨descs, clear⟩) s = .next t
          ∧ t.copies.ring k = { desc := d, ring := k, running := true } :: rest.map (fun d => { desc := d, ring := k })
          ∧ t.copies.busy = s.copies.busy ||| 128 ∧ t.copies.lastRing = k ∧ t.copies.tail k = tail.toNat % n
          ∧ t.reg U.hub Off.ceEvents = kept ∧ ChangesOnly [.copies, .regs] s t ∧ RegsOnly [(U.hub, Off.ceEvents)] s t))
    ∧ (∀ (ring : Fin 3) (base size : Word),
      let k := ring.val
      let ok := base.toNat % 64 = 0 ∧ 0x3800000 ≤ base.toNat ∧ base.toNat + 64 * size.toNat ≤ 0x3C00000 ∧ ringSizeOk size.toNat = true
      (s.copies.head k = s.copies.tail k → ok →
        ∃ t, exec (.ceRingLayoutWrite ring (some base) (some size)) s = .next t
          ∧ t.reg U.hub (Off.ceRingBase + 0x10 * k) = base ∧ t.reg U.hub (Off.ceRingCtrl + 0x10 * k) = size
          ∧ t.copies.head k = s.copies.head k % size.toNat ∧ t.copies.tail k = s.copies.tail k % size.toNat
          ∧ t.outbox = .ringLayout ring .ok :: s.outbox ∧ ChangesOnly [.copies, .outbox, .regs] s t
          ∧ RegsOnly [(U.hub, Off.ceRingBase + 0x10 * k), (U.hub, Off.ceRingCtrl + 0x10 * k)] s t)
      ∧ (s.copies.head k ≠ s.copies.tail k ∨ ¬ ok →
        ∃ t, exec (.ceRingLayoutWrite ring (some base) (some size)) s = .next t
          ∧ t.outbox = .ringLayout ring (if s.copies.head k ≠ s.copies.tail k then .busy else .badParam) :: s.outbox
          ∧ ChangesOnly [.outbox] s t))
    ∧ (∀ (ce : Fin 8) (bytes digest : Nat) d rest, takeSched ce.val s.now s.copies.sched = some (d, rest) → ce.val < 6 →
      (∃ t, exec (.copyComplete ce .completed bytes digest) s = .next t ∧ t.copies.sched = rest
          ∧ t.copies = { s.copies with sched := rest, ended := copyEndOf 3 d .completed bytes digest s :: s.copies.ended }
          ∧ t.reg U.hub Off.ceEvents = (if d.notify then orBit (s.reg U.hub Off.ceEvents) 0 else s.reg U.hub Off.ceEvents)
          ∧ ChangesOnly [.copies, .regs] s t ∧ RegsOnly [(U.hub, Off.ceEvents)] s t)
      ∧ (∃ t, exec (.copyComplete ce .faulted bytes digest) s = .next t
          ∧ t.copies = { s.copies with sched := rest, ended := copyEndOf 3 d .faulted bytes digest s :: s.copies.ended }
          ∧ t.reg U.hub Off.ceEvents = orBit (s.reg U.hub Off.ceEvents) 3
          ∧ (∀ r ∈ t.seqr.legs, r.leg = s.seqr.leg → r.dropped = false → r.fail &&& 0x20#6 = 0x20#6)
          ∧ ChangesOnly [.copies, .regs, .seqr] s t ∧ RegsOnly [(U.hub, Off.ceEvents)] s t))
    ∧ (∀ c, s.copies.ring0 = [c] → ∀ (bytes digest : Nat), c.running = true → s.copies.incoming = [] → s.hall.bulks = [] → s.copies.ring1 = [] → s.copies.ring2 = [] →
      ∃ t, exec (.copyComplete 6 .completed bytes digest) s = .next t ∧ t.copies.ring0 = []
        ∧ t.copies.head0 = (s.copies.head0 + 1) % ringSize s 0 ∧ t.copies.ended = copyEndOf 0 c.desc .completed bytes digest s :: s.copies.ended
        ∧ (c.desc.notify = true → t.reg U.hub Off.ceEvents = orBit (s.reg U.hub Off.ceEvents) 0)
        ∧ ChangesOnly [.copies, .regs] s t ∧ RegsOnly [(U.hub, Off.ceEvents), (U.hub, Off.ceMerge)] s t)
    ∧ (∀ ord bytes, ∃ t, exec (.peerCopyRequest ord bytes) s = .next t
        ∧ t.copies = { s.copies with incoming := s.copies.incoming ++ [(ord, bytes)], busy := s.copies.busy ||| 64 } ∧ ChangesOnly [.copies] s t)
    ∧ (∀ (h : Hdr) (ring : BitVec 8) (tag : BitVec 16) (e : Session), Served (opAbortCopy h) h e s →
      (2 < ring.toNat →
        ∃ t, exec (.abortCopy h ring tag) s = .next t ∧ Answers h .badParam 0 [] s t ∧ ChangesOnly [.outbox, .regs, .vcp] s t ∧ RegsOnly [] s t)
      ∧ (ring.toNat ≤ 2 → (takeCopy tag (s.copies.ring ring.toNat)).isSome = true →
        ∃ t, exec (.abortCopy h ring tag) s = .next t ∧ t.copies = { s.copies with aborts := s.copies.aborts ++ [(h, ring.toNat, tag)] }
          ∧ ChangesOnly [.copies, .outbox, .regs, .vcp] s t ∧ RegsOnly [] s t)
      ∧ (ring.toNat ≤ 2 → (takeCopy tag (s.copies.ring ring.toNat)).isSome = false →
          completedIn ring.toNat tag (s.now / 50000) s = false →
        ∃ t, exec (.abortCopy h ring tag) s = .next t ∧ Answers h .badParam 0 [] s t ∧ ChangesOnly [.outbox, .regs, .vcp] s t ∧ RegsOnly [] s t))
    ∧ (∀ (h : Hdr) (ring : Nat) (tag : BitVec 16) (e : Session) frame, ring ≤ 2 → s.copies.aborts = [(h, ring, tag)] →
        ServedLate (opAbortCopy h) h e { s with copies.aborts := [] } →
      (completedIn ring tag frame s = true → Answers h .alreadyComplete 0 [] s (judgeAborts frame s) ∧ (judgeAborts frame s).copies = { s.copies with aborts := [] })
      ∧ (∀ c rest, takeCopy tag (s.copies.ring ring) = some (c, rest) → completedIn ring tag frame s = false → c.running = false →
          deadlineMissed h s.now s.now = false →
        Answers h .ok s.now [] s (judgeAborts frame s)
          ∧ (copyEndOf ring c.desc .denied 0 0 s :: s.copies.ended) <:+ (judgeAborts frame s).copies.ended
          ∧ (judgeAborts frame s).bitAt U.hub Off.ceEvents 1 = true
          ∧ ChangesOnly [.copies, .free, .hall, .links, .outbox, .regs, .vcp] s (judgeAborts frame s)))

/-! ### Traverses (Ch. 7) -/

/-- R217, R220, R436: TRAVERSE_LOAD of a verified bank, while the sequencer is EMPTY, LOADED or FAULTED, is accepted with the time its load
ends; a running sequencer refuses it with BUSY and another bank with UPDATE_STATE; the load ends LOADED with the image, or EMPTY
with LOAD_FAIL where a check fails; and start-up step 7 opens the engine and loads the active bank. -/
def Obligations.TraverseLoads : Prop :=
  (∀ (h : Hdr) (bank : BitVec 8) (e : Session) (s u : State), u = touch h e.id s → Served (opTraverseLoad h) h e s → bank.toNat ≤ 1 →
    let free := s.seqr.st = .empty ∨ s.seqr.st = .loaded ∨ s.seqr.st = .faulted
    (free → bankVerified (traverseBank s bank.toNat) = true → Admits h e (loadEnd s bank.toNat) u →
      ∃ t, exec (.traverseLoad h bank) s = .next t ∧ Answers h .accepted (loadEnd s bank.toNat) [] s t ∧ Waits (originOf h e) t
        ∧ t.seqr = { s.seqr with st := .loading, loading := some (bank.toNat, s.now, loadEnd s bank.toNat),
                                 loadOrigin := some (originOf h e) }
        ∧ ChangesOnly [.outbox, .regs, .seqr, .vcp] s t ∧ RegsOnly [] s t)
    ∧ (¬ free → ∃ t, exec (.traverseLoad h bank) s = .next t ∧ Answers h .busy 0 [] s t ∧ ChangesOnly [.outbox, .regs, .vcp] s t ∧ RegsOnly [] s t)
    ∧ (free → bankVerified (traverseBank s bank.toNat) = false →
      ∃ t, exec (.traverseLoad h bank) s = .next t ∧ Answers h .updateState 0 [] s t ∧ ChangesOnly [.outbox, .regs, .vcp] s t ∧ RegsOnly [] s t))
  ∧ ∀ (s : State),
    (∀ (img : Image) (ok : Bool) o, s.seqr.st = .loading → s.seqr.loadOrigin = some o →
      (ok = true → imageFault s img = none →
        ∃ t, exec (.loadDone img ok) s = .next t ∧ t.seqr.st = .loaded ∧ t.seqr.image = some img ∧ t.seqr.leg = 0 ∧ t.seqr.anyLeg = false
          ∧ t.bitAt U.hub Off.trvEvents 0 = true ∧ (∀ a ∈ t.vcp.accepted, isOrigin o a = false)
          ∧ t.pair.idMatch = decide (s.pair.partnerId = some (pairId { s with seqr := { s.seqr with image := some img } })))
      ∧ (ok = false ∨ (∃ k, imageFault s img = some k) →
        ∃ t, exec (.loadDone img ok) s = .next t ∧ t.seqr.st = .empty ∧ t.seqr.image = none ∧ t.bitAt U.hub Off.trvEvents 1 = true
          ∧ (∀ a ∈ t.vcp.accepted, isOrigin o a = false)))
    ∧ (∀ img, s.seqr.st = .loading → s.seqr.loadOrigin = none → imageFault s img = none → isKeeper s = true → img.modules = 1 →
      ∃ t, exec (.loadDone img true) s = .next t ∧ t.seqr.st = .starting ∧ t.seqr.image = some img ∧ t.bitAt U.hub Off.trvEvents 0 = true)
    ∧ (s.power.step = 7 → (∀ e ∈ s.power.closing, e.1 ≠ 24) →
      ∃ t, exec .engineStartup s = .next t ∧ t.power.step = 15 ∧ (∀ d ∈ t.power.closed, 24 < d ∨ (s.die d).st = 3)
        ∧ (∀ i, i < 24 → t.die i = { s.die i with st := if (s.die i).st = 2 then 1 else (s.die i).st })
        ∧ (s.seqr.st = .empty → (activeBank (s.upd 2)).st = .active → t.seqr.st = .loading)
        ∧ ChangesOnly [.dies, .fans, .power, .seqr] s t)

/-- R218, R219: TRAVERSE_START of a loaded image is accepted with the time of its first leg; at that time the leg runs as a checkpoint leg,
numbered on from the last one of the loaded image; with FROM = 1 it runs from the last sound checkpoint, and FAULTED is left where there
is none; TRAVERSE_STOP of a running traverse waits for the next leg boundary, and of one that does
not run has nothing to do. -/
def Obligations.TraverseStartsAndStops : Prop :=
  (∀ (h : Hdr) (src : BitVec 8) (startAt : BitVec 64) (i : Image) (e : Session) (s u : State), u = touch h e.id s →
    Served (opTraverseStart h) h e s → s.seqr.image = some i → i.modules ≤ 1 →
    let at_ := firstLegAt s startAt.toNat
    (s.seqr.st = .loaded → src.toNat = 0 ∨ (src.toNat = 1 ∧ ∃ c, lastCkpt s = some c ∧ c.mirrorId = i.mirrorId) → Admits h e at_ u →
      ∃ t, exec (.traverseStart h src startAt) s = .next t ∧ Answers h .accepted at_ [] s t ∧ Waits (originOf h e) t
        ∧ t.seqr = { s.seqr with st := .starting, starting := some (at_, src.toNat, some (originOf h e)) } ∧ s.now + 10 * Config.ms ≤ at_
        ∧ ChangesOnly [.free, .outbox, .regs, .seqr, .vcp] s t ∧ RegsOnly [] s t)
    ∧ (s.seqr.st = .loaded → src.toNat = 1 → lastCkpt s = none →
      ∃ t, exec (.traverseStart h src startAt) s = .next t ∧ Answers h .notPresent 0 [] s t ∧ ChangesOnly [.outbox, .regs, .vcp] s t ∧ RegsOnly [] s t)
    ∧ (s.seqr.st = .running → src.toNat ≤ 1 →
      ∃ t, exec (.traverseStart h src startAt) s = .next t ∧ Answers h .busy 0 [] s t ∧ ChangesOnly [.outbox, .regs, .vcp] s t ∧ RegsOnly [] s t))
  ∧ (∀ (digests : Nat × Nat) (out : EngineOut) (w : LegWork) (s a : State) (i : Image) z o, s.seqr.st = .starting → s.seqr.starting = some (z, 0, o) → z ≤ s.now →
    s.seqr.image = some i → choosePlacement true i s = .runs a →
    let n := if s.seqr.anyLeg then s.seqr.leg + 1 else 0
    ∃ t, exec (.traverseFirstLeg out ⟨digests, w⟩) s = .next t ∧ t.seqr.st = .running ∧ t.seqr.leg = n ∧ t.seqr.legStart = z ∧ t.seqr.anyLeg = true
      ∧ (∃ r l, t.seqr.legs = r :: l ∧ r.leg = n ∧ r.ckptLeg = true ∧ r.restored = false)
      ∧ ((t.seqr.slotA.leg = n ∧ t.seqr.slotA.state = 1) ∨ (t.seqr.slotB.leg = n ∧ t.seqr.slotB.state = 1))
      ∧ (∀ q, o = some q → ∀ b ∈ t.vcp.accepted, isOrigin q b = false))
  ∧ (∀ (digests : Nat × Nat) (out : EngineOut) (w : LegWork) (s a : State) (i : Image) z o, s.seqr.st = .starting →
    s.seqr.starting = some (z, 1, o) → z ≤ s.now → s.seqr.image = some i → choosePlacement true i s = .runs a →
    (∀ c, lastCkpt a = some c → (if a.seqr.slotA = c then digests.1 else digests.2) = c.digest →
      ∃ t, exec (.traverseFirstLeg out ⟨digests, w⟩) s = .next t ∧ t.seqr.st = .running
        ∧ t.seqr.leg = (if s.seqr.anyLeg then s.seqr.leg + 1 else c.leg + 1) ∧ t.seqr.legStart = z ∧ t.bitAt U.hub Off.trvEvents 3 = true
        ∧ (∃ r l, t.seqr.legs = r :: l ∧ r.ckptLeg = true ∧ r.restored = true))
    ∧ (lastCkpt a = none → ∃ t, exec (.traverseFirstLeg out ⟨digests, w⟩) s = .next t ∧ t.seqr.st = .faulted
        ∧ (∀ q, o = some q → ∀ b ∈ t.vcp.accepted, isOrigin q b = false)))
  ∧ ∀ (h : Hdr) (e : Session) (s u : State), u = touch h e.id s → Served (opTraverseStop h) h e s → imageOr s (·.modules) ≤ 1 →
    (s.seqr.st = .running → s.seqr.stopAt = none → s.seqr.stopOrigin = none → Admits h e (s.seqr.legStart + legNs s) u →
      ∃ t, exec (.traverseStop h) s = .next t ∧ Answers h .accepted (s.seqr.legStart + legNs s) [] s t ∧ Waits (originOf h e) t
        ∧ t.seqr = { s.seqr with stopOrigin := some (originOf h e), stopAt := some (s.seqr.leg + 1) }
        ∧ ChangesOnly [.outbox, .regs, .seqr, .vcp] s t ∧ RegsOnly [] s t)
    ∧ (s.seqr.st = .loaded → deadlineMissed h s.now s.now = false →
      ∃ t, exec (.traverseStop h) s = .next t ∧ Answers h .ok s.now [] s t ∧ ChangesOnly [.outbox, .regs, .vcp] s t ∧ RegsOnly [] s t)

/-- R67, R68, R188, R191, R204, R219: at a leg boundary the next leg runs, one higher, one leg length later, and no output jumps; a leg with a
failed check, or released while Deck is stopped, is withheld with its event and count; the checks of a leg close once, with CHECKS_OK
when nothing failed; a stop that is due leaves the image LOADED and makes the mode fall to FALLBACK at the next frame boundary; a failed leg rolls a single module back; and a
restore resumes one leg above the last, in the phase its checkpoint names, where the digest of the checkpoint matches, and otherwise
marks it bad. -/
def Obligations.LegBoundaries : Prop :=
  ∀ (out : EngineOut) (w : LegWork) (s : State),
    let quiet := s.seqr.stopAt = none ∧ s.seqr.hallStop = none ∧ s.seqr.placementNow = false ∧ s.seqr.placementDue = false
      ∧ s.seqr.hallRestore = none ∧ s.pair.joinAt = none ∧ s.pair.restoreAt = none
    (legsRun s = true → s.seqr.legStart + legNs s ≤ s.now →
      (quiet → s.seqr.leg = 0 ∨ (∃ r, legRec s (s.seqr.leg - 1) = some r ∧ r.checksClosed = true ∧ r.fail = 0) →
        ∃ t, exec (.legStart out w) s = .next t ∧ t.seqr.st = .running ∧ t.seqr.leg = s.seqr.leg + 1
          ∧ t.seqr.legStart = s.seqr.legStart + legNs s ∧ (∃ r l, t.seqr.legs = r :: l ∧ r.leg = s.seqr.leg + 1 ∧ r.out = out)
          ∧ (∀ l, l < 5 → (t.loop l).out = (s.loop l).out) ∧ t.plant.mode = s.plant.mode)
      ∧ (∀ r, 1 ≤ s.seqr.leg → legRec s (s.seqr.leg - 1) = some r → r.checksClosed = true → r.committed = false → r.withheld = false →
          (r.checksOk && s.fw.deckUp && !s.pair.misaligned) = false →
        ∃ t, exec (.legStart out w) s = .next t ∧ t.bitAt U.hub Off.trvEvents 2 = true
          ∧ t.fldOf U.hub Off.trvWithheld 31 0 = sat (2 ^ 32 - 1) (s.fldOf U.hub Off.trvWithheld 31 0 + 1)
          ∧ t.plant.engineOk = false ∧ (∀ l, l < 5 → (t.loop l).out = (s.loop l).out))
      ∧ (∀ k, s.seqr.stopAt = some k → k ≤ s.seqr.leg + 1 → (s.upd 2).activating = none → s.seqr.hallFault = false →
        ∃ t, exec (.legStart out w) s = .next t ∧ t.seqr.st = .loaded ∧ (∀ r ∈ t.seqr.legs, r.dropped = true) ∧ t.seqr.stopAt = none ∧ t.plant.engineOk = false
          ∧ (isKeeper s = true → s.plant.mode = .run → t.plant.fall = some true) ∧ (∀ l, l < 5 → (t.loop l).out = (s.loop l).out)
          ∧ (∀ o, s.seqr.stopOrigin = some o → ∀ b ∈ t.vcp.accepted, isOrigin o b = false))
      ∧ (∀ r, 1 ≤ s.seqr.leg → legRec s (s.seqr.leg - 1) = some r → r.checksClosed = true → wantsRollback r = true → s.seqr.stopAt = none →
          s.seqr.hallStop = none → s.seqr.placementNow = false → s.seqr.placementDue = false → isKeeper s = true →
          (∃ i c, s.seqr.image = some i ∧ i.modules ≤ 1 ∧ lastCkpt s = some c) →
        ∃ t, exec (.legStart out w) s = .next t ∧ t.seqr.st = .restoring ∧ (∀ q ∈ t.seqr.legs, q.dropped = true)
          ∧ (∀ l, l < 5 → (t.loop l).out = (s.loop l).out)))
    ∧ (∀ r, legsRun s = true → 1 ≤ s.seqr.leg → legRec s (s.seqr.leg - 1) = some r → mirrorActive s = false →
      (r.checksClosed = false →
        ∃ t q, exec .checksClosed s = .next t ∧ legRec t (s.seqr.leg - 1) = some q ∧ q.checksClosed = true
          ∧ q.checksOk = decide (q.fail = 0) ∧ (r.fail ≠ 0 → q.fail ≠ 0)
          ∧ (∀ n, n ≠ s.seqr.leg - 1 → legRec t n = legRec s n) ∧ (∀ l, t.loop l = s.loop l)
          ∧ ChangesOnly [.clusters, .dies, .hall, .integ, .links, .log, .outbox, .pair, .regs, .seqr, .vcp] s t)
      ∧ (r.checksClosed = true → exec .checksClosed s = .next s))
    ∧ (∀ z x c (digests : Nat × Nat), s.seqr.restore = some (z, x) → lastCkpt s = some c → s.seqr.st = .restoring →
      let got := if s.seqr.slotA = c then digests.1 else digests.2
      (got = c.digest → ∃ t, exec (.restoreResume digests out w) s = .next t ∧ t.seqr.st = .running ∧ t.seqr.leg = s.seqr.leg + 1
          ∧ t.seqr.legStart = ceilFrame s.now ∧ t.seqr.restore = none
          ∧ (∃ r l, t.seqr.legs = r :: l ∧ r.restored = true ∧ r.ckptLeg = true)
          ∧ t.seqr.phase = (c.phase + 1) % Nat.max 1 (match s.seqr.image with | some i => i.phases.length | none => 1))
      ∧ (got ≠ c.digest → ∃ t, exec (.restoreResume digests out w) s = .next t ∧ t.bitAt U.hub Off.trvEvents 8 = true
          ∧ t.seqr.slotA ≠ c ∧ t.seqr.slotB ≠ c ∧ ((soundCkpt 2 digests s).1 = none → t.seqr.st = .faulted)
          ∧ ∀ l, l < 5 → (t.loop l).out = (s.loop l).out))

/-! ### Sessions, reading and telemetry (Ch. 14) -/

/-- R391 to R393, R396, R456: the module presents its certificate chain in every handshake; a good handshake opens an association and a bad one sets CERT_REJECTED; key updates are counted; a closure, a
timeout or BYE ends the session with its subscriptions and the download it held; what fails DTLS is counted and not answered. -/
def Obligations.SessionsEnd : Prop :=
  ∀ (s : State),
    (∀ assoc port cert (ok : Bool), 2 ≤ s.power.step → (port = .service → s.bitAt U.sys Off.vcpCtrl 0 = true) → (∀ a ∈ s.vcp.assocs, a.id ≠ assoc) →
      (ok = true → certAccepted s cert = true →
        ∃ t, exec (.dtlsHandshake assoc port cert ok) s = .next t
          ∧ t.vcp = { s.vcp with assocs := s.vcp.assocs ++ [{ id := assoc, port, cert, keyedAt := s.now }] }
          ∧ t.outbox = .certChain assoc s.fw.aliasCert (Config.deviceId Config.uds) Config.akvenRoot :: s.outbox ∧ ChangesOnly [.outbox, .vcp] s t)
      ∧ ((ok && certAccepted s cert) = false →
        ∃ t, exec (.dtlsHandshake assoc port cert ok) s = .next t ∧ t.bitAt U.sys Off.vcpEvents 1 = true ∧ ChangesOnly [.outbox, .regs] s t
          ∧ RegsOnly [] s t))
    ∧ (∀ assoc cert ok, s.bitAt U.sys Off.vcpCtrl 0 = false →
      exec (.dtlsHandshake assoc .service cert ok) s = .next s)
    ∧ (∀ assoc, ∃ t, exec (.keyUpdate assoc) s = .next t
        ∧ (∀ a ∈ s.vcp.assocs, a.id = assoc → 2 ^ 24 ≤ a.records ∨ a.keyedAt + Config.hour ≤ s.now →
            { a with keyedAt := s.now, keyGen := a.keyGen + 1, records := 0 } ∈ t.vcp.assocs)
        ∧ (∀ a ∈ s.vcp.assocs, a.id ≠ assoc → a ∈ t.vcp.assocs)
        ∧ t.vcp = { s.vcp with assocs := t.vcp.assocs } ∧ ChangesOnly [.vcp] s t)
    ∧ (∀ assoc, ∃ t, exec (.dtlsClosure assoc) s = .next t ∧ (∀ a, a ∈ t.vcp.assocs ↔ a ∈ s.vcp.assocs ∧ a.id ≠ assoc)
        ∧ (∀ e ∈ t.vcp.sessions, e.assoc ≠ assoc) ∧ t.vcp.kept = s.vcp.kept
        ∧ ChangesOnly [.log, .outbox, .regs, .upds, .vcp] s t ∧ RegsOnly [] s t)
    ∧ (∀ sid e, s.vcp.sessions.find? (fun e => decide (e.id = sid)) = some e →
        e.lastPacket + s.fldOf U.sys Off.vcpCtrl 31 16 * Config.sec ≤ s.now →
      ∃ t, exec (.sessionTimeout sid) s = .next t ∧ t.vcp.sessions = s.vcp.sessions.filter (fun x => decide (x.id ≠ sid))
        ∧ t.bitAt U.sys Off.vcpEvents 0 = true ∧ (∀ k, k < 7 → (s.upd k).owner = sid → (t.upd k).owner = 0)
        ∧ ChangesOnly [.log, .outbox, .regs, .upds, .vcp] s t ∧ RegsOnly [] s t)
    ∧ (∀ (h : Hdr) (e : Session), Served (opBye h) h e s → deadlineMissed h s.now s.now = false →
      ∃ t, exec (.bye h) s = .next t ∧ Answers h .ok s.now [] s t ∧ (∀ x ∈ t.vcp.sessions, x.id ≠ e.id)
        ∧ t.vcp.accepted = s.vcp.accepted ∧ ChangesOnly [.log, .outbox, .regs, .upds, .vcp] s t ∧ RegsOnly [] s t)
    ∧ (2 ≤ s.power.step → ∃ t, exec .malformed s = .next t ∧ t.bitAt U.sys Off.vcpEvents 5 = true ∧ t.outbox = s.outbox
        ∧ ChangesOnly [.regs] s t ∧ RegsOnly [] s t)

/-- R392, R393, R397: HELLO with a certificate of one role, a version in common and a free place opens a session under a new nonzero
identifier, with the capabilities asked for that the version includes, in place of the one its association held; no role is DENIED with
CERT_REJECTED, no common version is VERSION, and no place is BUSY. -/
def Obligations.HelloOpensASession : Prop :=
  ∀ (h : Hdr) (majors minor1 minor2 : BitVec 8) (caps : BitVec 64) (name : Nat) (a : Assoc) (s : State),
    assocOf s h = some a → silentTo helloOp a s = false → h.lengthOk = true → h.reservedZero = true → h.session = 0 → h.unit = 0 →
    h.opcode = 0x01 → majors.toNat ≤ 3 → caps.toNat ≤ 0xFF → keptOf s a.cert.identity h.sequence = none →
    seqStale s a.cert.identity h.sequence = false →
    let refused := fun (st : Status) =>
      ∃ t, exec (.hello h majors minor1 minor2 caps name) s = .next t ∧ Answers h st 0 [] s t ∧ t.vcp.sessions = s.vcp.sessions
        ∧ ChangesOnly [.outbox, .regs, .vcp] s t ∧ RegsOnly [] s t
    (certRole s a.cert = none →
      ∃ t, exec (.hello h majors minor1 minor2 caps name) s = .next t ∧ Answers h .denied 0 [] s t ∧ t.bitAt U.sys Off.vcpEvents 1 = true
        ∧ t.vcp.sessions = s.vcp.sessions ∧ ChangesOnly [.outbox, .regs, .vcp] s t ∧ RegsOnly [] s t)
    ∧ (∀ role rack, certRole s a.cert = some (role, rack) →
      (roleServed s a.port role = false → refused .denied)
      ∧ (roleServed s a.port role = true →
        (negotiate majors.toNat minor1.toNat minor2.toNat = none → refused .version)
        ∧ (∀ v, negotiate majors.toNat minor1.toNat minor2.toNat = some v →
          (sessionsFull s a = true → refused .busy)
          ∧ (sessionsFull s a = false → deadlineMissed h s.now s.now = false →
            ∃ t e, exec (.hello h majors minor1 minor2 caps name) s = .next t ∧ t.vcp.sessions.getLast? = some e ∧ e.id ≠ 0
              ∧ e.assoc = a.id ∧ e.port = a.port ∧ e.identity = a.cert.identity ∧ e.role = role ∧ e.rack = rack ∧ e.major = v.1 ∧ e.minor = v.2
              ∧ e.caps = caps &&& capsOf v.1 v.2 ∧ e.lastPacket = s.now ∧ e.subs = []
              ∧ (∀ x ∈ t.vcp.sessions, x = e ∨ (x ∈ s.vcp.sessions ∧ x.assoc ≠ a.id ∧ x.id ≠ e.id))
              ∧ ((∀ x ∈ s.vcp.sessions, x.assoc ≠ a.id) → t.vcp.sessions = s.vcp.sessions ++ [e])
              ∧ Answers h .ok s.now [v.1, v.2, e.id.toNat, e.caps.toNat, s.now, clientRoleCode role, rack, roleCode s.pair.role,
                                     if s.pair.slot = .a then 0 else 1, Config.serial.toNat, a.cert.identity] s t
              ∧ ChangesOnly [.free, .log, .outbox, .regs, .upds, .vcp] s t ∧ RegsOnly [] s t))))

/-- R7, R406, R408: READ answers the values of its 1 to 64 registers in order, as one snapshot, and clears each RC register it reads;
READ_MULTI answers the values of its entries, or the status and index of the first one that may not be read. -/
def Obligations.RegistersRead : Prop :=
  ∀ (h : Hdr) (e : Session) (s u : State), u = touch h e.id s →
    (∀ (off count : BitVec 16), Served (opRead h off count) h e s → 1 ≤ count.toNat → count.toNat ≤ 64 → deadlineMissed h s.now s.now = false →
      let regs := rangeOf h.unit.toNat off.toNat count.toNat
      ∃ t, exec (.read h off count) s = .next t ∧ Answers h .ok s.now (readAll e.grpSel e.clSel regs u).1 s t
        ∧ (readAll e.grpSel e.clSel regs u).1.length = count.toNat
        ∧ (∀ q ∈ regs, ∀ r, findReg q.1 q.2 = some r → r.acc = .rc → q ≠ (U.sys, Off.pwrXreset) → q ∉ reportRegs → t.reg q.1 q.2 = 0)
        ∧ t.vcp.sessions = u.vcp.sessions ∧ ChangesOnly [.auxs, .outbox, .regs, .vcp] s t)
    ∧ (∀ (off count : BitVec 16), Served (opRead h off count) h e s → count.toNat < 1 ∨ 64 < count.toNat →
      ∃ t, exec (.read h off count) s = .next t ∧ Answers h .badParam 0 [] s t ∧ ChangesOnly [.outbox, .regs, .vcp] s t ∧ RegsOnly [] s t)
    ∧ (∀ (entries : List (BitVec 16 × BitVec 16)), Served (opReadMulti h) h e s → 1 ≤ entries.length → entries.length ≤ 64 →
      let l := entries.map (fun x => (x.1.toNat, x.2.toNat))
      ((∀ x ∈ l, entryRefusal u e x.1 x.2 = none) → deadlineMissed h s.now s.now = false →
        ∃ t, exec (.readMulti h entries) s = .next t ∧ Answers h .ok s.now (readAll e.grpSel e.clSel l u).1 s t
          ∧ ChangesOnly [.auxs, .outbox, .regs, .vcp] s t)
      ∧ (∀ i st, i < l.length → (∀ j, j < i → entryRefusal u e (l.getD j (0, 0)).1 (l.getD j (0, 0)).2 = none) →
          entryRefusal u e (l.getD i (0, 0)).1 (l.getD i (0, 0)).2 = some st →
        ∃ t, exec (.readMulti h entries) s = .next t ∧ Sends (.reply h.version h.opcode h.session h.sequence h.unit.toNat st i 0 []) s t
          ∧ ChangesOnly [.outbox, .regs, .vcp] s t ∧ RegsOnly [] s t))

/-- R412: SUBSCRIBE within its limits adds a subscription under a new nonzero identifier, and one outside them is refused with its
status; UNSUBSCRIBE ends the subscription it names and refuses any other.
R412: a frame samples every subscription whose PERIOD it starts on, once, with the values its registers have; where no sample is due,
nothing changes. -/
def Obligations.Subscriptions : Prop :=
  ((∀ (h : Hdr) (off count period : BitVec 16) (kind : BitVec 8) (e : Session) (s : State), Served (opSubscribe h off count) h e s →
    subRefusal (touch h e.id s) e h.unit.toNat off.toNat count.toNat period.toNat kind.toNat = none → deadlineMissed h s.now s.now = false →
    ∃ t, ∃ b : Sub, exec (.subscribe h off count period kind) s = .next t ∧ Answers h .ok s.now [b.id.toNat] s t ∧ b.id ≠ 0
      ∧ (∀ x ∈ e.subs, x.id ≠ b.id) 
      ∧ b.unit = h.unit.toNat ∧ b.off = off.toNat ∧ b.count = count.toNat ∧ b.period = period.toNat
      ∧ b.telemetry = kind.getLsbD 0 ∧ b.events = kind.getLsbD 1 ∧ b.sampledAt = none
      ∧ t.vcp.sessions = (touch h e.id s).vcp.sessions.map (fun x => if x.id = e.id then { x with subs := x.subs ++ [b] } else x)
      ∧ ChangesOnly [.free, .outbox, .regs, .vcp] s t ∧ RegsOnly [] s t)
  ∧ (∀ (h : Hdr) (off count period : BitVec 16) (kind : BitVec 8) (e : Session) (s : State) st d,
    subRefusal (touch h e.id s) e h.unit.toNat off.toNat count.toNat period.toNat kind.toNat = some (st, d) → Served (opSubscribe h off count) h e s →
    ∃ t, exec (.subscribe h off count period kind) s = .next t ∧ Answers h st 0 [] s t ∧ t.vcp.sessions = (touch h e.id s).vcp.sessions
      ∧ ChangesOnly [.outbox, .regs, .vcp] s t ∧ RegsOnly [] s t)
  ∧ (∀ (h : Hdr) (subId : BitVec 16) (e : Session) (s : State), Served (opUnsubscribe h) h e s → (∃ b ∈ e.subs, b.id = subId) →
    deadlineMissed h s.now s.now = false →
    ∃ t, exec (.unsubscribe h subId) s = .next t ∧ Answers h .ok s.now [] s t
      ∧ t.vcp.sessions = (touch h e.id s).vcp.sessions.map (fun x => if x.id = e.id then
          { x with subs := x.subs.filter (fun b => decide (b.id ≠ subId)) } else x)
      ∧ ChangesOnly [.outbox, .regs, .vcp] s t ∧ RegsOnly [] s t)
  ∧ (∀ (h : Hdr) (subId : BitVec 16) (e : Session) (s : State), Served (opUnsubscribe h) h e s → (∀ b ∈ e.subs, b.id ≠ subId) →
    ∃ t, exec (.unsubscribe h subId) s = .next t ∧ Answers h .badParam 0 [] s t ∧ t.vcp.sessions = (touch h e.id s).vcp.sessions
      ∧ ChangesOnly [.outbox, .regs, .vcp] s t ∧ RegsOnly [] s t))
  ∧ ((∀ (s : State), ∃ t, exec .telemetrySample s = .next t
    ∧ (∀ e ∈ s.vcp.sessions, ∀ b ∈ e.subs, sampleDue s b = true →
        ∃ vals, vals.length = b.count ∧ Sends (.telemetry e.id b.id (frameStart s) s.seqr.leg vals) s t)
    ∧ (∀ e ∈ t.vcp.sessions, ∀ b ∈ e.subs, sampleDue t b = false)
    ∧ ((∀ e ∈ s.vcp.sessions, ∀ b ∈ e.subs, sampleDue s b = false) → t = s)
    ∧ ChangesOnly [.auxs, .outbox, .regs, .vcp] s t)
  ∧ (∀ (s : State) (e : Session), s.vcp.sessions = [e] → ∀ (b : Sub), e.subs = [b] → sampleDue s b = true →
    ∃ t, exec .telemetrySample s = .next t
      ∧ t.outbox = .telemetry e.id b.id (frameStart s) s.seqr.leg (readAll e.grpSel e.clSel (rangeOf b.unit b.off b.count) s).1 :: s.outbox
      ∧ t.vcp.sessions = [{ e with subs := [{ b with sampledAt := some (frameStart s) }] }]))

/-! ### The Logbook (Ch. 17) -/

/-- R475, R483, R484: LOG_SNAPSHOT answers the ring's ends; LOG_READ answers whole records, field by field, in order from the
sequence asked for, or from the oldest, one at least where one exists, and refuses a size or a sequence out of range; 100 ms after an action its ACTION_AFTER
record is written with new readings; and a Keeper traces its loops every second. -/
def Obligations.LogbookReadAndWritten : Prop :=
  (∀ (h : Hdr) (e : Session) (s u : State), u = touch h e.id s → (Served (logOp 0x70 h) h e s → deadlineMissed h s.now s.now = false →
      ∃ t, exec (.logSnapshot h) s = .next t ∧ Answers h .ok s.now (snapshotData u) s t ∧ ChangesOnly [.outbox, .regs, .vcp] s t
        ∧ RegsOnly [] s t)
    ∧ (∀ (src : BitVec 32) (max : BitVec 16), Served (logOp 0x71 h) h e s →
      let old := logOldest s
      let kept := s.log.ring.reverse.filter (fun r => !seqOlder r.seq (if seqOlder src old then old else src))
      let bad := max.toNat < 16 ∨ 8192 < max.toNat ∨ max.toNat % 8 ≠ 0 ∨ seqNewer src (logNewest s + 1) = true
      (bad → ∃ t, exec (.logRead h src max) s = .next t ∧ Answers h .badParam 0 [] s t ∧ ChangesOnly [.outbox, .regs, .vcp] s t ∧ RegsOnly [] s t)
      ∧ (¬ bad → deadlineMissed h s.now s.now = false →
        let got := takeRecords max.toNat true kept
        let first := if seqOlder src old then old else src
        ∃ t, exec (.logRead h src max) s = .next t ∧ (kept ≠ [] → got ≠ []) ∧ got <+: kept
          ∧ Answers h .ok s.now ([old.toNat, (logNewest s).toNat, ((got.getLast?.map (fun r => r.seq + 1)).getD first).toNat,
              (first - src).toNat, got.length] ++ (got.map recordData).flatten) s t
          ∧ t.log = s.log ∧ ChangesOnly [.outbox, .regs, .vcp] s t ∧ RegsOnly [] s t)))
  ∧ ∀ (s : State),
    (∃ t, exec .actionAfter s = .next t ∧ t.log.after = s.log.after.filter (fun d => decide (s.now < d.due))
        ∧ (isRelief s = true → t.log.ring = s.log.ring) ∧ ChangesOnly [.log, .outbox, .regs] s t ∧ RegsOnly [] s t)
    ∧ (∀ d, s.log.after = [d] → isRelief s = false → d.due ≤ s.now → d.body.readings.length ≤ 8 → s.log.premanQ = 0 →
      ∃ t r l, exec .actionAfter s = .next t ∧ t.log.ring = r :: l ∧ r.type = Log.actionAfter ∧ r.time = s.now
        ∧ r.body = .action { d.body with linkSeq := d.seq, leg := s.seqr.leg,
                                         readings := d.body.readings.map (fun x => (x.1, x.2.1, regNow { s with log := { s.log with after := [] } } x.1 x.2.1)) })
    ∧ (isKeeper s = true → s.plant.mode = .run → s.log.lastTrace + Config.sec ≤ s.now → s.log.premanQ = 0 →
      ∃ t r l, exec .loopTrace s = .next t ∧ t.log.ring = r :: l ∧ t.log.lastTrace = s.now ∧ r.type = Log.loopTrace ∧ r.time = s.now
        ∧ r.body = .words (traceBody s) ∧ ChangesOnly [.log, .outbox, .regs] s t ∧ RegsOnly [] s t)

/-! ### The pair (Ch. 9) -/

/-- R252 to R262, R273: Flash leaves every 250 µs and its loss is counted once; without it the deadman releases LAMP; an armed Relief claims
100 µs after the other LAMP fell and is the Keeper, with every mirrored cap granted again; the other LAMP clears the stage latch,
and makes a Keeper that released its own a Relief; of two that assert at once slot B backs off; and the role is decided by the
harness, the slot and the other LAMP. -/
def Obligations.FlashAndLamp : Prop :=
  ∀ (s : State),
    let p := s.pair
    let onlyPair := fun (q : Pair) (t : State) => t.pair = q ∧ ChangesOnly [.pair] s t
    let bit := fun (b : Nat) (t : State) =>
      t.reg U.sys Off.pairEvents = orBit (s.reg U.sys Off.pairEvents) b ∧ RegsOnly [(U.sys, Off.pairEvents)] s t
    (flashRuns s = true → p.lastFlash + 245 * Config.us ≤ s.now →
      ∃ t, exec .flashEmit s = .next t
        ∧ t.outbox = .flash { slot := p.slot, role := p.role, mode := s.plant.mode, leg := s.seqr.leg,
                              seq := BitVec.ofNat 16 ((p.flashSeq + 1) % 65536) } :: s.outbox
        ∧ t.pair = { p with lastFlash := s.now, flashSeq := (p.flashSeq + 1) % 65536 } ∧ ChangesOnly [.outbox, .pair] s t)
    ∧ (∀ m : FlashMsg, (∃ t, exec (.flashReceive true m) s = .next t ∧ onlyPair { p with flashPairAt := some s.now, missCounted := false } t)
        ∧ (m.slot ≠ p.slot → ∃ t, exec (.flashReceive false m) s = .next t
            ∧ onlyPair { p with flashChainAt := some s.now, missCounted := false, partnerRole := m.role, partnerLeg := m.leg } t)
        ∧ (m.slot = p.slot → exec (.flashReceive false m) s = .next s))
    ∧ (flashSilent s (300 * Config.us) = true → lastPartnerFlash s ≠ none → p.missCounted = false →
      ∃ t, exec .flashMiss s = .next t ∧ t.pair = { p with missCounted := true }
        ∧ t.reg U.sys Off.pairEvents = orBit (s.reg U.sys Off.pairEvents) 0
        ∧ t.fldOf U.sys Off.pairCount 15 0 = sat 0xFFFF (s.fldOf U.sys Off.pairCount 15 0 + 1)
        ∧ ChangesOnly [.pair, .regs] s t ∧ RegsOnly [(U.sys, Off.pairEvents), (U.sys, Off.pairCount)] s t)
    ∧ (∀ z, p.flashPairAt = some z → z + Config.ms ≤ s.now → flashSeen s p.flashChainAt = true →
      ∃ t, exec .flashPairLost s = .next t ∧ bit 5 t ∧ ChangesOnly [.regs] s t)
    ∧ (isRelief s = true → p.lampOther = true → flashSilent s Config.ms = true →
      ∃ t, exec .lampStuck s = .next t ∧ bit 10 t ∧ ChangesOnly [.outbox, .regs, .vcp] s t)
    ∧ (isKeeper s = true → ∃ t, exec .lockstepMismatch s = .next t ∧ t.power.step = 2 ∧ t.pair.role = .undecided
        ∧ t.pair.lampOwn = p.lampOwn ∧ t.pair.lastFlash = p.lastFlash ∧ t.pair.stages = p.stages ∧ t.vcp.sessions = [] ∧ t.bmu = s.bmu)
    ∧ (isKeeper s = false → ∃ t, exec .lockstepMismatch s = .next t ∧ onlyPair { p with flashOk := false } t)
    ∧ (p.lampOwn = true → p.lastFlash + 500 * Config.us ≤ s.now →
      ∃ t, exec .deadmanRelease s = .next t ∧ onlyPair { p with lampOwn := false } t)
    ∧ (p.lampOther = true → ∃ t, exec .lampReleaseSeen s = .next t ∧ onlyPair { p with lampOther := false, otherReleasedAt := s.now } t)
    ∧ (armed s = true → p.lampOther = false → p.otherReleasedAt + 100 * Config.us ≤ s.now → p.role = .reliefMirror →
      ∃ t, exec .claim s = .next t ∧ t.pair.role = .keeper ∧ t.pair.lampOwn = true ∧ t.pair.stages = true ∧ t.pair.claimedAt = some s.now
        ∧ t.bitAt U.sys Off.pairEvents 1 = true ∧ t.pair.arriving = plannedClaim s
        ∧ (∀ r, r < 16 → (t.rack r).cap = (s.rack r).cap ∧ (t.rack r).grantSeq = (s.rack r).grantSeq + 1)
        ∧ t.plant.mode = s.plant.mode ∧ t.vcp.accepted.length = s.vcp.accepted.length)
    ∧ (isKeeper s = false ∨ p.lampOwn = true →
      ∃ t, exec .stageLatchClear s = .next t ∧ onlyPair { p with lampOther := true, stages := false } t)
    ∧ (∀ h, p.handover = some h → h.released = true → isKeeper s = true → p.lampOwn = false →
      ∃ t, exec .stageLatchClear s = .next t
        ∧ onlyPair { p with lampOther := true, stages := false, handover := some { h with yielded := true } } t)
    ∧ (isKeeper s = true → p.lampOwn = false → (∀ h, p.handover = some h → h.released = false) →
      ∃ t, exec .stageLatchClear s = .next t ∧ t.pair.lampOther = true ∧ t.pair.stages = false ∧ t.pair.handover = none
        ∧ t.pair.role = (if p.idMatch = true then .reliefResync else .reliefCold)
        ∧ (∀ c, c < 6 → (t.bus c).pend = 0 ∧ (t.bus c).tec = 0) ∧ ChangesOnly [.buses, .log, .outbox, .pair, .regs, .vcp] s t)
    ∧ (p.lampOwn = true →
      ∃ t, exec .simultaneous s = .next t ∧ bit 4 t ∧ ChangesOnly [.buses, .pair, .regs] s t ∧ (p.slot = .a → t.buses = s.buses)
        ∧ t.pair = (match p.slot with
            | .a => { p with lampOther := true, stages := false }
            | .b => { p with lampOther := true, stages := false, lampOwn := false, role := .reliefResync, resync := .handshake,
                             handover := none, outputLoaded := false }))
    ∧ (p.slot = .a → p.lampOwn = true → ∃ t, exec .stageLatchSet s = .next t ∧ onlyPair { p with lampOther := false, stages := true } t)
    ∧ (∀ (other : Bool) slot, s.power.step = 4 → p.harnessClosed = false →
      ∃ t, exec (.roleDecision ⟨other, slot⟩) s = .next t ∧ t.pair.role = .barred ∧ t.pair.stages = false ∧ t.pair.slot = slot ∧ t.power.step = 5
        ∧ t.bitAt U.sys Off.hwEvents 6 = true ∧ ChangesOnly [.pair, .power, .regs] s t)
    ∧ (∀ (other : Bool) slot, s.power.step = 4 → p.harnessClosed = true →
        s.power.stepAt + (match slot with | .a => 2 | .b => 5) * Config.ms ≤ s.now →
      ∃ t, exec (.roleDecision ⟨other, slot⟩) s = .next t ∧ t.power.step = 5 ∧ t.pair.slot = slot ∧ t.regs = s.regs ∧ ChangesOnly [.pair, .power] s t
        ∧ t.pair.role = (if other = true then (if p.lampOwn = true then .barred else if p.idMatch = true then .reliefResync else .reliefCold)
                         else .keeper)
        ∧ (other = false → t.pair.lampOwn = true ∧ t.pair.stages = true))

/-- R254, R263 to R265, R274, R275, R305, R306: HANDOVER to a healthy Relief is accepted with the boundary it takes place at, and refused by the
first of its conditions that fails; READY in time keeps it and its absence abandons it; LAMP is released at its time; the Relief
reports its health every second; and a stage test is granted, judged and counted. -/
def Obligations.HandoverAndHealth : Prop :=
  (∀ (h : Hdr) (flags : BitVec 8) (at_ : BitVec 64) (e : Session) (s u : State), u = touch h e.id s → Served (opHandover h) h e s →
    (flags = 0 ∨ (flags = 1 ∧ hasCap e 2 = true)) →
    let b := boundaryFrom s (Nat.max at_.toNat (s.now + 2 * Config.ms))
    let refused := fun (st : Status) =>
      ∃ t, exec (.handover h flags at_) s = .next t ∧ Answers h st 0 [] s t ∧ ChangesOnly [.outbox, .regs, .vcp] s t ∧ RegsOnly [] s t
    let busy := s.pair.handover ≠ none ∨ s.pair.partnerRole = .reliefResync ∨ s.seqr.st = .restoring
    (keeperNow s = false → refused .notKeeper)
    ∧ (keeperNow s = true → flashSilent s Config.sec = true → refused .notPresent)
    ∧ (keeperNow s = true → flashSilent s Config.sec = false → busy → refused .busy)
    ∧ (keeperNow s = true → flashSilent s Config.sec = false → ¬ busy → s.pair.partnerRole = .reliefCold → flags = 0 → refused .denied)
    ∧ (keeperNow s = true → flashSilent s Config.sec = false → ¬ busy → s.pair.partnerRole ≠ .reliefCold → reliefHealthy s = false →
        refused .faulted)
    ∧ (keeperNow s = true → flashSilent s Config.sec = false → ¬ busy → s.pair.partnerRole = .reliefMirror → reliefHealthy s = true →
        Admits h e (b.1 + 250 * Config.us) u →
      ∃ t, exec (.handover h flags at_) s = .next t ∧ Answers h .accepted (b.1 + 250 * Config.us) [] s t ∧ Waits (originOf h e) t
        ∧ t.pair = { s.pair with
            handover := some { acceptedAt := s.now, th := b.1, leg := b.2, origin := some (originOf h e) }, selfHandover := false }
        ∧ ChangesOnly [.hall, .links, .outbox, .pair, .regs, .vcp] s t ∧ RegsOnly [] s t))
  ∧ ∀ (s : State),
    (∀ h, s.pair.handover = some h →
      (s.now + 250 * Config.us ≤ h.th → ∃ t, exec .handoverReady s = .next t
          ∧ t.pair = { s.pair with handover := some { h with ready := true } } ∧ ChangesOnly [.pair] s t)
      ∧ (h.ready = false → h.th ≤ s.now + 250 * Config.us →
        ∃ t, exec .handoverAbandon s = .next t ∧ t.pair = { s.pair with handover := none } ∧ t.bitAt U.sys Off.pairEvents 3 = true
          ∧ (∀ o, h.origin = some o → ∀ a ∈ t.vcp.accepted, isOrigin o a = false)
          ∧ ChangesOnly [.log, .outbox, .pair, .regs, .vcp] s t ∧ RegsOnly [(U.sys, Off.pairEvents)] s t)
      ∧ (s.pair.dropLamp = none → h.ready = true → h.released = false → h.th + 50 * Config.us ≤ s.now →
        ∃ t, exec .handoverLampRelease s = .next t
          ∧ t.pair = { s.pair with lampOwn := false, handover := some { h with released := true } } ∧ ChangesOnly [.pair] s t))
    ∧ (∀ leg th b, s.pair.offer = some (leg, th, b) → s.pair.handover = none → s.pair.role = .reliefMirror ∨ s.pair.role = .reliefCold →
        (∀ k ∈ [0, 1, 2, 5], (ownHealth s).flags.getLsbD k = true) → lastLegsClean s = true → s.now + 250 * Config.us ≤ th →
        linkTowards s toPartnerOrd ≠ none →
      ∃ t, exec .handoverReady s = .next t ∧ t.pair = { s.pair with offer := some (leg, th, true) }
        ∧ t.outbox = .service 0x11 toPartnerOrd [1, leg] :: s.outbox ∧ ChangesOnly [.hall, .links, .outbox, .pair] s t)
    ∧ (∀ z, s.pair.dropLamp = some z → frameOf z < s.now / Config.frameNs →
      ∃ t, exec .handoverLampRelease s = .next t ∧ t.pair = { s.pair with lampOwn := false, dropLamp := none } ∧ ChangesOnly [.pair] s t)
    ∧ (isRelief s = true ∨ s.pair.role = .barred → s.pair.lastReportAt + Config.sec ≤ s.now →
      ∃ t, exec .healthReportSend s = .next t ∧ t.outbox = .health (ownHealth s) :: s.outbox
        ∧ t.pair = { s.pair with reportSeq := s.pair.reportSeq + 1, lastReportAt := s.now, legsCompared := 0, legsMismatch := 0, legsLate := 0,
                                 stagesTested := 0, stagesFailed := 0 }
        ∧ ChangesOnly [.outbox, .pair] s t)
    ∧ (∀ r : HealthReport, isKeeper s = true →
      ∃ t, exec (.health r) s = .next t ∧ t.pair.health = some (r, s.now) ∧ t.pair.partnerRole = r.role ∧ t.pair.partnerId = some r.pairId
        ∧ t.pair.idMatch = decide (r.pairId = pairId s) ∧ t.pair.wasHealthy = reliefHealthy t
        ∧ ChangesOnly [.hall, .links, .outbox, .pair, .regs, .vcp] s t ∧ RegsOnly [(U.sys, Off.pairEvents)] s t)
    ∧ (isKeeper s = true → s.pair.wasHealthy = true → reliefHealthy s = false →
      ∃ t, exec .reliefUnhealthy s = .next t ∧ t.pair = { s.pair with wasHealthy := false } ∧ t.bitAt U.sys Off.pairEvents 9 = true
        ∧ ChangesOnly [.outbox, .pair, .regs, .vcp] s t ∧ RegsOnly [(U.sys, Off.pairEvents)] s t)
    ∧ (∀ c : Fin 96, isKeeper s = true → windowAllowed s c.val = true →
      ∃ t, exec (.testWindowRequest c) s = .next t ∧ t.valve c.val = { s.valve c.val with window := some (nextFrame s + Config.frameNs) }
        ∧ (∀ j, j ≠ c.val → t.valve j = s.valve j) ∧ ChangesOnly [.hall, .links, .outbox, .valves] s t)
    ∧ (∀ c : Fin 96, isKeeper s = false → stageTestDue s c.val = true → linkTowards s toPartnerOrd ≠ none →
      ∃ t, exec (.testWindowRequest c) s = .next t ∧ t.pair = { s.pair with testAsked := some c.val }
        ∧ t.outbox = .service 0x11 toPartnerOrd [2, c.val] :: s.outbox ∧ ChangesOnly [.hall, .links, .outbox, .pair] s t)
    ∧ (∀ c : Fin 96, isKeeper s = true → windowAllowed s c.val = false → exec (.testWindowRequest c) s = .next s)
    ∧ (∀ (c : Fin 96) (mA : Nat) f, (s.valve c.val).window = some f → f ≤ s.now → isRelief s = true → s.pair.testAsked = some c.val →
      let bad := mA < s.fldOf (U.vlv c.val) Off.vlvTestDip 31 24 * 10 ∨ s.fldOf (U.vlv c.val) Off.vlvTestDip 23 16 * 10 < mA
      (∃ t, exec (.stageTestPulse c mA true) s = .next t ∧ t.pair = { s.pair with testAsked := none }
          ∧ t.valve c.val = { s.valve c.val with window := none } ∧ (∀ j, j ≠ c.val → t.valve j = s.valve j) ∧ ChangesOnly [.pair, .valves] s t)
      ∧ (∃ t, exec (.stageTestPulse c mA false) s = .next t ∧ t.valve c.val = { s.valve c.val with testedAt := s.now, current := mA, window := none }
          ∧ t.pair.testAsked = none ∧ t.pair.stagesTested = s.pair.stagesTested + 1
          ∧ (bad → t.pair.stagesFailed = s.pair.stagesFailed + 1 ∧ t.bitAt (U.vlv c.val) Off.vlvEvents 9 = true)
          ∧ (¬ bad → t.pair.stagesFailed = s.pair.stagesFailed ∧ t.regs = s.regs)
          ∧ (∀ j, j ≠ c.val → t.valve j = s.valve j) ∧ ChangesOnly [.pair, .regs, .valves] s t))

/-- R116, R190, R204, R234, R266, R267, R289, R404: a Relief applies each item of the mirror where it belongs and a Keeper none; and a mirroring
Relief whose digest or plant event state differs leaves mirroring.
R276, R277: a resync goes through its phases in their order, ends in cold standby where the pair IDs differ, and joins from the shared
checkpoint with the Keeper's leg number; on the Keeper the join comes at the next leg boundary. -/
def Obligations.MirrorAndResync : Prop :=
  (∀ (s : State),
    (∀ item same, isKeeper s = true → exec (.mirror ⟨item, same⟩) s = .next s)
    ∧ (isRelief s = true →
      (∀ f l same, ∃ t, exec (.mirror ⟨.inputFrame f l, same⟩) s = .next t ∧ t.seqr = { s.seqr with inputs := l ++ s.seqr.inputs }
          ∧ (l.all (fun x => match x.2 with | .uplink _ => true | _ => false) = true → ChangesOnly [.seqr] s t))
      ∧ (∀ ch vs a b same, ∃ t, exec (.mirror ⟨.outputFrame ch vs a b, same⟩) s = .next t ∧ ChangesOnly [.pair] s t
          ∧ t.pair = { s.pair with holdRegs := ch, holdValves := vs, fwdSp0 := a, fwdSp1 := b, outputLoaded := true, outputAt := some s.now })
      ∧ (∀ id sid q (un : BitVec 16) tag c same, ∃ t, exec (.mirror ⟨.command id sid q un tag c, same⟩) s = .next t ∧ ChangesOnly [.vcp] s t
          ∧ t.vcp = { s.vcp with accepted := s.vcp.accepted ++ [{ origin := { identity := id, session := sid, sequence := q }, unit := un.toNat,
                                                                  tag := tag, committed := c, deck := false, inherited := true }] })
      ∧ (∀ id q st same, ∃ t, exec (.mirror ⟨.commandEnd id q st, same⟩) s = .next t ∧ ChangesOnly [.vcp] s t
          ∧ (∀ a ∈ t.vcp.accepted, isOrigin { identity := id, session := 0, sequence := q } a = false)
          ∧ t.vcp.sessions = s.vcp.sessions ∧ t.vcp.kept.length = s.vcp.kept.length)
      ∧ (∀ id q st c same, keptOf s id q = none → ∃ t, exec (.mirror ⟨.reply id q st c, same⟩) s = .next t ∧ ChangesOnly [.vcp] s t
          ∧ (∃ k, keptOf t id q = some k ∧ k.status = st ∧ k.committed = c) ∧ t.vcp.accepted = s.vcp.accepted)
      ∧ (∀ key m same, ∃ t, exec (.mirror ⟨.group key m, same⟩) s = .next t ∧ ChangesOnly [.vcp] s t ∧ mget 0 t.vcp.groups key = m)
      ∧ (∀ v same, ∃ t, exec (.mirror ⟨.envelope v, same⟩) s = .next t ∧ t.broker = { s.broker with envelope := v } ∧ ChangesOnly [.broker] s t)
      ∧ (∀ b same, ∃ t, exec (.mirror ⟨.band b, same⟩) s = .next t ∧ t.plant = { s.plant with bandsNext := s.plant.bandsNext ++ [(b, none)] }
          ∧ ChangesOnly [.plant] s t)
      ∧ (∀ v z same, ∃ t, exec (.mirror ⟨.datum v z, same⟩) s = .next t ∧ ChangesOnly [.integ] s t
          ∧ t.integ = { s.integ with datumNext := some (v, z), datumOrigin := none })
      ∧ (∀ w same, ∃ t, exec (.mirror ⟨.waiting w, same⟩) s = .next t ∧ t.broker = { s.broker with asks := w.caps }
          ∧ t.plant = { s.plant with modeAsks := w.modes, releaseAsks := w.releases }
          ∧ (∀ c, c < 96 → (t.valve c).cmd = (w.valves.find? (fun e => decide (e.1.val = c))).map (·.2))
          ∧ (∀ c, c < 48 → (t.motor c).cmd = (w.motors.find? (fun e => decide (e.1.val = c))).map (·.2))
          ∧ ChangesOnly [.broker, .motors, .plant, .valves] s t)
      ∧ (∀ leg same, ∃ t, exec (.mirror ⟨.restoreAt leg, same⟩) s = .next t ∧ t.pair = { s.pair with restoreAt := some leg } ∧ ChangesOnly [.pair] s t)
      ∧ (∀ i same, ∃ t, exec (.mirror ⟨.site i, same⟩) s = .next t ∧ t = writeSite i s)
      ∧ (∀ m q f fb co ar iso, ∃ t, exec (.mirror ⟨.mode m q f fb co ar iso, true⟩) s = .next t ∧ ChangesOnly [.plant] s t
          ∧ t.plant = { s.plant with mode := m, prevMode := q, forced := f, fbLoops := fb, commissioned := co, armed := ar, isolated := iso })
      ∧ (∀ r c, ∃ t, exec (.mirror ⟨.rack r c, true⟩) s = .next t ∧ ChangesOnly [.broker] s t
          ∧ t.rack r.val = rackFrom c (s.rack r.val) ∧ ∀ j, j ≠ r.val → t.rack j = s.rack j)
      ∧ (∀ act hl all pv n, ∃ t, exec (.mirror ⟨.plantEvents act hl all pv n, true⟩) s = .next t ∧ t.plant.safetyAll = all
          ∧ t.broker.sightings = n ∧ (∀ row ∈ allRows, (t.row row).active = act.elem row) ∧ (∀ l, l < 5 → (t.loop l).holders = hl.getD l [])
          ∧ t.broker.prov.map (fun e => e.act) = pv.map (fun e => e.1) ∧ ChangesOnly [.broker, .plant] s t)
      ∧ (∀ id rk z d l rp same, s.broker.previews.any (fun p => decide (p.id = id)) = false →
          ∃ t, exec (.mirror ⟨.preview id rk z d l rp, same⟩) s = .next t ∧ ChangesOnly [.broker] s t ∧ (∀ r, t.rack r = s.rack r)
            ∧ t.broker.previews = s.broker.previews ++ [{ id := id, racks := rk, start := z, duration := d, load := l, ramp := rp }])
      ∧ (∀ id same, ∃ t, exec (.mirror ⟨.previewCancel id, same⟩) s = .next t ∧ ChangesOnly [.broker] s t ∧ (∀ r, t.rack r = s.rack r)
          ∧ t.broker.previews = s.broker.previews.filter (fun p => decide (p.id ≠ id)))
      ∧ (∀ ty z len q b same, len ≤ 4088 → ∃ t r l, exec (.mirror ⟨.logRecord ty z len q b, same⟩) s = .next t ∧ t.log.ring = r :: l ∧ r.type = ty
          ∧ r.mirrored = true ∧ r.time = z ∧ r.length = len + 8
          ∧ r.body = .mirrored q (if s.pair.slot = .a then .b else .a) b ∧ ChangesOnly [.log, .outbox, .regs] s t ∧ RegsOnly [] s t)
      ∧ (∀ (un off : BitVec 16) v same, unitClass un.toNat = 1 → off.toNat < 0x1000 → ∃ t, exec (.mirror ⟨.register un off v, same⟩) s = .next t
          ∧ t.reg un.toNat off.toNat = v ∧ ChangesOnly [.regs, .service] s t ∧ RegsOnly [(un.toNat, off.toNat)] s t)
      ∧ (∀ d same, exec (.mirror ⟨.controllerDigest d d, same⟩) s = .next s)
      ∧ (∀ a b same, a ≠ b → s.pair.role = .reliefMirror → ∃ t, exec (.mirror ⟨.controllerDigest a b, same⟩) s = .next t
          ∧ t.pair.role = .reliefResync ∧ t.integ.sweep = true ∧ t.pair.legsMismatch = s.pair.legsMismatch + 1
          ∧ t.bitAt U.hub Off.intEvents 6 = true ∧ ChangesOnly [.integ, .log, .outbox, .pair, .regs, .vcp] s t)
      ∧ (∀ item, plantItem item = true → s.pair.role = .reliefMirror → ∃ t, exec (.mirror ⟨item, false⟩) s = .next t
          ∧ t.pair.role = .reliefResync ∧ t.integ.sweep = true ∧ t.bitAt U.hub Off.intEvents 6 = true
          ∧ t.plant = (mirrorItem item s).plant ∧ t.broker = (mirrorItem item s).broker)
      ∧ (∀ leg d ph bl rg same, s.pair.role ≠ .reliefMirror →
          let c : Ckpt := { state := 2, mirrorId := imageOr s (·.mirrorId), leg := leg, phase := ph, bodyLen := bl, digest := d, rings := rg.take 64 }
          ∃ t, exec (.mirror ⟨.checkpoint leg (imageOr s (·.mirrorId)) d ph bl rg, same⟩) s = .next t ∧ ChangesOnly [.pair, .seqr] s t
            ∧ t.seqr = (if s.seqr.lastB then { s.seqr with slotA := c, lastB := false } else { s.seqr with slotB := c, lastB := true }))
      ∧ (∀ leg mid d ph bl rg same, s.pair.role = .reliefMirror → exec (.mirror ⟨.checkpoint leg mid d ph bl rg, same⟩) s = .next s)))
  ∧ (∀ (s : State),
    (∀ (eq : Bool) moved (ok : Bool), resyncing s = true →
      ∃ t, exec (.resyncPhaseDone eq moved ok) s = .next t ∧ ChangesOnly [.pair, .seqr] s t
        ∧ (s.pair.resync = .idle → t.pair.resync = .handshake
            ∧ (isRelief s = true → s.seqr.st = .empty → bankVerified (activeBank (s.upd 2)) = true → t.seqr.st = .loading))
        ∧ (s.pair.resync ≠ .idle → t.seqr = s.seqr)
        ∧ (s.pair.resync = .handshake → t.pair.idMatch = eq ∧ t.pair.resync = (if eq = true then .bulk else .idle)
            ∧ (eq = false → isKeeper s = false → t.pair.role = .reliefCold))
        ∧ (s.pair.resync = .bulk → t.pair.resync = .delta ∧ t.pair.copied = s.pair.copied + moved)
        ∧ (s.pair.resync = .delta → t.pair.resync = if moved < 64 * 2 ^ 20 then .checkpoint else .delta)
        ∧ (s.pair.resync = .checkpoint → ok = true → t.pair.resync = .join ∧ t.pair.joinReady = true)
        ∧ (s.pair.resync = .checkpoint → ok = false → t = s) ∧ (s.pair.resync = .join → t = s))
    ∧ (∀ c, lastCkpt s = some c → isKeeper s = false → s.pair.role = .reliefResync → s.pair.joinReady = true →
      ∃ t, exec .resyncJoin s = .next t ∧ t.pair.role = .reliefMirror ∧ t.seqr.leg = s.pair.partnerLeg ∧ t.seqr.st = .restoring
        ∧ t.pair.joinReady = false ∧ t.bitAt U.sys Off.pairEvents 8 = true
        ∧ t.fldOf U.sys Off.pairCount 23 16 = sat 0xFF (s.fldOf U.sys Off.pairCount 23 16 + 1))
    ∧ (isKeeper s = true → s.pair.joinReady = true → s.pair.joinAt = none → imageOr s (·.modules) ≤ 1 →
      ∃ t, exec .resyncJoin s = .next t ∧ t.pair = { s.pair with joinReady := false, resync := .idle, joinAt := some (s.seqr.leg + 1) }
        ∧ ChangesOnly [.pair] s t))

/-! ### Writes of registers (Ch. 14 and the registers' chapters) -/

/-- R7, R8, R399, R407: a WRITE of none or more than 16 registers, of a read-only register, or with a reserved bit set is refused; a
write of 1s clears event bits and no other; a write of an RC register changes nothing; a value in its range is stored and one out of
it refused. A range is judged register by register, in order, each in the state the ones before it leave: all accepted, all take
effect, in that order; the first one refused is named in DETAIL and nothing is written. The site's configuration, for which the
manual names no register, is written in COMMISSION alone and refused where it breaks R12 or R14 (log entry 103, the model's form).
R8, R9, R409: WRITE_GROUP judges each member of the group or class as a WRITE of one register, in rising order, each in the state
the ones before it leave; those that accept take effect, and the reply counts both kinds: OK where all accept, else the status of the
first refusal with its instance (R8 against R409: log entry 104). An address without members is refused. One write to every Beacon
writes all sixteen. -/
def Obligations.RegistersWritten : Prop :=
  (∀ (h : Hdr) (e : Session) (s u : State), u = touch h e.id s → deadlineMissed h (nextFrame s) s.now = false →
    let done := fun (data : List Nat) (t : State) => Answers h .ok (nextFrame s) data s t
    let refused := fun (i : Instr) (st : Status) =>
      ∃ t, exec i s = .next t ∧ Answers h st 0 [] s t ∧ ChangesOnly [.outbox, .regs, .vcp] s t ∧ RegsOnly [] s t
    (∀ (off : BitVec 16) (vs : List Word), Served (writeOp h.unit.toNat off.toNat (Nat.min 16 vs.length)) h e s →
      (vs.length < 1 ∨ 16 < vs.length → refused (.registerWrite h off (.words vs)) .badParam)
      ∧ (1 ≤ vs.length → vs.length ≤ 16 → commandIn h.unit.toNat off.toNat vs.length = none →
          ¬(h.unit.toNat = U.cap ∧ off.toNat = Off.leakRelease) →
        let reg := fun (k : Nat) (a : State) =>
          judgeWrite { session := e, origin := originOf h e, unit := h.unit.toNat, off := off.toNat + 4 * k, value := vs.getD k 0 } a
        let upto := fun (n : Nat) => (List.range n).foldl (fun a k => after (reg k) a) u
        ((∀ k, k < vs.length → takesEffect (reg k (upto k)) = true) →
          ∃ t, exec (.registerWrite h off (.words vs)) s = .next t ∧ done [] t
            ∧ ChangesOnly [.outbox, .regs, .vcp] (upto vs.length) t ∧ RegsOnly [] (upto vs.length) t)
        ∧ (∀ k st, k < vs.length → (∀ j, j < k → takesEffect (reg j (upto j)) = true) → refusal (reg k (upto k)) = some st →
          ∃ t, exec (.registerWrite h off (.words vs)) s = .next t
            ∧ Sends (.reply h.version h.opcode h.session h.sequence h.unit.toNat st k 0 []) s t
            ∧ ChangesOnly [.outbox, .regs, .vcp] s t ∧ RegsOnly [] s t)))
    ∧ (∀ (off : BitVec 16) (v : Word) (r : RegRow), Served (writeOp h.unit.toNat off.toNat 1) h e s → findReg h.unit.toNat off.toNat = some r →
      unitClass h.unit.toNat ≠ 9 →
      (r.acc = .ro → refused (.registerWrite h off (.words [v])) .badAddress)
      ∧ (r.acc = .rc →
          ∃ t, exec (.registerWrite h off (.words [v])) s = .next t ∧ done [] t ∧ ChangesOnly [.outbox, .regs, .vcp] s t ∧ RegsOnly [] s t)
      ∧ (r.acc ≠ .ro → r.acc ≠ .rc → v &&& r.reserved ≠ 0 → refused (.registerWrite h off (.words [v])) .badParam)
      ∧ (r.acc = .w1c → v &&& r.reserved = 0 → unitClass h.unit.toNat ≠ 1 → unitClass h.unit.toNat ≠ 2 →
          (h.unit.toNat, off.toNat) ∉ reportRegs →
        ∃ t, exec (.registerWrite h off (.words [v])) s = .next t ∧ done [] t
          ∧ t.reg h.unit.toNat off.toNat = s.reg h.unit.toNat off.toNat &&& ~~~ v
          ∧ ChangesOnly [.outbox, .regs, .vcp] s t ∧ RegsOnly [(h.unit.toNat, off.toNat)] s t))
    ∧ (∀ (v : Word), h.unit.toNat = U.sys → Served (writeOp U.sys Off.sysModeCtrl 1) h e s →
      (∀ r, findReg U.sys Off.sysModeCtrl = some r → v &&& r.reserved = 0) →
      (100 ≤ fld v 31 16 → fld v 31 16 ≤ 10000 →
        ∃ t, exec (.registerWrite h (BitVec.ofNat 16 Off.sysModeCtrl) (.words [v])) s = .next t ∧ done [] t ∧ t.reg U.sys Off.sysModeCtrl = v
          ∧ ChangesOnly [.outbox, .regs, .vcp] s t ∧ RegsOnly [(U.sys, Off.sysModeCtrl)] s t)
      ∧ (fld v 31 16 < 100 ∨ 10000 < fld v 31 16 → refused (.registerWrite h (BitVec.ofNat 16 Off.sysModeCtrl) (.words [v])) .badParam))
    ∧ (∀ (off : BitVec 16) (i : SiteItem), Served (opSite h) h e s →
      (commissioning s = true → siteOk s i = true →
        ∃ t, exec (.registerWrite h off (.site i)) s = .next t ∧ done [] t
          ∧ (∀ set, i = .vfdPumps set → ∀ p, p < 8 → (t.pump p).vfd = set.getLsbD p)
          ∧ (∀ l, i = .sectors l → t.plant.sectors = l.length
              ∧ ∀ r k, r < 16 → k < l.length → inSet (l.getD k 0) r = true → Machine.sectorOf t r = k)
          ∧ (∀ j x, i = .processValue j x → t.plant.pvInputs = s.plant.pvInputs.set j.val x)
          ∧ (∀ r id, i = .rackIdentity r id → mget 0 t.plant.rackIdentity r.val = id)
          ∧ (∀ n on, i = .channelFive n on → t.plant.channelFive.getLsbD n.val = on)
          ∧ ChangesOnly [.outbox, .plant, .regs, .vcp] s t ∧ RegsOnly [] s t)
      ∧ (commissioning s = false → refused (.registerWrite h off (.site i)) .denied)
      ∧ (commissioning s = true → siteOk s i = false → refused (.registerWrite h off (.site i)) .badParam)))
  ∧ (∀ (h : Hdr) (off : BitVec 16) (v : Word) (e : Session) (s u : State), u = touch h e.id s → deadlineMissed h (nextFrame s) s.now = false →
    Served (opWriteGroup h off) h e s →
    let ms := groupMembers u h.unit.toNat
    let member := fun (k : Nat) (a : State) => judgeMember e (originOf h e) (ms.getD k 0) off.toNat v a
    let upto := fun (n : Nat) => (List.range n).foldl (fun a k => after (member k) a) u
    let bad := (List.range ms.length).filter (fun k => (refusal (member k (upto k))).isSome)
    (ms = [] → ∃ t, exec (.writeGroup h off v) s = .next t
      ∧ Answers h (if unitInst h.unit.toNat = 0xFFF then .notPresent else .badParam) 0 [] s t
      ∧ ChangesOnly [.outbox, .regs, .vcp] s t ∧ RegsOnly [] s t)
    ∧ (ms ≠ [] → (∀ k, k < ms.length → decidedNow (member k (upto k)) = true) →
      (bad = [] → ∃ t, exec (.writeGroup h off v) s = .next t ∧ Answers h .ok (nextFrame s) [ms.length, 0] s t
        ∧ ChangesOnly [.outbox, .regs, .vcp] (upto ms.length) t ∧ RegsOnly [] (upto ms.length) t)
      ∧ (∀ k l, bad = k :: l → ∀ st, refusal (member k (upto k)) = some st →
        ∃ t, exec (.writeGroup h off v) s = .next t
          ∧ Sends (.reply h.version h.opcode h.session h.sequence h.unit.toNat st (unitInst (ms.getD k 0)) 0
              [ms.length - bad.length, bad.length]) s t
          ∧ ChangesOnly [.outbox, .regs, .vcp] (upto ms.length) t ∧ RegsOnly [] (upto ms.length) t))
    ∧ (h.unit = 0x7FFF → off = BitVec.ofNat 16 Off.beaconCtrl → v.toNat ≤ 1 → inService s = true →
      ∃ t, exec (.writeGroup h off v) s = .next t ∧ Answers h .ok (nextFrame s) [16, 0] s t
        ∧ (∀ r, r < 16 → t.reg (U.beacon r) Off.beaconCtrl = v)
        ∧ ChangesOnly [.log, .outbox, .plant, .regs, .vcp] s t
        ∧ RegsOnly ((List.range 16).map (fun r => (U.beacon r, Off.beaconCtrl))) s t))

/-- R26, R73, R74, R117, R120, R295, R320, R326, R327, R332, R509: what the writes of one register of the plant do: the locate flag; a manual
output, refused while a reflex holds it; an analog demand; a manual Beacon; a restored pump; a released leak; a rack's rating and
floor, with its cap moved inside them; a calibration; and the ends of a valve trip, of spent restarts and of an encoder fault. -/
def Obligations.PlantRegistersWritten : Prop :=
  ∀ (h : Hdr) (v : Word) (e : Session) (s : State), deadlineMissed h (nextFrame s) s.now = false →
    let at_ := fun (u off : Nat) => h.unit.toNat = u ∧ Served (writeOp u off 1) h e s ∧ ∀ r, findReg u off = some r → v &&& r.reserved = 0
    let ok := fun (i : Instr) (t : State) => exec i s = .next t ∧ Answers h .ok (nextFrame s) [] s t
    let refused := fun (i : Instr) (st : Status) =>
      ∃ t, exec i s = .next t ∧ Answers h st 0 [] s t ∧ ChangesOnly [.outbox, .regs, .vcp] s t ∧ RegsOnly [] s t
    (at_ U.sys Off.hwPanel → ∃ t, ok (.hwPanelWrite h v) t ∧ t.bitAt U.sys Off.hwPanel 0 = bitOf v 0
        ∧ ChangesOnly [.outbox, .regs, .vcp] s t ∧ RegsOnly [(U.sys, Off.hwPanel)] s t)
    ∧ (∀ l, l < 5 → at_ (U.loop l) Off.loopOut → inService s = true → outOk s l (fld v 15 0) = true →
      ((s.loop l).holders = [] →
        ∃ t, ok (.loopOutWrite h v) t ∧ (t.loop l).manual = true ∧ (∀ j, j ≠ l → t.loop j = s.loop j)
          ∧ (∀ j, (t.loop j).out = (s.loop j).out) ∧ (l ≠ 4 → (t.loop l).target = fld v 15 0 * outUnit)
          ∧ (l = 2 → ∀ r, r < 16 → (t.rack r).target = fld v 15 0 * outUnit ∧ (t.rack r).pos = (s.rack r).pos)
          ∧ (l = 4 → ∀ p, p < 8 → pumpDuty t p = (fld v 15 0).testBit p)
          ∧ ChangesOnly [.broker, .log, .motors, .outbox, .plant, .regs, .vcp] s t)
      ∧ ((s.loop l).holders ≠ [] → refused (.loopOutWrite h v) .denied))
    ∧ (∀ i, i < 16 → at_ (U.ao i) Off.aoOut →
      (inService s = true → 3 < s.fldOf (U.ao i) Off.aoCfg 15 8 → fld v 15 0 ≤ 10000 →
        ∃ t, ok (.aoOutWrite h v) t ∧ t.analog i = { s.analog i with demand := fld v 15 0 } ∧ (∀ j, j ≠ i → t.analog j = s.analog j)
          ∧ ChangesOnly [.analogs, .log, .outbox, .regs, .vcp] s t ∧ RegsOnly [] s t)
      ∧ (inService s = false ∨ s.fldOf (U.ao i) Off.aoCfg 15 8 ≤ 3 → refused (.aoOutWrite h v) .denied))
    ∧ (∀ r, r < 16 → at_ (U.beacon r) Off.beaconCtrl →
      (inService s = true → ∃ t, ok (.beaconCtrlWrite h v) t ∧ t.reg (U.beacon r) Off.beaconCtrl = v
          ∧ ChangesOnly [.log, .outbox, .plant, .regs, .vcp] s t ∧ RegsOnly [(U.beacon r, Off.beaconCtrl)] s t)
      ∧ (inService s = false → refused (.beaconCtrlWrite h v) .denied))
    ∧ (∀ p, p = fld v 2 0 → at_ (U.loop 4) Off.loopPumpRestore → pumpPath s p = true → (s.pump p).tripped = true →
      (pathFaulted s p = false →
        ∃ t, ok (.loopPumpRestore h v) t ∧ (t.pump p).tripped = false
          ∧ (t.pump p).use = (if (reservePump s).isSome then .idle else .reserve) ∧ (∀ q, q ≠ p → t.pump q = s.pump q)
          ∧ ChangesOnly [.broker, .log, .outbox, .plant, .regs, .vcp] s t ∧ RegsOnly [] s t)
      ∧ (pathFaulted s p = true → refused (.loopPumpRestore h v) .denied))
    ∧ (at_ U.cap Off.leakRelease →
      ∃ t, exec (.leakRelease h v) s = .next t ∧ t.plant = { s.plant with releaseAsks := s.plant.releaseAsks ++ [(h, v)] }
        ∧ t.outbox = s.outbox ∧ ChangesOnly [.plant, .vcp] s t)
    ∧ (∀ r, r = fld v 3 0 → s.plant.releaseAsks = [(h, v)] →
        ServedLate (writeOp U.cap Off.leakRelease 1) h e { s with plant.releaseAsks := [] } → deadlineMissed h s.now s.now = false →
      (leakReleasable s r = true → Answers h .ok s.now [] s (judgeReleases s) ∧ ((judgeReleases s).rack r).stage = .clear
          ∧ ((judgeReleases s).rack r).leak = none ∧ inSet (judgeReleases s).plant.isolated r = false
          ∧ (∀ q ∈ isolationRoles r, ∀ c, c < 96 → vlvRole s c = q.1 → vlvIndex s c = q.2 → ((judgeReleases s).valve c).leakHeld = false)
          ∧ (∀ j, j ≠ r → ((judgeReleases s).rack j).stage = (s.rack j).stage ∧ ((judgeReleases s).rack j).cap = (s.rack j).cap))
      ∧ (leakReleasable s r = false → Answers h .denied 0 [] s (judgeReleases s)
          ∧ (judgeReleases s).plant = { s.plant with releaseAsks := [] } ∧ ChangesOnly [.outbox, .plant, .regs, .vcp] s (judgeReleases s)))
    ∧ (∀ rack : Fin 16, at_ U.cap (Off.capRackCfg + 0x20 * rack.val) → commissioning s = true → rackCfgOk s rack.val v = true →
      ∃ t, ok (.rackCfgWrite h rack v) t ∧ t.reg U.cap (Off.capRackCfg + 0x20 * rack.val) = v
        ∧ (t.rack rack.val).cap = capInside s rack.val v ∧ (∀ j, j ≠ rack.val → t.rack j = s.rack j)
        ∧ ChangesOnly [.broker, .free, .log, .outbox, .regs, .vcp] s t ∧ RegsOnly [(U.cap, Off.capRackCfg + 0x20 * rack.val)] s t)
    ∧ (∀ i, i < 64 → at_ (U.sns i) Off.snsCal → bitOf v 0 = true → fld v 31 16 = 0 ∨ 60 ≤ fld v 31 16 → between 1 8 (snsType s i) = true →
        (s.sense i).calQueued = none →
      ∃ t, ok (.calNow h v) t ∧ t.sense i = { s.sense i with calQueued := some s.now } ∧ t.reg (U.sns i) Off.snsCal = clrBit v 0
        ∧ (∀ j, j ≠ i → t.sense j = s.sense j) ∧ ChangesOnly [.outbox, .regs, .senses, .service, .vcp] s t ∧ RegsOnly [(U.sns i, Off.snsCal)] s t)
    ∧ (∀ i, i < 64 → at_ (U.sns i) Off.snsCal → bitOf v 0 = false ∨ between 1 8 (snsType s i) = false ∨ (s.sense i).calQueued.isSome = true →
        fld v 31 16 = 0 ∨ 60 ≤ fld v 31 16 →
      ∃ t, ok (.calNow h v) t ∧ t.reg (U.sns i) Off.snsCal = clrBit v 0
        ∧ ChangesOnly [.outbox, .regs, .service, .vcp] s t ∧ RegsOnly [(U.sns i, Off.snsCal)] s t)
    ∧ (∀ c, c < 96 → at_ (U.vlv c) Off.vlvEvents → bitOf v 0 = true ∨ bitOf v 8 = true →
      (inService s = true → ∃ t, ok (.tripClear h v) t ∧ t.valve c = { s.valve c with tripped := false }
          ∧ t.reg (U.vlv c) Off.vlvEvents = s.reg (U.vlv c) Off.vlvEvents &&& ~~~ v ∧ (∀ j, j ≠ c → t.valve j = s.valve j)
          ∧ ChangesOnly [.outbox, .regs, .valves, .vcp] s t ∧ RegsOnly [(U.vlv c, Off.vlvEvents)] s t)
      ∧ (inService s = false → refused (.tripClear h v) .denied))
    ∧ (∀ c, c < 48 → at_ (U.mot c) Off.motEvents → inService s = true →
      (bitOf v 7 = true → bitOf v 6 = false → (s.motor c).st = .faulted →
        ∃ t, ok (.restartsExhaustedClear h v) t ∧ (t.motor c).st = .stopped ∧ (t.motor c).failures = 0 ∧ (t.motor c).target = 0
          ∧ t.reg (U.mot c) Off.motEvents = s.reg (U.mot c) Off.motEvents &&& ~~~ v ∧ (∀ j, j ≠ c → t.motor j = s.motor j)
          ∧ ChangesOnly [.log, .motors, .outbox, .regs, .vcp] s t ∧ RegsOnly [(U.mot c, Off.motEvents)] s t)
      ∧ (bitOf v 6 = true → bitOf v 7 = false →
        ∃ t, ok (.encoderFaultClear h v) t ∧ t.motor c = { s.motor c with encFault := false, refValid := false, slipRun := 0 }
          ∧ t.reg (U.mot c) Off.motEvents = s.reg (U.mot c) Off.motEvents &&& ~~~ v ∧ (∀ j, j ≠ c → t.motor j = s.motor j)
          ∧ ChangesOnly [.log, .motors, .outbox, .regs, .vcp] s t ∧ RegsOnly [(U.mot c, Off.motEvents)] s t))

/-- R152, R251, R277, R330, R331, R364, R386, R422: what the writes of one register of the module's own units do: a die's retirement or
restoration waits for a placement change, in MAINTAIN alone; JOIN asks for the join when it is ready; RETRAIN and ENABLE move a
link the module does not need; bus-off recovery starts; an AUX pin changes function or level; INT_CTRL takes a valid program; and a
clear SERVICE_EN ends the service sessions, but not its own. -/
def Obligations.ModuleRegistersWritten : Prop :=
  ∀ (h : Hdr) (v : Word) (e : Session) (s : State), deadlineMissed h (nextFrame s) s.now = false →
    let at_ := fun (u off : Nat) (v : Word) => h.unit.toNat = u ∧ Served (writeOp u off 1) h e s ∧ ∀ r, findReg u off = some r → v &&& r.reserved = 0
    let ok := fun (i : Instr) (t : State) => exec i s = .next t ∧ Answers h .ok (nextFrame s) [] s t
    let refused := fun (i : Instr) (st : Status) =>
      ∃ t, exec i s = .next t ∧ Answers h st 0 [] s t ∧ ChangesOnly [.outbox, .regs, .vcp] s t ∧ RegsOnly [] s t
    (∀ i, i < 16 →
      (at_ (U.die i) Off.dieCtrl 1 →
        (s.plant.mode = .maintain → ∃ t, ok (.dieRetire h) t ∧ t.die i = { s.die i with retireReq := true }
            ∧ t.seqr = { s.seqr with placement := some s.seqr.leg } ∧ (∀ j, j ≠ i → t.die j = s.die j)
            ∧ ChangesOnly [.dies, .outbox, .regs, .seqr, .vcp] s t ∧ RegsOnly [] s t)
        ∧ (s.plant.mode ≠ .maintain → refused (.dieRetire h) .denied))
      ∧ (at_ (U.die i) Off.dieCtrl 2 → s.plant.mode = .maintain →
        ((s.die i).st = 3 → ∃ t, ok (.dieRestore h) t ∧ t.die i = { s.die i with restoreReq := true }
            ∧ t.seqr = { s.seqr with placement := some s.seqr.leg } ∧ (∀ j, j ≠ i → t.die j = s.die j)
            ∧ ChangesOnly [.dies, .outbox, .regs, .seqr, .vcp] s t ∧ RegsOnly [] s t)
        ∧ ((s.die i).st ≠ 3 → refused (.dieRestore h) .badParam)))
    ∧ (∀ i, 16 ≤ i → i < 25 → (at_ (U.die i) Off.dieCtrl 1 → refused (.dieRetire h) .badParam)
        ∧ (at_ (U.die i) Off.dieCtrl 2 → refused (.dieRestore h) .badParam))
    ∧ (at_ U.sys Off.pairCtrl v → 60 ≤ fld v 31 16 → bitOf v 2 = true →
      (s.pair.joinReady = true → isKeeper s = true → imageOr s (·.modules) ≤ 1 →
        ∃ t, ok (.join h v) t ∧ t.reg U.sys Off.pairCtrl = clrBit v 2
          ∧ t.pair = { s.pair with joinReady := false, resync := .idle, joinAt := some (s.seqr.leg + 1) }
          ∧ ChangesOnly [.outbox, .pair, .regs, .vcp] s t ∧ RegsOnly [(U.sys, Off.pairCtrl)] s t)
      ∧ (s.pair.joinReady = true → isKeeper s = false ∨ 1 < imageOr s (·.modules) →
        ∃ t, ok (.join h v) t ∧ t.reg U.sys Off.pairCtrl = clrBit v 2 ∧ t.pair.joinReady = false ∧ t.pair.resync = .idle
          ∧ t.pair.joinAt = s.pair.joinAt ∧ ChangesOnly [.hall, .links, .outbox, .pair, .regs, .seqr, .vcp] s t)
      ∧ (s.pair.joinReady = false → refused (.join h v) .denied))
    ∧ (∀ l, l < 32 → at_ (U.link l) Off.linkCtrl v → s.bitAt (U.link l) Off.linkCtrl 0 = true → linkAlive s l = true →
      let others := fun (t : State) => ∀ j, (t.link j).st = if j = l then (t.link l).st else (s.link j).st
      (linkNeeded s l = false → bitOf v 0 = true → bitOf v 1 = true → ∃ t, ok (.linkRetrain h v) t ∧ (t.link l).st = .training ∧ others t
          ∧ t.bitAt (U.link l) Off.linkEvents 0 = true)
      ∧ (linkNeeded s l = false → bitOf v 0 = false → ∃ t, ok (.linkEnable h v) t ∧ (t.link l).st = .disabled ∧ others t
          ∧ t.bitAt (U.link l) Off.linkCtrl 0 = false)
      ∧ (linkNeeded s l = true → bitOf v 0 = true → bitOf v 1 = true → refused (.linkRetrain h v) .denied)
      ∧ (linkNeeded s l = true → bitOf v 0 = false → refused (.linkEnable h v) .denied))
    ∧ (∀ c, c < 6 → at_ (U.bl c) Off.blRecover v →
      ∃ t, ok (.blRecover h v) t ∧ (bitOf v 0 = true → (s.bus c).st = .busOff → t.bus c = { s.bus c with recovering := true })
        ∧ (bitOf v 0 = false ∨ (s.bus c).st ≠ .busOff → t.bus c = s.bus c) ∧ (∀ j, j ≠ c → t.bus j = s.bus j)
        ∧ ChangesOnly [.buses, .outbox, .regs, .vcp] s t ∧ RegsOnly [] s t)
    ∧ (∀ p, p < 16 → at_ (U.aux p) Off.auxCfg v →
      ((s.aux p).switching = none → auxOffers p (fld v 3 0) = true → fld v 3 0 ≠ (s.aux p).func →
        ∃ t, ok (.auxCfgWrite h v) t ∧ t.aux p = { s.aux p with switching := some (s.now, fld v 3 0, bitOf v 4) }
          ∧ t.reg (U.aux p) Off.auxCfg = v ∧ (∀ j, j ≠ p → t.aux j = s.aux j)
          ∧ ChangesOnly [.auxs, .outbox, .regs, .vcp] s t ∧ RegsOnly [(U.aux p, Off.auxCfg)] s t)
      ∧ ((s.aux p).switching ≠ none → refused (.auxCfgWrite h v) .busy)
      ∧ ((s.aux p).switching = none → auxOffers p (fld v 3 0) = false → refused (.auxCfgWrite h v) .badParam))
    ∧ (∀ p level, p < 16 → at_ (U.aux p) Off.auxCfg (wd (2 + 16 * b2n level)) → (s.aux p).switching = none → (s.aux p).func = 2 →
        (s.aux p).outLevel = !level →
      ∃ t, ok (.auxOutLevel h level) t ∧ t.aux p = { s.aux p with outLevel := level, level := level } ∧ Sends (.pin (fin16 p) level) s t
        ∧ (∀ j, j ≠ p → t.aux j = s.aux j) ∧ ChangesOnly [.auxs, .outbox, .regs, .vcp] s t ∧ RegsOnly [(U.aux p, Off.auxCfg)] s t)
    ∧ (at_ U.hub Off.intCtrl v → bitOf v 2 = true → bitOf v 0 = s.bitAt U.hub Off.intCtrl 0 → bitOf v 0 = false →
        1 ≤ fld v 23 16 → 6 ≤ fld v 15 8 → fld v 15 8 ≤ 60 →
      ∃ t, ok (.intCtrlWrite h v) t ∧ t.reg U.hub Off.intCtrl = v
        ∧ t.integ = { s.integ with since := if s.bitAt U.hub Off.intCtrl 2 then s.integ.since else s.now }
        ∧ ChangesOnly [.integ, .outbox, .regs, .vcp] s t ∧ RegsOnly [(U.hub, Off.intCtrl)] s t)
    ∧ (at_ U.hub Off.intCtrl v → bitOf v 2 = false → s.plant.mode ≠ .maintain → refused (.intCtrlWrite h v) .denied)
    ∧ (at_ U.sys Off.vcpCtrl v → bitOf v 0 = false →
      (e.port ≠ .service → 5 ≤ fld v 31 16 → fld v 31 16 ≤ 600 → s.bitAt U.sys Off.vcpCtrl 0 = true →
        ∃ t, ok (.serviceEnClear h v) t ∧ t.reg U.sys Off.vcpCtrl = v ∧ (∀ x ∈ t.vcp.sessions, x.port ≠ .service)
          ∧ ChangesOnly [.log, .outbox, .regs, .upds, .vcp] s t ∧ RegsOnly [(U.sys, Off.vcpCtrl)] s t)
      ∧ (e.port = .service → refused (.serviceEnClear h v) .denied))

/-! ### Chain links and the hall (Ch. 12) -/

/-- R341 to R343, R346 to R348, R353: a link trains in its steps, each within its time, and is UP once both ends are LOCKED; a module that is not the
root aligns its hall count on its first reference link and from then on checks it; and 10 ms without a reference end LOCKED. What a check of the
count may stop is stopped at the boundary four legs on (the model's reading, log entry 32). -/
def Obligations.LinksTrain : Prop :=
  ∀ (l : Fin 32) (s : State),
    let c := l.val
    let k := s.link c
    let others : State → Prop := fun t => ∀ j, j ≠ c → t.link j = s.link j
    let bit := fun (b : Nat) (t : State) =>
      t.reg (U.link c) Off.linkEvents = orBit (s.reg (U.link c) Off.linkEvents) b ∧ RegsOnly [(U.link c, Off.linkEvents)] s t
    (k.st = .down → s.bitAt (U.link c) Off.linkCtrl 0 = true →
      ∃ t, exec (.linkSignal l) s = .next t ∧ t.link c = { k with st := .training, since := s.now, peerLocked := false, mismatch := false }
        ∧ others t ∧ ChangesOnly [.links] s t)
    ∧ (∀ kind length power, k.st = .training → s.now ≤ k.since + 200 * Config.ms →
      (¬ (kind = 1 ∧ 2 < length) → ∃ t, exec (.codewordLock l kind length power) s = .next t
          ∧ t.link c = { k with st := .aligning, cableKind := kind, cableLen := length, cablePower := power } ∧ others t ∧ ChangesOnly [.links] s t)
      ∧ (kind = 1 → 2 < length → ∃ t, exec (.codewordLock l kind length power) s = .next t
          ∧ t.link c = { k with st := .backoff, since := s.now, cableKind := kind, cableLen := length, cablePower := power }
          ∧ bit 9 t ∧ others t ∧ ChangesOnly [.links, .regs] s t))
    ∧ ((k.st = .training ∧ k.since + 200 * Config.ms < s.now)
        ∨ (k.st = .aligning ∧ ((bothLocked s c = false ∧ k.since + 340 * Config.ms < s.now) ∨ k.since + 400 * Config.ms < s.now)) →
      ∃ t, exec (.linkTrainTimeout l) s = .next t ∧ t.link c = { k with st := .backoff, since := s.now, failures := k.failures + 1 }
        ∧ bit 0 t ∧ others t ∧ ChangesOnly [.links, .regs] s t)
    ∧ (k.st = .backoff → k.since + Config.sec ≤ s.now → cableBad k = false →
      ∃ t, exec (.linkBackoffEnd l) s = .next t ∧ others t ∧ ChangesOnly [.links] s t
        ∧ t.link c = { k with st := if s.bitAt (U.link c) Off.linkCtrl 0 then .training else .disabled, since := s.now,
                              peerLocked := false, mismatch := false })
    ∧ (∀ delay, k.st = .aligning → bothLocked s c = true →
      ∃ t, exec (.linkUp l delay) s = .next t ∧ (t.link c).st = .up ∧ (t.link c).upSince = s.now ∧ (t.link c).delay = some delay
        ∧ t.bitAt (U.link c) Off.linkEvents 1 = true ∧ (∀ j, j ≠ c → (t.link j).st = (s.link j).st)
        ∧ (partnerLinks s ≠ 0 → t.pair = s.pair)
        ∧ (c < 4 → k.mismatch = false → k.peerSlot ≠ s.pair.slot → k.peerLink = c → partnerLinks s = 0 → s.pair.role = .reliefMirror → t.pair.role = .reliefResync)
        ∧ (latencyHigh s c = false → (∀ i, s.seqr.image = some i → ∀ e, ownHallLinks s i = [e] → s.hall.running = true → e.link = c →
            (t.link c).pad = e.lat - trained t c))
        ∧ ChangesOnly [.hall, .links, .outbox, .pair, .regs, .vcp] s t
        ∧ RegsOnly [(U.link c, Off.linkEvents), (U.sys, Off.hallEvents)] s t)
    ∧ (∀ n arrival echo age, isRoot s = false → mayAlignOn s c = true →
      let d := countFrom n arrival echo age - (arrival : Int)
      let lim : Int := pllPerArray s.seqr.clock
      ∃ t, exec (.linkLocked l n arrival echo age) s = .next t ∧ t.hall.locked = true ∧ t.hall.refLink = some c ∧ t.hall.lostAt = none
        ∧ t.hall.depth = Nat.min 15 (k.peerDepth + 1) ∧ (s.hall.refLink ≠ some c → t.bitAt U.sys Off.hallEvents 0 = true)
        ∧ (s.hall.counted = false → t.hall.counted = true ∧ t.hall.offset = s.hall.offset + d ∧ t.seqr = s.seqr)
        ∧ (s.hall.counted = true → t.hall.offset = s.hall.offset
            ∧ ((lim < d ∨ d < -lim) → t.bitAt U.sys Off.hallEvents 2 = true ∧ (s.hall.running = true → t.seqr = { s.seqr with hallStop := some (s.seqr.leg + 4), hallFault := true }))
            ∧ (¬ (lim < d ∨ d < -lim) → t.seqr = s.seqr))
        ∧ ChangesOnly [.hall, .links, .outbox, .regs, .seqr] s t ∧ RegsOnly [(U.sys, Off.hallEvents)] s t)
    ∧ (∀ z, s.hall.lostAt = some z → z + 10 * Config.ms ≤ s.now → isRoot s = false → chooseRef s = none →
      ∃ t, exec .unlocked s = .next t ∧ t.hall.locked = false ∧ t.hall.depth = 15 ∧ t.hall.lostAt = none ∧ t.hall.offset = s.hall.offset
        ∧ t.reg U.sys Off.hallEvents = orBit (s.reg U.sys Off.hallEvents) 1
        ∧ t.seqr = (if s.hall.running = true then { s.seqr with hallStop := some (s.seqr.leg + 4), hallFault := true } else s.seqr)
        ∧ (s.hall.running = false → ChangesOnly [.hall, .regs] s t)
        ∧ ChangesOnly [.hall, .links, .outbox, .regs, .seqr] s t ∧ RegsOnly [(U.sys, Off.hallEvents)] s t)

/-- R338, R339, R344, R345, R347, R349, R358, Tables 12-5 and 12-9: what a link does with a block, a late beat, a message not acknowledged and a
threshold: a failed block is counted and the eighth within 1 ms takes the link down, a good one gives the peer's identity; the second LATE
block within 1 s, the eighth resend in vain, a lost lock or a ratio of errors take it down, and with it what hangs on it. -/
def Obligations.LinkTraffic : Prop :=
  ∀ (l : Fin 32) (s : State),
    let c := l.val
    let k := s.link c
    let others : State → Prop := fun t => ∀ j, j ≠ c → t.link j = s.link j
    let fallen : LinkSt := if s.bitAt (U.link c) Off.linkCtrl 0 then .backoff else .disabled
    let falls := fun (st : LinkSt) (counts : List (Nat × Nat)) (t : State) =>
      (t.link c).st = st ∧ (t.link c).since = s.now ∧ t.bitAt (U.link c) Off.linkEvents 0 = true
        ∧ (k.st = .up → (t.link c).unacked = [] ∧ (s.hall.refLink = some c → isRoot s = false → t.hall.refLink ≠ some c))
        ∧ (∀ j, j ≠ c → (t.link j).st = (s.link j).st)
        ∧ ChangesOnly [.copies, .free, .hall, .links, .outbox, .pair, .regs, .seqr, .vcp] s t
        ∧ RegsOnly (counts ++ [(U.link c, Off.linkEvents), (U.sys, Off.hallEvents), (U.sys, Off.pairEvents), (U.hub, Off.ceEvents)]) s t
    (linkAlive s c = true →
      (∀ why : LinkCause, why ≠ .noSignal → why ≠ .retrain →
        ∃ t, exec (.linkDown l why) s = .next t ∧ falls fallen [] t
          ∧ (why = .badBurst → t.bitAt (U.link c) Off.linkEvents 5 = true) ∧ (why = .svcTimeout → t.bitAt (U.link c) Off.linkEvents 8 = true))
      ∧ (∃ t, exec (.linkDown l .retrain) s = .next t
          ∧ falls (if s.bitAt (U.link c) Off.linkCtrl 0 then .training else .disabled) [] t)
      ∧ (∃ t, exec (.linkDown l .noSignal) s = .next t ∧ falls (if s.bitAt (U.link c) Off.linkCtrl 0 then .down else .disabled) [] t
          ∧ (t.link c).cableKind = 0 ∧ (t.link c).cableLen = 0 ∧ (t.link c).cablePower = 0))
    ∧ (∀ ser, ∃ t, exec (.linkDegraded l ser) s = .next t ∧ t.link c = { k with ser := ser } ∧ others t
        ∧ t.reg (U.link c) Off.linkEvents =
            (if k.st = .up ∧ 10000000 < ser then orBit (s.reg (U.link c) Off.linkEvents) 4 else s.reg (U.link c) Off.linkEvents)
        ∧ ChangesOnly [.links, .outbox, .regs, .vcp] s t ∧ RegsOnly [(U.link c, Off.linkEvents)] s t)
    ∧ (k.st = .up →
      ∃ t, exec (.beatLate l) s = .next t ∧ t.bitAt (U.link c) Off.linkEvents 7 = true
        ∧ t.fldOf (U.link c) Off.linkSvc 15 0 = sat 0xFFFF (s.fldOf (U.link c) Off.linkSvc 15 0 + 1)
        ∧ ((∃ z ∈ k.lateTimes, s.now ≤ z + Config.sec) → falls fallen [(U.link c, Off.linkSvc)] t)
        ∧ ((∀ z ∈ k.lateTimes, z + Config.sec < s.now) → t.link c = { k with lateTimes := [s.now] } ∧ others t
            ∧ ChangesOnly [.links, .regs, .seqr] s t ∧ RegsOnly [(U.link c, Off.linkEvents), (U.link c, Off.linkSvc)] s t)
        ∧ (∀ r ∈ t.seqr.legs, r.leg = s.seqr.leg → r.dropped = false → r.fail.getLsbD 5 = true))
    ∧ (∀ b : LinkBlockIn, linkAlive s c = true → b.crcOk = false ∨ b.decoded = false →
      let recent := k.badTimes.filter (fun z => decide (s.now ≤ z + Config.ms))
      ∃ t, exec (.linkBlock l b) s = .next t
        ∧ t.fldOf (U.link c) Off.linkBad 31 16 = (let n := s.fldOf (U.link c) Off.linkBad 31 16; if b.decoded then n else sat 0xFFFF (n + 1))
        ∧ t.fldOf (U.link c) Off.linkBad 15 0 = (let n := s.fldOf (U.link c) Off.linkBad 15 0; if b.crcOk then n else sat 0xFFFF (n + 1))
        ∧ t.fldOf (U.link c) Off.linkCw 31 0 = sat 0xFFFFFFFF (s.fldOf (U.link c) Off.linkCw 31 0 + b.corrected)
        ∧ (recent.length < 7 → t.link c = { k with badTimes := s.now :: recent } ∧ others t
            ∧ ChangesOnly (if b.scheduled then [.links, .regs, .seqr] else [.links, .regs]) s t
            ∧ RegsOnly [(U.link c, Off.linkBad), (U.link c, Off.linkCw)] s t)
        ∧ (b.scheduled = true → ∀ r ∈ t.seqr.legs, r.leg = s.seqr.leg → r.dropped = false → r.fail.getLsbD 5 = true)
        ∧ (7 ≤ recent.length → t.bitAt (U.link c) Off.linkEvents 5 = true
            ∧ falls fallen [(U.link c, Off.linkBad), (U.link c, Off.linkCw)] t))
    ∧ (∀ b : LinkBlockIn, linkAlive s c = true → b.crcOk = true → b.decoded = true →
      let d := countFrom b.hallCount (hallCount s) b.echoCount b.echoAge - (hallCount s : Int)
      let lim : Int := pllPerArray s.seqr.clock
      ∃ t, exec (.linkBlock l b) s = .next t ∧ (t.link c).st = k.st
        ∧ (b.poison = true → t.bitAt (U.link c) Off.linkEvents 6 = true)
        ∧ (b.forwarded = false → (t.link c).peerOrd = b.peerOrd ∧ (t.link c).peerLink = b.peerLink ∧ (t.link c).peerSlot = b.peerSlot
            ∧ (t.link c).peerDepth = b.peerDepth ∧ (t.link c).peerLocked = b.peerLocked ∧ (t.link c).credits = b.credits)
        ∧ (b.forwarded = false → isPartnerLink s c = true → b.peerLink ≠ c ∨ b.peerSlot = s.pair.slot →
            (t.link c).mismatch = true ∧ t.bitAt (U.link c) Off.linkEvents 3 = true)
        ∧ (isRoot s = false → s.hall.refLink = some c → s.hall.counted = true → b.forwarded = false → lim < d ∨ d < -lim →
            t.bitAt U.sys Off.hallEvents 2 = true ∧ (s.hall.running = true → t.seqr.hallStop = some (s.seqr.leg + 4) ∧ t.seqr.hallFault = true))
        ∧ (∀ f, b.service = .flash f → isPartnerLink s c = true → f.slot ≠ s.pair.slot →
            t.pair.flashChainAt = some s.now ∧ t.pair.partnerRole = f.role ∧ t.pair.partnerLeg = f.leg)
        ∧ (b.service = .idle → t.pair = s.pair)
        ∧ (∀ first data, b.service = .fragment first false data →
            (t.link c).partial_ = (if first then data else k.partial_ ++ data) ∧ t.pair = s.pair)
        ∧ (∀ first data, b.service = .fragment first true data → (t.link c).partial_ = []
            ∧ ∀ m, messageOf (if first then data else k.partial_ ++ data) = some m → m.dstOrd = s.fldOf U.sys Off.hallCfg 3 0 →
              (t.link c).unacked.filter (fun u => decide (u.seq ≤ m.ackSeq.toNat)) = [] ∧ (m.reliable = true → (t.link c).ackDue ≠ none)
              ∧ (t.link c).seenIds = (if k.seenIds.elem (m.srcOrd, m.msgId.toNat) then k.seenIds else (m.srcOrd, m.msgId.toNat) :: k.seenIds))
        ∧ (∀ j, s.bitAt U.sys Off.hallCfg 8 = true → b.scheduled = true → b.forwarded = false → 4 ≤ c → lowestPartner s = some j →
            Sends (.forwarded j c b.hallCount) s t)
        ∧ ChangesOnly [.hall, .links, .outbox, .pair, .regs, .seqr] s t
        ∧ RegsOnly [(U.link c, Off.linkCw), (U.link c, Off.linkEvents), (U.sys, Off.hallEvents)] s t)
    ∧ (∀ b, linkAlive s c = false → exec (.linkBlock l b) s = .next s)
    ∧ (∀ m rest, k.unacked = m :: rest → m.sentAt + 20 * Config.us ≤ s.now →
      (m.resends < 8 → ∃ t, exec (.serviceRetransmit l) s = .next t
          ∧ t.link c = { k with unacked := { m with resends := m.resends + 1, sentAt := s.now } :: rest } ∧ others t
          ∧ t.outbox = .service m.type m.dst m.payload :: s.outbox
          ∧ t.fldOf (U.link c) Off.linkSvc 31 16 = sat 0xFFFF (s.fldOf (U.link c) Off.linkSvc 31 16 + 1)
          ∧ ChangesOnly [.links, .outbox, .regs] s t ∧ RegsOnly [(U.link c, Off.linkSvc)] s t)
      ∧ (8 ≤ m.resends → ∃ t, exec (.serviceRetransmit l) s = .next t ∧ t.bitAt (U.link c) Off.linkEvents 8 = true ∧ falls fallen [] t))
    ∧ (∀ z, k.ackDue = some z → z ≤ s.now →
      ∃ t, exec (.ack l) s = .next t ∧ t.link c = { k with ackDue := none } ∧ others t
        ∧ t.outbox = .service 0x30 k.peerOrd [k.rxSeq] :: s.outbox ∧ ChangesOnly [.links, .outbox] s t)

/-- R215, R216, R353, R357, R360, R361: the hall messages name a boundary or change the interval register as ordinal 0 says; a report of a link down
makes ordinal 0 name the lowest route set that avoids it, or the stop of the hall; a better set is named when all its links are back; and a bulk session is
granted, refused, opened or closed, its refusal ending the descriptor that asked. Boundaries lie four legs on (the model's reading, log
entries 31 and 32). -/
def Obligations.HallAndBulk : Prop :=
  ∀ (s : State),
    let set := fun (q : Seqr) (t : State) => t.seqr = q ∧ ChangesOnly [.seqr] s t
    let root := isRoot s
    (∀ v, exec (.hallCtrl (.intervals v)) s = .next (if s.fldOf U.sys Off.hallCfg 3 0 = 0 then s else s.setReg U.hub Off.trvCtrl v))
    ∧ (∀ r leg, ∃ t, exec (.hallCtrl (.routeSet r leg)) s = .next t ∧ set { s.seqr with hallRoute := some (leg, r.val) } t)
    ∧ (∀ leg f, ∃ t, exec (.hallCtrl (.stopAt leg f)) s = .next t
        ∧ t.seqr = { s.seqr with hallStop := some leg, hallFault := s.seqr.hallFault || f }
        ∧ (root = false → ChangesOnly [.seqr] s t) ∧ ChangesOnly [.hall, .links, .outbox, .seqr] s t)
    ∧ (∀ leg n, ∃ t, exec (.hallCtrl (.restoreAt leg n)) s = .next t ∧ set { s.seqr with hallRestore := some (leg, n) } t)
    ∧ (∀ ord l up, root = false → exec (.hallCtrl (.linkReport ord l up)) s = .next s ∧ exec (.hallCtrl (.claimReport ord)) s = .next s)
    ∧ (∀ ord l (up : Bool), root = true →
      let rest := s.hall.downLinks.filter (fun d => !(decide (d.1 = ord) && decide (d.2 = l)))
      let s1 := { s with hall.downLinks := if up then rest else rest ++ [(ord, l)] }
      ∃ t, exec (.hallCtrl (.linkReport ord l up)) s = .next t ∧ t.hall.downLinks = s1.hall.downLinks
        ∧ ((ord, l) ∈ t.hall.downLinks ↔ up = false)
        ∧ (up = true → ChangesOnly [.hall] s t)
        ∧ (∀ i, s.seqr.image = some i → up = false → s.hall.running = true →
            (i.hall.any (fun h => h.routeSets.getLsbD s.seqr.routeSet && reportedDown s1 h)) = true →
            (∀ n, n < 4 → routeHolds s1 i n = true → (∀ j, j < n → routeHolds s1 i j = false) →
              t.seqr = { s.seqr with hallRoute := some (s.seqr.leg + 4, n) })
            ∧ ((∀ n, n < 4 → routeHolds s1 i n = false) → t.seqr = { s.seqr with hallStop := some (s.seqr.leg + 4), hallFault := true }))
        ∧ ChangesOnly [.hall, .links, .outbox, .seqr] s t)
    ∧ (∀ ord n, root = true → lastCkpt s = some n →
      ∃ t, exec (.hallCtrl (.claimReport ord)) s = .next t ∧ t.seqr = { s.seqr with hallRestore := some (s.seqr.leg + 4, n.leg) }
        ∧ ChangesOnly [.hall, .links, .outbox, .seqr] s t)
    ∧ (∀ (r : Fin 4) (i : Image), s.seqr.image = some i → root = true → s.hall.running = true → r.val < s.seqr.routeSet →
        routeHolds s i r.val = true → s.seqr.hallRoute = none →
        (∀ e ∈ ownHallLinks s i, e.sets.getLsbD r.val = true → hallLinkUp s e = true ∧ (s.link e.link).upSince + 10 * Config.sec ≤ s.now) →
      ∃ t, exec (.routeReturn r) s = .next t ∧ t.seqr = { s.seqr with hallRoute := some (s.seqr.leg + 4, r.val) }
        ∧ ChangesOnly [.hall, .links, .outbox, .seqr] s t)
    ∧ (∀ r, s.seqr.hallRoute ≠ none → exec (.routeReturn r) s = .next s)
    ∧ (∀ (ord : Nat) (session : BitVec 16) (bytes dst deliverBy : Nat),
      let held := s.hall.bulks.filter (fun b => decide (b.ord = ord))
      let st := bulkAnswer s ord bytes dst deliverBy
      ∃ t, exec (.bulkOpen ord session bytes dst deliverBy) s = .next t
        ∧ (linkTowards s ord ≠ none → Sends (.service 0x21 ord [session.toNat, statusCode st]) s t)
        ∧ ((∃ b ∈ held, b.open_ = true) → st = .busy)
        ∧ ((∀ b ∈ held, b.open_ = false) → (∃ b ∈ held, b.opener = true) → lowerThan s ord = true → st = .yield)
        ∧ t.hall.bulks = (if st = .ok then s.hall.bulks ++ [{ ord := ord, session := session, bytes := bytes, opener := false, open_ := true }]
                          else s.hall.bulks)
        ∧ ChangesOnly [.hall, .links, .outbox] s t)
    ∧ (∀ (ord : Nat) (session : BitVec 16),
      let mine := fun (b : Bulk) => b.opener && !b.open_ && decide (b.ord = ord) && decide (b.session = session)
      (s.hall.bulks.any mine = true →
        (∃ t, exec (.bulkReply ord session .ok) s = .next t
          ∧ t.hall = { s.hall with bulks := s.hall.bulks.map (fun b => if mine b then { b with open_ := true } else b) } ∧ ChangesOnly [.hall] s t)
        ∧ (∀ c rest, s.copies.ring0 = c :: rest → ∀ st, c.running = true → st ≠ .ok →
          ∃ t, exec (.bulkReply ord session st) s = .next t
            ∧ (∃ d ∈ t.copies.ended, d.ring = 0 ∧ d.tag = c.desc.tag ∧ d.status = st ∧ d.bytes = 0 ∧ d.at_ = s.now)
            ∧ ChangesOnly [.copies, .hall, .links, .outbox, .regs] s t))
      ∧ (∀ st, s.hall.bulks.any mine = false → exec (.bulkReply ord session st) s = .next s)
      ∧ (∀ st bytes, s.copies.ring0 = [] → s.copies.ring1 = [] → s.copies.ring2 = [] →
        ∃ t, exec (.bulkClose ord session st bytes) s = .next t ∧ ChangesOnly [.hall] s t
          ∧ t.hall = { s.hall with
              bulks := s.hall.bulks.filter (fun b => !(!b.opener && decide (b.ord = ord) && decide (b.session = session))) }))

/-! ### Buoyline channels (Ch. 13) -/

/-- R368, R373 to R377, R380, R381: a frame received counts, goes to the buffer its first matching filter entry names (its shadow while Deck holds the
lock, and an overrun where that is taken) and into the input-frame log; a lock and an unlock change one bit, the unlock moving the shadow to its
buffer; and the filter banks switch together with their count, a frame that started before the switch being tested against the old
bank. What the log holds is evaluated as its card-bus frame ends (Table 13-1). -/
def Obligations.CanReception : Prop :=
  ∀ (ch : Fin 6) (s : State),
    let c := ch.val
    let b := s.bus c
    let others : State → Prop := fun t => ∀ j, j ≠ c → t.bus j = s.bus j
    let events := s.reg (U.bl c) Off.blEvents
    (∀ f r sof, busActive b = false → exec (.canFrameReceive ch f ⟨r, sof⟩) s = .next s)
    ∧ (∀ f r sof, busActive b = true → s.pair.stages = false → f.fdf = false ∨ s.bitAt (U.bl c) Off.blCtrl 1 = true →
      ∃ t, exec (.canFrameReceive ch f ⟨r, sof⟩) s = .next t
        ∧ t.fldOf (U.bl c) Off.blFrames 31 16 = sat 0xFFFF (s.fldOf (U.bl c) Off.blFrames 31 16 + 1)
        ∧ ChangesOnly [.regs] s t ∧ RegsOnly [(U.bl c, Off.blFrames)] s t)
    ∧ (∀ f r sof, busActive b = true → s.pair.stages = true → f.fdf = false ∨ s.bitAt (U.bl c) Off.blCtrl 1 = true →
      ∃ t, exec (.canFrameReceive ch f ⟨r, sof⟩) s = .next t
        ∧ t.fldOf (U.bl c) Off.blFrames 31 16 = sat 0xFFFF (s.fldOf (U.bl c) Off.blFrames 31 16 + 1)
        ∧ (frameLogged s c f sof = true → ∃ e, t.frameLog = (c, { frame := f, time := s.now / 10 * 10, entry := e }, r) :: s.frameLog)
        ∧ (frameLogged s c f sof = false → t.frameLog = s.frameLog)
        ∧ (frameBuffer s c f sof = none → (t.bus c).rx = b.rx ∧ (t.bus c).shadow = b.shadow)
        ∧ (∀ k e, frameBuffer s c f sof = some (k, e) →
            (rxLocked s c k = false → mget none (t.bus c).rx k = some { frame := f, time := s.now / 10 * 10, entry := e }
              ∧ (t.bus c).shadow = b.shadow ∧ t.bitAt (U.bl c) (newOff k) (k % 32) = true)
            ∧ (rxLocked s c k = true → mget none (t.bus c).shadow k = some { frame := f, time := s.now / 10 * 10, entry := e }
              ∧ (t.bus c).rx = b.rx
              ∧ ((mget none b.shadow k).isSome = true → t.bitAt (U.bl c) Off.blEvents 3 = true
                  ∧ t.fldOf (U.bl c) Off.blFaults 15 0 = sat 0xFFFF (s.fldOf (U.bl c) Off.blFaults 15 0 + 1)))
            ∧ (∀ j, j ≠ k → mget none (t.bus c).rx j = mget none b.rx j ∧ mget none (t.bus c).shadow j = mget none b.shadow j))
        ∧ (t.bus c).pend = b.pend ∧ others t ∧ ChangesOnly [.buses, .frameLog, .free, .outbox, .regs, .vcp] s t)
    ∧ (∀ f r sof, busActive b = true → f.fdf = true → s.bitAt (U.bl c) Off.blCtrl 1 = false →
      ∃ t, exec (.canFrameReceive ch f ⟨r, sof⟩) s = .next t ∧ t.frameLog = s.frameLog ∧ (t.bus c).rx = b.rx ∧ (t.bus c).shadow = b.shadow
        ∧ (t.bus c).rec_ = (if s.pair.stages then Nat.min 255 (b.rec_ + 1) else b.rec_)
        ∧ t.fldOf (U.bl c) Off.blFaults 31 16 = sat 0xFFFF (s.fldOf (U.bl c) Off.blFaults 31 16 + 1) ∧ others t
        ∧ ChangesOnly [.buses, .outbox, .regs, .vcp] s t ∧ RegsOnly [(U.bl c, Off.blEvents), (U.bl c, Off.blFaults)] s t)
    ∧ (∀ buf : Fin 64,
      let k := buf.val
      let w := s.reg (U.bl c) (lockOff k)
      (exec (.blRxLock ch buf true) s = .next (s.setReg (U.bl c) (lockOff k) (orBit w (k % 32))))
      ∧ (mget none b.shadow k = none → exec (.blRxLock ch buf false) s = .next (s.setReg (U.bl c) (lockOff k) (clrBit w (k % 32))))
      ∧ (∀ r, mget none b.shadow k = some r →
        ∃ t, exec (.blRxLock ch buf false) s = .next t ∧ t.bus c = { b with rx := mset none b.rx k (some r), shadow := mset none b.shadow k none }
          ∧ rxLocked t c k = false ∧ t.bitAt (U.bl c) (newOff k) (k % 32) = true ∧ others t ∧ ChangesOnly [.buses, .regs] s t
          ∧ RegsOnly [(U.bl c, lockOff k), (U.bl c, newOff k)] s t))
    ∧ (∀ bank count entries,
      ∃ t, exec (.blFilterSwap ch bank count entries) s = .next t ∧ (t.bus c).bank = bank ∧ (t.bus c).count = Nat.min 2048 count
        ∧ (bank = true → (t.bus c).bank0 = b.bank0 ∧ (t.bus c).bank1 = if b.bank then b.bank1 else entries.take 2048)
        ∧ (bank = false → (t.bus c).bank1 = b.bank1 ∧ (t.bus c).bank0 = if b.bank then entries.take 2048 else b.bank0)
        ∧ (∀ sof, s.now < sof → entriesFor (t.bus c) sof = (if bank then (t.bus c).bank1 else (t.bus c).bank0).take (Nat.min 2048 count))
        ∧ (∀ sof, sof ≤ s.now → bank ≠ b.bank → entriesFor (t.bus c) sof = (if b.bank then b.bank1 else b.bank0).take b.count)
        ∧ t.reg (U.bl c) Off.blEvents = (if bank = b.bank then events else orBit events 6)
        ∧ (t.bus c).rx = b.rx ∧ (t.bus c).pend = b.pend ∧ others t ∧ ChangesOnly [.buses, .regs] s t ∧ RegsOnly [(U.bl c, Off.blEvents)] s t)

/-- R382 to R386: a request pends the buffers not pending and the lowest identifier is on the bus; a cancel leaves the one on the bus; a frame sent, an
attempt failed, the errors of a frame, bus-off, its staleness after 500 ms and recovery do what they name. -/
def Obligations.CanTransmission : Prop :=
  ∀ (ch : Fin 6) (s : State),
    let c := ch.val
    let b := s.bus c
    let others : State → Prop := fun t => ∀ j, j ≠ c → t.bus j = s.bus j
    let events := s.reg (U.bl c) Off.blEvents
    (∀ mask records, ∃ t, exec (.blTxReq ch mask records) s = .next t ∧ (t.bus c).pend = b.pend ||| mask
        ∧ (records = [] → (t.bus c).tx = b.tx)
        ∧ (∀ e, records = [e] → (t.bus c).tx = if b.pend.getLsbD e.1.val then b.tx else mset none b.tx e.1.val (some e.2))
        ∧ (∀ j, j < 32 → b.pend.getLsbD j = true → mget none (t.bus c).tx j = mget none b.tx j)
        ∧ (∀ j, b.onBus = some j → (t.bus c).onBus = some j)
        ∧ (∀ j, b.onBus = none → busDrives s c = true → (t.bus c).onBus = some j →
            (t.bus c).pend.getLsbD j = true
            ∧ ∀ i, i < 32 → (t.bus c).pend.getLsbD i = true → arbitration (txFrame (t.bus c) j) ≤ arbitration (txFrame (t.bus c) i))
        ∧ (t.bus c).st = b.st ∧ (t.bus c).rx = b.rx ∧ others t ∧ ChangesOnly [.buses] s t)
    ∧ (∀ mask, ∃ t, exec (.blTxCancel ch mask) s = .next t ∧ (t.bus c).onBus = b.onBus
        ∧ (∀ j, j < 32 → (t.bus c).pend.getLsbD j = (b.pend.getLsbD j && (!mask.getLsbD j || decide (b.onBus = some j))))
        ∧ t.bus c = { b with pend := (t.bus c).pend, cancelled := (t.bus c).cancelled } ∧ others t ∧ ChangesOnly [.buses] s t)
    ∧ (∀ buf : Fin 32, busDrives s c = true → b.onBus = some buf.val →
      (∃ t, exec (.canTxDone ch buf) s = .next t ∧ (t.bus c).pend = clrBit b.pend buf.val ∧ (b.tec ≤ 256 → (t.bus c).tec = b.tec - 1)
          ∧ t.bitAt (U.bl c) Off.blTxDone buf.val = true
          ∧ t.fldOf (U.bl c) Off.blFrames 15 0 = sat 0xFFFF (s.fldOf (U.bl c) Off.blFrames 15 0 + 1)
          ∧ (t.bus c).rx = b.rx ∧ others t ∧ ChangesOnly [.buses, .free, .outbox, .regs, .vcp] s t
          ∧ RegsOnly [(U.bl c, Off.blEvents), (U.bl c, Off.blTxDone), (U.bl c, Off.blFrames)] s t)
      ∧ (∃ t, exec (.canTxError ch buf .arbitrationLost) s = .next t ∧ (t.bus c).tec = b.tec
          ∧ (b.cancelled.getLsbD buf.val = false → (t.bus c).pend = b.pend ∧ (t.bus c).tries = b.tries)
          ∧ (b.cancelled.getLsbD buf.val = true → (t.bus c).pend = clrBit b.pend buf.val) ∧ others t ∧ ChangesOnly [.buses] s t)
      ∧ (∀ why, why ≠ .arbitrationLost → b.cancelled.getLsbD buf.val = true →
        ∃ t, exec (.canTxError ch buf why) s = .next t ∧ (t.bus c).pend = clrBit b.pend buf.val ∧ others t
          ∧ ChangesOnly [.buses, .outbox, .regs, .vcp] s t ∧ RegsOnly [(U.bl c, Off.blEvents), (U.bl c, Off.blFaults)] s t)
      ∧ (∀ why, why ≠ .arbitrationLost → b.cancelled.getLsbD buf.val = false → b.tec + 8 ≤ 255 →
        let n := mget 0 b.tries buf.val + 1
        let max := s.fldOf (U.bl c) Off.blCtrl 11 8
        ∃ t, exec (.canTxError ch buf why) s = .next t
          ∧ (t.bus c).tec = (if why = .noAck ∧ b.st = .errorPassive then b.tec else b.tec + 8)
          ∧ (max = 0 ∨ n < max → (t.bus c).pend = b.pend ∧ mget 0 (t.bus c).tries buf.val = n)
          ∧ (max ≠ 0 → max ≤ n → (t.bus c).pend = clrBit b.pend buf.val ∧ t.bitAt (U.bl c) Off.blTxFail buf.val = true
              ∧ t.bitAt (U.bl c) Off.blEvents 4 = true)
          ∧ (why = .delayNotFound → t.bitAt (U.bl c) Off.blEvents 7 = true)
          ∧ t.fldOf (U.bl c) Off.blFaults 31 16 = sat 0xFFFF (s.fldOf (U.bl c) Off.blFaults 31 16 + 1)
          ∧ others t ∧ ChangesOnly [.buses, .outbox, .regs, .vcp] s t
          ∧ RegsOnly [(U.bl c, Off.blEvents), (U.bl c, Off.blFaults), (U.bl c, Off.blTxFail)] s t))
    ∧ (busActive b = true →
      ∃ t, exec (.canRxError ch) s = .next t ∧ (t.bus c).pend = b.pend
          ∧ (t.bus c).rec_ = (if s.pair.stages then Nat.min 255 (b.rec_ + 1) else b.rec_)
          ∧ t.fldOf (U.bl c) Off.blFaults 31 16 = sat 0xFFFF (s.fldOf (U.bl c) Off.blFaults 31 16 + 1) ∧ others t
          ∧ ChangesOnly [.buses, .outbox, .regs, .vcp] s t ∧ RegsOnly [(U.bl c, Off.blEvents), (U.bl c, Off.blFaults)] s t)
    ∧ (busDrives s c = true →
      (let times := (s.now :: b.busOffTimes).filter (fun z => decide (s.now < z + 60 * Config.sec))
        let max := s.fldOf (U.bl c) Off.blCtrl 15 12
        ∃ t, exec (.busOff ch) s = .next t ∧ (t.bus c).st = .busOff ∧ (t.bus c).offSince = some s.now ∧ (t.bus c).pend = b.pend
          ∧ t.bitAt (U.bl c) Off.blEvents 0 = true
          ∧ ((t.bus c).recovering = true ↔
              s.bitAt (U.bl c) Off.blCtrl 4 = true ∧ b.manualOnly = false ∧ (max = 0 ∨ times.length ≤ max))
          ∧ (max ≠ 0 → max < times.length → t.bitAt (U.bl c) Off.blEvents 5 = true)
          ∧ others t ∧ ChangesOnly [.buses, .outbox, .regs, .vcp] s t ∧ RegsOnly [(U.bl c, Off.blEvents)] s t))
    ∧ (∀ z, b.offSince = some z → z + 500 * Config.ms ≤ s.now → busActive b = false →
      ∃ t, exec (.busOffStale ch) s = .next t
        ∧ (∀ r, r < 16 → (t.rack r).teleAt = (if nodeBus s r = c then none else (s.rack r).teleAt))
        ∧ (∀ p, p < 8 → (t.pump p).vfdStatusAt = (if nodeBus s 16 = c ∧ (s.pump p).vfd = true then none else (s.pump p).vfdStatusAt))
        ∧ ChangesOnly [.broker, .plant] s t)
    ∧ (b.st = .busOff → b.recovering = true →
      ∃ t, exec (.recovered ch) s = .next t ∧ (t.bus c).st = .errorActive ∧ (t.bus c).tec = 0 ∧ (t.bus c).rec_ = 0
        ∧ (t.bus c).recovering = false ∧ (t.bus c).offSince = none ∧ (t.bus c).pend = b.pend
        ∧ t.reg (U.bl c) Off.blEvents = orBit events 2 ∧ others t ∧ ChangesOnly [.buses, .regs] s t
        ∧ RegsOnly [(U.bl c, Off.blEvents)] s t)

/-! ### Firmware and update (Ch. 16) -/

/-- R455, R461 to R463: UPDATE_BEGIN of a well-formed manifest of the unit's kind starts a download in the other bank, ending a verification of it, or
goes on with the one of the same manifest; each chunk must come in its place, fails its check back to where it is expected again, and the last one leaves
the bank UNVERIFIED; UPDATE_VERIFY is accepted with the time it ends, and ends VERIFIED, or REJECTED with SIG_FAIL or VERSION_LOW. (That the request
of a verification that UPDATE_BEGIN ends gets DENIED is the model's reading, log entry 156.) -/
def Obligations.UpdateDownloads : Prop :=
  ∀ (h : Hdr) (e : Session) (s u : State), u = touch h e.id s →
    let k := unitInst h.unit.toNat
    let x := s.upd k
    let o := otherBank x
    let kept : State → Prop := fun t => (∀ j, j ≠ k → t.upd j = s.upd j) ∧ activeBank (t.upd k) = activeBank x ∧ (t.upd k).activeB = x.activeB
      ∧ ChangesOnly [.log, .outbox, .regs, .upds, .vcp] s t
    let refused := fun (i : Instr) (st : Status) (d : List Nat) =>
      ∃ t, exec i s = .next t ∧ Answers h st 0 d s t ∧ ChangesOnly [.outbox, .regs, .vcp] s t ∧ RegsOnly [] s t
    (∀ (restart : Bool) (m : Manifest), Served (updOp 0x80 h true) h e s →
      let fits := m.wellFormed = true ∧ m.kind.toNat = k + 1 ∧ m.imageLen ≤ largestImage k ∧ m.securityVer ≤ 255
      let free := otherDownloads s e k = false ∧ (activeBank x).st ≠ .trial
      let same := o.st = .downloading ∨ o.st = .unverified
      (free → fits → restart = true ∨ ¬ same ∨ (∀ n, o.man = some n → n.digest ≠ m.digest) → deadlineMissed h s.now s.now = false →
        ∃ t, exec (.updateBegin h restart m) s = .next t ∧ Answers h .ok s.now [if m.imageLen = 0 then 0 else 2 ^ 31] s t
          ∧ otherBank (t.upd k) = { st := if m.imageLen = 0 then .unverified else .downloading, man := some m }
          ∧ (t.upd k).owner = (if m.imageLen = 0 then 0 else e.id) ∧ (t.upd k).table = decide (m.imageLen ≠ 0) ∧ (t.upd k).nextChunk = 0
          ∧ (t.upd k).nextPiece = 0 ∧ (t.upd k).verify = none
          ∧ (∀ a b q, x.verify = some (a, b, q) → ∀ c ∈ t.vcp.accepted, isOrigin q c = false) ∧ kept t ∧ RegsOnly [] s t)
      ∧ (∀ n, o.man = some n → free → fits → restart = false → same → n.digest = m.digest → deadlineMissed h s.now s.now = false →
        ∃ t, exec (.updateBegin h restart m) s = .next t ∧ Answers h .ok s.now [nextChunkWord x] s t
          ∧ t.upd k = { x with owner := if o.st = .downloading then e.id else 0, nextPiece := 0 } ∧ kept t ∧ RegsOnly [] s t)
      ∧ (free → ¬ fits → refused (.updateBegin h restart m) .badParam [])
      ∧ (otherDownloads s e k = true → refused (.updateBegin h restart m) .busy [])
      ∧ (otherDownloads s e k = false → (activeBank x).st = .trial → refused (.updateBegin h restart m) .updateState []))
    ∧ (∀ (chunk : BitVec 32) (piece : BitVec 8) (len : Nat) (hashOk : Bool), Served (updOp 0x81 h true) h e s →
      (∀ m, o.man = some m → o.st = .downloading → otherDownloads s e k = false →
        let total := chunkBytes m x.table
        let due := x.table = false ∨ lastChunk (chunkBytes m true) x.nextChunk = true
        let inPlace := chunk.toNat = nextChunkWord x ∧ piece.toNat = x.nextPiece ∧ len = pieceLen total x.nextChunk piece.toNat
        (¬ inPlace → refused (.updateChunk h chunk piece len hashOk) .badParam [nextChunkWord x])
        ∧ (inPlace → lastPiece total x.nextChunk piece.toNat = false → deadlineMissed h s.now s.now = false →
          ∃ t, exec (.updateChunk h chunk piece len hashOk) s = .next t ∧ Answers h .ok s.now [nextChunkWord x] s t
            ∧ t.upd k = { x with owner := e.id, nextPiece := x.nextPiece + 1 } ∧ kept t ∧ RegsOnly [] s t)
        ∧ (inPlace → lastPiece total x.nextChunk piece.toNat = true → due → hashOk = false →
          ∃ t, exec (.updateChunk h chunk piece len hashOk) s = .next t ∧ Answers h .badParam 0 [nextChunkWord (t.upd k)] s t
            ∧ t.bitAt (U.upd k) Off.updEvents 0 = true
            ∧ t.upd k = { x with owner := e.id, nextChunk := if x.table then 0 else x.nextChunk, nextPiece := 0 }
            ∧ kept t ∧ RegsOnly [(U.upd k, Off.updEvents)] s t)
        ∧ (inPlace → lastPiece total x.nextChunk piece.toNat = true → ¬ (due ∧ hashOk = false) → deadlineMissed h s.now s.now = false →
          ∃ t, exec (.updateChunk h chunk piece len hashOk) s = .next t ∧ Answers h .ok s.now [nextChunkWord (t.upd k)] s t
            ∧ (t.upd k).nextPiece = 0 ∧ kept t ∧ RegsOnly [] s t
            ∧ (lastChunk total x.nextChunk = false → (t.upd k).nextChunk = x.nextChunk + 1 ∧ (t.upd k).table = x.table ∧ otherBank (t.upd k) = o)
            ∧ (lastChunk total x.nextChunk = true → x.table = true → (t.upd k).nextChunk = 0 ∧ (t.upd k).table = false ∧ otherBank (t.upd k) = o)
            ∧ (lastChunk total x.nextChunk = true → x.table = false →
                otherBank (t.upd k) = { st := .unverified, man := some m } ∧ (t.upd k).owner = 0)))
      ∧ (otherDownloads s e k = true → refused (.updateChunk h chunk piece len hashOk) .busy [nextChunkWord x])
      ∧ (otherDownloads s e k = false → o.st ≠ .downloading → refused (.updateChunk h chunk piece len hashOk) .badParam [nextChunkWord x]))
    ∧ (∀ m, o.man = some m → Served (updOp 0x82 h true) h e s → o.st = .unverified → Admits h e (verifyEnd s m) u →
      ∃ t, exec (.updateVerify h) s = .next t ∧ Answers h .accepted (verifyEnd s m) [] s t ∧ Waits (originOf h e) t
        ∧ otherBank (t.upd k) = { st := .verifying, man := some m } ∧ (t.upd k).verify = some (s.now, verifyEnd s m, originOf h e)
        ∧ kept t ∧ RegsOnly [] s t)
    ∧ (Served (updOp 0x82 h true) h e s → o.st ≠ .unverified → refused (.updateVerify h) .updateState [])
    ∧ (∀ (unit : Fin 7) (signed : Bool) (signer : Option ImgSigner) (hashOk : Bool),
      let n := unit.val
      let y := s.upd n
      ∀ (z : Time × Time × Origin), y.verify = some z → ∀ m, (otherBank y).man = some m →
      let q := z.2.2
      let good := if signed then (match signer with | some g => signsKind n g | none => false) else unsignedAllowed s n q
      let ended := fun (st : BankSt) (t : State) => otherBank (t.upd n) = { st := st, man := some m } ∧ (t.upd n).verify = none
        ∧ (t.upd n).stageDone = some (s.now / Config.frameNs, 1)
        ∧ activeBank (t.upd n) = activeBank y ∧ (t.upd n).activeB = y.activeB ∧ (∀ a ∈ t.vcp.accepted, isOrigin q a = false)
        ∧ (∀ j, j ≠ n → t.upd j = s.upd j) ∧ ChangesOnly [.log, .outbox, .regs, .upds, .vcp] s t ∧ RegsOnly [(U.upd n, Off.updEvents)] s t
      (good = true → belowCounter s n m = false → m.minPreman.toNat ≤ premanVersion s → hashOk = true →
        ∃ t, exec (.updateVerifyDone unit signed signer hashOk) s = .next t ∧ ended .verified t
          ∧ t.reg (U.upd n) Off.updEvents = s.reg (U.upd n) Off.updEvents)
      ∧ (good = true → belowCounter s n m = true →
        ∃ t, exec (.updateVerifyDone unit signed signer hashOk) s = .next t ∧ ended .rejected t ∧ t.bitAt (U.upd n) Off.updEvents 2 = true)
      ∧ (good = false ∨ (belowCounter s n m = false ∧ (premanVersion s < m.minPreman.toNat ∨ hashOk = false)) →
        ∃ t, exec (.updateVerifyDone unit signed signer hashOk) s = .next t ∧ ended .rejected t ∧ t.bitAt (U.upd n) Off.updEvents 1 = true))

/-- R464, R466, R467, R455: an activation puts the verified bank into force on trial and starts what runs from it again, and is refused without a verified bank,
on a Keeper with a healthy Relief, and for cards outside MAINTAIN; the confirmation of 30 healthy minutes ends the trial and advances the
counters; and an abort waits for the arbitration point of its frame, where it drops a download or ends a trial, unless a stage completed in that
frame. (That every UPDATE_ABORT waits there is the model's reading, log entry 157.) -/
def Obligations.UpdatesInForce : Prop :=
  ∀ (h : Hdr) (e : Session) (s u : State), u = touch h e.id s →
    let k := unitInst h.unit.toNat
    let x := s.upd k
    let o := otherBank x
    let rest : State → Prop := fun t => ∀ j, j ≠ k → t.upd j = s.upd j
    let refused := fun (i : Instr) (st : Status) =>
      ∃ t, exec i s = .next t ∧ Answers h st 0 [] s t ∧ ChangesOnly [.outbox, .regs, .vcp] s t ∧ RegsOnly [] s t
    (∀ flags : BitVec 8, Served (updOp 0x83 h true) h e s →
      let force := flags.getLsbD 0
      let end_ := activateEnd s k o
      let allowed := mayActivate s k = true ∧ (isKeeper s = false ∨ reliefHealthy s = false ∨ force = true)
        ∧ (3 ≤ k → k ≤ 5 → (isKeeper s = true → s.plant.mode = .maintain) ∧ kindLeakHeld s k = false)
      (allowed → Admits h e end_ u →
        ∃ t, exec (.updateActivate h flags) s = .next t ∧ Answers h .accepted end_ [] s t ∧ (k ≠ 0 → t.fw.counters = s.fw.counters)
          ∧ (∀ c, mget 0 s.fw.counters c ≤ mget 0 t.fw.counters c)
          ∧ (k ≠ 0 → (t.upd k).activeB = !x.activeB ∧ (activeBank (t.upd k)).st = .trial ∧ (activeBank (t.upd k)).man = o.man
              ∧ (t.upd k).trial = true ∧ (t.upd k).bootsLeft = 3 ∧ (t.upd k).healthy = 0
              ∧ (otherBank (t.upd k)).st = (if (activeBank x).st = .active then .verified else (activeBank x).st)
              ∧ t.bitAt (U.upd k) Off.updEvents 3 = true ∧ rest t)
          ∧ (k = 0 → t.power.step = 2 ∧ t.pair.role = .undecided ∧ t.vcp.sessions = [] ∧ t.bmu = s.bmu)
          ∧ (k = 1 → t.fw.deckUp = false ∧ t.fw.restartAt = some (s.now + 2 * Config.sec))
          ∧ (k = 2 → s.seqr.st = .running → s.seqr.stopAt = none → t.seqr = { s.seqr with stopAt := some (s.seqr.leg + 1) })
          ∧ (k = 2 → s.seqr.st = .loaded → t.seqr.st = .loading)
          ∧ (∀ j l, cardsOfKind s k = j :: l → 3 ≤ k → k ≤ 5 → (t.card j).hold = true
              ∧ ((t.card j).st = .enumerating ∨ ({ card := j, use := .firmware 0 } : SvcReq) ∈ t.service.queue))
          ∧ (k = 6 → ChangesOnly [.fw, .outbox, .regs, .upds, .vcp] s t ∧ RegsOnly [(U.upd k, Off.updEvents)] s t))
      ∧ (mayActivate s k = false → refused (.updateActivate h flags) .updateState)
      ∧ (mayActivate s k = true → isKeeper s = true → reliefHealthy s = true → force = false → refused (.updateActivate h flags) .denied)
      ∧ (mayActivate s k = true → 3 ≤ k → k ≤ 5 → isKeeper s = true → s.plant.mode ≠ .maintain → refused (.updateActivate h flags) .denied))
    ∧ (Served (updOp 0x84 h false) h e s →
      (mayConfirm s k = true → deadlineMissed h s.now s.now = false →
        ∃ t, exec (.updateConfirm h) s = .next t ∧ Answers h .ok s.now [] s t ∧ (t.upd k).trial = false ∧ (t.upd k).bootsLeft = 0
          ∧ (activeBank (t.upd k)).st = .active ∧ (activeBank (t.upd k)).man = (activeBank x).man ∧ t.bitAt (U.upd k) Off.updEvents 6 = true
          ∧ (∀ m, (activeBank x).man = some m →
              mget 0 t.fw.counters k = (if m.securityFlag then Nat.max (mget 0 s.fw.counters k) m.securityVer else mget 0 s.fw.counters k)
              ∧ mget 0 t.fw.counters 8 = Nat.max (mget 0 s.fw.counters 8) (m.ownerEpoch.getD 0))
          ∧ (∀ c, c ≠ k → c ≠ 8 → mget 0 t.fw.counters c = mget 0 s.fw.counters c)
          ∧ (∀ m, o.man = some m → o.st ≠ .empty → (otherBank (t.upd k)).st = (if belowCounter t k m then .rejected else .verified))
          ∧ rest t ∧ ChangesOnly [.fw, .outbox, .regs, .upds, .vcp] s t ∧ RegsOnly [(U.upd k, Off.updEvents)] s t)
      ∧ (mayConfirm s k = false → refused (.updateConfirm h) .updateState))
    ∧ (Served (updOp 0x85 h false) h e s →
      ∃ t, exec (.updateAbort h) s = .next t ∧ t.fw = { s.fw with aborts := s.fw.aborts ++ [h] } ∧ t.vcp = u.vcp ∧ ChangesOnly [.fw, .vcp] s t)
    ∧ (∀ frame, s.fw.aborts = [h] → ServedLate (updOp 0x85 h false) h e { s with fw.aborts := [] } →
      let t := judgeUpdAborts frame s
      (stageJustDone frame x = none → x.trial = false → o.st = .downloading ∨ o.st = .unverified ∨ o.st = .verified ∨ o.st = .verifying →
          deadlineMissed h s.now s.now = false →
        Answers h .ok s.now [] s t ∧ otherBank (t.upd k) = {} ∧ activeBank (t.upd k) = activeBank x
          ∧ (t.upd k).owner = 0 ∧ (t.upd k).nextChunk = 0 ∧ t.bitAt (U.upd k) Off.updEvents 8 = true
          ∧ (∀ a b q, x.verify = some (a, b, q) → o.st = .verifying → ∀ c ∈ t.vcp.accepted, isOrigin q c = false)
          ∧ rest t ∧ ChangesOnly [.fw, .log, .outbox, .regs, .upds, .vcp] s t ∧ RegsOnly [(U.upd k, Off.updEvents)] s t)
      ∧ (stageJustDone frame x = none → x.trial = true → k ≠ 0 → Admits h e (activateEnd s k o) s →
        Answers h .accepted (activateEnd s k o) [] s t ∧ (t.upd k).trial = false
          ∧ (t.upd k).activeB = !x.activeB ∧ (otherBank (t.upd k)).st = .rejected ∧ t.bitAt (U.upd k) Off.updEvents 5 = true
          ∧ t.bitAt (U.upd k) Off.updEvents 8 = true ∧ rest t ∧ (k = 6 → ChangesOnly [.fw, .outbox, .regs, .upds, .vcp] s t))
      ∧ (stageJustDone frame x = none → x.trial = false → o.st = .empty ∨ o.st = .rejected →
        Answers h .updateState 0 [] s t ∧ t.upds = s.upds ∧ ChangesOnly [.fw, .outbox, .regs, .vcp] s t)
      ∧ (stageJustDone frame x = some 3 →
        Answers h .alreadyComplete 0 [] s t ∧ t.upds = s.upds ∧ ChangesOnly [.fw, .outbox, .regs, .vcp] s t))

/-- R451, R456, R465, R466: each boot in trial uses one of three, and none left rolls the kind back; each minute in trial without one counts, and the thirtieth
confirms where AUTO_CONFIRM says so; and Deck, silent for 50 ms, is restarted, or stopped for good after three restarts within the hour, its
accepted requests ended.
R456: at a start of Preman CDI_P is formed from the UDS and the manifest header of the Preman image in force, and whatever changes the
image of a kind in use has Preman issue the Alias certificate again, under the key of CDI_P, signed with the DeviceID key, with one entry for
each image in use. (The keys and the factory images' headers are free constants.) -/
def Obligations.TrialsAndDeck : Prop :=
  (∀ (s : State),
    (∀ unit : Fin 7,
      let k := unit.val
      let x := s.upd k
      let rest : State → Prop := fun t => ∀ j, j ≠ k → t.upd j = s.upd j
      (x.trial = true → 0 < x.bootsLeft →
        ∃ t, exec (.trialBoot unit) s = .next t ∧ t.upd k = { x with bootsLeft := x.bootsLeft - 1, healthy := 0, lastMinute := s.now }
          ∧ t.reg (U.upd k) Off.updEvents = orBit (s.reg (U.upd k) Off.updEvents) 4 ∧ rest t
          ∧ ChangesOnly [.regs, .upds] s t ∧ RegsOnly [(U.upd k, Off.updEvents)] s t)
      ∧ (x.trial = true → x.bootsLeft = 0 →
        ∃ t, exec (.trialBoot unit) s = .next t ∧ (t.upd k).activeB = !x.activeB ∧ (t.upd k).trial = false
          ∧ (otherBank (t.upd k)).st = .rejected ∧ (activeBank (t.upd k)).man = (otherBank x).man
          ∧ t.bitAt (U.upd k) Off.updEvents 5 = true ∧ rest t
          ∧ (k ≠ 2 → ChangesOnly [.fw, .outbox, .pair, .regs, .upds, .vcp] s t ∧ RegsOnly [(U.upd k, Off.updEvents)] s t)
          ∧ (k = 2 → s.seqr.st = .running → s.seqr.stopAt = none → t.seqr = { s.seqr with stopAt := some (s.seqr.leg + 1) }))
      ∧ (x.trial = false → exec (.trialBoot unit) s = .next s)
      ∧ (x.trial = true → kindRuns s k = true → x.lastMinute + 60 * Config.sec ≤ s.now →
        (s.bitAt (U.upd k) Off.updCtrl 0 = false ∨ x.healthy + 1 < 30 →
          ∃ t, exec (.healthyMinute unit) s = .next t ∧ t.upd k = { x with healthy := sat 0xFFFF (x.healthy + 1), lastMinute := s.now } ∧ rest t
            ∧ ChangesOnly [.upds] s t)
        ∧ (s.bitAt (U.upd k) Off.updCtrl 0 = true → 30 ≤ x.healthy + 1 →
          ∃ t, exec (.healthyMinute unit) s = .next t ∧ (t.upd k).trial = false ∧ (activeBank (t.upd k)).st = .active
            ∧ t.bitAt (U.upd k) Off.updEvents 6 = true ∧ rest t ∧ ChangesOnly [.fw, .regs, .upds] s t
            ∧ RegsOnly [(U.upd k, Off.updEvents)] s t)))
    ∧ (s.fw.deckUp = true → ∃ t, exec .deckHeartbeat s = .next t ∧ t.fw = { s.fw with lastBeat := s.now } ∧ ChangesOnly [.fw] s t)
    ∧ (∀ z, s.fw.restartAt = some z → s.fw.deckUp = false → s.fw.deckStopped = false → s.power.llState ≠ 2 →
      ∃ t, exec .deckHeartbeat s = .next t ∧ t.fw = { s.fw with deckUp := true, lastBeat := s.now, restartAt := none }
        ∧ ChangesOnly [.fw, .pair] s t)
    ∧ (s.fw.deckUp = true → 2 ≤ s.power.step → s.fw.lastBeat + 50 * Config.ms ≤ s.now →
      let recent := s.fw.restarts.filter (fun z => decide (s.now < z + Config.hour))
      ∃ t, exec .deckTimeout s = .next t ∧ t.fw.deckUp = false ∧ (∀ a ∈ t.vcp.accepted, a.deck = false)
        ∧ ((s.upd 1).trial = true → t.fw.restartAt = some (s.now + 2 * Config.sec) ∧ t.fw.restarts = s.fw.restarts)
        ∧ ((s.upd 1).trial = false → recent.length < 3 →
            t.fw.restartAt = some (s.now + 2 * Config.sec) ∧ t.fw.restarts = s.now :: recent ∧ t.fw.deckStopped = s.fw.deckStopped)
        ∧ ((s.upd 1).trial = false → 3 ≤ recent.length → t.fw.restartAt = none ∧ t.fw.deckStopped = true)
        ∧ t.fw.counters = s.fw.counters ∧ ChangesOnly [.fw, .log, .motors, .outbox, .plant, .regs, .seqr, .valves, .vcp] s t))
  ∧ (∀ (s : State),
    let issued : State → Prop := fun t => t.fw.aliasCert = some { key := Config.aliasKey t.fw.cdiP, issuer := Config.deviceId Config.uds,
                                                                  tcb := (List.range 7).filterMap (tcbInfo t) }
    (∀ unit : Fin 7, (s.upd unit.val).trial = true → (s.upd unit.val).bootsLeft = 0 → unit.val ≠ 2 →
      ∃ t, exec (.trialBoot unit) s = .next t ∧ issued t
        ∧ (unit.val = 0 → ∀ m, (otherBank (s.upd 0)).man = some m → t.fw.cdiP = Config.hmacSha384 Config.uds m.digest)
        ∧ (unit.val ≠ 0 → t.fw.cdiP = s.fw.cdiP))
    ∧ (∀ (h : Hdr) (e : Session) (u : State), u = touch h e.id s →
        let k := unitInst h.unit.toNat
        (Served (updOp 0x84 h false) h e s → mayConfirm s k = true → deadlineMissed h s.now s.now = false →
          ∃ t, exec (.updateConfirm h) s = .next t ∧ issued t ∧ t.fw.cdiP = s.fw.cdiP)
        ∧ (Served (updOp 0x83 h true) h e s → k = 6 → mayActivate s 6 = true → isKeeper s = false →
            Admits h e (activateEnd s 6 (otherBank (s.upd 6))) u →
          ∃ t, exec (.updateActivate h 0) s = .next t ∧ issued t ∧ t.fw.cdiP = s.fw.cdiP)))

/-! ### The whole block -/

/-- A step takes the command at the front of the queue and is that command's effect on the state with the queue's rest; with no command
waiting, one tick of the 100 MHz timestamp clock passes (R441) and nothing else (the model's choice, log entry 1). -/
def Obligations.StepRunsTheFrontCommand : Prop :=
  (∀ (c : Instr) (rest : List Instr) (s : State), step { s with pending := c :: rest } = exec c { s with pending := rest })
  ∧ (∀ s : State, s.pending = [] → ∃ t, step s = .next t ∧ t.now = s.now + 10 ∧ ChangesOnly [.now] s t)

/-- Every command of the table completes from every state: it answers a next state, never a fault or a refusal, and leaves the queue of
waiting commands as it is, so that each step with a command waiting takes exactly one from the queue. -/
def Obligations.EveryCommandCompletes : Prop :=
  (∀ (c : Instr) (s : State), ∃ t, exec c s = .next t ∧ t.pending = s.pending)
  ∧ (∀ (c : Instr) (rest : List Instr) (s : State), s.pending = c :: rest → ∃ t, step s = .next t ∧ t.pending = rest)

/-- R2, R488: the BMU-1 alone holds the legally relevant data: no command outside its own changes a legal register, a residue of the
measurement, a parameter set, its cover, its error conditions or its clock; what such a command may change is the aux supply (R496), with the
display that shows while it holds and the CELL_POWER bit its loss sets, and where module time is moved the marks taken in it. -/
def Obligations.LegalDataIsolated : Prop :=
  ∀ (c : Instr) (s t : State), ofBmu c = false → exec c s = .next t →
    t.bmu = { s.bmu with aux := t.bmu.aux, displayOn := t.bmu.displayOn, cellPower := t.bmu.cellPower, clockAt := t.bmu.clockAt,
                         lastPulse := t.bmu.lastPulse, pressedAt := t.bmu.pressedAt, sentAt := t.bmu.sentAt, session := t.bmu.session }

/-- R455, R466: an anti-rollback counter never falls, whatever the command. While the counters have followed every image in force and every one a
rollback would return to (a start with one behind advances it first, Table 16-8), they rise only with an update's confirmation, by command or of itself after 30 healthy
minutes, or where the ROM starts Preman. -/
def Obligations.CountersNeverFall : Prop :=
  ∀ (c : Instr) (s t : State), exec c s = .next t →
    (∀ k, mget 0 s.fw.counters k ≤ mget 0 t.fw.counters k)
    ∧ (let followed := fun (k : Nat) (b : Bank) => ∀ m, b.man = some m →
          (m.securityFlag = true → m.securityVer ≤ mget 0 s.fw.counters k) ∧ m.ownerEpoch.getD 0 ≤ mget 0 s.fw.counters 8
       (∀ k, k < 7 → ((activeBank (s.upd k)).st = .active → followed k (activeBank (s.upd k)))
          ∧ ((s.upd k).trial = true → (otherBank (s.upd k)).st ≠ .empty → followed k (otherBank (s.upd k)))) →
        (∀ h, c ≠ .updateConfirm h) → (∀ unit, c ≠ .healthyMinute unit) → (∀ a b, c ≠ .busQualified a b) →
        t.fw.counters = s.fw.counters)

/-- R168, R178: the bits of every output of a reduction, and its flags, depend only on the operands and scales that reach it, on what the accumulator
held, WINDOW_FLOOR and OUT_FORMAT: not on the order in which its partials are placed and added, nor on that in which contributions arrive,
nor on which partials another accumulator has added before its contribution arrives here (as long as their number stays within the 32-bit
count). -/
def Obligations.ReductionOrder : Prop :=
  let total := fun (x : ElemWork) => x.parts.length + (x.contribs.map (·.count)).foldl (· + ·) 0
  let same := fun (a b : Acc) =>
    a.sum = b.sum ∧ a.count = b.count ∧ a.residue = b.residue ∧ a.nonfinite = b.nonfinite ∧ a.clamped = b.clamped ∧ a.inexact = b.inexact
      ∧ a.bad.Perm b.bad
  let shuffled := fun (w v : ElemWork) => w.parts.Perm v.parts ∧ w.contribs.Perm v.contribs
  (∀ (f : Int) (a : Acc) (w v : ElemWork), shuffled w v → a.count + total w ≤ 4294967295 → same (reduceFrom f a w) (reduceFrom f a v))
  ∧ (∀ (f : Int) (w : ElemWork) (more : List PartialIn) (src : ClusterAt), total w + more.length ≤ 4294967295 →
      let r := reduce f { w with parts := more, contribs := [] }
      let sent : Contribution := { src := src, sum := r.sum, floor := f, residue := r.residue, nonfinite := r.nonfinite,
                                   clamped := r.clamped, inexact := r.inexact, count := r.count }
      same (reduce f { w with contribs := w.contribs ++ [sent] }) (reduce f { w with parts := w.parts ++ more }))
  ∧ (∀ (fmt : OutFmt) (f : Int) (t : TensorWork) (l : List ElemWork), l.length = t.elems.length →
      (∀ (n : Nat) (x y : ElemWork), t.elems[n]? = some x → l[n]? = some y → shuffled x y ∧ total x ≤ 4294967295) →
      tensorOut fmt f (l.map (reduce f)) = tensorOut fmt f (t.elems.map (reduce f)))

/-- Tables 1-2, 3-6 and 11-18, R309: the registers at reset: each valve channel's role, the cards expected in the six slots, the loops' bands and safe
values; and the module starts with nothing running: mode OFF, no session, no traverse, an empty Logbook, and no command waiting. -/
def Obligations.ResetLeaves : Prop :=
  (∀ c, c < 96 → State.reset.reg (U.vlv c) Off.vlvRole =
    (if c < 32 then wd (c / 2 * 0x1000 + 2 + c % 2) else if c < 48 then wd ((c - 32) / 2 * 0x1000 + 4 + c % 2) else 0))
  ∧ ([1, 1, 1, 2, 3, 3] = (List.range 6).map (fun k => State.reset.fldOf U.sys (0x410 + 0x20 * k) 7 0))
  ∧ State.reset.plant.mode = .off ∧ State.reset.vcp.sessions = [] ∧ State.reset.vcp.accepted = [] ∧ State.reset.seqr.st = .empty
  ∧ State.reset.log.ring = [] ∧ State.reset.pending = [] ∧ (∀ c, (State.reset.bus c).st = .offline)
  ∧ ([1200, 3200, 1200, 5500, 168] = (List.range 5).map (fun l => State.reset.fldOf (U.loop l) Off.loopSp 15 0))
  ∧ (∀ l, l < 4 → State.reset.fldOf (U.loop l) Off.loopSafe 31 16 = [3000, 4700, 6000, 6500].getD l 0
      ∧ State.reset.fldOf (U.loop l) Off.loopSafe 15 0 = [400, 1500, 200, 0].getD l 0)

/-! ### Benchmark unit (Ch. 18) -/

/-- R489 to R492, R504: a flow pulse adds its energy (none while the sensors fail or ΔΘ is under 0.5 K) and volume to the two registers and their
residues while the records hold; a measurement cycle judges its temperatures; an hour counts, an error hour only with failed sensors; on the set
day the months move by one; and a register with one bad copy is rewritten from the other, with both bad RECORD_FAULT. -/
def Obligations.LegalRegisters : Prop :=
  ∀ (s : State),
    let b := s.bmu
    let sound := ∀ i, i < 17 → copyGood (legalOf b i).1 = true ∧ copyGood (legalOf b i).2 = true
    let keeps := fun (l : List Nat) (t : State) => (∀ i, i < 17 → i ∉ l → legalOf t.bmu i = legalOf b i)
      ∧ (∀ i ∈ l, copyGood (legalOf t.bmu i).1 = true ∧ (legalOf t.bmu i).2 = (legalOf t.bmu i).1)
      ∧ activeParams t.bmu = activeParams b ∧ t.bmu.recordFault = b.recordFault ∧ ChangesOnly [.bmu] s t
    (sound →
      (b.recordFault = false → b.paramFault = false →
        let p := activeParams b
        let e := b.energyRes + if b.sensorFault = true ∨ b.tSupply - b.tReturn < 50 then 0
          else p.pulseValue * Config.heatCoefficient b.tSupply b.tReturn p.flowPos * (b.tSupply - b.tReturn).toNat
        let v := b.volumeRes + p.pulseValue
        ∃ t, exec .flowPulse s = .next t ∧ legalWord t.bmu 0 0 = (legalWord b 0 0 + e / 10 ^ 12) % 10 ^ 9 ∧ t.bmu.energyRes = e % 10 ^ 12
          ∧ legalWord t.bmu 1 0 = (legalWord b 1 0 + v / 100) % 10 ^ 9 ∧ t.bmu.volumeRes = v % 100 ∧ keeps [0, 1] t)
      ∧ (b.recordFault = true ∨ b.paramFault = true →
        ∃ t, exec .flowPulse s = .next t ∧ t.bmu.energyRes = b.energyRes ∧ t.bmu.volumeRes = b.volumeRes ∧ keeps [] t)
      ∧ (b.recordFault = false →
        (∃ t, exec .operatingHour s = .next t ∧ legalWord t.bmu 3 0 = Nat.min 999999 (legalWord b 3 0 + 1)
          ∧ (b.sensorFault = true → legalWord t.bmu 2 0 = Nat.min 999999 (legalWord b 2 0 + 1))
          ∧ keeps (if b.sensorFault then [2, 3] else [3]) t)
        ∧ (setDayDue s = true →
          ∃ t, exec .setDay s = .next t ∧ t.bmu.storedTo = midnight s ∧ setDayDue t = false
            ∧ legalWord t.bmu 5 0 = legalWord b 0 0 ∧ legalWord t.bmu 5 1 = legalWord b 1 0 ∧ legalWord t.bmu 5 2 = midnight s
            ∧ (∀ m w, m < 11 → w < 3 → legalWord t.bmu (6 + m) w = legalWord b (5 + m) w)
            ∧ keeps [5, 6, 7, 8, 9, 10, 11, 12, 13, 14, 15, 16] t)))
    ∧ (setDayDue s = false → exec .setDay s = .next s)
    ∧ (∀ (supply return_ : Int) (ok high : Bool),
      let bad := ok = false ∨ supply < 200 ∨ 10500 < supply ∨ return_ < 200 ∨ 10500 < return_
      let d := supply - return_
      ∃ t, exec (.measurementCycle supply return_ ok high) s = .next t ∧ t.bmu.tSupply = supply ∧ t.bmu.tReturn = return_
        ∧ (t.bmu.sensorFault = true ↔ bad) ∧ t.bmu.flowHigh = high ∧ (t.bmu.dtLow = true ↔ ¬ bad ∧ d < 50)
        ∧ (t.bmu.dtRange = true ↔ ¬ bad ∧ ((50 ≤ d ∧ d < 300) ∨ 7000 < d))
        ∧ t.bmu.energyRes = b.energyRes ∧ t.bmu.volumeRes = b.volumeRes ∧ t.bmu.legal = b.legal ∧ keeps [] t)
    ∧ (∀ n i, i < 17 →
      let c := legalOf b i
      ∃ t, exec (.readSingleBlock n) s = .next t ∧ ChangesOnly [.bmu, .outbox] s t
        ∧ (copyGood c.1 = true → copyGood c.2 = false → legalOf t.bmu i = (c.1, c.1) ∧ t.bmu.repaired = true)
        ∧ (copyGood c.1 = false → copyGood c.2 = true → legalOf t.bmu i = (c.2, c.2) ∧ t.bmu.repaired = true)
        ∧ (copyGood c.1 = true → copyGood c.2 = true → legalOf t.bmu i = c)
        ∧ (copyGood c.1 = false → copyGood c.2 = false → legalOf t.bmu i = c ∧ t.bmu.recordFault = true))

/-- R493, R495, R496, R499, R500: the cover's opening counts in AUDIT and sets ACCESS_OPENED, which its closing clears only after a verifier's
write; the display wakes, turns its pages and goes back after 30 s; the link sends a good frame of the registers each second while aux holds, and
the module's mirror takes a good frame, counts a bad one, and is stale 3 s after the last. -/
def Obligations.CoverDisplayAndLink : Prop :=
  ∀ (s : State),
    let b := s.bmu
    let sound := ∀ i, i < 17 → copyGood (legalOf b i).1 = true ∧ copyGood (legalOf b i).2 = true
    let set := fun (c : Bmu) (t : State) => t.bmu = c ∧ ChangesOnly [.bmu] s t
    let shown := fun (page : Nat) (t : State) => t.bmu = { b with page := page, displayOn := t.bmu.displayOn, pressedAt := t.bmu.pressedAt }
      ∧ ChangesOnly [.bmu, .outbox] s t
    (sound → b.coverOpen = false →
      ∃ t, exec .coverOpen s = .next t ∧ legalWord t.bmu 4 0 = Nat.min 65535 (legalWord b 4 0 + 1) ∧ (∀ i, i ≠ 4 → legalOf t.bmu i = legalOf b i)
        ∧ t.bmu = { b with legal := t.bmu.legal, coverOpen := true, accessOpened := true, openedAt := bmuTime s, verified := false }
        ∧ ChangesOnly [.bmu] s t)
    ∧ (b.coverOpen = true → exec .coverOpen s = .next s
        ∧ ∃ t, exec .coverClose s = .next t
            ∧ set { b with coverOpen := false, accessOpened := b.accessOpened && !b.verified, verified := false } t)
    ∧ (sound →
      (b.displayOn = false → ∃ t, exec .displayButton s = .next t ∧ shown 1 t ∧ t.bmu.displayOn = true ∧ t.bmu.pressedAt = s.now)
      ∧ (b.displayOn = true →
        ∃ t, exec .displayButton s = .next t ∧ t.bmu.displayOn = true ∧ t.bmu.pressedAt = s.now
          ∧ shown (if b.page < 4 then b.page + 1 else if b.page = 4 ∧ errorHolds b = true then 5 else 1) t
          ∧ (∃ v d, t.outbox = .display t.bmu.page v d :: s.outbox
              ∧ (t.bmu.page = 1 → legalWord b 0 0 < 100000000 → v = legalWord b 0 0 ∧ d = 3)
              ∧ (t.bmu.page = 2 → legalWord b 1 0 < 100000000 → v = legalWord b 1 0 ∧ d = 2)
              ∧ (t.bmu.page = 3 → v = Config.legalVer.toNat) ∧ (t.bmu.page = 4 → v = Config.legalChecksum.toNat)))
      ∧ (b.pressedAt + 30 * Config.sec ≤ s.now →
        ∃ t, exec .displayTimeout s = .next t ∧ shown 1 t ∧ t.bmu.displayOn = b.aux ∧ t.bmu.pressedAt = b.pressedAt
          ∧ (b.aux = false → t.outbox = s.outbox)))
    ∧ (∃ t, exec .auxSupplyLoss s = .next t ∧ set { b with aux := false, cellPower := b.cellPower || b.aux } t)
    ∧ (∃ t, exec .auxSupplyReturn s = .next t ∧ set { b with aux := true, displayOn := true } t)
    ∧ (∃ t, exec .cellLow s = .next t ∧ set { b with cellLow := true } t)
    ∧ (sound → b.aux = true → (∀ z, b.sentAt = some z → z + Config.sec ≤ s.now) → b.monthRot < 12 →
      let bytes := (frameBytes (frameBody (bmuTime s) b)).map (fun n => BitVec.ofNat 8 n)
      ∃ t, exec .bmuLinkSend s = .next t ∧ t.outbox = .bmu bytes :: s.outbox
        ∧ t.bmu = { b with frameSeq := b.frameSeq + 1, monthRot := (b.monthRot + 1) % 12, sentAt := some s.now, repaired := false,
                           cellPower := false }
        ∧ ChangesOnly [.bmu, .outbox] s t
        ∧ (let l := bytes.map (·.toNat)
           frameGood l = true ∧ leAt l 2 2 = b.frameSeq.toNat ∧ leAt l 8 4 = legalWord b 0 0 % 2 ^ 32 ∧ leAt l 12 4 = legalWord b 1 0 % 2 ^ 32
           ∧ leAt l 28 2 = statusWord b ∧ leAt l 40 1 = b.monthRot + 1 ∧ leAt l 42 4 = legalWord b (5 + b.monthRot) 0 % 2 ^ 32))
    ∧ (b.aux = false → exec .bmuLinkSend s = .next s)
    ∧ (∀ bytes : List Byte,
      let l := bytes.map (·.toNat)
      let m := s.mirror
      let lost := (leAt l 2 2 + 65536 - m.seq.toNat) % 65536
      (s.power.step < 2 → exec (.bmuFrame bytes) s = .next s)
      ∧ (2 ≤ s.power.step → frameGood l = false →
        ∃ t, exec (.bmuFrame bytes) s = .next t ∧ t.fldOf (U.bmu 0) Off.bmuLink 31 16 = sat 0xFFFF (s.fldOf (U.bmu 0) Off.bmuLink 31 16 + 1)
          ∧ t.fldOf (U.bmu 0) Off.bmuLink 15 0 = s.fldOf (U.bmu 0) Off.bmuLink 15 0
          ∧ ChangesOnly [.regs] s t ∧ RegsOnly [(U.bmu 0, Off.bmuLink)] s t)
      ∧ (2 ≤ s.power.step → frameGood l = true →
        ∃ t, exec (.bmuFrame bytes) s = .next t ∧ t.mirror.present = true ∧ t.mirror.rxAt = s.now ∧ t.mirror.stale = false
          ∧ t.mirror.seq.toNat = leAt l 2 2 ∧ t.mirror.time = leAt l 4 4 ∧ t.mirror.energy = leAt l 8 4 ∧ t.mirror.volume = leAt l 12 4
          ∧ t.mirror.status = leAt l 28 2 ∧ t.mirror.audit = leAt l 30 2
          ∧ (1 ≤ leAt l 40 1 → leAt l 40 1 ≤ 12 →
              mget {} t.mirror.months (leAt l 40 1) = { energy := leAt l 42 4, volume := leAt l 46 4, time := leAt l 50 4 })
          ∧ (∀ k, k ≠ leAt l 40 1 → mget {} t.mirror.months k = mget {} m.months k)
          ∧ t.fldOf (U.bmu 0) Off.bmuLink 15 0 =
              sat 0xFFFF (s.fldOf (U.bmu 0) Off.bmuLink 15 0 + if m.present = true ∧ 1 < lost ∧ lost ≤ 100 then lost - 1 else 0)
          ∧ ChangesOnly [.mirror, .regs] s t ∧ RegsOnly [(U.bmu 0, Off.bmuLink)] s t))
    ∧ (s.mirror.present = true → s.mirror.rxAt + 3 * Config.sec ≤ s.now →
      ∃ t, exec .bmuStale s = .next t ∧ t.mirror = { s.mirror with stale := true } ∧ ChangesOnly [.mirror] s t)

/-- R501 to R503: the Survey port answers an inventory, the system information and the blocks of its map, and another command with error 0x01; AUTH and AUTH_RESP
open a session of 60 s; a JOURNAL_WRITE in it writes the slot not in force, then its CRC, then commits, and where the field or the cover ends it
before the commit the set in force stays; a write without all that changes nothing but the answer. At power-up a set in force whose CRC fails sets
PARAM_FAULT, which stops accumulation, and the other slot is not taken in its place. -/
def Obligations.SurveyPort : Prop :=
  ∀ (s : State),
    let b := s.bmu
    let answered := fun (o : Out) (t : State) => t.outbox = o :: s.outbox
    let uid := [wd Config.surveyUid.toNat, wd (Config.surveyUid.toNat / 2 ^ 32)]
    (∃ t, exec .inventory s = .next t ∧ answered (.survey uid) t ∧ ChangesOnly [.outbox] s t)
    ∧ (∃ t, exec .getSystemInformation s = .next t ∧ answered (.survey (uid ++ [wd Config.surveyBlocks, wd 4])) t ∧ ChangesOnly [.outbox] s t)
    ∧ (∃ t, exec .unsupportedCommand s = .next t ∧ answered (.surveyError 0x01) t ∧ ChangesOnly [.outbox] s t)
    ∧ ((∀ i, i < 17 → copyGood (legalOf b i).1 = true ∧ copyGood (legalOf b i).2 = true) →
      let p := activeParams b
      let reads := fun (n : Nat) (w : Word) => ∃ t, exec (.readSingleBlock n) s = .next t ∧ answered (.survey [w]) t ∧ ChangesOnly [.outbox] s t
      reads 0 (wd (legalWord b 0 0)) ∧ reads 1 (wd (legalWord b 1 0)) ∧ reads 2 (wd (legalWord b 2 0)) ∧ reads 3 (wd (legalWord b 3 0))
      ∧ reads 4 (wd (legalWord b 4 0 * 65536)) ∧ reads 5 (wd (Config.legalVer.toNat * 65536 + Config.legalChecksum.toNat)) ∧ reads 6 (wd (statusWord b)) ∧ reads 7 (wd (bmuTime s)) ∧ reads 8 (wd p.pulseValue)
      ∧ reads 9 (wd (b2n p.flowPos)) ∧ reads 10 (wd p.setDay) ∧ reads 11 p.customer ∧ reads 12 (wd p.seq) ∧ reads 13 (wd b.openedAt)
      ∧ (∀ m w, m < 12 → w < 3 → reads (16 + 3 * m + w) (wd (legalWord b (5 + m) w)))
      ∧ (∀ first count, ∃ t, exec (.readMultipleBlocks first count) s = .next t ∧ ChangesOnly [.outbox] s t
          ∧ answered (.survey ((List.range count).map (fun i => surveyBlock s (first + i)))) t))
    ∧ (∀ n, ∃ t r, exec (.auth n) s = .next t ∧ answered (.surveyNonce r) t ∧ t.bmu = { b with nonce := some n, session := none }
        ∧ ChangesOnly [.bmu, .free, .outbox] s t)
    ∧ (b.nonce ≠ none →
      ∃ t, exec (.authResp true) s = .next t ∧ answered (.survey []) t ∧ t.bmu = { b with nonce := none, session := some s.now }
        ∧ ChangesOnly [.bmu, .outbox] s t)
    ∧ (∀ ok, b.nonce = none ∨ ok = false →
      ∃ t c, exec (.authResp ok) s = .next t ∧ answered (.surveyError c) t ∧ t.bmu = { b with nonce := none } ∧ ChangesOnly [.bmu, .free, .outbox] s t)
    ∧ (∃ t, exec (.surveySessionEnd true) s = .next t ∧ t.bmu = { b with session := none, nonce := none } ∧ ChangesOnly [.bmu] s t)
    ∧ (∀ z, b.session = some z → z + 60 * Config.sec ≤ s.now →
      ∃ t, exec (.surveySessionEnd false) s = .next t ∧ t.bmu = { b with session := none } ∧ ChangesOnly [.bmu] s t)
    ∧ (paramCrc (activeParams b) = (activeParams b).crc → exec (.bmuPowerUp true) s = .next s)
    ∧ (∀ ok, ok = false ∨ paramCrc (activeParams b) ≠ (activeParams b).crc →
      ∃ t, exec (.bmuPowerUp ok) s = .next t ∧ t.bmu = { b with paramFault := true } ∧ ChangesOnly [.bmu] s t)
    ∧ (b.paramFault = true → errCode b = (if b.recordFault then 10 else 20)
        ∧ ∃ t, exec .flowPulse s = .next t ∧ t.bmu.energyRes = b.energyRes ∧ t.bmu.volumeRes = b.volumeRes ∧ ChangesOnly [.bmu] s t)
    ∧ (∀ j : JournalWrite,
      let p := { changedSet j (activeParams b) with crc := paramCrc (changedSet j (activeParams b)) }
      let may := surveyOpen s = true ∧ j.cmacOk = true ∧ (j.kind = 0 → b.coverOpen = true)
      let committed := fun (t : State) => t.bmu.active1 = !b.active1 ∧ activeParams t.bmu = p ∧ t.bmu.paramFault = false
        ∧ (if b.active1 then t.bmu.slot1 else t.bmu.slot0) = activeParams b
        ∧ (j.kind ≠ 0 ∨ b.recordFault = false → t.bmu.legal = b.legal ∧ t.bmu.recordFault = b.recordFault)
        ∧ (j.kind = 0 → b.recordFault = true → ∀ n, n < 17 →
            copyGood (legalOf b n).1 = true ∨ copyGood (legalOf b n).2 = true → legalOf t.bmu n = legalOf b n)
        ∧ (j.kind = 2 → t.bmu.clock = j.w0.toNat ∧ t.bmu.clockAt = s.now) ∧ (j.kind ≠ 2 → t.bmu.clock = b.clock ∧ t.bmu.clockAt = b.clockAt)
        ∧ ChangesOnly [.bmu, .free, .outbox] s t
      let uncommitted := fun (t : State) => activeParams t.bmu = activeParams b ∧ t.bmu.active1 = b.active1 ∧ t.bmu.legal = b.legal
        ∧ t.bmu.paramFault = b.paramFault ∧ t.bmu.clock = b.clock
      (¬ may → ∃ t c, exec (.journalWrite j) s = .next t ∧ answered (.surveyError c) t ∧ t.bmu = b ∧ ChangesOnly [.free, .outbox] s t)
      ∧ (may → 2 < j.kind.toNat → ∃ t, exec (.journalWrite j) s = .next t ∧ answered (.surveyError 0x01) t ∧ ChangesOnly [.outbox] s t)
      ∧ (may → j.kind.toNat ≤ 2 → j.closes = false →
        (j.collapse = none → ∃ t, exec (.journalWrite j) s = .next t ∧ committed t ∧ answered (.survey [wd p.seq]) t ∧ t.bmu.session = b.session
            ∧ (j.kind = 0 → t.bmu.verified = true))
        ∧ (∀ n : Fin 5, j.collapse = some n → n.val ≤ 2 → ∃ t, exec (.journalWrite j) s = .next t ∧ uncommitted t ∧ t.bmu.session = none ∧ ChangesOnly [.bmu] s t)
        ∧ (∀ n : Fin 5, j.collapse = some n → 3 ≤ n.val → ∃ t, exec (.journalWrite j) s = .next t ∧ committed t ∧ t.bmu.session = none ∧ t.outbox = s.outbox))
      ∧ (may → j.kind = 0 → j.closes = true → j.collapse = none →
        ∃ t, exec (.journalWrite j) s = .next t ∧ uncommitted t ∧ answered (.surveyError 0x0F) t ∧ t.bmu.coverOpen = false ∧ ChangesOnly [.bmu, .outbox] s t)
      ∧ (j.kind = 0 → p.pulseValue = j.w0.toNat ∧ p.setDay = (activeParams b).setDay)
      ∧ (j.kind = 1 → p.setDay = fld j.w0 7 0 ∧ p.customer = j.w1 ∧ p.pulseValue = (activeParams b).pulseValue)
      ∧ (j.kind = 2 → p = { activeParams b with seq := p.seq, crc := p.crc }) ∧ p.seq = ((activeParams b).seq + 1) % 2 ^ 32)
end

