-- ==== Sys2Proof/Laws/Maps.lean ====
section
/-! SUPPORT. Laws of the sparse maps: what a read answers after a write, and that a write keeps the canonical form (keys
strictly rise, and no entry holds its key's default). -/

namespace Sys2Proof.Machine

variable {α : Type}

theorem mget_merase_of_ne (d : α) (m : IMap α) {k k' : Nat} (h : k' ≠ k) : mget d (merase m k) k' = mget d m k' := by
  induction m with
  | nil => rfl
  | cons p t ih =>
    obtain ⟨j, v⟩ := p
    by_cases hj : j = k
    · subst hj
      simpa [merase, mget, Ne.symm h] using ih
    · by_cases hk : j = k'
      · simp [merase, mget, hk, h]
      · simpa [merase, mget, hj, hk] using ih

theorem mget_merase_self (d : α) (m : IMap α) (k : Nat) : mget d (merase m k) k = d := by
  induction m with
  | nil => rfl
  | cons p t ih =>
    obtain ⟨j, v⟩ := p
    by_cases hj : j = k
    · simpa [merase, hj] using ih
    · simpa [merase, mget, hj] using ih

theorem mget_minsert_self (d : α) (m : IMap α) (k : Nat) (v : α) (h : ∀ p ∈ m, p.1 ≠ k) : mget d (minsert m k v) k = v := by
  induction m with
  | nil => simp [minsert, mget]
  | cons p t ih =>
    obtain ⟨j, w⟩ := p
    by_cases hj : k ≤ j
    · simp [minsert, mget, hj]
    · have hne : j ≠ k := by omega
      simpa [minsert, mget, hj, hne] using ih (fun p hp => h p (List.mem_cons_of_mem _ hp))

theorem mget_minsert_of_ne (d : α) (m : IMap α) {k k' : Nat} (v : α) (h : k' ≠ k) : mget d (minsert m k v) k' = mget d m k' := by
  induction m with
  | nil => simp [minsert, mget, Ne.symm h]
  | cons p t ih =>
    obtain ⟨j, w⟩ := p
    by_cases hj : k ≤ j
    · simp [minsert, mget, hj, Ne.symm h]
    · simp [minsert, mget, hj, ih]

section writes
variable [DecidableEq α]

/-- A read after a write: the value written at its key, and what was there before at every other key. -/
theorem mget_mset (d : α) (m : IMap α) (k : Nat) (v : α) (k' : Nat) :
    mget d (mset d m k v) k' = if k' = k then v else mget d m k' := by
  by_cases hv : v = d
  · by_cases hk : k' = k
    · subst hk; simp [mset, hv, mget_merase_self]
    · simp [mset, hv, hk, mget_merase_of_ne d m hk]
  · by_cases hk : k' = k
    · subst hk
      simp only [mset, hv, if_false, if_true]
      exact mget_minsert_self d _ _ v (by simp [merase])
    · simp [mset, hv, hk, mget_minsert_of_ne d _ v hk, mget_merase_of_ne d m hk]

@[simp] theorem mget_mset_self (d : α) (m : IMap α) (k : Nat) (v : α) : mget d (mset d m k v) k = v := by simp [mget_mset]

/-- Keys other than the one written read as before, whatever default the reader has. -/
theorem mget_mset_ne (d' d : α) (m : IMap α) (v : α) {k k' : Nat} (h : k' ≠ k) : mget d' (mset d m k v) k' = mget d' m k' := by
  unfold mset
  split
  · exact mget_merase_of_ne d' m h
  · rw [mget_minsert_of_ne d' _ v h, mget_merase_of_ne d' m h]

end writes

/-! ### The canonical form -/

/-- Keys strictly rise, said of the list of keys. -/
theorem msorted_iff (m : IMap α) : msorted m = true ↔ (m.map (·.1)).Pairwise (· < ·) := by
  induction m with
  | nil => simp [msorted]
  | cons p t ih =>
    obtain ⟨k, v⟩ := p
    cases t with
    | nil => simp [msorted]
    | cons q t =>
      obtain ⟨k', w⟩ := q
      show (decide (k < k') && msorted ((k', w) :: t)) = true ↔ List.Pairwise _ (k :: ((k', w) :: t).map (·.1))
      rw [Bool.and_eq_true, ih, decide_eq_true_eq]
      refine Iff.trans ⟨fun h => ⟨?_, h.2⟩, fun h => ⟨h.1 k' (by simp), h.2⟩⟩ List.pairwise_cons.symm
      intro a ha
      rcases List.mem_cons.1 ha with rfl | ha
      · exact h.1
      · exact Nat.lt_trans h.1 ((List.pairwise_cons.1 h.2).1 a ha)

theorem msorted_merase (m : IMap α) (k : Nat) (h : msorted m = true) : msorted (merase m k) = true := by
  rw [msorted_iff] at *
  exact h.sublist ((List.filter_sublist (l := m)).map _)

theorem keys_minsert (m : IMap α) (k : Nat) (v : α) : ∀ j ∈ (minsert m k v).map (·.1), j = k ∨ j ∈ m.map (·.1) := by
  induction m with
  | nil => simp [minsert]
  | cons p t ih =>
    obtain ⟨j, w⟩ := p
    by_cases hj : k ≤ j
    · simp [minsert, hj]
    · intro i hi
      simp only [minsert, hj, if_false, List.map_cons, List.mem_cons] at hi
      rcases hi with rfl | hi
      · exact .inr (by simp)
      · rcases ih i hi with h | h
        · exact .inl h
        · exact .inr (by simp only [List.map_cons, List.mem_cons]; exact .inr h)

theorem msorted_minsert (m : IMap α) (k : Nat) (v : α) (h : msorted m = true) (hk : ∀ p ∈ m, p.1 ≠ k) :
    msorted (minsert m k v) = true := by
  rw [msorted_iff] at *
  induction m with
  | nil => simp [minsert]
  | cons p t ih =>
    obtain ⟨j, w⟩ := p
    have hjk : j ≠ k := hk (j, w) (by simp)
    simp only [List.map_cons, List.pairwise_cons] at h
    by_cases hj : k ≤ j
    · have hlt : k < j := by omega
      simp only [minsert, hj, if_true, List.map_cons, List.pairwise_cons, List.mem_cons]
      refine ⟨?_, h⟩
      rintro a (rfl | ha)
      · exact hlt
      · exact Nat.lt_trans hlt (h.1 a ha)
    · simp only [minsert, hj, if_false, List.map_cons, List.pairwise_cons]
      refine ⟨?_, ih h.2 (fun p hp => hk p (List.mem_cons_of_mem _ hp))⟩
      intro a ha
      rcases keys_minsert t k v a ha with rfl | ha
      · omega
      · exact h.1 a ha

/-- A write keeps the keys strictly rising. -/
theorem msorted_mset [DecidableEq α] (d : α) (m : IMap α) (k : Nat) (v : α) (h : msorted m = true) : msorted (mset d m k v) = true := by
  unfold mset
  split
  · exact msorted_merase m k h
  · exact msorted_minsert _ k v (msorted_merase m k h) (by simp [merase])

theorem mem_minsert (m : IMap α) (k : Nat) (v : α) : ∀ p ∈ minsert m k v, p = (k, v) ∨ p ∈ m := by
  induction m with
  | nil => simp [minsert]
  | cons q t ih =>
    obtain ⟨j, w⟩ := q
    by_cases hj : k ≤ j
    · simp [minsert, hj]
    · intro p hp
      simp only [minsert, hj, if_false, List.mem_cons] at hp
      rcases hp with rfl | hp
      · exact .inr (by simp)
      · exact (ih p hp).imp id (List.mem_cons_of_mem _)

/-- A write leaves no entry that holds the default. -/
theorem mset_no_default [DecidableEq α] (d : α) (m : IMap α) (k : Nat) (v : α) (h : ∀ p ∈ m, p.2 ≠ d) : ∀ p ∈ mset d m k v, p.2 ≠ d := by
  unfold mset
  intro p hp
  split at hp
  · exact h p ((List.mem_filter.1 hp).1)
  · rename_i hv
    rcases mem_minsert _ k v p hp with rfl | hp
    · exact hv
    · exact h p ((List.mem_filter.1 hp).1)

end Sys2Proof.Machine
end

