-- ==== Sys2Proof/Laws/State.lean ====
section
/-! SUPPORT. Every accessor and every write of one part of the state: what it leaves unchanged, field by field, and what a read answers after a write. -/

namespace Sys2Proof.Machine

open Sys2Proof

@[simp] theorem ite_now {c : Prop} [Decidable c] (a b : State) : (if c then a else b).now = if c then a.now else b.now := by split <;> rfl
@[simp] theorem foldl_now {α : Type} (l : List α) (f : State → α → State) (s : State) (h : ∀ a x, (f a x).now = a.now) :
    (l.foldl f s).now = s.now := by
  induction l generalizing s with
  | nil => rfl
  | cons x t ih => simp [ih, h]
@[simp] theorem forEach_now {α : Type} (l : List α) (f : α → State → State) (s : State) (h : ∀ x a, (f x a).now = a.now) :
    (forEach l f s).now = s.now := by simp [forEach, h]
@[simp] theorem foldl_fst_now {α β : Type} (l : List α) (f : State × β → α → State × β) (s : State × β) (h : ∀ a x, (f a x).1.now = a.1.now) :
    (l.foldl f s).1.now = s.1.now := by
  induction l generalizing s with
  | nil => rfl
  | cons x t ih => simp [ih, h]
@[simp] theorem foldl_snd_now {α β : Type} (l : List α) (f : β × State → α → β × State) (s : β × State) (h : ∀ a x, (f a x).2.now = a.2.now) :
    (l.foldl f s).2.now = s.2.now := by
  induction l generalizing s with
  | nil => rfl
  | cons x t ih => simp [ih, h]

@[simp] theorem ite_frame {c : Prop} [Decidable c] (a b : State) : (if c then a else b).frame = if c then a.frame else b.frame := by split <;> rfl
@[simp] theorem foldl_frame {α : Type} (l : List α) (f : State → α → State) (s : State) (h : ∀ a x, (f a x).frame = a.frame) :
    (l.foldl f s).frame = s.frame := by
  induction l generalizing s with
  | nil => rfl
  | cons x t ih => simp [ih, h]
@[simp] theorem forEach_frame {α : Type} (l : List α) (f : α → State → State) (s : State) (h : ∀ x a, (f x a).frame = a.frame) :
    (forEach l f s).frame = s.frame := by simp [forEach, h]
@[simp] theorem foldl_fst_frame {α β : Type} (l : List α) (f : State × β → α → State × β) (s : State × β) (h : ∀ a x, (f a x).1.frame = a.1.frame) :
    (l.foldl f s).1.frame = s.1.frame := by
  induction l generalizing s with
  | nil => rfl
  | cons x t ih => simp [ih, h]
@[simp] theorem foldl_snd_frame {α β : Type} (l : List α) (f : β × State → α → β × State) (s : β × State) (h : ∀ a x, (f a x).2.frame = a.2.frame) :
    (l.foldl f s).2.frame = s.2.frame := by
  induction l generalizing s with
  | nil => rfl
  | cons x t ih => simp [ih, h]

@[simp] theorem ite_free {c : Prop} [Decidable c] (a b : State) : (if c then a else b).free = if c then a.free else b.free := by split <;> rfl
@[simp] theorem foldl_free {α : Type} (l : List α) (f : State → α → State) (s : State) (h : ∀ a x, (f a x).free = a.free) :
    (l.foldl f s).free = s.free := by
  induction l generalizing s with
  | nil => rfl
  | cons x t ih => simp [ih, h]
@[simp] theorem forEach_free {α : Type} (l : List α) (f : α → State → State) (s : State) (h : ∀ x a, (f x a).free = a.free) :
    (forEach l f s).free = s.free := by simp [forEach, h]
@[simp] theorem foldl_fst_free {α β : Type} (l : List α) (f : State × β → α → State × β) (s : State × β) (h : ∀ a x, (f a x).1.free = a.1.free) :
    (l.foldl f s).1.free = s.1.free := by
  induction l generalizing s with
  | nil => rfl
  | cons x t ih => simp [ih, h]
@[simp] theorem foldl_snd_free {α β : Type} (l : List α) (f : β × State → α → β × State) (s : β × State) (h : ∀ a x, (f a x).2.free = a.2.free) :
    (l.foldl f s).2.free = s.2.free := by
  induction l generalizing s with
  | nil => rfl
  | cons x t ih => simp [ih, h]

@[simp] theorem ite_regs {c : Prop} [Decidable c] (a b : State) : (if c then a else b).regs = if c then a.regs else b.regs := by split <;> rfl
@[simp] theorem foldl_regs {α : Type} (l : List α) (f : State → α → State) (s : State) (h : ∀ a x, (f a x).regs = a.regs) :
    (l.foldl f s).regs = s.regs := by
  induction l generalizing s with
  | nil => rfl
  | cons x t ih => simp [ih, h]
@[simp] theorem forEach_regs {α : Type} (l : List α) (f : α → State → State) (s : State) (h : ∀ x a, (f x a).regs = a.regs) :
    (forEach l f s).regs = s.regs := by simp [forEach, h]
@[simp] theorem foldl_fst_regs {α β : Type} (l : List α) (f : State × β → α → State × β) (s : State × β) (h : ∀ a x, (f a x).1.regs = a.1.regs) :
    (l.foldl f s).1.regs = s.1.regs := by
  induction l generalizing s with
  | nil => rfl
  | cons x t ih => simp [ih, h]
@[simp] theorem foldl_snd_regs {α β : Type} (l : List α) (f : β × State → α → β × State) (s : β × State) (h : ∀ a x, (f a x).2.regs = a.2.regs) :
    (l.foldl f s).2.regs = s.2.regs := by
  induction l generalizing s with
  | nil => rfl
  | cons x t ih => simp [ih, h]

@[simp] theorem ite_outbox {c : Prop} [Decidable c] (a b : State) : (if c then a else b).outbox = if c then a.outbox else b.outbox := by split <;> rfl
@[simp] theorem foldl_outbox {α : Type} (l : List α) (f : State → α → State) (s : State) (h : ∀ a x, (f a x).outbox = a.outbox) :
    (l.foldl f s).outbox = s.outbox := by
  induction l generalizing s with
  | nil => rfl
  | cons x t ih => simp [ih, h]
@[simp] theorem forEach_outbox {α : Type} (l : List α) (f : α → State → State) (s : State) (h : ∀ x a, (f x a).outbox = a.outbox) :
    (forEach l f s).outbox = s.outbox := by simp [forEach, h]
@[simp] theorem foldl_fst_outbox {α β : Type} (l : List α) (f : State × β → α → State × β) (s : State × β) (h : ∀ a x, (f a x).1.outbox = a.1.outbox) :
    (l.foldl f s).1.outbox = s.1.outbox := by
  induction l generalizing s with
  | nil => rfl
  | cons x t ih => simp [ih, h]
@[simp] theorem foldl_snd_outbox {α β : Type} (l : List α) (f : β × State → α → β × State) (s : β × State) (h : ∀ a x, (f a x).2.outbox = a.2.outbox) :
    (l.foldl f s).2.outbox = s.2.outbox := by
  induction l generalizing s with
  | nil => rfl
  | cons x t ih => simp [ih, h]

@[simp] theorem ite_vcp {c : Prop} [Decidable c] (a b : State) : (if c then a else b).vcp = if c then a.vcp else b.vcp := by split <;> rfl
@[simp] theorem foldl_vcp {α : Type} (l : List α) (f : State → α → State) (s : State) (h : ∀ a x, (f a x).vcp = a.vcp) :
    (l.foldl f s).vcp = s.vcp := by
  induction l generalizing s with
  | nil => rfl
  | cons x t ih => simp [ih, h]
@[simp] theorem forEach_vcp {α : Type} (l : List α) (f : α → State → State) (s : State) (h : ∀ x a, (f x a).vcp = a.vcp) :
    (forEach l f s).vcp = s.vcp := by simp [forEach, h]
@[simp] theorem foldl_fst_vcp {α β : Type} (l : List α) (f : State × β → α → State × β) (s : State × β) (h : ∀ a x, (f a x).1.vcp = a.1.vcp) :
    (l.foldl f s).1.vcp = s.1.vcp := by
  induction l generalizing s with
  | nil => rfl
  | cons x t ih => simp [ih, h]
@[simp] theorem foldl_snd_vcp {α β : Type} (l : List α) (f : β × State → α → β × State) (s : β × State) (h : ∀ a x, (f a x).2.vcp = a.2.vcp) :
    (l.foldl f s).2.vcp = s.2.vcp := by
  induction l generalizing s with
  | nil => rfl
  | cons x t ih => simp [ih, h]

@[simp] theorem ite_plant {c : Prop} [Decidable c] (a b : State) : (if c then a else b).plant = if c then a.plant else b.plant := by split <;> rfl
@[simp] theorem foldl_plant {α : Type} (l : List α) (f : State → α → State) (s : State) (h : ∀ a x, (f a x).plant = a.plant) :
    (l.foldl f s).plant = s.plant := by
  induction l generalizing s with
  | nil => rfl
  | cons x t ih => simp [ih, h]
@[simp] theorem forEach_plant {α : Type} (l : List α) (f : α → State → State) (s : State) (h : ∀ x a, (f x a).plant = a.plant) :
    (forEach l f s).plant = s.plant := by simp [forEach, h]
@[simp] theorem foldl_fst_plant {α β : Type} (l : List α) (f : State × β → α → State × β) (s : State × β) (h : ∀ a x, (f a x).1.plant = a.1.plant) :
    (l.foldl f s).1.plant = s.1.plant := by
  induction l generalizing s with
  | nil => rfl
  | cons x t ih => simp [ih, h]
@[simp] theorem foldl_snd_plant {α β : Type} (l : List α) (f : β × State → α → β × State) (s : β × State) (h : ∀ a x, (f a x).2.plant = a.2.plant) :
    (l.foldl f s).2.plant = s.2.plant := by
  induction l generalizing s with
  | nil => rfl
  | cons x t ih => simp [ih, h]

@[simp] theorem ite_broker {c : Prop} [Decidable c] (a b : State) : (if c then a else b).broker = if c then a.broker else b.broker := by split <;> rfl
@[simp] theorem foldl_broker {α : Type} (l : List α) (f : State → α → State) (s : State) (h : ∀ a x, (f a x).broker = a.broker) :
    (l.foldl f s).broker = s.broker := by
  induction l generalizing s with
  | nil => rfl
  | cons x t ih => simp [ih, h]
@[simp] theorem forEach_broker {α : Type} (l : List α) (f : α → State → State) (s : State) (h : ∀ x a, (f x a).broker = a.broker) :
    (forEach l f s).broker = s.broker := by simp [forEach, h]
@[simp] theorem foldl_fst_broker {α β : Type} (l : List α) (f : State × β → α → State × β) (s : State × β) (h : ∀ a x, (f a x).1.broker = a.1.broker) :
    (l.foldl f s).1.broker = s.1.broker := by
  induction l generalizing s with
  | nil => rfl
  | cons x t ih => simp [ih, h]
@[simp] theorem foldl_snd_broker {α β : Type} (l : List α) (f : β × State → α → β × State) (s : β × State) (h : ∀ a x, (f a x).2.broker = a.2.broker) :
    (l.foldl f s).2.broker = s.2.broker := by
  induction l generalizing s with
  | nil => rfl
  | cons x t ih => simp [ih, h]

@[simp] theorem ite_valves {c : Prop} [Decidable c] (a b : State) : (if c then a else b).valves = if c then a.valves else b.valves := by split <;> rfl
@[simp] theorem foldl_valves {α : Type} (l : List α) (f : State → α → State) (s : State) (h : ∀ a x, (f a x).valves = a.valves) :
    (l.foldl f s).valves = s.valves := by
  induction l generalizing s with
  | nil => rfl
  | cons x t ih => simp [ih, h]
@[simp] theorem forEach_valves {α : Type} (l : List α) (f : α → State → State) (s : State) (h : ∀ x a, (f x a).valves = a.valves) :
    (forEach l f s).valves = s.valves := by simp [forEach, h]
@[simp] theorem foldl_fst_valves {α β : Type} (l : List α) (f : State × β → α → State × β) (s : State × β) (h : ∀ a x, (f a x).1.valves = a.1.valves) :
    (l.foldl f s).1.valves = s.1.valves := by
  induction l generalizing s with
  | nil => rfl
  | cons x t ih => simp [ih, h]
@[simp] theorem foldl_snd_valves {α β : Type} (l : List α) (f : β × State → α → β × State) (s : β × State) (h : ∀ a x, (f a x).2.valves = a.2.valves) :
    (l.foldl f s).2.valves = s.2.valves := by
  induction l generalizing s with
  | nil => rfl
  | cons x t ih => simp [ih, h]

@[simp] theorem ite_motors {c : Prop} [Decidable c] (a b : State) : (if c then a else b).motors = if c then a.motors else b.motors := by split <;> rfl
@[simp] theorem foldl_motors {α : Type} (l : List α) (f : State → α → State) (s : State) (h : ∀ a x, (f a x).motors = a.motors) :
    (l.foldl f s).motors = s.motors := by
  induction l generalizing s with
  | nil => rfl
  | cons x t ih => simp [ih, h]
@[simp] theorem forEach_motors {α : Type} (l : List α) (f : α → State → State) (s : State) (h : ∀ x a, (f x a).motors = a.motors) :
    (forEach l f s).motors = s.motors := by simp [forEach, h]
@[simp] theorem foldl_fst_motors {α β : Type} (l : List α) (f : State × β → α → State × β) (s : State × β) (h : ∀ a x, (f a x).1.motors = a.1.motors) :
    (l.foldl f s).1.motors = s.1.motors := by
  induction l generalizing s with
  | nil => rfl
  | cons x t ih => simp [ih, h]
@[simp] theorem foldl_snd_motors {α β : Type} (l : List α) (f : β × State → α → β × State) (s : β × State) (h : ∀ a x, (f a x).2.motors = a.2.motors) :
    (l.foldl f s).2.motors = s.2.motors := by
  induction l generalizing s with
  | nil => rfl
  | cons x t ih => simp [ih, h]

@[simp] theorem ite_senses {c : Prop} [Decidable c] (a b : State) : (if c then a else b).senses = if c then a.senses else b.senses := by split <;> rfl
@[simp] theorem foldl_senses {α : Type} (l : List α) (f : State → α → State) (s : State) (h : ∀ a x, (f a x).senses = a.senses) :
    (l.foldl f s).senses = s.senses := by
  induction l generalizing s with
  | nil => rfl
  | cons x t ih => simp [ih, h]
@[simp] theorem forEach_senses {α : Type} (l : List α) (f : α → State → State) (s : State) (h : ∀ x a, (f x a).senses = a.senses) :
    (forEach l f s).senses = s.senses := by simp [forEach, h]
@[simp] theorem foldl_fst_senses {α β : Type} (l : List α) (f : State × β → α → State × β) (s : State × β) (h : ∀ a x, (f a x).1.senses = a.1.senses) :
    (l.foldl f s).1.senses = s.1.senses := by
  induction l generalizing s with
  | nil => rfl
  | cons x t ih => simp [ih, h]
@[simp] theorem foldl_snd_senses {α β : Type} (l : List α) (f : β × State → α → β × State) (s : β × State) (h : ∀ a x, (f a x).2.senses = a.2.senses) :
    (l.foldl f s).2.senses = s.2.senses := by
  induction l generalizing s with
  | nil => rfl
  | cons x t ih => simp [ih, h]

@[simp] theorem ite_pulses {c : Prop} [Decidable c] (a b : State) : (if c then a else b).pulses = if c then a.pulses else b.pulses := by split <;> rfl
@[simp] theorem foldl_pulses {α : Type} (l : List α) (f : State → α → State) (s : State) (h : ∀ a x, (f a x).pulses = a.pulses) :
    (l.foldl f s).pulses = s.pulses := by
  induction l generalizing s with
  | nil => rfl
  | cons x t ih => simp [ih, h]
@[simp] theorem forEach_pulses {α : Type} (l : List α) (f : α → State → State) (s : State) (h : ∀ x a, (f x a).pulses = a.pulses) :
    (forEach l f s).pulses = s.pulses := by simp [forEach, h]
@[simp] theorem foldl_fst_pulses {α β : Type} (l : List α) (f : State × β → α → State × β) (s : State × β) (h : ∀ a x, (f a x).1.pulses = a.1.pulses) :
    (l.foldl f s).1.pulses = s.1.pulses := by
  induction l generalizing s with
  | nil => rfl
  | cons x t ih => simp [ih, h]
@[simp] theorem foldl_snd_pulses {α β : Type} (l : List α) (f : β × State → α → β × State) (s : β × State) (h : ∀ a x, (f a x).2.pulses = a.2.pulses) :
    (l.foldl f s).2.pulses = s.2.pulses := by
  induction l generalizing s with
  | nil => rfl
  | cons x t ih => simp [ih, h]

@[simp] theorem ite_analogs {c : Prop} [Decidable c] (a b : State) : (if c then a else b).analogs = if c then a.analogs else b.analogs := by split <;> rfl
@[simp] theorem foldl_analogs {α : Type} (l : List α) (f : State → α → State) (s : State) (h : ∀ a x, (f a x).analogs = a.analogs) :
    (l.foldl f s).analogs = s.analogs := by
  induction l generalizing s with
  | nil => rfl
  | cons x t ih => simp [ih, h]
@[simp] theorem forEach_analogs {α : Type} (l : List α) (f : α → State → State) (s : State) (h : ∀ x a, (f x a).analogs = a.analogs) :
    (forEach l f s).analogs = s.analogs := by simp [forEach, h]
@[simp] theorem foldl_fst_analogs {α β : Type} (l : List α) (f : State × β → α → State × β) (s : State × β) (h : ∀ a x, (f a x).1.analogs = a.1.analogs) :
    (l.foldl f s).1.analogs = s.1.analogs := by
  induction l generalizing s with
  | nil => rfl
  | cons x t ih => simp [ih, h]
@[simp] theorem foldl_snd_analogs {α β : Type} (l : List α) (f : β × State → α → β × State) (s : β × State) (h : ∀ a x, (f a x).2.analogs = a.2.analogs) :
    (l.foldl f s).2.analogs = s.2.analogs := by
  induction l generalizing s with
  | nil => rfl
  | cons x t ih => simp [ih, h]

@[simp] theorem ite_auxs {c : Prop} [Decidable c] (a b : State) : (if c then a else b).auxs = if c then a.auxs else b.auxs := by split <;> rfl
@[simp] theorem foldl_auxs {α : Type} (l : List α) (f : State → α → State) (s : State) (h : ∀ a x, (f a x).auxs = a.auxs) :
    (l.foldl f s).auxs = s.auxs := by
  induction l generalizing s with
  | nil => rfl
  | cons x t ih => simp [ih, h]
@[simp] theorem forEach_auxs {α : Type} (l : List α) (f : α → State → State) (s : State) (h : ∀ x a, (f x a).auxs = a.auxs) :
    (forEach l f s).auxs = s.auxs := by simp [forEach, h]
@[simp] theorem foldl_fst_auxs {α β : Type} (l : List α) (f : State × β → α → State × β) (s : State × β) (h : ∀ a x, (f a x).1.auxs = a.1.auxs) :
    (l.foldl f s).1.auxs = s.1.auxs := by
  induction l generalizing s with
  | nil => rfl
  | cons x t ih => simp [ih, h]
@[simp] theorem foldl_snd_auxs {α β : Type} (l : List α) (f : β × State → α → β × State) (s : β × State) (h : ∀ a x, (f a x).2.auxs = a.2.auxs) :
    (l.foldl f s).2.auxs = s.2.auxs := by
  induction l generalizing s with
  | nil => rfl
  | cons x t ih => simp [ih, h]

@[simp] theorem ite_cards {c : Prop} [Decidable c] (a b : State) : (if c then a else b).cards = if c then a.cards else b.cards := by split <;> rfl
@[simp] theorem foldl_cards {α : Type} (l : List α) (f : State → α → State) (s : State) (h : ∀ a x, (f a x).cards = a.cards) :
    (l.foldl f s).cards = s.cards := by
  induction l generalizing s with
  | nil => rfl
  | cons x t ih => simp [ih, h]
@[simp] theorem forEach_cards {α : Type} (l : List α) (f : α → State → State) (s : State) (h : ∀ x a, (f x a).cards = a.cards) :
    (forEach l f s).cards = s.cards := by simp [forEach, h]
@[simp] theorem foldl_fst_cards {α β : Type} (l : List α) (f : State × β → α → State × β) (s : State × β) (h : ∀ a x, (f a x).1.cards = a.1.cards) :
    (l.foldl f s).1.cards = s.1.cards := by
  induction l generalizing s with
  | nil => rfl
  | cons x t ih => simp [ih, h]
@[simp] theorem foldl_snd_cards {α β : Type} (l : List α) (f : β × State → α → β × State) (s : β × State) (h : ∀ a x, (f a x).2.cards = a.2.cards) :
    (l.foldl f s).2.cards = s.2.cards := by
  induction l generalizing s with
  | nil => rfl
  | cons x t ih => simp [ih, h]

@[simp] theorem ite_service {c : Prop} [Decidable c] (a b : State) : (if c then a else b).service = if c then a.service else b.service := by split <;> rfl
@[simp] theorem foldl_service {α : Type} (l : List α) (f : State → α → State) (s : State) (h : ∀ a x, (f a x).service = a.service) :
    (l.foldl f s).service = s.service := by
  induction l generalizing s with
  | nil => rfl
  | cons x t ih => simp [ih, h]
@[simp] theorem forEach_service {α : Type} (l : List α) (f : α → State → State) (s : State) (h : ∀ x a, (f x a).service = a.service) :
    (forEach l f s).service = s.service := by simp [forEach, h]
@[simp] theorem foldl_fst_service {α β : Type} (l : List α) (f : State × β → α → State × β) (s : State × β) (h : ∀ a x, (f a x).1.service = a.1.service) :
    (l.foldl f s).1.service = s.1.service := by
  induction l generalizing s with
  | nil => rfl
  | cons x t ih => simp [ih, h]
@[simp] theorem foldl_snd_service {α β : Type} (l : List α) (f : β × State → α → β × State) (s : β × State) (h : ∀ a x, (f a x).2.service = a.2.service) :
    (l.foldl f s).2.service = s.2.service := by
  induction l generalizing s with
  | nil => rfl
  | cons x t ih => simp [ih, h]

@[simp] theorem ite_seqr {c : Prop} [Decidable c] (a b : State) : (if c then a else b).seqr = if c then a.seqr else b.seqr := by split <;> rfl
@[simp] theorem foldl_seqr {α : Type} (l : List α) (f : State → α → State) (s : State) (h : ∀ a x, (f a x).seqr = a.seqr) :
    (l.foldl f s).seqr = s.seqr := by
  induction l generalizing s with
  | nil => rfl
  | cons x t ih => simp [ih, h]
@[simp] theorem forEach_seqr {α : Type} (l : List α) (f : α → State → State) (s : State) (h : ∀ x a, (f x a).seqr = a.seqr) :
    (forEach l f s).seqr = s.seqr := by simp [forEach, h]
@[simp] theorem foldl_fst_seqr {α β : Type} (l : List α) (f : State × β → α → State × β) (s : State × β) (h : ∀ a x, (f a x).1.seqr = a.1.seqr) :
    (l.foldl f s).1.seqr = s.1.seqr := by
  induction l generalizing s with
  | nil => rfl
  | cons x t ih => simp [ih, h]
@[simp] theorem foldl_snd_seqr {α β : Type} (l : List α) (f : β × State → α → β × State) (s : β × State) (h : ∀ a x, (f a x).2.seqr = a.2.seqr) :
    (l.foldl f s).2.seqr = s.2.seqr := by
  induction l generalizing s with
  | nil => rfl
  | cons x t ih => simp [ih, h]

@[simp] theorem ite_dies {c : Prop} [Decidable c] (a b : State) : (if c then a else b).dies = if c then a.dies else b.dies := by split <;> rfl
@[simp] theorem foldl_dies {α : Type} (l : List α) (f : State → α → State) (s : State) (h : ∀ a x, (f a x).dies = a.dies) :
    (l.foldl f s).dies = s.dies := by
  induction l generalizing s with
  | nil => rfl
  | cons x t ih => simp [ih, h]
@[simp] theorem forEach_dies {α : Type} (l : List α) (f : α → State → State) (s : State) (h : ∀ x a, (f x a).dies = a.dies) :
    (forEach l f s).dies = s.dies := by simp [forEach, h]
@[simp] theorem foldl_fst_dies {α β : Type} (l : List α) (f : State × β → α → State × β) (s : State × β) (h : ∀ a x, (f a x).1.dies = a.1.dies) :
    (l.foldl f s).1.dies = s.1.dies := by
  induction l generalizing s with
  | nil => rfl
  | cons x t ih => simp [ih, h]
@[simp] theorem foldl_snd_dies {α β : Type} (l : List α) (f : β × State → α → β × State) (s : β × State) (h : ∀ a x, (f a x).2.dies = a.2.dies) :
    (l.foldl f s).2.dies = s.2.dies := by
  induction l generalizing s with
  | nil => rfl
  | cons x t ih => simp [ih, h]

@[simp] theorem ite_clusters {c : Prop} [Decidable c] (a b : State) : (if c then a else b).clusters = if c then a.clusters else b.clusters := by split <;> rfl
@[simp] theorem foldl_clusters {α : Type} (l : List α) (f : State → α → State) (s : State) (h : ∀ a x, (f a x).clusters = a.clusters) :
    (l.foldl f s).clusters = s.clusters := by
  induction l generalizing s with
  | nil => rfl
  | cons x t ih => simp [ih, h]
@[simp] theorem forEach_clusters {α : Type} (l : List α) (f : α → State → State) (s : State) (h : ∀ x a, (f x a).clusters = a.clusters) :
    (forEach l f s).clusters = s.clusters := by simp [forEach, h]
@[simp] theorem foldl_fst_clusters {α β : Type} (l : List α) (f : State × β → α → State × β) (s : State × β) (h : ∀ a x, (f a x).1.clusters = a.1.clusters) :
    (l.foldl f s).1.clusters = s.1.clusters := by
  induction l generalizing s with
  | nil => rfl
  | cons x t ih => simp [ih, h]
@[simp] theorem foldl_snd_clusters {α β : Type} (l : List α) (f : β × State → α → β × State) (s : β × State) (h : ∀ a x, (f a x).2.clusters = a.2.clusters) :
    (l.foldl f s).2.clusters = s.2.clusters := by
  induction l generalizing s with
  | nil => rfl
  | cons x t ih => simp [ih, h]

@[simp] theorem ite_integ {c : Prop} [Decidable c] (a b : State) : (if c then a else b).integ = if c then a.integ else b.integ := by split <;> rfl
@[simp] theorem foldl_integ {α : Type} (l : List α) (f : State → α → State) (s : State) (h : ∀ a x, (f a x).integ = a.integ) :
    (l.foldl f s).integ = s.integ := by
  induction l generalizing s with
  | nil => rfl
  | cons x t ih => simp [ih, h]
@[simp] theorem forEach_integ {α : Type} (l : List α) (f : α → State → State) (s : State) (h : ∀ x a, (f x a).integ = a.integ) :
    (forEach l f s).integ = s.integ := by simp [forEach, h]
@[simp] theorem foldl_fst_integ {α β : Type} (l : List α) (f : State × β → α → State × β) (s : State × β) (h : ∀ a x, (f a x).1.integ = a.1.integ) :
    (l.foldl f s).1.integ = s.1.integ := by
  induction l generalizing s with
  | nil => rfl
  | cons x t ih => simp [ih, h]
@[simp] theorem foldl_snd_integ {α β : Type} (l : List α) (f : β × State → α → β × State) (s : β × State) (h : ∀ a x, (f a x).2.integ = a.2.integ) :
    (l.foldl f s).2.integ = s.2.integ := by
  induction l generalizing s with
  | nil => rfl
  | cons x t ih => simp [ih, h]

@[simp] theorem ite_copies {c : Prop} [Decidable c] (a b : State) : (if c then a else b).copies = if c then a.copies else b.copies := by split <;> rfl
@[simp] theorem foldl_copies {α : Type} (l : List α) (f : State → α → State) (s : State) (h : ∀ a x, (f a x).copies = a.copies) :
    (l.foldl f s).copies = s.copies := by
  induction l generalizing s with
  | nil => rfl
  | cons x t ih => simp [ih, h]
@[simp] theorem forEach_copies {α : Type} (l : List α) (f : α → State → State) (s : State) (h : ∀ x a, (f x a).copies = a.copies) :
    (forEach l f s).copies = s.copies := by simp [forEach, h]
@[simp] theorem foldl_fst_copies {α β : Type} (l : List α) (f : State × β → α → State × β) (s : State × β) (h : ∀ a x, (f a x).1.copies = a.1.copies) :
    (l.foldl f s).1.copies = s.1.copies := by
  induction l generalizing s with
  | nil => rfl
  | cons x t ih => simp [ih, h]
@[simp] theorem foldl_snd_copies {α β : Type} (l : List α) (f : β × State → α → β × State) (s : β × State) (h : ∀ a x, (f a x).2.copies = a.2.copies) :
    (l.foldl f s).2.copies = s.2.copies := by
  induction l generalizing s with
  | nil => rfl
  | cons x t ih => simp [ih, h]

@[simp] theorem ite_pair {c : Prop} [Decidable c] (a b : State) : (if c then a else b).pair = if c then a.pair else b.pair := by split <;> rfl
@[simp] theorem foldl_pair {α : Type} (l : List α) (f : State → α → State) (s : State) (h : ∀ a x, (f a x).pair = a.pair) :
    (l.foldl f s).pair = s.pair := by
  induction l generalizing s with
  | nil => rfl
  | cons x t ih => simp [ih, h]
@[simp] theorem forEach_pair {α : Type} (l : List α) (f : α → State → State) (s : State) (h : ∀ x a, (f x a).pair = a.pair) :
    (forEach l f s).pair = s.pair := by simp [forEach, h]
@[simp] theorem foldl_fst_pair {α β : Type} (l : List α) (f : State × β → α → State × β) (s : State × β) (h : ∀ a x, (f a x).1.pair = a.1.pair) :
    (l.foldl f s).1.pair = s.1.pair := by
  induction l generalizing s with
  | nil => rfl
  | cons x t ih => simp [ih, h]
@[simp] theorem foldl_snd_pair {α β : Type} (l : List α) (f : β × State → α → β × State) (s : β × State) (h : ∀ a x, (f a x).2.pair = a.2.pair) :
    (l.foldl f s).2.pair = s.2.pair := by
  induction l generalizing s with
  | nil => rfl
  | cons x t ih => simp [ih, h]

@[simp] theorem ite_links {c : Prop} [Decidable c] (a b : State) : (if c then a else b).links = if c then a.links else b.links := by split <;> rfl
@[simp] theorem foldl_links {α : Type} (l : List α) (f : State → α → State) (s : State) (h : ∀ a x, (f a x).links = a.links) :
    (l.foldl f s).links = s.links := by
  induction l generalizing s with
  | nil => rfl
  | cons x t ih => simp [ih, h]
@[simp] theorem forEach_links {α : Type} (l : List α) (f : α → State → State) (s : State) (h : ∀ x a, (f x a).links = a.links) :
    (forEach l f s).links = s.links := by simp [forEach, h]
@[simp] theorem foldl_fst_links {α β : Type} (l : List α) (f : State × β → α → State × β) (s : State × β) (h : ∀ a x, (f a x).1.links = a.1.links) :
    (l.foldl f s).1.links = s.1.links := by
  induction l generalizing s with
  | nil => rfl
  | cons x t ih => simp [ih, h]
@[simp] theorem foldl_snd_links {α β : Type} (l : List α) (f : β × State → α → β × State) (s : β × State) (h : ∀ a x, (f a x).2.links = a.2.links) :
    (l.foldl f s).2.links = s.2.links := by
  induction l generalizing s with
  | nil => rfl
  | cons x t ih => simp [ih, h]

@[simp] theorem ite_hall {c : Prop} [Decidable c] (a b : State) : (if c then a else b).hall = if c then a.hall else b.hall := by split <;> rfl
@[simp] theorem foldl_hall {α : Type} (l : List α) (f : State → α → State) (s : State) (h : ∀ a x, (f a x).hall = a.hall) :
    (l.foldl f s).hall = s.hall := by
  induction l generalizing s with
  | nil => rfl
  | cons x t ih => simp [ih, h]
@[simp] theorem forEach_hall {α : Type} (l : List α) (f : α → State → State) (s : State) (h : ∀ x a, (f x a).hall = a.hall) :
    (forEach l f s).hall = s.hall := by simp [forEach, h]
@[simp] theorem foldl_fst_hall {α β : Type} (l : List α) (f : State × β → α → State × β) (s : State × β) (h : ∀ a x, (f a x).1.hall = a.1.hall) :
    (l.foldl f s).1.hall = s.1.hall := by
  induction l generalizing s with
  | nil => rfl
  | cons x t ih => simp [ih, h]
@[simp] theorem foldl_snd_hall {α β : Type} (l : List α) (f : β × State → α → β × State) (s : β × State) (h : ∀ a x, (f a x).2.hall = a.2.hall) :
    (l.foldl f s).2.hall = s.2.hall := by
  induction l generalizing s with
  | nil => rfl
  | cons x t ih => simp [ih, h]

@[simp] theorem ite_buses {c : Prop} [Decidable c] (a b : State) : (if c then a else b).buses = if c then a.buses else b.buses := by split <;> rfl
@[simp] theorem foldl_buses {α : Type} (l : List α) (f : State → α → State) (s : State) (h : ∀ a x, (f a x).buses = a.buses) :
    (l.foldl f s).buses = s.buses := by
  induction l generalizing s with
  | nil => rfl
  | cons x t ih => simp [ih, h]
@[simp] theorem forEach_buses {α : Type} (l : List α) (f : α → State → State) (s : State) (h : ∀ x a, (f x a).buses = a.buses) :
    (forEach l f s).buses = s.buses := by simp [forEach, h]
@[simp] theorem foldl_fst_buses {α β : Type} (l : List α) (f : State × β → α → State × β) (s : State × β) (h : ∀ a x, (f a x).1.buses = a.1.buses) :
    (l.foldl f s).1.buses = s.1.buses := by
  induction l generalizing s with
  | nil => rfl
  | cons x t ih => simp [ih, h]
@[simp] theorem foldl_snd_buses {α β : Type} (l : List α) (f : β × State → α → β × State) (s : β × State) (h : ∀ a x, (f a x).2.buses = a.2.buses) :
    (l.foldl f s).2.buses = s.2.buses := by
  induction l generalizing s with
  | nil => rfl
  | cons x t ih => simp [ih, h]

@[simp] theorem ite_frameLog {c : Prop} [Decidable c] (a b : State) : (if c then a else b).frameLog = if c then a.frameLog else b.frameLog := by split <;> rfl
@[simp] theorem foldl_frameLog {α : Type} (l : List α) (f : State → α → State) (s : State) (h : ∀ a x, (f a x).frameLog = a.frameLog) :
    (l.foldl f s).frameLog = s.frameLog := by
  induction l generalizing s with
  | nil => rfl
  | cons x t ih => simp [ih, h]
@[simp] theorem forEach_frameLog {α : Type} (l : List α) (f : α → State → State) (s : State) (h : ∀ x a, (f x a).frameLog = a.frameLog) :
    (forEach l f s).frameLog = s.frameLog := by simp [forEach, h]
@[simp] theorem foldl_fst_frameLog {α β : Type} (l : List α) (f : State × β → α → State × β) (s : State × β) (h : ∀ a x, (f a x).1.frameLog = a.1.frameLog) :
    (l.foldl f s).1.frameLog = s.1.frameLog := by
  induction l generalizing s with
  | nil => rfl
  | cons x t ih => simp [ih, h]
@[simp] theorem foldl_snd_frameLog {α β : Type} (l : List α) (f : β × State → α → β × State) (s : β × State) (h : ∀ a x, (f a x).2.frameLog = a.2.frameLog) :
    (l.foldl f s).2.frameLog = s.2.frameLog := by
  induction l generalizing s with
  | nil => rfl
  | cons x t ih => simp [ih, h]

@[simp] theorem ite_power {c : Prop} [Decidable c] (a b : State) : (if c then a else b).power = if c then a.power else b.power := by split <;> rfl
@[simp] theorem foldl_power {α : Type} (l : List α) (f : State → α → State) (s : State) (h : ∀ a x, (f a x).power = a.power) :
    (l.foldl f s).power = s.power := by
  induction l generalizing s with
  | nil => rfl
  | cons x t ih => simp [ih, h]
@[simp] theorem forEach_power {α : Type} (l : List α) (f : α → State → State) (s : State) (h : ∀ x a, (f x a).power = a.power) :
    (forEach l f s).power = s.power := by simp [forEach, h]
@[simp] theorem foldl_fst_power {α β : Type} (l : List α) (f : State × β → α → State × β) (s : State × β) (h : ∀ a x, (f a x).1.power = a.1.power) :
    (l.foldl f s).1.power = s.1.power := by
  induction l generalizing s with
  | nil => rfl
  | cons x t ih => simp [ih, h]
@[simp] theorem foldl_snd_power {α β : Type} (l : List α) (f : β × State → α → β × State) (s : β × State) (h : ∀ a x, (f a x).2.power = a.2.power) :
    (l.foldl f s).2.power = s.2.power := by
  induction l generalizing s with
  | nil => rfl
  | cons x t ih => simp [ih, h]

@[simp] theorem ite_ptp {c : Prop} [Decidable c] (a b : State) : (if c then a else b).ptp = if c then a.ptp else b.ptp := by split <;> rfl
@[simp] theorem foldl_ptp {α : Type} (l : List α) (f : State → α → State) (s : State) (h : ∀ a x, (f a x).ptp = a.ptp) :
    (l.foldl f s).ptp = s.ptp := by
  induction l generalizing s with
  | nil => rfl
  | cons x t ih => simp [ih, h]
@[simp] theorem forEach_ptp {α : Type} (l : List α) (f : α → State → State) (s : State) (h : ∀ x a, (f x a).ptp = a.ptp) :
    (forEach l f s).ptp = s.ptp := by simp [forEach, h]
@[simp] theorem foldl_fst_ptp {α β : Type} (l : List α) (f : State × β → α → State × β) (s : State × β) (h : ∀ a x, (f a x).1.ptp = a.1.ptp) :
    (l.foldl f s).1.ptp = s.1.ptp := by
  induction l generalizing s with
  | nil => rfl
  | cons x t ih => simp [ih, h]
@[simp] theorem foldl_snd_ptp {α β : Type} (l : List α) (f : β × State → α → β × State) (s : β × State) (h : ∀ a x, (f a x).2.ptp = a.2.ptp) :
    (l.foldl f s).2.ptp = s.2.ptp := by
  induction l generalizing s with
  | nil => rfl
  | cons x t ih => simp [ih, h]

@[simp] theorem ite_fans {c : Prop} [Decidable c] (a b : State) : (if c then a else b).fans = if c then a.fans else b.fans := by split <;> rfl
@[simp] theorem foldl_fans {α : Type} (l : List α) (f : State → α → State) (s : State) (h : ∀ a x, (f a x).fans = a.fans) :
    (l.foldl f s).fans = s.fans := by
  induction l generalizing s with
  | nil => rfl
  | cons x t ih => simp [ih, h]
@[simp] theorem forEach_fans {α : Type} (l : List α) (f : α → State → State) (s : State) (h : ∀ x a, (f x a).fans = a.fans) :
    (forEach l f s).fans = s.fans := by simp [forEach, h]
@[simp] theorem foldl_fst_fans {α β : Type} (l : List α) (f : State × β → α → State × β) (s : State × β) (h : ∀ a x, (f a x).1.fans = a.1.fans) :
    (l.foldl f s).1.fans = s.1.fans := by
  induction l generalizing s with
  | nil => rfl
  | cons x t ih => simp [ih, h]
@[simp] theorem foldl_snd_fans {α β : Type} (l : List α) (f : β × State → α → β × State) (s : β × State) (h : ∀ a x, (f a x).2.fans = a.2.fans) :
    (l.foldl f s).2.fans = s.2.fans := by
  induction l generalizing s with
  | nil => rfl
  | cons x t ih => simp [ih, h]

@[simp] theorem ite_upds {c : Prop} [Decidable c] (a b : State) : (if c then a else b).upds = if c then a.upds else b.upds := by split <;> rfl
@[simp] theorem foldl_upds {α : Type} (l : List α) (f : State → α → State) (s : State) (h : ∀ a x, (f a x).upds = a.upds) :
    (l.foldl f s).upds = s.upds := by
  induction l generalizing s with
  | nil => rfl
  | cons x t ih => simp [ih, h]
@[simp] theorem forEach_upds {α : Type} (l : List α) (f : α → State → State) (s : State) (h : ∀ x a, (f x a).upds = a.upds) :
    (forEach l f s).upds = s.upds := by simp [forEach, h]
@[simp] theorem foldl_fst_upds {α β : Type} (l : List α) (f : State × β → α → State × β) (s : State × β) (h : ∀ a x, (f a x).1.upds = a.1.upds) :
    (l.foldl f s).1.upds = s.1.upds := by
  induction l generalizing s with
  | nil => rfl
  | cons x t ih => simp [ih, h]
@[simp] theorem foldl_snd_upds {α β : Type} (l : List α) (f : β × State → α → β × State) (s : β × State) (h : ∀ a x, (f a x).2.upds = a.2.upds) :
    (l.foldl f s).2.upds = s.2.upds := by
  induction l generalizing s with
  | nil => rfl
  | cons x t ih => simp [ih, h]

@[simp] theorem ite_fw {c : Prop} [Decidable c] (a b : State) : (if c then a else b).fw = if c then a.fw else b.fw := by split <;> rfl
@[simp] theorem foldl_fw {α : Type} (l : List α) (f : State → α → State) (s : State) (h : ∀ a x, (f a x).fw = a.fw) :
    (l.foldl f s).fw = s.fw := by
  induction l generalizing s with
  | nil => rfl
  | cons x t ih => simp [ih, h]
@[simp] theorem forEach_fw {α : Type} (l : List α) (f : α → State → State) (s : State) (h : ∀ x a, (f x a).fw = a.fw) :
    (forEach l f s).fw = s.fw := by simp [forEach, h]
@[simp] theorem foldl_fst_fw {α β : Type} (l : List α) (f : State × β → α → State × β) (s : State × β) (h : ∀ a x, (f a x).1.fw = a.1.fw) :
    (l.foldl f s).1.fw = s.1.fw := by
  induction l generalizing s with
  | nil => rfl
  | cons x t ih => simp [ih, h]
@[simp] theorem foldl_snd_fw {α β : Type} (l : List α) (f : β × State → α → β × State) (s : β × State) (h : ∀ a x, (f a x).2.fw = a.2.fw) :
    (l.foldl f s).2.fw = s.2.fw := by
  induction l generalizing s with
  | nil => rfl
  | cons x t ih => simp [ih, h]

@[simp] theorem ite_log {c : Prop} [Decidable c] (a b : State) : (if c then a else b).log = if c then a.log else b.log := by split <;> rfl
@[simp] theorem foldl_log {α : Type} (l : List α) (f : State → α → State) (s : State) (h : ∀ a x, (f a x).log = a.log) :
    (l.foldl f s).log = s.log := by
  induction l generalizing s with
  | nil => rfl
  | cons x t ih => simp [ih, h]
@[simp] theorem forEach_log {α : Type} (l : List α) (f : α → State → State) (s : State) (h : ∀ x a, (f x a).log = a.log) :
    (forEach l f s).log = s.log := by simp [forEach, h]
@[simp] theorem foldl_fst_log {α β : Type} (l : List α) (f : State × β → α → State × β) (s : State × β) (h : ∀ a x, (f a x).1.log = a.1.log) :
    (l.foldl f s).1.log = s.1.log := by
  induction l generalizing s with
  | nil => rfl
  | cons x t ih => simp [ih, h]
@[simp] theorem foldl_snd_log {α β : Type} (l : List α) (f : β × State → α → β × State) (s : β × State) (h : ∀ a x, (f a x).2.log = a.2.log) :
    (l.foldl f s).2.log = s.2.log := by
  induction l generalizing s with
  | nil => rfl
  | cons x t ih => simp [ih, h]

@[simp] theorem ite_bmu {c : Prop} [Decidable c] (a b : State) : (if c then a else b).bmu = if c then a.bmu else b.bmu := by split <;> rfl
@[simp] theorem foldl_bmu {α : Type} (l : List α) (f : State → α → State) (s : State) (h : ∀ a x, (f a x).bmu = a.bmu) :
    (l.foldl f s).bmu = s.bmu := by
  induction l generalizing s with
  | nil => rfl
  | cons x t ih => simp [ih, h]
@[simp] theorem forEach_bmu {α : Type} (l : List α) (f : α → State → State) (s : State) (h : ∀ x a, (f x a).bmu = a.bmu) :
    (forEach l f s).bmu = s.bmu := by simp [forEach, h]
@[simp] theorem foldl_fst_bmu {α β : Type} (l : List α) (f : State × β → α → State × β) (s : State × β) (h : ∀ a x, (f a x).1.bmu = a.1.bmu) :
    (l.foldl f s).1.bmu = s.1.bmu := by
  induction l generalizing s with
  | nil => rfl
  | cons x t ih => simp [ih, h]
@[simp] theorem foldl_snd_bmu {α β : Type} (l : List α) (f : β × State → α → β × State) (s : β × State) (h : ∀ a x, (f a x).2.bmu = a.2.bmu) :
    (l.foldl f s).2.bmu = s.2.bmu := by
  induction l generalizing s with
  | nil => rfl
  | cons x t ih => simp [ih, h]

@[simp] theorem ite_mirror {c : Prop} [Decidable c] (a b : State) : (if c then a else b).mirror = if c then a.mirror else b.mirror := by split <;> rfl
@[simp] theorem foldl_mirror {α : Type} (l : List α) (f : State → α → State) (s : State) (h : ∀ a x, (f a x).mirror = a.mirror) :
    (l.foldl f s).mirror = s.mirror := by
  induction l generalizing s with
  | nil => rfl
  | cons x t ih => simp [ih, h]
@[simp] theorem forEach_mirror {α : Type} (l : List α) (f : α → State → State) (s : State) (h : ∀ x a, (f x a).mirror = a.mirror) :
    (forEach l f s).mirror = s.mirror := by simp [forEach, h]
@[simp] theorem foldl_fst_mirror {α β : Type} (l : List α) (f : State × β → α → State × β) (s : State × β) (h : ∀ a x, (f a x).1.mirror = a.1.mirror) :
    (l.foldl f s).1.mirror = s.1.mirror := by
  induction l generalizing s with
  | nil => rfl
  | cons x t ih => simp [ih, h]
@[simp] theorem foldl_snd_mirror {α β : Type} (l : List α) (f : β × State → α → β × State) (s : β × State) (h : ∀ a x, (f a x).2.mirror = a.2.mirror) :
    (l.foldl f s).2.mirror = s.2.mirror := by
  induction l generalizing s with
  | nil => rfl
  | cons x t ih => simp [ih, h]

@[simp] theorem ite_pending {c : Prop} [Decidable c] (a b : State) : (if c then a else b).pending = if c then a.pending else b.pending := by split <;> rfl
@[simp] theorem foldl_pending {α : Type} (l : List α) (f : State → α → State) (s : State) (h : ∀ a x, (f a x).pending = a.pending) :
    (l.foldl f s).pending = s.pending := by
  induction l generalizing s with
  | nil => rfl
  | cons x t ih => simp [ih, h]
@[simp] theorem forEach_pending {α : Type} (l : List α) (f : α → State → State) (s : State) (h : ∀ x a, (f x a).pending = a.pending) :
    (forEach l f s).pending = s.pending := by simp [forEach, h]
@[simp] theorem foldl_fst_pending {α β : Type} (l : List α) (f : State × β → α → State × β) (s : State × β) (h : ∀ a x, (f a x).1.pending = a.1.pending) :
    (l.foldl f s).1.pending = s.1.pending := by
  induction l generalizing s with
  | nil => rfl
  | cons x t ih => simp [ih, h]
@[simp] theorem foldl_snd_pending {α β : Type} (l : List α) (f : β × State → α → β × State) (s : β × State) (h : ∀ a x, (f a x).2.pending = a.2.pending) :
    (l.foldl f s).2.pending = s.2.pending := by
  induction l generalizing s with
  | nil => rfl
  | cons x t ih => simp [ih, h]

@[simp] theorem State.setReg_frame (s : State) (u off : Nat) (v : Word) :
    (State.setReg s u off v).now = s.now ∧ (State.setReg s u off v).frame = s.frame ∧ (State.setReg s u off v).free = s.free ∧
    (State.setReg s u off v).outbox = s.outbox ∧ (State.setReg s u off v).vcp = s.vcp ∧ (State.setReg s u off v).plant = s.plant ∧
    (State.setReg s u off v).broker = s.broker ∧ (State.setReg s u off v).valves = s.valves ∧ (State.setReg s u off v).motors = s.motors ∧
    (State.setReg s u off v).senses = s.senses ∧ (State.setReg s u off v).pulses = s.pulses ∧ (State.setReg s u off v).analogs = s.analogs ∧
    (State.setReg s u off v).auxs = s.auxs ∧ (State.setReg s u off v).cards = s.cards ∧ (State.setReg s u off v).service = s.service ∧
    (State.setReg s u off v).seqr = s.seqr ∧ (State.setReg s u off v).dies = s.dies ∧ (State.setReg s u off v).clusters = s.clusters ∧
    (State.setReg s u off v).integ = s.integ ∧ (State.setReg s u off v).copies = s.copies ∧ (State.setReg s u off v).pair = s.pair ∧
    (State.setReg s u off v).links = s.links ∧ (State.setReg s u off v).hall = s.hall ∧ (State.setReg s u off v).buses = s.buses ∧
    (State.setReg s u off v).frameLog = s.frameLog ∧ (State.setReg s u off v).power = s.power ∧ (State.setReg s u off v).ptp = s.ptp ∧
    (State.setReg s u off v).fans = s.fans ∧ (State.setReg s u off v).upds = s.upds ∧ (State.setReg s u off v).fw = s.fw ∧
    (State.setReg s u off v).log = s.log ∧ (State.setReg s u off v).bmu = s.bmu ∧ (State.setReg s u off v).mirror = s.mirror ∧
    (State.setReg s u off v).pending = s.pending := by
  exact ⟨rfl, rfl, rfl, rfl, rfl, rfl, rfl, rfl, rfl, rfl, rfl, rfl, rfl, rfl, rfl, rfl, rfl, rfl, rfl, rfl, rfl, rfl, rfl, rfl, rfl, rfl, rfl, rfl, rfl, rfl, rfl, rfl, rfl, rfl⟩

@[simp] theorem State.setEvent_frame (s : State) (u off n : Nat) :
    (State.setEvent s u off n).now = s.now ∧ (State.setEvent s u off n).frame = s.frame ∧ (State.setEvent s u off n).free = s.free ∧
    (State.setEvent s u off n).outbox = s.outbox ∧ (State.setEvent s u off n).vcp = s.vcp ∧ (State.setEvent s u off n).plant = s.plant ∧
    (State.setEvent s u off n).broker = s.broker ∧ (State.setEvent s u off n).valves = s.valves ∧
    (State.setEvent s u off n).motors = s.motors ∧ (State.setEvent s u off n).senses = s.senses ∧
    (State.setEvent s u off n).pulses = s.pulses ∧ (State.setEvent s u off n).analogs = s.analogs ∧
    (State.setEvent s u off n).auxs = s.auxs ∧ (State.setEvent s u off n).cards = s.cards ∧ (State.setEvent s u off n).service = s.service ∧
    (State.setEvent s u off n).seqr = s.seqr ∧ (State.setEvent s u off n).dies = s.dies ∧ (State.setEvent s u off n).clusters = s.clusters ∧
    (State.setEvent s u off n).integ = s.integ ∧ (State.setEvent s u off n).copies = s.copies ∧ (State.setEvent s u off n).pair = s.pair ∧
    (State.setEvent s u off n).links = s.links ∧ (State.setEvent s u off n).hall = s.hall ∧ (State.setEvent s u off n).buses = s.buses ∧
    (State.setEvent s u off n).frameLog = s.frameLog ∧ (State.setEvent s u off n).power = s.power ∧ (State.setEvent s u off n).ptp = s.ptp ∧
    (State.setEvent s u off n).fans = s.fans ∧ (State.setEvent s u off n).upds = s.upds ∧ (State.setEvent s u off n).fw = s.fw ∧
    (State.setEvent s u off n).log = s.log ∧ (State.setEvent s u off n).bmu = s.bmu ∧ (State.setEvent s u off n).mirror = s.mirror ∧
    (State.setEvent s u off n).pending = s.pending := by
  exact ⟨rfl, rfl, rfl, rfl, rfl, rfl, rfl, rfl, rfl, rfl, rfl, rfl, rfl, rfl, rfl, rfl, rfl, rfl, rfl, rfl, rfl, rfl, rfl, rfl, rfl, rfl, rfl, rfl, rfl, rfl, rfl, rfl, rfl, rfl⟩

@[simp] theorem State.addCount_frame (s : State) (u off hi lo k : Nat) :
    (State.addCount s u off hi lo k).now = s.now ∧ (State.addCount s u off hi lo k).frame = s.frame ∧
    (State.addCount s u off hi lo k).free = s.free ∧ (State.addCount s u off hi lo k).outbox = s.outbox ∧
    (State.addCount s u off hi lo k).vcp = s.vcp ∧ (State.addCount s u off hi lo k).plant = s.plant ∧
    (State.addCount s u off hi lo k).broker = s.broker ∧ (State.addCount s u off hi lo k).valves = s.valves ∧
    (State.addCount s u off hi lo k).motors = s.motors ∧ (State.addCount s u off hi lo k).senses = s.senses ∧
    (State.addCount s u off hi lo k).pulses = s.pulses ∧ (State.addCount s u off hi lo k).analogs = s.analogs ∧
    (State.addCount s u off hi lo k).auxs = s.auxs ∧ (State.addCount s u off hi lo k).cards = s.cards ∧
    (State.addCount s u off hi lo k).service = s.service ∧ (State.addCount s u off hi lo k).seqr = s.seqr ∧
    (State.addCount s u off hi lo k).dies = s.dies ∧ (State.addCount s u off hi lo k).clusters = s.clusters ∧
    (State.addCount s u off hi lo k).integ = s.integ ∧ (State.addCount s u off hi lo k).copies = s.copies ∧
    (State.addCount s u off hi lo k).pair = s.pair ∧ (State.addCount s u off hi lo k).links = s.links ∧
    (State.addCount s u off hi lo k).hall = s.hall ∧ (State.addCount s u off hi lo k).buses = s.buses ∧
    (State.addCount s u off hi lo k).frameLog = s.frameLog ∧ (State.addCount s u off hi lo k).power = s.power ∧
    (State.addCount s u off hi lo k).ptp = s.ptp ∧ (State.addCount s u off hi lo k).fans = s.fans ∧
    (State.addCount s u off hi lo k).upds = s.upds ∧ (State.addCount s u off hi lo k).fw = s.fw ∧
    (State.addCount s u off hi lo k).log = s.log ∧ (State.addCount s u off hi lo k).bmu = s.bmu ∧
    (State.addCount s u off hi lo k).mirror = s.mirror ∧ (State.addCount s u off hi lo k).pending = s.pending := by
  exact ⟨rfl, rfl, rfl, rfl, rfl, rfl, rfl, rfl, rfl, rfl, rfl, rfl, rfl, rfl, rfl, rfl, rfl, rfl, rfl, rfl, rfl, rfl, rfl, rfl, rfl, rfl, rfl, rfl, rfl, rfl, rfl, rfl, rfl, rfl⟩

@[simp] theorem State.setValve_frame (s : State) (k : Nat) (v : Valve) :
    (State.setValve s k v).now = s.now ∧ (State.setValve s k v).frame = s.frame ∧ (State.setValve s k v).free = s.free ∧
    (State.setValve s k v).regs = s.regs ∧ (State.setValve s k v).outbox = s.outbox ∧ (State.setValve s k v).vcp = s.vcp ∧
    (State.setValve s k v).plant = s.plant ∧ (State.setValve s k v).broker = s.broker ∧ (State.setValve s k v).motors = s.motors ∧
    (State.setValve s k v).senses = s.senses ∧ (State.setValve s k v).pulses = s.pulses ∧ (State.setValve s k v).analogs = s.analogs ∧
    (State.setValve s k v).auxs = s.auxs ∧ (State.setValve s k v).cards = s.cards ∧ (State.setValve s k v).service = s.service ∧
    (State.setValve s k v).seqr = s.seqr ∧ (State.setValve s k v).dies = s.dies ∧ (State.setValve s k v).clusters = s.clusters ∧
    (State.setValve s k v).integ = s.integ ∧ (State.setValve s k v).copies = s.copies ∧ (State.setValve s k v).pair = s.pair ∧
    (State.setValve s k v).links = s.links ∧ (State.setValve s k v).hall = s.hall ∧ (State.setValve s k v).buses = s.buses ∧
    (State.setValve s k v).frameLog = s.frameLog ∧ (State.setValve s k v).power = s.power ∧ (State.setValve s k v).ptp = s.ptp ∧
    (State.setValve s k v).fans = s.fans ∧ (State.setValve s k v).upds = s.upds ∧ (State.setValve s k v).fw = s.fw ∧
    (State.setValve s k v).log = s.log ∧ (State.setValve s k v).bmu = s.bmu ∧ (State.setValve s k v).mirror = s.mirror ∧
    (State.setValve s k v).pending = s.pending := by
  exact ⟨rfl, rfl, rfl, rfl, rfl, rfl, rfl, rfl, rfl, rfl, rfl, rfl, rfl, rfl, rfl, rfl, rfl, rfl, rfl, rfl, rfl, rfl, rfl, rfl, rfl, rfl, rfl, rfl, rfl, rfl, rfl, rfl, rfl, rfl⟩

@[simp] theorem State.modValve_frame (s : State) (k : Nat) (g : Valve → Valve) :
    (State.modValve s k g).now = s.now ∧ (State.modValve s k g).frame = s.frame ∧ (State.modValve s k g).free = s.free ∧
    (State.modValve s k g).regs = s.regs ∧ (State.modValve s k g).outbox = s.outbox ∧ (State.modValve s k g).vcp = s.vcp ∧
    (State.modValve s k g).plant = s.plant ∧ (State.modValve s k g).broker = s.broker ∧ (State.modValve s k g).motors = s.motors ∧
    (State.modValve s k g).senses = s.senses ∧ (State.modValve s k g).pulses = s.pulses ∧ (State.modValve s k g).analogs = s.analogs ∧
    (State.modValve s k g).auxs = s.auxs ∧ (State.modValve s k g).cards = s.cards ∧ (State.modValve s k g).service = s.service ∧
    (State.modValve s k g).seqr = s.seqr ∧ (State.modValve s k g).dies = s.dies ∧ (State.modValve s k g).clusters = s.clusters ∧
    (State.modValve s k g).integ = s.integ ∧ (State.modValve s k g).copies = s.copies ∧ (State.modValve s k g).pair = s.pair ∧
    (State.modValve s k g).links = s.links ∧ (State.modValve s k g).hall = s.hall ∧ (State.modValve s k g).buses = s.buses ∧
    (State.modValve s k g).frameLog = s.frameLog ∧ (State.modValve s k g).power = s.power ∧ (State.modValve s k g).ptp = s.ptp ∧
    (State.modValve s k g).fans = s.fans ∧ (State.modValve s k g).upds = s.upds ∧ (State.modValve s k g).fw = s.fw ∧
    (State.modValve s k g).log = s.log ∧ (State.modValve s k g).bmu = s.bmu ∧ (State.modValve s k g).mirror = s.mirror ∧
    (State.modValve s k g).pending = s.pending := by
  exact ⟨rfl, rfl, rfl, rfl, rfl, rfl, rfl, rfl, rfl, rfl, rfl, rfl, rfl, rfl, rfl, rfl, rfl, rfl, rfl, rfl, rfl, rfl, rfl, rfl, rfl, rfl, rfl, rfl, rfl, rfl, rfl, rfl, rfl, rfl⟩

@[simp] theorem State.setMotor_frame (s : State) (k : Nat) (v : Motor) :
    (State.setMotor s k v).now = s.now ∧ (State.setMotor s k v).frame = s.frame ∧ (State.setMotor s k v).free = s.free ∧
    (State.setMotor s k v).regs = s.regs ∧ (State.setMotor s k v).outbox = s.outbox ∧ (State.setMotor s k v).vcp = s.vcp ∧
    (State.setMotor s k v).plant = s.plant ∧ (State.setMotor s k v).broker = s.broker ∧ (State.setMotor s k v).valves = s.valves ∧
    (State.setMotor s k v).senses = s.senses ∧ (State.setMotor s k v).pulses = s.pulses ∧ (State.setMotor s k v).analogs = s.analogs ∧
    (State.setMotor s k v).auxs = s.auxs ∧ (State.setMotor s k v).cards = s.cards ∧ (State.setMotor s k v).service = s.service ∧
    (State.setMotor s k v).seqr = s.seqr ∧ (State.setMotor s k v).dies = s.dies ∧ (State.setMotor s k v).clusters = s.clusters ∧
    (State.setMotor s k v).integ = s.integ ∧ (State.setMotor s k v).copies = s.copies ∧ (State.setMotor s k v).pair = s.pair ∧
    (State.setMotor s k v).links = s.links ∧ (State.setMotor s k v).hall = s.hall ∧ (State.setMotor s k v).buses = s.buses ∧
    (State.setMotor s k v).frameLog = s.frameLog ∧ (State.setMotor s k v).power = s.power ∧ (State.setMotor s k v).ptp = s.ptp ∧
    (State.setMotor s k v).fans = s.fans ∧ (State.setMotor s k v).upds = s.upds ∧ (State.setMotor s k v).fw = s.fw ∧
    (State.setMotor s k v).log = s.log ∧ (State.setMotor s k v).bmu = s.bmu ∧ (State.setMotor s k v).mirror = s.mirror ∧
    (State.setMotor s k v).pending = s.pending := by
  exact ⟨rfl, rfl, rfl, rfl, rfl, rfl, rfl, rfl, rfl, rfl, rfl, rfl, rfl, rfl, rfl, rfl, rfl, rfl, rfl, rfl, rfl, rfl, rfl, rfl, rfl, rfl, rfl, rfl, rfl, rfl, rfl, rfl, rfl, rfl⟩

@[simp] theorem State.modMotor_frame (s : State) (k : Nat) (g : Motor → Motor) :
    (State.modMotor s k g).now = s.now ∧ (State.modMotor s k g).frame = s.frame ∧ (State.modMotor s k g).free = s.free ∧
    (State.modMotor s k g).regs = s.regs ∧ (State.modMotor s k g).outbox = s.outbox ∧ (State.modMotor s k g).vcp = s.vcp ∧
    (State.modMotor s k g).plant = s.plant ∧ (State.modMotor s k g).broker = s.broker ∧ (State.modMotor s k g).valves = s.valves ∧
    (State.modMotor s k g).senses = s.senses ∧ (State.modMotor s k g).pulses = s.pulses ∧ (State.modMotor s k g).analogs = s.analogs ∧
    (State.modMotor s k g).auxs = s.auxs ∧ (State.modMotor s k g).cards = s.cards ∧ (State.modMotor s k g).service = s.service ∧
    (State.modMotor s k g).seqr = s.seqr ∧ (State.modMotor s k g).dies = s.dies ∧ (State.modMotor s k g).clusters = s.clusters ∧
    (State.modMotor s k g).integ = s.integ ∧ (State.modMotor s k g).copies = s.copies ∧ (State.modMotor s k g).pair = s.pair ∧
    (State.modMotor s k g).links = s.links ∧ (State.modMotor s k g).hall = s.hall ∧ (State.modMotor s k g).buses = s.buses ∧
    (State.modMotor s k g).frameLog = s.frameLog ∧ (State.modMotor s k g).power = s.power ∧ (State.modMotor s k g).ptp = s.ptp ∧
    (State.modMotor s k g).fans = s.fans ∧ (State.modMotor s k g).upds = s.upds ∧ (State.modMotor s k g).fw = s.fw ∧
    (State.modMotor s k g).log = s.log ∧ (State.modMotor s k g).bmu = s.bmu ∧ (State.modMotor s k g).mirror = s.mirror ∧
    (State.modMotor s k g).pending = s.pending := by
  exact ⟨rfl, rfl, rfl, rfl, rfl, rfl, rfl, rfl, rfl, rfl, rfl, rfl, rfl, rfl, rfl, rfl, rfl, rfl, rfl, rfl, rfl, rfl, rfl, rfl, rfl, rfl, rfl, rfl, rfl, rfl, rfl, rfl, rfl, rfl⟩

@[simp] theorem State.setSense_frame (s : State) (k : Nat) (v : Sense) :
    (State.setSense s k v).now = s.now ∧ (State.setSense s k v).frame = s.frame ∧ (State.setSense s k v).free = s.free ∧
    (State.setSense s k v).regs = s.regs ∧ (State.setSense s k v).outbox = s.outbox ∧ (State.setSense s k v).vcp = s.vcp ∧
    (State.setSense s k v).plant = s.plant ∧ (State.setSense s k v).broker = s.broker ∧ (State.setSense s k v).valves = s.valves ∧
    (State.setSense s k v).motors = s.motors ∧ (State.setSense s k v).pulses = s.pulses ∧ (State.setSense s k v).analogs = s.analogs ∧
    (State.setSense s k v).auxs = s.auxs ∧ (State.setSense s k v).cards = s.cards ∧ (State.setSense s k v).service = s.service ∧
    (State.setSense s k v).seqr = s.seqr ∧ (State.setSense s k v).dies = s.dies ∧ (State.setSense s k v).clusters = s.clusters ∧
    (State.setSense s k v).integ = s.integ ∧ (State.setSense s k v).copies = s.copies ∧ (State.setSense s k v).pair = s.pair ∧
    (State.setSense s k v).links = s.links ∧ (State.setSense s k v).hall = s.hall ∧ (State.setSense s k v).buses = s.buses ∧
    (State.setSense s k v).frameLog = s.frameLog ∧ (State.setSense s k v).power = s.power ∧ (State.setSense s k v).ptp = s.ptp ∧
    (State.setSense s k v).fans = s.fans ∧ (State.setSense s k v).upds = s.upds ∧ (State.setSense s k v).fw = s.fw ∧
    (State.setSense s k v).log = s.log ∧ (State.setSense s k v).bmu = s.bmu ∧ (State.setSense s k v).mirror = s.mirror ∧
    (State.setSense s k v).pending = s.pending := by
  exact ⟨rfl, rfl, rfl, rfl, rfl, rfl, rfl, rfl, rfl, rfl, rfl, rfl, rfl, rfl, rfl, rfl, rfl, rfl, rfl, rfl, rfl, rfl, rfl, rfl, rfl, rfl, rfl, rfl, rfl, rfl, rfl, rfl, rfl, rfl⟩

@[simp] theorem State.modSense_frame (s : State) (k : Nat) (g : Sense → Sense) :
    (State.modSense s k g).now = s.now ∧ (State.modSense s k g).frame = s.frame ∧ (State.modSense s k g).free = s.free ∧
    (State.modSense s k g).regs = s.regs ∧ (State.modSense s k g).outbox = s.outbox ∧ (State.modSense s k g).vcp = s.vcp ∧
    (State.modSense s k g).plant = s.plant ∧ (State.modSense s k g).broker = s.broker ∧ (State.modSense s k g).valves = s.valves ∧
    (State.modSense s k g).motors = s.motors ∧ (State.modSense s k g).pulses = s.pulses ∧ (State.modSense s k g).analogs = s.analogs ∧
    (State.modSense s k g).auxs = s.auxs ∧ (State.modSense s k g).cards = s.cards ∧ (State.modSense s k g).service = s.service ∧
    (State.modSense s k g).seqr = s.seqr ∧ (State.modSense s k g).dies = s.dies ∧ (State.modSense s k g).clusters = s.clusters ∧
    (State.modSense s k g).integ = s.integ ∧ (State.modSense s k g).copies = s.copies ∧ (State.modSense s k g).pair = s.pair ∧
    (State.modSense s k g).links = s.links ∧ (State.modSense s k g).hall = s.hall ∧ (State.modSense s k g).buses = s.buses ∧
    (State.modSense s k g).frameLog = s.frameLog ∧ (State.modSense s k g).power = s.power ∧ (State.modSense s k g).ptp = s.ptp ∧
    (State.modSense s k g).fans = s.fans ∧ (State.modSense s k g).upds = s.upds ∧ (State.modSense s k g).fw = s.fw ∧
    (State.modSense s k g).log = s.log ∧ (State.modSense s k g).bmu = s.bmu ∧ (State.modSense s k g).mirror = s.mirror ∧
    (State.modSense s k g).pending = s.pending := by
  exact ⟨rfl, rfl, rfl, rfl, rfl, rfl, rfl, rfl, rfl, rfl, rfl, rfl, rfl, rfl, rfl, rfl, rfl, rfl, rfl, rfl, rfl, rfl, rfl, rfl, rfl, rfl, rfl, rfl, rfl, rfl, rfl, rfl, rfl, rfl⟩

@[simp] theorem State.setPulse_frame (s : State) (k : Nat) (v : Pulse) :
    (State.setPulse s k v).now = s.now ∧ (State.setPulse s k v).frame = s.frame ∧ (State.setPulse s k v).free = s.free ∧
    (State.setPulse s k v).regs = s.regs ∧ (State.setPulse s k v).outbox = s.outbox ∧ (State.setPulse s k v).vcp = s.vcp ∧
    (State.setPulse s k v).plant = s.plant ∧ (State.setPulse s k v).broker = s.broker ∧ (State.setPulse s k v).valves = s.valves ∧
    (State.setPulse s k v).motors = s.motors ∧ (State.setPulse s k v).senses = s.senses ∧ (State.setPulse s k v).analogs = s.analogs ∧
    (State.setPulse s k v).auxs = s.auxs ∧ (State.setPulse s k v).cards = s.cards ∧ (State.setPulse s k v).service = s.service ∧
    (State.setPulse s k v).seqr = s.seqr ∧ (State.setPulse s k v).dies = s.dies ∧ (State.setPulse s k v).clusters = s.clusters ∧
    (State.setPulse s k v).integ = s.integ ∧ (State.setPulse s k v).copies = s.copies ∧ (State.setPulse s k v).pair = s.pair ∧
    (State.setPulse s k v).links = s.links ∧ (State.setPulse s k v).hall = s.hall ∧ (State.setPulse s k v).buses = s.buses ∧
    (State.setPulse s k v).frameLog = s.frameLog ∧ (State.setPulse s k v).power = s.power ∧ (State.setPulse s k v).ptp = s.ptp ∧
    (State.setPulse s k v).fans = s.fans ∧ (State.setPulse s k v).upds = s.upds ∧ (State.setPulse s k v).fw = s.fw ∧
    (State.setPulse s k v).log = s.log ∧ (State.setPulse s k v).bmu = s.bmu ∧ (State.setPulse s k v).mirror = s.mirror ∧
    (State.setPulse s k v).pending = s.pending := by
  exact ⟨rfl, rfl, rfl, rfl, rfl, rfl, rfl, rfl, rfl, rfl, rfl, rfl, rfl, rfl, rfl, rfl, rfl, rfl, rfl, rfl, rfl, rfl, rfl, rfl, rfl, rfl, rfl, rfl, rfl, rfl, rfl, rfl, rfl, rfl⟩

@[simp] theorem State.modPulse_frame (s : State) (k : Nat) (g : Pulse → Pulse) :
    (State.modPulse s k g).now = s.now ∧ (State.modPulse s k g).frame = s.frame ∧ (State.modPulse s k g).free = s.free ∧
    (State.modPulse s k g).regs = s.regs ∧ (State.modPulse s k g).outbox = s.outbox ∧ (State.modPulse s k g).vcp = s.vcp ∧
    (State.modPulse s k g).plant = s.plant ∧ (State.modPulse s k g).broker = s.broker ∧ (State.modPulse s k g).valves = s.valves ∧
    (State.modPulse s k g).motors = s.motors ∧ (State.modPulse s k g).senses = s.senses ∧ (State.modPulse s k g).analogs = s.analogs ∧
    (State.modPulse s k g).auxs = s.auxs ∧ (State.modPulse s k g).cards = s.cards ∧ (State.modPulse s k g).service = s.service ∧
    (State.modPulse s k g).seqr = s.seqr ∧ (State.modPulse s k g).dies = s.dies ∧ (State.modPulse s k g).clusters = s.clusters ∧
    (State.modPulse s k g).integ = s.integ ∧ (State.modPulse s k g).copies = s.copies ∧ (State.modPulse s k g).pair = s.pair ∧
    (State.modPulse s k g).links = s.links ∧ (State.modPulse s k g).hall = s.hall ∧ (State.modPulse s k g).buses = s.buses ∧
    (State.modPulse s k g).frameLog = s.frameLog ∧ (State.modPulse s k g).power = s.power ∧ (State.modPulse s k g).ptp = s.ptp ∧
    (State.modPulse s k g).fans = s.fans ∧ (State.modPulse s k g).upds = s.upds ∧ (State.modPulse s k g).fw = s.fw ∧
    (State.modPulse s k g).log = s.log ∧ (State.modPulse s k g).bmu = s.bmu ∧ (State.modPulse s k g).mirror = s.mirror ∧
    (State.modPulse s k g).pending = s.pending := by
  exact ⟨rfl, rfl, rfl, rfl, rfl, rfl, rfl, rfl, rfl, rfl, rfl, rfl, rfl, rfl, rfl, rfl, rfl, rfl, rfl, rfl, rfl, rfl, rfl, rfl, rfl, rfl, rfl, rfl, rfl, rfl, rfl, rfl, rfl, rfl⟩

@[simp] theorem State.setAnalog_frame (s : State) (k : Nat) (v : Analog) :
    (State.setAnalog s k v).now = s.now ∧ (State.setAnalog s k v).frame = s.frame ∧ (State.setAnalog s k v).free = s.free ∧
    (State.setAnalog s k v).regs = s.regs ∧ (State.setAnalog s k v).outbox = s.outbox ∧ (State.setAnalog s k v).vcp = s.vcp ∧
    (State.setAnalog s k v).plant = s.plant ∧ (State.setAnalog s k v).broker = s.broker ∧ (State.setAnalog s k v).valves = s.valves ∧
    (State.setAnalog s k v).motors = s.motors ∧ (State.setAnalog s k v).senses = s.senses ∧ (State.setAnalog s k v).pulses = s.pulses ∧
    (State.setAnalog s k v).auxs = s.auxs ∧ (State.setAnalog s k v).cards = s.cards ∧ (State.setAnalog s k v).service = s.service ∧
    (State.setAnalog s k v).seqr = s.seqr ∧ (State.setAnalog s k v).dies = s.dies ∧ (State.setAnalog s k v).clusters = s.clusters ∧
    (State.setAnalog s k v).integ = s.integ ∧ (State.setAnalog s k v).copies = s.copies ∧ (State.setAnalog s k v).pair = s.pair ∧
    (State.setAnalog s k v).links = s.links ∧ (State.setAnalog s k v).hall = s.hall ∧ (State.setAnalog s k v).buses = s.buses ∧
    (State.setAnalog s k v).frameLog = s.frameLog ∧ (State.setAnalog s k v).power = s.power ∧ (State.setAnalog s k v).ptp = s.ptp ∧
    (State.setAnalog s k v).fans = s.fans ∧ (State.setAnalog s k v).upds = s.upds ∧ (State.setAnalog s k v).fw = s.fw ∧
    (State.setAnalog s k v).log = s.log ∧ (State.setAnalog s k v).bmu = s.bmu ∧ (State.setAnalog s k v).mirror = s.mirror ∧
    (State.setAnalog s k v).pending = s.pending := by
  exact ⟨rfl, rfl, rfl, rfl, rfl, rfl, rfl, rfl, rfl, rfl, rfl, rfl, rfl, rfl, rfl, rfl, rfl, rfl, rfl, rfl, rfl, rfl, rfl, rfl, rfl, rfl, rfl, rfl, rfl, rfl, rfl, rfl, rfl, rfl⟩

@[simp] theorem State.modAnalog_frame (s : State) (k : Nat) (g : Analog → Analog) :
    (State.modAnalog s k g).now = s.now ∧ (State.modAnalog s k g).frame = s.frame ∧ (State.modAnalog s k g).free = s.free ∧
    (State.modAnalog s k g).regs = s.regs ∧ (State.modAnalog s k g).outbox = s.outbox ∧ (State.modAnalog s k g).vcp = s.vcp ∧
    (State.modAnalog s k g).plant = s.plant ∧ (State.modAnalog s k g).broker = s.broker ∧ (State.modAnalog s k g).valves = s.valves ∧
    (State.modAnalog s k g).motors = s.motors ∧ (State.modAnalog s k g).senses = s.senses ∧ (State.modAnalog s k g).pulses = s.pulses ∧
    (State.modAnalog s k g).auxs = s.auxs ∧ (State.modAnalog s k g).cards = s.cards ∧ (State.modAnalog s k g).service = s.service ∧
    (State.modAnalog s k g).seqr = s.seqr ∧ (State.modAnalog s k g).dies = s.dies ∧ (State.modAnalog s k g).clusters = s.clusters ∧
    (State.modAnalog s k g).integ = s.integ ∧ (State.modAnalog s k g).copies = s.copies ∧ (State.modAnalog s k g).pair = s.pair ∧
    (State.modAnalog s k g).links = s.links ∧ (State.modAnalog s k g).hall = s.hall ∧ (State.modAnalog s k g).buses = s.buses ∧
    (State.modAnalog s k g).frameLog = s.frameLog ∧ (State.modAnalog s k g).power = s.power ∧ (State.modAnalog s k g).ptp = s.ptp ∧
    (State.modAnalog s k g).fans = s.fans ∧ (State.modAnalog s k g).upds = s.upds ∧ (State.modAnalog s k g).fw = s.fw ∧
    (State.modAnalog s k g).log = s.log ∧ (State.modAnalog s k g).bmu = s.bmu ∧ (State.modAnalog s k g).mirror = s.mirror ∧
    (State.modAnalog s k g).pending = s.pending := by
  exact ⟨rfl, rfl, rfl, rfl, rfl, rfl, rfl, rfl, rfl, rfl, rfl, rfl, rfl, rfl, rfl, rfl, rfl, rfl, rfl, rfl, rfl, rfl, rfl, rfl, rfl, rfl, rfl, rfl, rfl, rfl, rfl, rfl, rfl, rfl⟩

@[simp] theorem State.setAux_frame (s : State) (k : Nat) (v : Aux) :
    (State.setAux s k v).now = s.now ∧ (State.setAux s k v).frame = s.frame ∧ (State.setAux s k v).free = s.free ∧
    (State.setAux s k v).regs = s.regs ∧ (State.setAux s k v).outbox = s.outbox ∧ (State.setAux s k v).vcp = s.vcp ∧
    (State.setAux s k v).plant = s.plant ∧ (State.setAux s k v).broker = s.broker ∧ (State.setAux s k v).valves = s.valves ∧
    (State.setAux s k v).motors = s.motors ∧ (State.setAux s k v).senses = s.senses ∧ (State.setAux s k v).pulses = s.pulses ∧
    (State.setAux s k v).analogs = s.analogs ∧ (State.setAux s k v).cards = s.cards ∧ (State.setAux s k v).service = s.service ∧
    (State.setAux s k v).seqr = s.seqr ∧ (State.setAux s k v).dies = s.dies ∧ (State.setAux s k v).clusters = s.clusters ∧
    (State.setAux s k v).integ = s.integ ∧ (State.setAux s k v).copies = s.copies ∧ (State.setAux s k v).pair = s.pair ∧
    (State.setAux s k v).links = s.links ∧ (State.setAux s k v).hall = s.hall ∧ (State.setAux s k v).buses = s.buses ∧
    (State.setAux s k v).frameLog = s.frameLog ∧ (State.setAux s k v).power = s.power ∧ (State.setAux s k v).ptp = s.ptp ∧
    (State.setAux s k v).fans = s.fans ∧ (State.setAux s k v).upds = s.upds ∧ (State.setAux s k v).fw = s.fw ∧
    (State.setAux s k v).log = s.log ∧ (State.setAux s k v).bmu = s.bmu ∧ (State.setAux s k v).mirror = s.mirror ∧
    (State.setAux s k v).pending = s.pending := by
  exact ⟨rfl, rfl, rfl, rfl, rfl, rfl, rfl, rfl, rfl, rfl, rfl, rfl, rfl, rfl, rfl, rfl, rfl, rfl, rfl, rfl, rfl, rfl, rfl, rfl, rfl, rfl, rfl, rfl, rfl, rfl, rfl, rfl, rfl, rfl⟩

@[simp] theorem State.modAux_frame (s : State) (k : Nat) (g : Aux → Aux) :
    (State.modAux s k g).now = s.now ∧ (State.modAux s k g).frame = s.frame ∧ (State.modAux s k g).free = s.free ∧
    (State.modAux s k g).regs = s.regs ∧ (State.modAux s k g).outbox = s.outbox ∧ (State.modAux s k g).vcp = s.vcp ∧
    (State.modAux s k g).plant = s.plant ∧ (State.modAux s k g).broker = s.broker ∧ (State.modAux s k g).valves = s.valves ∧
    (State.modAux s k g).motors = s.motors ∧ (State.modAux s k g).senses = s.senses ∧ (State.modAux s k g).pulses = s.pulses ∧
    (State.modAux s k g).analogs = s.analogs ∧ (State.modAux s k g).cards = s.cards ∧ (State.modAux s k g).service = s.service ∧
    (State.modAux s k g).seqr = s.seqr ∧ (State.modAux s k g).dies = s.dies ∧ (State.modAux s k g).clusters = s.clusters ∧
    (State.modAux s k g).integ = s.integ ∧ (State.modAux s k g).copies = s.copies ∧ (State.modAux s k g).pair = s.pair ∧
    (State.modAux s k g).links = s.links ∧ (State.modAux s k g).hall = s.hall ∧ (State.modAux s k g).buses = s.buses ∧
    (State.modAux s k g).frameLog = s.frameLog ∧ (State.modAux s k g).power = s.power ∧ (State.modAux s k g).ptp = s.ptp ∧
    (State.modAux s k g).fans = s.fans ∧ (State.modAux s k g).upds = s.upds ∧ (State.modAux s k g).fw = s.fw ∧
    (State.modAux s k g).log = s.log ∧ (State.modAux s k g).bmu = s.bmu ∧ (State.modAux s k g).mirror = s.mirror ∧
    (State.modAux s k g).pending = s.pending := by
  exact ⟨rfl, rfl, rfl, rfl, rfl, rfl, rfl, rfl, rfl, rfl, rfl, rfl, rfl, rfl, rfl, rfl, rfl, rfl, rfl, rfl, rfl, rfl, rfl, rfl, rfl, rfl, rfl, rfl, rfl, rfl, rfl, rfl, rfl, rfl⟩

@[simp] theorem State.setCard_frame (s : State) (k : Nat) (v : Card) :
    (State.setCard s k v).now = s.now ∧ (State.setCard s k v).frame = s.frame ∧ (State.setCard s k v).free = s.free ∧
    (State.setCard s k v).regs = s.regs ∧ (State.setCard s k v).outbox = s.outbox ∧ (State.setCard s k v).vcp = s.vcp ∧
    (State.setCard s k v).plant = s.plant ∧ (State.setCard s k v).broker = s.broker ∧ (State.setCard s k v).valves = s.valves ∧
    (State.setCard s k v).motors = s.motors ∧ (State.setCard s k v).senses = s.senses ∧ (State.setCard s k v).pulses = s.pulses ∧
    (State.setCard s k v).analogs = s.analogs ∧ (State.setCard s k v).auxs = s.auxs ∧ (State.setCard s k v).service = s.service ∧
    (State.setCard s k v).seqr = s.seqr ∧ (State.setCard s k v).dies = s.dies ∧ (State.setCard s k v).clusters = s.clusters ∧
    (State.setCard s k v).integ = s.integ ∧ (State.setCard s k v).copies = s.copies ∧ (State.setCard s k v).pair = s.pair ∧
    (State.setCard s k v).links = s.links ∧ (State.setCard s k v).hall = s.hall ∧ (State.setCard s k v).buses = s.buses ∧
    (State.setCard s k v).frameLog = s.frameLog ∧ (State.setCard s k v).power = s.power ∧ (State.setCard s k v).ptp = s.ptp ∧
    (State.setCard s k v).fans = s.fans ∧ (State.setCard s k v).upds = s.upds ∧ (State.setCard s k v).fw = s.fw ∧
    (State.setCard s k v).log = s.log ∧ (State.setCard s k v).bmu = s.bmu ∧ (State.setCard s k v).mirror = s.mirror ∧
    (State.setCard s k v).pending = s.pending := by
  exact ⟨rfl, rfl, rfl, rfl, rfl, rfl, rfl, rfl, rfl, rfl, rfl, rfl, rfl, rfl, rfl, rfl, rfl, rfl, rfl, rfl, rfl, rfl, rfl, rfl, rfl, rfl, rfl, rfl, rfl, rfl, rfl, rfl, rfl, rfl⟩

@[simp] theorem State.modCard_frame (s : State) (k : Nat) (g : Card → Card) :
    (State.modCard s k g).now = s.now ∧ (State.modCard s k g).frame = s.frame ∧ (State.modCard s k g).free = s.free ∧
    (State.modCard s k g).regs = s.regs ∧ (State.modCard s k g).outbox = s.outbox ∧ (State.modCard s k g).vcp = s.vcp ∧
    (State.modCard s k g).plant = s.plant ∧ (State.modCard s k g).broker = s.broker ∧ (State.modCard s k g).valves = s.valves ∧
    (State.modCard s k g).motors = s.motors ∧ (State.modCard s k g).senses = s.senses ∧ (State.modCard s k g).pulses = s.pulses ∧
    (State.modCard s k g).analogs = s.analogs ∧ (State.modCard s k g).auxs = s.auxs ∧ (State.modCard s k g).service = s.service ∧
    (State.modCard s k g).seqr = s.seqr ∧ (State.modCard s k g).dies = s.dies ∧ (State.modCard s k g).clusters = s.clusters ∧
    (State.modCard s k g).integ = s.integ ∧ (State.modCard s k g).copies = s.copies ∧ (State.modCard s k g).pair = s.pair ∧
    (State.modCard s k g).links = s.links ∧ (State.modCard s k g).hall = s.hall ∧ (State.modCard s k g).buses = s.buses ∧
    (State.modCard s k g).frameLog = s.frameLog ∧ (State.modCard s k g).power = s.power ∧ (State.modCard s k g).ptp = s.ptp ∧
    (State.modCard s k g).fans = s.fans ∧ (State.modCard s k g).upds = s.upds ∧ (State.modCard s k g).fw = s.fw ∧
    (State.modCard s k g).log = s.log ∧ (State.modCard s k g).bmu = s.bmu ∧ (State.modCard s k g).mirror = s.mirror ∧
    (State.modCard s k g).pending = s.pending := by
  exact ⟨rfl, rfl, rfl, rfl, rfl, rfl, rfl, rfl, rfl, rfl, rfl, rfl, rfl, rfl, rfl, rfl, rfl, rfl, rfl, rfl, rfl, rfl, rfl, rfl, rfl, rfl, rfl, rfl, rfl, rfl, rfl, rfl, rfl, rfl⟩

@[simp] theorem State.setDie_frame (s : State) (k : Nat) (v : Die) :
    (State.setDie s k v).now = s.now ∧ (State.setDie s k v).frame = s.frame ∧ (State.setDie s k v).free = s.free ∧
    (State.setDie s k v).regs = s.regs ∧ (State.setDie s k v).outbox = s.outbox ∧ (State.setDie s k v).vcp = s.vcp ∧
    (State.setDie s k v).plant = s.plant ∧ (State.setDie s k v).broker = s.broker ∧ (State.setDie s k v).valves = s.valves ∧
    (State.setDie s k v).motors = s.motors ∧ (State.setDie s k v).senses = s.senses ∧ (State.setDie s k v).pulses = s.pulses ∧
    (State.setDie s k v).analogs = s.analogs ∧ (State.setDie s k v).auxs = s.auxs ∧ (State.setDie s k v).cards = s.cards ∧
    (State.setDie s k v).service = s.service ∧ (State.setDie s k v).seqr = s.seqr ∧ (State.setDie s k v).clusters = s.clusters ∧
    (State.setDie s k v).integ = s.integ ∧ (State.setDie s k v).copies = s.copies ∧ (State.setDie s k v).pair = s.pair ∧
    (State.setDie s k v).links = s.links ∧ (State.setDie s k v).hall = s.hall ∧ (State.setDie s k v).buses = s.buses ∧
    (State.setDie s k v).frameLog = s.frameLog ∧ (State.setDie s k v).power = s.power ∧ (State.setDie s k v).ptp = s.ptp ∧
    (State.setDie s k v).fans = s.fans ∧ (State.setDie s k v).upds = s.upds ∧ (State.setDie s k v).fw = s.fw ∧
    (State.setDie s k v).log = s.log ∧ (State.setDie s k v).bmu = s.bmu ∧ (State.setDie s k v).mirror = s.mirror ∧
    (State.setDie s k v).pending = s.pending := by
  exact ⟨rfl, rfl, rfl, rfl, rfl, rfl, rfl, rfl, rfl, rfl, rfl, rfl, rfl, rfl, rfl, rfl, rfl, rfl, rfl, rfl, rfl, rfl, rfl, rfl, rfl, rfl, rfl, rfl, rfl, rfl, rfl, rfl, rfl, rfl⟩

@[simp] theorem State.modDie_frame (s : State) (k : Nat) (g : Die → Die) :
    (State.modDie s k g).now = s.now ∧ (State.modDie s k g).frame = s.frame ∧ (State.modDie s k g).free = s.free ∧
    (State.modDie s k g).regs = s.regs ∧ (State.modDie s k g).outbox = s.outbox ∧ (State.modDie s k g).vcp = s.vcp ∧
    (State.modDie s k g).plant = s.plant ∧ (State.modDie s k g).broker = s.broker ∧ (State.modDie s k g).valves = s.valves ∧
    (State.modDie s k g).motors = s.motors ∧ (State.modDie s k g).senses = s.senses ∧ (State.modDie s k g).pulses = s.pulses ∧
    (State.modDie s k g).analogs = s.analogs ∧ (State.modDie s k g).auxs = s.auxs ∧ (State.modDie s k g).cards = s.cards ∧
    (State.modDie s k g).service = s.service ∧ (State.modDie s k g).seqr = s.seqr ∧ (State.modDie s k g).clusters = s.clusters ∧
    (State.modDie s k g).integ = s.integ ∧ (State.modDie s k g).copies = s.copies ∧ (State.modDie s k g).pair = s.pair ∧
    (State.modDie s k g).links = s.links ∧ (State.modDie s k g).hall = s.hall ∧ (State.modDie s k g).buses = s.buses ∧
    (State.modDie s k g).frameLog = s.frameLog ∧ (State.modDie s k g).power = s.power ∧ (State.modDie s k g).ptp = s.ptp ∧
    (State.modDie s k g).fans = s.fans ∧ (State.modDie s k g).upds = s.upds ∧ (State.modDie s k g).fw = s.fw ∧
    (State.modDie s k g).log = s.log ∧ (State.modDie s k g).bmu = s.bmu ∧ (State.modDie s k g).mirror = s.mirror ∧
    (State.modDie s k g).pending = s.pending := by
  exact ⟨rfl, rfl, rfl, rfl, rfl, rfl, rfl, rfl, rfl, rfl, rfl, rfl, rfl, rfl, rfl, rfl, rfl, rfl, rfl, rfl, rfl, rfl, rfl, rfl, rfl, rfl, rfl, rfl, rfl, rfl, rfl, rfl, rfl, rfl⟩

@[simp] theorem State.setCluster_frame (s : State) (k : Nat) (v : Cluster) :
    (State.setCluster s k v).now = s.now ∧ (State.setCluster s k v).frame = s.frame ∧ (State.setCluster s k v).free = s.free ∧
    (State.setCluster s k v).regs = s.regs ∧ (State.setCluster s k v).outbox = s.outbox ∧ (State.setCluster s k v).vcp = s.vcp ∧
    (State.setCluster s k v).plant = s.plant ∧ (State.setCluster s k v).broker = s.broker ∧ (State.setCluster s k v).valves = s.valves ∧
    (State.setCluster s k v).motors = s.motors ∧ (State.setCluster s k v).senses = s.senses ∧ (State.setCluster s k v).pulses = s.pulses ∧
    (State.setCluster s k v).analogs = s.analogs ∧ (State.setCluster s k v).auxs = s.auxs ∧ (State.setCluster s k v).cards = s.cards ∧
    (State.setCluster s k v).service = s.service ∧ (State.setCluster s k v).seqr = s.seqr ∧ (State.setCluster s k v).dies = s.dies ∧
    (State.setCluster s k v).integ = s.integ ∧ (State.setCluster s k v).copies = s.copies ∧ (State.setCluster s k v).pair = s.pair ∧
    (State.setCluster s k v).links = s.links ∧ (State.setCluster s k v).hall = s.hall ∧ (State.setCluster s k v).buses = s.buses ∧
    (State.setCluster s k v).frameLog = s.frameLog ∧ (State.setCluster s k v).power = s.power ∧ (State.setCluster s k v).ptp = s.ptp ∧
    (State.setCluster s k v).fans = s.fans ∧ (State.setCluster s k v).upds = s.upds ∧ (State.setCluster s k v).fw = s.fw ∧
    (State.setCluster s k v).log = s.log ∧ (State.setCluster s k v).bmu = s.bmu ∧ (State.setCluster s k v).mirror = s.mirror ∧
    (State.setCluster s k v).pending = s.pending := by
  exact ⟨rfl, rfl, rfl, rfl, rfl, rfl, rfl, rfl, rfl, rfl, rfl, rfl, rfl, rfl, rfl, rfl, rfl, rfl, rfl, rfl, rfl, rfl, rfl, rfl, rfl, rfl, rfl, rfl, rfl, rfl, rfl, rfl, rfl, rfl⟩

@[simp] theorem State.modCluster_frame (s : State) (k : Nat) (g : Cluster → Cluster) :
    (State.modCluster s k g).now = s.now ∧ (State.modCluster s k g).frame = s.frame ∧ (State.modCluster s k g).free = s.free ∧
    (State.modCluster s k g).regs = s.regs ∧ (State.modCluster s k g).outbox = s.outbox ∧ (State.modCluster s k g).vcp = s.vcp ∧
    (State.modCluster s k g).plant = s.plant ∧ (State.modCluster s k g).broker = s.broker ∧ (State.modCluster s k g).valves = s.valves ∧
    (State.modCluster s k g).motors = s.motors ∧ (State.modCluster s k g).senses = s.senses ∧ (State.modCluster s k g).pulses = s.pulses ∧
    (State.modCluster s k g).analogs = s.analogs ∧ (State.modCluster s k g).auxs = s.auxs ∧ (State.modCluster s k g).cards = s.cards ∧
    (State.modCluster s k g).service = s.service ∧ (State.modCluster s k g).seqr = s.seqr ∧ (State.modCluster s k g).dies = s.dies ∧
    (State.modCluster s k g).integ = s.integ ∧ (State.modCluster s k g).copies = s.copies ∧ (State.modCluster s k g).pair = s.pair ∧
    (State.modCluster s k g).links = s.links ∧ (State.modCluster s k g).hall = s.hall ∧ (State.modCluster s k g).buses = s.buses ∧
    (State.modCluster s k g).frameLog = s.frameLog ∧ (State.modCluster s k g).power = s.power ∧ (State.modCluster s k g).ptp = s.ptp ∧
    (State.modCluster s k g).fans = s.fans ∧ (State.modCluster s k g).upds = s.upds ∧ (State.modCluster s k g).fw = s.fw ∧
    (State.modCluster s k g).log = s.log ∧ (State.modCluster s k g).bmu = s.bmu ∧ (State.modCluster s k g).mirror = s.mirror ∧
    (State.modCluster s k g).pending = s.pending := by
  exact ⟨rfl, rfl, rfl, rfl, rfl, rfl, rfl, rfl, rfl, rfl, rfl, rfl, rfl, rfl, rfl, rfl, rfl, rfl, rfl, rfl, rfl, rfl, rfl, rfl, rfl, rfl, rfl, rfl, rfl, rfl, rfl, rfl, rfl, rfl⟩

@[simp] theorem State.setLink_frame (s : State) (k : Nat) (v : Link) :
    (State.setLink s k v).now = s.now ∧ (State.setLink s k v).frame = s.frame ∧ (State.setLink s k v).free = s.free ∧
    (State.setLink s k v).regs = s.regs ∧ (State.setLink s k v).outbox = s.outbox ∧ (State.setLink s k v).vcp = s.vcp ∧
    (State.setLink s k v).plant = s.plant ∧ (State.setLink s k v).broker = s.broker ∧ (State.setLink s k v).valves = s.valves ∧
    (State.setLink s k v).motors = s.motors ∧ (State.setLink s k v).senses = s.senses ∧ (State.setLink s k v).pulses = s.pulses ∧
    (State.setLink s k v).analogs = s.analogs ∧ (State.setLink s k v).auxs = s.auxs ∧ (State.setLink s k v).cards = s.cards ∧
    (State.setLink s k v).service = s.service ∧ (State.setLink s k v).seqr = s.seqr ∧ (State.setLink s k v).dies = s.dies ∧
    (State.setLink s k v).clusters = s.clusters ∧ (State.setLink s k v).integ = s.integ ∧ (State.setLink s k v).copies = s.copies ∧
    (State.setLink s k v).pair = s.pair ∧ (State.setLink s k v).hall = s.hall ∧ (State.setLink s k v).buses = s.buses ∧
    (State.setLink s k v).frameLog = s.frameLog ∧ (State.setLink s k v).power = s.power ∧ (State.setLink s k v).ptp = s.ptp ∧
    (State.setLink s k v).fans = s.fans ∧ (State.setLink s k v).upds = s.upds ∧ (State.setLink s k v).fw = s.fw ∧
    (State.setLink s k v).log = s.log ∧ (State.setLink s k v).bmu = s.bmu ∧ (State.setLink s k v).mirror = s.mirror ∧
    (State.setLink s k v).pending = s.pending := by
  exact ⟨rfl, rfl, rfl, rfl, rfl, rfl, rfl, rfl, rfl, rfl, rfl, rfl, rfl, rfl, rfl, rfl, rfl, rfl, rfl, rfl, rfl, rfl, rfl, rfl, rfl, rfl, rfl, rfl, rfl, rfl, rfl, rfl, rfl, rfl⟩

@[simp] theorem State.modLink_frame (s : State) (k : Nat) (g : Link → Link) :
    (State.modLink s k g).now = s.now ∧ (State.modLink s k g).frame = s.frame ∧ (State.modLink s k g).free = s.free ∧
    (State.modLink s k g).regs = s.regs ∧ (State.modLink s k g).outbox = s.outbox ∧ (State.modLink s k g).vcp = s.vcp ∧
    (State.modLink s k g).plant = s.plant ∧ (State.modLink s k g).broker = s.broker ∧ (State.modLink s k g).valves = s.valves ∧
    (State.modLink s k g).motors = s.motors ∧ (State.modLink s k g).senses = s.senses ∧ (State.modLink s k g).pulses = s.pulses ∧
    (State.modLink s k g).analogs = s.analogs ∧ (State.modLink s k g).auxs = s.auxs ∧ (State.modLink s k g).cards = s.cards ∧
    (State.modLink s k g).service = s.service ∧ (State.modLink s k g).seqr = s.seqr ∧ (State.modLink s k g).dies = s.dies ∧
    (State.modLink s k g).clusters = s.clusters ∧ (State.modLink s k g).integ = s.integ ∧ (State.modLink s k g).copies = s.copies ∧
    (State.modLink s k g).pair = s.pair ∧ (State.modLink s k g).hall = s.hall ∧ (State.modLink s k g).buses = s.buses ∧
    (State.modLink s k g).frameLog = s.frameLog ∧ (State.modLink s k g).power = s.power ∧ (State.modLink s k g).ptp = s.ptp ∧
    (State.modLink s k g).fans = s.fans ∧ (State.modLink s k g).upds = s.upds ∧ (State.modLink s k g).fw = s.fw ∧
    (State.modLink s k g).log = s.log ∧ (State.modLink s k g).bmu = s.bmu ∧ (State.modLink s k g).mirror = s.mirror ∧
    (State.modLink s k g).pending = s.pending := by
  exact ⟨rfl, rfl, rfl, rfl, rfl, rfl, rfl, rfl, rfl, rfl, rfl, rfl, rfl, rfl, rfl, rfl, rfl, rfl, rfl, rfl, rfl, rfl, rfl, rfl, rfl, rfl, rfl, rfl, rfl, rfl, rfl, rfl, rfl, rfl⟩

@[simp] theorem State.setBus_frame (s : State) (k : Nat) (v : Bus) :
    (State.setBus s k v).now = s.now ∧ (State.setBus s k v).frame = s.frame ∧ (State.setBus s k v).free = s.free ∧
    (State.setBus s k v).regs = s.regs ∧ (State.setBus s k v).outbox = s.outbox ∧ (State.setBus s k v).vcp = s.vcp ∧
    (State.setBus s k v).plant = s.plant ∧ (State.setBus s k v).broker = s.broker ∧ (State.setBus s k v).valves = s.valves ∧
    (State.setBus s k v).motors = s.motors ∧ (State.setBus s k v).senses = s.senses ∧ (State.setBus s k v).pulses = s.pulses ∧
    (State.setBus s k v).analogs = s.analogs ∧ (State.setBus s k v).auxs = s.auxs ∧ (State.setBus s k v).cards = s.cards ∧
    (State.setBus s k v).service = s.service ∧ (State.setBus s k v).seqr = s.seqr ∧ (State.setBus s k v).dies = s.dies ∧
    (State.setBus s k v).clusters = s.clusters ∧ (State.setBus s k v).integ = s.integ ∧ (State.setBus s k v).copies = s.copies ∧
    (State.setBus s k v).pair = s.pair ∧ (State.setBus s k v).links = s.links ∧ (State.setBus s k v).hall = s.hall ∧
    (State.setBus s k v).frameLog = s.frameLog ∧ (State.setBus s k v).power = s.power ∧ (State.setBus s k v).ptp = s.ptp ∧
    (State.setBus s k v).fans = s.fans ∧ (State.setBus s k v).upds = s.upds ∧ (State.setBus s k v).fw = s.fw ∧
    (State.setBus s k v).log = s.log ∧ (State.setBus s k v).bmu = s.bmu ∧ (State.setBus s k v).mirror = s.mirror ∧
    (State.setBus s k v).pending = s.pending := by
  exact ⟨rfl, rfl, rfl, rfl, rfl, rfl, rfl, rfl, rfl, rfl, rfl, rfl, rfl, rfl, rfl, rfl, rfl, rfl, rfl, rfl, rfl, rfl, rfl, rfl, rfl, rfl, rfl, rfl, rfl, rfl, rfl, rfl, rfl, rfl⟩

@[simp] theorem State.modBus_frame (s : State) (k : Nat) (g : Bus → Bus) :
    (State.modBus s k g).now = s.now ∧ (State.modBus s k g).frame = s.frame ∧ (State.modBus s k g).free = s.free ∧
    (State.modBus s k g).regs = s.regs ∧ (State.modBus s k g).outbox = s.outbox ∧ (State.modBus s k g).vcp = s.vcp ∧
    (State.modBus s k g).plant = s.plant ∧ (State.modBus s k g).broker = s.broker ∧ (State.modBus s k g).valves = s.valves ∧
    (State.modBus s k g).motors = s.motors ∧ (State.modBus s k g).senses = s.senses ∧ (State.modBus s k g).pulses = s.pulses ∧
    (State.modBus s k g).analogs = s.analogs ∧ (State.modBus s k g).auxs = s.auxs ∧ (State.modBus s k g).cards = s.cards ∧
    (State.modBus s k g).service = s.service ∧ (State.modBus s k g).seqr = s.seqr ∧ (State.modBus s k g).dies = s.dies ∧
    (State.modBus s k g).clusters = s.clusters ∧ (State.modBus s k g).integ = s.integ ∧ (State.modBus s k g).copies = s.copies ∧
    (State.modBus s k g).pair = s.pair ∧ (State.modBus s k g).links = s.links ∧ (State.modBus s k g).hall = s.hall ∧
    (State.modBus s k g).frameLog = s.frameLog ∧ (State.modBus s k g).power = s.power ∧ (State.modBus s k g).ptp = s.ptp ∧
    (State.modBus s k g).fans = s.fans ∧ (State.modBus s k g).upds = s.upds ∧ (State.modBus s k g).fw = s.fw ∧
    (State.modBus s k g).log = s.log ∧ (State.modBus s k g).bmu = s.bmu ∧ (State.modBus s k g).mirror = s.mirror ∧
    (State.modBus s k g).pending = s.pending := by
  exact ⟨rfl, rfl, rfl, rfl, rfl, rfl, rfl, rfl, rfl, rfl, rfl, rfl, rfl, rfl, rfl, rfl, rfl, rfl, rfl, rfl, rfl, rfl, rfl, rfl, rfl, rfl, rfl, rfl, rfl, rfl, rfl, rfl, rfl, rfl⟩

@[simp] theorem State.setUpd_frame (s : State) (k : Nat) (v : Upd) :
    (State.setUpd s k v).now = s.now ∧ (State.setUpd s k v).frame = s.frame ∧ (State.setUpd s k v).free = s.free ∧
    (State.setUpd s k v).regs = s.regs ∧ (State.setUpd s k v).outbox = s.outbox ∧ (State.setUpd s k v).vcp = s.vcp ∧
    (State.setUpd s k v).plant = s.plant ∧ (State.setUpd s k v).broker = s.broker ∧ (State.setUpd s k v).valves = s.valves ∧
    (State.setUpd s k v).motors = s.motors ∧ (State.setUpd s k v).senses = s.senses ∧ (State.setUpd s k v).pulses = s.pulses ∧
    (State.setUpd s k v).analogs = s.analogs ∧ (State.setUpd s k v).auxs = s.auxs ∧ (State.setUpd s k v).cards = s.cards ∧
    (State.setUpd s k v).service = s.service ∧ (State.setUpd s k v).seqr = s.seqr ∧ (State.setUpd s k v).dies = s.dies ∧
    (State.setUpd s k v).clusters = s.clusters ∧ (State.setUpd s k v).integ = s.integ ∧ (State.setUpd s k v).copies = s.copies ∧
    (State.setUpd s k v).pair = s.pair ∧ (State.setUpd s k v).links = s.links ∧ (State.setUpd s k v).hall = s.hall ∧
    (State.setUpd s k v).buses = s.buses ∧ (State.setUpd s k v).frameLog = s.frameLog ∧ (State.setUpd s k v).power = s.power ∧
    (State.setUpd s k v).ptp = s.ptp ∧ (State.setUpd s k v).fans = s.fans ∧ (State.setUpd s k v).fw = s.fw ∧
    (State.setUpd s k v).log = s.log ∧ (State.setUpd s k v).bmu = s.bmu ∧ (State.setUpd s k v).mirror = s.mirror ∧
    (State.setUpd s k v).pending = s.pending := by
  exact ⟨rfl, rfl, rfl, rfl, rfl, rfl, rfl, rfl, rfl, rfl, rfl, rfl, rfl, rfl, rfl, rfl, rfl, rfl, rfl, rfl, rfl, rfl, rfl, rfl, rfl, rfl, rfl, rfl, rfl, rfl, rfl, rfl, rfl, rfl⟩

@[simp] theorem State.modUpd_frame (s : State) (k : Nat) (g : Upd → Upd) :
    (State.modUpd s k g).now = s.now ∧ (State.modUpd s k g).frame = s.frame ∧ (State.modUpd s k g).free = s.free ∧
    (State.modUpd s k g).regs = s.regs ∧ (State.modUpd s k g).outbox = s.outbox ∧ (State.modUpd s k g).vcp = s.vcp ∧
    (State.modUpd s k g).plant = s.plant ∧ (State.modUpd s k g).broker = s.broker ∧ (State.modUpd s k g).valves = s.valves ∧
    (State.modUpd s k g).motors = s.motors ∧ (State.modUpd s k g).senses = s.senses ∧ (State.modUpd s k g).pulses = s.pulses ∧
    (State.modUpd s k g).analogs = s.analogs ∧ (State.modUpd s k g).auxs = s.auxs ∧ (State.modUpd s k g).cards = s.cards ∧
    (State.modUpd s k g).service = s.service ∧ (State.modUpd s k g).seqr = s.seqr ∧ (State.modUpd s k g).dies = s.dies ∧
    (State.modUpd s k g).clusters = s.clusters ∧ (State.modUpd s k g).integ = s.integ ∧ (State.modUpd s k g).copies = s.copies ∧
    (State.modUpd s k g).pair = s.pair ∧ (State.modUpd s k g).links = s.links ∧ (State.modUpd s k g).hall = s.hall ∧
    (State.modUpd s k g).buses = s.buses ∧ (State.modUpd s k g).frameLog = s.frameLog ∧ (State.modUpd s k g).power = s.power ∧
    (State.modUpd s k g).ptp = s.ptp ∧ (State.modUpd s k g).fans = s.fans ∧ (State.modUpd s k g).fw = s.fw ∧
    (State.modUpd s k g).log = s.log ∧ (State.modUpd s k g).bmu = s.bmu ∧ (State.modUpd s k g).mirror = s.mirror ∧
    (State.modUpd s k g).pending = s.pending := by
  exact ⟨rfl, rfl, rfl, rfl, rfl, rfl, rfl, rfl, rfl, rfl, rfl, rfl, rfl, rfl, rfl, rfl, rfl, rfl, rfl, rfl, rfl, rfl, rfl, rfl, rfl, rfl, rfl, rfl, rfl, rfl, rfl, rfl, rfl, rfl⟩

@[simp] theorem State.setRack_frame (s : State) (k : Nat) (v : Rack) :
    (State.setRack s k v).now = s.now ∧ (State.setRack s k v).frame = s.frame ∧ (State.setRack s k v).free = s.free ∧
    (State.setRack s k v).regs = s.regs ∧ (State.setRack s k v).outbox = s.outbox ∧ (State.setRack s k v).vcp = s.vcp ∧
    (State.setRack s k v).plant = s.plant ∧ (State.setRack s k v).valves = s.valves ∧ (State.setRack s k v).motors = s.motors ∧
    (State.setRack s k v).senses = s.senses ∧ (State.setRack s k v).pulses = s.pulses ∧ (State.setRack s k v).analogs = s.analogs ∧
    (State.setRack s k v).auxs = s.auxs ∧ (State.setRack s k v).cards = s.cards ∧ (State.setRack s k v).service = s.service ∧
    (State.setRack s k v).seqr = s.seqr ∧ (State.setRack s k v).dies = s.dies ∧ (State.setRack s k v).clusters = s.clusters ∧
    (State.setRack s k v).integ = s.integ ∧ (State.setRack s k v).copies = s.copies ∧ (State.setRack s k v).pair = s.pair ∧
    (State.setRack s k v).links = s.links ∧ (State.setRack s k v).hall = s.hall ∧ (State.setRack s k v).buses = s.buses ∧
    (State.setRack s k v).frameLog = s.frameLog ∧ (State.setRack s k v).power = s.power ∧ (State.setRack s k v).ptp = s.ptp ∧
    (State.setRack s k v).fans = s.fans ∧ (State.setRack s k v).upds = s.upds ∧ (State.setRack s k v).fw = s.fw ∧
    (State.setRack s k v).log = s.log ∧ (State.setRack s k v).bmu = s.bmu ∧ (State.setRack s k v).mirror = s.mirror ∧
    (State.setRack s k v).pending = s.pending := by
  exact ⟨rfl, rfl, rfl, rfl, rfl, rfl, rfl, rfl, rfl, rfl, rfl, rfl, rfl, rfl, rfl, rfl, rfl, rfl, rfl, rfl, rfl, rfl, rfl, rfl, rfl, rfl, rfl, rfl, rfl, rfl, rfl, rfl, rfl, rfl⟩

@[simp] theorem State.modRack_frame (s : State) (k : Nat) (g : Rack → Rack) :
    (State.modRack s k g).now = s.now ∧ (State.modRack s k g).frame = s.frame ∧ (State.modRack s k g).free = s.free ∧
    (State.modRack s k g).regs = s.regs ∧ (State.modRack s k g).outbox = s.outbox ∧ (State.modRack s k g).vcp = s.vcp ∧
    (State.modRack s k g).plant = s.plant ∧ (State.modRack s k g).valves = s.valves ∧ (State.modRack s k g).motors = s.motors ∧
    (State.modRack s k g).senses = s.senses ∧ (State.modRack s k g).pulses = s.pulses ∧ (State.modRack s k g).analogs = s.analogs ∧
    (State.modRack s k g).auxs = s.auxs ∧ (State.modRack s k g).cards = s.cards ∧ (State.modRack s k g).service = s.service ∧
    (State.modRack s k g).seqr = s.seqr ∧ (State.modRack s k g).dies = s.dies ∧ (State.modRack s k g).clusters = s.clusters ∧
    (State.modRack s k g).integ = s.integ ∧ (State.modRack s k g).copies = s.copies ∧ (State.modRack s k g).pair = s.pair ∧
    (State.modRack s k g).links = s.links ∧ (State.modRack s k g).hall = s.hall ∧ (State.modRack s k g).buses = s.buses ∧
    (State.modRack s k g).frameLog = s.frameLog ∧ (State.modRack s k g).power = s.power ∧ (State.modRack s k g).ptp = s.ptp ∧
    (State.modRack s k g).fans = s.fans ∧ (State.modRack s k g).upds = s.upds ∧ (State.modRack s k g).fw = s.fw ∧
    (State.modRack s k g).log = s.log ∧ (State.modRack s k g).bmu = s.bmu ∧ (State.modRack s k g).mirror = s.mirror ∧
    (State.modRack s k g).pending = s.pending := by
  exact ⟨rfl, rfl, rfl, rfl, rfl, rfl, rfl, rfl, rfl, rfl, rfl, rfl, rfl, rfl, rfl, rfl, rfl, rfl, rfl, rfl, rfl, rfl, rfl, rfl, rfl, rfl, rfl, rfl, rfl, rfl, rfl, rfl, rfl, rfl⟩

@[simp] theorem State.setLoop_frame (s : State) (k : Nat) (v : Loop) :
    (State.setLoop s k v).now = s.now ∧ (State.setLoop s k v).frame = s.frame ∧ (State.setLoop s k v).free = s.free ∧
    (State.setLoop s k v).regs = s.regs ∧ (State.setLoop s k v).outbox = s.outbox ∧ (State.setLoop s k v).vcp = s.vcp ∧
    (State.setLoop s k v).broker = s.broker ∧ (State.setLoop s k v).valves = s.valves ∧ (State.setLoop s k v).motors = s.motors ∧
    (State.setLoop s k v).senses = s.senses ∧ (State.setLoop s k v).pulses = s.pulses ∧ (State.setLoop s k v).analogs = s.analogs ∧
    (State.setLoop s k v).auxs = s.auxs ∧ (State.setLoop s k v).cards = s.cards ∧ (State.setLoop s k v).service = s.service ∧
    (State.setLoop s k v).seqr = s.seqr ∧ (State.setLoop s k v).dies = s.dies ∧ (State.setLoop s k v).clusters = s.clusters ∧
    (State.setLoop s k v).integ = s.integ ∧ (State.setLoop s k v).copies = s.copies ∧ (State.setLoop s k v).pair = s.pair ∧
    (State.setLoop s k v).links = s.links ∧ (State.setLoop s k v).hall = s.hall ∧ (State.setLoop s k v).buses = s.buses ∧
    (State.setLoop s k v).frameLog = s.frameLog ∧ (State.setLoop s k v).power = s.power ∧ (State.setLoop s k v).ptp = s.ptp ∧
    (State.setLoop s k v).fans = s.fans ∧ (State.setLoop s k v).upds = s.upds ∧ (State.setLoop s k v).fw = s.fw ∧
    (State.setLoop s k v).log = s.log ∧ (State.setLoop s k v).bmu = s.bmu ∧ (State.setLoop s k v).mirror = s.mirror ∧
    (State.setLoop s k v).pending = s.pending := by
  exact ⟨rfl, rfl, rfl, rfl, rfl, rfl, rfl, rfl, rfl, rfl, rfl, rfl, rfl, rfl, rfl, rfl, rfl, rfl, rfl, rfl, rfl, rfl, rfl, rfl, rfl, rfl, rfl, rfl, rfl, rfl, rfl, rfl, rfl, rfl⟩

@[simp] theorem State.modLoop_frame (s : State) (k : Nat) (g : Loop → Loop) :
    (State.modLoop s k g).now = s.now ∧ (State.modLoop s k g).frame = s.frame ∧ (State.modLoop s k g).free = s.free ∧
    (State.modLoop s k g).regs = s.regs ∧ (State.modLoop s k g).outbox = s.outbox ∧ (State.modLoop s k g).vcp = s.vcp ∧
    (State.modLoop s k g).broker = s.broker ∧ (State.modLoop s k g).valves = s.valves ∧ (State.modLoop s k g).motors = s.motors ∧
    (State.modLoop s k g).senses = s.senses ∧ (State.modLoop s k g).pulses = s.pulses ∧ (State.modLoop s k g).analogs = s.analogs ∧
    (State.modLoop s k g).auxs = s.auxs ∧ (State.modLoop s k g).cards = s.cards ∧ (State.modLoop s k g).service = s.service ∧
    (State.modLoop s k g).seqr = s.seqr ∧ (State.modLoop s k g).dies = s.dies ∧ (State.modLoop s k g).clusters = s.clusters ∧
    (State.modLoop s k g).integ = s.integ ∧ (State.modLoop s k g).copies = s.copies ∧ (State.modLoop s k g).pair = s.pair ∧
    (State.modLoop s k g).links = s.links ∧ (State.modLoop s k g).hall = s.hall ∧ (State.modLoop s k g).buses = s.buses ∧
    (State.modLoop s k g).frameLog = s.frameLog ∧ (State.modLoop s k g).power = s.power ∧ (State.modLoop s k g).ptp = s.ptp ∧
    (State.modLoop s k g).fans = s.fans ∧ (State.modLoop s k g).upds = s.upds ∧ (State.modLoop s k g).fw = s.fw ∧
    (State.modLoop s k g).log = s.log ∧ (State.modLoop s k g).bmu = s.bmu ∧ (State.modLoop s k g).mirror = s.mirror ∧
    (State.modLoop s k g).pending = s.pending := by
  exact ⟨rfl, rfl, rfl, rfl, rfl, rfl, rfl, rfl, rfl, rfl, rfl, rfl, rfl, rfl, rfl, rfl, rfl, rfl, rfl, rfl, rfl, rfl, rfl, rfl, rfl, rfl, rfl, rfl, rfl, rfl, rfl, rfl, rfl, rfl⟩

@[simp] theorem State.setPump_frame (s : State) (k : Nat) (v : Pump) :
    (State.setPump s k v).now = s.now ∧ (State.setPump s k v).frame = s.frame ∧ (State.setPump s k v).free = s.free ∧
    (State.setPump s k v).regs = s.regs ∧ (State.setPump s k v).outbox = s.outbox ∧ (State.setPump s k v).vcp = s.vcp ∧
    (State.setPump s k v).broker = s.broker ∧ (State.setPump s k v).valves = s.valves ∧ (State.setPump s k v).motors = s.motors ∧
    (State.setPump s k v).senses = s.senses ∧ (State.setPump s k v).pulses = s.pulses ∧ (State.setPump s k v).analogs = s.analogs ∧
    (State.setPump s k v).auxs = s.auxs ∧ (State.setPump s k v).cards = s.cards ∧ (State.setPump s k v).service = s.service ∧
    (State.setPump s k v).seqr = s.seqr ∧ (State.setPump s k v).dies = s.dies ∧ (State.setPump s k v).clusters = s.clusters ∧
    (State.setPump s k v).integ = s.integ ∧ (State.setPump s k v).copies = s.copies ∧ (State.setPump s k v).pair = s.pair ∧
    (State.setPump s k v).links = s.links ∧ (State.setPump s k v).hall = s.hall ∧ (State.setPump s k v).buses = s.buses ∧
    (State.setPump s k v).frameLog = s.frameLog ∧ (State.setPump s k v).power = s.power ∧ (State.setPump s k v).ptp = s.ptp ∧
    (State.setPump s k v).fans = s.fans ∧ (State.setPump s k v).upds = s.upds ∧ (State.setPump s k v).fw = s.fw ∧
    (State.setPump s k v).log = s.log ∧ (State.setPump s k v).bmu = s.bmu ∧ (State.setPump s k v).mirror = s.mirror ∧
    (State.setPump s k v).pending = s.pending := by
  exact ⟨rfl, rfl, rfl, rfl, rfl, rfl, rfl, rfl, rfl, rfl, rfl, rfl, rfl, rfl, rfl, rfl, rfl, rfl, rfl, rfl, rfl, rfl, rfl, rfl, rfl, rfl, rfl, rfl, rfl, rfl, rfl, rfl, rfl, rfl⟩

@[simp] theorem State.modPump_frame (s : State) (k : Nat) (g : Pump → Pump) :
    (State.modPump s k g).now = s.now ∧ (State.modPump s k g).frame = s.frame ∧ (State.modPump s k g).free = s.free ∧
    (State.modPump s k g).regs = s.regs ∧ (State.modPump s k g).outbox = s.outbox ∧ (State.modPump s k g).vcp = s.vcp ∧
    (State.modPump s k g).broker = s.broker ∧ (State.modPump s k g).valves = s.valves ∧ (State.modPump s k g).motors = s.motors ∧
    (State.modPump s k g).senses = s.senses ∧ (State.modPump s k g).pulses = s.pulses ∧ (State.modPump s k g).analogs = s.analogs ∧
    (State.modPump s k g).auxs = s.auxs ∧ (State.modPump s k g).cards = s.cards ∧ (State.modPump s k g).service = s.service ∧
    (State.modPump s k g).seqr = s.seqr ∧ (State.modPump s k g).dies = s.dies ∧ (State.modPump s k g).clusters = s.clusters ∧
    (State.modPump s k g).integ = s.integ ∧ (State.modPump s k g).copies = s.copies ∧ (State.modPump s k g).pair = s.pair ∧
    (State.modPump s k g).links = s.links ∧ (State.modPump s k g).hall = s.hall ∧ (State.modPump s k g).buses = s.buses ∧
    (State.modPump s k g).frameLog = s.frameLog ∧ (State.modPump s k g).power = s.power ∧ (State.modPump s k g).ptp = s.ptp ∧
    (State.modPump s k g).fans = s.fans ∧ (State.modPump s k g).upds = s.upds ∧ (State.modPump s k g).fw = s.fw ∧
    (State.modPump s k g).log = s.log ∧ (State.modPump s k g).bmu = s.bmu ∧ (State.modPump s k g).mirror = s.mirror ∧
    (State.modPump s k g).pending = s.pending := by
  exact ⟨rfl, rfl, rfl, rfl, rfl, rfl, rfl, rfl, rfl, rfl, rfl, rfl, rfl, rfl, rfl, rfl, rfl, rfl, rfl, rfl, rfl, rfl, rfl, rfl, rfl, rfl, rfl, rfl, rfl, rfl, rfl, rfl, rfl, rfl⟩

@[simp] theorem State.setRow_frame (s : State) (r : ReflexRow) (v : RowState) :
    (State.setRow s r v).now = s.now ∧ (State.setRow s r v).frame = s.frame ∧ (State.setRow s r v).free = s.free ∧
    (State.setRow s r v).regs = s.regs ∧ (State.setRow s r v).outbox = s.outbox ∧ (State.setRow s r v).vcp = s.vcp ∧
    (State.setRow s r v).broker = s.broker ∧ (State.setRow s r v).valves = s.valves ∧ (State.setRow s r v).motors = s.motors ∧
    (State.setRow s r v).senses = s.senses ∧ (State.setRow s r v).pulses = s.pulses ∧ (State.setRow s r v).analogs = s.analogs ∧
    (State.setRow s r v).auxs = s.auxs ∧ (State.setRow s r v).cards = s.cards ∧ (State.setRow s r v).service = s.service ∧
    (State.setRow s r v).seqr = s.seqr ∧ (State.setRow s r v).dies = s.dies ∧ (State.setRow s r v).clusters = s.clusters ∧
    (State.setRow s r v).integ = s.integ ∧ (State.setRow s r v).copies = s.copies ∧ (State.setRow s r v).pair = s.pair ∧
    (State.setRow s r v).links = s.links ∧ (State.setRow s r v).hall = s.hall ∧ (State.setRow s r v).buses = s.buses ∧
    (State.setRow s r v).frameLog = s.frameLog ∧ (State.setRow s r v).power = s.power ∧ (State.setRow s r v).ptp = s.ptp ∧
    (State.setRow s r v).fans = s.fans ∧ (State.setRow s r v).upds = s.upds ∧ (State.setRow s r v).fw = s.fw ∧
    (State.setRow s r v).log = s.log ∧ (State.setRow s r v).bmu = s.bmu ∧ (State.setRow s r v).mirror = s.mirror ∧
    (State.setRow s r v).pending = s.pending := by
  exact ⟨rfl, rfl, rfl, rfl, rfl, rfl, rfl, rfl, rfl, rfl, rfl, rfl, rfl, rfl, rfl, rfl, rfl, rfl, rfl, rfl, rfl, rfl, rfl, rfl, rfl, rfl, rfl, rfl, rfl, rfl, rfl, rfl, rfl, rfl⟩

@[simp] theorem State.modRow_frame (s : State) (r : ReflexRow) (g : RowState → RowState) :
    (State.modRow s r g).now = s.now ∧ (State.modRow s r g).frame = s.frame ∧ (State.modRow s r g).free = s.free ∧
    (State.modRow s r g).regs = s.regs ∧ (State.modRow s r g).outbox = s.outbox ∧ (State.modRow s r g).vcp = s.vcp ∧
    (State.modRow s r g).broker = s.broker ∧ (State.modRow s r g).valves = s.valves ∧ (State.modRow s r g).motors = s.motors ∧
    (State.modRow s r g).senses = s.senses ∧ (State.modRow s r g).pulses = s.pulses ∧ (State.modRow s r g).analogs = s.analogs ∧
    (State.modRow s r g).auxs = s.auxs ∧ (State.modRow s r g).cards = s.cards ∧ (State.modRow s r g).service = s.service ∧
    (State.modRow s r g).seqr = s.seqr ∧ (State.modRow s r g).dies = s.dies ∧ (State.modRow s r g).clusters = s.clusters ∧
    (State.modRow s r g).integ = s.integ ∧ (State.modRow s r g).copies = s.copies ∧ (State.modRow s r g).pair = s.pair ∧
    (State.modRow s r g).links = s.links ∧ (State.modRow s r g).hall = s.hall ∧ (State.modRow s r g).buses = s.buses ∧
    (State.modRow s r g).frameLog = s.frameLog ∧ (State.modRow s r g).power = s.power ∧ (State.modRow s r g).ptp = s.ptp ∧
    (State.modRow s r g).fans = s.fans ∧ (State.modRow s r g).upds = s.upds ∧ (State.modRow s r g).fw = s.fw ∧
    (State.modRow s r g).log = s.log ∧ (State.modRow s r g).bmu = s.bmu ∧ (State.modRow s r g).mirror = s.mirror ∧
    (State.modRow s r g).pending = s.pending := by
  exact ⟨rfl, rfl, rfl, rfl, rfl, rfl, rfl, rfl, rfl, rfl, rfl, rfl, rfl, rfl, rfl, rfl, rfl, rfl, rfl, rfl, rfl, rfl, rfl, rfl, rfl, rfl, rfl, rfl, rfl, rfl, rfl, rfl, rfl, rfl⟩

@[simp] theorem State.draw_frame (s : State) :
    (State.draw s).now = s.now ∧ (State.draw s).frame = s.frame ∧ (State.draw s).regs = s.regs ∧ (State.draw s).outbox = s.outbox ∧
    (State.draw s).vcp = s.vcp ∧ (State.draw s).plant = s.plant ∧ (State.draw s).broker = s.broker ∧ (State.draw s).valves = s.valves ∧
    (State.draw s).motors = s.motors ∧ (State.draw s).senses = s.senses ∧ (State.draw s).pulses = s.pulses ∧
    (State.draw s).analogs = s.analogs ∧ (State.draw s).auxs = s.auxs ∧ (State.draw s).cards = s.cards ∧
    (State.draw s).service = s.service ∧ (State.draw s).seqr = s.seqr ∧ (State.draw s).dies = s.dies ∧
    (State.draw s).clusters = s.clusters ∧ (State.draw s).integ = s.integ ∧ (State.draw s).copies = s.copies ∧
    (State.draw s).pair = s.pair ∧ (State.draw s).links = s.links ∧ (State.draw s).hall = s.hall ∧ (State.draw s).buses = s.buses ∧
    (State.draw s).frameLog = s.frameLog ∧ (State.draw s).power = s.power ∧ (State.draw s).ptp = s.ptp ∧ (State.draw s).fans = s.fans ∧
    (State.draw s).upds = s.upds ∧ (State.draw s).fw = s.fw ∧ (State.draw s).log = s.log ∧ (State.draw s).bmu = s.bmu ∧
    (State.draw s).mirror = s.mirror ∧ (State.draw s).pending = s.pending := by
  exact ⟨rfl, rfl, rfl, rfl, rfl, rfl, rfl, rfl, rfl, rfl, rfl, rfl, rfl, rfl, rfl, rfl, rfl, rfl, rfl, rfl, rfl, rfl, rfl, rfl, rfl, rfl, rfl, rfl, rfl, rfl, rfl, rfl, rfl, rfl⟩

@[simp] theorem State.emit_frame (s : State) (o : Out) :
    (State.emit s o).now = s.now ∧ (State.emit s o).frame = s.frame ∧ (State.emit s o).free = s.free ∧ (State.emit s o).regs = s.regs ∧
    (State.emit s o).vcp = s.vcp ∧ (State.emit s o).plant = s.plant ∧ (State.emit s o).broker = s.broker ∧
    (State.emit s o).valves = s.valves ∧ (State.emit s o).motors = s.motors ∧ (State.emit s o).senses = s.senses ∧
    (State.emit s o).pulses = s.pulses ∧ (State.emit s o).analogs = s.analogs ∧ (State.emit s o).auxs = s.auxs ∧
    (State.emit s o).cards = s.cards ∧ (State.emit s o).service = s.service ∧ (State.emit s o).seqr = s.seqr ∧
    (State.emit s o).dies = s.dies ∧ (State.emit s o).clusters = s.clusters ∧ (State.emit s o).integ = s.integ ∧
    (State.emit s o).copies = s.copies ∧ (State.emit s o).pair = s.pair ∧ (State.emit s o).links = s.links ∧
    (State.emit s o).hall = s.hall ∧ (State.emit s o).buses = s.buses ∧ (State.emit s o).frameLog = s.frameLog ∧
    (State.emit s o).power = s.power ∧ (State.emit s o).ptp = s.ptp ∧ (State.emit s o).fans = s.fans ∧ (State.emit s o).upds = s.upds ∧
    (State.emit s o).fw = s.fw ∧ (State.emit s o).log = s.log ∧ (State.emit s o).bmu = s.bmu ∧ (State.emit s o).mirror = s.mirror ∧
    (State.emit s o).pending = s.pending := by
  exact ⟨rfl, rfl, rfl, rfl, rfl, rfl, rfl, rfl, rfl, rfl, rfl, rfl, rfl, rfl, rfl, rfl, rfl, rfl, rfl, rfl, rfl, rfl, rfl, rfl, rfl, rfl, rfl, rfl, rfl, rfl, rfl, rfl, rfl, rfl⟩

@[simp] theorem askService_frame (q : SvcReq) (s : State) :
    (askService q s).now = s.now ∧ (askService q s).frame = s.frame ∧ (askService q s).free = s.free ∧ (askService q s).regs = s.regs ∧
    (askService q s).outbox = s.outbox ∧ (askService q s).vcp = s.vcp ∧ (askService q s).plant = s.plant ∧
    (askService q s).broker = s.broker ∧ (askService q s).valves = s.valves ∧ (askService q s).motors = s.motors ∧
    (askService q s).senses = s.senses ∧ (askService q s).pulses = s.pulses ∧ (askService q s).analogs = s.analogs ∧
    (askService q s).auxs = s.auxs ∧ (askService q s).cards = s.cards ∧ (askService q s).seqr = s.seqr ∧ (askService q s).dies = s.dies ∧
    (askService q s).clusters = s.clusters ∧ (askService q s).integ = s.integ ∧ (askService q s).copies = s.copies ∧
    (askService q s).pair = s.pair ∧ (askService q s).links = s.links ∧ (askService q s).hall = s.hall ∧ (askService q s).buses = s.buses ∧
    (askService q s).frameLog = s.frameLog ∧ (askService q s).power = s.power ∧ (askService q s).ptp = s.ptp ∧
    (askService q s).fans = s.fans ∧ (askService q s).upds = s.upds ∧ (askService q s).fw = s.fw ∧ (askService q s).log = s.log ∧
    (askService q s).bmu = s.bmu ∧ (askService q s).mirror = s.mirror ∧ (askService q s).pending = s.pending := by
  unfold askService; (try dsimp only); (repeat' split) <;> simp
/-! ### Reads after writes -/

@[simp] theorem State.valve_setValve (s : State) (k j : Nat) (v : Valve) : (s.setValve k v).valve j = if j = k then v else s.valve j := by
  by_cases h : j = k
  · subst h; simp [State.valve, State.setValve]
  · simp [State.valve, State.setValve, mget_mset_ne, h]
@[simp] theorem State.valve_modValve (s : State) (k j : Nat) (g : Valve → Valve) : (s.modValve k g).valve j = if j = k then g (s.valve k) else s.valve j := by
  simp [State.modValve]
@[simp] theorem State.motor_setMotor (s : State) (k j : Nat) (v : Motor) : (s.setMotor k v).motor j = if j = k then v else s.motor j := by
  by_cases h : j = k
  · subst h; simp [State.motor, State.setMotor]
  · simp [State.motor, State.setMotor, mget_mset_ne, h]
@[simp] theorem State.motor_modMotor (s : State) (k j : Nat) (g : Motor → Motor) : (s.modMotor k g).motor j = if j = k then g (s.motor k) else s.motor j := by
  simp [State.modMotor]
@[simp] theorem State.sense_setSense (s : State) (k j : Nat) (v : Sense) : (s.setSense k v).sense j = if j = k then v else s.sense j := by
  by_cases h : j = k
  · subst h; simp [State.sense, State.setSense]
  · simp [State.sense, State.setSense, mget_mset_ne, h]
@[simp] theorem State.sense_modSense (s : State) (k j : Nat) (g : Sense → Sense) : (s.modSense k g).sense j = if j = k then g (s.sense k) else s.sense j := by
  simp [State.modSense]
@[simp] theorem State.pulse_setPulse (s : State) (k j : Nat) (v : Pulse) : (s.setPulse k v).pulse j = if j = k then v else s.pulse j := by
  by_cases h : j = k
  · subst h; simp [State.pulse, State.setPulse]
  · simp [State.pulse, State.setPulse, mget_mset_ne, h]
@[simp] theorem State.pulse_modPulse (s : State) (k j : Nat) (g : Pulse → Pulse) : (s.modPulse k g).pulse j = if j = k then g (s.pulse k) else s.pulse j := by
  simp [State.modPulse]
@[simp] theorem State.analog_setAnalog (s : State) (k j : Nat) (v : Analog) : (s.setAnalog k v).analog j = if j = k then v else s.analog j := by
  by_cases h : j = k
  · subst h; simp [State.analog, State.setAnalog]
  · simp [State.analog, State.setAnalog, mget_mset_ne, h]
@[simp] theorem State.analog_modAnalog (s : State) (k j : Nat) (g : Analog → Analog) : (s.modAnalog k g).analog j = if j = k then g (s.analog k) else s.analog j := by
  simp [State.modAnalog]
@[simp] theorem State.aux_setAux (s : State) (k j : Nat) (v : Aux) : (s.setAux k v).aux j = if j = k then v else s.aux j := by
  by_cases h : j = k
  · subst h; simp [State.aux, State.setAux]
  · simp [State.aux, State.setAux, mget_mset_ne, h]
@[simp] theorem State.aux_modAux (s : State) (k j : Nat) (g : Aux → Aux) : (s.modAux k g).aux j = if j = k then g (s.aux k) else s.aux j := by
  simp [State.modAux]
@[simp] theorem State.card_setCard (s : State) (k j : Nat) (v : Card) : (s.setCard k v).card j = if j = k then v else s.card j := by
  by_cases h : j = k
  · subst h; simp [State.card, State.setCard]
  · simp [State.card, State.setCard, mget_mset_ne, h]
@[simp] theorem State.card_modCard (s : State) (k j : Nat) (g : Card → Card) : (s.modCard k g).card j = if j = k then g (s.card k) else s.card j := by
  simp [State.modCard]
@[simp] theorem State.die_setDie (s : State) (k j : Nat) (v : Die) : (s.setDie k v).die j = if j = k then v else s.die j := by
  by_cases h : j = k
  · subst h; simp [State.die, State.setDie]
  · simp [State.die, State.setDie, mget_mset_ne, h]
@[simp] theorem State.die_modDie (s : State) (k j : Nat) (g : Die → Die) : (s.modDie k g).die j = if j = k then g (s.die k) else s.die j := by
  simp [State.modDie]
@[simp] theorem State.cluster_setCluster (s : State) (k j : Nat) (v : Cluster) : (s.setCluster k v).cluster j = if j = k then v else s.cluster j := by
  by_cases h : j = k
  · subst h; simp [State.cluster, State.setCluster]
  · simp [State.cluster, State.setCluster, mget_mset_ne, h]
@[simp] theorem State.cluster_modCluster (s : State) (k j : Nat) (g : Cluster → Cluster) : (s.modCluster k g).cluster j = if j = k then g (s.cluster k) else s.cluster j := by
  simp [State.modCluster]
@[simp] theorem State.link_setLink (s : State) (k j : Nat) (v : Link) : (s.setLink k v).link j = if j = k then v else s.link j := by
  by_cases h : j = k
  · subst h; simp [State.link, State.setLink]
  · simp [State.link, State.setLink, mget_mset_ne, h]
@[simp] theorem State.link_modLink (s : State) (k j : Nat) (g : Link → Link) : (s.modLink k g).link j = if j = k then g (s.link k) else s.link j := by
  simp [State.modLink]
@[simp] theorem State.bus_setBus (s : State) (k j : Nat) (v : Bus) : (s.setBus k v).bus j = if j = k then v else s.bus j := by
  by_cases h : j = k
  · subst h; simp [State.bus, State.setBus]
  · simp [State.bus, State.setBus, mget_mset_ne, h]
@[simp] theorem State.bus_modBus (s : State) (k j : Nat) (g : Bus → Bus) : (s.modBus k g).bus j = if j = k then g (s.bus k) else s.bus j := by
  simp [State.modBus]
@[simp] theorem State.upd_setUpd (s : State) (k j : Nat) (v : Upd) : (s.setUpd k v).upd j = if j = k then v else s.upd j := by
  by_cases h : j = k
  · subst h; simp [State.upd, State.setUpd]
  · simp [State.upd, State.setUpd, mget_mset_ne, h]
@[simp] theorem State.upd_modUpd (s : State) (k j : Nat) (g : Upd → Upd) : (s.modUpd k g).upd j = if j = k then g (s.upd k) else s.upd j := by
  simp [State.modUpd]
@[simp] theorem State.rack_setRack (s : State) (k j : Nat) (v : Rack) : (s.setRack k v).rack j = if j = k then v else s.rack j := by
  by_cases h : j = k
  · subst h; simp [State.rack, State.setRack]
  · simp [State.rack, State.setRack, mget_mset_ne, h]
@[simp] theorem State.rack_modRack (s : State) (k j : Nat) (g : Rack → Rack) : (s.modRack k g).rack j = if j = k then g (s.rack k) else s.rack j := by
  simp [State.modRack]
@[simp] theorem State.loop_setLoop (s : State) (k j : Nat) (v : Loop) : (s.setLoop k v).loop j = if j = k then v else s.loop j := by
  by_cases h : j = k
  · subst h; simp [State.loop, State.setLoop]
  · simp [State.loop, State.setLoop, mget_mset_ne, h]
@[simp] theorem State.loop_modLoop (s : State) (k j : Nat) (g : Loop → Loop) : (s.modLoop k g).loop j = if j = k then g (s.loop k) else s.loop j := by
  simp [State.modLoop]
@[simp] theorem State.pump_setPump (s : State) (k j : Nat) (v : Pump) : (s.setPump k v).pump j = if j = k then v else s.pump j := by
  by_cases h : j = k
  · subst h; simp [State.pump, State.setPump]
  · simp [State.pump, State.setPump, mget_mset_ne, h]
@[simp] theorem State.pump_modPump (s : State) (k j : Nat) (g : Pump → Pump) : (s.modPump k g).pump j = if j = k then g (s.pump k) else s.pump j := by
  simp [State.modPump]
theorem rowKey_injective : Function.Injective rowKey := by
  intro a b h
  cases a <;> cases b <;> simp [rowKey] at h ⊢ <;> first | omega | (exact Fin.ext (by omega))
@[simp] theorem State.row_setRow (s : State) (k j : ReflexRow) (v : RowState) : (s.setRow k v).row j = if j = k then v else s.row j := by
  by_cases h : j = k
  · subst h; simp [State.row, State.setRow]
  · have e : rowKey j ≠ rowKey k := fun e => h (rowKey_injective e)
    simp [State.row, State.setRow, mget_mset_ne _ _ _ _ e, h]
@[simp] theorem State.row_modRow (s : State) (k j : ReflexRow) (g : RowState → RowState) :
    (s.modRow k g).row j = if j = k then g (s.row k) else s.row j := by
  simp [State.modRow]

/-! ### Parts seen through their maps -/

theorem State.valve_congr {s t : State} (h : t.valves = s.valves) (k : Nat) : t.valve k = s.valve k := by simp [State.valve, h]
theorem State.motor_congr {s t : State} (h : t.motors = s.motors) (k : Nat) : t.motor k = s.motor k := by simp [State.motor, h]
theorem State.sense_congr {s t : State} (h : t.senses = s.senses) (k : Nat) : t.sense k = s.sense k := by simp [State.sense, h]
theorem State.pulse_congr {s t : State} (h : t.pulses = s.pulses) (k : Nat) : t.pulse k = s.pulse k := by simp [State.pulse, h]
theorem State.analog_congr {s t : State} (h : t.analogs = s.analogs) (k : Nat) : t.analog k = s.analog k := by simp [State.analog, h]
theorem State.aux_congr {s t : State} (h : t.auxs = s.auxs) (k : Nat) : t.aux k = s.aux k := by simp [State.aux, h]
theorem State.card_congr {s t : State} (h : t.cards = s.cards) (k : Nat) : t.card k = s.card k := by simp [State.card, h]
theorem State.die_congr {s t : State} (h : t.dies = s.dies) (k : Nat) : t.die k = s.die k := by simp [State.die, h]
theorem State.cluster_congr {s t : State} (h : t.clusters = s.clusters) (k : Nat) : t.cluster k = s.cluster k := by simp [State.cluster, h]
theorem State.link_congr {s t : State} (h : t.links = s.links) (k : Nat) : t.link k = s.link k := by simp [State.link, h]
theorem State.bus_congr {s t : State} (h : t.buses = s.buses) (k : Nat) : t.bus k = s.bus k := by simp [State.bus, h]
theorem State.upd_congr {s t : State} (h : t.upds = s.upds) (k : Nat) : t.upd k = s.upd k := by simp [State.upd, h]
theorem State.rack_congr {s t : State} (h : t.broker = s.broker) (k : Nat) : t.rack k = s.rack k := by simp [State.rack, h]
theorem State.loop_congr {s t : State} (h : t.plant = s.plant) (k : Nat) : t.loop k = s.loop k := by simp [State.loop, h]
theorem State.pump_congr {s t : State} (h : t.plant = s.plant) (k : Nat) : t.pump k = s.pump k := by simp [State.pump, h]
theorem State.row_congr {s t : State} (h : t.plant = s.plant) (r : ReflexRow) : t.row r = s.row r := by simp [State.row, h]
theorem State.reg_congr {s t : State} (h : t.regs = s.regs) (u off : Nat) : t.reg u off = s.reg u off := by simp [State.reg, h]

/-! ### Registers -/

theorem regKey_inj {u off u' off' : Nat} (h : off < 0x1000) (h' : off' < 0x1000) : regKey u' off' = regKey u off ↔ u' = u ∧ off' = off := by
  unfold regKey
  omega

@[simp] theorem State.reg_setReg_self (s : State) (u off : Nat) (v : Word) : (s.setReg u off v).reg u off = v := by
  simp [State.reg, State.setReg]

theorem State.reg_setReg_ne (s : State) {u off u' off' : Nat} (v : Word) (h : regKey u' off' ≠ regKey u off) :
    (s.setReg u off v).reg u' off' = s.reg u' off' := by
  simp [State.reg, State.setReg, mget_mset_ne, h]

theorem State.reg_setReg_other (s : State) {u off u' off' : Nat} (v : Word) (h : off < 0x1000) (h' : off' < 0x1000)
    (hne : ¬ (u' = u ∧ off' = off)) : (s.setReg u off v).reg u' off' = s.reg u' off' :=
  s.reg_setReg_ne v (by rw [Ne, regKey_inj h h']; exact hne)

theorem bitOf_orBit (w : Word) {n m : Nat} (h : n < 32) : bitOf (orBit w n) m = (decide (m = n) || bitOf w m) := by
  unfold bitOf orBit wd
  simp only [BitVec.getLsbD_or, BitVec.getLsbD_ofNat, Nat.testBit_two_pow]
  by_cases e : m = n
  · subst e; simp [h]
  · simp [e, Ne.symm e]

theorem bitOf_clrBit (w : Word) {n m : Nat} (h : m < 32) : bitOf (clrBit w n) m = (bitOf w m && !decide (m = n)) := by
  unfold bitOf clrBit wd
  simp only [BitVec.getLsbD_and, BitVec.getLsbD_not, BitVec.getLsbD_ofNat, Nat.testBit_two_pow]
  by_cases e : m = n
  · subst e; simp [h]
  · simp [e, Ne.symm e, h]

@[simp] theorem State.bitAt_setEvent_self (s : State) (u off n : Nat) (h : n < 32) : (s.setEvent u off n).bitAt u off n = true := by
  simp [State.bitAt, State.setEvent, bitOf_orBit _ h]

/-- Setting an event clears no bit. -/
theorem State.bitAt_setEvent_mono (s : State) {u off n u' off' m : Nat} (hn : n < 32) (h : s.bitAt u' off' m = true) :
    (s.setEvent u off n).bitAt u' off' m = true := by
  unfold State.bitAt State.setEvent at *
  by_cases e : regKey u' off' = regKey u off
  · have er : s.reg u' off' = s.reg u off := by simp [State.reg, e]
    have : (s.setReg u off (orBit (s.reg u off) n)).reg u' off' = orBit (s.reg u off) n := by
      have := s.reg_setReg_self u off (orBit (s.reg u off) n)
      simpa [State.reg, e] using this
    rw [this, bitOf_orBit _ hn, ← er, h]; simp
  · rw [State.reg_setReg_ne _ _ e]; exact h

theorem State.reg_setEvent_other (s : State) {u off n u' off' : Nat} (h : off < 0x1000) (h' : off' < 0x1000)
    (hne : ¬ (u' = u ∧ off' = off)) : (s.setEvent u off n).reg u' off' = s.reg u' off' :=
  s.reg_setReg_other _ h h' hne

theorem State.reg_addCount_other (s : State) {u off hi lo k u' off' : Nat} (h : off < 0x1000) (h' : off' < 0x1000)
    (hne : ¬ (u' = u ∧ off' = off)) : (s.addCount u off hi lo k).reg u' off' = s.reg u' off' :=
  s.reg_setReg_other _ h h' hne

/-! ### Fields of a register -/

theorem bitOf_putFld (w : Word) (hi lo v n : Nat) (h : n < 32) :
    bitOf (putFld w hi lo v) n = if lo ≤ n ∧ n ≤ hi then v.testBit (n - lo) else bitOf w n := by
  unfold bitOf putFld wd
  simp only [BitVec.getLsbD_or, BitVec.getLsbD_and, BitVec.getLsbD_not, BitVec.getLsbD_ofNat, Nat.testBit_mul_two_pow, h, decide_true,
    Bool.true_and, Nat.testBit_two_pow_sub_one]
  by_cases h1 : lo ≤ n
  · by_cases h2 : n ≤ hi
    · have : n - lo < hi + 1 - lo := by omega
      simp [h1, h2, this]
    · have : ¬ n - lo < hi + 1 - lo := by omega
      simp [h1, h2, this]
  · simp [h1]

theorem testBit_fld (w : Word) (hi lo n : Nat) : (fld w hi lo).testBit n = (decide (n < hi + 1 - lo) && bitOf w (lo + n)) := by
  unfold fld bitOf
  rw [Nat.testBit_mod_two_pow, Nat.testBit_shiftRight]
  rfl

/-- A field reads as written. -/
theorem fld_putFld_self (w : Word) {hi lo : Nat} (v : Nat) (h : hi < 32) (hv : v < 2 ^ (hi + 1 - lo)) : fld (putFld w hi lo v) hi lo = v := by
  apply Nat.eq_of_testBit_eq
  intro i
  rw [testBit_fld]
  by_cases hi' : i < hi + 1 - lo
  · rw [bitOf_putFld _ _ _ _ _ (by omega)]
    have : lo ≤ lo + i ∧ lo + i ≤ hi := by omega
    simp [hi', this]
  · simp only [hi', decide_false, Bool.false_and]
    exact (Nat.testBit_lt_two_pow (Nat.lt_of_lt_of_le hv (Nat.pow_le_pow_right (by decide) (by omega)))).symm

/-- A field outside the one written reads as before. -/
theorem fld_putFld_other (w : Word) {hi lo hi' lo' : Nat} (v : Nat) (h' : hi' < 32) (hd : hi < lo' ∨ hi' < lo) :
    fld (putFld w hi lo v) hi' lo' = fld w hi' lo' := by
  apply Nat.eq_of_testBit_eq
  intro i
  rw [testBit_fld, testBit_fld]
  by_cases hi'' : i < hi' + 1 - lo'
  · rw [bitOf_putFld _ _ _ _ _ (by omega)]
    have : ¬ (lo ≤ lo' + i ∧ lo' + i ≤ hi) := by omega
    simp [hi'', this]
  · simp [hi'']

end Sys2Proof.Machine
end

