-- ==== Sys2Proof/Laws/Reports.lean ====
section
/-! SUPPORT. For each shared operation, once: the parts of the state it leaves unchanged. Reporting (Logbook, notifications, requests). -/

namespace Sys2Proof.Machine

open Sys2Proof

@[simp] theorem toPartner_frame (i : MirrorItem) (s : State) :
    (toPartner i s).now = s.now ∧ (toPartner i s).frame = s.frame ∧ (toPartner i s).free = s.free ∧ (toPartner i s).regs = s.regs ∧
    (toPartner i s).vcp = s.vcp ∧ (toPartner i s).plant = s.plant ∧ (toPartner i s).broker = s.broker ∧ (toPartner i s).valves = s.valves ∧
    (toPartner i s).motors = s.motors ∧ (toPartner i s).senses = s.senses ∧ (toPartner i s).pulses = s.pulses ∧
    (toPartner i s).analogs = s.analogs ∧ (toPartner i s).auxs = s.auxs ∧ (toPartner i s).cards = s.cards ∧
    (toPartner i s).service = s.service ∧ (toPartner i s).seqr = s.seqr ∧ (toPartner i s).dies = s.dies ∧
    (toPartner i s).clusters = s.clusters ∧ (toPartner i s).integ = s.integ ∧ (toPartner i s).copies = s.copies ∧
    (toPartner i s).pair = s.pair ∧ (toPartner i s).links = s.links ∧ (toPartner i s).hall = s.hall ∧ (toPartner i s).buses = s.buses ∧
    (toPartner i s).frameLog = s.frameLog ∧ (toPartner i s).power = s.power ∧ (toPartner i s).ptp = s.ptp ∧ (toPartner i s).fans = s.fans ∧
    (toPartner i s).upds = s.upds ∧ (toPartner i s).fw = s.fw ∧ (toPartner i s).log = s.log ∧ (toPartner i s).bmu = s.bmu ∧
    (toPartner i s).mirror = s.mirror ∧ (toPartner i s).pending = s.pending := by
  unfold toPartner; (try dsimp only); (repeat' split) <;> simp

@[simp] theorem mirrorQueue_frame (eff : State → State) (s : State) :
    (mirrorQueue eff s).now = s.now ∧ (mirrorQueue eff s).frame = s.frame ∧ (mirrorQueue eff s).free = s.free ∧
    (mirrorQueue eff s).regs = s.regs ∧ (mirrorQueue eff s).vcp = s.vcp ∧ (mirrorQueue eff s).plant = s.plant ∧
    (mirrorQueue eff s).broker = s.broker ∧ (mirrorQueue eff s).valves = s.valves ∧ (mirrorQueue eff s).motors = s.motors ∧
    (mirrorQueue eff s).senses = s.senses ∧ (mirrorQueue eff s).pulses = s.pulses ∧ (mirrorQueue eff s).analogs = s.analogs ∧
    (mirrorQueue eff s).auxs = s.auxs ∧ (mirrorQueue eff s).cards = s.cards ∧ (mirrorQueue eff s).service = s.service ∧
    (mirrorQueue eff s).seqr = s.seqr ∧ (mirrorQueue eff s).dies = s.dies ∧ (mirrorQueue eff s).clusters = s.clusters ∧
    (mirrorQueue eff s).integ = s.integ ∧ (mirrorQueue eff s).copies = s.copies ∧ (mirrorQueue eff s).pair = s.pair ∧
    (mirrorQueue eff s).links = s.links ∧ (mirrorQueue eff s).hall = s.hall ∧ (mirrorQueue eff s).buses = s.buses ∧
    (mirrorQueue eff s).frameLog = s.frameLog ∧ (mirrorQueue eff s).power = s.power ∧ (mirrorQueue eff s).ptp = s.ptp ∧
    (mirrorQueue eff s).fans = s.fans ∧ (mirrorQueue eff s).upds = s.upds ∧ (mirrorQueue eff s).fw = s.fw ∧
    (mirrorQueue eff s).log = s.log ∧ (mirrorQueue eff s).bmu = s.bmu ∧ (mirrorQueue eff s).mirror = s.mirror ∧
    (mirrorQueue eff s).pending = s.pending := by
  unfold mirrorQueue; (try dsimp only); (repeat' split) <;> simp

@[simp] theorem sendService_frame (type dst : Nat) (payload : List Nat) (s : State) :
    (sendService type dst payload s).now = s.now ∧ (sendService type dst payload s).frame = s.frame ∧
    (sendService type dst payload s).free = s.free ∧ (sendService type dst payload s).regs = s.regs ∧
    (sendService type dst payload s).vcp = s.vcp ∧ (sendService type dst payload s).plant = s.plant ∧
    (sendService type dst payload s).broker = s.broker ∧ (sendService type dst payload s).valves = s.valves ∧
    (sendService type dst payload s).motors = s.motors ∧ (sendService type dst payload s).senses = s.senses ∧
    (sendService type dst payload s).pulses = s.pulses ∧ (sendService type dst payload s).analogs = s.analogs ∧
    (sendService type dst payload s).auxs = s.auxs ∧ (sendService type dst payload s).cards = s.cards ∧
    (sendService type dst payload s).service = s.service ∧ (sendService type dst payload s).seqr = s.seqr ∧
    (sendService type dst payload s).dies = s.dies ∧ (sendService type dst payload s).clusters = s.clusters ∧
    (sendService type dst payload s).integ = s.integ ∧ (sendService type dst payload s).copies = s.copies ∧
    (sendService type dst payload s).pair = s.pair ∧ (sendService type dst payload s).buses = s.buses ∧
    (sendService type dst payload s).frameLog = s.frameLog ∧ (sendService type dst payload s).power = s.power ∧
    (sendService type dst payload s).ptp = s.ptp ∧ (sendService type dst payload s).fans = s.fans ∧
    (sendService type dst payload s).upds = s.upds ∧ (sendService type dst payload s).fw = s.fw ∧
    (sendService type dst payload s).log = s.log ∧ (sendService type dst payload s).bmu = s.bmu ∧
    (sendService type dst payload s).mirror = s.mirror ∧ (sendService type dst payload s).pending = s.pending := by
  unfold sendService; (try dsimp only); (repeat' split) <;> simp

@[simp] theorem sendHall_frame (payload : List Nat) (s : State) :
    (sendHall payload s).now = s.now ∧ (sendHall payload s).frame = s.frame ∧ (sendHall payload s).free = s.free ∧
    (sendHall payload s).regs = s.regs ∧ (sendHall payload s).vcp = s.vcp ∧ (sendHall payload s).plant = s.plant ∧
    (sendHall payload s).broker = s.broker ∧ (sendHall payload s).valves = s.valves ∧ (sendHall payload s).motors = s.motors ∧
    (sendHall payload s).senses = s.senses ∧ (sendHall payload s).pulses = s.pulses ∧ (sendHall payload s).analogs = s.analogs ∧
    (sendHall payload s).auxs = s.auxs ∧ (sendHall payload s).cards = s.cards ∧ (sendHall payload s).service = s.service ∧
    (sendHall payload s).seqr = s.seqr ∧ (sendHall payload s).dies = s.dies ∧ (sendHall payload s).clusters = s.clusters ∧
    (sendHall payload s).integ = s.integ ∧ (sendHall payload s).copies = s.copies ∧ (sendHall payload s).pair = s.pair ∧
    (sendHall payload s).buses = s.buses ∧ (sendHall payload s).frameLog = s.frameLog ∧ (sendHall payload s).power = s.power ∧
    (sendHall payload s).ptp = s.ptp ∧ (sendHall payload s).fans = s.fans ∧ (sendHall payload s).upds = s.upds ∧
    (sendHall payload s).fw = s.fw ∧ (sendHall payload s).log = s.log ∧ (sendHall payload s).bmu = s.bmu ∧
    (sendHall payload s).mirror = s.mirror ∧ (sendHall payload s).pending = s.pending := by
  unfold sendHall; (try dsimp only); (repeat' split) <;> (first | (simp; done) | (simp (disch := (intros; (repeat' split) <;> simp)); done))

@[simp] theorem logPlace_frame (pos len type : Nat) (mirrored : Bool) (time : Time) (body : LogBody) (s : State) :
    (logPlace pos len type mirrored time body s).now = s.now ∧ (logPlace pos len type mirrored time body s).frame = s.frame ∧
    (logPlace pos len type mirrored time body s).free = s.free ∧ (logPlace pos len type mirrored time body s).outbox = s.outbox ∧
    (logPlace pos len type mirrored time body s).vcp = s.vcp ∧ (logPlace pos len type mirrored time body s).plant = s.plant ∧
    (logPlace pos len type mirrored time body s).broker = s.broker ∧ (logPlace pos len type mirrored time body s).valves = s.valves ∧
    (logPlace pos len type mirrored time body s).motors = s.motors ∧ (logPlace pos len type mirrored time body s).senses = s.senses ∧
    (logPlace pos len type mirrored time body s).pulses = s.pulses ∧ (logPlace pos len type mirrored time body s).analogs = s.analogs ∧
    (logPlace pos len type mirrored time body s).auxs = s.auxs ∧ (logPlace pos len type mirrored time body s).cards = s.cards ∧
    (logPlace pos len type mirrored time body s).service = s.service ∧ (logPlace pos len type mirrored time body s).seqr = s.seqr ∧
    (logPlace pos len type mirrored time body s).dies = s.dies ∧ (logPlace pos len type mirrored time body s).clusters = s.clusters ∧
    (logPlace pos len type mirrored time body s).integ = s.integ ∧ (logPlace pos len type mirrored time body s).copies = s.copies ∧
    (logPlace pos len type mirrored time body s).pair = s.pair ∧ (logPlace pos len type mirrored time body s).links = s.links ∧
    (logPlace pos len type mirrored time body s).hall = s.hall ∧ (logPlace pos len type mirrored time body s).buses = s.buses ∧
    (logPlace pos len type mirrored time body s).frameLog = s.frameLog ∧ (logPlace pos len type mirrored time body s).power = s.power ∧
    (logPlace pos len type mirrored time body s).ptp = s.ptp ∧ (logPlace pos len type mirrored time body s).fans = s.fans ∧
    (logPlace pos len type mirrored time body s).upds = s.upds ∧ (logPlace pos len type mirrored time body s).fw = s.fw ∧
    (logPlace pos len type mirrored time body s).bmu = s.bmu ∧ (logPlace pos len type mirrored time body s).mirror = s.mirror ∧
    (logPlace pos len type mirrored time body s).pending = s.pending := by
  unfold logPlace; (try dsimp only); (repeat' split) <;> simp

@[simp] theorem logTx_frame (s : State) :
    (logTx s).now = s.now ∧ (logTx s).frame = s.frame ∧ (logTx s).free = s.free ∧ (logTx s).outbox = s.outbox ∧ (logTx s).vcp = s.vcp ∧
    (logTx s).plant = s.plant ∧ (logTx s).broker = s.broker ∧ (logTx s).valves = s.valves ∧ (logTx s).motors = s.motors ∧
    (logTx s).senses = s.senses ∧ (logTx s).pulses = s.pulses ∧ (logTx s).analogs = s.analogs ∧ (logTx s).auxs = s.auxs ∧
    (logTx s).cards = s.cards ∧ (logTx s).service = s.service ∧ (logTx s).seqr = s.seqr ∧ (logTx s).dies = s.dies ∧
    (logTx s).clusters = s.clusters ∧ (logTx s).integ = s.integ ∧ (logTx s).copies = s.copies ∧ (logTx s).pair = s.pair ∧
    (logTx s).links = s.links ∧ (logTx s).hall = s.hall ∧ (logTx s).buses = s.buses ∧ (logTx s).frameLog = s.frameLog ∧
    (logTx s).power = s.power ∧ (logTx s).ptp = s.ptp ∧ (logTx s).fans = s.fans ∧ (logTx s).upds = s.upds ∧ (logTx s).fw = s.fw ∧
    (logTx s).bmu = s.bmu ∧ (logTx s).mirror = s.mirror ∧ (logTx s).pending = s.pending := by
  unfold logTx; (try dsimp only); (repeat' split) <;> simp

@[simp] theorem logPut_frame (type len : Nat) (mirrored : Bool) (time : Time) (body : LogBody) (s : State) :
    (logPut type len mirrored time body s).now = s.now ∧ (logPut type len mirrored time body s).frame = s.frame ∧
    (logPut type len mirrored time body s).free = s.free ∧ (logPut type len mirrored time body s).outbox = s.outbox ∧
    (logPut type len mirrored time body s).vcp = s.vcp ∧ (logPut type len mirrored time body s).plant = s.plant ∧
    (logPut type len mirrored time body s).broker = s.broker ∧ (logPut type len mirrored time body s).valves = s.valves ∧
    (logPut type len mirrored time body s).motors = s.motors ∧ (logPut type len mirrored time body s).senses = s.senses ∧
    (logPut type len mirrored time body s).pulses = s.pulses ∧ (logPut type len mirrored time body s).analogs = s.analogs ∧
    (logPut type len mirrored time body s).auxs = s.auxs ∧ (logPut type len mirrored time body s).cards = s.cards ∧
    (logPut type len mirrored time body s).service = s.service ∧ (logPut type len mirrored time body s).seqr = s.seqr ∧
    (logPut type len mirrored time body s).dies = s.dies ∧ (logPut type len mirrored time body s).clusters = s.clusters ∧
    (logPut type len mirrored time body s).integ = s.integ ∧ (logPut type len mirrored time body s).copies = s.copies ∧
    (logPut type len mirrored time body s).pair = s.pair ∧ (logPut type len mirrored time body s).links = s.links ∧
    (logPut type len mirrored time body s).hall = s.hall ∧ (logPut type len mirrored time body s).buses = s.buses ∧
    (logPut type len mirrored time body s).frameLog = s.frameLog ∧ (logPut type len mirrored time body s).power = s.power ∧
    (logPut type len mirrored time body s).ptp = s.ptp ∧ (logPut type len mirrored time body s).fans = s.fans ∧
    (logPut type len mirrored time body s).upds = s.upds ∧ (logPut type len mirrored time body s).fw = s.fw ∧
    (logPut type len mirrored time body s).bmu = s.bmu ∧ (logPut type len mirrored time body s).mirror = s.mirror ∧
    (logPut type len mirrored time body s).pending = s.pending := by
  unfold logPut; (try dsimp only); (repeat' split) <;> simp

@[simp] theorem sendLine_frame (s : State) :
    (sendLine s).now = s.now ∧ (sendLine s).frame = s.frame ∧ (sendLine s).free = s.free ∧ (sendLine s).regs = s.regs ∧
    (sendLine s).vcp = s.vcp ∧ (sendLine s).plant = s.plant ∧ (sendLine s).broker = s.broker ∧ (sendLine s).valves = s.valves ∧
    (sendLine s).motors = s.motors ∧ (sendLine s).senses = s.senses ∧ (sendLine s).pulses = s.pulses ∧ (sendLine s).analogs = s.analogs ∧
    (sendLine s).auxs = s.auxs ∧ (sendLine s).cards = s.cards ∧ (sendLine s).service = s.service ∧ (sendLine s).seqr = s.seqr ∧
    (sendLine s).dies = s.dies ∧ (sendLine s).clusters = s.clusters ∧ (sendLine s).integ = s.integ ∧ (sendLine s).copies = s.copies ∧
    (sendLine s).pair = s.pair ∧ (sendLine s).links = s.links ∧ (sendLine s).hall = s.hall ∧ (sendLine s).buses = s.buses ∧
    (sendLine s).frameLog = s.frameLog ∧ (sendLine s).power = s.power ∧ (sendLine s).ptp = s.ptp ∧ (sendLine s).fans = s.fans ∧
    (sendLine s).upds = s.upds ∧ (sendLine s).fw = s.fw ∧ (sendLine s).bmu = s.bmu ∧ (sendLine s).mirror = s.mirror ∧
    (sendLine s).pending = s.pending := by
  unfold sendLine; (try dsimp only); (repeat' split) <;> simp

@[simp] theorem frameTx_frame (s : State) :
    (frameTx s).now = s.now ∧ (frameTx s).frame = s.frame ∧ (frameTx s).free = s.free ∧ (frameTx s).regs = s.regs ∧
    (frameTx s).vcp = s.vcp ∧ (frameTx s).plant = s.plant ∧ (frameTx s).broker = s.broker ∧ (frameTx s).valves = s.valves ∧
    (frameTx s).motors = s.motors ∧ (frameTx s).senses = s.senses ∧ (frameTx s).pulses = s.pulses ∧ (frameTx s).analogs = s.analogs ∧
    (frameTx s).auxs = s.auxs ∧ (frameTx s).cards = s.cards ∧ (frameTx s).service = s.service ∧ (frameTx s).seqr = s.seqr ∧
    (frameTx s).dies = s.dies ∧ (frameTx s).clusters = s.clusters ∧ (frameTx s).integ = s.integ ∧ (frameTx s).copies = s.copies ∧
    (frameTx s).pair = s.pair ∧ (frameTx s).links = s.links ∧ (frameTx s).hall = s.hall ∧ (frameTx s).buses = s.buses ∧
    (frameTx s).frameLog = s.frameLog ∧ (frameTx s).power = s.power ∧ (frameTx s).ptp = s.ptp ∧ (frameTx s).fans = s.fans ∧
    (frameTx s).upds = s.upds ∧ (frameTx s).fw = s.fw ∧ (frameTx s).bmu = s.bmu ∧ (frameTx s).mirror = s.mirror ∧
    (frameTx s).pending = s.pending := by
  unfold frameTx; (try dsimp only); (repeat' split) <;> simp

@[simp] theorem logGap_frame (deck : Bool) (s : State) :
    (logGap deck s).now = s.now ∧ (logGap deck s).frame = s.frame ∧ (logGap deck s).free = s.free ∧ (logGap deck s).vcp = s.vcp ∧
    (logGap deck s).plant = s.plant ∧ (logGap deck s).broker = s.broker ∧ (logGap deck s).valves = s.valves ∧
    (logGap deck s).motors = s.motors ∧ (logGap deck s).senses = s.senses ∧ (logGap deck s).pulses = s.pulses ∧
    (logGap deck s).analogs = s.analogs ∧ (logGap deck s).auxs = s.auxs ∧ (logGap deck s).cards = s.cards ∧
    (logGap deck s).service = s.service ∧ (logGap deck s).seqr = s.seqr ∧ (logGap deck s).dies = s.dies ∧
    (logGap deck s).clusters = s.clusters ∧ (logGap deck s).integ = s.integ ∧ (logGap deck s).copies = s.copies ∧
    (logGap deck s).pair = s.pair ∧ (logGap deck s).links = s.links ∧ (logGap deck s).hall = s.hall ∧ (logGap deck s).buses = s.buses ∧
    (logGap deck s).frameLog = s.frameLog ∧ (logGap deck s).power = s.power ∧ (logGap deck s).ptp = s.ptp ∧ (logGap deck s).fans = s.fans ∧
    (logGap deck s).upds = s.upds ∧ (logGap deck s).fw = s.fw ∧ (logGap deck s).bmu = s.bmu ∧ (logGap deck s).mirror = s.mirror ∧
    (logGap deck s).pending = s.pending := by
  unfold logGap; (try dsimp only); (repeat' split) <;> simp

@[simp] theorem logSubmit_frame (deck reserved : Bool) (type bodyLen : Nat) (time : Time) (body : LogBody) (s : State) :
    (logSubmit deck reserved type bodyLen time body s).now = s.now ∧ (logSubmit deck reserved type bodyLen time body s).frame = s.frame ∧
    (logSubmit deck reserved type bodyLen time body s).free = s.free ∧ (logSubmit deck reserved type bodyLen time body s).vcp = s.vcp ∧
    (logSubmit deck reserved type bodyLen time body s).plant = s.plant ∧
    (logSubmit deck reserved type bodyLen time body s).broker = s.broker ∧
    (logSubmit deck reserved type bodyLen time body s).valves = s.valves ∧
    (logSubmit deck reserved type bodyLen time body s).motors = s.motors ∧
    (logSubmit deck reserved type bodyLen time body s).senses = s.senses ∧
    (logSubmit deck reserved type bodyLen time body s).pulses = s.pulses ∧
    (logSubmit deck reserved type bodyLen time body s).analogs = s.analogs ∧
    (logSubmit deck reserved type bodyLen time body s).auxs = s.auxs ∧ (logSubmit deck reserved type bodyLen time body s).cards = s.cards ∧
    (logSubmit deck reserved type bodyLen time body s).service = s.service ∧
    (logSubmit deck reserved type bodyLen time body s).seqr = s.seqr ∧ (logSubmit deck reserved type bodyLen time body s).dies = s.dies ∧
    (logSubmit deck reserved type bodyLen time body s).clusters = s.clusters ∧
    (logSubmit deck reserved type bodyLen time body s).integ = s.integ ∧
    (logSubmit deck reserved type bodyLen time body s).copies = s.copies ∧
    (logSubmit deck reserved type bodyLen time body s).pair = s.pair ∧ (logSubmit deck reserved type bodyLen time body s).links = s.links ∧
    (logSubmit deck reserved type bodyLen time body s).hall = s.hall ∧ (logSubmit deck reserved type bodyLen time body s).buses = s.buses ∧
    (logSubmit deck reserved type bodyLen time body s).frameLog = s.frameLog ∧
    (logSubmit deck reserved type bodyLen time body s).power = s.power ∧ (logSubmit deck reserved type bodyLen time body s).ptp = s.ptp ∧
    (logSubmit deck reserved type bodyLen time body s).fans = s.fans ∧ (logSubmit deck reserved type bodyLen time body s).upds = s.upds ∧
    (logSubmit deck reserved type bodyLen time body s).fw = s.fw ∧ (logSubmit deck reserved type bodyLen time body s).bmu = s.bmu ∧
    (logSubmit deck reserved type bodyLen time body s).mirror = s.mirror ∧
    (logSubmit deck reserved type bodyLen time body s).pending = s.pending := by
  unfold logSubmit; (try dsimp only); (repeat' split) <;> simp

@[simp] theorem afterDue_frame (t : Time) (seq : BitVec 32) (body : ActionBody) (s : State) :
    (afterDue t seq body s).now = s.now ∧ (afterDue t seq body s).frame = s.frame ∧ (afterDue t seq body s).free = s.free ∧
    (afterDue t seq body s).regs = s.regs ∧ (afterDue t seq body s).outbox = s.outbox ∧ (afterDue t seq body s).vcp = s.vcp ∧
    (afterDue t seq body s).plant = s.plant ∧ (afterDue t seq body s).broker = s.broker ∧ (afterDue t seq body s).valves = s.valves ∧
    (afterDue t seq body s).motors = s.motors ∧ (afterDue t seq body s).senses = s.senses ∧ (afterDue t seq body s).pulses = s.pulses ∧
    (afterDue t seq body s).analogs = s.analogs ∧ (afterDue t seq body s).auxs = s.auxs ∧ (afterDue t seq body s).cards = s.cards ∧
    (afterDue t seq body s).service = s.service ∧ (afterDue t seq body s).seqr = s.seqr ∧ (afterDue t seq body s).dies = s.dies ∧
    (afterDue t seq body s).clusters = s.clusters ∧ (afterDue t seq body s).integ = s.integ ∧ (afterDue t seq body s).copies = s.copies ∧
    (afterDue t seq body s).pair = s.pair ∧ (afterDue t seq body s).links = s.links ∧ (afterDue t seq body s).hall = s.hall ∧
    (afterDue t seq body s).buses = s.buses ∧ (afterDue t seq body s).frameLog = s.frameLog ∧ (afterDue t seq body s).power = s.power ∧
    (afterDue t seq body s).ptp = s.ptp ∧ (afterDue t seq body s).fans = s.fans ∧ (afterDue t seq body s).upds = s.upds ∧
    (afterDue t seq body s).fw = s.fw ∧ (afterDue t seq body s).bmu = s.bmu ∧ (afterDue t seq body s).mirror = s.mirror ∧
    (afterDue t seq body s).pending = s.pending := by
  unfold afterDue; (try dsimp only); (repeat' split) <;> simp

@[simp] theorem logMirrored_frame (type len : Nat) (time : Time) (seq : BitVec 32) (slot : SlotId) (body : LogBody) (s : State) :
    (logMirrored type len time seq slot body s).now = s.now ∧ (logMirrored type len time seq slot body s).frame = s.frame ∧
    (logMirrored type len time seq slot body s).free = s.free ∧ (logMirrored type len time seq slot body s).outbox = s.outbox ∧
    (logMirrored type len time seq slot body s).vcp = s.vcp ∧ (logMirrored type len time seq slot body s).plant = s.plant ∧
    (logMirrored type len time seq slot body s).broker = s.broker ∧ (logMirrored type len time seq slot body s).valves = s.valves ∧
    (logMirrored type len time seq slot body s).motors = s.motors ∧ (logMirrored type len time seq slot body s).senses = s.senses ∧
    (logMirrored type len time seq slot body s).pulses = s.pulses ∧ (logMirrored type len time seq slot body s).analogs = s.analogs ∧
    (logMirrored type len time seq slot body s).auxs = s.auxs ∧ (logMirrored type len time seq slot body s).cards = s.cards ∧
    (logMirrored type len time seq slot body s).service = s.service ∧ (logMirrored type len time seq slot body s).seqr = s.seqr ∧
    (logMirrored type len time seq slot body s).dies = s.dies ∧ (logMirrored type len time seq slot body s).clusters = s.clusters ∧
    (logMirrored type len time seq slot body s).integ = s.integ ∧ (logMirrored type len time seq slot body s).copies = s.copies ∧
    (logMirrored type len time seq slot body s).pair = s.pair ∧ (logMirrored type len time seq slot body s).links = s.links ∧
    (logMirrored type len time seq slot body s).hall = s.hall ∧ (logMirrored type len time seq slot body s).buses = s.buses ∧
    (logMirrored type len time seq slot body s).frameLog = s.frameLog ∧ (logMirrored type len time seq slot body s).power = s.power ∧
    (logMirrored type len time seq slot body s).ptp = s.ptp ∧ (logMirrored type len time seq slot body s).fans = s.fans ∧
    (logMirrored type len time seq slot body s).upds = s.upds ∧ (logMirrored type len time seq slot body s).fw = s.fw ∧
    (logMirrored type len time seq slot body s).bmu = s.bmu ∧ (logMirrored type len time seq slot body s).mirror = s.mirror ∧
    (logMirrored type len time seq slot body s).pending = s.pending := by
  unfold logMirrored; (try dsimp only); (repeat' split) <;> simp

@[simp] theorem logActionAs_frame (type u source action : Nat) (rack : Nat) (old new : Int) (causeSeq raId link : BitVec 32) (s : State) :
    (logActionAs type u source action rack old new causeSeq raId link s).now = s.now ∧
    (logActionAs type u source action rack old new causeSeq raId link s).frame = s.frame ∧
    (logActionAs type u source action rack old new causeSeq raId link s).free = s.free ∧
    (logActionAs type u source action rack old new causeSeq raId link s).vcp = s.vcp ∧
    (logActionAs type u source action rack old new causeSeq raId link s).plant = s.plant ∧
    (logActionAs type u source action rack old new causeSeq raId link s).broker = s.broker ∧
    (logActionAs type u source action rack old new causeSeq raId link s).valves = s.valves ∧
    (logActionAs type u source action rack old new causeSeq raId link s).motors = s.motors ∧
    (logActionAs type u source action rack old new causeSeq raId link s).senses = s.senses ∧
    (logActionAs type u source action rack old new causeSeq raId link s).pulses = s.pulses ∧
    (logActionAs type u source action rack old new causeSeq raId link s).analogs = s.analogs ∧
    (logActionAs type u source action rack old new causeSeq raId link s).auxs = s.auxs ∧
    (logActionAs type u source action rack old new causeSeq raId link s).cards = s.cards ∧
    (logActionAs type u source action rack old new causeSeq raId link s).service = s.service ∧
    (logActionAs type u source action rack old new causeSeq raId link s).seqr = s.seqr ∧
    (logActionAs type u source action rack old new causeSeq raId link s).dies = s.dies ∧
    (logActionAs type u source action rack old new causeSeq raId link s).clusters = s.clusters ∧
    (logActionAs type u source action rack old new causeSeq raId link s).integ = s.integ ∧
    (logActionAs type u source action rack old new causeSeq raId link s).copies = s.copies ∧
    (logActionAs type u source action rack old new causeSeq raId link s).pair = s.pair ∧
    (logActionAs type u source action rack old new causeSeq raId link s).links = s.links ∧
    (logActionAs type u source action rack old new causeSeq raId link s).hall = s.hall ∧
    (logActionAs type u source action rack old new causeSeq raId link s).buses = s.buses ∧
    (logActionAs type u source action rack old new causeSeq raId link s).frameLog = s.frameLog ∧
    (logActionAs type u source action rack old new causeSeq raId link s).power = s.power ∧
    (logActionAs type u source action rack old new causeSeq raId link s).ptp = s.ptp ∧
    (logActionAs type u source action rack old new causeSeq raId link s).fans = s.fans ∧
    (logActionAs type u source action rack old new causeSeq raId link s).upds = s.upds ∧
    (logActionAs type u source action rack old new causeSeq raId link s).fw = s.fw ∧
    (logActionAs type u source action rack old new causeSeq raId link s).bmu = s.bmu ∧
    (logActionAs type u source action rack old new causeSeq raId link s).mirror = s.mirror ∧
    (logActionAs type u source action rack old new causeSeq raId link s).pending = s.pending := by
  unfold logActionAs; (try dsimp only); (repeat' split) <;> simp

@[simp] theorem logAction_frame (u source action rack : Nat) (old new : Int) (causeSeq : BitVec 32) (s : State) :
    (logAction u source action rack old new causeSeq s).now = s.now ∧ (logAction u source action rack old new causeSeq s).frame = s.frame ∧
    (logAction u source action rack old new causeSeq s).free = s.free ∧ (logAction u source action rack old new causeSeq s).vcp = s.vcp ∧
    (logAction u source action rack old new causeSeq s).plant = s.plant ∧
    (logAction u source action rack old new causeSeq s).broker = s.broker ∧
    (logAction u source action rack old new causeSeq s).valves = s.valves ∧
    (logAction u source action rack old new causeSeq s).motors = s.motors ∧
    (logAction u source action rack old new causeSeq s).senses = s.senses ∧
    (logAction u source action rack old new causeSeq s).pulses = s.pulses ∧
    (logAction u source action rack old new causeSeq s).analogs = s.analogs ∧
    (logAction u source action rack old new causeSeq s).auxs = s.auxs ∧
    (logAction u source action rack old new causeSeq s).cards = s.cards ∧
    (logAction u source action rack old new causeSeq s).service = s.service ∧
    (logAction u source action rack old new causeSeq s).seqr = s.seqr ∧ (logAction u source action rack old new causeSeq s).dies = s.dies ∧
    (logAction u source action rack old new causeSeq s).clusters = s.clusters ∧
    (logAction u source action rack old new causeSeq s).integ = s.integ ∧
    (logAction u source action rack old new causeSeq s).copies = s.copies ∧
    (logAction u source action rack old new causeSeq s).pair = s.pair ∧
    (logAction u source action rack old new causeSeq s).links = s.links ∧
    (logAction u source action rack old new causeSeq s).hall = s.hall ∧
    (logAction u source action rack old new causeSeq s).buses = s.buses ∧
    (logAction u source action rack old new causeSeq s).frameLog = s.frameLog ∧
    (logAction u source action rack old new causeSeq s).power = s.power ∧ (logAction u source action rack old new causeSeq s).ptp = s.ptp ∧
    (logAction u source action rack old new causeSeq s).fans = s.fans ∧ (logAction u source action rack old new causeSeq s).upds = s.upds ∧
    (logAction u source action rack old new causeSeq s).fw = s.fw ∧ (logAction u source action rack old new causeSeq s).bmu = s.bmu ∧
    (logAction u source action rack old new causeSeq s).mirror = s.mirror ∧
    (logAction u source action rack old new causeSeq s).pending = s.pending := by
  unfold logAction; (try dsimp only); (repeat' split) <;> simp

@[simp] theorem logDropped_frame (u source action : Nat) (old new : Int) (s : State) :
    (logDropped u source action old new s).now = s.now ∧ (logDropped u source action old new s).frame = s.frame ∧
    (logDropped u source action old new s).free = s.free ∧ (logDropped u source action old new s).vcp = s.vcp ∧
    (logDropped u source action old new s).plant = s.plant ∧ (logDropped u source action old new s).broker = s.broker ∧
    (logDropped u source action old new s).valves = s.valves ∧ (logDropped u source action old new s).motors = s.motors ∧
    (logDropped u source action old new s).senses = s.senses ∧ (logDropped u source action old new s).pulses = s.pulses ∧
    (logDropped u source action old new s).analogs = s.analogs ∧ (logDropped u source action old new s).auxs = s.auxs ∧
    (logDropped u source action old new s).cards = s.cards ∧ (logDropped u source action old new s).service = s.service ∧
    (logDropped u source action old new s).seqr = s.seqr ∧ (logDropped u source action old new s).dies = s.dies ∧
    (logDropped u source action old new s).clusters = s.clusters ∧ (logDropped u source action old new s).integ = s.integ ∧
    (logDropped u source action old new s).copies = s.copies ∧ (logDropped u source action old new s).pair = s.pair ∧
    (logDropped u source action old new s).links = s.links ∧ (logDropped u source action old new s).hall = s.hall ∧
    (logDropped u source action old new s).buses = s.buses ∧ (logDropped u source action old new s).frameLog = s.frameLog ∧
    (logDropped u source action old new s).power = s.power ∧ (logDropped u source action old new s).ptp = s.ptp ∧
    (logDropped u source action old new s).fans = s.fans ∧ (logDropped u source action old new s).upds = s.upds ∧
    (logDropped u source action old new s).fw = s.fw ∧ (logDropped u source action old new s).bmu = s.bmu ∧
    (logDropped u source action old new s).mirror = s.mirror ∧ (logDropped u source action old new s).pending = s.pending := by
  unfold logDropped; (try dsimp only); (repeat' split) <;> simp

@[simp] theorem logWords_frame (type bodyLen : Nat) (ws : List Nat) (s : State) :
    (logWords type bodyLen ws s).now = s.now ∧ (logWords type bodyLen ws s).frame = s.frame ∧ (logWords type bodyLen ws s).free = s.free ∧
    (logWords type bodyLen ws s).vcp = s.vcp ∧ (logWords type bodyLen ws s).plant = s.plant ∧
    (logWords type bodyLen ws s).broker = s.broker ∧ (logWords type bodyLen ws s).valves = s.valves ∧
    (logWords type bodyLen ws s).motors = s.motors ∧ (logWords type bodyLen ws s).senses = s.senses ∧
    (logWords type bodyLen ws s).pulses = s.pulses ∧ (logWords type bodyLen ws s).analogs = s.analogs ∧
    (logWords type bodyLen ws s).auxs = s.auxs ∧ (logWords type bodyLen ws s).cards = s.cards ∧
    (logWords type bodyLen ws s).service = s.service ∧ (logWords type bodyLen ws s).seqr = s.seqr ∧
    (logWords type bodyLen ws s).dies = s.dies ∧ (logWords type bodyLen ws s).clusters = s.clusters ∧
    (logWords type bodyLen ws s).integ = s.integ ∧ (logWords type bodyLen ws s).copies = s.copies ∧
    (logWords type bodyLen ws s).pair = s.pair ∧ (logWords type bodyLen ws s).links = s.links ∧ (logWords type bodyLen ws s).hall = s.hall ∧
    (logWords type bodyLen ws s).buses = s.buses ∧ (logWords type bodyLen ws s).frameLog = s.frameLog ∧
    (logWords type bodyLen ws s).power = s.power ∧ (logWords type bodyLen ws s).ptp = s.ptp ∧ (logWords type bodyLen ws s).fans = s.fans ∧
    (logWords type bodyLen ws s).upds = s.upds ∧ (logWords type bodyLen ws s).fw = s.fw ∧ (logWords type bodyLen ws s).bmu = s.bmu ∧
    (logWords type bodyLen ws s).mirror = s.mirror ∧ (logWords type bodyLen ws s).pending = s.pending := by
  unfold logWords; (try dsimp only); (repeat' split) <;> simp

@[simp] theorem notifyEvent_frame (n : Notify) (s : State) :
    (notifyEvent n s).now = s.now ∧ (notifyEvent n s).frame = s.frame ∧ (notifyEvent n s).free = s.free ∧
    (notifyEvent n s).plant = s.plant ∧ (notifyEvent n s).broker = s.broker ∧ (notifyEvent n s).valves = s.valves ∧
    (notifyEvent n s).motors = s.motors ∧ (notifyEvent n s).senses = s.senses ∧ (notifyEvent n s).pulses = s.pulses ∧
    (notifyEvent n s).analogs = s.analogs ∧ (notifyEvent n s).auxs = s.auxs ∧ (notifyEvent n s).cards = s.cards ∧
    (notifyEvent n s).service = s.service ∧ (notifyEvent n s).seqr = s.seqr ∧ (notifyEvent n s).dies = s.dies ∧
    (notifyEvent n s).clusters = s.clusters ∧ (notifyEvent n s).integ = s.integ ∧ (notifyEvent n s).copies = s.copies ∧
    (notifyEvent n s).pair = s.pair ∧ (notifyEvent n s).links = s.links ∧ (notifyEvent n s).hall = s.hall ∧
    (notifyEvent n s).buses = s.buses ∧ (notifyEvent n s).frameLog = s.frameLog ∧ (notifyEvent n s).power = s.power ∧
    (notifyEvent n s).ptp = s.ptp ∧ (notifyEvent n s).fans = s.fans ∧ (notifyEvent n s).upds = s.upds ∧ (notifyEvent n s).fw = s.fw ∧
    (notifyEvent n s).log = s.log ∧ (notifyEvent n s).bmu = s.bmu ∧ (notifyEvent n s).mirror = s.mirror ∧
    (notifyEvent n s).pending = s.pending := by
  unfold notifyEvent; (try dsimp only); (repeat' split) <;> simp

@[simp] theorem eventWith_frame (st : Status) (code : Nat) (detail : Option Nat) (u off bit : Nat) (s : State) :
    (eventWith st code detail u off bit s).now = s.now ∧ (eventWith st code detail u off bit s).frame = s.frame ∧
    (eventWith st code detail u off bit s).free = s.free ∧ (eventWith st code detail u off bit s).plant = s.plant ∧
    (eventWith st code detail u off bit s).broker = s.broker ∧ (eventWith st code detail u off bit s).valves = s.valves ∧
    (eventWith st code detail u off bit s).motors = s.motors ∧ (eventWith st code detail u off bit s).senses = s.senses ∧
    (eventWith st code detail u off bit s).pulses = s.pulses ∧ (eventWith st code detail u off bit s).analogs = s.analogs ∧
    (eventWith st code detail u off bit s).auxs = s.auxs ∧ (eventWith st code detail u off bit s).cards = s.cards ∧
    (eventWith st code detail u off bit s).service = s.service ∧ (eventWith st code detail u off bit s).seqr = s.seqr ∧
    (eventWith st code detail u off bit s).dies = s.dies ∧ (eventWith st code detail u off bit s).clusters = s.clusters ∧
    (eventWith st code detail u off bit s).integ = s.integ ∧ (eventWith st code detail u off bit s).copies = s.copies ∧
    (eventWith st code detail u off bit s).pair = s.pair ∧ (eventWith st code detail u off bit s).links = s.links ∧
    (eventWith st code detail u off bit s).hall = s.hall ∧ (eventWith st code detail u off bit s).buses = s.buses ∧
    (eventWith st code detail u off bit s).frameLog = s.frameLog ∧ (eventWith st code detail u off bit s).power = s.power ∧
    (eventWith st code detail u off bit s).ptp = s.ptp ∧ (eventWith st code detail u off bit s).fans = s.fans ∧
    (eventWith st code detail u off bit s).upds = s.upds ∧ (eventWith st code detail u off bit s).fw = s.fw ∧
    (eventWith st code detail u off bit s).log = s.log ∧ (eventWith st code detail u off bit s).bmu = s.bmu ∧
    (eventWith st code detail u off bit s).mirror = s.mirror ∧ (eventWith st code detail u off bit s).pending = s.pending := by
  unfold eventWith; (try dsimp only); (repeat' split) <;> simp

@[simp] theorem event_frame (u off bit : Nat) (s : State) :
    (event u off bit s).now = s.now ∧ (event u off bit s).frame = s.frame ∧ (event u off bit s).free = s.free ∧
    (event u off bit s).plant = s.plant ∧ (event u off bit s).broker = s.broker ∧ (event u off bit s).valves = s.valves ∧
    (event u off bit s).motors = s.motors ∧ (event u off bit s).senses = s.senses ∧ (event u off bit s).pulses = s.pulses ∧
    (event u off bit s).analogs = s.analogs ∧ (event u off bit s).auxs = s.auxs ∧ (event u off bit s).cards = s.cards ∧
    (event u off bit s).service = s.service ∧ (event u off bit s).seqr = s.seqr ∧ (event u off bit s).dies = s.dies ∧
    (event u off bit s).clusters = s.clusters ∧ (event u off bit s).integ = s.integ ∧ (event u off bit s).copies = s.copies ∧
    (event u off bit s).pair = s.pair ∧ (event u off bit s).links = s.links ∧ (event u off bit s).hall = s.hall ∧
    (event u off bit s).buses = s.buses ∧ (event u off bit s).frameLog = s.frameLog ∧ (event u off bit s).power = s.power ∧
    (event u off bit s).ptp = s.ptp ∧ (event u off bit s).fans = s.fans ∧ (event u off bit s).upds = s.upds ∧
    (event u off bit s).fw = s.fw ∧ (event u off bit s).log = s.log ∧ (event u off bit s).bmu = s.bmu ∧
    (event u off bit s).mirror = s.mirror ∧ (event u off bit s).pending = s.pending := by
  unfold event; (try dsimp only); (repeat' split) <;> simp

@[simp] theorem drainNotify_frame (s : State) :
    (drainNotify s).now = s.now ∧ (drainNotify s).frame = s.frame ∧ (drainNotify s).free = s.free ∧ (drainNotify s).plant = s.plant ∧
    (drainNotify s).broker = s.broker ∧ (drainNotify s).valves = s.valves ∧ (drainNotify s).motors = s.motors ∧
    (drainNotify s).senses = s.senses ∧ (drainNotify s).pulses = s.pulses ∧ (drainNotify s).analogs = s.analogs ∧
    (drainNotify s).auxs = s.auxs ∧ (drainNotify s).cards = s.cards ∧ (drainNotify s).service = s.service ∧ (drainNotify s).seqr = s.seqr ∧
    (drainNotify s).dies = s.dies ∧ (drainNotify s).clusters = s.clusters ∧ (drainNotify s).integ = s.integ ∧
    (drainNotify s).copies = s.copies ∧ (drainNotify s).pair = s.pair ∧ (drainNotify s).links = s.links ∧ (drainNotify s).hall = s.hall ∧
    (drainNotify s).buses = s.buses ∧ (drainNotify s).frameLog = s.frameLog ∧ (drainNotify s).power = s.power ∧
    (drainNotify s).ptp = s.ptp ∧ (drainNotify s).fans = s.fans ∧ (drainNotify s).upds = s.upds ∧ (drainNotify s).fw = s.fw ∧
    (drainNotify s).log = s.log ∧ (drainNotify s).bmu = s.bmu ∧ (drainNotify s).mirror = s.mirror ∧
    (drainNotify s).pending = s.pending := by
  unfold drainNotify; (try dsimp only); (repeat' split) <;> simp

@[simp] theorem notifySession_frame (sid : BitVec 16) (n : Notify) (s : State) :
    (notifySession sid n s).now = s.now ∧ (notifySession sid n s).frame = s.frame ∧ (notifySession sid n s).free = s.free ∧
    (notifySession sid n s).plant = s.plant ∧ (notifySession sid n s).broker = s.broker ∧ (notifySession sid n s).valves = s.valves ∧
    (notifySession sid n s).motors = s.motors ∧ (notifySession sid n s).senses = s.senses ∧ (notifySession sid n s).pulses = s.pulses ∧
    (notifySession sid n s).analogs = s.analogs ∧ (notifySession sid n s).auxs = s.auxs ∧ (notifySession sid n s).cards = s.cards ∧
    (notifySession sid n s).service = s.service ∧ (notifySession sid n s).seqr = s.seqr ∧ (notifySession sid n s).dies = s.dies ∧
    (notifySession sid n s).clusters = s.clusters ∧ (notifySession sid n s).integ = s.integ ∧ (notifySession sid n s).copies = s.copies ∧
    (notifySession sid n s).pair = s.pair ∧ (notifySession sid n s).links = s.links ∧ (notifySession sid n s).hall = s.hall ∧
    (notifySession sid n s).buses = s.buses ∧ (notifySession sid n s).frameLog = s.frameLog ∧ (notifySession sid n s).power = s.power ∧
    (notifySession sid n s).ptp = s.ptp ∧ (notifySession sid n s).fans = s.fans ∧ (notifySession sid n s).upds = s.upds ∧
    (notifySession sid n s).fw = s.fw ∧ (notifySession sid n s).log = s.log ∧ (notifySession sid n s).bmu = s.bmu ∧
    (notifySession sid n s).mirror = s.mirror ∧ (notifySession sid n s).pending = s.pending := by
  unfold notifySession; (try dsimp only); (repeat' split) <;> simp

@[simp] theorem handOver_frame (identity : Nat) (n : Notify) (s : State) :
    (handOver identity n s).now = s.now ∧ (handOver identity n s).frame = s.frame ∧ (handOver identity n s).free = s.free ∧
    (handOver identity n s).plant = s.plant ∧ (handOver identity n s).broker = s.broker ∧ (handOver identity n s).valves = s.valves ∧
    (handOver identity n s).motors = s.motors ∧ (handOver identity n s).senses = s.senses ∧ (handOver identity n s).pulses = s.pulses ∧
    (handOver identity n s).analogs = s.analogs ∧ (handOver identity n s).auxs = s.auxs ∧ (handOver identity n s).cards = s.cards ∧
    (handOver identity n s).service = s.service ∧ (handOver identity n s).seqr = s.seqr ∧ (handOver identity n s).dies = s.dies ∧
    (handOver identity n s).clusters = s.clusters ∧ (handOver identity n s).integ = s.integ ∧ (handOver identity n s).copies = s.copies ∧
    (handOver identity n s).pair = s.pair ∧ (handOver identity n s).links = s.links ∧ (handOver identity n s).hall = s.hall ∧
    (handOver identity n s).buses = s.buses ∧ (handOver identity n s).frameLog = s.frameLog ∧ (handOver identity n s).power = s.power ∧
    (handOver identity n s).ptp = s.ptp ∧ (handOver identity n s).fans = s.fans ∧ (handOver identity n s).upds = s.upds ∧
    (handOver identity n s).fw = s.fw ∧ (handOver identity n s).log = s.log ∧ (handOver identity n s).bmu = s.bmu ∧
    (handOver identity n s).mirror = s.mirror ∧ (handOver identity n s).pending = s.pending := by
  unfold handOver; (try dsimp only); (repeat' split) <;> simp

@[simp] theorem endRequest_frame (o : Origin) (st : Status) (s : State) :
    (endRequest o st s).now = s.now ∧ (endRequest o st s).frame = s.frame ∧ (endRequest o st s).free = s.free ∧
    (endRequest o st s).plant = s.plant ∧ (endRequest o st s).broker = s.broker ∧ (endRequest o st s).valves = s.valves ∧
    (endRequest o st s).motors = s.motors ∧ (endRequest o st s).senses = s.senses ∧ (endRequest o st s).pulses = s.pulses ∧
    (endRequest o st s).analogs = s.analogs ∧ (endRequest o st s).auxs = s.auxs ∧ (endRequest o st s).cards = s.cards ∧
    (endRequest o st s).service = s.service ∧ (endRequest o st s).seqr = s.seqr ∧ (endRequest o st s).dies = s.dies ∧
    (endRequest o st s).clusters = s.clusters ∧ (endRequest o st s).integ = s.integ ∧ (endRequest o st s).copies = s.copies ∧
    (endRequest o st s).pair = s.pair ∧ (endRequest o st s).links = s.links ∧ (endRequest o st s).hall = s.hall ∧
    (endRequest o st s).buses = s.buses ∧ (endRequest o st s).frameLog = s.frameLog ∧ (endRequest o st s).power = s.power ∧
    (endRequest o st s).ptp = s.ptp ∧ (endRequest o st s).fans = s.fans ∧ (endRequest o st s).upds = s.upds ∧
    (endRequest o st s).fw = s.fw ∧ (endRequest o st s).bmu = s.bmu ∧ (endRequest o st s).mirror = s.mirror ∧
    (endRequest o st s).pending = s.pending := by
  unfold endRequest; (try dsimp only); (repeat' split) <;> simp

@[simp] theorem endChanCmd_frame (c : Option ChanCmd) (st : Status) (s : State) :
    (endChanCmd c st s).now = s.now ∧ (endChanCmd c st s).frame = s.frame ∧ (endChanCmd c st s).free = s.free ∧
    (endChanCmd c st s).plant = s.plant ∧ (endChanCmd c st s).broker = s.broker ∧ (endChanCmd c st s).valves = s.valves ∧
    (endChanCmd c st s).motors = s.motors ∧ (endChanCmd c st s).senses = s.senses ∧ (endChanCmd c st s).pulses = s.pulses ∧
    (endChanCmd c st s).analogs = s.analogs ∧ (endChanCmd c st s).auxs = s.auxs ∧ (endChanCmd c st s).cards = s.cards ∧
    (endChanCmd c st s).service = s.service ∧ (endChanCmd c st s).seqr = s.seqr ∧ (endChanCmd c st s).dies = s.dies ∧
    (endChanCmd c st s).clusters = s.clusters ∧ (endChanCmd c st s).integ = s.integ ∧ (endChanCmd c st s).copies = s.copies ∧
    (endChanCmd c st s).pair = s.pair ∧ (endChanCmd c st s).links = s.links ∧ (endChanCmd c st s).hall = s.hall ∧
    (endChanCmd c st s).buses = s.buses ∧ (endChanCmd c st s).frameLog = s.frameLog ∧ (endChanCmd c st s).power = s.power ∧
    (endChanCmd c st s).ptp = s.ptp ∧ (endChanCmd c st s).fans = s.fans ∧ (endChanCmd c st s).upds = s.upds ∧
    (endChanCmd c st s).fw = s.fw ∧ (endChanCmd c st s).bmu = s.bmu ∧ (endChanCmd c st s).mirror = s.mirror ∧
    (endChanCmd c st s).pending = s.pending := by
  unfold endChanCmd; (try dsimp only); (repeat' split) <;> simp

@[simp] theorem keepReply_frame (identity : Nat) (seq : BitVec 32) (st : Status) (committed : Time) (s : State) :
    (keepReply identity seq st committed s).now = s.now ∧ (keepReply identity seq st committed s).frame = s.frame ∧
    (keepReply identity seq st committed s).free = s.free ∧ (keepReply identity seq st committed s).plant = s.plant ∧
    (keepReply identity seq st committed s).broker = s.broker ∧ (keepReply identity seq st committed s).valves = s.valves ∧
    (keepReply identity seq st committed s).motors = s.motors ∧ (keepReply identity seq st committed s).senses = s.senses ∧
    (keepReply identity seq st committed s).pulses = s.pulses ∧ (keepReply identity seq st committed s).analogs = s.analogs ∧
    (keepReply identity seq st committed s).auxs = s.auxs ∧ (keepReply identity seq st committed s).cards = s.cards ∧
    (keepReply identity seq st committed s).service = s.service ∧ (keepReply identity seq st committed s).seqr = s.seqr ∧
    (keepReply identity seq st committed s).dies = s.dies ∧ (keepReply identity seq st committed s).clusters = s.clusters ∧
    (keepReply identity seq st committed s).integ = s.integ ∧ (keepReply identity seq st committed s).copies = s.copies ∧
    (keepReply identity seq st committed s).pair = s.pair ∧ (keepReply identity seq st committed s).links = s.links ∧
    (keepReply identity seq st committed s).hall = s.hall ∧ (keepReply identity seq st committed s).buses = s.buses ∧
    (keepReply identity seq st committed s).frameLog = s.frameLog ∧ (keepReply identity seq st committed s).power = s.power ∧
    (keepReply identity seq st committed s).ptp = s.ptp ∧ (keepReply identity seq st committed s).fans = s.fans ∧
    (keepReply identity seq st committed s).upds = s.upds ∧ (keepReply identity seq st committed s).fw = s.fw ∧
    (keepReply identity seq st committed s).log = s.log ∧ (keepReply identity seq st committed s).bmu = s.bmu ∧
    (keepReply identity seq st committed s).mirror = s.mirror ∧ (keepReply identity seq st committed s).pending = s.pending := by
  unfold keepReply; (try dsimp only); (repeat' split) <;> simp

@[simp] theorem sendReply_frame (h : Hdr) (st : Status) (detail : Nat) (committed : Time) (data : List Nat) (s : State) :
    (sendReply h st detail committed data s).now = s.now ∧ (sendReply h st detail committed data s).frame = s.frame ∧
    (sendReply h st detail committed data s).free = s.free ∧ (sendReply h st detail committed data s).regs = s.regs ∧
    (sendReply h st detail committed data s).vcp = s.vcp ∧ (sendReply h st detail committed data s).plant = s.plant ∧
    (sendReply h st detail committed data s).broker = s.broker ∧ (sendReply h st detail committed data s).valves = s.valves ∧
    (sendReply h st detail committed data s).motors = s.motors ∧ (sendReply h st detail committed data s).senses = s.senses ∧
    (sendReply h st detail committed data s).pulses = s.pulses ∧ (sendReply h st detail committed data s).analogs = s.analogs ∧
    (sendReply h st detail committed data s).auxs = s.auxs ∧ (sendReply h st detail committed data s).cards = s.cards ∧
    (sendReply h st detail committed data s).service = s.service ∧ (sendReply h st detail committed data s).seqr = s.seqr ∧
    (sendReply h st detail committed data s).dies = s.dies ∧ (sendReply h st detail committed data s).clusters = s.clusters ∧
    (sendReply h st detail committed data s).integ = s.integ ∧ (sendReply h st detail committed data s).copies = s.copies ∧
    (sendReply h st detail committed data s).pair = s.pair ∧ (sendReply h st detail committed data s).links = s.links ∧
    (sendReply h st detail committed data s).hall = s.hall ∧ (sendReply h st detail committed data s).buses = s.buses ∧
    (sendReply h st detail committed data s).frameLog = s.frameLog ∧ (sendReply h st detail committed data s).power = s.power ∧
    (sendReply h st detail committed data s).ptp = s.ptp ∧ (sendReply h st detail committed data s).fans = s.fans ∧
    (sendReply h st detail committed data s).upds = s.upds ∧ (sendReply h st detail committed data s).fw = s.fw ∧
    (sendReply h st detail committed data s).log = s.log ∧ (sendReply h st detail committed data s).bmu = s.bmu ∧
    (sendReply h st detail committed data s).mirror = s.mirror ∧ (sendReply h st detail committed data s).pending = s.pending := by
  unfold sendReply; (try dsimp only); (repeat' split) <;> simp

@[simp] theorem countReply_frame (st : Status) (s : State) :
    (countReply st s).now = s.now ∧ (countReply st s).frame = s.frame ∧ (countReply st s).free = s.free ∧
    (countReply st s).outbox = s.outbox ∧ (countReply st s).vcp = s.vcp ∧ (countReply st s).plant = s.plant ∧
    (countReply st s).broker = s.broker ∧ (countReply st s).valves = s.valves ∧ (countReply st s).motors = s.motors ∧
    (countReply st s).senses = s.senses ∧ (countReply st s).pulses = s.pulses ∧ (countReply st s).analogs = s.analogs ∧
    (countReply st s).auxs = s.auxs ∧ (countReply st s).cards = s.cards ∧ (countReply st s).service = s.service ∧
    (countReply st s).seqr = s.seqr ∧ (countReply st s).dies = s.dies ∧ (countReply st s).clusters = s.clusters ∧
    (countReply st s).integ = s.integ ∧ (countReply st s).copies = s.copies ∧ (countReply st s).pair = s.pair ∧
    (countReply st s).links = s.links ∧ (countReply st s).hall = s.hall ∧ (countReply st s).buses = s.buses ∧
    (countReply st s).frameLog = s.frameLog ∧ (countReply st s).power = s.power ∧ (countReply st s).ptp = s.ptp ∧
    (countReply st s).fans = s.fans ∧ (countReply st s).upds = s.upds ∧ (countReply st s).fw = s.fw ∧ (countReply st s).log = s.log ∧
    (countReply st s).bmu = s.bmu ∧ (countReply st s).mirror = s.mirror ∧ (countReply st s).pending = s.pending := by
  unfold countReply; (try dsimp only); (repeat' split) <;> simp

@[simp] theorem finish_frame (op : Op) (h : Hdr) (identity : Nat) (st : Status) (detail : Nat) (committed : Time) (data : List Nat) (s : State) :
    (finish op h identity st detail committed data s).now = s.now ∧ (finish op h identity st detail committed data s).frame = s.frame ∧
    (finish op h identity st detail committed data s).free = s.free ∧ (finish op h identity st detail committed data s).plant = s.plant ∧
    (finish op h identity st detail committed data s).broker = s.broker ∧
    (finish op h identity st detail committed data s).valves = s.valves ∧
    (finish op h identity st detail committed data s).motors = s.motors ∧
    (finish op h identity st detail committed data s).senses = s.senses ∧
    (finish op h identity st detail committed data s).pulses = s.pulses ∧
    (finish op h identity st detail committed data s).analogs = s.analogs ∧
    (finish op h identity st detail committed data s).auxs = s.auxs ∧ (finish op h identity st detail committed data s).cards = s.cards ∧
    (finish op h identity st detail committed data s).service = s.service ∧
    (finish op h identity st detail committed data s).seqr = s.seqr ∧ (finish op h identity st detail committed data s).dies = s.dies ∧
    (finish op h identity st detail committed data s).clusters = s.clusters ∧
    (finish op h identity st detail committed data s).integ = s.integ ∧
    (finish op h identity st detail committed data s).copies = s.copies ∧ (finish op h identity st detail committed data s).pair = s.pair ∧
    (finish op h identity st detail committed data s).links = s.links ∧ (finish op h identity st detail committed data s).hall = s.hall ∧
    (finish op h identity st detail committed data s).buses = s.buses ∧
    (finish op h identity st detail committed data s).frameLog = s.frameLog ∧
    (finish op h identity st detail committed data s).power = s.power ∧ (finish op h identity st detail committed data s).ptp = s.ptp ∧
    (finish op h identity st detail committed data s).fans = s.fans ∧ (finish op h identity st detail committed data s).upds = s.upds ∧
    (finish op h identity st detail committed data s).fw = s.fw ∧ (finish op h identity st detail committed data s).log = s.log ∧
    (finish op h identity st detail committed data s).bmu = s.bmu ∧ (finish op h identity st detail committed data s).mirror = s.mirror ∧
    (finish op h identity st detail committed data s).pending = s.pending := by
  unfold finish; (try dsimp only); (repeat' split) <;> simp

@[simp] theorem malformed_frame (s : State) :
    (malformed s).now = s.now ∧ (malformed s).frame = s.frame ∧ (malformed s).free = s.free ∧ (malformed s).outbox = s.outbox ∧
    (malformed s).vcp = s.vcp ∧ (malformed s).plant = s.plant ∧ (malformed s).broker = s.broker ∧ (malformed s).valves = s.valves ∧
    (malformed s).motors = s.motors ∧ (malformed s).senses = s.senses ∧ (malformed s).pulses = s.pulses ∧
    (malformed s).analogs = s.analogs ∧ (malformed s).auxs = s.auxs ∧ (malformed s).cards = s.cards ∧ (malformed s).service = s.service ∧
    (malformed s).seqr = s.seqr ∧ (malformed s).dies = s.dies ∧ (malformed s).clusters = s.clusters ∧ (malformed s).integ = s.integ ∧
    (malformed s).copies = s.copies ∧ (malformed s).pair = s.pair ∧ (malformed s).links = s.links ∧ (malformed s).hall = s.hall ∧
    (malformed s).buses = s.buses ∧ (malformed s).frameLog = s.frameLog ∧ (malformed s).power = s.power ∧ (malformed s).ptp = s.ptp ∧
    (malformed s).fans = s.fans ∧ (malformed s).upds = s.upds ∧ (malformed s).fw = s.fw ∧ (malformed s).log = s.log ∧
    (malformed s).bmu = s.bmu ∧ (malformed s).mirror = s.mirror ∧ (malformed s).pending = s.pending := by
  unfold malformed; (try dsimp only); (repeat' split) <;> simp

@[simp] theorem countRecords_frame (assoc : Nat) (s : State) :
    (countRecords assoc s).now = s.now ∧ (countRecords assoc s).frame = s.frame ∧ (countRecords assoc s).free = s.free ∧
    (countRecords assoc s).plant = s.plant ∧ (countRecords assoc s).broker = s.broker ∧ (countRecords assoc s).valves = s.valves ∧
    (countRecords assoc s).motors = s.motors ∧ (countRecords assoc s).senses = s.senses ∧ (countRecords assoc s).pulses = s.pulses ∧
    (countRecords assoc s).analogs = s.analogs ∧ (countRecords assoc s).auxs = s.auxs ∧ (countRecords assoc s).cards = s.cards ∧
    (countRecords assoc s).service = s.service ∧ (countRecords assoc s).seqr = s.seqr ∧ (countRecords assoc s).dies = s.dies ∧
    (countRecords assoc s).clusters = s.clusters ∧ (countRecords assoc s).integ = s.integ ∧ (countRecords assoc s).copies = s.copies ∧
    (countRecords assoc s).pair = s.pair ∧ (countRecords assoc s).links = s.links ∧ (countRecords assoc s).hall = s.hall ∧
    (countRecords assoc s).buses = s.buses ∧ (countRecords assoc s).frameLog = s.frameLog ∧ (countRecords assoc s).power = s.power ∧
    (countRecords assoc s).ptp = s.ptp ∧ (countRecords assoc s).fans = s.fans ∧ (countRecords assoc s).upds = s.upds ∧
    (countRecords assoc s).fw = s.fw ∧ (countRecords assoc s).log = s.log ∧ (countRecords assoc s).bmu = s.bmu ∧
    (countRecords assoc s).mirror = s.mirror ∧ (countRecords assoc s).pending = s.pending := by
  unfold countRecords; (try dsimp only); (repeat' split) <;> simp

@[simp] theorem touch_frame (h : Hdr) (sid : BitVec 16) (s : State) :
    (touch h sid s).now = s.now ∧ (touch h sid s).frame = s.frame ∧ (touch h sid s).free = s.free ∧ (touch h sid s).plant = s.plant ∧
    (touch h sid s).broker = s.broker ∧ (touch h sid s).valves = s.valves ∧ (touch h sid s).motors = s.motors ∧
    (touch h sid s).senses = s.senses ∧ (touch h sid s).pulses = s.pulses ∧ (touch h sid s).analogs = s.analogs ∧
    (touch h sid s).auxs = s.auxs ∧ (touch h sid s).cards = s.cards ∧ (touch h sid s).service = s.service ∧ (touch h sid s).seqr = s.seqr ∧
    (touch h sid s).dies = s.dies ∧ (touch h sid s).clusters = s.clusters ∧ (touch h sid s).integ = s.integ ∧
    (touch h sid s).copies = s.copies ∧ (touch h sid s).pair = s.pair ∧ (touch h sid s).links = s.links ∧ (touch h sid s).hall = s.hall ∧
    (touch h sid s).buses = s.buses ∧ (touch h sid s).frameLog = s.frameLog ∧ (touch h sid s).power = s.power ∧
    (touch h sid s).ptp = s.ptp ∧ (touch h sid s).fans = s.fans ∧ (touch h sid s).upds = s.upds ∧ (touch h sid s).fw = s.fw ∧
    (touch h sid s).log = s.log ∧ (touch h sid s).bmu = s.bmu ∧ (touch h sid s).mirror = s.mirror ∧
    (touch h sid s).pending = s.pending := by
  unfold touch; (try dsimp only); (repeat' split) <;> simp

@[simp] theorem answerKept_frame (h : Hdr) (e : Session) (k : Kept) (s : State) :
    (answerKept h e k s).now = s.now ∧ (answerKept h e k s).frame = s.frame ∧ (answerKept h e k s).free = s.free ∧
    (answerKept h e k s).plant = s.plant ∧ (answerKept h e k s).broker = s.broker ∧ (answerKept h e k s).valves = s.valves ∧
    (answerKept h e k s).motors = s.motors ∧ (answerKept h e k s).senses = s.senses ∧ (answerKept h e k s).pulses = s.pulses ∧
    (answerKept h e k s).analogs = s.analogs ∧ (answerKept h e k s).auxs = s.auxs ∧ (answerKept h e k s).cards = s.cards ∧
    (answerKept h e k s).service = s.service ∧ (answerKept h e k s).seqr = s.seqr ∧ (answerKept h e k s).dies = s.dies ∧
    (answerKept h e k s).clusters = s.clusters ∧ (answerKept h e k s).integ = s.integ ∧ (answerKept h e k s).copies = s.copies ∧
    (answerKept h e k s).pair = s.pair ∧ (answerKept h e k s).links = s.links ∧ (answerKept h e k s).hall = s.hall ∧
    (answerKept h e k s).buses = s.buses ∧ (answerKept h e k s).frameLog = s.frameLog ∧ (answerKept h e k s).power = s.power ∧
    (answerKept h e k s).ptp = s.ptp ∧ (answerKept h e k s).fans = s.fans ∧ (answerKept h e k s).upds = s.upds ∧
    (answerKept h e k s).fw = s.fw ∧ (answerKept h e k s).log = s.log ∧ (answerKept h e k s).bmu = s.bmu ∧
    (answerKept h e k s).mirror = s.mirror ∧ (answerKept h e k s).pending = s.pending := by
  unfold answerKept; (try dsimp only); (repeat' split) <;> simp

@[simp] theorem markTimed_frame (o : Origin) (s : State) :
    (markTimed o s).now = s.now ∧ (markTimed o s).frame = s.frame ∧ (markTimed o s).free = s.free ∧ (markTimed o s).plant = s.plant ∧
    (markTimed o s).broker = s.broker ∧ (markTimed o s).valves = s.valves ∧ (markTimed o s).motors = s.motors ∧
    (markTimed o s).senses = s.senses ∧ (markTimed o s).pulses = s.pulses ∧ (markTimed o s).analogs = s.analogs ∧
    (markTimed o s).auxs = s.auxs ∧ (markTimed o s).cards = s.cards ∧ (markTimed o s).service = s.service ∧ (markTimed o s).seqr = s.seqr ∧
    (markTimed o s).dies = s.dies ∧ (markTimed o s).clusters = s.clusters ∧ (markTimed o s).integ = s.integ ∧
    (markTimed o s).copies = s.copies ∧ (markTimed o s).pair = s.pair ∧ (markTimed o s).links = s.links ∧ (markTimed o s).hall = s.hall ∧
    (markTimed o s).buses = s.buses ∧ (markTimed o s).frameLog = s.frameLog ∧ (markTimed o s).power = s.power ∧
    (markTimed o s).ptp = s.ptp ∧ (markTimed o s).fans = s.fans ∧ (markTimed o s).upds = s.upds ∧ (markTimed o s).fw = s.fw ∧
    (markTimed o s).log = s.log ∧ (markTimed o s).bmu = s.bmu ∧ (markTimed o s).mirror = s.mirror ∧
    (markTimed o s).pending = s.pending := by
  unfold markTimed; (try dsimp only); (repeat' split) <;> simp

end Sys2Proof.Machine
end

