-- ==== Sys2Proof/Laws/FramesPlant.lean ====
section
/-! SUPPORT. For each shared operation, once: the parts of the state it leaves unchanged. Caps, valves, motors, plant loops and leaks. A proof
takes a frame of a function by name, have e := @setStage_frame, and gives e to simp: it is no simp lemma of its own. -/

namespace Sys2Proof.Machine

open Sys2Proof

@[simp] theorem stageAction_now (source : Nat) (change : State → State) (s : State) (h : ∀ a, (change a).now = a.now) :
    (stageAction source change s).now = s.now := by unfold stageAction; simp [h]

@[simp] theorem stageAction_frame (source : Nat) (change : State → State) (s : State) (h : ∀ a, (change a).frame = a.frame) :
    (stageAction source change s).frame = s.frame := by unfold stageAction; simp [h]

@[simp] theorem stageAction_free (source : Nat) (change : State → State) (s : State) (h : ∀ a, (change a).free = a.free) :
    (stageAction source change s).free = s.free := by unfold stageAction; simp [h]

@[simp] theorem stageAction_vcp (source : Nat) (change : State → State) (s : State) (h : ∀ a, (change a).vcp = a.vcp) :
    (stageAction source change s).vcp = s.vcp := by unfold stageAction; simp [h]

@[simp] theorem stageAction_plant (source : Nat) (change : State → State) (s : State) (h : ∀ a, (change a).plant = a.plant) :
    (stageAction source change s).plant = s.plant := by unfold stageAction; simp [h]

@[simp] theorem stageAction_broker (source : Nat) (change : State → State) (s : State) (h : ∀ a, (change a).broker = a.broker) :
    (stageAction source change s).broker = s.broker := by unfold stageAction; simp [h]

@[simp] theorem stageAction_valves (source : Nat) (change : State → State) (s : State) (h : ∀ a, (change a).valves = a.valves) :
    (stageAction source change s).valves = s.valves := by unfold stageAction; simp [h]

@[simp] theorem stageAction_motors (source : Nat) (change : State → State) (s : State) (h : ∀ a, (change a).motors = a.motors) :
    (stageAction source change s).motors = s.motors := by unfold stageAction; simp [h]

@[simp] theorem stageAction_senses (source : Nat) (change : State → State) (s : State) (h : ∀ a, (change a).senses = a.senses) :
    (stageAction source change s).senses = s.senses := by unfold stageAction; simp [h]

@[simp] theorem stageAction_pulses (source : Nat) (change : State → State) (s : State) (h : ∀ a, (change a).pulses = a.pulses) :
    (stageAction source change s).pulses = s.pulses := by unfold stageAction; simp [h]

@[simp] theorem stageAction_analogs (source : Nat) (change : State → State) (s : State) (h : ∀ a, (change a).analogs = a.analogs) :
    (stageAction source change s).analogs = s.analogs := by unfold stageAction; simp [h]

@[simp] theorem stageAction_auxs (source : Nat) (change : State → State) (s : State) (h : ∀ a, (change a).auxs = a.auxs) :
    (stageAction source change s).auxs = s.auxs := by unfold stageAction; simp [h]

@[simp] theorem stageAction_cards (source : Nat) (change : State → State) (s : State) (h : ∀ a, (change a).cards = a.cards) :
    (stageAction source change s).cards = s.cards := by unfold stageAction; simp [h]

@[simp] theorem stageAction_service (source : Nat) (change : State → State) (s : State) (h : ∀ a, (change a).service = a.service) :
    (stageAction source change s).service = s.service := by unfold stageAction; simp [h]

@[simp] theorem stageAction_seqr (source : Nat) (change : State → State) (s : State) (h : ∀ a, (change a).seqr = a.seqr) :
    (stageAction source change s).seqr = s.seqr := by unfold stageAction; simp [h]

@[simp] theorem stageAction_dies (source : Nat) (change : State → State) (s : State) (h : ∀ a, (change a).dies = a.dies) :
    (stageAction source change s).dies = s.dies := by unfold stageAction; simp [h]

@[simp] theorem stageAction_clusters (source : Nat) (change : State → State) (s : State) (h : ∀ a, (change a).clusters = a.clusters) :
    (stageAction source change s).clusters = s.clusters := by unfold stageAction; simp [h]

@[simp] theorem stageAction_integ (source : Nat) (change : State → State) (s : State) (h : ∀ a, (change a).integ = a.integ) :
    (stageAction source change s).integ = s.integ := by unfold stageAction; simp [h]

@[simp] theorem stageAction_copies (source : Nat) (change : State → State) (s : State) (h : ∀ a, (change a).copies = a.copies) :
    (stageAction source change s).copies = s.copies := by unfold stageAction; simp [h]

@[simp] theorem stageAction_pair (source : Nat) (change : State → State) (s : State) (h : ∀ a, (change a).pair = a.pair) :
    (stageAction source change s).pair = s.pair := by unfold stageAction; simp [h]

@[simp] theorem stageAction_links (source : Nat) (change : State → State) (s : State) (h : ∀ a, (change a).links = a.links) :
    (stageAction source change s).links = s.links := by unfold stageAction; simp [h]

@[simp] theorem stageAction_hall (source : Nat) (change : State → State) (s : State) (h : ∀ a, (change a).hall = a.hall) :
    (stageAction source change s).hall = s.hall := by unfold stageAction; simp [h]

@[simp] theorem stageAction_buses (source : Nat) (change : State → State) (s : State) (h : ∀ a, (change a).buses = a.buses) :
    (stageAction source change s).buses = s.buses := by unfold stageAction; simp [h]

@[simp] theorem stageAction_frameLog (source : Nat) (change : State → State) (s : State) (h : ∀ a, (change a).frameLog = a.frameLog) :
    (stageAction source change s).frameLog = s.frameLog := by unfold stageAction; simp [h]

@[simp] theorem stageAction_power (source : Nat) (change : State → State) (s : State) (h : ∀ a, (change a).power = a.power) :
    (stageAction source change s).power = s.power := by unfold stageAction; simp [h]

@[simp] theorem stageAction_ptp (source : Nat) (change : State → State) (s : State) (h : ∀ a, (change a).ptp = a.ptp) :
    (stageAction source change s).ptp = s.ptp := by unfold stageAction; simp [h]

@[simp] theorem stageAction_fans (source : Nat) (change : State → State) (s : State) (h : ∀ a, (change a).fans = a.fans) :
    (stageAction source change s).fans = s.fans := by unfold stageAction; simp [h]

@[simp] theorem stageAction_upds (source : Nat) (change : State → State) (s : State) (h : ∀ a, (change a).upds = a.upds) :
    (stageAction source change s).upds = s.upds := by unfold stageAction; simp [h]

@[simp] theorem stageAction_fw (source : Nat) (change : State → State) (s : State) (h : ∀ a, (change a).fw = a.fw) :
    (stageAction source change s).fw = s.fw := by unfold stageAction; simp [h]

@[simp] theorem stageAction_bmu (source : Nat) (change : State → State) (s : State) (h : ∀ a, (change a).bmu = a.bmu) :
    (stageAction source change s).bmu = s.bmu := by unfold stageAction; simp [h]

@[simp] theorem stageAction_mirror (source : Nat) (change : State → State) (s : State) (h : ∀ a, (change a).mirror = a.mirror) :
    (stageAction source change s).mirror = s.mirror := by unfold stageAction; simp [h]

@[simp] theorem stageAction_pending (source : Nat) (change : State → State) (s : State) (h : ∀ a, (change a).pending = a.pending) :
    (stageAction source change s).pending = s.pending := by unfold stageAction; simp [h]

theorem mirrorRack_frame (r : Nat) (s : State) :
    (mirrorRack r s).now = s.now ∧ (mirrorRack r s).frame = s.frame ∧ (mirrorRack r s).free = s.free ∧ (mirrorRack r s).regs = s.regs ∧
    (mirrorRack r s).vcp = s.vcp ∧ (mirrorRack r s).plant = s.plant ∧ (mirrorRack r s).broker = s.broker ∧
    (mirrorRack r s).valves = s.valves ∧ (mirrorRack r s).motors = s.motors ∧ (mirrorRack r s).senses = s.senses ∧
    (mirrorRack r s).pulses = s.pulses ∧ (mirrorRack r s).analogs = s.analogs ∧ (mirrorRack r s).auxs = s.auxs ∧
    (mirrorRack r s).cards = s.cards ∧ (mirrorRack r s).service = s.service ∧ (mirrorRack r s).seqr = s.seqr ∧
    (mirrorRack r s).dies = s.dies ∧ (mirrorRack r s).clusters = s.clusters ∧ (mirrorRack r s).integ = s.integ ∧
    (mirrorRack r s).copies = s.copies ∧ (mirrorRack r s).pair = s.pair ∧ (mirrorRack r s).links = s.links ∧
    (mirrorRack r s).hall = s.hall ∧ (mirrorRack r s).buses = s.buses ∧ (mirrorRack r s).frameLog = s.frameLog ∧
    (mirrorRack r s).power = s.power ∧ (mirrorRack r s).ptp = s.ptp ∧ (mirrorRack r s).fans = s.fans ∧ (mirrorRack r s).upds = s.upds ∧
    (mirrorRack r s).fw = s.fw ∧ (mirrorRack r s).log = s.log ∧ (mirrorRack r s).bmu = s.bmu ∧ (mirrorRack r s).mirror = s.mirror ∧
    (mirrorRack r s).pending = s.pending := by
  unfold mirrorRack; (try dsimp only); (repeat' split) <;> simp

theorem sendGrant_frame (r : Nat) (kind : Nat) (raId : BitVec 32) (expected leaves : Time) (s : State) :
    (sendGrant r kind raId expected leaves s).now = s.now ∧ (sendGrant r kind raId expected leaves s).frame = s.frame ∧
    (sendGrant r kind raId expected leaves s).free = s.free ∧ (sendGrant r kind raId expected leaves s).regs = s.regs ∧
    (sendGrant r kind raId expected leaves s).vcp = s.vcp ∧ (sendGrant r kind raId expected leaves s).plant = s.plant ∧
    (sendGrant r kind raId expected leaves s).valves = s.valves ∧ (sendGrant r kind raId expected leaves s).motors = s.motors ∧
    (sendGrant r kind raId expected leaves s).senses = s.senses ∧ (sendGrant r kind raId expected leaves s).pulses = s.pulses ∧
    (sendGrant r kind raId expected leaves s).analogs = s.analogs ∧ (sendGrant r kind raId expected leaves s).auxs = s.auxs ∧
    (sendGrant r kind raId expected leaves s).cards = s.cards ∧ (sendGrant r kind raId expected leaves s).service = s.service ∧
    (sendGrant r kind raId expected leaves s).seqr = s.seqr ∧ (sendGrant r kind raId expected leaves s).dies = s.dies ∧
    (sendGrant r kind raId expected leaves s).clusters = s.clusters ∧ (sendGrant r kind raId expected leaves s).integ = s.integ ∧
    (sendGrant r kind raId expected leaves s).copies = s.copies ∧ (sendGrant r kind raId expected leaves s).pair = s.pair ∧
    (sendGrant r kind raId expected leaves s).links = s.links ∧ (sendGrant r kind raId expected leaves s).hall = s.hall ∧
    (sendGrant r kind raId expected leaves s).buses = s.buses ∧ (sendGrant r kind raId expected leaves s).frameLog = s.frameLog ∧
    (sendGrant r kind raId expected leaves s).power = s.power ∧ (sendGrant r kind raId expected leaves s).ptp = s.ptp ∧
    (sendGrant r kind raId expected leaves s).fans = s.fans ∧ (sendGrant r kind raId expected leaves s).upds = s.upds ∧
    (sendGrant r kind raId expected leaves s).fw = s.fw ∧ (sendGrant r kind raId expected leaves s).log = s.log ∧
    (sendGrant r kind raId expected leaves s).bmu = s.bmu ∧ (sendGrant r kind raId expected leaves s).mirror = s.mirror ∧
    (sendGrant r kind raId expected leaves s).pending = s.pending := by
  have e1 := @mirrorRack_frame
  unfold sendGrant; (try dsimp only); (repeat' split) <;> simp [e1]

theorem grantSet_frame (source : Nat) (new : Power) (causeSeq : BitVec 32) (leaves : Time) (r : Nat) (s : State) :
    (grantSet source new causeSeq leaves r s).now = s.now ∧ (grantSet source new causeSeq leaves r s).frame = s.frame ∧
    (grantSet source new causeSeq leaves r s).free = s.free ∧ (grantSet source new causeSeq leaves r s).vcp = s.vcp ∧
    (grantSet source new causeSeq leaves r s).plant = s.plant ∧ (grantSet source new causeSeq leaves r s).valves = s.valves ∧
    (grantSet source new causeSeq leaves r s).motors = s.motors ∧ (grantSet source new causeSeq leaves r s).senses = s.senses ∧
    (grantSet source new causeSeq leaves r s).pulses = s.pulses ∧ (grantSet source new causeSeq leaves r s).analogs = s.analogs ∧
    (grantSet source new causeSeq leaves r s).auxs = s.auxs ∧ (grantSet source new causeSeq leaves r s).cards = s.cards ∧
    (grantSet source new causeSeq leaves r s).service = s.service ∧ (grantSet source new causeSeq leaves r s).seqr = s.seqr ∧
    (grantSet source new causeSeq leaves r s).dies = s.dies ∧ (grantSet source new causeSeq leaves r s).clusters = s.clusters ∧
    (grantSet source new causeSeq leaves r s).integ = s.integ ∧ (grantSet source new causeSeq leaves r s).copies = s.copies ∧
    (grantSet source new causeSeq leaves r s).pair = s.pair ∧ (grantSet source new causeSeq leaves r s).links = s.links ∧
    (grantSet source new causeSeq leaves r s).hall = s.hall ∧ (grantSet source new causeSeq leaves r s).buses = s.buses ∧
    (grantSet source new causeSeq leaves r s).frameLog = s.frameLog ∧ (grantSet source new causeSeq leaves r s).power = s.power ∧
    (grantSet source new causeSeq leaves r s).ptp = s.ptp ∧ (grantSet source new causeSeq leaves r s).fans = s.fans ∧
    (grantSet source new causeSeq leaves r s).upds = s.upds ∧ (grantSet source new causeSeq leaves r s).fw = s.fw ∧
    (grantSet source new causeSeq leaves r s).bmu = s.bmu ∧ (grantSet source new causeSeq leaves r s).mirror = s.mirror ∧
    (grantSet source new causeSeq leaves r s).pending = s.pending := by
  have e1 := @sendGrant_frame
  unfold grantSet; (try dsimp only); (repeat' split) <;> simp [e1]

theorem lowerCap_frame (source : Nat) (causeSeq : BitVec 32) (leaves : Time) (r : Nat) (cap : Power) (s : State) :
    (lowerCap source causeSeq leaves r cap s).now = s.now ∧ (lowerCap source causeSeq leaves r cap s).frame = s.frame ∧
    (lowerCap source causeSeq leaves r cap s).free = s.free ∧ (lowerCap source causeSeq leaves r cap s).vcp = s.vcp ∧
    (lowerCap source causeSeq leaves r cap s).plant = s.plant ∧ (lowerCap source causeSeq leaves r cap s).valves = s.valves ∧
    (lowerCap source causeSeq leaves r cap s).motors = s.motors ∧ (lowerCap source causeSeq leaves r cap s).senses = s.senses ∧
    (lowerCap source causeSeq leaves r cap s).pulses = s.pulses ∧ (lowerCap source causeSeq leaves r cap s).analogs = s.analogs ∧
    (lowerCap source causeSeq leaves r cap s).auxs = s.auxs ∧ (lowerCap source causeSeq leaves r cap s).cards = s.cards ∧
    (lowerCap source causeSeq leaves r cap s).service = s.service ∧ (lowerCap source causeSeq leaves r cap s).seqr = s.seqr ∧
    (lowerCap source causeSeq leaves r cap s).dies = s.dies ∧ (lowerCap source causeSeq leaves r cap s).clusters = s.clusters ∧
    (lowerCap source causeSeq leaves r cap s).integ = s.integ ∧ (lowerCap source causeSeq leaves r cap s).copies = s.copies ∧
    (lowerCap source causeSeq leaves r cap s).pair = s.pair ∧ (lowerCap source causeSeq leaves r cap s).links = s.links ∧
    (lowerCap source causeSeq leaves r cap s).hall = s.hall ∧ (lowerCap source causeSeq leaves r cap s).buses = s.buses ∧
    (lowerCap source causeSeq leaves r cap s).frameLog = s.frameLog ∧ (lowerCap source causeSeq leaves r cap s).power = s.power ∧
    (lowerCap source causeSeq leaves r cap s).ptp = s.ptp ∧ (lowerCap source causeSeq leaves r cap s).fans = s.fans ∧
    (lowerCap source causeSeq leaves r cap s).upds = s.upds ∧ (lowerCap source causeSeq leaves r cap s).fw = s.fw ∧
    (lowerCap source causeSeq leaves r cap s).bmu = s.bmu ∧ (lowerCap source causeSeq leaves r cap s).mirror = s.mirror ∧
    (lowerCap source causeSeq leaves r cap s).pending = s.pending := by
  have e1 := @grantSet_frame
  unfold lowerCap; (try dsimp only); (repeat' split) <;> simp [e1]

theorem floorCaps_frame (source : Nat) (p : Nat → Bool) (s : State) :
    (floorCaps source p s).now = s.now ∧ (floorCaps source p s).frame = s.frame ∧ (floorCaps source p s).vcp = s.vcp ∧
    (floorCaps source p s).plant = s.plant ∧ (floorCaps source p s).valves = s.valves ∧ (floorCaps source p s).motors = s.motors ∧
    (floorCaps source p s).senses = s.senses ∧ (floorCaps source p s).pulses = s.pulses ∧ (floorCaps source p s).analogs = s.analogs ∧
    (floorCaps source p s).auxs = s.auxs ∧ (floorCaps source p s).cards = s.cards ∧ (floorCaps source p s).service = s.service ∧
    (floorCaps source p s).seqr = s.seqr ∧ (floorCaps source p s).dies = s.dies ∧ (floorCaps source p s).clusters = s.clusters ∧
    (floorCaps source p s).integ = s.integ ∧ (floorCaps source p s).copies = s.copies ∧ (floorCaps source p s).pair = s.pair ∧
    (floorCaps source p s).links = s.links ∧ (floorCaps source p s).hall = s.hall ∧ (floorCaps source p s).buses = s.buses ∧
    (floorCaps source p s).frameLog = s.frameLog ∧ (floorCaps source p s).power = s.power ∧ (floorCaps source p s).ptp = s.ptp ∧
    (floorCaps source p s).fans = s.fans ∧ (floorCaps source p s).upds = s.upds ∧ (floorCaps source p s).fw = s.fw ∧
    (floorCaps source p s).bmu = s.bmu ∧ (floorCaps source p s).mirror = s.mirror ∧ (floorCaps source p s).pending = s.pending := by
  have e1 := @lowerCap_frame
  unfold floorCaps; (try dsimp only); (repeat' split) <;> simp [e1]

theorem envelopeCut_frame (causeSeq : BitVec 32) (s : State) :
    (envelopeCut causeSeq s).now = s.now ∧ (envelopeCut causeSeq s).frame = s.frame ∧ (envelopeCut causeSeq s).vcp = s.vcp ∧
    (envelopeCut causeSeq s).plant = s.plant ∧ (envelopeCut causeSeq s).valves = s.valves ∧ (envelopeCut causeSeq s).motors = s.motors ∧
    (envelopeCut causeSeq s).senses = s.senses ∧ (envelopeCut causeSeq s).pulses = s.pulses ∧ (envelopeCut causeSeq s).analogs = s.analogs ∧
    (envelopeCut causeSeq s).auxs = s.auxs ∧ (envelopeCut causeSeq s).cards = s.cards ∧ (envelopeCut causeSeq s).service = s.service ∧
    (envelopeCut causeSeq s).seqr = s.seqr ∧ (envelopeCut causeSeq s).dies = s.dies ∧ (envelopeCut causeSeq s).clusters = s.clusters ∧
    (envelopeCut causeSeq s).integ = s.integ ∧ (envelopeCut causeSeq s).copies = s.copies ∧ (envelopeCut causeSeq s).pair = s.pair ∧
    (envelopeCut causeSeq s).links = s.links ∧ (envelopeCut causeSeq s).hall = s.hall ∧ (envelopeCut causeSeq s).buses = s.buses ∧
    (envelopeCut causeSeq s).frameLog = s.frameLog ∧ (envelopeCut causeSeq s).power = s.power ∧ (envelopeCut causeSeq s).ptp = s.ptp ∧
    (envelopeCut causeSeq s).fans = s.fans ∧ (envelopeCut causeSeq s).upds = s.upds ∧ (envelopeCut causeSeq s).fw = s.fw ∧
    (envelopeCut causeSeq s).bmu = s.bmu ∧ (envelopeCut causeSeq s).mirror = s.mirror ∧ (envelopeCut causeSeq s).pending = s.pending := by
  have e1 := @lowerCap_frame
  unfold envelopeCut; (try dsimp only); (repeat' split) <;> simp [e1]

theorem ackGrant_frame (r : Nat) (q : BitVec 32) (power : Nat) (s : State) :
    (ackGrant r q power s).now = s.now ∧ (ackGrant r q power s).frame = s.frame ∧ (ackGrant r q power s).free = s.free ∧
    (ackGrant r q power s).regs = s.regs ∧ (ackGrant r q power s).vcp = s.vcp ∧ (ackGrant r q power s).plant = s.plant ∧
    (ackGrant r q power s).valves = s.valves ∧ (ackGrant r q power s).motors = s.motors ∧ (ackGrant r q power s).senses = s.senses ∧
    (ackGrant r q power s).pulses = s.pulses ∧ (ackGrant r q power s).analogs = s.analogs ∧ (ackGrant r q power s).auxs = s.auxs ∧
    (ackGrant r q power s).cards = s.cards ∧ (ackGrant r q power s).service = s.service ∧ (ackGrant r q power s).seqr = s.seqr ∧
    (ackGrant r q power s).dies = s.dies ∧ (ackGrant r q power s).clusters = s.clusters ∧ (ackGrant r q power s).integ = s.integ ∧
    (ackGrant r q power s).copies = s.copies ∧ (ackGrant r q power s).pair = s.pair ∧ (ackGrant r q power s).links = s.links ∧
    (ackGrant r q power s).hall = s.hall ∧ (ackGrant r q power s).buses = s.buses ∧ (ackGrant r q power s).frameLog = s.frameLog ∧
    (ackGrant r q power s).ptp = s.ptp ∧ (ackGrant r q power s).fans = s.fans ∧ (ackGrant r q power s).upds = s.upds ∧
    (ackGrant r q power s).fw = s.fw ∧ (ackGrant r q power s).log = s.log ∧ (ackGrant r q power s).bmu = s.bmu ∧
    (ackGrant r q power s).mirror = s.mirror ∧ (ackGrant r q power s).pending = s.pending := by
  have e1 := @mirrorRack_frame
  unfold ackGrant; (try dsimp only); (repeat' split) <;> simp [e1]

theorem closeUnanswered_frame (r : Nat) (g : Grant) (s : State) :
    (closeUnanswered r g s).now = s.now ∧ (closeUnanswered r g s).frame = s.frame ∧ (closeUnanswered r g s).free = s.free ∧
    (closeUnanswered r g s).plant = s.plant ∧ (closeUnanswered r g s).valves = s.valves ∧ (closeUnanswered r g s).motors = s.motors ∧
    (closeUnanswered r g s).senses = s.senses ∧ (closeUnanswered r g s).pulses = s.pulses ∧ (closeUnanswered r g s).analogs = s.analogs ∧
    (closeUnanswered r g s).auxs = s.auxs ∧ (closeUnanswered r g s).cards = s.cards ∧ (closeUnanswered r g s).service = s.service ∧
    (closeUnanswered r g s).seqr = s.seqr ∧ (closeUnanswered r g s).dies = s.dies ∧ (closeUnanswered r g s).clusters = s.clusters ∧
    (closeUnanswered r g s).integ = s.integ ∧ (closeUnanswered r g s).copies = s.copies ∧ (closeUnanswered r g s).pair = s.pair ∧
    (closeUnanswered r g s).links = s.links ∧ (closeUnanswered r g s).hall = s.hall ∧ (closeUnanswered r g s).buses = s.buses ∧
    (closeUnanswered r g s).frameLog = s.frameLog ∧ (closeUnanswered r g s).power = s.power ∧ (closeUnanswered r g s).ptp = s.ptp ∧
    (closeUnanswered r g s).fans = s.fans ∧ (closeUnanswered r g s).upds = s.upds ∧ (closeUnanswered r g s).fw = s.fw ∧
    (closeUnanswered r g s).log = s.log ∧ (closeUnanswered r g s).bmu = s.bmu ∧ (closeUnanswered r g s).mirror = s.mirror ∧
    (closeUnanswered r g s).pending = s.pending := by
  have e1 := @mirrorRack_frame
  unfold closeUnanswered; (try dsimp only); (repeat' split) <;> simp [e1]

theorem recordBeacons_frame (s : State) :
    (recordBeacons s).now = s.now ∧ (recordBeacons s).frame = s.frame ∧ (recordBeacons s).free = s.free ∧ (recordBeacons s).vcp = s.vcp ∧
    (recordBeacons s).broker = s.broker ∧ (recordBeacons s).valves = s.valves ∧ (recordBeacons s).motors = s.motors ∧
    (recordBeacons s).senses = s.senses ∧ (recordBeacons s).pulses = s.pulses ∧ (recordBeacons s).analogs = s.analogs ∧
    (recordBeacons s).auxs = s.auxs ∧ (recordBeacons s).cards = s.cards ∧ (recordBeacons s).service = s.service ∧
    (recordBeacons s).seqr = s.seqr ∧ (recordBeacons s).dies = s.dies ∧ (recordBeacons s).clusters = s.clusters ∧
    (recordBeacons s).integ = s.integ ∧ (recordBeacons s).copies = s.copies ∧ (recordBeacons s).pair = s.pair ∧
    (recordBeacons s).links = s.links ∧ (recordBeacons s).hall = s.hall ∧ (recordBeacons s).buses = s.buses ∧
    (recordBeacons s).frameLog = s.frameLog ∧ (recordBeacons s).power = s.power ∧ (recordBeacons s).ptp = s.ptp ∧
    (recordBeacons s).fans = s.fans ∧ (recordBeacons s).upds = s.upds ∧ (recordBeacons s).fw = s.fw ∧ (recordBeacons s).bmu = s.bmu ∧
    (recordBeacons s).mirror = s.mirror ∧ (recordBeacons s).pending = s.pending := by
  unfold recordBeacons; (try dsimp only); (repeat' split) <;> simp

theorem driveBeacons_frame (s : State) :
    (driveBeacons s).now = s.now ∧ (driveBeacons s).frame = s.frame ∧ (driveBeacons s).free = s.free ∧ (driveBeacons s).vcp = s.vcp ∧
    (driveBeacons s).broker = s.broker ∧ (driveBeacons s).valves = s.valves ∧ (driveBeacons s).motors = s.motors ∧
    (driveBeacons s).senses = s.senses ∧ (driveBeacons s).pulses = s.pulses ∧ (driveBeacons s).analogs = s.analogs ∧
    (driveBeacons s).auxs = s.auxs ∧ (driveBeacons s).cards = s.cards ∧ (driveBeacons s).service = s.service ∧
    (driveBeacons s).seqr = s.seqr ∧ (driveBeacons s).dies = s.dies ∧ (driveBeacons s).clusters = s.clusters ∧
    (driveBeacons s).integ = s.integ ∧ (driveBeacons s).copies = s.copies ∧ (driveBeacons s).pair = s.pair ∧
    (driveBeacons s).links = s.links ∧ (driveBeacons s).hall = s.hall ∧ (driveBeacons s).buses = s.buses ∧
    (driveBeacons s).frameLog = s.frameLog ∧ (driveBeacons s).power = s.power ∧ (driveBeacons s).ptp = s.ptp ∧
    (driveBeacons s).fans = s.fans ∧ (driveBeacons s).upds = s.upds ∧ (driveBeacons s).fw = s.fw ∧ (driveBeacons s).bmu = s.bmu ∧
    (driveBeacons s).mirror = s.mirror ∧ (driveBeacons s).pending = s.pending := by
  have e1 := @recordBeacons_frame
  unfold driveBeacons; (try dsimp only); (repeat' split) <;> simp [e1]

theorem settleNoAck_frame (s : State) :
    (settleNoAck s).now = s.now ∧ (settleNoAck s).frame = s.frame ∧ (settleNoAck s).free = s.free ∧ (settleNoAck s).regs = s.regs ∧
    (settleNoAck s).vcp = s.vcp ∧ (settleNoAck s).plant = s.plant ∧ (settleNoAck s).valves = s.valves ∧ (settleNoAck s).motors = s.motors ∧
    (settleNoAck s).senses = s.senses ∧ (settleNoAck s).pulses = s.pulses ∧ (settleNoAck s).analogs = s.analogs ∧
    (settleNoAck s).auxs = s.auxs ∧ (settleNoAck s).cards = s.cards ∧ (settleNoAck s).service = s.service ∧ (settleNoAck s).seqr = s.seqr ∧
    (settleNoAck s).dies = s.dies ∧ (settleNoAck s).clusters = s.clusters ∧ (settleNoAck s).integ = s.integ ∧
    (settleNoAck s).copies = s.copies ∧ (settleNoAck s).pair = s.pair ∧ (settleNoAck s).links = s.links ∧ (settleNoAck s).hall = s.hall ∧
    (settleNoAck s).buses = s.buses ∧ (settleNoAck s).frameLog = s.frameLog ∧ (settleNoAck s).power = s.power ∧
    (settleNoAck s).ptp = s.ptp ∧ (settleNoAck s).fans = s.fans ∧ (settleNoAck s).upds = s.upds ∧ (settleNoAck s).fw = s.fw ∧
    (settleNoAck s).log = s.log ∧ (settleNoAck s).bmu = s.bmu ∧ (settleNoAck s).mirror = s.mirror ∧
    (settleNoAck s).pending = s.pending := by
  have e1 := @mirrorRack_frame
  unfold settleNoAck; (try dsimp only); (repeat' split) <;> (first | (simp [e1]; done) | (simp (disch := (intros; (repeat' split) <;> simp [e1])) [e1]; done))

theorem replacePreview_frame (id : BitVec 32) (racks : BitVec 16) (start duration load ramp : Nat) (s : State) :
    (replacePreview id racks start duration load ramp s).now = s.now ∧
    (replacePreview id racks start duration load ramp s).frame = s.frame ∧
    (replacePreview id racks start duration load ramp s).free = s.free ∧
    (replacePreview id racks start duration load ramp s).regs = s.regs ∧
    (replacePreview id racks start duration load ramp s).outbox = s.outbox ∧
    (replacePreview id racks start duration load ramp s).vcp = s.vcp ∧
    (replacePreview id racks start duration load ramp s).plant = s.plant ∧
    (replacePreview id racks start duration load ramp s).valves = s.valves ∧
    (replacePreview id racks start duration load ramp s).motors = s.motors ∧
    (replacePreview id racks start duration load ramp s).senses = s.senses ∧
    (replacePreview id racks start duration load ramp s).pulses = s.pulses ∧
    (replacePreview id racks start duration load ramp s).analogs = s.analogs ∧
    (replacePreview id racks start duration load ramp s).auxs = s.auxs ∧
    (replacePreview id racks start duration load ramp s).cards = s.cards ∧
    (replacePreview id racks start duration load ramp s).service = s.service ∧
    (replacePreview id racks start duration load ramp s).seqr = s.seqr ∧
    (replacePreview id racks start duration load ramp s).dies = s.dies ∧
    (replacePreview id racks start duration load ramp s).clusters = s.clusters ∧
    (replacePreview id racks start duration load ramp s).integ = s.integ ∧
    (replacePreview id racks start duration load ramp s).copies = s.copies ∧
    (replacePreview id racks start duration load ramp s).pair = s.pair ∧
    (replacePreview id racks start duration load ramp s).links = s.links ∧
    (replacePreview id racks start duration load ramp s).hall = s.hall ∧
    (replacePreview id racks start duration load ramp s).buses = s.buses ∧
    (replacePreview id racks start duration load ramp s).frameLog = s.frameLog ∧
    (replacePreview id racks start duration load ramp s).power = s.power ∧
    (replacePreview id racks start duration load ramp s).ptp = s.ptp ∧ (replacePreview id racks start duration load ramp s).fans = s.fans ∧
    (replacePreview id racks start duration load ramp s).upds = s.upds ∧ (replacePreview id racks start duration load ramp s).fw = s.fw ∧
    (replacePreview id racks start duration load ramp s).log = s.log ∧ (replacePreview id racks start duration load ramp s).bmu = s.bmu ∧
    (replacePreview id racks start duration load ramp s).mirror = s.mirror ∧
    (replacePreview id racks start duration load ramp s).pending = s.pending := by
  unfold replacePreview; (try dsimp only); (repeat' split) <;> simp

theorem addPreview_frame (id : BitVec 32) (racks : BitVec 16) (start duration load ramp : Nat) (s : State) :
    (addPreview id racks start duration load ramp s).now = s.now ∧ (addPreview id racks start duration load ramp s).frame = s.frame ∧
    (addPreview id racks start duration load ramp s).free = s.free ∧ (addPreview id racks start duration load ramp s).regs = s.regs ∧
    (addPreview id racks start duration load ramp s).outbox = s.outbox ∧ (addPreview id racks start duration load ramp s).vcp = s.vcp ∧
    (addPreview id racks start duration load ramp s).plant = s.plant ∧ (addPreview id racks start duration load ramp s).valves = s.valves ∧
    (addPreview id racks start duration load ramp s).motors = s.motors ∧
    (addPreview id racks start duration load ramp s).senses = s.senses ∧
    (addPreview id racks start duration load ramp s).pulses = s.pulses ∧
    (addPreview id racks start duration load ramp s).analogs = s.analogs ∧ (addPreview id racks start duration load ramp s).auxs = s.auxs ∧
    (addPreview id racks start duration load ramp s).cards = s.cards ∧
    (addPreview id racks start duration load ramp s).service = s.service ∧ (addPreview id racks start duration load ramp s).seqr = s.seqr ∧
    (addPreview id racks start duration load ramp s).dies = s.dies ∧
    (addPreview id racks start duration load ramp s).clusters = s.clusters ∧
    (addPreview id racks start duration load ramp s).integ = s.integ ∧ (addPreview id racks start duration load ramp s).copies = s.copies ∧
    (addPreview id racks start duration load ramp s).pair = s.pair ∧ (addPreview id racks start duration load ramp s).links = s.links ∧
    (addPreview id racks start duration load ramp s).hall = s.hall ∧ (addPreview id racks start duration load ramp s).buses = s.buses ∧
    (addPreview id racks start duration load ramp s).frameLog = s.frameLog ∧
    (addPreview id racks start duration load ramp s).power = s.power ∧ (addPreview id racks start duration load ramp s).ptp = s.ptp ∧
    (addPreview id racks start duration load ramp s).fans = s.fans ∧ (addPreview id racks start duration load ramp s).upds = s.upds ∧
    (addPreview id racks start duration load ramp s).fw = s.fw ∧ (addPreview id racks start duration load ramp s).log = s.log ∧
    (addPreview id racks start duration load ramp s).bmu = s.bmu ∧ (addPreview id racks start duration load ramp s).mirror = s.mirror ∧
    (addPreview id racks start duration load ramp s).pending = s.pending := by
  unfold addPreview; (try dsimp only); (repeat' split) <;> simp

theorem cancelPreview_frame (id : BitVec 32) (s : State) :
    (cancelPreview id s).now = s.now ∧ (cancelPreview id s).frame = s.frame ∧ (cancelPreview id s).free = s.free ∧
    (cancelPreview id s).regs = s.regs ∧ (cancelPreview id s).outbox = s.outbox ∧ (cancelPreview id s).vcp = s.vcp ∧
    (cancelPreview id s).plant = s.plant ∧ (cancelPreview id s).valves = s.valves ∧ (cancelPreview id s).motors = s.motors ∧
    (cancelPreview id s).senses = s.senses ∧ (cancelPreview id s).pulses = s.pulses ∧ (cancelPreview id s).analogs = s.analogs ∧
    (cancelPreview id s).auxs = s.auxs ∧ (cancelPreview id s).cards = s.cards ∧ (cancelPreview id s).service = s.service ∧
    (cancelPreview id s).seqr = s.seqr ∧ (cancelPreview id s).dies = s.dies ∧ (cancelPreview id s).clusters = s.clusters ∧
    (cancelPreview id s).integ = s.integ ∧ (cancelPreview id s).copies = s.copies ∧ (cancelPreview id s).pair = s.pair ∧
    (cancelPreview id s).links = s.links ∧ (cancelPreview id s).hall = s.hall ∧ (cancelPreview id s).buses = s.buses ∧
    (cancelPreview id s).frameLog = s.frameLog ∧ (cancelPreview id s).power = s.power ∧ (cancelPreview id s).ptp = s.ptp ∧
    (cancelPreview id s).fans = s.fans ∧ (cancelPreview id s).upds = s.upds ∧ (cancelPreview id s).fw = s.fw ∧
    (cancelPreview id s).log = s.log ∧ (cancelPreview id s).bmu = s.bmu ∧ (cancelPreview id s).mirror = s.mirror ∧
    (cancelPreview id s).pending = s.pending := by
  unfold cancelPreview; (try dsimp only); (repeat' split) <;> simp

theorem startPull_frame (reflex : Bool) (c : Nat) (s : State) :
    (startPull reflex c s).now = s.now ∧ (startPull reflex c s).frame = s.frame ∧ (startPull reflex c s).free = s.free ∧
    (startPull reflex c s).vcp = s.vcp ∧ (startPull reflex c s).broker = s.broker ∧ (startPull reflex c s).motors = s.motors ∧
    (startPull reflex c s).senses = s.senses ∧ (startPull reflex c s).pulses = s.pulses ∧ (startPull reflex c s).analogs = s.analogs ∧
    (startPull reflex c s).auxs = s.auxs ∧ (startPull reflex c s).cards = s.cards ∧ (startPull reflex c s).service = s.service ∧
    (startPull reflex c s).seqr = s.seqr ∧ (startPull reflex c s).dies = s.dies ∧ (startPull reflex c s).clusters = s.clusters ∧
    (startPull reflex c s).integ = s.integ ∧ (startPull reflex c s).copies = s.copies ∧ (startPull reflex c s).pair = s.pair ∧
    (startPull reflex c s).links = s.links ∧ (startPull reflex c s).hall = s.hall ∧ (startPull reflex c s).buses = s.buses ∧
    (startPull reflex c s).frameLog = s.frameLog ∧ (startPull reflex c s).power = s.power ∧ (startPull reflex c s).ptp = s.ptp ∧
    (startPull reflex c s).fans = s.fans ∧ (startPull reflex c s).upds = s.upds ∧ (startPull reflex c s).fw = s.fw ∧
    (startPull reflex c s).bmu = s.bmu ∧ (startPull reflex c s).mirror = s.mirror ∧ (startPull reflex c s).pending = s.pending := by
  unfold startPull; (try dsimp only); (repeat' split) <;> simp

theorem startRelease_frame (source : Nat) (c : Nat) (s : State) :
    (startRelease source c s).now = s.now ∧ (startRelease source c s).frame = s.frame ∧ (startRelease source c s).free = s.free ∧
    (startRelease source c s).vcp = s.vcp ∧ (startRelease source c s).plant = s.plant ∧ (startRelease source c s).broker = s.broker ∧
    (startRelease source c s).motors = s.motors ∧ (startRelease source c s).senses = s.senses ∧
    (startRelease source c s).pulses = s.pulses ∧ (startRelease source c s).analogs = s.analogs ∧ (startRelease source c s).auxs = s.auxs ∧
    (startRelease source c s).cards = s.cards ∧ (startRelease source c s).service = s.service ∧ (startRelease source c s).seqr = s.seqr ∧
    (startRelease source c s).dies = s.dies ∧ (startRelease source c s).clusters = s.clusters ∧ (startRelease source c s).integ = s.integ ∧
    (startRelease source c s).copies = s.copies ∧ (startRelease source c s).pair = s.pair ∧ (startRelease source c s).links = s.links ∧
    (startRelease source c s).hall = s.hall ∧ (startRelease source c s).buses = s.buses ∧ (startRelease source c s).frameLog = s.frameLog ∧
    (startRelease source c s).power = s.power ∧ (startRelease source c s).ptp = s.ptp ∧ (startRelease source c s).fans = s.fans ∧
    (startRelease source c s).upds = s.upds ∧ (startRelease source c s).fw = s.fw ∧ (startRelease source c s).bmu = s.bmu ∧
    (startRelease source c s).mirror = s.mirror ∧ (startRelease source c s).pending = s.pending := by
  unfold startRelease; (try dsimp only); (repeat' split) <;> simp

theorem startTest_frame (source : Nat) (c : Nat) (s : State) :
    (startTest source c s).now = s.now ∧ (startTest source c s).frame = s.frame ∧ (startTest source c s).free = s.free ∧
    (startTest source c s).vcp = s.vcp ∧ (startTest source c s).plant = s.plant ∧ (startTest source c s).broker = s.broker ∧
    (startTest source c s).motors = s.motors ∧ (startTest source c s).senses = s.senses ∧ (startTest source c s).pulses = s.pulses ∧
    (startTest source c s).analogs = s.analogs ∧ (startTest source c s).auxs = s.auxs ∧ (startTest source c s).cards = s.cards ∧
    (startTest source c s).service = s.service ∧ (startTest source c s).seqr = s.seqr ∧ (startTest source c s).dies = s.dies ∧
    (startTest source c s).clusters = s.clusters ∧ (startTest source c s).integ = s.integ ∧ (startTest source c s).copies = s.copies ∧
    (startTest source c s).pair = s.pair ∧ (startTest source c s).links = s.links ∧ (startTest source c s).hall = s.hall ∧
    (startTest source c s).buses = s.buses ∧ (startTest source c s).frameLog = s.frameLog ∧ (startTest source c s).power = s.power ∧
    (startTest source c s).ptp = s.ptp ∧ (startTest source c s).fans = s.fans ∧ (startTest source c s).upds = s.upds ∧
    (startTest source c s).fw = s.fw ∧ (startTest source c s).bmu = s.bmu ∧ (startTest source c s).mirror = s.mirror ∧
    (startTest source c s).pending = s.pending := by
  unfold startTest; (try dsimp only); (repeat' split) <;> simp

theorem dropValveCmd_frame (c : Nat) (st : Status) (s : State) :
    (dropValveCmd c st s).now = s.now ∧ (dropValveCmd c st s).frame = s.frame ∧ (dropValveCmd c st s).free = s.free ∧
    (dropValveCmd c st s).broker = s.broker ∧ (dropValveCmd c st s).motors = s.motors ∧ (dropValveCmd c st s).senses = s.senses ∧
    (dropValveCmd c st s).pulses = s.pulses ∧ (dropValveCmd c st s).analogs = s.analogs ∧ (dropValveCmd c st s).auxs = s.auxs ∧
    (dropValveCmd c st s).cards = s.cards ∧ (dropValveCmd c st s).service = s.service ∧ (dropValveCmd c st s).seqr = s.seqr ∧
    (dropValveCmd c st s).dies = s.dies ∧ (dropValveCmd c st s).clusters = s.clusters ∧ (dropValveCmd c st s).integ = s.integ ∧
    (dropValveCmd c st s).copies = s.copies ∧ (dropValveCmd c st s).pair = s.pair ∧ (dropValveCmd c st s).links = s.links ∧
    (dropValveCmd c st s).hall = s.hall ∧ (dropValveCmd c st s).buses = s.buses ∧ (dropValveCmd c st s).frameLog = s.frameLog ∧
    (dropValveCmd c st s).power = s.power ∧ (dropValveCmd c st s).ptp = s.ptp ∧ (dropValveCmd c st s).fans = s.fans ∧
    (dropValveCmd c st s).upds = s.upds ∧ (dropValveCmd c st s).fw = s.fw ∧ (dropValveCmd c st s).bmu = s.bmu ∧
    (dropValveCmd c st s).mirror = s.mirror ∧ (dropValveCmd c st s).pending = s.pending := by
  unfold dropValveCmd; (try dsimp only); (repeat' split) <;> simp

theorem preemptValve_frame (c : Nat) (s : State) :
    (preemptValve c s).now = s.now ∧ (preemptValve c s).frame = s.frame ∧ (preemptValve c s).free = s.free ∧
    (preemptValve c s).broker = s.broker ∧ (preemptValve c s).motors = s.motors ∧ (preemptValve c s).senses = s.senses ∧
    (preemptValve c s).pulses = s.pulses ∧ (preemptValve c s).analogs = s.analogs ∧ (preemptValve c s).auxs = s.auxs ∧
    (preemptValve c s).cards = s.cards ∧ (preemptValve c s).service = s.service ∧ (preemptValve c s).seqr = s.seqr ∧
    (preemptValve c s).dies = s.dies ∧ (preemptValve c s).clusters = s.clusters ∧ (preemptValve c s).integ = s.integ ∧
    (preemptValve c s).copies = s.copies ∧ (preemptValve c s).pair = s.pair ∧ (preemptValve c s).links = s.links ∧
    (preemptValve c s).hall = s.hall ∧ (preemptValve c s).buses = s.buses ∧ (preemptValve c s).frameLog = s.frameLog ∧
    (preemptValve c s).power = s.power ∧ (preemptValve c s).ptp = s.ptp ∧ (preemptValve c s).fans = s.fans ∧
    (preemptValve c s).upds = s.upds ∧ (preemptValve c s).fw = s.fw ∧ (preemptValve c s).bmu = s.bmu ∧
    (preemptValve c s).mirror = s.mirror ∧ (preemptValve c s).pending = s.pending := by
  have e1 := @dropValveCmd_frame
  unfold preemptValve; (try dsimp only); (repeat' split) <;> simp [e1]

theorem preemptLate_frame (s : State) :
    (preemptLate s).now = s.now ∧ (preemptLate s).frame = s.frame ∧ (preemptLate s).free = s.free ∧ (preemptLate s).broker = s.broker ∧
    (preemptLate s).motors = s.motors ∧ (preemptLate s).senses = s.senses ∧ (preemptLate s).pulses = s.pulses ∧
    (preemptLate s).analogs = s.analogs ∧ (preemptLate s).auxs = s.auxs ∧ (preemptLate s).cards = s.cards ∧
    (preemptLate s).service = s.service ∧ (preemptLate s).seqr = s.seqr ∧ (preemptLate s).dies = s.dies ∧
    (preemptLate s).clusters = s.clusters ∧ (preemptLate s).integ = s.integ ∧ (preemptLate s).copies = s.copies ∧
    (preemptLate s).pair = s.pair ∧ (preemptLate s).links = s.links ∧ (preemptLate s).hall = s.hall ∧ (preemptLate s).buses = s.buses ∧
    (preemptLate s).frameLog = s.frameLog ∧ (preemptLate s).power = s.power ∧ (preemptLate s).ptp = s.ptp ∧ (preemptLate s).fans = s.fans ∧
    (preemptLate s).upds = s.upds ∧ (preemptLate s).fw = s.fw ∧ (preemptLate s).bmu = s.bmu ∧ (preemptLate s).mirror = s.mirror ∧
    (preemptLate s).pending = s.pending := by
  have e1 := @preemptValve_frame
  unfold preemptLate
  refine ⟨forEach_now _ _ _ ?_, forEach_frame _ _ _ ?_, forEach_free _ _ _ ?_, forEach_broker _ _ _ ?_, forEach_motors _ _ _ ?_, forEach_senses _ _ _ ?_, forEach_pulses _ _ _ ?_, forEach_analogs _ _ _ ?_, forEach_auxs _ _ _ ?_, forEach_cards _ _ _ ?_, forEach_service _ _ _ ?_, forEach_seqr _ _ _ ?_, forEach_dies _ _ _ ?_, forEach_clusters _ _ _ ?_, forEach_integ _ _ _ ?_, forEach_copies _ _ _ ?_, forEach_pair _ _ _ ?_, forEach_links _ _ _ ?_, forEach_hall _ _ _ ?_, forEach_buses _ _ _ ?_, forEach_frameLog _ _ _ ?_, forEach_power _ _ _ ?_, forEach_ptp _ _ _ ?_, forEach_fans _ _ _ ?_, forEach_upds _ _ _ ?_, forEach_fw _ _ _ ?_, forEach_bmu _ _ _ ?_, forEach_mirror _ _ _ ?_, forEach_pending _ _ _ ?_⟩ <;> (intro x a; split <;> (try split) <;> simp [e1])

theorem reflexPull_frame (c : Nat) (s : State) :
    (reflexPull c s).now = s.now ∧ (reflexPull c s).frame = s.frame ∧ (reflexPull c s).free = s.free ∧ (reflexPull c s).broker = s.broker ∧
    (reflexPull c s).motors = s.motors ∧ (reflexPull c s).senses = s.senses ∧ (reflexPull c s).pulses = s.pulses ∧
    (reflexPull c s).analogs = s.analogs ∧ (reflexPull c s).auxs = s.auxs ∧ (reflexPull c s).cards = s.cards ∧
    (reflexPull c s).service = s.service ∧ (reflexPull c s).seqr = s.seqr ∧ (reflexPull c s).dies = s.dies ∧
    (reflexPull c s).clusters = s.clusters ∧ (reflexPull c s).integ = s.integ ∧ (reflexPull c s).copies = s.copies ∧
    (reflexPull c s).pair = s.pair ∧ (reflexPull c s).links = s.links ∧ (reflexPull c s).hall = s.hall ∧ (reflexPull c s).buses = s.buses ∧
    (reflexPull c s).frameLog = s.frameLog ∧ (reflexPull c s).power = s.power ∧ (reflexPull c s).ptp = s.ptp ∧
    (reflexPull c s).fans = s.fans ∧ (reflexPull c s).upds = s.upds ∧ (reflexPull c s).fw = s.fw ∧ (reflexPull c s).bmu = s.bmu ∧
    (reflexPull c s).mirror = s.mirror ∧ (reflexPull c s).pending = s.pending := by
  have e1 := @preemptValve_frame
  have e2 := @preemptLate_frame
  have e3 := @startPull_frame
  unfold reflexPull; (try dsimp only); (repeat' split) <;> simp [e1, e2, e3]

theorem deferPull_frame (c : Nat) (s : State) :
    (deferPull c s).now = s.now ∧ (deferPull c s).frame = s.frame ∧ (deferPull c s).free = s.free ∧ (deferPull c s).outbox = s.outbox ∧
    (deferPull c s).vcp = s.vcp ∧ (deferPull c s).plant = s.plant ∧ (deferPull c s).broker = s.broker ∧ (deferPull c s).motors = s.motors ∧
    (deferPull c s).senses = s.senses ∧ (deferPull c s).pulses = s.pulses ∧ (deferPull c s).analogs = s.analogs ∧
    (deferPull c s).auxs = s.auxs ∧ (deferPull c s).cards = s.cards ∧ (deferPull c s).service = s.service ∧ (deferPull c s).seqr = s.seqr ∧
    (deferPull c s).dies = s.dies ∧ (deferPull c s).clusters = s.clusters ∧ (deferPull c s).integ = s.integ ∧
    (deferPull c s).copies = s.copies ∧ (deferPull c s).pair = s.pair ∧ (deferPull c s).links = s.links ∧ (deferPull c s).hall = s.hall ∧
    (deferPull c s).buses = s.buses ∧ (deferPull c s).frameLog = s.frameLog ∧ (deferPull c s).power = s.power ∧
    (deferPull c s).ptp = s.ptp ∧ (deferPull c s).fans = s.fans ∧ (deferPull c s).upds = s.upds ∧ (deferPull c s).fw = s.fw ∧
    (deferPull c s).log = s.log ∧ (deferPull c s).bmu = s.bmu ∧ (deferPull c s).mirror = s.mirror ∧
    (deferPull c s).pending = s.pending := by
  unfold deferPull; (try dsimp only); (repeat' split) <;> simp

theorem frameCommands_frame (s : State) :
    (frameCommands s).now = s.now ∧ (frameCommands s).frame = s.frame ∧ (frameCommands s).free = s.free ∧ (frameCommands s).vcp = s.vcp ∧
    (frameCommands s).plant = s.plant ∧ (frameCommands s).broker = s.broker ∧ (frameCommands s).motors = s.motors ∧
    (frameCommands s).senses = s.senses ∧ (frameCommands s).pulses = s.pulses ∧ (frameCommands s).analogs = s.analogs ∧
    (frameCommands s).auxs = s.auxs ∧ (frameCommands s).cards = s.cards ∧ (frameCommands s).service = s.service ∧
    (frameCommands s).seqr = s.seqr ∧ (frameCommands s).dies = s.dies ∧ (frameCommands s).clusters = s.clusters ∧
    (frameCommands s).integ = s.integ ∧ (frameCommands s).copies = s.copies ∧ (frameCommands s).pair = s.pair ∧
    (frameCommands s).links = s.links ∧ (frameCommands s).hall = s.hall ∧ (frameCommands s).buses = s.buses ∧
    (frameCommands s).frameLog = s.frameLog ∧ (frameCommands s).power = s.power ∧ (frameCommands s).ptp = s.ptp ∧
    (frameCommands s).fans = s.fans ∧ (frameCommands s).upds = s.upds ∧ (frameCommands s).fw = s.fw ∧ (frameCommands s).bmu = s.bmu ∧
    (frameCommands s).mirror = s.mirror ∧ (frameCommands s).pending = s.pending := by
  have e1 := @startRelease_frame
  have e2 := @startTest_frame
  unfold frameCommands
  refine ⟨forEach_now _ _ _ ?_, forEach_frame _ _ _ ?_, forEach_free _ _ _ ?_, forEach_vcp _ _ _ ?_, forEach_plant _ _ _ ?_, forEach_broker _ _ _ ?_, forEach_motors _ _ _ ?_, forEach_senses _ _ _ ?_, forEach_pulses _ _ _ ?_, forEach_analogs _ _ _ ?_, forEach_auxs _ _ _ ?_, forEach_cards _ _ _ ?_, forEach_service _ _ _ ?_, forEach_seqr _ _ _ ?_, forEach_dies _ _ _ ?_, forEach_clusters _ _ _ ?_, forEach_integ _ _ _ ?_, forEach_copies _ _ _ ?_, forEach_pair _ _ _ ?_, forEach_links _ _ _ ?_, forEach_hall _ _ _ ?_, forEach_buses _ _ _ ?_, forEach_frameLog _ _ _ ?_, forEach_power _ _ _ ?_, forEach_ptp _ _ _ ?_, forEach_fans _ _ _ ?_, forEach_upds _ _ _ ?_, forEach_fw _ _ _ ?_, forEach_bmu _ _ _ ?_, forEach_mirror _ _ _ ?_, forEach_pending _ _ _ ?_⟩ <;> (intro x a; dsimp only; (repeat' split) <;> simp [e1, e2])

theorem framePulls_frame (before s : State) :
    (framePulls before s).now = s.now ∧ (framePulls before s).frame = s.frame ∧ (framePulls before s).free = s.free ∧
    (framePulls before s).vcp = s.vcp ∧ (framePulls before s).broker = s.broker ∧ (framePulls before s).motors = s.motors ∧
    (framePulls before s).senses = s.senses ∧ (framePulls before s).pulses = s.pulses ∧ (framePulls before s).analogs = s.analogs ∧
    (framePulls before s).auxs = s.auxs ∧ (framePulls before s).cards = s.cards ∧ (framePulls before s).service = s.service ∧
    (framePulls before s).seqr = s.seqr ∧ (framePulls before s).dies = s.dies ∧ (framePulls before s).clusters = s.clusters ∧
    (framePulls before s).integ = s.integ ∧ (framePulls before s).copies = s.copies ∧ (framePulls before s).pair = s.pair ∧
    (framePulls before s).links = s.links ∧ (framePulls before s).hall = s.hall ∧ (framePulls before s).buses = s.buses ∧
    (framePulls before s).frameLog = s.frameLog ∧ (framePulls before s).power = s.power ∧ (framePulls before s).ptp = s.ptp ∧
    (framePulls before s).fans = s.fans ∧ (framePulls before s).upds = s.upds ∧ (framePulls before s).fw = s.fw ∧
    (framePulls before s).bmu = s.bmu ∧ (framePulls before s).mirror = s.mirror ∧ (framePulls before s).pending = s.pending := by
  have e1 := @startPull_frame
  have e2 := @deferPull_frame
  unfold framePulls; (try dsimp only); (repeat' split) <;> simp [e1, e2]

theorem valveSamples_frame (c : Nat) (l : List Nat) (s : State) :
    (valveSamples c l s).now = s.now ∧ (valveSamples c l s).frame = s.frame ∧ (valveSamples c l s).free = s.free ∧
    (valveSamples c l s).regs = s.regs ∧ (valveSamples c l s).outbox = s.outbox ∧ (valveSamples c l s).vcp = s.vcp ∧
    (valveSamples c l s).plant = s.plant ∧ (valveSamples c l s).broker = s.broker ∧ (valveSamples c l s).motors = s.motors ∧
    (valveSamples c l s).senses = s.senses ∧ (valveSamples c l s).pulses = s.pulses ∧ (valveSamples c l s).analogs = s.analogs ∧
    (valveSamples c l s).auxs = s.auxs ∧ (valveSamples c l s).cards = s.cards ∧ (valveSamples c l s).service = s.service ∧
    (valveSamples c l s).seqr = s.seqr ∧ (valveSamples c l s).dies = s.dies ∧ (valveSamples c l s).clusters = s.clusters ∧
    (valveSamples c l s).integ = s.integ ∧ (valveSamples c l s).copies = s.copies ∧ (valveSamples c l s).pair = s.pair ∧
    (valveSamples c l s).links = s.links ∧ (valveSamples c l s).hall = s.hall ∧ (valveSamples c l s).buses = s.buses ∧
    (valveSamples c l s).frameLog = s.frameLog ∧ (valveSamples c l s).power = s.power ∧ (valveSamples c l s).ptp = s.ptp ∧
    (valveSamples c l s).fans = s.fans ∧ (valveSamples c l s).upds = s.upds ∧ (valveSamples c l s).fw = s.fw ∧
    (valveSamples c l s).log = s.log ∧ (valveSamples c l s).bmu = s.bmu ∧ (valveSamples c l s).mirror = s.mirror ∧
    (valveSamples c l s).pending = s.pending := by
  unfold valveSamples; (try dsimp only); (repeat' split) <;> simp

theorem acceptValve_frame (c : Nat) (q : ValveReq) (committed planned : Time) (s : State) :
    (acceptValve c q committed planned s).now = s.now ∧ (acceptValve c q committed planned s).frame = s.frame ∧
    (acceptValve c q committed planned s).free = s.free ∧ (acceptValve c q committed planned s).regs = s.regs ∧
    (acceptValve c q committed planned s).outbox = s.outbox ∧ (acceptValve c q committed planned s).vcp = s.vcp ∧
    (acceptValve c q committed planned s).broker = s.broker ∧ (acceptValve c q committed planned s).motors = s.motors ∧
    (acceptValve c q committed planned s).senses = s.senses ∧ (acceptValve c q committed planned s).pulses = s.pulses ∧
    (acceptValve c q committed planned s).analogs = s.analogs ∧ (acceptValve c q committed planned s).auxs = s.auxs ∧
    (acceptValve c q committed planned s).cards = s.cards ∧ (acceptValve c q committed planned s).service = s.service ∧
    (acceptValve c q committed planned s).seqr = s.seqr ∧ (acceptValve c q committed planned s).dies = s.dies ∧
    (acceptValve c q committed planned s).clusters = s.clusters ∧ (acceptValve c q committed planned s).integ = s.integ ∧
    (acceptValve c q committed planned s).copies = s.copies ∧ (acceptValve c q committed planned s).pair = s.pair ∧
    (acceptValve c q committed planned s).links = s.links ∧ (acceptValve c q committed planned s).hall = s.hall ∧
    (acceptValve c q committed planned s).buses = s.buses ∧ (acceptValve c q committed planned s).frameLog = s.frameLog ∧
    (acceptValve c q committed planned s).power = s.power ∧ (acceptValve c q committed planned s).ptp = s.ptp ∧
    (acceptValve c q committed planned s).fans = s.fans ∧ (acceptValve c q committed planned s).upds = s.upds ∧
    (acceptValve c q committed planned s).fw = s.fw ∧ (acceptValve c q committed planned s).log = s.log ∧
    (acceptValve c q committed planned s).bmu = s.bmu ∧ (acceptValve c q committed planned s).mirror = s.mirror ∧
    (acceptValve c q committed planned s).pending = s.pending := by
  unfold acceptValve; (try dsimp only); (repeat' split) <;> simp

theorem motorTo_frame (source : Nat) (st : MotState) (cmd : Int) (c : Nat) (s : State) :
    (motorTo source st cmd c s).now = s.now ∧ (motorTo source st cmd c s).frame = s.frame ∧ (motorTo source st cmd c s).free = s.free ∧
    (motorTo source st cmd c s).vcp = s.vcp ∧ (motorTo source st cmd c s).plant = s.plant ∧ (motorTo source st cmd c s).broker = s.broker ∧
    (motorTo source st cmd c s).valves = s.valves ∧ (motorTo source st cmd c s).senses = s.senses ∧
    (motorTo source st cmd c s).pulses = s.pulses ∧ (motorTo source st cmd c s).analogs = s.analogs ∧
    (motorTo source st cmd c s).auxs = s.auxs ∧ (motorTo source st cmd c s).cards = s.cards ∧
    (motorTo source st cmd c s).service = s.service ∧ (motorTo source st cmd c s).seqr = s.seqr ∧
    (motorTo source st cmd c s).dies = s.dies ∧ (motorTo source st cmd c s).clusters = s.clusters ∧
    (motorTo source st cmd c s).integ = s.integ ∧ (motorTo source st cmd c s).copies = s.copies ∧
    (motorTo source st cmd c s).pair = s.pair ∧ (motorTo source st cmd c s).links = s.links ∧ (motorTo source st cmd c s).hall = s.hall ∧
    (motorTo source st cmd c s).buses = s.buses ∧ (motorTo source st cmd c s).frameLog = s.frameLog ∧
    (motorTo source st cmd c s).power = s.power ∧ (motorTo source st cmd c s).ptp = s.ptp ∧ (motorTo source st cmd c s).fans = s.fans ∧
    (motorTo source st cmd c s).upds = s.upds ∧ (motorTo source st cmd c s).fw = s.fw ∧ (motorTo source st cmd c s).bmu = s.bmu ∧
    (motorTo source st cmd c s).mirror = s.mirror ∧ (motorTo source st cmd c s).pending = s.pending := by
  unfold motorTo; (try dsimp only); (repeat' split) <;> simp

theorem endMotorCmd_frame (c : Nat) (st : Status) (s : State) :
    (endMotorCmd c st s).now = s.now ∧ (endMotorCmd c st s).frame = s.frame ∧ (endMotorCmd c st s).free = s.free ∧
    (endMotorCmd c st s).plant = s.plant ∧ (endMotorCmd c st s).broker = s.broker ∧ (endMotorCmd c st s).valves = s.valves ∧
    (endMotorCmd c st s).senses = s.senses ∧ (endMotorCmd c st s).pulses = s.pulses ∧ (endMotorCmd c st s).analogs = s.analogs ∧
    (endMotorCmd c st s).auxs = s.auxs ∧ (endMotorCmd c st s).cards = s.cards ∧ (endMotorCmd c st s).service = s.service ∧
    (endMotorCmd c st s).seqr = s.seqr ∧ (endMotorCmd c st s).dies = s.dies ∧ (endMotorCmd c st s).clusters = s.clusters ∧
    (endMotorCmd c st s).integ = s.integ ∧ (endMotorCmd c st s).copies = s.copies ∧ (endMotorCmd c st s).pair = s.pair ∧
    (endMotorCmd c st s).links = s.links ∧ (endMotorCmd c st s).hall = s.hall ∧ (endMotorCmd c st s).buses = s.buses ∧
    (endMotorCmd c st s).frameLog = s.frameLog ∧ (endMotorCmd c st s).power = s.power ∧ (endMotorCmd c st s).ptp = s.ptp ∧
    (endMotorCmd c st s).fans = s.fans ∧ (endMotorCmd c st s).upds = s.upds ∧ (endMotorCmd c st s).fw = s.fw ∧
    (endMotorCmd c st s).bmu = s.bmu ∧ (endMotorCmd c st s).mirror = s.mirror ∧ (endMotorCmd c st s).pending = s.pending := by
  unfold endMotorCmd; (try dsimp only); (repeat' split) <;> simp

theorem preemptMotor_frame (c : Nat) (s : State) :
    (preemptMotor c s).now = s.now ∧ (preemptMotor c s).frame = s.frame ∧ (preemptMotor c s).free = s.free ∧
    (preemptMotor c s).plant = s.plant ∧ (preemptMotor c s).broker = s.broker ∧ (preemptMotor c s).valves = s.valves ∧
    (preemptMotor c s).senses = s.senses ∧ (preemptMotor c s).pulses = s.pulses ∧ (preemptMotor c s).analogs = s.analogs ∧
    (preemptMotor c s).auxs = s.auxs ∧ (preemptMotor c s).cards = s.cards ∧ (preemptMotor c s).service = s.service ∧
    (preemptMotor c s).seqr = s.seqr ∧ (preemptMotor c s).dies = s.dies ∧ (preemptMotor c s).clusters = s.clusters ∧
    (preemptMotor c s).integ = s.integ ∧ (preemptMotor c s).copies = s.copies ∧ (preemptMotor c s).pair = s.pair ∧
    (preemptMotor c s).links = s.links ∧ (preemptMotor c s).hall = s.hall ∧ (preemptMotor c s).buses = s.buses ∧
    (preemptMotor c s).frameLog = s.frameLog ∧ (preemptMotor c s).power = s.power ∧ (preemptMotor c s).ptp = s.ptp ∧
    (preemptMotor c s).fans = s.fans ∧ (preemptMotor c s).upds = s.upds ∧ (preemptMotor c s).fw = s.fw ∧ (preemptMotor c s).bmu = s.bmu ∧
    (preemptMotor c s).mirror = s.mirror ∧ (preemptMotor c s).pending = s.pending := by
  have e1 := @endMotorCmd_frame
  unfold preemptMotor; (try dsimp only); (repeat' split) <;> simp [e1]

theorem motorStop_frame (source c : Nat) (s : State) :
    (motorStop source c s).now = s.now ∧ (motorStop source c s).frame = s.frame ∧ (motorStop source c s).free = s.free ∧
    (motorStop source c s).vcp = s.vcp ∧ (motorStop source c s).plant = s.plant ∧ (motorStop source c s).broker = s.broker ∧
    (motorStop source c s).valves = s.valves ∧ (motorStop source c s).senses = s.senses ∧ (motorStop source c s).pulses = s.pulses ∧
    (motorStop source c s).analogs = s.analogs ∧ (motorStop source c s).auxs = s.auxs ∧ (motorStop source c s).cards = s.cards ∧
    (motorStop source c s).service = s.service ∧ (motorStop source c s).seqr = s.seqr ∧ (motorStop source c s).dies = s.dies ∧
    (motorStop source c s).clusters = s.clusters ∧ (motorStop source c s).integ = s.integ ∧ (motorStop source c s).copies = s.copies ∧
    (motorStop source c s).pair = s.pair ∧ (motorStop source c s).links = s.links ∧ (motorStop source c s).hall = s.hall ∧
    (motorStop source c s).buses = s.buses ∧ (motorStop source c s).frameLog = s.frameLog ∧ (motorStop source c s).power = s.power ∧
    (motorStop source c s).ptp = s.ptp ∧ (motorStop source c s).fans = s.fans ∧ (motorStop source c s).upds = s.upds ∧
    (motorStop source c s).fw = s.fw ∧ (motorStop source c s).bmu = s.bmu ∧ (motorStop source c s).mirror = s.mirror ∧
    (motorStop source c s).pending = s.pending := by
  have e1 := @motorTo_frame
  unfold motorStop; (try dsimp only); (repeat' split) <;> simp [e1]

theorem motorRun_frame (source : Nat) (target : Nat) (c : Nat) (s : State) :
    (motorRun source target c s).now = s.now ∧ (motorRun source target c s).frame = s.frame ∧ (motorRun source target c s).free = s.free ∧
    (motorRun source target c s).vcp = s.vcp ∧ (motorRun source target c s).plant = s.plant ∧
    (motorRun source target c s).broker = s.broker ∧ (motorRun source target c s).valves = s.valves ∧
    (motorRun source target c s).senses = s.senses ∧ (motorRun source target c s).pulses = s.pulses ∧
    (motorRun source target c s).analogs = s.analogs ∧ (motorRun source target c s).auxs = s.auxs ∧
    (motorRun source target c s).cards = s.cards ∧ (motorRun source target c s).service = s.service ∧
    (motorRun source target c s).seqr = s.seqr ∧ (motorRun source target c s).dies = s.dies ∧
    (motorRun source target c s).clusters = s.clusters ∧ (motorRun source target c s).integ = s.integ ∧
    (motorRun source target c s).copies = s.copies ∧ (motorRun source target c s).pair = s.pair ∧
    (motorRun source target c s).links = s.links ∧ (motorRun source target c s).hall = s.hall ∧
    (motorRun source target c s).buses = s.buses ∧ (motorRun source target c s).frameLog = s.frameLog ∧
    (motorRun source target c s).power = s.power ∧ (motorRun source target c s).ptp = s.ptp ∧ (motorRun source target c s).fans = s.fans ∧
    (motorRun source target c s).upds = s.upds ∧ (motorRun source target c s).fw = s.fw ∧ (motorRun source target c s).bmu = s.bmu ∧
    (motorRun source target c s).mirror = s.mirror ∧ (motorRun source target c s).pending = s.pending := by
  have e1 := @motorStop_frame
  have e2 := @motorTo_frame
  unfold motorRun; (try dsimp only); (repeat' split) <;> simp [e1, e2]

theorem motorFollow_frame (target : Nat) (c : Nat) (s : State) :
    (motorFollow target c s).now = s.now ∧ (motorFollow target c s).frame = s.frame ∧ (motorFollow target c s).free = s.free ∧
    (motorFollow target c s).vcp = s.vcp ∧ (motorFollow target c s).plant = s.plant ∧ (motorFollow target c s).broker = s.broker ∧
    (motorFollow target c s).valves = s.valves ∧ (motorFollow target c s).senses = s.senses ∧ (motorFollow target c s).pulses = s.pulses ∧
    (motorFollow target c s).analogs = s.analogs ∧ (motorFollow target c s).auxs = s.auxs ∧ (motorFollow target c s).cards = s.cards ∧
    (motorFollow target c s).service = s.service ∧ (motorFollow target c s).seqr = s.seqr ∧ (motorFollow target c s).dies = s.dies ∧
    (motorFollow target c s).clusters = s.clusters ∧ (motorFollow target c s).integ = s.integ ∧ (motorFollow target c s).copies = s.copies ∧
    (motorFollow target c s).pair = s.pair ∧ (motorFollow target c s).links = s.links ∧ (motorFollow target c s).hall = s.hall ∧
    (motorFollow target c s).buses = s.buses ∧ (motorFollow target c s).frameLog = s.frameLog ∧ (motorFollow target c s).power = s.power ∧
    (motorFollow target c s).ptp = s.ptp ∧ (motorFollow target c s).fans = s.fans ∧ (motorFollow target c s).upds = s.upds ∧
    (motorFollow target c s).fw = s.fw ∧ (motorFollow target c s).bmu = s.bmu ∧ (motorFollow target c s).mirror = s.mirror ∧
    (motorFollow target c s).pending = s.pending := by
  have e1 := @motorRun_frame
  unfold motorFollow; (try dsimp only); (repeat' split) <;> simp [e1]

theorem motorFail_frame (bit c : Nat) (s : State) :
    (motorFail bit c s).now = s.now ∧ (motorFail bit c s).frame = s.frame ∧ (motorFail bit c s).free = s.free ∧
    (motorFail bit c s).plant = s.plant ∧ (motorFail bit c s).broker = s.broker ∧ (motorFail bit c s).valves = s.valves ∧
    (motorFail bit c s).senses = s.senses ∧ (motorFail bit c s).pulses = s.pulses ∧ (motorFail bit c s).analogs = s.analogs ∧
    (motorFail bit c s).auxs = s.auxs ∧ (motorFail bit c s).cards = s.cards ∧ (motorFail bit c s).service = s.service ∧
    (motorFail bit c s).seqr = s.seqr ∧ (motorFail bit c s).dies = s.dies ∧ (motorFail bit c s).clusters = s.clusters ∧
    (motorFail bit c s).integ = s.integ ∧ (motorFail bit c s).copies = s.copies ∧ (motorFail bit c s).pair = s.pair ∧
    (motorFail bit c s).links = s.links ∧ (motorFail bit c s).hall = s.hall ∧ (motorFail bit c s).buses = s.buses ∧
    (motorFail bit c s).frameLog = s.frameLog ∧ (motorFail bit c s).power = s.power ∧ (motorFail bit c s).ptp = s.ptp ∧
    (motorFail bit c s).fans = s.fans ∧ (motorFail bit c s).upds = s.upds ∧ (motorFail bit c s).fw = s.fw ∧
    (motorFail bit c s).bmu = s.bmu ∧ (motorFail bit c s).mirror = s.mirror ∧ (motorFail bit c s).pending = s.pending := by
  have e1 := @endMotorCmd_frame
  have e2 := @motorTo_frame
  unfold motorFail; (try dsimp only); (repeat' split) <;> simp [e1, e2]

theorem motorReached_frame (c : Nat) (s : State) :
    (motorReached c s).now = s.now ∧ (motorReached c s).frame = s.frame ∧ (motorReached c s).free = s.free ∧
    (motorReached c s).plant = s.plant ∧ (motorReached c s).broker = s.broker ∧ (motorReached c s).valves = s.valves ∧
    (motorReached c s).senses = s.senses ∧ (motorReached c s).pulses = s.pulses ∧ (motorReached c s).analogs = s.analogs ∧
    (motorReached c s).auxs = s.auxs ∧ (motorReached c s).cards = s.cards ∧ (motorReached c s).service = s.service ∧
    (motorReached c s).seqr = s.seqr ∧ (motorReached c s).dies = s.dies ∧ (motorReached c s).clusters = s.clusters ∧
    (motorReached c s).integ = s.integ ∧ (motorReached c s).copies = s.copies ∧ (motorReached c s).pair = s.pair ∧
    (motorReached c s).links = s.links ∧ (motorReached c s).hall = s.hall ∧ (motorReached c s).buses = s.buses ∧
    (motorReached c s).frameLog = s.frameLog ∧ (motorReached c s).power = s.power ∧ (motorReached c s).ptp = s.ptp ∧
    (motorReached c s).fans = s.fans ∧ (motorReached c s).upds = s.upds ∧ (motorReached c s).fw = s.fw ∧ (motorReached c s).bmu = s.bmu ∧
    (motorReached c s).mirror = s.mirror ∧ (motorReached c s).pending = s.pending := by
  have e1 := @endMotorCmd_frame
  have e2 := @motorTo_frame
  unfold motorReached; (try dsimp only); (repeat' split) <;> simp [e1, e2]

theorem acceptMotor_frame (c : Nat) (q : MotorReq) (committed : Time) (s : State) :
    (acceptMotor c q committed s).now = s.now ∧ (acceptMotor c q committed s).frame = s.frame ∧
    (acceptMotor c q committed s).free = s.free ∧ (acceptMotor c q committed s).regs = s.regs ∧
    (acceptMotor c q committed s).outbox = s.outbox ∧ (acceptMotor c q committed s).vcp = s.vcp ∧
    (acceptMotor c q committed s).plant = s.plant ∧ (acceptMotor c q committed s).broker = s.broker ∧
    (acceptMotor c q committed s).valves = s.valves ∧ (acceptMotor c q committed s).senses = s.senses ∧
    (acceptMotor c q committed s).pulses = s.pulses ∧ (acceptMotor c q committed s).analogs = s.analogs ∧
    (acceptMotor c q committed s).auxs = s.auxs ∧ (acceptMotor c q committed s).cards = s.cards ∧
    (acceptMotor c q committed s).service = s.service ∧ (acceptMotor c q committed s).seqr = s.seqr ∧
    (acceptMotor c q committed s).dies = s.dies ∧ (acceptMotor c q committed s).clusters = s.clusters ∧
    (acceptMotor c q committed s).integ = s.integ ∧ (acceptMotor c q committed s).copies = s.copies ∧
    (acceptMotor c q committed s).pair = s.pair ∧ (acceptMotor c q committed s).links = s.links ∧
    (acceptMotor c q committed s).hall = s.hall ∧ (acceptMotor c q committed s).buses = s.buses ∧
    (acceptMotor c q committed s).frameLog = s.frameLog ∧ (acceptMotor c q committed s).power = s.power ∧
    (acceptMotor c q committed s).ptp = s.ptp ∧ (acceptMotor c q committed s).fans = s.fans ∧ (acceptMotor c q committed s).upds = s.upds ∧
    (acceptMotor c q committed s).fw = s.fw ∧ (acceptMotor c q committed s).log = s.log ∧ (acceptMotor c q committed s).bmu = s.bmu ∧
    (acceptMotor c q committed s).mirror = s.mirror ∧ (acceptMotor c q committed s).pending = s.pending := by
  unfold acceptMotor; (try dsimp only); (repeat' split) <;> simp

theorem frameMotorCmds_frame (s : State) :
    (frameMotorCmds s).now = s.now ∧ (frameMotorCmds s).frame = s.frame ∧ (frameMotorCmds s).free = s.free ∧
    (frameMotorCmds s).plant = s.plant ∧ (frameMotorCmds s).broker = s.broker ∧ (frameMotorCmds s).valves = s.valves ∧
    (frameMotorCmds s).senses = s.senses ∧ (frameMotorCmds s).pulses = s.pulses ∧ (frameMotorCmds s).analogs = s.analogs ∧
    (frameMotorCmds s).auxs = s.auxs ∧ (frameMotorCmds s).cards = s.cards ∧ (frameMotorCmds s).service = s.service ∧
    (frameMotorCmds s).seqr = s.seqr ∧ (frameMotorCmds s).dies = s.dies ∧ (frameMotorCmds s).clusters = s.clusters ∧
    (frameMotorCmds s).integ = s.integ ∧ (frameMotorCmds s).copies = s.copies ∧ (frameMotorCmds s).pair = s.pair ∧
    (frameMotorCmds s).links = s.links ∧ (frameMotorCmds s).hall = s.hall ∧ (frameMotorCmds s).buses = s.buses ∧
    (frameMotorCmds s).frameLog = s.frameLog ∧ (frameMotorCmds s).power = s.power ∧ (frameMotorCmds s).ptp = s.ptp ∧
    (frameMotorCmds s).fans = s.fans ∧ (frameMotorCmds s).upds = s.upds ∧ (frameMotorCmds s).fw = s.fw ∧ (frameMotorCmds s).bmu = s.bmu ∧
    (frameMotorCmds s).mirror = s.mirror ∧ (frameMotorCmds s).pending = s.pending := by
  have e1 := @motorStop_frame
  have e2 := @endMotorCmd_frame
  have e3 := @motorRun_frame
  unfold frameMotorCmds
  refine ⟨forEach_now _ _ _ ?_, forEach_frame _ _ _ ?_, forEach_free _ _ _ ?_, forEach_plant _ _ _ ?_, forEach_broker _ _ _ ?_, forEach_valves _ _ _ ?_, forEach_senses _ _ _ ?_, forEach_pulses _ _ _ ?_, forEach_analogs _ _ _ ?_, forEach_auxs _ _ _ ?_, forEach_cards _ _ _ ?_, forEach_service _ _ _ ?_, forEach_seqr _ _ _ ?_, forEach_dies _ _ _ ?_, forEach_clusters _ _ _ ?_, forEach_integ _ _ _ ?_, forEach_copies _ _ _ ?_, forEach_pair _ _ _ ?_, forEach_links _ _ _ ?_, forEach_hall _ _ _ ?_, forEach_buses _ _ _ ?_, forEach_frameLog _ _ _ ?_, forEach_power _ _ _ ?_, forEach_ptp _ _ _ ?_, forEach_fans _ _ _ ?_, forEach_upds _ _ _ ?_, forEach_fw _ _ _ ?_, forEach_bmu _ _ _ ?_, forEach_mirror _ _ _ ?_, forEach_pending _ _ _ ?_⟩ <;> (intro x a; dsimp only; (repeat' split) <;> simp [e1, e2, e3])

theorem frameRamp_frame (s : State) :
    (frameRamp s).now = s.now ∧ (frameRamp s).frame = s.frame ∧ (frameRamp s).free = s.free ∧ (frameRamp s).regs = s.regs ∧
    (frameRamp s).outbox = s.outbox ∧ (frameRamp s).vcp = s.vcp ∧ (frameRamp s).plant = s.plant ∧ (frameRamp s).broker = s.broker ∧
    (frameRamp s).valves = s.valves ∧ (frameRamp s).senses = s.senses ∧ (frameRamp s).pulses = s.pulses ∧
    (frameRamp s).analogs = s.analogs ∧ (frameRamp s).auxs = s.auxs ∧ (frameRamp s).cards = s.cards ∧ (frameRamp s).service = s.service ∧
    (frameRamp s).seqr = s.seqr ∧ (frameRamp s).dies = s.dies ∧ (frameRamp s).clusters = s.clusters ∧ (frameRamp s).integ = s.integ ∧
    (frameRamp s).copies = s.copies ∧ (frameRamp s).pair = s.pair ∧ (frameRamp s).links = s.links ∧ (frameRamp s).hall = s.hall ∧
    (frameRamp s).buses = s.buses ∧ (frameRamp s).frameLog = s.frameLog ∧ (frameRamp s).power = s.power ∧ (frameRamp s).ptp = s.ptp ∧
    (frameRamp s).fans = s.fans ∧ (frameRamp s).upds = s.upds ∧ (frameRamp s).fw = s.fw ∧ (frameRamp s).log = s.log ∧
    (frameRamp s).bmu = s.bmu ∧ (frameRamp s).mirror = s.mirror ∧ (frameRamp s).pending = s.pending := by
  unfold frameRamp; (try dsimp only); (repeat' split) <;> simp

theorem sendSpeed_frame (p : Nat) (s : State) :
    (sendSpeed p s).now = s.now ∧ (sendSpeed p s).frame = s.frame ∧ (sendSpeed p s).free = s.free ∧ (sendSpeed p s).regs = s.regs ∧
    (sendSpeed p s).vcp = s.vcp ∧ (sendSpeed p s).broker = s.broker ∧ (sendSpeed p s).valves = s.valves ∧
    (sendSpeed p s).motors = s.motors ∧ (sendSpeed p s).senses = s.senses ∧ (sendSpeed p s).pulses = s.pulses ∧
    (sendSpeed p s).analogs = s.analogs ∧ (sendSpeed p s).auxs = s.auxs ∧ (sendSpeed p s).cards = s.cards ∧
    (sendSpeed p s).service = s.service ∧ (sendSpeed p s).seqr = s.seqr ∧ (sendSpeed p s).dies = s.dies ∧
    (sendSpeed p s).clusters = s.clusters ∧ (sendSpeed p s).integ = s.integ ∧ (sendSpeed p s).copies = s.copies ∧
    (sendSpeed p s).pair = s.pair ∧ (sendSpeed p s).links = s.links ∧ (sendSpeed p s).hall = s.hall ∧ (sendSpeed p s).buses = s.buses ∧
    (sendSpeed p s).frameLog = s.frameLog ∧ (sendSpeed p s).power = s.power ∧ (sendSpeed p s).ptp = s.ptp ∧ (sendSpeed p s).fans = s.fans ∧
    (sendSpeed p s).upds = s.upds ∧ (sendSpeed p s).fw = s.fw ∧ (sendSpeed p s).log = s.log ∧ (sendSpeed p s).bmu = s.bmu ∧
    (sendSpeed p s).mirror = s.mirror ∧ (sendSpeed p s).pending = s.pending := by
  unfold sendSpeed; (try dsimp only); (repeat' split) <;> simp

theorem repeatSpeed_frame (p : Nat) (s : State) :
    (repeatSpeed p s).now = s.now ∧ (repeatSpeed p s).frame = s.frame ∧ (repeatSpeed p s).free = s.free ∧ (repeatSpeed p s).regs = s.regs ∧
    (repeatSpeed p s).vcp = s.vcp ∧ (repeatSpeed p s).broker = s.broker ∧ (repeatSpeed p s).valves = s.valves ∧
    (repeatSpeed p s).motors = s.motors ∧ (repeatSpeed p s).senses = s.senses ∧ (repeatSpeed p s).pulses = s.pulses ∧
    (repeatSpeed p s).analogs = s.analogs ∧ (repeatSpeed p s).auxs = s.auxs ∧ (repeatSpeed p s).cards = s.cards ∧
    (repeatSpeed p s).service = s.service ∧ (repeatSpeed p s).seqr = s.seqr ∧ (repeatSpeed p s).dies = s.dies ∧
    (repeatSpeed p s).clusters = s.clusters ∧ (repeatSpeed p s).integ = s.integ ∧ (repeatSpeed p s).copies = s.copies ∧
    (repeatSpeed p s).pair = s.pair ∧ (repeatSpeed p s).links = s.links ∧ (repeatSpeed p s).hall = s.hall ∧
    (repeatSpeed p s).buses = s.buses ∧ (repeatSpeed p s).frameLog = s.frameLog ∧ (repeatSpeed p s).power = s.power ∧
    (repeatSpeed p s).ptp = s.ptp ∧ (repeatSpeed p s).fans = s.fans ∧ (repeatSpeed p s).upds = s.upds ∧ (repeatSpeed p s).fw = s.fw ∧
    (repeatSpeed p s).log = s.log ∧ (repeatSpeed p s).bmu = s.bmu ∧ (repeatSpeed p s).mirror = s.mirror ∧
    (repeatSpeed p s).pending = s.pending := by
  have e1 := @sendSpeed_frame
  unfold repeatSpeed; (try dsimp only); (repeat' split) <;> simp [e1]

theorem pumpSpeed_frame (source : Nat) (p : Nat) (speed : Int) (s : State) :
    (pumpSpeed source p speed s).now = s.now ∧ (pumpSpeed source p speed s).frame = s.frame ∧ (pumpSpeed source p speed s).free = s.free ∧
    (pumpSpeed source p speed s).broker = s.broker ∧ (pumpSpeed source p speed s).valves = s.valves ∧
    (pumpSpeed source p speed s).senses = s.senses ∧ (pumpSpeed source p speed s).pulses = s.pulses ∧
    (pumpSpeed source p speed s).analogs = s.analogs ∧ (pumpSpeed source p speed s).auxs = s.auxs ∧
    (pumpSpeed source p speed s).cards = s.cards ∧ (pumpSpeed source p speed s).service = s.service ∧
    (pumpSpeed source p speed s).seqr = s.seqr ∧ (pumpSpeed source p speed s).dies = s.dies ∧
    (pumpSpeed source p speed s).clusters = s.clusters ∧ (pumpSpeed source p speed s).integ = s.integ ∧
    (pumpSpeed source p speed s).copies = s.copies ∧ (pumpSpeed source p speed s).pair = s.pair ∧
    (pumpSpeed source p speed s).links = s.links ∧ (pumpSpeed source p speed s).hall = s.hall ∧
    (pumpSpeed source p speed s).buses = s.buses ∧ (pumpSpeed source p speed s).frameLog = s.frameLog ∧
    (pumpSpeed source p speed s).power = s.power ∧ (pumpSpeed source p speed s).ptp = s.ptp ∧ (pumpSpeed source p speed s).fans = s.fans ∧
    (pumpSpeed source p speed s).upds = s.upds ∧ (pumpSpeed source p speed s).fw = s.fw ∧ (pumpSpeed source p speed s).bmu = s.bmu ∧
    (pumpSpeed source p speed s).mirror = s.mirror ∧ (pumpSpeed source p speed s).pending = s.pending := by
  have e1 := @preemptMotor_frame
  have e2 := @motorRun_frame
  have e3 := @motorFollow_frame
  have e4 := @sendSpeed_frame
  unfold pumpSpeed; (try dsimp only); (repeat' split) <;> simp [e1, e2, e3, e4]

theorem pushDuty_frame (source : Nat) (s : State) :
    (pushDuty source s).now = s.now ∧ (pushDuty source s).frame = s.frame ∧ (pushDuty source s).free = s.free ∧
    (pushDuty source s).broker = s.broker ∧ (pushDuty source s).valves = s.valves ∧ (pushDuty source s).senses = s.senses ∧
    (pushDuty source s).pulses = s.pulses ∧ (pushDuty source s).analogs = s.analogs ∧ (pushDuty source s).auxs = s.auxs ∧
    (pushDuty source s).cards = s.cards ∧ (pushDuty source s).service = s.service ∧ (pushDuty source s).seqr = s.seqr ∧
    (pushDuty source s).dies = s.dies ∧ (pushDuty source s).clusters = s.clusters ∧ (pushDuty source s).integ = s.integ ∧
    (pushDuty source s).copies = s.copies ∧ (pushDuty source s).pair = s.pair ∧ (pushDuty source s).links = s.links ∧
    (pushDuty source s).hall = s.hall ∧ (pushDuty source s).buses = s.buses ∧ (pushDuty source s).frameLog = s.frameLog ∧
    (pushDuty source s).power = s.power ∧ (pushDuty source s).ptp = s.ptp ∧ (pushDuty source s).fans = s.fans ∧
    (pushDuty source s).upds = s.upds ∧ (pushDuty source s).fw = s.fw ∧ (pushDuty source s).bmu = s.bmu ∧
    (pushDuty source s).mirror = s.mirror ∧ (pushDuty source s).pending = s.pending := by
  have e1 := @pumpSpeed_frame
  unfold pushDuty; (try dsimp only); (repeat' split) <;> simp [e1]

theorem setUse_frame (p : Nat) (u : PumpUse) (s : State) :
    (setUse p u s).now = s.now ∧ (setUse p u s).frame = s.frame ∧ (setUse p u s).free = s.free ∧ (setUse p u s).regs = s.regs ∧
    (setUse p u s).outbox = s.outbox ∧ (setUse p u s).vcp = s.vcp ∧ (setUse p u s).broker = s.broker ∧ (setUse p u s).valves = s.valves ∧
    (setUse p u s).motors = s.motors ∧ (setUse p u s).senses = s.senses ∧ (setUse p u s).pulses = s.pulses ∧
    (setUse p u s).analogs = s.analogs ∧ (setUse p u s).auxs = s.auxs ∧ (setUse p u s).cards = s.cards ∧
    (setUse p u s).service = s.service ∧ (setUse p u s).seqr = s.seqr ∧ (setUse p u s).dies = s.dies ∧
    (setUse p u s).clusters = s.clusters ∧ (setUse p u s).integ = s.integ ∧ (setUse p u s).copies = s.copies ∧
    (setUse p u s).pair = s.pair ∧ (setUse p u s).links = s.links ∧ (setUse p u s).hall = s.hall ∧ (setUse p u s).buses = s.buses ∧
    (setUse p u s).frameLog = s.frameLog ∧ (setUse p u s).power = s.power ∧ (setUse p u s).ptp = s.ptp ∧ (setUse p u s).fans = s.fans ∧
    (setUse p u s).upds = s.upds ∧ (setUse p u s).fw = s.fw ∧ (setUse p u s).log = s.log ∧ (setUse p u s).bmu = s.bmu ∧
    (setUse p u s).mirror = s.mirror ∧ (setUse p u s).pending = s.pending := by
  unfold setUse; (try dsimp only); (repeat' split) <;> simp

theorem startReserve_frame (s : State) :
    (startReserve s).now = s.now ∧ (startReserve s).frame = s.frame ∧ (startReserve s).free = s.free ∧ (startReserve s).broker = s.broker ∧
    (startReserve s).valves = s.valves ∧ (startReserve s).senses = s.senses ∧ (startReserve s).pulses = s.pulses ∧
    (startReserve s).analogs = s.analogs ∧ (startReserve s).auxs = s.auxs ∧ (startReserve s).cards = s.cards ∧
    (startReserve s).service = s.service ∧ (startReserve s).seqr = s.seqr ∧ (startReserve s).dies = s.dies ∧
    (startReserve s).clusters = s.clusters ∧ (startReserve s).integ = s.integ ∧ (startReserve s).copies = s.copies ∧
    (startReserve s).pair = s.pair ∧ (startReserve s).links = s.links ∧ (startReserve s).hall = s.hall ∧ (startReserve s).buses = s.buses ∧
    (startReserve s).frameLog = s.frameLog ∧ (startReserve s).power = s.power ∧ (startReserve s).ptp = s.ptp ∧
    (startReserve s).fans = s.fans ∧ (startReserve s).upds = s.upds ∧ (startReserve s).fw = s.fw ∧ (startReserve s).bmu = s.bmu ∧
    (startReserve s).mirror = s.mirror ∧ (startReserve s).pending = s.pending := by
  have e1 := @setUse_frame
  have e2 := @pumpSpeed_frame
  unfold startReserve; (try dsimp only); (repeat' split) <;> simp [e1, e2]

theorem pumpTripped_frame (p : Nat) (s : State) :
    (pumpTripped p s).now = s.now ∧ (pumpTripped p s).frame = s.frame ∧ (pumpTripped p s).free = s.free ∧
    (pumpTripped p s).broker = s.broker ∧ (pumpTripped p s).valves = s.valves ∧ (pumpTripped p s).senses = s.senses ∧
    (pumpTripped p s).pulses = s.pulses ∧ (pumpTripped p s).analogs = s.analogs ∧ (pumpTripped p s).auxs = s.auxs ∧
    (pumpTripped p s).cards = s.cards ∧ (pumpTripped p s).service = s.service ∧ (pumpTripped p s).seqr = s.seqr ∧
    (pumpTripped p s).dies = s.dies ∧ (pumpTripped p s).clusters = s.clusters ∧ (pumpTripped p s).integ = s.integ ∧
    (pumpTripped p s).copies = s.copies ∧ (pumpTripped p s).pair = s.pair ∧ (pumpTripped p s).links = s.links ∧
    (pumpTripped p s).hall = s.hall ∧ (pumpTripped p s).buses = s.buses ∧ (pumpTripped p s).frameLog = s.frameLog ∧
    (pumpTripped p s).power = s.power ∧ (pumpTripped p s).ptp = s.ptp ∧ (pumpTripped p s).fans = s.fans ∧ (pumpTripped p s).upds = s.upds ∧
    (pumpTripped p s).fw = s.fw ∧ (pumpTripped p s).bmu = s.bmu ∧ (pumpTripped p s).mirror = s.mirror ∧
    (pumpTripped p s).pending = s.pending := by
  have e1 := @startReserve_frame
  unfold pumpTripped; (try dsimp only); (repeat' split) <;> simp [e1]

theorem overrideIf_frame (l : Nat) (old new : Int) (s : State) :
    (overrideIf l old new s).now = s.now ∧ (overrideIf l old new s).frame = s.frame ∧ (overrideIf l old new s).free = s.free ∧
    (overrideIf l old new s).vcp = s.vcp ∧ (overrideIf l old new s).plant = s.plant ∧ (overrideIf l old new s).broker = s.broker ∧
    (overrideIf l old new s).valves = s.valves ∧ (overrideIf l old new s).motors = s.motors ∧ (overrideIf l old new s).senses = s.senses ∧
    (overrideIf l old new s).pulses = s.pulses ∧ (overrideIf l old new s).analogs = s.analogs ∧ (overrideIf l old new s).auxs = s.auxs ∧
    (overrideIf l old new s).cards = s.cards ∧ (overrideIf l old new s).service = s.service ∧ (overrideIf l old new s).seqr = s.seqr ∧
    (overrideIf l old new s).dies = s.dies ∧ (overrideIf l old new s).clusters = s.clusters ∧ (overrideIf l old new s).integ = s.integ ∧
    (overrideIf l old new s).copies = s.copies ∧ (overrideIf l old new s).pair = s.pair ∧ (overrideIf l old new s).links = s.links ∧
    (overrideIf l old new s).hall = s.hall ∧ (overrideIf l old new s).buses = s.buses ∧ (overrideIf l old new s).frameLog = s.frameLog ∧
    (overrideIf l old new s).power = s.power ∧ (overrideIf l old new s).ptp = s.ptp ∧ (overrideIf l old new s).fans = s.fans ∧
    (overrideIf l old new s).upds = s.upds ∧ (overrideIf l old new s).fw = s.fw ∧ (overrideIf l old new s).bmu = s.bmu ∧
    (overrideIf l old new s).mirror = s.mirror ∧ (overrideIf l old new s).pending = s.pending := by
  unfold overrideIf; (try dsimp only); (repeat' split) <;> simp

theorem dropActed_frame (u : Nat) (acted : Option Nat) (old new : Int) (s : State) :
    (dropActed u acted old new s).now = s.now ∧ (dropActed u acted old new s).frame = s.frame ∧
    (dropActed u acted old new s).free = s.free ∧ (dropActed u acted old new s).vcp = s.vcp ∧
    (dropActed u acted old new s).plant = s.plant ∧ (dropActed u acted old new s).broker = s.broker ∧
    (dropActed u acted old new s).valves = s.valves ∧ (dropActed u acted old new s).motors = s.motors ∧
    (dropActed u acted old new s).senses = s.senses ∧ (dropActed u acted old new s).pulses = s.pulses ∧
    (dropActed u acted old new s).analogs = s.analogs ∧ (dropActed u acted old new s).auxs = s.auxs ∧
    (dropActed u acted old new s).cards = s.cards ∧ (dropActed u acted old new s).service = s.service ∧
    (dropActed u acted old new s).seqr = s.seqr ∧ (dropActed u acted old new s).dies = s.dies ∧
    (dropActed u acted old new s).clusters = s.clusters ∧ (dropActed u acted old new s).integ = s.integ ∧
    (dropActed u acted old new s).copies = s.copies ∧ (dropActed u acted old new s).pair = s.pair ∧
    (dropActed u acted old new s).links = s.links ∧ (dropActed u acted old new s).hall = s.hall ∧
    (dropActed u acted old new s).buses = s.buses ∧ (dropActed u acted old new s).frameLog = s.frameLog ∧
    (dropActed u acted old new s).power = s.power ∧ (dropActed u acted old new s).ptp = s.ptp ∧
    (dropActed u acted old new s).fans = s.fans ∧ (dropActed u acted old new s).upds = s.upds ∧ (dropActed u acted old new s).fw = s.fw ∧
    (dropActed u acted old new s).bmu = s.bmu ∧ (dropActed u acted old new s).mirror = s.mirror ∧
    (dropActed u acted old new s).pending = s.pending := by
  unfold dropActed; (try dsimp only); (repeat' split) <;> simp

theorem reflexOut_frame (l : Nat) (new : Int) (s : State) :
    (reflexOut l new s).now = s.now ∧ (reflexOut l new s).frame = s.frame ∧ (reflexOut l new s).free = s.free ∧
    (reflexOut l new s).broker = s.broker ∧ (reflexOut l new s).valves = s.valves ∧ (reflexOut l new s).senses = s.senses ∧
    (reflexOut l new s).pulses = s.pulses ∧ (reflexOut l new s).analogs = s.analogs ∧ (reflexOut l new s).auxs = s.auxs ∧
    (reflexOut l new s).cards = s.cards ∧ (reflexOut l new s).service = s.service ∧ (reflexOut l new s).seqr = s.seqr ∧
    (reflexOut l new s).dies = s.dies ∧ (reflexOut l new s).clusters = s.clusters ∧ (reflexOut l new s).integ = s.integ ∧
    (reflexOut l new s).copies = s.copies ∧ (reflexOut l new s).pair = s.pair ∧ (reflexOut l new s).links = s.links ∧
    (reflexOut l new s).hall = s.hall ∧ (reflexOut l new s).buses = s.buses ∧ (reflexOut l new s).frameLog = s.frameLog ∧
    (reflexOut l new s).power = s.power ∧ (reflexOut l new s).ptp = s.ptp ∧ (reflexOut l new s).fans = s.fans ∧
    (reflexOut l new s).upds = s.upds ∧ (reflexOut l new s).fw = s.fw ∧ (reflexOut l new s).bmu = s.bmu ∧
    (reflexOut l new s).mirror = s.mirror ∧ (reflexOut l new s).pending = s.pending := by
  have e1 := @dropActed_frame
  have e2 := @overrideIf_frame
  have e3 := @pushDuty_frame
  unfold reflexOut; (try dsimp only); (repeat' split) <;> simp [e1, e2, e3]

theorem holdLoop_frame (l : Nat) (row : ReflexRow) (s : State) :
    (holdLoop l row s).now = s.now ∧ (holdLoop l row s).frame = s.frame ∧ (holdLoop l row s).free = s.free ∧
    (holdLoop l row s).regs = s.regs ∧ (holdLoop l row s).outbox = s.outbox ∧ (holdLoop l row s).vcp = s.vcp ∧
    (holdLoop l row s).broker = s.broker ∧ (holdLoop l row s).valves = s.valves ∧ (holdLoop l row s).motors = s.motors ∧
    (holdLoop l row s).senses = s.senses ∧ (holdLoop l row s).pulses = s.pulses ∧ (holdLoop l row s).analogs = s.analogs ∧
    (holdLoop l row s).auxs = s.auxs ∧ (holdLoop l row s).cards = s.cards ∧ (holdLoop l row s).service = s.service ∧
    (holdLoop l row s).seqr = s.seqr ∧ (holdLoop l row s).dies = s.dies ∧ (holdLoop l row s).clusters = s.clusters ∧
    (holdLoop l row s).integ = s.integ ∧ (holdLoop l row s).copies = s.copies ∧ (holdLoop l row s).pair = s.pair ∧
    (holdLoop l row s).links = s.links ∧ (holdLoop l row s).hall = s.hall ∧ (holdLoop l row s).buses = s.buses ∧
    (holdLoop l row s).frameLog = s.frameLog ∧ (holdLoop l row s).power = s.power ∧ (holdLoop l row s).ptp = s.ptp ∧
    (holdLoop l row s).fans = s.fans ∧ (holdLoop l row s).upds = s.upds ∧ (holdLoop l row s).fw = s.fw ∧ (holdLoop l row s).log = s.log ∧
    (holdLoop l row s).bmu = s.bmu ∧ (holdLoop l row s).mirror = s.mirror ∧ (holdLoop l row s).pending = s.pending := by
  unfold holdLoop; (try dsimp only); (repeat' split) <;> simp

theorem releaseLoops_frame (row : ReflexRow) (s : State) :
    (releaseLoops row s).now = s.now ∧ (releaseLoops row s).frame = s.frame ∧ (releaseLoops row s).free = s.free ∧
    (releaseLoops row s).regs = s.regs ∧ (releaseLoops row s).outbox = s.outbox ∧ (releaseLoops row s).vcp = s.vcp ∧
    (releaseLoops row s).broker = s.broker ∧ (releaseLoops row s).valves = s.valves ∧ (releaseLoops row s).motors = s.motors ∧
    (releaseLoops row s).senses = s.senses ∧ (releaseLoops row s).pulses = s.pulses ∧ (releaseLoops row s).analogs = s.analogs ∧
    (releaseLoops row s).auxs = s.auxs ∧ (releaseLoops row s).cards = s.cards ∧ (releaseLoops row s).service = s.service ∧
    (releaseLoops row s).seqr = s.seqr ∧ (releaseLoops row s).dies = s.dies ∧ (releaseLoops row s).clusters = s.clusters ∧
    (releaseLoops row s).integ = s.integ ∧ (releaseLoops row s).copies = s.copies ∧ (releaseLoops row s).pair = s.pair ∧
    (releaseLoops row s).links = s.links ∧ (releaseLoops row s).hall = s.hall ∧ (releaseLoops row s).buses = s.buses ∧
    (releaseLoops row s).frameLog = s.frameLog ∧ (releaseLoops row s).power = s.power ∧ (releaseLoops row s).ptp = s.ptp ∧
    (releaseLoops row s).fans = s.fans ∧ (releaseLoops row s).upds = s.upds ∧ (releaseLoops row s).fw = s.fw ∧
    (releaseLoops row s).log = s.log ∧ (releaseLoops row s).bmu = s.bmu ∧ (releaseLoops row s).mirror = s.mirror ∧
    (releaseLoops row s).pending = s.pending := by
  unfold releaseLoops; (try dsimp only); (repeat' split) <;> simp

theorem cutSpeed_frame (s : State) :
    (cutSpeed s).now = s.now ∧ (cutSpeed s).frame = s.frame ∧ (cutSpeed s).free = s.free ∧ (cutSpeed s).broker = s.broker ∧
    (cutSpeed s).valves = s.valves ∧ (cutSpeed s).senses = s.senses ∧ (cutSpeed s).pulses = s.pulses ∧ (cutSpeed s).analogs = s.analogs ∧
    (cutSpeed s).auxs = s.auxs ∧ (cutSpeed s).cards = s.cards ∧ (cutSpeed s).service = s.service ∧ (cutSpeed s).seqr = s.seqr ∧
    (cutSpeed s).dies = s.dies ∧ (cutSpeed s).clusters = s.clusters ∧ (cutSpeed s).integ = s.integ ∧ (cutSpeed s).copies = s.copies ∧
    (cutSpeed s).pair = s.pair ∧ (cutSpeed s).links = s.links ∧ (cutSpeed s).hall = s.hall ∧ (cutSpeed s).buses = s.buses ∧
    (cutSpeed s).frameLog = s.frameLog ∧ (cutSpeed s).power = s.power ∧ (cutSpeed s).ptp = s.ptp ∧ (cutSpeed s).fans = s.fans ∧
    (cutSpeed s).upds = s.upds ∧ (cutSpeed s).fw = s.fw ∧ (cutSpeed s).bmu = s.bmu ∧ (cutSpeed s).mirror = s.mirror ∧
    (cutSpeed s).pending = s.pending := by
  have e1 := @reflexOut_frame
  unfold cutSpeed; (try dsimp only); (repeat' split) <;> simp [e1]

theorem rackOpen_frame (r : Nat) (s : State) :
    (rackOpen r s).now = s.now ∧ (rackOpen r s).frame = s.frame ∧ (rackOpen r s).free = s.free ∧ (rackOpen r s).vcp = s.vcp ∧
    (rackOpen r s).plant = s.plant ∧ (rackOpen r s).valves = s.valves ∧ (rackOpen r s).motors = s.motors ∧
    (rackOpen r s).senses = s.senses ∧ (rackOpen r s).pulses = s.pulses ∧ (rackOpen r s).analogs = s.analogs ∧
    (rackOpen r s).auxs = s.auxs ∧ (rackOpen r s).cards = s.cards ∧ (rackOpen r s).service = s.service ∧ (rackOpen r s).seqr = s.seqr ∧
    (rackOpen r s).dies = s.dies ∧ (rackOpen r s).clusters = s.clusters ∧ (rackOpen r s).integ = s.integ ∧
    (rackOpen r s).copies = s.copies ∧ (rackOpen r s).pair = s.pair ∧ (rackOpen r s).links = s.links ∧ (rackOpen r s).hall = s.hall ∧
    (rackOpen r s).buses = s.buses ∧ (rackOpen r s).frameLog = s.frameLog ∧ (rackOpen r s).power = s.power ∧ (rackOpen r s).ptp = s.ptp ∧
    (rackOpen r s).fans = s.fans ∧ (rackOpen r s).upds = s.upds ∧ (rackOpen r s).fw = s.fw ∧ (rackOpen r s).bmu = s.bmu ∧
    (rackOpen r s).mirror = s.mirror ∧ (rackOpen r s).pending = s.pending := by
  have e1 := @overrideIf_frame
  have e2 := @dropActed_frame
  unfold rackOpen; (try dsimp only); (repeat' split) <;> simp [e1, e2]

theorem rackLetGo_frame (r : Nat) (s : State) :
    (rackLetGo r s).now = s.now ∧ (rackLetGo r s).frame = s.frame ∧ (rackLetGo r s).free = s.free ∧ (rackLetGo r s).regs = s.regs ∧
    (rackLetGo r s).outbox = s.outbox ∧ (rackLetGo r s).vcp = s.vcp ∧ (rackLetGo r s).plant = s.plant ∧ (rackLetGo r s).valves = s.valves ∧
    (rackLetGo r s).motors = s.motors ∧ (rackLetGo r s).senses = s.senses ∧ (rackLetGo r s).pulses = s.pulses ∧
    (rackLetGo r s).analogs = s.analogs ∧ (rackLetGo r s).auxs = s.auxs ∧ (rackLetGo r s).cards = s.cards ∧
    (rackLetGo r s).service = s.service ∧ (rackLetGo r s).seqr = s.seqr ∧ (rackLetGo r s).dies = s.dies ∧
    (rackLetGo r s).clusters = s.clusters ∧ (rackLetGo r s).integ = s.integ ∧ (rackLetGo r s).copies = s.copies ∧
    (rackLetGo r s).pair = s.pair ∧ (rackLetGo r s).links = s.links ∧ (rackLetGo r s).hall = s.hall ∧ (rackLetGo r s).buses = s.buses ∧
    (rackLetGo r s).frameLog = s.frameLog ∧ (rackLetGo r s).power = s.power ∧ (rackLetGo r s).ptp = s.ptp ∧ (rackLetGo r s).fans = s.fans ∧
    (rackLetGo r s).upds = s.upds ∧ (rackLetGo r s).fw = s.fw ∧ (rackLetGo r s).log = s.log ∧ (rackLetGo r s).bmu = s.bmu ∧
    (rackLetGo r s).mirror = s.mirror ∧ (rackLetGo r s).pending = s.pending := by
  unfold rackLetGo; (try dsimp only); (repeat' split) <;> simp

theorem cutCaps_frame (s : State) :
    (cutCaps s).now = s.now ∧ (cutCaps s).frame = s.frame ∧ (cutCaps s).vcp = s.vcp ∧ (cutCaps s).plant = s.plant ∧
    (cutCaps s).valves = s.valves ∧ (cutCaps s).motors = s.motors ∧ (cutCaps s).senses = s.senses ∧ (cutCaps s).pulses = s.pulses ∧
    (cutCaps s).analogs = s.analogs ∧ (cutCaps s).auxs = s.auxs ∧ (cutCaps s).cards = s.cards ∧ (cutCaps s).service = s.service ∧
    (cutCaps s).seqr = s.seqr ∧ (cutCaps s).dies = s.dies ∧ (cutCaps s).clusters = s.clusters ∧ (cutCaps s).integ = s.integ ∧
    (cutCaps s).copies = s.copies ∧ (cutCaps s).pair = s.pair ∧ (cutCaps s).links = s.links ∧ (cutCaps s).hall = s.hall ∧
    (cutCaps s).buses = s.buses ∧ (cutCaps s).frameLog = s.frameLog ∧ (cutCaps s).power = s.power ∧ (cutCaps s).ptp = s.ptp ∧
    (cutCaps s).fans = s.fans ∧ (cutCaps s).upds = s.upds ∧ (cutCaps s).fw = s.fw ∧ (cutCaps s).bmu = s.bmu ∧
    (cutCaps s).mirror = s.mirror ∧ (cutCaps s).pending = s.pending := by
  have e1 := @lowerCap_frame
  unfold cutCaps; (try dsimp only); (repeat' split) <;> simp [e1]

theorem timeRows_frame (s : State) :
    (timeRows s).now = s.now ∧ (timeRows s).frame = s.frame ∧ (timeRows s).free = s.free ∧ (timeRows s).regs = s.regs ∧
    (timeRows s).outbox = s.outbox ∧ (timeRows s).vcp = s.vcp ∧ (timeRows s).broker = s.broker ∧ (timeRows s).valves = s.valves ∧
    (timeRows s).motors = s.motors ∧ (timeRows s).senses = s.senses ∧ (timeRows s).pulses = s.pulses ∧ (timeRows s).analogs = s.analogs ∧
    (timeRows s).auxs = s.auxs ∧ (timeRows s).cards = s.cards ∧ (timeRows s).service = s.service ∧ (timeRows s).seqr = s.seqr ∧
    (timeRows s).dies = s.dies ∧ (timeRows s).clusters = s.clusters ∧ (timeRows s).integ = s.integ ∧ (timeRows s).copies = s.copies ∧
    (timeRows s).pair = s.pair ∧ (timeRows s).links = s.links ∧ (timeRows s).hall = s.hall ∧ (timeRows s).buses = s.buses ∧
    (timeRows s).frameLog = s.frameLog ∧ (timeRows s).power = s.power ∧ (timeRows s).ptp = s.ptp ∧ (timeRows s).fans = s.fans ∧
    (timeRows s).upds = s.upds ∧ (timeRows s).fw = s.fw ∧ (timeRows s).log = s.log ∧ (timeRows s).bmu = s.bmu ∧
    (timeRows s).mirror = s.mirror ∧ (timeRows s).pending = s.pending := by
  unfold timeRows; (try dsimp only); (repeat' split) <;> simp

theorem rowAct_frame (row : ReflexRow) (s : State) :
    (rowAct row s).now = s.now ∧ (rowAct row s).frame = s.frame ∧ (rowAct row s).valves = s.valves ∧ (rowAct row s).senses = s.senses ∧
    (rowAct row s).pulses = s.pulses ∧ (rowAct row s).analogs = s.analogs ∧ (rowAct row s).auxs = s.auxs ∧ (rowAct row s).cards = s.cards ∧
    (rowAct row s).service = s.service ∧ (rowAct row s).seqr = s.seqr ∧ (rowAct row s).dies = s.dies ∧
    (rowAct row s).clusters = s.clusters ∧ (rowAct row s).integ = s.integ ∧ (rowAct row s).copies = s.copies ∧
    (rowAct row s).pair = s.pair ∧ (rowAct row s).links = s.links ∧ (rowAct row s).hall = s.hall ∧ (rowAct row s).buses = s.buses ∧
    (rowAct row s).frameLog = s.frameLog ∧ (rowAct row s).power = s.power ∧ (rowAct row s).ptp = s.ptp ∧ (rowAct row s).fans = s.fans ∧
    (rowAct row s).upds = s.upds ∧ (rowAct row s).fw = s.fw ∧ (rowAct row s).bmu = s.bmu ∧ (rowAct row s).mirror = s.mirror ∧
    (rowAct row s).pending = s.pending := by
  have e1 := @cutSpeed_frame
  have e2 := @holdLoop_frame
  have e3 := @floorCaps_frame
  have e4 := @pumpSpeed_frame
  have e5 := @reflexOut_frame
  have e6 := @startReserve_frame
  have e7 := @rackOpen_frame
  have e8 := @cutCaps_frame
  unfold rowAct; (try dsimp only); (repeat' split) <;> simp [e1, e2, e3, e4, e5, e6, e7, e8]

theorem rowStart_frame (row : ReflexRow) (s : State) :
    (rowStart row s).now = s.now ∧ (rowStart row s).frame = s.frame ∧ (rowStart row s).valves = s.valves ∧
    (rowStart row s).senses = s.senses ∧ (rowStart row s).pulses = s.pulses ∧ (rowStart row s).analogs = s.analogs ∧
    (rowStart row s).auxs = s.auxs ∧ (rowStart row s).cards = s.cards ∧ (rowStart row s).service = s.service ∧
    (rowStart row s).seqr = s.seqr ∧ (rowStart row s).dies = s.dies ∧ (rowStart row s).clusters = s.clusters ∧
    (rowStart row s).integ = s.integ ∧ (rowStart row s).copies = s.copies ∧ (rowStart row s).pair = s.pair ∧
    (rowStart row s).links = s.links ∧ (rowStart row s).hall = s.hall ∧ (rowStart row s).buses = s.buses ∧
    (rowStart row s).frameLog = s.frameLog ∧ (rowStart row s).power = s.power ∧ (rowStart row s).ptp = s.ptp ∧
    (rowStart row s).fans = s.fans ∧ (rowStart row s).upds = s.upds ∧ (rowStart row s).fw = s.fw ∧ (rowStart row s).bmu = s.bmu ∧
    (rowStart row s).mirror = s.mirror ∧ (rowStart row s).pending = s.pending := by
  have e1 := @rowAct_frame
  unfold rowStart; (try dsimp only); (repeat' split) <;> simp [e1]

theorem rowEnd_frame (row : ReflexRow) (s : State) :
    (rowEnd row s).now = s.now ∧ (rowEnd row s).frame = s.frame ∧ (rowEnd row s).free = s.free ∧ (rowEnd row s).regs = s.regs ∧
    (rowEnd row s).outbox = s.outbox ∧ (rowEnd row s).vcp = s.vcp ∧ (rowEnd row s).valves = s.valves ∧ (rowEnd row s).motors = s.motors ∧
    (rowEnd row s).senses = s.senses ∧ (rowEnd row s).pulses = s.pulses ∧ (rowEnd row s).analogs = s.analogs ∧
    (rowEnd row s).auxs = s.auxs ∧ (rowEnd row s).cards = s.cards ∧ (rowEnd row s).service = s.service ∧ (rowEnd row s).seqr = s.seqr ∧
    (rowEnd row s).dies = s.dies ∧ (rowEnd row s).clusters = s.clusters ∧ (rowEnd row s).integ = s.integ ∧
    (rowEnd row s).copies = s.copies ∧ (rowEnd row s).pair = s.pair ∧ (rowEnd row s).links = s.links ∧ (rowEnd row s).hall = s.hall ∧
    (rowEnd row s).buses = s.buses ∧ (rowEnd row s).frameLog = s.frameLog ∧ (rowEnd row s).power = s.power ∧ (rowEnd row s).ptp = s.ptp ∧
    (rowEnd row s).fans = s.fans ∧ (rowEnd row s).upds = s.upds ∧ (rowEnd row s).fw = s.fw ∧ (rowEnd row s).log = s.log ∧
    (rowEnd row s).bmu = s.bmu ∧ (rowEnd row s).mirror = s.mirror ∧ (rowEnd row s).pending = s.pending := by
  have e1 := @releaseLoops_frame
  have e2 := @rackLetGo_frame
  unfold rowEnd; (try dsimp only); (repeat' split) <;> simp [e1, e2]

theorem evalRows_frame (s : State) :
    (evalRows s).now = s.now ∧ (evalRows s).frame = s.frame ∧ (evalRows s).valves = s.valves ∧ (evalRows s).senses = s.senses ∧
    (evalRows s).pulses = s.pulses ∧ (evalRows s).analogs = s.analogs ∧ (evalRows s).auxs = s.auxs ∧ (evalRows s).cards = s.cards ∧
    (evalRows s).service = s.service ∧ (evalRows s).seqr = s.seqr ∧ (evalRows s).dies = s.dies ∧ (evalRows s).clusters = s.clusters ∧
    (evalRows s).integ = s.integ ∧ (evalRows s).copies = s.copies ∧ (evalRows s).pair = s.pair ∧ (evalRows s).links = s.links ∧
    (evalRows s).hall = s.hall ∧ (evalRows s).buses = s.buses ∧ (evalRows s).frameLog = s.frameLog ∧ (evalRows s).power = s.power ∧
    (evalRows s).ptp = s.ptp ∧ (evalRows s).fans = s.fans ∧ (evalRows s).upds = s.upds ∧ (evalRows s).fw = s.fw ∧ (evalRows s).bmu = s.bmu ∧
    (evalRows s).mirror = s.mirror ∧ (evalRows s).pending = s.pending := by
  have e1 := @timeRows_frame
  have e2 := @rowStart_frame
  unfold evalRows; (try dsimp only); (repeat' split) <;> simp [e1, e2]

theorem clearRackRows_frame (r : Nat) (s : State) :
    (clearRackRows r s).now = s.now ∧ (clearRackRows r s).frame = s.frame ∧ (clearRackRows r s).free = s.free ∧
    (clearRackRows r s).regs = s.regs ∧ (clearRackRows r s).outbox = s.outbox ∧ (clearRackRows r s).vcp = s.vcp ∧
    (clearRackRows r s).valves = s.valves ∧ (clearRackRows r s).motors = s.motors ∧ (clearRackRows r s).senses = s.senses ∧
    (clearRackRows r s).pulses = s.pulses ∧ (clearRackRows r s).analogs = s.analogs ∧ (clearRackRows r s).auxs = s.auxs ∧
    (clearRackRows r s).cards = s.cards ∧ (clearRackRows r s).service = s.service ∧ (clearRackRows r s).seqr = s.seqr ∧
    (clearRackRows r s).dies = s.dies ∧ (clearRackRows r s).clusters = s.clusters ∧ (clearRackRows r s).integ = s.integ ∧
    (clearRackRows r s).copies = s.copies ∧ (clearRackRows r s).pair = s.pair ∧ (clearRackRows r s).links = s.links ∧
    (clearRackRows r s).hall = s.hall ∧ (clearRackRows r s).buses = s.buses ∧ (clearRackRows r s).frameLog = s.frameLog ∧
    (clearRackRows r s).power = s.power ∧ (clearRackRows r s).ptp = s.ptp ∧ (clearRackRows r s).fans = s.fans ∧
    (clearRackRows r s).upds = s.upds ∧ (clearRackRows r s).fw = s.fw ∧ (clearRackRows r s).log = s.log ∧ (clearRackRows r s).bmu = s.bmu ∧
    (clearRackRows r s).mirror = s.mirror ∧ (clearRackRows r s).pending = s.pending := by
  have e1 := @rowEnd_frame
  unfold clearRackRows; (try dsimp only); (repeat' split) <;> simp [e1]

theorem rackTarget_frame (r : Nat) (s : State) :
    (rackTarget r s).now = s.now ∧ (rackTarget r s).frame = s.frame ∧ (rackTarget r s).free = s.free ∧ (rackTarget r s).regs = s.regs ∧
    (rackTarget r s).outbox = s.outbox ∧ (rackTarget r s).vcp = s.vcp ∧ (rackTarget r s).plant = s.plant ∧
    (rackTarget r s).valves = s.valves ∧ (rackTarget r s).motors = s.motors ∧ (rackTarget r s).senses = s.senses ∧
    (rackTarget r s).pulses = s.pulses ∧ (rackTarget r s).analogs = s.analogs ∧ (rackTarget r s).auxs = s.auxs ∧
    (rackTarget r s).cards = s.cards ∧ (rackTarget r s).service = s.service ∧ (rackTarget r s).seqr = s.seqr ∧
    (rackTarget r s).dies = s.dies ∧ (rackTarget r s).clusters = s.clusters ∧ (rackTarget r s).integ = s.integ ∧
    (rackTarget r s).copies = s.copies ∧ (rackTarget r s).pair = s.pair ∧ (rackTarget r s).links = s.links ∧
    (rackTarget r s).hall = s.hall ∧ (rackTarget r s).buses = s.buses ∧ (rackTarget r s).frameLog = s.frameLog ∧
    (rackTarget r s).power = s.power ∧ (rackTarget r s).ptp = s.ptp ∧ (rackTarget r s).fans = s.fans ∧ (rackTarget r s).upds = s.upds ∧
    (rackTarget r s).fw = s.fw ∧ (rackTarget r s).log = s.log ∧ (rackTarget r s).bmu = s.bmu ∧ (rackTarget r s).mirror = s.mirror ∧
    (rackTarget r s).pending = s.pending := by
  unfold rackTarget; (try dsimp only); (repeat' split) <;> simp

theorem removeProv_frame (raId : BitVec 32) (notify : Bool) (s : State) :
    (removeProv raId notify s).now = s.now ∧ (removeProv raId notify s).frame = s.frame ∧ (removeProv raId notify s).vcp = s.vcp ∧
    (removeProv raId notify s).plant = s.plant ∧ (removeProv raId notify s).valves = s.valves ∧
    (removeProv raId notify s).motors = s.motors ∧ (removeProv raId notify s).senses = s.senses ∧
    (removeProv raId notify s).pulses = s.pulses ∧ (removeProv raId notify s).analogs = s.analogs ∧
    (removeProv raId notify s).auxs = s.auxs ∧ (removeProv raId notify s).cards = s.cards ∧ (removeProv raId notify s).service = s.service ∧
    (removeProv raId notify s).seqr = s.seqr ∧ (removeProv raId notify s).dies = s.dies ∧ (removeProv raId notify s).clusters = s.clusters ∧
    (removeProv raId notify s).integ = s.integ ∧ (removeProv raId notify s).copies = s.copies ∧ (removeProv raId notify s).pair = s.pair ∧
    (removeProv raId notify s).links = s.links ∧ (removeProv raId notify s).hall = s.hall ∧ (removeProv raId notify s).buses = s.buses ∧
    (removeProv raId notify s).frameLog = s.frameLog ∧ (removeProv raId notify s).power = s.power ∧ (removeProv raId notify s).ptp = s.ptp ∧
    (removeProv raId notify s).fans = s.fans ∧ (removeProv raId notify s).upds = s.upds ∧ (removeProv raId notify s).fw = s.fw ∧
    (removeProv raId notify s).bmu = s.bmu ∧ (removeProv raId notify s).mirror = s.mirror ∧
    (removeProv raId notify s).pending = s.pending := by
  have e1 := @rackTarget_frame
  have e2 := @sendGrant_frame
  unfold removeProv; (try dsimp only); (repeat' split) <;> simp [e1, e2]

theorem revokeRa_frame (raId : BitVec 32) (notify : Bool) (s : State) :
    (revokeRa raId notify s).now = s.now ∧ (revokeRa raId notify s).frame = s.frame ∧ (revokeRa raId notify s).vcp = s.vcp ∧
    (revokeRa raId notify s).plant = s.plant ∧ (revokeRa raId notify s).valves = s.valves ∧ (revokeRa raId notify s).motors = s.motors ∧
    (revokeRa raId notify s).senses = s.senses ∧ (revokeRa raId notify s).pulses = s.pulses ∧ (revokeRa raId notify s).analogs = s.analogs ∧
    (revokeRa raId notify s).auxs = s.auxs ∧ (revokeRa raId notify s).cards = s.cards ∧ (revokeRa raId notify s).service = s.service ∧
    (revokeRa raId notify s).seqr = s.seqr ∧ (revokeRa raId notify s).dies = s.dies ∧ (revokeRa raId notify s).clusters = s.clusters ∧
    (revokeRa raId notify s).integ = s.integ ∧ (revokeRa raId notify s).copies = s.copies ∧ (revokeRa raId notify s).pair = s.pair ∧
    (revokeRa raId notify s).links = s.links ∧ (revokeRa raId notify s).hall = s.hall ∧ (revokeRa raId notify s).buses = s.buses ∧
    (revokeRa raId notify s).frameLog = s.frameLog ∧ (revokeRa raId notify s).power = s.power ∧ (revokeRa raId notify s).ptp = s.ptp ∧
    (revokeRa raId notify s).fans = s.fans ∧ (revokeRa raId notify s).upds = s.upds ∧ (revokeRa raId notify s).fw = s.fw ∧
    (revokeRa raId notify s).bmu = s.bmu ∧ (revokeRa raId notify s).mirror = s.mirror ∧ (revokeRa raId notify s).pending = s.pending := by
  have e1 := @removeProv_frame
  unfold revokeRa; (try dsimp only); (repeat' split) <;> simp [e1]

theorem revokeAll_frame (s : State) :
    (revokeAll s).now = s.now ∧ (revokeAll s).frame = s.frame ∧ (revokeAll s).vcp = s.vcp ∧ (revokeAll s).plant = s.plant ∧
    (revokeAll s).valves = s.valves ∧ (revokeAll s).motors = s.motors ∧ (revokeAll s).senses = s.senses ∧ (revokeAll s).pulses = s.pulses ∧
    (revokeAll s).analogs = s.analogs ∧ (revokeAll s).auxs = s.auxs ∧ (revokeAll s).cards = s.cards ∧ (revokeAll s).service = s.service ∧
    (revokeAll s).seqr = s.seqr ∧ (revokeAll s).dies = s.dies ∧ (revokeAll s).clusters = s.clusters ∧ (revokeAll s).integ = s.integ ∧
    (revokeAll s).copies = s.copies ∧ (revokeAll s).pair = s.pair ∧ (revokeAll s).links = s.links ∧ (revokeAll s).hall = s.hall ∧
    (revokeAll s).buses = s.buses ∧ (revokeAll s).frameLog = s.frameLog ∧ (revokeAll s).power = s.power ∧ (revokeAll s).ptp = s.ptp ∧
    (revokeAll s).fans = s.fans ∧ (revokeAll s).upds = s.upds ∧ (revokeAll s).fw = s.fw ∧ (revokeAll s).bmu = s.bmu ∧
    (revokeAll s).mirror = s.mirror ∧ (revokeAll s).pending = s.pending := by
  have e1 := @revokeRa_frame
  unfold revokeAll; (try dsimp only); (repeat' split) <;> simp [e1]

theorem piStart_frame (l : Nat) (s : State) :
    (piStart l s).now = s.now ∧ (piStart l s).frame = s.frame ∧ (piStart l s).free = s.free ∧ (piStart l s).regs = s.regs ∧
    (piStart l s).outbox = s.outbox ∧ (piStart l s).vcp = s.vcp ∧ (piStart l s).broker = s.broker ∧ (piStart l s).valves = s.valves ∧
    (piStart l s).motors = s.motors ∧ (piStart l s).senses = s.senses ∧ (piStart l s).pulses = s.pulses ∧
    (piStart l s).analogs = s.analogs ∧ (piStart l s).auxs = s.auxs ∧ (piStart l s).cards = s.cards ∧ (piStart l s).service = s.service ∧
    (piStart l s).seqr = s.seqr ∧ (piStart l s).dies = s.dies ∧ (piStart l s).clusters = s.clusters ∧ (piStart l s).copies = s.copies ∧
    (piStart l s).pair = s.pair ∧ (piStart l s).links = s.links ∧ (piStart l s).hall = s.hall ∧ (piStart l s).buses = s.buses ∧
    (piStart l s).frameLog = s.frameLog ∧ (piStart l s).power = s.power ∧ (piStart l s).ptp = s.ptp ∧ (piStart l s).fans = s.fans ∧
    (piStart l s).upds = s.upds ∧ (piStart l s).fw = s.fw ∧ (piStart l s).log = s.log ∧ (piStart l s).bmu = s.bmu ∧
    (piStart l s).mirror = s.mirror ∧ (piStart l s).pending = s.pending := by
  unfold piStart; (try dsimp only); (repeat' split) <;> simp

theorem piTick_frame (l : Nat) (s : State) :
    (piTick l s).now = s.now ∧ (piTick l s).frame = s.frame ∧ (piTick l s).free = s.free ∧ (piTick l s).outbox = s.outbox ∧
    (piTick l s).vcp = s.vcp ∧ (piTick l s).broker = s.broker ∧ (piTick l s).valves = s.valves ∧ (piTick l s).motors = s.motors ∧
    (piTick l s).senses = s.senses ∧ (piTick l s).pulses = s.pulses ∧ (piTick l s).analogs = s.analogs ∧ (piTick l s).auxs = s.auxs ∧
    (piTick l s).cards = s.cards ∧ (piTick l s).service = s.service ∧ (piTick l s).seqr = s.seqr ∧ (piTick l s).dies = s.dies ∧
    (piTick l s).clusters = s.clusters ∧ (piTick l s).copies = s.copies ∧ (piTick l s).pair = s.pair ∧ (piTick l s).links = s.links ∧
    (piTick l s).hall = s.hall ∧ (piTick l s).buses = s.buses ∧ (piTick l s).frameLog = s.frameLog ∧ (piTick l s).power = s.power ∧
    (piTick l s).ptp = s.ptp ∧ (piTick l s).fans = s.fans ∧ (piTick l s).upds = s.upds ∧ (piTick l s).fw = s.fw ∧ (piTick l s).log = s.log ∧
    (piTick l s).bmu = s.bmu ∧ (piTick l s).mirror = s.mirror ∧ (piTick l s).pending = s.pending := by
  unfold piTick; (try dsimp only); (repeat' split) <;> simp

theorem restartClean_frame (s : State) :
    (restartClean s).now = s.now ∧ (restartClean s).frame = s.frame ∧ (restartClean s).free = s.free ∧ (restartClean s).regs = s.regs ∧
    (restartClean s).outbox = s.outbox ∧ (restartClean s).vcp = s.vcp ∧ (restartClean s).plant = s.plant ∧
    (restartClean s).broker = s.broker ∧ (restartClean s).valves = s.valves ∧ (restartClean s).motors = s.motors ∧
    (restartClean s).senses = s.senses ∧ (restartClean s).pulses = s.pulses ∧ (restartClean s).analogs = s.analogs ∧
    (restartClean s).auxs = s.auxs ∧ (restartClean s).cards = s.cards ∧ (restartClean s).service = s.service ∧
    (restartClean s).dies = s.dies ∧ (restartClean s).clusters = s.clusters ∧ (restartClean s).integ = s.integ ∧
    (restartClean s).copies = s.copies ∧ (restartClean s).pair = s.pair ∧ (restartClean s).links = s.links ∧
    (restartClean s).hall = s.hall ∧ (restartClean s).buses = s.buses ∧ (restartClean s).frameLog = s.frameLog ∧
    (restartClean s).power = s.power ∧ (restartClean s).ptp = s.ptp ∧ (restartClean s).fans = s.fans ∧ (restartClean s).upds = s.upds ∧
    (restartClean s).fw = s.fw ∧ (restartClean s).log = s.log ∧ (restartClean s).bmu = s.bmu ∧ (restartClean s).mirror = s.mirror ∧
    (restartClean s).pending = s.pending := by
  unfold restartClean; (try dsimp only); (repeat' split) <;> simp

theorem enterFallbackLoops_frame (s : State) :
    (enterFallbackLoops s).now = s.now ∧ (enterFallbackLoops s).frame = s.frame ∧ (enterFallbackLoops s).free = s.free ∧
    (enterFallbackLoops s).regs = s.regs ∧ (enterFallbackLoops s).outbox = s.outbox ∧ (enterFallbackLoops s).vcp = s.vcp ∧
    (enterFallbackLoops s).broker = s.broker ∧ (enterFallbackLoops s).valves = s.valves ∧ (enterFallbackLoops s).motors = s.motors ∧
    (enterFallbackLoops s).senses = s.senses ∧ (enterFallbackLoops s).pulses = s.pulses ∧ (enterFallbackLoops s).analogs = s.analogs ∧
    (enterFallbackLoops s).auxs = s.auxs ∧ (enterFallbackLoops s).cards = s.cards ∧ (enterFallbackLoops s).service = s.service ∧
    (enterFallbackLoops s).dies = s.dies ∧ (enterFallbackLoops s).clusters = s.clusters ∧ (enterFallbackLoops s).copies = s.copies ∧
    (enterFallbackLoops s).pair = s.pair ∧ (enterFallbackLoops s).links = s.links ∧ (enterFallbackLoops s).hall = s.hall ∧
    (enterFallbackLoops s).buses = s.buses ∧ (enterFallbackLoops s).frameLog = s.frameLog ∧ (enterFallbackLoops s).power = s.power ∧
    (enterFallbackLoops s).ptp = s.ptp ∧ (enterFallbackLoops s).fans = s.fans ∧ (enterFallbackLoops s).upds = s.upds ∧
    (enterFallbackLoops s).fw = s.fw ∧ (enterFallbackLoops s).log = s.log ∧ (enterFallbackLoops s).bmu = s.bmu ∧
    (enterFallbackLoops s).mirror = s.mirror ∧ (enterFallbackLoops s).pending = s.pending := by
  have e1 := @restartClean_frame
  have e2 := @piStart_frame
  unfold enterFallbackLoops; (try dsimp only); (repeat' split) <;> simp [e1, e2]

theorem adoptPumps_frame (s : State) :
    (adoptPumps s).now = s.now ∧ (adoptPumps s).frame = s.frame ∧ (adoptPumps s).free = s.free ∧ (adoptPumps s).regs = s.regs ∧
    (adoptPumps s).outbox = s.outbox ∧ (adoptPumps s).vcp = s.vcp ∧ (adoptPumps s).broker = s.broker ∧ (adoptPumps s).valves = s.valves ∧
    (adoptPumps s).motors = s.motors ∧ (adoptPumps s).senses = s.senses ∧ (adoptPumps s).pulses = s.pulses ∧
    (adoptPumps s).analogs = s.analogs ∧ (adoptPumps s).auxs = s.auxs ∧ (adoptPumps s).cards = s.cards ∧
    (adoptPumps s).service = s.service ∧ (adoptPumps s).seqr = s.seqr ∧ (adoptPumps s).dies = s.dies ∧
    (adoptPumps s).clusters = s.clusters ∧ (adoptPumps s).integ = s.integ ∧ (adoptPumps s).copies = s.copies ∧
    (adoptPumps s).pair = s.pair ∧ (adoptPumps s).links = s.links ∧ (adoptPumps s).hall = s.hall ∧ (adoptPumps s).buses = s.buses ∧
    (adoptPumps s).frameLog = s.frameLog ∧ (adoptPumps s).power = s.power ∧ (adoptPumps s).ptp = s.ptp ∧ (adoptPumps s).fans = s.fans ∧
    (adoptPumps s).upds = s.upds ∧ (adoptPumps s).fw = s.fw ∧ (adoptPumps s).log = s.log ∧ (adoptPumps s).bmu = s.bmu ∧
    (adoptPumps s).mirror = s.mirror ∧ (adoptPumps s).pending = s.pending := by
  have e1 := @setUse_frame
  unfold adoptPumps; (try dsimp only); (repeat' split) <;> simp [e1]

theorem takePumps_frame (s : State) :
    (takePumps s).now = s.now ∧ (takePumps s).frame = s.frame ∧ (takePumps s).free = s.free ∧ (takePumps s).broker = s.broker ∧
    (takePumps s).valves = s.valves ∧ (takePumps s).senses = s.senses ∧ (takePumps s).pulses = s.pulses ∧
    (takePumps s).analogs = s.analogs ∧ (takePumps s).auxs = s.auxs ∧ (takePumps s).cards = s.cards ∧ (takePumps s).service = s.service ∧
    (takePumps s).seqr = s.seqr ∧ (takePumps s).dies = s.dies ∧ (takePumps s).clusters = s.clusters ∧ (takePumps s).integ = s.integ ∧
    (takePumps s).copies = s.copies ∧ (takePumps s).pair = s.pair ∧ (takePumps s).links = s.links ∧ (takePumps s).hall = s.hall ∧
    (takePumps s).buses = s.buses ∧ (takePumps s).frameLog = s.frameLog ∧ (takePumps s).power = s.power ∧ (takePumps s).ptp = s.ptp ∧
    (takePumps s).fans = s.fans ∧ (takePumps s).upds = s.upds ∧ (takePumps s).fw = s.fw ∧ (takePumps s).bmu = s.bmu ∧
    (takePumps s).mirror = s.mirror ∧ (takePumps s).pending = s.pending := by
  have e1 := @preemptMotor_frame
  have e2 := @adoptPumps_frame
  unfold takePumps; (try dsimp only); (repeat' split) <;> simp [e1, e2]

theorem clearManual_frame (ls : List Nat) (s : State) :
    (clearManual ls s).now = s.now ∧ (clearManual ls s).frame = s.frame ∧ (clearManual ls s).free = s.free ∧
    (clearManual ls s).regs = s.regs ∧ (clearManual ls s).outbox = s.outbox ∧ (clearManual ls s).vcp = s.vcp ∧
    (clearManual ls s).broker = s.broker ∧ (clearManual ls s).valves = s.valves ∧ (clearManual ls s).motors = s.motors ∧
    (clearManual ls s).senses = s.senses ∧ (clearManual ls s).pulses = s.pulses ∧ (clearManual ls s).analogs = s.analogs ∧
    (clearManual ls s).auxs = s.auxs ∧ (clearManual ls s).cards = s.cards ∧ (clearManual ls s).service = s.service ∧
    (clearManual ls s).seqr = s.seqr ∧ (clearManual ls s).dies = s.dies ∧ (clearManual ls s).clusters = s.clusters ∧
    (clearManual ls s).integ = s.integ ∧ (clearManual ls s).copies = s.copies ∧ (clearManual ls s).pair = s.pair ∧
    (clearManual ls s).links = s.links ∧ (clearManual ls s).hall = s.hall ∧ (clearManual ls s).buses = s.buses ∧
    (clearManual ls s).frameLog = s.frameLog ∧ (clearManual ls s).power = s.power ∧ (clearManual ls s).ptp = s.ptp ∧
    (clearManual ls s).fans = s.fans ∧ (clearManual ls s).upds = s.upds ∧ (clearManual ls s).fw = s.fw ∧ (clearManual ls s).log = s.log ∧
    (clearManual ls s).bmu = s.bmu ∧ (clearManual ls s).mirror = s.mirror ∧ (clearManual ls s).pending = s.pending := by
  unfold clearManual; (try dsimp only); (repeat' split) <;> simp

theorem holdOutputs_frame (s : State) :
    (holdOutputs s).now = s.now ∧ (holdOutputs s).frame = s.frame ∧ (holdOutputs s).free = s.free ∧ (holdOutputs s).regs = s.regs ∧
    (holdOutputs s).outbox = s.outbox ∧ (holdOutputs s).vcp = s.vcp ∧ (holdOutputs s).valves = s.valves ∧
    (holdOutputs s).motors = s.motors ∧ (holdOutputs s).senses = s.senses ∧ (holdOutputs s).pulses = s.pulses ∧
    (holdOutputs s).analogs = s.analogs ∧ (holdOutputs s).auxs = s.auxs ∧ (holdOutputs s).cards = s.cards ∧
    (holdOutputs s).service = s.service ∧ (holdOutputs s).seqr = s.seqr ∧ (holdOutputs s).dies = s.dies ∧
    (holdOutputs s).clusters = s.clusters ∧ (holdOutputs s).integ = s.integ ∧ (holdOutputs s).copies = s.copies ∧
    (holdOutputs s).pair = s.pair ∧ (holdOutputs s).links = s.links ∧ (holdOutputs s).hall = s.hall ∧ (holdOutputs s).buses = s.buses ∧
    (holdOutputs s).frameLog = s.frameLog ∧ (holdOutputs s).power = s.power ∧ (holdOutputs s).ptp = s.ptp ∧ (holdOutputs s).fans = s.fans ∧
    (holdOutputs s).upds = s.upds ∧ (holdOutputs s).fw = s.fw ∧ (holdOutputs s).log = s.log ∧ (holdOutputs s).bmu = s.bmu ∧
    (holdOutputs s).mirror = s.mirror ∧ (holdOutputs s).pending = s.pending := by
  unfold holdOutputs; (try dsimp only); (repeat' split) <;> simp

theorem modeEntry_frame (m : Mode) (fb : Bool) (s : State) :
    (modeEntry m fb s).now = s.now ∧ (modeEntry m fb s).frame = s.frame ∧ (modeEntry m fb s).valves = s.valves ∧
    (modeEntry m fb s).senses = s.senses ∧ (modeEntry m fb s).pulses = s.pulses ∧ (modeEntry m fb s).analogs = s.analogs ∧
    (modeEntry m fb s).auxs = s.auxs ∧ (modeEntry m fb s).cards = s.cards ∧ (modeEntry m fb s).service = s.service ∧
    (modeEntry m fb s).dies = s.dies ∧ (modeEntry m fb s).clusters = s.clusters ∧ (modeEntry m fb s).copies = s.copies ∧
    (modeEntry m fb s).pair = s.pair ∧ (modeEntry m fb s).links = s.links ∧ (modeEntry m fb s).hall = s.hall ∧
    (modeEntry m fb s).buses = s.buses ∧ (modeEntry m fb s).frameLog = s.frameLog ∧ (modeEntry m fb s).power = s.power ∧
    (modeEntry m fb s).ptp = s.ptp ∧ (modeEntry m fb s).fans = s.fans ∧ (modeEntry m fb s).upds = s.upds ∧ (modeEntry m fb s).fw = s.fw ∧
    (modeEntry m fb s).bmu = s.bmu ∧ (modeEntry m fb s).mirror = s.mirror ∧ (modeEntry m fb s).pending = s.pending := by
  have e1 := @floorCaps_frame
  have e2 := @revokeAll_frame
  have e3 := @clearManual_frame
  have e4 := @takePumps_frame
  have e5 := @enterFallbackLoops_frame
  unfold modeEntry; (try dsimp only); (repeat' split) <;> simp [e1, e2, e3, e4, e5]

theorem mirrorMode_frame (s : State) :
    (mirrorMode s).now = s.now ∧ (mirrorMode s).frame = s.frame ∧ (mirrorMode s).free = s.free ∧ (mirrorMode s).regs = s.regs ∧
    (mirrorMode s).vcp = s.vcp ∧ (mirrorMode s).plant = s.plant ∧ (mirrorMode s).broker = s.broker ∧ (mirrorMode s).valves = s.valves ∧
    (mirrorMode s).motors = s.motors ∧ (mirrorMode s).senses = s.senses ∧ (mirrorMode s).pulses = s.pulses ∧
    (mirrorMode s).analogs = s.analogs ∧ (mirrorMode s).auxs = s.auxs ∧ (mirrorMode s).cards = s.cards ∧
    (mirrorMode s).service = s.service ∧ (mirrorMode s).seqr = s.seqr ∧ (mirrorMode s).dies = s.dies ∧
    (mirrorMode s).clusters = s.clusters ∧ (mirrorMode s).integ = s.integ ∧ (mirrorMode s).copies = s.copies ∧
    (mirrorMode s).pair = s.pair ∧ (mirrorMode s).links = s.links ∧ (mirrorMode s).hall = s.hall ∧ (mirrorMode s).buses = s.buses ∧
    (mirrorMode s).frameLog = s.frameLog ∧ (mirrorMode s).power = s.power ∧ (mirrorMode s).ptp = s.ptp ∧ (mirrorMode s).fans = s.fans ∧
    (mirrorMode s).upds = s.upds ∧ (mirrorMode s).fw = s.fw ∧ (mirrorMode s).log = s.log ∧ (mirrorMode s).bmu = s.bmu ∧
    (mirrorMode s).mirror = s.mirror ∧ (mirrorMode s).pending = s.pending := by
  unfold mirrorMode; (try dsimp only); (repeat' split) <;> simp

theorem changeMode_frame (source : Nat) (causeSeq : BitVec 32) (m : Mode) (fb : Bool) (s : State) :
    (changeMode source causeSeq m fb s).now = s.now ∧ (changeMode source causeSeq m fb s).frame = s.frame ∧
    (changeMode source causeSeq m fb s).valves = s.valves ∧ (changeMode source causeSeq m fb s).senses = s.senses ∧
    (changeMode source causeSeq m fb s).pulses = s.pulses ∧ (changeMode source causeSeq m fb s).analogs = s.analogs ∧
    (changeMode source causeSeq m fb s).auxs = s.auxs ∧ (changeMode source causeSeq m fb s).cards = s.cards ∧
    (changeMode source causeSeq m fb s).service = s.service ∧ (changeMode source causeSeq m fb s).dies = s.dies ∧
    (changeMode source causeSeq m fb s).clusters = s.clusters ∧ (changeMode source causeSeq m fb s).copies = s.copies ∧
    (changeMode source causeSeq m fb s).pair = s.pair ∧ (changeMode source causeSeq m fb s).links = s.links ∧
    (changeMode source causeSeq m fb s).hall = s.hall ∧ (changeMode source causeSeq m fb s).buses = s.buses ∧
    (changeMode source causeSeq m fb s).frameLog = s.frameLog ∧ (changeMode source causeSeq m fb s).power = s.power ∧
    (changeMode source causeSeq m fb s).ptp = s.ptp ∧ (changeMode source causeSeq m fb s).fans = s.fans ∧
    (changeMode source causeSeq m fb s).upds = s.upds ∧ (changeMode source causeSeq m fb s).fw = s.fw ∧
    (changeMode source causeSeq m fb s).bmu = s.bmu ∧ (changeMode source causeSeq m fb s).mirror = s.mirror ∧
    (changeMode source causeSeq m fb s).pending = s.pending := by
  have e1 := @modeEntry_frame
  have e2 := @holdOutputs_frame
  have e3 := @mirrorMode_frame
  unfold changeMode; (try dsimp only); (repeat' split) <;> simp [e1, e2, e3]

theorem engineDown_frame (lost : Bool) (s : State) :
    (engineDown lost s).now = s.now ∧ (engineDown lost s).frame = s.frame ∧ (engineDown lost s).free = s.free ∧
    (engineDown lost s).regs = s.regs ∧ (engineDown lost s).outbox = s.outbox ∧ (engineDown lost s).vcp = s.vcp ∧
    (engineDown lost s).broker = s.broker ∧ (engineDown lost s).valves = s.valves ∧ (engineDown lost s).motors = s.motors ∧
    (engineDown lost s).senses = s.senses ∧ (engineDown lost s).pulses = s.pulses ∧ (engineDown lost s).analogs = s.analogs ∧
    (engineDown lost s).auxs = s.auxs ∧ (engineDown lost s).cards = s.cards ∧ (engineDown lost s).service = s.service ∧
    (engineDown lost s).dies = s.dies ∧ (engineDown lost s).clusters = s.clusters ∧ (engineDown lost s).integ = s.integ ∧
    (engineDown lost s).copies = s.copies ∧ (engineDown lost s).pair = s.pair ∧ (engineDown lost s).links = s.links ∧
    (engineDown lost s).hall = s.hall ∧ (engineDown lost s).buses = s.buses ∧ (engineDown lost s).frameLog = s.frameLog ∧
    (engineDown lost s).power = s.power ∧ (engineDown lost s).ptp = s.ptp ∧ (engineDown lost s).fans = s.fans ∧
    (engineDown lost s).upds = s.upds ∧ (engineDown lost s).fw = s.fw ∧ (engineDown lost s).log = s.log ∧ (engineDown lost s).bmu = s.bmu ∧
    (engineDown lost s).mirror = s.mirror ∧ (engineDown lost s).pending = s.pending := by
  unfold engineDown; (try dsimp only); (repeat' split) <;> simp

theorem engineFall_frame (lost : Bool) (s : State) :
    (engineFall lost s).now = s.now ∧ (engineFall lost s).frame = s.frame ∧ (engineFall lost s).valves = s.valves ∧
    (engineFall lost s).senses = s.senses ∧ (engineFall lost s).pulses = s.pulses ∧ (engineFall lost s).analogs = s.analogs ∧
    (engineFall lost s).auxs = s.auxs ∧ (engineFall lost s).cards = s.cards ∧ (engineFall lost s).service = s.service ∧
    (engineFall lost s).dies = s.dies ∧ (engineFall lost s).clusters = s.clusters ∧ (engineFall lost s).copies = s.copies ∧
    (engineFall lost s).pair = s.pair ∧ (engineFall lost s).links = s.links ∧ (engineFall lost s).hall = s.hall ∧
    (engineFall lost s).buses = s.buses ∧ (engineFall lost s).frameLog = s.frameLog ∧ (engineFall lost s).power = s.power ∧
    (engineFall lost s).ptp = s.ptp ∧ (engineFall lost s).fans = s.fans ∧ (engineFall lost s).upds = s.upds ∧
    (engineFall lost s).fw = s.fw ∧ (engineFall lost s).bmu = s.bmu ∧ (engineFall lost s).mirror = s.mirror ∧
    (engineFall lost s).pending = s.pending := by
  have e1 := @changeMode_frame
  have e2 := @mirrorMode_frame
  have e3 := @enterFallbackLoops_frame
  have e4 := @holdOutputs_frame
  unfold engineFall; (try dsimp only); (repeat' split) <;> simp [e1, e2, e3, e4]

theorem returnEngine_frame (s : State) :
    (returnEngine s).now = s.now ∧ (returnEngine s).frame = s.frame ∧ (returnEngine s).valves = s.valves ∧
    (returnEngine s).senses = s.senses ∧ (returnEngine s).pulses = s.pulses ∧ (returnEngine s).analogs = s.analogs ∧
    (returnEngine s).auxs = s.auxs ∧ (returnEngine s).cards = s.cards ∧ (returnEngine s).service = s.service ∧
    (returnEngine s).dies = s.dies ∧ (returnEngine s).clusters = s.clusters ∧ (returnEngine s).copies = s.copies ∧
    (returnEngine s).pair = s.pair ∧ (returnEngine s).links = s.links ∧ (returnEngine s).hall = s.hall ∧ (returnEngine s).buses = s.buses ∧
    (returnEngine s).frameLog = s.frameLog ∧ (returnEngine s).power = s.power ∧ (returnEngine s).ptp = s.ptp ∧
    (returnEngine s).fans = s.fans ∧ (returnEngine s).upds = s.upds ∧ (returnEngine s).fw = s.fw ∧ (returnEngine s).bmu = s.bmu ∧
    (returnEngine s).mirror = s.mirror ∧ (returnEngine s).pending = s.pending := by
  have e1 := @changeMode_frame
  have e2 := @mirrorMode_frame
  have e3 := @clearManual_frame
  unfold returnEngine; (try dsimp only); (repeat' split) <;> simp [e1, e2, e3]

theorem isolateRack_frame (r : Nat) (s : State) :
    (isolateRack r s).now = s.now ∧ (isolateRack r s).frame = s.frame ∧ (isolateRack r s).valves = s.valves ∧
    (isolateRack r s).senses = s.senses ∧ (isolateRack r s).pulses = s.pulses ∧ (isolateRack r s).analogs = s.analogs ∧
    (isolateRack r s).auxs = s.auxs ∧ (isolateRack r s).cards = s.cards ∧ (isolateRack r s).service = s.service ∧
    (isolateRack r s).dies = s.dies ∧ (isolateRack r s).clusters = s.clusters ∧ (isolateRack r s).copies = s.copies ∧
    (isolateRack r s).pair = s.pair ∧ (isolateRack r s).links = s.links ∧ (isolateRack r s).hall = s.hall ∧
    (isolateRack r s).buses = s.buses ∧ (isolateRack r s).frameLog = s.frameLog ∧ (isolateRack r s).power = s.power ∧
    (isolateRack r s).ptp = s.ptp ∧ (isolateRack r s).fans = s.fans ∧ (isolateRack r s).upds = s.upds ∧ (isolateRack r s).fw = s.fw ∧
    (isolateRack r s).bmu = s.bmu ∧ (isolateRack r s).mirror = s.mirror ∧ (isolateRack r s).pending = s.pending := by
  have e1 := @clearRackRows_frame
  have e2 := @changeMode_frame
  have e3 := @mirrorMode_frame
  unfold isolateRack; (try dsimp only); (repeat' split) <;> simp [e1, e2, e3]

theorem unisolateRack_frame (r : Nat) (s : State) :
    (unisolateRack r s).now = s.now ∧ (unisolateRack r s).frame = s.frame ∧ (unisolateRack r s).free = s.free ∧
    (unisolateRack r s).regs = s.regs ∧ (unisolateRack r s).vcp = s.vcp ∧ (unisolateRack r s).broker = s.broker ∧
    (unisolateRack r s).valves = s.valves ∧ (unisolateRack r s).motors = s.motors ∧ (unisolateRack r s).senses = s.senses ∧
    (unisolateRack r s).pulses = s.pulses ∧ (unisolateRack r s).analogs = s.analogs ∧ (unisolateRack r s).auxs = s.auxs ∧
    (unisolateRack r s).cards = s.cards ∧ (unisolateRack r s).service = s.service ∧ (unisolateRack r s).seqr = s.seqr ∧
    (unisolateRack r s).dies = s.dies ∧ (unisolateRack r s).clusters = s.clusters ∧ (unisolateRack r s).integ = s.integ ∧
    (unisolateRack r s).copies = s.copies ∧ (unisolateRack r s).pair = s.pair ∧ (unisolateRack r s).links = s.links ∧
    (unisolateRack r s).hall = s.hall ∧ (unisolateRack r s).buses = s.buses ∧ (unisolateRack r s).frameLog = s.frameLog ∧
    (unisolateRack r s).power = s.power ∧ (unisolateRack r s).ptp = s.ptp ∧ (unisolateRack r s).fans = s.fans ∧
    (unisolateRack r s).upds = s.upds ∧ (unisolateRack r s).fw = s.fw ∧ (unisolateRack r s).log = s.log ∧ (unisolateRack r s).bmu = s.bmu ∧
    (unisolateRack r s).mirror = s.mirror ∧ (unisolateRack r s).pending = s.pending := by
  have e1 := @mirrorMode_frame
  unfold unisolateRack; (try dsimp only); (repeat' split) <;> simp [e1]

theorem leaveIsolate_frame (s : State) :
    (leaveIsolate s).now = s.now ∧ (leaveIsolate s).frame = s.frame ∧ (leaveIsolate s).valves = s.valves ∧
    (leaveIsolate s).senses = s.senses ∧ (leaveIsolate s).pulses = s.pulses ∧ (leaveIsolate s).analogs = s.analogs ∧
    (leaveIsolate s).auxs = s.auxs ∧ (leaveIsolate s).cards = s.cards ∧ (leaveIsolate s).service = s.service ∧
    (leaveIsolate s).dies = s.dies ∧ (leaveIsolate s).clusters = s.clusters ∧ (leaveIsolate s).copies = s.copies ∧
    (leaveIsolate s).pair = s.pair ∧ (leaveIsolate s).links = s.links ∧ (leaveIsolate s).hall = s.hall ∧ (leaveIsolate s).buses = s.buses ∧
    (leaveIsolate s).frameLog = s.frameLog ∧ (leaveIsolate s).power = s.power ∧ (leaveIsolate s).ptp = s.ptp ∧
    (leaveIsolate s).fans = s.fans ∧ (leaveIsolate s).upds = s.upds ∧ (leaveIsolate s).fw = s.fw ∧ (leaveIsolate s).bmu = s.bmu ∧
    (leaveIsolate s).mirror = s.mirror ∧ (leaveIsolate s).pending = s.pending := by
  have e1 := @changeMode_frame
  unfold leaveIsolate; (try dsimp only); (repeat' split) <;> simp [e1]

theorem setStage_frame (r : Nat) (st : LeakStage) (s : State) :
    (setStage r st s).now = s.now ∧ (setStage r st s).frame = s.frame ∧ (setStage r st s).free = s.free ∧
    (setStage r st s).plant = s.plant ∧ (setStage r st s).valves = s.valves ∧ (setStage r st s).motors = s.motors ∧
    (setStage r st s).senses = s.senses ∧ (setStage r st s).pulses = s.pulses ∧ (setStage r st s).analogs = s.analogs ∧
    (setStage r st s).auxs = s.auxs ∧ (setStage r st s).cards = s.cards ∧ (setStage r st s).service = s.service ∧
    (setStage r st s).seqr = s.seqr ∧ (setStage r st s).dies = s.dies ∧ (setStage r st s).clusters = s.clusters ∧
    (setStage r st s).integ = s.integ ∧ (setStage r st s).copies = s.copies ∧ (setStage r st s).pair = s.pair ∧
    (setStage r st s).links = s.links ∧ (setStage r st s).hall = s.hall ∧ (setStage r st s).buses = s.buses ∧
    (setStage r st s).frameLog = s.frameLog ∧ (setStage r st s).power = s.power ∧ (setStage r st s).ptp = s.ptp ∧
    (setStage r st s).fans = s.fans ∧ (setStage r st s).upds = s.upds ∧ (setStage r st s).fw = s.fw ∧ (setStage r st s).bmu = s.bmu ∧
    (setStage r st s).mirror = s.mirror ∧ (setStage r st s).pending = s.pending := by
  have e1 := @mirrorRack_frame
  unfold setStage; (try dsimp only); (repeat' split) <;> simp [e1]

theorem modLeak_frame (r : Nat) (g : LeakRun → LeakRun) (s : State) :
    (modLeak r g s).now = s.now ∧ (modLeak r g s).frame = s.frame ∧ (modLeak r g s).free = s.free ∧ (modLeak r g s).regs = s.regs ∧
    (modLeak r g s).outbox = s.outbox ∧ (modLeak r g s).vcp = s.vcp ∧ (modLeak r g s).plant = s.plant ∧ (modLeak r g s).valves = s.valves ∧
    (modLeak r g s).motors = s.motors ∧ (modLeak r g s).senses = s.senses ∧ (modLeak r g s).pulses = s.pulses ∧
    (modLeak r g s).analogs = s.analogs ∧ (modLeak r g s).auxs = s.auxs ∧ (modLeak r g s).cards = s.cards ∧
    (modLeak r g s).service = s.service ∧ (modLeak r g s).seqr = s.seqr ∧ (modLeak r g s).dies = s.dies ∧
    (modLeak r g s).clusters = s.clusters ∧ (modLeak r g s).integ = s.integ ∧ (modLeak r g s).copies = s.copies ∧
    (modLeak r g s).pair = s.pair ∧ (modLeak r g s).links = s.links ∧ (modLeak r g s).hall = s.hall ∧ (modLeak r g s).buses = s.buses ∧
    (modLeak r g s).frameLog = s.frameLog ∧ (modLeak r g s).power = s.power ∧ (modLeak r g s).ptp = s.ptp ∧ (modLeak r g s).fans = s.fans ∧
    (modLeak r g s).upds = s.upds ∧ (modLeak r g s).fw = s.fw ∧ (modLeak r g s).log = s.log ∧ (modLeak r g s).bmu = s.bmu ∧
    (modLeak r g s).mirror = s.mirror ∧ (modLeak r g s).pending = s.pending := by
  unfold modLeak; (try dsimp only); (repeat' split) <;> simp

theorem escalate_frame (r : Nat) (s : State) :
    (escalate r s).now = s.now ∧ (escalate r s).frame = s.frame ∧ (escalate r s).free = s.free ∧ (escalate r s).plant = s.plant ∧
    (escalate r s).valves = s.valves ∧ (escalate r s).motors = s.motors ∧ (escalate r s).senses = s.senses ∧
    (escalate r s).pulses = s.pulses ∧ (escalate r s).analogs = s.analogs ∧ (escalate r s).auxs = s.auxs ∧ (escalate r s).cards = s.cards ∧
    (escalate r s).service = s.service ∧ (escalate r s).seqr = s.seqr ∧ (escalate r s).dies = s.dies ∧
    (escalate r s).clusters = s.clusters ∧ (escalate r s).integ = s.integ ∧ (escalate r s).copies = s.copies ∧
    (escalate r s).pair = s.pair ∧ (escalate r s).links = s.links ∧ (escalate r s).hall = s.hall ∧ (escalate r s).buses = s.buses ∧
    (escalate r s).frameLog = s.frameLog ∧ (escalate r s).power = s.power ∧ (escalate r s).ptp = s.ptp ∧ (escalate r s).fans = s.fans ∧
    (escalate r s).upds = s.upds ∧ (escalate r s).fw = s.fw ∧ (escalate r s).bmu = s.bmu ∧ (escalate r s).mirror = s.mirror ∧
    (escalate r s).pending = s.pending := by
  have e1 := @modLeak_frame
  have e2 := @setStage_frame
  unfold escalate; (try dsimp only); (repeat' split) <;> simp [e1, e2]

theorem uncontain_frame (r : Nat) (s : State) :
    (uncontain r s).now = s.now ∧ (uncontain r s).frame = s.frame ∧ (uncontain r s).free = s.free ∧ (uncontain r s).plant = s.plant ∧
    (uncontain r s).valves = s.valves ∧ (uncontain r s).motors = s.motors ∧ (uncontain r s).senses = s.senses ∧
    (uncontain r s).pulses = s.pulses ∧ (uncontain r s).analogs = s.analogs ∧ (uncontain r s).auxs = s.auxs ∧
    (uncontain r s).cards = s.cards ∧ (uncontain r s).service = s.service ∧ (uncontain r s).seqr = s.seqr ∧ (uncontain r s).dies = s.dies ∧
    (uncontain r s).clusters = s.clusters ∧ (uncontain r s).integ = s.integ ∧ (uncontain r s).copies = s.copies ∧
    (uncontain r s).pair = s.pair ∧ (uncontain r s).links = s.links ∧ (uncontain r s).hall = s.hall ∧ (uncontain r s).buses = s.buses ∧
    (uncontain r s).frameLog = s.frameLog ∧ (uncontain r s).power = s.power ∧ (uncontain r s).ptp = s.ptp ∧ (uncontain r s).fans = s.fans ∧
    (uncontain r s).upds = s.upds ∧ (uncontain r s).fw = s.fw ∧ (uncontain r s).bmu = s.bmu ∧ (uncontain r s).mirror = s.mirror ∧
    (uncontain r s).pending = s.pending := by
  have e1 := @modLeak_frame
  have e2 := @setStage_frame
  unfold uncontain; (try dsimp only); (repeat' split) <;> simp [e1, e2]

theorem judgeRack_frame (r : Nat) (s : State) :
    (judgeRack r s).now = s.now ∧ (judgeRack r s).frame = s.frame ∧ (judgeRack r s).free = s.free ∧ (judgeRack r s).plant = s.plant ∧
    (judgeRack r s).valves = s.valves ∧ (judgeRack r s).motors = s.motors ∧ (judgeRack r s).senses = s.senses ∧
    (judgeRack r s).pulses = s.pulses ∧ (judgeRack r s).analogs = s.analogs ∧ (judgeRack r s).auxs = s.auxs ∧
    (judgeRack r s).cards = s.cards ∧ (judgeRack r s).service = s.service ∧ (judgeRack r s).seqr = s.seqr ∧ (judgeRack r s).dies = s.dies ∧
    (judgeRack r s).clusters = s.clusters ∧ (judgeRack r s).integ = s.integ ∧ (judgeRack r s).copies = s.copies ∧
    (judgeRack r s).pair = s.pair ∧ (judgeRack r s).links = s.links ∧ (judgeRack r s).hall = s.hall ∧ (judgeRack r s).buses = s.buses ∧
    (judgeRack r s).frameLog = s.frameLog ∧ (judgeRack r s).power = s.power ∧ (judgeRack r s).ptp = s.ptp ∧ (judgeRack r s).fans = s.fans ∧
    (judgeRack r s).upds = s.upds ∧ (judgeRack r s).fw = s.fw ∧ (judgeRack r s).bmu = s.bmu ∧ (judgeRack r s).mirror = s.mirror ∧
    (judgeRack r s).pending = s.pending := by
  have e1 := @escalate_frame
  have e2 := @setStage_frame
  have e3 := @uncontain_frame
  have e4 := @modLeak_frame
  unfold judgeRack; (try dsimp only); (repeat' split) <;> simp [e1, e2, e3, e4]

theorem takeChannel_frame (c : Nat) (s : State) :
    (takeChannel c s).1.now = s.now ∧ (takeChannel c s).1.frame = s.frame ∧ (takeChannel c s).1.free = s.free ∧
    (takeChannel c s).1.broker = s.broker ∧ (takeChannel c s).1.motors = s.motors ∧ (takeChannel c s).1.senses = s.senses ∧
    (takeChannel c s).1.pulses = s.pulses ∧ (takeChannel c s).1.analogs = s.analogs ∧ (takeChannel c s).1.auxs = s.auxs ∧
    (takeChannel c s).1.cards = s.cards ∧ (takeChannel c s).1.service = s.service ∧ (takeChannel c s).1.seqr = s.seqr ∧
    (takeChannel c s).1.dies = s.dies ∧ (takeChannel c s).1.clusters = s.clusters ∧ (takeChannel c s).1.integ = s.integ ∧
    (takeChannel c s).1.copies = s.copies ∧ (takeChannel c s).1.pair = s.pair ∧ (takeChannel c s).1.links = s.links ∧
    (takeChannel c s).1.hall = s.hall ∧ (takeChannel c s).1.buses = s.buses ∧ (takeChannel c s).1.frameLog = s.frameLog ∧
    (takeChannel c s).1.power = s.power ∧ (takeChannel c s).1.ptp = s.ptp ∧ (takeChannel c s).1.fans = s.fans ∧
    (takeChannel c s).1.upds = s.upds ∧ (takeChannel c s).1.fw = s.fw ∧ (takeChannel c s).1.bmu = s.bmu ∧
    (takeChannel c s).1.mirror = s.mirror ∧ (takeChannel c s).1.pending = s.pending := by
  have e1 := @preemptValve_frame
  have e2 := @reflexPull_frame
  unfold takeChannel; (try dsimp only); (repeat' split) <;> (first | (simp [e1, e2]; done) | (simp (disch := (intros; (repeat' split) <;> simp [e1, e2])) [e1, e2]; done))

theorem takeRoles_frame (roles : List (Nat × Nat)) (s : State) :
    (takeRoles roles s).1.now = s.now ∧ (takeRoles roles s).1.frame = s.frame ∧ (takeRoles roles s).1.free = s.free ∧
    (takeRoles roles s).1.broker = s.broker ∧ (takeRoles roles s).1.motors = s.motors ∧ (takeRoles roles s).1.senses = s.senses ∧
    (takeRoles roles s).1.pulses = s.pulses ∧ (takeRoles roles s).1.analogs = s.analogs ∧ (takeRoles roles s).1.auxs = s.auxs ∧
    (takeRoles roles s).1.cards = s.cards ∧ (takeRoles roles s).1.service = s.service ∧ (takeRoles roles s).1.seqr = s.seqr ∧
    (takeRoles roles s).1.dies = s.dies ∧ (takeRoles roles s).1.clusters = s.clusters ∧ (takeRoles roles s).1.integ = s.integ ∧
    (takeRoles roles s).1.copies = s.copies ∧ (takeRoles roles s).1.pair = s.pair ∧ (takeRoles roles s).1.links = s.links ∧
    (takeRoles roles s).1.hall = s.hall ∧ (takeRoles roles s).1.buses = s.buses ∧ (takeRoles roles s).1.frameLog = s.frameLog ∧
    (takeRoles roles s).1.power = s.power ∧ (takeRoles roles s).1.ptp = s.ptp ∧ (takeRoles roles s).1.fans = s.fans ∧
    (takeRoles roles s).1.upds = s.upds ∧ (takeRoles roles s).1.fw = s.fw ∧ (takeRoles roles s).1.bmu = s.bmu ∧
    (takeRoles roles s).1.mirror = s.mirror ∧ (takeRoles roles s).1.pending = s.pending := by
  have e1 := @takeChannel_frame
  unfold takeRoles; (try dsimp only); (repeat' split) <;> (first | (simp [e1]; done) | (simp (disch := (intros; (repeat' split) <;> simp [e1])) [e1]; done))

theorem takeIsolation_frame (r : Nat) (s : State) :
    (takeIsolation r s).now = s.now ∧ (takeIsolation r s).frame = s.frame ∧ (takeIsolation r s).free = s.free ∧
    (takeIsolation r s).motors = s.motors ∧ (takeIsolation r s).senses = s.senses ∧ (takeIsolation r s).pulses = s.pulses ∧
    (takeIsolation r s).analogs = s.analogs ∧ (takeIsolation r s).auxs = s.auxs ∧ (takeIsolation r s).cards = s.cards ∧
    (takeIsolation r s).service = s.service ∧ (takeIsolation r s).seqr = s.seqr ∧ (takeIsolation r s).dies = s.dies ∧
    (takeIsolation r s).clusters = s.clusters ∧ (takeIsolation r s).integ = s.integ ∧ (takeIsolation r s).copies = s.copies ∧
    (takeIsolation r s).pair = s.pair ∧ (takeIsolation r s).links = s.links ∧ (takeIsolation r s).hall = s.hall ∧
    (takeIsolation r s).buses = s.buses ∧ (takeIsolation r s).frameLog = s.frameLog ∧ (takeIsolation r s).power = s.power ∧
    (takeIsolation r s).ptp = s.ptp ∧ (takeIsolation r s).fans = s.fans ∧ (takeIsolation r s).upds = s.upds ∧
    (takeIsolation r s).fw = s.fw ∧ (takeIsolation r s).bmu = s.bmu ∧ (takeIsolation r s).mirror = s.mirror ∧
    (takeIsolation r s).pending = s.pending := by
  have e1 := @takeRoles_frame
  have e2 := @judgeRack_frame
  have e3 := @modLeak_frame
  unfold takeIsolation; (try dsimp only); (repeat' split) <;> simp [e1, e2, e3]

theorem takeHeaders_frame (r : Nat) (s : State) :
    (takeHeaders r s).now = s.now ∧ (takeHeaders r s).frame = s.frame ∧ (takeHeaders r s).motors = s.motors ∧
    (takeHeaders r s).senses = s.senses ∧ (takeHeaders r s).pulses = s.pulses ∧ (takeHeaders r s).analogs = s.analogs ∧
    (takeHeaders r s).auxs = s.auxs ∧ (takeHeaders r s).cards = s.cards ∧ (takeHeaders r s).service = s.service ∧
    (takeHeaders r s).seqr = s.seqr ∧ (takeHeaders r s).dies = s.dies ∧ (takeHeaders r s).clusters = s.clusters ∧
    (takeHeaders r s).integ = s.integ ∧ (takeHeaders r s).copies = s.copies ∧ (takeHeaders r s).pair = s.pair ∧
    (takeHeaders r s).links = s.links ∧ (takeHeaders r s).hall = s.hall ∧ (takeHeaders r s).buses = s.buses ∧
    (takeHeaders r s).frameLog = s.frameLog ∧ (takeHeaders r s).power = s.power ∧ (takeHeaders r s).ptp = s.ptp ∧
    (takeHeaders r s).fans = s.fans ∧ (takeHeaders r s).upds = s.upds ∧ (takeHeaders r s).fw = s.fw ∧ (takeHeaders r s).bmu = s.bmu ∧
    (takeHeaders r s).mirror = s.mirror ∧ (takeHeaders r s).pending = s.pending := by
  have e1 := @floorCaps_frame
  have e2 := @takeRoles_frame
  have e3 := @judgeRack_frame
  have e4 := @modLeak_frame
  unfold takeHeaders; (try dsimp only); (repeat' split) <;> simp [e1, e2, e3, e4]

theorem rowUncontained_frame (r : Nat) (s : State) :
    (rowUncontained r s).now = s.now ∧ (rowUncontained r s).frame = s.frame ∧ (rowUncontained r s).plant = s.plant ∧
    (rowUncontained r s).valves = s.valves ∧ (rowUncontained r s).motors = s.motors ∧ (rowUncontained r s).senses = s.senses ∧
    (rowUncontained r s).pulses = s.pulses ∧ (rowUncontained r s).analogs = s.analogs ∧ (rowUncontained r s).auxs = s.auxs ∧
    (rowUncontained r s).cards = s.cards ∧ (rowUncontained r s).service = s.service ∧ (rowUncontained r s).seqr = s.seqr ∧
    (rowUncontained r s).dies = s.dies ∧ (rowUncontained r s).clusters = s.clusters ∧ (rowUncontained r s).integ = s.integ ∧
    (rowUncontained r s).copies = s.copies ∧ (rowUncontained r s).pair = s.pair ∧ (rowUncontained r s).links = s.links ∧
    (rowUncontained r s).hall = s.hall ∧ (rowUncontained r s).buses = s.buses ∧ (rowUncontained r s).frameLog = s.frameLog ∧
    (rowUncontained r s).power = s.power ∧ (rowUncontained r s).ptp = s.ptp ∧ (rowUncontained r s).fans = s.fans ∧
    (rowUncontained r s).upds = s.upds ∧ (rowUncontained r s).fw = s.fw ∧ (rowUncontained r s).bmu = s.bmu ∧
    (rowUncontained r s).mirror = s.mirror ∧ (rowUncontained r s).pending = s.pending := by
  have e1 := @floorCaps_frame
  have e2 := @modLeak_frame
  unfold rowUncontained; (try dsimp only); (repeat' split) <;> simp [e1, e2]

theorem confirmLeak_frame (r : Nat) (s : State) :
    (confirmLeak r s).now = s.now ∧ (confirmLeak r s).frame = s.frame ∧ (confirmLeak r s).free = s.free ∧
    (confirmLeak r s).plant = s.plant ∧ (confirmLeak r s).valves = s.valves ∧ (confirmLeak r s).motors = s.motors ∧
    (confirmLeak r s).senses = s.senses ∧ (confirmLeak r s).pulses = s.pulses ∧ (confirmLeak r s).analogs = s.analogs ∧
    (confirmLeak r s).auxs = s.auxs ∧ (confirmLeak r s).cards = s.cards ∧ (confirmLeak r s).service = s.service ∧
    (confirmLeak r s).seqr = s.seqr ∧ (confirmLeak r s).dies = s.dies ∧ (confirmLeak r s).clusters = s.clusters ∧
    (confirmLeak r s).integ = s.integ ∧ (confirmLeak r s).copies = s.copies ∧ (confirmLeak r s).pair = s.pair ∧
    (confirmLeak r s).links = s.links ∧ (confirmLeak r s).hall = s.hall ∧ (confirmLeak r s).buses = s.buses ∧
    (confirmLeak r s).frameLog = s.frameLog ∧ (confirmLeak r s).power = s.power ∧ (confirmLeak r s).ptp = s.ptp ∧
    (confirmLeak r s).fans = s.fans ∧ (confirmLeak r s).upds = s.upds ∧ (confirmLeak r s).fw = s.fw ∧ (confirmLeak r s).bmu = s.bmu ∧
    (confirmLeak r s).mirror = s.mirror ∧ (confirmLeak r s).pending = s.pending := by
  have e1 := @setStage_frame
  unfold confirmLeak; (try dsimp only); (repeat' split) <;> simp [e1]

theorem startSequence_frame (leaves : Time) (r : Nat) (s : State) :
    (startSequence leaves r s).now = s.now ∧ (startSequence leaves r s).frame = s.frame ∧ (startSequence leaves r s).valves = s.valves ∧
    (startSequence leaves r s).senses = s.senses ∧ (startSequence leaves r s).pulses = s.pulses ∧
    (startSequence leaves r s).analogs = s.analogs ∧ (startSequence leaves r s).auxs = s.auxs ∧ (startSequence leaves r s).cards = s.cards ∧
    (startSequence leaves r s).service = s.service ∧ (startSequence leaves r s).dies = s.dies ∧
    (startSequence leaves r s).clusters = s.clusters ∧ (startSequence leaves r s).copies = s.copies ∧
    (startSequence leaves r s).pair = s.pair ∧ (startSequence leaves r s).links = s.links ∧ (startSequence leaves r s).hall = s.hall ∧
    (startSequence leaves r s).buses = s.buses ∧ (startSequence leaves r s).frameLog = s.frameLog ∧
    (startSequence leaves r s).power = s.power ∧ (startSequence leaves r s).ptp = s.ptp ∧ (startSequence leaves r s).fans = s.fans ∧
    (startSequence leaves r s).upds = s.upds ∧ (startSequence leaves r s).fw = s.fw ∧ (startSequence leaves r s).bmu = s.bmu ∧
    (startSequence leaves r s).mirror = s.mirror ∧ (startSequence leaves r s).pending = s.pending := by
  have e1 := @grantSet_frame
  have e2 := @isolateRack_frame
  have e3 := @modLeak_frame
  unfold startSequence; (try dsimp only); (repeat' split) <;> simp [e1, e2, e3]

theorem startLeaks_frame (s : State) :
    (startLeaks s).now = s.now ∧ (startLeaks s).frame = s.frame ∧ (startLeaks s).valves = s.valves ∧ (startLeaks s).senses = s.senses ∧
    (startLeaks s).pulses = s.pulses ∧ (startLeaks s).analogs = s.analogs ∧ (startLeaks s).auxs = s.auxs ∧ (startLeaks s).cards = s.cards ∧
    (startLeaks s).service = s.service ∧ (startLeaks s).dies = s.dies ∧ (startLeaks s).clusters = s.clusters ∧
    (startLeaks s).copies = s.copies ∧ (startLeaks s).pair = s.pair ∧ (startLeaks s).links = s.links ∧ (startLeaks s).hall = s.hall ∧
    (startLeaks s).buses = s.buses ∧ (startLeaks s).frameLog = s.frameLog ∧ (startLeaks s).power = s.power ∧ (startLeaks s).ptp = s.ptp ∧
    (startLeaks s).fans = s.fans ∧ (startLeaks s).upds = s.upds ∧ (startLeaks s).fw = s.fw ∧ (startLeaks s).bmu = s.bmu ∧
    (startLeaks s).mirror = s.mirror ∧ (startLeaks s).pending = s.pending := by
  have e1 := @startSequence_frame
  unfold startLeaks; (try dsimp only); (repeat' split) <;> simp [e1]

theorem evalStage_frame (r : Nat) (wet : Bool) (s : State) :
    (evalStage r wet s).now = s.now ∧ (evalStage r wet s).frame = s.frame ∧ (evalStage r wet s).free = s.free ∧
    (evalStage r wet s).plant = s.plant ∧ (evalStage r wet s).valves = s.valves ∧ (evalStage r wet s).motors = s.motors ∧
    (evalStage r wet s).senses = s.senses ∧ (evalStage r wet s).pulses = s.pulses ∧ (evalStage r wet s).analogs = s.analogs ∧
    (evalStage r wet s).auxs = s.auxs ∧ (evalStage r wet s).cards = s.cards ∧ (evalStage r wet s).service = s.service ∧
    (evalStage r wet s).seqr = s.seqr ∧ (evalStage r wet s).dies = s.dies ∧ (evalStage r wet s).clusters = s.clusters ∧
    (evalStage r wet s).integ = s.integ ∧ (evalStage r wet s).copies = s.copies ∧ (evalStage r wet s).pair = s.pair ∧
    (evalStage r wet s).links = s.links ∧ (evalStage r wet s).hall = s.hall ∧ (evalStage r wet s).buses = s.buses ∧
    (evalStage r wet s).frameLog = s.frameLog ∧ (evalStage r wet s).power = s.power ∧ (evalStage r wet s).ptp = s.ptp ∧
    (evalStage r wet s).fans = s.fans ∧ (evalStage r wet s).upds = s.upds ∧ (evalStage r wet s).fw = s.fw ∧
    (evalStage r wet s).bmu = s.bmu ∧ (evalStage r wet s).mirror = s.mirror ∧ (evalStage r wet s).pending = s.pending := by
  have e1 := @confirmLeak_frame
  have e2 := @setStage_frame
  unfold evalStage; (try dsimp only); (repeat' split) <;> simp [e1, e2]

theorem setSource_frame (r bit : Nat) (on wet : Bool) (s : State) :
    (setSource r bit on wet s).now = s.now ∧ (setSource r bit on wet s).frame = s.frame ∧ (setSource r bit on wet s).free = s.free ∧
    (setSource r bit on wet s).plant = s.plant ∧ (setSource r bit on wet s).valves = s.valves ∧
    (setSource r bit on wet s).motors = s.motors ∧ (setSource r bit on wet s).senses = s.senses ∧
    (setSource r bit on wet s).pulses = s.pulses ∧ (setSource r bit on wet s).analogs = s.analogs ∧
    (setSource r bit on wet s).auxs = s.auxs ∧ (setSource r bit on wet s).cards = s.cards ∧ (setSource r bit on wet s).service = s.service ∧
    (setSource r bit on wet s).seqr = s.seqr ∧ (setSource r bit on wet s).dies = s.dies ∧ (setSource r bit on wet s).clusters = s.clusters ∧
    (setSource r bit on wet s).integ = s.integ ∧ (setSource r bit on wet s).copies = s.copies ∧ (setSource r bit on wet s).pair = s.pair ∧
    (setSource r bit on wet s).links = s.links ∧ (setSource r bit on wet s).hall = s.hall ∧ (setSource r bit on wet s).buses = s.buses ∧
    (setSource r bit on wet s).frameLog = s.frameLog ∧ (setSource r bit on wet s).power = s.power ∧ (setSource r bit on wet s).ptp = s.ptp ∧
    (setSource r bit on wet s).fans = s.fans ∧ (setSource r bit on wet s).upds = s.upds ∧ (setSource r bit on wet s).fw = s.fw ∧
    (setSource r bit on wet s).bmu = s.bmu ∧ (setSource r bit on wet s).mirror = s.mirror ∧
    (setSource r bit on wet s).pending = s.pending := by
  have e1 := @evalStage_frame
  unfold setSource; (try dsimp only); (repeat' split) <;> simp [e1]

theorem cableWet_frame (c d : Nat) (s : State) :
    (cableWet c d s).now = s.now ∧ (cableWet c d s).frame = s.frame ∧ (cableWet c d s).free = s.free ∧ (cableWet c d s).plant = s.plant ∧
    (cableWet c d s).valves = s.valves ∧ (cableWet c d s).motors = s.motors ∧ (cableWet c d s).senses = s.senses ∧
    (cableWet c d s).pulses = s.pulses ∧ (cableWet c d s).analogs = s.analogs ∧ (cableWet c d s).auxs = s.auxs ∧
    (cableWet c d s).cards = s.cards ∧ (cableWet c d s).service = s.service ∧ (cableWet c d s).seqr = s.seqr ∧
    (cableWet c d s).dies = s.dies ∧ (cableWet c d s).clusters = s.clusters ∧ (cableWet c d s).integ = s.integ ∧
    (cableWet c d s).copies = s.copies ∧ (cableWet c d s).pair = s.pair ∧ (cableWet c d s).links = s.links ∧
    (cableWet c d s).hall = s.hall ∧ (cableWet c d s).buses = s.buses ∧ (cableWet c d s).frameLog = s.frameLog ∧
    (cableWet c d s).power = s.power ∧ (cableWet c d s).ptp = s.ptp ∧ (cableWet c d s).fans = s.fans ∧ (cableWet c d s).upds = s.upds ∧
    (cableWet c d s).fw = s.fw ∧ (cableWet c d s).bmu = s.bmu ∧ (cableWet c d s).mirror = s.mirror ∧
    (cableWet c d s).pending = s.pending := by
  have e1 := @setSource_frame
  unfold cableWet; (try dsimp only); (repeat' split) <;> simp [e1]

theorem cableDry_frame (c : Nat) (s : State) :
    (cableDry c s).now = s.now ∧ (cableDry c s).frame = s.frame ∧ (cableDry c s).free = s.free ∧ (cableDry c s).plant = s.plant ∧
    (cableDry c s).valves = s.valves ∧ (cableDry c s).motors = s.motors ∧ (cableDry c s).senses = s.senses ∧
    (cableDry c s).pulses = s.pulses ∧ (cableDry c s).analogs = s.analogs ∧ (cableDry c s).auxs = s.auxs ∧ (cableDry c s).cards = s.cards ∧
    (cableDry c s).service = s.service ∧ (cableDry c s).seqr = s.seqr ∧ (cableDry c s).dies = s.dies ∧
    (cableDry c s).clusters = s.clusters ∧ (cableDry c s).integ = s.integ ∧ (cableDry c s).copies = s.copies ∧
    (cableDry c s).pair = s.pair ∧ (cableDry c s).links = s.links ∧ (cableDry c s).hall = s.hall ∧ (cableDry c s).buses = s.buses ∧
    (cableDry c s).frameLog = s.frameLog ∧ (cableDry c s).power = s.power ∧ (cableDry c s).ptp = s.ptp ∧ (cableDry c s).fans = s.fans ∧
    (cableDry c s).upds = s.upds ∧ (cableDry c s).fw = s.fw ∧ (cableDry c s).bmu = s.bmu ∧ (cableDry c s).mirror = s.mirror ∧
    (cableDry c s).pending = s.pending := by
  have e1 := @setSource_frame
  unfold cableDry; (try dsimp only); (repeat' split) <;> simp [e1]

theorem decayRack_frame (r rate : Nat) (s : State) :
    (decayRack r rate s).now = s.now ∧ (decayRack r rate s).frame = s.frame ∧ (decayRack r rate s).free = s.free ∧
    (decayRack r rate s).plant = s.plant ∧ (decayRack r rate s).valves = s.valves ∧ (decayRack r rate s).motors = s.motors ∧
    (decayRack r rate s).senses = s.senses ∧ (decayRack r rate s).pulses = s.pulses ∧ (decayRack r rate s).analogs = s.analogs ∧
    (decayRack r rate s).auxs = s.auxs ∧ (decayRack r rate s).cards = s.cards ∧ (decayRack r rate s).service = s.service ∧
    (decayRack r rate s).seqr = s.seqr ∧ (decayRack r rate s).dies = s.dies ∧ (decayRack r rate s).clusters = s.clusters ∧
    (decayRack r rate s).integ = s.integ ∧ (decayRack r rate s).copies = s.copies ∧ (decayRack r rate s).pair = s.pair ∧
    (decayRack r rate s).links = s.links ∧ (decayRack r rate s).hall = s.hall ∧ (decayRack r rate s).buses = s.buses ∧
    (decayRack r rate s).frameLog = s.frameLog ∧ (decayRack r rate s).power = s.power ∧ (decayRack r rate s).ptp = s.ptp ∧
    (decayRack r rate s).fans = s.fans ∧ (decayRack r rate s).upds = s.upds ∧ (decayRack r rate s).fw = s.fw ∧
    (decayRack r rate s).bmu = s.bmu ∧ (decayRack r rate s).mirror = s.mirror ∧ (decayRack r rate s).pending = s.pending := by
  have e1 := @setSource_frame
  have e2 := @escalate_frame
  unfold decayRack; (try dsimp only); (repeat' split) <;> simp [e1, e2]

theorem decaySector_frame (k rate : Nat) (s : State) :
    (decaySector k rate s).now = s.now ∧ (decaySector k rate s).frame = s.frame ∧ (decaySector k rate s).free = s.free ∧
    (decaySector k rate s).plant = s.plant ∧ (decaySector k rate s).valves = s.valves ∧ (decaySector k rate s).motors = s.motors ∧
    (decaySector k rate s).senses = s.senses ∧ (decaySector k rate s).pulses = s.pulses ∧ (decaySector k rate s).analogs = s.analogs ∧
    (decaySector k rate s).auxs = s.auxs ∧ (decaySector k rate s).cards = s.cards ∧ (decaySector k rate s).service = s.service ∧
    (decaySector k rate s).seqr = s.seqr ∧ (decaySector k rate s).dies = s.dies ∧ (decaySector k rate s).clusters = s.clusters ∧
    (decaySector k rate s).integ = s.integ ∧ (decaySector k rate s).copies = s.copies ∧ (decaySector k rate s).pair = s.pair ∧
    (decaySector k rate s).links = s.links ∧ (decaySector k rate s).hall = s.hall ∧ (decaySector k rate s).buses = s.buses ∧
    (decaySector k rate s).frameLog = s.frameLog ∧ (decaySector k rate s).power = s.power ∧ (decaySector k rate s).ptp = s.ptp ∧
    (decaySector k rate s).fans = s.fans ∧ (decaySector k rate s).upds = s.upds ∧ (decaySector k rate s).fw = s.fw ∧
    (decaySector k rate s).bmu = s.bmu ∧ (decaySector k rate s).mirror = s.mirror ∧ (decaySector k rate s).pending = s.pending := by
  have e1 := @setSource_frame
  have e2 := @uncontain_frame
  unfold decaySector; (try dsimp only); (repeat' split) <;> simp [e1, e2]

theorem dipJudged_frame (c : Nat) (dip : Bool) (s : State) :
    (dipJudged c dip s).now = s.now ∧ (dipJudged c dip s).frame = s.frame ∧ (dipJudged c dip s).free = s.free ∧
    (dipJudged c dip s).plant = s.plant ∧ (dipJudged c dip s).valves = s.valves ∧ (dipJudged c dip s).motors = s.motors ∧
    (dipJudged c dip s).senses = s.senses ∧ (dipJudged c dip s).pulses = s.pulses ∧ (dipJudged c dip s).analogs = s.analogs ∧
    (dipJudged c dip s).auxs = s.auxs ∧ (dipJudged c dip s).cards = s.cards ∧ (dipJudged c dip s).service = s.service ∧
    (dipJudged c dip s).seqr = s.seqr ∧ (dipJudged c dip s).dies = s.dies ∧ (dipJudged c dip s).clusters = s.clusters ∧
    (dipJudged c dip s).integ = s.integ ∧ (dipJudged c dip s).copies = s.copies ∧ (dipJudged c dip s).pair = s.pair ∧
    (dipJudged c dip s).links = s.links ∧ (dipJudged c dip s).hall = s.hall ∧ (dipJudged c dip s).buses = s.buses ∧
    (dipJudged c dip s).frameLog = s.frameLog ∧ (dipJudged c dip s).power = s.power ∧ (dipJudged c dip s).ptp = s.ptp ∧
    (dipJudged c dip s).fans = s.fans ∧ (dipJudged c dip s).upds = s.upds ∧ (dipJudged c dip s).fw = s.fw ∧
    (dipJudged c dip s).bmu = s.bmu ∧ (dipJudged c dip s).mirror = s.mirror ∧ (dipJudged c dip s).pending = s.pending := by
  have e1 := @judgeRack_frame
  have e2 := @modLeak_frame
  unfold dipJudged; (try dsimp only); (repeat' split) <;> simp [e1, e2]

theorem repullLeak_frame (c : Nat) (s : State) :
    (repullLeak c s).now = s.now ∧ (repullLeak c s).frame = s.frame ∧ (repullLeak c s).free = s.free ∧ (repullLeak c s).vcp = s.vcp ∧
    (repullLeak c s).motors = s.motors ∧ (repullLeak c s).senses = s.senses ∧ (repullLeak c s).pulses = s.pulses ∧
    (repullLeak c s).analogs = s.analogs ∧ (repullLeak c s).auxs = s.auxs ∧ (repullLeak c s).cards = s.cards ∧
    (repullLeak c s).service = s.service ∧ (repullLeak c s).seqr = s.seqr ∧ (repullLeak c s).dies = s.dies ∧
    (repullLeak c s).clusters = s.clusters ∧ (repullLeak c s).integ = s.integ ∧ (repullLeak c s).copies = s.copies ∧
    (repullLeak c s).pair = s.pair ∧ (repullLeak c s).links = s.links ∧ (repullLeak c s).hall = s.hall ∧ (repullLeak c s).buses = s.buses ∧
    (repullLeak c s).frameLog = s.frameLog ∧ (repullLeak c s).power = s.power ∧ (repullLeak c s).ptp = s.ptp ∧
    (repullLeak c s).fans = s.fans ∧ (repullLeak c s).upds = s.upds ∧ (repullLeak c s).fw = s.fw ∧ (repullLeak c s).bmu = s.bmu ∧
    (repullLeak c s).mirror = s.mirror ∧ (repullLeak c s).pending = s.pending := by
  have e1 := @startPull_frame
  have e2 := @modLeak_frame
  unfold repullLeak; (try dsimp only); (repeat' split) <;> simp [e1, e2]

theorem frameLeaks_frame (s : State) :
    (frameLeaks s).now = s.now ∧ (frameLeaks s).frame = s.frame ∧ (frameLeaks s).motors = s.motors ∧ (frameLeaks s).senses = s.senses ∧
    (frameLeaks s).pulses = s.pulses ∧ (frameLeaks s).analogs = s.analogs ∧ (frameLeaks s).auxs = s.auxs ∧ (frameLeaks s).cards = s.cards ∧
    (frameLeaks s).service = s.service ∧ (frameLeaks s).seqr = s.seqr ∧ (frameLeaks s).dies = s.dies ∧
    (frameLeaks s).clusters = s.clusters ∧ (frameLeaks s).integ = s.integ ∧ (frameLeaks s).copies = s.copies ∧
    (frameLeaks s).pair = s.pair ∧ (frameLeaks s).links = s.links ∧ (frameLeaks s).hall = s.hall ∧ (frameLeaks s).buses = s.buses ∧
    (frameLeaks s).frameLog = s.frameLog ∧ (frameLeaks s).power = s.power ∧ (frameLeaks s).ptp = s.ptp ∧ (frameLeaks s).fans = s.fans ∧
    (frameLeaks s).upds = s.upds ∧ (frameLeaks s).fw = s.fw ∧ (frameLeaks s).bmu = s.bmu ∧ (frameLeaks s).mirror = s.mirror ∧
    (frameLeaks s).pending = s.pending := by
  have e1 := @takeIsolation_frame
  have e2 := @takeHeaders_frame
  have e3 := @rowUncontained_frame
  unfold frameLeaks
  refine ⟨forEach_now _ _ _ ?_, forEach_frame _ _ _ ?_, forEach_motors _ _ _ ?_, forEach_senses _ _ _ ?_, forEach_pulses _ _ _ ?_, forEach_analogs _ _ _ ?_, forEach_auxs _ _ _ ?_, forEach_cards _ _ _ ?_, forEach_service _ _ _ ?_, forEach_seqr _ _ _ ?_, forEach_dies _ _ _ ?_, forEach_clusters _ _ _ ?_, forEach_integ _ _ _ ?_, forEach_copies _ _ _ ?_, forEach_pair _ _ _ ?_, forEach_links _ _ _ ?_, forEach_hall _ _ _ ?_, forEach_buses _ _ _ ?_, forEach_frameLog _ _ _ ?_, forEach_power _ _ _ ?_, forEach_ptp _ _ _ ?_, forEach_fans _ _ _ ?_, forEach_upds _ _ _ ?_, forEach_fw _ _ _ ?_, forEach_bmu _ _ _ ?_, forEach_mirror _ _ _ ?_, forEach_pending _ _ _ ?_⟩ <;> (intro x a; dsimp only; (repeat' split) <;> simp [e1, e2, e3])

theorem freeRoles_frame (roles : List (Nat × Nat)) (s : State) :
    (freeRoles roles s).now = s.now ∧ (freeRoles roles s).frame = s.frame ∧ (freeRoles roles s).free = s.free ∧
    (freeRoles roles s).vcp = s.vcp ∧ (freeRoles roles s).plant = s.plant ∧ (freeRoles roles s).broker = s.broker ∧
    (freeRoles roles s).motors = s.motors ∧ (freeRoles roles s).senses = s.senses ∧ (freeRoles roles s).pulses = s.pulses ∧
    (freeRoles roles s).analogs = s.analogs ∧ (freeRoles roles s).auxs = s.auxs ∧ (freeRoles roles s).cards = s.cards ∧
    (freeRoles roles s).service = s.service ∧ (freeRoles roles s).seqr = s.seqr ∧ (freeRoles roles s).dies = s.dies ∧
    (freeRoles roles s).clusters = s.clusters ∧ (freeRoles roles s).integ = s.integ ∧ (freeRoles roles s).copies = s.copies ∧
    (freeRoles roles s).pair = s.pair ∧ (freeRoles roles s).links = s.links ∧ (freeRoles roles s).hall = s.hall ∧
    (freeRoles roles s).buses = s.buses ∧ (freeRoles roles s).frameLog = s.frameLog ∧ (freeRoles roles s).power = s.power ∧
    (freeRoles roles s).ptp = s.ptp ∧ (freeRoles roles s).fans = s.fans ∧ (freeRoles roles s).upds = s.upds ∧
    (freeRoles roles s).fw = s.fw ∧ (freeRoles roles s).bmu = s.bmu ∧ (freeRoles roles s).mirror = s.mirror ∧
    (freeRoles roles s).pending = s.pending := by
  have e1 := @startRelease_frame
  unfold freeRoles; (try dsimp only); (repeat' split) <;> simp [e1]

theorem releaseLeak_frame (r : Nat) (s : State) :
    (releaseLeak r s).now = s.now ∧ (releaseLeak r s).frame = s.frame ∧ (releaseLeak r s).free = s.free ∧
    (releaseLeak r s).motors = s.motors ∧ (releaseLeak r s).senses = s.senses ∧ (releaseLeak r s).pulses = s.pulses ∧
    (releaseLeak r s).analogs = s.analogs ∧ (releaseLeak r s).auxs = s.auxs ∧ (releaseLeak r s).cards = s.cards ∧
    (releaseLeak r s).service = s.service ∧ (releaseLeak r s).seqr = s.seqr ∧ (releaseLeak r s).dies = s.dies ∧
    (releaseLeak r s).clusters = s.clusters ∧ (releaseLeak r s).integ = s.integ ∧ (releaseLeak r s).copies = s.copies ∧
    (releaseLeak r s).pair = s.pair ∧ (releaseLeak r s).links = s.links ∧ (releaseLeak r s).hall = s.hall ∧
    (releaseLeak r s).buses = s.buses ∧ (releaseLeak r s).frameLog = s.frameLog ∧ (releaseLeak r s).power = s.power ∧
    (releaseLeak r s).ptp = s.ptp ∧ (releaseLeak r s).fans = s.fans ∧ (releaseLeak r s).upds = s.upds ∧ (releaseLeak r s).fw = s.fw ∧
    (releaseLeak r s).bmu = s.bmu ∧ (releaseLeak r s).mirror = s.mirror ∧ (releaseLeak r s).pending = s.pending := by
  have e1 := @freeRoles_frame
  have e2 := @unisolateRack_frame
  have e3 := @setStage_frame
  unfold releaseLeak; (try dsimp only); (repeat' split) <;> simp [e1, e2, e3]

theorem abortPull_frame (c : Nat) (s : State) :
    (abortPull c s).now = s.now ∧ (abortPull c s).frame = s.frame ∧ (abortPull c s).free = s.free ∧ (abortPull c s).broker = s.broker ∧
    (abortPull c s).motors = s.motors ∧ (abortPull c s).senses = s.senses ∧ (abortPull c s).pulses = s.pulses ∧
    (abortPull c s).analogs = s.analogs ∧ (abortPull c s).auxs = s.auxs ∧ (abortPull c s).cards = s.cards ∧
    (abortPull c s).service = s.service ∧ (abortPull c s).seqr = s.seqr ∧ (abortPull c s).dies = s.dies ∧
    (abortPull c s).clusters = s.clusters ∧ (abortPull c s).integ = s.integ ∧ (abortPull c s).copies = s.copies ∧
    (abortPull c s).pair = s.pair ∧ (abortPull c s).links = s.links ∧ (abortPull c s).hall = s.hall ∧ (abortPull c s).buses = s.buses ∧
    (abortPull c s).frameLog = s.frameLog ∧ (abortPull c s).power = s.power ∧ (abortPull c s).ptp = s.ptp ∧ (abortPull c s).fans = s.fans ∧
    (abortPull c s).upds = s.upds ∧ (abortPull c s).fw = s.fw ∧ (abortPull c s).bmu = s.bmu ∧ (abortPull c s).mirror = s.mirror ∧
    (abortPull c s).pending = s.pending := by
  have e1 := @dropValveCmd_frame
  unfold abortPull; (try dsimp only); (repeat' split) <;> simp [e1]

theorem completeValve_frame (c : Nat) (s : State) :
    (completeValve c s).now = s.now ∧ (completeValve c s).frame = s.frame ∧ (completeValve c s).free = s.free ∧
    (completeValve c s).plant = s.plant ∧ (completeValve c s).broker = s.broker ∧ (completeValve c s).motors = s.motors ∧
    (completeValve c s).senses = s.senses ∧ (completeValve c s).pulses = s.pulses ∧ (completeValve c s).analogs = s.analogs ∧
    (completeValve c s).auxs = s.auxs ∧ (completeValve c s).cards = s.cards ∧ (completeValve c s).service = s.service ∧
    (completeValve c s).seqr = s.seqr ∧ (completeValve c s).dies = s.dies ∧ (completeValve c s).clusters = s.clusters ∧
    (completeValve c s).integ = s.integ ∧ (completeValve c s).copies = s.copies ∧ (completeValve c s).pair = s.pair ∧
    (completeValve c s).links = s.links ∧ (completeValve c s).hall = s.hall ∧ (completeValve c s).buses = s.buses ∧
    (completeValve c s).frameLog = s.frameLog ∧ (completeValve c s).power = s.power ∧ (completeValve c s).ptp = s.ptp ∧
    (completeValve c s).fans = s.fans ∧ (completeValve c s).upds = s.upds ∧ (completeValve c s).fw = s.fw ∧
    (completeValve c s).bmu = s.bmu ∧ (completeValve c s).mirror = s.mirror ∧ (completeValve c s).pending = s.pending := by
  unfold completeValve; (try dsimp only); (repeat' split) <;> simp

theorem unstamp_frame (c : Nat) (s : State) :
    (unstamp c s).now = s.now ∧ (unstamp c s).frame = s.frame ∧ (unstamp c s).free = s.free ∧ (unstamp c s).plant = s.plant ∧
    (unstamp c s).broker = s.broker ∧ (unstamp c s).valves = s.valves ∧ (unstamp c s).motors = s.motors ∧ (unstamp c s).senses = s.senses ∧
    (unstamp c s).pulses = s.pulses ∧ (unstamp c s).analogs = s.analogs ∧ (unstamp c s).auxs = s.auxs ∧ (unstamp c s).cards = s.cards ∧
    (unstamp c s).service = s.service ∧ (unstamp c s).seqr = s.seqr ∧ (unstamp c s).dies = s.dies ∧ (unstamp c s).clusters = s.clusters ∧
    (unstamp c s).integ = s.integ ∧ (unstamp c s).copies = s.copies ∧ (unstamp c s).pair = s.pair ∧ (unstamp c s).links = s.links ∧
    (unstamp c s).hall = s.hall ∧ (unstamp c s).buses = s.buses ∧ (unstamp c s).frameLog = s.frameLog ∧ (unstamp c s).power = s.power ∧
    (unstamp c s).ptp = s.ptp ∧ (unstamp c s).fans = s.fans ∧ (unstamp c s).upds = s.upds ∧ (unstamp c s).fw = s.fw ∧
    (unstamp c s).log = s.log ∧ (unstamp c s).bmu = s.bmu ∧ (unstamp c s).mirror = s.mirror ∧ (unstamp c s).pending = s.pending := by
  unfold unstamp; (try dsimp only); (repeat' split) <;> simp

theorem abortRun_frame (c : Nat) (s : State) :
    (abortRun c s).now = s.now ∧ (abortRun c s).frame = s.frame ∧ (abortRun c s).free = s.free ∧ (abortRun c s).plant = s.plant ∧
    (abortRun c s).broker = s.broker ∧ (abortRun c s).valves = s.valves ∧ (abortRun c s).senses = s.senses ∧
    (abortRun c s).pulses = s.pulses ∧ (abortRun c s).analogs = s.analogs ∧ (abortRun c s).auxs = s.auxs ∧ (abortRun c s).cards = s.cards ∧
    (abortRun c s).service = s.service ∧ (abortRun c s).seqr = s.seqr ∧ (abortRun c s).dies = s.dies ∧
    (abortRun c s).clusters = s.clusters ∧ (abortRun c s).integ = s.integ ∧ (abortRun c s).copies = s.copies ∧
    (abortRun c s).pair = s.pair ∧ (abortRun c s).links = s.links ∧ (abortRun c s).hall = s.hall ∧ (abortRun c s).buses = s.buses ∧
    (abortRun c s).frameLog = s.frameLog ∧ (abortRun c s).power = s.power ∧ (abortRun c s).ptp = s.ptp ∧ (abortRun c s).fans = s.fans ∧
    (abortRun c s).upds = s.upds ∧ (abortRun c s).fw = s.fw ∧ (abortRun c s).bmu = s.bmu ∧ (abortRun c s).mirror = s.mirror ∧
    (abortRun c s).pending = s.pending := by
  have e1 := @endMotorCmd_frame
  unfold abortRun; (try dsimp only); (repeat' split) <;> simp [e1]

theorem failMotor_frame (bit c : Nat) (s : State) :
    (failMotor bit c s).now = s.now ∧ (failMotor bit c s).frame = s.frame ∧ (failMotor bit c s).free = s.free ∧
    (failMotor bit c s).broker = s.broker ∧ (failMotor bit c s).valves = s.valves ∧ (failMotor bit c s).senses = s.senses ∧
    (failMotor bit c s).pulses = s.pulses ∧ (failMotor bit c s).analogs = s.analogs ∧ (failMotor bit c s).auxs = s.auxs ∧
    (failMotor bit c s).cards = s.cards ∧ (failMotor bit c s).service = s.service ∧ (failMotor bit c s).seqr = s.seqr ∧
    (failMotor bit c s).dies = s.dies ∧ (failMotor bit c s).clusters = s.clusters ∧ (failMotor bit c s).integ = s.integ ∧
    (failMotor bit c s).copies = s.copies ∧ (failMotor bit c s).pair = s.pair ∧ (failMotor bit c s).links = s.links ∧
    (failMotor bit c s).hall = s.hall ∧ (failMotor bit c s).buses = s.buses ∧ (failMotor bit c s).frameLog = s.frameLog ∧
    (failMotor bit c s).power = s.power ∧ (failMotor bit c s).ptp = s.ptp ∧ (failMotor bit c s).fans = s.fans ∧
    (failMotor bit c s).upds = s.upds ∧ (failMotor bit c s).fw = s.fw ∧ (failMotor bit c s).bmu = s.bmu ∧
    (failMotor bit c s).mirror = s.mirror ∧ (failMotor bit c s).pending = s.pending := by
  have e1 := @motorFail_frame
  have e2 := @pumpTripped_frame
  unfold failMotor; (try dsimp only); (repeat' split) <;> simp [e1, e2]

theorem snsTake_frame (i : Nat) (x : Int) (s : State) :
    (snsTake i x s).now = s.now ∧ (snsTake i x s).frame = s.frame ∧ (snsTake i x s).free = s.free ∧ (snsTake i x s).regs = s.regs ∧
    (snsTake i x s).outbox = s.outbox ∧ (snsTake i x s).vcp = s.vcp ∧ (snsTake i x s).plant = s.plant ∧ (snsTake i x s).broker = s.broker ∧
    (snsTake i x s).valves = s.valves ∧ (snsTake i x s).motors = s.motors ∧ (snsTake i x s).pulses = s.pulses ∧
    (snsTake i x s).analogs = s.analogs ∧ (snsTake i x s).auxs = s.auxs ∧ (snsTake i x s).cards = s.cards ∧
    (snsTake i x s).service = s.service ∧ (snsTake i x s).seqr = s.seqr ∧ (snsTake i x s).dies = s.dies ∧
    (snsTake i x s).clusters = s.clusters ∧ (snsTake i x s).integ = s.integ ∧ (snsTake i x s).copies = s.copies ∧
    (snsTake i x s).pair = s.pair ∧ (snsTake i x s).links = s.links ∧ (snsTake i x s).hall = s.hall ∧ (snsTake i x s).buses = s.buses ∧
    (snsTake i x s).frameLog = s.frameLog ∧ (snsTake i x s).power = s.power ∧ (snsTake i x s).ptp = s.ptp ∧ (snsTake i x s).fans = s.fans ∧
    (snsTake i x s).upds = s.upds ∧ (snsTake i x s).fw = s.fw ∧ (snsTake i x s).log = s.log ∧ (snsTake i x s).bmu = s.bmu ∧
    (snsTake i x s).mirror = s.mirror ∧ (snsTake i x s).pending = s.pending := by
  unfold snsTake; (try dsimp only); (repeat' split) <;> simp

theorem snsRange_frame (i : Nat) (s : State) :
    (snsRange i s).now = s.now ∧ (snsRange i s).frame = s.frame ∧ (snsRange i s).free = s.free ∧ (snsRange i s).outbox = s.outbox ∧
    (snsRange i s).vcp = s.vcp ∧ (snsRange i s).plant = s.plant ∧ (snsRange i s).broker = s.broker ∧ (snsRange i s).valves = s.valves ∧
    (snsRange i s).motors = s.motors ∧ (snsRange i s).pulses = s.pulses ∧ (snsRange i s).analogs = s.analogs ∧
    (snsRange i s).auxs = s.auxs ∧ (snsRange i s).cards = s.cards ∧ (snsRange i s).service = s.service ∧ (snsRange i s).seqr = s.seqr ∧
    (snsRange i s).dies = s.dies ∧ (snsRange i s).clusters = s.clusters ∧ (snsRange i s).integ = s.integ ∧
    (snsRange i s).copies = s.copies ∧ (snsRange i s).pair = s.pair ∧ (snsRange i s).links = s.links ∧ (snsRange i s).hall = s.hall ∧
    (snsRange i s).buses = s.buses ∧ (snsRange i s).frameLog = s.frameLog ∧ (snsRange i s).power = s.power ∧ (snsRange i s).ptp = s.ptp ∧
    (snsRange i s).fans = s.fans ∧ (snsRange i s).upds = s.upds ∧ (snsRange i s).fw = s.fw ∧ (snsRange i s).log = s.log ∧
    (snsRange i s).bmu = s.bmu ∧ (snsRange i s).mirror = s.mirror ∧ (snsRange i s).pending = s.pending := by
  unfold snsRange; (try dsimp only); (repeat' split) <;> simp

theorem snsCable_frame (i : Nat) (wet : Option Nat) (s : State) :
    (snsCable i wet s).now = s.now ∧ (snsCable i wet s).frame = s.frame ∧ (snsCable i wet s).free = s.free ∧
    (snsCable i wet s).plant = s.plant ∧ (snsCable i wet s).valves = s.valves ∧ (snsCable i wet s).motors = s.motors ∧
    (snsCable i wet s).pulses = s.pulses ∧ (snsCable i wet s).analogs = s.analogs ∧ (snsCable i wet s).auxs = s.auxs ∧
    (snsCable i wet s).cards = s.cards ∧ (snsCable i wet s).service = s.service ∧ (snsCable i wet s).seqr = s.seqr ∧
    (snsCable i wet s).dies = s.dies ∧ (snsCable i wet s).clusters = s.clusters ∧ (snsCable i wet s).integ = s.integ ∧
    (snsCable i wet s).copies = s.copies ∧ (snsCable i wet s).pair = s.pair ∧ (snsCable i wet s).links = s.links ∧
    (snsCable i wet s).hall = s.hall ∧ (snsCable i wet s).buses = s.buses ∧ (snsCable i wet s).frameLog = s.frameLog ∧
    (snsCable i wet s).power = s.power ∧ (snsCable i wet s).ptp = s.ptp ∧ (snsCable i wet s).fans = s.fans ∧
    (snsCable i wet s).upds = s.upds ∧ (snsCable i wet s).fw = s.fw ∧ (snsCable i wet s).bmu = s.bmu ∧
    (snsCable i wet s).mirror = s.mirror ∧ (snsCable i wet s).pending = s.pending := by
  have e1 := @cableDry_frame
  have e2 := @cableWet_frame
  unfold snsCable; (try dsimp only); (repeat' split) <;> simp [e1, e2]

theorem senseUplink_frame (i : Nat) (raw : SenseRaw) (s : State) :
    (senseUplink i raw s).now = s.now ∧ (senseUplink i raw s).frame = s.frame ∧ (senseUplink i raw s).free = s.free ∧
    (senseUplink i raw s).plant = s.plant ∧ (senseUplink i raw s).valves = s.valves ∧ (senseUplink i raw s).motors = s.motors ∧
    (senseUplink i raw s).pulses = s.pulses ∧ (senseUplink i raw s).analogs = s.analogs ∧ (senseUplink i raw s).auxs = s.auxs ∧
    (senseUplink i raw s).cards = s.cards ∧ (senseUplink i raw s).service = s.service ∧ (senseUplink i raw s).seqr = s.seqr ∧
    (senseUplink i raw s).dies = s.dies ∧ (senseUplink i raw s).clusters = s.clusters ∧ (senseUplink i raw s).integ = s.integ ∧
    (senseUplink i raw s).copies = s.copies ∧ (senseUplink i raw s).pair = s.pair ∧ (senseUplink i raw s).links = s.links ∧
    (senseUplink i raw s).hall = s.hall ∧ (senseUplink i raw s).buses = s.buses ∧ (senseUplink i raw s).frameLog = s.frameLog ∧
    (senseUplink i raw s).power = s.power ∧ (senseUplink i raw s).ptp = s.ptp ∧ (senseUplink i raw s).fans = s.fans ∧
    (senseUplink i raw s).upds = s.upds ∧ (senseUplink i raw s).fw = s.fw ∧ (senseUplink i raw s).bmu = s.bmu ∧
    (senseUplink i raw s).mirror = s.mirror ∧ (senseUplink i raw s).pending = s.pending := by
  have e1 := @snsTake_frame
  have e2 := @snsRange_frame
  have e3 := @cableDry_frame
  have e4 := @snsCable_frame
  have e5 := @cableWet_frame
  unfold senseUplink; (try dsimp only); (repeat' split) <;> simp [e1, e2, e3, e4, e5]

theorem staleSenses_frame (s : State) :
    (staleSenses s).now = s.now ∧ (staleSenses s).frame = s.frame ∧ (staleSenses s).free = s.free ∧ (staleSenses s).outbox = s.outbox ∧
    (staleSenses s).vcp = s.vcp ∧ (staleSenses s).plant = s.plant ∧ (staleSenses s).broker = s.broker ∧ (staleSenses s).valves = s.valves ∧
    (staleSenses s).motors = s.motors ∧ (staleSenses s).pulses = s.pulses ∧ (staleSenses s).analogs = s.analogs ∧
    (staleSenses s).auxs = s.auxs ∧ (staleSenses s).cards = s.cards ∧ (staleSenses s).service = s.service ∧ (staleSenses s).seqr = s.seqr ∧
    (staleSenses s).dies = s.dies ∧ (staleSenses s).clusters = s.clusters ∧ (staleSenses s).integ = s.integ ∧
    (staleSenses s).copies = s.copies ∧ (staleSenses s).pair = s.pair ∧ (staleSenses s).links = s.links ∧ (staleSenses s).hall = s.hall ∧
    (staleSenses s).buses = s.buses ∧ (staleSenses s).frameLog = s.frameLog ∧ (staleSenses s).power = s.power ∧
    (staleSenses s).ptp = s.ptp ∧ (staleSenses s).fans = s.fans ∧ (staleSenses s).upds = s.upds ∧ (staleSenses s).fw = s.fw ∧
    (staleSenses s).log = s.log ∧ (staleSenses s).bmu = s.bmu ∧ (staleSenses s).mirror = s.mirror ∧
    (staleSenses s).pending = s.pending := by
  unfold staleSenses; (try dsimp only); (repeat' split) <;> simp

theorem pulseUplink_frame (i edges period : Nat) (above : Bool) (s : State) :
    (pulseUplink i edges period above s).now = s.now ∧ (pulseUplink i edges period above s).frame = s.frame ∧
    (pulseUplink i edges period above s).free = s.free ∧ (pulseUplink i edges period above s).outbox = s.outbox ∧
    (pulseUplink i edges period above s).vcp = s.vcp ∧ (pulseUplink i edges period above s).plant = s.plant ∧
    (pulseUplink i edges period above s).broker = s.broker ∧ (pulseUplink i edges period above s).valves = s.valves ∧
    (pulseUplink i edges period above s).motors = s.motors ∧ (pulseUplink i edges period above s).senses = s.senses ∧
    (pulseUplink i edges period above s).analogs = s.analogs ∧ (pulseUplink i edges period above s).auxs = s.auxs ∧
    (pulseUplink i edges period above s).cards = s.cards ∧ (pulseUplink i edges period above s).service = s.service ∧
    (pulseUplink i edges period above s).seqr = s.seqr ∧ (pulseUplink i edges period above s).dies = s.dies ∧
    (pulseUplink i edges period above s).clusters = s.clusters ∧ (pulseUplink i edges period above s).integ = s.integ ∧
    (pulseUplink i edges period above s).copies = s.copies ∧ (pulseUplink i edges period above s).pair = s.pair ∧
    (pulseUplink i edges period above s).links = s.links ∧ (pulseUplink i edges period above s).hall = s.hall ∧
    (pulseUplink i edges period above s).buses = s.buses ∧ (pulseUplink i edges period above s).frameLog = s.frameLog ∧
    (pulseUplink i edges period above s).power = s.power ∧ (pulseUplink i edges period above s).ptp = s.ptp ∧
    (pulseUplink i edges period above s).fans = s.fans ∧ (pulseUplink i edges period above s).upds = s.upds ∧
    (pulseUplink i edges period above s).fw = s.fw ∧ (pulseUplink i edges period above s).log = s.log ∧
    (pulseUplink i edges period above s).bmu = s.bmu ∧ (pulseUplink i edges period above s).mirror = s.mirror ∧
    (pulseUplink i edges period above s).pending = s.pending := by
  unfold pulseUplink; (try dsimp only); (repeat' split) <;> simp

theorem aoUplink_frame (i rb : Nat) (above : Bool) (s : State) :
    (aoUplink i rb above s).now = s.now ∧ (aoUplink i rb above s).frame = s.frame ∧ (aoUplink i rb above s).free = s.free ∧
    (aoUplink i rb above s).outbox = s.outbox ∧ (aoUplink i rb above s).vcp = s.vcp ∧ (aoUplink i rb above s).plant = s.plant ∧
    (aoUplink i rb above s).broker = s.broker ∧ (aoUplink i rb above s).valves = s.valves ∧ (aoUplink i rb above s).motors = s.motors ∧
    (aoUplink i rb above s).senses = s.senses ∧ (aoUplink i rb above s).pulses = s.pulses ∧ (aoUplink i rb above s).auxs = s.auxs ∧
    (aoUplink i rb above s).cards = s.cards ∧ (aoUplink i rb above s).service = s.service ∧ (aoUplink i rb above s).seqr = s.seqr ∧
    (aoUplink i rb above s).dies = s.dies ∧ (aoUplink i rb above s).clusters = s.clusters ∧ (aoUplink i rb above s).integ = s.integ ∧
    (aoUplink i rb above s).copies = s.copies ∧ (aoUplink i rb above s).pair = s.pair ∧ (aoUplink i rb above s).links = s.links ∧
    (aoUplink i rb above s).hall = s.hall ∧ (aoUplink i rb above s).buses = s.buses ∧ (aoUplink i rb above s).frameLog = s.frameLog ∧
    (aoUplink i rb above s).power = s.power ∧ (aoUplink i rb above s).ptp = s.ptp ∧ (aoUplink i rb above s).fans = s.fans ∧
    (aoUplink i rb above s).upds = s.upds ∧ (aoUplink i rb above s).fw = s.fw ∧ (aoUplink i rb above s).log = s.log ∧
    (aoUplink i rb above s).bmu = s.bmu ∧ (aoUplink i rb above s).mirror = s.mirror ∧ (aoUplink i rb above s).pending = s.pending := by
  unfold aoUplink; (try dsimp only); (repeat' split) <;> simp

theorem motorUplink_frame (c : Nat) (periods : List Nat) (encRpm : Nat) (counts : Int) (open_ : Bool) (s : State) :
    (motorUplink c periods encRpm counts open_ s).now = s.now ∧ (motorUplink c periods encRpm counts open_ s).frame = s.frame ∧
    (motorUplink c periods encRpm counts open_ s).free = s.free ∧ (motorUplink c periods encRpm counts open_ s).regs = s.regs ∧
    (motorUplink c periods encRpm counts open_ s).outbox = s.outbox ∧ (motorUplink c periods encRpm counts open_ s).vcp = s.vcp ∧
    (motorUplink c periods encRpm counts open_ s).plant = s.plant ∧ (motorUplink c periods encRpm counts open_ s).broker = s.broker ∧
    (motorUplink c periods encRpm counts open_ s).valves = s.valves ∧ (motorUplink c periods encRpm counts open_ s).senses = s.senses ∧
    (motorUplink c periods encRpm counts open_ s).pulses = s.pulses ∧ (motorUplink c periods encRpm counts open_ s).analogs = s.analogs ∧
    (motorUplink c periods encRpm counts open_ s).auxs = s.auxs ∧ (motorUplink c periods encRpm counts open_ s).cards = s.cards ∧
    (motorUplink c periods encRpm counts open_ s).service = s.service ∧ (motorUplink c periods encRpm counts open_ s).seqr = s.seqr ∧
    (motorUplink c periods encRpm counts open_ s).dies = s.dies ∧ (motorUplink c periods encRpm counts open_ s).clusters = s.clusters ∧
    (motorUplink c periods encRpm counts open_ s).integ = s.integ ∧ (motorUplink c periods encRpm counts open_ s).copies = s.copies ∧
    (motorUplink c periods encRpm counts open_ s).pair = s.pair ∧ (motorUplink c periods encRpm counts open_ s).links = s.links ∧
    (motorUplink c periods encRpm counts open_ s).hall = s.hall ∧ (motorUplink c periods encRpm counts open_ s).buses = s.buses ∧
    (motorUplink c periods encRpm counts open_ s).frameLog = s.frameLog ∧ (motorUplink c periods encRpm counts open_ s).power = s.power ∧
    (motorUplink c periods encRpm counts open_ s).ptp = s.ptp ∧ (motorUplink c periods encRpm counts open_ s).fans = s.fans ∧
    (motorUplink c periods encRpm counts open_ s).upds = s.upds ∧ (motorUplink c periods encRpm counts open_ s).fw = s.fw ∧
    (motorUplink c periods encRpm counts open_ s).log = s.log ∧ (motorUplink c periods encRpm counts open_ s).bmu = s.bmu ∧
    (motorUplink c periods encRpm counts open_ s).mirror = s.mirror ∧
    (motorUplink c periods encRpm counts open_ s).pending = s.pending := by
  unfold motorUplink; (try dsimp only); (repeat' split) <;> simp

theorem discarded_frame (k hi lo : Nat) (s : State) :
    (discarded k hi lo s).now = s.now ∧ (discarded k hi lo s).frame = s.frame ∧ (discarded k hi lo s).free = s.free ∧
    (discarded k hi lo s).outbox = s.outbox ∧ (discarded k hi lo s).vcp = s.vcp ∧ (discarded k hi lo s).plant = s.plant ∧
    (discarded k hi lo s).broker = s.broker ∧ (discarded k hi lo s).valves = s.valves ∧ (discarded k hi lo s).motors = s.motors ∧
    (discarded k hi lo s).senses = s.senses ∧ (discarded k hi lo s).pulses = s.pulses ∧ (discarded k hi lo s).analogs = s.analogs ∧
    (discarded k hi lo s).auxs = s.auxs ∧ (discarded k hi lo s).service = s.service ∧ (discarded k hi lo s).seqr = s.seqr ∧
    (discarded k hi lo s).dies = s.dies ∧ (discarded k hi lo s).clusters = s.clusters ∧ (discarded k hi lo s).integ = s.integ ∧
    (discarded k hi lo s).copies = s.copies ∧ (discarded k hi lo s).pair = s.pair ∧ (discarded k hi lo s).links = s.links ∧
    (discarded k hi lo s).hall = s.hall ∧ (discarded k hi lo s).buses = s.buses ∧ (discarded k hi lo s).frameLog = s.frameLog ∧
    (discarded k hi lo s).power = s.power ∧ (discarded k hi lo s).ptp = s.ptp ∧ (discarded k hi lo s).fans = s.fans ∧
    (discarded k hi lo s).upds = s.upds ∧ (discarded k hi lo s).fw = s.fw ∧ (discarded k hi lo s).log = s.log ∧
    (discarded k hi lo s).bmu = s.bmu ∧ (discarded k hi lo s).mirror = s.mirror ∧ (discarded k hi lo s).pending = s.pending := by
  unfold discarded; (try dsimp only); (repeat' split) <;> simp

theorem uplink_frame (u : Uplink) (s : State) :
    (uplink u s).now = s.now ∧ (uplink u s).frame = s.frame ∧ (uplink u s).free = s.free ∧ (uplink u s).plant = s.plant ∧
    (uplink u s).auxs = s.auxs ∧ (uplink u s).service = s.service ∧ (uplink u s).seqr = s.seqr ∧ (uplink u s).dies = s.dies ∧
    (uplink u s).clusters = s.clusters ∧ (uplink u s).integ = s.integ ∧ (uplink u s).copies = s.copies ∧ (uplink u s).pair = s.pair ∧
    (uplink u s).links = s.links ∧ (uplink u s).hall = s.hall ∧ (uplink u s).buses = s.buses ∧ (uplink u s).frameLog = s.frameLog ∧
    (uplink u s).power = s.power ∧ (uplink u s).ptp = s.ptp ∧ (uplink u s).fans = s.fans ∧ (uplink u s).upds = s.upds ∧
    (uplink u s).fw = s.fw ∧ (uplink u s).bmu = s.bmu ∧ (uplink u s).mirror = s.mirror ∧ (uplink u s).pending = s.pending := by
  have e1 := @valveSamples_frame
  have e2 := @motorUplink_frame
  have e3 := @senseUplink_frame
  have e4 := @pulseUplink_frame
  have e5 := @aoUplink_frame
  have e6 := @discarded_frame
  have e7 := @decayRack_frame
  have e8 := @decaySector_frame
  unfold uplink; (try dsimp only); (repeat' split) <;> simp [e1, e2, e3, e4, e5, e6, e7, e8]

theorem nodeStale_frame (r : Nat) (s : State) :
    (nodeStale r s).now = s.now ∧ (nodeStale r s).frame = s.frame ∧ (nodeStale r s).free = s.free ∧ (nodeStale r s).outbox = s.outbox ∧
    (nodeStale r s).vcp = s.vcp ∧ (nodeStale r s).plant = s.plant ∧ (nodeStale r s).valves = s.valves ∧ (nodeStale r s).motors = s.motors ∧
    (nodeStale r s).senses = s.senses ∧ (nodeStale r s).pulses = s.pulses ∧ (nodeStale r s).analogs = s.analogs ∧
    (nodeStale r s).auxs = s.auxs ∧ (nodeStale r s).cards = s.cards ∧ (nodeStale r s).service = s.service ∧ (nodeStale r s).seqr = s.seqr ∧
    (nodeStale r s).dies = s.dies ∧ (nodeStale r s).clusters = s.clusters ∧ (nodeStale r s).integ = s.integ ∧
    (nodeStale r s).copies = s.copies ∧ (nodeStale r s).pair = s.pair ∧ (nodeStale r s).links = s.links ∧ (nodeStale r s).hall = s.hall ∧
    (nodeStale r s).buses = s.buses ∧ (nodeStale r s).frameLog = s.frameLog ∧ (nodeStale r s).power = s.power ∧
    (nodeStale r s).ptp = s.ptp ∧ (nodeStale r s).fans = s.fans ∧ (nodeStale r s).upds = s.upds ∧ (nodeStale r s).fw = s.fw ∧
    (nodeStale r s).log = s.log ∧ (nodeStale r s).bmu = s.bmu ∧ (nodeStale r s).mirror = s.mirror ∧
    (nodeStale r s).pending = s.pending := by
  unfold nodeStale; (try dsimp only); (repeat' split) <;> simp

theorem loopStale_frame (l : Nat) (stale : Bool) (s : State) :
    (loopStale l stale s).now = s.now ∧ (loopStale l stale s).frame = s.frame ∧ (loopStale l stale s).free = s.free ∧
    (loopStale l stale s).outbox = s.outbox ∧ (loopStale l stale s).vcp = s.vcp ∧ (loopStale l stale s).broker = s.broker ∧
    (loopStale l stale s).valves = s.valves ∧ (loopStale l stale s).motors = s.motors ∧ (loopStale l stale s).senses = s.senses ∧
    (loopStale l stale s).pulses = s.pulses ∧ (loopStale l stale s).analogs = s.analogs ∧ (loopStale l stale s).auxs = s.auxs ∧
    (loopStale l stale s).cards = s.cards ∧ (loopStale l stale s).service = s.service ∧ (loopStale l stale s).seqr = s.seqr ∧
    (loopStale l stale s).dies = s.dies ∧ (loopStale l stale s).clusters = s.clusters ∧ (loopStale l stale s).integ = s.integ ∧
    (loopStale l stale s).copies = s.copies ∧ (loopStale l stale s).pair = s.pair ∧ (loopStale l stale s).links = s.links ∧
    (loopStale l stale s).hall = s.hall ∧ (loopStale l stale s).buses = s.buses ∧ (loopStale l stale s).frameLog = s.frameLog ∧
    (loopStale l stale s).power = s.power ∧ (loopStale l stale s).ptp = s.ptp ∧ (loopStale l stale s).fans = s.fans ∧
    (loopStale l stale s).upds = s.upds ∧ (loopStale l stale s).fw = s.fw ∧ (loopStale l stale s).log = s.log ∧
    (loopStale l stale s).bmu = s.bmu ∧ (loopStale l stale s).mirror = s.mirror ∧ (loopStale l stale s).pending = s.pending := by
  unfold loopStale; (try dsimp only); (repeat' split) <;> simp

theorem ownSensor_frame (l : Nat) (ok : Bool) (s : State) :
    (ownSensor l ok s).now = s.now ∧ (ownSensor l ok s).frame = s.frame ∧ (ownSensor l ok s).free = s.free ∧
    (ownSensor l ok s).regs = s.regs ∧ (ownSensor l ok s).outbox = s.outbox ∧ (ownSensor l ok s).vcp = s.vcp ∧
    (ownSensor l ok s).broker = s.broker ∧ (ownSensor l ok s).valves = s.valves ∧ (ownSensor l ok s).motors = s.motors ∧
    (ownSensor l ok s).senses = s.senses ∧ (ownSensor l ok s).pulses = s.pulses ∧ (ownSensor l ok s).analogs = s.analogs ∧
    (ownSensor l ok s).auxs = s.auxs ∧ (ownSensor l ok s).cards = s.cards ∧ (ownSensor l ok s).service = s.service ∧
    (ownSensor l ok s).seqr = s.seqr ∧ (ownSensor l ok s).dies = s.dies ∧ (ownSensor l ok s).clusters = s.clusters ∧
    (ownSensor l ok s).integ = s.integ ∧ (ownSensor l ok s).copies = s.copies ∧ (ownSensor l ok s).pair = s.pair ∧
    (ownSensor l ok s).links = s.links ∧ (ownSensor l ok s).hall = s.hall ∧ (ownSensor l ok s).buses = s.buses ∧
    (ownSensor l ok s).frameLog = s.frameLog ∧ (ownSensor l ok s).power = s.power ∧ (ownSensor l ok s).ptp = s.ptp ∧
    (ownSensor l ok s).fans = s.fans ∧ (ownSensor l ok s).upds = s.upds ∧ (ownSensor l ok s).fw = s.fw ∧ (ownSensor l ok s).log = s.log ∧
    (ownSensor l ok s).bmu = s.bmu ∧ (ownSensor l ok s).mirror = s.mirror ∧ (ownSensor l ok s).pending = s.pending := by
  unfold ownSensor; (try dsimp only); (repeat' split) <;> simp

theorem processValues_frame (s : State) :
    (processValues s).now = s.now ∧ (processValues s).frame = s.frame ∧ (processValues s).free = s.free ∧
    (processValues s).outbox = s.outbox ∧ (processValues s).vcp = s.vcp ∧ (processValues s).valves = s.valves ∧
    (processValues s).motors = s.motors ∧ (processValues s).senses = s.senses ∧ (processValues s).pulses = s.pulses ∧
    (processValues s).analogs = s.analogs ∧ (processValues s).auxs = s.auxs ∧ (processValues s).cards = s.cards ∧
    (processValues s).service = s.service ∧ (processValues s).seqr = s.seqr ∧ (processValues s).dies = s.dies ∧
    (processValues s).clusters = s.clusters ∧ (processValues s).integ = s.integ ∧ (processValues s).copies = s.copies ∧
    (processValues s).pair = s.pair ∧ (processValues s).links = s.links ∧ (processValues s).hall = s.hall ∧
    (processValues s).buses = s.buses ∧ (processValues s).frameLog = s.frameLog ∧ (processValues s).power = s.power ∧
    (processValues s).ptp = s.ptp ∧ (processValues s).fans = s.fans ∧ (processValues s).upds = s.upds ∧ (processValues s).fw = s.fw ∧
    (processValues s).log = s.log ∧ (processValues s).bmu = s.bmu ∧ (processValues s).mirror = s.mirror ∧
    (processValues s).pending = s.pending := by
  have e1 := @nodeStale_frame
  have e2 := @loopStale_frame
  have e3 := @ownSensor_frame
  unfold processValues; (try dsimp only); (repeat' split) <;> simp [e1, e2, e3]

theorem bandEdges_frame (l : Nat) (mask : BitVec 8) (s : State) :
    (bandEdges l mask s).now = s.now ∧ (bandEdges l mask s).frame = s.frame ∧ (bandEdges l mask s).free = s.free ∧
    (bandEdges l mask s).regs = s.regs ∧ (bandEdges l mask s).outbox = s.outbox ∧ (bandEdges l mask s).vcp = s.vcp ∧
    (bandEdges l mask s).valves = s.valves ∧ (bandEdges l mask s).motors = s.motors ∧ (bandEdges l mask s).senses = s.senses ∧
    (bandEdges l mask s).pulses = s.pulses ∧ (bandEdges l mask s).analogs = s.analogs ∧ (bandEdges l mask s).auxs = s.auxs ∧
    (bandEdges l mask s).cards = s.cards ∧ (bandEdges l mask s).service = s.service ∧ (bandEdges l mask s).seqr = s.seqr ∧
    (bandEdges l mask s).dies = s.dies ∧ (bandEdges l mask s).clusters = s.clusters ∧ (bandEdges l mask s).integ = s.integ ∧
    (bandEdges l mask s).copies = s.copies ∧ (bandEdges l mask s).pair = s.pair ∧ (bandEdges l mask s).links = s.links ∧
    (bandEdges l mask s).hall = s.hall ∧ (bandEdges l mask s).buses = s.buses ∧ (bandEdges l mask s).frameLog = s.frameLog ∧
    (bandEdges l mask s).power = s.power ∧ (bandEdges l mask s).ptp = s.ptp ∧ (bandEdges l mask s).fans = s.fans ∧
    (bandEdges l mask s).upds = s.upds ∧ (bandEdges l mask s).fw = s.fw ∧ (bandEdges l mask s).log = s.log ∧
    (bandEdges l mask s).bmu = s.bmu ∧ (bandEdges l mask s).mirror = s.mirror ∧ (bandEdges l mask s).pending = s.pending := by
  unfold bandEdges; (try dsimp only); (repeat' split) <;> simp

theorem applyBands_frame (s : State) :
    (applyBands s).now = s.now ∧ (applyBands s).frame = s.frame ∧ (applyBands s).free = s.free ∧ (applyBands s).valves = s.valves ∧
    (applyBands s).motors = s.motors ∧ (applyBands s).senses = s.senses ∧ (applyBands s).pulses = s.pulses ∧
    (applyBands s).analogs = s.analogs ∧ (applyBands s).auxs = s.auxs ∧ (applyBands s).cards = s.cards ∧
    (applyBands s).service = s.service ∧ (applyBands s).seqr = s.seqr ∧ (applyBands s).dies = s.dies ∧
    (applyBands s).clusters = s.clusters ∧ (applyBands s).integ = s.integ ∧ (applyBands s).copies = s.copies ∧
    (applyBands s).pair = s.pair ∧ (applyBands s).links = s.links ∧ (applyBands s).hall = s.hall ∧ (applyBands s).buses = s.buses ∧
    (applyBands s).frameLog = s.frameLog ∧ (applyBands s).power = s.power ∧ (applyBands s).ptp = s.ptp ∧ (applyBands s).fans = s.fans ∧
    (applyBands s).upds = s.upds ∧ (applyBands s).fw = s.fw ∧ (applyBands s).bmu = s.bmu ∧ (applyBands s).mirror = s.mirror ∧
    (applyBands s).pending = s.pending := by
  have e1 := @bandEdges_frame
  unfold applyBands; (try dsimp only); (repeat' split) <;> (first | (simp [e1]; done) | (simp (disch := (intros; (repeat' split) <;> simp [e1])) [e1]; done))

theorem applyCtrl_frame (s : State) :
    (applyCtrl s).now = s.now ∧ (applyCtrl s).frame = s.frame ∧ (applyCtrl s).free = s.free ∧ (applyCtrl s).regs = s.regs ∧
    (applyCtrl s).outbox = s.outbox ∧ (applyCtrl s).vcp = s.vcp ∧ (applyCtrl s).broker = s.broker ∧ (applyCtrl s).valves = s.valves ∧
    (applyCtrl s).motors = s.motors ∧ (applyCtrl s).senses = s.senses ∧ (applyCtrl s).pulses = s.pulses ∧
    (applyCtrl s).analogs = s.analogs ∧ (applyCtrl s).auxs = s.auxs ∧ (applyCtrl s).cards = s.cards ∧ (applyCtrl s).service = s.service ∧
    (applyCtrl s).seqr = s.seqr ∧ (applyCtrl s).dies = s.dies ∧ (applyCtrl s).clusters = s.clusters ∧ (applyCtrl s).integ = s.integ ∧
    (applyCtrl s).copies = s.copies ∧ (applyCtrl s).pair = s.pair ∧ (applyCtrl s).links = s.links ∧ (applyCtrl s).hall = s.hall ∧
    (applyCtrl s).buses = s.buses ∧ (applyCtrl s).frameLog = s.frameLog ∧ (applyCtrl s).power = s.power ∧ (applyCtrl s).ptp = s.ptp ∧
    (applyCtrl s).fans = s.fans ∧ (applyCtrl s).upds = s.upds ∧ (applyCtrl s).fw = s.fw ∧ (applyCtrl s).log = s.log ∧
    (applyCtrl s).bmu = s.bmu ∧ (applyCtrl s).mirror = s.mirror ∧ (applyCtrl s).pending = s.pending := by
  unfold applyCtrl; (try dsimp only); (repeat' split) <;> simp

theorem frameCard_frame (k : Nat) (s : State) :
    (frameCard k s).now = s.now ∧ (frameCard k s).frame = s.frame ∧ (frameCard k s).free = s.free ∧ (frameCard k s).vcp = s.vcp ∧
    (frameCard k s).motors = s.motors ∧ (frameCard k s).senses = s.senses ∧ (frameCard k s).pulses = s.pulses ∧
    (frameCard k s).analogs = s.analogs ∧ (frameCard k s).auxs = s.auxs ∧ (frameCard k s).service = s.service ∧
    (frameCard k s).seqr = s.seqr ∧ (frameCard k s).dies = s.dies ∧ (frameCard k s).clusters = s.clusters ∧
    (frameCard k s).integ = s.integ ∧ (frameCard k s).copies = s.copies ∧ (frameCard k s).pair = s.pair ∧ (frameCard k s).links = s.links ∧
    (frameCard k s).hall = s.hall ∧ (frameCard k s).buses = s.buses ∧ (frameCard k s).frameLog = s.frameLog ∧
    (frameCard k s).power = s.power ∧ (frameCard k s).ptp = s.ptp ∧ (frameCard k s).fans = s.fans ∧ (frameCard k s).upds = s.upds ∧
    (frameCard k s).fw = s.fw ∧ (frameCard k s).bmu = s.bmu ∧ (frameCard k s).mirror = s.mirror ∧ (frameCard k s).pending = s.pending := by
  have e1 := @repullLeak_frame
  unfold frameCard; (try dsimp only); (repeat' split) <;> simp [e1]

theorem moveLoop_frame (l : Nat) (s : State) :
    (moveLoop l s).now = s.now ∧ (moveLoop l s).frame = s.frame ∧ (moveLoop l s).free = s.free ∧ (moveLoop l s).regs = s.regs ∧
    (moveLoop l s).outbox = s.outbox ∧ (moveLoop l s).vcp = s.vcp ∧ (moveLoop l s).broker = s.broker ∧ (moveLoop l s).valves = s.valves ∧
    (moveLoop l s).motors = s.motors ∧ (moveLoop l s).senses = s.senses ∧ (moveLoop l s).pulses = s.pulses ∧
    (moveLoop l s).analogs = s.analogs ∧ (moveLoop l s).auxs = s.auxs ∧ (moveLoop l s).cards = s.cards ∧
    (moveLoop l s).service = s.service ∧ (moveLoop l s).seqr = s.seqr ∧ (moveLoop l s).dies = s.dies ∧
    (moveLoop l s).clusters = s.clusters ∧ (moveLoop l s).integ = s.integ ∧ (moveLoop l s).copies = s.copies ∧
    (moveLoop l s).pair = s.pair ∧ (moveLoop l s).links = s.links ∧ (moveLoop l s).hall = s.hall ∧ (moveLoop l s).buses = s.buses ∧
    (moveLoop l s).frameLog = s.frameLog ∧ (moveLoop l s).power = s.power ∧ (moveLoop l s).ptp = s.ptp ∧ (moveLoop l s).fans = s.fans ∧
    (moveLoop l s).upds = s.upds ∧ (moveLoop l s).fw = s.fw ∧ (moveLoop l s).log = s.log ∧ (moveLoop l s).bmu = s.bmu ∧
    (moveLoop l s).mirror = s.mirror ∧ (moveLoop l s).pending = s.pending := by
  unfold moveLoop; (try dsimp only); (repeat' split) <;> simp

theorem moveRack_frame (r : Nat) (s : State) :
    (moveRack r s).now = s.now ∧ (moveRack r s).frame = s.frame ∧ (moveRack r s).free = s.free ∧ (moveRack r s).regs = s.regs ∧
    (moveRack r s).vcp = s.vcp ∧ (moveRack r s).plant = s.plant ∧ (moveRack r s).valves = s.valves ∧ (moveRack r s).motors = s.motors ∧
    (moveRack r s).senses = s.senses ∧ (moveRack r s).pulses = s.pulses ∧ (moveRack r s).analogs = s.analogs ∧
    (moveRack r s).auxs = s.auxs ∧ (moveRack r s).cards = s.cards ∧ (moveRack r s).service = s.service ∧ (moveRack r s).seqr = s.seqr ∧
    (moveRack r s).dies = s.dies ∧ (moveRack r s).clusters = s.clusters ∧ (moveRack r s).integ = s.integ ∧
    (moveRack r s).copies = s.copies ∧ (moveRack r s).pair = s.pair ∧ (moveRack r s).links = s.links ∧ (moveRack r s).hall = s.hall ∧
    (moveRack r s).buses = s.buses ∧ (moveRack r s).frameLog = s.frameLog ∧ (moveRack r s).power = s.power ∧ (moveRack r s).ptp = s.ptp ∧
    (moveRack r s).fans = s.fans ∧ (moveRack r s).upds = s.upds ∧ (moveRack r s).fw = s.fw ∧ (moveRack r s).log = s.log ∧
    (moveRack r s).bmu = s.bmu ∧ (moveRack r s).mirror = s.mirror ∧ (moveRack r s).pending = s.pending := by
  unfold moveRack; (try dsimp only); (repeat' split) <;> simp

theorem movePump_frame (push : Bool) (p : Nat) (s : State) :
    (movePump push p s).now = s.now ∧ (movePump push p s).frame = s.frame ∧ (movePump push p s).free = s.free ∧
    (movePump push p s).broker = s.broker ∧ (movePump push p s).valves = s.valves ∧ (movePump push p s).senses = s.senses ∧
    (movePump push p s).pulses = s.pulses ∧ (movePump push p s).analogs = s.analogs ∧ (movePump push p s).auxs = s.auxs ∧
    (movePump push p s).cards = s.cards ∧ (movePump push p s).service = s.service ∧ (movePump push p s).seqr = s.seqr ∧
    (movePump push p s).dies = s.dies ∧ (movePump push p s).clusters = s.clusters ∧ (movePump push p s).integ = s.integ ∧
    (movePump push p s).copies = s.copies ∧ (movePump push p s).pair = s.pair ∧ (movePump push p s).links = s.links ∧
    (movePump push p s).hall = s.hall ∧ (movePump push p s).buses = s.buses ∧ (movePump push p s).frameLog = s.frameLog ∧
    (movePump push p s).power = s.power ∧ (movePump push p s).ptp = s.ptp ∧ (movePump push p s).fans = s.fans ∧
    (movePump push p s).upds = s.upds ∧ (movePump push p s).fw = s.fw ∧ (movePump push p s).bmu = s.bmu ∧
    (movePump push p s).mirror = s.mirror ∧ (movePump push p s).pending = s.pending := by
  have e1 := @pumpSpeed_frame
  unfold movePump; (try dsimp only); (repeat' split) <;> simp [e1]

theorem moveAnalog_frame (i : Nat) (s : State) :
    (moveAnalog i s).now = s.now ∧ (moveAnalog i s).frame = s.frame ∧ (moveAnalog i s).free = s.free ∧ (moveAnalog i s).outbox = s.outbox ∧
    (moveAnalog i s).vcp = s.vcp ∧ (moveAnalog i s).broker = s.broker ∧ (moveAnalog i s).valves = s.valves ∧
    (moveAnalog i s).motors = s.motors ∧ (moveAnalog i s).senses = s.senses ∧ (moveAnalog i s).pulses = s.pulses ∧
    (moveAnalog i s).auxs = s.auxs ∧ (moveAnalog i s).cards = s.cards ∧ (moveAnalog i s).service = s.service ∧
    (moveAnalog i s).seqr = s.seqr ∧ (moveAnalog i s).dies = s.dies ∧ (moveAnalog i s).clusters = s.clusters ∧
    (moveAnalog i s).integ = s.integ ∧ (moveAnalog i s).copies = s.copies ∧ (moveAnalog i s).pair = s.pair ∧
    (moveAnalog i s).links = s.links ∧ (moveAnalog i s).hall = s.hall ∧ (moveAnalog i s).buses = s.buses ∧
    (moveAnalog i s).frameLog = s.frameLog ∧ (moveAnalog i s).power = s.power ∧ (moveAnalog i s).ptp = s.ptp ∧
    (moveAnalog i s).fans = s.fans ∧ (moveAnalog i s).upds = s.upds ∧ (moveAnalog i s).fw = s.fw ∧ (moveAnalog i s).log = s.log ∧
    (moveAnalog i s).bmu = s.bmu ∧ (moveAnalog i s).mirror = s.mirror ∧ (moveAnalog i s).pending = s.pending := by
  unfold moveAnalog; (try dsimp only); (repeat' split) <;> simp

theorem frameOutputs_frame (s : State) :
    (frameOutputs s).now = s.now ∧ (frameOutputs s).frame = s.frame ∧ (frameOutputs s).free = s.free ∧ (frameOutputs s).valves = s.valves ∧
    (frameOutputs s).senses = s.senses ∧ (frameOutputs s).pulses = s.pulses ∧ (frameOutputs s).auxs = s.auxs ∧
    (frameOutputs s).cards = s.cards ∧ (frameOutputs s).service = s.service ∧ (frameOutputs s).seqr = s.seqr ∧
    (frameOutputs s).dies = s.dies ∧ (frameOutputs s).clusters = s.clusters ∧ (frameOutputs s).integ = s.integ ∧
    (frameOutputs s).copies = s.copies ∧ (frameOutputs s).pair = s.pair ∧ (frameOutputs s).links = s.links ∧
    (frameOutputs s).hall = s.hall ∧ (frameOutputs s).buses = s.buses ∧ (frameOutputs s).frameLog = s.frameLog ∧
    (frameOutputs s).power = s.power ∧ (frameOutputs s).ptp = s.ptp ∧ (frameOutputs s).fans = s.fans ∧ (frameOutputs s).upds = s.upds ∧
    (frameOutputs s).fw = s.fw ∧ (frameOutputs s).bmu = s.bmu ∧ (frameOutputs s).mirror = s.mirror ∧
    (frameOutputs s).pending = s.pending := by
  have e1 := @moveLoop_frame
  have e2 := @repeatSpeed_frame
  have e3 := @movePump_frame
  have e4 := @moveRack_frame
  have e5 := @moveAnalog_frame
  unfold frameOutputs; (try dsimp only); (repeat' split) <;> simp [e1, e2, e3, e4, e5]

theorem frameBands_frame (s : State) :
    (frameBands s).now = s.now ∧ (frameBands s).frame = s.frame ∧ (frameBands s).free = s.free ∧ (frameBands s).valves = s.valves ∧
    (frameBands s).motors = s.motors ∧ (frameBands s).senses = s.senses ∧ (frameBands s).pulses = s.pulses ∧
    (frameBands s).analogs = s.analogs ∧ (frameBands s).auxs = s.auxs ∧ (frameBands s).cards = s.cards ∧
    (frameBands s).service = s.service ∧ (frameBands s).seqr = s.seqr ∧ (frameBands s).dies = s.dies ∧
    (frameBands s).clusters = s.clusters ∧ (frameBands s).integ = s.integ ∧ (frameBands s).copies = s.copies ∧
    (frameBands s).pair = s.pair ∧ (frameBands s).links = s.links ∧ (frameBands s).hall = s.hall ∧ (frameBands s).buses = s.buses ∧
    (frameBands s).frameLog = s.frameLog ∧ (frameBands s).power = s.power ∧ (frameBands s).ptp = s.ptp ∧ (frameBands s).fans = s.fans ∧
    (frameBands s).upds = s.upds ∧ (frameBands s).fw = s.fw ∧ (frameBands s).bmu = s.bmu ∧ (frameBands s).mirror = s.mirror ∧
    (frameBands s).pending = s.pending := by
  have e1 := @applyBands_frame
  have e2 := @applyCtrl_frame
  unfold frameBands; (try dsimp only); (repeat' split) <;> simp [e1, e2]

theorem completeTimed_frame (s : State) :
    (completeTimed s).now = s.now ∧ (completeTimed s).frame = s.frame ∧ (completeTimed s).free = s.free ∧
    (completeTimed s).plant = s.plant ∧ (completeTimed s).broker = s.broker ∧ (completeTimed s).valves = s.valves ∧
    (completeTimed s).motors = s.motors ∧ (completeTimed s).senses = s.senses ∧ (completeTimed s).pulses = s.pulses ∧
    (completeTimed s).analogs = s.analogs ∧ (completeTimed s).auxs = s.auxs ∧ (completeTimed s).cards = s.cards ∧
    (completeTimed s).service = s.service ∧ (completeTimed s).seqr = s.seqr ∧ (completeTimed s).dies = s.dies ∧
    (completeTimed s).clusters = s.clusters ∧ (completeTimed s).integ = s.integ ∧ (completeTimed s).copies = s.copies ∧
    (completeTimed s).pair = s.pair ∧ (completeTimed s).links = s.links ∧ (completeTimed s).hall = s.hall ∧
    (completeTimed s).buses = s.buses ∧ (completeTimed s).frameLog = s.frameLog ∧ (completeTimed s).power = s.power ∧
    (completeTimed s).ptp = s.ptp ∧ (completeTimed s).fans = s.fans ∧ (completeTimed s).upds = s.upds ∧ (completeTimed s).fw = s.fw ∧
    (completeTimed s).bmu = s.bmu ∧ (completeTimed s).mirror = s.mirror ∧ (completeTimed s).pending = s.pending := by
  unfold completeTimed; (try dsimp only); (repeat' split) <;> simp

theorem enterRun_frame (seq : BitVec 32) (s : State) :
    (enterRun seq s).now = s.now ∧ (enterRun seq s).frame = s.frame ∧ (enterRun seq s).valves = s.valves ∧
    (enterRun seq s).senses = s.senses ∧ (enterRun seq s).pulses = s.pulses ∧ (enterRun seq s).analogs = s.analogs ∧
    (enterRun seq s).auxs = s.auxs ∧ (enterRun seq s).cards = s.cards ∧ (enterRun seq s).service = s.service ∧
    (enterRun seq s).dies = s.dies ∧ (enterRun seq s).clusters = s.clusters ∧ (enterRun seq s).copies = s.copies ∧
    (enterRun seq s).pair = s.pair ∧ (enterRun seq s).links = s.links ∧ (enterRun seq s).hall = s.hall ∧ (enterRun seq s).buses = s.buses ∧
    (enterRun seq s).frameLog = s.frameLog ∧ (enterRun seq s).power = s.power ∧ (enterRun seq s).ptp = s.ptp ∧
    (enterRun seq s).fans = s.fans ∧ (enterRun seq s).upds = s.upds ∧ (enterRun seq s).fw = s.fw ∧ (enterRun seq s).bmu = s.bmu ∧
    (enterRun seq s).mirror = s.mirror ∧ (enterRun seq s).pending = s.pending := by
  have e1 := @changeMode_frame
  unfold enterRun; (try dsimp only); (repeat' split) <;> simp [e1]

theorem releaseTrip_frame (m : Mode) (s : State) :
    (releaseTrip m s).now = s.now ∧ (releaseTrip m s).frame = s.frame ∧ (releaseTrip m s).free = s.free ∧ (releaseTrip m s).regs = s.regs ∧
    (releaseTrip m s).outbox = s.outbox ∧ (releaseTrip m s).vcp = s.vcp ∧ (releaseTrip m s).valves = s.valves ∧
    (releaseTrip m s).motors = s.motors ∧ (releaseTrip m s).senses = s.senses ∧ (releaseTrip m s).pulses = s.pulses ∧
    (releaseTrip m s).analogs = s.analogs ∧ (releaseTrip m s).auxs = s.auxs ∧ (releaseTrip m s).cards = s.cards ∧
    (releaseTrip m s).service = s.service ∧ (releaseTrip m s).seqr = s.seqr ∧ (releaseTrip m s).dies = s.dies ∧
    (releaseTrip m s).clusters = s.clusters ∧ (releaseTrip m s).integ = s.integ ∧ (releaseTrip m s).copies = s.copies ∧
    (releaseTrip m s).pair = s.pair ∧ (releaseTrip m s).links = s.links ∧ (releaseTrip m s).hall = s.hall ∧
    (releaseTrip m s).buses = s.buses ∧ (releaseTrip m s).frameLog = s.frameLog ∧ (releaseTrip m s).power = s.power ∧
    (releaseTrip m s).ptp = s.ptp ∧ (releaseTrip m s).fans = s.fans ∧ (releaseTrip m s).upds = s.upds ∧ (releaseTrip m s).fw = s.fw ∧
    (releaseTrip m s).log = s.log ∧ (releaseTrip m s).bmu = s.bmu ∧ (releaseTrip m s).mirror = s.mirror ∧
    (releaseTrip m s).pending = s.pending := by
  have e1 := @rowEnd_frame
  unfold releaseTrip; (try dsimp only); (repeat' split) <;> simp [e1]

theorem ownTransitions_frame (s : State) :
    (ownTransitions s).now = s.now ∧ (ownTransitions s).frame = s.frame ∧ (ownTransitions s).valves = s.valves ∧
    (ownTransitions s).senses = s.senses ∧ (ownTransitions s).pulses = s.pulses ∧ (ownTransitions s).analogs = s.analogs ∧
    (ownTransitions s).auxs = s.auxs ∧ (ownTransitions s).cards = s.cards ∧ (ownTransitions s).service = s.service ∧
    (ownTransitions s).dies = s.dies ∧ (ownTransitions s).clusters = s.clusters ∧ (ownTransitions s).copies = s.copies ∧
    (ownTransitions s).pair = s.pair ∧ (ownTransitions s).links = s.links ∧ (ownTransitions s).hall = s.hall ∧
    (ownTransitions s).buses = s.buses ∧ (ownTransitions s).frameLog = s.frameLog ∧ (ownTransitions s).power = s.power ∧
    (ownTransitions s).ptp = s.ptp ∧ (ownTransitions s).fans = s.fans ∧ (ownTransitions s).upds = s.upds ∧ (ownTransitions s).fw = s.fw ∧
    (ownTransitions s).bmu = s.bmu ∧ (ownTransitions s).mirror = s.mirror ∧ (ownTransitions s).pending = s.pending := by
  have e1 := @engineFall_frame
  have e2 := @leaveIsolate_frame
  have e3 := @startLeaks_frame
  have e4 := @returnEngine_frame
  unfold ownTransitions; (try dsimp only); (repeat' split) <;> simp [e1, e2, e3, e4]

theorem queueBands_frame (o : Origin) (l : List BandEntry) (s : State) :
    (queueBands o l s).now = s.now ∧ (queueBands o l s).frame = s.frame ∧ (queueBands o l s).free = s.free ∧
    (queueBands o l s).regs = s.regs ∧ (queueBands o l s).vcp = s.vcp ∧ (queueBands o l s).broker = s.broker ∧
    (queueBands o l s).valves = s.valves ∧ (queueBands o l s).motors = s.motors ∧ (queueBands o l s).senses = s.senses ∧
    (queueBands o l s).pulses = s.pulses ∧ (queueBands o l s).analogs = s.analogs ∧ (queueBands o l s).auxs = s.auxs ∧
    (queueBands o l s).cards = s.cards ∧ (queueBands o l s).service = s.service ∧ (queueBands o l s).seqr = s.seqr ∧
    (queueBands o l s).dies = s.dies ∧ (queueBands o l s).clusters = s.clusters ∧ (queueBands o l s).integ = s.integ ∧
    (queueBands o l s).copies = s.copies ∧ (queueBands o l s).pair = s.pair ∧ (queueBands o l s).links = s.links ∧
    (queueBands o l s).hall = s.hall ∧ (queueBands o l s).buses = s.buses ∧ (queueBands o l s).frameLog = s.frameLog ∧
    (queueBands o l s).power = s.power ∧ (queueBands o l s).ptp = s.ptp ∧ (queueBands o l s).fans = s.fans ∧
    (queueBands o l s).upds = s.upds ∧ (queueBands o l s).fw = s.fw ∧ (queueBands o l s).log = s.log ∧ (queueBands o l s).bmu = s.bmu ∧
    (queueBands o l s).mirror = s.mirror ∧ (queueBands o l s).pending = s.pending := by
  unfold queueBands; (try dsimp only); (repeat' split) <;> simp

theorem boundCut_frame (decided : Time) (l d : Nat) (s : State) :
    (boundCut decided l d s).now = s.now ∧ (boundCut decided l d s).frame = s.frame ∧ (boundCut decided l d s).vcp = s.vcp ∧
    (boundCut decided l d s).plant = s.plant ∧ (boundCut decided l d s).valves = s.valves ∧ (boundCut decided l d s).motors = s.motors ∧
    (boundCut decided l d s).senses = s.senses ∧ (boundCut decided l d s).pulses = s.pulses ∧ (boundCut decided l d s).analogs = s.analogs ∧
    (boundCut decided l d s).auxs = s.auxs ∧ (boundCut decided l d s).cards = s.cards ∧ (boundCut decided l d s).service = s.service ∧
    (boundCut decided l d s).seqr = s.seqr ∧ (boundCut decided l d s).dies = s.dies ∧ (boundCut decided l d s).clusters = s.clusters ∧
    (boundCut decided l d s).integ = s.integ ∧ (boundCut decided l d s).copies = s.copies ∧ (boundCut decided l d s).pair = s.pair ∧
    (boundCut decided l d s).links = s.links ∧ (boundCut decided l d s).hall = s.hall ∧ (boundCut decided l d s).buses = s.buses ∧
    (boundCut decided l d s).frameLog = s.frameLog ∧ (boundCut decided l d s).power = s.power ∧ (boundCut decided l d s).ptp = s.ptp ∧
    (boundCut decided l d s).fans = s.fans ∧ (boundCut decided l d s).upds = s.upds ∧ (boundCut decided l d s).fw = s.fw ∧
    (boundCut decided l d s).bmu = s.bmu ∧ (boundCut decided l d s).mirror = s.mirror ∧ (boundCut decided l d s).pending = s.pending := by
  have e1 := @lowerCap_frame
  unfold boundCut
  dsimp only
  split
  · simp [e1]
  · simp (disch := (intros; split <;> simp [e1])) [e1]

theorem rowAfter_frame (row : ReflexRow) (d : Nat) (s : State) :
    (rowAfter row d s).now = s.now ∧ (rowAfter row d s).frame = s.frame ∧ (rowAfter row d s).valves = s.valves ∧
    (rowAfter row d s).senses = s.senses ∧ (rowAfter row d s).pulses = s.pulses ∧ (rowAfter row d s).analogs = s.analogs ∧
    (rowAfter row d s).auxs = s.auxs ∧ (rowAfter row d s).cards = s.cards ∧ (rowAfter row d s).service = s.service ∧
    (rowAfter row d s).seqr = s.seqr ∧ (rowAfter row d s).dies = s.dies ∧ (rowAfter row d s).clusters = s.clusters ∧
    (rowAfter row d s).integ = s.integ ∧ (rowAfter row d s).copies = s.copies ∧ (rowAfter row d s).pair = s.pair ∧
    (rowAfter row d s).links = s.links ∧ (rowAfter row d s).hall = s.hall ∧ (rowAfter row d s).buses = s.buses ∧
    (rowAfter row d s).frameLog = s.frameLog ∧ (rowAfter row d s).power = s.power ∧ (rowAfter row d s).ptp = s.ptp ∧
    (rowAfter row d s).fans = s.fans ∧ (rowAfter row d s).upds = s.upds ∧ (rowAfter row d s).fw = s.fw ∧ (rowAfter row d s).bmu = s.bmu ∧
    (rowAfter row d s).mirror = s.mirror ∧ (rowAfter row d s).pending = s.pending := by
  have e1 := @rowStart_frame
  unfold rowAfter; (try dsimp only); (repeat' split) <;> simp [e1]

theorem chooseReserve_frame (s : State) :
    (chooseReserve s).now = s.now ∧ (chooseReserve s).frame = s.frame ∧ (chooseReserve s).free = s.free ∧ (chooseReserve s).regs = s.regs ∧
    (chooseReserve s).outbox = s.outbox ∧ (chooseReserve s).vcp = s.vcp ∧ (chooseReserve s).broker = s.broker ∧
    (chooseReserve s).valves = s.valves ∧ (chooseReserve s).motors = s.motors ∧ (chooseReserve s).senses = s.senses ∧
    (chooseReserve s).pulses = s.pulses ∧ (chooseReserve s).analogs = s.analogs ∧ (chooseReserve s).auxs = s.auxs ∧
    (chooseReserve s).cards = s.cards ∧ (chooseReserve s).service = s.service ∧ (chooseReserve s).seqr = s.seqr ∧
    (chooseReserve s).dies = s.dies ∧ (chooseReserve s).clusters = s.clusters ∧ (chooseReserve s).integ = s.integ ∧
    (chooseReserve s).copies = s.copies ∧ (chooseReserve s).pair = s.pair ∧ (chooseReserve s).links = s.links ∧
    (chooseReserve s).hall = s.hall ∧ (chooseReserve s).buses = s.buses ∧ (chooseReserve s).frameLog = s.frameLog ∧
    (chooseReserve s).power = s.power ∧ (chooseReserve s).ptp = s.ptp ∧ (chooseReserve s).fans = s.fans ∧ (chooseReserve s).upds = s.upds ∧
    (chooseReserve s).fw = s.fw ∧ (chooseReserve s).log = s.log ∧ (chooseReserve s).bmu = s.bmu ∧ (chooseReserve s).mirror = s.mirror ∧
    (chooseReserve s).pending = s.pending := by
  have e1 := @setUse_frame
  unfold chooseReserve; (try dsimp only); (repeat' split) <;> simp [e1]

theorem decideStaging_frame (d : Staging) (s : State) :
    (decideStaging d s).now = s.now ∧ (decideStaging d s).frame = s.frame ∧ (decideStaging d s).free = s.free ∧
    (decideStaging d s).regs = s.regs ∧ (decideStaging d s).outbox = s.outbox ∧ (decideStaging d s).vcp = s.vcp ∧
    (decideStaging d s).plant = s.plant ∧ (decideStaging d s).broker = s.broker ∧ (decideStaging d s).valves = s.valves ∧
    (decideStaging d s).motors = s.motors ∧ (decideStaging d s).senses = s.senses ∧ (decideStaging d s).pulses = s.pulses ∧
    (decideStaging d s).analogs = s.analogs ∧ (decideStaging d s).auxs = s.auxs ∧ (decideStaging d s).cards = s.cards ∧
    (decideStaging d s).service = s.service ∧ (decideStaging d s).dies = s.dies ∧ (decideStaging d s).clusters = s.clusters ∧
    (decideStaging d s).integ = s.integ ∧ (decideStaging d s).copies = s.copies ∧ (decideStaging d s).pair = s.pair ∧
    (decideStaging d s).links = s.links ∧ (decideStaging d s).hall = s.hall ∧ (decideStaging d s).buses = s.buses ∧
    (decideStaging d s).frameLog = s.frameLog ∧ (decideStaging d s).power = s.power ∧ (decideStaging d s).ptp = s.ptp ∧
    (decideStaging d s).fans = s.fans ∧ (decideStaging d s).upds = s.upds ∧ (decideStaging d s).fw = s.fw ∧
    (decideStaging d s).log = s.log ∧ (decideStaging d s).bmu = s.bmu ∧ (decideStaging d s).mirror = s.mirror ∧
    (decideStaging d s).pending = s.pending := by
  unfold decideStaging; (try dsimp only); (repeat' split) <;> simp

theorem markStaged_frame (s : State) :
    (markStaged s).now = s.now ∧ (markStaged s).frame = s.frame ∧ (markStaged s).free = s.free ∧ (markStaged s).regs = s.regs ∧
    (markStaged s).outbox = s.outbox ∧ (markStaged s).vcp = s.vcp ∧ (markStaged s).plant = s.plant ∧ (markStaged s).valves = s.valves ∧
    (markStaged s).motors = s.motors ∧ (markStaged s).senses = s.senses ∧ (markStaged s).pulses = s.pulses ∧
    (markStaged s).analogs = s.analogs ∧ (markStaged s).auxs = s.auxs ∧ (markStaged s).cards = s.cards ∧
    (markStaged s).service = s.service ∧ (markStaged s).seqr = s.seqr ∧ (markStaged s).dies = s.dies ∧
    (markStaged s).clusters = s.clusters ∧ (markStaged s).integ = s.integ ∧ (markStaged s).copies = s.copies ∧
    (markStaged s).pair = s.pair ∧ (markStaged s).links = s.links ∧ (markStaged s).hall = s.hall ∧ (markStaged s).buses = s.buses ∧
    (markStaged s).frameLog = s.frameLog ∧ (markStaged s).power = s.power ∧ (markStaged s).ptp = s.ptp ∧ (markStaged s).fans = s.fans ∧
    (markStaged s).upds = s.upds ∧ (markStaged s).fw = s.fw ∧ (markStaged s).log = s.log ∧ (markStaged s).bmu = s.bmu ∧
    (markStaged s).mirror = s.mirror ∧ (markStaged s).pending = s.pending := by
  unfold markStaged; (try dsimp only); (repeat' split) <;> simp

theorem joinDuty_frame (source p : Nat) (s : State) :
    (joinDuty source p s).now = s.now ∧ (joinDuty source p s).frame = s.frame ∧ (joinDuty source p s).free = s.free ∧
    (joinDuty source p s).broker = s.broker ∧ (joinDuty source p s).valves = s.valves ∧ (joinDuty source p s).senses = s.senses ∧
    (joinDuty source p s).pulses = s.pulses ∧ (joinDuty source p s).analogs = s.analogs ∧ (joinDuty source p s).auxs = s.auxs ∧
    (joinDuty source p s).cards = s.cards ∧ (joinDuty source p s).service = s.service ∧ (joinDuty source p s).seqr = s.seqr ∧
    (joinDuty source p s).dies = s.dies ∧ (joinDuty source p s).clusters = s.clusters ∧ (joinDuty source p s).integ = s.integ ∧
    (joinDuty source p s).copies = s.copies ∧ (joinDuty source p s).pair = s.pair ∧ (joinDuty source p s).links = s.links ∧
    (joinDuty source p s).hall = s.hall ∧ (joinDuty source p s).buses = s.buses ∧ (joinDuty source p s).frameLog = s.frameLog ∧
    (joinDuty source p s).power = s.power ∧ (joinDuty source p s).ptp = s.ptp ∧ (joinDuty source p s).fans = s.fans ∧
    (joinDuty source p s).upds = s.upds ∧ (joinDuty source p s).fw = s.fw ∧ (joinDuty source p s).bmu = s.bmu ∧
    (joinDuty source p s).mirror = s.mirror ∧ (joinDuty source p s).pending = s.pending := by
  have e1 := @setUse_frame
  have e2 := @pumpSpeed_frame
  unfold joinDuty; (try dsimp only); (repeat' split) <;> simp [e1, e2]

theorem stageUp_frame (source : Nat) (s : State) :
    (stageUp source s).now = s.now ∧ (stageUp source s).frame = s.frame ∧ (stageUp source s).free = s.free ∧
    (stageUp source s).broker = s.broker ∧ (stageUp source s).valves = s.valves ∧ (stageUp source s).senses = s.senses ∧
    (stageUp source s).pulses = s.pulses ∧ (stageUp source s).analogs = s.analogs ∧ (stageUp source s).auxs = s.auxs ∧
    (stageUp source s).cards = s.cards ∧ (stageUp source s).service = s.service ∧ (stageUp source s).seqr = s.seqr ∧
    (stageUp source s).dies = s.dies ∧ (stageUp source s).clusters = s.clusters ∧ (stageUp source s).integ = s.integ ∧
    (stageUp source s).copies = s.copies ∧ (stageUp source s).pair = s.pair ∧ (stageUp source s).links = s.links ∧
    (stageUp source s).hall = s.hall ∧ (stageUp source s).buses = s.buses ∧ (stageUp source s).frameLog = s.frameLog ∧
    (stageUp source s).power = s.power ∧ (stageUp source s).ptp = s.ptp ∧ (stageUp source s).fans = s.fans ∧
    (stageUp source s).upds = s.upds ∧ (stageUp source s).fw = s.fw ∧ (stageUp source s).bmu = s.bmu ∧
    (stageUp source s).mirror = s.mirror ∧ (stageUp source s).pending = s.pending := by
  have e1 := @joinDuty_frame
  unfold stageUp; (try dsimp only); (repeat' split) <;> simp [e1]

theorem leaveDuty_frame (source p : Nat) (use : PumpUse) (s : State) :
    (leaveDuty source p use s).now = s.now ∧ (leaveDuty source p use s).frame = s.frame ∧ (leaveDuty source p use s).free = s.free ∧
    (leaveDuty source p use s).vcp = s.vcp ∧ (leaveDuty source p use s).broker = s.broker ∧ (leaveDuty source p use s).valves = s.valves ∧
    (leaveDuty source p use s).motors = s.motors ∧ (leaveDuty source p use s).senses = s.senses ∧
    (leaveDuty source p use s).pulses = s.pulses ∧ (leaveDuty source p use s).analogs = s.analogs ∧
    (leaveDuty source p use s).auxs = s.auxs ∧ (leaveDuty source p use s).cards = s.cards ∧ (leaveDuty source p use s).service = s.service ∧
    (leaveDuty source p use s).seqr = s.seqr ∧ (leaveDuty source p use s).dies = s.dies ∧ (leaveDuty source p use s).clusters = s.clusters ∧
    (leaveDuty source p use s).integ = s.integ ∧ (leaveDuty source p use s).copies = s.copies ∧ (leaveDuty source p use s).pair = s.pair ∧
    (leaveDuty source p use s).links = s.links ∧ (leaveDuty source p use s).hall = s.hall ∧ (leaveDuty source p use s).buses = s.buses ∧
    (leaveDuty source p use s).frameLog = s.frameLog ∧ (leaveDuty source p use s).power = s.power ∧ (leaveDuty source p use s).ptp = s.ptp ∧
    (leaveDuty source p use s).fans = s.fans ∧ (leaveDuty source p use s).upds = s.upds ∧ (leaveDuty source p use s).fw = s.fw ∧
    (leaveDuty source p use s).bmu = s.bmu ∧ (leaveDuty source p use s).mirror = s.mirror ∧
    (leaveDuty source p use s).pending = s.pending := by
  unfold leaveDuty; (try dsimp only); (repeat' split) <;> simp

theorem stageDown_frame (s : State) :
    (stageDown s).now = s.now ∧ (stageDown s).frame = s.frame ∧ (stageDown s).free = s.free ∧ (stageDown s).vcp = s.vcp ∧
    (stageDown s).broker = s.broker ∧ (stageDown s).valves = s.valves ∧ (stageDown s).motors = s.motors ∧ (stageDown s).senses = s.senses ∧
    (stageDown s).pulses = s.pulses ∧ (stageDown s).analogs = s.analogs ∧ (stageDown s).auxs = s.auxs ∧ (stageDown s).cards = s.cards ∧
    (stageDown s).service = s.service ∧ (stageDown s).seqr = s.seqr ∧ (stageDown s).dies = s.dies ∧ (stageDown s).clusters = s.clusters ∧
    (stageDown s).integ = s.integ ∧ (stageDown s).copies = s.copies ∧ (stageDown s).pair = s.pair ∧ (stageDown s).links = s.links ∧
    (stageDown s).hall = s.hall ∧ (stageDown s).buses = s.buses ∧ (stageDown s).frameLog = s.frameLog ∧ (stageDown s).power = s.power ∧
    (stageDown s).ptp = s.ptp ∧ (stageDown s).fans = s.fans ∧ (stageDown s).upds = s.upds ∧ (stageDown s).fw = s.fw ∧
    (stageDown s).bmu = s.bmu ∧ (stageDown s).mirror = s.mirror ∧ (stageDown s).pending = s.pending := by
  have e1 := @leaveDuty_frame
  unfold stageDown; (try dsimp only); (repeat' split) <;> simp [e1]

theorem startRotation_frame (s : State) :
    (startRotation s).now = s.now ∧ (startRotation s).frame = s.frame ∧ (startRotation s).free = s.free ∧
    (startRotation s).broker = s.broker ∧ (startRotation s).valves = s.valves ∧ (startRotation s).senses = s.senses ∧
    (startRotation s).pulses = s.pulses ∧ (startRotation s).analogs = s.analogs ∧ (startRotation s).auxs = s.auxs ∧
    (startRotation s).cards = s.cards ∧ (startRotation s).service = s.service ∧ (startRotation s).seqr = s.seqr ∧
    (startRotation s).dies = s.dies ∧ (startRotation s).clusters = s.clusters ∧ (startRotation s).integ = s.integ ∧
    (startRotation s).copies = s.copies ∧ (startRotation s).pair = s.pair ∧ (startRotation s).links = s.links ∧
    (startRotation s).hall = s.hall ∧ (startRotation s).buses = s.buses ∧ (startRotation s).frameLog = s.frameLog ∧
    (startRotation s).power = s.power ∧ (startRotation s).ptp = s.ptp ∧ (startRotation s).fans = s.fans ∧ (startRotation s).upds = s.upds ∧
    (startRotation s).fw = s.fw ∧ (startRotation s).bmu = s.bmu ∧ (startRotation s).mirror = s.mirror ∧
    (startRotation s).pending = s.pending := by
  have e1 := @pumpSpeed_frame
  unfold startRotation; (try dsimp only); (repeat' split) <;> simp [e1]

theorem swapReserve_frame (s : State) :
    (swapReserve s).now = s.now ∧ (swapReserve s).frame = s.frame ∧ (swapReserve s).free = s.free ∧ (swapReserve s).vcp = s.vcp ∧
    (swapReserve s).broker = s.broker ∧ (swapReserve s).valves = s.valves ∧ (swapReserve s).motors = s.motors ∧
    (swapReserve s).senses = s.senses ∧ (swapReserve s).pulses = s.pulses ∧ (swapReserve s).analogs = s.analogs ∧
    (swapReserve s).auxs = s.auxs ∧ (swapReserve s).cards = s.cards ∧ (swapReserve s).service = s.service ∧ (swapReserve s).seqr = s.seqr ∧
    (swapReserve s).dies = s.dies ∧ (swapReserve s).clusters = s.clusters ∧ (swapReserve s).integ = s.integ ∧
    (swapReserve s).copies = s.copies ∧ (swapReserve s).pair = s.pair ∧ (swapReserve s).links = s.links ∧ (swapReserve s).hall = s.hall ∧
    (swapReserve s).buses = s.buses ∧ (swapReserve s).frameLog = s.frameLog ∧ (swapReserve s).power = s.power ∧
    (swapReserve s).ptp = s.ptp ∧ (swapReserve s).fans = s.fans ∧ (swapReserve s).upds = s.upds ∧ (swapReserve s).fw = s.fw ∧
    (swapReserve s).bmu = s.bmu ∧ (swapReserve s).mirror = s.mirror ∧ (swapReserve s).pending = s.pending := by
  have e1 := @setUse_frame
  have e2 := @leaveDuty_frame
  unfold swapReserve; (try dsimp only); (repeat' split) <;> simp [e1, e2]

theorem commitStaging_frame (d : Staging) (s : State) :
    (commitStaging d s).now = s.now ∧ (commitStaging d s).frame = s.frame ∧ (commitStaging d s).free = s.free ∧
    (commitStaging d s).valves = s.valves ∧ (commitStaging d s).senses = s.senses ∧ (commitStaging d s).pulses = s.pulses ∧
    (commitStaging d s).analogs = s.analogs ∧ (commitStaging d s).auxs = s.auxs ∧ (commitStaging d s).cards = s.cards ∧
    (commitStaging d s).service = s.service ∧ (commitStaging d s).seqr = s.seqr ∧ (commitStaging d s).dies = s.dies ∧
    (commitStaging d s).clusters = s.clusters ∧ (commitStaging d s).integ = s.integ ∧ (commitStaging d s).copies = s.copies ∧
    (commitStaging d s).pair = s.pair ∧ (commitStaging d s).links = s.links ∧ (commitStaging d s).hall = s.hall ∧
    (commitStaging d s).buses = s.buses ∧ (commitStaging d s).frameLog = s.frameLog ∧ (commitStaging d s).power = s.power ∧
    (commitStaging d s).ptp = s.ptp ∧ (commitStaging d s).fans = s.fans ∧ (commitStaging d s).upds = s.upds ∧
    (commitStaging d s).fw = s.fw ∧ (commitStaging d s).bmu = s.bmu ∧ (commitStaging d s).mirror = s.mirror ∧
    (commitStaging d s).pending = s.pending := by
  have e1 := @markStaged_frame
  have e2 := @stageUp_frame
  have e3 := @stageDown_frame
  have e4 := @startRotation_frame
  have e5 := @swapReserve_frame
  unfold commitStaging; (try dsimp only); (repeat' split) <;> simp [e1, e2, e3, e4, e5]

end Sys2Proof.Machine
end

