-- ==== Sys2Proof/Laws/FramesEngine.lean ====
section
/-! SUPPORT. For each shared operation, once: the parts of the state it leaves unchanged. Copies, cards, power, the engine and its checks. -/

namespace Sys2Proof.Machine

open Sys2Proof

theorem startHandover_frame (at_ : Time) (origin : Option Origin) (s : State) :
    (startHandover at_ origin s).now = s.now ∧ (startHandover at_ origin s).frame = s.frame ∧ (startHandover at_ origin s).free = s.free ∧
    (startHandover at_ origin s).regs = s.regs ∧ (startHandover at_ origin s).vcp = s.vcp ∧ (startHandover at_ origin s).plant = s.plant ∧
    (startHandover at_ origin s).broker = s.broker ∧ (startHandover at_ origin s).valves = s.valves ∧
    (startHandover at_ origin s).motors = s.motors ∧ (startHandover at_ origin s).senses = s.senses ∧
    (startHandover at_ origin s).pulses = s.pulses ∧ (startHandover at_ origin s).analogs = s.analogs ∧
    (startHandover at_ origin s).auxs = s.auxs ∧ (startHandover at_ origin s).cards = s.cards ∧
    (startHandover at_ origin s).service = s.service ∧ (startHandover at_ origin s).seqr = s.seqr ∧
    (startHandover at_ origin s).dies = s.dies ∧ (startHandover at_ origin s).clusters = s.clusters ∧
    (startHandover at_ origin s).integ = s.integ ∧ (startHandover at_ origin s).copies = s.copies ∧
    (startHandover at_ origin s).buses = s.buses ∧ (startHandover at_ origin s).frameLog = s.frameLog ∧
    (startHandover at_ origin s).power = s.power ∧ (startHandover at_ origin s).ptp = s.ptp ∧ (startHandover at_ origin s).fans = s.fans ∧
    (startHandover at_ origin s).upds = s.upds ∧ (startHandover at_ origin s).fw = s.fw ∧ (startHandover at_ origin s).log = s.log ∧
    (startHandover at_ origin s).bmu = s.bmu ∧ (startHandover at_ origin s).mirror = s.mirror ∧
    (startHandover at_ origin s).pending = s.pending := by
  unfold startHandover; (try dsimp only); (repeat' split) <;> simp

theorem askHandover_frame (s : State) :
    (askHandover s).now = s.now ∧ (askHandover s).frame = s.frame ∧ (askHandover s).free = s.free ∧ (askHandover s).regs = s.regs ∧
    (askHandover s).vcp = s.vcp ∧ (askHandover s).plant = s.plant ∧ (askHandover s).broker = s.broker ∧ (askHandover s).valves = s.valves ∧
    (askHandover s).motors = s.motors ∧ (askHandover s).senses = s.senses ∧ (askHandover s).pulses = s.pulses ∧
    (askHandover s).analogs = s.analogs ∧ (askHandover s).auxs = s.auxs ∧ (askHandover s).cards = s.cards ∧
    (askHandover s).service = s.service ∧ (askHandover s).seqr = s.seqr ∧ (askHandover s).dies = s.dies ∧
    (askHandover s).clusters = s.clusters ∧ (askHandover s).integ = s.integ ∧ (askHandover s).copies = s.copies ∧
    (askHandover s).buses = s.buses ∧ (askHandover s).frameLog = s.frameLog ∧ (askHandover s).power = s.power ∧
    (askHandover s).ptp = s.ptp ∧ (askHandover s).fans = s.fans ∧ (askHandover s).upds = s.upds ∧ (askHandover s).fw = s.fw ∧
    (askHandover s).log = s.log ∧ (askHandover s).bmu = s.bmu ∧ (askHandover s).mirror = s.mirror ∧
    (askHandover s).pending = s.pending := by
  have e1 := @startHandover_frame
  unfold askHandover; (try dsimp only); (repeat' split) <;> simp [e1]

theorem startTx_frame (c : Nat) (s : State) :
    (startTx c s).now = s.now ∧ (startTx c s).frame = s.frame ∧ (startTx c s).free = s.free ∧ (startTx c s).regs = s.regs ∧
    (startTx c s).outbox = s.outbox ∧ (startTx c s).vcp = s.vcp ∧ (startTx c s).plant = s.plant ∧ (startTx c s).broker = s.broker ∧
    (startTx c s).valves = s.valves ∧ (startTx c s).motors = s.motors ∧ (startTx c s).senses = s.senses ∧ (startTx c s).pulses = s.pulses ∧
    (startTx c s).analogs = s.analogs ∧ (startTx c s).auxs = s.auxs ∧ (startTx c s).cards = s.cards ∧ (startTx c s).service = s.service ∧
    (startTx c s).seqr = s.seqr ∧ (startTx c s).dies = s.dies ∧ (startTx c s).clusters = s.clusters ∧ (startTx c s).integ = s.integ ∧
    (startTx c s).copies = s.copies ∧ (startTx c s).pair = s.pair ∧ (startTx c s).links = s.links ∧ (startTx c s).hall = s.hall ∧
    (startTx c s).frameLog = s.frameLog ∧ (startTx c s).power = s.power ∧ (startTx c s).ptp = s.ptp ∧ (startTx c s).fans = s.fans ∧
    (startTx c s).upds = s.upds ∧ (startTx c s).fw = s.fw ∧ (startTx c s).log = s.log ∧ (startTx c s).bmu = s.bmu ∧
    (startTx c s).mirror = s.mirror ∧ (startTx c s).pending = s.pending := by
  unfold startTx; (try dsimp only); (repeat' split) <;> simp

theorem startBuses_frame (s : State) :
    (startBuses s).now = s.now ∧ (startBuses s).frame = s.frame ∧ (startBuses s).free = s.free ∧ (startBuses s).regs = s.regs ∧
    (startBuses s).outbox = s.outbox ∧ (startBuses s).vcp = s.vcp ∧ (startBuses s).plant = s.plant ∧ (startBuses s).broker = s.broker ∧
    (startBuses s).valves = s.valves ∧ (startBuses s).motors = s.motors ∧ (startBuses s).senses = s.senses ∧
    (startBuses s).pulses = s.pulses ∧ (startBuses s).analogs = s.analogs ∧ (startBuses s).auxs = s.auxs ∧ (startBuses s).cards = s.cards ∧
    (startBuses s).service = s.service ∧ (startBuses s).seqr = s.seqr ∧ (startBuses s).dies = s.dies ∧
    (startBuses s).clusters = s.clusters ∧ (startBuses s).integ = s.integ ∧ (startBuses s).copies = s.copies ∧
    (startBuses s).pair = s.pair ∧ (startBuses s).links = s.links ∧ (startBuses s).hall = s.hall ∧ (startBuses s).frameLog = s.frameLog ∧
    (startBuses s).power = s.power ∧ (startBuses s).ptp = s.ptp ∧ (startBuses s).fans = s.fans ∧ (startBuses s).upds = s.upds ∧
    (startBuses s).fw = s.fw ∧ (startBuses s).log = s.log ∧ (startBuses s).bmu = s.bmu ∧ (startBuses s).mirror = s.mirror ∧
    (startBuses s).pending = s.pending := by
  have e1 := @startTx_frame
  unfold startBuses; (try dsimp only); (repeat' split) <;> simp [e1]

theorem dropTx_frame (s : State) :
    (dropTx s).now = s.now ∧ (dropTx s).frame = s.frame ∧ (dropTx s).free = s.free ∧ (dropTx s).regs = s.regs ∧
    (dropTx s).outbox = s.outbox ∧ (dropTx s).vcp = s.vcp ∧ (dropTx s).plant = s.plant ∧ (dropTx s).broker = s.broker ∧
    (dropTx s).valves = s.valves ∧ (dropTx s).motors = s.motors ∧ (dropTx s).senses = s.senses ∧ (dropTx s).pulses = s.pulses ∧
    (dropTx s).analogs = s.analogs ∧ (dropTx s).auxs = s.auxs ∧ (dropTx s).cards = s.cards ∧ (dropTx s).service = s.service ∧
    (dropTx s).seqr = s.seqr ∧ (dropTx s).dies = s.dies ∧ (dropTx s).clusters = s.clusters ∧ (dropTx s).integ = s.integ ∧
    (dropTx s).copies = s.copies ∧ (dropTx s).pair = s.pair ∧ (dropTx s).links = s.links ∧ (dropTx s).hall = s.hall ∧
    (dropTx s).frameLog = s.frameLog ∧ (dropTx s).power = s.power ∧ (dropTx s).ptp = s.ptp ∧ (dropTx s).fans = s.fans ∧
    (dropTx s).upds = s.upds ∧ (dropTx s).fw = s.fw ∧ (dropTx s).log = s.log ∧ (dropTx s).bmu = s.bmu ∧ (dropTx s).mirror = s.mirror ∧
    (dropTx s).pending = s.pending := by
  unfold dropTx; (try dsimp only); (repeat' split) <;> simp

theorem joinBus_frame (c : Nat) (s : State) :
    (joinBus c s).now = s.now ∧ (joinBus c s).frame = s.frame ∧ (joinBus c s).free = s.free ∧ (joinBus c s).regs = s.regs ∧
    (joinBus c s).outbox = s.outbox ∧ (joinBus c s).vcp = s.vcp ∧ (joinBus c s).plant = s.plant ∧ (joinBus c s).broker = s.broker ∧
    (joinBus c s).valves = s.valves ∧ (joinBus c s).motors = s.motors ∧ (joinBus c s).senses = s.senses ∧ (joinBus c s).pulses = s.pulses ∧
    (joinBus c s).analogs = s.analogs ∧ (joinBus c s).auxs = s.auxs ∧ (joinBus c s).cards = s.cards ∧ (joinBus c s).service = s.service ∧
    (joinBus c s).seqr = s.seqr ∧ (joinBus c s).dies = s.dies ∧ (joinBus c s).clusters = s.clusters ∧ (joinBus c s).integ = s.integ ∧
    (joinBus c s).copies = s.copies ∧ (joinBus c s).pair = s.pair ∧ (joinBus c s).links = s.links ∧ (joinBus c s).hall = s.hall ∧
    (joinBus c s).frameLog = s.frameLog ∧ (joinBus c s).power = s.power ∧ (joinBus c s).ptp = s.ptp ∧ (joinBus c s).fans = s.fans ∧
    (joinBus c s).upds = s.upds ∧ (joinBus c s).fw = s.fw ∧ (joinBus c s).log = s.log ∧ (joinBus c s).bmu = s.bmu ∧
    (joinBus c s).mirror = s.mirror ∧ (joinBus c s).pending = s.pending := by
  have e1 := @startTx_frame
  unfold joinBus; (try dsimp only); (repeat' split) <;> simp [e1]

theorem joinBuses_frame (s : State) :
    (joinBuses s).now = s.now ∧ (joinBuses s).frame = s.frame ∧ (joinBuses s).free = s.free ∧ (joinBuses s).regs = s.regs ∧
    (joinBuses s).outbox = s.outbox ∧ (joinBuses s).vcp = s.vcp ∧ (joinBuses s).plant = s.plant ∧ (joinBuses s).broker = s.broker ∧
    (joinBuses s).valves = s.valves ∧ (joinBuses s).motors = s.motors ∧ (joinBuses s).senses = s.senses ∧ (joinBuses s).pulses = s.pulses ∧
    (joinBuses s).analogs = s.analogs ∧ (joinBuses s).auxs = s.auxs ∧ (joinBuses s).cards = s.cards ∧ (joinBuses s).service = s.service ∧
    (joinBuses s).seqr = s.seqr ∧ (joinBuses s).dies = s.dies ∧ (joinBuses s).clusters = s.clusters ∧ (joinBuses s).integ = s.integ ∧
    (joinBuses s).copies = s.copies ∧ (joinBuses s).pair = s.pair ∧ (joinBuses s).links = s.links ∧ (joinBuses s).hall = s.hall ∧
    (joinBuses s).frameLog = s.frameLog ∧ (joinBuses s).power = s.power ∧ (joinBuses s).ptp = s.ptp ∧ (joinBuses s).fans = s.fans ∧
    (joinBuses s).upds = s.upds ∧ (joinBuses s).fw = s.fw ∧ (joinBuses s).log = s.log ∧ (joinBuses s).bmu = s.bmu ∧
    (joinBuses s).mirror = s.mirror ∧ (joinBuses s).pending = s.pending := by
  have e1 := @joinBus_frame
  unfold joinBuses; (try dsimp only); (repeat' split) <;> simp [e1]

theorem enterBusOff_frame (c : Nat) (s : State) :
    (enterBusOff c s).now = s.now ∧ (enterBusOff c s).frame = s.frame ∧ (enterBusOff c s).free = s.free ∧
    (enterBusOff c s).plant = s.plant ∧ (enterBusOff c s).broker = s.broker ∧ (enterBusOff c s).valves = s.valves ∧
    (enterBusOff c s).motors = s.motors ∧ (enterBusOff c s).senses = s.senses ∧ (enterBusOff c s).pulses = s.pulses ∧
    (enterBusOff c s).analogs = s.analogs ∧ (enterBusOff c s).auxs = s.auxs ∧ (enterBusOff c s).cards = s.cards ∧
    (enterBusOff c s).service = s.service ∧ (enterBusOff c s).seqr = s.seqr ∧ (enterBusOff c s).dies = s.dies ∧
    (enterBusOff c s).clusters = s.clusters ∧ (enterBusOff c s).integ = s.integ ∧ (enterBusOff c s).copies = s.copies ∧
    (enterBusOff c s).pair = s.pair ∧ (enterBusOff c s).links = s.links ∧ (enterBusOff c s).hall = s.hall ∧
    (enterBusOff c s).frameLog = s.frameLog ∧ (enterBusOff c s).power = s.power ∧ (enterBusOff c s).ptp = s.ptp ∧
    (enterBusOff c s).fans = s.fans ∧ (enterBusOff c s).upds = s.upds ∧ (enterBusOff c s).fw = s.fw ∧ (enterBusOff c s).log = s.log ∧
    (enterBusOff c s).bmu = s.bmu ∧ (enterBusOff c s).mirror = s.mirror ∧ (enterBusOff c s).pending = s.pending := by
  unfold enterBusOff; (try dsimp only); (repeat' split) <;> simp

theorem judgeBus_frame (c : Nat) (s : State) :
    (judgeBus c s).now = s.now ∧ (judgeBus c s).frame = s.frame ∧ (judgeBus c s).free = s.free ∧ (judgeBus c s).plant = s.plant ∧
    (judgeBus c s).broker = s.broker ∧ (judgeBus c s).valves = s.valves ∧ (judgeBus c s).motors = s.motors ∧
    (judgeBus c s).senses = s.senses ∧ (judgeBus c s).pulses = s.pulses ∧ (judgeBus c s).analogs = s.analogs ∧
    (judgeBus c s).auxs = s.auxs ∧ (judgeBus c s).cards = s.cards ∧ (judgeBus c s).service = s.service ∧ (judgeBus c s).seqr = s.seqr ∧
    (judgeBus c s).dies = s.dies ∧ (judgeBus c s).clusters = s.clusters ∧ (judgeBus c s).integ = s.integ ∧
    (judgeBus c s).copies = s.copies ∧ (judgeBus c s).pair = s.pair ∧ (judgeBus c s).links = s.links ∧ (judgeBus c s).hall = s.hall ∧
    (judgeBus c s).frameLog = s.frameLog ∧ (judgeBus c s).power = s.power ∧ (judgeBus c s).ptp = s.ptp ∧ (judgeBus c s).fans = s.fans ∧
    (judgeBus c s).upds = s.upds ∧ (judgeBus c s).fw = s.fw ∧ (judgeBus c s).log = s.log ∧ (judgeBus c s).bmu = s.bmu ∧
    (judgeBus c s).mirror = s.mirror ∧ (judgeBus c s).pending = s.pending := by
  have e1 := @enterBusOff_frame
  unfold judgeBus; (try dsimp only); (repeat' split) <;> simp [e1]

theorem txError_frame (c : Nat) (noAck : Bool) (s : State) :
    (txError c noAck s).now = s.now ∧ (txError c noAck s).frame = s.frame ∧ (txError c noAck s).free = s.free ∧
    (txError c noAck s).plant = s.plant ∧ (txError c noAck s).broker = s.broker ∧ (txError c noAck s).valves = s.valves ∧
    (txError c noAck s).motors = s.motors ∧ (txError c noAck s).senses = s.senses ∧ (txError c noAck s).pulses = s.pulses ∧
    (txError c noAck s).analogs = s.analogs ∧ (txError c noAck s).auxs = s.auxs ∧ (txError c noAck s).cards = s.cards ∧
    (txError c noAck s).service = s.service ∧ (txError c noAck s).seqr = s.seqr ∧ (txError c noAck s).dies = s.dies ∧
    (txError c noAck s).clusters = s.clusters ∧ (txError c noAck s).integ = s.integ ∧ (txError c noAck s).copies = s.copies ∧
    (txError c noAck s).pair = s.pair ∧ (txError c noAck s).links = s.links ∧ (txError c noAck s).hall = s.hall ∧
    (txError c noAck s).frameLog = s.frameLog ∧ (txError c noAck s).power = s.power ∧ (txError c noAck s).ptp = s.ptp ∧
    (txError c noAck s).fans = s.fans ∧ (txError c noAck s).upds = s.upds ∧ (txError c noAck s).fw = s.fw ∧
    (txError c noAck s).log = s.log ∧ (txError c noAck s).bmu = s.bmu ∧ (txError c noAck s).mirror = s.mirror ∧
    (txError c noAck s).pending = s.pending := by
  have e1 := @judgeBus_frame
  unfold txError; (try dsimp only); (repeat' split) <;> simp [e1]

theorem rxError_frame (c : Nat) (s : State) :
    (rxError c s).now = s.now ∧ (rxError c s).frame = s.frame ∧ (rxError c s).free = s.free ∧ (rxError c s).plant = s.plant ∧
    (rxError c s).broker = s.broker ∧ (rxError c s).valves = s.valves ∧ (rxError c s).motors = s.motors ∧ (rxError c s).senses = s.senses ∧
    (rxError c s).pulses = s.pulses ∧ (rxError c s).analogs = s.analogs ∧ (rxError c s).auxs = s.auxs ∧ (rxError c s).cards = s.cards ∧
    (rxError c s).service = s.service ∧ (rxError c s).seqr = s.seqr ∧ (rxError c s).dies = s.dies ∧ (rxError c s).clusters = s.clusters ∧
    (rxError c s).integ = s.integ ∧ (rxError c s).copies = s.copies ∧ (rxError c s).pair = s.pair ∧ (rxError c s).links = s.links ∧
    (rxError c s).hall = s.hall ∧ (rxError c s).frameLog = s.frameLog ∧ (rxError c s).power = s.power ∧ (rxError c s).ptp = s.ptp ∧
    (rxError c s).fans = s.fans ∧ (rxError c s).upds = s.upds ∧ (rxError c s).fw = s.fw ∧ (rxError c s).log = s.log ∧
    (rxError c s).bmu = s.bmu ∧ (rxError c s).mirror = s.mirror ∧ (rxError c s).pending = s.pending := by
  have e1 := @judgeBus_frame
  unfold rxError; (try dsimp only); (repeat' split) <;> simp [e1]

theorem rxGood_frame (c : Nat) (s : State) :
    (rxGood c s).now = s.now ∧ (rxGood c s).frame = s.frame ∧ (rxGood c s).plant = s.plant ∧ (rxGood c s).broker = s.broker ∧
    (rxGood c s).valves = s.valves ∧ (rxGood c s).motors = s.motors ∧ (rxGood c s).senses = s.senses ∧ (rxGood c s).pulses = s.pulses ∧
    (rxGood c s).analogs = s.analogs ∧ (rxGood c s).auxs = s.auxs ∧ (rxGood c s).cards = s.cards ∧ (rxGood c s).service = s.service ∧
    (rxGood c s).seqr = s.seqr ∧ (rxGood c s).dies = s.dies ∧ (rxGood c s).clusters = s.clusters ∧ (rxGood c s).integ = s.integ ∧
    (rxGood c s).copies = s.copies ∧ (rxGood c s).pair = s.pair ∧ (rxGood c s).links = s.links ∧ (rxGood c s).hall = s.hall ∧
    (rxGood c s).frameLog = s.frameLog ∧ (rxGood c s).power = s.power ∧ (rxGood c s).ptp = s.ptp ∧ (rxGood c s).fans = s.fans ∧
    (rxGood c s).upds = s.upds ∧ (rxGood c s).fw = s.fw ∧ (rxGood c s).log = s.log ∧ (rxGood c s).bmu = s.bmu ∧
    (rxGood c s).mirror = s.mirror ∧ (rxGood c s).pending = s.pending := by
  have e1 := @judgeBus_frame
  unfold rxGood; (try dsimp only); (repeat' split) <;> simp [e1]

theorem takeReading_frame (c : Nat) (f : CanFrame) (reading : NodeReading) (t : Time) (s : State) :
    (takeReading c f reading t s).now = s.now ∧ (takeReading c f reading t s).frame = s.frame ∧
    (takeReading c f reading t s).free = s.free ∧ (takeReading c f reading t s).regs = s.regs ∧
    (takeReading c f reading t s).outbox = s.outbox ∧ (takeReading c f reading t s).vcp = s.vcp ∧
    (takeReading c f reading t s).valves = s.valves ∧ (takeReading c f reading t s).motors = s.motors ∧
    (takeReading c f reading t s).senses = s.senses ∧ (takeReading c f reading t s).pulses = s.pulses ∧
    (takeReading c f reading t s).analogs = s.analogs ∧ (takeReading c f reading t s).auxs = s.auxs ∧
    (takeReading c f reading t s).cards = s.cards ∧ (takeReading c f reading t s).service = s.service ∧
    (takeReading c f reading t s).seqr = s.seqr ∧ (takeReading c f reading t s).dies = s.dies ∧
    (takeReading c f reading t s).clusters = s.clusters ∧ (takeReading c f reading t s).integ = s.integ ∧
    (takeReading c f reading t s).copies = s.copies ∧ (takeReading c f reading t s).pair = s.pair ∧
    (takeReading c f reading t s).links = s.links ∧ (takeReading c f reading t s).hall = s.hall ∧
    (takeReading c f reading t s).buses = s.buses ∧ (takeReading c f reading t s).frameLog = s.frameLog ∧
    (takeReading c f reading t s).power = s.power ∧ (takeReading c f reading t s).ptp = s.ptp ∧
    (takeReading c f reading t s).fans = s.fans ∧ (takeReading c f reading t s).upds = s.upds ∧ (takeReading c f reading t s).fw = s.fw ∧
    (takeReading c f reading t s).log = s.log ∧ (takeReading c f reading t s).bmu = s.bmu ∧
    (takeReading c f reading t s).mirror = s.mirror ∧ (takeReading c f reading t s).pending = s.pending := by
  unfold takeReading; (try dsimp only); (repeat' split) <;> simp

theorem copyEvent_frame (ring : Nat) (d : CopyDesc) (st : Status) (s : State) :
    (copyEvent ring d st s).now = s.now ∧ (copyEvent ring d st s).frame = s.frame ∧ (copyEvent ring d st s).free = s.free ∧
    (copyEvent ring d st s).outbox = s.outbox ∧ (copyEvent ring d st s).vcp = s.vcp ∧ (copyEvent ring d st s).plant = s.plant ∧
    (copyEvent ring d st s).broker = s.broker ∧ (copyEvent ring d st s).valves = s.valves ∧ (copyEvent ring d st s).motors = s.motors ∧
    (copyEvent ring d st s).senses = s.senses ∧ (copyEvent ring d st s).pulses = s.pulses ∧ (copyEvent ring d st s).analogs = s.analogs ∧
    (copyEvent ring d st s).auxs = s.auxs ∧ (copyEvent ring d st s).cards = s.cards ∧ (copyEvent ring d st s).service = s.service ∧
    (copyEvent ring d st s).seqr = s.seqr ∧ (copyEvent ring d st s).dies = s.dies ∧ (copyEvent ring d st s).clusters = s.clusters ∧
    (copyEvent ring d st s).integ = s.integ ∧ (copyEvent ring d st s).copies = s.copies ∧ (copyEvent ring d st s).pair = s.pair ∧
    (copyEvent ring d st s).links = s.links ∧ (copyEvent ring d st s).hall = s.hall ∧ (copyEvent ring d st s).buses = s.buses ∧
    (copyEvent ring d st s).frameLog = s.frameLog ∧ (copyEvent ring d st s).power = s.power ∧ (copyEvent ring d st s).ptp = s.ptp ∧
    (copyEvent ring d st s).fans = s.fans ∧ (copyEvent ring d st s).upds = s.upds ∧ (copyEvent ring d st s).fw = s.fw ∧
    (copyEvent ring d st s).log = s.log ∧ (copyEvent ring d st s).bmu = s.bmu ∧ (copyEvent ring d st s).mirror = s.mirror ∧
    (copyEvent ring d st s).pending = s.pending := by
  unfold copyEvent; (try dsimp only); (repeat' split) <;> simp

theorem setBusy_frame (e : Nat) (on : Bool) (s : State) :
    (setBusy e on s).now = s.now ∧ (setBusy e on s).frame = s.frame ∧ (setBusy e on s).free = s.free ∧ (setBusy e on s).regs = s.regs ∧
    (setBusy e on s).outbox = s.outbox ∧ (setBusy e on s).vcp = s.vcp ∧ (setBusy e on s).plant = s.plant ∧
    (setBusy e on s).broker = s.broker ∧ (setBusy e on s).valves = s.valves ∧ (setBusy e on s).motors = s.motors ∧
    (setBusy e on s).senses = s.senses ∧ (setBusy e on s).pulses = s.pulses ∧ (setBusy e on s).analogs = s.analogs ∧
    (setBusy e on s).auxs = s.auxs ∧ (setBusy e on s).cards = s.cards ∧ (setBusy e on s).service = s.service ∧
    (setBusy e on s).seqr = s.seqr ∧ (setBusy e on s).dies = s.dies ∧ (setBusy e on s).clusters = s.clusters ∧
    (setBusy e on s).integ = s.integ ∧ (setBusy e on s).pair = s.pair ∧ (setBusy e on s).links = s.links ∧ (setBusy e on s).hall = s.hall ∧
    (setBusy e on s).buses = s.buses ∧ (setBusy e on s).frameLog = s.frameLog ∧ (setBusy e on s).power = s.power ∧
    (setBusy e on s).ptp = s.ptp ∧ (setBusy e on s).fans = s.fans ∧ (setBusy e on s).upds = s.upds ∧ (setBusy e on s).fw = s.fw ∧
    (setBusy e on s).log = s.log ∧ (setBusy e on s).bmu = s.bmu ∧ (setBusy e on s).mirror = s.mirror ∧
    (setBusy e on s).pending = s.pending := by
  unfold setBusy; (try dsimp only); (repeat' split) <;> simp

theorem openBulk_frame (d : CopyDesc) (s : State) :
    (openBulk d s).now = s.now ∧ (openBulk d s).frame = s.frame ∧ (openBulk d s).free = s.free ∧ (openBulk d s).regs = s.regs ∧
    (openBulk d s).vcp = s.vcp ∧ (openBulk d s).plant = s.plant ∧ (openBulk d s).broker = s.broker ∧ (openBulk d s).valves = s.valves ∧
    (openBulk d s).motors = s.motors ∧ (openBulk d s).senses = s.senses ∧ (openBulk d s).pulses = s.pulses ∧
    (openBulk d s).analogs = s.analogs ∧ (openBulk d s).auxs = s.auxs ∧ (openBulk d s).cards = s.cards ∧
    (openBulk d s).service = s.service ∧ (openBulk d s).seqr = s.seqr ∧ (openBulk d s).dies = s.dies ∧
    (openBulk d s).clusters = s.clusters ∧ (openBulk d s).integ = s.integ ∧ (openBulk d s).copies = s.copies ∧
    (openBulk d s).pair = s.pair ∧ (openBulk d s).buses = s.buses ∧ (openBulk d s).frameLog = s.frameLog ∧ (openBulk d s).power = s.power ∧
    (openBulk d s).ptp = s.ptp ∧ (openBulk d s).fans = s.fans ∧ (openBulk d s).upds = s.upds ∧ (openBulk d s).fw = s.fw ∧
    (openBulk d s).log = s.log ∧ (openBulk d s).bmu = s.bmu ∧ (openBulk d s).mirror = s.mirror ∧ (openBulk d s).pending = s.pending := by
  unfold openBulk; (try dsimp only); (repeat' split) <;> simp

theorem closeBulk_frame (d : CopyDesc) (st : Status) (bytes : Nat) (s : State) :
    (closeBulk d st bytes s).now = s.now ∧ (closeBulk d st bytes s).frame = s.frame ∧ (closeBulk d st bytes s).free = s.free ∧
    (closeBulk d st bytes s).regs = s.regs ∧ (closeBulk d st bytes s).vcp = s.vcp ∧ (closeBulk d st bytes s).plant = s.plant ∧
    (closeBulk d st bytes s).broker = s.broker ∧ (closeBulk d st bytes s).valves = s.valves ∧ (closeBulk d st bytes s).motors = s.motors ∧
    (closeBulk d st bytes s).senses = s.senses ∧ (closeBulk d st bytes s).pulses = s.pulses ∧ (closeBulk d st bytes s).analogs = s.analogs ∧
    (closeBulk d st bytes s).auxs = s.auxs ∧ (closeBulk d st bytes s).cards = s.cards ∧ (closeBulk d st bytes s).service = s.service ∧
    (closeBulk d st bytes s).seqr = s.seqr ∧ (closeBulk d st bytes s).dies = s.dies ∧ (closeBulk d st bytes s).clusters = s.clusters ∧
    (closeBulk d st bytes s).integ = s.integ ∧ (closeBulk d st bytes s).copies = s.copies ∧ (closeBulk d st bytes s).pair = s.pair ∧
    (closeBulk d st bytes s).buses = s.buses ∧ (closeBulk d st bytes s).frameLog = s.frameLog ∧ (closeBulk d st bytes s).power = s.power ∧
    (closeBulk d st bytes s).ptp = s.ptp ∧ (closeBulk d st bytes s).fans = s.fans ∧ (closeBulk d st bytes s).upds = s.upds ∧
    (closeBulk d st bytes s).fw = s.fw ∧ (closeBulk d st bytes s).log = s.log ∧ (closeBulk d st bytes s).bmu = s.bmu ∧
    (closeBulk d st bytes s).mirror = s.mirror ∧ (closeBulk d st bytes s).pending = s.pending := by
  unfold closeBulk; (try dsimp only); (repeat' split) <;> simp

theorem endCopy_frame (k : Nat) (d : CopyDesc) (st : Status) (bytes digest : Nat) (rest : List Copy) (s : State) :
    (endCopy k d st bytes digest rest s).now = s.now ∧ (endCopy k d st bytes digest rest s).frame = s.frame ∧
    (endCopy k d st bytes digest rest s).free = s.free ∧ (endCopy k d st bytes digest rest s).outbox = s.outbox ∧
    (endCopy k d st bytes digest rest s).vcp = s.vcp ∧ (endCopy k d st bytes digest rest s).plant = s.plant ∧
    (endCopy k d st bytes digest rest s).broker = s.broker ∧ (endCopy k d st bytes digest rest s).valves = s.valves ∧
    (endCopy k d st bytes digest rest s).motors = s.motors ∧ (endCopy k d st bytes digest rest s).senses = s.senses ∧
    (endCopy k d st bytes digest rest s).pulses = s.pulses ∧ (endCopy k d st bytes digest rest s).analogs = s.analogs ∧
    (endCopy k d st bytes digest rest s).auxs = s.auxs ∧ (endCopy k d st bytes digest rest s).cards = s.cards ∧
    (endCopy k d st bytes digest rest s).service = s.service ∧ (endCopy k d st bytes digest rest s).seqr = s.seqr ∧
    (endCopy k d st bytes digest rest s).dies = s.dies ∧ (endCopy k d st bytes digest rest s).clusters = s.clusters ∧
    (endCopy k d st bytes digest rest s).integ = s.integ ∧ (endCopy k d st bytes digest rest s).pair = s.pair ∧
    (endCopy k d st bytes digest rest s).links = s.links ∧ (endCopy k d st bytes digest rest s).hall = s.hall ∧
    (endCopy k d st bytes digest rest s).buses = s.buses ∧ (endCopy k d st bytes digest rest s).frameLog = s.frameLog ∧
    (endCopy k d st bytes digest rest s).power = s.power ∧ (endCopy k d st bytes digest rest s).ptp = s.ptp ∧
    (endCopy k d st bytes digest rest s).fans = s.fans ∧ (endCopy k d st bytes digest rest s).upds = s.upds ∧
    (endCopy k d st bytes digest rest s).fw = s.fw ∧ (endCopy k d st bytes digest rest s).log = s.log ∧
    (endCopy k d st bytes digest rest s).bmu = s.bmu ∧ (endCopy k d st bytes digest rest s).mirror = s.mirror ∧
    (endCopy k d st bytes digest rest s).pending = s.pending := by
  have e1 := @copyEvent_frame
  unfold endCopy; (try dsimp only); (repeat' split) <;> simp [e1]

theorem startHead_frame (k : Nat) (s : State) :
    (startHead k s).now = s.now ∧ (startHead k s).frame = s.frame ∧ (startHead k s).free = s.free ∧ (startHead k s).vcp = s.vcp ∧
    (startHead k s).plant = s.plant ∧ (startHead k s).broker = s.broker ∧ (startHead k s).valves = s.valves ∧
    (startHead k s).motors = s.motors ∧ (startHead k s).senses = s.senses ∧ (startHead k s).pulses = s.pulses ∧
    (startHead k s).analogs = s.analogs ∧ (startHead k s).auxs = s.auxs ∧ (startHead k s).cards = s.cards ∧
    (startHead k s).service = s.service ∧ (startHead k s).seqr = s.seqr ∧ (startHead k s).dies = s.dies ∧
    (startHead k s).clusters = s.clusters ∧ (startHead k s).integ = s.integ ∧ (startHead k s).pair = s.pair ∧
    (startHead k s).buses = s.buses ∧ (startHead k s).frameLog = s.frameLog ∧ (startHead k s).power = s.power ∧
    (startHead k s).ptp = s.ptp ∧ (startHead k s).fans = s.fans ∧ (startHead k s).upds = s.upds ∧ (startHead k s).log = s.log ∧
    (startHead k s).bmu = s.bmu ∧ (startHead k s).mirror = s.mirror ∧ (startHead k s).pending = s.pending := by
  have e1 := @endCopy_frame
  have e2 := @setBusy_frame
  have e3 := @openBulk_frame
  unfold startHead; (try dsimp only); (repeat' split) <;> simp [e1, e2, e3]

theorem serveService_frame (fuel : Nat) (s : State) :
    (serveService fuel s).now = s.now ∧ (serveService fuel s).frame = s.frame ∧ (serveService fuel s).free = s.free ∧
    (serveService fuel s).vcp = s.vcp ∧ (serveService fuel s).plant = s.plant ∧ (serveService fuel s).broker = s.broker ∧
    (serveService fuel s).valves = s.valves ∧ (serveService fuel s).motors = s.motors ∧ (serveService fuel s).senses = s.senses ∧
    (serveService fuel s).pulses = s.pulses ∧ (serveService fuel s).analogs = s.analogs ∧ (serveService fuel s).auxs = s.auxs ∧
    (serveService fuel s).cards = s.cards ∧ (serveService fuel s).service = s.service ∧ (serveService fuel s).seqr = s.seqr ∧
    (serveService fuel s).dies = s.dies ∧ (serveService fuel s).clusters = s.clusters ∧ (serveService fuel s).integ = s.integ ∧
    (serveService fuel s).pair = s.pair ∧ (serveService fuel s).buses = s.buses ∧ (serveService fuel s).frameLog = s.frameLog ∧
    (serveService fuel s).power = s.power ∧ (serveService fuel s).ptp = s.ptp ∧ (serveService fuel s).fans = s.fans ∧
    (serveService fuel s).upds = s.upds ∧ (serveService fuel s).log = s.log ∧ (serveService fuel s).bmu = s.bmu ∧
    (serveService fuel s).mirror = s.mirror ∧ (serveService fuel s).pending = s.pending := by
  have e1 := @startHead_frame
  induction fuel generalizing s with
  | zero => simp [serveService, e1]
  | succ n ih => unfold serveService; split <;> simp [ih, e1]

theorem serveFirmware_frame (fuel : Nat) (s : State) :
    (serveFirmware fuel s).now = s.now ∧ (serveFirmware fuel s).frame = s.frame ∧ (serveFirmware fuel s).free = s.free ∧
    (serveFirmware fuel s).vcp = s.vcp ∧ (serveFirmware fuel s).plant = s.plant ∧ (serveFirmware fuel s).broker = s.broker ∧
    (serveFirmware fuel s).valves = s.valves ∧ (serveFirmware fuel s).motors = s.motors ∧ (serveFirmware fuel s).senses = s.senses ∧
    (serveFirmware fuel s).pulses = s.pulses ∧ (serveFirmware fuel s).analogs = s.analogs ∧ (serveFirmware fuel s).auxs = s.auxs ∧
    (serveFirmware fuel s).cards = s.cards ∧ (serveFirmware fuel s).service = s.service ∧ (serveFirmware fuel s).seqr = s.seqr ∧
    (serveFirmware fuel s).dies = s.dies ∧ (serveFirmware fuel s).clusters = s.clusters ∧ (serveFirmware fuel s).integ = s.integ ∧
    (serveFirmware fuel s).pair = s.pair ∧ (serveFirmware fuel s).buses = s.buses ∧ (serveFirmware fuel s).frameLog = s.frameLog ∧
    (serveFirmware fuel s).power = s.power ∧ (serveFirmware fuel s).ptp = s.ptp ∧ (serveFirmware fuel s).fans = s.fans ∧
    (serveFirmware fuel s).upds = s.upds ∧ (serveFirmware fuel s).log = s.log ∧ (serveFirmware fuel s).bmu = s.bmu ∧
    (serveFirmware fuel s).mirror = s.mirror ∧ (serveFirmware fuel s).pending = s.pending := by
  have e1 := @startHead_frame
  induction fuel generalizing s with
  | zero => simp [serveFirmware, e1]
  | succ n ih => unfold serveFirmware; dsimp only; split <;> simp [ih, e1]

theorem startCopies_frame (s : State) :
    (startCopies s).now = s.now ∧ (startCopies s).frame = s.frame ∧ (startCopies s).free = s.free ∧ (startCopies s).vcp = s.vcp ∧
    (startCopies s).plant = s.plant ∧ (startCopies s).broker = s.broker ∧ (startCopies s).valves = s.valves ∧
    (startCopies s).motors = s.motors ∧ (startCopies s).senses = s.senses ∧ (startCopies s).pulses = s.pulses ∧
    (startCopies s).analogs = s.analogs ∧ (startCopies s).auxs = s.auxs ∧ (startCopies s).cards = s.cards ∧
    (startCopies s).service = s.service ∧ (startCopies s).seqr = s.seqr ∧ (startCopies s).dies = s.dies ∧
    (startCopies s).clusters = s.clusters ∧ (startCopies s).integ = s.integ ∧ (startCopies s).pair = s.pair ∧
    (startCopies s).buses = s.buses ∧ (startCopies s).frameLog = s.frameLog ∧ (startCopies s).power = s.power ∧
    (startCopies s).ptp = s.ptp ∧ (startCopies s).fans = s.fans ∧ (startCopies s).upds = s.upds ∧ (startCopies s).log = s.log ∧
    (startCopies s).bmu = s.bmu ∧ (startCopies s).mirror = s.mirror ∧ (startCopies s).pending = s.pending := by
  have e1 := @serveService_frame
  have e2 := @serveFirmware_frame
  unfold startCopies; (try dsimp only); (repeat' split) <;> simp [e1, e2]

theorem endRunning_frame (k : Nat) (st : Status) (bytes digest : Nat) (s : State) :
    (endRunning k st bytes digest s).now = s.now ∧ (endRunning k st bytes digest s).frame = s.frame ∧
    (endRunning k st bytes digest s).free = s.free ∧ (endRunning k st bytes digest s).vcp = s.vcp ∧
    (endRunning k st bytes digest s).plant = s.plant ∧ (endRunning k st bytes digest s).broker = s.broker ∧
    (endRunning k st bytes digest s).valves = s.valves ∧ (endRunning k st bytes digest s).motors = s.motors ∧
    (endRunning k st bytes digest s).senses = s.senses ∧ (endRunning k st bytes digest s).pulses = s.pulses ∧
    (endRunning k st bytes digest s).analogs = s.analogs ∧ (endRunning k st bytes digest s).auxs = s.auxs ∧
    (endRunning k st bytes digest s).cards = s.cards ∧ (endRunning k st bytes digest s).service = s.service ∧
    (endRunning k st bytes digest s).seqr = s.seqr ∧ (endRunning k st bytes digest s).dies = s.dies ∧
    (endRunning k st bytes digest s).clusters = s.clusters ∧ (endRunning k st bytes digest s).integ = s.integ ∧
    (endRunning k st bytes digest s).pair = s.pair ∧ (endRunning k st bytes digest s).buses = s.buses ∧
    (endRunning k st bytes digest s).frameLog = s.frameLog ∧ (endRunning k st bytes digest s).power = s.power ∧
    (endRunning k st bytes digest s).ptp = s.ptp ∧ (endRunning k st bytes digest s).fans = s.fans ∧
    (endRunning k st bytes digest s).upds = s.upds ∧ (endRunning k st bytes digest s).fw = s.fw ∧
    (endRunning k st bytes digest s).log = s.log ∧ (endRunning k st bytes digest s).bmu = s.bmu ∧
    (endRunning k st bytes digest s).mirror = s.mirror ∧ (endRunning k st bytes digest s).pending = s.pending := by
  have e1 := @closeBulk_frame
  have e2 := @setBusy_frame
  have e3 := @endCopy_frame
  unfold endRunning; (try dsimp only); (repeat' split) <;> simp [e1, e2, e3]

theorem dropCopies_frame (p : Mem → Bool) (s : State) :
    (dropCopies p s).now = s.now ∧ (dropCopies p s).frame = s.frame ∧ (dropCopies p s).vcp = s.vcp ∧ (dropCopies p s).plant = s.plant ∧
    (dropCopies p s).broker = s.broker ∧ (dropCopies p s).valves = s.valves ∧ (dropCopies p s).motors = s.motors ∧
    (dropCopies p s).senses = s.senses ∧ (dropCopies p s).pulses = s.pulses ∧ (dropCopies p s).analogs = s.analogs ∧
    (dropCopies p s).auxs = s.auxs ∧ (dropCopies p s).cards = s.cards ∧ (dropCopies p s).service = s.service ∧
    (dropCopies p s).seqr = s.seqr ∧ (dropCopies p s).dies = s.dies ∧ (dropCopies p s).clusters = s.clusters ∧
    (dropCopies p s).integ = s.integ ∧ (dropCopies p s).pair = s.pair ∧ (dropCopies p s).buses = s.buses ∧
    (dropCopies p s).frameLog = s.frameLog ∧ (dropCopies p s).power = s.power ∧ (dropCopies p s).ptp = s.ptp ∧
    (dropCopies p s).fans = s.fans ∧ (dropCopies p s).upds = s.upds ∧ (dropCopies p s).log = s.log ∧ (dropCopies p s).bmu = s.bmu ∧
    (dropCopies p s).mirror = s.mirror ∧ (dropCopies p s).pending = s.pending := by
  have e1 := @startCopies_frame
  have e2 := @endRunning_frame
  unfold dropCopies
  simp only [e1]
  refine ⟨forEach_now _ _ _ ?_, forEach_frame _ _ _ ?_, forEach_vcp _ _ _ ?_, forEach_plant _ _ _ ?_, forEach_broker _ _ _ ?_, forEach_valves _ _ _ ?_, forEach_motors _ _ _ ?_, forEach_senses _ _ _ ?_, forEach_pulses _ _ _ ?_, forEach_analogs _ _ _ ?_, forEach_auxs _ _ _ ?_, forEach_cards _ _ _ ?_, forEach_service _ _ _ ?_, forEach_seqr _ _ _ ?_, forEach_dies _ _ _ ?_, forEach_clusters _ _ _ ?_, forEach_integ _ _ _ ?_, forEach_pair _ _ _ ?_, forEach_buses _ _ _ ?_, forEach_frameLog _ _ _ ?_, forEach_power _ _ _ ?_, forEach_ptp _ _ _ ?_, forEach_fans _ _ _ ?_, forEach_upds _ _ _ ?_, forEach_log _ _ _ ?_, forEach_bmu _ _ _ ?_, forEach_mirror _ _ _ ?_, forEach_pending _ _ _ ?_⟩ <;> (intro x a; split <;> (try split) <;> simp [e1, e2])

theorem poisonLeg_frame (path : Nat) (s : State) :
    (poisonLeg path s).now = s.now ∧ (poisonLeg path s).frame = s.frame ∧ (poisonLeg path s).free = s.free ∧
    (poisonLeg path s).regs = s.regs ∧ (poisonLeg path s).outbox = s.outbox ∧ (poisonLeg path s).vcp = s.vcp ∧
    (poisonLeg path s).plant = s.plant ∧ (poisonLeg path s).broker = s.broker ∧ (poisonLeg path s).valves = s.valves ∧
    (poisonLeg path s).motors = s.motors ∧ (poisonLeg path s).senses = s.senses ∧ (poisonLeg path s).pulses = s.pulses ∧
    (poisonLeg path s).analogs = s.analogs ∧ (poisonLeg path s).auxs = s.auxs ∧ (poisonLeg path s).cards = s.cards ∧
    (poisonLeg path s).service = s.service ∧ (poisonLeg path s).dies = s.dies ∧ (poisonLeg path s).clusters = s.clusters ∧
    (poisonLeg path s).integ = s.integ ∧ (poisonLeg path s).copies = s.copies ∧ (poisonLeg path s).pair = s.pair ∧
    (poisonLeg path s).links = s.links ∧ (poisonLeg path s).hall = s.hall ∧ (poisonLeg path s).buses = s.buses ∧
    (poisonLeg path s).frameLog = s.frameLog ∧ (poisonLeg path s).power = s.power ∧ (poisonLeg path s).ptp = s.ptp ∧
    (poisonLeg path s).fans = s.fans ∧ (poisonLeg path s).upds = s.upds ∧ (poisonLeg path s).fw = s.fw ∧ (poisonLeg path s).log = s.log ∧
    (poisonLeg path s).bmu = s.bmu ∧ (poisonLeg path s).mirror = s.mirror ∧ (poisonLeg path s).pending = s.pending := by
  unfold poisonLeg; (try dsimp only); (repeat' split) <;> simp

theorem copyFault_frame (scheduled : Bool) (d : CopyDesc) (s : State) :
    (copyFault scheduled d s).now = s.now ∧ (copyFault scheduled d s).frame = s.frame ∧ (copyFault scheduled d s).free = s.free ∧
    (copyFault scheduled d s).vcp = s.vcp ∧ (copyFault scheduled d s).plant = s.plant ∧ (copyFault scheduled d s).broker = s.broker ∧
    (copyFault scheduled d s).valves = s.valves ∧ (copyFault scheduled d s).motors = s.motors ∧
    (copyFault scheduled d s).senses = s.senses ∧ (copyFault scheduled d s).pulses = s.pulses ∧
    (copyFault scheduled d s).analogs = s.analogs ∧ (copyFault scheduled d s).auxs = s.auxs ∧ (copyFault scheduled d s).cards = s.cards ∧
    (copyFault scheduled d s).service = s.service ∧ (copyFault scheduled d s).dies = s.dies ∧
    (copyFault scheduled d s).clusters = s.clusters ∧ (copyFault scheduled d s).integ = s.integ ∧
    (copyFault scheduled d s).copies = s.copies ∧ (copyFault scheduled d s).pair = s.pair ∧ (copyFault scheduled d s).links = s.links ∧
    (copyFault scheduled d s).hall = s.hall ∧ (copyFault scheduled d s).buses = s.buses ∧ (copyFault scheduled d s).frameLog = s.frameLog ∧
    (copyFault scheduled d s).power = s.power ∧ (copyFault scheduled d s).ptp = s.ptp ∧ (copyFault scheduled d s).fans = s.fans ∧
    (copyFault scheduled d s).upds = s.upds ∧ (copyFault scheduled d s).fw = s.fw ∧ (copyFault scheduled d s).bmu = s.bmu ∧
    (copyFault scheduled d s).mirror = s.mirror ∧ (copyFault scheduled d s).pending = s.pending := by
  have e1 := @poisonLeg_frame
  unfold copyFault; (try dsimp only); (repeat' split) <;> simp [e1]

theorem endSched_frame (e : Nat) (st : Status) (bytes digest : Nat) (s : State) :
    (endSched e st bytes digest s).now = s.now ∧ (endSched e st bytes digest s).frame = s.frame ∧
    (endSched e st bytes digest s).free = s.free ∧ (endSched e st bytes digest s).vcp = s.vcp ∧
    (endSched e st bytes digest s).plant = s.plant ∧ (endSched e st bytes digest s).broker = s.broker ∧
    (endSched e st bytes digest s).valves = s.valves ∧ (endSched e st bytes digest s).motors = s.motors ∧
    (endSched e st bytes digest s).senses = s.senses ∧ (endSched e st bytes digest s).pulses = s.pulses ∧
    (endSched e st bytes digest s).analogs = s.analogs ∧ (endSched e st bytes digest s).auxs = s.auxs ∧
    (endSched e st bytes digest s).cards = s.cards ∧ (endSched e st bytes digest s).service = s.service ∧
    (endSched e st bytes digest s).dies = s.dies ∧ (endSched e st bytes digest s).clusters = s.clusters ∧
    (endSched e st bytes digest s).integ = s.integ ∧ (endSched e st bytes digest s).pair = s.pair ∧
    (endSched e st bytes digest s).links = s.links ∧ (endSched e st bytes digest s).hall = s.hall ∧
    (endSched e st bytes digest s).buses = s.buses ∧ (endSched e st bytes digest s).frameLog = s.frameLog ∧
    (endSched e st bytes digest s).power = s.power ∧ (endSched e st bytes digest s).ptp = s.ptp ∧
    (endSched e st bytes digest s).fans = s.fans ∧ (endSched e st bytes digest s).upds = s.upds ∧ (endSched e st bytes digest s).fw = s.fw ∧
    (endSched e st bytes digest s).bmu = s.bmu ∧ (endSched e st bytes digest s).mirror = s.mirror ∧
    (endSched e st bytes digest s).pending = s.pending := by
  have e1 := @copyEvent_frame
  have e2 := @copyFault_frame
  unfold endSched; (try dsimp only); (repeat' split) <;> simp [e1, e2]

theorem endOn_frame (k : Nat) (st : Status) (bytes digest : Nat) (s : State) :
    (endOn k st bytes digest s).now = s.now ∧ (endOn k st bytes digest s).frame = s.frame ∧ (endOn k st bytes digest s).free = s.free ∧
    (endOn k st bytes digest s).vcp = s.vcp ∧ (endOn k st bytes digest s).plant = s.plant ∧ (endOn k st bytes digest s).broker = s.broker ∧
    (endOn k st bytes digest s).valves = s.valves ∧ (endOn k st bytes digest s).motors = s.motors ∧
    (endOn k st bytes digest s).senses = s.senses ∧ (endOn k st bytes digest s).pulses = s.pulses ∧
    (endOn k st bytes digest s).analogs = s.analogs ∧ (endOn k st bytes digest s).auxs = s.auxs ∧
    (endOn k st bytes digest s).cards = s.cards ∧ (endOn k st bytes digest s).service = s.service ∧
    (endOn k st bytes digest s).dies = s.dies ∧ (endOn k st bytes digest s).clusters = s.clusters ∧
    (endOn k st bytes digest s).integ = s.integ ∧ (endOn k st bytes digest s).pair = s.pair ∧ (endOn k st bytes digest s).buses = s.buses ∧
    (endOn k st bytes digest s).frameLog = s.frameLog ∧ (endOn k st bytes digest s).power = s.power ∧
    (endOn k st bytes digest s).ptp = s.ptp ∧ (endOn k st bytes digest s).fans = s.fans ∧ (endOn k st bytes digest s).upds = s.upds ∧
    (endOn k st bytes digest s).bmu = s.bmu ∧ (endOn k st bytes digest s).mirror = s.mirror ∧
    (endOn k st bytes digest s).pending = s.pending := by
  have e1 := @copyFault_frame
  have e2 := @startCopies_frame
  have e3 := @endRunning_frame
  unfold endOn; (try dsimp only); (repeat' split) <;> simp [e1, e2, e3]

theorem closeGate_frame (code : Nat) (ejector : Bool) (s : State) :
    (closeGate code ejector s).now = s.now ∧ (closeGate code ejector s).frame = s.frame ∧ (closeGate code ejector s).free = s.free ∧
    (closeGate code ejector s).regs = s.regs ∧ (closeGate code ejector s).outbox = s.outbox ∧ (closeGate code ejector s).vcp = s.vcp ∧
    (closeGate code ejector s).plant = s.plant ∧ (closeGate code ejector s).broker = s.broker ∧
    (closeGate code ejector s).valves = s.valves ∧ (closeGate code ejector s).motors = s.motors ∧
    (closeGate code ejector s).senses = s.senses ∧ (closeGate code ejector s).pulses = s.pulses ∧
    (closeGate code ejector s).analogs = s.analogs ∧ (closeGate code ejector s).auxs = s.auxs ∧ (closeGate code ejector s).cards = s.cards ∧
    (closeGate code ejector s).service = s.service ∧ (closeGate code ejector s).seqr = s.seqr ∧ (closeGate code ejector s).dies = s.dies ∧
    (closeGate code ejector s).clusters = s.clusters ∧ (closeGate code ejector s).integ = s.integ ∧
    (closeGate code ejector s).copies = s.copies ∧ (closeGate code ejector s).pair = s.pair ∧ (closeGate code ejector s).links = s.links ∧
    (closeGate code ejector s).hall = s.hall ∧ (closeGate code ejector s).buses = s.buses ∧
    (closeGate code ejector s).frameLog = s.frameLog ∧ (closeGate code ejector s).ptp = s.ptp ∧ (closeGate code ejector s).fans = s.fans ∧
    (closeGate code ejector s).upds = s.upds ∧ (closeGate code ejector s).fw = s.fw ∧ (closeGate code ejector s).log = s.log ∧
    (closeGate code ejector s).bmu = s.bmu ∧ (closeGate code ejector s).mirror = s.mirror ∧
    (closeGate code ejector s).pending = s.pending := by
  unfold closeGate; (try dsimp only); (repeat' split) <;> simp

theorem signalReset_frame (code : Nat) (s : State) :
    (signalReset code s).now = s.now ∧ (signalReset code s).frame = s.frame ∧ (signalReset code s).free = s.free ∧
    (signalReset code s).outbox = s.outbox ∧ (signalReset code s).vcp = s.vcp ∧ (signalReset code s).plant = s.plant ∧
    (signalReset code s).broker = s.broker ∧ (signalReset code s).valves = s.valves ∧ (signalReset code s).motors = s.motors ∧
    (signalReset code s).senses = s.senses ∧ (signalReset code s).pulses = s.pulses ∧ (signalReset code s).analogs = s.analogs ∧
    (signalReset code s).auxs = s.auxs ∧ (signalReset code s).cards = s.cards ∧ (signalReset code s).service = s.service ∧
    (signalReset code s).seqr = s.seqr ∧ (signalReset code s).dies = s.dies ∧ (signalReset code s).clusters = s.clusters ∧
    (signalReset code s).integ = s.integ ∧ (signalReset code s).copies = s.copies ∧ (signalReset code s).pair = s.pair ∧
    (signalReset code s).links = s.links ∧ (signalReset code s).hall = s.hall ∧ (signalReset code s).buses = s.buses ∧
    (signalReset code s).frameLog = s.frameLog ∧ (signalReset code s).power = s.power ∧ (signalReset code s).ptp = s.ptp ∧
    (signalReset code s).fans = s.fans ∧ (signalReset code s).upds = s.upds ∧ (signalReset code s).fw = s.fw ∧
    (signalReset code s).log = s.log ∧ (signalReset code s).bmu = s.bmu ∧ (signalReset code s).mirror = s.mirror ∧
    (signalReset code s).pending = s.pending := by
  unfold signalReset; (try dsimp only); (repeat' split) <;> simp

theorem gateDie_frame (i : Nat) (s : State) :
    (gateDie i s).now = s.now ∧ (gateDie i s).frame = s.frame ∧ (gateDie i s).free = s.free ∧ (gateDie i s).regs = s.regs ∧
    (gateDie i s).outbox = s.outbox ∧ (gateDie i s).vcp = s.vcp ∧ (gateDie i s).plant = s.plant ∧ (gateDie i s).broker = s.broker ∧
    (gateDie i s).valves = s.valves ∧ (gateDie i s).motors = s.motors ∧ (gateDie i s).senses = s.senses ∧ (gateDie i s).pulses = s.pulses ∧
    (gateDie i s).analogs = s.analogs ∧ (gateDie i s).auxs = s.auxs ∧ (gateDie i s).cards = s.cards ∧ (gateDie i s).service = s.service ∧
    (gateDie i s).seqr = s.seqr ∧ (gateDie i s).clusters = s.clusters ∧ (gateDie i s).integ = s.integ ∧ (gateDie i s).copies = s.copies ∧
    (gateDie i s).pair = s.pair ∧ (gateDie i s).links = s.links ∧ (gateDie i s).hall = s.hall ∧ (gateDie i s).buses = s.buses ∧
    (gateDie i s).frameLog = s.frameLog ∧ (gateDie i s).ptp = s.ptp ∧ (gateDie i s).fans = s.fans ∧ (gateDie i s).upds = s.upds ∧
    (gateDie i s).fw = s.fw ∧ (gateDie i s).log = s.log ∧ (gateDie i s).bmu = s.bmu ∧ (gateDie i s).mirror = s.mirror ∧
    (gateDie i s).pending = s.pending := by
  unfold gateDie; (try dsimp only); (repeat' split) <;> simp

theorem gatePackage_frame (s : State) :
    (gatePackage s).now = s.now ∧ (gatePackage s).frame = s.frame ∧ (gatePackage s).vcp = s.vcp ∧ (gatePackage s).plant = s.plant ∧
    (gatePackage s).broker = s.broker ∧ (gatePackage s).valves = s.valves ∧ (gatePackage s).motors = s.motors ∧
    (gatePackage s).senses = s.senses ∧ (gatePackage s).pulses = s.pulses ∧ (gatePackage s).analogs = s.analogs ∧
    (gatePackage s).auxs = s.auxs ∧ (gatePackage s).cards = s.cards ∧ (gatePackage s).service = s.service ∧ (gatePackage s).seqr = s.seqr ∧
    (gatePackage s).clusters = s.clusters ∧ (gatePackage s).integ = s.integ ∧ (gatePackage s).pair = s.pair ∧
    (gatePackage s).buses = s.buses ∧ (gatePackage s).frameLog = s.frameLog ∧ (gatePackage s).ptp = s.ptp ∧ (gatePackage s).fans = s.fans ∧
    (gatePackage s).upds = s.upds ∧ (gatePackage s).log = s.log ∧ (gatePackage s).bmu = s.bmu ∧ (gatePackage s).mirror = s.mirror ∧
    (gatePackage s).pending = s.pending := by
  have e1 := @dropCopies_frame
  have e2 := @gateDie_frame
  have e3 := @signalReset_frame
  unfold gatePackage; (try dsimp only); (repeat' split) <;> simp [e1, e2, e3]

theorem dieDown_frame (code : Nat) (s : State) :
    (dieDown code s).now = s.now ∧ (dieDown code s).frame = s.frame ∧ (dieDown code s).vcp = s.vcp ∧ (dieDown code s).plant = s.plant ∧
    (dieDown code s).broker = s.broker ∧ (dieDown code s).valves = s.valves ∧ (dieDown code s).motors = s.motors ∧
    (dieDown code s).senses = s.senses ∧ (dieDown code s).pulses = s.pulses ∧ (dieDown code s).analogs = s.analogs ∧
    (dieDown code s).auxs = s.auxs ∧ (dieDown code s).cards = s.cards ∧ (dieDown code s).service = s.service ∧
    (dieDown code s).seqr = s.seqr ∧ (dieDown code s).clusters = s.clusters ∧ (dieDown code s).integ = s.integ ∧
    (dieDown code s).pair = s.pair ∧ (dieDown code s).buses = s.buses ∧ (dieDown code s).frameLog = s.frameLog ∧
    (dieDown code s).ptp = s.ptp ∧ (dieDown code s).fans = s.fans ∧ (dieDown code s).upds = s.upds ∧ (dieDown code s).log = s.log ∧
    (dieDown code s).bmu = s.bmu ∧ (dieDown code s).mirror = s.mirror ∧ (dieDown code s).pending = s.pending := by
  have e1 := @gateDie_frame
  have e2 := @dropCopies_frame
  unfold dieDown; (try dsimp only); (repeat' split) <;> simp [e1, e2]

theorem openPackage_frame (s : State) :
    (openPackage s).now = s.now ∧ (openPackage s).frame = s.frame ∧ (openPackage s).vcp = s.vcp ∧ (openPackage s).plant = s.plant ∧
    (openPackage s).broker = s.broker ∧ (openPackage s).valves = s.valves ∧ (openPackage s).motors = s.motors ∧
    (openPackage s).senses = s.senses ∧ (openPackage s).pulses = s.pulses ∧ (openPackage s).analogs = s.analogs ∧
    (openPackage s).auxs = s.auxs ∧ (openPackage s).cards = s.cards ∧ (openPackage s).service = s.service ∧ (openPackage s).seqr = s.seqr ∧
    (openPackage s).clusters = s.clusters ∧ (openPackage s).integ = s.integ ∧ (openPackage s).pair = s.pair ∧
    (openPackage s).buses = s.buses ∧ (openPackage s).frameLog = s.frameLog ∧ (openPackage s).ptp = s.ptp ∧ (openPackage s).fans = s.fans ∧
    (openPackage s).upds = s.upds ∧ (openPackage s).log = s.log ∧ (openPackage s).bmu = s.bmu ∧ (openPackage s).mirror = s.mirror ∧
    (openPackage s).pending = s.pending := by
  have e1 := @signalReset_frame
  have e2 := @dieDown_frame
  unfold openPackage; (try dsimp only); (repeat' split) <;> simp [e1, e2]

theorem stopLegs_frame (st : SeqSt) (s : State) :
    (stopLegs st s).now = s.now ∧ (stopLegs st s).frame = s.frame ∧ (stopLegs st s).free = s.free ∧ (stopLegs st s).regs = s.regs ∧
    (stopLegs st s).outbox = s.outbox ∧ (stopLegs st s).vcp = s.vcp ∧ (stopLegs st s).plant = s.plant ∧ (stopLegs st s).broker = s.broker ∧
    (stopLegs st s).valves = s.valves ∧ (stopLegs st s).motors = s.motors ∧ (stopLegs st s).senses = s.senses ∧
    (stopLegs st s).pulses = s.pulses ∧ (stopLegs st s).analogs = s.analogs ∧ (stopLegs st s).auxs = s.auxs ∧
    (stopLegs st s).cards = s.cards ∧ (stopLegs st s).service = s.service ∧ (stopLegs st s).dies = s.dies ∧
    (stopLegs st s).clusters = s.clusters ∧ (stopLegs st s).integ = s.integ ∧ (stopLegs st s).pair = s.pair ∧
    (stopLegs st s).links = s.links ∧ (stopLegs st s).hall = s.hall ∧ (stopLegs st s).buses = s.buses ∧
    (stopLegs st s).frameLog = s.frameLog ∧ (stopLegs st s).power = s.power ∧ (stopLegs st s).ptp = s.ptp ∧ (stopLegs st s).fans = s.fans ∧
    (stopLegs st s).upds = s.upds ∧ (stopLegs st s).fw = s.fw ∧ (stopLegs st s).log = s.log ∧ (stopLegs st s).bmu = s.bmu ∧
    (stopLegs st s).mirror = s.mirror ∧ (stopLegs st s).pending = s.pending := by
  unfold stopLegs; (try dsimp only); (repeat' split) <;> simp

theorem valveUnpowered_frame (c : Nat) (s : State) :
    (valveUnpowered c s).now = s.now ∧ (valveUnpowered c s).frame = s.frame ∧ (valveUnpowered c s).free = s.free ∧
    (valveUnpowered c s).broker = s.broker ∧ (valveUnpowered c s).motors = s.motors ∧ (valveUnpowered c s).senses = s.senses ∧
    (valveUnpowered c s).pulses = s.pulses ∧ (valveUnpowered c s).analogs = s.analogs ∧ (valveUnpowered c s).auxs = s.auxs ∧
    (valveUnpowered c s).cards = s.cards ∧ (valveUnpowered c s).service = s.service ∧ (valveUnpowered c s).seqr = s.seqr ∧
    (valveUnpowered c s).dies = s.dies ∧ (valveUnpowered c s).clusters = s.clusters ∧ (valveUnpowered c s).integ = s.integ ∧
    (valveUnpowered c s).copies = s.copies ∧ (valveUnpowered c s).pair = s.pair ∧ (valveUnpowered c s).links = s.links ∧
    (valveUnpowered c s).hall = s.hall ∧ (valveUnpowered c s).buses = s.buses ∧ (valveUnpowered c s).frameLog = s.frameLog ∧
    (valveUnpowered c s).power = s.power ∧ (valveUnpowered c s).ptp = s.ptp ∧ (valveUnpowered c s).fans = s.fans ∧
    (valveUnpowered c s).upds = s.upds ∧ (valveUnpowered c s).fw = s.fw ∧ (valveUnpowered c s).bmu = s.bmu ∧
    (valveUnpowered c s).mirror = s.mirror ∧ (valveUnpowered c s).pending = s.pending := by
  have e1 := @dropValveCmd_frame
  unfold valveUnpowered; (try dsimp only); (repeat' split) <;> simp [e1]

theorem motorUnpowered_frame (st : Status) (c : Nat) (s : State) :
    (motorUnpowered st c s).now = s.now ∧ (motorUnpowered st c s).frame = s.frame ∧ (motorUnpowered st c s).free = s.free ∧
    (motorUnpowered st c s).plant = s.plant ∧ (motorUnpowered st c s).broker = s.broker ∧ (motorUnpowered st c s).valves = s.valves ∧
    (motorUnpowered st c s).senses = s.senses ∧ (motorUnpowered st c s).pulses = s.pulses ∧ (motorUnpowered st c s).analogs = s.analogs ∧
    (motorUnpowered st c s).auxs = s.auxs ∧ (motorUnpowered st c s).cards = s.cards ∧ (motorUnpowered st c s).service = s.service ∧
    (motorUnpowered st c s).seqr = s.seqr ∧ (motorUnpowered st c s).dies = s.dies ∧ (motorUnpowered st c s).clusters = s.clusters ∧
    (motorUnpowered st c s).integ = s.integ ∧ (motorUnpowered st c s).copies = s.copies ∧ (motorUnpowered st c s).pair = s.pair ∧
    (motorUnpowered st c s).links = s.links ∧ (motorUnpowered st c s).hall = s.hall ∧ (motorUnpowered st c s).buses = s.buses ∧
    (motorUnpowered st c s).frameLog = s.frameLog ∧ (motorUnpowered st c s).power = s.power ∧ (motorUnpowered st c s).ptp = s.ptp ∧
    (motorUnpowered st c s).fans = s.fans ∧ (motorUnpowered st c s).upds = s.upds ∧ (motorUnpowered st c s).fw = s.fw ∧
    (motorUnpowered st c s).bmu = s.bmu ∧ (motorUnpowered st c s).mirror = s.mirror ∧ (motorUnpowered st c s).pending = s.pending := by
  have e1 := @endMotorCmd_frame
  unfold motorUnpowered; (try dsimp only); (repeat' split) <;> simp [e1]

theorem cardUnpowered_frame (k : Nat) (s : State) :
    (cardUnpowered k s).now = s.now ∧ (cardUnpowered k s).frame = s.frame ∧ (cardUnpowered k s).free = s.free ∧
    (cardUnpowered k s).broker = s.broker ∧ (cardUnpowered k s).senses = s.senses ∧ (cardUnpowered k s).pulses = s.pulses ∧
    (cardUnpowered k s).auxs = s.auxs ∧ (cardUnpowered k s).cards = s.cards ∧ (cardUnpowered k s).service = s.service ∧
    (cardUnpowered k s).seqr = s.seqr ∧ (cardUnpowered k s).dies = s.dies ∧ (cardUnpowered k s).clusters = s.clusters ∧
    (cardUnpowered k s).integ = s.integ ∧ (cardUnpowered k s).copies = s.copies ∧ (cardUnpowered k s).pair = s.pair ∧
    (cardUnpowered k s).links = s.links ∧ (cardUnpowered k s).hall = s.hall ∧ (cardUnpowered k s).buses = s.buses ∧
    (cardUnpowered k s).frameLog = s.frameLog ∧ (cardUnpowered k s).power = s.power ∧ (cardUnpowered k s).ptp = s.ptp ∧
    (cardUnpowered k s).fans = s.fans ∧ (cardUnpowered k s).upds = s.upds ∧ (cardUnpowered k s).fw = s.fw ∧
    (cardUnpowered k s).bmu = s.bmu ∧ (cardUnpowered k s).mirror = s.mirror ∧ (cardUnpowered k s).pending = s.pending := by
  have e1 := @valveUnpowered_frame
  have e2 := @motorUnpowered_frame
  unfold cardUnpowered; (try dsimp only); (repeat' split) <;> simp [e1, e2]

theorem cardRemoved_frame (st : Status) (k : Nat) (s : State) :
    (cardRemoved st k s).now = s.now ∧ (cardRemoved st k s).frame = s.frame ∧ (cardRemoved st k s).free = s.free ∧
    (cardRemoved st k s).broker = s.broker ∧ (cardRemoved st k s).pulses = s.pulses ∧ (cardRemoved st k s).auxs = s.auxs ∧
    (cardRemoved st k s).cards = s.cards ∧ (cardRemoved st k s).service = s.service ∧ (cardRemoved st k s).seqr = s.seqr ∧
    (cardRemoved st k s).dies = s.dies ∧ (cardRemoved st k s).clusters = s.clusters ∧ (cardRemoved st k s).integ = s.integ ∧
    (cardRemoved st k s).copies = s.copies ∧ (cardRemoved st k s).pair = s.pair ∧ (cardRemoved st k s).links = s.links ∧
    (cardRemoved st k s).hall = s.hall ∧ (cardRemoved st k s).buses = s.buses ∧ (cardRemoved st k s).frameLog = s.frameLog ∧
    (cardRemoved st k s).power = s.power ∧ (cardRemoved st k s).ptp = s.ptp ∧ (cardRemoved st k s).fans = s.fans ∧
    (cardRemoved st k s).upds = s.upds ∧ (cardRemoved st k s).fw = s.fw ∧ (cardRemoved st k s).bmu = s.bmu ∧
    (cardRemoved st k s).mirror = s.mirror ∧ (cardRemoved st k s).pending = s.pending := by
  have e1 := @dropValveCmd_frame
  have e2 := @motorUnpowered_frame
  unfold cardRemoved; (try dsimp only); (repeat' split) <;> simp [e1, e2]

theorem refitted_frame (k : Nat) (s : State) :
    (refitted k s).now = s.now ∧ (refitted k s).frame = s.frame ∧ (refitted k s).free = s.free ∧ (refitted k s).outbox = s.outbox ∧
    (refitted k s).vcp = s.vcp ∧ (refitted k s).plant = s.plant ∧ (refitted k s).broker = s.broker ∧ (refitted k s).pulses = s.pulses ∧
    (refitted k s).analogs = s.analogs ∧ (refitted k s).auxs = s.auxs ∧ (refitted k s).cards = s.cards ∧
    (refitted k s).service = s.service ∧ (refitted k s).seqr = s.seqr ∧ (refitted k s).dies = s.dies ∧
    (refitted k s).clusters = s.clusters ∧ (refitted k s).integ = s.integ ∧ (refitted k s).copies = s.copies ∧
    (refitted k s).pair = s.pair ∧ (refitted k s).links = s.links ∧ (refitted k s).hall = s.hall ∧ (refitted k s).buses = s.buses ∧
    (refitted k s).frameLog = s.frameLog ∧ (refitted k s).power = s.power ∧ (refitted k s).ptp = s.ptp ∧ (refitted k s).fans = s.fans ∧
    (refitted k s).upds = s.upds ∧ (refitted k s).fw = s.fw ∧ (refitted k s).log = s.log ∧ (refitted k s).bmu = s.bmu ∧
    (refitted k s).mirror = s.mirror ∧ (refitted k s).pending = s.pending := by
  unfold refitted; (try dsimp only); (repeat' split) <;> simp

theorem applyChan_frame (e : CardChannel) (s : State) :
    (applyChan e s).now = s.now ∧ (applyChan e s).frame = s.frame ∧ (applyChan e s).free = s.free ∧ (applyChan e s).outbox = s.outbox ∧
    (applyChan e s).vcp = s.vcp ∧ (applyChan e s).broker = s.broker ∧ (applyChan e s).senses = s.senses ∧
    (applyChan e s).pulses = s.pulses ∧ (applyChan e s).auxs = s.auxs ∧ (applyChan e s).cards = s.cards ∧
    (applyChan e s).service = s.service ∧ (applyChan e s).seqr = s.seqr ∧ (applyChan e s).dies = s.dies ∧
    (applyChan e s).clusters = s.clusters ∧ (applyChan e s).integ = s.integ ∧ (applyChan e s).copies = s.copies ∧
    (applyChan e s).pair = s.pair ∧ (applyChan e s).links = s.links ∧ (applyChan e s).hall = s.hall ∧ (applyChan e s).buses = s.buses ∧
    (applyChan e s).frameLog = s.frameLog ∧ (applyChan e s).power = s.power ∧ (applyChan e s).ptp = s.ptp ∧ (applyChan e s).fans = s.fans ∧
    (applyChan e s).upds = s.upds ∧ (applyChan e s).fw = s.fw ∧ (applyChan e s).log = s.log ∧ (applyChan e s).bmu = s.bmu ∧
    (applyChan e s).mirror = s.mirror ∧ (applyChan e s).pending = s.pending := by
  unfold applyChan; (try dsimp only); (repeat' split) <;> simp

theorem cardNotify_frame (k : Nat) (st : Status) (detail : Option Nat) (s : State) :
    (cardNotify k st detail s).now = s.now ∧ (cardNotify k st detail s).frame = s.frame ∧ (cardNotify k st detail s).free = s.free ∧
    (cardNotify k st detail s).plant = s.plant ∧ (cardNotify k st detail s).broker = s.broker ∧
    (cardNotify k st detail s).valves = s.valves ∧ (cardNotify k st detail s).motors = s.motors ∧
    (cardNotify k st detail s).senses = s.senses ∧ (cardNotify k st detail s).pulses = s.pulses ∧
    (cardNotify k st detail s).analogs = s.analogs ∧ (cardNotify k st detail s).auxs = s.auxs ∧ (cardNotify k st detail s).cards = s.cards ∧
    (cardNotify k st detail s).service = s.service ∧ (cardNotify k st detail s).seqr = s.seqr ∧ (cardNotify k st detail s).dies = s.dies ∧
    (cardNotify k st detail s).clusters = s.clusters ∧ (cardNotify k st detail s).integ = s.integ ∧
    (cardNotify k st detail s).copies = s.copies ∧ (cardNotify k st detail s).pair = s.pair ∧ (cardNotify k st detail s).links = s.links ∧
    (cardNotify k st detail s).hall = s.hall ∧ (cardNotify k st detail s).buses = s.buses ∧
    (cardNotify k st detail s).frameLog = s.frameLog ∧ (cardNotify k st detail s).power = s.power ∧ (cardNotify k st detail s).ptp = s.ptp ∧
    (cardNotify k st detail s).fans = s.fans ∧ (cardNotify k st detail s).upds = s.upds ∧ (cardNotify k st detail s).fw = s.fw ∧
    (cardNotify k st detail s).log = s.log ∧ (cardNotify k st detail s).bmu = s.bmu ∧ (cardNotify k st detail s).mirror = s.mirror ∧
    (cardNotify k st detail s).pending = s.pending := by
  unfold cardNotify; (try dsimp only); (repeat' split) <;> simp

theorem dropService_frame (k : Nat) (s : State) :
    (dropService k s).now = s.now ∧ (dropService k s).frame = s.frame ∧ (dropService k s).free = s.free ∧ (dropService k s).regs = s.regs ∧
    (dropService k s).outbox = s.outbox ∧ (dropService k s).vcp = s.vcp ∧ (dropService k s).plant = s.plant ∧
    (dropService k s).broker = s.broker ∧ (dropService k s).valves = s.valves ∧ (dropService k s).motors = s.motors ∧
    (dropService k s).senses = s.senses ∧ (dropService k s).pulses = s.pulses ∧ (dropService k s).analogs = s.analogs ∧
    (dropService k s).auxs = s.auxs ∧ (dropService k s).cards = s.cards ∧ (dropService k s).seqr = s.seqr ∧
    (dropService k s).dies = s.dies ∧ (dropService k s).clusters = s.clusters ∧ (dropService k s).integ = s.integ ∧
    (dropService k s).copies = s.copies ∧ (dropService k s).pair = s.pair ∧ (dropService k s).links = s.links ∧
    (dropService k s).hall = s.hall ∧ (dropService k s).buses = s.buses ∧ (dropService k s).frameLog = s.frameLog ∧
    (dropService k s).power = s.power ∧ (dropService k s).ptp = s.ptp ∧ (dropService k s).fans = s.fans ∧ (dropService k s).upds = s.upds ∧
    (dropService k s).fw = s.fw ∧ (dropService k s).log = s.log ∧ (dropService k s).bmu = s.bmu ∧ (dropService k s).mirror = s.mirror ∧
    (dropService k s).pending = s.pending := by
  unfold dropService; (try dsimp only); (repeat' split) <;> simp

theorem enumerate_frame (k : Nat) (seenAt : Time) (s : State) :
    (enumerate k seenAt s).now = s.now ∧ (enumerate k seenAt s).frame = s.frame ∧ (enumerate k seenAt s).free = s.free ∧
    (enumerate k seenAt s).regs = s.regs ∧ (enumerate k seenAt s).outbox = s.outbox ∧ (enumerate k seenAt s).vcp = s.vcp ∧
    (enumerate k seenAt s).plant = s.plant ∧ (enumerate k seenAt s).broker = s.broker ∧ (enumerate k seenAt s).valves = s.valves ∧
    (enumerate k seenAt s).motors = s.motors ∧ (enumerate k seenAt s).senses = s.senses ∧ (enumerate k seenAt s).pulses = s.pulses ∧
    (enumerate k seenAt s).analogs = s.analogs ∧ (enumerate k seenAt s).auxs = s.auxs ∧ (enumerate k seenAt s).seqr = s.seqr ∧
    (enumerate k seenAt s).dies = s.dies ∧ (enumerate k seenAt s).clusters = s.clusters ∧ (enumerate k seenAt s).integ = s.integ ∧
    (enumerate k seenAt s).copies = s.copies ∧ (enumerate k seenAt s).pair = s.pair ∧ (enumerate k seenAt s).links = s.links ∧
    (enumerate k seenAt s).hall = s.hall ∧ (enumerate k seenAt s).buses = s.buses ∧ (enumerate k seenAt s).frameLog = s.frameLog ∧
    (enumerate k seenAt s).ptp = s.ptp ∧ (enumerate k seenAt s).fans = s.fans ∧ (enumerate k seenAt s).upds = s.upds ∧
    (enumerate k seenAt s).fw = s.fw ∧ (enumerate k seenAt s).log = s.log ∧ (enumerate k seenAt s).bmu = s.bmu ∧
    (enumerate k seenAt s).mirror = s.mirror ∧ (enumerate k seenAt s).pending = s.pending := by
  have e1 := @dropService_frame
  unfold enumerate; (try dsimp only); (repeat' split) <;> simp [e1]

theorem pieceWritten_frame (k p : Nat) (s : State) :
    (pieceWritten k p s).now = s.now ∧ (pieceWritten k p s).frame = s.frame ∧ (pieceWritten k p s).free = s.free ∧
    (pieceWritten k p s).regs = s.regs ∧ (pieceWritten k p s).outbox = s.outbox ∧ (pieceWritten k p s).vcp = s.vcp ∧
    (pieceWritten k p s).plant = s.plant ∧ (pieceWritten k p s).broker = s.broker ∧ (pieceWritten k p s).valves = s.valves ∧
    (pieceWritten k p s).motors = s.motors ∧ (pieceWritten k p s).senses = s.senses ∧ (pieceWritten k p s).pulses = s.pulses ∧
    (pieceWritten k p s).analogs = s.analogs ∧ (pieceWritten k p s).auxs = s.auxs ∧ (pieceWritten k p s).seqr = s.seqr ∧
    (pieceWritten k p s).dies = s.dies ∧ (pieceWritten k p s).clusters = s.clusters ∧ (pieceWritten k p s).integ = s.integ ∧
    (pieceWritten k p s).copies = s.copies ∧ (pieceWritten k p s).pair = s.pair ∧ (pieceWritten k p s).links = s.links ∧
    (pieceWritten k p s).hall = s.hall ∧ (pieceWritten k p s).buses = s.buses ∧ (pieceWritten k p s).frameLog = s.frameLog ∧
    (pieceWritten k p s).ptp = s.ptp ∧ (pieceWritten k p s).fans = s.fans ∧ (pieceWritten k p s).upds = s.upds ∧
    (pieceWritten k p s).fw = s.fw ∧ (pieceWritten k p s).log = s.log ∧ (pieceWritten k p s).bmu = s.bmu ∧
    (pieceWritten k p s).mirror = s.mirror ∧ (pieceWritten k p s).pending = s.pending := by
  have e1 := @enumerate_frame
  unfold pieceWritten; (try dsimp only); (repeat' split) <;> simp [e1]

theorem flashCard_frame (k : Nat) (s : State) :
    (flashCard k s).now = s.now ∧ (flashCard k s).frame = s.frame ∧ (flashCard k s).free = s.free ∧ (flashCard k s).regs = s.regs ∧
    (flashCard k s).outbox = s.outbox ∧ (flashCard k s).vcp = s.vcp ∧ (flashCard k s).plant = s.plant ∧ (flashCard k s).broker = s.broker ∧
    (flashCard k s).valves = s.valves ∧ (flashCard k s).motors = s.motors ∧ (flashCard k s).senses = s.senses ∧
    (flashCard k s).pulses = s.pulses ∧ (flashCard k s).analogs = s.analogs ∧ (flashCard k s).auxs = s.auxs ∧
    (flashCard k s).seqr = s.seqr ∧ (flashCard k s).dies = s.dies ∧ (flashCard k s).clusters = s.clusters ∧
    (flashCard k s).integ = s.integ ∧ (flashCard k s).copies = s.copies ∧ (flashCard k s).pair = s.pair ∧ (flashCard k s).links = s.links ∧
    (flashCard k s).hall = s.hall ∧ (flashCard k s).buses = s.buses ∧ (flashCard k s).frameLog = s.frameLog ∧ (flashCard k s).ptp = s.ptp ∧
    (flashCard k s).fans = s.fans ∧ (flashCard k s).upds = s.upds ∧ (flashCard k s).fw = s.fw ∧ (flashCard k s).log = s.log ∧
    (flashCard k s).bmu = s.bmu ∧ (flashCard k s).mirror = s.mirror ∧ (flashCard k s).pending = s.pending := by
  have e1 := @enumerate_frame
  unfold flashCard; (try dsimp only); (repeat' split) <;> simp [e1]

theorem svcAck_frame (up : List Uplink) (s : State) :
    (svcAck up s).now = s.now ∧ (svcAck up s).frame = s.frame ∧ (svcAck up s).free = s.free ∧ (svcAck up s).regs = s.regs ∧
    (svcAck up s).outbox = s.outbox ∧ (svcAck up s).vcp = s.vcp ∧ (svcAck up s).plant = s.plant ∧ (svcAck up s).broker = s.broker ∧
    (svcAck up s).valves = s.valves ∧ (svcAck up s).motors = s.motors ∧ (svcAck up s).senses = s.senses ∧ (svcAck up s).pulses = s.pulses ∧
    (svcAck up s).analogs = s.analogs ∧ (svcAck up s).auxs = s.auxs ∧ (svcAck up s).seqr = s.seqr ∧ (svcAck up s).dies = s.dies ∧
    (svcAck up s).clusters = s.clusters ∧ (svcAck up s).integ = s.integ ∧ (svcAck up s).copies = s.copies ∧ (svcAck up s).pair = s.pair ∧
    (svcAck up s).links = s.links ∧ (svcAck up s).hall = s.hall ∧ (svcAck up s).buses = s.buses ∧ (svcAck up s).frameLog = s.frameLog ∧
    (svcAck up s).ptp = s.ptp ∧ (svcAck up s).fans = s.fans ∧ (svcAck up s).upds = s.upds ∧ (svcAck up s).fw = s.fw ∧
    (svcAck up s).log = s.log ∧ (svcAck up s).bmu = s.bmu ∧ (svcAck up s).mirror = s.mirror ∧ (svcAck up s).pending = s.pending := by
  have e1 := @pieceWritten_frame
  unfold svcAck; (try dsimp only); (repeat' split) <;> simp [e1]

theorem askDescriptor_frame (k : Nat) (s : State) :
    (askDescriptor k s).now = s.now ∧ (askDescriptor k s).frame = s.frame ∧ (askDescriptor k s).free = s.free ∧
    (askDescriptor k s).regs = s.regs ∧ (askDescriptor k s).outbox = s.outbox ∧ (askDescriptor k s).vcp = s.vcp ∧
    (askDescriptor k s).plant = s.plant ∧ (askDescriptor k s).broker = s.broker ∧ (askDescriptor k s).valves = s.valves ∧
    (askDescriptor k s).motors = s.motors ∧ (askDescriptor k s).senses = s.senses ∧ (askDescriptor k s).pulses = s.pulses ∧
    (askDescriptor k s).analogs = s.analogs ∧ (askDescriptor k s).auxs = s.auxs ∧ (askDescriptor k s).cards = s.cards ∧
    (askDescriptor k s).seqr = s.seqr ∧ (askDescriptor k s).dies = s.dies ∧ (askDescriptor k s).clusters = s.clusters ∧
    (askDescriptor k s).integ = s.integ ∧ (askDescriptor k s).copies = s.copies ∧ (askDescriptor k s).pair = s.pair ∧
    (askDescriptor k s).links = s.links ∧ (askDescriptor k s).hall = s.hall ∧ (askDescriptor k s).buses = s.buses ∧
    (askDescriptor k s).frameLog = s.frameLog ∧ (askDescriptor k s).power = s.power ∧ (askDescriptor k s).ptp = s.ptp ∧
    (askDescriptor k s).fans = s.fans ∧ (askDescriptor k s).upds = s.upds ∧ (askDescriptor k s).fw = s.fw ∧
    (askDescriptor k s).log = s.log ∧ (askDescriptor k s).bmu = s.bmu ∧ (askDescriptor k s).mirror = s.mirror ∧
    (askDescriptor k s).pending = s.pending := by
  unfold askDescriptor; (try dsimp only); (repeat' split) <;> simp

theorem svcServe_frame (s : State) :
    (svcServe s).now = s.now ∧ (svcServe s).frame = s.frame ∧ (svcServe s).free = s.free ∧ (svcServe s).regs = s.regs ∧
    (svcServe s).outbox = s.outbox ∧ (svcServe s).vcp = s.vcp ∧ (svcServe s).plant = s.plant ∧ (svcServe s).broker = s.broker ∧
    (svcServe s).valves = s.valves ∧ (svcServe s).motors = s.motors ∧ (svcServe s).senses = s.senses ∧ (svcServe s).pulses = s.pulses ∧
    (svcServe s).analogs = s.analogs ∧ (svcServe s).auxs = s.auxs ∧ (svcServe s).seqr = s.seqr ∧ (svcServe s).dies = s.dies ∧
    (svcServe s).clusters = s.clusters ∧ (svcServe s).integ = s.integ ∧ (svcServe s).copies = s.copies ∧ (svcServe s).pair = s.pair ∧
    (svcServe s).links = s.links ∧ (svcServe s).hall = s.hall ∧ (svcServe s).buses = s.buses ∧ (svcServe s).frameLog = s.frameLog ∧
    (svcServe s).power = s.power ∧ (svcServe s).ptp = s.ptp ∧ (svcServe s).fans = s.fans ∧ (svcServe s).upds = s.upds ∧
    (svcServe s).fw = s.fw ∧ (svcServe s).log = s.log ∧ (svcServe s).bmu = s.bmu ∧ (svcServe s).mirror = s.mirror ∧
    (svcServe s).pending = s.pending := by
  unfold svcServe; (try dsimp only); (repeat' split) <;> simp

theorem serviceFrame_frame (up : List Uplink) (s : State) :
    (serviceFrame up s).now = s.now ∧ (serviceFrame up s).frame = s.frame ∧ (serviceFrame up s).free = s.free ∧
    (serviceFrame up s).regs = s.regs ∧ (serviceFrame up s).outbox = s.outbox ∧ (serviceFrame up s).vcp = s.vcp ∧
    (serviceFrame up s).plant = s.plant ∧ (serviceFrame up s).broker = s.broker ∧ (serviceFrame up s).valves = s.valves ∧
    (serviceFrame up s).motors = s.motors ∧ (serviceFrame up s).senses = s.senses ∧ (serviceFrame up s).pulses = s.pulses ∧
    (serviceFrame up s).analogs = s.analogs ∧ (serviceFrame up s).auxs = s.auxs ∧ (serviceFrame up s).seqr = s.seqr ∧
    (serviceFrame up s).dies = s.dies ∧ (serviceFrame up s).clusters = s.clusters ∧ (serviceFrame up s).integ = s.integ ∧
    (serviceFrame up s).copies = s.copies ∧ (serviceFrame up s).pair = s.pair ∧ (serviceFrame up s).links = s.links ∧
    (serviceFrame up s).hall = s.hall ∧ (serviceFrame up s).buses = s.buses ∧ (serviceFrame up s).frameLog = s.frameLog ∧
    (serviceFrame up s).ptp = s.ptp ∧ (serviceFrame up s).fans = s.fans ∧ (serviceFrame up s).upds = s.upds ∧
    (serviceFrame up s).fw = s.fw ∧ (serviceFrame up s).log = s.log ∧ (serviceFrame up s).bmu = s.bmu ∧
    (serviceFrame up s).mirror = s.mirror ∧ (serviceFrame up s).pending = s.pending := by
  have e1 := @svcServe_frame
  have e2 := @askDescriptor_frame
  have e3 := @svcAck_frame
  unfold serviceFrame; (try dsimp only); (repeat' split) <;> simp [e1, e2, e3]

theorem slotDown_frame (k : Nat) (ejector : Bool) (s : State) :
    (slotDown k ejector s).now = s.now ∧ (slotDown k ejector s).frame = s.frame ∧ (slotDown k ejector s).free = s.free ∧
    (slotDown k ejector s).broker = s.broker ∧ (slotDown k ejector s).pulses = s.pulses ∧ (slotDown k ejector s).auxs = s.auxs ∧
    (slotDown k ejector s).seqr = s.seqr ∧ (slotDown k ejector s).dies = s.dies ∧ (slotDown k ejector s).clusters = s.clusters ∧
    (slotDown k ejector s).integ = s.integ ∧ (slotDown k ejector s).copies = s.copies ∧ (slotDown k ejector s).pair = s.pair ∧
    (slotDown k ejector s).links = s.links ∧ (slotDown k ejector s).hall = s.hall ∧ (slotDown k ejector s).buses = s.buses ∧
    (slotDown k ejector s).frameLog = s.frameLog ∧ (slotDown k ejector s).power = s.power ∧ (slotDown k ejector s).ptp = s.ptp ∧
    (slotDown k ejector s).fans = s.fans ∧ (slotDown k ejector s).upds = s.upds ∧ (slotDown k ejector s).fw = s.fw ∧
    (slotDown k ejector s).bmu = s.bmu ∧ (slotDown k ejector s).mirror = s.mirror ∧ (slotDown k ejector s).pending = s.pending := by
  have e1 := @dropService_frame
  have e2 := @cardRemoved_frame
  unfold slotDown; (try dsimp only); (repeat' split) <;> simp [e1, e2]

theorem nextCardUpdate_frame (k : Nat) (s : State) :
    (nextCardUpdate k s).now = s.now ∧ (nextCardUpdate k s).frame = s.frame ∧ (nextCardUpdate k s).free = s.free ∧
    (nextCardUpdate k s).regs = s.regs ∧ (nextCardUpdate k s).outbox = s.outbox ∧ (nextCardUpdate k s).vcp = s.vcp ∧
    (nextCardUpdate k s).plant = s.plant ∧ (nextCardUpdate k s).broker = s.broker ∧ (nextCardUpdate k s).valves = s.valves ∧
    (nextCardUpdate k s).motors = s.motors ∧ (nextCardUpdate k s).senses = s.senses ∧ (nextCardUpdate k s).pulses = s.pulses ∧
    (nextCardUpdate k s).analogs = s.analogs ∧ (nextCardUpdate k s).auxs = s.auxs ∧ (nextCardUpdate k s).seqr = s.seqr ∧
    (nextCardUpdate k s).dies = s.dies ∧ (nextCardUpdate k s).clusters = s.clusters ∧ (nextCardUpdate k s).integ = s.integ ∧
    (nextCardUpdate k s).copies = s.copies ∧ (nextCardUpdate k s).pair = s.pair ∧ (nextCardUpdate k s).links = s.links ∧
    (nextCardUpdate k s).hall = s.hall ∧ (nextCardUpdate k s).buses = s.buses ∧ (nextCardUpdate k s).frameLog = s.frameLog ∧
    (nextCardUpdate k s).ptp = s.ptp ∧ (nextCardUpdate k s).fans = s.fans ∧ (nextCardUpdate k s).fw = s.fw ∧
    (nextCardUpdate k s).log = s.log ∧ (nextCardUpdate k s).bmu = s.bmu ∧ (nextCardUpdate k s).mirror = s.mirror ∧
    (nextCardUpdate k s).pending = s.pending := by
  have e1 := @flashCard_frame
  have e2 := @enumerate_frame
  unfold nextCardUpdate; (try dsimp only); (repeat' split) <;> simp [e1, e2]

theorem setLocate_frame (path : Nat) (on : Bool) (s : State) :
    (setLocate path on s).now = s.now ∧ (setLocate path on s).frame = s.frame ∧ (setLocate path on s).free = s.free ∧
    (setLocate path on s).plant = s.plant ∧ (setLocate path on s).broker = s.broker ∧ (setLocate path on s).valves = s.valves ∧
    (setLocate path on s).motors = s.motors ∧ (setLocate path on s).senses = s.senses ∧ (setLocate path on s).pulses = s.pulses ∧
    (setLocate path on s).analogs = s.analogs ∧ (setLocate path on s).auxs = s.auxs ∧ (setLocate path on s).cards = s.cards ∧
    (setLocate path on s).service = s.service ∧ (setLocate path on s).seqr = s.seqr ∧ (setLocate path on s).dies = s.dies ∧
    (setLocate path on s).clusters = s.clusters ∧ (setLocate path on s).integ = s.integ ∧ (setLocate path on s).copies = s.copies ∧
    (setLocate path on s).pair = s.pair ∧ (setLocate path on s).links = s.links ∧ (setLocate path on s).hall = s.hall ∧
    (setLocate path on s).buses = s.buses ∧ (setLocate path on s).frameLog = s.frameLog ∧ (setLocate path on s).power = s.power ∧
    (setLocate path on s).ptp = s.ptp ∧ (setLocate path on s).fans = s.fans ∧ (setLocate path on s).upds = s.upds ∧
    (setLocate path on s).fw = s.fw ∧ (setLocate path on s).log = s.log ∧ (setLocate path on s).bmu = s.bmu ∧
    (setLocate path on s).mirror = s.mirror ∧ (setLocate path on s).pending = s.pending := by
  unfold setLocate; (try dsimp only); (repeat' split) <;> simp

theorem powerDown_frame (s : State) :
    (powerDown s).now = s.now ∧ (powerDown s).frame = s.frame ∧ (powerDown s).pending = s.pending := by
  unfold powerDown; (try dsimp only); (repeat' split) <;> simp

theorem issueAlias_frame (s : State) :
    (issueAlias s).now = s.now ∧ (issueAlias s).frame = s.frame ∧ (issueAlias s).free = s.free ∧ (issueAlias s).regs = s.regs ∧
    (issueAlias s).outbox = s.outbox ∧ (issueAlias s).vcp = s.vcp ∧ (issueAlias s).plant = s.plant ∧ (issueAlias s).broker = s.broker ∧
    (issueAlias s).valves = s.valves ∧ (issueAlias s).motors = s.motors ∧ (issueAlias s).senses = s.senses ∧
    (issueAlias s).pulses = s.pulses ∧ (issueAlias s).analogs = s.analogs ∧ (issueAlias s).auxs = s.auxs ∧ (issueAlias s).cards = s.cards ∧
    (issueAlias s).service = s.service ∧ (issueAlias s).seqr = s.seqr ∧ (issueAlias s).dies = s.dies ∧
    (issueAlias s).clusters = s.clusters ∧ (issueAlias s).integ = s.integ ∧ (issueAlias s).copies = s.copies ∧
    (issueAlias s).pair = s.pair ∧ (issueAlias s).links = s.links ∧ (issueAlias s).hall = s.hall ∧ (issueAlias s).buses = s.buses ∧
    (issueAlias s).frameLog = s.frameLog ∧ (issueAlias s).power = s.power ∧ (issueAlias s).ptp = s.ptp ∧ (issueAlias s).fans = s.fans ∧
    (issueAlias s).upds = s.upds ∧ (issueAlias s).log = s.log ∧ (issueAlias s).bmu = s.bmu ∧ (issueAlias s).mirror = s.mirror ∧
    (issueAlias s).pending = s.pending := by
  unfold issueAlias; (try dsimp only); (repeat' split) <;> simp

theorem formCdi_frame (s : State) :
    (formCdi s).now = s.now ∧ (formCdi s).frame = s.frame ∧ (formCdi s).free = s.free ∧ (formCdi s).regs = s.regs ∧
    (formCdi s).outbox = s.outbox ∧ (formCdi s).vcp = s.vcp ∧ (formCdi s).plant = s.plant ∧ (formCdi s).broker = s.broker ∧
    (formCdi s).valves = s.valves ∧ (formCdi s).motors = s.motors ∧ (formCdi s).senses = s.senses ∧ (formCdi s).pulses = s.pulses ∧
    (formCdi s).analogs = s.analogs ∧ (formCdi s).auxs = s.auxs ∧ (formCdi s).cards = s.cards ∧ (formCdi s).service = s.service ∧
    (formCdi s).seqr = s.seqr ∧ (formCdi s).dies = s.dies ∧ (formCdi s).clusters = s.clusters ∧ (formCdi s).integ = s.integ ∧
    (formCdi s).copies = s.copies ∧ (formCdi s).pair = s.pair ∧ (formCdi s).links = s.links ∧ (formCdi s).hall = s.hall ∧
    (formCdi s).buses = s.buses ∧ (formCdi s).frameLog = s.frameLog ∧ (formCdi s).power = s.power ∧ (formCdi s).ptp = s.ptp ∧
    (formCdi s).fans = s.fans ∧ (formCdi s).upds = s.upds ∧ (formCdi s).log = s.log ∧ (formCdi s).bmu = s.bmu ∧
    (formCdi s).mirror = s.mirror ∧ (formCdi s).pending = s.pending := by
  unfold formCdi; (try dsimp only); (repeat' split) <;> simp

theorem advanceCounter_frame (k counter v : Nat) (s : State) :
    (advanceCounter k counter v s).now = s.now ∧ (advanceCounter k counter v s).frame = s.frame ∧
    (advanceCounter k counter v s).free = s.free ∧ (advanceCounter k counter v s).outbox = s.outbox ∧
    (advanceCounter k counter v s).vcp = s.vcp ∧ (advanceCounter k counter v s).plant = s.plant ∧
    (advanceCounter k counter v s).broker = s.broker ∧ (advanceCounter k counter v s).valves = s.valves ∧
    (advanceCounter k counter v s).motors = s.motors ∧ (advanceCounter k counter v s).senses = s.senses ∧
    (advanceCounter k counter v s).pulses = s.pulses ∧ (advanceCounter k counter v s).analogs = s.analogs ∧
    (advanceCounter k counter v s).auxs = s.auxs ∧ (advanceCounter k counter v s).cards = s.cards ∧
    (advanceCounter k counter v s).service = s.service ∧ (advanceCounter k counter v s).seqr = s.seqr ∧
    (advanceCounter k counter v s).dies = s.dies ∧ (advanceCounter k counter v s).clusters = s.clusters ∧
    (advanceCounter k counter v s).integ = s.integ ∧ (advanceCounter k counter v s).copies = s.copies ∧
    (advanceCounter k counter v s).pair = s.pair ∧ (advanceCounter k counter v s).links = s.links ∧
    (advanceCounter k counter v s).hall = s.hall ∧ (advanceCounter k counter v s).buses = s.buses ∧
    (advanceCounter k counter v s).frameLog = s.frameLog ∧ (advanceCounter k counter v s).power = s.power ∧
    (advanceCounter k counter v s).ptp = s.ptp ∧ (advanceCounter k counter v s).fans = s.fans ∧
    (advanceCounter k counter v s).upds = s.upds ∧ (advanceCounter k counter v s).log = s.log ∧ (advanceCounter k counter v s).bmu = s.bmu ∧
    (advanceCounter k counter v s).mirror = s.mirror ∧ (advanceCounter k counter v s).pending = s.pending := by
  unfold advanceCounter; (try dsimp only); (repeat' split) <;> simp

theorem advanceFor_frame (k : Nat) (s : State) :
    (advanceFor k s).now = s.now ∧ (advanceFor k s).frame = s.frame ∧ (advanceFor k s).free = s.free ∧ (advanceFor k s).outbox = s.outbox ∧
    (advanceFor k s).vcp = s.vcp ∧ (advanceFor k s).plant = s.plant ∧ (advanceFor k s).broker = s.broker ∧
    (advanceFor k s).valves = s.valves ∧ (advanceFor k s).motors = s.motors ∧ (advanceFor k s).senses = s.senses ∧
    (advanceFor k s).pulses = s.pulses ∧ (advanceFor k s).analogs = s.analogs ∧ (advanceFor k s).auxs = s.auxs ∧
    (advanceFor k s).cards = s.cards ∧ (advanceFor k s).service = s.service ∧ (advanceFor k s).seqr = s.seqr ∧
    (advanceFor k s).dies = s.dies ∧ (advanceFor k s).clusters = s.clusters ∧ (advanceFor k s).integ = s.integ ∧
    (advanceFor k s).copies = s.copies ∧ (advanceFor k s).pair = s.pair ∧ (advanceFor k s).links = s.links ∧
    (advanceFor k s).hall = s.hall ∧ (advanceFor k s).buses = s.buses ∧ (advanceFor k s).frameLog = s.frameLog ∧
    (advanceFor k s).power = s.power ∧ (advanceFor k s).ptp = s.ptp ∧ (advanceFor k s).fans = s.fans ∧ (advanceFor k s).upds = s.upds ∧
    (advanceFor k s).log = s.log ∧ (advanceFor k s).bmu = s.bmu ∧ (advanceFor k s).mirror = s.mirror ∧
    (advanceFor k s).pending = s.pending := by
  have e1 := @advanceCounter_frame
  unfold advanceFor; (try dsimp only); (repeat' split) <;> simp [e1]

theorem catchUpCounters_frame (s : State) :
    (catchUpCounters s).now = s.now ∧ (catchUpCounters s).frame = s.frame ∧ (catchUpCounters s).free = s.free ∧
    (catchUpCounters s).outbox = s.outbox ∧ (catchUpCounters s).vcp = s.vcp ∧ (catchUpCounters s).plant = s.plant ∧
    (catchUpCounters s).broker = s.broker ∧ (catchUpCounters s).valves = s.valves ∧ (catchUpCounters s).motors = s.motors ∧
    (catchUpCounters s).senses = s.senses ∧ (catchUpCounters s).pulses = s.pulses ∧ (catchUpCounters s).analogs = s.analogs ∧
    (catchUpCounters s).auxs = s.auxs ∧ (catchUpCounters s).cards = s.cards ∧ (catchUpCounters s).service = s.service ∧
    (catchUpCounters s).seqr = s.seqr ∧ (catchUpCounters s).dies = s.dies ∧ (catchUpCounters s).clusters = s.clusters ∧
    (catchUpCounters s).integ = s.integ ∧ (catchUpCounters s).copies = s.copies ∧ (catchUpCounters s).pair = s.pair ∧
    (catchUpCounters s).links = s.links ∧ (catchUpCounters s).hall = s.hall ∧ (catchUpCounters s).buses = s.buses ∧
    (catchUpCounters s).frameLog = s.frameLog ∧ (catchUpCounters s).power = s.power ∧ (catchUpCounters s).ptp = s.ptp ∧
    (catchUpCounters s).fans = s.fans ∧ (catchUpCounters s).upds = s.upds ∧ (catchUpCounters s).log = s.log ∧
    (catchUpCounters s).bmu = s.bmu ∧ (catchUpCounters s).mirror = s.mirror ∧ (catchUpCounters s).pending = s.pending := by
  have e1 := @advanceFor_frame
  unfold catchUpCounters; (try dsimp only); (repeat' split) <;> simp [e1]

theorem startFirmware_frame (s0 : State) :
    (startFirmware s0).now = s0.now ∧ (startFirmware s0).frame = s0.frame ∧ (startFirmware s0).free = s0.free ∧
    (startFirmware s0).outbox = s0.outbox ∧ (startFirmware s0).vcp = s0.vcp ∧ (startFirmware s0).plant = s0.plant ∧
    (startFirmware s0).broker = s0.broker ∧ (startFirmware s0).valves = s0.valves ∧ (startFirmware s0).motors = s0.motors ∧
    (startFirmware s0).senses = s0.senses ∧ (startFirmware s0).pulses = s0.pulses ∧ (startFirmware s0).analogs = s0.analogs ∧
    (startFirmware s0).auxs = s0.auxs ∧ (startFirmware s0).cards = s0.cards ∧ (startFirmware s0).service = s0.service ∧
    (startFirmware s0).seqr = s0.seqr ∧ (startFirmware s0).dies = s0.dies ∧ (startFirmware s0).clusters = s0.clusters ∧
    (startFirmware s0).integ = s0.integ ∧ (startFirmware s0).copies = s0.copies ∧ (startFirmware s0).links = s0.links ∧
    (startFirmware s0).hall = s0.hall ∧ (startFirmware s0).buses = s0.buses ∧ (startFirmware s0).frameLog = s0.frameLog ∧
    (startFirmware s0).power = s0.power ∧ (startFirmware s0).ptp = s0.ptp ∧ (startFirmware s0).fans = s0.fans ∧
    (startFirmware s0).upds = s0.upds ∧ (startFirmware s0).log = s0.log ∧ (startFirmware s0).bmu = s0.bmu ∧
    (startFirmware s0).mirror = s0.mirror ∧ (startFirmware s0).pending = s0.pending := by
  have e1 := @issueAlias_frame
  have e2 := @formCdi_frame
  have e3 := @catchUpCounters_frame
  unfold startFirmware; (try dsimp only); (repeat' split) <;> simp [e1, e2, e3]

theorem armedTrigger_frame (s : State) :
    (armedTrigger s).now = s.now ∧ (armedTrigger s).frame = s.frame ∧ (armedTrigger s).vcp = s.vcp ∧ (armedTrigger s).plant = s.plant ∧
    (armedTrigger s).broker = s.broker ∧ (armedTrigger s).valves = s.valves ∧ (armedTrigger s).motors = s.motors ∧
    (armedTrigger s).senses = s.senses ∧ (armedTrigger s).pulses = s.pulses ∧ (armedTrigger s).analogs = s.analogs ∧
    (armedTrigger s).auxs = s.auxs ∧ (armedTrigger s).service = s.service ∧ (armedTrigger s).seqr = s.seqr ∧
    (armedTrigger s).clusters = s.clusters ∧ (armedTrigger s).integ = s.integ ∧ (armedTrigger s).buses = s.buses ∧
    (armedTrigger s).frameLog = s.frameLog ∧ (armedTrigger s).ptp = s.ptp ∧ (armedTrigger s).fans = s.fans ∧
    (armedTrigger s).upds = s.upds ∧ (armedTrigger s).mirror = s.mirror ∧ (armedTrigger s).pending = s.pending := by
  have e1 := @gatePackage_frame
  unfold armedTrigger; (try dsimp only); (repeat' split) <;> simp [e1]

theorem sagTrigger_frame (s : State) :
    (sagTrigger s).now = s.now ∧ (sagTrigger s).frame = s.frame ∧ (sagTrigger s).pending = s.pending := by
  have e1 := @armedTrigger_frame
  have e2 := @powerDown_frame
  unfold sagTrigger; (try dsimp only); (repeat' split) <;> simp [e1, e2]

theorem readRecord_frame (s : State) :
    (readRecord s).now = s.now ∧ (readRecord s).frame = s.frame ∧ (readRecord s).free = s.free ∧ (readRecord s).vcp = s.vcp ∧
    (readRecord s).plant = s.plant ∧ (readRecord s).broker = s.broker ∧ (readRecord s).valves = s.valves ∧
    (readRecord s).motors = s.motors ∧ (readRecord s).senses = s.senses ∧ (readRecord s).pulses = s.pulses ∧
    (readRecord s).analogs = s.analogs ∧ (readRecord s).auxs = s.auxs ∧ (readRecord s).cards = s.cards ∧
    (readRecord s).service = s.service ∧ (readRecord s).seqr = s.seqr ∧ (readRecord s).dies = s.dies ∧
    (readRecord s).clusters = s.clusters ∧ (readRecord s).integ = s.integ ∧ (readRecord s).copies = s.copies ∧
    (readRecord s).pair = s.pair ∧ (readRecord s).links = s.links ∧ (readRecord s).hall = s.hall ∧ (readRecord s).buses = s.buses ∧
    (readRecord s).frameLog = s.frameLog ∧ (readRecord s).ptp = s.ptp ∧ (readRecord s).fans = s.fans ∧ (readRecord s).upds = s.upds ∧
    (readRecord s).fw = s.fw ∧ (readRecord s).bmu = s.bmu ∧ (readRecord s).mirror = s.mirror ∧ (readRecord s).pending = s.pending := by
  unfold readRecord; (try dsimp only); (repeat' split) <;> simp

theorem holdLeakChannels_frame (s : State) :
    (holdLeakChannels s).now = s.now ∧ (holdLeakChannels s).frame = s.frame ∧ (holdLeakChannels s).free = s.free ∧
    (holdLeakChannels s).regs = s.regs ∧ (holdLeakChannels s).outbox = s.outbox ∧ (holdLeakChannels s).vcp = s.vcp ∧
    (holdLeakChannels s).plant = s.plant ∧ (holdLeakChannels s).broker = s.broker ∧ (holdLeakChannels s).motors = s.motors ∧
    (holdLeakChannels s).senses = s.senses ∧ (holdLeakChannels s).pulses = s.pulses ∧ (holdLeakChannels s).analogs = s.analogs ∧
    (holdLeakChannels s).auxs = s.auxs ∧ (holdLeakChannels s).cards = s.cards ∧ (holdLeakChannels s).service = s.service ∧
    (holdLeakChannels s).seqr = s.seqr ∧ (holdLeakChannels s).dies = s.dies ∧ (holdLeakChannels s).clusters = s.clusters ∧
    (holdLeakChannels s).integ = s.integ ∧ (holdLeakChannels s).copies = s.copies ∧ (holdLeakChannels s).pair = s.pair ∧
    (holdLeakChannels s).links = s.links ∧ (holdLeakChannels s).hall = s.hall ∧ (holdLeakChannels s).buses = s.buses ∧
    (holdLeakChannels s).frameLog = s.frameLog ∧ (holdLeakChannels s).power = s.power ∧ (holdLeakChannels s).ptp = s.ptp ∧
    (holdLeakChannels s).fans = s.fans ∧ (holdLeakChannels s).upds = s.upds ∧ (holdLeakChannels s).fw = s.fw ∧
    (holdLeakChannels s).log = s.log ∧ (holdLeakChannels s).bmu = s.bmu ∧ (holdLeakChannels s).mirror = s.mirror ∧
    (holdLeakChannels s).pending = s.pending := by
  unfold holdLeakChannels; (try dsimp only); (repeat' split) <;> (first | (simp; done) | (simp (disch := (intros; (repeat' split) <;> simp)); done))

theorem applyRecord_frame (r : SavedRecord) (s : State) :
    (applyRecord r s).now = s.now ∧ (applyRecord r s).frame = s.frame ∧ (applyRecord r s).free = s.free ∧
    (applyRecord r s).outbox = s.outbox ∧ (applyRecord r s).vcp = s.vcp ∧ (applyRecord r s).motors = s.motors ∧
    (applyRecord r s).senses = s.senses ∧ (applyRecord r s).pulses = s.pulses ∧ (applyRecord r s).analogs = s.analogs ∧
    (applyRecord r s).auxs = s.auxs ∧ (applyRecord r s).cards = s.cards ∧ (applyRecord r s).service = s.service ∧
    (applyRecord r s).seqr = s.seqr ∧ (applyRecord r s).dies = s.dies ∧ (applyRecord r s).clusters = s.clusters ∧
    (applyRecord r s).copies = s.copies ∧ (applyRecord r s).pair = s.pair ∧ (applyRecord r s).links = s.links ∧
    (applyRecord r s).hall = s.hall ∧ (applyRecord r s).buses = s.buses ∧ (applyRecord r s).frameLog = s.frameLog ∧
    (applyRecord r s).ptp = s.ptp ∧ (applyRecord r s).fans = s.fans ∧ (applyRecord r s).upds = s.upds ∧ (applyRecord r s).fw = s.fw ∧
    (applyRecord r s).log = s.log ∧ (applyRecord r s).bmu = s.bmu ∧ (applyRecord r s).mirror = s.mirror ∧
    (applyRecord r s).pending = s.pending := by
  have e1 := @holdLeakChannels_frame
  unfold applyRecord; (try dsimp only); (repeat' split) <;> simp [e1]

theorem applyNothing_frame (s : State) :
    (applyNothing s).now = s.now ∧ (applyNothing s).frame = s.frame ∧ (applyNothing s).free = s.free ∧ (applyNothing s).regs = s.regs ∧
    (applyNothing s).outbox = s.outbox ∧ (applyNothing s).vcp = s.vcp ∧ (applyNothing s).plant = s.plant ∧
    (applyNothing s).valves = s.valves ∧ (applyNothing s).motors = s.motors ∧ (applyNothing s).senses = s.senses ∧
    (applyNothing s).pulses = s.pulses ∧ (applyNothing s).analogs = s.analogs ∧ (applyNothing s).auxs = s.auxs ∧
    (applyNothing s).cards = s.cards ∧ (applyNothing s).service = s.service ∧ (applyNothing s).seqr = s.seqr ∧
    (applyNothing s).dies = s.dies ∧ (applyNothing s).clusters = s.clusters ∧ (applyNothing s).integ = s.integ ∧
    (applyNothing s).copies = s.copies ∧ (applyNothing s).pair = s.pair ∧ (applyNothing s).links = s.links ∧
    (applyNothing s).hall = s.hall ∧ (applyNothing s).buses = s.buses ∧ (applyNothing s).frameLog = s.frameLog ∧
    (applyNothing s).power = s.power ∧ (applyNothing s).ptp = s.ptp ∧ (applyNothing s).fans = s.fans ∧ (applyNothing s).upds = s.upds ∧
    (applyNothing s).fw = s.fw ∧ (applyNothing s).log = s.log ∧ (applyNothing s).bmu = s.bmu ∧ (applyNothing s).mirror = s.mirror ∧
    (applyNothing s).pending = s.pending := by
  unfold applyNothing; (try dsimp only); (repeat' split) <;> simp

theorem releaseOutputs_frame (chans : List CardChannel) (s : State) :
    (releaseOutputs chans s).now = s.now ∧ (releaseOutputs chans s).frame = s.frame ∧ (releaseOutputs chans s).free = s.free ∧
    (releaseOutputs chans s).broker = s.broker ∧ (releaseOutputs chans s).senses = s.senses ∧ (releaseOutputs chans s).pulses = s.pulses ∧
    (releaseOutputs chans s).auxs = s.auxs ∧ (releaseOutputs chans s).service = s.service ∧ (releaseOutputs chans s).dies = s.dies ∧
    (releaseOutputs chans s).clusters = s.clusters ∧ (releaseOutputs chans s).copies = s.copies ∧ (releaseOutputs chans s).pair = s.pair ∧
    (releaseOutputs chans s).links = s.links ∧ (releaseOutputs chans s).hall = s.hall ∧ (releaseOutputs chans s).buses = s.buses ∧
    (releaseOutputs chans s).frameLog = s.frameLog ∧ (releaseOutputs chans s).power = s.power ∧ (releaseOutputs chans s).ptp = s.ptp ∧
    (releaseOutputs chans s).fans = s.fans ∧ (releaseOutputs chans s).upds = s.upds ∧ (releaseOutputs chans s).fw = s.fw ∧
    (releaseOutputs chans s).bmu = s.bmu ∧ (releaseOutputs chans s).mirror = s.mirror ∧ (releaseOutputs chans s).pending = s.pending := by
  have e1 := @applyChan_frame
  have e2 := @takePumps_frame
  have e3 := @enterFallbackLoops_frame
  unfold releaseOutputs; (try dsimp only); (repeat' split) <;> simp [e1, e2, e3]

theorem sendFrames_frame (s : State) :
    (sendFrames s).now = s.now ∧ (sendFrames s).frame = s.frame ∧ (sendFrames s).free = s.free ∧ (sendFrames s).regs = s.regs ∧
    (sendFrames s).vcp = s.vcp ∧ (sendFrames s).plant = s.plant ∧ (sendFrames s).broker = s.broker ∧ (sendFrames s).valves = s.valves ∧
    (sendFrames s).motors = s.motors ∧ (sendFrames s).senses = s.senses ∧ (sendFrames s).pulses = s.pulses ∧
    (sendFrames s).analogs = s.analogs ∧ (sendFrames s).auxs = s.auxs ∧ (sendFrames s).cards = s.cards ∧
    (sendFrames s).service = s.service ∧ (sendFrames s).seqr = s.seqr ∧ (sendFrames s).dies = s.dies ∧
    (sendFrames s).clusters = s.clusters ∧ (sendFrames s).integ = s.integ ∧ (sendFrames s).copies = s.copies ∧
    (sendFrames s).pair = s.pair ∧ (sendFrames s).links = s.links ∧ (sendFrames s).hall = s.hall ∧ (sendFrames s).buses = s.buses ∧
    (sendFrames s).frameLog = s.frameLog ∧ (sendFrames s).power = s.power ∧ (sendFrames s).ptp = s.ptp ∧ (sendFrames s).fans = s.fans ∧
    (sendFrames s).upds = s.upds ∧ (sendFrames s).fw = s.fw ∧ (sendFrames s).log = s.log ∧ (sendFrames s).bmu = s.bmu ∧
    (sendFrames s).mirror = s.mirror ∧ (sendFrames s).pending = s.pending := by
  unfold sendFrames; (try dsimp only); (repeat' split) <;> simp

theorem sendReport_frame (kind event leg loc : Nat) (p : Session → Bool) (s : State) :
    (sendReport kind event leg loc p s).now = s.now ∧ (sendReport kind event leg loc p s).frame = s.frame ∧
    (sendReport kind event leg loc p s).free = s.free ∧ (sendReport kind event leg loc p s).plant = s.plant ∧
    (sendReport kind event leg loc p s).broker = s.broker ∧ (sendReport kind event leg loc p s).valves = s.valves ∧
    (sendReport kind event leg loc p s).motors = s.motors ∧ (sendReport kind event leg loc p s).senses = s.senses ∧
    (sendReport kind event leg loc p s).pulses = s.pulses ∧ (sendReport kind event leg loc p s).analogs = s.analogs ∧
    (sendReport kind event leg loc p s).auxs = s.auxs ∧ (sendReport kind event leg loc p s).cards = s.cards ∧
    (sendReport kind event leg loc p s).service = s.service ∧ (sendReport kind event leg loc p s).seqr = s.seqr ∧
    (sendReport kind event leg loc p s).dies = s.dies ∧ (sendReport kind event leg loc p s).clusters = s.clusters ∧
    (sendReport kind event leg loc p s).copies = s.copies ∧ (sendReport kind event leg loc p s).pair = s.pair ∧
    (sendReport kind event leg loc p s).links = s.links ∧ (sendReport kind event leg loc p s).hall = s.hall ∧
    (sendReport kind event leg loc p s).buses = s.buses ∧ (sendReport kind event leg loc p s).frameLog = s.frameLog ∧
    (sendReport kind event leg loc p s).power = s.power ∧ (sendReport kind event leg loc p s).ptp = s.ptp ∧
    (sendReport kind event leg loc p s).fans = s.fans ∧ (sendReport kind event leg loc p s).upds = s.upds ∧
    (sendReport kind event leg loc p s).fw = s.fw ∧ (sendReport kind event leg loc p s).log = s.log ∧
    (sendReport kind event leg loc p s).bmu = s.bmu ∧ (sendReport kind event leg loc p s).mirror = s.mirror ∧
    (sendReport kind event leg loc p s).pending = s.pending := by
  unfold sendReport; (try dsimp only); (repeat' split) <;> simp

theorem intCount_frame (ev : IntEv) (s : State) :
    (intCount ev s).now = s.now ∧ (intCount ev s).frame = s.frame ∧ (intCount ev s).free = s.free ∧ (intCount ev s).outbox = s.outbox ∧
    (intCount ev s).vcp = s.vcp ∧ (intCount ev s).plant = s.plant ∧ (intCount ev s).broker = s.broker ∧ (intCount ev s).valves = s.valves ∧
    (intCount ev s).motors = s.motors ∧ (intCount ev s).senses = s.senses ∧ (intCount ev s).pulses = s.pulses ∧
    (intCount ev s).analogs = s.analogs ∧ (intCount ev s).auxs = s.auxs ∧ (intCount ev s).cards = s.cards ∧
    (intCount ev s).service = s.service ∧ (intCount ev s).seqr = s.seqr ∧ (intCount ev s).dies = s.dies ∧
    (intCount ev s).clusters = s.clusters ∧ (intCount ev s).copies = s.copies ∧ (intCount ev s).pair = s.pair ∧
    (intCount ev s).links = s.links ∧ (intCount ev s).hall = s.hall ∧ (intCount ev s).buses = s.buses ∧
    (intCount ev s).frameLog = s.frameLog ∧ (intCount ev s).power = s.power ∧ (intCount ev s).ptp = s.ptp ∧ (intCount ev s).fans = s.fans ∧
    (intCount ev s).upds = s.upds ∧ (intCount ev s).fw = s.fw ∧ (intCount ev s).log = s.log ∧ (intCount ev s).bmu = s.bmu ∧
    (intCount ev s).mirror = s.mirror ∧ (intCount ev s).pending = s.pending := by
  unfold intCount; (try dsimp only); (repeat' split) <;> simp

theorem intEvent_frame (ev : IntEv) (c : Option ClusterAt) (leg : Nat) (s : State) :
    (intEvent ev c leg s).now = s.now ∧ (intEvent ev c leg s).frame = s.frame ∧ (intEvent ev c leg s).free = s.free ∧
    (intEvent ev c leg s).plant = s.plant ∧ (intEvent ev c leg s).broker = s.broker ∧ (intEvent ev c leg s).valves = s.valves ∧
    (intEvent ev c leg s).motors = s.motors ∧ (intEvent ev c leg s).senses = s.senses ∧ (intEvent ev c leg s).pulses = s.pulses ∧
    (intEvent ev c leg s).analogs = s.analogs ∧ (intEvent ev c leg s).auxs = s.auxs ∧ (intEvent ev c leg s).cards = s.cards ∧
    (intEvent ev c leg s).service = s.service ∧ (intEvent ev c leg s).seqr = s.seqr ∧ (intEvent ev c leg s).dies = s.dies ∧
    (intEvent ev c leg s).clusters = s.clusters ∧ (intEvent ev c leg s).copies = s.copies ∧ (intEvent ev c leg s).pair = s.pair ∧
    (intEvent ev c leg s).links = s.links ∧ (intEvent ev c leg s).hall = s.hall ∧ (intEvent ev c leg s).buses = s.buses ∧
    (intEvent ev c leg s).frameLog = s.frameLog ∧ (intEvent ev c leg s).power = s.power ∧ (intEvent ev c leg s).ptp = s.ptp ∧
    (intEvent ev c leg s).fans = s.fans ∧ (intEvent ev c leg s).upds = s.upds ∧ (intEvent ev c leg s).fw = s.fw ∧
    (intEvent ev c leg s).bmu = s.bmu ∧ (intEvent ev c leg s).mirror = s.mirror ∧ (intEvent ev c leg s).pending = s.pending := by
  have e1 := @intCount_frame
  have e2 := @sendReport_frame
  unfold intEvent; (try dsimp only); (repeat' split) <;> simp [e1, e2]

theorem suspect_frame (c : ClusterAt) (s : State) :
    (suspect c s).now = s.now ∧ (suspect c s).frame = s.frame ∧ (suspect c s).free = s.free ∧ (suspect c s).plant = s.plant ∧
    (suspect c s).broker = s.broker ∧ (suspect c s).valves = s.valves ∧ (suspect c s).motors = s.motors ∧ (suspect c s).senses = s.senses ∧
    (suspect c s).pulses = s.pulses ∧ (suspect c s).analogs = s.analogs ∧ (suspect c s).auxs = s.auxs ∧ (suspect c s).cards = s.cards ∧
    (suspect c s).service = s.service ∧ (suspect c s).seqr = s.seqr ∧ (suspect c s).dies = s.dies ∧ (suspect c s).copies = s.copies ∧
    (suspect c s).pair = s.pair ∧ (suspect c s).links = s.links ∧ (suspect c s).hall = s.hall ∧ (suspect c s).buses = s.buses ∧
    (suspect c s).frameLog = s.frameLog ∧ (suspect c s).power = s.power ∧ (suspect c s).ptp = s.ptp ∧ (suspect c s).fans = s.fans ∧
    (suspect c s).upds = s.upds ∧ (suspect c s).fw = s.fw ∧ (suspect c s).bmu = s.bmu ∧ (suspect c s).mirror = s.mirror ∧
    (suspect c s).pending = s.pending := by
  have e1 := @intEvent_frame
  unfold suspect; (try dsimp only); (repeat' split) <;> simp [e1]

theorem replaceCluster_frame (c : ClusterAt) (s : State) :
    (replaceCluster c s).now = s.now ∧ (replaceCluster c s).frame = s.frame ∧ (replaceCluster c s).free = s.free ∧
    (replaceCluster c s).regs = s.regs ∧ (replaceCluster c s).outbox = s.outbox ∧ (replaceCluster c s).vcp = s.vcp ∧
    (replaceCluster c s).plant = s.plant ∧ (replaceCluster c s).broker = s.broker ∧ (replaceCluster c s).valves = s.valves ∧
    (replaceCluster c s).motors = s.motors ∧ (replaceCluster c s).senses = s.senses ∧ (replaceCluster c s).pulses = s.pulses ∧
    (replaceCluster c s).analogs = s.analogs ∧ (replaceCluster c s).auxs = s.auxs ∧ (replaceCluster c s).cards = s.cards ∧
    (replaceCluster c s).service = s.service ∧ (replaceCluster c s).clusters = s.clusters ∧ (replaceCluster c s).integ = s.integ ∧
    (replaceCluster c s).copies = s.copies ∧ (replaceCluster c s).pair = s.pair ∧ (replaceCluster c s).links = s.links ∧
    (replaceCluster c s).hall = s.hall ∧ (replaceCluster c s).buses = s.buses ∧ (replaceCluster c s).frameLog = s.frameLog ∧
    (replaceCluster c s).power = s.power ∧ (replaceCluster c s).ptp = s.ptp ∧ (replaceCluster c s).fans = s.fans ∧
    (replaceCluster c s).upds = s.upds ∧ (replaceCluster c s).fw = s.fw ∧ (replaceCluster c s).log = s.log ∧
    (replaceCluster c s).bmu = s.bmu ∧ (replaceCluster c s).mirror = s.mirror ∧ (replaceCluster c s).pending = s.pending := by
  unfold replaceCluster; (try dsimp only); (repeat' split) <;> simp

theorem failCluster_frame (isResidue : Bool) (c : ClusterAt) (s : State) :
    (failCluster isResidue c s).now = s.now ∧ (failCluster isResidue c s).frame = s.frame ∧ (failCluster isResidue c s).free = s.free ∧
    (failCluster isResidue c s).plant = s.plant ∧ (failCluster isResidue c s).broker = s.broker ∧
    (failCluster isResidue c s).valves = s.valves ∧ (failCluster isResidue c s).motors = s.motors ∧
    (failCluster isResidue c s).senses = s.senses ∧ (failCluster isResidue c s).pulses = s.pulses ∧
    (failCluster isResidue c s).analogs = s.analogs ∧ (failCluster isResidue c s).auxs = s.auxs ∧
    (failCluster isResidue c s).cards = s.cards ∧ (failCluster isResidue c s).service = s.service ∧
    (failCluster isResidue c s).copies = s.copies ∧ (failCluster isResidue c s).pair = s.pair ∧
    (failCluster isResidue c s).links = s.links ∧ (failCluster isResidue c s).hall = s.hall ∧ (failCluster isResidue c s).buses = s.buses ∧
    (failCluster isResidue c s).frameLog = s.frameLog ∧ (failCluster isResidue c s).power = s.power ∧
    (failCluster isResidue c s).ptp = s.ptp ∧ (failCluster isResidue c s).fans = s.fans ∧ (failCluster isResidue c s).upds = s.upds ∧
    (failCluster isResidue c s).fw = s.fw ∧ (failCluster isResidue c s).bmu = s.bmu ∧ (failCluster isResidue c s).mirror = s.mirror ∧
    (failCluster isResidue c s).pending = s.pending := by
  have e1 := @suspect_frame
  have e2 := @replaceCluster_frame
  have e3 := @intEvent_frame
  unfold failCluster; (try dsimp only); (repeat' split) <;> simp [e1, e2, e3]

theorem roundDone_frame (c : ClusterAt) (s : State) :
    (roundDone c s).now = s.now ∧ (roundDone c s).frame = s.frame ∧ (roundDone c s).free = s.free ∧ (roundDone c s).regs = s.regs ∧
    (roundDone c s).outbox = s.outbox ∧ (roundDone c s).vcp = s.vcp ∧ (roundDone c s).plant = s.plant ∧ (roundDone c s).broker = s.broker ∧
    (roundDone c s).valves = s.valves ∧ (roundDone c s).motors = s.motors ∧ (roundDone c s).senses = s.senses ∧
    (roundDone c s).pulses = s.pulses ∧ (roundDone c s).analogs = s.analogs ∧ (roundDone c s).auxs = s.auxs ∧
    (roundDone c s).cards = s.cards ∧ (roundDone c s).service = s.service ∧ (roundDone c s).seqr = s.seqr ∧ (roundDone c s).dies = s.dies ∧
    (roundDone c s).integ = s.integ ∧ (roundDone c s).copies = s.copies ∧ (roundDone c s).pair = s.pair ∧ (roundDone c s).links = s.links ∧
    (roundDone c s).hall = s.hall ∧ (roundDone c s).buses = s.buses ∧ (roundDone c s).frameLog = s.frameLog ∧
    (roundDone c s).power = s.power ∧ (roundDone c s).ptp = s.ptp ∧ (roundDone c s).fans = s.fans ∧ (roundDone c s).upds = s.upds ∧
    (roundDone c s).fw = s.fw ∧ (roundDone c s).log = s.log ∧ (roundDone c s).bmu = s.bmu ∧ (roundDone c s).mirror = s.mirror ∧
    (roundDone c s).pending = s.pending := by
  unfold roundDone; (try dsimp only); (repeat' split) <;> simp

theorem cleanRound_frame (c : ClusterAt) (s : State) :
    (cleanRound c s).now = s.now ∧ (cleanRound c s).frame = s.frame ∧ (cleanRound c s).free = s.free ∧ (cleanRound c s).plant = s.plant ∧
    (cleanRound c s).broker = s.broker ∧ (cleanRound c s).valves = s.valves ∧ (cleanRound c s).motors = s.motors ∧
    (cleanRound c s).senses = s.senses ∧ (cleanRound c s).pulses = s.pulses ∧ (cleanRound c s).analogs = s.analogs ∧
    (cleanRound c s).auxs = s.auxs ∧ (cleanRound c s).cards = s.cards ∧ (cleanRound c s).service = s.service ∧
    (cleanRound c s).seqr = s.seqr ∧ (cleanRound c s).dies = s.dies ∧ (cleanRound c s).copies = s.copies ∧ (cleanRound c s).pair = s.pair ∧
    (cleanRound c s).links = s.links ∧ (cleanRound c s).hall = s.hall ∧ (cleanRound c s).buses = s.buses ∧
    (cleanRound c s).frameLog = s.frameLog ∧ (cleanRound c s).power = s.power ∧ (cleanRound c s).ptp = s.ptp ∧
    (cleanRound c s).fans = s.fans ∧ (cleanRound c s).upds = s.upds ∧ (cleanRound c s).fw = s.fw ∧ (cleanRound c s).bmu = s.bmu ∧
    (cleanRound c s).mirror = s.mirror ∧ (cleanRound c s).pending = s.pending := by
  have e1 := @roundDone_frame
  have e2 := @intEvent_frame
  unfold cleanRound; (try dsimp only); (repeat' split) <;> simp [e1, e2]

theorem failedRound_frame (c : ClusterAt) (s : State) :
    (failedRound c s).now = s.now ∧ (failedRound c s).frame = s.frame ∧ (failedRound c s).free = s.free ∧
    (failedRound c s).plant = s.plant ∧ (failedRound c s).broker = s.broker ∧ (failedRound c s).valves = s.valves ∧
    (failedRound c s).motors = s.motors ∧ (failedRound c s).senses = s.senses ∧ (failedRound c s).pulses = s.pulses ∧
    (failedRound c s).analogs = s.analogs ∧ (failedRound c s).auxs = s.auxs ∧ (failedRound c s).cards = s.cards ∧
    (failedRound c s).service = s.service ∧ (failedRound c s).copies = s.copies ∧ (failedRound c s).pair = s.pair ∧
    (failedRound c s).links = s.links ∧ (failedRound c s).hall = s.hall ∧ (failedRound c s).buses = s.buses ∧
    (failedRound c s).frameLog = s.frameLog ∧ (failedRound c s).power = s.power ∧ (failedRound c s).ptp = s.ptp ∧
    (failedRound c s).fans = s.fans ∧ (failedRound c s).upds = s.upds ∧ (failedRound c s).fw = s.fw ∧ (failedRound c s).bmu = s.bmu ∧
    (failedRound c s).mirror = s.mirror ∧ (failedRound c s).pending = s.pending := by
  have e1 := @failCluster_frame
  have e2 := @intEvent_frame
  have e3 := @roundDone_frame
  unfold failedRound; (try dsimp only); (repeat' split) <;> simp [e1, e2, e3]

theorem judgeRound_frame (r : RoundResult) (s : State) :
    (judgeRound r s).now = s.now ∧ (judgeRound r s).frame = s.frame ∧ (judgeRound r s).free = s.free ∧ (judgeRound r s).plant = s.plant ∧
    (judgeRound r s).broker = s.broker ∧ (judgeRound r s).valves = s.valves ∧ (judgeRound r s).motors = s.motors ∧
    (judgeRound r s).senses = s.senses ∧ (judgeRound r s).pulses = s.pulses ∧ (judgeRound r s).analogs = s.analogs ∧
    (judgeRound r s).auxs = s.auxs ∧ (judgeRound r s).cards = s.cards ∧ (judgeRound r s).service = s.service ∧
    (judgeRound r s).copies = s.copies ∧ (judgeRound r s).pair = s.pair ∧ (judgeRound r s).links = s.links ∧
    (judgeRound r s).hall = s.hall ∧ (judgeRound r s).buses = s.buses ∧ (judgeRound r s).frameLog = s.frameLog ∧
    (judgeRound r s).power = s.power ∧ (judgeRound r s).ptp = s.ptp ∧ (judgeRound r s).fans = s.fans ∧ (judgeRound r s).upds = s.upds ∧
    (judgeRound r s).fw = s.fw ∧ (judgeRound r s).bmu = s.bmu ∧ (judgeRound r s).mirror = s.mirror ∧
    (judgeRound r s).pending = s.pending := by
  have e1 := @cleanRound_frame
  have e2 := @failedRound_frame
  unfold judgeRound; (try dsimp only); (repeat' split) <;> simp [e1, e2]

theorem setDies_frame (active : Bool) (s : State) :
    (setDies active s).now = s.now ∧ (setDies active s).frame = s.frame ∧ (setDies active s).free = s.free ∧
    (setDies active s).regs = s.regs ∧ (setDies active s).outbox = s.outbox ∧ (setDies active s).vcp = s.vcp ∧
    (setDies active s).plant = s.plant ∧ (setDies active s).broker = s.broker ∧ (setDies active s).valves = s.valves ∧
    (setDies active s).motors = s.motors ∧ (setDies active s).senses = s.senses ∧ (setDies active s).pulses = s.pulses ∧
    (setDies active s).analogs = s.analogs ∧ (setDies active s).auxs = s.auxs ∧ (setDies active s).cards = s.cards ∧
    (setDies active s).service = s.service ∧ (setDies active s).seqr = s.seqr ∧ (setDies active s).clusters = s.clusters ∧
    (setDies active s).integ = s.integ ∧ (setDies active s).copies = s.copies ∧ (setDies active s).pair = s.pair ∧
    (setDies active s).links = s.links ∧ (setDies active s).hall = s.hall ∧ (setDies active s).buses = s.buses ∧
    (setDies active s).frameLog = s.frameLog ∧ (setDies active s).power = s.power ∧ (setDies active s).ptp = s.ptp ∧
    (setDies active s).fans = s.fans ∧ (setDies active s).upds = s.upds ∧ (setDies active s).fw = s.fw ∧ (setDies active s).log = s.log ∧
    (setDies active s).bmu = s.bmu ∧ (setDies active s).mirror = s.mirror ∧ (setDies active s).pending = s.pending := by
  unfold setDies; (try dsimp only); (repeat' split) <;> simp

theorem retireDie_frame (i : Nat) (s : State) :
    (retireDie i s).now = s.now ∧ (retireDie i s).frame = s.frame ∧ (retireDie i s).free = s.free ∧ (retireDie i s).plant = s.plant ∧
    (retireDie i s).broker = s.broker ∧ (retireDie i s).valves = s.valves ∧ (retireDie i s).motors = s.motors ∧
    (retireDie i s).senses = s.senses ∧ (retireDie i s).pulses = s.pulses ∧ (retireDie i s).analogs = s.analogs ∧
    (retireDie i s).auxs = s.auxs ∧ (retireDie i s).cards = s.cards ∧ (retireDie i s).service = s.service ∧ (retireDie i s).seqr = s.seqr ∧
    (retireDie i s).clusters = s.clusters ∧ (retireDie i s).copies = s.copies ∧ (retireDie i s).pair = s.pair ∧
    (retireDie i s).links = s.links ∧ (retireDie i s).hall = s.hall ∧ (retireDie i s).buses = s.buses ∧
    (retireDie i s).frameLog = s.frameLog ∧ (retireDie i s).ptp = s.ptp ∧ (retireDie i s).fans = s.fans ∧ (retireDie i s).upds = s.upds ∧
    (retireDie i s).fw = s.fw ∧ (retireDie i s).bmu = s.bmu ∧ (retireDie i s).mirror = s.mirror ∧ (retireDie i s).pending = s.pending := by
  have e1 := @closeGate_frame
  have e2 := @intEvent_frame
  unfold retireDie; (try dsimp only); (repeat' split) <;> simp [e1, e2]

theorem restoreDie_frame (i : Nat) (s : State) :
    (restoreDie i s).now = s.now ∧ (restoreDie i s).frame = s.frame ∧ (restoreDie i s).free = s.free ∧ (restoreDie i s).regs = s.regs ∧
    (restoreDie i s).outbox = s.outbox ∧ (restoreDie i s).vcp = s.vcp ∧ (restoreDie i s).plant = s.plant ∧
    (restoreDie i s).broker = s.broker ∧ (restoreDie i s).valves = s.valves ∧ (restoreDie i s).motors = s.motors ∧
    (restoreDie i s).senses = s.senses ∧ (restoreDie i s).pulses = s.pulses ∧ (restoreDie i s).analogs = s.analogs ∧
    (restoreDie i s).auxs = s.auxs ∧ (restoreDie i s).cards = s.cards ∧ (restoreDie i s).service = s.service ∧
    (restoreDie i s).seqr = s.seqr ∧ (restoreDie i s).integ = s.integ ∧ (restoreDie i s).copies = s.copies ∧
    (restoreDie i s).pair = s.pair ∧ (restoreDie i s).links = s.links ∧ (restoreDie i s).hall = s.hall ∧ (restoreDie i s).buses = s.buses ∧
    (restoreDie i s).frameLog = s.frameLog ∧ (restoreDie i s).power = s.power ∧ (restoreDie i s).ptp = s.ptp ∧
    (restoreDie i s).fans = s.fans ∧ (restoreDie i s).upds = s.upds ∧ (restoreDie i s).fw = s.fw ∧ (restoreDie i s).log = s.log ∧
    (restoreDie i s).bmu = s.bmu ∧ (restoreDie i s).mirror = s.mirror ∧ (restoreDie i s).pending = s.pending := by
  unfold restoreDie; (try dsimp only); (repeat' split) <;> simp

theorem applyDies_frame (asked : Bool) (s : State) :
    (applyDies asked s).now = s.now ∧ (applyDies asked s).frame = s.frame ∧ (applyDies asked s).free = s.free ∧
    (applyDies asked s).plant = s.plant ∧ (applyDies asked s).broker = s.broker ∧ (applyDies asked s).valves = s.valves ∧
    (applyDies asked s).motors = s.motors ∧ (applyDies asked s).senses = s.senses ∧ (applyDies asked s).pulses = s.pulses ∧
    (applyDies asked s).analogs = s.analogs ∧ (applyDies asked s).auxs = s.auxs ∧ (applyDies asked s).cards = s.cards ∧
    (applyDies asked s).service = s.service ∧ (applyDies asked s).seqr = s.seqr ∧ (applyDies asked s).copies = s.copies ∧
    (applyDies asked s).pair = s.pair ∧ (applyDies asked s).links = s.links ∧ (applyDies asked s).hall = s.hall ∧
    (applyDies asked s).buses = s.buses ∧ (applyDies asked s).frameLog = s.frameLog ∧ (applyDies asked s).ptp = s.ptp ∧
    (applyDies asked s).fans = s.fans ∧ (applyDies asked s).upds = s.upds ∧ (applyDies asked s).fw = s.fw ∧
    (applyDies asked s).bmu = s.bmu ∧ (applyDies asked s).mirror = s.mirror ∧ (applyDies asked s).pending = s.pending := by
  have e1 := @retireDie_frame
  have e2 := @restoreDie_frame
  unfold applyDies; (try dsimp only); (repeat' split) <;> simp [e1, e2]

theorem setDegraded_frame (on : Bool) (s : State) :
    (setDegraded on s).now = s.now ∧ (setDegraded on s).frame = s.frame ∧ (setDegraded on s).free = s.free ∧
    (setDegraded on s).outbox = s.outbox ∧ (setDegraded on s).vcp = s.vcp ∧ (setDegraded on s).plant = s.plant ∧
    (setDegraded on s).broker = s.broker ∧ (setDegraded on s).valves = s.valves ∧ (setDegraded on s).motors = s.motors ∧
    (setDegraded on s).senses = s.senses ∧ (setDegraded on s).pulses = s.pulses ∧ (setDegraded on s).analogs = s.analogs ∧
    (setDegraded on s).auxs = s.auxs ∧ (setDegraded on s).cards = s.cards ∧ (setDegraded on s).service = s.service ∧
    (setDegraded on s).dies = s.dies ∧ (setDegraded on s).clusters = s.clusters ∧ (setDegraded on s).integ = s.integ ∧
    (setDegraded on s).copies = s.copies ∧ (setDegraded on s).pair = s.pair ∧ (setDegraded on s).links = s.links ∧
    (setDegraded on s).hall = s.hall ∧ (setDegraded on s).buses = s.buses ∧ (setDegraded on s).frameLog = s.frameLog ∧
    (setDegraded on s).power = s.power ∧ (setDegraded on s).ptp = s.ptp ∧ (setDegraded on s).fans = s.fans ∧
    (setDegraded on s).upds = s.upds ∧ (setDegraded on s).fw = s.fw ∧ (setDegraded on s).log = s.log ∧ (setDegraded on s).bmu = s.bmu ∧
    (setDegraded on s).mirror = s.mirror ∧ (setDegraded on s).pending = s.pending := by
  unfold setDegraded; (try dsimp only); (repeat' split) <;> simp

theorem setVariant_frame (v : Nat) (s : State) :
    (setVariant v s).now = s.now ∧ (setVariant v s).frame = s.frame ∧ (setVariant v s).free = s.free ∧ (setVariant v s).outbox = s.outbox ∧
    (setVariant v s).vcp = s.vcp ∧ (setVariant v s).plant = s.plant ∧ (setVariant v s).broker = s.broker ∧
    (setVariant v s).valves = s.valves ∧ (setVariant v s).motors = s.motors ∧ (setVariant v s).senses = s.senses ∧
    (setVariant v s).pulses = s.pulses ∧ (setVariant v s).analogs = s.analogs ∧ (setVariant v s).auxs = s.auxs ∧
    (setVariant v s).cards = s.cards ∧ (setVariant v s).service = s.service ∧ (setVariant v s).dies = s.dies ∧
    (setVariant v s).clusters = s.clusters ∧ (setVariant v s).integ = s.integ ∧ (setVariant v s).copies = s.copies ∧
    (setVariant v s).pair = s.pair ∧ (setVariant v s).links = s.links ∧ (setVariant v s).hall = s.hall ∧ (setVariant v s).buses = s.buses ∧
    (setVariant v s).frameLog = s.frameLog ∧ (setVariant v s).power = s.power ∧ (setVariant v s).ptp = s.ptp ∧
    (setVariant v s).fans = s.fans ∧ (setVariant v s).upds = s.upds ∧ (setVariant v s).fw = s.fw ∧ (setVariant v s).log = s.log ∧
    (setVariant v s).bmu = s.bmu ∧ (setVariant v s).mirror = s.mirror ∧ (setVariant v s).pending = s.pending := by
  have e1 := @setDegraded_frame
  unfold setVariant; (try dsimp only); (repeat' split) <;> simp [e1]

theorem faultSeq_frame (s : State) :
    (faultSeq s).now = s.now ∧ (faultSeq s).frame = s.frame ∧ (faultSeq s).free = s.free ∧ (faultSeq s).outbox = s.outbox ∧
    (faultSeq s).vcp = s.vcp ∧ (faultSeq s).broker = s.broker ∧ (faultSeq s).valves = s.valves ∧ (faultSeq s).motors = s.motors ∧
    (faultSeq s).senses = s.senses ∧ (faultSeq s).pulses = s.pulses ∧ (faultSeq s).analogs = s.analogs ∧ (faultSeq s).auxs = s.auxs ∧
    (faultSeq s).cards = s.cards ∧ (faultSeq s).service = s.service ∧ (faultSeq s).clusters = s.clusters ∧ (faultSeq s).integ = s.integ ∧
    (faultSeq s).pair = s.pair ∧ (faultSeq s).links = s.links ∧ (faultSeq s).hall = s.hall ∧ (faultSeq s).buses = s.buses ∧
    (faultSeq s).frameLog = s.frameLog ∧ (faultSeq s).power = s.power ∧ (faultSeq s).ptp = s.ptp ∧ (faultSeq s).fans = s.fans ∧
    (faultSeq s).upds = s.upds ∧ (faultSeq s).fw = s.fw ∧ (faultSeq s).log = s.log ∧ (faultSeq s).bmu = s.bmu ∧
    (faultSeq s).mirror = s.mirror ∧ (faultSeq s).pending = s.pending := by
  have e1 := @engineDown_frame
  have e2 := @setDies_frame
  have e3 := @stopLegs_frame
  unfold faultSeq; (try dsimp only); (repeat' split) <;> simp [e1, e2, e3]

theorem markCkpt_frame (p : Ckpt → Bool) (st : Nat) (s : State) :
    (markCkpt p st s).now = s.now ∧ (markCkpt p st s).frame = s.frame ∧ (markCkpt p st s).free = s.free ∧ (markCkpt p st s).regs = s.regs ∧
    (markCkpt p st s).outbox = s.outbox ∧ (markCkpt p st s).vcp = s.vcp ∧ (markCkpt p st s).plant = s.plant ∧
    (markCkpt p st s).broker = s.broker ∧ (markCkpt p st s).valves = s.valves ∧ (markCkpt p st s).motors = s.motors ∧
    (markCkpt p st s).senses = s.senses ∧ (markCkpt p st s).pulses = s.pulses ∧ (markCkpt p st s).analogs = s.analogs ∧
    (markCkpt p st s).auxs = s.auxs ∧ (markCkpt p st s).cards = s.cards ∧ (markCkpt p st s).service = s.service ∧
    (markCkpt p st s).dies = s.dies ∧ (markCkpt p st s).clusters = s.clusters ∧ (markCkpt p st s).integ = s.integ ∧
    (markCkpt p st s).copies = s.copies ∧ (markCkpt p st s).pair = s.pair ∧ (markCkpt p st s).links = s.links ∧
    (markCkpt p st s).hall = s.hall ∧ (markCkpt p st s).buses = s.buses ∧ (markCkpt p st s).frameLog = s.frameLog ∧
    (markCkpt p st s).power = s.power ∧ (markCkpt p st s).ptp = s.ptp ∧ (markCkpt p st s).fans = s.fans ∧ (markCkpt p st s).upds = s.upds ∧
    (markCkpt p st s).fw = s.fw ∧ (markCkpt p st s).log = s.log ∧ (markCkpt p st s).bmu = s.bmu ∧ (markCkpt p st s).mirror = s.mirror ∧
    (markCkpt p st s).pending = s.pending := by
  unfold markCkpt; (try dsimp only); (repeat' split) <;> simp

theorem dropLegs_frame (s : State) :
    (dropLegs s).now = s.now ∧ (dropLegs s).frame = s.frame ∧ (dropLegs s).free = s.free ∧ (dropLegs s).regs = s.regs ∧
    (dropLegs s).outbox = s.outbox ∧ (dropLegs s).vcp = s.vcp ∧ (dropLegs s).plant = s.plant ∧ (dropLegs s).broker = s.broker ∧
    (dropLegs s).valves = s.valves ∧ (dropLegs s).motors = s.motors ∧ (dropLegs s).senses = s.senses ∧ (dropLegs s).pulses = s.pulses ∧
    (dropLegs s).analogs = s.analogs ∧ (dropLegs s).auxs = s.auxs ∧ (dropLegs s).cards = s.cards ∧ (dropLegs s).service = s.service ∧
    (dropLegs s).dies = s.dies ∧ (dropLegs s).clusters = s.clusters ∧ (dropLegs s).integ = s.integ ∧ (dropLegs s).copies = s.copies ∧
    (dropLegs s).pair = s.pair ∧ (dropLegs s).links = s.links ∧ (dropLegs s).hall = s.hall ∧ (dropLegs s).buses = s.buses ∧
    (dropLegs s).frameLog = s.frameLog ∧ (dropLegs s).power = s.power ∧ (dropLegs s).ptp = s.ptp ∧ (dropLegs s).fans = s.fans ∧
    (dropLegs s).upds = s.upds ∧ (dropLegs s).fw = s.fw ∧ (dropLegs s).log = s.log ∧ (dropLegs s).bmu = s.bmu ∧
    (dropLegs s).mirror = s.mirror ∧ (dropLegs s).pending = s.pending := by
  unfold dropLegs; (try dsimp only); (repeat' split) <;> simp

theorem endScheduled_frame (s : State) :
    (endScheduled s).now = s.now ∧ (endScheduled s).frame = s.frame ∧ (endScheduled s).free = s.free ∧ (endScheduled s).regs = s.regs ∧
    (endScheduled s).outbox = s.outbox ∧ (endScheduled s).vcp = s.vcp ∧ (endScheduled s).plant = s.plant ∧
    (endScheduled s).broker = s.broker ∧ (endScheduled s).valves = s.valves ∧ (endScheduled s).motors = s.motors ∧
    (endScheduled s).senses = s.senses ∧ (endScheduled s).pulses = s.pulses ∧ (endScheduled s).analogs = s.analogs ∧
    (endScheduled s).auxs = s.auxs ∧ (endScheduled s).cards = s.cards ∧ (endScheduled s).service = s.service ∧
    (endScheduled s).seqr = s.seqr ∧ (endScheduled s).dies = s.dies ∧ (endScheduled s).clusters = s.clusters ∧
    (endScheduled s).integ = s.integ ∧ (endScheduled s).pair = s.pair ∧ (endScheduled s).links = s.links ∧ (endScheduled s).hall = s.hall ∧
    (endScheduled s).buses = s.buses ∧ (endScheduled s).frameLog = s.frameLog ∧ (endScheduled s).power = s.power ∧
    (endScheduled s).ptp = s.ptp ∧ (endScheduled s).fans = s.fans ∧ (endScheduled s).upds = s.upds ∧ (endScheduled s).fw = s.fw ∧
    (endScheduled s).log = s.log ∧ (endScheduled s).bmu = s.bmu ∧ (endScheduled s).mirror = s.mirror ∧
    (endScheduled s).pending = s.pending := by
  unfold endScheduled; (try dsimp only); (repeat' split) <;> simp

theorem startRestore_frame (reload : Nat) (s : State) :
    (startRestore reload s).now = s.now ∧ (startRestore reload s).frame = s.frame ∧ (startRestore reload s).free = s.free ∧
    (startRestore reload s).vcp = s.vcp ∧ (startRestore reload s).broker = s.broker ∧ (startRestore reload s).valves = s.valves ∧
    (startRestore reload s).motors = s.motors ∧ (startRestore reload s).senses = s.senses ∧ (startRestore reload s).pulses = s.pulses ∧
    (startRestore reload s).analogs = s.analogs ∧ (startRestore reload s).auxs = s.auxs ∧ (startRestore reload s).cards = s.cards ∧
    (startRestore reload s).service = s.service ∧ (startRestore reload s).clusters = s.clusters ∧ (startRestore reload s).integ = s.integ ∧
    (startRestore reload s).pair = s.pair ∧ (startRestore reload s).links = s.links ∧ (startRestore reload s).hall = s.hall ∧
    (startRestore reload s).buses = s.buses ∧ (startRestore reload s).frameLog = s.frameLog ∧ (startRestore reload s).power = s.power ∧
    (startRestore reload s).ptp = s.ptp ∧ (startRestore reload s).fans = s.fans ∧ (startRestore reload s).upds = s.upds ∧
    (startRestore reload s).fw = s.fw ∧ (startRestore reload s).log = s.log ∧ (startRestore reload s).bmu = s.bmu ∧
    (startRestore reload s).mirror = s.mirror ∧ (startRestore reload s).pending = s.pending := by
  have e1 := @endScheduled_frame
  have e2 := @markCkpt_frame
  have e3 := @dropLegs_frame
  have e4 := @faultSeq_frame
  unfold startRestore; (try dsimp only); (repeat' split) <;> simp [e1, e2, e3, e4]

theorem leaveMirror_frame (s : State) :
    (leaveMirror s).now = s.now ∧ (leaveMirror s).frame = s.frame ∧ (leaveMirror s).free = s.free ∧ (leaveMirror s).regs = s.regs ∧
    (leaveMirror s).outbox = s.outbox ∧ (leaveMirror s).vcp = s.vcp ∧ (leaveMirror s).plant = s.plant ∧ (leaveMirror s).broker = s.broker ∧
    (leaveMirror s).valves = s.valves ∧ (leaveMirror s).motors = s.motors ∧ (leaveMirror s).senses = s.senses ∧
    (leaveMirror s).pulses = s.pulses ∧ (leaveMirror s).analogs = s.analogs ∧ (leaveMirror s).auxs = s.auxs ∧
    (leaveMirror s).cards = s.cards ∧ (leaveMirror s).service = s.service ∧ (leaveMirror s).seqr = s.seqr ∧ (leaveMirror s).dies = s.dies ∧
    (leaveMirror s).clusters = s.clusters ∧ (leaveMirror s).integ = s.integ ∧ (leaveMirror s).copies = s.copies ∧
    (leaveMirror s).links = s.links ∧ (leaveMirror s).hall = s.hall ∧ (leaveMirror s).buses = s.buses ∧
    (leaveMirror s).frameLog = s.frameLog ∧ (leaveMirror s).power = s.power ∧ (leaveMirror s).ptp = s.ptp ∧ (leaveMirror s).fans = s.fans ∧
    (leaveMirror s).upds = s.upds ∧ (leaveMirror s).fw = s.fw ∧ (leaveMirror s).log = s.log ∧ (leaveMirror s).bmu = s.bmu ∧
    (leaveMirror s).mirror = s.mirror ∧ (leaveMirror s).pending = s.pending := by
  unfold leaveMirror; (try dsimp only); (repeat' split) <;> simp

theorem choosePlacement_frame (asked : Bool) (img : Image) (s : State) : (choosePlacement asked img s).state.now = s.now ∧ (choosePlacement asked img s).state.frame = s.frame ∧ (choosePlacement asked img s).state.free = s.free ∧ (choosePlacement asked img s).state.plant = s.plant ∧ (choosePlacement asked img s).state.broker = s.broker ∧ (choosePlacement asked img s).state.valves = s.valves ∧ (choosePlacement asked img s).state.motors = s.motors ∧ (choosePlacement asked img s).state.senses = s.senses ∧ (choosePlacement asked img s).state.pulses = s.pulses ∧ (choosePlacement asked img s).state.analogs = s.analogs ∧ (choosePlacement asked img s).state.auxs = s.auxs ∧ (choosePlacement asked img s).state.cards = s.cards ∧ (choosePlacement asked img s).state.service = s.service ∧ (choosePlacement asked img s).state.copies = s.copies ∧ (choosePlacement asked img s).state.buses = s.buses ∧ (choosePlacement asked img s).state.frameLog = s.frameLog ∧ (choosePlacement asked img s).state.ptp = s.ptp ∧ (choosePlacement asked img s).state.fans = s.fans ∧ (choosePlacement asked img s).state.upds = s.upds ∧ (choosePlacement asked img s).state.fw = s.fw ∧ (choosePlacement asked img s).state.bmu = s.bmu ∧ (choosePlacement asked img s).state.mirror = s.mirror ∧ (choosePlacement asked img s).state.pending = s.pending := by
  have e1 := @applyDies_frame
  have e2 := @setVariant_frame
  have e3 := @askHandover_frame
  have e4 := @setDegraded_frame
  unfold choosePlacement
  dsimp only
  split
  · cases asked <;> simp [Placed.state, e1, e2, e3, e4]
  · split <;> cases asked <;> simp [Placed.state, e1, e2, e3, e4]

theorem changePlacement_frame (rolls : Bool) (img : Image) (s : State) :
    (changePlacement rolls img s).now = s.now ∧ (changePlacement rolls img s).frame = s.frame ∧
    (changePlacement rolls img s).free = s.free ∧ (changePlacement rolls img s).broker = s.broker ∧
    (changePlacement rolls img s).valves = s.valves ∧ (changePlacement rolls img s).motors = s.motors ∧
    (changePlacement rolls img s).senses = s.senses ∧ (changePlacement rolls img s).pulses = s.pulses ∧
    (changePlacement rolls img s).analogs = s.analogs ∧ (changePlacement rolls img s).auxs = s.auxs ∧
    (changePlacement rolls img s).cards = s.cards ∧ (changePlacement rolls img s).service = s.service ∧
    (changePlacement rolls img s).buses = s.buses ∧ (changePlacement rolls img s).frameLog = s.frameLog ∧
    (changePlacement rolls img s).ptp = s.ptp ∧ (changePlacement rolls img s).fans = s.fans ∧ (changePlacement rolls img s).upds = s.upds ∧
    (changePlacement rolls img s).fw = s.fw ∧ (changePlacement rolls img s).bmu = s.bmu ∧ (changePlacement rolls img s).mirror = s.mirror ∧
    (changePlacement rolls img s).pending = s.pending := by
  have e1 := @startRestore_frame
  have e2 := @faultSeq_frame
  unfold changePlacement
  have e := choosePlacement_frame s.seqr.placementDue img s
  split <;> rename_i h <;> rw [h] at e <;> simp only [Placed.state] at e <;> (try split) <;> simp [e, e1, e2]

theorem tellHall_frame (payload : List Nat) (s : State) :
    (tellHall payload s).now = s.now ∧ (tellHall payload s).frame = s.frame ∧ (tellHall payload s).free = s.free ∧
    (tellHall payload s).regs = s.regs ∧ (tellHall payload s).vcp = s.vcp ∧ (tellHall payload s).plant = s.plant ∧
    (tellHall payload s).broker = s.broker ∧ (tellHall payload s).valves = s.valves ∧ (tellHall payload s).motors = s.motors ∧
    (tellHall payload s).senses = s.senses ∧ (tellHall payload s).pulses = s.pulses ∧ (tellHall payload s).analogs = s.analogs ∧
    (tellHall payload s).auxs = s.auxs ∧ (tellHall payload s).cards = s.cards ∧ (tellHall payload s).service = s.service ∧
    (tellHall payload s).seqr = s.seqr ∧ (tellHall payload s).dies = s.dies ∧ (tellHall payload s).clusters = s.clusters ∧
    (tellHall payload s).integ = s.integ ∧ (tellHall payload s).copies = s.copies ∧ (tellHall payload s).pair = s.pair ∧
    (tellHall payload s).buses = s.buses ∧ (tellHall payload s).frameLog = s.frameLog ∧ (tellHall payload s).power = s.power ∧
    (tellHall payload s).ptp = s.ptp ∧ (tellHall payload s).fans = s.fans ∧ (tellHall payload s).upds = s.upds ∧
    (tellHall payload s).fw = s.fw ∧ (tellHall payload s).log = s.log ∧ (tellHall payload s).bmu = s.bmu ∧
    (tellHall payload s).mirror = s.mirror ∧ (tellHall payload s).pending = s.pending := by
  unfold tellHall; (try dsimp only); (repeat' split) <;> simp

theorem stopHall_frame (s : State) :
    (stopHall s).now = s.now ∧ (stopHall s).frame = s.frame ∧ (stopHall s).free = s.free ∧ (stopHall s).regs = s.regs ∧
    (stopHall s).vcp = s.vcp ∧ (stopHall s).plant = s.plant ∧ (stopHall s).broker = s.broker ∧ (stopHall s).valves = s.valves ∧
    (stopHall s).motors = s.motors ∧ (stopHall s).senses = s.senses ∧ (stopHall s).pulses = s.pulses ∧ (stopHall s).analogs = s.analogs ∧
    (stopHall s).auxs = s.auxs ∧ (stopHall s).cards = s.cards ∧ (stopHall s).service = s.service ∧ (stopHall s).dies = s.dies ∧
    (stopHall s).clusters = s.clusters ∧ (stopHall s).integ = s.integ ∧ (stopHall s).copies = s.copies ∧ (stopHall s).pair = s.pair ∧
    (stopHall s).buses = s.buses ∧ (stopHall s).frameLog = s.frameLog ∧ (stopHall s).power = s.power ∧ (stopHall s).ptp = s.ptp ∧
    (stopHall s).fans = s.fans ∧ (stopHall s).upds = s.upds ∧ (stopHall s).fw = s.fw ∧ (stopHall s).log = s.log ∧ (stopHall s).bmu = s.bmu ∧
    (stopHall s).mirror = s.mirror ∧ (stopHall s).pending = s.pending := by
  have e1 := @tellHall_frame
  unfold stopHall; (try dsimp only); (repeat' split) <;> simp [e1]

theorem setLeg_frame (r : LegRec) (s : State) :
    (setLeg r s).now = s.now ∧ (setLeg r s).frame = s.frame ∧ (setLeg r s).free = s.free ∧ (setLeg r s).regs = s.regs ∧
    (setLeg r s).outbox = s.outbox ∧ (setLeg r s).vcp = s.vcp ∧ (setLeg r s).plant = s.plant ∧ (setLeg r s).broker = s.broker ∧
    (setLeg r s).valves = s.valves ∧ (setLeg r s).motors = s.motors ∧ (setLeg r s).senses = s.senses ∧ (setLeg r s).pulses = s.pulses ∧
    (setLeg r s).analogs = s.analogs ∧ (setLeg r s).auxs = s.auxs ∧ (setLeg r s).cards = s.cards ∧ (setLeg r s).service = s.service ∧
    (setLeg r s).dies = s.dies ∧ (setLeg r s).clusters = s.clusters ∧ (setLeg r s).integ = s.integ ∧ (setLeg r s).copies = s.copies ∧
    (setLeg r s).pair = s.pair ∧ (setLeg r s).links = s.links ∧ (setLeg r s).hall = s.hall ∧ (setLeg r s).buses = s.buses ∧
    (setLeg r s).frameLog = s.frameLog ∧ (setLeg r s).power = s.power ∧ (setLeg r s).ptp = s.ptp ∧ (setLeg r s).fans = s.fans ∧
    (setLeg r s).upds = s.upds ∧ (setLeg r s).fw = s.fw ∧ (setLeg r s).log = s.log ∧ (setLeg r s).bmu = s.bmu ∧
    (setLeg r s).mirror = s.mirror ∧ (setLeg r s).pending = s.pending := by
  unfold setLeg; (try dsimp only); (repeat' split) <;> simp

theorem suspectUsed_frame (s : State) (c : ClusterAt) (a : State) :
    (suspectUsed s c a).now = a.now ∧ (suspectUsed s c a).frame = a.frame ∧ (suspectUsed s c a).free = a.free ∧
    (suspectUsed s c a).plant = a.plant ∧ (suspectUsed s c a).broker = a.broker ∧ (suspectUsed s c a).valves = a.valves ∧
    (suspectUsed s c a).motors = a.motors ∧ (suspectUsed s c a).senses = a.senses ∧ (suspectUsed s c a).pulses = a.pulses ∧
    (suspectUsed s c a).analogs = a.analogs ∧ (suspectUsed s c a).auxs = a.auxs ∧ (suspectUsed s c a).cards = a.cards ∧
    (suspectUsed s c a).service = a.service ∧ (suspectUsed s c a).seqr = a.seqr ∧ (suspectUsed s c a).dies = a.dies ∧
    (suspectUsed s c a).copies = a.copies ∧ (suspectUsed s c a).pair = a.pair ∧ (suspectUsed s c a).links = a.links ∧
    (suspectUsed s c a).hall = a.hall ∧ (suspectUsed s c a).buses = a.buses ∧ (suspectUsed s c a).frameLog = a.frameLog ∧
    (suspectUsed s c a).power = a.power ∧ (suspectUsed s c a).ptp = a.ptp ∧ (suspectUsed s c a).fans = a.fans ∧
    (suspectUsed s c a).upds = a.upds ∧ (suspectUsed s c a).fw = a.fw ∧ (suspectUsed s c a).bmu = a.bmu ∧
    (suspectUsed s c a).mirror = a.mirror ∧ (suspectUsed s c a).pending = a.pending := by
  have e1 := @suspect_frame
  unfold suspectUsed; (try dsimp only); (repeat' split) <;> simp [e1]

theorem suspectDie_frame (s : State) (d : Fin 16) (a : State) :
    (suspectDie s d a).now = a.now ∧ (suspectDie s d a).frame = a.frame ∧ (suspectDie s d a).free = a.free ∧
    (suspectDie s d a).plant = a.plant ∧ (suspectDie s d a).broker = a.broker ∧ (suspectDie s d a).valves = a.valves ∧
    (suspectDie s d a).motors = a.motors ∧ (suspectDie s d a).senses = a.senses ∧ (suspectDie s d a).pulses = a.pulses ∧
    (suspectDie s d a).analogs = a.analogs ∧ (suspectDie s d a).auxs = a.auxs ∧ (suspectDie s d a).cards = a.cards ∧
    (suspectDie s d a).service = a.service ∧ (suspectDie s d a).seqr = a.seqr ∧ (suspectDie s d a).dies = a.dies ∧
    (suspectDie s d a).copies = a.copies ∧ (suspectDie s d a).pair = a.pair ∧ (suspectDie s d a).links = a.links ∧
    (suspectDie s d a).hall = a.hall ∧ (suspectDie s d a).buses = a.buses ∧ (suspectDie s d a).frameLog = a.frameLog ∧
    (suspectDie s d a).power = a.power ∧ (suspectDie s d a).ptp = a.ptp ∧ (suspectDie s d a).fans = a.fans ∧
    (suspectDie s d a).upds = a.upds ∧ (suspectDie s d a).fw = a.fw ∧ (suspectDie s d a).bmu = a.bmu ∧
    (suspectDie s d a).mirror = a.mirror ∧ (suspectDie s d a).pending = a.pending := by
  have e1 := @suspectUsed_frame
  unfold suspectDie; (try dsimp only); (repeat' split) <;> simp [e1]

theorem unresolvedMismatch_frame (s : State) :
    (unresolvedMismatch s).now = s.now ∧ (unresolvedMismatch s).frame = s.frame ∧ (unresolvedMismatch s).free = s.free ∧
    (unresolvedMismatch s).plant = s.plant ∧ (unresolvedMismatch s).broker = s.broker ∧ (unresolvedMismatch s).valves = s.valves ∧
    (unresolvedMismatch s).motors = s.motors ∧ (unresolvedMismatch s).senses = s.senses ∧ (unresolvedMismatch s).pulses = s.pulses ∧
    (unresolvedMismatch s).analogs = s.analogs ∧ (unresolvedMismatch s).auxs = s.auxs ∧ (unresolvedMismatch s).cards = s.cards ∧
    (unresolvedMismatch s).service = s.service ∧ (unresolvedMismatch s).seqr = s.seqr ∧ (unresolvedMismatch s).dies = s.dies ∧
    (unresolvedMismatch s).copies = s.copies ∧ (unresolvedMismatch s).buses = s.buses ∧ (unresolvedMismatch s).frameLog = s.frameLog ∧
    (unresolvedMismatch s).power = s.power ∧ (unresolvedMismatch s).ptp = s.ptp ∧ (unresolvedMismatch s).fans = s.fans ∧
    (unresolvedMismatch s).upds = s.upds ∧ (unresolvedMismatch s).fw = s.fw ∧ (unresolvedMismatch s).bmu = s.bmu ∧
    (unresolvedMismatch s).mirror = s.mirror ∧ (unresolvedMismatch s).pending = s.pending := by
  have e1 := @askHandover_frame
  have e2 := @suspectDie_frame
  unfold unresolvedMismatch; (try dsimp only); (repeat' split) <;> (first | (simp [e1, e2]; done) | (simp (disch := (intros; (repeat' split) <;> simp [e1, e2])) [e1, e2]; done))

theorem compareFailed_frame (r : LegRec) (s : State) :
    (compareFailed r s).now = s.now ∧ (compareFailed r s).frame = s.frame ∧ (compareFailed r s).free = s.free ∧
    (compareFailed r s).plant = s.plant ∧ (compareFailed r s).broker = s.broker ∧ (compareFailed r s).valves = s.valves ∧
    (compareFailed r s).motors = s.motors ∧ (compareFailed r s).senses = s.senses ∧ (compareFailed r s).pulses = s.pulses ∧
    (compareFailed r s).analogs = s.analogs ∧ (compareFailed r s).auxs = s.auxs ∧ (compareFailed r s).cards = s.cards ∧
    (compareFailed r s).service = s.service ∧ (compareFailed r s).seqr = s.seqr ∧ (compareFailed r s).dies = s.dies ∧
    (compareFailed r s).copies = s.copies ∧ (compareFailed r s).buses = s.buses ∧ (compareFailed r s).frameLog = s.frameLog ∧
    (compareFailed r s).power = s.power ∧ (compareFailed r s).ptp = s.ptp ∧ (compareFailed r s).fans = s.fans ∧
    (compareFailed r s).upds = s.upds ∧ (compareFailed r s).fw = s.fw ∧ (compareFailed r s).bmu = s.bmu ∧
    (compareFailed r s).mirror = s.mirror ∧ (compareFailed r s).pending = s.pending := by
  have e1 := @intEvent_frame
  have e2 := @unresolvedMismatch_frame
  unfold compareFailed; (try dsimp only); (repeat' split) <;> simp [e1, e2]

theorem chargeLeg_frame (r : LegRec) (s : State) :
    (chargeLeg r s).now = s.now ∧ (chargeLeg r s).frame = s.frame ∧ (chargeLeg r s).free = s.free ∧ (chargeLeg r s).plant = s.plant ∧
    (chargeLeg r s).broker = s.broker ∧ (chargeLeg r s).valves = s.valves ∧ (chargeLeg r s).motors = s.motors ∧
    (chargeLeg r s).senses = s.senses ∧ (chargeLeg r s).pulses = s.pulses ∧ (chargeLeg r s).analogs = s.analogs ∧
    (chargeLeg r s).auxs = s.auxs ∧ (chargeLeg r s).cards = s.cards ∧ (chargeLeg r s).service = s.service ∧
    (chargeLeg r s).copies = s.copies ∧ (chargeLeg r s).pair = s.pair ∧ (chargeLeg r s).links = s.links ∧ (chargeLeg r s).hall = s.hall ∧
    (chargeLeg r s).buses = s.buses ∧ (chargeLeg r s).frameLog = s.frameLog ∧ (chargeLeg r s).power = s.power ∧
    (chargeLeg r s).ptp = s.ptp ∧ (chargeLeg r s).fans = s.fans ∧ (chargeLeg r s).upds = s.upds ∧ (chargeLeg r s).fw = s.fw ∧
    (chargeLeg r s).bmu = s.bmu ∧ (chargeLeg r s).mirror = s.mirror ∧ (chargeLeg r s).pending = s.pending := by
  have e1 := @failCluster_frame
  have e2 := @intEvent_frame
  have e3 := @failedRound_frame
  have e4 := @judgeRound_frame
  unfold chargeLeg; (try dsimp only); (repeat' split) <;> simp [e1, e2, e3, e4]

theorem closeCkpt_frame (r : LegRec) (s : State) :
    (closeCkpt r s).now = s.now ∧ (closeCkpt r s).frame = s.frame ∧ (closeCkpt r s).free = s.free ∧ (closeCkpt r s).regs = s.regs ∧
    (closeCkpt r s).vcp = s.vcp ∧ (closeCkpt r s).plant = s.plant ∧ (closeCkpt r s).broker = s.broker ∧ (closeCkpt r s).valves = s.valves ∧
    (closeCkpt r s).motors = s.motors ∧ (closeCkpt r s).senses = s.senses ∧ (closeCkpt r s).pulses = s.pulses ∧
    (closeCkpt r s).analogs = s.analogs ∧ (closeCkpt r s).auxs = s.auxs ∧ (closeCkpt r s).cards = s.cards ∧
    (closeCkpt r s).service = s.service ∧ (closeCkpt r s).dies = s.dies ∧ (closeCkpt r s).clusters = s.clusters ∧
    (closeCkpt r s).integ = s.integ ∧ (closeCkpt r s).copies = s.copies ∧ (closeCkpt r s).links = s.links ∧ (closeCkpt r s).hall = s.hall ∧
    (closeCkpt r s).buses = s.buses ∧ (closeCkpt r s).frameLog = s.frameLog ∧ (closeCkpt r s).power = s.power ∧
    (closeCkpt r s).ptp = s.ptp ∧ (closeCkpt r s).fans = s.fans ∧ (closeCkpt r s).upds = s.upds ∧ (closeCkpt r s).fw = s.fw ∧
    (closeCkpt r s).log = s.log ∧ (closeCkpt r s).bmu = s.bmu ∧ (closeCkpt r s).mirror = s.mirror ∧
    (closeCkpt r s).pending = s.pending := by
  have e1 := @markCkpt_frame
  unfold closeCkpt; (try dsimp only); (repeat' split) <;> simp [e1]

theorem dataCorrupt_frame (src : ClusterAt) (r : LegRec) (s : State) :
    (dataCorrupt src r s).1.now = s.now ∧ (dataCorrupt src r s).1.frame = s.frame ∧ (dataCorrupt src r s).1.free = s.free ∧
    (dataCorrupt src r s).1.plant = s.plant ∧ (dataCorrupt src r s).1.broker = s.broker ∧ (dataCorrupt src r s).1.valves = s.valves ∧
    (dataCorrupt src r s).1.motors = s.motors ∧ (dataCorrupt src r s).1.senses = s.senses ∧ (dataCorrupt src r s).1.pulses = s.pulses ∧
    (dataCorrupt src r s).1.analogs = s.analogs ∧ (dataCorrupt src r s).1.auxs = s.auxs ∧ (dataCorrupt src r s).1.cards = s.cards ∧
    (dataCorrupt src r s).1.service = s.service ∧ (dataCorrupt src r s).1.seqr = s.seqr ∧ (dataCorrupt src r s).1.dies = s.dies ∧
    (dataCorrupt src r s).1.clusters = s.clusters ∧ (dataCorrupt src r s).1.copies = s.copies ∧ (dataCorrupt src r s).1.pair = s.pair ∧
    (dataCorrupt src r s).1.links = s.links ∧ (dataCorrupt src r s).1.hall = s.hall ∧ (dataCorrupt src r s).1.buses = s.buses ∧
    (dataCorrupt src r s).1.frameLog = s.frameLog ∧ (dataCorrupt src r s).1.power = s.power ∧ (dataCorrupt src r s).1.ptp = s.ptp ∧
    (dataCorrupt src r s).1.fans = s.fans ∧ (dataCorrupt src r s).1.upds = s.upds ∧ (dataCorrupt src r s).1.fw = s.fw ∧
    (dataCorrupt src r s).1.bmu = s.bmu ∧ (dataCorrupt src r s).1.mirror = s.mirror ∧ (dataCorrupt src r s).1.pending = s.pending := by
  have e1 := @intEvent_frame
  unfold dataCorrupt; (try dsimp only); (repeat' split) <;> (first | (simp [e1]; done) | (simp (disch := (intros; (repeat' split) <;> simp [e1])) [e1]; done))

theorem closeLeg_frame (n : Nat) (s : State) :
    (closeLeg n s).now = s.now ∧ (closeLeg n s).frame = s.frame ∧ (closeLeg n s).free = s.free ∧ (closeLeg n s).plant = s.plant ∧
    (closeLeg n s).broker = s.broker ∧ (closeLeg n s).valves = s.valves ∧ (closeLeg n s).motors = s.motors ∧
    (closeLeg n s).senses = s.senses ∧ (closeLeg n s).pulses = s.pulses ∧ (closeLeg n s).analogs = s.analogs ∧
    (closeLeg n s).auxs = s.auxs ∧ (closeLeg n s).cards = s.cards ∧ (closeLeg n s).service = s.service ∧ (closeLeg n s).copies = s.copies ∧
    (closeLeg n s).buses = s.buses ∧ (closeLeg n s).frameLog = s.frameLog ∧ (closeLeg n s).power = s.power ∧ (closeLeg n s).ptp = s.ptp ∧
    (closeLeg n s).fans = s.fans ∧ (closeLeg n s).upds = s.upds ∧ (closeLeg n s).fw = s.fw ∧ (closeLeg n s).bmu = s.bmu ∧
    (closeLeg n s).mirror = s.mirror ∧ (closeLeg n s).pending = s.pending := by
  have e1 := @dataCorrupt_frame
  have e2 := @chargeLeg_frame
  have e3 := @compareFailed_frame
  have e4 := @closeCkpt_frame
  have e5 := @setLeg_frame
  unfold closeLeg
  split
  · simp [e1, e2, e3, e4, e5]
  · split
    · simp [e1, e2, e3, e4, e5]
    · dsimp only
      simp [e1, e2, e3, e4, e5]

theorem bindLoop_frame (l : Nat) (s : State) :
    (bindLoop l s).now = s.now ∧ (bindLoop l s).frame = s.frame ∧ (bindLoop l s).free = s.free ∧ (bindLoop l s).outbox = s.outbox ∧
    (bindLoop l s).vcp = s.vcp ∧ (bindLoop l s).broker = s.broker ∧ (bindLoop l s).valves = s.valves ∧ (bindLoop l s).motors = s.motors ∧
    (bindLoop l s).senses = s.senses ∧ (bindLoop l s).pulses = s.pulses ∧ (bindLoop l s).analogs = s.analogs ∧
    (bindLoop l s).auxs = s.auxs ∧ (bindLoop l s).cards = s.cards ∧ (bindLoop l s).service = s.service ∧ (bindLoop l s).seqr = s.seqr ∧
    (bindLoop l s).dies = s.dies ∧ (bindLoop l s).clusters = s.clusters ∧ (bindLoop l s).integ = s.integ ∧
    (bindLoop l s).copies = s.copies ∧ (bindLoop l s).pair = s.pair ∧ (bindLoop l s).links = s.links ∧ (bindLoop l s).hall = s.hall ∧
    (bindLoop l s).buses = s.buses ∧ (bindLoop l s).frameLog = s.frameLog ∧ (bindLoop l s).power = s.power ∧ (bindLoop l s).ptp = s.ptp ∧
    (bindLoop l s).fans = s.fans ∧ (bindLoop l s).upds = s.upds ∧ (bindLoop l s).fw = s.fw ∧ (bindLoop l s).log = s.log ∧
    (bindLoop l s).bmu = s.bmu ∧ (bindLoop l s).mirror = s.mirror ∧ (bindLoop l s).pending = s.pending := by
  unfold bindLoop; (try dsimp only); (repeat' split) <;> simp

theorem demand_frame (l : Nat) (sp out : Int) (s : State) :
    (demand l sp out s).now = s.now ∧ (demand l sp out s).frame = s.frame ∧ (demand l sp out s).free = s.free ∧
    (demand l sp out s).outbox = s.outbox ∧ (demand l sp out s).vcp = s.vcp ∧ (demand l sp out s).broker = s.broker ∧
    (demand l sp out s).valves = s.valves ∧ (demand l sp out s).motors = s.motors ∧ (demand l sp out s).senses = s.senses ∧
    (demand l sp out s).pulses = s.pulses ∧ (demand l sp out s).analogs = s.analogs ∧ (demand l sp out s).auxs = s.auxs ∧
    (demand l sp out s).cards = s.cards ∧ (demand l sp out s).service = s.service ∧ (demand l sp out s).seqr = s.seqr ∧
    (demand l sp out s).dies = s.dies ∧ (demand l sp out s).clusters = s.clusters ∧ (demand l sp out s).integ = s.integ ∧
    (demand l sp out s).copies = s.copies ∧ (demand l sp out s).pair = s.pair ∧ (demand l sp out s).links = s.links ∧
    (demand l sp out s).hall = s.hall ∧ (demand l sp out s).buses = s.buses ∧ (demand l sp out s).frameLog = s.frameLog ∧
    (demand l sp out s).power = s.power ∧ (demand l sp out s).ptp = s.ptp ∧ (demand l sp out s).fans = s.fans ∧
    (demand l sp out s).upds = s.upds ∧ (demand l sp out s).fw = s.fw ∧ (demand l sp out s).log = s.log ∧ (demand l sp out s).bmu = s.bmu ∧
    (demand l sp out s).mirror = s.mirror ∧ (demand l sp out s).pending = s.pending := by
  have e1 := @bindLoop_frame
  unfold demand; (try dsimp only); (repeat' split) <;> simp [e1]

theorem heldResult_frame (l : Nat) (out : Int) (s : State) :
    (heldResult l out s).now = s.now ∧ (heldResult l out s).frame = s.frame ∧ (heldResult l out s).free = s.free ∧
    (heldResult l out s).vcp = s.vcp ∧ (heldResult l out s).broker = s.broker ∧ (heldResult l out s).valves = s.valves ∧
    (heldResult l out s).motors = s.motors ∧ (heldResult l out s).senses = s.senses ∧ (heldResult l out s).pulses = s.pulses ∧
    (heldResult l out s).analogs = s.analogs ∧ (heldResult l out s).auxs = s.auxs ∧ (heldResult l out s).cards = s.cards ∧
    (heldResult l out s).service = s.service ∧ (heldResult l out s).seqr = s.seqr ∧ (heldResult l out s).dies = s.dies ∧
    (heldResult l out s).clusters = s.clusters ∧ (heldResult l out s).integ = s.integ ∧ (heldResult l out s).copies = s.copies ∧
    (heldResult l out s).pair = s.pair ∧ (heldResult l out s).links = s.links ∧ (heldResult l out s).hall = s.hall ∧
    (heldResult l out s).buses = s.buses ∧ (heldResult l out s).frameLog = s.frameLog ∧ (heldResult l out s).power = s.power ∧
    (heldResult l out s).ptp = s.ptp ∧ (heldResult l out s).fans = s.fans ∧ (heldResult l out s).upds = s.upds ∧
    (heldResult l out s).fw = s.fw ∧ (heldResult l out s).bmu = s.bmu ∧ (heldResult l out s).mirror = s.mirror ∧
    (heldResult l out s).pending = s.pending := by
  unfold heldResult; (try dsimp only); (repeat' split) <;> simp

theorem heldRack_frame (r : Nat) (pos : Int) (s : State) :
    (heldRack r pos s).now = s.now ∧ (heldRack r pos s).frame = s.frame ∧ (heldRack r pos s).free = s.free ∧
    (heldRack r pos s).vcp = s.vcp ∧ (heldRack r pos s).plant = s.plant ∧ (heldRack r pos s).valves = s.valves ∧
    (heldRack r pos s).motors = s.motors ∧ (heldRack r pos s).senses = s.senses ∧ (heldRack r pos s).pulses = s.pulses ∧
    (heldRack r pos s).analogs = s.analogs ∧ (heldRack r pos s).auxs = s.auxs ∧ (heldRack r pos s).cards = s.cards ∧
    (heldRack r pos s).service = s.service ∧ (heldRack r pos s).seqr = s.seqr ∧ (heldRack r pos s).dies = s.dies ∧
    (heldRack r pos s).clusters = s.clusters ∧ (heldRack r pos s).integ = s.integ ∧ (heldRack r pos s).copies = s.copies ∧
    (heldRack r pos s).pair = s.pair ∧ (heldRack r pos s).links = s.links ∧ (heldRack r pos s).hall = s.hall ∧
    (heldRack r pos s).buses = s.buses ∧ (heldRack r pos s).frameLog = s.frameLog ∧ (heldRack r pos s).power = s.power ∧
    (heldRack r pos s).ptp = s.ptp ∧ (heldRack r pos s).fans = s.fans ∧ (heldRack r pos s).upds = s.upds ∧ (heldRack r pos s).fw = s.fw ∧
    (heldRack r pos s).bmu = s.bmu ∧ (heldRack r pos s).mirror = s.mirror ∧ (heldRack r pos s).pending = s.pending := by
  unfold heldRack; (try dsimp only); (repeat' split) <;> simp

theorem applyLoop_frame (e : Fin 5 × Int × Int) (s : State) :
    (applyLoop e s).now = s.now ∧ (applyLoop e s).frame = s.frame ∧ (applyLoop e s).free = s.free ∧ (applyLoop e s).vcp = s.vcp ∧
    (applyLoop e s).broker = s.broker ∧ (applyLoop e s).valves = s.valves ∧ (applyLoop e s).motors = s.motors ∧
    (applyLoop e s).senses = s.senses ∧ (applyLoop e s).pulses = s.pulses ∧ (applyLoop e s).analogs = s.analogs ∧
    (applyLoop e s).auxs = s.auxs ∧ (applyLoop e s).cards = s.cards ∧ (applyLoop e s).service = s.service ∧ (applyLoop e s).seqr = s.seqr ∧
    (applyLoop e s).dies = s.dies ∧ (applyLoop e s).clusters = s.clusters ∧ (applyLoop e s).integ = s.integ ∧
    (applyLoop e s).copies = s.copies ∧ (applyLoop e s).pair = s.pair ∧ (applyLoop e s).links = s.links ∧ (applyLoop e s).hall = s.hall ∧
    (applyLoop e s).buses = s.buses ∧ (applyLoop e s).frameLog = s.frameLog ∧ (applyLoop e s).power = s.power ∧
    (applyLoop e s).ptp = s.ptp ∧ (applyLoop e s).fans = s.fans ∧ (applyLoop e s).upds = s.upds ∧ (applyLoop e s).fw = s.fw ∧
    (applyLoop e s).bmu = s.bmu ∧ (applyLoop e s).mirror = s.mirror ∧ (applyLoop e s).pending = s.pending := by
  have e1 := @demand_frame
  have e2 := @heldResult_frame
  unfold applyLoop; (try dsimp only); (repeat' split) <;> simp [e1, e2]

theorem applyPosition_frame (e : Fin 16 × Nat) (s : State) :
    (applyPosition e s).now = s.now ∧ (applyPosition e s).frame = s.frame ∧ (applyPosition e s).free = s.free ∧
    (applyPosition e s).vcp = s.vcp ∧ (applyPosition e s).valves = s.valves ∧ (applyPosition e s).motors = s.motors ∧
    (applyPosition e s).senses = s.senses ∧ (applyPosition e s).pulses = s.pulses ∧ (applyPosition e s).analogs = s.analogs ∧
    (applyPosition e s).auxs = s.auxs ∧ (applyPosition e s).cards = s.cards ∧ (applyPosition e s).service = s.service ∧
    (applyPosition e s).seqr = s.seqr ∧ (applyPosition e s).dies = s.dies ∧ (applyPosition e s).clusters = s.clusters ∧
    (applyPosition e s).integ = s.integ ∧ (applyPosition e s).copies = s.copies ∧ (applyPosition e s).pair = s.pair ∧
    (applyPosition e s).links = s.links ∧ (applyPosition e s).hall = s.hall ∧ (applyPosition e s).buses = s.buses ∧
    (applyPosition e s).frameLog = s.frameLog ∧ (applyPosition e s).power = s.power ∧ (applyPosition e s).ptp = s.ptp ∧
    (applyPosition e s).fans = s.fans ∧ (applyPosition e s).upds = s.upds ∧ (applyPosition e s).fw = s.fw ∧
    (applyPosition e s).bmu = s.bmu ∧ (applyPosition e s).mirror = s.mirror ∧ (applyPosition e s).pending = s.pending := by
  have e1 := @bindLoop_frame
  have e2 := @heldRack_frame
  have e3 := @rackTarget_frame
  unfold applyPosition; (try dsimp only); (repeat' split) <;> simp [e1, e2, e3]

theorem raiseCap_frame (leaves : Time) (r cap : Nat) (s : State) :
    (raiseCap leaves r cap s).now = s.now ∧ (raiseCap leaves r cap s).frame = s.frame ∧ (raiseCap leaves r cap s).free = s.free ∧
    (raiseCap leaves r cap s).vcp = s.vcp ∧ (raiseCap leaves r cap s).plant = s.plant ∧ (raiseCap leaves r cap s).valves = s.valves ∧
    (raiseCap leaves r cap s).motors = s.motors ∧ (raiseCap leaves r cap s).senses = s.senses ∧
    (raiseCap leaves r cap s).pulses = s.pulses ∧ (raiseCap leaves r cap s).analogs = s.analogs ∧ (raiseCap leaves r cap s).auxs = s.auxs ∧
    (raiseCap leaves r cap s).cards = s.cards ∧ (raiseCap leaves r cap s).service = s.service ∧ (raiseCap leaves r cap s).seqr = s.seqr ∧
    (raiseCap leaves r cap s).dies = s.dies ∧ (raiseCap leaves r cap s).clusters = s.clusters ∧ (raiseCap leaves r cap s).integ = s.integ ∧
    (raiseCap leaves r cap s).copies = s.copies ∧ (raiseCap leaves r cap s).pair = s.pair ∧ (raiseCap leaves r cap s).links = s.links ∧
    (raiseCap leaves r cap s).hall = s.hall ∧ (raiseCap leaves r cap s).buses = s.buses ∧ (raiseCap leaves r cap s).frameLog = s.frameLog ∧
    (raiseCap leaves r cap s).power = s.power ∧ (raiseCap leaves r cap s).ptp = s.ptp ∧ (raiseCap leaves r cap s).fans = s.fans ∧
    (raiseCap leaves r cap s).upds = s.upds ∧ (raiseCap leaves r cap s).fw = s.fw ∧ (raiseCap leaves r cap s).bmu = s.bmu ∧
    (raiseCap leaves r cap s).mirror = s.mirror ∧ (raiseCap leaves r cap s).pending = s.pending := by
  have e1 := @grantSet_frame
  unfold raiseCap; (try dsimp only); (repeat' split) <;> simp [e1]

theorem askCaps_frame (want : List (Fin 16 × Nat)) (s : State) :
    (askCaps want s).now = s.now ∧ (askCaps want s).frame = s.frame ∧ (askCaps want s).free = s.free ∧ (askCaps want s).regs = s.regs ∧
    (askCaps want s).outbox = s.outbox ∧ (askCaps want s).vcp = s.vcp ∧ (askCaps want s).plant = s.plant ∧
    (askCaps want s).valves = s.valves ∧ (askCaps want s).motors = s.motors ∧ (askCaps want s).senses = s.senses ∧
    (askCaps want s).pulses = s.pulses ∧ (askCaps want s).analogs = s.analogs ∧ (askCaps want s).auxs = s.auxs ∧
    (askCaps want s).cards = s.cards ∧ (askCaps want s).service = s.service ∧ (askCaps want s).seqr = s.seqr ∧
    (askCaps want s).dies = s.dies ∧ (askCaps want s).clusters = s.clusters ∧ (askCaps want s).integ = s.integ ∧
    (askCaps want s).copies = s.copies ∧ (askCaps want s).pair = s.pair ∧ (askCaps want s).links = s.links ∧
    (askCaps want s).hall = s.hall ∧ (askCaps want s).buses = s.buses ∧ (askCaps want s).frameLog = s.frameLog ∧
    (askCaps want s).power = s.power ∧ (askCaps want s).ptp = s.ptp ∧ (askCaps want s).fans = s.fans ∧ (askCaps want s).upds = s.upds ∧
    (askCaps want s).fw = s.fw ∧ (askCaps want s).log = s.log ∧ (askCaps want s).bmu = s.bmu ∧ (askCaps want s).mirror = s.mirror ∧
    (askCaps want s).pending = s.pending := by
  unfold askCaps; (try dsimp only); (repeat' split) <;> simp

theorem engineCuts_frame (decided : Time) (want : List (Fin 16 × Nat)) (s : State) :
    (engineCuts decided want s).now = s.now ∧ (engineCuts decided want s).frame = s.frame ∧ (engineCuts decided want s).vcp = s.vcp ∧
    (engineCuts decided want s).plant = s.plant ∧ (engineCuts decided want s).valves = s.valves ∧
    (engineCuts decided want s).motors = s.motors ∧ (engineCuts decided want s).senses = s.senses ∧
    (engineCuts decided want s).pulses = s.pulses ∧ (engineCuts decided want s).analogs = s.analogs ∧
    (engineCuts decided want s).auxs = s.auxs ∧ (engineCuts decided want s).cards = s.cards ∧
    (engineCuts decided want s).service = s.service ∧ (engineCuts decided want s).seqr = s.seqr ∧
    (engineCuts decided want s).dies = s.dies ∧ (engineCuts decided want s).clusters = s.clusters ∧
    (engineCuts decided want s).integ = s.integ ∧ (engineCuts decided want s).copies = s.copies ∧
    (engineCuts decided want s).pair = s.pair ∧ (engineCuts decided want s).links = s.links ∧ (engineCuts decided want s).hall = s.hall ∧
    (engineCuts decided want s).buses = s.buses ∧ (engineCuts decided want s).frameLog = s.frameLog ∧
    (engineCuts decided want s).power = s.power ∧ (engineCuts decided want s).ptp = s.ptp ∧ (engineCuts decided want s).fans = s.fans ∧
    (engineCuts decided want s).upds = s.upds ∧ (engineCuts decided want s).fw = s.fw ∧ (engineCuts decided want s).bmu = s.bmu ∧
    (engineCuts decided want s).mirror = s.mirror ∧ (engineCuts decided want s).pending = s.pending := by
  have e1 := @lowerCap_frame
  unfold engineCuts
  dsimp only
  refine ⟨forEach_now _ _ _ ?_, forEach_frame _ _ _ ?_, forEach_vcp _ _ _ ?_, forEach_plant _ _ _ ?_, forEach_valves _ _ _ ?_, forEach_motors _ _ _ ?_, forEach_senses _ _ _ ?_, forEach_pulses _ _ _ ?_, forEach_analogs _ _ _ ?_, forEach_auxs _ _ _ ?_, forEach_cards _ _ _ ?_, forEach_service _ _ _ ?_, forEach_seqr _ _ _ ?_, forEach_dies _ _ _ ?_, forEach_clusters _ _ _ ?_, forEach_integ _ _ _ ?_, forEach_copies _ _ _ ?_, forEach_pair _ _ _ ?_, forEach_links _ _ _ ?_, forEach_hall _ _ _ ?_, forEach_buses _ _ _ ?_, forEach_frameLog _ _ _ ?_, forEach_power _ _ _ ?_, forEach_ptp _ _ _ ?_, forEach_fans _ _ _ ?_, forEach_upds _ _ _ ?_, forEach_fw _ _ _ ?_, forEach_bmu _ _ _ ?_, forEach_mirror _ _ _ ?_, forEach_pending _ _ _ ?_⟩ <;> (intro x a; (repeat' split) <;> simp [e1])

theorem engineRaises_frame (decided : Time) (want : List (Fin 16 × Nat)) (ready : List (Fin 16)) (s : State) :
    (engineRaises decided want ready s).now = s.now ∧ (engineRaises decided want ready s).frame = s.frame ∧
    (engineRaises decided want ready s).vcp = s.vcp ∧ (engineRaises decided want ready s).plant = s.plant ∧
    (engineRaises decided want ready s).valves = s.valves ∧ (engineRaises decided want ready s).motors = s.motors ∧
    (engineRaises decided want ready s).senses = s.senses ∧ (engineRaises decided want ready s).pulses = s.pulses ∧
    (engineRaises decided want ready s).analogs = s.analogs ∧ (engineRaises decided want ready s).auxs = s.auxs ∧
    (engineRaises decided want ready s).cards = s.cards ∧ (engineRaises decided want ready s).service = s.service ∧
    (engineRaises decided want ready s).seqr = s.seqr ∧ (engineRaises decided want ready s).dies = s.dies ∧
    (engineRaises decided want ready s).clusters = s.clusters ∧ (engineRaises decided want ready s).integ = s.integ ∧
    (engineRaises decided want ready s).copies = s.copies ∧ (engineRaises decided want ready s).pair = s.pair ∧
    (engineRaises decided want ready s).links = s.links ∧ (engineRaises decided want ready s).hall = s.hall ∧
    (engineRaises decided want ready s).buses = s.buses ∧ (engineRaises decided want ready s).frameLog = s.frameLog ∧
    (engineRaises decided want ready s).power = s.power ∧ (engineRaises decided want ready s).ptp = s.ptp ∧
    (engineRaises decided want ready s).fans = s.fans ∧ (engineRaises decided want ready s).upds = s.upds ∧
    (engineRaises decided want ready s).fw = s.fw ∧ (engineRaises decided want ready s).bmu = s.bmu ∧
    (engineRaises decided want ready s).mirror = s.mirror ∧ (engineRaises decided want ready s).pending = s.pending := by
  have e1 := @raiseCap_frame
  unfold engineRaises
  dsimp only
  refine ⟨forEach_now _ _ _ ?_, forEach_frame _ _ _ ?_, forEach_vcp _ _ _ ?_, forEach_plant _ _ _ ?_, forEach_valves _ _ _ ?_, forEach_motors _ _ _ ?_, forEach_senses _ _ _ ?_, forEach_pulses _ _ _ ?_, forEach_analogs _ _ _ ?_, forEach_auxs _ _ _ ?_, forEach_cards _ _ _ ?_, forEach_service _ _ _ ?_, forEach_seqr _ _ _ ?_, forEach_dies _ _ _ ?_, forEach_clusters _ _ _ ?_, forEach_integ _ _ _ ?_, forEach_copies _ _ _ ?_, forEach_pair _ _ _ ?_, forEach_links _ _ _ ?_, forEach_hall _ _ _ ?_, forEach_buses _ _ _ ?_, forEach_frameLog _ _ _ ?_, forEach_power _ _ _ ?_, forEach_ptp _ _ _ ?_, forEach_fans _ _ _ ?_, forEach_upds _ _ _ ?_, forEach_fw _ _ _ ?_, forEach_bmu _ _ _ ?_, forEach_mirror _ _ _ ?_, forEach_pending _ _ _ ?_⟩ <;> (intro x a; (repeat' split) <;> simp [e1])

theorem settleCaps_frame (s : State) :
    (settleCaps s).now = s.now ∧ (settleCaps s).frame = s.frame ∧ (settleCaps s).vcp = s.vcp ∧ (settleCaps s).plant = s.plant ∧
    (settleCaps s).valves = s.valves ∧ (settleCaps s).motors = s.motors ∧ (settleCaps s).senses = s.senses ∧
    (settleCaps s).pulses = s.pulses ∧ (settleCaps s).analogs = s.analogs ∧ (settleCaps s).auxs = s.auxs ∧ (settleCaps s).cards = s.cards ∧
    (settleCaps s).service = s.service ∧ (settleCaps s).seqr = s.seqr ∧ (settleCaps s).dies = s.dies ∧
    (settleCaps s).clusters = s.clusters ∧ (settleCaps s).integ = s.integ ∧ (settleCaps s).copies = s.copies ∧
    (settleCaps s).pair = s.pair ∧ (settleCaps s).links = s.links ∧ (settleCaps s).hall = s.hall ∧ (settleCaps s).buses = s.buses ∧
    (settleCaps s).frameLog = s.frameLog ∧ (settleCaps s).power = s.power ∧ (settleCaps s).ptp = s.ptp ∧ (settleCaps s).fans = s.fans ∧
    (settleCaps s).upds = s.upds ∧ (settleCaps s).fw = s.fw ∧ (settleCaps s).bmu = s.bmu ∧ (settleCaps s).mirror = s.mirror ∧
    (settleCaps s).pending = s.pending := by
  have e1 := @boundCut_frame
  have e2 := @engineCuts_frame
  have e3 := @engineRaises_frame
  unfold settleCaps
  dsimp only
  split
  · simp [e1, e2, e3]
  · simp (disch := (intros; (repeat' split) <;> simp [e1, e2, e3])) [e1, e2, e3]

theorem recordProv_frame (p : ProvAction) (old : Option Provisional) (s : State) :
    (recordProv p old s).now = s.now ∧ (recordProv p old s).frame = s.frame ∧ (recordProv p old s).free = s.free ∧
    (recordProv p old s).vcp = s.vcp ∧ (recordProv p old s).plant = s.plant ∧ (recordProv p old s).broker = s.broker ∧
    (recordProv p old s).valves = s.valves ∧ (recordProv p old s).motors = s.motors ∧ (recordProv p old s).senses = s.senses ∧
    (recordProv p old s).pulses = s.pulses ∧ (recordProv p old s).analogs = s.analogs ∧ (recordProv p old s).auxs = s.auxs ∧
    (recordProv p old s).cards = s.cards ∧ (recordProv p old s).service = s.service ∧ (recordProv p old s).seqr = s.seqr ∧
    (recordProv p old s).dies = s.dies ∧ (recordProv p old s).clusters = s.clusters ∧ (recordProv p old s).integ = s.integ ∧
    (recordProv p old s).copies = s.copies ∧ (recordProv p old s).pair = s.pair ∧ (recordProv p old s).links = s.links ∧
    (recordProv p old s).hall = s.hall ∧ (recordProv p old s).buses = s.buses ∧ (recordProv p old s).frameLog = s.frameLog ∧
    (recordProv p old s).power = s.power ∧ (recordProv p old s).ptp = s.ptp ∧ (recordProv p old s).fans = s.fans ∧
    (recordProv p old s).upds = s.upds ∧ (recordProv p old s).fw = s.fw ∧ (recordProv p old s).bmu = s.bmu ∧
    (recordProv p old s).mirror = s.mirror ∧ (recordProv p old s).pending = s.pending := by
  unfold recordProv; (try dsimp only); (repeat' split) <;> simp

theorem storeProv_frame (p : ProvAction) (old : Option Provisional) (fresh : BitVec 16) (s : State) :
    (storeProv p old fresh s).now = s.now ∧ (storeProv p old fresh s).frame = s.frame ∧ (storeProv p old fresh s).free = s.free ∧
    (storeProv p old fresh s).regs = s.regs ∧ (storeProv p old fresh s).outbox = s.outbox ∧ (storeProv p old fresh s).vcp = s.vcp ∧
    (storeProv p old fresh s).plant = s.plant ∧ (storeProv p old fresh s).valves = s.valves ∧ (storeProv p old fresh s).motors = s.motors ∧
    (storeProv p old fresh s).senses = s.senses ∧ (storeProv p old fresh s).pulses = s.pulses ∧
    (storeProv p old fresh s).analogs = s.analogs ∧ (storeProv p old fresh s).auxs = s.auxs ∧ (storeProv p old fresh s).cards = s.cards ∧
    (storeProv p old fresh s).service = s.service ∧ (storeProv p old fresh s).seqr = s.seqr ∧ (storeProv p old fresh s).dies = s.dies ∧
    (storeProv p old fresh s).clusters = s.clusters ∧ (storeProv p old fresh s).integ = s.integ ∧
    (storeProv p old fresh s).copies = s.copies ∧ (storeProv p old fresh s).pair = s.pair ∧ (storeProv p old fresh s).links = s.links ∧
    (storeProv p old fresh s).hall = s.hall ∧ (storeProv p old fresh s).buses = s.buses ∧ (storeProv p old fresh s).frameLog = s.frameLog ∧
    (storeProv p old fresh s).power = s.power ∧ (storeProv p old fresh s).ptp = s.ptp ∧ (storeProv p old fresh s).fans = s.fans ∧
    (storeProv p old fresh s).upds = s.upds ∧ (storeProv p old fresh s).fw = s.fw ∧ (storeProv p old fresh s).log = s.log ∧
    (storeProv p old fresh s).bmu = s.bmu ∧ (storeProv p old fresh s).mirror = s.mirror ∧
    (storeProv p old fresh s).pending = s.pending := by
  unfold storeProv; (try dsimp only); (repeat' split) <;> simp

theorem actRack_frame (p : ProvAction) (r : Nat) (s : State) :
    (actRack p r s).now = s.now ∧ (actRack p r s).frame = s.frame ∧ (actRack p r s).free = s.free ∧ (actRack p r s).vcp = s.vcp ∧
    (actRack p r s).plant = s.plant ∧ (actRack p r s).valves = s.valves ∧ (actRack p r s).motors = s.motors ∧
    (actRack p r s).senses = s.senses ∧ (actRack p r s).pulses = s.pulses ∧ (actRack p r s).analogs = s.analogs ∧
    (actRack p r s).auxs = s.auxs ∧ (actRack p r s).cards = s.cards ∧ (actRack p r s).service = s.service ∧ (actRack p r s).seqr = s.seqr ∧
    (actRack p r s).dies = s.dies ∧ (actRack p r s).clusters = s.clusters ∧ (actRack p r s).integ = s.integ ∧
    (actRack p r s).copies = s.copies ∧ (actRack p r s).pair = s.pair ∧ (actRack p r s).links = s.links ∧ (actRack p r s).hall = s.hall ∧
    (actRack p r s).buses = s.buses ∧ (actRack p r s).frameLog = s.frameLog ∧ (actRack p r s).power = s.power ∧
    (actRack p r s).ptp = s.ptp ∧ (actRack p r s).fans = s.fans ∧ (actRack p r s).upds = s.upds ∧ (actRack p r s).fw = s.fw ∧
    (actRack p r s).bmu = s.bmu ∧ (actRack p r s).mirror = s.mirror ∧ (actRack p r s).pending = s.pending := by
  have e1 := @rackTarget_frame
  unfold actRack; (try dsimp only); (repeat' split) <;> simp [e1]

theorem actProv_frame (p : ProvAction) (old : Option Provisional) (s : State) :
    (actProv p old s).now = s.now ∧ (actProv p old s).frame = s.frame ∧ (actProv p old s).free = s.free ∧
    (actProv p old s).valves = s.valves ∧ (actProv p old s).senses = s.senses ∧ (actProv p old s).pulses = s.pulses ∧
    (actProv p old s).analogs = s.analogs ∧ (actProv p old s).auxs = s.auxs ∧ (actProv p old s).cards = s.cards ∧
    (actProv p old s).service = s.service ∧ (actProv p old s).seqr = s.seqr ∧ (actProv p old s).dies = s.dies ∧
    (actProv p old s).clusters = s.clusters ∧ (actProv p old s).integ = s.integ ∧ (actProv p old s).copies = s.copies ∧
    (actProv p old s).pair = s.pair ∧ (actProv p old s).links = s.links ∧ (actProv p old s).hall = s.hall ∧
    (actProv p old s).buses = s.buses ∧ (actProv p old s).frameLog = s.frameLog ∧ (actProv p old s).power = s.power ∧
    (actProv p old s).ptp = s.ptp ∧ (actProv p old s).fans = s.fans ∧ (actProv p old s).upds = s.upds ∧ (actProv p old s).fw = s.fw ∧
    (actProv p old s).bmu = s.bmu ∧ (actProv p old s).mirror = s.mirror ∧ (actProv p old s).pending = s.pending := by
  have e1 := @bindLoop_frame
  have e2 := @actRack_frame
  have e3 := @markStaged_frame
  have e4 := @stageUp_frame
  unfold actProv; (try dsimp only); (repeat' split) <;> simp [e1, e2, e3, e4]

theorem noticeProv_frame (p : ProvAction) (fresh : BitVec 16) (s : State) :
    (noticeProv p fresh s).now = s.now ∧ (noticeProv p fresh s).frame = s.frame ∧ (noticeProv p fresh s).vcp = s.vcp ∧
    (noticeProv p fresh s).plant = s.plant ∧ (noticeProv p fresh s).valves = s.valves ∧ (noticeProv p fresh s).motors = s.motors ∧
    (noticeProv p fresh s).senses = s.senses ∧ (noticeProv p fresh s).pulses = s.pulses ∧ (noticeProv p fresh s).analogs = s.analogs ∧
    (noticeProv p fresh s).auxs = s.auxs ∧ (noticeProv p fresh s).cards = s.cards ∧ (noticeProv p fresh s).service = s.service ∧
    (noticeProv p fresh s).seqr = s.seqr ∧ (noticeProv p fresh s).dies = s.dies ∧ (noticeProv p fresh s).clusters = s.clusters ∧
    (noticeProv p fresh s).integ = s.integ ∧ (noticeProv p fresh s).copies = s.copies ∧ (noticeProv p fresh s).pair = s.pair ∧
    (noticeProv p fresh s).links = s.links ∧ (noticeProv p fresh s).hall = s.hall ∧ (noticeProv p fresh s).buses = s.buses ∧
    (noticeProv p fresh s).frameLog = s.frameLog ∧ (noticeProv p fresh s).power = s.power ∧ (noticeProv p fresh s).ptp = s.ptp ∧
    (noticeProv p fresh s).fans = s.fans ∧ (noticeProv p fresh s).upds = s.upds ∧ (noticeProv p fresh s).fw = s.fw ∧
    (noticeProv p fresh s).bmu = s.bmu ∧ (noticeProv p fresh s).mirror = s.mirror ∧ (noticeProv p fresh s).pending = s.pending := by
  have e1 := @sendGrant_frame
  unfold noticeProv; (try dsimp only); (repeat' split) <;> simp [e1]

theorem applyProv_frame (p : ProvAction) (s : State) :
    (applyProv p s).now = s.now ∧ (applyProv p s).frame = s.frame ∧ (applyProv p s).valves = s.valves ∧ (applyProv p s).senses = s.senses ∧
    (applyProv p s).pulses = s.pulses ∧ (applyProv p s).analogs = s.analogs ∧ (applyProv p s).auxs = s.auxs ∧
    (applyProv p s).cards = s.cards ∧ (applyProv p s).service = s.service ∧ (applyProv p s).seqr = s.seqr ∧ (applyProv p s).dies = s.dies ∧
    (applyProv p s).clusters = s.clusters ∧ (applyProv p s).integ = s.integ ∧ (applyProv p s).copies = s.copies ∧
    (applyProv p s).pair = s.pair ∧ (applyProv p s).links = s.links ∧ (applyProv p s).hall = s.hall ∧ (applyProv p s).buses = s.buses ∧
    (applyProv p s).frameLog = s.frameLog ∧ (applyProv p s).power = s.power ∧ (applyProv p s).ptp = s.ptp ∧ (applyProv p s).fans = s.fans ∧
    (applyProv p s).upds = s.upds ∧ (applyProv p s).fw = s.fw ∧ (applyProv p s).bmu = s.bmu ∧ (applyProv p s).mirror = s.mirror ∧
    (applyProv p s).pending = s.pending := by
  have e1 := @recordProv_frame
  have e2 := @actProv_frame
  have e3 := @storeProv_frame
  have e4 := @noticeProv_frame
  unfold applyProv; (try dsimp only); (repeat' split) <;> simp [e1, e2, e3, e4]

theorem applyUnserved_frame (e : Fin 5 × Nat) (s : State) :
    (applyUnserved e s).now = s.now ∧ (applyUnserved e s).frame = s.frame ∧ (applyUnserved e s).free = s.free ∧
    (applyUnserved e s).regs = s.regs ∧ (applyUnserved e s).outbox = s.outbox ∧ (applyUnserved e s).vcp = s.vcp ∧
    (applyUnserved e s).broker = s.broker ∧ (applyUnserved e s).valves = s.valves ∧ (applyUnserved e s).motors = s.motors ∧
    (applyUnserved e s).senses = s.senses ∧ (applyUnserved e s).pulses = s.pulses ∧ (applyUnserved e s).analogs = s.analogs ∧
    (applyUnserved e s).auxs = s.auxs ∧ (applyUnserved e s).cards = s.cards ∧ (applyUnserved e s).service = s.service ∧
    (applyUnserved e s).seqr = s.seqr ∧ (applyUnserved e s).dies = s.dies ∧ (applyUnserved e s).clusters = s.clusters ∧
    (applyUnserved e s).integ = s.integ ∧ (applyUnserved e s).copies = s.copies ∧ (applyUnserved e s).pair = s.pair ∧
    (applyUnserved e s).links = s.links ∧ (applyUnserved e s).hall = s.hall ∧ (applyUnserved e s).buses = s.buses ∧
    (applyUnserved e s).frameLog = s.frameLog ∧ (applyUnserved e s).power = s.power ∧ (applyUnserved e s).ptp = s.ptp ∧
    (applyUnserved e s).fans = s.fans ∧ (applyUnserved e s).upds = s.upds ∧ (applyUnserved e s).fw = s.fw ∧
    (applyUnserved e s).log = s.log ∧ (applyUnserved e s).bmu = s.bmu ∧ (applyUnserved e s).mirror = s.mirror ∧
    (applyUnserved e s).pending = s.pending := by
  unfold applyUnserved; (try dsimp only); (repeat' split) <;> simp

theorem applyOut_frame (o : EngineOut) (s : State) :
    (applyOut o s).now = s.now ∧ (applyOut o s).frame = s.frame ∧ (applyOut o s).valves = s.valves ∧ (applyOut o s).senses = s.senses ∧
    (applyOut o s).pulses = s.pulses ∧ (applyOut o s).analogs = s.analogs ∧ (applyOut o s).auxs = s.auxs ∧ (applyOut o s).cards = s.cards ∧
    (applyOut o s).service = s.service ∧ (applyOut o s).seqr = s.seqr ∧ (applyOut o s).dies = s.dies ∧
    (applyOut o s).clusters = s.clusters ∧ (applyOut o s).integ = s.integ ∧ (applyOut o s).copies = s.copies ∧
    (applyOut o s).pair = s.pair ∧ (applyOut o s).links = s.links ∧ (applyOut o s).hall = s.hall ∧ (applyOut o s).buses = s.buses ∧
    (applyOut o s).frameLog = s.frameLog ∧ (applyOut o s).power = s.power ∧ (applyOut o s).ptp = s.ptp ∧ (applyOut o s).fans = s.fans ∧
    (applyOut o s).upds = s.upds ∧ (applyOut o s).fw = s.fw ∧ (applyOut o s).bmu = s.bmu ∧ (applyOut o s).mirror = s.mirror ∧
    (applyOut o s).pending = s.pending := by
  have e1 := @applyLoop_frame
  have e2 := @applyPosition_frame
  have e3 := @applyUnserved_frame
  have e4 := @revokeRa_frame
  have e5 := @askCaps_frame
  have e6 := @applyProv_frame
  unfold applyOut; (try dsimp only); (repeat' split) <;> simp [e1, e2, e3, e4, e5, e6]

theorem withhold_frame (r : LegRec) (s : State) :
    (withhold r s).now = s.now ∧ (withhold r s).frame = s.frame ∧ (withhold r s).free = s.free ∧ (withhold r s).outbox = s.outbox ∧
    (withhold r s).vcp = s.vcp ∧ (withhold r s).valves = s.valves ∧ (withhold r s).motors = s.motors ∧ (withhold r s).senses = s.senses ∧
    (withhold r s).pulses = s.pulses ∧ (withhold r s).analogs = s.analogs ∧ (withhold r s).auxs = s.auxs ∧ (withhold r s).cards = s.cards ∧
    (withhold r s).service = s.service ∧ (withhold r s).dies = s.dies ∧ (withhold r s).clusters = s.clusters ∧
    (withhold r s).integ = s.integ ∧ (withhold r s).copies = s.copies ∧ (withhold r s).pair = s.pair ∧ (withhold r s).links = s.links ∧
    (withhold r s).hall = s.hall ∧ (withhold r s).buses = s.buses ∧ (withhold r s).frameLog = s.frameLog ∧ (withhold r s).power = s.power ∧
    (withhold r s).ptp = s.ptp ∧ (withhold r s).fans = s.fans ∧ (withhold r s).upds = s.upds ∧ (withhold r s).fw = s.fw ∧
    (withhold r s).log = s.log ∧ (withhold r s).bmu = s.bmu ∧ (withhold r s).mirror = s.mirror ∧ (withhold r s).pending = s.pending := by
  have e1 := @setLeg_frame
  have e2 := @holdOutputs_frame
  unfold withhold; (try dsimp only); (repeat' split) <;> simp [e1, e2]

theorem releaseLeg_frame (r : LegRec) (s : State) :
    (releaseLeg r s).now = s.now ∧ (releaseLeg r s).frame = s.frame ∧ (releaseLeg r s).valves = s.valves ∧
    (releaseLeg r s).senses = s.senses ∧ (releaseLeg r s).pulses = s.pulses ∧ (releaseLeg r s).analogs = s.analogs ∧
    (releaseLeg r s).auxs = s.auxs ∧ (releaseLeg r s).cards = s.cards ∧ (releaseLeg r s).service = s.service ∧
    (releaseLeg r s).dies = s.dies ∧ (releaseLeg r s).clusters = s.clusters ∧ (releaseLeg r s).integ = s.integ ∧
    (releaseLeg r s).copies = s.copies ∧ (releaseLeg r s).pair = s.pair ∧ (releaseLeg r s).links = s.links ∧
    (releaseLeg r s).hall = s.hall ∧ (releaseLeg r s).buses = s.buses ∧ (releaseLeg r s).frameLog = s.frameLog ∧
    (releaseLeg r s).power = s.power ∧ (releaseLeg r s).ptp = s.ptp ∧ (releaseLeg r s).fans = s.fans ∧ (releaseLeg r s).upds = s.upds ∧
    (releaseLeg r s).fw = s.fw ∧ (releaseLeg r s).bmu = s.bmu ∧ (releaseLeg r s).mirror = s.mirror ∧
    (releaseLeg r s).pending = s.pending := by
  have e1 := @setLeg_frame
  have e2 := @commitStaging_frame
  have e3 := @applyOut_frame
  unfold releaseLeg; (try dsimp only); (repeat' split) <;> simp [e1, e2, e3]

theorem releaseDue_frame (r : LegRec) (s : State) :
    (releaseDue r s).now = s.now ∧ (releaseDue r s).frame = s.frame ∧ (releaseDue r s).valves = s.valves ∧
    (releaseDue r s).senses = s.senses ∧ (releaseDue r s).pulses = s.pulses ∧ (releaseDue r s).analogs = s.analogs ∧
    (releaseDue r s).auxs = s.auxs ∧ (releaseDue r s).cards = s.cards ∧ (releaseDue r s).service = s.service ∧
    (releaseDue r s).dies = s.dies ∧ (releaseDue r s).clusters = s.clusters ∧ (releaseDue r s).integ = s.integ ∧
    (releaseDue r s).copies = s.copies ∧ (releaseDue r s).pair = s.pair ∧ (releaseDue r s).links = s.links ∧
    (releaseDue r s).hall = s.hall ∧ (releaseDue r s).buses = s.buses ∧ (releaseDue r s).frameLog = s.frameLog ∧
    (releaseDue r s).power = s.power ∧ (releaseDue r s).ptp = s.ptp ∧ (releaseDue r s).fans = s.fans ∧ (releaseDue r s).upds = s.upds ∧
    (releaseDue r s).fw = s.fw ∧ (releaseDue r s).bmu = s.bmu ∧ (releaseDue r s).mirror = s.mirror ∧
    (releaseDue r s).pending = s.pending := by
  have e1 := @releaseLeg_frame
  have e2 := @withhold_frame
  unfold releaseDue; (try dsimp only); (repeat' split) <;> simp [e1, e2]

theorem issueCopies_frame (start : Time) (l : List (Nat × CopyDesc)) (s : State) :
    (issueCopies start l s).now = s.now ∧ (issueCopies start l s).frame = s.frame ∧ (issueCopies start l s).free = s.free ∧
    (issueCopies start l s).outbox = s.outbox ∧ (issueCopies start l s).vcp = s.vcp ∧ (issueCopies start l s).plant = s.plant ∧
    (issueCopies start l s).broker = s.broker ∧ (issueCopies start l s).valves = s.valves ∧ (issueCopies start l s).motors = s.motors ∧
    (issueCopies start l s).senses = s.senses ∧ (issueCopies start l s).pulses = s.pulses ∧ (issueCopies start l s).analogs = s.analogs ∧
    (issueCopies start l s).auxs = s.auxs ∧ (issueCopies start l s).cards = s.cards ∧ (issueCopies start l s).service = s.service ∧
    (issueCopies start l s).seqr = s.seqr ∧ (issueCopies start l s).dies = s.dies ∧ (issueCopies start l s).clusters = s.clusters ∧
    (issueCopies start l s).integ = s.integ ∧ (issueCopies start l s).pair = s.pair ∧ (issueCopies start l s).links = s.links ∧
    (issueCopies start l s).hall = s.hall ∧ (issueCopies start l s).buses = s.buses ∧ (issueCopies start l s).frameLog = s.frameLog ∧
    (issueCopies start l s).power = s.power ∧ (issueCopies start l s).ptp = s.ptp ∧ (issueCopies start l s).fans = s.fans ∧
    (issueCopies start l s).upds = s.upds ∧ (issueCopies start l s).log = s.log ∧ (issueCopies start l s).bmu = s.bmu ∧
    (issueCopies start l s).mirror = s.mirror ∧ (issueCopies start l s).pending = s.pending := by
  have e1 := @copyEvent_frame
  unfold issueCopies
  dsimp only
  simp (disch := (intros; (repeat' split) <;> simp [e1])) [e1]

theorem fansFor_frame (phase : Nat) (s : State) :
    (fansFor phase s).now = s.now ∧ (fansFor phase s).frame = s.frame ∧ (fansFor phase s).regs = s.regs ∧
    (fansFor phase s).outbox = s.outbox ∧ (fansFor phase s).vcp = s.vcp ∧ (fansFor phase s).plant = s.plant ∧
    (fansFor phase s).broker = s.broker ∧ (fansFor phase s).valves = s.valves ∧ (fansFor phase s).motors = s.motors ∧
    (fansFor phase s).senses = s.senses ∧ (fansFor phase s).pulses = s.pulses ∧ (fansFor phase s).analogs = s.analogs ∧
    (fansFor phase s).auxs = s.auxs ∧ (fansFor phase s).cards = s.cards ∧ (fansFor phase s).service = s.service ∧
    (fansFor phase s).seqr = s.seqr ∧ (fansFor phase s).dies = s.dies ∧ (fansFor phase s).clusters = s.clusters ∧
    (fansFor phase s).integ = s.integ ∧ (fansFor phase s).copies = s.copies ∧ (fansFor phase s).pair = s.pair ∧
    (fansFor phase s).links = s.links ∧ (fansFor phase s).hall = s.hall ∧ (fansFor phase s).buses = s.buses ∧
    (fansFor phase s).frameLog = s.frameLog ∧ (fansFor phase s).power = s.power ∧ (fansFor phase s).ptp = s.ptp ∧
    (fansFor phase s).upds = s.upds ∧ (fansFor phase s).fw = s.fw ∧ (fansFor phase s).log = s.log ∧ (fansFor phase s).bmu = s.bmu ∧
    (fansFor phase s).mirror = s.mirror ∧ (fansFor phase s).pending = s.pending := by
  unfold fansFor; (try dsimp only); (repeat' split) <;> simp

theorem fansStarting_frame (s : State) :
    (fansStarting s).now = s.now ∧ (fansStarting s).frame = s.frame ∧ (fansStarting s).free = s.free ∧ (fansStarting s).regs = s.regs ∧
    (fansStarting s).outbox = s.outbox ∧ (fansStarting s).vcp = s.vcp ∧ (fansStarting s).plant = s.plant ∧
    (fansStarting s).broker = s.broker ∧ (fansStarting s).valves = s.valves ∧ (fansStarting s).motors = s.motors ∧
    (fansStarting s).senses = s.senses ∧ (fansStarting s).pulses = s.pulses ∧ (fansStarting s).analogs = s.analogs ∧
    (fansStarting s).auxs = s.auxs ∧ (fansStarting s).cards = s.cards ∧ (fansStarting s).service = s.service ∧
    (fansStarting s).seqr = s.seqr ∧ (fansStarting s).dies = s.dies ∧ (fansStarting s).clusters = s.clusters ∧
    (fansStarting s).integ = s.integ ∧ (fansStarting s).copies = s.copies ∧ (fansStarting s).pair = s.pair ∧
    (fansStarting s).links = s.links ∧ (fansStarting s).hall = s.hall ∧ (fansStarting s).buses = s.buses ∧
    (fansStarting s).frameLog = s.frameLog ∧ (fansStarting s).power = s.power ∧ (fansStarting s).ptp = s.ptp ∧
    (fansStarting s).upds = s.upds ∧ (fansStarting s).fw = s.fw ∧ (fansStarting s).log = s.log ∧ (fansStarting s).bmu = s.bmu ∧
    (fansStarting s).mirror = s.mirror ∧ (fansStarting s).pending = s.pending := by
  unfold fansStarting; (try dsimp only); (repeat' split) <;> simp

theorem writeCkpt_frame (n start next : Nat) (r : LegRec) (s : State) :
    (writeCkpt n start next r s).now = s.now ∧ (writeCkpt n start next r s).frame = s.frame ∧ (writeCkpt n start next r s).free = s.free ∧
    (writeCkpt n start next r s).regs = s.regs ∧ (writeCkpt n start next r s).outbox = s.outbox ∧ (writeCkpt n start next r s).vcp = s.vcp ∧
    (writeCkpt n start next r s).plant = s.plant ∧ (writeCkpt n start next r s).broker = s.broker ∧
    (writeCkpt n start next r s).valves = s.valves ∧ (writeCkpt n start next r s).motors = s.motors ∧
    (writeCkpt n start next r s).senses = s.senses ∧ (writeCkpt n start next r s).pulses = s.pulses ∧
    (writeCkpt n start next r s).analogs = s.analogs ∧ (writeCkpt n start next r s).auxs = s.auxs ∧
    (writeCkpt n start next r s).cards = s.cards ∧ (writeCkpt n start next r s).service = s.service ∧
    (writeCkpt n start next r s).dies = s.dies ∧ (writeCkpt n start next r s).clusters = s.clusters ∧
    (writeCkpt n start next r s).integ = s.integ ∧ (writeCkpt n start next r s).copies = s.copies ∧
    (writeCkpt n start next r s).pair = s.pair ∧ (writeCkpt n start next r s).links = s.links ∧ (writeCkpt n start next r s).hall = s.hall ∧
    (writeCkpt n start next r s).buses = s.buses ∧ (writeCkpt n start next r s).frameLog = s.frameLog ∧
    (writeCkpt n start next r s).power = s.power ∧ (writeCkpt n start next r s).ptp = s.ptp ∧ (writeCkpt n start next r s).fans = s.fans ∧
    (writeCkpt n start next r s).upds = s.upds ∧ (writeCkpt n start next r s).fw = s.fw ∧ (writeCkpt n start next r s).log = s.log ∧
    (writeCkpt n start next r s).bmu = s.bmu ∧ (writeCkpt n start next r s).mirror = s.mirror ∧
    (writeCkpt n start next r s).pending = s.pending := by
  unfold writeCkpt; (try dsimp only); (repeat' split) <;> simp

theorem legStrobe_frame (s : State) :
    (legStrobe s).now = s.now ∧ (legStrobe s).frame = s.frame ∧ (legStrobe s).free = s.free ∧ (legStrobe s).regs = s.regs ∧
    (legStrobe s).vcp = s.vcp ∧ (legStrobe s).plant = s.plant ∧ (legStrobe s).broker = s.broker ∧ (legStrobe s).valves = s.valves ∧
    (legStrobe s).motors = s.motors ∧ (legStrobe s).senses = s.senses ∧ (legStrobe s).pulses = s.pulses ∧
    (legStrobe s).analogs = s.analogs ∧ (legStrobe s).auxs = s.auxs ∧ (legStrobe s).cards = s.cards ∧ (legStrobe s).service = s.service ∧
    (legStrobe s).seqr = s.seqr ∧ (legStrobe s).dies = s.dies ∧ (legStrobe s).clusters = s.clusters ∧ (legStrobe s).integ = s.integ ∧
    (legStrobe s).copies = s.copies ∧ (legStrobe s).pair = s.pair ∧ (legStrobe s).links = s.links ∧ (legStrobe s).hall = s.hall ∧
    (legStrobe s).buses = s.buses ∧ (legStrobe s).frameLog = s.frameLog ∧ (legStrobe s).power = s.power ∧ (legStrobe s).ptp = s.ptp ∧
    (legStrobe s).fans = s.fans ∧ (legStrobe s).upds = s.upds ∧ (legStrobe s).fw = s.fw ∧ (legStrobe s).log = s.log ∧
    (legStrobe s).bmu = s.bmu ∧ (legStrobe s).mirror = s.mirror ∧ (legStrobe s).pending = s.pending := by
  unfold legStrobe; (try dsimp only); (repeat' split) <;> simp

theorem sendLegDigest_frame (r : LegRec) (s : State) :
    (sendLegDigest r s).now = s.now ∧ (sendLegDigest r s).frame = s.frame ∧ (sendLegDigest r s).free = s.free ∧
    (sendLegDigest r s).regs = s.regs ∧ (sendLegDigest r s).vcp = s.vcp ∧ (sendLegDigest r s).plant = s.plant ∧
    (sendLegDigest r s).broker = s.broker ∧ (sendLegDigest r s).valves = s.valves ∧ (sendLegDigest r s).motors = s.motors ∧
    (sendLegDigest r s).senses = s.senses ∧ (sendLegDigest r s).pulses = s.pulses ∧ (sendLegDigest r s).analogs = s.analogs ∧
    (sendLegDigest r s).auxs = s.auxs ∧ (sendLegDigest r s).cards = s.cards ∧ (sendLegDigest r s).service = s.service ∧
    (sendLegDigest r s).seqr = s.seqr ∧ (sendLegDigest r s).dies = s.dies ∧ (sendLegDigest r s).clusters = s.clusters ∧
    (sendLegDigest r s).integ = s.integ ∧ (sendLegDigest r s).copies = s.copies ∧ (sendLegDigest r s).pair = s.pair ∧
    (sendLegDigest r s).buses = s.buses ∧ (sendLegDigest r s).frameLog = s.frameLog ∧ (sendLegDigest r s).power = s.power ∧
    (sendLegDigest r s).ptp = s.ptp ∧ (sendLegDigest r s).fans = s.fans ∧ (sendLegDigest r s).upds = s.upds ∧
    (sendLegDigest r s).fw = s.fw ∧ (sendLegDigest r s).log = s.log ∧ (sendLegDigest r s).bmu = s.bmu ∧
    (sendLegDigest r s).mirror = s.mirror ∧ (sendLegDigest r s).pending = s.pending := by
  unfold sendLegDigest; (try dsimp only); (repeat' split) <;> simp

theorem beginLeg_frame (n start phase : Nat) (first restored : Bool) (out : EngineOut) (w : LegWork) (s : State) :
    (beginLeg n start phase first restored out w s).now = s.now ∧ (beginLeg n start phase first restored out w s).frame = s.frame ∧
    (beginLeg n start phase first restored out w s).vcp = s.vcp ∧ (beginLeg n start phase first restored out w s).plant = s.plant ∧
    (beginLeg n start phase first restored out w s).broker = s.broker ∧ (beginLeg n start phase first restored out w s).valves = s.valves ∧
    (beginLeg n start phase first restored out w s).motors = s.motors ∧ (beginLeg n start phase first restored out w s).senses = s.senses ∧
    (beginLeg n start phase first restored out w s).pulses = s.pulses ∧
    (beginLeg n start phase first restored out w s).analogs = s.analogs ∧ (beginLeg n start phase first restored out w s).auxs = s.auxs ∧
    (beginLeg n start phase first restored out w s).cards = s.cards ∧ (beginLeg n start phase first restored out w s).service = s.service ∧
    (beginLeg n start phase first restored out w s).clusters = s.clusters ∧
    (beginLeg n start phase first restored out w s).integ = s.integ ∧ (beginLeg n start phase first restored out w s).pair = s.pair ∧
    (beginLeg n start phase first restored out w s).buses = s.buses ∧
    (beginLeg n start phase first restored out w s).frameLog = s.frameLog ∧
    (beginLeg n start phase first restored out w s).power = s.power ∧ (beginLeg n start phase first restored out w s).ptp = s.ptp ∧
    (beginLeg n start phase first restored out w s).upds = s.upds ∧ (beginLeg n start phase first restored out w s).log = s.log ∧
    (beginLeg n start phase first restored out w s).bmu = s.bmu ∧ (beginLeg n start phase first restored out w s).mirror = s.mirror ∧
    (beginLeg n start phase first restored out w s).pending = s.pending := by
  have e1 := @setDies_frame
  have e2 := @writeCkpt_frame
  have e3 := @issueCopies_frame
  have e4 := @endScheduled_frame
  have e5 := @sendLegDigest_frame
  have e6 := @legStrobe_frame
  have e7 := @fansFor_frame
  unfold beginLeg; (try dsimp only); (repeat' split) <;> simp [e1, e2, e3, e4, e5, e6, e7]

theorem endRotation_frame (s : State) :
    (endRotation s).now = s.now ∧ (endRotation s).frame = s.frame ∧ (endRotation s).free = s.free ∧ (endRotation s).outbox = s.outbox ∧
    (endRotation s).vcp = s.vcp ∧ (endRotation s).plant = s.plant ∧ (endRotation s).broker = s.broker ∧ (endRotation s).valves = s.valves ∧
    (endRotation s).motors = s.motors ∧ (endRotation s).senses = s.senses ∧ (endRotation s).pulses = s.pulses ∧
    (endRotation s).analogs = s.analogs ∧ (endRotation s).auxs = s.auxs ∧ (endRotation s).cards = s.cards ∧
    (endRotation s).service = s.service ∧ (endRotation s).dies = s.dies ∧ (endRotation s).clusters = s.clusters ∧
    (endRotation s).integ = s.integ ∧ (endRotation s).copies = s.copies ∧ (endRotation s).pair = s.pair ∧ (endRotation s).links = s.links ∧
    (endRotation s).hall = s.hall ∧ (endRotation s).buses = s.buses ∧ (endRotation s).frameLog = s.frameLog ∧
    (endRotation s).power = s.power ∧ (endRotation s).ptp = s.ptp ∧ (endRotation s).fans = s.fans ∧ (endRotation s).upds = s.upds ∧
    (endRotation s).fw = s.fw ∧ (endRotation s).log = s.log ∧ (endRotation s).bmu = s.bmu ∧ (endRotation s).mirror = s.mirror ∧
    (endRotation s).pending = s.pending := by
  unfold endRotation; (try dsimp only); (repeat' split) <;> simp

theorem previewsAtBoundary_frame (s : State) :
    (previewsAtBoundary s).now = s.now ∧ (previewsAtBoundary s).frame = s.frame ∧ (previewsAtBoundary s).free = s.free ∧
    (previewsAtBoundary s).regs = s.regs ∧ (previewsAtBoundary s).outbox = s.outbox ∧ (previewsAtBoundary s).vcp = s.vcp ∧
    (previewsAtBoundary s).plant = s.plant ∧ (previewsAtBoundary s).valves = s.valves ∧ (previewsAtBoundary s).motors = s.motors ∧
    (previewsAtBoundary s).senses = s.senses ∧ (previewsAtBoundary s).pulses = s.pulses ∧ (previewsAtBoundary s).analogs = s.analogs ∧
    (previewsAtBoundary s).auxs = s.auxs ∧ (previewsAtBoundary s).cards = s.cards ∧ (previewsAtBoundary s).service = s.service ∧
    (previewsAtBoundary s).seqr = s.seqr ∧ (previewsAtBoundary s).dies = s.dies ∧ (previewsAtBoundary s).clusters = s.clusters ∧
    (previewsAtBoundary s).integ = s.integ ∧ (previewsAtBoundary s).copies = s.copies ∧ (previewsAtBoundary s).pair = s.pair ∧
    (previewsAtBoundary s).links = s.links ∧ (previewsAtBoundary s).hall = s.hall ∧ (previewsAtBoundary s).buses = s.buses ∧
    (previewsAtBoundary s).frameLog = s.frameLog ∧ (previewsAtBoundary s).power = s.power ∧ (previewsAtBoundary s).ptp = s.ptp ∧
    (previewsAtBoundary s).fans = s.fans ∧ (previewsAtBoundary s).upds = s.upds ∧ (previewsAtBoundary s).fw = s.fw ∧
    (previewsAtBoundary s).log = s.log ∧ (previewsAtBoundary s).bmu = s.bmu ∧ (previewsAtBoundary s).mirror = s.mirror ∧
    (previewsAtBoundary s).pending = s.pending := by
  unfold previewsAtBoundary; (try dsimp only); (repeat' split) <;> simp

theorem boundaryWork_frame (s : State) :
    (boundaryWork s).now = s.now ∧ (boundaryWork s).frame = s.frame ∧ (boundaryWork s).valves = s.valves ∧
    (boundaryWork s).motors = s.motors ∧ (boundaryWork s).senses = s.senses ∧ (boundaryWork s).pulses = s.pulses ∧
    (boundaryWork s).analogs = s.analogs ∧ (boundaryWork s).auxs = s.auxs ∧ (boundaryWork s).cards = s.cards ∧
    (boundaryWork s).service = s.service ∧ (boundaryWork s).seqr = s.seqr ∧ (boundaryWork s).dies = s.dies ∧
    (boundaryWork s).clusters = s.clusters ∧ (boundaryWork s).integ = s.integ ∧ (boundaryWork s).copies = s.copies ∧
    (boundaryWork s).pair = s.pair ∧ (boundaryWork s).links = s.links ∧ (boundaryWork s).hall = s.hall ∧ (boundaryWork s).buses = s.buses ∧
    (boundaryWork s).frameLog = s.frameLog ∧ (boundaryWork s).power = s.power ∧ (boundaryWork s).ptp = s.ptp ∧
    (boundaryWork s).fans = s.fans ∧ (boundaryWork s).upds = s.upds ∧ (boundaryWork s).fw = s.fw ∧ (boundaryWork s).bmu = s.bmu ∧
    (boundaryWork s).mirror = s.mirror ∧ (boundaryWork s).pending = s.pending := by
  have e1 := @applyBands_frame
  have e2 := @previewsAtBoundary_frame
  have e3 := @applyCtrl_frame
  have e4 := @removeProv_frame
  unfold boundaryWork; (try dsimp only); (repeat' split) <;> simp [e1, e2, e3, e4]

theorem startLoad_frame (bank : Nat) (o : Option Origin) (s : State) :
    (startLoad bank o s).now = s.now ∧ (startLoad bank o s).frame = s.frame ∧ (startLoad bank o s).free = s.free ∧
    (startLoad bank o s).regs = s.regs ∧ (startLoad bank o s).outbox = s.outbox ∧ (startLoad bank o s).vcp = s.vcp ∧
    (startLoad bank o s).plant = s.plant ∧ (startLoad bank o s).broker = s.broker ∧ (startLoad bank o s).valves = s.valves ∧
    (startLoad bank o s).motors = s.motors ∧ (startLoad bank o s).senses = s.senses ∧ (startLoad bank o s).pulses = s.pulses ∧
    (startLoad bank o s).analogs = s.analogs ∧ (startLoad bank o s).auxs = s.auxs ∧ (startLoad bank o s).cards = s.cards ∧
    (startLoad bank o s).service = s.service ∧ (startLoad bank o s).dies = s.dies ∧ (startLoad bank o s).clusters = s.clusters ∧
    (startLoad bank o s).integ = s.integ ∧ (startLoad bank o s).copies = s.copies ∧ (startLoad bank o s).pair = s.pair ∧
    (startLoad bank o s).links = s.links ∧ (startLoad bank o s).hall = s.hall ∧ (startLoad bank o s).buses = s.buses ∧
    (startLoad bank o s).frameLog = s.frameLog ∧ (startLoad bank o s).power = s.power ∧ (startLoad bank o s).ptp = s.ptp ∧
    (startLoad bank o s).fans = s.fans ∧ (startLoad bank o s).upds = s.upds ∧ (startLoad bank o s).fw = s.fw ∧
    (startLoad bank o s).log = s.log ∧ (startLoad bank o s).bmu = s.bmu ∧ (startLoad bank o s).mirror = s.mirror ∧
    (startLoad bank o s).pending = s.pending := by
  unfold startLoad; (try dsimp only); (repeat' split) <;> simp

theorem endLoadUpdate_frame (s : State) :
    (endLoadUpdate s).now = s.now ∧ (endLoadUpdate s).frame = s.frame ∧ (endLoadUpdate s).free = s.free ∧ (endLoadUpdate s).regs = s.regs ∧
    (endLoadUpdate s).outbox = s.outbox ∧ (endLoadUpdate s).vcp = s.vcp ∧ (endLoadUpdate s).plant = s.plant ∧
    (endLoadUpdate s).broker = s.broker ∧ (endLoadUpdate s).valves = s.valves ∧ (endLoadUpdate s).motors = s.motors ∧
    (endLoadUpdate s).senses = s.senses ∧ (endLoadUpdate s).pulses = s.pulses ∧ (endLoadUpdate s).analogs = s.analogs ∧
    (endLoadUpdate s).auxs = s.auxs ∧ (endLoadUpdate s).cards = s.cards ∧ (endLoadUpdate s).service = s.service ∧
    (endLoadUpdate s).seqr = s.seqr ∧ (endLoadUpdate s).dies = s.dies ∧ (endLoadUpdate s).clusters = s.clusters ∧
    (endLoadUpdate s).integ = s.integ ∧ (endLoadUpdate s).copies = s.copies ∧ (endLoadUpdate s).pair = s.pair ∧
    (endLoadUpdate s).links = s.links ∧ (endLoadUpdate s).hall = s.hall ∧ (endLoadUpdate s).buses = s.buses ∧
    (endLoadUpdate s).frameLog = s.frameLog ∧ (endLoadUpdate s).power = s.power ∧ (endLoadUpdate s).ptp = s.ptp ∧
    (endLoadUpdate s).fans = s.fans ∧ (endLoadUpdate s).fw = s.fw ∧ (endLoadUpdate s).log = s.log ∧ (endLoadUpdate s).bmu = s.bmu ∧
    (endLoadUpdate s).mirror = s.mirror ∧ (endLoadUpdate s).pending = s.pending := by
  unfold endLoadUpdate; (try dsimp only); (repeat' split) <;> simp

theorem loadActivated_frame (s : State) :
    (loadActivated s).now = s.now ∧ (loadActivated s).frame = s.frame ∧ (loadActivated s).free = s.free ∧ (loadActivated s).regs = s.regs ∧
    (loadActivated s).outbox = s.outbox ∧ (loadActivated s).vcp = s.vcp ∧ (loadActivated s).plant = s.plant ∧
    (loadActivated s).broker = s.broker ∧ (loadActivated s).valves = s.valves ∧ (loadActivated s).motors = s.motors ∧
    (loadActivated s).senses = s.senses ∧ (loadActivated s).pulses = s.pulses ∧ (loadActivated s).analogs = s.analogs ∧
    (loadActivated s).auxs = s.auxs ∧ (loadActivated s).cards = s.cards ∧ (loadActivated s).service = s.service ∧
    (loadActivated s).dies = s.dies ∧ (loadActivated s).clusters = s.clusters ∧ (loadActivated s).integ = s.integ ∧
    (loadActivated s).copies = s.copies ∧ (loadActivated s).pair = s.pair ∧ (loadActivated s).links = s.links ∧
    (loadActivated s).hall = s.hall ∧ (loadActivated s).buses = s.buses ∧ (loadActivated s).frameLog = s.frameLog ∧
    (loadActivated s).power = s.power ∧ (loadActivated s).ptp = s.ptp ∧ (loadActivated s).fans = s.fans ∧ (loadActivated s).fw = s.fw ∧
    (loadActivated s).log = s.log ∧ (loadActivated s).bmu = s.bmu ∧ (loadActivated s).mirror = s.mirror ∧
    (loadActivated s).pending = s.pending := by
  have e1 := @endLoadUpdate_frame
  have e2 := @startLoad_frame
  unfold loadActivated; (try dsimp only); (repeat' split) <;> simp [e1, e2]

theorem stopTraverse_frame (s : State) :
    (stopTraverse s).now = s.now ∧ (stopTraverse s).frame = s.frame ∧ (stopTraverse s).free = s.free ∧ (stopTraverse s).broker = s.broker ∧
    (stopTraverse s).valves = s.valves ∧ (stopTraverse s).motors = s.motors ∧ (stopTraverse s).senses = s.senses ∧
    (stopTraverse s).pulses = s.pulses ∧ (stopTraverse s).analogs = s.analogs ∧ (stopTraverse s).auxs = s.auxs ∧
    (stopTraverse s).cards = s.cards ∧ (stopTraverse s).service = s.service ∧ (stopTraverse s).clusters = s.clusters ∧
    (stopTraverse s).integ = s.integ ∧ (stopTraverse s).pair = s.pair ∧ (stopTraverse s).links = s.links ∧ (stopTraverse s).hall = s.hall ∧
    (stopTraverse s).buses = s.buses ∧ (stopTraverse s).frameLog = s.frameLog ∧ (stopTraverse s).power = s.power ∧
    (stopTraverse s).ptp = s.ptp ∧ (stopTraverse s).fans = s.fans ∧ (stopTraverse s).fw = s.fw ∧ (stopTraverse s).bmu = s.bmu ∧
    (stopTraverse s).mirror = s.mirror ∧ (stopTraverse s).pending = s.pending := by
  have e1 := @markCkpt_frame
  have e2 := @faultSeq_frame
  have e3 := @loadActivated_frame
  have e4 := @engineDown_frame
  have e5 := @setDies_frame
  have e6 := @stopLegs_frame
  unfold stopTraverse; (try dsimp only); (repeat' split) <;> simp [e1, e2, e3, e4, e5, e6]

theorem settleDispute_frame (n i d : Nat) (s : State) :
    (settleDispute n i d s).now = s.now ∧ (settleDispute n i d s).frame = s.frame ∧ (settleDispute n i d s).free = s.free ∧
    (settleDispute n i d s).plant = s.plant ∧ (settleDispute n i d s).broker = s.broker ∧ (settleDispute n i d s).valves = s.valves ∧
    (settleDispute n i d s).motors = s.motors ∧ (settleDispute n i d s).senses = s.senses ∧ (settleDispute n i d s).pulses = s.pulses ∧
    (settleDispute n i d s).analogs = s.analogs ∧ (settleDispute n i d s).auxs = s.auxs ∧ (settleDispute n i d s).cards = s.cards ∧
    (settleDispute n i d s).service = s.service ∧ (settleDispute n i d s).dies = s.dies ∧ (settleDispute n i d s).clusters = s.clusters ∧
    (settleDispute n i d s).copies = s.copies ∧ (settleDispute n i d s).pair = s.pair ∧ (settleDispute n i d s).links = s.links ∧
    (settleDispute n i d s).hall = s.hall ∧ (settleDispute n i d s).buses = s.buses ∧ (settleDispute n i d s).frameLog = s.frameLog ∧
    (settleDispute n i d s).power = s.power ∧ (settleDispute n i d s).ptp = s.ptp ∧ (settleDispute n i d s).fans = s.fans ∧
    (settleDispute n i d s).upds = s.upds ∧ (settleDispute n i d s).fw = s.fw ∧ (settleDispute n i d s).bmu = s.bmu ∧
    (settleDispute n i d s).mirror = s.mirror ∧ (settleDispute n i d s).pending = s.pending := by
  have e1 := @intEvent_frame
  have e2 := @setLeg_frame
  have e3 := @dataCorrupt_frame
  unfold settleDispute; (try dsimp only); (repeat' split) <;> simp [e1, e2, e3]

theorem startMargin_frame (s : State) :
    (startMargin s).now = s.now ∧ (startMargin s).frame = s.frame ∧ (startMargin s).free = s.free ∧ (startMargin s).regs = s.regs ∧
    (startMargin s).outbox = s.outbox ∧ (startMargin s).vcp = s.vcp ∧ (startMargin s).plant = s.plant ∧ (startMargin s).broker = s.broker ∧
    (startMargin s).valves = s.valves ∧ (startMargin s).motors = s.motors ∧ (startMargin s).senses = s.senses ∧
    (startMargin s).pulses = s.pulses ∧ (startMargin s).analogs = s.analogs ∧ (startMargin s).auxs = s.auxs ∧
    (startMargin s).cards = s.cards ∧ (startMargin s).service = s.service ∧ (startMargin s).seqr = s.seqr ∧ (startMargin s).dies = s.dies ∧
    (startMargin s).clusters = s.clusters ∧ (startMargin s).copies = s.copies ∧ (startMargin s).links = s.links ∧
    (startMargin s).hall = s.hall ∧ (startMargin s).buses = s.buses ∧ (startMargin s).frameLog = s.frameLog ∧ (startMargin s).ptp = s.ptp ∧
    (startMargin s).fans = s.fans ∧ (startMargin s).upds = s.upds ∧ (startMargin s).fw = s.fw ∧ (startMargin s).log = s.log ∧
    (startMargin s).bmu = s.bmu ∧ (startMargin s).mirror = s.mirror ∧ (startMargin s).pending = s.pending := by
  unfold startMargin; (try dsimp only); (repeat' split) <;> simp

theorem endMargin_frame (failed : List ClusterAt) (s : State) :
    (endMargin failed s).now = s.now ∧ (endMargin failed s).frame = s.frame ∧ (endMargin failed s).free = s.free ∧
    (endMargin failed s).plant = s.plant ∧ (endMargin failed s).broker = s.broker ∧ (endMargin failed s).valves = s.valves ∧
    (endMargin failed s).motors = s.motors ∧ (endMargin failed s).senses = s.senses ∧ (endMargin failed s).pulses = s.pulses ∧
    (endMargin failed s).analogs = s.analogs ∧ (endMargin failed s).auxs = s.auxs ∧ (endMargin failed s).cards = s.cards ∧
    (endMargin failed s).service = s.service ∧ (endMargin failed s).copies = s.copies ∧ (endMargin failed s).links = s.links ∧
    (endMargin failed s).hall = s.hall ∧ (endMargin failed s).buses = s.buses ∧ (endMargin failed s).frameLog = s.frameLog ∧
    (endMargin failed s).ptp = s.ptp ∧ (endMargin failed s).fans = s.fans ∧ (endMargin failed s).upds = s.upds ∧
    (endMargin failed s).fw = s.fw ∧ (endMargin failed s).bmu = s.bmu ∧ (endMargin failed s).mirror = s.mirror ∧
    (endMargin failed s).pending = s.pending := by
  have e1 := @failedRound_frame
  have e2 := @intEvent_frame
  unfold endMargin; (try dsimp only); (repeat' split) <;> simp [e1, e2]

theorem chargeDie_frame (i : Nat) (s : State) :
    (chargeDie i s).now = s.now ∧ (chargeDie i s).frame = s.frame ∧ (chargeDie i s).free = s.free ∧ (chargeDie i s).regs = s.regs ∧
    (chargeDie i s).outbox = s.outbox ∧ (chargeDie i s).vcp = s.vcp ∧ (chargeDie i s).plant = s.plant ∧ (chargeDie i s).broker = s.broker ∧
    (chargeDie i s).valves = s.valves ∧ (chargeDie i s).motors = s.motors ∧ (chargeDie i s).senses = s.senses ∧
    (chargeDie i s).pulses = s.pulses ∧ (chargeDie i s).analogs = s.analogs ∧ (chargeDie i s).auxs = s.auxs ∧
    (chargeDie i s).cards = s.cards ∧ (chargeDie i s).service = s.service ∧ (chargeDie i s).seqr = s.seqr ∧
    (chargeDie i s).clusters = s.clusters ∧ (chargeDie i s).integ = s.integ ∧ (chargeDie i s).copies = s.copies ∧
    (chargeDie i s).pair = s.pair ∧ (chargeDie i s).links = s.links ∧ (chargeDie i s).hall = s.hall ∧ (chargeDie i s).buses = s.buses ∧
    (chargeDie i s).frameLog = s.frameLog ∧ (chargeDie i s).power = s.power ∧ (chargeDie i s).ptp = s.ptp ∧ (chargeDie i s).fans = s.fans ∧
    (chargeDie i s).upds = s.upds ∧ (chargeDie i s).fw = s.fw ∧ (chargeDie i s).log = s.log ∧ (chargeDie i s).bmu = s.bmu ∧
    (chargeDie i s).mirror = s.mirror ∧ (chargeDie i s).pending = s.pending := by
  unfold chargeDie; (try dsimp only); (repeat' split) <;> simp

theorem beginReset_frame (s : State) :
    (beginReset s).now = s.now ∧ (beginReset s).frame = s.frame ∧ (beginReset s).free = s.free ∧ (beginReset s).regs = s.regs ∧
    (beginReset s).outbox = s.outbox ∧ (beginReset s).vcp = s.vcp ∧ (beginReset s).broker = s.broker ∧ (beginReset s).valves = s.valves ∧
    (beginReset s).motors = s.motors ∧ (beginReset s).senses = s.senses ∧ (beginReset s).pulses = s.pulses ∧
    (beginReset s).analogs = s.analogs ∧ (beginReset s).auxs = s.auxs ∧ (beginReset s).cards = s.cards ∧
    (beginReset s).service = s.service ∧ (beginReset s).clusters = s.clusters ∧ (beginReset s).pair = s.pair ∧
    (beginReset s).links = s.links ∧ (beginReset s).hall = s.hall ∧ (beginReset s).buses = s.buses ∧ (beginReset s).frameLog = s.frameLog ∧
    (beginReset s).ptp = s.ptp ∧ (beginReset s).fans = s.fans ∧ (beginReset s).upds = s.upds ∧ (beginReset s).fw = s.fw ∧
    (beginReset s).log = s.log ∧ (beginReset s).bmu = s.bmu ∧ (beginReset s).mirror = s.mirror ∧ (beginReset s).pending = s.pending := by
  have e1 := @setDies_frame
  have e2 := @stopLegs_frame
  unfold beginReset; (try dsimp only); (repeat' split) <;> simp [e1, e2]

theorem hallReset_frame (s a : State) :
    (hallReset s a).now = a.now ∧ (hallReset s a).frame = a.frame ∧ (hallReset s a).free = a.free ∧ (hallReset s a).regs = a.regs ∧
    (hallReset s a).vcp = a.vcp ∧ (hallReset s a).plant = a.plant ∧ (hallReset s a).broker = a.broker ∧ (hallReset s a).valves = a.valves ∧
    (hallReset s a).motors = a.motors ∧ (hallReset s a).senses = a.senses ∧ (hallReset s a).pulses = a.pulses ∧
    (hallReset s a).analogs = a.analogs ∧ (hallReset s a).auxs = a.auxs ∧ (hallReset s a).cards = a.cards ∧
    (hallReset s a).service = a.service ∧ (hallReset s a).seqr = a.seqr ∧ (hallReset s a).dies = a.dies ∧
    (hallReset s a).clusters = a.clusters ∧ (hallReset s a).integ = a.integ ∧ (hallReset s a).copies = a.copies ∧
    (hallReset s a).pair = a.pair ∧ (hallReset s a).buses = a.buses ∧ (hallReset s a).frameLog = a.frameLog ∧
    (hallReset s a).power = a.power ∧ (hallReset s a).ptp = a.ptp ∧ (hallReset s a).fans = a.fans ∧ (hallReset s a).upds = a.upds ∧
    (hallReset s a).fw = a.fw ∧ (hallReset s a).log = a.log ∧ (hallReset s a).bmu = a.bmu ∧ (hallReset s a).mirror = a.mirror ∧
    (hallReset s a).pending = a.pending := by
  have e1 := @tellHall_frame
  unfold hallReset; (try dsimp only); (repeat' split) <;> simp [e1]

theorem uncorrectable_frame (s a : State) :
    (uncorrectable s a).now = a.now ∧ (uncorrectable s a).frame = a.frame ∧ (uncorrectable s a).free = a.free ∧
    (uncorrectable s a).valves = a.valves ∧ (uncorrectable s a).motors = a.motors ∧ (uncorrectable s a).senses = a.senses ∧
    (uncorrectable s a).pulses = a.pulses ∧ (uncorrectable s a).analogs = a.analogs ∧ (uncorrectable s a).auxs = a.auxs ∧
    (uncorrectable s a).cards = a.cards ∧ (uncorrectable s a).service = a.service ∧ (uncorrectable s a).clusters = a.clusters ∧
    (uncorrectable s a).buses = a.buses ∧ (uncorrectable s a).frameLog = a.frameLog ∧ (uncorrectable s a).ptp = a.ptp ∧
    (uncorrectable s a).fans = a.fans ∧ (uncorrectable s a).upds = a.upds ∧ (uncorrectable s a).fw = a.fw ∧
    (uncorrectable s a).bmu = a.bmu ∧ (uncorrectable s a).mirror = a.mirror ∧ (uncorrectable s a).pending = a.pending := by
  have e1 := @beginReset_frame
  have e2 := @intEvent_frame
  have e3 := @holdOutputs_frame
  have e4 := @hallReset_frame
  unfold uncorrectable; (try dsimp only); (repeat' split) <;> simp [e1, e2, e3, e4]

theorem afterReset_frame (s : State) :
    (afterReset s).now = s.now ∧ (afterReset s).frame = s.frame ∧ (afterReset s).free = s.free ∧ (afterReset s).broker = s.broker ∧
    (afterReset s).valves = s.valves ∧ (afterReset s).motors = s.motors ∧ (afterReset s).senses = s.senses ∧
    (afterReset s).pulses = s.pulses ∧ (afterReset s).analogs = s.analogs ∧ (afterReset s).auxs = s.auxs ∧ (afterReset s).cards = s.cards ∧
    (afterReset s).service = s.service ∧ (afterReset s).buses = s.buses ∧ (afterReset s).frameLog = s.frameLog ∧
    (afterReset s).ptp = s.ptp ∧ (afterReset s).fans = s.fans ∧ (afterReset s).upds = s.upds ∧ (afterReset s).fw = s.fw ∧
    (afterReset s).bmu = s.bmu ∧ (afterReset s).mirror = s.mirror ∧ (afterReset s).pending = s.pending := by
  have e1 := @startRestore_frame
  have e2 := @setDies_frame
  have e3 := @faultSeq_frame
  unfold afterReset
  split
  · simp [e1, e2, e3]
  · rename_i i _
    have e := choosePlacement_frame false i s
    split
    · simp [e, e1, e2, e3]
    · split
      · simp [e1, e2, e3]
      · split <;> rename_i h <;> rw [h] at e <;> simp only [Placed.state] at e <;> simp [e, e1, e2, e3]

theorem takeChunk_frame (ver chunk n len : Nat) (s : State) :
    (takeChunk ver chunk n len s).now = s.now ∧ (takeChunk ver chunk n len s).frame = s.frame ∧
    (takeChunk ver chunk n len s).free = s.free ∧ (takeChunk ver chunk n len s).regs = s.regs ∧
    (takeChunk ver chunk n len s).outbox = s.outbox ∧ (takeChunk ver chunk n len s).vcp = s.vcp ∧
    (takeChunk ver chunk n len s).plant = s.plant ∧ (takeChunk ver chunk n len s).broker = s.broker ∧
    (takeChunk ver chunk n len s).valves = s.valves ∧ (takeChunk ver chunk n len s).motors = s.motors ∧
    (takeChunk ver chunk n len s).senses = s.senses ∧ (takeChunk ver chunk n len s).pulses = s.pulses ∧
    (takeChunk ver chunk n len s).analogs = s.analogs ∧ (takeChunk ver chunk n len s).auxs = s.auxs ∧
    (takeChunk ver chunk n len s).cards = s.cards ∧ (takeChunk ver chunk n len s).service = s.service ∧
    (takeChunk ver chunk n len s).seqr = s.seqr ∧ (takeChunk ver chunk n len s).dies = s.dies ∧
    (takeChunk ver chunk n len s).clusters = s.clusters ∧ (takeChunk ver chunk n len s).copies = s.copies ∧
    (takeChunk ver chunk n len s).pair = s.pair ∧ (takeChunk ver chunk n len s).links = s.links ∧
    (takeChunk ver chunk n len s).hall = s.hall ∧ (takeChunk ver chunk n len s).buses = s.buses ∧
    (takeChunk ver chunk n len s).frameLog = s.frameLog ∧ (takeChunk ver chunk n len s).power = s.power ∧
    (takeChunk ver chunk n len s).ptp = s.ptp ∧ (takeChunk ver chunk n len s).fans = s.fans ∧ (takeChunk ver chunk n len s).upds = s.upds ∧
    (takeChunk ver chunk n len s).fw = s.fw ∧ (takeChunk ver chunk n len s).log = s.log ∧ (takeChunk ver chunk n len s).bmu = s.bmu ∧
    (takeChunk ver chunk n len s).mirror = s.mirror ∧ (takeChunk ver chunk n len s).pending = s.pending := by
  unfold takeChunk; (try dsimp only); (repeat' split) <;> simp

theorem rejectSet_frame (s : State) :
    (rejectSet s).now = s.now ∧ (rejectSet s).frame = s.frame ∧ (rejectSet s).free = s.free ∧ (rejectSet s).plant = s.plant ∧
    (rejectSet s).broker = s.broker ∧ (rejectSet s).valves = s.valves ∧ (rejectSet s).motors = s.motors ∧ (rejectSet s).senses = s.senses ∧
    (rejectSet s).pulses = s.pulses ∧ (rejectSet s).analogs = s.analogs ∧ (rejectSet s).auxs = s.auxs ∧ (rejectSet s).cards = s.cards ∧
    (rejectSet s).service = s.service ∧ (rejectSet s).seqr = s.seqr ∧ (rejectSet s).dies = s.dies ∧ (rejectSet s).clusters = s.clusters ∧
    (rejectSet s).copies = s.copies ∧ (rejectSet s).pair = s.pair ∧ (rejectSet s).links = s.links ∧ (rejectSet s).hall = s.hall ∧
    (rejectSet s).buses = s.buses ∧ (rejectSet s).frameLog = s.frameLog ∧ (rejectSet s).power = s.power ∧ (rejectSet s).ptp = s.ptp ∧
    (rejectSet s).fans = s.fans ∧ (rejectSet s).upds = s.upds ∧ (rejectSet s).fw = s.fw ∧ (rejectSet s).bmu = s.bmu ∧
    (rejectSet s).mirror = s.mirror ∧ (rejectSet s).pending = s.pending := by
  have e1 := @intEvent_frame
  unfold rejectSet; (try dsimp only); (repeat' split) <;> simp [e1]

theorem comparePairIds_frame (s : State) :
    (comparePairIds s).now = s.now ∧ (comparePairIds s).frame = s.frame ∧ (comparePairIds s).free = s.free ∧
    (comparePairIds s).regs = s.regs ∧ (comparePairIds s).outbox = s.outbox ∧ (comparePairIds s).vcp = s.vcp ∧
    (comparePairIds s).plant = s.plant ∧ (comparePairIds s).broker = s.broker ∧ (comparePairIds s).valves = s.valves ∧
    (comparePairIds s).motors = s.motors ∧ (comparePairIds s).senses = s.senses ∧ (comparePairIds s).pulses = s.pulses ∧
    (comparePairIds s).analogs = s.analogs ∧ (comparePairIds s).auxs = s.auxs ∧ (comparePairIds s).cards = s.cards ∧
    (comparePairIds s).service = s.service ∧ (comparePairIds s).seqr = s.seqr ∧ (comparePairIds s).dies = s.dies ∧
    (comparePairIds s).clusters = s.clusters ∧ (comparePairIds s).integ = s.integ ∧ (comparePairIds s).copies = s.copies ∧
    (comparePairIds s).links = s.links ∧ (comparePairIds s).hall = s.hall ∧ (comparePairIds s).buses = s.buses ∧
    (comparePairIds s).frameLog = s.frameLog ∧ (comparePairIds s).power = s.power ∧ (comparePairIds s).ptp = s.ptp ∧
    (comparePairIds s).fans = s.fans ∧ (comparePairIds s).upds = s.upds ∧ (comparePairIds s).fw = s.fw ∧ (comparePairIds s).log = s.log ∧
    (comparePairIds s).bmu = s.bmu ∧ (comparePairIds s).mirror = s.mirror ∧ (comparePairIds s).pending = s.pending := by
  unfold comparePairIds; (try dsimp only); (repeat' split) <;> simp

theorem loaded_frame (img : Image) (s : State) :
    (loaded img s).now = s.now ∧ (loaded img s).frame = s.frame ∧ (loaded img s).free = s.free ∧ (loaded img s).vcp = s.vcp ∧
    (loaded img s).broker = s.broker ∧ (loaded img s).valves = s.valves ∧ (loaded img s).motors = s.motors ∧
    (loaded img s).senses = s.senses ∧ (loaded img s).pulses = s.pulses ∧ (loaded img s).analogs = s.analogs ∧
    (loaded img s).auxs = s.auxs ∧ (loaded img s).cards = s.cards ∧ (loaded img s).service = s.service ∧
    (loaded img s).clusters = s.clusters ∧ (loaded img s).integ = s.integ ∧ (loaded img s).links = s.links ∧ (loaded img s).hall = s.hall ∧
    (loaded img s).buses = s.buses ∧ (loaded img s).frameLog = s.frameLog ∧ (loaded img s).power = s.power ∧ (loaded img s).ptp = s.ptp ∧
    (loaded img s).fans = s.fans ∧ (loaded img s).upds = s.upds ∧ (loaded img s).fw = s.fw ∧ (loaded img s).log = s.log ∧
    (loaded img s).bmu = s.bmu ∧ (loaded img s).mirror = s.mirror ∧ (loaded img s).pending = s.pending := by
  have e1 := @comparePairIds_frame
  have e2 := @setDies_frame
  unfold loaded; (try dsimp only); (repeat' split) <;> simp [e1, e2]

theorem loadFailed_frame (section_ : Nat) (s : State) :
    (loadFailed section_ s).now = s.now ∧ (loadFailed section_ s).frame = s.frame ∧ (loadFailed section_ s).free = s.free ∧
    (loadFailed section_ s).plant = s.plant ∧ (loadFailed section_ s).broker = s.broker ∧ (loadFailed section_ s).valves = s.valves ∧
    (loadFailed section_ s).motors = s.motors ∧ (loadFailed section_ s).senses = s.senses ∧ (loadFailed section_ s).pulses = s.pulses ∧
    (loadFailed section_ s).analogs = s.analogs ∧ (loadFailed section_ s).auxs = s.auxs ∧ (loadFailed section_ s).cards = s.cards ∧
    (loadFailed section_ s).service = s.service ∧ (loadFailed section_ s).dies = s.dies ∧ (loadFailed section_ s).clusters = s.clusters ∧
    (loadFailed section_ s).integ = s.integ ∧ (loadFailed section_ s).copies = s.copies ∧ (loadFailed section_ s).links = s.links ∧
    (loadFailed section_ s).hall = s.hall ∧ (loadFailed section_ s).buses = s.buses ∧ (loadFailed section_ s).frameLog = s.frameLog ∧
    (loadFailed section_ s).power = s.power ∧ (loadFailed section_ s).ptp = s.ptp ∧ (loadFailed section_ s).fans = s.fans ∧
    (loadFailed section_ s).upds = s.upds ∧ (loadFailed section_ s).fw = s.fw ∧ (loadFailed section_ s).log = s.log ∧
    (loadFailed section_ s).bmu = s.bmu ∧ (loadFailed section_ s).mirror = s.mirror ∧ (loadFailed section_ s).pending = s.pending := by
  have e1 := @comparePairIds_frame
  unfold loadFailed; (try dsimp only); (repeat' split) <;> simp [e1]

theorem startTraverse_frame (src startAt : Nat) (o : Option Origin) (s : State) :
    (startTraverse src startAt o s).now = s.now ∧ (startTraverse src startAt o s).frame = s.frame ∧
    (startTraverse src startAt o s).free = s.free ∧ (startTraverse src startAt o s).regs = s.regs ∧
    (startTraverse src startAt o s).outbox = s.outbox ∧ (startTraverse src startAt o s).vcp = s.vcp ∧
    (startTraverse src startAt o s).plant = s.plant ∧ (startTraverse src startAt o s).broker = s.broker ∧
    (startTraverse src startAt o s).valves = s.valves ∧ (startTraverse src startAt o s).motors = s.motors ∧
    (startTraverse src startAt o s).senses = s.senses ∧ (startTraverse src startAt o s).pulses = s.pulses ∧
    (startTraverse src startAt o s).analogs = s.analogs ∧ (startTraverse src startAt o s).auxs = s.auxs ∧
    (startTraverse src startAt o s).cards = s.cards ∧ (startTraverse src startAt o s).service = s.service ∧
    (startTraverse src startAt o s).dies = s.dies ∧ (startTraverse src startAt o s).clusters = s.clusters ∧
    (startTraverse src startAt o s).integ = s.integ ∧ (startTraverse src startAt o s).copies = s.copies ∧
    (startTraverse src startAt o s).pair = s.pair ∧ (startTraverse src startAt o s).links = s.links ∧
    (startTraverse src startAt o s).hall = s.hall ∧ (startTraverse src startAt o s).buses = s.buses ∧
    (startTraverse src startAt o s).frameLog = s.frameLog ∧ (startTraverse src startAt o s).power = s.power ∧
    (startTraverse src startAt o s).ptp = s.ptp ∧ (startTraverse src startAt o s).fans = s.fans ∧
    (startTraverse src startAt o s).upds = s.upds ∧ (startTraverse src startAt o s).fw = s.fw ∧
    (startTraverse src startAt o s).log = s.log ∧ (startTraverse src startAt o s).bmu = s.bmu ∧
    (startTraverse src startAt o s).mirror = s.mirror ∧ (startTraverse src startAt o s).pending = s.pending := by
  unfold startTraverse; (try dsimp only); (repeat' split) <;> simp

theorem afterLoad_frame (auto : Bool) (oldId : Option Nat) (s : State) :
    (afterLoad auto oldId s).now = s.now ∧ (afterLoad auto oldId s).frame = s.frame ∧ (afterLoad auto oldId s).free = s.free ∧
    (afterLoad auto oldId s).regs = s.regs ∧ (afterLoad auto oldId s).outbox = s.outbox ∧ (afterLoad auto oldId s).vcp = s.vcp ∧
    (afterLoad auto oldId s).plant = s.plant ∧ (afterLoad auto oldId s).broker = s.broker ∧ (afterLoad auto oldId s).valves = s.valves ∧
    (afterLoad auto oldId s).motors = s.motors ∧ (afterLoad auto oldId s).senses = s.senses ∧ (afterLoad auto oldId s).pulses = s.pulses ∧
    (afterLoad auto oldId s).analogs = s.analogs ∧ (afterLoad auto oldId s).auxs = s.auxs ∧ (afterLoad auto oldId s).cards = s.cards ∧
    (afterLoad auto oldId s).service = s.service ∧ (afterLoad auto oldId s).dies = s.dies ∧ (afterLoad auto oldId s).clusters = s.clusters ∧
    (afterLoad auto oldId s).integ = s.integ ∧ (afterLoad auto oldId s).copies = s.copies ∧ (afterLoad auto oldId s).links = s.links ∧
    (afterLoad auto oldId s).hall = s.hall ∧ (afterLoad auto oldId s).buses = s.buses ∧ (afterLoad auto oldId s).frameLog = s.frameLog ∧
    (afterLoad auto oldId s).power = s.power ∧ (afterLoad auto oldId s).ptp = s.ptp ∧ (afterLoad auto oldId s).fans = s.fans ∧
    (afterLoad auto oldId s).fw = s.fw ∧ (afterLoad auto oldId s).log = s.log ∧ (afterLoad auto oldId s).bmu = s.bmu ∧
    (afterLoad auto oldId s).mirror = s.mirror ∧ (afterLoad auto oldId s).pending = s.pending := by
  have e1 := @endLoadUpdate_frame
  have e2 := @startTraverse_frame
  unfold afterLoad; (try dsimp only); (repeat' split) <;> simp [e1, e2]

theorem padLinks_frame (i : Image) (s : State) :
    (padLinks i s).now = s.now ∧ (padLinks i s).frame = s.frame ∧ (padLinks i s).free = s.free ∧ (padLinks i s).regs = s.regs ∧
    (padLinks i s).outbox = s.outbox ∧ (padLinks i s).vcp = s.vcp ∧ (padLinks i s).plant = s.plant ∧ (padLinks i s).broker = s.broker ∧
    (padLinks i s).valves = s.valves ∧ (padLinks i s).motors = s.motors ∧ (padLinks i s).senses = s.senses ∧
    (padLinks i s).pulses = s.pulses ∧ (padLinks i s).analogs = s.analogs ∧ (padLinks i s).auxs = s.auxs ∧ (padLinks i s).cards = s.cards ∧
    (padLinks i s).service = s.service ∧ (padLinks i s).seqr = s.seqr ∧ (padLinks i s).dies = s.dies ∧
    (padLinks i s).clusters = s.clusters ∧ (padLinks i s).integ = s.integ ∧ (padLinks i s).copies = s.copies ∧
    (padLinks i s).pair = s.pair ∧ (padLinks i s).hall = s.hall ∧ (padLinks i s).buses = s.buses ∧ (padLinks i s).frameLog = s.frameLog ∧
    (padLinks i s).power = s.power ∧ (padLinks i s).ptp = s.ptp ∧ (padLinks i s).fans = s.fans ∧ (padLinks i s).upds = s.upds ∧
    (padLinks i s).fw = s.fw ∧ (padLinks i s).log = s.log ∧ (padLinks i s).bmu = s.bmu ∧ (padLinks i s).mirror = s.mirror ∧
    (padLinks i s).pending = s.pending := by
  unfold padLinks; (try dsimp only); (repeat' split) <;> simp

theorem firstLeg_frame (start : Time) (src : Option Ckpt) (i : Image) (out : EngineOut) (w : LegWork) (s : State) :
    (firstLeg start src i out w s).now = s.now ∧ (firstLeg start src i out w s).frame = s.frame ∧
    (firstLeg start src i out w s).vcp = s.vcp ∧ (firstLeg start src i out w s).plant = s.plant ∧
    (firstLeg start src i out w s).broker = s.broker ∧ (firstLeg start src i out w s).valves = s.valves ∧
    (firstLeg start src i out w s).motors = s.motors ∧ (firstLeg start src i out w s).senses = s.senses ∧
    (firstLeg start src i out w s).pulses = s.pulses ∧ (firstLeg start src i out w s).analogs = s.analogs ∧
    (firstLeg start src i out w s).auxs = s.auxs ∧ (firstLeg start src i out w s).cards = s.cards ∧
    (firstLeg start src i out w s).service = s.service ∧ (firstLeg start src i out w s).clusters = s.clusters ∧
    (firstLeg start src i out w s).pair = s.pair ∧ (firstLeg start src i out w s).buses = s.buses ∧
    (firstLeg start src i out w s).frameLog = s.frameLog ∧ (firstLeg start src i out w s).ptp = s.ptp ∧
    (firstLeg start src i out w s).upds = s.upds ∧ (firstLeg start src i out w s).log = s.log ∧ (firstLeg start src i out w s).bmu = s.bmu ∧
    (firstLeg start src i out w s).mirror = s.mirror ∧ (firstLeg start src i out w s).pending = s.pending := by
  have e1 := @padLinks_frame
  have e2 := @beginLeg_frame
  unfold firstLeg; (try dsimp only); (repeat' split) <;> simp [e1, e2]

theorem askStop_frame (o : Origin) (s : State) :
    (askStop o s).now = s.now ∧ (askStop o s).frame = s.frame ∧ (askStop o s).free = s.free ∧ (askStop o s).broker = s.broker ∧
    (askStop o s).valves = s.valves ∧ (askStop o s).motors = s.motors ∧ (askStop o s).senses = s.senses ∧ (askStop o s).pulses = s.pulses ∧
    (askStop o s).analogs = s.analogs ∧ (askStop o s).auxs = s.auxs ∧ (askStop o s).cards = s.cards ∧ (askStop o s).service = s.service ∧
    (askStop o s).clusters = s.clusters ∧ (askStop o s).integ = s.integ ∧ (askStop o s).pair = s.pair ∧ (askStop o s).buses = s.buses ∧
    (askStop o s).frameLog = s.frameLog ∧ (askStop o s).power = s.power ∧ (askStop o s).ptp = s.ptp ∧ (askStop o s).fans = s.fans ∧
    (askStop o s).fw = s.fw ∧ (askStop o s).bmu = s.bmu ∧ (askStop o s).mirror = s.mirror ∧ (askStop o s).pending = s.pending := by
  have e1 := @tellHall_frame
  have e2 := @stopTraverse_frame
  have e3 := @loaded_frame
  unfold askStop; (try dsimp only); (repeat' split) <;> simp [e1, e2, e3]

theorem switchRoute_frame (m : Nat) (s : State) :
    (switchRoute m s).now = s.now ∧ (switchRoute m s).frame = s.frame ∧ (switchRoute m s).free = s.free ∧
    (switchRoute m s).outbox = s.outbox ∧ (switchRoute m s).vcp = s.vcp ∧ (switchRoute m s).plant = s.plant ∧
    (switchRoute m s).broker = s.broker ∧ (switchRoute m s).valves = s.valves ∧ (switchRoute m s).motors = s.motors ∧
    (switchRoute m s).senses = s.senses ∧ (switchRoute m s).pulses = s.pulses ∧ (switchRoute m s).analogs = s.analogs ∧
    (switchRoute m s).auxs = s.auxs ∧ (switchRoute m s).cards = s.cards ∧ (switchRoute m s).service = s.service ∧
    (switchRoute m s).dies = s.dies ∧ (switchRoute m s).clusters = s.clusters ∧ (switchRoute m s).integ = s.integ ∧
    (switchRoute m s).copies = s.copies ∧ (switchRoute m s).pair = s.pair ∧ (switchRoute m s).links = s.links ∧
    (switchRoute m s).hall = s.hall ∧ (switchRoute m s).buses = s.buses ∧ (switchRoute m s).frameLog = s.frameLog ∧
    (switchRoute m s).power = s.power ∧ (switchRoute m s).ptp = s.ptp ∧ (switchRoute m s).fans = s.fans ∧ (switchRoute m s).upds = s.upds ∧
    (switchRoute m s).fw = s.fw ∧ (switchRoute m s).log = s.log ∧ (switchRoute m s).bmu = s.bmu ∧ (switchRoute m s).mirror = s.mirror ∧
    (switchRoute m s).pending = s.pending := by
  unfold switchRoute; (try dsimp only); (repeat' split) <;> simp

theorem hallRestore_frame (c : Nat) (s : State) :
    (hallRestore c s).now = s.now ∧ (hallRestore c s).frame = s.frame ∧ (hallRestore c s).free = s.free ∧ (hallRestore c s).vcp = s.vcp ∧
    (hallRestore c s).broker = s.broker ∧ (hallRestore c s).valves = s.valves ∧ (hallRestore c s).motors = s.motors ∧
    (hallRestore c s).senses = s.senses ∧ (hallRestore c s).pulses = s.pulses ∧ (hallRestore c s).analogs = s.analogs ∧
    (hallRestore c s).auxs = s.auxs ∧ (hallRestore c s).cards = s.cards ∧ (hallRestore c s).service = s.service ∧
    (hallRestore c s).clusters = s.clusters ∧ (hallRestore c s).integ = s.integ ∧ (hallRestore c s).links = s.links ∧
    (hallRestore c s).hall = s.hall ∧ (hallRestore c s).buses = s.buses ∧ (hallRestore c s).frameLog = s.frameLog ∧
    (hallRestore c s).power = s.power ∧ (hallRestore c s).ptp = s.ptp ∧ (hallRestore c s).fans = s.fans ∧ (hallRestore c s).upds = s.upds ∧
    (hallRestore c s).fw = s.fw ∧ (hallRestore c s).log = s.log ∧ (hallRestore c s).bmu = s.bmu ∧ (hallRestore c s).mirror = s.mirror ∧
    (hallRestore c s).pending = s.pending := by
  have e1 := @markCkpt_frame
  have e2 := @startRestore_frame
  unfold hallRestore; (try dsimp only); (repeat' split) <;> simp [e1, e2]

theorem rollback_frame (m : Nat) (s : State) :
    (rollback m s).now = s.now ∧ (rollback m s).frame = s.frame ∧ (rollback m s).free = s.free ∧ (rollback m s).broker = s.broker ∧
    (rollback m s).valves = s.valves ∧ (rollback m s).motors = s.motors ∧ (rollback m s).senses = s.senses ∧
    (rollback m s).pulses = s.pulses ∧ (rollback m s).analogs = s.analogs ∧ (rollback m s).auxs = s.auxs ∧ (rollback m s).cards = s.cards ∧
    (rollback m s).service = s.service ∧ (rollback m s).buses = s.buses ∧ (rollback m s).frameLog = s.frameLog ∧
    (rollback m s).ptp = s.ptp ∧ (rollback m s).fans = s.fans ∧ (rollback m s).upds = s.upds ∧ (rollback m s).fw = s.fw ∧
    (rollback m s).bmu = s.bmu ∧ (rollback m s).mirror = s.mirror ∧ (rollback m s).pending = s.pending := by
  have e1 := @setDies_frame
  have e2 := @stopLegs_frame
  have e3 := @loaded_frame
  have e4 := @leaveMirror_frame
  have e5 := @tellHall_frame
  have e6 := @changePlacement_frame
  have e7 := @startRestore_frame
  unfold rollback; (try dsimp only); (repeat' split) <;> simp [e1, e2, e3, e4, e5, e6, e7]

theorem releaseAt_frame (m : Nat) (s : State) :
    (releaseAt m s).now = s.now ∧ (releaseAt m s).frame = s.frame ∧ (releaseAt m s).valves = s.valves ∧ (releaseAt m s).senses = s.senses ∧
    (releaseAt m s).pulses = s.pulses ∧ (releaseAt m s).analogs = s.analogs ∧ (releaseAt m s).auxs = s.auxs ∧
    (releaseAt m s).cards = s.cards ∧ (releaseAt m s).service = s.service ∧ (releaseAt m s).copies = s.copies ∧
    (releaseAt m s).buses = s.buses ∧ (releaseAt m s).frameLog = s.frameLog ∧ (releaseAt m s).power = s.power ∧
    (releaseAt m s).ptp = s.ptp ∧ (releaseAt m s).fans = s.fans ∧ (releaseAt m s).upds = s.upds ∧ (releaseAt m s).fw = s.fw ∧
    (releaseAt m s).bmu = s.bmu ∧ (releaseAt m s).mirror = s.mirror ∧ (releaseAt m s).pending = s.pending := by
  have e1 := @closeLeg_frame
  have e2 := @releaseDue_frame
  unfold releaseAt; (try dsimp only); (repeat' split) <;> simp [e1, e2]

theorem resume_frame (c : Ckpt) (ts : Time) (out : EngineOut) (w : LegWork) (s : State) :
    (resume c ts out w s).now = s.now ∧ (resume c ts out w s).frame = s.frame ∧ (resume c ts out w s).valves = s.valves ∧
    (resume c ts out w s).motors = s.motors ∧ (resume c ts out w s).senses = s.senses ∧ (resume c ts out w s).pulses = s.pulses ∧
    (resume c ts out w s).analogs = s.analogs ∧ (resume c ts out w s).auxs = s.auxs ∧ (resume c ts out w s).cards = s.cards ∧
    (resume c ts out w s).service = s.service ∧ (resume c ts out w s).clusters = s.clusters ∧ (resume c ts out w s).integ = s.integ ∧
    (resume c ts out w s).pair = s.pair ∧ (resume c ts out w s).buses = s.buses ∧ (resume c ts out w s).frameLog = s.frameLog ∧
    (resume c ts out w s).power = s.power ∧ (resume c ts out w s).ptp = s.ptp ∧ (resume c ts out w s).upds = s.upds ∧
    (resume c ts out w s).bmu = s.bmu ∧ (resume c ts out w s).mirror = s.mirror ∧ (resume c ts out w s).pending = s.pending := by
  have e1 := @beginLeg_frame
  have e2 := @boundaryWork_frame
  unfold resume; (try dsimp only); (repeat' split) <;> simp [e1, e2]

end Sys2Proof.Machine
end

