-- ==== Sys2Proof/Laws/FramesRest.lean ====
section
/-! SUPPORT. For each shared operation, once: the parts of the state it leaves unchanged. Sessions, register effects, the pair, links, Buoyline, clocks, firmware and the benchmark unit. -/

namespace Sys2Proof.Machine

open Sys2Proof

theorem logSession_frame (e : Session) (s : State) :
    (logSession e s).now = s.now ∧ (logSession e s).frame = s.frame ∧ (logSession e s).free = s.free ∧ (logSession e s).vcp = s.vcp ∧
    (logSession e s).plant = s.plant ∧ (logSession e s).broker = s.broker ∧ (logSession e s).valves = s.valves ∧
    (logSession e s).motors = s.motors ∧ (logSession e s).senses = s.senses ∧ (logSession e s).pulses = s.pulses ∧
    (logSession e s).analogs = s.analogs ∧ (logSession e s).auxs = s.auxs ∧ (logSession e s).cards = s.cards ∧
    (logSession e s).service = s.service ∧ (logSession e s).seqr = s.seqr ∧ (logSession e s).dies = s.dies ∧
    (logSession e s).clusters = s.clusters ∧ (logSession e s).integ = s.integ ∧ (logSession e s).copies = s.copies ∧
    (logSession e s).pair = s.pair ∧ (logSession e s).links = s.links ∧ (logSession e s).hall = s.hall ∧ (logSession e s).buses = s.buses ∧
    (logSession e s).frameLog = s.frameLog ∧ (logSession e s).power = s.power ∧ (logSession e s).ptp = s.ptp ∧
    (logSession e s).fans = s.fans ∧ (logSession e s).upds = s.upds ∧ (logSession e s).fw = s.fw ∧ (logSession e s).bmu = s.bmu ∧
    (logSession e s).mirror = s.mirror ∧ (logSession e s).pending = s.pending := by
  unfold logSession; (try dsimp only); (repeat' split) <;> simp

theorem endSession_frame (sid : BitVec 16) (s : State) :
    (endSession sid s).now = s.now ∧ (endSession sid s).frame = s.frame ∧ (endSession sid s).free = s.free ∧
    (endSession sid s).plant = s.plant ∧ (endSession sid s).broker = s.broker ∧ (endSession sid s).valves = s.valves ∧
    (endSession sid s).motors = s.motors ∧ (endSession sid s).senses = s.senses ∧ (endSession sid s).pulses = s.pulses ∧
    (endSession sid s).analogs = s.analogs ∧ (endSession sid s).auxs = s.auxs ∧ (endSession sid s).cards = s.cards ∧
    (endSession sid s).service = s.service ∧ (endSession sid s).seqr = s.seqr ∧ (endSession sid s).dies = s.dies ∧
    (endSession sid s).clusters = s.clusters ∧ (endSession sid s).integ = s.integ ∧ (endSession sid s).copies = s.copies ∧
    (endSession sid s).pair = s.pair ∧ (endSession sid s).links = s.links ∧ (endSession sid s).hall = s.hall ∧
    (endSession sid s).buses = s.buses ∧ (endSession sid s).frameLog = s.frameLog ∧ (endSession sid s).power = s.power ∧
    (endSession sid s).ptp = s.ptp ∧ (endSession sid s).fans = s.fans ∧ (endSession sid s).fw = s.fw ∧ (endSession sid s).bmu = s.bmu ∧
    (endSession sid s).mirror = s.mirror ∧ (endSession sid s).pending = s.pending := by
  have e1 := @logSession_frame
  unfold endSession; (try dsimp only); (repeat' split) <;> simp [e1]

theorem endAssocSession_frame (a : Nat) (s : State) :
    (endAssocSession a s).now = s.now ∧ (endAssocSession a s).frame = s.frame ∧ (endAssocSession a s).free = s.free ∧
    (endAssocSession a s).plant = s.plant ∧ (endAssocSession a s).broker = s.broker ∧ (endAssocSession a s).valves = s.valves ∧
    (endAssocSession a s).motors = s.motors ∧ (endAssocSession a s).senses = s.senses ∧ (endAssocSession a s).pulses = s.pulses ∧
    (endAssocSession a s).analogs = s.analogs ∧ (endAssocSession a s).auxs = s.auxs ∧ (endAssocSession a s).cards = s.cards ∧
    (endAssocSession a s).service = s.service ∧ (endAssocSession a s).seqr = s.seqr ∧ (endAssocSession a s).dies = s.dies ∧
    (endAssocSession a s).clusters = s.clusters ∧ (endAssocSession a s).integ = s.integ ∧ (endAssocSession a s).copies = s.copies ∧
    (endAssocSession a s).pair = s.pair ∧ (endAssocSession a s).links = s.links ∧ (endAssocSession a s).hall = s.hall ∧
    (endAssocSession a s).buses = s.buses ∧ (endAssocSession a s).frameLog = s.frameLog ∧ (endAssocSession a s).power = s.power ∧
    (endAssocSession a s).ptp = s.ptp ∧ (endAssocSession a s).fans = s.fans ∧ (endAssocSession a s).fw = s.fw ∧
    (endAssocSession a s).bmu = s.bmu ∧ (endAssocSession a s).mirror = s.mirror ∧ (endAssocSession a s).pending = s.pending := by
  have e1 := @endSession_frame
  unfold endAssocSession; (try dsimp only); (repeat' split) <;> simp [e1]

theorem endServiceSessions_frame (s : State) :
    (endServiceSessions s).now = s.now ∧ (endServiceSessions s).frame = s.frame ∧ (endServiceSessions s).free = s.free ∧
    (endServiceSessions s).plant = s.plant ∧ (endServiceSessions s).broker = s.broker ∧ (endServiceSessions s).valves = s.valves ∧
    (endServiceSessions s).motors = s.motors ∧ (endServiceSessions s).senses = s.senses ∧ (endServiceSessions s).pulses = s.pulses ∧
    (endServiceSessions s).analogs = s.analogs ∧ (endServiceSessions s).auxs = s.auxs ∧ (endServiceSessions s).cards = s.cards ∧
    (endServiceSessions s).service = s.service ∧ (endServiceSessions s).seqr = s.seqr ∧ (endServiceSessions s).dies = s.dies ∧
    (endServiceSessions s).clusters = s.clusters ∧ (endServiceSessions s).integ = s.integ ∧ (endServiceSessions s).copies = s.copies ∧
    (endServiceSessions s).pair = s.pair ∧ (endServiceSessions s).links = s.links ∧ (endServiceSessions s).hall = s.hall ∧
    (endServiceSessions s).buses = s.buses ∧ (endServiceSessions s).frameLog = s.frameLog ∧ (endServiceSessions s).power = s.power ∧
    (endServiceSessions s).ptp = s.ptp ∧ (endServiceSessions s).fans = s.fans ∧ (endServiceSessions s).fw = s.fw ∧
    (endServiceSessions s).bmu = s.bmu ∧ (endServiceSessions s).mirror = s.mirror ∧ (endServiceSessions s).pending = s.pending := by
  have e1 := @endSession_frame
  unfold endServiceSessions; (try dsimp only); (repeat' split) <;> simp [e1]

theorem presentChain_frame (assoc : Nat) (s : State) :
    (presentChain assoc s).now = s.now ∧ (presentChain assoc s).frame = s.frame ∧ (presentChain assoc s).free = s.free ∧
    (presentChain assoc s).regs = s.regs ∧ (presentChain assoc s).vcp = s.vcp ∧ (presentChain assoc s).plant = s.plant ∧
    (presentChain assoc s).broker = s.broker ∧ (presentChain assoc s).valves = s.valves ∧ (presentChain assoc s).motors = s.motors ∧
    (presentChain assoc s).senses = s.senses ∧ (presentChain assoc s).pulses = s.pulses ∧ (presentChain assoc s).analogs = s.analogs ∧
    (presentChain assoc s).auxs = s.auxs ∧ (presentChain assoc s).cards = s.cards ∧ (presentChain assoc s).service = s.service ∧
    (presentChain assoc s).seqr = s.seqr ∧ (presentChain assoc s).dies = s.dies ∧ (presentChain assoc s).clusters = s.clusters ∧
    (presentChain assoc s).integ = s.integ ∧ (presentChain assoc s).copies = s.copies ∧ (presentChain assoc s).pair = s.pair ∧
    (presentChain assoc s).links = s.links ∧ (presentChain assoc s).hall = s.hall ∧ (presentChain assoc s).buses = s.buses ∧
    (presentChain assoc s).frameLog = s.frameLog ∧ (presentChain assoc s).power = s.power ∧ (presentChain assoc s).ptp = s.ptp ∧
    (presentChain assoc s).fans = s.fans ∧ (presentChain assoc s).upds = s.upds ∧ (presentChain assoc s).fw = s.fw ∧
    (presentChain assoc s).log = s.log ∧ (presentChain assoc s).bmu = s.bmu ∧ (presentChain assoc s).mirror = s.mirror ∧
    (presentChain assoc s).pending = s.pending := by
  unfold presentChain; (try dsimp only); (repeat' split) <;> simp

theorem giveHanded_frame (identity assoc : Nat) (s : State) :
    (giveHanded identity assoc s).now = s.now ∧ (giveHanded identity assoc s).frame = s.frame ∧
    (giveHanded identity assoc s).free = s.free ∧ (giveHanded identity assoc s).plant = s.plant ∧
    (giveHanded identity assoc s).broker = s.broker ∧ (giveHanded identity assoc s).valves = s.valves ∧
    (giveHanded identity assoc s).motors = s.motors ∧ (giveHanded identity assoc s).senses = s.senses ∧
    (giveHanded identity assoc s).pulses = s.pulses ∧ (giveHanded identity assoc s).analogs = s.analogs ∧
    (giveHanded identity assoc s).auxs = s.auxs ∧ (giveHanded identity assoc s).cards = s.cards ∧
    (giveHanded identity assoc s).service = s.service ∧ (giveHanded identity assoc s).seqr = s.seqr ∧
    (giveHanded identity assoc s).dies = s.dies ∧ (giveHanded identity assoc s).clusters = s.clusters ∧
    (giveHanded identity assoc s).integ = s.integ ∧ (giveHanded identity assoc s).copies = s.copies ∧
    (giveHanded identity assoc s).pair = s.pair ∧ (giveHanded identity assoc s).links = s.links ∧
    (giveHanded identity assoc s).hall = s.hall ∧ (giveHanded identity assoc s).buses = s.buses ∧
    (giveHanded identity assoc s).frameLog = s.frameLog ∧ (giveHanded identity assoc s).power = s.power ∧
    (giveHanded identity assoc s).ptp = s.ptp ∧ (giveHanded identity assoc s).fans = s.fans ∧ (giveHanded identity assoc s).upds = s.upds ∧
    (giveHanded identity assoc s).fw = s.fw ∧ (giveHanded identity assoc s).log = s.log ∧ (giveHanded identity assoc s).bmu = s.bmu ∧
    (giveHanded identity assoc s).mirror = s.mirror ∧ (giveHanded identity assoc s).pending = s.pending := by
  unfold giveHanded; (try dsimp only); (repeat' split) <;> simp

theorem openSession_frame (a : Assoc) (role : ClientRole) (rack major minor : Nat) (caps : BitVec 64) (name : Nat) (s : State) :
    (openSession a role rack major minor caps name s).1.now = s.now ∧ (openSession a role rack major minor caps name s).1.frame = s.frame ∧
    (openSession a role rack major minor caps name s).1.plant = s.plant ∧
    (openSession a role rack major minor caps name s).1.broker = s.broker ∧
    (openSession a role rack major minor caps name s).1.valves = s.valves ∧
    (openSession a role rack major minor caps name s).1.motors = s.motors ∧
    (openSession a role rack major minor caps name s).1.senses = s.senses ∧
    (openSession a role rack major minor caps name s).1.pulses = s.pulses ∧
    (openSession a role rack major minor caps name s).1.analogs = s.analogs ∧
    (openSession a role rack major minor caps name s).1.auxs = s.auxs ∧
    (openSession a role rack major minor caps name s).1.cards = s.cards ∧
    (openSession a role rack major minor caps name s).1.service = s.service ∧
    (openSession a role rack major minor caps name s).1.seqr = s.seqr ∧ (openSession a role rack major minor caps name s).1.dies = s.dies ∧
    (openSession a role rack major minor caps name s).1.clusters = s.clusters ∧
    (openSession a role rack major minor caps name s).1.integ = s.integ ∧
    (openSession a role rack major minor caps name s).1.copies = s.copies ∧
    (openSession a role rack major minor caps name s).1.pair = s.pair ∧
    (openSession a role rack major minor caps name s).1.links = s.links ∧
    (openSession a role rack major minor caps name s).1.hall = s.hall ∧
    (openSession a role rack major minor caps name s).1.buses = s.buses ∧
    (openSession a role rack major minor caps name s).1.frameLog = s.frameLog ∧
    (openSession a role rack major minor caps name s).1.power = s.power ∧ (openSession a role rack major minor caps name s).1.ptp = s.ptp ∧
    (openSession a role rack major minor caps name s).1.fans = s.fans ∧ (openSession a role rack major minor caps name s).1.fw = s.fw ∧
    (openSession a role rack major minor caps name s).1.bmu = s.bmu ∧
    (openSession a role rack major minor caps name s).1.mirror = s.mirror ∧
    (openSession a role rack major minor caps name s).1.pending = s.pending := by
  have e1 := @endAssocSession_frame
  have e2 := @logSession_frame
  unfold openSession; dsimp only; simp [e1, e2]

theorem helloJudged_frame (h : Hdr) (a : Assoc) (majors minor1 minor2 : Nat) (caps : BitVec 64) (name : Nat) (s : State) :
    (helloJudged h a majors minor1 minor2 caps name s).now = s.now ∧ (helloJudged h a majors minor1 minor2 caps name s).frame = s.frame ∧
    (helloJudged h a majors minor1 minor2 caps name s).plant = s.plant ∧
    (helloJudged h a majors minor1 minor2 caps name s).broker = s.broker ∧
    (helloJudged h a majors minor1 minor2 caps name s).valves = s.valves ∧
    (helloJudged h a majors minor1 minor2 caps name s).motors = s.motors ∧
    (helloJudged h a majors minor1 minor2 caps name s).senses = s.senses ∧
    (helloJudged h a majors minor1 minor2 caps name s).pulses = s.pulses ∧
    (helloJudged h a majors minor1 minor2 caps name s).analogs = s.analogs ∧
    (helloJudged h a majors minor1 minor2 caps name s).auxs = s.auxs ∧ (helloJudged h a majors minor1 minor2 caps name s).cards = s.cards ∧
    (helloJudged h a majors minor1 minor2 caps name s).service = s.service ∧
    (helloJudged h a majors minor1 minor2 caps name s).seqr = s.seqr ∧ (helloJudged h a majors minor1 minor2 caps name s).dies = s.dies ∧
    (helloJudged h a majors minor1 minor2 caps name s).clusters = s.clusters ∧
    (helloJudged h a majors minor1 minor2 caps name s).integ = s.integ ∧
    (helloJudged h a majors minor1 minor2 caps name s).copies = s.copies ∧
    (helloJudged h a majors minor1 minor2 caps name s).pair = s.pair ∧ (helloJudged h a majors minor1 minor2 caps name s).links = s.links ∧
    (helloJudged h a majors minor1 minor2 caps name s).hall = s.hall ∧ (helloJudged h a majors minor1 minor2 caps name s).buses = s.buses ∧
    (helloJudged h a majors minor1 minor2 caps name s).frameLog = s.frameLog ∧
    (helloJudged h a majors minor1 minor2 caps name s).power = s.power ∧ (helloJudged h a majors minor1 minor2 caps name s).ptp = s.ptp ∧
    (helloJudged h a majors minor1 minor2 caps name s).fans = s.fans ∧ (helloJudged h a majors minor1 minor2 caps name s).fw = s.fw ∧
    (helloJudged h a majors minor1 minor2 caps name s).bmu = s.bmu ∧ (helloJudged h a majors minor1 minor2 caps name s).mirror = s.mirror ∧
    (helloJudged h a majors minor1 minor2 caps name s).pending = s.pending := by
  have e1 := @openSession_frame
  have e2 := @giveHanded_frame
  unfold helloJudged; (try dsimp only); (repeat' split) <;> simp [e1, e2]

theorem afterRead_frame (u off : Nat) (s : State) :
    (afterRead u off s).now = s.now ∧ (afterRead u off s).frame = s.frame ∧ (afterRead u off s).free = s.free ∧
    (afterRead u off s).outbox = s.outbox ∧ (afterRead u off s).vcp = s.vcp ∧ (afterRead u off s).plant = s.plant ∧
    (afterRead u off s).broker = s.broker ∧ (afterRead u off s).valves = s.valves ∧ (afterRead u off s).motors = s.motors ∧
    (afterRead u off s).senses = s.senses ∧ (afterRead u off s).pulses = s.pulses ∧ (afterRead u off s).analogs = s.analogs ∧
    (afterRead u off s).cards = s.cards ∧ (afterRead u off s).service = s.service ∧ (afterRead u off s).seqr = s.seqr ∧
    (afterRead u off s).dies = s.dies ∧ (afterRead u off s).clusters = s.clusters ∧ (afterRead u off s).integ = s.integ ∧
    (afterRead u off s).copies = s.copies ∧ (afterRead u off s).pair = s.pair ∧ (afterRead u off s).links = s.links ∧
    (afterRead u off s).hall = s.hall ∧ (afterRead u off s).buses = s.buses ∧ (afterRead u off s).frameLog = s.frameLog ∧
    (afterRead u off s).power = s.power ∧ (afterRead u off s).ptp = s.ptp ∧ (afterRead u off s).fans = s.fans ∧
    (afterRead u off s).upds = s.upds ∧ (afterRead u off s).fw = s.fw ∧ (afterRead u off s).log = s.log ∧ (afterRead u off s).bmu = s.bmu ∧
    (afterRead u off s).mirror = s.mirror ∧ (afterRead u off s).pending = s.pending := by
  unfold afterRead; (try dsimp only); (repeat' split) <;> simp

theorem readAll_frame (grp sel : Word) (l : List (Nat × Nat)) (s : State) :
    (readAll grp sel l s).2.now = s.now ∧ (readAll grp sel l s).2.frame = s.frame ∧ (readAll grp sel l s).2.free = s.free ∧
    (readAll grp sel l s).2.outbox = s.outbox ∧ (readAll grp sel l s).2.vcp = s.vcp ∧ (readAll grp sel l s).2.plant = s.plant ∧
    (readAll grp sel l s).2.broker = s.broker ∧ (readAll grp sel l s).2.valves = s.valves ∧ (readAll grp sel l s).2.motors = s.motors ∧
    (readAll grp sel l s).2.senses = s.senses ∧ (readAll grp sel l s).2.pulses = s.pulses ∧ (readAll grp sel l s).2.analogs = s.analogs ∧
    (readAll grp sel l s).2.cards = s.cards ∧ (readAll grp sel l s).2.service = s.service ∧ (readAll grp sel l s).2.seqr = s.seqr ∧
    (readAll grp sel l s).2.dies = s.dies ∧ (readAll grp sel l s).2.clusters = s.clusters ∧ (readAll grp sel l s).2.integ = s.integ ∧
    (readAll grp sel l s).2.copies = s.copies ∧ (readAll grp sel l s).2.pair = s.pair ∧ (readAll grp sel l s).2.links = s.links ∧
    (readAll grp sel l s).2.hall = s.hall ∧ (readAll grp sel l s).2.buses = s.buses ∧ (readAll grp sel l s).2.frameLog = s.frameLog ∧
    (readAll grp sel l s).2.power = s.power ∧ (readAll grp sel l s).2.ptp = s.ptp ∧ (readAll grp sel l s).2.fans = s.fans ∧
    (readAll grp sel l s).2.upds = s.upds ∧ (readAll grp sel l s).2.fw = s.fw ∧ (readAll grp sel l s).2.log = s.log ∧
    (readAll grp sel l s).2.bmu = s.bmu ∧ (readAll grp sel l s).2.mirror = s.mirror ∧ (readAll grp sel l s).2.pending = s.pending := by
  have e1 := @afterRead_frame
  unfold readAll; (try dsimp only); (repeat' split) <;> (first | (simp [e1]; done) | (simp (disch := (intros; (repeat' split) <;> simp [e1])) [e1]; done))

theorem sampleOne_frame (e : Session) (b : Sub) (s : State) :
    (sampleOne e b s).now = s.now ∧ (sampleOne e b s).frame = s.frame ∧ (sampleOne e b s).free = s.free ∧
    (sampleOne e b s).plant = s.plant ∧ (sampleOne e b s).broker = s.broker ∧ (sampleOne e b s).valves = s.valves ∧
    (sampleOne e b s).motors = s.motors ∧ (sampleOne e b s).senses = s.senses ∧ (sampleOne e b s).pulses = s.pulses ∧
    (sampleOne e b s).analogs = s.analogs ∧ (sampleOne e b s).cards = s.cards ∧ (sampleOne e b s).service = s.service ∧
    (sampleOne e b s).seqr = s.seqr ∧ (sampleOne e b s).dies = s.dies ∧ (sampleOne e b s).clusters = s.clusters ∧
    (sampleOne e b s).integ = s.integ ∧ (sampleOne e b s).copies = s.copies ∧ (sampleOne e b s).pair = s.pair ∧
    (sampleOne e b s).links = s.links ∧ (sampleOne e b s).hall = s.hall ∧ (sampleOne e b s).buses = s.buses ∧
    (sampleOne e b s).frameLog = s.frameLog ∧ (sampleOne e b s).power = s.power ∧ (sampleOne e b s).ptp = s.ptp ∧
    (sampleOne e b s).fans = s.fans ∧ (sampleOne e b s).upds = s.upds ∧ (sampleOne e b s).fw = s.fw ∧ (sampleOne e b s).log = s.log ∧
    (sampleOne e b s).bmu = s.bmu ∧ (sampleOne e b s).mirror = s.mirror ∧ (sampleOne e b s).pending = s.pending := by
  have e1 := @readAll_frame
  unfold sampleOne; (try dsimp only); (repeat' split) <;> simp [e1]

theorem followPaths_frame (before : Nat → Bool) (s : State) :
    (followPaths before s).now = s.now ∧ (followPaths before s).frame = s.frame ∧ (followPaths before s).free = s.free ∧
    (followPaths before s).regs = s.regs ∧ (followPaths before s).outbox = s.outbox ∧ (followPaths before s).vcp = s.vcp ∧
    (followPaths before s).broker = s.broker ∧ (followPaths before s).valves = s.valves ∧ (followPaths before s).motors = s.motors ∧
    (followPaths before s).senses = s.senses ∧ (followPaths before s).pulses = s.pulses ∧ (followPaths before s).analogs = s.analogs ∧
    (followPaths before s).auxs = s.auxs ∧ (followPaths before s).cards = s.cards ∧ (followPaths before s).service = s.service ∧
    (followPaths before s).seqr = s.seqr ∧ (followPaths before s).dies = s.dies ∧ (followPaths before s).clusters = s.clusters ∧
    (followPaths before s).integ = s.integ ∧ (followPaths before s).copies = s.copies ∧ (followPaths before s).pair = s.pair ∧
    (followPaths before s).links = s.links ∧ (followPaths before s).hall = s.hall ∧ (followPaths before s).buses = s.buses ∧
    (followPaths before s).frameLog = s.frameLog ∧ (followPaths before s).power = s.power ∧ (followPaths before s).ptp = s.ptp ∧
    (followPaths before s).fans = s.fans ∧ (followPaths before s).upds = s.upds ∧ (followPaths before s).fw = s.fw ∧
    (followPaths before s).log = s.log ∧ (followPaths before s).bmu = s.bmu ∧ (followPaths before s).mirror = s.mirror ∧
    (followPaths before s).pending = s.pending := by
  have e1 := @setUse_frame
  unfold followPaths; (try dsimp only); (repeat' split) <;> simp [e1]

theorem leaveBus_frame (c : Nat) (s : State) :
    (leaveBus c s).now = s.now ∧ (leaveBus c s).frame = s.frame ∧ (leaveBus c s).free = s.free ∧ (leaveBus c s).regs = s.regs ∧
    (leaveBus c s).outbox = s.outbox ∧ (leaveBus c s).vcp = s.vcp ∧ (leaveBus c s).plant = s.plant ∧ (leaveBus c s).broker = s.broker ∧
    (leaveBus c s).valves = s.valves ∧ (leaveBus c s).motors = s.motors ∧ (leaveBus c s).senses = s.senses ∧
    (leaveBus c s).pulses = s.pulses ∧ (leaveBus c s).analogs = s.analogs ∧ (leaveBus c s).auxs = s.auxs ∧ (leaveBus c s).cards = s.cards ∧
    (leaveBus c s).service = s.service ∧ (leaveBus c s).seqr = s.seqr ∧ (leaveBus c s).dies = s.dies ∧
    (leaveBus c s).clusters = s.clusters ∧ (leaveBus c s).integ = s.integ ∧ (leaveBus c s).copies = s.copies ∧
    (leaveBus c s).pair = s.pair ∧ (leaveBus c s).links = s.links ∧ (leaveBus c s).hall = s.hall ∧ (leaveBus c s).frameLog = s.frameLog ∧
    (leaveBus c s).power = s.power ∧ (leaveBus c s).ptp = s.ptp ∧ (leaveBus c s).fans = s.fans ∧ (leaveBus c s).upds = s.upds ∧
    (leaveBus c s).fw = s.fw ∧ (leaveBus c s).log = s.log ∧ (leaveBus c s).bmu = s.bmu ∧ (leaveBus c s).mirror = s.mirror ∧
    (leaveBus c s).pending = s.pending := by
  unfold leaveBus; (try dsimp only); (repeat' split) <;> simp

theorem askPlacement_frame (s : State) :
    (askPlacement s).now = s.now ∧ (askPlacement s).frame = s.frame ∧ (askPlacement s).free = s.free ∧ (askPlacement s).regs = s.regs ∧
    (askPlacement s).outbox = s.outbox ∧ (askPlacement s).vcp = s.vcp ∧ (askPlacement s).plant = s.plant ∧
    (askPlacement s).broker = s.broker ∧ (askPlacement s).valves = s.valves ∧ (askPlacement s).motors = s.motors ∧
    (askPlacement s).senses = s.senses ∧ (askPlacement s).pulses = s.pulses ∧ (askPlacement s).analogs = s.analogs ∧
    (askPlacement s).auxs = s.auxs ∧ (askPlacement s).cards = s.cards ∧ (askPlacement s).service = s.service ∧
    (askPlacement s).dies = s.dies ∧ (askPlacement s).clusters = s.clusters ∧ (askPlacement s).integ = s.integ ∧
    (askPlacement s).copies = s.copies ∧ (askPlacement s).pair = s.pair ∧ (askPlacement s).links = s.links ∧
    (askPlacement s).hall = s.hall ∧ (askPlacement s).buses = s.buses ∧ (askPlacement s).frameLog = s.frameLog ∧
    (askPlacement s).power = s.power ∧ (askPlacement s).ptp = s.ptp ∧ (askPlacement s).fans = s.fans ∧ (askPlacement s).upds = s.upds ∧
    (askPlacement s).fw = s.fw ∧ (askPlacement s).log = s.log ∧ (askPlacement s).bmu = s.bmu ∧ (askPlacement s).mirror = s.mirror ∧
    (askPlacement s).pending = s.pending := by
  unfold askPlacement; (try dsimp only); (repeat' split) <;> simp

theorem startSwitch_frame (p : Nat) (v : Word) (s : State) :
    (startSwitch p v s).now = s.now ∧ (startSwitch p v s).frame = s.frame ∧ (startSwitch p v s).free = s.free ∧
    (startSwitch p v s).regs = s.regs ∧ (startSwitch p v s).vcp = s.vcp ∧ (startSwitch p v s).plant = s.plant ∧
    (startSwitch p v s).broker = s.broker ∧ (startSwitch p v s).valves = s.valves ∧ (startSwitch p v s).motors = s.motors ∧
    (startSwitch p v s).senses = s.senses ∧ (startSwitch p v s).pulses = s.pulses ∧ (startSwitch p v s).analogs = s.analogs ∧
    (startSwitch p v s).cards = s.cards ∧ (startSwitch p v s).service = s.service ∧ (startSwitch p v s).seqr = s.seqr ∧
    (startSwitch p v s).dies = s.dies ∧ (startSwitch p v s).clusters = s.clusters ∧ (startSwitch p v s).integ = s.integ ∧
    (startSwitch p v s).copies = s.copies ∧ (startSwitch p v s).pair = s.pair ∧ (startSwitch p v s).links = s.links ∧
    (startSwitch p v s).hall = s.hall ∧ (startSwitch p v s).buses = s.buses ∧ (startSwitch p v s).frameLog = s.frameLog ∧
    (startSwitch p v s).power = s.power ∧ (startSwitch p v s).ptp = s.ptp ∧ (startSwitch p v s).fans = s.fans ∧
    (startSwitch p v s).upds = s.upds ∧ (startSwitch p v s).fw = s.fw ∧ (startSwitch p v s).log = s.log ∧ (startSwitch p v s).bmu = s.bmu ∧
    (startSwitch p v s).mirror = s.mirror ∧ (startSwitch p v s).pending = s.pending := by
  unfold startSwitch; (try dsimp only); (repeat' split) <;> simp

theorem driveAux_frame (p : Nat) (level : Bool) (s : State) :
    (driveAux p level s).now = s.now ∧ (driveAux p level s).frame = s.frame ∧ (driveAux p level s).free = s.free ∧
    (driveAux p level s).regs = s.regs ∧ (driveAux p level s).vcp = s.vcp ∧ (driveAux p level s).plant = s.plant ∧
    (driveAux p level s).broker = s.broker ∧ (driveAux p level s).valves = s.valves ∧ (driveAux p level s).motors = s.motors ∧
    (driveAux p level s).senses = s.senses ∧ (driveAux p level s).pulses = s.pulses ∧ (driveAux p level s).analogs = s.analogs ∧
    (driveAux p level s).cards = s.cards ∧ (driveAux p level s).service = s.service ∧ (driveAux p level s).seqr = s.seqr ∧
    (driveAux p level s).dies = s.dies ∧ (driveAux p level s).clusters = s.clusters ∧ (driveAux p level s).integ = s.integ ∧
    (driveAux p level s).copies = s.copies ∧ (driveAux p level s).pair = s.pair ∧ (driveAux p level s).links = s.links ∧
    (driveAux p level s).hall = s.hall ∧ (driveAux p level s).buses = s.buses ∧ (driveAux p level s).frameLog = s.frameLog ∧
    (driveAux p level s).power = s.power ∧ (driveAux p level s).ptp = s.ptp ∧ (driveAux p level s).fans = s.fans ∧
    (driveAux p level s).upds = s.upds ∧ (driveAux p level s).fw = s.fw ∧ (driveAux p level s).log = s.log ∧
    (driveAux p level s).bmu = s.bmu ∧ (driveAux p level s).mirror = s.mirror ∧ (driveAux p level s).pending = s.pending := by
  unfold driveAux; (try dsimp only); (repeat' split) <;> simp

theorem auxEffect_frame (p : Nat) (v : Word) (s : State) :
    (auxEffect p v s).now = s.now ∧ (auxEffect p v s).frame = s.frame ∧ (auxEffect p v s).free = s.free ∧ (auxEffect p v s).regs = s.regs ∧
    (auxEffect p v s).vcp = s.vcp ∧ (auxEffect p v s).plant = s.plant ∧ (auxEffect p v s).broker = s.broker ∧
    (auxEffect p v s).valves = s.valves ∧ (auxEffect p v s).motors = s.motors ∧ (auxEffect p v s).senses = s.senses ∧
    (auxEffect p v s).pulses = s.pulses ∧ (auxEffect p v s).analogs = s.analogs ∧ (auxEffect p v s).cards = s.cards ∧
    (auxEffect p v s).service = s.service ∧ (auxEffect p v s).seqr = s.seqr ∧ (auxEffect p v s).dies = s.dies ∧
    (auxEffect p v s).clusters = s.clusters ∧ (auxEffect p v s).integ = s.integ ∧ (auxEffect p v s).copies = s.copies ∧
    (auxEffect p v s).pair = s.pair ∧ (auxEffect p v s).links = s.links ∧ (auxEffect p v s).hall = s.hall ∧
    (auxEffect p v s).buses = s.buses ∧ (auxEffect p v s).frameLog = s.frameLog ∧ (auxEffect p v s).power = s.power ∧
    (auxEffect p v s).ptp = s.ptp ∧ (auxEffect p v s).fans = s.fans ∧ (auxEffect p v s).upds = s.upds ∧ (auxEffect p v s).fw = s.fw ∧
    (auxEffect p v s).log = s.log ∧ (auxEffect p v s).bmu = s.bmu ∧ (auxEffect p v s).mirror = s.mirror ∧
    (auxEffect p v s).pending = s.pending := by
  have e1 := @startSwitch_frame
  have e2 := @driveAux_frame
  unfold auxEffect; (try dsimp only); (repeat' split) <;> simp [e1, e2]

theorem intEffect_frame (old new : Word) (s : State) :
    (intEffect old new s).now = s.now ∧ (intEffect old new s).frame = s.frame ∧ (intEffect old new s).free = s.free ∧
    (intEffect old new s).regs = s.regs ∧ (intEffect old new s).outbox = s.outbox ∧ (intEffect old new s).vcp = s.vcp ∧
    (intEffect old new s).plant = s.plant ∧ (intEffect old new s).broker = s.broker ∧ (intEffect old new s).valves = s.valves ∧
    (intEffect old new s).motors = s.motors ∧ (intEffect old new s).senses = s.senses ∧ (intEffect old new s).pulses = s.pulses ∧
    (intEffect old new s).analogs = s.analogs ∧ (intEffect old new s).auxs = s.auxs ∧ (intEffect old new s).cards = s.cards ∧
    (intEffect old new s).service = s.service ∧ (intEffect old new s).dies = s.dies ∧ (intEffect old new s).clusters = s.clusters ∧
    (intEffect old new s).copies = s.copies ∧ (intEffect old new s).pair = s.pair ∧ (intEffect old new s).links = s.links ∧
    (intEffect old new s).hall = s.hall ∧ (intEffect old new s).buses = s.buses ∧ (intEffect old new s).frameLog = s.frameLog ∧
    (intEffect old new s).power = s.power ∧ (intEffect old new s).ptp = s.ptp ∧ (intEffect old new s).fans = s.fans ∧
    (intEffect old new s).upds = s.upds ∧ (intEffect old new s).fw = s.fw ∧ (intEffect old new s).log = s.log ∧
    (intEffect old new s).bmu = s.bmu ∧ (intEffect old new s).mirror = s.mirror ∧ (intEffect old new s).pending = s.pending := by
  have e1 := @askPlacement_frame
  unfold intEffect; (try dsimp only); (repeat' split) <;> simp [e1]

theorem configEffect_frame (u off : Nat) (old new : Word) (before : Nat → Bool) (s : State) :
    (configEffect u off old new before s).now = s.now ∧ (configEffect u off old new before s).frame = s.frame ∧
    (configEffect u off old new before s).free = s.free ∧ (configEffect u off old new before s).broker = s.broker ∧
    (configEffect u off old new before s).valves = s.valves ∧ (configEffect u off old new before s).motors = s.motors ∧
    (configEffect u off old new before s).senses = s.senses ∧ (configEffect u off old new before s).pulses = s.pulses ∧
    (configEffect u off old new before s).analogs = s.analogs ∧ (configEffect u off old new before s).cards = s.cards ∧
    (configEffect u off old new before s).service = s.service ∧ (configEffect u off old new before s).dies = s.dies ∧
    (configEffect u off old new before s).clusters = s.clusters ∧ (configEffect u off old new before s).copies = s.copies ∧
    (configEffect u off old new before s).pair = s.pair ∧ (configEffect u off old new before s).links = s.links ∧
    (configEffect u off old new before s).hall = s.hall ∧ (configEffect u off old new before s).frameLog = s.frameLog ∧
    (configEffect u off old new before s).power = s.power ∧ (configEffect u off old new before s).ptp = s.ptp ∧
    (configEffect u off old new before s).fans = s.fans ∧ (configEffect u off old new before s).fw = s.fw ∧
    (configEffect u off old new before s).bmu = s.bmu ∧ (configEffect u off old new before s).mirror = s.mirror ∧
    (configEffect u off old new before s).pending = s.pending := by
  have e1 := @endServiceSessions_frame
  have e2 := @followPaths_frame
  have e3 := @joinBus_frame
  have e4 := @leaveBus_frame
  have e5 := @intEffect_frame
  have e6 := @auxEffect_frame
  unfold configEffect; (try dsimp only); (repeat' split) <;> simp [e1, e2, e3, e4, e5, e6]

theorem sendConfig_frame (u : Nat) (s : State) :
    (sendConfig u s).now = s.now ∧ (sendConfig u s).frame = s.frame ∧ (sendConfig u s).free = s.free ∧ (sendConfig u s).regs = s.regs ∧
    (sendConfig u s).outbox = s.outbox ∧ (sendConfig u s).vcp = s.vcp ∧ (sendConfig u s).plant = s.plant ∧
    (sendConfig u s).broker = s.broker ∧ (sendConfig u s).valves = s.valves ∧ (sendConfig u s).motors = s.motors ∧
    (sendConfig u s).senses = s.senses ∧ (sendConfig u s).pulses = s.pulses ∧ (sendConfig u s).analogs = s.analogs ∧
    (sendConfig u s).auxs = s.auxs ∧ (sendConfig u s).cards = s.cards ∧ (sendConfig u s).seqr = s.seqr ∧ (sendConfig u s).dies = s.dies ∧
    (sendConfig u s).clusters = s.clusters ∧ (sendConfig u s).integ = s.integ ∧ (sendConfig u s).copies = s.copies ∧
    (sendConfig u s).pair = s.pair ∧ (sendConfig u s).links = s.links ∧ (sendConfig u s).hall = s.hall ∧ (sendConfig u s).buses = s.buses ∧
    (sendConfig u s).frameLog = s.frameLog ∧ (sendConfig u s).power = s.power ∧ (sendConfig u s).ptp = s.ptp ∧
    (sendConfig u s).fans = s.fans ∧ (sendConfig u s).upds = s.upds ∧ (sendConfig u s).fw = s.fw ∧ (sendConfig u s).log = s.log ∧
    (sendConfig u s).bmu = s.bmu ∧ (sendConfig u s).mirror = s.mirror ∧ (sendConfig u s).pending = s.pending := by
  unfold sendConfig; (try dsimp only); (repeat' split) <;> simp

theorem storeConfig_frame (u off : Nat) (v : Word) (s : State) :
    (storeConfig u off v s).now = s.now ∧ (storeConfig u off v s).frame = s.frame ∧ (storeConfig u off v s).free = s.free ∧
    (storeConfig u off v s).broker = s.broker ∧ (storeConfig u off v s).valves = s.valves ∧ (storeConfig u off v s).motors = s.motors ∧
    (storeConfig u off v s).senses = s.senses ∧ (storeConfig u off v s).pulses = s.pulses ∧ (storeConfig u off v s).analogs = s.analogs ∧
    (storeConfig u off v s).cards = s.cards ∧ (storeConfig u off v s).dies = s.dies ∧ (storeConfig u off v s).clusters = s.clusters ∧
    (storeConfig u off v s).copies = s.copies ∧ (storeConfig u off v s).pair = s.pair ∧ (storeConfig u off v s).links = s.links ∧
    (storeConfig u off v s).hall = s.hall ∧ (storeConfig u off v s).frameLog = s.frameLog ∧ (storeConfig u off v s).power = s.power ∧
    (storeConfig u off v s).ptp = s.ptp ∧ (storeConfig u off v s).fans = s.fans ∧ (storeConfig u off v s).fw = s.fw ∧
    (storeConfig u off v s).bmu = s.bmu ∧ (storeConfig u off v s).mirror = s.mirror ∧ (storeConfig u off v s).pending = s.pending := by
  have e1 := @sendConfig_frame
  have e2 := @configEffect_frame
  unfold storeConfig; (try dsimp only); (repeat' split) <;> simp [e1, e2]

theorem writeConfig_frame (u off : Nat) (v : Word) (s : State) :
    (writeConfig u off v s).now = s.now ∧ (writeConfig u off v s).frame = s.frame ∧ (writeConfig u off v s).free = s.free ∧
    (writeConfig u off v s).broker = s.broker ∧ (writeConfig u off v s).valves = s.valves ∧ (writeConfig u off v s).motors = s.motors ∧
    (writeConfig u off v s).senses = s.senses ∧ (writeConfig u off v s).pulses = s.pulses ∧ (writeConfig u off v s).analogs = s.analogs ∧
    (writeConfig u off v s).cards = s.cards ∧ (writeConfig u off v s).dies = s.dies ∧ (writeConfig u off v s).clusters = s.clusters ∧
    (writeConfig u off v s).copies = s.copies ∧ (writeConfig u off v s).pair = s.pair ∧ (writeConfig u off v s).links = s.links ∧
    (writeConfig u off v s).hall = s.hall ∧ (writeConfig u off v s).frameLog = s.frameLog ∧ (writeConfig u off v s).power = s.power ∧
    (writeConfig u off v s).ptp = s.ptp ∧ (writeConfig u off v s).fans = s.fans ∧ (writeConfig u off v s).fw = s.fw ∧
    (writeConfig u off v s).bmu = s.bmu ∧ (writeConfig u off v s).mirror = s.mirror ∧ (writeConfig u off v s).pending = s.pending := by
  have e1 := @storeConfig_frame
  unfold writeConfig; (try dsimp only); (repeat' split) <;> simp [e1]

theorem setVfd_frame (set : BitVec 8) (s : State) :
    (setVfd set s).now = s.now ∧ (setVfd set s).frame = s.frame ∧ (setVfd set s).free = s.free ∧ (setVfd set s).regs = s.regs ∧
    (setVfd set s).outbox = s.outbox ∧ (setVfd set s).vcp = s.vcp ∧ (setVfd set s).broker = s.broker ∧ (setVfd set s).valves = s.valves ∧
    (setVfd set s).motors = s.motors ∧ (setVfd set s).senses = s.senses ∧ (setVfd set s).pulses = s.pulses ∧
    (setVfd set s).analogs = s.analogs ∧ (setVfd set s).auxs = s.auxs ∧ (setVfd set s).cards = s.cards ∧
    (setVfd set s).service = s.service ∧ (setVfd set s).seqr = s.seqr ∧ (setVfd set s).dies = s.dies ∧
    (setVfd set s).clusters = s.clusters ∧ (setVfd set s).integ = s.integ ∧ (setVfd set s).copies = s.copies ∧
    (setVfd set s).pair = s.pair ∧ (setVfd set s).links = s.links ∧ (setVfd set s).hall = s.hall ∧ (setVfd set s).buses = s.buses ∧
    (setVfd set s).frameLog = s.frameLog ∧ (setVfd set s).power = s.power ∧ (setVfd set s).ptp = s.ptp ∧ (setVfd set s).fans = s.fans ∧
    (setVfd set s).upds = s.upds ∧ (setVfd set s).fw = s.fw ∧ (setVfd set s).log = s.log ∧ (setVfd set s).bmu = s.bmu ∧
    (setVfd set s).mirror = s.mirror ∧ (setVfd set s).pending = s.pending := by
  have e1 := @setUse_frame
  unfold setVfd; (try dsimp only); (repeat' split) <;> simp [e1]

theorem writeSite_frame (i : SiteItem) (s : State) :
    (writeSite i s).now = s.now ∧ (writeSite i s).frame = s.frame ∧ (writeSite i s).free = s.free ∧ (writeSite i s).regs = s.regs ∧
    (writeSite i s).outbox = s.outbox ∧ (writeSite i s).vcp = s.vcp ∧ (writeSite i s).broker = s.broker ∧
    (writeSite i s).valves = s.valves ∧ (writeSite i s).motors = s.motors ∧ (writeSite i s).senses = s.senses ∧
    (writeSite i s).pulses = s.pulses ∧ (writeSite i s).analogs = s.analogs ∧ (writeSite i s).auxs = s.auxs ∧
    (writeSite i s).cards = s.cards ∧ (writeSite i s).service = s.service ∧ (writeSite i s).seqr = s.seqr ∧ (writeSite i s).dies = s.dies ∧
    (writeSite i s).clusters = s.clusters ∧ (writeSite i s).integ = s.integ ∧ (writeSite i s).copies = s.copies ∧
    (writeSite i s).pair = s.pair ∧ (writeSite i s).links = s.links ∧ (writeSite i s).hall = s.hall ∧ (writeSite i s).buses = s.buses ∧
    (writeSite i s).frameLog = s.frameLog ∧ (writeSite i s).power = s.power ∧ (writeSite i s).ptp = s.ptp ∧ (writeSite i s).fans = s.fans ∧
    (writeSite i s).upds = s.upds ∧ (writeSite i s).fw = s.fw ∧ (writeSite i s).log = s.log ∧ (writeSite i s).bmu = s.bmu ∧
    (writeSite i s).mirror = s.mirror ∧ (writeSite i s).pending = s.pending := by
  have e1 := @setVfd_frame
  unfold writeSite; (try dsimp only); (repeat' split) <;> simp [e1]

theorem chainFlash_frame (msg : FlashMsg) (s : State) :
    (chainFlash msg s).now = s.now ∧ (chainFlash msg s).frame = s.frame ∧ (chainFlash msg s).free = s.free ∧
    (chainFlash msg s).regs = s.regs ∧ (chainFlash msg s).outbox = s.outbox ∧ (chainFlash msg s).vcp = s.vcp ∧
    (chainFlash msg s).plant = s.plant ∧ (chainFlash msg s).broker = s.broker ∧ (chainFlash msg s).valves = s.valves ∧
    (chainFlash msg s).motors = s.motors ∧ (chainFlash msg s).senses = s.senses ∧ (chainFlash msg s).pulses = s.pulses ∧
    (chainFlash msg s).analogs = s.analogs ∧ (chainFlash msg s).auxs = s.auxs ∧ (chainFlash msg s).cards = s.cards ∧
    (chainFlash msg s).service = s.service ∧ (chainFlash msg s).seqr = s.seqr ∧ (chainFlash msg s).dies = s.dies ∧
    (chainFlash msg s).clusters = s.clusters ∧ (chainFlash msg s).integ = s.integ ∧ (chainFlash msg s).copies = s.copies ∧
    (chainFlash msg s).links = s.links ∧ (chainFlash msg s).hall = s.hall ∧ (chainFlash msg s).buses = s.buses ∧
    (chainFlash msg s).frameLog = s.frameLog ∧ (chainFlash msg s).power = s.power ∧ (chainFlash msg s).ptp = s.ptp ∧
    (chainFlash msg s).fans = s.fans ∧ (chainFlash msg s).upds = s.upds ∧ (chainFlash msg s).fw = s.fw ∧ (chainFlash msg s).log = s.log ∧
    (chainFlash msg s).bmu = s.bmu ∧ (chainFlash msg s).mirror = s.mirror ∧ (chainFlash msg s).pending = s.pending := by
  unfold chainFlash; (try dsimp only); (repeat' split) <;> simp

theorem hubReset_frame (s : State) :
    (hubReset s).now = s.now ∧ (hubReset s).frame = s.frame ∧ (hubReset s).pending = s.pending := by
  have e1 := @powerDown_frame
  have e2 := @startFirmware_frame
  unfold hubReset; (try dsimp only); (repeat' split) <;> simp [e1, e2]

theorem resendGrants_frame (s : State) :
    (resendGrants s).now = s.now ∧ (resendGrants s).frame = s.frame ∧ (resendGrants s).regs = s.regs ∧ (resendGrants s).vcp = s.vcp ∧
    (resendGrants s).plant = s.plant ∧ (resendGrants s).valves = s.valves ∧ (resendGrants s).motors = s.motors ∧
    (resendGrants s).senses = s.senses ∧ (resendGrants s).pulses = s.pulses ∧ (resendGrants s).analogs = s.analogs ∧
    (resendGrants s).auxs = s.auxs ∧ (resendGrants s).cards = s.cards ∧ (resendGrants s).service = s.service ∧
    (resendGrants s).seqr = s.seqr ∧ (resendGrants s).dies = s.dies ∧ (resendGrants s).clusters = s.clusters ∧
    (resendGrants s).integ = s.integ ∧ (resendGrants s).copies = s.copies ∧ (resendGrants s).pair = s.pair ∧
    (resendGrants s).links = s.links ∧ (resendGrants s).hall = s.hall ∧ (resendGrants s).buses = s.buses ∧
    (resendGrants s).frameLog = s.frameLog ∧ (resendGrants s).power = s.power ∧ (resendGrants s).ptp = s.ptp ∧
    (resendGrants s).fans = s.fans ∧ (resendGrants s).upds = s.upds ∧ (resendGrants s).fw = s.fw ∧ (resendGrants s).log = s.log ∧
    (resendGrants s).bmu = s.bmu ∧ (resendGrants s).mirror = s.mirror ∧ (resendGrants s).pending = s.pending := by
  have e1 := @sendGrant_frame
  unfold resendGrants; (try dsimp only); (repeat' split) <;> simp [e1]

theorem adoptPull_frame (e : ValveCopy) (s : State) :
    (adoptPull e s).now = s.now ∧ (adoptPull e s).frame = s.frame ∧ (adoptPull e s).free = s.free ∧ (adoptPull e s).outbox = s.outbox ∧
    (adoptPull e s).vcp = s.vcp ∧ (adoptPull e s).plant = s.plant ∧ (adoptPull e s).broker = s.broker ∧ (adoptPull e s).motors = s.motors ∧
    (adoptPull e s).senses = s.senses ∧ (adoptPull e s).pulses = s.pulses ∧ (adoptPull e s).analogs = s.analogs ∧
    (adoptPull e s).auxs = s.auxs ∧ (adoptPull e s).cards = s.cards ∧ (adoptPull e s).service = s.service ∧ (adoptPull e s).seqr = s.seqr ∧
    (adoptPull e s).dies = s.dies ∧ (adoptPull e s).clusters = s.clusters ∧ (adoptPull e s).integ = s.integ ∧
    (adoptPull e s).copies = s.copies ∧ (adoptPull e s).pair = s.pair ∧ (adoptPull e s).links = s.links ∧ (adoptPull e s).hall = s.hall ∧
    (adoptPull e s).buses = s.buses ∧ (adoptPull e s).frameLog = s.frameLog ∧ (adoptPull e s).power = s.power ∧
    (adoptPull e s).ptp = s.ptp ∧ (adoptPull e s).fans = s.fans ∧ (adoptPull e s).upds = s.upds ∧ (adoptPull e s).fw = s.fw ∧
    (adoptPull e s).log = s.log ∧ (adoptPull e s).bmu = s.bmu ∧ (adoptPull e s).mirror = s.mirror ∧
    (adoptPull e s).pending = s.pending := by
  unfold adoptPull; (try dsimp only); (repeat' split) <;> simp

theorem adoptHold_frame (s : State) :
    (adoptHold s).now = s.now ∧ (adoptHold s).frame = s.frame ∧ (adoptHold s).free = s.free ∧ (adoptHold s).outbox = s.outbox ∧
    (adoptHold s).vcp = s.vcp ∧ (adoptHold s).broker = s.broker ∧ (adoptHold s).senses = s.senses ∧ (adoptHold s).pulses = s.pulses ∧
    (adoptHold s).auxs = s.auxs ∧ (adoptHold s).service = s.service ∧ (adoptHold s).seqr = s.seqr ∧ (adoptHold s).dies = s.dies ∧
    (adoptHold s).clusters = s.clusters ∧ (adoptHold s).integ = s.integ ∧ (adoptHold s).copies = s.copies ∧ (adoptHold s).pair = s.pair ∧
    (adoptHold s).links = s.links ∧ (adoptHold s).hall = s.hall ∧ (adoptHold s).buses = s.buses ∧ (adoptHold s).frameLog = s.frameLog ∧
    (adoptHold s).power = s.power ∧ (adoptHold s).ptp = s.ptp ∧ (adoptHold s).fans = s.fans ∧ (adoptHold s).upds = s.upds ∧
    (adoptHold s).fw = s.fw ∧ (adoptHold s).log = s.log ∧ (adoptHold s).bmu = s.bmu ∧ (adoptHold s).mirror = s.mirror ∧
    (adoptHold s).pending = s.pending := by
  have e1 := @adoptPull_frame
  have e2 := @applyChan_frame
  have e3 := @demand_frame
  unfold adoptHold
  (try dsimp only)
  simp (disch := (first | (intros; (repeat' split) <;> simp [e1, e2, e3]; done) | fail)) [e1, e2, e3]
  split <;> simp (disch := (first | (intros; (repeat' split) <;> simp [e1, e2, e3]; done) | fail)) [e1, e2, e3]

theorem takeForwarded_frame (s : State) :
    (takeForwarded s).now = s.now ∧ (takeForwarded s).frame = s.frame ∧ (takeForwarded s).free = s.free ∧ (takeForwarded s).regs = s.regs ∧
    (takeForwarded s).outbox = s.outbox ∧ (takeForwarded s).vcp = s.vcp ∧ (takeForwarded s).broker = s.broker ∧
    (takeForwarded s).valves = s.valves ∧ (takeForwarded s).motors = s.motors ∧ (takeForwarded s).senses = s.senses ∧
    (takeForwarded s).pulses = s.pulses ∧ (takeForwarded s).analogs = s.analogs ∧ (takeForwarded s).auxs = s.auxs ∧
    (takeForwarded s).cards = s.cards ∧ (takeForwarded s).service = s.service ∧ (takeForwarded s).seqr = s.seqr ∧
    (takeForwarded s).dies = s.dies ∧ (takeForwarded s).clusters = s.clusters ∧ (takeForwarded s).integ = s.integ ∧
    (takeForwarded s).copies = s.copies ∧ (takeForwarded s).pair = s.pair ∧ (takeForwarded s).links = s.links ∧
    (takeForwarded s).hall = s.hall ∧ (takeForwarded s).buses = s.buses ∧ (takeForwarded s).frameLog = s.frameLog ∧
    (takeForwarded s).power = s.power ∧ (takeForwarded s).ptp = s.ptp ∧ (takeForwarded s).fans = s.fans ∧ (takeForwarded s).upds = s.upds ∧
    (takeForwarded s).fw = s.fw ∧ (takeForwarded s).log = s.log ∧ (takeForwarded s).bmu = s.bmu ∧ (takeForwarded s).mirror = s.mirror ∧
    (takeForwarded s).pending = s.pending := by
  unfold takeForwarded; (try dsimp only); (repeat' split) <;> simp

theorem warmClaim_frame (s : State) :
    (warmClaim s).now = s.now ∧ (warmClaim s).frame = s.frame ∧ (warmClaim s).free = s.free ∧ (warmClaim s).regs = s.regs ∧
    (warmClaim s).outbox = s.outbox ∧ (warmClaim s).vcp = s.vcp ∧ (warmClaim s).broker = s.broker ∧ (warmClaim s).valves = s.valves ∧
    (warmClaim s).motors = s.motors ∧ (warmClaim s).senses = s.senses ∧ (warmClaim s).pulses = s.pulses ∧
    (warmClaim s).analogs = s.analogs ∧ (warmClaim s).auxs = s.auxs ∧ (warmClaim s).cards = s.cards ∧ (warmClaim s).service = s.service ∧
    (warmClaim s).seqr = s.seqr ∧ (warmClaim s).dies = s.dies ∧ (warmClaim s).clusters = s.clusters ∧ (warmClaim s).copies = s.copies ∧
    (warmClaim s).pair = s.pair ∧ (warmClaim s).links = s.links ∧ (warmClaim s).hall = s.hall ∧ (warmClaim s).buses = s.buses ∧
    (warmClaim s).frameLog = s.frameLog ∧ (warmClaim s).power = s.power ∧ (warmClaim s).ptp = s.ptp ∧ (warmClaim s).fans = s.fans ∧
    (warmClaim s).upds = s.upds ∧ (warmClaim s).fw = s.fw ∧ (warmClaim s).log = s.log ∧ (warmClaim s).bmu = s.bmu ∧
    (warmClaim s).mirror = s.mirror ∧ (warmClaim s).pending = s.pending := by
  have e1 := @takeForwarded_frame
  have e2 := @piStart_frame
  unfold warmClaim; (try dsimp only); (repeat' split) <;> simp [e1, e2]

theorem coldClaim_frame (s : State) :
    (coldClaim s).now = s.now ∧ (coldClaim s).frame = s.frame ∧ (coldClaim s).valves = s.valves ∧ (coldClaim s).senses = s.senses ∧
    (coldClaim s).pulses = s.pulses ∧ (coldClaim s).analogs = s.analogs ∧ (coldClaim s).auxs = s.auxs ∧ (coldClaim s).cards = s.cards ∧
    (coldClaim s).service = s.service ∧ (coldClaim s).clusters = s.clusters ∧ (coldClaim s).pair = s.pair ∧ (coldClaim s).links = s.links ∧
    (coldClaim s).hall = s.hall ∧ (coldClaim s).buses = s.buses ∧ (coldClaim s).frameLog = s.frameLog ∧ (coldClaim s).power = s.power ∧
    (coldClaim s).ptp = s.ptp ∧ (coldClaim s).fans = s.fans ∧ (coldClaim s).upds = s.upds ∧ (coldClaim s).fw = s.fw ∧
    (coldClaim s).bmu = s.bmu ∧ (coldClaim s).mirror = s.mirror ∧ (coldClaim s).pending = s.pending := by
  have e1 := @takeForwarded_frame
  have e2 := @changeMode_frame
  have e3 := @setDies_frame
  have e4 := @stopLegs_frame
  have e5 := @loaded_frame
  have e6 := @startTraverse_frame
  unfold coldClaim; (try dsimp only); (repeat' split) <;> simp [e1, e2, e3, e4, e5, e6]

theorem nameRestore_frame (s : State) :
    (nameRestore s).now = s.now ∧ (nameRestore s).frame = s.frame ∧ (nameRestore s).free = s.free ∧ (nameRestore s).regs = s.regs ∧
    (nameRestore s).vcp = s.vcp ∧ (nameRestore s).plant = s.plant ∧ (nameRestore s).broker = s.broker ∧ (nameRestore s).valves = s.valves ∧
    (nameRestore s).motors = s.motors ∧ (nameRestore s).senses = s.senses ∧ (nameRestore s).pulses = s.pulses ∧
    (nameRestore s).analogs = s.analogs ∧ (nameRestore s).auxs = s.auxs ∧ (nameRestore s).cards = s.cards ∧
    (nameRestore s).service = s.service ∧ (nameRestore s).dies = s.dies ∧ (nameRestore s).clusters = s.clusters ∧
    (nameRestore s).integ = s.integ ∧ (nameRestore s).copies = s.copies ∧ (nameRestore s).pair = s.pair ∧ (nameRestore s).buses = s.buses ∧
    (nameRestore s).frameLog = s.frameLog ∧ (nameRestore s).power = s.power ∧ (nameRestore s).ptp = s.ptp ∧ (nameRestore s).fans = s.fans ∧
    (nameRestore s).upds = s.upds ∧ (nameRestore s).fw = s.fw ∧ (nameRestore s).log = s.log ∧ (nameRestore s).bmu = s.bmu ∧
    (nameRestore s).mirror = s.mirror ∧ (nameRestore s).pending = s.pending := by
  have e1 := @hallRestore_frame
  unfold nameRestore; (try dsimp only); (repeat' split) <;> simp [e1]

theorem hallClaim_frame (s : State) :
    (hallClaim s).now = s.now ∧ (hallClaim s).frame = s.frame ∧ (hallClaim s).free = s.free ∧ (hallClaim s).regs = s.regs ∧
    (hallClaim s).vcp = s.vcp ∧ (hallClaim s).plant = s.plant ∧ (hallClaim s).broker = s.broker ∧ (hallClaim s).valves = s.valves ∧
    (hallClaim s).motors = s.motors ∧ (hallClaim s).senses = s.senses ∧ (hallClaim s).pulses = s.pulses ∧
    (hallClaim s).analogs = s.analogs ∧ (hallClaim s).auxs = s.auxs ∧ (hallClaim s).cards = s.cards ∧ (hallClaim s).service = s.service ∧
    (hallClaim s).dies = s.dies ∧ (hallClaim s).clusters = s.clusters ∧ (hallClaim s).integ = s.integ ∧ (hallClaim s).copies = s.copies ∧
    (hallClaim s).buses = s.buses ∧ (hallClaim s).frameLog = s.frameLog ∧ (hallClaim s).power = s.power ∧ (hallClaim s).ptp = s.ptp ∧
    (hallClaim s).fans = s.fans ∧ (hallClaim s).upds = s.upds ∧ (hallClaim s).fw = s.fw ∧ (hallClaim s).log = s.log ∧
    (hallClaim s).bmu = s.bmu ∧ (hallClaim s).mirror = s.mirror ∧ (hallClaim s).pending = s.pending := by
  have e1 := @nameRestore_frame
  unfold hallClaim; (try dsimp only); (repeat' split) <;> simp [e1]

theorem takeLamp_frame (s : State) :
    (takeLamp s).now = s.now ∧ (takeLamp s).frame = s.frame ∧ (takeLamp s).senses = s.senses ∧ (takeLamp s).pulses = s.pulses ∧
    (takeLamp s).auxs = s.auxs ∧ (takeLamp s).service = s.service ∧ (takeLamp s).clusters = s.clusters ∧
    (takeLamp s).frameLog = s.frameLog ∧ (takeLamp s).power = s.power ∧ (takeLamp s).ptp = s.ptp ∧ (takeLamp s).fans = s.fans ∧
    (takeLamp s).upds = s.upds ∧ (takeLamp s).fw = s.fw ∧ (takeLamp s).bmu = s.bmu ∧ (takeLamp s).mirror = s.mirror ∧
    (takeLamp s).pending = s.pending := by
  have e1 := @startBuses_frame
  have e2 := @adoptHold_frame
  have e3 := @hallClaim_frame
  have e4 := @warmClaim_frame
  have e5 := @coldClaim_frame
  have e6 := @driveBeacons_frame
  have e7 := @resendGrants_frame
  unfold takeLamp; (try dsimp only); (repeat' split) <;> simp [e1, e2, e3, e4, e5, e6, e7]

theorem yieldLamp_frame (s : State) :
    (yieldLamp s).now = s.now ∧ (yieldLamp s).frame = s.frame ∧ (yieldLamp s).free = s.free ∧ (yieldLamp s).plant = s.plant ∧
    (yieldLamp s).broker = s.broker ∧ (yieldLamp s).valves = s.valves ∧ (yieldLamp s).motors = s.motors ∧ (yieldLamp s).senses = s.senses ∧
    (yieldLamp s).pulses = s.pulses ∧ (yieldLamp s).analogs = s.analogs ∧ (yieldLamp s).auxs = s.auxs ∧ (yieldLamp s).cards = s.cards ∧
    (yieldLamp s).service = s.service ∧ (yieldLamp s).dies = s.dies ∧ (yieldLamp s).clusters = s.clusters ∧ (yieldLamp s).integ = s.integ ∧
    (yieldLamp s).copies = s.copies ∧ (yieldLamp s).links = s.links ∧ (yieldLamp s).hall = s.hall ∧ (yieldLamp s).frameLog = s.frameLog ∧
    (yieldLamp s).power = s.power ∧ (yieldLamp s).ptp = s.ptp ∧ (yieldLamp s).fans = s.fans ∧ (yieldLamp s).upds = s.upds ∧
    (yieldLamp s).fw = s.fw ∧ (yieldLamp s).bmu = s.bmu ∧ (yieldLamp s).mirror = s.mirror ∧ (yieldLamp s).pending = s.pending := by
  have e1 := @dropTx_frame
  unfold yieldLamp; (try dsimp only); (repeat' split) <;> simp [e1]

theorem handoverEnds_frame (s : State) :
    (handoverEnds s).now = s.now ∧ (handoverEnds s).frame = s.frame ∧ (handoverEnds s).free = s.free ∧ (handoverEnds s).plant = s.plant ∧
    (handoverEnds s).broker = s.broker ∧ (handoverEnds s).valves = s.valves ∧ (handoverEnds s).motors = s.motors ∧
    (handoverEnds s).senses = s.senses ∧ (handoverEnds s).pulses = s.pulses ∧ (handoverEnds s).analogs = s.analogs ∧
    (handoverEnds s).auxs = s.auxs ∧ (handoverEnds s).cards = s.cards ∧ (handoverEnds s).service = s.service ∧
    (handoverEnds s).dies = s.dies ∧ (handoverEnds s).clusters = s.clusters ∧ (handoverEnds s).integ = s.integ ∧
    (handoverEnds s).copies = s.copies ∧ (handoverEnds s).links = s.links ∧ (handoverEnds s).hall = s.hall ∧
    (handoverEnds s).frameLog = s.frameLog ∧ (handoverEnds s).power = s.power ∧ (handoverEnds s).ptp = s.ptp ∧
    (handoverEnds s).fans = s.fans ∧ (handoverEnds s).upds = s.upds ∧ (handoverEnds s).fw = s.fw ∧ (handoverEnds s).bmu = s.bmu ∧
    (handoverEnds s).mirror = s.mirror ∧ (handoverEnds s).pending = s.pending := by
  have e1 := @yieldLamp_frame
  unfold handoverEnds; (try dsimp only); (repeat' split) <;> simp [e1]

theorem watchHealth_frame (s : State) :
    (watchHealth s).now = s.now ∧ (watchHealth s).frame = s.frame ∧ (watchHealth s).free = s.free ∧ (watchHealth s).plant = s.plant ∧
    (watchHealth s).broker = s.broker ∧ (watchHealth s).valves = s.valves ∧ (watchHealth s).motors = s.motors ∧
    (watchHealth s).senses = s.senses ∧ (watchHealth s).pulses = s.pulses ∧ (watchHealth s).analogs = s.analogs ∧
    (watchHealth s).auxs = s.auxs ∧ (watchHealth s).cards = s.cards ∧ (watchHealth s).service = s.service ∧ (watchHealth s).seqr = s.seqr ∧
    (watchHealth s).dies = s.dies ∧ (watchHealth s).clusters = s.clusters ∧ (watchHealth s).integ = s.integ ∧
    (watchHealth s).copies = s.copies ∧ (watchHealth s).links = s.links ∧ (watchHealth s).hall = s.hall ∧ (watchHealth s).buses = s.buses ∧
    (watchHealth s).frameLog = s.frameLog ∧ (watchHealth s).power = s.power ∧ (watchHealth s).ptp = s.ptp ∧ (watchHealth s).fans = s.fans ∧
    (watchHealth s).upds = s.upds ∧ (watchHealth s).fw = s.fw ∧ (watchHealth s).log = s.log ∧ (watchHealth s).bmu = s.bmu ∧
    (watchHealth s).mirror = s.mirror ∧ (watchHealth s).pending = s.pending := by
  unfold watchHealth; (try dsimp only); (repeat' split) <;> simp

theorem storeCkpt_frame (c : Ckpt) (s : State) :
    (storeCkpt c s).now = s.now ∧ (storeCkpt c s).frame = s.frame ∧ (storeCkpt c s).free = s.free ∧ (storeCkpt c s).regs = s.regs ∧
    (storeCkpt c s).outbox = s.outbox ∧ (storeCkpt c s).vcp = s.vcp ∧ (storeCkpt c s).plant = s.plant ∧ (storeCkpt c s).broker = s.broker ∧
    (storeCkpt c s).valves = s.valves ∧ (storeCkpt c s).motors = s.motors ∧ (storeCkpt c s).senses = s.senses ∧
    (storeCkpt c s).pulses = s.pulses ∧ (storeCkpt c s).analogs = s.analogs ∧ (storeCkpt c s).auxs = s.auxs ∧
    (storeCkpt c s).cards = s.cards ∧ (storeCkpt c s).service = s.service ∧ (storeCkpt c s).dies = s.dies ∧
    (storeCkpt c s).clusters = s.clusters ∧ (storeCkpt c s).integ = s.integ ∧ (storeCkpt c s).copies = s.copies ∧
    (storeCkpt c s).pair = s.pair ∧ (storeCkpt c s).links = s.links ∧ (storeCkpt c s).hall = s.hall ∧ (storeCkpt c s).buses = s.buses ∧
    (storeCkpt c s).frameLog = s.frameLog ∧ (storeCkpt c s).power = s.power ∧ (storeCkpt c s).ptp = s.ptp ∧ (storeCkpt c s).fans = s.fans ∧
    (storeCkpt c s).upds = s.upds ∧ (storeCkpt c s).fw = s.fw ∧ (storeCkpt c s).log = s.log ∧ (storeCkpt c s).bmu = s.bmu ∧
    (storeCkpt c s).mirror = s.mirror ∧ (storeCkpt c s).pending = s.pending := by
  unfold storeCkpt; (try dsimp only); (repeat' split) <;> simp

theorem mirrorMismatch_frame (s : State) :
    (mirrorMismatch s).now = s.now ∧ (mirrorMismatch s).frame = s.frame ∧ (mirrorMismatch s).free = s.free ∧
    (mirrorMismatch s).plant = s.plant ∧ (mirrorMismatch s).broker = s.broker ∧ (mirrorMismatch s).valves = s.valves ∧
    (mirrorMismatch s).motors = s.motors ∧ (mirrorMismatch s).senses = s.senses ∧ (mirrorMismatch s).pulses = s.pulses ∧
    (mirrorMismatch s).analogs = s.analogs ∧ (mirrorMismatch s).auxs = s.auxs ∧ (mirrorMismatch s).cards = s.cards ∧
    (mirrorMismatch s).service = s.service ∧ (mirrorMismatch s).seqr = s.seqr ∧ (mirrorMismatch s).dies = s.dies ∧
    (mirrorMismatch s).clusters = s.clusters ∧ (mirrorMismatch s).copies = s.copies ∧ (mirrorMismatch s).links = s.links ∧
    (mirrorMismatch s).hall = s.hall ∧ (mirrorMismatch s).buses = s.buses ∧ (mirrorMismatch s).frameLog = s.frameLog ∧
    (mirrorMismatch s).power = s.power ∧ (mirrorMismatch s).ptp = s.ptp ∧ (mirrorMismatch s).fans = s.fans ∧
    (mirrorMismatch s).upds = s.upds ∧ (mirrorMismatch s).fw = s.fw ∧ (mirrorMismatch s).bmu = s.bmu ∧
    (mirrorMismatch s).mirror = s.mirror ∧ (mirrorMismatch s).pending = s.pending := by
  have e1 := @leaveMirror_frame
  have e2 := @intEvent_frame
  unfold mirrorMismatch; (try dsimp only); (repeat' split) <;> simp [e1, e2]

theorem forwardedReadings_frame (values : List (Nat × InputVal)) (s : State) :
    (forwardedReadings values s).now = s.now ∧ (forwardedReadings values s).frame = s.frame ∧ (forwardedReadings values s).free = s.free ∧
    (forwardedReadings values s).regs = s.regs ∧ (forwardedReadings values s).outbox = s.outbox ∧ (forwardedReadings values s).vcp = s.vcp ∧
    (forwardedReadings values s).valves = s.valves ∧ (forwardedReadings values s).motors = s.motors ∧
    (forwardedReadings values s).senses = s.senses ∧ (forwardedReadings values s).pulses = s.pulses ∧
    (forwardedReadings values s).analogs = s.analogs ∧ (forwardedReadings values s).auxs = s.auxs ∧
    (forwardedReadings values s).cards = s.cards ∧ (forwardedReadings values s).service = s.service ∧
    (forwardedReadings values s).seqr = s.seqr ∧ (forwardedReadings values s).dies = s.dies ∧
    (forwardedReadings values s).clusters = s.clusters ∧ (forwardedReadings values s).integ = s.integ ∧
    (forwardedReadings values s).copies = s.copies ∧ (forwardedReadings values s).pair = s.pair ∧
    (forwardedReadings values s).links = s.links ∧ (forwardedReadings values s).hall = s.hall ∧
    (forwardedReadings values s).buses = s.buses ∧ (forwardedReadings values s).frameLog = s.frameLog ∧
    (forwardedReadings values s).power = s.power ∧ (forwardedReadings values s).ptp = s.ptp ∧ (forwardedReadings values s).fans = s.fans ∧
    (forwardedReadings values s).upds = s.upds ∧ (forwardedReadings values s).fw = s.fw ∧ (forwardedReadings values s).log = s.log ∧
    (forwardedReadings values s).bmu = s.bmu ∧ (forwardedReadings values s).mirror = s.mirror ∧
    (forwardedReadings values s).pending = s.pending := by
  have e1 := @takeReading_frame
  unfold forwardedReadings
  refine ⟨forEach_now _ _ _ ?_, forEach_frame _ _ _ ?_, forEach_free _ _ _ ?_, forEach_regs _ _ _ ?_, forEach_outbox _ _ _ ?_, forEach_vcp _ _ _ ?_, forEach_valves _ _ _ ?_, forEach_motors _ _ _ ?_, forEach_senses _ _ _ ?_, forEach_pulses _ _ _ ?_, forEach_analogs _ _ _ ?_, forEach_auxs _ _ _ ?_, forEach_cards _ _ _ ?_, forEach_service _ _ _ ?_, forEach_seqr _ _ _ ?_, forEach_dies _ _ _ ?_, forEach_clusters _ _ _ ?_, forEach_integ _ _ _ ?_, forEach_copies _ _ _ ?_, forEach_pair _ _ _ ?_, forEach_links _ _ _ ?_, forEach_hall _ _ _ ?_, forEach_buses _ _ _ ?_, forEach_frameLog _ _ _ ?_, forEach_power _ _ _ ?_, forEach_ptp _ _ _ ?_, forEach_fans _ _ _ ?_, forEach_upds _ _ _ ?_, forEach_fw _ _ _ ?_, forEach_log _ _ _ ?_, forEach_bmu _ _ _ ?_, forEach_mirror _ _ _ ?_, forEach_pending _ _ _ ?_⟩ <;> (intro x a; split <;> simp [e1])

theorem mirrorItem_frame (i : MirrorItem) (s : State) :
    (mirrorItem i s).now = s.now ∧ (mirrorItem i s).frame = s.frame ∧ (mirrorItem i s).free = s.free ∧ (mirrorItem i s).senses = s.senses ∧
    (mirrorItem i s).pulses = s.pulses ∧ (mirrorItem i s).analogs = s.analogs ∧ (mirrorItem i s).cards = s.cards ∧
    (mirrorItem i s).dies = s.dies ∧ (mirrorItem i s).clusters = s.clusters ∧ (mirrorItem i s).copies = s.copies ∧
    (mirrorItem i s).links = s.links ∧ (mirrorItem i s).hall = s.hall ∧ (mirrorItem i s).frameLog = s.frameLog ∧
    (mirrorItem i s).power = s.power ∧ (mirrorItem i s).ptp = s.ptp ∧ (mirrorItem i s).fans = s.fans ∧ (mirrorItem i s).fw = s.fw ∧
    (mirrorItem i s).bmu = s.bmu ∧ (mirrorItem i s).mirror = s.mirror ∧ (mirrorItem i s).pending = s.pending := by
  have e1 := @forwardedReadings_frame
  have e2 := @storeConfig_frame
  have e3 := @applyCtrl_frame
  have e4 := @writeSite_frame
  have e5 := @replacePreview_frame
  have e6 := @addPreview_frame
  have e7 := @cancelPreview_frame
  have e8 := @mirrorMismatch_frame
  have e9 := @storeCkpt_frame
  unfold mirrorItem; (try dsimp only); (repeat' split) <;> simp [e1, e2, e3, e4, e5, e6, e7, e8, e9]

theorem askJoin_frame (s : State) :
    (askJoin s).now = s.now ∧ (askJoin s).frame = s.frame ∧ (askJoin s).free = s.free ∧ (askJoin s).regs = s.regs ∧
    (askJoin s).outbox = s.outbox ∧ (askJoin s).vcp = s.vcp ∧ (askJoin s).plant = s.plant ∧ (askJoin s).broker = s.broker ∧
    (askJoin s).valves = s.valves ∧ (askJoin s).motors = s.motors ∧ (askJoin s).senses = s.senses ∧ (askJoin s).pulses = s.pulses ∧
    (askJoin s).analogs = s.analogs ∧ (askJoin s).auxs = s.auxs ∧ (askJoin s).cards = s.cards ∧ (askJoin s).service = s.service ∧
    (askJoin s).seqr = s.seqr ∧ (askJoin s).dies = s.dies ∧ (askJoin s).clusters = s.clusters ∧ (askJoin s).integ = s.integ ∧
    (askJoin s).copies = s.copies ∧ (askJoin s).links = s.links ∧ (askJoin s).hall = s.hall ∧ (askJoin s).buses = s.buses ∧
    (askJoin s).frameLog = s.frameLog ∧ (askJoin s).power = s.power ∧ (askJoin s).ptp = s.ptp ∧ (askJoin s).fans = s.fans ∧
    (askJoin s).upds = s.upds ∧ (askJoin s).fw = s.fw ∧ (askJoin s).log = s.log ∧ (askJoin s).bmu = s.bmu ∧ (askJoin s).mirror = s.mirror ∧
    (askJoin s).pending = s.pending := by
  unfold askJoin; (try dsimp only); (repeat' split) <;> simp

theorem joinNow_frame (s : State) :
    (joinNow s).now = s.now ∧ (joinNow s).frame = s.frame ∧ (joinNow s).free = s.free ∧ (joinNow s).regs = s.regs ∧
    (joinNow s).vcp = s.vcp ∧ (joinNow s).plant = s.plant ∧ (joinNow s).broker = s.broker ∧ (joinNow s).valves = s.valves ∧
    (joinNow s).motors = s.motors ∧ (joinNow s).senses = s.senses ∧ (joinNow s).pulses = s.pulses ∧ (joinNow s).analogs = s.analogs ∧
    (joinNow s).auxs = s.auxs ∧ (joinNow s).cards = s.cards ∧ (joinNow s).service = s.service ∧ (joinNow s).dies = s.dies ∧
    (joinNow s).clusters = s.clusters ∧ (joinNow s).integ = s.integ ∧ (joinNow s).copies = s.copies ∧ (joinNow s).buses = s.buses ∧
    (joinNow s).frameLog = s.frameLog ∧ (joinNow s).power = s.power ∧ (joinNow s).ptp = s.ptp ∧ (joinNow s).fans = s.fans ∧
    (joinNow s).upds = s.upds ∧ (joinNow s).fw = s.fw ∧ (joinNow s).log = s.log ∧ (joinNow s).bmu = s.bmu ∧ (joinNow s).mirror = s.mirror ∧
    (joinNow s).pending = s.pending := by
  have e1 := @nameRestore_frame
  have e2 := @askJoin_frame
  unfold joinNow; (try dsimp only); (repeat' split) <;> simp [e1, e2]

theorem loadForResync_frame (s : State) :
    (loadForResync s).now = s.now ∧ (loadForResync s).frame = s.frame ∧ (loadForResync s).free = s.free ∧ (loadForResync s).regs = s.regs ∧
    (loadForResync s).outbox = s.outbox ∧ (loadForResync s).vcp = s.vcp ∧ (loadForResync s).plant = s.plant ∧
    (loadForResync s).broker = s.broker ∧ (loadForResync s).valves = s.valves ∧ (loadForResync s).motors = s.motors ∧
    (loadForResync s).senses = s.senses ∧ (loadForResync s).pulses = s.pulses ∧ (loadForResync s).analogs = s.analogs ∧
    (loadForResync s).auxs = s.auxs ∧ (loadForResync s).cards = s.cards ∧ (loadForResync s).service = s.service ∧
    (loadForResync s).dies = s.dies ∧ (loadForResync s).clusters = s.clusters ∧ (loadForResync s).integ = s.integ ∧
    (loadForResync s).copies = s.copies ∧ (loadForResync s).pair = s.pair ∧ (loadForResync s).links = s.links ∧
    (loadForResync s).hall = s.hall ∧ (loadForResync s).buses = s.buses ∧ (loadForResync s).frameLog = s.frameLog ∧
    (loadForResync s).power = s.power ∧ (loadForResync s).ptp = s.ptp ∧ (loadForResync s).fans = s.fans ∧ (loadForResync s).upds = s.upds ∧
    (loadForResync s).fw = s.fw ∧ (loadForResync s).log = s.log ∧ (loadForResync s).bmu = s.bmu ∧ (loadForResync s).mirror = s.mirror ∧
    (loadForResync s).pending = s.pending := by
  have e1 := @startLoad_frame
  unfold loadForResync; (try dsimp only); (repeat' split) <;> simp [e1]

theorem nameRoute_frame (set : Nat) (s : State) :
    (nameRoute set s).now = s.now ∧ (nameRoute set s).frame = s.frame ∧ (nameRoute set s).free = s.free ∧ (nameRoute set s).regs = s.regs ∧
    (nameRoute set s).vcp = s.vcp ∧ (nameRoute set s).plant = s.plant ∧ (nameRoute set s).broker = s.broker ∧
    (nameRoute set s).valves = s.valves ∧ (nameRoute set s).motors = s.motors ∧ (nameRoute set s).senses = s.senses ∧
    (nameRoute set s).pulses = s.pulses ∧ (nameRoute set s).analogs = s.analogs ∧ (nameRoute set s).auxs = s.auxs ∧
    (nameRoute set s).cards = s.cards ∧ (nameRoute set s).service = s.service ∧ (nameRoute set s).dies = s.dies ∧
    (nameRoute set s).clusters = s.clusters ∧ (nameRoute set s).integ = s.integ ∧ (nameRoute set s).copies = s.copies ∧
    (nameRoute set s).pair = s.pair ∧ (nameRoute set s).buses = s.buses ∧ (nameRoute set s).frameLog = s.frameLog ∧
    (nameRoute set s).power = s.power ∧ (nameRoute set s).ptp = s.ptp ∧ (nameRoute set s).fans = s.fans ∧ (nameRoute set s).upds = s.upds ∧
    (nameRoute set s).fw = s.fw ∧ (nameRoute set s).log = s.log ∧ (nameRoute set s).bmu = s.bmu ∧ (nameRoute set s).mirror = s.mirror ∧
    (nameRoute set s).pending = s.pending := by
  unfold nameRoute; (try dsimp only); (repeat' split) <;> simp

theorem reroute_frame (s : State) :
    (reroute s).now = s.now ∧ (reroute s).frame = s.frame ∧ (reroute s).free = s.free ∧ (reroute s).regs = s.regs ∧
    (reroute s).vcp = s.vcp ∧ (reroute s).plant = s.plant ∧ (reroute s).broker = s.broker ∧ (reroute s).valves = s.valves ∧
    (reroute s).motors = s.motors ∧ (reroute s).senses = s.senses ∧ (reroute s).pulses = s.pulses ∧ (reroute s).analogs = s.analogs ∧
    (reroute s).auxs = s.auxs ∧ (reroute s).cards = s.cards ∧ (reroute s).service = s.service ∧ (reroute s).dies = s.dies ∧
    (reroute s).clusters = s.clusters ∧ (reroute s).integ = s.integ ∧ (reroute s).copies = s.copies ∧ (reroute s).pair = s.pair ∧
    (reroute s).buses = s.buses ∧ (reroute s).frameLog = s.frameLog ∧ (reroute s).power = s.power ∧ (reroute s).ptp = s.ptp ∧
    (reroute s).fans = s.fans ∧ (reroute s).upds = s.upds ∧ (reroute s).fw = s.fw ∧ (reroute s).log = s.log ∧ (reroute s).bmu = s.bmu ∧
    (reroute s).mirror = s.mirror ∧ (reroute s).pending = s.pending := by
  have e1 := @nameRoute_frame
  have e2 := @stopHall_frame
  unfold reroute; (try dsimp only); (repeat' split) <;> simp [e1, e2]

theorem noteLink_frame (ord l : Nat) (up : Bool) (s : State) :
    (noteLink ord l up s).now = s.now ∧ (noteLink ord l up s).frame = s.frame ∧ (noteLink ord l up s).free = s.free ∧
    (noteLink ord l up s).regs = s.regs ∧ (noteLink ord l up s).vcp = s.vcp ∧ (noteLink ord l up s).plant = s.plant ∧
    (noteLink ord l up s).broker = s.broker ∧ (noteLink ord l up s).valves = s.valves ∧ (noteLink ord l up s).motors = s.motors ∧
    (noteLink ord l up s).senses = s.senses ∧ (noteLink ord l up s).pulses = s.pulses ∧ (noteLink ord l up s).analogs = s.analogs ∧
    (noteLink ord l up s).auxs = s.auxs ∧ (noteLink ord l up s).cards = s.cards ∧ (noteLink ord l up s).service = s.service ∧
    (noteLink ord l up s).dies = s.dies ∧ (noteLink ord l up s).clusters = s.clusters ∧ (noteLink ord l up s).integ = s.integ ∧
    (noteLink ord l up s).copies = s.copies ∧ (noteLink ord l up s).pair = s.pair ∧ (noteLink ord l up s).buses = s.buses ∧
    (noteLink ord l up s).frameLog = s.frameLog ∧ (noteLink ord l up s).power = s.power ∧ (noteLink ord l up s).ptp = s.ptp ∧
    (noteLink ord l up s).fans = s.fans ∧ (noteLink ord l up s).upds = s.upds ∧ (noteLink ord l up s).fw = s.fw ∧
    (noteLink ord l up s).log = s.log ∧ (noteLink ord l up s).bmu = s.bmu ∧ (noteLink ord l up s).mirror = s.mirror ∧
    (noteLink ord l up s).pending = s.pending := by
  have e1 := @reroute_frame
  unfold noteLink; (try dsimp only); (repeat' split) <;> simp [e1]

theorem reportLink_frame (l : Nat) (up : Bool) (s : State) :
    (reportLink l up s).now = s.now ∧ (reportLink l up s).frame = s.frame ∧ (reportLink l up s).free = s.free ∧
    (reportLink l up s).regs = s.regs ∧ (reportLink l up s).vcp = s.vcp ∧ (reportLink l up s).plant = s.plant ∧
    (reportLink l up s).broker = s.broker ∧ (reportLink l up s).valves = s.valves ∧ (reportLink l up s).motors = s.motors ∧
    (reportLink l up s).senses = s.senses ∧ (reportLink l up s).pulses = s.pulses ∧ (reportLink l up s).analogs = s.analogs ∧
    (reportLink l up s).auxs = s.auxs ∧ (reportLink l up s).cards = s.cards ∧ (reportLink l up s).service = s.service ∧
    (reportLink l up s).dies = s.dies ∧ (reportLink l up s).clusters = s.clusters ∧ (reportLink l up s).integ = s.integ ∧
    (reportLink l up s).copies = s.copies ∧ (reportLink l up s).pair = s.pair ∧ (reportLink l up s).buses = s.buses ∧
    (reportLink l up s).frameLog = s.frameLog ∧ (reportLink l up s).power = s.power ∧ (reportLink l up s).ptp = s.ptp ∧
    (reportLink l up s).fans = s.fans ∧ (reportLink l up s).upds = s.upds ∧ (reportLink l up s).fw = s.fw ∧
    (reportLink l up s).log = s.log ∧ (reportLink l up s).bmu = s.bmu ∧ (reportLink l up s).mirror = s.mirror ∧
    (reportLink l up s).pending = s.pending := by
  have e1 := @noteLink_frame
  unfold reportLink; (try dsimp only); (repeat' split) <;> simp [e1]

theorem takeRef_frame (l : Nat) (s : State) :
    (takeRef l s).now = s.now ∧ (takeRef l s).frame = s.frame ∧ (takeRef l s).free = s.free ∧ (takeRef l s).outbox = s.outbox ∧
    (takeRef l s).vcp = s.vcp ∧ (takeRef l s).plant = s.plant ∧ (takeRef l s).broker = s.broker ∧ (takeRef l s).valves = s.valves ∧
    (takeRef l s).motors = s.motors ∧ (takeRef l s).senses = s.senses ∧ (takeRef l s).pulses = s.pulses ∧
    (takeRef l s).analogs = s.analogs ∧ (takeRef l s).auxs = s.auxs ∧ (takeRef l s).cards = s.cards ∧ (takeRef l s).service = s.service ∧
    (takeRef l s).seqr = s.seqr ∧ (takeRef l s).dies = s.dies ∧ (takeRef l s).clusters = s.clusters ∧ (takeRef l s).integ = s.integ ∧
    (takeRef l s).copies = s.copies ∧ (takeRef l s).pair = s.pair ∧ (takeRef l s).links = s.links ∧ (takeRef l s).buses = s.buses ∧
    (takeRef l s).frameLog = s.frameLog ∧ (takeRef l s).power = s.power ∧ (takeRef l s).ptp = s.ptp ∧ (takeRef l s).fans = s.fans ∧
    (takeRef l s).upds = s.upds ∧ (takeRef l s).fw = s.fw ∧ (takeRef l s).log = s.log ∧ (takeRef l s).bmu = s.bmu ∧
    (takeRef l s).mirror = s.mirror ∧ (takeRef l s).pending = s.pending := by
  unfold takeRef; (try dsimp only); (repeat' split) <;> simp

theorem loseRef_frame (s : State) :
    (loseRef s).now = s.now ∧ (loseRef s).frame = s.frame ∧ (loseRef s).free = s.free ∧ (loseRef s).outbox = s.outbox ∧
    (loseRef s).vcp = s.vcp ∧ (loseRef s).plant = s.plant ∧ (loseRef s).broker = s.broker ∧ (loseRef s).valves = s.valves ∧
    (loseRef s).motors = s.motors ∧ (loseRef s).senses = s.senses ∧ (loseRef s).pulses = s.pulses ∧ (loseRef s).analogs = s.analogs ∧
    (loseRef s).auxs = s.auxs ∧ (loseRef s).cards = s.cards ∧ (loseRef s).service = s.service ∧ (loseRef s).seqr = s.seqr ∧
    (loseRef s).dies = s.dies ∧ (loseRef s).clusters = s.clusters ∧ (loseRef s).integ = s.integ ∧ (loseRef s).copies = s.copies ∧
    (loseRef s).pair = s.pair ∧ (loseRef s).links = s.links ∧ (loseRef s).buses = s.buses ∧ (loseRef s).frameLog = s.frameLog ∧
    (loseRef s).power = s.power ∧ (loseRef s).ptp = s.ptp ∧ (loseRef s).fans = s.fans ∧ (loseRef s).upds = s.upds ∧ (loseRef s).fw = s.fw ∧
    (loseRef s).log = s.log ∧ (loseRef s).bmu = s.bmu ∧ (loseRef s).mirror = s.mirror ∧ (loseRef s).pending = s.pending := by
  have e1 := @takeRef_frame
  unfold loseRef; (try dsimp only); (repeat' split) <;> simp [e1]

theorem checkCount_frame (expected own : Int) (s : State) :
    (checkCount expected own s).now = s.now ∧ (checkCount expected own s).frame = s.frame ∧ (checkCount expected own s).free = s.free ∧
    (checkCount expected own s).vcp = s.vcp ∧ (checkCount expected own s).plant = s.plant ∧ (checkCount expected own s).broker = s.broker ∧
    (checkCount expected own s).valves = s.valves ∧ (checkCount expected own s).motors = s.motors ∧
    (checkCount expected own s).senses = s.senses ∧ (checkCount expected own s).pulses = s.pulses ∧
    (checkCount expected own s).analogs = s.analogs ∧ (checkCount expected own s).auxs = s.auxs ∧
    (checkCount expected own s).cards = s.cards ∧ (checkCount expected own s).service = s.service ∧
    (checkCount expected own s).dies = s.dies ∧ (checkCount expected own s).clusters = s.clusters ∧
    (checkCount expected own s).integ = s.integ ∧ (checkCount expected own s).copies = s.copies ∧
    (checkCount expected own s).pair = s.pair ∧ (checkCount expected own s).buses = s.buses ∧
    (checkCount expected own s).frameLog = s.frameLog ∧ (checkCount expected own s).power = s.power ∧
    (checkCount expected own s).ptp = s.ptp ∧ (checkCount expected own s).fans = s.fans ∧ (checkCount expected own s).upds = s.upds ∧
    (checkCount expected own s).fw = s.fw ∧ (checkCount expected own s).log = s.log ∧ (checkCount expected own s).bmu = s.bmu ∧
    (checkCount expected own s).mirror = s.mirror ∧ (checkCount expected own s).pending = s.pending := by
  have e1 := @stopHall_frame
  unfold checkCount; (try dsimp only); (repeat' split) <;> simp [e1]

theorem moveMessages_frame (l : Nat) (s : State) :
    (moveMessages l s).now = s.now ∧ (moveMessages l s).frame = s.frame ∧ (moveMessages l s).free = s.free ∧
    (moveMessages l s).regs = s.regs ∧ (moveMessages l s).vcp = s.vcp ∧ (moveMessages l s).plant = s.plant ∧
    (moveMessages l s).broker = s.broker ∧ (moveMessages l s).valves = s.valves ∧ (moveMessages l s).motors = s.motors ∧
    (moveMessages l s).senses = s.senses ∧ (moveMessages l s).pulses = s.pulses ∧ (moveMessages l s).analogs = s.analogs ∧
    (moveMessages l s).auxs = s.auxs ∧ (moveMessages l s).cards = s.cards ∧ (moveMessages l s).service = s.service ∧
    (moveMessages l s).seqr = s.seqr ∧ (moveMessages l s).dies = s.dies ∧ (moveMessages l s).clusters = s.clusters ∧
    (moveMessages l s).integ = s.integ ∧ (moveMessages l s).copies = s.copies ∧ (moveMessages l s).pair = s.pair ∧
    (moveMessages l s).hall = s.hall ∧ (moveMessages l s).buses = s.buses ∧ (moveMessages l s).frameLog = s.frameLog ∧
    (moveMessages l s).power = s.power ∧ (moveMessages l s).ptp = s.ptp ∧ (moveMessages l s).fans = s.fans ∧
    (moveMessages l s).upds = s.upds ∧ (moveMessages l s).fw = s.fw ∧ (moveMessages l s).log = s.log ∧ (moveMessages l s).bmu = s.bmu ∧
    (moveMessages l s).mirror = s.mirror ∧ (moveMessages l s).pending = s.pending := by
  unfold moveMessages; (try dsimp only); (repeat' split) <;> (first | (simp; done) | (simp (disch := (intros; (repeat' split) <;> simp)); done))

theorem dropBulks_frame (s : State) :
    (dropBulks s).now = s.now ∧ (dropBulks s).frame = s.frame ∧ (dropBulks s).vcp = s.vcp ∧ (dropBulks s).plant = s.plant ∧
    (dropBulks s).broker = s.broker ∧ (dropBulks s).valves = s.valves ∧ (dropBulks s).motors = s.motors ∧ (dropBulks s).senses = s.senses ∧
    (dropBulks s).pulses = s.pulses ∧ (dropBulks s).analogs = s.analogs ∧ (dropBulks s).auxs = s.auxs ∧ (dropBulks s).cards = s.cards ∧
    (dropBulks s).service = s.service ∧ (dropBulks s).seqr = s.seqr ∧ (dropBulks s).dies = s.dies ∧ (dropBulks s).clusters = s.clusters ∧
    (dropBulks s).integ = s.integ ∧ (dropBulks s).pair = s.pair ∧ (dropBulks s).buses = s.buses ∧ (dropBulks s).frameLog = s.frameLog ∧
    (dropBulks s).power = s.power ∧ (dropBulks s).ptp = s.ptp ∧ (dropBulks s).fans = s.fans ∧ (dropBulks s).upds = s.upds ∧
    (dropBulks s).fw = s.fw ∧ (dropBulks s).log = s.log ∧ (dropBulks s).bmu = s.bmu ∧ (dropBulks s).mirror = s.mirror ∧
    (dropBulks s).pending = s.pending := by
  have e1 := @endRunning_frame
  unfold dropBulks; (try dsimp only); (repeat' split) <;> simp [e1]

theorem partnerLost_frame (before : Nat) (s : State) :
    (partnerLost before s).now = s.now ∧ (partnerLost before s).frame = s.frame ∧ (partnerLost before s).free = s.free ∧
    (partnerLost before s).plant = s.plant ∧ (partnerLost before s).broker = s.broker ∧ (partnerLost before s).valves = s.valves ∧
    (partnerLost before s).motors = s.motors ∧ (partnerLost before s).senses = s.senses ∧ (partnerLost before s).pulses = s.pulses ∧
    (partnerLost before s).analogs = s.analogs ∧ (partnerLost before s).auxs = s.auxs ∧ (partnerLost before s).cards = s.cards ∧
    (partnerLost before s).service = s.service ∧ (partnerLost before s).seqr = s.seqr ∧ (partnerLost before s).dies = s.dies ∧
    (partnerLost before s).clusters = s.clusters ∧ (partnerLost before s).integ = s.integ ∧ (partnerLost before s).copies = s.copies ∧
    (partnerLost before s).links = s.links ∧ (partnerLost before s).hall = s.hall ∧ (partnerLost before s).buses = s.buses ∧
    (partnerLost before s).frameLog = s.frameLog ∧ (partnerLost before s).power = s.power ∧ (partnerLost before s).ptp = s.ptp ∧
    (partnerLost before s).fans = s.fans ∧ (partnerLost before s).upds = s.upds ∧ (partnerLost before s).fw = s.fw ∧
    (partnerLost before s).log = s.log ∧ (partnerLost before s).bmu = s.bmu ∧ (partnerLost before s).mirror = s.mirror ∧
    (partnerLost before s).pending = s.pending := by
  have e1 := @watchHealth_frame
  unfold partnerLost; (try dsimp only); (repeat' split) <;> simp [e1]

theorem linkFalls_frame (l : Nat) (dest : LinkSt) (s : State) :
    (linkFalls l dest s).now = s.now ∧ (linkFalls l dest s).frame = s.frame ∧ (linkFalls l dest s).plant = s.plant ∧
    (linkFalls l dest s).broker = s.broker ∧ (linkFalls l dest s).valves = s.valves ∧ (linkFalls l dest s).motors = s.motors ∧
    (linkFalls l dest s).senses = s.senses ∧ (linkFalls l dest s).pulses = s.pulses ∧ (linkFalls l dest s).analogs = s.analogs ∧
    (linkFalls l dest s).auxs = s.auxs ∧ (linkFalls l dest s).cards = s.cards ∧ (linkFalls l dest s).service = s.service ∧
    (linkFalls l dest s).dies = s.dies ∧ (linkFalls l dest s).clusters = s.clusters ∧ (linkFalls l dest s).integ = s.integ ∧
    (linkFalls l dest s).buses = s.buses ∧ (linkFalls l dest s).frameLog = s.frameLog ∧ (linkFalls l dest s).power = s.power ∧
    (linkFalls l dest s).ptp = s.ptp ∧ (linkFalls l dest s).fans = s.fans ∧ (linkFalls l dest s).upds = s.upds ∧
    (linkFalls l dest s).log = s.log ∧ (linkFalls l dest s).bmu = s.bmu ∧ (linkFalls l dest s).mirror = s.mirror ∧
    (linkFalls l dest s).pending = s.pending := by
  have e1 := @moveMessages_frame
  have e2 := @loseRef_frame
  have e3 := @startCopies_frame
  have e4 := @dropBulks_frame
  have e5 := @partnerLost_frame
  have e6 := @reportLink_frame
  unfold linkFalls; (try dsimp only); (repeat' split) <;> simp [e1, e2, e3, e4, e5, e6]

theorem takeIdentity_frame (l : Nat) (b : LinkBlockIn) (s : State) :
    (takeIdentity l b s).now = s.now ∧ (takeIdentity l b s).frame = s.frame ∧ (takeIdentity l b s).free = s.free ∧
    (takeIdentity l b s).outbox = s.outbox ∧ (takeIdentity l b s).vcp = s.vcp ∧ (takeIdentity l b s).plant = s.plant ∧
    (takeIdentity l b s).broker = s.broker ∧ (takeIdentity l b s).valves = s.valves ∧ (takeIdentity l b s).motors = s.motors ∧
    (takeIdentity l b s).senses = s.senses ∧ (takeIdentity l b s).pulses = s.pulses ∧ (takeIdentity l b s).analogs = s.analogs ∧
    (takeIdentity l b s).auxs = s.auxs ∧ (takeIdentity l b s).cards = s.cards ∧ (takeIdentity l b s).service = s.service ∧
    (takeIdentity l b s).seqr = s.seqr ∧ (takeIdentity l b s).dies = s.dies ∧ (takeIdentity l b s).clusters = s.clusters ∧
    (takeIdentity l b s).integ = s.integ ∧ (takeIdentity l b s).copies = s.copies ∧ (takeIdentity l b s).pair = s.pair ∧
    (takeIdentity l b s).hall = s.hall ∧ (takeIdentity l b s).buses = s.buses ∧ (takeIdentity l b s).frameLog = s.frameLog ∧
    (takeIdentity l b s).power = s.power ∧ (takeIdentity l b s).ptp = s.ptp ∧ (takeIdentity l b s).fans = s.fans ∧
    (takeIdentity l b s).upds = s.upds ∧ (takeIdentity l b s).fw = s.fw ∧ (takeIdentity l b s).log = s.log ∧
    (takeIdentity l b s).bmu = s.bmu ∧ (takeIdentity l b s).mirror = s.mirror ∧ (takeIdentity l b s).pending = s.pending := by
  unfold takeIdentity; (try dsimp only); (repeat' split) <;> simp

theorem takePair_frame (p : List Nat) (s : State) :
    (takePair p s).now = s.now ∧ (takePair p s).frame = s.frame ∧ (takePair p s).free = s.free ∧ (takePair p s).regs = s.regs ∧
    (takePair p s).outbox = s.outbox ∧ (takePair p s).vcp = s.vcp ∧ (takePair p s).plant = s.plant ∧ (takePair p s).broker = s.broker ∧
    (takePair p s).motors = s.motors ∧ (takePair p s).senses = s.senses ∧ (takePair p s).pulses = s.pulses ∧
    (takePair p s).analogs = s.analogs ∧ (takePair p s).auxs = s.auxs ∧ (takePair p s).cards = s.cards ∧
    (takePair p s).service = s.service ∧ (takePair p s).seqr = s.seqr ∧ (takePair p s).dies = s.dies ∧
    (takePair p s).clusters = s.clusters ∧ (takePair p s).integ = s.integ ∧ (takePair p s).copies = s.copies ∧
    (takePair p s).links = s.links ∧ (takePair p s).hall = s.hall ∧ (takePair p s).buses = s.buses ∧ (takePair p s).frameLog = s.frameLog ∧
    (takePair p s).power = s.power ∧ (takePair p s).ptp = s.ptp ∧ (takePair p s).fans = s.fans ∧ (takePair p s).upds = s.upds ∧
    (takePair p s).fw = s.fw ∧ (takePair p s).log = s.log ∧ (takePair p s).bmu = s.bmu ∧ (takePair p s).mirror = s.mirror ∧
    (takePair p s).pending = s.pending := by
  have e1 := @comparePairIds_frame
  unfold takePair; (try dsimp only); (repeat' split) <;> simp [e1]

theorem takeMessage_frame (l : Nat) (m : ServiceMsg) (s : State) :
    (takeMessage l m s).now = s.now ∧ (takeMessage l m s).frame = s.frame ∧ (takeMessage l m s).free = s.free ∧
    (takeMessage l m s).regs = s.regs ∧ (takeMessage l m s).vcp = s.vcp ∧ (takeMessage l m s).plant = s.plant ∧
    (takeMessage l m s).broker = s.broker ∧ (takeMessage l m s).motors = s.motors ∧ (takeMessage l m s).senses = s.senses ∧
    (takeMessage l m s).pulses = s.pulses ∧ (takeMessage l m s).analogs = s.analogs ∧ (takeMessage l m s).auxs = s.auxs ∧
    (takeMessage l m s).cards = s.cards ∧ (takeMessage l m s).service = s.service ∧ (takeMessage l m s).seqr = s.seqr ∧
    (takeMessage l m s).dies = s.dies ∧ (takeMessage l m s).clusters = s.clusters ∧ (takeMessage l m s).integ = s.integ ∧
    (takeMessage l m s).copies = s.copies ∧ (takeMessage l m s).buses = s.buses ∧ (takeMessage l m s).frameLog = s.frameLog ∧
    (takeMessage l m s).power = s.power ∧ (takeMessage l m s).ptp = s.ptp ∧ (takeMessage l m s).fans = s.fans ∧
    (takeMessage l m s).upds = s.upds ∧ (takeMessage l m s).fw = s.fw ∧ (takeMessage l m s).log = s.log ∧ (takeMessage l m s).bmu = s.bmu ∧
    (takeMessage l m s).mirror = s.mirror ∧ (takeMessage l m s).pending = s.pending := by
  have e1 := @takePair_frame
  unfold takeMessage; (try dsimp only); (repeat' split) <;> simp [e1]

theorem takeFragment_frame (l : Nat) (first last : Bool) (data : List Nat) (s : State) :
    (takeFragment l first last data s).now = s.now ∧ (takeFragment l first last data s).frame = s.frame ∧
    (takeFragment l first last data s).free = s.free ∧ (takeFragment l first last data s).regs = s.regs ∧
    (takeFragment l first last data s).vcp = s.vcp ∧ (takeFragment l first last data s).plant = s.plant ∧
    (takeFragment l first last data s).broker = s.broker ∧ (takeFragment l first last data s).motors = s.motors ∧
    (takeFragment l first last data s).senses = s.senses ∧ (takeFragment l first last data s).pulses = s.pulses ∧
    (takeFragment l first last data s).analogs = s.analogs ∧ (takeFragment l first last data s).auxs = s.auxs ∧
    (takeFragment l first last data s).cards = s.cards ∧ (takeFragment l first last data s).service = s.service ∧
    (takeFragment l first last data s).seqr = s.seqr ∧ (takeFragment l first last data s).dies = s.dies ∧
    (takeFragment l first last data s).clusters = s.clusters ∧ (takeFragment l first last data s).integ = s.integ ∧
    (takeFragment l first last data s).copies = s.copies ∧ (takeFragment l first last data s).buses = s.buses ∧
    (takeFragment l first last data s).frameLog = s.frameLog ∧ (takeFragment l first last data s).power = s.power ∧
    (takeFragment l first last data s).ptp = s.ptp ∧ (takeFragment l first last data s).fans = s.fans ∧
    (takeFragment l first last data s).upds = s.upds ∧ (takeFragment l first last data s).fw = s.fw ∧
    (takeFragment l first last data s).log = s.log ∧ (takeFragment l first last data s).bmu = s.bmu ∧
    (takeFragment l first last data s).mirror = s.mirror ∧ (takeFragment l first last data s).pending = s.pending := by
  have e1 := @takeMessage_frame
  unfold takeFragment; (try dsimp only); (repeat' split) <;> simp [e1]

theorem takeService_frame (l : Nat) (b : ServiceBeat) (s : State) :
    (takeService l b s).now = s.now ∧ (takeService l b s).frame = s.frame ∧ (takeService l b s).free = s.free ∧
    (takeService l b s).regs = s.regs ∧ (takeService l b s).vcp = s.vcp ∧ (takeService l b s).plant = s.plant ∧
    (takeService l b s).broker = s.broker ∧ (takeService l b s).motors = s.motors ∧ (takeService l b s).senses = s.senses ∧
    (takeService l b s).pulses = s.pulses ∧ (takeService l b s).analogs = s.analogs ∧ (takeService l b s).auxs = s.auxs ∧
    (takeService l b s).cards = s.cards ∧ (takeService l b s).service = s.service ∧ (takeService l b s).seqr = s.seqr ∧
    (takeService l b s).dies = s.dies ∧ (takeService l b s).clusters = s.clusters ∧ (takeService l b s).integ = s.integ ∧
    (takeService l b s).copies = s.copies ∧ (takeService l b s).buses = s.buses ∧ (takeService l b s).frameLog = s.frameLog ∧
    (takeService l b s).power = s.power ∧ (takeService l b s).ptp = s.ptp ∧ (takeService l b s).fans = s.fans ∧
    (takeService l b s).upds = s.upds ∧ (takeService l b s).fw = s.fw ∧ (takeService l b s).log = s.log ∧ (takeService l b s).bmu = s.bmu ∧
    (takeService l b s).mirror = s.mirror ∧ (takeService l b s).pending = s.pending := by
  have e1 := @chainFlash_frame
  have e2 := @takeFragment_frame
  unfold takeService; (try dsimp only); (repeat' split) <;> simp [e1, e2]

theorem forwardBlock_frame (l : Nat) (b : LinkBlockIn) (s : State) :
    (forwardBlock l b s).now = s.now ∧ (forwardBlock l b s).frame = s.frame ∧ (forwardBlock l b s).free = s.free ∧
    (forwardBlock l b s).regs = s.regs ∧ (forwardBlock l b s).vcp = s.vcp ∧ (forwardBlock l b s).plant = s.plant ∧
    (forwardBlock l b s).broker = s.broker ∧ (forwardBlock l b s).valves = s.valves ∧ (forwardBlock l b s).motors = s.motors ∧
    (forwardBlock l b s).senses = s.senses ∧ (forwardBlock l b s).pulses = s.pulses ∧ (forwardBlock l b s).analogs = s.analogs ∧
    (forwardBlock l b s).auxs = s.auxs ∧ (forwardBlock l b s).cards = s.cards ∧ (forwardBlock l b s).service = s.service ∧
    (forwardBlock l b s).seqr = s.seqr ∧ (forwardBlock l b s).dies = s.dies ∧ (forwardBlock l b s).clusters = s.clusters ∧
    (forwardBlock l b s).integ = s.integ ∧ (forwardBlock l b s).copies = s.copies ∧ (forwardBlock l b s).pair = s.pair ∧
    (forwardBlock l b s).links = s.links ∧ (forwardBlock l b s).hall = s.hall ∧ (forwardBlock l b s).buses = s.buses ∧
    (forwardBlock l b s).frameLog = s.frameLog ∧ (forwardBlock l b s).power = s.power ∧ (forwardBlock l b s).ptp = s.ptp ∧
    (forwardBlock l b s).fans = s.fans ∧ (forwardBlock l b s).upds = s.upds ∧ (forwardBlock l b s).fw = s.fw ∧
    (forwardBlock l b s).log = s.log ∧ (forwardBlock l b s).bmu = s.bmu ∧ (forwardBlock l b s).mirror = s.mirror ∧
    (forwardBlock l b s).pending = s.pending := by
  unfold forwardBlock; (try dsimp only); (repeat' split) <;> simp

theorem badBlock_frame (l : Nat) (b : LinkBlockIn) (s0 : State) :
    (badBlock l b s0).now = s0.now ∧ (badBlock l b s0).frame = s0.frame ∧ (badBlock l b s0).plant = s0.plant ∧
    (badBlock l b s0).broker = s0.broker ∧ (badBlock l b s0).valves = s0.valves ∧ (badBlock l b s0).motors = s0.motors ∧
    (badBlock l b s0).senses = s0.senses ∧ (badBlock l b s0).pulses = s0.pulses ∧ (badBlock l b s0).analogs = s0.analogs ∧
    (badBlock l b s0).auxs = s0.auxs ∧ (badBlock l b s0).cards = s0.cards ∧ (badBlock l b s0).service = s0.service ∧
    (badBlock l b s0).dies = s0.dies ∧ (badBlock l b s0).clusters = s0.clusters ∧ (badBlock l b s0).integ = s0.integ ∧
    (badBlock l b s0).buses = s0.buses ∧ (badBlock l b s0).frameLog = s0.frameLog ∧ (badBlock l b s0).power = s0.power ∧
    (badBlock l b s0).ptp = s0.ptp ∧ (badBlock l b s0).fans = s0.fans ∧ (badBlock l b s0).upds = s0.upds ∧ (badBlock l b s0).log = s0.log ∧
    (badBlock l b s0).bmu = s0.bmu ∧ (badBlock l b s0).mirror = s0.mirror ∧ (badBlock l b s0).pending = s0.pending := by
  have e1 := @poisonLeg_frame
  have e2 := @linkFalls_frame
  unfold badBlock; (try dsimp only); (repeat' split) <;> simp [e1, e2]

theorem storeFrame_frame (c k : Nat) (r : CanRec) (s : State) :
    (storeFrame c k r s).now = s.now ∧ (storeFrame c k r s).frame = s.frame ∧ (storeFrame c k r s).free = s.free ∧
    (storeFrame c k r s).outbox = s.outbox ∧ (storeFrame c k r s).vcp = s.vcp ∧ (storeFrame c k r s).plant = s.plant ∧
    (storeFrame c k r s).broker = s.broker ∧ (storeFrame c k r s).valves = s.valves ∧ (storeFrame c k r s).motors = s.motors ∧
    (storeFrame c k r s).senses = s.senses ∧ (storeFrame c k r s).pulses = s.pulses ∧ (storeFrame c k r s).analogs = s.analogs ∧
    (storeFrame c k r s).auxs = s.auxs ∧ (storeFrame c k r s).cards = s.cards ∧ (storeFrame c k r s).service = s.service ∧
    (storeFrame c k r s).seqr = s.seqr ∧ (storeFrame c k r s).dies = s.dies ∧ (storeFrame c k r s).clusters = s.clusters ∧
    (storeFrame c k r s).integ = s.integ ∧ (storeFrame c k r s).copies = s.copies ∧ (storeFrame c k r s).pair = s.pair ∧
    (storeFrame c k r s).links = s.links ∧ (storeFrame c k r s).hall = s.hall ∧ (storeFrame c k r s).frameLog = s.frameLog ∧
    (storeFrame c k r s).power = s.power ∧ (storeFrame c k r s).ptp = s.ptp ∧ (storeFrame c k r s).fans = s.fans ∧
    (storeFrame c k r s).upds = s.upds ∧ (storeFrame c k r s).fw = s.fw ∧ (storeFrame c k r s).log = s.log ∧
    (storeFrame c k r s).bmu = s.bmu ∧ (storeFrame c k r s).mirror = s.mirror ∧ (storeFrame c k r s).pending = s.pending := by
  unfold storeFrame; (try dsimp only); (repeat' split) <;> simp

theorem leakAlarm_frame (r : Nat) (t : Time) (s : State) :
    (leakAlarm r t s).now = s.now ∧ (leakAlarm r t s).frame = s.frame ∧ (leakAlarm r t s).free = s.free ∧
    (leakAlarm r t s).plant = s.plant ∧ (leakAlarm r t s).valves = s.valves ∧ (leakAlarm r t s).motors = s.motors ∧
    (leakAlarm r t s).senses = s.senses ∧ (leakAlarm r t s).pulses = s.pulses ∧ (leakAlarm r t s).analogs = s.analogs ∧
    (leakAlarm r t s).auxs = s.auxs ∧ (leakAlarm r t s).cards = s.cards ∧ (leakAlarm r t s).service = s.service ∧
    (leakAlarm r t s).seqr = s.seqr ∧ (leakAlarm r t s).dies = s.dies ∧ (leakAlarm r t s).clusters = s.clusters ∧
    (leakAlarm r t s).integ = s.integ ∧ (leakAlarm r t s).copies = s.copies ∧ (leakAlarm r t s).pair = s.pair ∧
    (leakAlarm r t s).links = s.links ∧ (leakAlarm r t s).hall = s.hall ∧ (leakAlarm r t s).buses = s.buses ∧
    (leakAlarm r t s).frameLog = s.frameLog ∧ (leakAlarm r t s).power = s.power ∧ (leakAlarm r t s).ptp = s.ptp ∧
    (leakAlarm r t s).fans = s.fans ∧ (leakAlarm r t s).upds = s.upds ∧ (leakAlarm r t s).fw = s.fw ∧ (leakAlarm r t s).bmu = s.bmu ∧
    (leakAlarm r t s).mirror = s.mirror ∧ (leakAlarm r t s).pending = s.pending := by
  have e1 := @setSource_frame
  unfold leakAlarm; (try dsimp only); (repeat' split) <;> simp [e1]

theorem takeFrame_frame (c : Nat) (f : CanFrame) (reading : NodeReading) (t : Time) (s : State) :
    (takeFrame c f reading t s).now = s.now ∧ (takeFrame c f reading t s).frame = s.frame ∧ (takeFrame c f reading t s).free = s.free ∧
    (takeFrame c f reading t s).valves = s.valves ∧ (takeFrame c f reading t s).senses = s.senses ∧
    (takeFrame c f reading t s).pulses = s.pulses ∧ (takeFrame c f reading t s).analogs = s.analogs ∧
    (takeFrame c f reading t s).auxs = s.auxs ∧ (takeFrame c f reading t s).cards = s.cards ∧
    (takeFrame c f reading t s).service = s.service ∧ (takeFrame c f reading t s).seqr = s.seqr ∧
    (takeFrame c f reading t s).dies = s.dies ∧ (takeFrame c f reading t s).clusters = s.clusters ∧
    (takeFrame c f reading t s).integ = s.integ ∧ (takeFrame c f reading t s).copies = s.copies ∧
    (takeFrame c f reading t s).pair = s.pair ∧ (takeFrame c f reading t s).links = s.links ∧ (takeFrame c f reading t s).hall = s.hall ∧
    (takeFrame c f reading t s).buses = s.buses ∧ (takeFrame c f reading t s).frameLog = s.frameLog ∧
    (takeFrame c f reading t s).power = s.power ∧ (takeFrame c f reading t s).ptp = s.ptp ∧ (takeFrame c f reading t s).fans = s.fans ∧
    (takeFrame c f reading t s).upds = s.upds ∧ (takeFrame c f reading t s).fw = s.fw ∧ (takeFrame c f reading t s).bmu = s.bmu ∧
    (takeFrame c f reading t s).mirror = s.mirror ∧ (takeFrame c f reading t s).pending = s.pending := by
  have e1 := @leakAlarm_frame
  have e2 := @pumpTripped_frame
  have e3 := @takeReading_frame
  unfold takeFrame; (try dsimp only); (repeat' split) <;> simp [e1, e2, e3]

theorem imbalanceEnds_frame (c : Nat) (f : CanFrame) (s : State) :
    (imbalanceEnds c f s).now = s.now ∧ (imbalanceEnds c f s).frame = s.frame ∧ (imbalanceEnds c f s).free = s.free ∧
    (imbalanceEnds c f s).plant = s.plant ∧ (imbalanceEnds c f s).valves = s.valves ∧ (imbalanceEnds c f s).motors = s.motors ∧
    (imbalanceEnds c f s).senses = s.senses ∧ (imbalanceEnds c f s).pulses = s.pulses ∧ (imbalanceEnds c f s).analogs = s.analogs ∧
    (imbalanceEnds c f s).auxs = s.auxs ∧ (imbalanceEnds c f s).cards = s.cards ∧ (imbalanceEnds c f s).service = s.service ∧
    (imbalanceEnds c f s).seqr = s.seqr ∧ (imbalanceEnds c f s).dies = s.dies ∧ (imbalanceEnds c f s).clusters = s.clusters ∧
    (imbalanceEnds c f s).integ = s.integ ∧ (imbalanceEnds c f s).copies = s.copies ∧ (imbalanceEnds c f s).pair = s.pair ∧
    (imbalanceEnds c f s).links = s.links ∧ (imbalanceEnds c f s).hall = s.hall ∧ (imbalanceEnds c f s).buses = s.buses ∧
    (imbalanceEnds c f s).frameLog = s.frameLog ∧ (imbalanceEnds c f s).power = s.power ∧ (imbalanceEnds c f s).ptp = s.ptp ∧
    (imbalanceEnds c f s).fans = s.fans ∧ (imbalanceEnds c f s).upds = s.upds ∧ (imbalanceEnds c f s).fw = s.fw ∧
    (imbalanceEnds c f s).bmu = s.bmu ∧ (imbalanceEnds c f s).mirror = s.mirror ∧ (imbalanceEnds c f s).pending = s.pending := by
  have e1 := @setSource_frame
  unfold imbalanceEnds; (try dsimp only); (repeat' split) <;> simp [e1]

theorem takeLog_frame (s : State) :
    (takeLog s).now = s.now ∧ (takeLog s).frame = s.frame ∧ (takeLog s).free = s.free ∧ (takeLog s).valves = s.valves ∧
    (takeLog s).senses = s.senses ∧ (takeLog s).pulses = s.pulses ∧ (takeLog s).analogs = s.analogs ∧ (takeLog s).auxs = s.auxs ∧
    (takeLog s).cards = s.cards ∧ (takeLog s).service = s.service ∧ (takeLog s).seqr = s.seqr ∧ (takeLog s).dies = s.dies ∧
    (takeLog s).clusters = s.clusters ∧ (takeLog s).integ = s.integ ∧ (takeLog s).copies = s.copies ∧ (takeLog s).pair = s.pair ∧
    (takeLog s).links = s.links ∧ (takeLog s).hall = s.hall ∧ (takeLog s).buses = s.buses ∧ (takeLog s).frameLog = s.frameLog ∧
    (takeLog s).power = s.power ∧ (takeLog s).ptp = s.ptp ∧ (takeLog s).fans = s.fans ∧ (takeLog s).upds = s.upds ∧ (takeLog s).fw = s.fw ∧
    (takeLog s).bmu = s.bmu ∧ (takeLog s).mirror = s.mirror ∧ (takeLog s).pending = s.pending := by
  have e1 := @imbalanceEnds_frame
  have e2 := @takeFrame_frame
  unfold takeLog; (try dsimp only); (repeat' split) <;> simp [e1, e2]

theorem retryUsed_frame (c j : Nat) (s : State) :
    (retryUsed c j s).now = s.now ∧ (retryUsed c j s).frame = s.frame ∧ (retryUsed c j s).free = s.free ∧
    (retryUsed c j s).outbox = s.outbox ∧ (retryUsed c j s).vcp = s.vcp ∧ (retryUsed c j s).plant = s.plant ∧
    (retryUsed c j s).broker = s.broker ∧ (retryUsed c j s).valves = s.valves ∧ (retryUsed c j s).motors = s.motors ∧
    (retryUsed c j s).senses = s.senses ∧ (retryUsed c j s).pulses = s.pulses ∧ (retryUsed c j s).analogs = s.analogs ∧
    (retryUsed c j s).auxs = s.auxs ∧ (retryUsed c j s).cards = s.cards ∧ (retryUsed c j s).service = s.service ∧
    (retryUsed c j s).seqr = s.seqr ∧ (retryUsed c j s).dies = s.dies ∧ (retryUsed c j s).clusters = s.clusters ∧
    (retryUsed c j s).integ = s.integ ∧ (retryUsed c j s).copies = s.copies ∧ (retryUsed c j s).pair = s.pair ∧
    (retryUsed c j s).links = s.links ∧ (retryUsed c j s).hall = s.hall ∧ (retryUsed c j s).frameLog = s.frameLog ∧
    (retryUsed c j s).power = s.power ∧ (retryUsed c j s).ptp = s.ptp ∧ (retryUsed c j s).fans = s.fans ∧ (retryUsed c j s).upds = s.upds ∧
    (retryUsed c j s).fw = s.fw ∧ (retryUsed c j s).log = s.log ∧ (retryUsed c j s).bmu = s.bmu ∧ (retryUsed c j s).mirror = s.mirror ∧
    (retryUsed c j s).pending = s.pending := by
  unfold retryUsed; (try dsimp only); (repeat' split) <;> simp

theorem steerTo_frame (offset : Int) (s : State) :
    (steerTo offset s).now = s.now ∧ (steerTo offset s).frame = s.frame ∧ (steerTo offset s).regs = s.regs ∧
    (steerTo offset s).outbox = s.outbox ∧ (steerTo offset s).vcp = s.vcp ∧ (steerTo offset s).plant = s.plant ∧
    (steerTo offset s).broker = s.broker ∧ (steerTo offset s).valves = s.valves ∧ (steerTo offset s).motors = s.motors ∧
    (steerTo offset s).senses = s.senses ∧ (steerTo offset s).pulses = s.pulses ∧ (steerTo offset s).analogs = s.analogs ∧
    (steerTo offset s).auxs = s.auxs ∧ (steerTo offset s).cards = s.cards ∧ (steerTo offset s).service = s.service ∧
    (steerTo offset s).seqr = s.seqr ∧ (steerTo offset s).dies = s.dies ∧ (steerTo offset s).clusters = s.clusters ∧
    (steerTo offset s).integ = s.integ ∧ (steerTo offset s).copies = s.copies ∧ (steerTo offset s).pair = s.pair ∧
    (steerTo offset s).links = s.links ∧ (steerTo offset s).hall = s.hall ∧ (steerTo offset s).buses = s.buses ∧
    (steerTo offset s).frameLog = s.frameLog ∧ (steerTo offset s).ptp = s.ptp ∧ (steerTo offset s).fans = s.fans ∧
    (steerTo offset s).upds = s.upds ∧ (steerTo offset s).fw = s.fw ∧ (steerTo offset s).log = s.log ∧ (steerTo offset s).bmu = s.bmu ∧
    (steerTo offset s).mirror = s.mirror ∧ (steerTo offset s).pending = s.pending := by
  unfold steerTo; (try dsimp only); (repeat' split) <;> simp

theorem select_frame (w : Write) (g : Session → Session) (s : State) :
    (select w g s).now = s.now ∧ (select w g s).frame = s.frame ∧ (select w g s).free = s.free ∧ (select w g s).plant = s.plant ∧
    (select w g s).broker = s.broker ∧ (select w g s).valves = s.valves ∧ (select w g s).motors = s.motors ∧
    (select w g s).senses = s.senses ∧ (select w g s).pulses = s.pulses ∧ (select w g s).analogs = s.analogs ∧
    (select w g s).auxs = s.auxs ∧ (select w g s).cards = s.cards ∧ (select w g s).service = s.service ∧ (select w g s).seqr = s.seqr ∧
    (select w g s).dies = s.dies ∧ (select w g s).clusters = s.clusters ∧ (select w g s).integ = s.integ ∧
    (select w g s).copies = s.copies ∧ (select w g s).pair = s.pair ∧ (select w g s).links = s.links ∧ (select w g s).hall = s.hall ∧
    (select w g s).buses = s.buses ∧ (select w g s).frameLog = s.frameLog ∧ (select w g s).power = s.power ∧ (select w g s).ptp = s.ptp ∧
    (select w g s).fans = s.fans ∧ (select w g s).upds = s.upds ∧ (select w g s).fw = s.fw ∧ (select w g s).log = s.log ∧
    (select w g s).bmu = s.bmu ∧ (select w g s).mirror = s.mirror ∧ (select w g s).pending = s.pending := by
  unfold select; (try dsimp only); (repeat' split) <;> simp

theorem writeGroupMap_frame (w : Write) (m : Nat) (s : State) :
    (writeGroupMap w m s).now = s.now ∧ (writeGroupMap w m s).frame = s.frame ∧ (writeGroupMap w m s).free = s.free ∧
    (writeGroupMap w m s).plant = s.plant ∧ (writeGroupMap w m s).broker = s.broker ∧ (writeGroupMap w m s).valves = s.valves ∧
    (writeGroupMap w m s).motors = s.motors ∧ (writeGroupMap w m s).senses = s.senses ∧ (writeGroupMap w m s).pulses = s.pulses ∧
    (writeGroupMap w m s).analogs = s.analogs ∧ (writeGroupMap w m s).auxs = s.auxs ∧ (writeGroupMap w m s).cards = s.cards ∧
    (writeGroupMap w m s).service = s.service ∧ (writeGroupMap w m s).seqr = s.seqr ∧ (writeGroupMap w m s).dies = s.dies ∧
    (writeGroupMap w m s).clusters = s.clusters ∧ (writeGroupMap w m s).integ = s.integ ∧ (writeGroupMap w m s).copies = s.copies ∧
    (writeGroupMap w m s).pair = s.pair ∧ (writeGroupMap w m s).links = s.links ∧ (writeGroupMap w m s).hall = s.hall ∧
    (writeGroupMap w m s).buses = s.buses ∧ (writeGroupMap w m s).frameLog = s.frameLog ∧ (writeGroupMap w m s).power = s.power ∧
    (writeGroupMap w m s).ptp = s.ptp ∧ (writeGroupMap w m s).fans = s.fans ∧ (writeGroupMap w m s).upds = s.upds ∧
    (writeGroupMap w m s).fw = s.fw ∧ (writeGroupMap w m s).log = s.log ∧ (writeGroupMap w m s).bmu = s.bmu ∧
    (writeGroupMap w m s).mirror = s.mirror ∧ (writeGroupMap w m s).pending = s.pending := by
  unfold writeGroupMap; (try dsimp only); (repeat' split) <;> simp

theorem clearEvents_frame (w : Write) (s : State) :
    (clearEvents w s).now = s.now ∧ (clearEvents w s).frame = s.frame ∧ (clearEvents w s).free = s.free ∧
    (clearEvents w s).outbox = s.outbox ∧ (clearEvents w s).vcp = s.vcp ∧ (clearEvents w s).plant = s.plant ∧
    (clearEvents w s).broker = s.broker ∧ (clearEvents w s).valves = s.valves ∧ (clearEvents w s).motors = s.motors ∧
    (clearEvents w s).senses = s.senses ∧ (clearEvents w s).pulses = s.pulses ∧ (clearEvents w s).analogs = s.analogs ∧
    (clearEvents w s).auxs = s.auxs ∧ (clearEvents w s).cards = s.cards ∧ (clearEvents w s).service = s.service ∧
    (clearEvents w s).seqr = s.seqr ∧ (clearEvents w s).dies = s.dies ∧ (clearEvents w s).clusters = s.clusters ∧
    (clearEvents w s).integ = s.integ ∧ (clearEvents w s).copies = s.copies ∧ (clearEvents w s).pair = s.pair ∧
    (clearEvents w s).links = s.links ∧ (clearEvents w s).hall = s.hall ∧ (clearEvents w s).buses = s.buses ∧
    (clearEvents w s).frameLog = s.frameLog ∧ (clearEvents w s).power = s.power ∧ (clearEvents w s).ptp = s.ptp ∧
    (clearEvents w s).fans = s.fans ∧ (clearEvents w s).upds = s.upds ∧ (clearEvents w s).fw = s.fw ∧ (clearEvents w s).log = s.log ∧
    (clearEvents w s).bmu = s.bmu ∧ (clearEvents w s).mirror = s.mirror ∧ (clearEvents w s).pending = s.pending := by
  unfold clearEvents; (try dsimp only); (repeat' split) <;> simp

theorem clearMotor_frame (c : Nat) (v : Word) (s : State) :
    (clearMotor c v s).now = s.now ∧ (clearMotor c v s).frame = s.frame ∧ (clearMotor c v s).free = s.free ∧
    (clearMotor c v s).vcp = s.vcp ∧ (clearMotor c v s).plant = s.plant ∧ (clearMotor c v s).broker = s.broker ∧
    (clearMotor c v s).valves = s.valves ∧ (clearMotor c v s).senses = s.senses ∧ (clearMotor c v s).pulses = s.pulses ∧
    (clearMotor c v s).analogs = s.analogs ∧ (clearMotor c v s).auxs = s.auxs ∧ (clearMotor c v s).cards = s.cards ∧
    (clearMotor c v s).service = s.service ∧ (clearMotor c v s).seqr = s.seqr ∧ (clearMotor c v s).dies = s.dies ∧
    (clearMotor c v s).clusters = s.clusters ∧ (clearMotor c v s).integ = s.integ ∧ (clearMotor c v s).copies = s.copies ∧
    (clearMotor c v s).pair = s.pair ∧ (clearMotor c v s).links = s.links ∧ (clearMotor c v s).hall = s.hall ∧
    (clearMotor c v s).buses = s.buses ∧ (clearMotor c v s).frameLog = s.frameLog ∧ (clearMotor c v s).power = s.power ∧
    (clearMotor c v s).ptp = s.ptp ∧ (clearMotor c v s).fans = s.fans ∧ (clearMotor c v s).upds = s.upds ∧ (clearMotor c v s).fw = s.fw ∧
    (clearMotor c v s).bmu = s.bmu ∧ (clearMotor c v s).mirror = s.mirror ∧ (clearMotor c v s).pending = s.pending := by
  have e1 := @motorTo_frame
  unfold clearMotor; (try dsimp only); (repeat' split) <;> simp [e1]

theorem queueCal_frame (i : Nat) (s : State) :
    (queueCal i s).now = s.now ∧ (queueCal i s).frame = s.frame ∧ (queueCal i s).free = s.free ∧ (queueCal i s).regs = s.regs ∧
    (queueCal i s).outbox = s.outbox ∧ (queueCal i s).vcp = s.vcp ∧ (queueCal i s).plant = s.plant ∧ (queueCal i s).broker = s.broker ∧
    (queueCal i s).valves = s.valves ∧ (queueCal i s).motors = s.motors ∧ (queueCal i s).pulses = s.pulses ∧
    (queueCal i s).analogs = s.analogs ∧ (queueCal i s).auxs = s.auxs ∧ (queueCal i s).cards = s.cards ∧
    (queueCal i s).service = s.service ∧ (queueCal i s).seqr = s.seqr ∧ (queueCal i s).dies = s.dies ∧
    (queueCal i s).clusters = s.clusters ∧ (queueCal i s).integ = s.integ ∧ (queueCal i s).copies = s.copies ∧
    (queueCal i s).pair = s.pair ∧ (queueCal i s).links = s.links ∧ (queueCal i s).hall = s.hall ∧ (queueCal i s).buses = s.buses ∧
    (queueCal i s).frameLog = s.frameLog ∧ (queueCal i s).power = s.power ∧ (queueCal i s).ptp = s.ptp ∧ (queueCal i s).fans = s.fans ∧
    (queueCal i s).upds = s.upds ∧ (queueCal i s).fw = s.fw ∧ (queueCal i s).log = s.log ∧ (queueCal i s).bmu = s.bmu ∧
    (queueCal i s).mirror = s.mirror ∧ (queueCal i s).pending = s.pending := by
  unfold queueCal; (try dsimp only); (repeat' split) <;> simp

theorem writeDemand_frame (i : Nat) (w : Write) (s : State) :
    (writeDemand i w s).now = s.now ∧ (writeDemand i w s).frame = s.frame ∧ (writeDemand i w s).free = s.free ∧
    (writeDemand i w s).vcp = s.vcp ∧ (writeDemand i w s).broker = s.broker ∧ (writeDemand i w s).valves = s.valves ∧
    (writeDemand i w s).motors = s.motors ∧ (writeDemand i w s).senses = s.senses ∧ (writeDemand i w s).pulses = s.pulses ∧
    (writeDemand i w s).auxs = s.auxs ∧ (writeDemand i w s).cards = s.cards ∧ (writeDemand i w s).service = s.service ∧
    (writeDemand i w s).seqr = s.seqr ∧ (writeDemand i w s).dies = s.dies ∧ (writeDemand i w s).clusters = s.clusters ∧
    (writeDemand i w s).integ = s.integ ∧ (writeDemand i w s).copies = s.copies ∧ (writeDemand i w s).pair = s.pair ∧
    (writeDemand i w s).links = s.links ∧ (writeDemand i w s).hall = s.hall ∧ (writeDemand i w s).buses = s.buses ∧
    (writeDemand i w s).frameLog = s.frameLog ∧ (writeDemand i w s).power = s.power ∧ (writeDemand i w s).ptp = s.ptp ∧
    (writeDemand i w s).fans = s.fans ∧ (writeDemand i w s).upds = s.upds ∧ (writeDemand i w s).fw = s.fw ∧
    (writeDemand i w s).bmu = s.bmu ∧ (writeDemand i w s).mirror = s.mirror ∧ (writeDemand i w s).pending = s.pending := by
  have e1 := @demand_frame
  unfold writeDemand; (try dsimp only); (repeat' split) <;> simp [e1]

theorem recoverBus_frame (c : Nat) (v : Word) (s : State) :
    (recoverBus c v s).now = s.now ∧ (recoverBus c v s).frame = s.frame ∧ (recoverBus c v s).free = s.free ∧
    (recoverBus c v s).regs = s.regs ∧ (recoverBus c v s).outbox = s.outbox ∧ (recoverBus c v s).vcp = s.vcp ∧
    (recoverBus c v s).plant = s.plant ∧ (recoverBus c v s).broker = s.broker ∧ (recoverBus c v s).valves = s.valves ∧
    (recoverBus c v s).motors = s.motors ∧ (recoverBus c v s).senses = s.senses ∧ (recoverBus c v s).pulses = s.pulses ∧
    (recoverBus c v s).analogs = s.analogs ∧ (recoverBus c v s).auxs = s.auxs ∧ (recoverBus c v s).cards = s.cards ∧
    (recoverBus c v s).service = s.service ∧ (recoverBus c v s).seqr = s.seqr ∧ (recoverBus c v s).dies = s.dies ∧
    (recoverBus c v s).clusters = s.clusters ∧ (recoverBus c v s).integ = s.integ ∧ (recoverBus c v s).copies = s.copies ∧
    (recoverBus c v s).pair = s.pair ∧ (recoverBus c v s).links = s.links ∧ (recoverBus c v s).hall = s.hall ∧
    (recoverBus c v s).frameLog = s.frameLog ∧ (recoverBus c v s).power = s.power ∧ (recoverBus c v s).ptp = s.ptp ∧
    (recoverBus c v s).fans = s.fans ∧ (recoverBus c v s).upds = s.upds ∧ (recoverBus c v s).fw = s.fw ∧ (recoverBus c v s).log = s.log ∧
    (recoverBus c v s).bmu = s.bmu ∧ (recoverBus c v s).mirror = s.mirror ∧ (recoverBus c v s).pending = s.pending := by
  unfold recoverBus; (try dsimp only); (repeat' split) <;> simp

theorem writeLink_frame (l : Nat) (v : Word) (s : State) :
    (writeLink l v s).now = s.now ∧ (writeLink l v s).frame = s.frame ∧ (writeLink l v s).plant = s.plant ∧
    (writeLink l v s).broker = s.broker ∧ (writeLink l v s).valves = s.valves ∧ (writeLink l v s).motors = s.motors ∧
    (writeLink l v s).senses = s.senses ∧ (writeLink l v s).pulses = s.pulses ∧ (writeLink l v s).analogs = s.analogs ∧
    (writeLink l v s).auxs = s.auxs ∧ (writeLink l v s).cards = s.cards ∧ (writeLink l v s).service = s.service ∧
    (writeLink l v s).dies = s.dies ∧ (writeLink l v s).clusters = s.clusters ∧ (writeLink l v s).integ = s.integ ∧
    (writeLink l v s).buses = s.buses ∧ (writeLink l v s).frameLog = s.frameLog ∧ (writeLink l v s).power = s.power ∧
    (writeLink l v s).ptp = s.ptp ∧ (writeLink l v s).fans = s.fans ∧ (writeLink l v s).upds = s.upds ∧ (writeLink l v s).log = s.log ∧
    (writeLink l v s).bmu = s.bmu ∧ (writeLink l v s).mirror = s.mirror ∧ (writeLink l v s).pending = s.pending := by
  have e1 := @linkFalls_frame
  unfold writeLink; (try dsimp only); (repeat' split) <;> simp [e1]

theorem writeBeacon_frame (r : Nat) (w : Write) (s : State) :
    (writeBeacon r w s).now = s.now ∧ (writeBeacon r w s).frame = s.frame ∧ (writeBeacon r w s).free = s.free ∧
    (writeBeacon r w s).broker = s.broker ∧ (writeBeacon r w s).valves = s.valves ∧ (writeBeacon r w s).motors = s.motors ∧
    (writeBeacon r w s).senses = s.senses ∧ (writeBeacon r w s).pulses = s.pulses ∧ (writeBeacon r w s).analogs = s.analogs ∧
    (writeBeacon r w s).cards = s.cards ∧ (writeBeacon r w s).dies = s.dies ∧ (writeBeacon r w s).clusters = s.clusters ∧
    (writeBeacon r w s).copies = s.copies ∧ (writeBeacon r w s).pair = s.pair ∧ (writeBeacon r w s).links = s.links ∧
    (writeBeacon r w s).hall = s.hall ∧ (writeBeacon r w s).frameLog = s.frameLog ∧ (writeBeacon r w s).power = s.power ∧
    (writeBeacon r w s).ptp = s.ptp ∧ (writeBeacon r w s).fans = s.fans ∧ (writeBeacon r w s).fw = s.fw ∧ (writeBeacon r w s).bmu = s.bmu ∧
    (writeBeacon r w s).mirror = s.mirror ∧ (writeBeacon r w s).pending = s.pending := by
  have e1 := @writeConfig_frame
  unfold writeBeacon; (try dsimp only); (repeat' split) <;> simp [e1]

theorem writeDie_frame (i : Nat) (v : Word) (s : State) :
    (writeDie i v s).now = s.now ∧ (writeDie i v s).frame = s.frame ∧ (writeDie i v s).free = s.free ∧ (writeDie i v s).regs = s.regs ∧
    (writeDie i v s).outbox = s.outbox ∧ (writeDie i v s).vcp = s.vcp ∧ (writeDie i v s).plant = s.plant ∧
    (writeDie i v s).broker = s.broker ∧ (writeDie i v s).valves = s.valves ∧ (writeDie i v s).motors = s.motors ∧
    (writeDie i v s).senses = s.senses ∧ (writeDie i v s).pulses = s.pulses ∧ (writeDie i v s).analogs = s.analogs ∧
    (writeDie i v s).auxs = s.auxs ∧ (writeDie i v s).cards = s.cards ∧ (writeDie i v s).service = s.service ∧
    (writeDie i v s).clusters = s.clusters ∧ (writeDie i v s).integ = s.integ ∧ (writeDie i v s).copies = s.copies ∧
    (writeDie i v s).pair = s.pair ∧ (writeDie i v s).links = s.links ∧ (writeDie i v s).hall = s.hall ∧ (writeDie i v s).buses = s.buses ∧
    (writeDie i v s).frameLog = s.frameLog ∧ (writeDie i v s).power = s.power ∧ (writeDie i v s).ptp = s.ptp ∧
    (writeDie i v s).fans = s.fans ∧ (writeDie i v s).upds = s.upds ∧ (writeDie i v s).fw = s.fw ∧ (writeDie i v s).log = s.log ∧
    (writeDie i v s).bmu = s.bmu ∧ (writeDie i v s).mirror = s.mirror ∧ (writeDie i v s).pending = s.pending := by
  have e1 := @askPlacement_frame
  unfold writeDie; (try dsimp only); (repeat' split) <;> simp [e1]

theorem writeTrv_frame (w : Write) (s : State) :
    (writeTrv w s).now = s.now ∧ (writeTrv w s).frame = s.frame ∧ (writeTrv w s).free = s.free ∧ (writeTrv w s).broker = s.broker ∧
    (writeTrv w s).valves = s.valves ∧ (writeTrv w s).motors = s.motors ∧ (writeTrv w s).senses = s.senses ∧
    (writeTrv w s).pulses = s.pulses ∧ (writeTrv w s).analogs = s.analogs ∧ (writeTrv w s).cards = s.cards ∧ (writeTrv w s).dies = s.dies ∧
    (writeTrv w s).clusters = s.clusters ∧ (writeTrv w s).copies = s.copies ∧ (writeTrv w s).pair = s.pair ∧
    (writeTrv w s).frameLog = s.frameLog ∧ (writeTrv w s).power = s.power ∧ (writeTrv w s).ptp = s.ptp ∧ (writeTrv w s).fans = s.fans ∧
    (writeTrv w s).fw = s.fw ∧ (writeTrv w s).bmu = s.bmu ∧ (writeTrv w s).mirror = s.mirror ∧ (writeTrv w s).pending = s.pending := by
  have e1 := @writeConfig_frame
  unfold writeTrv; (try dsimp only); (repeat' split) <;> simp [e1]

theorem writeOut_frame (l : Nat) (w : Write) (s : State) :
    (writeOut l w s).now = s.now ∧ (writeOut l w s).frame = s.frame ∧ (writeOut l w s).free = s.free ∧ (writeOut l w s).valves = s.valves ∧
    (writeOut l w s).senses = s.senses ∧ (writeOut l w s).pulses = s.pulses ∧ (writeOut l w s).analogs = s.analogs ∧
    (writeOut l w s).auxs = s.auxs ∧ (writeOut l w s).cards = s.cards ∧ (writeOut l w s).service = s.service ∧
    (writeOut l w s).seqr = s.seqr ∧ (writeOut l w s).dies = s.dies ∧ (writeOut l w s).clusters = s.clusters ∧
    (writeOut l w s).integ = s.integ ∧ (writeOut l w s).copies = s.copies ∧ (writeOut l w s).pair = s.pair ∧
    (writeOut l w s).links = s.links ∧ (writeOut l w s).hall = s.hall ∧ (writeOut l w s).buses = s.buses ∧
    (writeOut l w s).frameLog = s.frameLog ∧ (writeOut l w s).power = s.power ∧ (writeOut l w s).ptp = s.ptp ∧
    (writeOut l w s).fans = s.fans ∧ (writeOut l w s).upds = s.upds ∧ (writeOut l w s).fw = s.fw ∧ (writeOut l w s).bmu = s.bmu ∧
    (writeOut l w s).mirror = s.mirror ∧ (writeOut l w s).pending = s.pending := by
  have e1 := @joinDuty_frame
  have e2 := @leaveDuty_frame
  unfold writeOut; (try dsimp only); (repeat' split) <;> simp [e1, e2]

theorem writeSp_frame (l : Nat) (w : Write) (s : State) :
    (writeSp l w s).now = s.now ∧ (writeSp l w s).frame = s.frame ∧ (writeSp l w s).free = s.free ∧ (writeSp l w s).broker = s.broker ∧
    (writeSp l w s).valves = s.valves ∧ (writeSp l w s).motors = s.motors ∧ (writeSp l w s).senses = s.senses ∧
    (writeSp l w s).pulses = s.pulses ∧ (writeSp l w s).analogs = s.analogs ∧ (writeSp l w s).cards = s.cards ∧
    (writeSp l w s).dies = s.dies ∧ (writeSp l w s).clusters = s.clusters ∧ (writeSp l w s).copies = s.copies ∧
    (writeSp l w s).pair = s.pair ∧ (writeSp l w s).links = s.links ∧ (writeSp l w s).hall = s.hall ∧
    (writeSp l w s).frameLog = s.frameLog ∧ (writeSp l w s).power = s.power ∧ (writeSp l w s).ptp = s.ptp ∧ (writeSp l w s).fans = s.fans ∧
    (writeSp l w s).fw = s.fw ∧ (writeSp l w s).bmu = s.bmu ∧ (writeSp l w s).mirror = s.mirror ∧ (writeSp l w s).pending = s.pending := by
  have e1 := @writeConfig_frame
  unfold writeSp; (try dsimp only); (repeat' split) <;> simp [e1]

theorem restorePump_frame (p : Nat) (s : State) :
    (restorePump p s).now = s.now ∧ (restorePump p s).frame = s.frame ∧ (restorePump p s).free = s.free ∧
    (restorePump p s).valves = s.valves ∧ (restorePump p s).motors = s.motors ∧ (restorePump p s).senses = s.senses ∧
    (restorePump p s).pulses = s.pulses ∧ (restorePump p s).analogs = s.analogs ∧ (restorePump p s).auxs = s.auxs ∧
    (restorePump p s).cards = s.cards ∧ (restorePump p s).service = s.service ∧ (restorePump p s).seqr = s.seqr ∧
    (restorePump p s).dies = s.dies ∧ (restorePump p s).clusters = s.clusters ∧ (restorePump p s).integ = s.integ ∧
    (restorePump p s).copies = s.copies ∧ (restorePump p s).pair = s.pair ∧ (restorePump p s).links = s.links ∧
    (restorePump p s).hall = s.hall ∧ (restorePump p s).buses = s.buses ∧ (restorePump p s).frameLog = s.frameLog ∧
    (restorePump p s).power = s.power ∧ (restorePump p s).ptp = s.ptp ∧ (restorePump p s).fans = s.fans ∧ (restorePump p s).upds = s.upds ∧
    (restorePump p s).fw = s.fw ∧ (restorePump p s).bmu = s.bmu ∧ (restorePump p s).mirror = s.mirror ∧
    (restorePump p s).pending = s.pending := by
  have e1 := @rowEnd_frame
  unfold restorePump; (try dsimp only); (repeat' split) <;> simp [e1]

theorem writeRackCfg_frame (r : Nat) (w : Write) (s : State) :
    (writeRackCfg r w s).now = s.now ∧ (writeRackCfg r w s).frame = s.frame ∧ (writeRackCfg r w s).valves = s.valves ∧
    (writeRackCfg r w s).motors = s.motors ∧ (writeRackCfg r w s).senses = s.senses ∧ (writeRackCfg r w s).pulses = s.pulses ∧
    (writeRackCfg r w s).analogs = s.analogs ∧ (writeRackCfg r w s).cards = s.cards ∧ (writeRackCfg r w s).dies = s.dies ∧
    (writeRackCfg r w s).clusters = s.clusters ∧ (writeRackCfg r w s).copies = s.copies ∧ (writeRackCfg r w s).pair = s.pair ∧
    (writeRackCfg r w s).links = s.links ∧ (writeRackCfg r w s).hall = s.hall ∧ (writeRackCfg r w s).frameLog = s.frameLog ∧
    (writeRackCfg r w s).power = s.power ∧ (writeRackCfg r w s).ptp = s.ptp ∧ (writeRackCfg r w s).fans = s.fans ∧
    (writeRackCfg r w s).fw = s.fw ∧ (writeRackCfg r w s).bmu = s.bmu ∧ (writeRackCfg r w s).mirror = s.mirror ∧
    (writeRackCfg r w s).pending = s.pending := by
  have e1 := @writeConfig_frame
  have e2 := @grantSet_frame
  unfold writeRackCfg; (try dsimp only); (repeat' split) <;> simp [e1, e2]

theorem writeCtrl_frame (w : Write) (s : State) :
    (writeCtrl w s).now = s.now ∧ (writeCtrl w s).frame = s.frame ∧ (writeCtrl w s).free = s.free ∧ (writeCtrl w s).broker = s.broker ∧
    (writeCtrl w s).valves = s.valves ∧ (writeCtrl w s).motors = s.motors ∧ (writeCtrl w s).senses = s.senses ∧
    (writeCtrl w s).pulses = s.pulses ∧ (writeCtrl w s).analogs = s.analogs ∧ (writeCtrl w s).cards = s.cards ∧
    (writeCtrl w s).dies = s.dies ∧ (writeCtrl w s).clusters = s.clusters ∧ (writeCtrl w s).copies = s.copies ∧
    (writeCtrl w s).pair = s.pair ∧ (writeCtrl w s).links = s.links ∧ (writeCtrl w s).hall = s.hall ∧
    (writeCtrl w s).frameLog = s.frameLog ∧ (writeCtrl w s).power = s.power ∧ (writeCtrl w s).ptp = s.ptp ∧ (writeCtrl w s).fans = s.fans ∧
    (writeCtrl w s).fw = s.fw ∧ (writeCtrl w s).bmu = s.bmu ∧ (writeCtrl w s).mirror = s.mirror ∧ (writeCtrl w s).pending = s.pending := by
  have e1 := @writeConfig_frame
  unfold writeCtrl; (try dsimp only); (repeat' split) <;> simp [e1]

theorem endDeckRequests_frame (s : State) :
    (endDeckRequests s).now = s.now ∧ (endDeckRequests s).frame = s.frame ∧ (endDeckRequests s).free = s.free ∧
    (endDeckRequests s).broker = s.broker ∧ (endDeckRequests s).senses = s.senses ∧ (endDeckRequests s).pulses = s.pulses ∧
    (endDeckRequests s).analogs = s.analogs ∧ (endDeckRequests s).auxs = s.auxs ∧ (endDeckRequests s).cards = s.cards ∧
    (endDeckRequests s).service = s.service ∧ (endDeckRequests s).dies = s.dies ∧ (endDeckRequests s).clusters = s.clusters ∧
    (endDeckRequests s).integ = s.integ ∧ (endDeckRequests s).copies = s.copies ∧ (endDeckRequests s).pair = s.pair ∧
    (endDeckRequests s).links = s.links ∧ (endDeckRequests s).hall = s.hall ∧ (endDeckRequests s).buses = s.buses ∧
    (endDeckRequests s).frameLog = s.frameLog ∧ (endDeckRequests s).power = s.power ∧ (endDeckRequests s).ptp = s.ptp ∧
    (endDeckRequests s).fans = s.fans ∧ (endDeckRequests s).upds = s.upds ∧ (endDeckRequests s).fw = s.fw ∧
    (endDeckRequests s).bmu = s.bmu ∧ (endDeckRequests s).mirror = s.mirror ∧ (endDeckRequests s).pending = s.pending := by
  have e1 := @dropValveCmd_frame
  have e2 := @endMotorCmd_frame
  have e3 := @loaded_frame
  unfold endDeckRequests; (try dsimp only); (repeat' split) <;> simp [e1, e2, e3]

theorem haltDeck_frame (s : State) :
    (haltDeck s).now = s.now ∧ (haltDeck s).frame = s.frame ∧ (haltDeck s).free = s.free ∧ (haltDeck s).broker = s.broker ∧
    (haltDeck s).senses = s.senses ∧ (haltDeck s).pulses = s.pulses ∧ (haltDeck s).analogs = s.analogs ∧ (haltDeck s).auxs = s.auxs ∧
    (haltDeck s).cards = s.cards ∧ (haltDeck s).service = s.service ∧ (haltDeck s).dies = s.dies ∧ (haltDeck s).clusters = s.clusters ∧
    (haltDeck s).integ = s.integ ∧ (haltDeck s).copies = s.copies ∧ (haltDeck s).pair = s.pair ∧ (haltDeck s).links = s.links ∧
    (haltDeck s).hall = s.hall ∧ (haltDeck s).buses = s.buses ∧ (haltDeck s).frameLog = s.frameLog ∧ (haltDeck s).power = s.power ∧
    (haltDeck s).ptp = s.ptp ∧ (haltDeck s).fans = s.fans ∧ (haltDeck s).upds = s.upds ∧ (haltDeck s).bmu = s.bmu ∧
    (haltDeck s).mirror = s.mirror ∧ (haltDeck s).pending = s.pending := by
  have e1 := @endDeckRequests_frame
  unfold haltDeck; (try dsimp only); (repeat' split) <;> simp [e1]

theorem restartDeck_frame (s : State) :
    (restartDeck s).now = s.now ∧ (restartDeck s).frame = s.frame ∧ (restartDeck s).free = s.free ∧ (restartDeck s).broker = s.broker ∧
    (restartDeck s).senses = s.senses ∧ (restartDeck s).pulses = s.pulses ∧ (restartDeck s).analogs = s.analogs ∧
    (restartDeck s).auxs = s.auxs ∧ (restartDeck s).cards = s.cards ∧ (restartDeck s).service = s.service ∧ (restartDeck s).dies = s.dies ∧
    (restartDeck s).clusters = s.clusters ∧ (restartDeck s).integ = s.integ ∧ (restartDeck s).copies = s.copies ∧
    (restartDeck s).pair = s.pair ∧ (restartDeck s).links = s.links ∧ (restartDeck s).hall = s.hall ∧ (restartDeck s).buses = s.buses ∧
    (restartDeck s).frameLog = s.frameLog ∧ (restartDeck s).power = s.power ∧ (restartDeck s).ptp = s.ptp ∧ (restartDeck s).fans = s.fans ∧
    (restartDeck s).upds = s.upds ∧ (restartDeck s).bmu = s.bmu ∧ (restartDeck s).mirror = s.mirror ∧
    (restartDeck s).pending = s.pending := by
  have e1 := @haltDeck_frame
  unfold restartDeck; (try dsimp only); (repeat' split) <;> simp [e1]

theorem restartPreman_frame (s : State) :
    (restartPreman s).now = s.now ∧ (restartPreman s).frame = s.frame ∧ (restartPreman s).pending = s.pending := by
  have e1 := @hubReset_frame
  unfold restartPreman; (try dsimp only); (repeat' split) <;> simp [e1]

theorem restartTraverse_frame (s : State) :
    (restartTraverse s).now = s.now ∧ (restartTraverse s).frame = s.frame ∧ (restartTraverse s).free = s.free ∧
    (restartTraverse s).broker = s.broker ∧ (restartTraverse s).valves = s.valves ∧ (restartTraverse s).motors = s.motors ∧
    (restartTraverse s).senses = s.senses ∧ (restartTraverse s).pulses = s.pulses ∧ (restartTraverse s).analogs = s.analogs ∧
    (restartTraverse s).auxs = s.auxs ∧ (restartTraverse s).cards = s.cards ∧ (restartTraverse s).service = s.service ∧
    (restartTraverse s).clusters = s.clusters ∧ (restartTraverse s).integ = s.integ ∧ (restartTraverse s).pair = s.pair ∧
    (restartTraverse s).links = s.links ∧ (restartTraverse s).hall = s.hall ∧ (restartTraverse s).buses = s.buses ∧
    (restartTraverse s).frameLog = s.frameLog ∧ (restartTraverse s).power = s.power ∧ (restartTraverse s).ptp = s.ptp ∧
    (restartTraverse s).fans = s.fans ∧ (restartTraverse s).fw = s.fw ∧ (restartTraverse s).bmu = s.bmu ∧
    (restartTraverse s).mirror = s.mirror ∧ (restartTraverse s).pending = s.pending := by
  have e1 := @stopTraverse_frame
  have e2 := @loadActivated_frame
  have e3 := @loaded_frame
  unfold restartTraverse; (try dsimp only); (repeat' split) <;> simp [e1, e2, e3]

theorem restartKind_frame (k : Nat) (s : State) :
    (restartKind k s).now = s.now ∧ (restartKind k s).frame = s.frame ∧ (restartKind k s).pending = s.pending := by
  have e1 := @restartPreman_frame
  have e2 := @restartDeck_frame
  have e3 := @restartTraverse_frame
  have e4 := @flashCard_frame
  have e5 := @enumerate_frame
  unfold restartKind; (try dsimp only); (repeat' split) <;> simp [e1, e2, e3, e4, e5]

theorem activate_frame (k : Nat) (o : Origin) (until_ : Time) (s : State) :
    (activate k o until_ s).now = s.now ∧ (activate k o until_ s).frame = s.frame ∧ (activate k o until_ s).pending = s.pending := by
  have e1 := @restartKind_frame
  have e2 := @issueAlias_frame
  unfold activate; (try dsimp only); (repeat' split) <;> simp [e1, e2]

theorem rollUnit_frame (k : Nat) (s : State) :
    (rollUnit k s).now = s.now ∧ (rollUnit k s).frame = s.frame ∧ (rollUnit k s).free = s.free ∧ (rollUnit k s).plant = s.plant ∧
    (rollUnit k s).broker = s.broker ∧ (rollUnit k s).valves = s.valves ∧ (rollUnit k s).motors = s.motors ∧
    (rollUnit k s).senses = s.senses ∧ (rollUnit k s).pulses = s.pulses ∧ (rollUnit k s).analogs = s.analogs ∧
    (rollUnit k s).auxs = s.auxs ∧ (rollUnit k s).cards = s.cards ∧ (rollUnit k s).service = s.service ∧ (rollUnit k s).seqr = s.seqr ∧
    (rollUnit k s).dies = s.dies ∧ (rollUnit k s).clusters = s.clusters ∧ (rollUnit k s).integ = s.integ ∧
    (rollUnit k s).copies = s.copies ∧ (rollUnit k s).pair = s.pair ∧ (rollUnit k s).links = s.links ∧ (rollUnit k s).hall = s.hall ∧
    (rollUnit k s).buses = s.buses ∧ (rollUnit k s).frameLog = s.frameLog ∧ (rollUnit k s).power = s.power ∧ (rollUnit k s).ptp = s.ptp ∧
    (rollUnit k s).fans = s.fans ∧ (rollUnit k s).log = s.log ∧ (rollUnit k s).bmu = s.bmu ∧ (rollUnit k s).mirror = s.mirror ∧
    (rollUnit k s).pending = s.pending := by
  have e1 := @issueAlias_frame
  unfold rollUnit; (try dsimp only); (repeat' split) <;> simp [e1]

theorem confirm_frame (k : Nat) (s : State) :
    (confirm k s).now = s.now ∧ (confirm k s).frame = s.frame ∧ (confirm k s).free = s.free ∧ (confirm k s).outbox = s.outbox ∧
    (confirm k s).vcp = s.vcp ∧ (confirm k s).plant = s.plant ∧ (confirm k s).broker = s.broker ∧ (confirm k s).valves = s.valves ∧
    (confirm k s).motors = s.motors ∧ (confirm k s).senses = s.senses ∧ (confirm k s).pulses = s.pulses ∧
    (confirm k s).analogs = s.analogs ∧ (confirm k s).auxs = s.auxs ∧ (confirm k s).cards = s.cards ∧ (confirm k s).service = s.service ∧
    (confirm k s).seqr = s.seqr ∧ (confirm k s).dies = s.dies ∧ (confirm k s).clusters = s.clusters ∧ (confirm k s).integ = s.integ ∧
    (confirm k s).copies = s.copies ∧ (confirm k s).pair = s.pair ∧ (confirm k s).links = s.links ∧ (confirm k s).hall = s.hall ∧
    (confirm k s).buses = s.buses ∧ (confirm k s).frameLog = s.frameLog ∧ (confirm k s).power = s.power ∧ (confirm k s).ptp = s.ptp ∧
    (confirm k s).fans = s.fans ∧ (confirm k s).log = s.log ∧ (confirm k s).bmu = s.bmu ∧ (confirm k s).mirror = s.mirror ∧
    (confirm k s).pending = s.pending := by
  have e1 := @advanceFor_frame
  have e2 := @issueAlias_frame
  unfold confirm; (try dsimp only); (repeat' split) <;> simp [e1, e2]

theorem abortBank_frame (k : Nat) (s : State) :
    (abortBank k s).now = s.now ∧ (abortBank k s).frame = s.frame ∧ (abortBank k s).free = s.free ∧ (abortBank k s).outbox = s.outbox ∧
    (abortBank k s).vcp = s.vcp ∧ (abortBank k s).plant = s.plant ∧ (abortBank k s).broker = s.broker ∧ (abortBank k s).valves = s.valves ∧
    (abortBank k s).motors = s.motors ∧ (abortBank k s).senses = s.senses ∧ (abortBank k s).pulses = s.pulses ∧
    (abortBank k s).analogs = s.analogs ∧ (abortBank k s).auxs = s.auxs ∧ (abortBank k s).cards = s.cards ∧
    (abortBank k s).service = s.service ∧ (abortBank k s).seqr = s.seqr ∧ (abortBank k s).dies = s.dies ∧
    (abortBank k s).clusters = s.clusters ∧ (abortBank k s).integ = s.integ ∧ (abortBank k s).copies = s.copies ∧
    (abortBank k s).pair = s.pair ∧ (abortBank k s).links = s.links ∧ (abortBank k s).hall = s.hall ∧ (abortBank k s).buses = s.buses ∧
    (abortBank k s).frameLog = s.frameLog ∧ (abortBank k s).power = s.power ∧ (abortBank k s).ptp = s.ptp ∧ (abortBank k s).fans = s.fans ∧
    (abortBank k s).fw = s.fw ∧ (abortBank k s).log = s.log ∧ (abortBank k s).bmu = s.bmu ∧ (abortBank k s).mirror = s.mirror ∧
    (abortBank k s).pending = s.pending := by
  unfold abortBank; (try dsimp only); (repeat' split) <;> simp

theorem abortTrial_frame (k : Nat) (until_ : Time) (s : State) :
    (abortTrial k until_ s).now = s.now ∧ (abortTrial k until_ s).frame = s.frame ∧ (abortTrial k until_ s).pending = s.pending := by
  have e1 := @restartKind_frame
  have e2 := @rollUnit_frame
  unfold abortTrial; (try dsimp only); (repeat' split) <;> simp [e1, e2]

theorem abortLate_frame (k stage : Nat) (s : State) :
    (abortLate k stage s).now = s.now ∧ (abortLate k stage s).frame = s.frame ∧ (abortLate k stage s).pending = s.pending := by
  have e1 := @abortTrial_frame
  have e2 := @abortBank_frame
  unfold abortLate; (try dsimp only); (repeat' split) <;> simp [e1, e2]

theorem keeperLimits_frame (s : State) :
    (keeperLimits s).now = s.now ∧ (keeperLimits s).frame = s.frame ∧ (keeperLimits s).valves = s.valves ∧
    (keeperLimits s).senses = s.senses ∧ (keeperLimits s).pulses = s.pulses ∧ (keeperLimits s).analogs = s.analogs ∧
    (keeperLimits s).auxs = s.auxs ∧ (keeperLimits s).cards = s.cards ∧ (keeperLimits s).service = s.service ∧
    (keeperLimits s).dies = s.dies ∧ (keeperLimits s).clusters = s.clusters ∧ (keeperLimits s).copies = s.copies ∧
    (keeperLimits s).pair = s.pair ∧ (keeperLimits s).links = s.links ∧ (keeperLimits s).hall = s.hall ∧ (keeperLimits s).buses = s.buses ∧
    (keeperLimits s).frameLog = s.frameLog ∧ (keeperLimits s).power = s.power ∧ (keeperLimits s).ptp = s.ptp ∧
    (keeperLimits s).fans = s.fans ∧ (keeperLimits s).upds = s.upds ∧ (keeperLimits s).fw = s.fw ∧ (keeperLimits s).bmu = s.bmu ∧
    (keeperLimits s).mirror = s.mirror ∧ (keeperLimits s).pending = s.pending := by
  have e1 := @ownTransitions_frame
  have e2 := @evalRows_frame
  unfold keeperLimits; (try dsimp only); (repeat' split) <;> simp [e1, e2]

theorem keeperFrame_frame (s : State) :
    (keeperFrame s).now = s.now ∧ (keeperFrame s).frame = s.frame ∧ (keeperFrame s).senses = s.senses ∧ (keeperFrame s).pulses = s.pulses ∧
    (keeperFrame s).auxs = s.auxs ∧ (keeperFrame s).cards = s.cards ∧ (keeperFrame s).service = s.service ∧ (keeperFrame s).seqr = s.seqr ∧
    (keeperFrame s).dies = s.dies ∧ (keeperFrame s).clusters = s.clusters ∧ (keeperFrame s).integ = s.integ ∧
    (keeperFrame s).copies = s.copies ∧ (keeperFrame s).pair = s.pair ∧ (keeperFrame s).links = s.links ∧ (keeperFrame s).hall = s.hall ∧
    (keeperFrame s).buses = s.buses ∧ (keeperFrame s).frameLog = s.frameLog ∧ (keeperFrame s).power = s.power ∧
    (keeperFrame s).ptp = s.ptp ∧ (keeperFrame s).fans = s.fans ∧ (keeperFrame s).upds = s.upds ∧ (keeperFrame s).fw = s.fw ∧
    (keeperFrame s).bmu = s.bmu ∧ (keeperFrame s).mirror = s.mirror ∧ (keeperFrame s).pending = s.pending := by
  have e1 := @frameLeaks_frame
  have e2 := @settleNoAck_frame
  have e3 := @framePulls_frame
  have e4 := @frameCommands_frame
  have e5 := @frameMotorCmds_frame
  have e6 := @frameRamp_frame
  have e7 := @frameOutputs_frame
  have e8 := @frameBands_frame
  have e9 := @completeTimed_frame
  unfold keeperFrame; (try dsimp only); (repeat' split) <;> simp [e1, e2, e3, e4, e5, e6, e7, e8, e9]

theorem mirrorFrame_frame (values : List (Nat × InputVal)) (s : State) :
    (mirrorFrame values s).now = s.now ∧ (mirrorFrame values s).frame = s.frame ∧ (mirrorFrame values s).free = s.free ∧
    (mirrorFrame values s).regs = s.regs ∧ (mirrorFrame values s).vcp = s.vcp ∧ (mirrorFrame values s).plant = s.plant ∧
    (mirrorFrame values s).broker = s.broker ∧ (mirrorFrame values s).valves = s.valves ∧ (mirrorFrame values s).motors = s.motors ∧
    (mirrorFrame values s).senses = s.senses ∧ (mirrorFrame values s).pulses = s.pulses ∧ (mirrorFrame values s).analogs = s.analogs ∧
    (mirrorFrame values s).auxs = s.auxs ∧ (mirrorFrame values s).cards = s.cards ∧ (mirrorFrame values s).service = s.service ∧
    (mirrorFrame values s).seqr = s.seqr ∧ (mirrorFrame values s).dies = s.dies ∧ (mirrorFrame values s).clusters = s.clusters ∧
    (mirrorFrame values s).integ = s.integ ∧ (mirrorFrame values s).copies = s.copies ∧ (mirrorFrame values s).pair = s.pair ∧
    (mirrorFrame values s).links = s.links ∧ (mirrorFrame values s).hall = s.hall ∧ (mirrorFrame values s).buses = s.buses ∧
    (mirrorFrame values s).frameLog = s.frameLog ∧ (mirrorFrame values s).power = s.power ∧ (mirrorFrame values s).ptp = s.ptp ∧
    (mirrorFrame values s).fans = s.fans ∧ (mirrorFrame values s).upds = s.upds ∧ (mirrorFrame values s).fw = s.fw ∧
    (mirrorFrame values s).log = s.log ∧ (mirrorFrame values s).bmu = s.bmu ∧ (mirrorFrame values s).mirror = s.mirror ∧
    (mirrorFrame values s).pending = s.pending := by
  have e1 := @demand_frame
  unfold mirrorFrame; (try dsimp only); (repeat' split) <;> simp [e1]

theorem gatherInputs_frame (values : List (Nat × InputVal)) (s : State) :
    (gatherInputs values s).now = s.now ∧ (gatherInputs values s).frame = s.frame ∧ (gatherInputs values s).free = s.free ∧
    (gatherInputs values s).regs = s.regs ∧ (gatherInputs values s).outbox = s.outbox ∧ (gatherInputs values s).vcp = s.vcp ∧
    (gatherInputs values s).plant = s.plant ∧ (gatherInputs values s).broker = s.broker ∧ (gatherInputs values s).valves = s.valves ∧
    (gatherInputs values s).motors = s.motors ∧ (gatherInputs values s).senses = s.senses ∧ (gatherInputs values s).pulses = s.pulses ∧
    (gatherInputs values s).analogs = s.analogs ∧ (gatherInputs values s).auxs = s.auxs ∧ (gatherInputs values s).cards = s.cards ∧
    (gatherInputs values s).service = s.service ∧ (gatherInputs values s).dies = s.dies ∧ (gatherInputs values s).clusters = s.clusters ∧
    (gatherInputs values s).integ = s.integ ∧ (gatherInputs values s).copies = s.copies ∧ (gatherInputs values s).pair = s.pair ∧
    (gatherInputs values s).links = s.links ∧ (gatherInputs values s).hall = s.hall ∧ (gatherInputs values s).buses = s.buses ∧
    (gatherInputs values s).frameLog = s.frameLog ∧ (gatherInputs values s).power = s.power ∧ (gatherInputs values s).ptp = s.ptp ∧
    (gatherInputs values s).fans = s.fans ∧ (gatherInputs values s).upds = s.upds ∧ (gatherInputs values s).fw = s.fw ∧
    (gatherInputs values s).log = s.log ∧ (gatherInputs values s).bmu = s.bmu ∧ (gatherInputs values s).mirror = s.mirror ∧
    (gatherInputs values s).pending = s.pending := by
  unfold gatherInputs; (try dsimp only); (repeat' split) <;> simp

theorem writeAfter_frame (d : AfterDue) (s : State) :
    (writeAfter d s).now = s.now ∧ (writeAfter d s).frame = s.frame ∧ (writeAfter d s).free = s.free ∧ (writeAfter d s).vcp = s.vcp ∧
    (writeAfter d s).plant = s.plant ∧ (writeAfter d s).broker = s.broker ∧ (writeAfter d s).valves = s.valves ∧
    (writeAfter d s).motors = s.motors ∧ (writeAfter d s).senses = s.senses ∧ (writeAfter d s).pulses = s.pulses ∧
    (writeAfter d s).analogs = s.analogs ∧ (writeAfter d s).auxs = s.auxs ∧ (writeAfter d s).cards = s.cards ∧
    (writeAfter d s).service = s.service ∧ (writeAfter d s).seqr = s.seqr ∧ (writeAfter d s).dies = s.dies ∧
    (writeAfter d s).clusters = s.clusters ∧ (writeAfter d s).integ = s.integ ∧ (writeAfter d s).copies = s.copies ∧
    (writeAfter d s).pair = s.pair ∧ (writeAfter d s).links = s.links ∧ (writeAfter d s).hall = s.hall ∧ (writeAfter d s).buses = s.buses ∧
    (writeAfter d s).frameLog = s.frameLog ∧ (writeAfter d s).power = s.power ∧ (writeAfter d s).ptp = s.ptp ∧
    (writeAfter d s).fans = s.fans ∧ (writeAfter d s).upds = s.upds ∧ (writeAfter d s).fw = s.fw ∧ (writeAfter d s).bmu = s.bmu ∧
    (writeAfter d s).mirror = s.mirror ∧ (writeAfter d s).pending = s.pending := by
  unfold writeAfter; (try dsimp only); (repeat' split) <;> simp

theorem showPage_frame (s : State) :
    (showPage s).now = s.now ∧ (showPage s).frame = s.frame ∧ (showPage s).free = s.free ∧ (showPage s).regs = s.regs ∧
    (showPage s).vcp = s.vcp ∧ (showPage s).plant = s.plant ∧ (showPage s).broker = s.broker ∧ (showPage s).valves = s.valves ∧
    (showPage s).motors = s.motors ∧ (showPage s).senses = s.senses ∧ (showPage s).pulses = s.pulses ∧ (showPage s).analogs = s.analogs ∧
    (showPage s).auxs = s.auxs ∧ (showPage s).cards = s.cards ∧ (showPage s).service = s.service ∧ (showPage s).seqr = s.seqr ∧
    (showPage s).dies = s.dies ∧ (showPage s).clusters = s.clusters ∧ (showPage s).integ = s.integ ∧ (showPage s).copies = s.copies ∧
    (showPage s).pair = s.pair ∧ (showPage s).links = s.links ∧ (showPage s).hall = s.hall ∧ (showPage s).buses = s.buses ∧
    (showPage s).frameLog = s.frameLog ∧ (showPage s).power = s.power ∧ (showPage s).ptp = s.ptp ∧ (showPage s).fans = s.fans ∧
    (showPage s).upds = s.upds ∧ (showPage s).fw = s.fw ∧ (showPage s).log = s.log ∧ (showPage s).bmu = s.bmu ∧
    (showPage s).mirror = s.mirror ∧ (showPage s).pending = s.pending := by
  unfold showPage; (try dsimp only); (repeat' split) <;> simp

theorem commitJournal_frame (j : JournalWrite) (s : State) :
    (commitJournal j s).now = s.now ∧ (commitJournal j s).frame = s.frame ∧ (commitJournal j s).regs = s.regs ∧
    (commitJournal j s).outbox = s.outbox ∧ (commitJournal j s).vcp = s.vcp ∧ (commitJournal j s).plant = s.plant ∧
    (commitJournal j s).broker = s.broker ∧ (commitJournal j s).valves = s.valves ∧ (commitJournal j s).motors = s.motors ∧
    (commitJournal j s).senses = s.senses ∧ (commitJournal j s).pulses = s.pulses ∧ (commitJournal j s).analogs = s.analogs ∧
    (commitJournal j s).auxs = s.auxs ∧ (commitJournal j s).cards = s.cards ∧ (commitJournal j s).service = s.service ∧
    (commitJournal j s).seqr = s.seqr ∧ (commitJournal j s).dies = s.dies ∧ (commitJournal j s).clusters = s.clusters ∧
    (commitJournal j s).integ = s.integ ∧ (commitJournal j s).copies = s.copies ∧ (commitJournal j s).pair = s.pair ∧
    (commitJournal j s).links = s.links ∧ (commitJournal j s).hall = s.hall ∧ (commitJournal j s).buses = s.buses ∧
    (commitJournal j s).frameLog = s.frameLog ∧ (commitJournal j s).power = s.power ∧ (commitJournal j s).ptp = s.ptp ∧
    (commitJournal j s).fans = s.fans ∧ (commitJournal j s).upds = s.upds ∧ (commitJournal j s).fw = s.fw ∧
    (commitJournal j s).log = s.log ∧ (commitJournal j s).mirror = s.mirror ∧ (commitJournal j s).pending = s.pending := by
  unfold commitJournal; (try dsimp only); (repeat' split) <;> simp

theorem fieldGone_frame (s : State) :
    (fieldGone s).now = s.now ∧ (fieldGone s).frame = s.frame ∧ (fieldGone s).free = s.free ∧ (fieldGone s).regs = s.regs ∧
    (fieldGone s).outbox = s.outbox ∧ (fieldGone s).vcp = s.vcp ∧ (fieldGone s).plant = s.plant ∧ (fieldGone s).broker = s.broker ∧
    (fieldGone s).valves = s.valves ∧ (fieldGone s).motors = s.motors ∧ (fieldGone s).senses = s.senses ∧ (fieldGone s).pulses = s.pulses ∧
    (fieldGone s).analogs = s.analogs ∧ (fieldGone s).auxs = s.auxs ∧ (fieldGone s).cards = s.cards ∧ (fieldGone s).service = s.service ∧
    (fieldGone s).seqr = s.seqr ∧ (fieldGone s).dies = s.dies ∧ (fieldGone s).clusters = s.clusters ∧ (fieldGone s).integ = s.integ ∧
    (fieldGone s).copies = s.copies ∧ (fieldGone s).pair = s.pair ∧ (fieldGone s).links = s.links ∧ (fieldGone s).hall = s.hall ∧
    (fieldGone s).buses = s.buses ∧ (fieldGone s).frameLog = s.frameLog ∧ (fieldGone s).power = s.power ∧ (fieldGone s).ptp = s.ptp ∧
    (fieldGone s).fans = s.fans ∧ (fieldGone s).upds = s.upds ∧ (fieldGone s).fw = s.fw ∧ (fieldGone s).log = s.log ∧
    (fieldGone s).mirror = s.mirror ∧ (fieldGone s).pending = s.pending := by
  unfold fieldGone; (try dsimp only); (repeat' split) <;> simp

theorem writeJournal_frame (j : JournalWrite) (s : State) :
    (writeJournal j s).now = s.now ∧ (writeJournal j s).frame = s.frame ∧ (writeJournal j s).regs = s.regs ∧
    (writeJournal j s).vcp = s.vcp ∧ (writeJournal j s).plant = s.plant ∧ (writeJournal j s).broker = s.broker ∧
    (writeJournal j s).valves = s.valves ∧ (writeJournal j s).motors = s.motors ∧ (writeJournal j s).senses = s.senses ∧
    (writeJournal j s).pulses = s.pulses ∧ (writeJournal j s).analogs = s.analogs ∧ (writeJournal j s).auxs = s.auxs ∧
    (writeJournal j s).cards = s.cards ∧ (writeJournal j s).service = s.service ∧ (writeJournal j s).seqr = s.seqr ∧
    (writeJournal j s).dies = s.dies ∧ (writeJournal j s).clusters = s.clusters ∧ (writeJournal j s).integ = s.integ ∧
    (writeJournal j s).copies = s.copies ∧ (writeJournal j s).pair = s.pair ∧ (writeJournal j s).links = s.links ∧
    (writeJournal j s).hall = s.hall ∧ (writeJournal j s).buses = s.buses ∧ (writeJournal j s).frameLog = s.frameLog ∧
    (writeJournal j s).power = s.power ∧ (writeJournal j s).ptp = s.ptp ∧ (writeJournal j s).fans = s.fans ∧
    (writeJournal j s).upds = s.upds ∧ (writeJournal j s).fw = s.fw ∧ (writeJournal j s).log = s.log ∧
    (writeJournal j s).mirror = s.mirror ∧ (writeJournal j s).pending = s.pending := by
  have e1 := @fieldGone_frame
  have e2 := @commitJournal_frame
  unfold writeJournal; (try dsimp only); (repeat' split) <;> simp [e1, e2]

end Sys2Proof.Machine
end

