-- ==== Sys2Proof/Laws/Requests.lean ====
section
/-! SUPPORT. Requests: a served request comes down to its opcode's own answer, and what the reply, admission and the kept replies
leave unchanged. -/

namespace Sys2Proof.Machine

open Sys2Proof Sys2Proof.Safety

@[simp] theorem touch_kept (h : Hdr) (sid : BitVec 16) (s : State) : (touch h sid s).vcp.kept = s.vcp.kept := rfl
@[simp] theorem touch_accepted (h : Hdr) (sid : BitVec 16) (s : State) : (touch h sid s).vcp.accepted = s.vcp.accepted := rfl
@[simp] theorem touch_assocs (h : Hdr) (sid : BitVec 16) (s : State) : (touch h sid s).vcp.assocs = (countRecords h.assoc s).vcp.assocs := rfl
@[simp] theorem touch_groups (h : Hdr) (sid : BitVec 16) (s : State) : (touch h sid s).vcp.groups = s.vcp.groups := rfl
@[simp] theorem touch_regs (h : Hdr) (sid : BitVec 16) (s : State) : (touch h sid s).regs = s.regs := rfl
@[simp] theorem touch_outbox (h : Hdr) (sid : BitVec 16) (s : State) : (touch h sid s).outbox = s.outbox := rfl

/-- R398: a request that passes checks 1 to 4 is judged by its opcode's own checks. -/
theorem vcp_served {op : Op} {h : Hdr} {e : Session} {s : State} (hs : Served op h e s) (body : Session → State → Answer) :
    vcp op h body s = settle op h e (body e (touch h e.id s)) (touch h e.id s) := by
  obtain ⟨⟨a, ha, hq⟩, hse, hh, hk, hst, hc⟩ := hs
  have hk' : keptOf (touch h e.id s) e.identity h.sequence = none := hk
  have hst' : seqStale (touch h e.id s) e.identity h.sequence = false := hst
  simp [vcp, ha, hq, hse, hh, hk', hst', hc]

theorem settle_done {op : Op} {h : Hdr} {e : Session} {c : Time} {s : State} (hd : deadlineMissed h c s.now = false) (data : List Nat)
    (t : State) : settle op h e (.done c data t) s = finish op h e.identity .ok 0 c data t := by
  simp [settle, hd]

/-- R400, R402: what acceptance does before the opcode's effect. -/
def accepting (op : Op) (h : Hdr) (e : Session) (c : Time) (u : Nat) (tag : BitVec 16) (eff : State → State) (data : List Nat) (s : State) : State :=
  finish op h e.identity .accepted 0 c data (mirrorQueue eff (toPartner (.command e.identity e.id h.sequence h.unit tag c)
    { s with vcp.accepted := s.vcp.accepted ++ [{ origin := originOf h e, unit := u, tag, committed := c, deck := op.deck }] }))

theorem settle_accept {op : Op} {h : Hdr} {e : Session} {c : Time} {s : State} (ha : Admits h e c s) (u : Nat) (tag : BitVec 16)
    (eff : State → State) (data : List Nat) :
    settle op h e (.accept c u tag eff data) s = eff (accepting op h e c u tag eff data s) := by
  simp [settle, accepting, ha.1, ha.2]

@[simp] theorem countReply_vcp (st : Status) (s : State) : (countReply st s).vcp = s.vcp := by cases st <;> rfl
@[simp] theorem countReply_outbox (st : Status) (s : State) : (countReply st s).outbox = s.outbox := by cases st <;> rfl
@[simp] theorem toPartner_vcp (i : MirrorItem) (s : State) : (toPartner i s).vcp = s.vcp := by unfold toPartner; split <;> rfl
@[simp] theorem mirrorQueue_vcp (eff : State → State) (s : State) : (mirrorQueue eff s).vcp = s.vcp := by
  unfold mirrorQueue; split <;> simp
@[simp] theorem toPartner_regs (i : MirrorItem) (s : State) : (toPartner i s).regs = s.regs := by unfold toPartner; split <;> rfl
@[simp] theorem sendReply_vcp (h : Hdr) (st : Status) (d : Nat) (c : Time) (l : List Nat) (s : State) : (sendReply h st d c l s).vcp = s.vcp := rfl
@[simp] theorem sendReply_regs (h : Hdr) (st : Status) (d : Nat) (c : Time) (l : List Nat) (s : State) : (sendReply h st d c l s).regs = s.regs := rfl
@[simp] theorem keepReply_regs (i : Nat) (q : BitVec 32) (st : Status) (c : Time) (s : State) : (keepReply i q st c s).regs = s.regs := by
  unfold keepReply; split <;> rfl
@[simp] theorem keepReply_outbox (i : Nat) (q : BitVec 32) (st : Status) (c : Time) (s : State) : (keepReply i q st c s).outbox = s.outbox := by
  unfold keepReply; split <;> rfl
@[simp] theorem keepReply_lists (i : Nat) (q : BitVec 32) (st : Status) (c : Time) (s : State) :
    (keepReply i q st c s).vcp.sessions = s.vcp.sessions ∧ (keepReply i q st c s).vcp.accepted = s.vcp.accepted ∧
    (keepReply i q st c s).vcp.assocs = s.vcp.assocs ∧ (keepReply i q st c s).vcp.groups = s.vcp.groups := by
  unfold keepReply; split <;> simp

@[simp] theorem finish_lists (op : Op) (h : Hdr) (i : Nat) (st : Status) (d : Nat) (c : Time) (l : List Nat) (s : State) :
    (finish op h i st d c l s).vcp.sessions = s.vcp.sessions ∧ (finish op h i st d c l s).vcp.accepted = s.vcp.accepted ∧
    (finish op h i st d c l s).vcp.assocs = s.vcp.assocs ∧ (finish op h i st d c l s).vcp.groups = s.vcp.groups := by
  unfold finish
  dsimp only
  split <;> simp

/-- Outputs only gather. -/
theorem toPartner_outbox (i : MirrorItem) (s : State) : ∃ l, (toPartner i s).outbox = l ++ s.outbox := by
  unfold toPartner
  split
  · exact ⟨[.mirror i], rfl⟩
  · exact ⟨[], rfl⟩

theorem mirrorQueue_outbox (eff : State → State) (s : State) : ∃ l, (mirrorQueue eff s).outbox = l ++ s.outbox := by
  unfold mirrorQueue
  split
  · exact toPartner_outbox _ _
  · exact ⟨[], rfl⟩

/-- R395: the reply leaves. -/
theorem finish_sends (op : Op) (h : Hdr) (i : Nat) (st : Status) (c : Time) (l : List Nat) (s : State) :
    Answers h st c l s (finish op h i st 0 c l s) := by
  unfold finish Answers Sends
  dsimp only
  split
  · obtain ⟨m, hm⟩ := toPartner_outbox (.reply i h.sequence st c) (keepReply i h.sequence st c (countReply st s))
    exact ⟨.reply h.version h.opcode h.session h.sequence h.unit.toNat st 0 c l :: m, by simp [sendReply, State.emit, hm], by simp⟩
  · exact ⟨[.reply h.version h.opcode h.session h.sequence h.unit.toNat st 0 c l], by simp [sendReply, State.emit], by simp⟩

theorem sends_mono {o : Out} {s t u : State} (h : Sends o s t) (hu : ∃ l, u.outbox = l ++ t.outbox) : Sends o s u := by
  obtain ⟨l, hl, ho⟩ := h
  obtain ⟨m, hm⟩ := hu
  exact ⟨m ++ l, by rw [hm, hl, List.append_assoc], by simp [ho]⟩

/-- A later state with the same outputs. -/
theorem sends_congr {o : Out} {s t u : State} (h : Sends o s t) (hu : u.outbox = t.outbox) : Sends o s u := sends_mono h ⟨[], by simp [hu]⟩

/-- An earlier state with the same outputs. -/
theorem sends_from {o : Out} {s s' t : State} (h : Sends o s t) (hs : s.outbox = s'.outbox) : Sends o s' t := by
  obtain ⟨l, hl, ho⟩ := h
  exact ⟨l, by rw [hl, hs], ho⟩

theorem finish_sends_from (op : Op) (h : Hdr) (i : Nat) (st : Status) (c : Time) (l : List Nat) {s z : State}
    (hz : ∃ m, z.outbox = m ++ s.outbox) : Answers h st c l s (finish op h i st 0 c l z) := by
  obtain ⟨k, hk, ho⟩ := finish_sends op h i st c l z
  obtain ⟨m, hm⟩ := hz
  exact ⟨k ++ m, by rw [hk, hm, List.append_assoc], List.mem_append_left _ ho⟩

theorem accepting_sends (op : Op) (h : Hdr) (e : Session) (c : Time) (u : Nat) (tag : BitVec 16) (eff : State → State) (data : List Nat) (s : State) :
    Answers h .accepted c data s (accepting op h e c u tag eff data s) :=
  finish_sends_from _ _ _ _ _ _ (by
    obtain ⟨l, hl⟩ := mirrorQueue_outbox eff (toPartner (.command e.identity e.id h.sequence h.unit tag c)
      { s with vcp.accepted := s.vcp.accepted ++ [{ origin := originOf h e, unit := u, tag, committed := c, deck := op.deck }] })
    obtain ⟨m, hm⟩ := toPartner_outbox (.command e.identity e.id h.sequence h.unit tag c)
      { s with vcp.accepted := s.vcp.accepted ++ [{ origin := originOf h e, unit := u, tag, committed := c, deck := op.deck }] }
    exact ⟨l ++ m, by rw [hl, hm, List.append_assoc]⟩)

/-- R402: the request waits. -/
theorem accepting_waits (op : Op) (h : Hdr) (e : Session) (c : Time) (u : Nat) (tag : BitVec 16) (eff : State → State) (data : List Nat) (s : State) :
    Waits (originOf h e) (accepting op h e c u tag eff data s) := by
  refine ⟨{ origin := originOf h e, unit := u, tag, committed := c, deck := op.deck }, ?_, by simp [isOrigin]⟩
  unfold accepting
  rw [(finish_lists _ _ _ _ _ _ _ _).2.1, mirrorQueue_vcp, toPartner_vcp]
  simp

/-! ### The three shapes of an answer -/

theorem vcp_accept {op : Op} {h : Hdr} {e : Session} {s u : State} {body : Session → State → Answer} {c : Time} {v : Nat} {tag : BitVec 16}
    {eff : State → State} {data : List Nat} (hu : u = touch h e.id s) (hs : Served op h e s) (hb : body e u = .accept c v tag eff data)
    (ha : Admits h e c u) : vcp op h body s = eff (accepting op h e c v tag eff data u) := by
  subst hu
  rw [vcp_served hs, hb, settle_accept ha]

theorem vcp_done {op : Op} {h : Hdr} {e : Session} {s u t : State} {body : Session → State → Answer} {c : Time} {data : List Nat}
    (hu : u = touch h e.id s) (hs : Served op h e s) (hb : body e u = .done c data t) (hd : deadlineMissed h c s.now = false) :
    vcp op h body s = finish op h e.identity .ok 0 c data t := by
  subst hu
  rw [vcp_served hs, hb, settle_done (by simpa using hd)]

theorem vcp_refuse {op : Op} {h : Hdr} {e : Session} {s u : State} {body : Session → State → Answer} {st : Status} {d : Nat}
    (hu : u = touch h e.id s) (hs : Served op h e s) (hb : body e u = .refuse st d) :
    vcp op h body s = finish op h e.identity st d 0 [] u := by
  subst hu
  rw [vcp_served hs, hb]
  rfl

theorem vcp_status {op : Op} {h : Hdr} {e : Session} {s u t : State} {body : Session → State → Answer} {st : Status} {d : Nat} {data : List Nat}
    (hu : u = touch h e.id s) (hs : Served op h e s) (hb : body e u = .status st d data t) :
    vcp op h body s = finish op h e.identity st d 0 data t := by
  subst hu
  rw [vcp_served hs, hb]
  rfl

/-- R52: a request that waits gets no reply yet. -/
theorem vcp_wait {op : Op} {h : Hdr} {e : Session} {s u t : State} {body : Session → State → Answer}
    (hu : u = touch h e.id s) (hs : Served op h e s) (hb : body e u = .wait t) : vcp op h body s = t := by
  subst hu
  rw [vcp_served hs, hb]
  rfl

/-! ### What a request leaves unchanged, from what its opcode leaves unchanged -/

/-- The states an opcode's answer may leave stand in relation `p` to the one it was judged in. -/
def Answer.Leaves (p : State → State → Prop) (s : State) : Answer → Prop
  | .refuse _ _ => True
  | .status _ _ _ t => p s t
  | .wait t => p s t
  | .done _ _ t => p s t
  | .accept _ _ _ eff _ => ∀ u, p u (eff u)

theorem settle_now {op : Op} {h : Hdr} {e : Session} {a : Answer} {s : State} (ha : a.Leaves (fun x y => y.now = x.now) s) :
    (settle op h e a s).now = s.now := by
  cases a <;> simp only [settle, Answer.Leaves] at * <;> (repeat' split) <;> simp [ha]
theorem vcp_now (op : Op) (h : Hdr) (body : Session → State → Answer) (s : State)
    (hb : ∀ e u, (body e u).Leaves (fun x y => y.now = x.now) u) : (vcp op h body s).now = s.now := by
  unfold vcp
  iterate 3
    split
    · simp
  dsimp only
  iterate 4
    split
    · simp
  simp [settle_now (hb _ _)]
theorem settle_frame {op : Op} {h : Hdr} {e : Session} {a : Answer} {s : State} (ha : a.Leaves (fun x y => y.frame = x.frame) s) :
    (settle op h e a s).frame = s.frame := by
  cases a <;> simp only [settle, Answer.Leaves] at * <;> (repeat' split) <;> simp [ha]
theorem vcp_frame (op : Op) (h : Hdr) (body : Session → State → Answer) (s : State)
    (hb : ∀ e u, (body e u).Leaves (fun x y => y.frame = x.frame) u) : (vcp op h body s).frame = s.frame := by
  unfold vcp
  iterate 3
    split
    · simp
  dsimp only
  iterate 4
    split
    · simp
  simp [settle_frame (hb _ _)]
theorem settle_free {op : Op} {h : Hdr} {e : Session} {a : Answer} {s : State} (ha : a.Leaves (fun x y => y.free = x.free) s) :
    (settle op h e a s).free = s.free := by
  cases a <;> simp only [settle, Answer.Leaves] at * <;> (repeat' split) <;> simp [ha]
theorem vcp_free (op : Op) (h : Hdr) (body : Session → State → Answer) (s : State)
    (hb : ∀ e u, (body e u).Leaves (fun x y => y.free = x.free) u) : (vcp op h body s).free = s.free := by
  unfold vcp
  iterate 3
    split
    · simp
  dsimp only
  iterate 4
    split
    · simp
  simp [settle_free (hb _ _)]
theorem settle_plant {op : Op} {h : Hdr} {e : Session} {a : Answer} {s : State} (ha : a.Leaves (fun x y => y.plant = x.plant) s) :
    (settle op h e a s).plant = s.plant := by
  cases a <;> simp only [settle, Answer.Leaves] at * <;> (repeat' split) <;> simp [ha]
theorem vcp_plant (op : Op) (h : Hdr) (body : Session → State → Answer) (s : State)
    (hb : ∀ e u, (body e u).Leaves (fun x y => y.plant = x.plant) u) : (vcp op h body s).plant = s.plant := by
  unfold vcp
  iterate 3
    split
    · simp
  dsimp only
  iterate 4
    split
    · simp
  simp [settle_plant (hb _ _)]
theorem settle_broker {op : Op} {h : Hdr} {e : Session} {a : Answer} {s : State} (ha : a.Leaves (fun x y => y.broker = x.broker) s) :
    (settle op h e a s).broker = s.broker := by
  cases a <;> simp only [settle, Answer.Leaves] at * <;> (repeat' split) <;> simp [ha]
theorem vcp_broker (op : Op) (h : Hdr) (body : Session → State → Answer) (s : State)
    (hb : ∀ e u, (body e u).Leaves (fun x y => y.broker = x.broker) u) : (vcp op h body s).broker = s.broker := by
  unfold vcp
  iterate 3
    split
    · simp
  dsimp only
  iterate 4
    split
    · simp
  simp [settle_broker (hb _ _)]
theorem settle_valves {op : Op} {h : Hdr} {e : Session} {a : Answer} {s : State} (ha : a.Leaves (fun x y => y.valves = x.valves) s) :
    (settle op h e a s).valves = s.valves := by
  cases a <;> simp only [settle, Answer.Leaves] at * <;> (repeat' split) <;> simp [ha]
theorem vcp_valves (op : Op) (h : Hdr) (body : Session → State → Answer) (s : State)
    (hb : ∀ e u, (body e u).Leaves (fun x y => y.valves = x.valves) u) : (vcp op h body s).valves = s.valves := by
  unfold vcp
  iterate 3
    split
    · simp
  dsimp only
  iterate 4
    split
    · simp
  simp [settle_valves (hb _ _)]
theorem settle_motors {op : Op} {h : Hdr} {e : Session} {a : Answer} {s : State} (ha : a.Leaves (fun x y => y.motors = x.motors) s) :
    (settle op h e a s).motors = s.motors := by
  cases a <;> simp only [settle, Answer.Leaves] at * <;> (repeat' split) <;> simp [ha]
theorem vcp_motors (op : Op) (h : Hdr) (body : Session → State → Answer) (s : State)
    (hb : ∀ e u, (body e u).Leaves (fun x y => y.motors = x.motors) u) : (vcp op h body s).motors = s.motors := by
  unfold vcp
  iterate 3
    split
    · simp
  dsimp only
  iterate 4
    split
    · simp
  simp [settle_motors (hb _ _)]
theorem settle_senses {op : Op} {h : Hdr} {e : Session} {a : Answer} {s : State} (ha : a.Leaves (fun x y => y.senses = x.senses) s) :
    (settle op h e a s).senses = s.senses := by
  cases a <;> simp only [settle, Answer.Leaves] at * <;> (repeat' split) <;> simp [ha]
theorem vcp_senses (op : Op) (h : Hdr) (body : Session → State → Answer) (s : State)
    (hb : ∀ e u, (body e u).Leaves (fun x y => y.senses = x.senses) u) : (vcp op h body s).senses = s.senses := by
  unfold vcp
  iterate 3
    split
    · simp
  dsimp only
  iterate 4
    split
    · simp
  simp [settle_senses (hb _ _)]
theorem settle_pulses {op : Op} {h : Hdr} {e : Session} {a : Answer} {s : State} (ha : a.Leaves (fun x y => y.pulses = x.pulses) s) :
    (settle op h e a s).pulses = s.pulses := by
  cases a <;> simp only [settle, Answer.Leaves] at * <;> (repeat' split) <;> simp [ha]
theorem vcp_pulses (op : Op) (h : Hdr) (body : Session → State → Answer) (s : State)
    (hb : ∀ e u, (body e u).Leaves (fun x y => y.pulses = x.pulses) u) : (vcp op h body s).pulses = s.pulses := by
  unfold vcp
  iterate 3
    split
    · simp
  dsimp only
  iterate 4
    split
    · simp
  simp [settle_pulses (hb _ _)]
theorem settle_analogs {op : Op} {h : Hdr} {e : Session} {a : Answer} {s : State} (ha : a.Leaves (fun x y => y.analogs = x.analogs) s) :
    (settle op h e a s).analogs = s.analogs := by
  cases a <;> simp only [settle, Answer.Leaves] at * <;> (repeat' split) <;> simp [ha]
theorem vcp_analogs (op : Op) (h : Hdr) (body : Session → State → Answer) (s : State)
    (hb : ∀ e u, (body e u).Leaves (fun x y => y.analogs = x.analogs) u) : (vcp op h body s).analogs = s.analogs := by
  unfold vcp
  iterate 3
    split
    · simp
  dsimp only
  iterate 4
    split
    · simp
  simp [settle_analogs (hb _ _)]
theorem settle_auxs {op : Op} {h : Hdr} {e : Session} {a : Answer} {s : State} (ha : a.Leaves (fun x y => y.auxs = x.auxs) s) :
    (settle op h e a s).auxs = s.auxs := by
  cases a <;> simp only [settle, Answer.Leaves] at * <;> (repeat' split) <;> simp [ha]
theorem vcp_auxs (op : Op) (h : Hdr) (body : Session → State → Answer) (s : State)
    (hb : ∀ e u, (body e u).Leaves (fun x y => y.auxs = x.auxs) u) : (vcp op h body s).auxs = s.auxs := by
  unfold vcp
  iterate 3
    split
    · simp
  dsimp only
  iterate 4
    split
    · simp
  simp [settle_auxs (hb _ _)]
theorem settle_cards {op : Op} {h : Hdr} {e : Session} {a : Answer} {s : State} (ha : a.Leaves (fun x y => y.cards = x.cards) s) :
    (settle op h e a s).cards = s.cards := by
  cases a <;> simp only [settle, Answer.Leaves] at * <;> (repeat' split) <;> simp [ha]
theorem vcp_cards (op : Op) (h : Hdr) (body : Session → State → Answer) (s : State)
    (hb : ∀ e u, (body e u).Leaves (fun x y => y.cards = x.cards) u) : (vcp op h body s).cards = s.cards := by
  unfold vcp
  iterate 3
    split
    · simp
  dsimp only
  iterate 4
    split
    · simp
  simp [settle_cards (hb _ _)]
theorem settle_service {op : Op} {h : Hdr} {e : Session} {a : Answer} {s : State} (ha : a.Leaves (fun x y => y.service = x.service) s) :
    (settle op h e a s).service = s.service := by
  cases a <;> simp only [settle, Answer.Leaves] at * <;> (repeat' split) <;> simp [ha]
theorem vcp_service (op : Op) (h : Hdr) (body : Session → State → Answer) (s : State)
    (hb : ∀ e u, (body e u).Leaves (fun x y => y.service = x.service) u) : (vcp op h body s).service = s.service := by
  unfold vcp
  iterate 3
    split
    · simp
  dsimp only
  iterate 4
    split
    · simp
  simp [settle_service (hb _ _)]
theorem settle_seqr {op : Op} {h : Hdr} {e : Session} {a : Answer} {s : State} (ha : a.Leaves (fun x y => y.seqr = x.seqr) s) :
    (settle op h e a s).seqr = s.seqr := by
  cases a <;> simp only [settle, Answer.Leaves] at * <;> (repeat' split) <;> simp [ha]
theorem vcp_seqr (op : Op) (h : Hdr) (body : Session → State → Answer) (s : State)
    (hb : ∀ e u, (body e u).Leaves (fun x y => y.seqr = x.seqr) u) : (vcp op h body s).seqr = s.seqr := by
  unfold vcp
  iterate 3
    split
    · simp
  dsimp only
  iterate 4
    split
    · simp
  simp [settle_seqr (hb _ _)]
theorem settle_dies {op : Op} {h : Hdr} {e : Session} {a : Answer} {s : State} (ha : a.Leaves (fun x y => y.dies = x.dies) s) :
    (settle op h e a s).dies = s.dies := by
  cases a <;> simp only [settle, Answer.Leaves] at * <;> (repeat' split) <;> simp [ha]
theorem vcp_dies (op : Op) (h : Hdr) (body : Session → State → Answer) (s : State)
    (hb : ∀ e u, (body e u).Leaves (fun x y => y.dies = x.dies) u) : (vcp op h body s).dies = s.dies := by
  unfold vcp
  iterate 3
    split
    · simp
  dsimp only
  iterate 4
    split
    · simp
  simp [settle_dies (hb _ _)]
theorem settle_clusters {op : Op} {h : Hdr} {e : Session} {a : Answer} {s : State} (ha : a.Leaves (fun x y => y.clusters = x.clusters) s) :
    (settle op h e a s).clusters = s.clusters := by
  cases a <;> simp only [settle, Answer.Leaves] at * <;> (repeat' split) <;> simp [ha]
theorem vcp_clusters (op : Op) (h : Hdr) (body : Session → State → Answer) (s : State)
    (hb : ∀ e u, (body e u).Leaves (fun x y => y.clusters = x.clusters) u) : (vcp op h body s).clusters = s.clusters := by
  unfold vcp
  iterate 3
    split
    · simp
  dsimp only
  iterate 4
    split
    · simp
  simp [settle_clusters (hb _ _)]
theorem settle_integ {op : Op} {h : Hdr} {e : Session} {a : Answer} {s : State} (ha : a.Leaves (fun x y => y.integ = x.integ) s) :
    (settle op h e a s).integ = s.integ := by
  cases a <;> simp only [settle, Answer.Leaves] at * <;> (repeat' split) <;> simp [ha]
theorem vcp_integ (op : Op) (h : Hdr) (body : Session → State → Answer) (s : State)
    (hb : ∀ e u, (body e u).Leaves (fun x y => y.integ = x.integ) u) : (vcp op h body s).integ = s.integ := by
  unfold vcp
  iterate 3
    split
    · simp
  dsimp only
  iterate 4
    split
    · simp
  simp [settle_integ (hb _ _)]
theorem settle_copies {op : Op} {h : Hdr} {e : Session} {a : Answer} {s : State} (ha : a.Leaves (fun x y => y.copies = x.copies) s) :
    (settle op h e a s).copies = s.copies := by
  cases a <;> simp only [settle, Answer.Leaves] at * <;> (repeat' split) <;> simp [ha]
theorem vcp_copies (op : Op) (h : Hdr) (body : Session → State → Answer) (s : State)
    (hb : ∀ e u, (body e u).Leaves (fun x y => y.copies = x.copies) u) : (vcp op h body s).copies = s.copies := by
  unfold vcp
  iterate 3
    split
    · simp
  dsimp only
  iterate 4
    split
    · simp
  simp [settle_copies (hb _ _)]
theorem settle_pair {op : Op} {h : Hdr} {e : Session} {a : Answer} {s : State} (ha : a.Leaves (fun x y => y.pair = x.pair) s) :
    (settle op h e a s).pair = s.pair := by
  cases a <;> simp only [settle, Answer.Leaves] at * <;> (repeat' split) <;> simp [ha]
theorem vcp_pair (op : Op) (h : Hdr) (body : Session → State → Answer) (s : State)
    (hb : ∀ e u, (body e u).Leaves (fun x y => y.pair = x.pair) u) : (vcp op h body s).pair = s.pair := by
  unfold vcp
  iterate 3
    split
    · simp
  dsimp only
  iterate 4
    split
    · simp
  simp [settle_pair (hb _ _)]
theorem settle_links {op : Op} {h : Hdr} {e : Session} {a : Answer} {s : State} (ha : a.Leaves (fun x y => y.links = x.links) s) :
    (settle op h e a s).links = s.links := by
  cases a <;> simp only [settle, Answer.Leaves] at * <;> (repeat' split) <;> simp [ha]
theorem vcp_links (op : Op) (h : Hdr) (body : Session → State → Answer) (s : State)
    (hb : ∀ e u, (body e u).Leaves (fun x y => y.links = x.links) u) : (vcp op h body s).links = s.links := by
  unfold vcp
  iterate 3
    split
    · simp
  dsimp only
  iterate 4
    split
    · simp
  simp [settle_links (hb _ _)]
theorem settle_hall {op : Op} {h : Hdr} {e : Session} {a : Answer} {s : State} (ha : a.Leaves (fun x y => y.hall = x.hall) s) :
    (settle op h e a s).hall = s.hall := by
  cases a <;> simp only [settle, Answer.Leaves] at * <;> (repeat' split) <;> simp [ha]
theorem vcp_hall (op : Op) (h : Hdr) (body : Session → State → Answer) (s : State)
    (hb : ∀ e u, (body e u).Leaves (fun x y => y.hall = x.hall) u) : (vcp op h body s).hall = s.hall := by
  unfold vcp
  iterate 3
    split
    · simp
  dsimp only
  iterate 4
    split
    · simp
  simp [settle_hall (hb _ _)]
theorem settle_buses {op : Op} {h : Hdr} {e : Session} {a : Answer} {s : State} (ha : a.Leaves (fun x y => y.buses = x.buses) s) :
    (settle op h e a s).buses = s.buses := by
  cases a <;> simp only [settle, Answer.Leaves] at * <;> (repeat' split) <;> simp [ha]
theorem vcp_buses (op : Op) (h : Hdr) (body : Session → State → Answer) (s : State)
    (hb : ∀ e u, (body e u).Leaves (fun x y => y.buses = x.buses) u) : (vcp op h body s).buses = s.buses := by
  unfold vcp
  iterate 3
    split
    · simp
  dsimp only
  iterate 4
    split
    · simp
  simp [settle_buses (hb _ _)]
theorem settle_frameLog {op : Op} {h : Hdr} {e : Session} {a : Answer} {s : State} (ha : a.Leaves (fun x y => y.frameLog = x.frameLog) s) :
    (settle op h e a s).frameLog = s.frameLog := by
  cases a <;> simp only [settle, Answer.Leaves] at * <;> (repeat' split) <;> simp [ha]
theorem vcp_frameLog (op : Op) (h : Hdr) (body : Session → State → Answer) (s : State)
    (hb : ∀ e u, (body e u).Leaves (fun x y => y.frameLog = x.frameLog) u) : (vcp op h body s).frameLog = s.frameLog := by
  unfold vcp
  iterate 3
    split
    · simp
  dsimp only
  iterate 4
    split
    · simp
  simp [settle_frameLog (hb _ _)]
theorem settle_power {op : Op} {h : Hdr} {e : Session} {a : Answer} {s : State} (ha : a.Leaves (fun x y => y.power = x.power) s) :
    (settle op h e a s).power = s.power := by
  cases a <;> simp only [settle, Answer.Leaves] at * <;> (repeat' split) <;> simp [ha]
theorem vcp_power (op : Op) (h : Hdr) (body : Session → State → Answer) (s : State)
    (hb : ∀ e u, (body e u).Leaves (fun x y => y.power = x.power) u) : (vcp op h body s).power = s.power := by
  unfold vcp
  iterate 3
    split
    · simp
  dsimp only
  iterate 4
    split
    · simp
  simp [settle_power (hb _ _)]
theorem settle_ptp {op : Op} {h : Hdr} {e : Session} {a : Answer} {s : State} (ha : a.Leaves (fun x y => y.ptp = x.ptp) s) :
    (settle op h e a s).ptp = s.ptp := by
  cases a <;> simp only [settle, Answer.Leaves] at * <;> (repeat' split) <;> simp [ha]
theorem vcp_ptp (op : Op) (h : Hdr) (body : Session → State → Answer) (s : State)
    (hb : ∀ e u, (body e u).Leaves (fun x y => y.ptp = x.ptp) u) : (vcp op h body s).ptp = s.ptp := by
  unfold vcp
  iterate 3
    split
    · simp
  dsimp only
  iterate 4
    split
    · simp
  simp [settle_ptp (hb _ _)]
theorem settle_fans {op : Op} {h : Hdr} {e : Session} {a : Answer} {s : State} (ha : a.Leaves (fun x y => y.fans = x.fans) s) :
    (settle op h e a s).fans = s.fans := by
  cases a <;> simp only [settle, Answer.Leaves] at * <;> (repeat' split) <;> simp [ha]
theorem vcp_fans (op : Op) (h : Hdr) (body : Session → State → Answer) (s : State)
    (hb : ∀ e u, (body e u).Leaves (fun x y => y.fans = x.fans) u) : (vcp op h body s).fans = s.fans := by
  unfold vcp
  iterate 3
    split
    · simp
  dsimp only
  iterate 4
    split
    · simp
  simp [settle_fans (hb _ _)]
theorem settle_upds {op : Op} {h : Hdr} {e : Session} {a : Answer} {s : State} (ha : a.Leaves (fun x y => y.upds = x.upds) s) :
    (settle op h e a s).upds = s.upds := by
  cases a <;> simp only [settle, Answer.Leaves] at * <;> (repeat' split) <;> simp [ha]
theorem vcp_upds (op : Op) (h : Hdr) (body : Session → State → Answer) (s : State)
    (hb : ∀ e u, (body e u).Leaves (fun x y => y.upds = x.upds) u) : (vcp op h body s).upds = s.upds := by
  unfold vcp
  iterate 3
    split
    · simp
  dsimp only
  iterate 4
    split
    · simp
  simp [settle_upds (hb _ _)]
theorem settle_fw {op : Op} {h : Hdr} {e : Session} {a : Answer} {s : State} (ha : a.Leaves (fun x y => y.fw = x.fw) s) :
    (settle op h e a s).fw = s.fw := by
  cases a <;> simp only [settle, Answer.Leaves] at * <;> (repeat' split) <;> simp [ha]
theorem vcp_fw (op : Op) (h : Hdr) (body : Session → State → Answer) (s : State)
    (hb : ∀ e u, (body e u).Leaves (fun x y => y.fw = x.fw) u) : (vcp op h body s).fw = s.fw := by
  unfold vcp
  iterate 3
    split
    · simp
  dsimp only
  iterate 4
    split
    · simp
  simp [settle_fw (hb _ _)]
theorem settle_log {op : Op} {h : Hdr} {e : Session} {a : Answer} {s : State} (ha : a.Leaves (fun x y => y.log = x.log) s) :
    (settle op h e a s).log = s.log := by
  cases a <;> simp only [settle, Answer.Leaves] at * <;> (repeat' split) <;> simp [ha]
theorem vcp_log (op : Op) (h : Hdr) (body : Session → State → Answer) (s : State)
    (hb : ∀ e u, (body e u).Leaves (fun x y => y.log = x.log) u) : (vcp op h body s).log = s.log := by
  unfold vcp
  iterate 3
    split
    · simp
  dsimp only
  iterate 4
    split
    · simp
  simp [settle_log (hb _ _)]
theorem settle_bmu {op : Op} {h : Hdr} {e : Session} {a : Answer} {s : State} (ha : a.Leaves (fun x y => y.bmu = x.bmu) s) :
    (settle op h e a s).bmu = s.bmu := by
  cases a <;> simp only [settle, Answer.Leaves] at * <;> (repeat' split) <;> simp [ha]
theorem vcp_bmu (op : Op) (h : Hdr) (body : Session → State → Answer) (s : State)
    (hb : ∀ e u, (body e u).Leaves (fun x y => y.bmu = x.bmu) u) : (vcp op h body s).bmu = s.bmu := by
  unfold vcp
  iterate 3
    split
    · simp
  dsimp only
  iterate 4
    split
    · simp
  simp [settle_bmu (hb _ _)]
theorem settle_mirror {op : Op} {h : Hdr} {e : Session} {a : Answer} {s : State} (ha : a.Leaves (fun x y => y.mirror = x.mirror) s) :
    (settle op h e a s).mirror = s.mirror := by
  cases a <;> simp only [settle, Answer.Leaves] at * <;> (repeat' split) <;> simp [ha]
theorem vcp_mirror (op : Op) (h : Hdr) (body : Session → State → Answer) (s : State)
    (hb : ∀ e u, (body e u).Leaves (fun x y => y.mirror = x.mirror) u) : (vcp op h body s).mirror = s.mirror := by
  unfold vcp
  iterate 3
    split
    · simp
  dsimp only
  iterate 4
    split
    · simp
  simp [settle_mirror (hb _ _)]
theorem settle_pending {op : Op} {h : Hdr} {e : Session} {a : Answer} {s : State} (ha : a.Leaves (fun x y => y.pending = x.pending) s) :
    (settle op h e a s).pending = s.pending := by
  cases a <;> simp only [settle, Answer.Leaves] at * <;> (repeat' split) <;> simp [ha]
theorem vcp_pending (op : Op) (h : Hdr) (body : Session → State → Answer) (s : State)
    (hb : ∀ e u, (body e u).Leaves (fun x y => y.pending = x.pending) u) : (vcp op h body s).pending = s.pending := by
  unfold vcp
  iterate 3
    split
    · simp
  dsimp only
  iterate 4
    split
    · simp
  simp [settle_pending (hb _ _)]
@[simp] theorem accepting_frame (op : Op) (h : Hdr) (e : Session) (c : Time) (u : Nat) (tag : BitVec 16) (eff : State → State) (l : List Nat) (s : State) :
    (accepting op h e c u tag eff l s).now = s.now ∧ (accepting op h e c u tag eff l s).frame = s.frame ∧ (accepting op h e c u tag eff l s).free = s.free ∧ (accepting op h e c u tag eff l s).plant = s.plant ∧ (accepting op h e c u tag eff l s).broker = s.broker ∧ (accepting op h e c u tag eff l s).valves = s.valves ∧ (accepting op h e c u tag eff l s).motors = s.motors ∧ (accepting op h e c u tag eff l s).senses = s.senses ∧ (accepting op h e c u tag eff l s).pulses = s.pulses ∧ (accepting op h e c u tag eff l s).analogs = s.analogs ∧ (accepting op h e c u tag eff l s).auxs = s.auxs ∧ (accepting op h e c u tag eff l s).cards = s.cards ∧ (accepting op h e c u tag eff l s).service = s.service ∧ (accepting op h e c u tag eff l s).seqr = s.seqr ∧ (accepting op h e c u tag eff l s).dies = s.dies ∧ (accepting op h e c u tag eff l s).clusters = s.clusters ∧ (accepting op h e c u tag eff l s).integ = s.integ ∧ (accepting op h e c u tag eff l s).copies = s.copies ∧ (accepting op h e c u tag eff l s).pair = s.pair ∧ (accepting op h e c u tag eff l s).links = s.links ∧ (accepting op h e c u tag eff l s).hall = s.hall ∧ (accepting op h e c u tag eff l s).buses = s.buses ∧ (accepting op h e c u tag eff l s).frameLog = s.frameLog ∧ (accepting op h e c u tag eff l s).power = s.power ∧ (accepting op h e c u tag eff l s).ptp = s.ptp ∧ (accepting op h e c u tag eff l s).fans = s.fans ∧ (accepting op h e c u tag eff l s).upds = s.upds ∧ (accepting op h e c u tag eff l s).fw = s.fw ∧ (accepting op h e c u tag eff l s).log = s.log ∧ (accepting op h e c u tag eff l s).bmu = s.bmu ∧ (accepting op h e c u tag eff l s).mirror = s.mirror ∧ (accepting op h e c u tag eff l s).pending = s.pending := by
  unfold accepting
  simp

end Sys2Proof.Machine
end

