-- ==== Sys2Proof/Laws/RegFrames.lean ====
section
/-! SUPPORT. Registers under reporting: a record, a notification, a reply or the end of a request touches no stored register
but those of `reportRegs`, and an event touches its own register beside them. -/

namespace Sys2Proof.Machine

open Sys2Proof Sys2Proof.Safety

theorem off_of_report {p : Nat × Nat} (h : p ∈ reportRegs) : p.2 < 0x1000 := by
  revert p; decide

section
variable {u off : Nat} (hu : (u, off) ∉ reportRegs) (ho : off < 0x1000)
include hu ho

theorem setReg_report_reg {u' off' : Nat} (hr : (u', off') ∈ reportRegs) (v : Word) (s : State) :
    (s.setReg u' off' v).reg u off = s.reg u off :=
  s.reg_setReg_other v (off_of_report hr) ho (by rintro ⟨rfl, rfl⟩; exact hu hr)

theorem setEvent_report_reg {u' off' : Nat} (hr : (u', off') ∈ reportRegs) (n : Nat) (s : State) :
    (s.setEvent u' off' n).reg u off = s.reg u off := setReg_report_reg hu ho hr _ s

theorem addCount_report_reg {u' off' : Nat} (hr : (u', off') ∈ reportRegs) (hi lo k : Nat) (s : State) :
    (s.addCount u' off' hi lo k).reg u off = s.reg u off := setReg_report_reg hu ho hr _ s

theorem toPartner_reg (i : MirrorItem) (s : State) : (toPartner i s).reg u off = s.reg u off := State.reg_congr (by simp) u off

theorem logPlace_reg (pos len type : Nat) (m : Bool) (t : Time) (b : LogBody) (s : State) :
    (logPlace pos len type m t b s).reg u off = s.reg u off := by
  unfold logPlace
  dsimp only
  split
  · rw [setEvent_report_reg hu ho (by decide)]; rfl
  · rfl

theorem logTx_reg (s : State) : (logTx s).reg u off = s.reg u off := by
  unfold logTx
  dsimp only
  split
  · split
    · rw [setEvent_report_reg hu ho (by decide)]; rfl
    · rfl
  · rfl

theorem logPut_reg (type len : Nat) (m : Bool) (t : Time) (b : LogBody) (s : State) :
    (logPut type len m t b s).reg u off = s.reg u off := by
  unfold logPut
  dsimp only
  rw [logTx_reg hu ho]
  split <;> simp only [logPlace_reg hu ho]

theorem logGap_reg (d : Bool) (s : State) : (logGap d s).reg u off = s.reg u off := by
  unfold logGap
  cases d <;> simp only [if_true, if_false, Bool.false_eq_true] <;> split <;> first | rfl | (rw [toPartner_reg hu ho, logPut_reg hu ho]; rfl)

theorem logSubmit_reg (d r : Bool) (type n : Nat) (t : Time) (b : LogBody) (s : State) :
    (logSubmit d r type n t b s).reg u off = s.reg u off := by
  unfold logSubmit
  cases d <;> simp only [if_true, if_false, Bool.false_eq_true] <;> split <;> split
  all_goals first
    | (rw [setEvent_report_reg hu ho (by decide), addCount_report_reg hu ho (by decide)]; rfl)
    | (rw [toPartner_reg hu ho, logPut_reg hu ho]; exact logGap_reg hu ho _ s)

theorem logWords_reg (type n : Nat) (ws : List Nat) (s : State) : (logWords type n ws s).reg u off = s.reg u off :=
  logSubmit_reg hu ho _ _ _ _ _ _ s

theorem logDropped_reg (v source action : Nat) (old new : Int) (s : State) : (logDropped v source action old new s).reg u off = s.reg u off :=
  logSubmit_reg hu ho _ _ _ _ _ _ s

theorem logActionAs_reg (type v source action rack : Nat) (old new : Int) (c ra l : BitVec 32) (s : State) :
    (logActionAs type v source action rack old new c ra l s).reg u off = s.reg u off := by
  unfold logActionAs
  dsimp only
  split
  · exact logSubmit_reg hu ho _ _ _ _ _ _ s
  · split
    · exact logSubmit_reg hu ho _ _ _ _ _ _ s
    · exact logSubmit_reg hu ho _ _ _ _ _ _ s

theorem logAction_reg (v source action rack : Nat) (old new : Int) (c : BitVec 32) (s : State) :
    (logAction v source action rack old new c s).reg u off = s.reg u off := logActionAs_reg hu ho _ _ _ _ _ _ _ _ _ _ s

theorem notifyEvent_reg (n : Notify) (s : State) : (notifyEvent n s).reg u off = s.reg u off := by
  unfold notifyEvent
  dsimp only
  split
  · rw [setEvent_report_reg hu ho (by decide)]; rfl
  · rfl

theorem eventWith_reg (st : Status) (code : Nat) (d : Option Nat) (u' off' bit : Nat) (s : State) :
    (eventWith st code d u' off' bit s).reg u off = (s.setEvent u' off' bit).reg u off := notifyEvent_reg hu ho _ _

theorem event_reg (u' off' bit : Nat) (s : State) : (event u' off' bit s).reg u off = (s.setEvent u' off' bit).reg u off :=
  notifyEvent_reg hu ho _ _

theorem notifySession_reg (sid : BitVec 16) (n : Notify) (s : State) : (notifySession sid n s).reg u off = s.reg u off := rfl

theorem endRequest_reg (o : Origin) (st : Status) (s : State) : (endRequest o st s).reg u off = s.reg u off := by
  unfold endRequest
  split
  · rfl
  · dsimp only
    split
    · exact (toPartner_reg hu ho _ _).trans rfl
    · split
      · rw [notifySession_reg hu ho, toPartner_reg hu ho]; rfl
      · rw [logWords_reg hu ho]
        split
        · exact (toPartner_reg hu ho _ _).trans rfl
        · exact (toPartner_reg hu ho _ _).trans rfl

theorem endChanCmd_reg (c : Option ChanCmd) (st : Status) (s : State) : (endChanCmd c st s).reg u off = s.reg u off := by
  unfold endChanCmd
  split
  · split
    · rfl
    · exact endRequest_reg hu ho _ _ s
  · rfl

theorem countReply_reg (st : Status) (s : State) : (countReply st s).reg u off = s.reg u off := by
  unfold countReply
  split <;> first | exact addCount_report_reg hu ho (by decide) _ _ _ s | rfl

theorem finish_reg (op : Op) (h : Hdr) (i : Nat) (st : Status) (d : Nat) (c : Time) (l : List Nat) (s : State) :
    (finish op h i st d c l s).reg u off = s.reg u off := by
  have hk : (keepReply i h.sequence st c (countReply st s)).reg u off = s.reg u off := by
    rw [State.reg_congr (keepReply_regs i h.sequence st c _)]; exact countReply_reg hu ho st s
  unfold finish
  dsimp only
  rw [State.reg_congr (sendReply_regs h st d c l _)]
  split
  · rw [toPartner_reg hu ho]; exact hk
  · exact countReply_reg hu ho st s

theorem accepting_reg (op : Op) (h : Hdr) (e : Session) (c : Time) (v : Nat) (tag : BitVec 16) (eff : State → State) (l : List Nat) (s : State) :
    (accepting op h e c v tag eff l s).reg u off = s.reg u off := by
  unfold accepting
  rw [finish_reg hu ho]
  unfold mirrorQueue
  split
  · rw [toPartner_reg hu ho, toPartner_reg hu ho]; rfl
  · rw [toPartner_reg hu ho]; rfl

end

end Sys2Proof.Machine
end

