-- ==== Sys2Proof/WellFormed.lean ====
section
/-! DEFINITION. What a command of the module must satisfy to be one: every operand fits the field or the wire that carries
it. A request or event outside these bounds cannot arrive; what a request carries inside them is judged by its meaning. -/

namespace Sys2Proof

/-- A point in time fits the 64 bits of a PTP time on the wire (Table 14-3). -/
def wfTime (t : Nat) : Bool := decide (t < 2 ^ 64)

/-- A header's DELIVER_BY has 64 bits (Table 14-3). -/
def Hdr.wf (h : Hdr) : Bool := wfTime h.deliverBy

/-- Data bytes of a CAN frame by its length code: 8 for classic frames, to 64 with FDF (Table 13-4). -/
def canBytes (fdf : Bool) (dlc : Nat) : Nat :=
  if dlc ≤ 8 then dlc else if !fdf then 8 else [12, 16, 20, 24, 32, 48, 64].getD (dlc - 9) 64

/-- A CAN frame: an 11-bit or 29-bit identifier, no remote FD frame, and the bytes its length code says. -/
def CanFrame.wf (f : CanFrame) : Bool :=
  decide (f.id < if f.xtd then 2 ^ 29 else 2 ^ 11) && !(f.rtr && f.fdf)
  && decide (f.data.length = if f.rtr then 0 else canBytes f.fdf f.dlc.val)

/-- Coil samples: five of a frame, 16 bits each (R280, R310); counts and readings fit their report fields. -/
def Uplink.wf : Uplink → Bool
  | .valve _ ss => decide (ss.length ≤ 5) && ss.all (fun m => decide (m < 2 ^ 16))
  | .motor _ _ rpm _ _ => decide (rpm < 2 ^ 16)
  | .ao _ rb _ => decide (rb < 2 ^ 16)
  | _ => true

/-- A measured set has one speed per fan (R41). -/
def Measured.wf (m : Measured) : Bool := decide (m.fanRpm.length = 6)

/-- A link block carries 64-bit hall counts (Table 12-2), and a fragment 1 to 28 bytes (Table 12-7). -/
def LinkBlockIn.wf (b : LinkBlockIn) : Bool :=
  wfTime b.hallCount && wfTime b.echoCount && decide (b.peerOrd < 16) && decide (b.peerLink < 32)
  && (match b.service with | .fragment _ _ d => decide (1 ≤ d.length) && decide (d.length ≤ 28) && d.all (fun x => decide (x < 256)) | _ => true)

/-- A filter entry in its 16 bytes: two bits each of KIND and ACTION, a buffer of 0 to 63, two 29-bit identifiers (Table 13-3). -/
def FilterEntry.wf (e : FilterEntry) : Bool :=
  decide (e.kind < 4) && decide (e.action < 4) && decide (e.buffer < 64) && decide (e.id1 < 2 ^ 29) && decide (e.id2 < 2 ^ 29)

/-- A copy descriptor in its 64 bytes (Tables 5-11 and 5-12). -/
def CopyDesc.wf (d : CopyDesc) : Bool :=
  decide (d.cls < 16) && decide (d.shape < 16) && decide (d.length < 2 ^ 32) && decide (d.rows < 2 ^ 16) && decide (d.src < 2 ^ 64)
  && decide (d.dst < 2 ^ 64) && decide (d.srcStride < 2 ^ 32) && decide (d.dstStride < 2 ^ 32) && decide (d.issueCycle < 2 ^ 32)
  && wfTime d.deliverBy

/-- LENGTH of a packet is at most 8 704 bytes (Table 14-3). -/
def fitsPacket (n size : Nat) : Bool := decide (n * size ≤ 8704)

/-- Every operand of the command fits what carries it. -/
def Instr.wf : Instr → Bool
  | .hello h _ _ _ _ name => h.wf && decide (name < 2 ^ 256)
  | .registerWrite h _ (.words vs) => h.wf && fitsPacket vs.length 4
  | .registerWrite h _ (.site _) => h.wf
  | .readMulti h es => h.wf && fitsPacket es.length 4
  | .policySet h es => h.wf && fitsPacket es.length 12
  | .updateChunk h _ _ len _ => h.wf && fitsPacket len 1
  | .datumPush h _ _ _ len _ _ _ => h.wf && fitsPacket len 1
  | .ceRingTail _ _ d => d.descs.all CopyDesc.wf
  | .blTxReq _ _ rs => rs.all (fun r => r.2.wf)
  | .blFilterSwap _ _ count es => decide (count ≤ es.length) && es.all FilterEntry.wf
  | .cardBusFrame up => up.all Uplink.wf
  | .reservoirCheck level => decide (level ≤ 10000)
  | .linkLocked _ hc arr ec _ => wfTime hc && wfTime arr && wfTime ec
  | .linkBlock _ b => b.wf
  | .canFrameReceive _ f _ => f.wf
  | .bmuFrame bytes => decide (bytes.length ≤ 256)
  | .readSingleBlock block => decide (block < 256)
  | .readMultipleBlocks first count => decide (first < 256) && decide (1 ≤ count) && decide (count ≤ 256)
  | .measureRefresh m => m.wf
  | .bye h | .read h _ _ | .writeGroup h _ _ | .subscribe h _ _ _ _ | .unsubscribe h _ | .capAck h _ _ _ | .envelopeSet h _
    | .preview h _ _ _ _ _ _ _ | .previewCancel h _ | .energise h _ | .release h _ | .testPulse h _ | .motorRun h _ _ | .motorStop h _ _
    | .abortValve h _ | .abortMotor h _ | .abortCopy h _ _ | .modeSet h _ | .modeSetFallback h | .logSnapshot h | .logRead h _ _
    | .updateBegin h _ _ | .updateVerify h | .updateActivate h _ | .updateConfirm h | .updateAbort h | .traverseLoad h _
    | .traverseStart h _ _ | .traverseStop h | .integrityReport h | .locate h _ | .hwPanelWrite h _ | .handover h _ _ | .loopOutWrite h _
    | .aoOutWrite h _ | .beaconCtrlWrite h _ | .loopPumpRestore h _ | .leakRelease h _ | .rackCfgWrite h _ _ | .dieRetire h
    | .dieRestore h | .join h _ | .linkRetrain h _ | .linkEnable h _ | .blRecover h _ | .calNow h _ | .auxCfgWrite h _ | .auxOutLevel h _
    | .tripClear h _ | .restartsExhaustedClear h _ | .encoderFaultClear h _ | .intCtrlWrite h _ | .serviceEnClear h _ => h.wf
  | .dtlsHandshake _ _ _ _ | .sessionTimeout _ | .dtlsClosure _ | .malformed | .telemetrySample | .updateVerifyDone _ _ _ _
    | .loadDone _ _ | .traverseFirstLeg _ _ | .datumDiscard | .datumApply | .integrityPeriodic | .locateButton _ | .auxAttach _
    | .auxCapture _ _ | .blTxCancel _ _ | .blRxLock _ _ _ | .cardFaulted _ | .cardEject _ | .domainDrainEnd _ | .domainReady _
    | .cardPresence _ | .enumDebounceEnd _ _ | .cardEnumDone _ _ | .mainInputLoss _ | .fieldInputLoss _ | .fieldPowerReturn _ | .fanFail _
    | .thermalWarn | .thermalShutdown | .harnessOpen | .harnessClose | .legStart _ _ | .checksClosed | .restoreResume _ _ _
    | .withheldFallback | .engineLost | .returnToRun | .fallbackTick | .policyBoundClear _ | .boundCapStep _ | .redundantSwitch _
    | .reserveStart | .dpHighCut | .primaryValveOpen | .supplyOvertempCapdown | .primaryValveClose | .rackFlowLow _ | .rackFlowCapdown _
    | .rackReturnHigh _ | .returnHighCapcut | .reflexRepeat _ | .reflexRelease _ | .stageUp | .stageDown | .rotation | .rotationSwap
    | .ackWindowClose _ _ | .grantRepeat _ | .previewEnd _ | .leakSourceClear _ | .flowImbalance _ | .leakClear _ | .leakIsolateTimeout _
    | .peakEnd _ | .dipEnd _ | .ttpTimeout _ | .releaseDone _ | .releaseFault _ | .valveTrip _ _ | .openLoad _ | .cardHold _
    | .dutyExpire _ | .testPulseEnd _ _ | .kickExit _ | .kickTimeout _ | .rampDone _ | .tachLow _ | .driveFault _ | .backoffEnd _
    | .failuresReset _ | .encoderIndex _ _ | .calibration _ | .noPulse _ | .openLoop _ | .copyComplete _ _ _ _ | .peerCopyRequest _ _
    | .digestQuery _ _ _ | .legDigest _ _ | .testOverdue _ | .suspectEnter _ | .marginTest _ | .uncorrectableError _ | .packageResetDone _
    | .flashEmit | .flashReceive _ _ | .flashMiss | .flashPairLost | .lampStuck | .lockstepMismatch | .deadmanRelease | .lampReleaseSeen
    | .claim | .stageLatchClear | .simultaneous | .roleDecision _ | .handoverReady | .handoverAbandon | .handoverLampRelease
    | .healthReportSend | .health _ | .reliefUnhealthy | .testWindowRequest _ | .stageTestPulse _ _ _ | .mirror _
    | .resyncPhaseDone _ _ _ | .resyncJoin | .hallCtrl _ | .linkSignal _ | .linkTrainTimeout _ | .linkUp _ _ | .linkBackoffEnd _
    | .beatLate _ | .linkDown _ _ | .linkDegraded _ _ | .unlocked | .routeReturn _ | .serviceRetransmit _ | .ack _ | .bulkOpen _ _ _ _ _
    | .bulkReply _ _ _ | .bulkClose _ _ _ _ | .canTxDone _ _ | .canTxError _ _ _ | .busOff _ | .busOffStale _ | .recovered _
    | .ptpSync _ _ _ | .ptpHoldover | .timeStep | .sagStart | .sagShort | .sagTrigger | .lastLightDone _ _ | .powerApplied
    | .busQualified _ _ | .lastLightArm | .bankMeasure _ | .startupRestore _ | .engineStartup | .railFault _ _ | .rootFail
    | .deckHeartbeat | .deckTimeout | .trialBoot _ | .healthyMinute _ | .actionAfter | .loopTrace | .bmuStale | .bmuLinkSend | .flowPulse
    | .measurementCycle _ _ _ _ | .setDay | .coverOpen | .displayButton | .displayTimeout | .auxSupplyLoss | .inventory
    | .getSystemInformation | .unsupportedCommand | .auth _ | .authResp _ | .surveySessionEnd _ | .journalWrite _ | .mainInputReturn _
    | .codewordLock _ _ _ _ | .pllUnlock _ | .cardLogicSupplyFault _ | .peakReached _ _ _ | .dipFound _ _ _ | .calibrationDone _ _ _
    | .auxInputEdge _ _ | .ppsOut _ | .canRxError _ | .ptpAnnounce _ _ _ | .keyUpdate _ | .qualificationRestart | .stageLatchSet
    | .ceRingLayoutWrite _ _ _ | .coverClose | .auxSupplyReturn | .cellLow | .operatingHour | .bmuPowerUp _ => true

end Sys2Proof
end

