-- ==== Sys2Proof/Tests/Slice0.lean ====
section
/-! SUPPORT. The author's tests: commands that WellFormed refuses, the effect of single commands against values the spec gives, and for
each statement of Certificates/Slice0/Obligations.lean a witness, a state and operands that meet the hypotheses of each of its clauses. -/

-- one proof at a time: each is evaluated by the kernel, and waiting ones would each hold a thread
set_option Elab.async false

namespace Sys2Proof.Tests

open Sys2Proof Sys2Proof.Machine Sys2Proof.Safety

/-! ### Small states -/

/-- A management association with a certificate of one role. -/
def assoc1 (r : ClientRole) (p : Port := .mgmtA) : Assoc :=
  { id := 1, port := p, cert := { identity := 7, uris := [.role r], anchored := true, akven := true } }

/-- Its session, with every capability; rack 3 is bound to it. -/
def sess (r : ClientRole) (p : Port := .mgmtA) : Session :=
  { id := 1, assoc := 1, port := p, identity := 7, name := 0, role := r, rack := 3, major := 1, minor := 0, caps := 0xFFFFFFFF, lastPacket := 0 }

/-- A request header of that session. -/
def hdr (u op : Nat) : Hdr := { assoc := 1, session := 1, version := 0x10, sequence := 1, unit := BitVec.ofNat 16 u, opcode := op }

/-- 100 s after start. -/
def now0 : Nat := 100 * Config.sec

/-- A Keeper in operation for 100 s with one client session and six active cards. -/
def duty (m : Mode) (r : ClientRole) (p : Port := .mgmtA) : State :=
  { State.reset with
    now := now0, frame := 2000000,
    vcp := { assocs := [assoc1 r p], sessions := [sess r p] },
    power := { step := 15, busOk := true, closed := [], llState := 1, bankV := 520, pllA := true },
    pair := { role := .keeper, lampOwn := true, stages := true, lastFlash := now0 },
    plant := { mode := m, engineOk := true },
    fw := { lastBeat := now0 },
    cards := (List.range 6).map (fun k =>
      (k, { st := .active, type := [1, 1, 1, 2, 3, 3].getD k 0, hold := false, cardHold := false, lastFrame := now0 })) }

/-- A client's accepted command, and what it left in the table of accepted requests. -/
def orig : Origin := { identity := 7, session := 1, sequence := 5 }
def accepted1 (u : Nat) (t : Time) : Accepted := { origin := orig, unit := u, tag := 3, committed := t, deck := true }
def chanCmd (a : Nat) : ChanCmd :=
  { origin := orig, tag := 3, action := a, committed := now0 + 500000000, planned := now0, acceptedAt := now0 - 1000 }

/-- The conditions of `Served` and `ServedLate` as one Boolean each, so that the kernel evaluates them. -/
def servedB (op : Op) (h : Hdr) (e : Session) (s : State) : Bool :=
  (match assocOf s h with | some a => !silentTo op a s | none => false) && decide (sessionOf s h = some e)
  && decide (headerCheck h (some e) = none) && decide (keptOf s e.identity h.sequence = none) && !seqStale s e.identity h.sequence
  && decide (preCheck op h e (touch h e.id s) = none)

theorem served_of {op : Op} {h : Hdr} {e : Session} {s : State} (w : servedB op h e s = true) : Served op h e s := by
  simp only [servedB, Bool.and_eq_true, decide_eq_true_eq, Bool.not_eq_true'] at w
  obtain ⟨⟨⟨⟨⟨h1, h2⟩, h3⟩, h4⟩, h5⟩, h6⟩ := w
  refine ⟨?_, h2, h3, h4, h5, h6⟩
  cases ha : assocOf s h with
  | none => simp [ha] at h1
  | some a => exact ⟨a, rfl, by simpa [ha] using h1⟩

theorem servedLate_of {op : Op} {h : Hdr} {e : Session} {s : State}
    (w : sessionOf s h = some e ∧ keptOf s e.identity h.sequence = none ∧ preCheck op h e s = none) : ServedLate op h e s :=
  ⟨w.1, w.2.1, w.2.2⟩

/-! ### Valve channels -/

def v0 (f : Valve → Valve) (s : State) : State := s.modValve 0 f
def vMaint : State := duty .maintain .operator
def vHeld : State := v0 (fun v => { v with phase := .held, startAt := now0 - Config.sec }) vMaint
def vPeak : State := v0 (fun v => { v with phase := .peak, startAt := now0 - Config.sec, runMax := 3000, judged := false, cmd := some (chanCmd 1) }) vMaint
def vLeak : State := v0 (fun v => { v with leakHeld := true }) vMaint
def vReleasing : State := v0 (fun v => { v with phase := .releasing, relAt := now0 - Config.sec }) vMaint
def vTest : State := v0 (fun v => { v with phase := .test, relAt := now0 - Config.sec }) vMaint
def hV (op : Nat) : Hdr := hdr (U.vlv 0) op

theorem witness_ValveCommandsAnswered :
    (Served (chanOp 0x50 1 (hV 0x50)) (hV 0x50) (sess .operator) vMaint
      ∧ valveRefusal (touch (hV 0x50) 1 vMaint) 0 1 = none ∧ valveIdle (touch (hV 0x50) 1 vMaint) 0 1 = false
      ∧ Admits (hV 0x50) (sess .operator) (valvePlan (touch (hV 0x50) 1 vMaint) 0 1).2 (touch (hV 0x50) 1 vMaint))
    ∧ (valveRefusal (touch (hV 0x50) 1 vMaint) 0 0 = none ∧ valveIdle (touch (hV 0x50) 1 vMaint) 0 0 = true
      ∧ deadlineMissed (hV 0x50) now0 now0 = false)
    ∧ (Served (chanOp 0x50 1 (hV 0x50)) (hV 0x50) (sess .operator) vHeld
      ∧ valveRefusal (touch (hV 0x50) 1 vHeld) 0 0 = none ∧ valveIdle (touch (hV 0x50) 1 vHeld) 0 0 = false
      ∧ valveIdle (touch (hV 0x50) 1 vHeld) 0 1 = true)
    ∧ (valveRefusal (touch (hV 0x50) 1 vMaint) 0 2 = none ∧ valveIdle (touch (hV 0x50) 1 vMaint) 0 2 = false)
    ∧ (Served (chanOp 0x50 1 (hV 0x50)) (hV 0x50) (sess .operator) vLeak ∧ valveRefusal (touch (hV 0x50) 1 vLeak) 0 1 = some .denied)
    ∧ (Served (chanOp 0x52 1 (hV 0x52)) (hV 0x52) (sess .operator) vPeak ∧ (vPeak.valve 0).cmd = some (chanCmd 1)
      ∧ (vPeak.valve 0).leakHeld = false ∧ (chanCmd 1).action = 1)
    ∧ (Served (chanOp 0x52 1 (hV 0x52)) (hV 0x52) (sess .operator) (v0 (fun v => { v with leakHeld := true }) vPeak)) := by
  repeat' apply And.intro
  all_goals first | exact served_of (by decide +kernel) | decide +kernel

theorem witness_PullInJudged :
    ((vPeak.valve 0).phase = .peak ∧ (vPeak.valve 0).startAt + peakNs vPeak 0 ≤ vPeak.now)
    ∧ ((vPeak.valve 0).peakSeen = false ∧ peakI vPeak 0 * 10 ≤ 5000 ∧ (vPeak.valve 0).startAt + 3000 * 10000 ≤ vPeak.now)
    ∧ ((vPeak.valve 0).ttpDone = false ∧ at10us vPeak 0 Off.vlvTtp 31 16 ≤ vPeak.now)
    ∧ ((vPeak.valve 0).dipFound = false ∧ (vPeak.valve 0).judged = false ∧ 2200 + vPeak.fldOf (U.vlv 0) Off.vlvTestDip 15 0 ≤ 3000
      ∧ vPeak.fldOf (U.vlv 0) Off.vlvDipWin 15 0 ≤ vPeak.fldOf (U.vlv 0) Off.vlvDipWin 31 16
      ∧ (vPeak.valve 0).startAt + vPeak.fldOf (U.vlv 0) Off.vlvDipWin 31 16 * 10000 ≤ vPeak.now)
    ∧ at10us vPeak 0 Off.vlvDipWin 31 16 ≤ vPeak.now := by
  repeat' apply And.intro
  all_goals decide +kernel

theorem witness_DriveEnds :
    ((vReleasing.valve 0).phase = .releasing ∧ (vReleasing.valve 0).relAt + 10 * Config.ms ≤ vReleasing.now)
    ∧ (vHeld.valve 0).phase = .held
    ∧ ((vTest.valve 0).phase = .test ∧ (vTest.valve 0).pulseEnded = false ∧ (vTest.valve 0).relAt + 200 * Config.us ≤ vTest.now) := by
  repeat' apply And.intro
  all_goals decide +kernel

/-! ### Motor channels -/

def m0 (f : Motor → Motor) (s : State) : State := s.modMotor 24 f
def mComm : State := duty .commission .engineer
def mRunning : State := m0 (fun m => { m with st := .running, target := 800000000, command := 800000000, runSince := some (now0 - 61 * Config.sec),
                                              lowSince := some (now0 - 61 * Config.sec), faultSince := some (now0 - Config.sec) }) mComm
def mKick : State := m0 (fun m => { m with st := .kick, enteredAt := now0 - 20 * Config.sec }) mComm
def mCmd (a : Nat) (started : Bool) : State := m0 (fun m => { m with cmd := some (chanCmd a), started := started }) mComm
def hM (op : Nat) : Hdr := hdr (U.mot 24) op
def mReq (a : Nat) : MotorReq := { action := a, tag := 3, speed := 500, origin := originOf (hM 0x51) (sess .engineer) }

theorem witness_MotorCommandsAnswered :
    (Served (chanOp 0x51 2 (hM 0x51)) (hM 0x51) (sess .engineer) mComm ∧ motorRefusal (touch (hM 0x51) 1 mComm) 24 (mReq 1) = none
      ∧ Admits (hM 0x51) (sess .engineer) (motorCommitted (touch (hM 0x51) 1 mComm) 24 (mReq 1)) (touch (hM 0x51) 1 mComm))
    ∧ (Served (chanOp 0x51 2 (hM 0x51)) (hM 0x51) (sess .engineer) mRunning ∧ motorRefusal (touch (hM 0x51) 1 mRunning) 24 (mReq 0) = none
      ∧ (mRunning.motor 24).st ≠ .stopped)
    ∧ (motorRefusal (touch (hM 0x51) 1 mComm) 24 (mReq 0) = none ∧ (mComm.motor 24).st = .stopped)
    ∧ (∃ st, motorRefusal (touch (hM 0x51) 1 (m0 (fun m => { m with st := .faulted }) mComm)) 24 (mReq 1) = some st)
    ∧ (Served (chanOp 0x52 2 (hM 0x52)) (hM 0x52) (sess .engineer) (mCmd 1 true) ∧ ((mCmd 1 true).motor 24).cmd = some (chanCmd 1))
    ∧ (Served (chanOp 0x52 2 (hM 0x52)) (hM 0x52) (sess .engineer) (mCmd 0 false) ∧ ((mCmd 0 false).motor 24).cmd = some (chanCmd 0)) := by
  repeat' apply And.intro
  all_goals first | exact served_of (by decide +kernel) | exact ⟨.faulted, by decide +kernel⟩ | decide +kernel

theorem witness_MotorGoesOn :
    (((m0 (fun m => { m with st := .kick, rpm := 4000 }) mComm).motor 24).st = .kick
      ∧ kickExit (m0 (fun m => { m with st := .kick, rpm := 4000 }) mComm) 24 < 4000)
    ∧ ((m0 (fun m => { m with st := .ramp }) mComm).motor 24).command = ((m0 (fun m => { m with st := .ramp }) mComm).motor 24).target
    ∧ (((m0 (fun m => { m with st := .backoff, enteredAt := 0 }) mComm).motor 24).enteredAt
        + backoffNs (m0 (fun m => { m with st := .backoff, enteredAt := 0 }) mComm) 24 ≤ now0)
    ∧ ((mRunning.motor 24).runSince = some (now0 - 61 * Config.sec) ∧ (mRunning.motor 24).st = .running)
    ∧ ((mComm.setReg (U.mot 24) Off.motEnc 0x04000300).fldOf (U.mot 24) Off.motEnc 31 16 ≠ 0
      ∧ (mComm.setReg (U.mot 24) Off.motEnc 0x04000300).fldOf (U.mot 24) Off.motEnc 15 8 = 3) := by
  repeat' apply And.intro
  all_goals decide +kernel

theorem witness_MotorFailures :
    ((mKick.motor 24).st = .kick ∧ (mKick.motor 24).rpm ≤ kickExit mKick 24 ∧ (mKick.motor 24).enteredAt + kickNs mKick 24 ≤ mKick.now
      ∧ (mKick.motor 24).failures < restarts mKick 24)
    ∧ ((mRunning.motor 24).st = .running ∧ (mRunning.motor 24).lowSince = some (now0 - 61 * Config.sec)
      ∧ now0 - 61 * Config.sec + mRunning.fldOf (U.mot 24) Off.motTach 23 16 * Config.sec ≤ mRunning.now)
    ∧ (motRuns (mRunning.motor 24).st = true ∧ (mRunning.motor 24).faultSince = some (now0 - Config.sec))
    ∧ restarts (m0 (fun m => { m with failures := 9 }) mKick) 24 ≤ 9 := by
  repeat' apply And.intro
  all_goals decide +kernel

/-! ### Caps, previews and leaks -/

def cRun (r : ClientRole) : State := { duty .run r with broker.envelope := 5000 }
def r3 (f : Rack → Rack) (s : State) : State := s.modRack 3 f
/-- A raise to 300 and a later cut to 200 (0.1 kW) with their windows open, the cut sent 1 s ago. -/
def cGrants : State := r3 (fun r => { r with
    grantSeq := 5, sent := [(1, 5)], cap := 200, acked := some 300,
    grants := [{ seq := 5, kind := 0, cap := 200, leftAt := now0 - Config.sec }, { seq := 4, kind := 0, cap := 300, leftAt := now0 - 2 * Config.sec }] })
  (cRun .rack)
def cUnanswered : State := r3 (fun r => { r with
    grantSeq := 5, sent := [(1, 5)], cap := 200, grants := [{ seq := 5, kind := 0, cap := 200, leftAt := now0 - Config.sec, open_ := false }] }) (cRun .rack)
def hEnv : Hdr := hdr 0 0x32
def hAck : Hdr := hdr 0 0x31
def preview1 (i start : Nat) : Preview := { id := BitVec.ofNat 32 i, racks := 3, start := start, duration := 5000, load := 100, ramp := 0 }
def cPreviews (l : List Preview) : State := { cRun .scheduler with broker.previews := l, broker.everPreviews := l.map (·.id) }
def hPrev : Hdr := hdr 0 0x40
def hCancel : Hdr := hdr 0 0x41
def r0 (f : Rack → Rack) : State := (cRun .operator).modRack 0 f

theorem witness_EnvelopeInForce :
    (Served (opEnvelopeSet hEnv) hEnv (sess .authority) (cRun .authority) ∧ floorSum (cRun .authority) ≤ (16000 : BitVec 32).toNat
      ∧ Admits hEnv (sess .authority) (now0 + 2000000) (touch hEnv 1 (cRun .authority)))
    ∧ (15999 : BitVec 32).toNat < floorSum (cRun .authority) := by
  repeat' apply And.intro
  all_goals first | exact served_of (by decide +kernel) | decide +kernel

theorem witness_CapAcknowledged :
    (Served (opCapAck hAck 3) hAck (sess .rack) cGrants ∧ (3 : BitVec 8).toNat < 16 ∧ grantSent (cGrants.rack 3) 5 = true
      ∧ deadlineMissed hAck now0 now0 = false ∧ (cGrants.rack 3).grants.find? (fun g => decide (g.seq = 5)) = (cGrants.rack 3).grants.head?)
    ∧ grantSent (cGrants.rack 3) 6 = false ∧ 15 < (16 : BitVec 8).toNat
    ∧ ((cGrants.rack 3).grants.map (fun g => (g.open_, decide (frameOf (windowEnd g) < frameOf now0)))).head? = some (true, true)
    ∧ (match (cUnanswered.rack 3).grants with
        | g :: _ => g.open_ = false ∧ g.acked = false ∧ g.leftAt + 100 * Config.ms ≤ now0
        | [] => False) := by
  repeat' apply And.intro
  all_goals first | exact served_of (by decide +kernel) | decide +kernel

theorem witness_PreviewsAccepted :
    (Served (opPreview hPrev) hPrev (sess .scheduler) (cPreviews [preview1 1 (now0 + 2 * Config.sec)])
      ∧ Admits hPrev (sess .scheduler) (previewCommitted (touch hPrev 1 (cPreviews []))) (touch hPrev 1 (cPreviews []))
      ∧ hasCap (sess .scheduler) 3 = true ∧ now0 ≤ (BitVec.ofNat 64 now0).toNat
      ∧ (BitVec.ofNat 64 (now0 + 600 * Config.sec)).toNat ≤ now0 + (cPreviews []).plant.horizon * 1000000000)
    ∧ (cPreviews [preview1 1 now0]).broker.previews.any (fun p => decide (p.id = 1)) = true
    ∧ 64 ≤ (cPreviews ((List.range 64).map (fun k => preview1 (k + 2) now0))).broker.previews.length
    ∧ (Served (opPreviewCancel hCancel) hCancel (sess .scheduler) (cPreviews [preview1 1 now0])
      ∧ (cPreviews [preview1 1 now0]).broker.previews.any (fun p =>
          decide (p.id = 1) && decide (now0 / 50000 < (p.start + p.duration * 1000000) / 50000)) = true
      ∧ Admits hCancel (sess .scheduler) (nextBoundary (touch hCancel 1 (cPreviews [preview1 1 now0]))) (touch hCancel 1 (cPreviews [preview1 1 now0])))
    ∧ ((cPreviews [preview1 1 0]).broker.previews.any (fun p =>
          decide (p.id = 1) && decide (now0 / 50000 < (p.start + p.duration * 1000000) / 50000)) = false
      ∧ (cPreviews [preview1 1 0]).broker.everPreviews.elem 1 = true)
    ∧ (cPreviews [preview1 1 0]).broker.previews.any (fun p => decide (p.id = 1) && decide (p.start + p.duration * 1000000 ≤ now0)) = true := by
  repeat' apply And.intro
  all_goals first | exact served_of (by decide +kernel) | decide +kernel

theorem witness_LeakSources :
    (((r0 (fun r => { r with sources := 7, alarmAt := now0 - 10000000000 })).rack 0).sources.getLsbD 1 = true)
    ∧ (imbalanced ((r0 (fun r => { r with supplyFlow := 500, returnFlow := 200, imbalanceSince := some 5 })).rack 0) = true ∧ 5 + 10000000000 ≤ now0)
    ∧ reservoirFalls { cRun .operator with plant.levels := [(90 * Config.sec, 5000), (40 * Config.sec, 9000)] } 4000 = true
    ∧ (((r0 (fun r => { r with stage := .suspect, clearSince := some 7 })).rack 0).clearSince = some 7 ∧ 7 + 60000000000 ≤ now0)
    ∧ ((((r0 (fun r => { r with stage := .confirmed, leak := some { t0 := 80 * Config.sec, begun := true, grantSeq := 3 } })).rack 0).leak.map
          (fun l => (l.begun, l.tv, decide (l.t0 + 20 * Config.ms ≤ now0)))) = some (true, none, true)) := by
  repeat' apply And.intro
  all_goals decide +kernel

/-! ### Plant control -/

/-- An image of one program with a leg of 10 ms. -/
def variant0 : VariantEntry := { index := 0, kind := 0, module_ := 0xFF, retiredC := 0, retiredS := 0 }
def program0 : LegProgram :=
  { variant := 0, program := 0, fanDuty := 50, power := 100, ckptWindow := 0, rotWindow := 0, streams := [], copies := [],
    slots := [{ startCycle := 0, cycles := 400000, dies := 0xFFFF }], reservedZero := true }
def image0 (modules : Nat) : Image :=
  { magic := 0x52545856, fmtMajor := 1, fmtMinor := 0, len := 4096, mirrorId := 77, version := 1, clock := 0, modules := modules, permille := 10,
    legCycles := 7500000, nPrograms := 1, ckptBytes := 100, weightBytes := 1000, toolVer := 1, toolSupported := true, reservedZero := true,
    period := 1, phases := [0], programs := [program0], ckptOverlay := [], rotOverlay := [], ckptMap := [], nVariants := 1,
    variants := [variant0], nSections := 1, sections := [{ type := 1, variant := 0, off := 128, len := 100 }], tensors := [], rings := [],
    hall := [], pathShare := [], weightBufferMax := 0, seqLens := (0, 0, 0), mixesBf16 := false, vectorDiffers := false, overlaysFit := true,
    forwardedMax := 0 }
def legRec0 (n : Nat) (closed ok committed : Bool) (fail : Nat) : LegRec :=
  { leg := n, start := 0, variant := 0, rotStep := 0, program := 0, checksClosed := closed, checksOk := ok, committed := committed,
    fail := BitVec.ofNat 6 fail }

/-- Legs run: leg n began 3 ms ago. -/
def runs (n : Nat) (s : State) : State :=
  { s with dies := (List.range 25).map (fun k => (k, { st := 0 })),
           seqr := { s.seqr with
             image := some (image0 1), st := .running, leg := n, anyLeg := true, legStart := now0 - 3000000,
             legs := [legRec0 n false false false 0, legRec0 (n - 1) false true false 0, legRec0 (n - 2) true true true 0] } }

def pl (f : Plant → Plant) (s : State) : State := { s with plant := f s.plant }
def pRun : State := runs 5 (duty .run .operator)
def pFb : State := pl (fun p => { p with fbLoops := true, nextTick := 5 }) (duty .fallback .operator)
def row1 (r : ReflexRow) (f : RowState → RowState) (s : State) : State := s.modRow r f
def due (r : ReflexRow) : State := row1 r (fun k => { k with condSince := some 5 }) pRun
def hMode : Hdr := hdr 0 0x60
def hPol : Hdr := hdr 0 0x61
def asked (m : Mode) (r : ClientRole) (c : Nat) : State := pl (fun p => { p with modeAsks := [(hMode, c)] }) (duty m r)
def band (l : Nat) (a b : Nat) : BandEntry :=
  { loop := BitVec.ofNat 8 l, mask := 3, spLo := BitVec.ofNat 16 a, spHi := BitVec.ofNat 16 b, outLo := 0, outHi := 1000 }

theorem witness_ModeAndPolicy :
    (Served (opModeSet hMode 5) hMode (sess .operator) (duty .run .operator) ∧ askedMode 5 = some .maintain)
    ∧ Served (opModeSet hMode 3) hMode (sess .engineer) (duty .run .engineer)
    ∧ (Served (opModeSet hMode 9) hMode (sess .operator) (duty .run .operator) ∧ askedMode 9 = none)
    ∧ (duty .run .operator).power.step ≠ 0
    ∧ (ServedLate (opModeSet hMode 5) hMode (sess .operator) { asked .run .operator 5 with plant.modeAsks := [] }
      ∧ (asked .run .operator 5).plant.modeAsks = [(hMode, 5)] ∧ deadlineMissed hMode now0 now0 = false)
    ∧ (ServedLate (opModeSet hMode 3) hMode (sess .engineer) { asked .run .engineer 3 with plant.modeAsks := [] })
    ∧ (ServedLate (opModeSet hMode 2) hMode (sess .operator)
        { pl (fun p => { p with commissioned := true }) (asked .maintain .operator 2) with plant.modeAsks := [] }
      ∧ (pl (fun p => { p with commissioned := true }) (asked .maintain .operator 2)).plant.engineOk = true)
    ∧ Admits hMode (sess .operator) (now0 + Config.gapNs)
        (pl (fun p => { p with commissioned := true, engineOk := false }) (asked .maintain .operator 2))
    ∧ (ServedLate (opModeSet hMode 5) hMode (sess .operator) { asked .maintain .operator 5 with plant.modeAsks := [] }
      ∧ ((asked .maintain .operator 5).row .pressureTrip).active = false)
    ∧ (ServedLate (opModeSet hMode 1) hMode (sess .engineer) { asked .run .engineer 1 with plant.modeAsks := [] } ∧ askedMode 1 = some .commission)
    ∧ (Served (opPolicySet hPol) hPol (sess .operator) pRun ∧ firstBadBand (touch hPol 1 pRun) [] 0 [band 0 1000 1300] = none
      ∧ Admits hPol (sess .operator) (bandsBoundary (touch hPol 1 pRun) + Config.gapNs) (touch hPol 1 pRun))
    ∧ firstBadBand (touch hPol 1 pRun) [] 0 [band 1 2000 2500, band 9 5 6] = some 1
    ∧ 4 < (List.replicate 5 (band 0 1000 1300)).length := by
  repeat' apply And.intro
  all_goals first | exact served_of (by decide +kernel) | exact servedLate_of (by decide +kernel) | decide +kernel

theorem witness_LoopSource :
    (isKeeper { pRun with seqr.withheldRun := 20 } = true ∧ 20 ≤ ({ pRun with seqr.withheldRun := 20 } : State).seqr.withheldRun)
    ∧ engineGone (duty .run .operator) = true
    ∧ pRun.plant.mode = .run
    ∧ mayReturn (pl (fun p => { p with armed := true }) { runs 5 (duty .fallback .operator) with seqr.cleanRun := 60000 }) = true
    ∧ (isKeeper pFb = true ∧ pFb.plant.fbLoops = true ∧ pFb.plant.nextTick ≤ pFb.now) := by
  repeat' apply And.intro
  all_goals decide +kernel

theorem witness_BoundLoops :
    (((pRun.modLoop 1 (fun l => { l with insideSince := some 5, policyBound := true })).loop 1).insideSince = some 5 ∧ 5 + 10 * Config.sec ≤ now0)
    ∧ (((pRun.modLoop 1 (fun l => { l with staleSince := some 6 })).loop 1).staleSince = some 6 ∧ (pRun.loop 1).staleBound = false)
    ∧ (isKeeper pRun = true ∧ engineDriven pRun = true
      ∧ 0 < ((pRun.modLoop 0 (fun l => { l with policyBound := true, unserved := 300 })).loop 0).unserved
      ∧ (pRun.loop 0).lastBoundStep + 100 * Config.ms ≤ now0) := by
  repeat' apply And.intro
  all_goals decide +kernel

theorem witness_SafetyRows :
    isKeeper pRun = true
    ∧ (rowHolds (due .dpLow) .dpLow (2 * Config.sec) = true ∧ rowHolds (due .dpHigh) .dpHigh Config.sec = true
      ∧ rowHolds (due .supplyHigh) .supplyHigh (10 * Config.sec) = true ∧ rowHolds (due .supplyLow) .supplyLow (10 * Config.sec) = true
      ∧ rowHolds (due .supplyOver) .supplyOver (5 * Config.sec) = true ∧ rowHolds (due .returnHigh) .returnHigh (5 * Config.sec) = true
      ∧ rowHolds (due (.rackFlow 15)) (.rackFlow 15) (5 * Config.sec) = true
      ∧ rowHolds (due (.rackReturn 3)) (.rackReturn 3) (5 * Config.sec) = true)
    ∧ (rowHolds (row1 (.rackFlow 3) (fun k => { k with active := true, since := 7 }) (due (.rackFlowCap 3))) (.rackFlowCap 3) (5 * Config.sec) = true
      ∧ ((row1 (.rackFlow 3) (fun k => { k with active := true, since := 7 }) (due (.rackFlowCap 3))).row (.rackFlow 3)).active = true)
    ∧ (rowCond (pl (fun p => { p with dp := { value := 30000, stale := false } }) pRun) .dpHigh = some true
      ∧ ((row1 .dpHigh (fun k => { k with active := true, lastStep := 7 }) pRun).row .dpHigh).lastStep + 100 * Config.ms ≤ now0)
    ∧ (((row1 .dpHigh (fun k => { k with active := true, okSince := some 7 }) pRun).row .dpHigh).okSince = some 7
      ∧ releasedByTime .dpHigh = true) := by
  repeat' apply And.intro
  all_goals decide +kernel

def pumps1 : IMap Pump :=
  [(0, { use := .duty, speed := 300000000, runNs := 50, sinceRest := 60 }), (1, { use := .duty, speed := 300000000, runNs := 70, sinceRest := 30 }),
   (2, { use := .duty, speed := 300000000, vfd := true }), (3, { use := .idle }), (4, { use := .reserve, speed := 300000000 })]
def pPumps : State := pl (fun p => { p with pumps := pumps1 }) pRun

theorem witness_Staging :
    (stageUpDue (pl (fun p => { p with fastSince := some 5 }) pPumps) = true
      ∧ stageDownDue (pl (fun p => { p with slowSince := some 5 }) pPumps) = true
      ∧ rotationDue (pl (fun p => { p with rotRun := 2000 * Config.hour }) pPumps) = true)
    ∧ ((pl (fun p => { p with rotating := some 4 }) pPumps).plant.rotating = some 4 ∧ (pPumps.pump 4).use = .reserve ∧ stagingRuns pPumps = true
      ∧ (pumpActual (pl (fun p => { p with loops := [(0, { out := 300000000 })] }) pPumps) 4 - 300000000).natAbs ≤ (50 * outUnit).natAbs)
    ∧ (idlePump pPumps = some 3 ∧ idlePump (pPumps.modPump 3 (fun k => { k with use := .none })) = none ∧ (pPumps.loop 4).holders = [])
    ∧ (2 < dutyCount pPumps ∧ mostOf pPumps (fun k => k.runNs) = some 1)
    ∧ reservePump pPumps = some 4 ∧ mostOf pPumps (fun k => k.sinceRest) = some 0 := by
  repeat' apply And.intro
  all_goals decide +kernel

/-! ### Cards, inputs, power domains -/

def base0 : State := duty .run .operator
def frameAt : State :=
  { base0 with
    now := now0 + 123,
    plant := { base0.plant with modeAsks := [(hMode, 5)] },
    vcp := { base0.vcp with accepted := [{ accepted1 U.hub now0 with timed := true }] } }
def cd (k : Nat) (f : Card → Card) (s : State) : State := s.modCard k f
def pw (f : Power_ → Power_) (s : State) : State := { s with power := f s.power }
def sn (i : Nat) (f : Sense → Sense) (s : State) : State := s.modSense i f
def xp (f : Aux → Aux) : State := base0.modAux 0 f

theorem witness_FrameOfTheCardBus :
    frameAt.power.step ≠ 0 ∧ (State.reset.power.step = 0 ∧ isKeeper State.reset = false)
    ∧ (isKeeper frameAt = true ∧ frameAt.pair.handover = none)
    ∧ (frameAt.fw.aborts = [] ∧ frameAt.copies.aborts = []) := by
  repeat' apply And.intro
  all_goals decide +kernel

theorem witness_InputsOfTheCards :
    (((cd 5 (fun c => { c with lastFrame := now0 - 100 * Config.us }) base0).card 5).st ≠ .absent ∧ fieldOn base0 = true
      ∧ ((cd 5 (fun c => { c with lastFrame := now0 - 100 * Config.us }) base0).card 5).cardHold = false
      ∧ ((cd 5 (fun c => { c with lastFrame := now0 - 100 * Config.us }) base0).card 5).lastFrame + 100 * Config.us ≤ now0)
    ∧ (calDue (sn 2 (fun q => { q with calQueued := some 5 }) (base0.setReg (U.sns 2) Off.snsCfg 0x10000000)) 2 = true
      ∧ calFirst (sn 2 (fun q => { q with calQueued := some 5 }) (base0.setReg (U.sns 2) Off.snsCfg 0x10000000)) 2 = true)
    ∧ ((sn 63 (fun q => { q with calStart := some 7 }) base0).sense 63).calStart = some 7
    ∧ (((base0.setReg (U.pls 15) Off.plsCfg 1).bitAt (U.pls 15) Off.plsCfg 0) = true
      ∧ ((base0.modPulse 15 (fun p => { p with lastPulse := 5 })).pulse 15).lastPulse + 10 * Config.sec ≤ base0.now)
    ∧ (((base0.modAnalog 15 (fun a => { a with lowSince := some (now0 - 100 * Config.ms) })).analog 15).lowSince = some (now0 - 100 * Config.ms)
      ∧ now0 - 100 * Config.ms + 100 * Config.ms ≤ base0.now) := by
  repeat' apply And.intro
  all_goals decide +kernel

theorem witness_AuxPins :
    (((xp (fun a => { a with switching := some (now0 - 5020, 2, true) })).aux 0).switching = some (now0 - 5020, 2, true)
      ∧ now0 - 5020 + 5020 ≤ now0)
    ∧ (((xp (fun a => { a with func := 4, captureUnread := true })).aux 0).switching = none
      ∧ ((xp (fun a => { a with func := 4, captureUnread := true })).aux 0).func = 4)
    ∧ ((xp (fun a => { a with func := 1 })).aux 0).func = 1 ∧ ((xp (fun a => { a with func := 5 })).aux 0).func = 5
    ∧ (((xp (fun a => { a with func := 3, lastPps := 99 })).aux 0).func = 3
      ∧ ((xp (fun a => { a with func := 3, lastPps := 99 })).aux 0).lastPps < base0.now / Config.sec) := by
  repeat' apply And.intro
  all_goals decide +kernel

def closing0 : State := pw (fun p => { p with closed := [0x20, 3, 4], closing := [(0x20, 5, true), (3, 6, false)] }) base0

theorem witness_DomainsClose :
    ((base0.card 0).st ≠ .absent ∧ 0x20 ∉ base0.power.closed)
    ∧ (20 ≤ ((cd 1 (fun c => { c with missedRun := 20 }) base0).card 1).missedRun
      ∧ ((cd 1 (fun c => { c with missedRun := 20 }) base0).card 1).st = .active)
    ∧ (closing0.power.closing.find? (fun c => decide (c.1 = 0x20)) = some (0x20, 5, true) ∧ 5 + 100 * Config.us ≤ closing0.now)
    ∧ (closing0.power.closing.find? (fun c => decide (c.1 = 3)) = some (3, 6, false))
    ∧ (4 ∈ closing0.power.closed ∧ (∀ e ∈ closing0.power.closing, e.1 ≠ 4) ∧ (closing0.die 4).st ≠ 3 ∧ closing0.integ.resetAt = none)
    ∧ ((closing0.modDie 15 (fun d => { d with st := 3 })).die 15).st = 3 := by
  repeat' apply And.intro
  all_goals decide +kernel

def enumd (n : Nat) : State := cd 2 (fun c => { c with st := .enumerating, seenAt := now0 - 100900 * Config.us, type := 1, descReads := n }) base0
def goodDesc : CardDesc := { crcOk := true, type := 1, hwRev := 1, fwVer := Config.minCardFw 1, serial := 5 }
theorem goodDesc_fits : mismatch (enumd 2) 2 goodDesc = none := by
  have h1 : (enumd 2).fldOf U.sys (0x400 + 0x20 * 2 + Off.cardExpect) 7 0 = 1 := by decide +kernel
  simp [mismatch, goodDesc, h1]

theorem witness_CardsEnumerated :
    (5 ≤ base0.power.step ∧ ((cd 2 (fun c => { c with st := .gated }) base0).card 2).st = .gated)
    ∧ (((enumd 2).card 2).st = .enumerating ∧ ((enumd 2).card 2).descReads = 2 ∧ fieldOn (enumd 2) = true
      ∧ mismatch (enumd 2) 2 goodDesc = none)
    ∧ (mismatch (enumd 2) 2 { goodDesc with crcOk := false } = some 4)
    ∧ (((enumd 3).card 2).st = .enumerating ∧ 1 ≤ ((enumd 3).card 2).type ∧ ((enumd 3).card 2).type ≤ 3
      ∧ ((enumd 3).card 2).seenAt + 100900 * Config.us ≤ (enumd 3).now ∧ ((enumd 3).card 2).descReads = 3
      ∧ (∀ q ∈ (enumd 3).service.queue, q.card ≠ 2) ∧ ((enumd 3).upd (((enumd 3).card 2).type + 2)).activating = none)
    ∧ svcNext [{ card := 0, use := .config 1, deck := true }, { card := 1, use := .descriptor 1 }] = some { card := 1, use := .descriptor 1 } := by
  repeat' apply And.intro
  all_goals first | exact goodDesc_fits | decide +kernel

def measured0 : Measured :=
  { mainA := 500, mainB := 500, fieldA := 5, fieldB := 6, fieldIA := 7, fieldIB := 8, fanRpm := [1, 2, 3], inlet := -5,
    dies := [(0, 5, 6, 7), (24, 8, -5, 9)], bankV := 520 }

theorem witness_PowerFansAndHeat :
    (fieldOn (pw (fun p => { p with fieldB := false }) base0) = true
      ∧ (base0.card (slotOfValve 0)).st = .active ∧ (base0.card (slotOfValve 0)).type = 1)
    ∧ fieldOn (pw (fun p => { p with fieldA := false, fieldB := false }) base0) = false
    ∧ ({ base0 with fans := { failed := 1 } } : State).fans.failed.getLsbD 5 = false
    ∧ 970 ≤ ({ base0 with fans := { junction := 970 } } : State).fans.junction
    ∧ (1050 ≤ ({ base0 with fans := { junction := 1050 } } : State).fans.junction
      ∧ ({ base0 with fans := { junction := 1050 } } : State).fans.gatedHot = false)
    ∧ (measured0.dies.map (fun e => e.1)).Nodup := by
  repeat' apply And.intro
  all_goals decide +kernel

def hLoc : Hdr := hdr 0 0xB0

theorem witness_HarnessAndLocate :
    isKeeper base0 = true ∧ isRelief { base0 with pair := { role := .reliefMirror } } = true
    ∧ ({ base0 with pair := { role := .barred, barredFrom := .reliefCold, harnessClosed := false } } : State).pair.harnessClosed = false
    ∧ (Served (opLocate hLoc) hLoc (sess .operator) base0 ∧ deadlineMissed hLoc (nextFrame base0) base0.now = false)
    ∧ 1 < (2 : BitVec 8).toNat := by
  repeat' apply And.intro
  all_goals first | exact served_of (by decide +kernel) | decide +kernel
/-! ### Power, time, integrity -/

def saved0 : SavedRecord :=
  { mode := .run, forced := false, isolated := 4, commissioned := true, envelope := 20000, racks := [(0, { cap := 1500 })], safetyAll := true,
    tripActive := false, spActive := [1, 2, 3], loopOut := [4, 5, 6, 7], spBand := [], outBand := [], beaconManual := 3, nextLogSeq := 55,
    reportSeq := 4, duty := [], pumpRun := [], sagAt := 5, ckpt := some (1, 0, 2, 3), phaseB := false, tail := [] }
def sagged (ll ago : Nat) : State := pw (fun p => { p with sagSince := some (now0 - ago), llState := ll, step := 7 }) base0
def lit : State := pw (fun p => { p with llState := 2, saveAt := now0 - 20000 * Config.us, saved := some saved0 }) base0

theorem witness_SagsAndLastLight :
    (base0.power.step ≠ 0 ∧ base0.power.llState ≠ 2 ∧ base0.power.sagSince = none)
    ∧ ((sagged 1 49999).power.sagSince = some (now0 - 49999) ∧ (sagged 1 49999).now < now0 - 49999 + 50 * Config.us)
    ∧ ((sagged 0 50000).power.sagSince = some (now0 - 50000) ∧ now0 - 50000 + 50 * Config.us ≤ (sagged 0 50000).now
      ∧ (sagged 0 50000).power.llState ≠ 1 ∧ (sagged 0 50000).power.llState ≠ 2)
    ∧ ((sagged 1 50000).power.llState = 1 ∧ (sagged 1 50000).power.step = 7 ∧ now0 - 50000 + 50 * Config.us ≤ (sagged 1 50000).now)
    ∧ (lit.power.llState = 2 ∧ lit.power.saveAt + 20000 * Config.us ≤ lit.now ∧ lit.power.saved = some saved0 ∧ saved0.phaseB = false)
    ∧ (msorted lit.broker.racks = true ∧ ((lit.modDie 3 (fun d => { d with st := 3 })).die 3).st = 3) := by
  repeat' apply And.intro
  all_goals decide +kernel

def stepOf (n : Nat) : State := pw (fun p => { p with step := n, appliedAt := some (now0 - 100 * Config.ms), llState := 0 }) base0

theorem witness_StartUp :
    (stepOf 0).power.step = 0
    ∧ ((stepOf 1).power.appliedAt = some (now0 - 100 * Config.ms) ∧ (stepOf 1).power.step = 1
      ∧ now0 - 100 * Config.ms + 100 * Config.ms ≤ (stepOf 1).now)
    ∧ ((stepOf 2).power.step = 2 ∧ (stepOf 2).power.recovery = false ∧ (stepOf 2).power.saved = none)
    ∧ ((pw (fun p => { p with saved := some saved0 }) (stepOf 2)).power.saved = some saved0 ∧ saved0.consumed = false)
    ∧ ((stepOf 3).power.step = 3
      ∧ (({ stepOf 3 with buses := [(5, { st := .offline })] } : State).setReg (U.bl 5) Off.blCtrl 1).bitAt (U.bl 5) Off.blCtrl 0 = true
      ∧ ((({ stepOf 3 with buses := [(5, { st := .offline })] } : State).setReg (U.bl 5) Off.blCtrl 1).bus 5).st = .offline)
    ∧ ((stepOf 6).power.step = 6 ∧ (stepOf 6).power.saved = none ∧ isKeeper (stepOf 6) = true)
    ∧ isKeeper { stepOf 5 with pair := { role := .reliefMirror } } = false := by
  repeat' apply And.intro
  all_goals decide +kernel

def tm (f : Ptp → Ptp) (s : State) : State := { s with ptp := f s.ptp }
def ptpOn : State := base0.setReg U.sys Off.ptpCfg 3
def stepping : State := tm (fun p => { p with st := 2, offset := -1234567, lastSync := some (now0 - 5 * Config.sec) }) (base0.setReg U.sys Off.hallCfg 0)

theorem witness_TimeAndClocks :
    (ptpPortOn ptpOn .b = true ∧ ptpOn.ptp.port = .a)
    ∧ (ptpPortOn ptpOn .a = true ∧ (tm (fun p => { p with st := 1, goodSyncs := 15 }) ptpOn).ptp.st = 1 ∧ (500 : Int).natAbs < 1000)
    ∧ (stepping.ptp.lastSync = some (now0 - 5 * Config.sec) ∧ stepping.ptp.st = 2 ∧ now0 - 5 * Config.sec + 5 * Config.sec ≤ stepping.now)
    ∧ (isRoot stepping = true ∧ 1000000 ≤ stepping.ptp.offset.natAbs ∧ seqrIdle stepping = true ∧ stepping.vcp.accepted = []
      ∧ Int.tdiv stepping.ptp.offset 50000 * 50000 ≤ stepping.now ∧ stepping.ptp.stepSince = none)
    ∧ ((tm (fun p => { p with stepSince := some (now0 - 20 * Config.ms) }) stepping).ptp.stepSince = some (now0 - 20 * Config.ms)
      ∧ now0 - 20 * Config.ms + 20 * Config.ms ≤ stepping.now)
    ∧ (base0.power.step ≠ 0 ∧ base0.power.llState = 1 ∧ base0.integ.resetAt = none)
    ∧ ((stepOf 7).power.llState ≠ 1 ∧ (stepOf 7).power.llState ≠ 2)
    ∧ base0.power.backup = false := by
  repeat' apply And.intro
  all_goals decide +kernel

def cl (d r c : Nat) : ClusterAt := { die := ⟨d % 16, by omega⟩, row := ⟨r % 16, by omega⟩, col := ⟨c % 17, by omega⟩ }
def xfer : Transfer := { src := cl 1 2 3, dst := cl 0 0 0, srcOrd := some 3, tensor := 1, firstK := 0, sums := [5, -3], digest := 6, passesAgree := true }
def late : Nat := 200000 * Config.sec
def healthOf (r : Role) (f : Nat) : HealthReport :=
  { seq := 1, time := 0, role := r, flags := BitVec.ofNat 8 f, links := 0, legsCompared := 0, legsMismatch := 0, legsLate := 0, stagesTested := 0,
    stagesFailed := 0, suspect := 0, retiredC := 0, retiredS := 0, fansFailed := 0, junction := 0, ckptLeg := none, pairId := 0 }
def up4 (s : State) : State :=
  { s with links := (List.range 4).map (fun l => (l, { st := .up, peerSlot := .b, peerLink := l })), pair.flashPairAt := some s.now }
/-- Legs run with an open dispute, at 200 000 s, and the partner mirrors. -/
def disputed : State :=
  up4 { pRun.setReg U.hub Off.intCtrl 6 with
    now := late,
    pair := { pRun.pair with health := some (healthOf .reliefMirror 0xFF, late), idMatch := true },
    seqr := { pRun.seqr with legStart := late - 1000,
                             legs := [{ legRec0 5 false false false 0 with disputes := [(xfer, 6, none), (xfer, 6, none)], retained := [xfer] }] } }
def lateRelief : State :=
  { disputed.setReg U.hub Off.intMargin 0x00010004 with pair := { disputed.pair with role := .reliefMirror }, plant := { mode := .run } }

theorem witness_DigestsAndTests :
    (openDispute 5 0 disputed = some xfer ∧ linkTowards (disputed.setReg U.sys Off.hallCfg 3) 3 ≠ none)
    ∧ (rederived 5 0 disputed = some (accDigest 0 [5, -3]))
    ∧ (legRec disputed 5 = some { legRec0 5 false false false 0 with disputes := [(xfer, 6, none), (xfer, 6, none)], retained := [xfer] }
      ∧ isKeeper disputed = true ∧ mirrorActive disputed = true ∧ digestInTime disputed 5 = true)
    ∧ digestInTime { disputed with seqr := { disputed.seqr with leg := 7 } } 5 = false
    ∧ (disputed.bitAt U.hub Off.intCtrl 2 = true ∧ (disputed.die 15).st = 0 ∧ (clusterOf disputed (cl 15 15 16)).st ≠ 2
      ∧ (clusterOf disputed (cl 15 15 16)).overdueSince = none
      ∧ Nat.max (clusterOf disputed (cl 15 15 16)).lastRound disputed.integ.since + testPeriod disputed (clusterOf disputed (cl 15 15 16)) < disputed.now)
    ∧ ((clusterOf { disputed with clusters := [(clKey (cl 0 0 0), { overdueSince := some 5 })] } (cl 0 0 0)).overdueSince = some 5
      ∧ 5 + hours 24 ≤ disputed.now)
    ∧ (lateRelief.integ.margin = false ∧ lateRelief.pair.role = .reliefMirror ∧ lateRelief.plant.mode = .run
      ∧ lateRelief.fldOf U.hub Off.intMargin 31 16 ≠ 0
      ∧ lateRelief.integ.lastMargin + hours (lateRelief.fldOf U.hub Off.intMargin 31 16) ≤ lateRelief.now)
    ∧ ({ lateRelief with integ := { margin := true } } : State).integ.margin = true := by
  repeat' apply And.intro
  all_goals decide +kernel

def hRep : Hdr := hdr 0 0xA1

theorem witness_PackageReset :
    (disputed.integ.resetAt = none ∧ reliefHealthy disputed = true)
    ∧ ({ disputed with integ := { resetAt := some 5 } } : State).integ.resetAt = some 5
    ∧ ({ disputed with integ := { resetAt := some disputed.now } } : State).integ.resetAt = some disputed.now
    ∧ resetEnds true disputed.now disputed.now = false ∧ resetEnds false 5 (5 + 450 * Config.ms - 1) = false
    ∧ (5 + 50000 ≤ disputed.now ∧ 5 + 450 * Config.ms ≤ disputed.now ∧ resetEnds false 5 (5 + 450 * Config.ms) = true ∧ resetEnds true 5 50005 = true)
    ∧ (isRelief { lateRelief with integ := { resetAt := some 5 } } = true ∧ lateRelief.seqr.image ≠ none)
    ∧ (Served (opIntegrityReport hRep) hRep (sess .operator) base0 ∧ deadlineMissed hRep base0.now base0.now = false)
    ∧ disputed.integ.lastReport + disputed.fldOf U.hub Off.intCtrl 23 16 * Config.sec ≤ disputed.now := by
  repeat' apply And.intro
  all_goals first | exact served_of (by decide +kernel) | decide +kernel

def hDat : Hdr := hdr 0 0xA0
def eng0 : State := runs 5 (duty .run .engineer)
def pushing : State := { eng0 with integ := { push := some (5, 1, 3, 8192, now0 - 60 * Config.sec), datumVer := 4, datumNext := some (4, 6), datumSlot := 1 } }

theorem witness_DatumSets :
    (Served (opDatumPush hDat) hDat (sess .engineer) pushing)
    ∧ ¬ ((1 : BitVec 16).toNat < (1 : BitVec 16).toNat)
    ∧ ((1 : BitVec 16).toNat < (3 : BitVec 16).toNat ∧ (3 : BitVec 16).toNat ≤ 128 ∧ 1 ≤ 8192 ∧ pushedBytes pushing 1 + 8192 ≤ 1048576
      ∧ datumInOrder pushing 5 1 3 = true ∧ pushing.integ.datumVer < 5 ∧ 1 + 1 < 3 ∧ deadlineMissed hDat now0 now0 = false)
    ∧ (datumInOrder pushing 4 0 1 = true ∧ 4 ≤ pushing.integ.datumVer ∧ pushedBytes pushing 0 + 1 ≤ 1048576)
    ∧ (datumInOrder { pushing with integ := { pushing.integ with push := some (5, 2, 3, 9000, now0) } } 5 2 3 = true
      ∧ Admits hDat (sess .engineer) (boundaryFrom (touch hDat 1 pushing) (Nat.max (now0 + Config.sec) (touch hDat 1 pushing).now)).1 (touch hDat 1 pushing))
    ∧ pushing.integ.push = some (5, 1, 3, 8192, now0 - 60 * Config.sec)
    ∧ (pushing.integ.datumNext = some (4, 6) ∧ 6 ≤ pushing.now ∧ pushing.integ.datumSlot ≤ 1) := by
  repeat' apply And.intro
  all_goals first | exact served_of (by decide +kernel) | decide +kernel

def copyOf (t c : Nat) : CopyDesc :=
  { cls := c, shape := 0, notify := true, digest := false, link := false, tag := BitVec.ofNat 16 t, length := 64, rows := 1, src := 0,
    dst := 0x5001000000, srcStride := 0, dstStride := 0, deliverBy := 0 }
def cps (f : Copies → Copies) (s : State) : State := { s with copies := f s.copies }
def ringsOn : State := (eng0.setReg U.hub Off.ceRingCtrl 16).setReg U.hub (Off.ceRingCtrl + 0x10) 16
def hAb : Hdr := hdr U.hub 0x52
def filled : State :=
  cps (fun c => { c with ring0 := [{ desc := copyOf 1 1, ring := 0, running := true }], tail0 := 1, ring1 := [{ desc := copyOf 2 2, ring := 1, running := true },
                         { desc := copyOf 3 2, ring := 1 }], tail1 := 2, busy := 0xC0, incoming := [(1, 5)] }) ringsOn
def aborting (t : Nat) : State := cps (fun c => { c with aborts := [(hAb, 1, BitVec.ofNat 16 t)] }) filled

theorem witness_CopyRings :
    (ringSize filled 1 = 16 ∧ 16 ≤ (filled.copies.tail 1 + 16 - filled.copies.head 1) % 16 + ((1 : BitVec 16).toNat % 16 + 16 - filled.copies.tail 1) % 16)
    ∧ ((filled.copies.tail 1 + 16 - filled.copies.head 1) % 16 + ((3 : BitVec 16).toNat % 16 + 16 - filled.copies.tail 1) % 16 < 16
      ∧ firmwareBusy filled.copies = true ∧ filled.copies.ring0.any (fun c => c.running) = true ∧ filled.copies.incoming ≠ [])
    ∧ (ringsOn.copies.ring0 = [] ∧ ringsOn.copies.ring1 = [] ∧ ringsOn.copies.ring2 = [] ∧ copyRefusal ringsOn 2 (copyOf 5 2) = none
      ∧ [copyOf 5 2].take ((1 : BitVec 16).toNat % 16) = [copyOf 5 2])
    ∧ (ringsOn.copies.head 2 = ringsOn.copies.tail 2 ∧ (0x3BFFC00 : Word).toNat % 64 = 0 ∧ 0x3800000 ≤ (0x3BFFC00 : Word).toNat
      ∧ (0x3BFFC00 : Word).toNat + 64 * (16 : Word).toNat ≤ 0x3C00000 ∧ ringSizeOk (16 : Word).toNat = true)
    ∧ filled.copies.head 1 ≠ filled.copies.tail 1
    ∧ takeSched 5 now0 (cps (fun c => { c with sched := [(5, copyOf 3 0, now0)] }) ringsOn).copies.sched = some (copyOf 3 0, [])
    ∧ ((cps (fun c => { c with ring0 := [{ desc := copyOf 1 1, ring := 0, running := true }] }) ringsOn).copies.ring0
        = [{ desc := copyOf 1 1, ring := 0, running := true }] ∧ ringsOn.copies.incoming = [] ∧ ringsOn.hall.bulks = [])
    ∧ (Served (opAbortCopy hAb) hAb (sess .engineer) filled ∧ (takeCopy 3 (filled.copies.ring 1)).isSome = true
      ∧ (takeCopy 9 (filled.copies.ring 1)).isSome = false ∧ completedIn 1 9 (filled.now / 50000) filled = false)
    ∧ (ServedLate (opAbortCopy hAb) hAb (sess .engineer) (cps (fun c => { c with aborts := [] }) (aborting 3))
      ∧ (takeCopy 3 ((aborting 3).copies.ring 1)).map (fun p => p.1.running) = some false ∧ completedIn 1 3 2000000 (aborting 3) = false)
    ∧ completedIn 1 3 2000000 (cps (fun c => { c with ended := [{ ring := 1, tag := 3, status := .completed, bytes := 64, digest := 0, at_ := now0 }] }) (aborting 3)) = true := by
  repeat' apply And.intro
  all_goals first | exact served_of (by decide +kernel) | exact servedLate_of (by decide +kernel) | decide +kernel
/-! ### Traverses -/

def sq (f : Seqr → Seqr) (s : State) : State := { s with seqr := f s.seqr }
def trvUnit (b : Bank) (s : State) : State := s.modUpd 2 (fun u => { u with bankA := b })
def engb : State := duty .run .engineer
def hLoad : Hdr := hdr 0 0x90
def hStart : Hdr := hdr 0 0x91
def hStop : Hdr := hdr 0 0x92
/-- The sequencer in a state, with the image loaded. -/
def seqIn (st : SeqSt) : State :=
  sq (fun q => { q with st := st, image := some (image0 1), loadOrigin := some orig })
    { engb with dies := (List.range 25).map (fun k => (k, { st := 0 })) }
def ckpt0 (n : Nat) : Ckpt := { state := 2, mirrorId := 77, leg := n, start := 5, phase := 0, digest := 6 }
def placed (s : State) : Option State := match choosePlacement true (image0 1) s with | .runs a => some a | _ => none

theorem witness_TraverseLoads :
    (Served (opTraverseLoad hLoad) hLoad (sess .engineer) (trvUnit { st := .verified } engb) ∧ engb.seqr.st = .empty
      ∧ bankVerified (traverseBank (trvUnit { st := .verified } engb) 0) = true
      ∧ Admits hLoad (sess .engineer) (loadEnd (trvUnit { st := .verified } engb) 0) (touch hLoad 1 (trvUnit { st := .verified } engb)))
    ∧ (Served (opTraverseLoad hLoad) hLoad (sess .engineer) (seqIn .running) ∧ (seqIn .running).seqr.st = .running)
    ∧ (Served (opTraverseLoad hLoad) hLoad (sess .engineer) engb ∧ bankVerified (traverseBank engb 1) = false)
    ∧ ((seqIn .loading).seqr.st = .loading ∧ (seqIn .loading).seqr.loadOrigin = some orig ∧ imageFault (seqIn .loading) (image0 1) = none)
    ∧ (imageFault (seqIn .loading) { image0 1 with magic := 3 } = some 0)
    ∧ ((sq (fun q => { q with loadOrigin := none }) (seqIn .loading)).seqr.loadOrigin = none ∧ isKeeper (seqIn .loading) = true
      ∧ (image0 1).modules = 1)
    ∧ ((pw (fun p => { p with step := 7 }) (trvUnit { st := .active } engb)).power.step = 7
      ∧ (activeBank ((trvUnit { st := .active } engb).upd 2)).st = .active ∧ ∀ e ∈ engb.power.closing, e.1 ≠ 24) := by
  repeat' apply And.intro
  all_goals first | exact served_of (by decide +kernel) | decide +kernel

theorem witness_TraverseStartsAndStops :
    (Served (opTraverseStart hStart) hStart (sess .engineer) (seqIn .loaded) ∧ (seqIn .loaded).seqr.image = some (image0 1)
      ∧ Admits hStart (sess .engineer) (firstLegAt (seqIn .loaded) 0) (touch hStart 1 (seqIn .loaded)))
    ∧ (lastCkpt (sq (fun q => { q with slotA := ckpt0 3 }) (seqIn .loaded)) = some (ckpt0 3) ∧ (ckpt0 3).mirrorId = (image0 1).mirrorId)
    ∧ lastCkpt (seqIn .loaded) = none
    ∧ (Served (opTraverseStart hStart) hStart (sess .engineer) (seqIn .running))
    ∧ ((sq (fun q => { q with starting := some (now0, 0, some orig) }) (seqIn .starting)).seqr.starting = some (now0, 0, some orig)
      ∧ (placed (sq (fun q => { q with starting := some (now0, 0, some orig) }) (seqIn .starting))).isSome = true)
    ∧ ((placed (sq (fun q => { q with starting := some (now0, 1, some orig), slotA := ckpt0 3 }) (seqIn .starting))).bind (fun a => lastCkpt a) = some (ckpt0 3)
      ∧ (ckpt0 3).digest = 6)
    ∧ (placed (sq (fun q => { q with starting := some (now0, 1, some orig) }) (seqIn .starting))).bind (fun a => lastCkpt a) = none
    ∧ (Served (opTraverseStop hStop) hStop (sess .engineer) eng0 ∧ eng0.seqr.stopAt = none ∧ eng0.seqr.stopOrigin = none
      ∧ imageOr eng0 (·.modules) ≤ 1 ∧ Admits hStop (sess .engineer) (eng0.seqr.legStart + legNs eng0) (touch hStop 1 eng0))
    ∧ (Served (opTraverseStop hStop) hStop (sess .engineer) (seqIn .loaded) ∧ deadlineMissed hStop now0 now0 = false) := by
  repeat' apply And.intro
  all_goals first | exact served_of (by decide +kernel) | decide +kernel

/-- A leg of which another is over: the one before it with these checks. -/
def atBoundary (r : LegRec) : State :=
  sq (fun q => { q with legStart := now0 - Config.sec, legs := [legRec0 5 false false false 0, r], slotA := ckpt0 2 }) eng0

theorem witness_LegBoundaries :
    (legsRun (atBoundary (legRec0 4 true true false 0)) = true
      ∧ (atBoundary (legRec0 4 true true false 0)).seqr.legStart + legNs (atBoundary (legRec0 4 true true false 0)) ≤ now0
      ∧ (atBoundary (legRec0 4 true true false 0)).seqr.stopAt = none ∧ (atBoundary (legRec0 4 true true false 0)).seqr.hallStop = none
      ∧ (atBoundary (legRec0 4 true true false 0)).seqr.placementNow = false ∧ (atBoundary (legRec0 4 true true false 0)).seqr.placementDue = false
      ∧ (atBoundary (legRec0 4 true true false 0)).seqr.hallRestore = none ∧ (atBoundary (legRec0 4 true true false 0)).pair.joinAt = none
      ∧ (atBoundary (legRec0 4 true true false 0)).pair.restoreAt = none
      ∧ legRec (atBoundary (legRec0 4 true true false 0)) 4 = some (legRec0 4 true true false 0))
    ∧ ((legRec0 4 true false false 2).withheld = false ∧ ((legRec0 4 true false false 2).checksOk && engb.fw.deckUp && !engb.pair.misaligned) = false)
    ∧ ((sq (fun q => { q with stopAt := some 6, stopOrigin := some orig }) (atBoundary (legRec0 4 true true false 0))).seqr.stopAt = some 6
      ∧ ((atBoundary (legRec0 4 true true false 0)).upd 2).activating = none ∧ (atBoundary (legRec0 4 true true false 0)).seqr.hallFault = false
      ∧ (atBoundary (legRec0 4 true true false 0)).plant.mode = .run)
    ∧ (wantsRollback (legRec0 4 true false false 2) = true ∧ lastCkpt (atBoundary (legRec0 4 true false false 2)) = some (ckpt0 2)
      ∧ isKeeper (atBoundary (legRec0 4 true false false 2)) = true)
    ∧ (legRec (atBoundary (legRec0 4 false false false 3)) 4 = some (legRec0 4 false false false 3)
      ∧ mirrorActive (atBoundary (legRec0 4 false false false 3)) = false)
    ∧ ((sq (fun q => { q with restore := some (now0, 4), slotA := ckpt0 3 }) (seqIn .restoring)).seqr.restore = some (now0, 4)
      ∧ lastCkpt (sq (fun q => { q with restore := some (now0, 4), slotA := ckpt0 3 }) (seqIn .restoring)) = some (ckpt0 3)
      ∧ (soundCkpt 2 (5, 5) (sq (fun q => { q with restore := some (now0, 4), slotA := ckpt0 3 }) (seqIn .restoring))).1 = none) := by
  repeat' apply And.intro
  all_goals decide +kernel

/-! ### Sessions, reading, the Logbook -/

def vp (f : Vcp → Vcp) (s : State) : State := { s with vcp := f s.vcp }
def cert2 (r : ClientRole) : Cert := { identity := 9, uris := [.role r], anchored := true, akven := true }
/-- A second association, without a session. -/
def second (c : Cert) (p : Port) (s : State) : State := vp (fun v => { v with assocs := v.assocs ++ [{ id := 2, port := p, cert := c }] }) s
def hHello : Hdr := { assoc := 2, session := 0, version := 0x10, sequence := 4, unit := 0, opcode := 1 }
def hBye : Hdr := hdr 0 0x02
def sub1 (i period : Nat) : Sub := { id := BitVec.ofNat 16 i, unit := 0, off := 0, count := 1, period := period, telemetry := true, events := false }

theorem witness_SessionsEnd :
    (2 ≤ base0.power.step ∧ (∀ a ∈ base0.vcp.assocs, a.id ≠ 2) ∧ certAccepted base0 (cert2 .operator) = true)
    ∧ (false && certAccepted base0 (cert2 .operator)) = false
    ∧ (base0.setReg U.sys Off.vcpCtrl 0x001E0000).bitAt U.sys Off.vcpCtrl 0 = false
    ∧ ((vp (fun v => { v with assocs := v.assocs.map (fun a => { a with records := 2 ^ 24 }) }) base0).vcp.assocs.any
        (fun a => decide (2 ^ 24 ≤ a.records))) = true
    ∧ ((base0.setReg U.sys Off.vcpCtrl 0x00100000).vcp.sessions.find? (fun e => decide (e.id = 1)) = some (sess .operator)
      ∧ (sess .operator).lastPacket + (base0.setReg U.sys Off.vcpCtrl 0x00100000).fldOf U.sys Off.vcpCtrl 31 16 * Config.sec ≤ now0)
    ∧ (Served (opBye hBye) hBye (sess .operator) base0 ∧ deadlineMissed hBye now0 now0 = false) := by
  repeat' apply And.intro
  all_goals first | exact served_of (by decide +kernel) | decide +kernel

/-- Trust anchors are installed. -/
def anchored0 : State := base0.modUpd 6 (fun u => { u with bankA := { st := .active } })
def greeted (c : Cert) : State := second c .mgmtA anchored0
def crowded : State :=
  vp (fun v => { v with sessions := (List.range 70).map (fun k => { sess .operator with id := BitVec.ofNat 16 (k + 2), assoc := k + 5 }) })
    (greeted (cert2 .operator))

theorem witness_HelloOpensASession :
    (assocOf (greeted (cert2 .operator)) hHello = some { id := 2, port := .mgmtA, cert := cert2 .operator }
      ∧ silentTo helloOp { id := 2, port := .mgmtA, cert := cert2 .operator } (greeted (cert2 .operator)) = false
      ∧ hHello.lengthOk = true ∧ hHello.reservedZero = true ∧ hHello.session = 0 ∧ hHello.unit = 0 ∧ hHello.opcode = 1
      ∧ keptOf (greeted (cert2 .operator)) 9 4 = none ∧ seqStale (greeted (cert2 .operator)) 9 4 = false)
    ∧ certRole base0 { cert2 .operator with uris := [.role .operator, .rack 2] } = none
    ∧ (certRole base0 (cert2 .operator) = some (.operator, 0xFF) ∧ roleServed anchored0 .service .scheduler = false)
    ∧ (roleServed anchored0 .mgmtA .operator = true ∧ negotiate 0 3 1 = none ∧ negotiate 1 3 1 = some (1, 3) ∧ negotiate 3 3 5 = some (2, 1))
    ∧ sessionsFull crowded { id := 2, port := .mgmtA, cert := cert2 .operator } = true
    ∧ sessionsFull (greeted (cert2 .operator)) { id := 2, port := .mgmtA, cert := cert2 .operator } = false := by
  repeat' apply And.intro
  all_goals decide +kernel

def hRead : Hdr := hdr 0 0x10
def hMulti : Hdr := hdr 0 0x13

theorem witness_RegistersRead :
    (Served (opRead hRead 0 1) hRead (sess .operator) base0 ∧ deadlineMissed hRead now0 now0 = false)
    ∧ (Served (opRead hRead 0 0) hRead (sess .operator) base0 ∨ Served (opRead hRead 0 65) hRead (sess .operator) base0)
    ∧ (Served (opReadMulti hMulti) hMulti (sess .operator) base0
      ∧ entryRefusal (touch hMulti 1 base0) (sess .operator) 0 0 = none)
    ∧ (entryRefusal (touch hMulti 1 base0) (sess .operator) 0 0xFF0).isSome = true := by
  refine ⟨⟨served_of (by decide +kernel), by decide +kernel⟩, .inl (served_of (by decide +kernel)), ⟨served_of (by decide +kernel), ?_⟩, ?_⟩
  all_goals decide +kernel

def hSub : Hdr := hdr 0 0x20
def hUns : Hdr := hdr 0 0x21
def sess1 : Session := { sess .operator with subs := [sub1 1 10] }
def subbed : State := vp (fun v => { v with sessions := [sess1] }) base0

theorem witness_Subscriptions :
    (Served (opSubscribe hSub 0 1) hSub (sess .operator) base0 ∧ subRefusal (touch hSub 1 base0) (sess .operator) 0 0 1 10 3 = none
      ∧ deadlineMissed hSub now0 now0 = false)
    ∧ (subRefusal (touch hSub 1 base0) (sess .operator) 0 0 1 10 4 = some (.badParam, 0))
    ∧ (Served (opUnsubscribe hUns) hUns sess1 subbed ∧ (∃ b ∈ sess1.subs, b.id = 1))
    ∧ (∀ b ∈ sess1.subs, b.id ≠ 2)
    ∧ (subbed.vcp.sessions = [sess1] ∧ sess1.subs = [sub1 1 10] ∧ sampleDue subbed (sub1 1 10) = true) := by
  repeat' apply And.intro
  all_goals first | exact served_of (by decide +kernel) | decide +kernel

def hSnap : Hdr := hdr 0 0x70
def hLog : Hdr := hdr 0 0x71
def rec1 (n : Nat) : LogRec := { seq := BitVec.ofNat 32 n, type := 1, length := 40, time := 5, pos := 40 * n, body := .pad }
def after1 : AfterDue := { due := now0, seq := 5, body := { unit := 0, source := 1, action := 2, readings := [(0, 0, 7)] } }
def logged : State :=
  { base0 with log := { base0.log with ring := [rec1 3, rec1 2, rec1 1], nextSeq := 4, used := 120, nextPos := 120, after := [after1],
                                       lastTrace := now0 - Config.sec } }

theorem witness_LogbookReadAndWritten :
    (Served (logOp 0x70 hSnap) hSnap (sess .operator) logged ∧ deadlineMissed hSnap now0 now0 = false)
    ∧ (Served (logOp 0x71 hLog) hLog (sess .operator) logged ∧ (8 : BitVec 16).toNat < 16)
    ∧ ¬ ((8192 : BitVec 16).toNat < 16 ∨ 8192 < (8192 : BitVec 16).toNat ∨ (8192 : BitVec 16).toNat % 8 ≠ 0
        ∨ seqNewer (4 : BitVec 32) (logNewest logged + 1) = true)
    ∧ (logged.log.after = [after1] ∧ isRelief logged = false ∧ after1.due ≤ logged.now ∧ after1.body.readings.length ≤ 8 ∧ logged.log.premanQ = 0)
    ∧ (isKeeper logged = true ∧ logged.plant.mode = .run ∧ logged.log.lastTrace + Config.sec ≤ logged.now) := by
  repeat' apply And.intro
  all_goals first | exact served_of (by decide +kernel) | decide +kernel
/-! ### The pair -/

def pr (f : Pair → Pair) (s : State) : State := { s with pair := f s.pair }
def hand (ready released : Bool) (th : Nat) : Handover :=
  { acceptedAt := now0 - 10000000, th := th, leg := 6, ready := ready, released := released, origin := some orig }
/-- A Keeper whose healthy Relief mirrors, its links up. -/
def kp : State :=
  pr (fun p => { p with health := some (healthOf .reliefMirror 0xFF, now0), flashPairAt := some now0, flashChainAt := some now0,
                        partnerRole := .reliefMirror, wasHealthy := true }) (up4 eng0)
/-- A mirroring Relief whose Keeper is heard. -/
def rel : State :=
  pr (fun p => { p with role := .reliefMirror, lampOwn := false, lampOther := true, stages := false, outputLoaded := true, outputAt := some now0,
                        flashPairAt := some now0, flashChainAt := some now0, idMatch := true }) (up4 eng0)

theorem witness_FlashAndLamp :
    (flashRuns (pr (fun p => { p with lastFlash := now0 - 245 * Config.us }) kp) = true
      ∧ (pr (fun p => { p with lastFlash := now0 - 245 * Config.us }) kp).pair.lastFlash + 245 * Config.us ≤ kp.now)
    ∧ (SlotId.b ≠ kp.pair.slot ∧ SlotId.a = kp.pair.slot)
    ∧ (flashSilent (pr (fun p => { p with flashPairAt := some (now0 - 400000), flashChainAt := none }) kp) (300 * Config.us) = true
      ∧ lastPartnerFlash (pr (fun p => { p with flashPairAt := some (now0 - 400000), flashChainAt := none }) kp) ≠ none ∧ kp.pair.missCounted = false)
    ∧ (now0 - Config.ms + Config.ms ≤ kp.now
      ∧ flashSeen (pr (fun p => { p with flashPairAt := some (now0 - Config.ms) }) kp) (pr (fun p => { p with flashPairAt := some (now0 - Config.ms) }) kp).pair.flashChainAt = true)
    ∧ (isRelief rel = true ∧ rel.pair.lampOther = true ∧ flashSilent (pr (fun p => { p with flashPairAt := some 5, flashChainAt := none }) rel) Config.ms = true)
    ∧ isKeeper kp = true ∧ isKeeper rel = false
    ∧ (kp.pair.lampOwn = true ∧ (pr (fun p => { p with lastFlash := now0 - 500 * Config.us }) kp).pair.lastFlash + 500 * Config.us ≤ kp.now)
    ∧ (armed (pr (fun p => { p with lampOther := false, otherReleasedAt := now0 - 100 * Config.us }) rel) = true
      ∧ now0 - 100 * Config.us + 100 * Config.us ≤ rel.now ∧ rel.pair.role = .reliefMirror)
    ∧ ((pr (fun p => { p with lampOwn := false, handover := some (hand true true now0) }) kp).pair.handover = some (hand true true now0)
      ∧ (hand true true now0).released = true)
    ∧ (isKeeper (pr (fun p => { p with lampOwn := false }) kp) = true ∧ kp.pair.handover = none)
    ∧ kp.pair.slot = .a
    ∧ ((pw (fun p => { p with step := 4, stepAt := now0 - 5 * Config.ms }) kp).power.step = 4 ∧ kp.pair.harnessClosed = true
      ∧ now0 - 5 * Config.ms + 5 * Config.ms ≤ kp.now)
    ∧ (pr (fun p => { p with harnessClosed := false }) kp).pair.harnessClosed = false := by
  repeat' apply And.intro
  all_goals decide +kernel

def hHand : Hdr := hdr 0 0xB1
def engSess : Session := sess .engineer
def hb (s : State) : Nat × Nat := boundaryFrom s (Nat.max 0 (s.now + 2 * Config.ms))
def offered : State := pr (fun p => { p with offer := some (6, now0 + 250 * Config.us, false) }) (sq (fun q => { q with legs := [legRec0 5 false false false 0, legRec0 4 true true false 0] }) rel)
def windowed : State := { pr (fun p => { p with testAsked := some 1 }) rel with valves := [(1, { window := some (now0 - 5) })] }

theorem witness_HandoverAndHealth :
    (Served (opHandover hHand) hHand engSess kp ∧ keeperNow kp = true ∧ flashSilent kp Config.sec = false ∧ kp.pair.handover = none
      ∧ kp.pair.partnerRole = .reliefMirror ∧ kp.seqr.st ≠ .restoring ∧ reliefHealthy kp = true
      ∧ Admits hHand engSess ((hb kp).1 + 250 * Config.us) (touch hHand 1 kp))
    ∧ (Served (opHandover hHand) hHand engSess (pr (fun p => { p with role := .reliefMirror }) kp)
      ∧ keeperNow (pr (fun p => { p with role := .reliefMirror }) kp) = false)
    ∧ (Served (opHandover hHand) hHand engSess (pr (fun p => { p with flashPairAt := none, flashChainAt := none }) kp)
      ∧ flashSilent (pr (fun p => { p with flashPairAt := none, flashChainAt := none }) kp) Config.sec = true)
    ∧ Served (opHandover hHand) hHand engSess (pr (fun p => { p with partnerRole := .reliefResync }) kp)
    ∧ Served (opHandover hHand) hHand engSess (pr (fun p => { p with partnerRole := .reliefCold }) kp)
    ∧ (Served (opHandover hHand) hHand engSess (pr (fun p => { p with health := none }) kp) ∧ reliefHealthy (pr (fun p => { p with health := none }) kp) = false)
    ∧ ((pr (fun p => { p with handover := some (hand false false (now0 + 250 * Config.us)) }) kp).pair.handover = some (hand false false (now0 + 250 * Config.us))
      ∧ kp.now + 250 * Config.us ≤ (hand false false (now0 + 250 * Config.us)).th ∧ (hand false false (now0 + 250 * Config.us)).th ≤ kp.now + 250 * Config.us)
    ∧ (kp.pair.dropLamp = none ∧ (hand true false (now0 - 50 * Config.us)).ready = true ∧ (hand true false (now0 - 50 * Config.us)).released = false
      ∧ (hand true false (now0 - 50 * Config.us)).th + 50 * Config.us ≤ kp.now)
    ∧ (offered.pair.offer = some (6, now0 + 250 * Config.us, false)
      ∧ rel.pair.handover = none ∧ (∀ k ∈ [0, 1, 2, 5], (ownHealth offered).flags.getLsbD k = true) ∧ lastLegsClean offered = true
      ∧ linkTowards offered toPartnerOrd ≠ none)
    ∧ frameOf (now0 - Config.ms) < kp.now / Config.frameNs
    ∧ ((pr (fun p => { p with lastReportAt := now0 - Config.sec }) rel).pair.lastReportAt + Config.sec ≤ rel.now)
    ∧ (reliefHealthy (pr (fun p => { p with health := none }) kp) = false ∧ kp.pair.wasHealthy = true)
    ∧ (windowAllowed ({ kp with cards := [(0, { st := .active, type := 1, hold := false, cardHold := false })] } : State) 0 = true
      ∧ windowAllowed (v0 (fun v => { v with phase := .held }) kp) 0 = false)
    ∧ (stageTestDue (rel.setReg U.sys Off.pairCtrl 1) 0 = true ∧ linkTowards rel toPartnerOrd ≠ none)
    ∧ ((windowed.valve 1).window = some (now0 - 5) ∧ isRelief windowed = true ∧ windowed.pair.testAsked = some 1) := by
  repeat' apply And.intro
  all_goals first | exact served_of (by decide +kernel) | decide +kernel

def ckItem : MirrorItem := .checkpoint 5 77 6 0 8 [4]
def joining : State := sq (fun q => { q with slotA := ckpt0 4 }) (pr (fun p => { p with role := .reliefResync, joinReady := true, partnerLeg := 9 }) rel)
def resyncAt (r : ResyncPhase) : State := pr (fun p => { p with role := .reliefResync, resync := r }) rel

theorem witness_MirrorAndResync :
    (isKeeper kp = true ∧ isRelief rel = true ∧ rel.pair.role = .reliefMirror)
    ∧ keptOf rel 5 4 = none
    ∧ (rel.broker.previews.any (fun p => decide (p.id = 5))) = false
    ∧ (unitClass 0x1000 = 1 ∧ 0x20 < 0x1000)
    ∧ plantItem (.mode .run .off false false true false 0) = true
    ∧ (resyncAt .handshake).pair.role ≠ .reliefMirror
    ∧ (resyncing (resyncAt .handshake) = true ∧ resyncing (resyncAt .bulk) = true ∧ resyncing (resyncAt .delta) = true
      ∧ resyncing (resyncAt .checkpoint) = true ∧ resyncing (resyncAt .join) = true ∧ resyncing (resyncAt .idle) = true)
    ∧ (lastCkpt joining = some (ckpt0 4) ∧ isKeeper joining = false ∧ joining.pair.role = .reliefResync ∧ joining.pair.joinReady = true)
    ∧ ((pr (fun p => { p with joinReady := true }) kp).pair.joinReady = true ∧ kp.pair.joinAt = none ∧ imageOr kp (·.modules) ≤ 1) := by
  repeat' apply And.intro
  all_goals decide +kernel
/-! ### Writes of registers -/

def free (u off : Nat) (v : Word) : Bool := match findReg u off with | some r => decide (v &&& r.reserved = 0) | none => true
theorem free_of {u off : Nat} {v : Word} (w : free u off v = true) : ∀ r, findReg u off = some r → v &&& r.reserved = 0 := by
  intro r h; simpa [free, h] using w
def hW (u : Nat) : Hdr := hdr u 0x11
/-- The write of one register is served and its value sets no reserved bit. -/
def At (u off : Nat) (v : Word) (r : ClientRole) (p : Port) (s : State) : Prop :=
  (hW u).unit.toNat = u ∧ Served (writeOp u off 1) (hW u) (sess r p) s ∧ (∀ q, findReg u off = some q → v &&& q.reserved = 0)
  ∧ deadlineMissed (hW u) (nextFrame s) s.now = false
theorem at_of {u off : Nat} {v : Word} {r : ClientRole} {p : Port} {s : State}
    (w : (decide ((hW u).unit.toNat = u) && servedB (writeOp u off 1) (hW u) (sess r p) s && free u off v
      && !deadlineMissed (hW u) (nextFrame s) s.now) = true) : At u off v r p s := by
  simp only [Bool.and_eq_true, decide_eq_true_eq, Bool.not_eq_true'] at w
  exact ⟨w.1.1.1, served_of w.1.1.2, free_of w.1.2, w.2⟩

def wM : State := duty .maintain .operator
def wC : State := duty .commission .engineer
def modeWrite (v : Word) : Write :=
  { session := sess .operator, origin := originOf (hW 0) (sess .operator), unit := 0, off := Off.sysModeCtrl, value := v }
def hG : Hdr := { hdr 0x7FFF 0x12 with unit := 0x7FFF }
def hEmpty : Hdr := { hdr 0x1FFF 0x12 with unit := 0x1F00 }

theorem witness_RegistersWritten :
    (Served (writeOp U.sys 0 (Nat.min 16 0)) (hW 0) (sess .operator) wM)
    ∧ (Served (writeOp U.sys Off.sysModeCtrl (Nat.min 16 1)) (hW 0) (sess .operator) wM ∧ commandIn U.sys Off.sysModeCtrl 1 = none
      ∧ takesEffect (judgeWrite (modeWrite 0x00640000) (touch (hW 0) 1 wM)) = true
      ∧ refusal (judgeWrite (modeWrite 0x00630000) (touch (hW 0) 1 wM)) = some .badParam)
    ∧ ((findReg (U.vlv 0) Off.vlvEvents).map (·.acc) = some .w1c ∧ (findReg U.sys 0).map (·.acc) = some .ro)
    ∧ (At U.sys Off.sysModeCtrl 0x00640000 .operator .mgmtA wM ∧ fld 0x00640000 31 16 = 100 ∧ fld (0x00630000 : Word) 31 16 < 100
      ∧ 10000 < fld (0x27110000 : Word) 31 16)
    ∧ (Served (opSite (hW 0)) (hW 0) (sess .engineer) wC ∧ commissioning wC = true ∧ siteOk wC (.vfdPumps 3) = true)
    ∧ (Served (opSite (hW 0)) (hW 0) (sess .engineer) (duty .maintain .engineer) ∧ commissioning (duty .maintain .engineer) = false)
    ∧ siteOk wC (.sectors []) = false
    ∧ (Served (opWriteGroup hG (BitVec.ofNat 16 Off.beaconCtrl)) hG (sess .operator) wM ∧ inService wM = true
      ∧ groupMembers (touch hG 1 wM) hG.unit.toNat ≠ [])
    ∧ (Served (opWriteGroup hEmpty 0) hEmpty (sess .operator) wM ∧ groupMembers (touch hEmpty 1 wM) hEmpty.unit.toNat = []) := by
  repeat' apply And.intro
  all_goals first | exact served_of (by decide +kernel) | exact at_of (by decide +kernel) | decide +kernel

def lp (l : Nat) (f : Loop → Loop) (s : State) : State := s.modLoop l f
def pm (p : Nat) (f : Pump → Pump) (s : State) : State := s.modPump p f
def rk (r : Nat) (f : Rack → Rack) (s : State) : State := s.modRack r f
def clear3 : State := rk 3 (fun k => { k with stage := .isolated, leak := none, clearSince := some 5 }) wC
def wEnv : State := { wC with broker := { envelope := 20000 } }
def hRel : Hdr := hW U.cap

theorem witness_PlantRegistersWritten :
    At U.sys Off.hwPanel 1 .operator .mgmtA wM
    ∧ (At (U.loop 2) Off.loopOut 500 .operator .mgmtA wM ∧ inService wM = true ∧ outOk wM 2 (fld 500 15 0) = true ∧ (wM.loop 2).holders = [])
    ∧ (At (U.loop 1) Off.loopOut 300 .operator .mgmtA (lp 1 (fun l => { l with holders := [.dpHigh] }) wM)
      ∧ outOk (lp 1 (fun l => { l with holders := [.dpHigh] }) wM) 1 (fld 300 15 0) = true)
    ∧ (At (U.ao 15) Off.aoOut 10000 .operator .mgmtA (wM.setReg (U.ao 15) Off.aoCfg 0x800)
      ∧ 3 < (wM.setReg (U.ao 15) Off.aoCfg 0x800).fldOf (U.ao 15) Off.aoCfg 15 8 ∧ (wM.setReg (U.ao 15) Off.aoCfg 0x300).fldOf (U.ao 15) Off.aoCfg 15 8 ≤ 3)
    ∧ (At (U.beacon 15) Off.beaconCtrl 1 .operator .mgmtA wM ∧ At (U.beacon 15) Off.beaconCtrl 1 .operator .mgmtA base0 ∧ inService base0 = false)
    ∧ (At (U.loop 4) Off.loopPumpRestore 2 .operator .mgmtA (pm 2 (fun k => { k with vfd := true, tripped := true, vfdStatusAt := some now0 }) wM)
      ∧ pumpPath (pm 2 (fun k => { k with vfd := true, tripped := true, vfdStatusAt := some now0 }) wM) 2 = true
      ∧ pathFaulted (pm 2 (fun k => { k with vfd := true, tripped := true, vfdStatusAt := some now0 }) wM) 2 = false
      ∧ pathFaulted (pm 2 (fun k => { k with vfd := true, tripped := true }) wM) 2 = true)
    ∧ At U.cap Off.leakRelease 3 .engineer .mgmtA clear3
    ∧ (ServedLate (writeOp U.cap Off.leakRelease 1) hRel (sess .engineer) { pl (fun p => { p with releaseAsks := [(hRel, 3)] }) clear3 with plant.releaseAsks := [] }
      ∧ leakReleasable (pl (fun p => { p with releaseAsks := [(hRel, 3)] }) clear3) 3 = true ∧ leakReleasable wC 3 = false)
    ∧ (At U.cap (Off.capRackCfg + 0x20 * 15) 0x271003E8 .engineer .mgmtA wEnv ∧ commissioning wEnv = true ∧ rackCfgOk wEnv 15 0x271003E8 = true)
    ∧ (At (U.sns 63) Off.snsCal 0x003C0001 .operator .mgmtA (wM.setReg (U.sns 63) Off.snsCfg 0x20000001) ∧ bitOf 0x003C0001 0 = true
      ∧ 60 ≤ fld 0x003C0001 31 16 ∧ between 1 8 (snsType (wM.setReg (U.sns 63) Off.snsCfg 0x20000001) 63) = true ∧ (wM.sense 63).calQueued = none)
    ∧ (At (U.vlv 47) Off.vlvEvents 0x100 .operator .mgmtA wM ∧ bitOf 0x100 8 = true)
    ∧ (At (U.mot 31) Off.motEvents 0x80 .operator .mgmtA (wM.modMotor 31 (fun m => { m with st := .faulted }))
      ∧ bitOf 0x80 7 = true ∧ bitOf 0x80 6 = false ∧ ((wM.modMotor 31 (fun m => { m with st := .faulted })).motor 31).st = .faulted)
    ∧ (At (U.mot 31) Off.motEvents 0x40 .operator .mgmtA wM ∧ bitOf 0x40 6 = true ∧ bitOf 0x40 7 = false) := by
  repeat' apply And.intro
  all_goals first | exact at_of (by decide +kernel) | exact served_of (by decide +kernel) | exact servedLate_of (by decide +kernel) | decide +kernel

def mE : State := duty .maintain .engineer
def die3 (s : State) : State := s.modDie 15 (fun d => { d with st := 3 })
def lnk (f : Link → Link) (s : State) : State := s.modLink 31 f
def upLink (s : State) : State := lnk (fun k => { k with st := .up }) (s.setReg (U.link 31) Off.linkCtrl 1)
def needed (s : State) : State := { upLink s with hall := { refLink := some 31 } }

theorem witness_ModuleRegistersWritten :
    (At (U.die 15) Off.dieCtrl 1 .engineer .mgmtA mE ∧ mE.plant.mode = .maintain)
    ∧ (At (U.die 15) Off.dieCtrl 1 .engineer .mgmtA wC ∧ wC.plant.mode ≠ .maintain)
    ∧ (At (U.die 15) Off.dieCtrl 2 .engineer .mgmtA (die3 mE) ∧ ((die3 mE).die 15).st = 3 ∧ (mE.die 15).st ≠ 3)
    ∧ (At (U.die 24) Off.dieCtrl 1 .engineer .mgmtA mE ∧ At (U.die 16) Off.dieCtrl 2 .engineer .mgmtA mE)
    ∧ (At U.sys Off.pairCtrl 0x003C0004 .engineer .mgmtA (pr (fun p => { p with joinReady := true }) mE) ∧ fld 0x003C0004 31 16 = 60 ∧ bitOf 0x003C0004 2 = true
      ∧ isKeeper mE = true ∧ imageOr mE (·.modules) ≤ 1 ∧ mE.pair.joinReady = false)
    ∧ (At U.sys Off.pairCtrl 0x003C0004 .engineer .mgmtA (sq (fun q => { q with image := some (image0 2) }) (pr (fun p => { p with joinReady := true }) mE))
      ∧ 1 < imageOr (sq (fun q => { q with image := some (image0 2) }) (pr (fun p => { p with joinReady := true }) mE)) (·.modules))
    ∧ (At (U.link 31) Off.linkCtrl 3 .engineer .mgmtA (upLink mE) ∧ (upLink mE).bitAt (U.link 31) Off.linkCtrl 0 = true
      ∧ linkAlive (upLink mE) 31 = true ∧ linkNeeded (upLink mE) 31 = false ∧ linkNeeded (needed mE) 31 = true
      ∧ At (U.link 31) Off.linkCtrl 0 .engineer .mgmtA (upLink mE) ∧ At (U.link 31) Off.linkCtrl 0 .engineer .mgmtA (needed mE))
    ∧ (At (U.bl 5) Off.blRecover 1 .engineer .mgmtA ({ mE with buses := [(5, { st := .busOff })] }) ∧ bitOf 1 0 = true)
    ∧ (At (U.aux 15) Off.auxCfg 1 .engineer .mgmtA mE ∧ (mE.aux 15).switching = none ∧ auxOffers 15 (fld 1 3 0) = true ∧ fld 1 3 0 ≠ (mE.aux 15).func
      ∧ auxOffers 15 (fld 3 3 0) = false)
    ∧ (At (U.aux 0) Off.auxCfg (wd (2 + 16 * b2n true)) .engineer .mgmtA (mE.modAux 0 (fun a => { a with func := 2 }))
      ∧ ((mE.modAux 0 (fun a => { a with func := 2 })).aux 0).outLevel = !true)
    ∧ (At U.hub Off.intCtrl 0x00010604 .engineer .mgmtA mE ∧ bitOf 0x00010604 2 = true ∧ bitOf 0x00010604 0 = mE.bitAt U.hub Off.intCtrl 0
      ∧ fld 0x00010604 23 16 = 1 ∧ fld 0x00010604 15 8 = 6)
    ∧ (At U.hub Off.intCtrl 0x00010600 .engineer .mgmtA wC ∧ bitOf 0x00010600 2 = false ∧ wC.plant.mode ≠ .maintain)
    ∧ (At U.sys Off.vcpCtrl 0x00050000 .engineer .mgmtA mE ∧ (sess .engineer).port ≠ .service ∧ fld 0x00050000 31 16 = 5 ∧ mE.bitAt U.sys Off.vcpCtrl 0 = true)
    ∧ At U.sys Off.vcpCtrl 0x00050000 .engineer .service (duty .maintain .engineer .service) := by
  repeat' apply And.intro
  all_goals first | exact at_of (by decide +kernel) | exact served_of (by decide +kernel) | decide +kernel
/-! ### Chain links and the hall -/

def lk1 (f : Link → Link) (s : State) : State := s.modLink 5 f
def linkIn (st : LinkSt) (ago : Nat) : State :=
  lk1 (fun k => { k with st := st, since := now0 - ago, peerLink := 6, peerSlot := .a, peerLocked := true, peerDepth := 2 })
    (eng0.setReg (U.link 5) Off.linkCtrl 1)
def hl (f : Hall → Hall) (s : State) : State := { s with hall := f s.hall }
/-- Ordinal 1 of a hall of two. -/
def hallImage : Image := { image0 2 with hall := [⟨0, 5, 1, 6, 60, 3⟩, ⟨0, 7, 1, 8, 60, 4⟩] }
def off1 (s : State) : State :=
  hl (fun h => { h with running := true, refLink := some 5, counted := true, locked := true }) (sq (fun q => { q with image := some hallImage }) (s.setReg U.sys Off.hallCfg 1))
def rootHall (s : State) : State := hl (fun h => { h with running := true }) (sq (fun q => { q with image := some hallImage }) (s.setReg U.sys Off.hallCfg 0))

theorem witness_LinksTrain :
    (((linkIn .down 0).link 5).st = .down ∧ (linkIn .down 0).bitAt (U.link 5) Off.linkCtrl 0 = true)
    ∧ (((linkIn .training (200 * Config.ms)).link 5).st = .training
      ∧ (linkIn .training 0).now ≤ ((linkIn .training (200 * Config.ms)).link 5).since + 200 * Config.ms)
    ∧ (((linkIn .training (200 * Config.ms + 1)).link 5).since + 200 * Config.ms < now0)
    ∧ ((linkIn .aligning (400 * Config.ms + 1)).link 5).since + 400 * Config.ms < now0
    ∧ (((linkIn .backoff Config.sec).link 5).st = .backoff ∧ ((linkIn .backoff Config.sec).link 5).since + Config.sec ≤ now0
      ∧ cableBad ((linkIn .backoff Config.sec).link 5) = false)
    ∧ (((linkIn .aligning 5).link 5).st = .aligning ∧ bothLocked (hl (fun h => { h with locked := true }) (linkIn .aligning 5)) 5 = true)
    ∧ ((kp.modLink 1 (fun k => { k with mismatch := false })).link 1).mismatch = false
    ∧ (isRoot (off1 (linkIn .up 5)) = false ∧ mayAlignOn (off1 (linkIn .up 5)) 5 = true)
    ∧ (isRoot (off1 eng0) = false ∧ chooseRef (off1 eng0) = none ∧ now0 - 10 * Config.ms + 10 * Config.ms ≤ (off1 eng0).now) := by
  repeat' apply And.intro
  all_goals decide +kernel

def badBlock : LinkBlockIn :=
  { crcOk := false, decoded := false, corrected := 2, hallCount := 3 * now0, echoCount := 3 * now0 - 100, echoAge := 0, poison := false, peerOrd := 0,
    peerLink := 6, peerSlot := .a, peerDepth := 2, peerLocked := true, routeSet := 0, forwarded := false, credits := 4, scheduled := true,
    service := .idle }
def ackMsg : ServiceMsg := { type := 0x10, reliable := true, seq := 1, ackSeq := 3, srcOrd := 0, dstOrd := 0, msgId := 5, payload := [] }
def sentMsg (n : Nat) : Unacked := { type := 0x10, seq := 3, msgId := 9, dst := 1, payload := [4], sentAt := now0 - 20 * Config.us, resends := n }

theorem witness_LinkTraffic :
    (linkAlive (linkIn .up 5) 5 = true ∧ LinkCause.badBurst ≠ .noSignal ∧ LinkCause.badBurst ≠ .retrain)
    ∧ ((linkIn .up 5).link 5).st = .up
    ∧ (∃ z ∈ ((lk1 (fun k => { k with lateTimes := [now0 - Config.sec] }) (linkIn .up 5)).link 5).lateTimes, now0 ≤ z + Config.sec)
    ∧ (∀ z ∈ ((lk1 (fun k => { k with lateTimes := [now0 - Config.sec - 1] }) (linkIn .up 5)).link 5).lateTimes, z + Config.sec < now0)
    ∧ (badBlock.crcOk = false
      ∧ (((lk1 (fun k => { k with badTimes := List.replicate 6 now0 }) (linkIn .up 5)).link 5).badTimes.filter (fun z => decide (now0 ≤ z + Config.ms))).length < 7
      ∧ 7 ≤ (((lk1 (fun k => { k with badTimes := List.replicate 7 (now0 - Config.ms) }) (linkIn .up 5)).link 5).badTimes.filter
          (fun z => decide (now0 ≤ z + Config.ms))).length)
    ∧ (({ badBlock with crcOk := true, decoded := true } : LinkBlockIn).crcOk = true ∧ (off1 (linkIn .up 5)).hall.counted = true
      ∧ (off1 (linkIn .up 5)).hall.refLink = some 5)
    ∧ messageOf (messageBytes ackMsg) = some ackMsg
    ∧ (isPartnerLink kp 1 = true ∧ isPartnerLink kp 5 = false)
    ∧ linkAlive (linkIn .down 5) 5 = false
    ∧ (((lk1 (fun k => { k with unacked := [sentMsg 7] }) (linkIn .up 5)).link 5).unacked = [sentMsg 7] ∧ (sentMsg 7).sentAt + 20 * Config.us ≤ now0
      ∧ (sentMsg 7).resends < 8 ∧ 8 ≤ (sentMsg 8).resends)
    ∧ ((lk1 (fun k => { k with ackDue := some now0 }) (linkIn .up 5)).link 5).ackDue = some now0
    ∧ (lowestPartner (kp.setReg U.sys Off.hallCfg 0x101) = some 0 ∧ (kp.setReg U.sys Off.hallCfg 0x101).bitAt U.sys Off.hallCfg 8 = true) := by
  repeat' apply And.intro
  all_goals decide +kernel

def bulk0 (op opn : Bool) : Bulk := { ord := 2, session := 3, bytes := 64, opener := op, open_ := opn }
def upHall : State := rootHall (lk1 (fun k => { k with st := .up, peerOrd := 1, peerLink := 6, upSince := now0 - 10 * Config.sec }) eng0)

theorem witness_HallAndBulk :
    (isRoot (off1 eng0) = false ∧ isRoot (rootHall eng0) = true)
    ∧ ((rootHall eng0).seqr.image = some hallImage ∧ (rootHall eng0).hall.running = true
      ∧ (hallImage.hall.any (fun h => h.routeSets.getLsbD 0 && reportedDown { rootHall eng0 with hall := { downLinks := [(0, 5)] } } h)) = true)
    ∧ (routeHolds (rootHall eng0) hallImage 0 = true ∧ routeHolds (hl (fun h => { h with downLinks := [(0, 5), (0, 7)] }) (rootHall eng0)) hallImage 0 = false)
    ∧ lastCkpt (sq (fun q => { q with slotA := ckpt0 3 }) (rootHall eng0)) = some (ckpt0 3)
    ∧ (0 < (sq (fun q => { q with routeSet := 2 }) upHall).seqr.routeSet ∧ routeHolds upHall hallImage 0 = true ∧ upHall.seqr.hallRoute = none
      ∧ ∀ e ∈ ownHallLinks upHall hallImage, e.sets.getLsbD 0 = true → hallLinkUp upHall e = true ∧ (upHall.link e.link).upSince + 10 * Config.sec ≤ upHall.now)
    ∧ (∃ b ∈ (hl (fun h => { h with bulks := [bulk0 true true] }) eng0).hall.bulks, b.open_ = true)
    ∧ (lowerThan (eng0.setReg U.sys Off.hallCfg 1) 2 = true ∧ linkTowards kp 0 ≠ none)
    ∧ (cps (fun c => { c with ring0 := [{ desc := copyOf 1 1, ring := 0, running := true }] }) eng0).copies.ring0
        = [{ desc := copyOf 1 1, ring := 0, running := true }]
    ∧ (eng0.copies.ring0 = [] ∧ eng0.copies.ring1 = [] ∧ eng0.copies.ring2 = []) := by
  repeat' apply And.intro
  all_goals decide +kernel

/-! ### Buoyline -/

def bs (f : Bus → Bus) (s : State) : State := s.modBus 4 f
def flt (k a b i1 i2 : Nat) : FilterEntry := { kind := k, xtd := false, action := a, buffer := b, id1 := i1, id2 := i2, reservedZero := true }
def can (id : Nat) (fd : Bool := false) : CanFrame := { xtd := false, rtr := false, id := id, fdf := fd, brs := fd, esi := false, dlc := 8, data := [] }
def busOn : State :=
  bs (fun b => { b with st := .errorActive, offSince := none, bank0 := [flt 1 0 3 0x100 0x10F, flt 1 3 60 0x400 0x403], count := 2 }) base0
def kept1 : CanRec := { frame := can 5, time := 5, entry := 2 }

theorem witness_CanReception :
    (busActive (base0.bus 4) = false ∧ busActive (busOn.bus 4) = true ∧ busOn.pair.stages = true
      ∧ (pr (fun p => { p with stages := false }) busOn).pair.stages = false)
    ∧ ((can 0x105).fdf = false ∧ (busOn.setReg (U.bl 4) Off.blCtrl 2).bitAt (U.bl 4) Off.blCtrl 1 = true)
    ∧ (frameLogged busOn 4 (can 0x105) now0 = true ∨ frameLogged busOn 4 (can 0x105) now0 = false)
    ∧ (frameBuffer busOn 4 (can 0x7FE) now0 = none ∧ (frameBuffer busOn 4 (can 0x10F) now0).map (·.1) = some 3
      ∧ (frameBuffer busOn 4 (can 0x403) now0).isSome = true)
    ∧ (rxLocked busOn 4 3 = false ∧ rxLocked (busOn.setReg (U.bl 4) (lockOff 3) 8) 4 3 = true)
    ∧ ((can 0x105 true).fdf = true ∧ (busOn.setReg (U.bl 4) Off.blCtrl 0).bitAt (U.bl 4) Off.blCtrl 1 = false)
    ∧ mget none ((bs (fun b => { b with shadow := [(63, some kept1)] }) busOn).bus 4).shadow 63 = some kept1
    ∧ (true ≠ (busOn.bus 4).bank ∧ now0 < now0 + 5) := by
  repeat' apply And.intro
  all_goals first | decide +kernel | exact .inl (by decide +kernel) | exact .inr (by decide +kernel)

def sending : State := bs (fun b => { b with onBus := some 31, pend := 0x80000001, tec := 247 }) busOn

theorem witness_CanTransmission :
    (sending.bus 4).onBus = some 31
    ∧ (busDrives busOn 4 = true ∧ (busOn.bus 4).onBus = none)
    ∧ ((sending.bus 4).cancelled.getLsbD 31 = false ∧ (sending.bus 4).tec + 8 ≤ 255
      ∧ ((bs (fun b => { b with cancelled := 0x80000000 }) sending).bus 4).cancelled.getLsbD 31 = true)
    ∧ TxFailure.noAck ≠ .arbitrationLost
    ∧ busActive (busOn.bus 4) = true
    ∧ (((bs (fun b => { b with st := .busOff, offSince := some (now0 - 500 * Config.ms), recovering := true }) busOn).bus 4).offSince = some (now0 - 500 * Config.ms)
      ∧ busActive ((bs (fun b => { b with st := .busOff, offSince := some (now0 - 500 * Config.ms), recovering := true }) busOn).bus 4) = false)
    ∧ ((bs (fun b => { b with st := .busOff, recovering := true }) busOn).bus 4).recovering = true := by
  repeat' apply And.intro
  all_goals decide +kernel
/-! ### Firmware and update -/

def man1 (k len : Nat) : Manifest :=
  { wellFormed := true, kind := BitVec.ofNat 8 (k + 1), securityFlag := true, imageLen := len, version := 2, securityVer := 3, mirrorCompat := 77,
    minPreman := 0, digest := 5, ownerEpoch := some 1 }
def held1 (st : BankSt) (k len : Nat) : Bank := { st := st, man := some (man1 k len) }
/-- Update unit k of an ENGINEER's state, the Preman image in force known. -/
def upW (k : Nat) (f : Upd → Upd) (s : State) : State := (s.modUpd 0 (fun u => { u with bankA := held1 .active 0 100 })).modUpd k f
def hU (k op : Nat) : Hdr := hdr (U.upd k) op
def downing (len : Nat) (f : Upd → Upd) : State := upW 1 (fun u => f { u with bankB := held1 .downloading 1 len }) mE
def pieceDue (s : State) (chunk piece len : Nat) : Prop :=
  chunk = nextChunkWord (s.upd 1) ∧ piece = (s.upd 1).nextPiece ∧ len = pieceLen (chunkBytes (man1 1 len) (s.upd 1).table) (s.upd 1).nextChunk piece
def verifying1 : State := upW 1 (fun u => { u with bankB := held1 .verifying 1 100, verify := some (now0 - 5, now0, orig) }) mE

theorem witness_UpdateDownloads :
    (Served (updOp 0x80 (hU 1 0x80) true) (hU 1 0x80) engSess mE ∧ (man1 1 100).kind.toNat = 1 + 1 ∧ (man1 1 100).imageLen ≤ largestImage 1
      ∧ (man1 1 100).securityVer ≤ 255 ∧ otherDownloads mE engSess 1 = false ∧ (activeBank (mE.upd 1)).st ≠ .trial)
    ∧ (Served (updOp 0x80 (hU 1 0x80) true) (hU 1 0x80) engSess (downing 100 id) ∧ (otherBank ((downing 100 id).upd 1)).man = some (man1 1 100)
      ∧ (otherBank ((downing 100 id).upd 1)).st = .downloading)
    ∧ (largestImage 0 < 2 ^ 18 + 1)
    ∧ otherDownloads (vp (fun v => { v with sessions := v.sessions ++ [{ engSess with id := 2 }] }) (upW 1 (fun u => { u with owner := 2 }) mE)) engSess 1 = true
    ∧ (activeBank ((upW 1 (fun u => { u with bankA := { st := .trial } }) mE).upd 1)).st = .trial
    ∧ (Served (updOp 0x81 (hU 1 0x81) true) (hU 1 0x81) engSess (downing 100 id)
      ∧ nextChunkWord ((downing 100 id).upd 1) = 0 ∧ pieceLen (chunkBytes (man1 1 100) false) 0 0 = 100
      ∧ lastPiece (chunkBytes (man1 1 100) false) 0 0 = true ∧ lastChunk (chunkBytes (man1 1 100) false) 0 = true)
    ∧ (lastPiece (chunkBytes (man1 1 9000) false) 0 0 = false ∧ pieceLen (chunkBytes (man1 1 9000) false) 0 1 = 808)
    ∧ (lastChunk (chunkBytes (man1 1 65537) false) 0 = false ∧ lastChunk (chunkBytes (man1 1 100) true) 0 = true)
    ∧ (Served (updOp 0x82 (hU 1 0x82) true) (hU 1 0x82) engSess (upW 1 (fun u => { u with bankB := held1 .unverified 1 100 }) mE)
      ∧ Admits (hU 1 0x82) engSess (verifyEnd (upW 1 (fun u => { u with bankB := held1 .unverified 1 100 }) mE) (man1 1 100))
          (touch (hU 1 0x82) 1 (upW 1 (fun u => { u with bankB := held1 .unverified 1 100 }) mE)))
    ∧ ((verifying1.upd 1).verify = some (now0 - 5, now0, orig) ∧ (otherBank (verifying1.upd 1)).man = some (man1 1 100)
      ∧ belowCounter verifying1 1 (man1 1 100) = false ∧ (man1 1 100).minPreman.toNat ≤ premanVersion verifying1 ∧ signsKind 1 .application = true)
    ∧ belowCounter { verifying1 with fw := { verifying1.fw with counters := [(1, 4)] } } 1 (man1 1 100) = true
    ∧ signsKind 1 .firmware = false := by
  repeat' apply And.intro
  all_goals first | exact served_of (by decide +kernel) | decide +kernel

def ready (k : Nat) : State := upW k (fun u => { u with bankA := held1 .active k 100, bankB := held1 .verified k 100 }) mE
def onTrial (k n b : Nat) : State :=
  upW k (fun u => { u with bankA := held1 .trial k 100, bankB := held1 .verified k 100, trial := true, healthy := n, bootsLeft := b, lastMinute := now0 - 60 * Config.sec }) mE
def aborting1 (s : State) : State := { s with fw := { s.fw with aborts := [hU 1 0x85] } }

theorem witness_UpdatesInForce :
    ([0, 1, 2, 3, 4, 5, 6].all (fun k => servedB (updOp 0x83 (hU k 0x83) true) (hU k 0x83) engSess (ready k) && mayActivate (ready k) k
      && !reliefHealthy (ready k) && decide ((ready k).plant.mode = .maintain) && !kindLeakHeld (ready k) k
      && !deadlineMissed (hU k 0x83) (activateEnd (ready k) k (otherBank ((ready k).upd k))) now0 && !queueFull (touch (hU k 0x83) 1 (ready k)) 1)) = true
    ∧ (Served (updOp 0x83 (hU 1 0x83) true) (hU 1 0x83) engSess mE ∧ mayActivate mE 1 = false)
    ∧ (reliefHealthy (upW 1 (fun u => { u with bankA := held1 .active 1 100, bankB := held1 .verified 1 100 }) kp) = true)
    ∧ ((duty .run .engineer).plant.mode ≠ .maintain)
    ∧ (Served (updOp 0x84 (hU 1 0x84) false) (hU 1 0x84) engSess (onTrial 1 30 2) ∧ mayConfirm (onTrial 1 30 2) 1 = true ∧ mayConfirm (onTrial 1 29 2) 1 = false)
    ∧ Served (updOp 0x85 (hU 1 0x85) false) (hU 1 0x85) engSess mE
    ∧ (ServedLate (updOp 0x85 (hU 1 0x85) false) (hU 1 0x85) engSess { aborting1 verifying1 with fw.aborts := [] }
      ∧ stageJustDone 2000000 (verifying1.upd 1) = none ∧ (verifying1.upd 1).trial = false ∧ (otherBank (verifying1.upd 1)).st = .verifying)
    ∧ ((onTrial 1 3 2).upd 1).trial = true
    ∧ Admits (hU 1 0x85) engSess (activateEnd (onTrial 1 3 2) 1 (otherBank ((onTrial 1 3 2).upd 1))) (onTrial 1 3 2)
    ∧ ((otherBank (mE.upd 1)).st = .empty)
    ∧ stageJustDone 2000000 ((upW 1 (fun u => { u with stageDone := some (2000000, 3) }) mE).upd 1) = some 3 := by
  refine ⟨?_, ?_⟩
  · decide +kernel
  repeat' apply And.intro
  all_goals first | exact served_of (by decide +kernel) | exact servedLate_of (by decide +kernel) | decide +kernel

def silent (f : Firmware → Firmware) (s : State) : State := { s with fw := f { s.fw with lastBeat := now0 - 50 * Config.ms } }

theorem witness_TrialsAndDeck :
    (((onTrial 6 29 1).upd 6).trial = true ∧ 0 < ((onTrial 6 29 1).upd 6).bootsLeft)
    ∧ (((onTrial 6 29 0).upd 6).trial = true ∧ ((onTrial 6 29 0).upd 6).bootsLeft = 0)
    ∧ (mE.upd 6).trial = false
    ∧ (kindRuns (onTrial 6 29 1) 6 = true ∧ ((onTrial 6 29 1).upd 6).lastMinute + 60 * Config.sec ≤ now0
      ∧ ((onTrial 6 29 1).setReg (U.upd 6) Off.updCtrl 1).bitAt (U.upd 6) Off.updCtrl 0 = true ∧ 30 ≤ ((onTrial 6 29 1).upd 6).healthy + 1)
    ∧ (((onTrial 6 29 1).setReg (U.upd 6) Off.updCtrl 0).bitAt (U.upd 6) Off.updCtrl 0 = false)
    ∧ mE.fw.deckUp = true
    ∧ ((silent (fun w => { w with restartAt := some now0, deckUp := false }) mE).fw.restartAt = some now0
      ∧ (silent (fun w => { w with restartAt := some now0, deckUp := false }) mE).fw.deckStopped = false ∧ mE.power.llState ≠ 2)
    ∧ ((silent id mE).fw.deckUp = true ∧ 2 ≤ mE.power.step ∧ (silent id mE).fw.lastBeat + 50 * Config.ms ≤ mE.now ∧ (mE.upd 1).trial = false)
    ∧ 3 ≤ (((silent (fun w => { w with restarts := [now0, now0, now0 - 5] }) mE).fw.restarts).filter (fun z => decide (now0 < z + Config.hour))).length
    ∧ (mayActivate (ready 6) 6 = true ∧ isKeeper (pr (fun p => { p with role := .reliefMirror }) (ready 6)) = false
      ∧ Served (updOp 0x83 (hU 6 0x83) true) (hU 6 0x83) engSess (pr (fun p => { p with role := .reliefMirror }) (ready 6))
      ∧ Admits (hU 6 0x83) engSess (activateEnd (ready 6) 6 (otherBank ((ready 6).upd 6))) (touch (hU 6 0x83) 1 (ready 6))) := by
  repeat' apply And.intro
  all_goals first | exact served_of (by decide +kernel) | decide +kernel

/-! ### The whole block -/

theorem witness_StepRunsTheFrontCommand : State.reset.pending = [] := by decide +kernel
theorem witness_EveryCommandCompletes : ({ State.reset with pending := [.inventory] } : State).pending = [.inventory] := by decide +kernel
theorem flash_idle : exec .flashEmit State.reset = .next State.reset := rfl
theorem witness_LegalDataIsolated : ofBmu .flashEmit = false ∧ exec .flashEmit State.reset = .next State.reset := ⟨rfl, flash_idle⟩
theorem witness_CountersNeverFall :
    exec .flashEmit State.reset = .next State.reset ∧ (∀ k < 7, (activeBank (State.reset.upd k)).st = .active → (activeBank (State.reset.upd k)).man = none)
    ∧ (∀ k < 7, (State.reset.upd k).trial = false) :=
  ⟨flash_idle, by decide +kernel, by decide +kernel⟩
def elem1 (n : Nat) : ElemWork := { unit := cl 0 0 0, acc := 0, parts := List.replicate n (.bf16 0x3F80 0x4000), contribs := [] }
theorem witness_ReductionOrder : (elem1 2).parts.length + (elem1 2).contribs.length ≤ 4294967295 := by decide +kernel

/-! ### The benchmark unit -/

def bm (f : Bmu → Bmu) (s : State) : State := { s with bmu := f s.bmu }
def soundB (b : Bmu) : Bool := (List.range 17).all (fun i => copyGood (legalOf b i).1 && copyGood (legalOf b i).2)
theorem sound_of {b : Bmu} (w : soundB b = true) : ∀ i, i < 17 → copyGood (legalOf b i).1 = true ∧ copyGood (legalOf b i).2 = true := by
  intro i h; simpa using List.all_eq_true.1 w i (List.mem_range.2 h)
/-- The copies of register 3, sound or not. -/
def copies3 (a b : Bool) : State :=
  bm (fun b' => { b' with legal := [(3, (if a then {} else { words := [5], crc := 0 }, if b then {} else { words := [5], crc := 0 }))] }) base0
/-- 1 March 2000, 0:00 h, on the BMU-1's clock. -/
def dayOne : State := bm (fun b => { b with clock := 951868800, clockAt := now0 }) base0

theorem witness_LegalRegisters :
    (∀ i, i < 17 → copyGood (legalOf base0.bmu i).1 = true ∧ copyGood (legalOf base0.bmu i).2 = true)
    ∧ (base0.bmu.recordFault = false ∧ base0.bmu.paramFault = false)
    ∧ (bm (fun b => { b with paramFault := true }) base0).bmu.paramFault = true
    ∧ (setDayDue dayOne = true ∧ setDayDue base0 = false)
    ∧ (copyGood (legalOf (copies3 true false).bmu 3).1 = true ∧ copyGood (legalOf (copies3 true false).bmu 3).2 = false)
    ∧ (copyGood (legalOf (copies3 false true).bmu 3).1 = false ∧ copyGood (legalOf (copies3 false true).bmu 3).2 = true)
    ∧ (copyGood (legalOf (copies3 false false).bmu 3).1 = false ∧ copyGood (legalOf (copies3 false false).bmu 3).2 = false) := by
  repeat' apply And.intro
  all_goals first | exact sound_of (by decide +kernel) | decide +kernel

def shown0 (p : Nat) : State := bm (fun b => { b with displayOn := true, page := p, pressedAt := now0 - 30 * Config.sec, sentAt := some (now0 - Config.sec) }) base0
/-- A frame of the link, its values 0. -/
def goodFrame : List Nat := frameBytes ([0x42, 0x55] ++ List.replicate 38 0 ++ [1, 0] ++ List.replicate 12 0)

theorem witness_CoverDisplayAndLink :
    ((∀ i, i < 17 → copyGood (legalOf base0.bmu i).1 = true ∧ copyGood (legalOf base0.bmu i).2 = true) ∧ base0.bmu.coverOpen = false)
    ∧ (bm (fun b => { b with coverOpen := true }) base0).bmu.coverOpen = true
    ∧ ((bm (fun b => { b with displayOn := false }) base0).bmu.displayOn = false)
    ∧ ((shown0 4).bmu.displayOn = true ∧ errorHolds (bm (fun b => { b with dtLow := true }) (shown0 4)).bmu = true
      ∧ legalWord (shown0 1).bmu 0 0 < 100000000 ∧ legalWord (shown0 1).bmu 1 0 < 100000000)
    ∧ (shown0 1).bmu.pressedAt + 30 * Config.sec ≤ (shown0 1).now
    ∧ ((bm (fun b => { b with aux := true }) (shown0 1)).bmu.aux = true
      ∧ (∀ z, (shown0 1).bmu.sentAt = some z → z + Config.sec ≤ (shown0 1).now) ∧ (shown0 1).bmu.monthRot < 12)
    ∧ (bm (fun b => { b with aux := false }) base0).bmu.aux = false
    ∧ (State.reset.power.step < 2 ∧ 2 ≤ base0.power.step ∧ frameGood [] = false ∧ frameGood goodFrame = true ∧ 1 ≤ leAt goodFrame 40 1
      ∧ leAt goodFrame 40 1 ≤ 12)
    ∧ (({ base0 with mirror := { base0.mirror with present := true, rxAt := now0 - 3 * Config.sec } } : State).mirror.present = true
      ∧ ({ base0 with mirror := { base0.mirror with present := true, rxAt := now0 - 3 * Config.sec } } : State).mirror.rxAt + 3 * Config.sec ≤ base0.now) := by
  repeat' apply And.intro
  all_goals first
    | exact sound_of (by decide +kernel)
    | exact fun z h => by cases h; decide +kernel
    | decide +kernel

def inSession : State := bm (fun b => { b with session := some (now0 - 60 * Config.sec + 1), coverOpen := true, nonce := some 5 }) base0
def sealed : State := bm (fun b => { b with slot0 := { b.slot0 with crc := paramCrc b.slot0 } }) base0
def unsealed : State := bm (fun b => { b with slot0 := { b.slot0 with crc := paramCrc b.slot0 + 1 } }) base0
def jw (k : Nat) (c : Option (Fin 5)) (cl : Bool) : JournalWrite := { kind := BitVec.ofNat 8 k, w0 := 5, w1 := 7, cmacOk := true, collapse := c, closes := cl }

theorem witness_SurveyPort :
    (∀ i, i < 17 → copyGood (legalOf base0.bmu i).1 = true ∧ copyGood (legalOf base0.bmu i).2 = true)
    ∧ (inSession.bmu.nonce ≠ none ∧ base0.bmu.nonce = none)
    ∧ ((bm (fun b => { b with session := some (now0 - 60 * Config.sec) }) base0).bmu.session = some (now0 - 60 * Config.sec)
      ∧ now0 - 60 * Config.sec + 60 * Config.sec ≤ base0.now)
    ∧ (paramCrc (activeParams sealed.bmu) = (activeParams sealed.bmu).crc ∧ paramCrc (activeParams unsealed.bmu) ≠ (activeParams unsealed.bmu).crc)
    ∧ (bm (fun b => { b with paramFault := true }) base0).bmu.paramFault = true
    ∧ (surveyOpen inSession = true ∧ inSession.bmu.coverOpen = true ∧ surveyOpen base0 = false)
    ∧ ((jw 0 none false).closes = false ∧ (jw 1 (some 2) false).collapse = some 2 ∧ (jw 2 (some 3) false).collapse = some 3 ∧ 2 < (jw 3 none false).kind.toNat
      ∧ (jw 0 none true).closes = true)
    ∧ ((bm (fun b => { b with recordFault := true }) inSession).bmu.recordFault = true ∧ inSession.bmu.recordFault = false) := by
  repeat' apply And.intro
  all_goals first | exact sound_of (by decide +kernel) | decide +kernel
/-! ### Commands that WellFormed refuses -/

theorem test_wf_deliver_by : (Instr.bye { hBye with deliverBy := 2 ^ 64 }).wf = false ∧ (Instr.bye hBye).wf = true := by decide
theorem test_wf_can_identifier : (can 0x800).wf = false ∧ ({ can 0x7FF with data := [0, 0, 0, 0, 0, 0, 0, 0] } : CanFrame).wf = true := by decide
theorem test_wf_can_remote_fd : ({ can 5 true with rtr := true } : CanFrame).wf = false := by decide
theorem test_wf_can_length : (can 5).wf = false ∧ ({ can 5 true with dlc := 9, data := List.replicate 12 0 } : CanFrame).wf = true := by decide
theorem test_wf_coil_samples : (Instr.cardBusFrame [.valve 0 [1, 1, 1, 1, 1, 1]]).wf = false ∧ (Instr.cardBusFrame [.valve 0 [65536]]).wf = false := by decide
theorem test_wf_motor_rpm : (Instr.cardBusFrame [.motor 0 [] 65536 0 false]).wf = false := by decide
theorem test_wf_readback : (Instr.cardBusFrame [.ao 0 65536 true]).wf = false := by decide
theorem test_wf_measured : (Instr.measureRefresh measured0).wf = false := by decide
theorem test_wf_block_count : (Instr.linkBlock 0 { badBlock with hallCount := 2 ^ 64 }).wf = false ∧ (Instr.linkBlock 0 badBlock).wf = true := by decide
theorem test_wf_block_echo : (Instr.linkBlock 0 { badBlock with echoCount := 2 ^ 64 }).wf = false := by decide
theorem test_wf_block_peer : (Instr.linkBlock 0 { badBlock with peerOrd := 16 }).wf = false ∧ (Instr.linkBlock 0 { badBlock with peerLink := 32 }).wf = false := by decide
theorem test_wf_fragment :
    (Instr.linkBlock 0 { badBlock with service := .fragment true true [] }).wf = false
    ∧ (Instr.linkBlock 0 { badBlock with service := .fragment true true (List.replicate 29 0) }).wf = false
    ∧ (Instr.linkBlock 0 { badBlock with service := .fragment true true [256] }).wf = false := by decide
theorem test_wf_packet :
    (Instr.registerWrite (hW 0) 0 (.words (List.replicate 2177 0))).wf = false ∧ (Instr.readMulti (hW 0) (List.replicate 2177 (0, 0))).wf = false
    ∧ (Instr.policySet (hW 0) (List.replicate 726 (band 0 0 0))).wf = false ∧ (Instr.updateChunk (hU 1 0x81) 0 0 8705 true).wf = false
    ∧ (Instr.datumPush hDat 1 0 1 8705 true true 0).wf = false := by decide +kernel
theorem test_wf_name : (Instr.hello hHello 1 0 0 0 (2 ^ 256)).wf = false := by decide
theorem test_wf_transmit : (Instr.blTxReq 0 1 [(0, can 0x800)]).wf = false := by decide
theorem test_wf_filter_count : (Instr.blFilterSwap 0 true 1 []).wf = false := by decide
theorem test_wf_filter_entry : (Instr.blFilterSwap 0 true 1 [flt 1 0 64 0 0]).wf = false ∧ (Instr.blFilterSwap 0 true 1 [flt 1 0 63 0 0]).wf = true := by decide
theorem test_wf_descriptor : (Instr.ceRingTail 1 1 ⟨[{ copyOf 1 2 with rows := 65536 }], 0⟩).wf = false ∧ (Instr.ceRingTail 1 1 ⟨[copyOf 1 2], 0⟩).wf = true := by decide +kernel
theorem test_wf_locked : (Instr.linkLocked 0 (2 ^ 64) 0 0 0).wf = false ∧ (Instr.linkLocked 0 0 (2 ^ 64) 0 0).wf = false
    ∧ (Instr.linkLocked 0 0 0 (2 ^ 64) 0).wf = false := by decide
theorem test_wf_reservoir : (Instr.reservoirCheck 10001).wf = false := by decide
theorem test_wf_survey_block : (Instr.readSingleBlock 256).wf = false ∧ (Instr.readMultipleBlocks 256 1).wf = false
    ∧ (Instr.readMultipleBlocks 0 0).wf = false ∧ (Instr.readMultipleBlocks 0 257).wf = false := by decide
theorem test_wf_bmu_frame : (Instr.bmuFrame (List.replicate 257 0)).wf = false := by decide +kernel

/-- No row of the table gives bits. -/
theorem test_decode_none (n w : Nat) : decodeTableWord n w = none := rfl

/-! ### Values the spec gives -/

/-- 00_scope, worked example: the last valve channel of the third VDC-16 is unit 0x102F, of slot 3. -/
theorem test_unit_address : U.vlv 47 = 0x102F ∧ slotOfValve 47 = 2 := by decide
/-- 06_arithmetic, worked example of an exact reduction: the four partials on the floor −20. -/
theorem test_placement :
    place 1000 (-24) (-20) = (62, false, true) ∧ place (-77) (-21) (-20) = (-38, false, true) ∧ place 145 (-18) (-20) = (580, false, false)
    ∧ place (-300) (-22) (-20) = (-75, false, false) := by decide
/-- The same: 642 with residue 5, a record of −113 with residue 6, and their total 529 ≡ 4. -/
theorem test_partition : res7 642 = 5 ∧ res7 (-113) = 6 ∧ res7 529 = 4 ∧ (642 + -113 : Int) = 529 ∧ (5 + 6) % 7 = 4 := by decide
/-- The same: 529 units of 2^−20 are 0x3A04 in BF16. -/
theorem test_bf16_output : scalarOut 16 7 0x7F7F 0x7FC0 (-20) { sum := 529 } = (0x3A04, false) := by decide +kernel
/-- The same: the conversion check with M = 132, j = 2, R = 1; and p1's rounded right shift. -/
theorem test_residue_relations : residueHolds (.final 4 132 2 1) = true ∧ residueHolds (.right 6 62 8 4) = true ∧ residueHolds (.final 5 132 2 1) = false := by decide
/-- 08_engine_integrity, worked example: the digests 562, 37 and 599. -/
theorem test_digests : accDigest 0 [642, -40] = 562 ∧ accDigest 0 [-113, 75] = 37 ∧ accDigest 0 [529, 35] = 599 := by decide +kernel
/-- 07_traverses, worked example: C9 retired, then C12. -/
theorem test_variants : variantIndex 1 0 false [9] [] = some 0x0109 ∧ variantIndex 1 0 false [9, 12] [] = some 0x0265
    ∧ variantIndex 1 0 false [14, 15] [] = some 0x0277 := by decide
/-- What a step's next state shows. -/
def shows (i : Instr) (s : State) (p : State → Bool) : Bool := match exec i s with | .next t => p t | _ => false
/-- 15_power_clocks_startup, worked example: 9.60 ms give 4 800 µF, below 5 000 µF. -/
theorem test_weak_bank : shows (.bankMeasure 960) (stepOf 3) (fun t => decide (t.reg U.sys Off.pwrBank = 0x12C003C0) && t.bitAt U.sys Off.pwrEvents 3) = true := by
  decide +kernel
/-- 03_plant_control, worked example of a fallback step: 62.0 %, 0.10 bar below SP: one tick moves the output by 0.1 %, and I stays. -/
def fbStep : State :=
  pl (fun p => { p with dp := { value := 1100, stale := false },
                        loops := [(0, { out := 620 * outUnit, target := 620 * outUnit, spActive := 1200 * spUnit, kp := 400, ti := 50, integ := 620 * outUnit * 50 })] }) pFb
theorem test_fallback_tick : ((piTick 0 fbStep).loop 0).out = 621 * outUnit ∧ ((piTick 0 fbStep).loop 0).integ = (fbStep.loop 0).integ := by decide +kernel
/-- 13_buoyline, worked example: in COMMISSION, BL_NBT, BL_DBT and BL_TDC take the example's words. -/
theorem test_bit_timing :
    ([(Off.blNbt, 0x023E1010), (Off.blDbt, 0x00010C21), (Off.blTdc, 0x00008400)].all (fun (p : Nat × Word) =>
      takesEffect (judgeWrite { session := sess .engineer, origin := orig, unit := U.bl 0, off := p.1, value := p.2 } (wC.setReg (U.bl 0) Off.blCtrl 0)))) = true := by decide +kernel
/-- R253: Flash leaves 245 µs after the last one and not before. -/
theorem test_flash_due :
    shows .flashEmit (pr (fun p => { p with lastFlash := now0 - 245 * Config.us }) kp) (fun t => decide (t.pair.lastFlash = now0)) = true
    ∧ shows .flashEmit (pr (fun p => { p with lastFlash := now0 - 244 * Config.us }) kp) (fun t => decide (t.pair.lastFlash = now0 - 244 * Config.us)) = true := by
  decide +kernel
/-- R255: the deadman releases LAMP after 500 µs without Flash. -/
theorem test_deadman : shows .deadmanRelease (pr (fun p => { p with lastFlash := now0 - 500 * Config.us }) kp) (fun t => !t.pair.lampOwn) = true := by decide +kernel
/-- R345: the eighth bad block within 1 ms takes the link down. -/
theorem test_eighth_bad_block :
    shows (.linkBlock 5 badBlock) (lk1 (fun k => { k with badTimes := List.replicate 7 now0 }) (linkIn .up 5)) (fun t => decide ((t.link 5).st = .backoff)) = true
    ∧ shows (.linkBlock 5 badBlock) (lk1 (fun k => { k with badTimes := List.replicate 6 now0 }) (linkIn .up 5)) (fun t => decide ((t.link 5).st = .up)) = true := by
  decide +kernel
/-- R424: the bus must stay good for 100 ms; R490: an operating hour counts. -/
theorem test_operating_hour : shows .operatingHour base0 (fun t => decide (legalWord t.bmu 3 0 = 1)) = true := by decide +kernel
/-- R441: one tick of the timestamp clock on an empty queue; a waiting command is taken. -/
theorem test_step_idles : (match step State.reset with | .next t => decide (t.now = 10) | _ => false) = true := by decide +kernel
theorem test_step_takes : (match step { State.reset with pending := [.cellLow, .inventory] } with | .next t => decide (t.pending = [.inventory]) && t.bmu.cellLow | _ => false) = true := by
  decide +kernel

end Sys2Proof.Tests
end

section
/-! R2, R488: what may change the legally relevant data of the BMU-1. The data are one value, `Bmu.legalPart`; each function of the
model that a command of another chapter calls leaves that value as it is, and so does each command. -/

namespace Sys2Proof.Machine

open Sys2Proof Sys2Proof.Safety

/-! ### The legally relevant data, and their preservation -/

/-- R2, R488: the BMU-1 without its supply, the display and the CELL_POWER bit that follow the supply, and the marks of module time. -/
def Bmu.legalPart (b : Bmu) : Bmu :=
  { b with aux := true, displayOn := true, cellPower := false, clockAt := 0, lastPulse := none, pressedAt := 0, sentAt := none, session := none }

/-- The legally relevant data are the same in two states. -/
def LegalSame (s t : State) : Prop := t.bmu.legalPart = s.bmu.legalPart

@[simp] theorem legalSame_iff (s t : State) : LegalSame s t ↔ t.bmu.legalPart = s.bmu.legalPart := Iff.rfl

/-- Only the fields that `legalPart` forgets differ between two units with the same legal part. -/
theorem Bmu.eq_of_legalPart {b c : Bmu} (h : c.legalPart = b.legalPart) :
    c = { b with aux := c.aux, displayOn := c.displayOn, cellPower := c.cellPower, clockAt := c.clockAt,
                 lastPulse := c.lastPulse, pressedAt := c.pressedAt, sentAt := c.sentAt, session := c.session } := by
  cases b; cases c
  simpa [Bmu.legalPart] using h

@[simp] theorem legalPart_auxOff (b : Bmu) : (auxOff b).legalPart = b.legalPart := by unfold auxOff; split <;> rfl
@[simp] theorem legalPart_auxOn (b : Bmu) : (auxOn b).legalPart = b.legalPart := rfl
@[simp] theorem legalPart_shiftTime (d : Int) (b : Bmu) : (b.shiftTime d).legalPart = b.legalPart := rfl

/-- The state an outcome leaves has the legally relevant data of `s`. -/
def KeepsLegal (s : State) (o : Host.Outcome State Fault Refusal) : Prop := ∀ t, o = .next t → LegalSame s t

@[simp] theorem keepsLegal_next (s t : State) : KeepsLegal s (.next t) ↔ LegalSame s t := by simp [KeepsLegal]

@[simp] theorem keepsLegal_ite {p : Prop} [Decidable p] (s : State) (a b : Host.Outcome State Fault Refusal) :
    KeepsLegal s (if p then a else b) ↔ (p → KeepsLegal s a) ∧ (¬ p → KeepsLegal s b) := by split <;> simp [*]

/-! ### Requests -/

/-- The states an opcode's answer may leave have the legally relevant data of the state it was judged in. -/
def Answer.KeepsLegal (s : State) (a : Answer) : Prop := a.Leaves LegalSame s

@[simp] theorem Answer.refuse_keepsLegal (s : State) (st : Status) (d : Nat) : (Answer.refuse st d).KeepsLegal s := trivial
@[simp] theorem Answer.status_keepsLegal (s t : State) (st : Status) (d : Nat) (l : List Nat) :
    (Answer.status st d l t).KeepsLegal s ↔ LegalSame s t := Iff.rfl
@[simp] theorem Answer.wait_keepsLegal (s t : State) : (Answer.wait t).KeepsLegal s ↔ LegalSame s t := Iff.rfl
@[simp] theorem Answer.done_keepsLegal (s t : State) (c : Time) (l : List Nat) : (Answer.done c l t).KeepsLegal s ↔ LegalSame s t := Iff.rfl
@[simp] theorem Answer.accept_keepsLegal (s : State) (c : Time) (u : Nat) (tag : BitVec 16) (eff : State → State) (l : List Nat) :
    (Answer.accept c u tag eff l).KeepsLegal s ↔ ∀ a, LegalSame a (eff a) := Iff.rfl

@[simp] theorem Answer.ite_keepsLegal {p : Prop} [Decidable p] (a b : Answer) (s : State) :
    (if p then a else b).KeepsLegal s ↔ (p → a.KeepsLegal s) ∧ (¬ p → b.KeepsLegal s) := by split <;> simp [*]

theorem settle_legal {op : Op} {h : Hdr} {e : Session} {a : Answer} {s : State} (ha : a.KeepsLegal s) : LegalSame s (settle op h e a s) := by
  cases a <;> simp only [settle, Answer.status_keepsLegal, Answer.wait_keepsLegal, Answer.done_keepsLegal, Answer.accept_keepsLegal,
    legalSame_iff] at * <;> (repeat' split) <;> simp [ha]

theorem vcp_legal {op : Op} {h : Hdr} {body : Session → State → Answer} {s : State} (hb : ∀ e u, (body e u).KeepsLegal u) :
    LegalSame s (vcp op h body s) := by
  unfold vcp
  iterate 3
    split
    · simp
  dsimp only
  iterate 4
    split
    · simp
  exact (settle_legal (hb _ _)).trans (by simp)

theorem vcpLate_legal {op : Op} {h : Hdr} {body : Session → State → Answer} {s : State} (hb : ∀ e u, (body e u).KeepsLegal u) :
    LegalSame s (vcpLate op h body s) := by
  unfold vcpLate
  iterate 3
    split
    · simp
  exact settle_legal (hb _ _)

/-- A command that is a request keeps the legally relevant data where its opcode's answer does. -/
theorem keepsLegal_of_answer {op : Op} {h : Hdr} {body : Session → State → Answer} {s : State} (hb : ∀ e u, (body e u).KeepsLegal u) :
    KeepsLegal s (.next (vcp op h body s)) := (keepsLegal_next _ _).2 (vcp_legal hb)

/-! ### Loss of supply, restarts and trials: the aux supply alone changes -/

@[simp] theorem powerDown_legal (s : State) : (powerDown s).bmu.legalPart = s.bmu.legalPart := legalPart_auxOff s.bmu

@[simp] theorem armedTrigger_legal (s : State) : (armedTrigger s).bmu.legalPart = s.bmu.legalPart := by
  simp [armedTrigger, gatePackage_frame]

@[simp] theorem sagTrigger_legal (s : State) : (sagTrigger s).bmu.legalPart = s.bmu.legalPart := by
  unfold sagTrigger; (repeat' split) <;> simp

@[simp] theorem hubReset_legal (s : State) : (hubReset s).bmu.legalPart = s.bmu.legalPart := by simp [hubReset, startFirmware_frame]

@[simp] theorem restartPreman_legal (s : State) : (restartPreman s).bmu.legalPart = s.bmu.legalPart := by
  simp only [restartPreman, hubReset_legal]; split <;> rfl

@[simp] theorem restartKind_legal (k : Nat) (s : State) : (restartKind k s).bmu.legalPart = s.bmu.legalPart := by
  unfold restartKind
  (repeat' split) <;> simp [restartDeck_frame, restartTraverse_frame, flashCard_frame, enumerate_frame]

@[simp] theorem activate_legal (k : Nat) (o : Origin) (z : Time) (s : State) : (activate k o z s).bmu.legalPart = s.bmu.legalPart := by
  simp [activate, issueAlias_frame]

@[simp] theorem abortTrial_legal (k : Nat) (z : Time) (s : State) : (abortTrial k z s).bmu.legalPart = s.bmu.legalPart := by
  simp [abortTrial, rollUnit_frame]

@[simp] theorem abortLate_legal (k stage : Nat) (s : State) : (abortLate k stage s).bmu.legalPart = s.bmu.legalPart := by
  unfold abortLate; (repeat' split) <;> simp [abortBank_frame]

/-! ### Writes of registers -/

/-- The effects a register's rules give a write keep the legally relevant data. -/
def Judged.KeepsLegal (s : State) : Judged → Prop
  | .refuse _ => True
  | .ok f => ∀ a, LegalSame a (f a)
  | .band _ => True
  | .command a => a.KeepsLegal s

@[simp] theorem Judged.refuse_keepsLegal (s : State) (st : Status) : (Judged.refuse st).KeepsLegal s := trivial
@[simp] theorem Judged.ok_keepsLegal (s : State) (f : State → State) : (Judged.ok f).KeepsLegal s ↔ ∀ a, LegalSame a (f a) := Iff.rfl
@[simp] theorem Judged.band_keepsLegal (s : State) (b : BandEntry) : (Judged.band b).KeepsLegal s := trivial
@[simp] theorem Judged.command_keepsLegal (s : State) (a : Answer) : (Judged.command a).KeepsLegal s ↔ a.KeepsLegal s := Iff.rfl

@[simp] theorem Judged.ite_keepsLegal {p : Prop} [Decidable p] (a b : Judged) (s : State) :
    (if p then a else b).KeepsLegal s ↔ (p → a.KeepsLegal s) ∧ (¬ p → b.KeepsLegal s) := by split <;> simp [*]

@[simp] theorem judged_keepsLegal {r : Option Status} {f : State → State} {s : State} (hf : ∀ a, LegalSame a (f a)) :
    (judged r f).KeepsLegal s := by
  cases r
  · exact hf
  · trivial

@[simp] theorem valveAnswer_keepsLegal (c : Nat) (q : ValveReq) (s : State) : (valveAnswer c q s).KeepsLegal s := by
  dsimp only [valveAnswer]
  (repeat' split) <;> simp [acceptValve_frame]
@[simp] theorem motorAnswer_keepsLegal (c : Nat) (q : MotorReq) (s : State) : (motorAnswer c q s).KeepsLegal s := by
  dsimp only [motorAnswer]
  (repeat' split) <;> simp [acceptMotor_frame]
@[simp] theorem judgeSys_keepsLegal (w : Write) (s : State) : (judgeSys w s).KeepsLegal s := by
  simp [judgeSys, writeConfig_frame, setLocate_frame, joinNow_frame, select_frame, writeGroupMap_frame]
@[simp] theorem judgeValve_keepsLegal (w : Write) (s : State) : (judgeValve w s).KeepsLegal s := by
  simp [judgeValve, clearEvents_frame, writeConfig_frame]
@[simp] theorem judgeMotor_keepsLegal (w : Write) (s : State) : (judgeMotor w s).KeepsLegal s := by
  simp [judgeMotor, clearMotor_frame, clearEvents_frame, writeConfig_frame]
@[simp] theorem judgeSense_keepsLegal (w : Write) (s : State) : (judgeSense w s).KeepsLegal s := by
  simp [judgeSense, writeConfig_frame, queueCal_frame]
@[simp] theorem judgeAnalog_keepsLegal (w : Write) (s : State) : (judgeAnalog w s).KeepsLegal s := by
  simp [judgeAnalog, writeConfig_frame, writeDemand_frame]
@[simp] theorem judgeBuoy_keepsLegal (w : Write) (s : State) : (judgeBuoy w s).KeepsLegal s := by
  simp [judgeBuoy, recoverBus_frame, writeConfig_frame]
@[simp] theorem judgeLink_keepsLegal (w : Write) (s : State) : (judgeLink w s).KeepsLegal s := by simp [judgeLink, writeLink_frame]
@[simp] theorem judgeBeacon_keepsLegal (w : Write) (s : State) : (judgeBeacon w s).KeepsLegal s := by simp [judgeBeacon, writeBeacon_frame]
@[simp] theorem judgeDie_keepsLegal (w : Write) (s : State) : (judgeDie w s).KeepsLegal s := by
  simp [judgeDie, writeConfig_frame, writeDie_frame, writeTrv_frame, select_frame]
@[simp] theorem judgeLoop_keepsLegal (w : Write) (s : State) : (judgeLoop w s).KeepsLegal s := by
  simp [judgeLoop, writeConfig_frame, writeSp_frame, writeOut_frame, restorePump_frame]
@[simp] theorem judgeCap_keepsLegal (w : Write) (s : State) : (judgeCap w s).KeepsLegal s := by
  simp [judgeCap, writeCtrl_frame, writeRackCfg_frame, writeConfig_frame]
@[simp] theorem judgeAux_keepsLegal (w : Write) (s : State) : (judgeAux w s).KeepsLegal s := by simp [judgeAux, writeConfig_frame]
@[simp] theorem judgeWrite_keepsLegal (w : Write) (s : State) : (judgeWrite w s).KeepsLegal s := by
  dsimp only [judgeWrite]
  (repeat' split) <;> simp [clearEvents_frame]
@[simp] theorem judgeMember_keepsLegal (e : Session) (o : Origin) (m off : Nat) (v : Word) (s : State) :
    (judgeMember e o m off v s).KeepsLegal s := by
  dsimp only [judgeMember]
  (repeat' split) <;> simp

/-- The writes of a batch, judged so far, keep the legally relevant data of the state `s` the request found. -/
structure Batch.KeepsLegal (s : State) (b : Batch) : Prop where
  tent : LegalSame s b.tent
  effect : ∀ a, LegalSame a (b.effect a)

theorem Batch.start_keepsLegal (s : State) : ({ tent := s } : Batch).KeepsLegal s := ⟨rfl, fun _ => rfl⟩

theorem Batch.add_keepsLegal {s : State} {b : Batch} {f : State → State} (hb : b.KeepsLegal s) (hf : ∀ a, LegalSame a (f a)) :
    (b.add f).KeepsLegal s := ⟨(hf _).trans hb.tent, fun a => (hf _).trans (hb.effect a)⟩

theorem Batch.take_keepsLegal {s : State} {b : Batch} (i : Nat) {j : Judged} (hb : b.KeepsLegal s) (hj : j.KeepsLegal b.tent) :
    (b.take i j).KeepsLegal s := by
  cases j with
  | refuse st => exact ⟨hb.tent, hb.effect⟩
  | ok f => exact Batch.add_keepsLegal hb hj
  | band e => exact ⟨hb.tent, hb.effect⟩
  | command a =>
    cases a with
    | refuse | status => exact ⟨hb.tent, hb.effect⟩
    | wait | done => exact Batch.add_keepsLegal hb fun _ => rfl
    | accept c u tag f l =>
      obtain ⟨ht, he⟩ := Batch.add_keepsLegal hb (f := f) hj
      exact ⟨ht, he⟩

theorem Batch.foldl_keepsLegal {α : Type} {s : State} {f : Batch → α → Batch} (hf : ∀ b x, b.KeepsLegal s → (f b x).KeepsLegal s)
    (l : List α) (b : Batch) (hb : b.KeepsLegal s) : (l.foldl f b).KeepsLegal s := by
  induction l generalizing b with
  | nil => exact hb
  | cons x l ih => exact ih _ (hf b x hb)

theorem Batch.answer_keepsLegal {b : Batch} {s : State} (hb : b.KeepsLegal s) (u : Nat) (tag : BitVec 16) (o : Origin) (data : List Nat) :
    (b.answer u tag o data s).KeepsLegal s := by
  have he : ∀ a, (b.effect a).bmu.legalPart = a.bmu.legalPart := hb.effect
  unfold Batch.answer
  dsimp only
  split
  · rw [Answer.accept_keepsLegal]
    intro a
    split <;> simp [he, queueBands_frame]
  · exact hb.tent

theorem Batch.part_keepsLegal {b : Batch} {s : State} (hb : b.KeepsLegal s) (o : Origin) : LegalSame s (b.part o) := by
  have ht : b.tent.bmu.legalPart = s.bmu.legalPart := hb.tent
  unfold Batch.part
  split <;> simp [ht, queueBands_frame]

@[simp] theorem writeAnswer_keepsLegal (u off : Nat) (vs : List Word) (e : Session) (o : Origin) (s : State) :
    (writeAnswer u off vs e o s).KeepsLegal s := by
  unfold writeAnswer
  split
  · trivial
  split
  · trivial
  dsimp only
  split
  · trivial
  refine Batch.answer_keepsLegal (Batch.foldl_keepsLegal (fun b x hb => ?_) _ _ (Batch.start_keepsLegal s)) _ _ _ _
  split
  · exact Batch.take_keepsLegal _ hb (judgeWrite_keepsLegal _ _)
  · exact hb

@[simp] theorem groupAnswer_keepsLegal (u off : Nat) (v : Word) (e : Session) (o : Origin) (s : State) :
    (groupAnswer u off v e o s).KeepsLegal s := by
  have hb := Batch.foldl_keepsLegal (f := fun b m => b.take (unitInst m) (judgeMember e o m off v b.tent))
    (fun b m hb => Batch.take_keepsLegal (unitInst m) hb (judgeMember_keepsLegal e o m off v b.tent)) (groupMembers s u) _ (Batch.start_keepsLegal s)
  unfold groupAnswer
  dsimp only
  split
  · trivial
  split
  · exact Batch.answer_keepsLegal hb _ _ _ _
  · exact Batch.part_keepsLegal hb o

theorem releaseAsk_keepsLegal {h : Hdr} {v : Word} {a : Answer} {s : State} (ha : a.KeepsLegal s) : (releaseAsk h v a s).KeepsLegal s := by
  unfold releaseAsk
  split
  · exact legalSame_iff s _ |>.2 rfl
  · exact ha

theorem writeRegs_legal (h : Hdr) (off : Nat) (vs : List Word) (s : State) : LegalSame s (writeRegs h off vs s) := by
  refine vcp_legal fun e u => ?_
  dsimp only
  split
  · exact releaseAsk_keepsLegal (writeAnswer_keepsLegal _ _ _ _ _ _)
  · exact writeAnswer_keepsLegal _ _ _ _ _ _

/-! ### What each opcode answers -/

@[simp] theorem modeDone_keepsLegal {m : Mode} {f : State → State} {s : State} (hf : ∀ a, LegalSame a (f a)) : (modeDone m f s).KeepsLegal s :=
  (hf _).trans (by simp [releaseTrip_frame])

@[simp] theorem modeAccept_keepsLegal {o : Origin} {m : Mode} {f : State → State} {s : State} (hf : ∀ a, LegalSame a (f a)) :
    (modeAccept o m f s).KeepsLegal s := fun a => by
  have h : ∀ a, (f a).bmu.legalPart = a.bmu.legalPart := hf
  simp [h, releaseTrip_frame]

@[simp] theorem siteAnswer_keepsLegal (i : SiteItem) (s : State) : (siteAnswer i s).KeepsLegal s := by simp [siteAnswer, writeSite_frame]
@[simp] theorem envelopeAnswer_keepsLegal (h : Hdr) (env : Nat) (o : Origin) (s : State) : (envelopeAnswer h env o s).KeepsLegal s := by
  simp [envelopeAnswer, envelopeCut_frame]
@[simp] theorem capAckAnswer_keepsLegal (rack : Nat) (seq : BitVec 32) (power : Nat) (s : State) : (capAckAnswer rack seq power s).KeepsLegal s := by
  simp [capAckAnswer, ackGrant_frame]
@[simp] theorem previewAnswer_keepsLegal (id : BitVec 32) (racks flags : BitVec 16) (start duration load ramp : Nat) (e : Session) (o : Origin)
    (s : State) :
    (previewAnswer id racks flags start duration load ramp e o s).KeepsLegal s := by simp [previewAnswer, replacePreview_frame, addPreview_frame]
@[simp] theorem cancelAnswer_keepsLegal (id : BitVec 32) (o : Origin) (s : State) : (cancelAnswer id o s).KeepsLegal s := by
  simp [cancelAnswer, revokeRa_frame, cancelPreview_frame]
@[simp] theorem runAnswer_keepsLegal (o : Origin) (s : State) : (runAnswer o s).KeepsLegal s := by simp [runAnswer, enterRun_frame]
@[simp] theorem fallbackToRun_keepsLegal (o : Origin) (s : State) : (fallbackToRun o s).KeepsLegal s := by
  simp [fallbackToRun, mirrorMode_frame, changeMode_frame]
@[simp] theorem modeAnswer_keepsLegal (code : Nat) (e : Session) (o : Origin) (s : State) : (modeAnswer code e o s).KeepsLegal s := by
  dsimp only [modeAnswer]
  (repeat' split) <;> simp [changeMode_frame, releaseTrip_frame]
@[simp] theorem modeAsk_keepsLegal (h : Hdr) (code : Nat) (s : State) : (modeAsk h code s).KeepsLegal s := by simp [modeAsk]
@[simp] theorem policyAnswer_keepsLegal (l : List BandEntry) (o : Origin) (s : State) : (policyAnswer l o s).KeepsLegal s := by
  dsimp only [policyAnswer]
  (repeat' split) <;> simp [queueBands_frame]
@[simp] theorem datumAnswer_keepsLegal (ver chunk n len : Nat) (setOk sigOk : Bool) (applyAt : Nat) (o : Origin) (s : State) :
    (datumAnswer ver chunk n len setOk sigOk applyAt o s).KeepsLegal s := by simp [datumAnswer, rejectSet_frame, takeChunk_frame]
@[simp] theorem abortCopyAsk_keepsLegal (h : Hdr) (ring : Nat) (tag : BitVec 16) (s : State) : (abortCopyAsk h ring tag s).KeepsLegal s := by
  simp [abortCopyAsk]
@[simp] theorem abortCopyAnswer_keepsLegal (ring : Nat) (tag : BitVec 16) (frame : Nat) (s : State) :
    (abortCopyAnswer ring tag frame s).KeepsLegal s := by
  dsimp only [abortCopyAnswer]
  (repeat' split) <;> simp [closeBulk_frame, setBusy_frame, startCopies_frame, endCopy_frame]
@[simp] theorem readAnswer_keepsLegal (u off count : Nat) (e : Session) (s : State) : (readAnswer u off count e s).KeepsLegal s := by
  simp [readAnswer, readAll_frame]
@[simp] theorem readMultiAnswer_keepsLegal (l : List (Nat × Nat)) (e : Session) (s : State) : (readMultiAnswer l e s).KeepsLegal s := by
  dsimp only [readMultiAnswer]
  (repeat' split) <;> simp [readAll_frame]
@[simp] theorem subscribeAnswer_keepsLegal (u off count period kind : Nat) (e : Session) (s : State) :
    (subscribeAnswer u off count period kind e s).KeepsLegal s := by
  dsimp only [subscribeAnswer]
  (repeat' split) <;> simp
@[simp] theorem loadAnswer_keepsLegal (bank : Nat) (o : Origin) (s : State) : (loadAnswer bank o s).KeepsLegal s := by
  simp [loadAnswer, startLoad_frame]
@[simp] theorem startAnswer_keepsLegal (src startAt : Nat) (o : Origin) (s : State) : (startAnswer src startAt o s).KeepsLegal s := by
  dsimp only [startAnswer]
  (repeat' split) <;> simp [startTraverse_frame]
@[simp] theorem stopAnswer_keepsLegal (o : Origin) (s : State) : (stopAnswer o s).KeepsLegal s := by
  dsimp only [stopAnswer]
  (repeat' split) <;> simp [askStop_frame]
@[simp] theorem handoverAnswer_keepsLegal (h : Hdr) (flags : BitVec 8) (at_ : Nat) (e : Session) (s : State) :
    (handoverAnswer h flags at_ e s).KeepsLegal s := by simp [handoverAnswer, startHandover_frame]
@[simp] theorem beginAnswer_keepsLegal (k : Nat) (restart : Bool) (m : Manifest) (e : Session) (s : State) :
    (beginAnswer k restart m e s).KeepsLegal s := by
  dsimp only [beginAnswer]
  (repeat' split) <;> simp
@[simp] theorem chunkAnswer_keepsLegal (k : Nat) (chunk : BitVec 32) (piece len : Nat) (hashOk : Bool) (e : Session) (s : State) :
    (chunkAnswer k chunk piece len hashOk e s).KeepsLegal s := by
  dsimp only [chunkAnswer]
  (repeat' split) <;> simp
@[simp] theorem verifyAnswer_keepsLegal (k : Nat) (o : Origin) (s : State) : (verifyAnswer k o s).KeepsLegal s := by
  dsimp only [verifyAnswer]
  (repeat' split) <;> simp
@[simp] theorem activateAnswer_keepsLegal (k : Nat) (force : Bool) (o : Origin) (s : State) : (activateAnswer k force o s).KeepsLegal s := by
  simp [activateAnswer]
@[simp] theorem confirmAnswer_keepsLegal (k : Nat) (s : State) : (confirmAnswer k s).KeepsLegal s := by simp [confirmAnswer, confirm_frame]
@[simp] theorem abortNow_keepsLegal (k : Nat) (o : Origin) (s : State) : (abortNow k o s).KeepsLegal s := by
  dsimp only [abortNow]
  (repeat' split) <;> simp [abortBank_frame]
@[simp] theorem abortAnswer_keepsLegal (k : Nat) (o : Origin) (frame : Nat) (s : State) : (abortAnswer k o frame s).KeepsLegal s := by
  dsimp only [abortAnswer]
  (repeat' split) <;> simp
@[simp] theorem logReadAnswer_keepsLegal (src : BitVec 32) (max : Nat) (s : State) : (logReadAnswer src max s).KeepsLegal s := by simp [logReadAnswer]
@[simp] theorem abortMotorStamped_keepsLegal (c : Nat) (tag : BitVec 16) (o : Origin) (s : State) : (abortMotorStamped c tag o s).KeepsLegal s := by
  dsimp only [abortMotorStamped]
  (repeat' split) <;> simp [acceptMotor_frame]
@[simp] theorem abortMotorAnswer_keepsLegal (c : Nat) (tag : BitVec 16) (o : Origin) (s : State) : (abortMotorAnswer c tag o s).KeepsLegal s := by
  dsimp only [abortMotorAnswer]
  (repeat' split) <;> simp [abortRun_frame]
@[simp] theorem abortStamped_keepsLegal (c : Nat) (tag : BitVec 16) (o : Origin) (s : State) : (abortStamped c tag o s).KeepsLegal s := by
  dsimp only [abortStamped]
  (repeat' split) <;> simp [acceptValve_frame]
@[simp] theorem abortValveAnswer_keepsLegal (c : Nat) (tag : BitVec 16) (o : Origin) (s : State) : (abortValveAnswer c tag o s).KeepsLegal s := by
  dsimp only [abortValveAnswer]
  (repeat' split) <;> simp [abortPull_frame]

/-! ### Requests judged at a frame boundary, and the frame itself -/

theorem modeSet_legal (h : Hdr) (code : Nat) (s : State) : LegalSame s (modeSet h code s) :=
  vcp_legal fun _ u => modeAsk_keepsLegal h code u

theorem valveCmd_legal (h : Hdr) (action : Nat) (tag : BitVec 16) (s : State) : LegalSame s (valveCmd h action tag s) :=
  vcp_legal fun _ u => valveAnswer_keepsLegal _ _ u

theorem motorCmd_legal (h : Hdr) (action : Nat) (tag : BitVec 16) (speed : Nat) (s : State) : LegalSame s (motorCmd h action tag speed s) :=
  vcp_legal fun _ u => motorAnswer_keepsLegal _ _ u

theorem forEach_legal {α : Type} (l : List α) (f : α → State → State) (s : State) (hf : ∀ x a, LegalSame a (f x a)) :
    LegalSame s (forEach l f s) := by
  unfold forEach
  induction l generalizing s with
  | nil => rfl
  | cons x l ih => exact (ih _).trans (hf x s)

@[simp] theorem judgeModes_legal (s : State) : (judgeModes s).bmu.legalPart = s.bmu.legalPart :=
  forEach_legal _ _ { s with plant.modeAsks := [] } fun _ _ => vcpLate_legal fun _ u => modeAnswer_keepsLegal _ _ _ u

@[simp] theorem judgeReleases_legal (s : State) : (judgeReleases s).bmu.legalPart = s.bmu.legalPart :=
  forEach_legal _ _ { s with plant.releaseAsks := [] } fun _ _ => vcpLate_legal fun _ u => by
    split <;> simp [releaseLeak_frame]

@[simp] theorem judgeAborts_legal (frame : Nat) (s : State) : (judgeAborts frame s).bmu.legalPart = s.bmu.legalPart :=
  forEach_legal _ _ { s with copies.aborts := [] } fun _ _ => vcpLate_legal fun _ u => abortCopyAnswer_keepsLegal _ _ _ u

@[simp] theorem judgeUpdAborts_legal (frame : Nat) (s : State) : (judgeUpdAborts frame s).bmu.legalPart = s.bmu.legalPart :=
  forEach_legal _ _ { s with fw.aborts := [] } fun _ _ => vcpLate_legal fun _ u => abortAnswer_keepsLegal _ _ _ u

@[simp] theorem frameBefore_legal (up : List Uplink) (s : State) : (frameBefore up s).bmu.legalPart = s.bmu.legalPart := by
  simp [frameBefore, handoverEnds_frame, settleCaps_frame, uplink_frame, gatherInputs_frame, processValues_frame, staleSenses_frame,
    serviceFrame_frame, takeLog_frame, keeperLimits_frame, fansStarting_frame, frameCard_frame]

@[simp] theorem frameAfter_legal (l : List (Nat × InputVal)) (s : State) : (frameAfter l s).bmu.legalPart = s.bmu.legalPart := by
  simp [frameAfter, mirrorFrame_frame, driveBeacons_frame, keeperFrame_frame, sendFrames_frame]

/-! ### Checkpoints, placements and steps of time -/

theorem soundCkpt_bmu (fuel : Nat) (digests : Nat × Nat) (s : State) : (soundCkpt fuel digests s).2.bmu = s.bmu := by
  induction fuel generalizing s with
  | zero => rfl
  | succ n ih =>
    unfold soundCkpt
    split
    · rfl
    · dsimp only
      split
      · split
        · rfl
        · simp [ih, markCkpt_frame]
      · split
        · rfl
        · simp [ih, markCkpt_frame]

theorem soundCkpt_eq_bmu {fuel : Nat} {digests : Nat × Nat} {s t : State} {c : Option Ckpt} (h : soundCkpt fuel digests s = (c, t)) :
    t.bmu = s.bmu := by
  have := soundCkpt_bmu fuel digests s
  rwa [h] at this

theorem choosePlacement_eq_bmu {asked : Bool} {i : Image} {s : State} {p : Placed} (h : choosePlacement asked i s = p) :
    p.state.bmu = s.bmu := by
  subst h
  simp [choosePlacement_frame]

@[simp] theorem shiftTime_legal (d : Int) (s : State) : (s.shiftTime d).bmu.legalPart = s.bmu.legalPart := rfl

/-! ### What each command leaves

A command that is a request is covered by its opcode's answer above. -/

theorem rowAfter_legal (row : ReflexRow) (d : Nat) (s : State) : LegalSame s (rowAfter row d s) := by simp [rowAfter_frame]

/-! #### Cards, inputs, fans and the harness -/

@[simp] theorem execCardEject_keepsLegal (k : Fin 6) (s : State) : KeepsLegal s (execCardEject k s) := by simp [execCardEject, closeGate_frame]
@[simp] theorem execCardLogicSupplyFault_keepsLegal (k : Fin 6) (s : State) : KeepsLegal s (execCardLogicSupplyFault k s) := by
  simp [execCardLogicSupplyFault, closeGate_frame]
@[simp] theorem execCardFaulted_keepsLegal (k : Fin 6) (s : State) : KeepsLegal s (execCardFaulted k s) := by
  simp [execCardFaulted, closeGate_frame, cardNotify_frame]
@[simp] theorem execDomainDrainEnd_keepsLegal (d : Domain) (s : State) : KeepsLegal s (execDomainDrainEnd d s) := by
  dsimp only [execDomainDrainEnd]
  (repeat' split) <;> simp [signalReset_frame, slotDown_frame, dieDown_frame]
@[simp] theorem execDomainReady_keepsLegal (d : Domain) (s : State) : KeepsLegal s (execDomainReady d s) := by
  dsimp only [execDomainReady]
  (repeat' split) <;> simp
@[simp] theorem execCardPresence_keepsLegal (k : Fin 6) (s : State) : KeepsLegal s (execCardPresence k s) := by
  simp [execCardPresence, enumerate_frame]
@[simp] theorem execEnumDebounceEnd_keepsLegal (k : Fin 6) (desc : CardDesc) (s : State) : KeepsLegal s (execEnumDebounceEnd k desc s) := by
  dsimp only [execEnumDebounceEnd]
  (repeat' split) <;> simp [cardNotify_frame]
@[simp] theorem execCardEnumDone_keepsLegal (k : Fin 6) (chans : List CardChannel) (s : State) : KeepsLegal s (execCardEnumDone k chans s) := by
  simp [execCardEnumDone, nextCardUpdate_frame, cardNotify_frame, refitted_frame, applyChan_frame]
@[simp] theorem execMainInputLoss_keepsLegal (i : InputId) (s : State) : KeepsLegal s (execMainInputLoss i s) := by
  dsimp only [execMainInputLoss]
  (repeat' split) <;> simp
@[simp] theorem execMainInputReturn_keepsLegal (i : InputId) (s : State) : KeepsLegal s (execMainInputReturn i s) := by
  dsimp only [execMainInputReturn]
  (repeat' split) <;> simp
@[simp] theorem execFieldInputLoss_keepsLegal (i : InputId) (s : State) : KeepsLegal s (execFieldInputLoss i s) := by
  dsimp only [execFieldInputLoss]
  (repeat' split) <;> simp [cardUnpowered_frame]
@[simp] theorem execFieldPowerReturn_keepsLegal (i : InputId) (s : State) : KeepsLegal s (execFieldPowerReturn i s) := by
  dsimp only [execFieldPowerReturn]
  (repeat' split) <;> simp [enumerate_frame]
@[simp] theorem execFanFail_keepsLegal (k : Fin 6) (s : State) : KeepsLegal s (execFanFail k s) := by simp [execFanFail, askHandover_frame]
@[simp] theorem execThermalWarn_keepsLegal (s : State) : KeepsLegal s (execThermalWarn s) := by simp [execThermalWarn]
@[simp] theorem execThermalShutdown_keepsLegal (s : State) : KeepsLegal s (execThermalShutdown s) := by
  simp [execThermalShutdown, engineDown_frame, stopLegs_frame, gatePackage_frame]
@[simp] theorem execMeasureRefresh_keepsLegal (m : Measured) (s : State) : KeepsLegal s (execMeasureRefresh m s) := by simp [execMeasureRefresh]
@[simp] theorem execHarnessOpen_keepsLegal (s : State) : KeepsLegal s (execHarnessOpen s) := by simp [execHarnessOpen]
@[simp] theorem execHarnessClose_keepsLegal (s : State) : KeepsLegal s (execHarnessClose s) := by simp [execHarnessClose]
@[simp] theorem execLocateButton_keepsLegal (withWrite : Bool) (s : State) : KeepsLegal s (execLocateButton withWrite s) := by
  simp [execLocateButton, setLocate_frame]

/-! #### Supply and start-up -/

@[simp] theorem execSagStart_keepsLegal (s : State) : KeepsLegal s (execSagStart s) := by simp [execSagStart]
@[simp] theorem execSagShort_keepsLegal (s : State) : KeepsLegal s (execSagShort s) := by
  dsimp only [execSagShort]
  (repeat' split) <;> simp
@[simp] theorem execSagTrigger_keepsLegal (s : State) : KeepsLegal s (execSagTrigger s) := by
  dsimp only [execSagTrigger]
  (repeat' split) <;> simp
@[simp] theorem execLastLightDone_keepsLegal (energy : Nat) (bankHeld : Bool) (s : State) : KeepsLegal s (execLastLightDone energy bankHeld s) := by
  simp [execLastLightDone]
@[simp] theorem execPowerApplied_keepsLegal (s : State) : KeepsLegal s (execPowerApplied s) := by simp [execPowerApplied]
@[simp] theorem execQualificationRestart_keepsLegal (s : State) : KeepsLegal s (execQualificationRestart s) := by simp [execQualificationRestart]
@[simp] theorem execBusQualified_keepsLegal (chosenOk otherOk : Bool) (s : State) : KeepsLegal s (execBusQualified chosenOk otherOk s) := by
  dsimp only [execBusQualified]
  (repeat' split) <;> simp [startFirmware_frame]
@[simp] theorem execLastLightArm_keepsLegal (s : State) : KeepsLegal s (execLastLightArm s) := by simp [execLastLightArm, readRecord_frame]
@[simp] theorem execBankMeasure_keepsLegal (discharge : Nat) (s : State) : KeepsLegal s (execBankMeasure discharge s) := by
  simp [execBankMeasure, joinBuses_frame]
@[simp] theorem execStartupRestore_keepsLegal (chans : List CardChannel) (s : State) : KeepsLegal s (execStartupRestore chans s) := by
  dsimp only [execStartupRestore]
  (repeat' split) <;> simp [applyNothing_frame, applyRecord_frame, driveBeacons_frame, releaseOutputs_frame]

/-! #### Caps, grants, previews and leaks -/

@[simp] theorem execAckWindowClose_keepsLegal (r : Fin 16) (seq : BitVec 32) (s : State) : KeepsLegal s (execAckWindowClose r seq s) := by
  dsimp only [execAckWindowClose]
  (repeat' split) <;> simp [closeUnanswered_frame]
@[simp] theorem execGrantRepeat_keepsLegal (r : Fin 16) (s : State) : KeepsLegal s (execGrantRepeat r s) := by
  dsimp only [execGrantRepeat]
  (repeat' split) <;> simp [sendGrant_frame]
@[simp] theorem execPreviewEnd_keepsLegal (id : BitVec 32) (s : State) : KeepsLegal s (execPreviewEnd id s) := by
  simp [execPreviewEnd, revokeRa_frame]
@[simp] theorem execLeakSourceClear_keepsLegal (r : Fin 16) (s : State) : KeepsLegal s (execLeakSourceClear r s) := by
  simp [execLeakSourceClear, setSource_frame]
@[simp] theorem execFlowImbalance_keepsLegal (r : Fin 16) (s : State) : KeepsLegal s (execFlowImbalance r s) := by
  dsimp only [execFlowImbalance]
  (repeat' split) <;> simp [setSource_frame]
@[simp] theorem execReservoirCheck_keepsLegal (level : Nat) (s : State) : KeepsLegal s (execReservoirCheck level s) := by
  simp [execReservoirCheck, evalStage_frame]
@[simp] theorem execLeakClear_keepsLegal (r : Fin 16) (s : State) : KeepsLegal s (execLeakClear r s) := by
  dsimp only [execLeakClear]
  (repeat' split) <;> simp [setStage_frame]
@[simp] theorem execLeakIsolateTimeout_keepsLegal (r : Fin 16) (s : State) : KeepsLegal s (execLeakIsolateTimeout r s) := by
  dsimp only [execLeakIsolateTimeout]
  (repeat' split) <;> simp [takeIsolation_frame]

/-! #### Plant loops and reflexes -/

@[simp] theorem execWithheldFallback_keepsLegal (s : State) : KeepsLegal s (execWithheldFallback s) := by
  simp [execWithheldFallback, engineDown_frame]
@[simp] theorem execEngineLost_keepsLegal (s : State) : KeepsLegal s (execEngineLost s) := by simp [execEngineLost, engineDown_frame]
@[simp] theorem execReturnToRun_keepsLegal (s : State) : KeepsLegal s (execReturnToRun s) := by simp [execReturnToRun]
@[simp] theorem execFallbackTick_keepsLegal (s : State) : KeepsLegal s (execFallbackTick s) := by
  simp [execFallbackTick, applyBands_frame, pushDuty_frame, piTick_frame]
@[simp] theorem execPolicyBoundClear_keepsLegal (l : Fin 5) (s : State) : KeepsLegal s (execPolicyBoundClear l s) := by
  dsimp only [execPolicyBoundClear]
  (repeat' split) <;> simp
@[simp] theorem execBoundCapStep_keepsLegal (l : Fin 5) (s : State) : KeepsLegal s (execBoundCapStep l s) := by simp [execBoundCapStep]
@[simp] theorem execRedundantSwitch_keepsLegal (l : Fin 2) (s : State) : KeepsLegal s (execRedundantSwitch l s) := by
  dsimp only [execRedundantSwitch]
  (repeat' split) <;> simp
@[simp] theorem execRackFlowCapdown_keepsLegal (r : Fin 16) (s : State) : KeepsLegal s (execRackFlowCapdown r s) := by
  simp [execRackFlowCapdown, rowAfter_frame]
@[simp] theorem execReflexRepeat_keepsLegal (row : ReflexRow) (s : State) : KeepsLegal s (execReflexRepeat row s) := by
  dsimp only [execReflexRepeat]
  (repeat' split) <;> simp [rowAct_frame]
@[simp] theorem execReflexRelease_keepsLegal (row : ReflexRow) (s : State) : KeepsLegal s (execReflexRelease row s) := by
  dsimp only [execReflexRelease]
  (repeat' split) <;> simp [chooseReserve_frame, rowEnd_frame]
@[simp] theorem execStageUp_keepsLegal (s : State) : KeepsLegal s (execStageUp s) := by simp [execStageUp, decideStaging_frame]
@[simp] theorem execStageDown_keepsLegal (s : State) : KeepsLegal s (execStageDown s) := by simp [execStageDown, decideStaging_frame]
@[simp] theorem execRotation_keepsLegal (s : State) : KeepsLegal s (execRotation s) := by simp [execRotation, decideStaging_frame]
@[simp] theorem execRotationSwap_keepsLegal (s : State) : KeepsLegal s (execRotationSwap s) := by
  dsimp only [execRotationSwap]
  (repeat' split) <;> simp [decideStaging_frame]

/-! #### Inputs, outputs and AUX pins -/

@[simp] theorem execCardHold_keepsLegal (k : Fin 6) (s : State) : KeepsLegal s (execCardHold k s) := by simp [execCardHold]
@[simp] theorem execCalibration_keepsLegal (i : Fin 64) (s : State) : KeepsLegal s (execCalibration i s) := by simp [execCalibration]
@[simp] theorem execCalibrationDone_keepsLegal (i : Fin 64) (gain offset : Int) (s : State) : KeepsLegal s (execCalibrationDone i gain offset s) := by
  dsimp only [execCalibrationDone]
  (repeat' split) <;> simp
@[simp] theorem execNoPulse_keepsLegal (i : Fin 16) (s : State) : KeepsLegal s (execNoPulse i s) := by simp [execNoPulse]
@[simp] theorem execOpenLoop_keepsLegal (i : Fin 16) (s : State) : KeepsLegal s (execOpenLoop i s) := by
  dsimp only [execOpenLoop]
  (repeat' split) <;> simp
@[simp] theorem execAuxAttach_keepsLegal (pin : Fin 16) (s : State) : KeepsLegal s (execAuxAttach pin s) := by
  dsimp only [execAuxAttach]
  (repeat' split) <;> simp
@[simp] theorem execAuxCapture_keepsLegal (pin : Fin 16) (at_ : Nat) (s : State) : KeepsLegal s (execAuxCapture pin at_ s) := by simp [execAuxCapture]
@[simp] theorem execAuxInputEdge_keepsLegal (pin : Fin 16) (level : Bool) (s : State) : KeepsLegal s (execAuxInputEdge pin level s) := by
  simp [execAuxInputEdge]
@[simp] theorem execPpsOut_keepsLegal (pin : Fin 16) (s : State) : KeepsLegal s (execPpsOut pin s) := by simp [execPpsOut]

/-! #### Buoyline -/

@[simp] theorem execCanFrameReceive_keepsLegal (ch : Fin 6) (f : CanFrame) (reading : Reception) (s : State) :
    KeepsLegal s (execCanFrameReceive ch f reading s) := by
  dsimp only [execCanFrameReceive]
  (repeat' split) <;> simp [rxError_frame, rxGood_frame, storeFrame_frame]
@[simp] theorem execBlRxLock_keepsLegal (ch : Fin 6) (buf : Fin 64) (lock : Bool) (s : State) : KeepsLegal s (execBlRxLock ch buf lock s) := by
  dsimp only [execBlRxLock]
  (repeat' split) <;> simp [storeFrame_frame]
@[simp] theorem execBlFilterSwap_keepsLegal (ch : Fin 6) (bank : Bool) (count : Nat) (entries : List FilterEntry) (s : State) :
    KeepsLegal s (execBlFilterSwap ch bank count entries s) := by simp [execBlFilterSwap]
@[simp] theorem execBlTxReq_keepsLegal (ch : Fin 6) (mask : Word) (records : List (Fin 32 × CanFrame)) (s : State) :
    KeepsLegal s (execBlTxReq ch mask records s) := by simp [execBlTxReq, startTx_frame]
@[simp] theorem execBlTxCancel_keepsLegal (ch : Fin 6) (mask : Word) (s : State) : KeepsLegal s (execBlTxCancel ch mask s) := by simp [execBlTxCancel]
@[simp] theorem execCanTxDone_keepsLegal (ch : Fin 6) (buf : Fin 32) (s : State) : KeepsLegal s (execCanTxDone ch buf s) := by
  simp [execCanTxDone, startTx_frame, judgeBus_frame]
@[simp] theorem execCanTxError_keepsLegal (ch : Fin 6) (buf : Fin 32) (why : TxFailure) (s : State) : KeepsLegal s (execCanTxError ch buf why s) := by
  dsimp only [execCanTxError]
  (repeat' split) <;> simp [retryUsed_frame, txError_frame, startTx_frame]
@[simp] theorem execCanRxError_keepsLegal (ch : Fin 6) (s : State) : KeepsLegal s (execCanRxError ch s) := by simp [execCanRxError, rxError_frame]
@[simp] theorem execBusOff_keepsLegal (ch : Fin 6) (s : State) : KeepsLegal s (execBusOff ch s) := by simp [execBusOff, enterBusOff_frame]
@[simp] theorem execBusOffStale_keepsLegal (ch : Fin 6) (s : State) : KeepsLegal s (execBusOffStale ch s) := by
  dsimp only [execBusOffStale]
  (repeat' split) <;> simp
@[simp] theorem execRecovered_keepsLegal (ch : Fin 6) (s : State) : KeepsLegal s (execRecovered ch s) := by simp [execRecovered, startTx_frame]

/-! #### Engine integrity -/

@[simp] theorem execDigestQuery_keepsLegal (leg index : Nat) (q : DigestAsk) (s : State) : KeepsLegal s (execDigestQuery leg index q s) := by
  dsimp only [execDigestQuery]
  (repeat' split) <;> simp [settleDispute_frame]
@[simp] theorem execLegDigest_keepsLegal (leg digest : Nat) (s : State) : KeepsLegal s (execLegDigest leg digest s) := by
  dsimp only [execLegDigest]
  (repeat' split) <;> simp [setLeg_frame, intEvent_frame]
@[simp] theorem execTestOverdue_keepsLegal (c : ClusterAt) (s : State) : KeepsLegal s (execTestOverdue c s) := by
  simp [execTestOverdue, intEvent_frame]
@[simp] theorem execSuspectEnter_keepsLegal (c : ClusterAt) (s : State) : KeepsLegal s (execSuspectEnter c s) := by
  dsimp only [execSuspectEnter]
  (repeat' split) <;> simp [suspect_frame]
@[simp] theorem execMarginTest_keepsLegal (failed : List ClusterAt) (s : State) : KeepsLegal s (execMarginTest failed s) := by
  simp [execMarginTest, endMargin_frame, startMargin_frame]
@[simp] theorem execUncorrectableError_keepsLegal (die : Fin 25) (s : State) : KeepsLegal s (execUncorrectableError die s) := by
  simp [execUncorrectableError, chargeDie_frame, uncorrectable_frame]
@[simp] theorem execPackageResetDone_keepsLegal (early : Bool) (s : State) : KeepsLegal s (execPackageResetDone early s) := by
  dsimp only [execPackageResetDone]
  (repeat' split) <;> simp [afterReset_frame, openPackage_frame, intEvent_frame]
@[simp] theorem execDatumDiscard_keepsLegal (s : State) : KeepsLegal s (execDatumDiscard s) := by
  dsimp only [execDatumDiscard]
  (repeat' split) <;> simp
@[simp] theorem execDatumApply_keepsLegal (s : State) : KeepsLegal s (execDatumApply s) := by
  dsimp only [execDatumApply]
  (repeat' split) <;> simp [intEvent_frame]
@[simp] theorem execIntegrityPeriodic_keepsLegal (s : State) : KeepsLegal s (execIntegrityPeriodic s) := by
  simp [execIntegrityPeriodic, sendReport_frame]

/-! #### Copies -/

@[simp] theorem execCeRingTail_keepsLegal (ring : Fin 3) (tail : BitVec 16) (descs : Doorbell) (s : State) :
    KeepsLegal s (execCeRingTail ring tail descs s) := by simp [execCeRingTail, startCopies_frame]
@[simp] theorem execCeRingLayoutWrite_keepsLegal (ring : Fin 3) (base size : Option Word) (s : State) :
    KeepsLegal s (execCeRingLayoutWrite ring base size s) := by simp [execCeRingLayoutWrite]
@[simp] theorem execCopyComplete_keepsLegal (ce : Fin 8) (status : Status) (bytes digest : Nat) (s : State) :
    KeepsLegal s (execCopyComplete ce status bytes digest s) := by
  dsimp only [execCopyComplete]
  (repeat' split) <;> simp [endSched_frame, endOn_frame, startCopies_frame, setBusy_frame]
@[simp] theorem execPeerCopyRequest_keepsLegal (ord bytes : Nat) (s : State) : KeepsLegal s (execPeerCopyRequest ord bytes s) := by
  simp [execPeerCopyRequest, setBusy_frame]

/-! #### Sessions -/

@[simp] theorem execDtlsHandshake_keepsLegal (assoc : Nat) (port : Port) (cert : Cert) (ok : Bool) (s : State) :
    KeepsLegal s (execDtlsHandshake assoc port cert ok s) := by simp [execDtlsHandshake, presentChain_frame]
@[simp] theorem execDtlsClosure_keepsLegal (assoc : Nat) (s : State) : KeepsLegal s (execDtlsClosure assoc s) := by
  simp [execDtlsClosure, endAssocSession_frame]
@[simp] theorem execKeyUpdate_keepsLegal (assoc : Nat) (s : State) : KeepsLegal s (execKeyUpdate assoc s) := by simp [execKeyUpdate]
@[simp] theorem execMalformed_keepsLegal (s : State) : KeepsLegal s (execMalformed s) := by simp [execMalformed]
@[simp] theorem execSessionTimeout_keepsLegal (sid : BitVec 16) (s : State) : KeepsLegal s (execSessionTimeout sid s) := by
  dsimp only [execSessionTimeout]
  (repeat' split) <;> simp [endSession_frame]
@[simp] theorem execHello_keepsLegal (h : Hdr) (majors minor1 minor2 : BitVec 8) (caps : BitVec 64) (name : Nat) (s : State) :
    KeepsLegal s (execHello h majors minor1 minor2 caps name s) := by
  dsimp only [execHello]
  (repeat' split) <;> simp [helloJudged_frame]
@[simp] theorem execTelemetrySample_keepsLegal (s : State) : KeepsLegal s (execTelemetrySample s) := by simp [execTelemetrySample, sampleOne_frame]

/-! #### Traverses -/

@[simp] theorem execLoadDone_keepsLegal (img : Image) (manifestOk : Bool) (s : State) : KeepsLegal s (execLoadDone img manifestOk s) := by
  dsimp only [execLoadDone]
  (repeat' split) <;> simp [endLoadUpdate_frame, loadFailed_frame, afterLoad_frame, loaded_frame]
/-- The first leg: the placement chosen, and for FROM = 1 the checkpoint found, keep the BMU-1; so do the leg and the end of the request. -/
@[simp] theorem execTraverseFirstLeg_keepsLegal (out : EngineOut) (work : FirstWork) (s : State) :
    KeepsLegal s (execTraverseFirstLeg out work s) := by
  dsimp only [execTraverseFirstLeg]
  split
  next o _ _ _ _ =>
    split
    · simp
    split
    next a hp =>
      have ha : a.bmu = s.bmu := choosePlacement_eq_bmu hp
      split
      · split
        next c b hc => cases o <;> simp [soundCkpt_eq_bmu hc, ha, firstLeg_frame]
        next b hc => cases o <;> simp [soundCkpt_eq_bmu hc, ha, faultSeq_frame]
      · cases o <;> simp [ha, firstLeg_frame]
    all_goals
      next a hp =>
      have ha : a.bmu = s.bmu := choosePlacement_eq_bmu hp
      cases o <;> simp [ha, faultSeq_frame]
  · simp
/-- What a boundary does to the placement stays within the frames of its parts; the case split is on what the boundary decides. -/
@[simp] theorem execLegStart_keepsLegal (out : EngineOut) (work : LegWork) (s : State) : KeepsLegal s (execLegStart out work s) := by
  have hs : (boundaryWork (releaseAt (s.seqr.leg + 1) (endRotation s))).bmu = s.bmu := by
    simp [boundaryWork_frame, releaseAt_frame, endRotation_frame]
  dsimp only [execLegStart]
  split
  · split
    case h_3 =>
      split
      · split
        all_goals
          next a hp =>
          have ha : a.bmu = s.bmu := (choosePlacement_eq_bmu hp).trans hs
          simp [ha, startRestore_frame, beginLeg_frame, switchRoute_frame, faultSeq_frame, tellHall_frame]
      · simp [hs]
    all_goals simp [hs, stopTraverse_frame, rollback_frame, hallRestore_frame, startRestore_frame, beginLeg_frame, switchRoute_frame]
  · simp
@[simp] theorem execChecksClosed_keepsLegal (s : State) : KeepsLegal s (execChecksClosed s) := by
  dsimp only [execChecksClosed]
  (repeat' split) <;> simp [closeLeg_frame]
@[simp] theorem execRestoreResume_keepsLegal (digests : Nat × Nat) (out : EngineOut) (work : LegWork) (s : State) :
    KeepsLegal s (execRestoreResume digests out work s) := by
  dsimp only [execRestoreResume]
  split
  · split
    next c a hc => simp [soundCkpt_eq_bmu hc, resume_frame]
    next a hc => simp [soundCkpt_eq_bmu hc, faultSeq_frame]
  · simp
@[simp] theorem execEngineStartup_keepsLegal (s : State) : KeepsLegal s (execEngineStartup s) := by
  dsimp only [execEngineStartup]
  (repeat' split) <;> simp [openPackage_frame, startLoad_frame]

/-! #### Keeper and Relief -/

@[simp] theorem execFlashEmit_keepsLegal (s : State) : KeepsLegal s (execFlashEmit s) := by simp [execFlashEmit]
@[simp] theorem execFlashReceive_keepsLegal (onPair : Bool) (msg : FlashMsg) (s : State) : KeepsLegal s (execFlashReceive onPair msg s) := by
  simp [execFlashReceive, chainFlash_frame]
@[simp] theorem execFlashMiss_keepsLegal (s : State) : KeepsLegal s (execFlashMiss s) := by simp [execFlashMiss]
@[simp] theorem execFlashPairLost_keepsLegal (s : State) : KeepsLegal s (execFlashPairLost s) := by simp [execFlashPairLost]
@[simp] theorem execLampStuck_keepsLegal (s : State) : KeepsLegal s (execLampStuck s) := by simp [execLampStuck]
@[simp] theorem execLockstepMismatch_keepsLegal (s : State) : KeepsLegal s (execLockstepMismatch s) := by
  dsimp only [execLockstepMismatch]
  (repeat' split) <;> simp
@[simp] theorem execDeadmanRelease_keepsLegal (s : State) : KeepsLegal s (execDeadmanRelease s) := by simp [execDeadmanRelease]
@[simp] theorem execLampReleaseSeen_keepsLegal (s : State) : KeepsLegal s (execLampReleaseSeen s) := by simp [execLampReleaseSeen]
@[simp] theorem execClaim_keepsLegal (s : State) : KeepsLegal s (execClaim s) := by simp [execClaim, takeLamp_frame]
@[simp] theorem execStageLatchClear_keepsLegal (s : State) : KeepsLegal s (execStageLatchClear s) := by
  dsimp only [execStageLatchClear]
  (repeat' split) <;> simp [yieldLamp_frame]
@[simp] theorem execSimultaneous_keepsLegal (s : State) : KeepsLegal s (execSimultaneous s) := by
  dsimp only [execSimultaneous]
  (repeat' split) <;> simp [dropTx_frame]
@[simp] theorem execStageLatchSet_keepsLegal (s : State) : KeepsLegal s (execStageLatchSet s) := by simp [execStageLatchSet]
@[simp] theorem execRoleDecision_keepsLegal (lines : RoleLines) (s : State) : KeepsLegal s (execRoleDecision lines s) := by simp [execRoleDecision]
@[simp] theorem execHandoverReady_keepsLegal (s : State) : KeepsLegal s (execHandoverReady s) := by
  dsimp only [execHandoverReady]
  (repeat' split) <;> simp
@[simp] theorem execHandoverAbandon_keepsLegal (s : State) : KeepsLegal s (execHandoverAbandon s) := by
  dsimp only [execHandoverAbandon]
  (repeat' split) <;> simp
@[simp] theorem execHandoverLampRelease_keepsLegal (s : State) : KeepsLegal s (execHandoverLampRelease s) := by
  dsimp only [execHandoverLampRelease]
  (repeat' split) <;> simp
@[simp] theorem execHealthReportSend_keepsLegal (s : State) : KeepsLegal s (execHealthReportSend s) := by simp [execHealthReportSend]
@[simp] theorem execHealth_keepsLegal (r : HealthReport) (s : State) : KeepsLegal s (execHealth r s) := by
  simp [execHealth, comparePairIds_frame, watchHealth_frame, askHandover_frame]
@[simp] theorem execReliefUnhealthy_keepsLegal (s : State) : KeepsLegal s (execReliefUnhealthy s) := by simp [execReliefUnhealthy, watchHealth_frame]
@[simp] theorem execTestWindowRequest_keepsLegal (ch : Fin 96) (s : State) : KeepsLegal s (execTestWindowRequest ch s) := by
  simp [execTestWindowRequest]
@[simp] theorem execStageTestPulse_keepsLegal (ch : Fin 96) (mA : Nat) (otherDrives : Bool) (s : State) :
    KeepsLegal s (execStageTestPulse ch mA otherDrives s) := by simp [execStageTestPulse]
@[simp] theorem execMirror_keepsLegal (item : MirrorMsg) (s : State) : KeepsLegal s (execMirror item s) := by
  simp [execMirror, mirrorItem_frame, mirrorMismatch_frame]
@[simp] theorem execResyncPhaseDone_keepsLegal (pairIdEqual : Bool) (moved : Nat) (digestOk : Bool) (s : State) :
    KeepsLegal s (execResyncPhaseDone pairIdEqual moved digestOk s) := by
  dsimp only [execResyncPhaseDone]
  (repeat' split) <;> simp [loadForResync_frame, askJoin_frame]
@[simp] theorem execResyncJoin_keepsLegal (s : State) : KeepsLegal s (execResyncJoin s) := by
  simp [execResyncJoin, joinNow_frame, startRestore_frame, setDies_frame]

/-! #### Chain links -/

@[simp] theorem execHallCtrl_keepsLegal (m : HallMsg) (s : State) : KeepsLegal s (execHallCtrl m s) := by
  dsimp only [execHallCtrl]
  (repeat' split) <;> simp [noteLink_frame, nameRestore_frame]
@[simp] theorem execLinkLocked_keepsLegal (l : Fin 32) (hallCount_ arrival echoCount echoAge : Nat) (s : State) :
    KeepsLegal s (execLinkLocked l hallCount_ arrival echoCount echoAge s) := by simp [execLinkLocked, takeRef_frame, checkCount_frame]
@[simp] theorem execUnlocked_keepsLegal (s : State) : KeepsLegal s (execUnlocked s) := by
  dsimp only [execUnlocked]
  (repeat' split) <;> simp [stopHall_frame]
@[simp] theorem execLinkDown_keepsLegal (l : Fin 32) (cause : LinkCause) (s : State) : KeepsLegal s (execLinkDown l cause s) := by
  dsimp only [execLinkDown]
  (repeat' split) <;> simp [linkFalls_frame]
@[simp] theorem execLinkDegraded_keepsLegal (l : Fin 32) (ser : Nat) (s : State) : KeepsLegal s (execLinkDegraded l ser s) := by
  simp [execLinkDegraded]
@[simp] theorem execLinkSignal_keepsLegal (l : Fin 32) (s : State) : KeepsLegal s (execLinkSignal l s) := by simp [execLinkSignal]
@[simp] theorem execCodewordLock_keepsLegal (l : Fin 32) (kind length power : Nat) (s : State) :
    KeepsLegal s (execCodewordLock l kind length power s) := by simp [execCodewordLock]
@[simp] theorem execLinkTrainTimeout_keepsLegal (l : Fin 32) (s : State) : KeepsLegal s (execLinkTrainTimeout l s) := by simp [execLinkTrainTimeout]
@[simp] theorem execLinkUp_keepsLegal (l : Fin 32) (delay : Nat) (s : State) : KeepsLegal s (execLinkUp l delay s) := by
  dsimp only [execLinkUp]
  (repeat' split) <;> simp [leaveMirror_frame, loseRef_frame, reportLink_frame]
@[simp] theorem execLinkBackoffEnd_keepsLegal (l : Fin 32) (s : State) : KeepsLegal s (execLinkBackoffEnd l s) := by simp [execLinkBackoffEnd]
@[simp] theorem execLinkBlock_keepsLegal (l : Fin 32) (b : LinkBlockIn) (s : State) : KeepsLegal s (execLinkBlock l b s) := by
  simp [execLinkBlock, badBlock_frame, poisonLeg_frame, takeIdentity_frame, checkCount_frame, forwardBlock_frame, takeService_frame]
@[simp] theorem execBeatLate_keepsLegal (l : Fin 32) (s : State) : KeepsLegal s (execBeatLate l s) := by
  simp [execBeatLate, poisonLeg_frame, linkFalls_frame]
@[simp] theorem execRouteReturn_keepsLegal (set : Fin 4) (s : State) : KeepsLegal s (execRouteReturn set s) := by
  dsimp only [execRouteReturn]
  (repeat' split) <;> simp [nameRoute_frame]
@[simp] theorem execServiceRetransmit_keepsLegal (l : Fin 32) (s : State) : KeepsLegal s (execServiceRetransmit l s) := by
  dsimp only [execServiceRetransmit]
  (repeat' split) <;> simp [linkFalls_frame]
@[simp] theorem execAck_keepsLegal (l : Fin 32) (s : State) : KeepsLegal s (execAck l s) := by
  dsimp only [execAck]
  (repeat' split) <;> simp
@[simp] theorem execBulkOpen_keepsLegal (ord : Nat) (session : BitVec 16) (bytes dst deliverBy : Nat) (s : State) :
    KeepsLegal s (execBulkOpen ord session bytes dst deliverBy s) := by simp [execBulkOpen]
@[simp] theorem execBulkReply_keepsLegal (ord : Nat) (session : BitVec 16) (status : Status) (s : State) :
    KeepsLegal s (execBulkReply ord session status s) := by simp [execBulkReply, startCopies_frame, endRunning_frame]
@[simp] theorem execBulkClose_keepsLegal (ord : Nat) (session : BitVec 16) (_status : Status) (_bytes : Nat) (s : State) :
    KeepsLegal s (execBulkClose ord session _status _bytes s) := by simp [execBulkClose, startCopies_frame]

/-! #### Clocks and rails -/

@[simp] theorem execPtpAnnounce_keepsLegal (port : InputId) (better : Bool) (gmClass : BitVec 8) (s : State) :
    KeepsLegal s (execPtpAnnounce port better gmClass s) := by simp [execPtpAnnounce]
@[simp] theorem execPtpSync_keepsLegal (port : InputId) (offset : Int) (pathDelay : Nat) (s : State) :
    KeepsLegal s (execPtpSync port offset pathDelay s) := by simp [execPtpSync, steerTo_frame]
@[simp] theorem execPtpHoldover_keepsLegal (s : State) : KeepsLegal s (execPtpHoldover s) := by
  dsimp only [execPtpHoldover]
  (repeat' split) <;> simp
@[simp] theorem execTimeStep_keepsLegal (s : State) : KeepsLegal s (execTimeStep s) := by
  dsimp only [execTimeStep]
  (repeat' split) <;> simp
@[simp] theorem execRailFault_keepsLegal (r : Rail) (die : Option (Fin 24)) (s : State) : KeepsLegal s (execRailFault r die s) := by
  dsimp only [execRailFault]
  (repeat' split) <;> simp [beginReset_frame, holdOutputs_frame, linkFalls_frame, uncorrectable_frame, chargeDie_frame]
@[simp] theorem execRootFail_keepsLegal (s : State) : KeepsLegal s (execRootFail s) := by simp [execRootFail, askHandover_frame]
@[simp] theorem execPllUnlock_keepsLegal (pllA : Bool) (s : State) : KeepsLegal s (execPllUnlock pllA s) := by simp [execPllUnlock]

/-! #### Firmware -/

@[simp] theorem execDeckHeartbeat_keepsLegal (s : State) : KeepsLegal s (execDeckHeartbeat s) := by simp [execDeckHeartbeat, comparePairIds_frame]
@[simp] theorem execDeckTimeout_keepsLegal (s : State) : KeepsLegal s (execDeckTimeout s) := by
  simp [execDeckTimeout, restartDeck_frame, haltDeck_frame]
@[simp] theorem execUpdateVerifyDone_keepsLegal (unit : Fin 7) (signed : Bool) (signer : Option ImgSigner) (hashOk : Bool) (s : State) :
    KeepsLegal s (execUpdateVerifyDone unit signed signer hashOk s) := by
  dsimp only [execUpdateVerifyDone]
  (repeat' split) <;> simp
@[simp] theorem execTrialBoot_keepsLegal (unit : Fin 7) (s : State) : KeepsLegal s (execTrialBoot unit s) := by
  simp [execTrialBoot, rollUnit_frame, issueAlias_frame, formCdi_frame, restartTraverse_frame]
@[simp] theorem execHealthyMinute_keepsLegal (unit : Fin 7) (s : State) : KeepsLegal s (execHealthyMinute unit s) := by
  simp [execHealthyMinute, confirm_frame]

/-! #### The card-bus frame -/

@[simp] theorem execCardBusFrame_keepsLegal (up : List Uplink) (s : State) : KeepsLegal s (execCardBusFrame up s) := by simp [execCardBusFrame]

/-! #### The Logbook -/

@[simp] theorem execActionAfter_keepsLegal (s : State) : KeepsLegal s (execActionAfter s) := by simp [execActionAfter, writeAfter_frame]
@[simp] theorem execLoopTrace_keepsLegal (s : State) : KeepsLegal s (execLoopTrace s) := by simp [execLoopTrace]

/-! #### Motor channels -/

@[simp] theorem execKickExit_keepsLegal (ch : Fin 48) (s : State) : KeepsLegal s (execKickExit ch s) := by simp [execKickExit, motorTo_frame]
@[simp] theorem execKickTimeout_keepsLegal (ch : Fin 48) (s : State) : KeepsLegal s (execKickTimeout ch s) := by
  simp [execKickTimeout, failMotor_frame]
@[simp] theorem execRampDone_keepsLegal (ch : Fin 48) (s : State) : KeepsLegal s (execRampDone ch s) := by simp [execRampDone, motorReached_frame]
@[simp] theorem execTachLow_keepsLegal (ch : Fin 48) (s : State) : KeepsLegal s (execTachLow ch s) := by
  dsimp only [execTachLow]
  (repeat' split) <;> simp [failMotor_frame]
@[simp] theorem execDriveFault_keepsLegal (ch : Fin 48) (s : State) : KeepsLegal s (execDriveFault ch s) := by
  dsimp only [execDriveFault]
  (repeat' split) <;> simp [failMotor_frame]
@[simp] theorem execBackoffEnd_keepsLegal (ch : Fin 48) (s : State) : KeepsLegal s (execBackoffEnd ch s) := by simp [execBackoffEnd, motorTo_frame]
@[simp] theorem execFailuresReset_keepsLegal (ch : Fin 48) (s : State) : KeepsLegal s (execFailuresReset ch s) := by
  dsimp only [execFailuresReset]
  (repeat' split) <;> simp
@[simp] theorem execEncoderIndex_keepsLegal (ch : Fin 48) (edge : Int) (s : State) : KeepsLegal s (execEncoderIndex ch edge s) := by
  simp [execEncoderIndex]

/-! #### Valve channels -/

@[simp] theorem execPeakEnd_keepsLegal (ch : Fin 96) (s : State) : KeepsLegal s (execPeakEnd ch s) := by simp [execPeakEnd, completeValve_frame]
@[simp] theorem execPeakReached_keepsLegal (ch : Fin 96) (t : Nat) (mA : Nat) (s : State) : KeepsLegal s (execPeakReached ch t mA s) := by
  simp [execPeakReached]
@[simp] theorem execTtpTimeout_keepsLegal (ch : Fin 96) (s : State) : KeepsLegal s (execTtpTimeout ch s) := by simp [execTtpTimeout]
@[simp] theorem execDipFound_keepsLegal (ch : Fin 96) (t : Nat) (mA : Nat) (s : State) : KeepsLegal s (execDipFound ch t mA s) := by
  simp [execDipFound, dipJudged_frame]
@[simp] theorem execDipEnd_keepsLegal (ch : Fin 96) (s : State) : KeepsLegal s (execDipEnd ch s) := by simp [execDipEnd, dipJudged_frame]
@[simp] theorem execReleaseDone_keepsLegal (ch : Fin 96) (s : State) : KeepsLegal s (execReleaseDone ch s) := by
  dsimp only [execReleaseDone]
  (repeat' split) <;> simp [completeValve_frame]
@[simp] theorem execReleaseFault_keepsLegal (ch : Fin 96) (s : State) : KeepsLegal s (execReleaseFault ch s) := by
  simp [execReleaseFault, dropValveCmd_frame]
@[simp] theorem execValveTrip_keepsLegal (ch : Fin 96) (mA : Nat) (s : State) : KeepsLegal s (execValveTrip ch mA s) := by
  simp [execValveTrip, dropValveCmd_frame, unstamp_frame]
@[simp] theorem execOpenLoad_keepsLegal (ch : Fin 96) (s : State) : KeepsLegal s (execOpenLoad ch s) := by simp [execOpenLoad]
@[simp] theorem execDutyExpire_keepsLegal (ch : Fin 96) (s : State) : KeepsLegal s (execDutyExpire ch s) := by simp [execDutyExpire]
@[simp] theorem execTestPulseEnd_keepsLegal (ch : Fin 96) (mA : Nat) (s : State) : KeepsLegal s (execTestPulseEnd ch mA s) := by
  simp [execTestPulseEnd]

/-- R2, R488: a command outside the BMU-1 keeps the legally relevant data. -/
theorem exec_keepsLegal {c : Instr} (hc : ofBmu c = false) (s : State) : KeepsLegal s (exec c s) := by
  cases c with
  | registerWrite h off values =>
    cases values with
    | words vs => exact (keepsLegal_next _ _).2 (writeRegs_legal h off.toNat vs s)
    | site i => exact keepsLegal_of_answer fun _ u => siteAnswer_keepsLegal i u
  | hwPanelWrite | loopOutWrite | aoOutWrite | beaconCtrlWrite | loopPumpRestore | leakRelease | rackCfgWrite | dieRetire | dieRestore
  | join | linkRetrain | linkEnable | blRecover | calNow | auxCfgWrite | auxOutLevel | tripClear | restartsExhaustedClear
  | encoderFaultClear | intCtrlWrite | serviceEnClear => exact (keepsLegal_next _ _).2 (writeRegs_legal _ _ _ s)
  | locate | envelopeSet | capAck | preview | previewCancel | policySet | datumPush | integrityReport | abortCopy | bye | read | readMulti
  | subscribe | unsubscribe | traverseLoad | traverseStart | traverseStop | handover | writeGroup | updateBegin | updateChunk | updateVerify
  | updateActivate | updateConfirm | updateAbort | logSnapshot | logRead | abortMotor | abortValve =>
    exact keepsLegal_of_answer fun _ _ => by simp [setLocate_frame, endSession_frame]
  | reserveStart | dpHighCut | primaryValveOpen | supplyOvertempCapdown | primaryValveClose | rackFlowLow | rackReturnHigh
  | returnHighCapcut => exact (keepsLegal_next _ _).2 (rowAfter_legal _ _ s)
  | modeSet | modeSetFallback => exact (keepsLegal_next _ _).2 (modeSet_legal _ _ s)
  | energise | release | testPulse => exact (keepsLegal_next _ _).2 (valveCmd_legal _ _ _ s)
  | motorRun | motorStop => exact (keepsLegal_next _ _).2 (motorCmd_legal _ _ _ _ s)
  | _ => simp [ofBmu, exec] at hc ⊢

/-- Settles O54: each command outside the BMU-1 leaves `Bmu.legalPart` as it is, and the statement names the fields it forgets. -/
theorem legalDataIsolated : Obligations.LegalDataIsolated := by
  intro c s t hc ht
  exact Bmu.eq_of_legalPart (exec_keepsLegal hc s t ht)

end Sys2Proof.Machine
end
section
/-! R395, R398: what a reply leaves unchanged, said with the frames of the statements, and the map of registers under a write. -/

namespace Sys2Proof.Machine

open Sys2Proof Sys2Proof.Safety

/-! ### Frames -/

theorem changesOnly_trans {ps : List Part} {s t u : State} (h : ChangesOnly ps s t) (k : ChangesOnly ps t u) : ChangesOnly ps s u := by
  intro p hp
  have h1 := h p hp
  have h2 := k p hp
  cases p <;> exact h2.trans h1

theorem changesOnly_mono {ps qs : List Part} {s t : State} (h : ChangesOnly ps s t) (hs : ps ⊆ qs) : ChangesOnly qs s t :=
  fun p hp => h p fun hm => hp (hs hm)

theorem regsOnly_trans {l : List (Nat × Nat)} {s t u : State} (h : RegsOnly l s t) (k : RegsOnly l t u) : RegsOnly l s u :=
  fun v off ho hl hr => (k v off ho hl hr).trans (h v off ho hl hr)

theorem regsOnly_of_regs {l : List (Nat × Nat)} {s t : State} (h : t.regs = s.regs) : RegsOnly l s t :=
  fun v off _ _ _ => State.reg_congr h v off

theorem touch_changesOnly (h : Hdr) (sid : BitVec 16) (s : State) : ChangesOnly [.vcp] s (touch h sid s) := by
  intro p hp
  cases p <;> simp [Part.Same] at hp ⊢

theorem finish_changesOnly (op : Op) (h : Hdr) (i : Nat) (st : Status) (d : Nat) (c : Time) (l : List Nat) (s : State) :
    ChangesOnly [.outbox, .regs, .vcp] s (finish op h i st d c l s) := by
  intro p hp
  cases p <;> simp [Part.Same] at hp ⊢

theorem finish_regsOnly (op : Op) (h : Hdr) (i : Nat) (st : Status) (d : Nat) (c : Time) (l : List Nat) (s : State) :
    RegsOnly [] s (finish op h i st d c l s) :=
  fun _ _ ho _ hr => finish_reg hr ho op h i st d c l s

/-- R395: a reply leaves, with the DETAIL it names. -/
theorem finish_sends_detail (op : Op) (h : Hdr) (i : Nat) (st : Status) (d : Nat) (c : Time) (l : List Nat) (s : State) :
    Sends (.reply h.version h.opcode h.session h.sequence h.unit.toNat st d c l) s (finish op h i st d c l s) := by
  unfold finish
  dsimp only
  split
  · obtain ⟨m, hm⟩ := toPartner_outbox (.reply i h.sequence st c) (keepReply i h.sequence st c (countReply st s))
    exact ⟨.reply h.version h.opcode h.session h.sequence h.unit.toNat st d c l :: m, by simp [sendReply, State.emit, hm], by simp⟩
  · exact ⟨[.reply h.version h.opcode h.session h.sequence h.unit.toNat st d c l], by simp [sendReply, State.emit], by simp⟩

/-- A request its opcode refuses is answered with the status and DETAIL, and changes nothing else. -/
theorem vcp_refuse_spec {op : Op} {h : Hdr} {e : Session} {s u : State} {body : Session → State → Answer} {st : Status} {d : Nat}
    (hu : u = touch h e.id s) (hs : Served op h e s) (hb : body e u = .refuse st d) :
    Sends (.reply h.version h.opcode h.session h.sequence h.unit.toNat st d 0 []) s (vcp op h body s)
      ∧ ChangesOnly [.outbox, .regs, .vcp] s (vcp op h body s) ∧ RegsOnly [] s (vcp op h body s) := by
  rw [vcp_refuse hu hs hb]
  subst hu
  exact ⟨sends_from (finish_sends_detail ..) (touch_outbox ..),
    changesOnly_trans (changesOnly_mono (touch_changesOnly h e.id s) (by simp)) (finish_changesOnly _ _ _ _ _ _ _ _),
    regsOnly_trans (regsOnly_of_regs (touch_regs h e.id s)) (finish_regsOnly _ _ _ _ _ _ _ _)⟩

/-! ### The register maps -/

/-- Every row of the list ends below offset 0x1000, the first address past a unit (R7). -/
def rowsFit (l : List RegRow) : Bool := l.all fun r => decide (0 < r.stride) && decide (r.off + r.stride * r.count ≤ 0x1000)

theorem rowsFit_unitRegs (u : Nat) : rowsFit (unitRegs u) = true := by
  unfold unitRegs
  dsimp only
  (repeat' split) <;> decide +kernel

/-- A register of a unit has an offset below 0x1000. -/
theorem off_lt_of_findReg {u off : Nat} {r : RegRow} (h : findReg u off = some r) : off < 0x1000 := by
  have hr := List.all_eq_true.1 (rowsFit_unitRegs u) r (List.mem_of_find?_eq_some h)
  have hh : r.hits off = true := by simpa using List.find?_some (p := fun r : RegRow => r.hits off) h
  simp only [RegRow.hits, Bool.and_eq_true, decide_eq_true_eq] at hr hh
  obtain ⟨hst, hend⟩ := hr
  obtain ⟨⟨hlo, -⟩, hcount⟩ := hh
  have := (Nat.div_lt_iff_lt_mul hst).1 hcount
  have hcomm : r.count * r.stride = r.stride * r.count := Nat.mul_comm ..
  omega

/-! ### Reads (R7, R406) -/

/-- No row of the list at the offset is one that a read clears. -/
def keptByRead (l : List RegRow) (off : Nat) : Bool := (l.find? fun r => r.hits off).all fun r => decide (r.acc ≠ .rc)

theorem acc_of_keptByRead {u off : Nat} {r : RegRow} (hk : keptByRead (unitRegs u) off = true) (hr : findReg u off = some r) : r.acc ≠ .rc := by
  unfold findReg at hr
  simpa [keptByRead, hr] using hk

/-- A latched HI register lies below 0x1000, and no read clears it. -/
theorem latchOf_spec {s : State} {u off : Nat} {x : Nat × Word} (h : x ∈ latchOf s u off) :
    x.1 < 0x1000 ∧ keptByRead (unitRegs u) x.1 = true := by
  have hlist : ∀ {l : List (Nat × Word)}, x ∈ l →
      ((l.map (·.1)).all fun o => decide (o < 0x1000) && keptByRead (unitRegs u) o) = true → x.1 < 0x1000 ∧ keptByRead (unitRegs u) x.1 = true :=
    fun hx hl => by simpa using List.all_eq_true.1 hl _ (List.mem_map_of_mem hx)
  refine hlist h ?_
  unfold latchOf unitRegs
  dsimp only
  split
  case h_1 hc | h_2 hc | h_3 hc | h_4 hc | h_5 hc =>
    simp only [hc]
    (repeat' split) <;> simp only [List.map_cons, List.map_nil] <;> decide +kernel
  · rfl

section
variable {v o : Nat} {r : RegRow} (hf : findReg v o = some r) (hrc : r.acc = .rc)
include hf hrc

theorem latched_reg_rc (u off : Nat) (s z : State) :
    ((latchOf z u off).foldl (fun a e => a.setReg u e.1 e.2) s).reg v o = s.reg v o := by
  have hl : ∀ x ∈ latchOf z u off, x.1 < 0x1000 ∧ keptByRead (unitRegs u) x.1 = true := fun x hx => latchOf_spec hx
  generalize latchOf z u off = l at hl
  induction l generalizing s with
  | nil => rfl
  | cons x l ih =>
    obtain ⟨hlt, hk⟩ := hl x (by simp)
    rw [List.foldl_cons, ih _ fun y hy => hl y (by simp [hy])]
    refine s.reg_setReg_other _ hlt (off_lt_of_findReg hf) ?_
    rintro ⟨rfl, rfl⟩
    exact acc_of_keptByRead hk hf hrc

/-- R7, R448: a read clears the RC register it reads, PWR_XRESET apart, and no other RC register. -/
theorem afterRead_reg_rc (hx : (v, o) ≠ (U.sys, Off.pwrXreset)) (u off : Nat) (s : State) :
    (afterRead u off s).reg v o = if (v, o) = (u, off) then 0 else s.reg v o := by
  have hl := latched_reg_rc hf hrc u off s s
  have hother : ∀ {w : Nat × Nat} {q : RegRow} (x : Word) (a : State), findReg w.1 w.2 = some q → (v, o) ≠ w →
      (a.setReg w.1 w.2 x).reg v o = a.reg v o := fun x a hq hne =>
    a.reg_setReg_other x (off_lt_of_findReg hq) (off_lt_of_findReg hf) fun ⟨h1, h2⟩ => hne (Prod.ext h1 h2)
  have hmod : ∀ (p : Prop) [Decidable p] (a : State) (g : Aux → Aux), (if p then a.modAux (unitInst u) g else a).reg v o = a.reg v o :=
    fun p _ a g => by split <;> rfl
  unfold afterRead
  dsimp only
  rw [hmod]
  split
  next q hq =>
    by_cases he : (v, o) = (u, off)
    · obtain ⟨rfl, rfl⟩ := Prod.mk.inj he
      obtain rfl : q = r := Option.some.inj (hq.symm.trans hf)
      have hx' : ¬ (v = U.sys ∧ o = Off.pwrXreset) := fun ⟨h1, h2⟩ => hx (by rw [h1, h2])
      simp [hrc, hx']
    · rw [if_neg he, ← hl]
      split
      · split
        · exact hother (w := (u, off)) _ _ hq he
        · exact hother (w := (u, off)) _ _ hq he
      · rfl
  next hq =>
    have he : (v, o) ≠ (u, off) := by
      rintro h
      obtain ⟨rfl, rfl⟩ := Prod.mk.inj h
      simp [hq] at hf
    rw [if_neg he, hl]

theorem foldl_afterRead_reg_rc (hx : (v, o) ≠ (U.sys, Off.pwrXreset)) (l : List (Nat × Nat)) (s : State) :
    (l.foldl (fun a e => afterRead e.1 e.2 a) s).reg v o = if (v, o) ∈ l then 0 else s.reg v o := by
  induction l generalizing s with
  | nil => rfl
  | cons x l ih =>
    rw [List.foldl_cons, ih, afterRead_reg_rc hf hrc hx]
    by_cases h1 : (v, o) ∈ l <;> simp [h1]

end

/-- The state a read leaves, without the values it answers. -/
theorem readAll_snd (grp sel : Word) (l : List (Nat × Nat)) (s : State) :
    (readAll grp sel l s).2 = l.foldl (fun a e => afterRead e.1 e.2 a) s :=
  (List.foldl_hom Prod.snd
    (g₁ := fun (a : List Nat × State) (e : Nat × Nat) => (a.1 ++ [(regRead a.2 grp sel e.1 e.2).toNat], afterRead e.1 e.2 a.2))
    (g₂ := fun a e => afterRead e.1 e.2 a) fun _ _ => rfl).symm

theorem readAll_length (grp sel : Word) (l : List (Nat × Nat)) (s : State) : (readAll grp sel l s).1.length = l.length := by
  have h : ∀ (l : List (Nat × Nat)) (a : List Nat × State),
      (l.foldl (fun a e => (a.1 ++ [(regRead a.2 grp sel e.1 e.2).toNat], afterRead e.1 e.2 a.2)) a).1.length = a.1.length + l.length := by
    intro l
    induction l with
    | nil => simp
    | cons x l ih => intro a; rw [List.foldl_cons, ih]; simp; omega
  exact (h l ([], s)).trans (by simp)

theorem readAll_changesOnly (grp sel : Word) (l : List (Nat × Nat)) (s : State) : ChangesOnly [.auxs, .regs] s (readAll grp sel l s).2 := by
  intro p hp
  cases p <;> simp [Part.Same, readAll_frame] at hp ⊢

/-- A request whose answer reads registers replies their values, and leaves what reading them leaves. -/
theorem vcp_readAll {op : Op} {h : Hdr} {e : Session} {s u : State} {body : Session → State → Answer} {l : List (Nat × Nat)}
    (hu : u = touch h e.id s) (hs : Served op h e s) (hd : deadlineMissed h s.now s.now = false)
    (hb : body e u = .done u.now (readAll e.grpSel e.clSel l u).1 (readAll e.grpSel e.clSel l u).2) :
    vcp op h body s = finish op h e.identity .ok 0 s.now (readAll e.grpSel e.clSel l u).1 (readAll e.grpSel e.clSel l u).2
      ∧ Answers h .ok s.now (readAll e.grpSel e.clSel l u).1 s (vcp op h body s)
      ∧ ChangesOnly [.auxs, .outbox, .regs, .vcp] s (vcp op h body s) := by
  have hn : u.now = s.now := by simp [hu]
  have he := vcp_done hu hs (hb.trans (by rw [hn])) hd
  refine ⟨he, ?_, ?_⟩ <;> rw [he]
  · exact finish_sends_from _ _ _ _ _ _ ⟨[], by simp [readAll_frame, hu]⟩
  · have hread := readAll_changesOnly e.grpSel e.clSel l u
    refine changesOnly_trans (t := u) ?_
      (changesOnly_trans (changesOnly_mono hread (by simp)) (changesOnly_mono (finish_changesOnly _ _ _ _ _ _ _ _) (by simp)))
    rw [hu]
    exact changesOnly_mono (touch_changesOnly h e.id s) (by simp)

/-! ### The entry READ_MULTI refuses -/

theorem findIdxOpt_eq_none {α : Type} (p : α → Bool) (l : List α) (k : Nat) : findIdxOpt p l k = none ↔ ∀ x ∈ l, p x = false := by
  induction l generalizing k with
  | nil => simp [findIdxOpt]
  | cons a l ih => cases h : p a <;> simp [findIdxOpt, h, ih]

/-- The first index at which `p` holds. -/
theorem findIdxOpt_eq_some {α : Type} {p : α → Bool} {l : List α} {d : α} {i : Nat} (k : Nat) (hi : i < l.length)
    (hlt : ∀ j, j < i → p (l.getD j d) = false) (hp : p (l.getD i d) = true) : findIdxOpt p l k = some (k + i) := by
  induction l generalizing i k with
  | nil => simp at hi
  | cons a l ih =>
    cases i with
    | zero => simp [findIdxOpt] at hp ⊢; simp [hp]
    | succ i =>
      have ha : p a = false := hlt 0 (by omega)
      have := ih (k + 1) (by simpa using hi) (fun j hj => hlt (j + 1) (by omega)) hp
      simp [findIdxOpt, ha, this]
      omega

/-! ### READ and READ_MULTI -/

theorem readAnswer_inRange {u off count : Nat} {e : Session} {s : State} (h1 : 1 ≤ count) (h64 : count ≤ 64) :
    readAnswer u off count e s
      = .done s.now (readAll e.grpSel e.clSel (rangeOf u off count) s).1 (readAll e.grpSel e.clSel (rangeOf u off count) s).2 :=
  if_neg (by omega)

section
variable {l : List (Nat × Nat)} {e : Session} {s : State} (h1 : 1 ≤ l.length) (h64 : l.length ≤ 64)
include h1 h64

theorem readMultiAnswer_all (hok : ∀ x ∈ l, entryRefusal s e x.1 x.2 = none) :
    readMultiAnswer l e s = .done s.now (readAll e.grpSel e.clSel l s).1 (readAll e.grpSel e.clSel l s).2 := by
  have hnone := (findIdxOpt_eq_none (fun x => (entryRefusal s e x.1 x.2).isSome) l 0).2 fun x hx => by simp [hok x hx]
  unfold readMultiAnswer
  rw [if_neg (by omega), hnone]

theorem readMultiAnswer_first {i : Nat} {st : Status} (hi : i < l.length)
    (hlt : ∀ j, j < i → entryRefusal s e (l.getD j (0, 0)).1 (l.getD j (0, 0)).2 = none)
    (hst : entryRefusal s e (l.getD i (0, 0)).1 (l.getD i (0, 0)).2 = some st) : readMultiAnswer l e s = .refuse st i := by
  have hsome : findIdxOpt (fun x => (entryRefusal s e x.1 x.2).isSome) l = some (0 + i) :=
    findIdxOpt_eq_some (d := (0, 0)) 0 hi (fun j hj => by rw [hlt j hj]; rfl) (by rw [hst]; rfl)
  unfold readMultiAnswer
  rw [if_neg (by omega), hsome, Nat.zero_add]
  dsimp only
  rw [hst]
  rfl

end

/-- Settles O35: READ and READ_MULTI read all registers by `readAll`, and a register RC among them reads 0 from then on. -/
theorem registersRead : Obligations.RegistersRead := by
  intro h e s u hu
  refine ⟨fun off count hs h1 h64 hd => ?_, fun off count hs hbad => ?_,
    fun entries hs h1 h64 => ⟨fun hok hd => ?_, fun i st hi hlt hst => ?_⟩⟩
  · obtain ⟨he, hans, hch⟩ := vcp_readAll hu hs hd (readAnswer_inRange h1 h64)
    refine ⟨_, rfl, hans, by simp [readAll_length, rangeOf, upTo], fun q hq r hf hrc hx hrep => ?_, ?_, hch⟩
    · rw [he, finish_reg hrep (off_lt_of_findReg hf), readAll_snd, foldl_afterRead_reg_rc hf hrc hx, if_pos hq]
    · rw [he]; simp [readAll_frame]
  · exact ⟨_, rfl, vcp_refuse_spec hu hs (if_pos hbad)⟩
  · exact ⟨_, rfl, (vcp_readAll hu hs hd (readMultiAnswer_all (by simpa using h1) (by simpa using h64) hok)).2⟩
  · exact ⟨_, rfl, vcp_refuse_spec hu hs (readMultiAnswer_first (by simpa using h1) (by simpa using h64) hi hlt hst)⟩

end Sys2Proof.Machine
end

section
/-! R8: what a write of a register leaves in the outbox. Nothing that was sent is taken back: the effects of the writes only prepend. -/

namespace Sys2Proof.Machine

open Sys2Proof Sys2Proof.Safety

/-! ### What was sent stays sent

`l` stands for the outbox of an earlier state; each lemma says that what the function adds stands in front of it. -/

@[simp] theorem suffix_ite {p : Prop} [Decidable p] {l a b : List Out} :
    l <:+ (if p then a else b) ↔ (p → l <:+ a) ∧ (¬ p → l <:+ b) := by split <;> simp [*]

@[simp] theorem notifySession_outbox (sid : BitVec 16) (n : Notify) (s : State) : (notifySession sid n s).outbox = s.outbox := rfl

@[simp] theorem handOver_outbox (identity : Nat) (n : Notify) (s : State) : (handOver identity n s).outbox = s.outbox := rfl

@[simp] theorem select_outbox (w : Write) (g : Session → Session) (s : State) : (select w g s).outbox = s.outbox := rfl

section
variable {l : List Out} {s : State} (h : l <:+ s.outbox)

theorem forEach_sent {α : Type} (xs : List α) (f : α → State → State) (hf : ∀ x a, l <:+ a.outbox → l <:+ (f x a).outbox)
    (h : l <:+ s.outbox) : l <:+ (forEach xs f s).outbox := by
  unfold forEach
  induction xs generalizing s with
  | nil => exact h
  | cons x xs ih => exact ih (hf x s h)

include h

@[simp] theorem emit_sent (o : Out) : l <:+ (s.emit o).outbox := List.IsSuffix.trans h (List.suffix_cons _ _)

@[simp] theorem toPartner_sent (i : MirrorItem) : l <:+ (toPartner i s).outbox := by unfold toPartner; split <;> simp [h]

/-! #### The logbook and notifications -/

@[simp] theorem logGap_sent (deck : Bool) : l <:+ (logGap deck s).outbox := by unfold logGap; dsimp only; split <;> simp [h]

@[simp] theorem logSubmit_sent (deck reserved : Bool) (type bodyLen : Nat) (time : Time) (body : LogBody) :
    l <:+ (logSubmit deck reserved type bodyLen time body s).outbox := by
  unfold logSubmit; dsimp only; split <;> cases deck <;> simp [h]

@[simp] theorem logWords_sent (type bodyLen : Nat) (ws : List Nat) : l <:+ (logWords type bodyLen ws s).outbox := by simp [logWords, h]

@[simp] theorem logSession_sent (e : Session) : l <:+ (logSession e s).outbox := by simp [logSession, h]

@[simp] theorem logActionAs_sent (type u source action rack : Nat) (old new : Int) (causeSeq raId link : BitVec 32) :
    l <:+ (logActionAs type u source action rack old new causeSeq raId link s).outbox := by
  unfold logActionAs; dsimp only; (repeat' split) <;> simp [h]

@[simp] theorem logAction_sent (u source action rack : Nat) (old new : Int) (causeSeq : BitVec 32) :
    l <:+ (logAction u source action rack old new causeSeq s).outbox := by simp [logAction, h]

@[simp] theorem notifyEvent_sent (n : Notify) : l <:+ (notifyEvent n s).outbox := by unfold notifyEvent; dsimp only; split <;> simp [h]

@[simp] theorem eventWith_sent (st : Status) (code : Nat) (detail : Option Nat) (u off bit : Nat) :
    l <:+ (eventWith st code detail u off bit s).outbox := by simp [eventWith, h]

@[simp] theorem event_sent (u off bit : Nat) : l <:+ (event u off bit s).outbox := by simp [event, h]

@[simp] theorem endRequest_sent (o : Origin) (st : Status) : l <:+ (endRequest o st s).outbox := by
  unfold endRequest
  dsimp only
  iterate 3
    split
    · simp [h]
  exact logWords_sent (by split <;> simp [h]) _ _ _

@[simp] theorem endChanCmd_sent (c : Option ChanCmd) (st : Status) : l <:+ (endChanCmd c st s).outbox := by
  unfold endChanCmd; (repeat' split) <;> simp [h]

@[simp] theorem endSession_sent (sid : BitVec 16) : l <:+ (endSession sid s).outbox := by
  unfold endSession
  split
  · exact h
  next e _ =>
    have hlog : l <:+ (logSession e { s with vcp.sessions := s.vcp.sessions.filter fun x => decide (x.id ≠ sid) }).outbox := by simp [h]
    exact forEach_sent _ _ (fun _ _ ha => ha) hlog

@[simp] theorem endServiceSessions_sent : l <:+ (endServiceSessions s).outbox :=
  forEach_sent _ _ (fun _ _ ha => endSession_sent ha _) h

@[simp] theorem setLocate_sent (path : Nat) (on : Bool) : l <:+ (setLocate path on s).outbox := by
  unfold setLocate; split <;> simp [h]

@[simp] theorem writeGroupMap_sent (w : Write) (m : Nat) : l <:+ (writeGroupMap w m s).outbox := by simp [writeGroupMap, h]

/-! #### Motors and pumps -/

@[simp] theorem endMotorCmd_sent (c : Nat) (st : Status) : l <:+ (endMotorCmd c st s).outbox := by
  unfold endMotorCmd; dsimp only; split <;> simp [h]

@[simp] theorem preemptMotor_sent (c : Nat) : l <:+ (preemptMotor c s).outbox := by unfold preemptMotor; split <;> simp [h]

@[simp] theorem motorTo_sent (source : Nat) (st : MotState) (cmd : Int) (c : Nat) : l <:+ (motorTo source st cmd c s).outbox := by
  simp [motorTo, h]

@[simp] theorem motorStop_sent (source c : Nat) : l <:+ (motorStop source c s).outbox := by
  unfold motorStop; dsimp only; split <;> simp [h]

@[simp] theorem motorRun_sent (source target c : Nat) : l <:+ (motorRun source target c s).outbox := by
  unfold motorRun; dsimp only; (repeat' split) <;> simp [h]

@[simp] theorem motorFollow_sent (target c : Nat) : l <:+ (motorFollow target c s).outbox := by
  unfold motorFollow; dsimp only; (repeat' split) <;> simp [h]

@[simp] theorem clearMotor_sent (c : Nat) (v : Word) : l <:+ (clearMotor c v s).outbox := by
  unfold clearMotor; dsimp only; (repeat' split) <;> simp [h]

@[simp] theorem sendSpeed_sent (p : Nat) : l <:+ (sendSpeed p s).outbox := by simp [sendSpeed, h]

@[simp] theorem pumpSpeed_sent (source p : Nat) (speed : Int) : l <:+ (pumpSpeed source p speed s).outbox := by
  unfold pumpSpeed; dsimp only; (repeat' split) <;> simp [h]

theorem stageAction_sent (source : Nat) {change : State → State} (hc : ∀ a, (change a).outbox = a.outbox) :
    l <:+ (stageAction source change s).outbox := by simp [stageAction, hc, h]

@[simp] theorem leaveDuty_sent (source p : Nat) (use : PumpUse) : l <:+ (leaveDuty source p use s).outbox :=
  stageAction_sent h source fun _ => rfl

@[simp] theorem joinDuty_sent (source p : Nat) : l <:+ (joinDuty source p s).outbox :=
  pumpSpeed_sent (s := State.modPump _ _ _) (stageAction_sent h source fun _ => by simp [setUse_frame]) _ _ _

@[simp] theorem restorePump_sent (p : Nat) : l <:+ (restorePump p s).outbox := by
  unfold restorePump; dsimp only; split <;> simp [rowEnd_frame, stageAction_sent, h]

@[simp] theorem writeOut_sent (i : Nat) (w : Write) : l <:+ (writeOut i w s).outbox := by
  unfold writeOut
  dsimp only
  split
  · exact forEach_sent _ _ (fun p a ha => by (repeat' split) <;> simp [ha]) (by simp [h])
  · split <;> simp [h]

@[simp] theorem writeDemand_sent (i : Nat) (w : Write) : l <:+ (writeDemand i w s).outbox := by simp [writeDemand, h]

/-! #### Copies and the chain -/

@[simp] theorem sendService_sent (type dst : Nat) (payload : List Nat) : l <:+ (sendService type dst payload s).outbox := by
  unfold sendService; dsimp only; (repeat' split) <;> simp [h]

@[simp] theorem sendHall_sent (payload : List Nat) : l <:+ (sendHall payload s).outbox :=
  forEach_sent _ (fun o a => if o = 0 then a else sendService 0x10 o payload a) (fun o a ha => by split <;> simp [ha]) h

@[simp] theorem tellHall_sent (payload : List Nat) : l <:+ (tellHall payload s).outbox := by unfold tellHall; split <;> simp [h]

@[simp] theorem nameRoute_sent (set : Nat) : l <:+ (nameRoute set s).outbox := by simp [nameRoute, h]

@[simp] theorem nameRestore_sent : l <:+ (nameRestore s).outbox := by unfold nameRestore; split <;> simp [h]

@[simp] theorem joinNow_sent : l <:+ (joinNow s).outbox := by unfold joinNow; dsimp only; (repeat' split) <;> simp [askJoin_frame, h]

@[simp] theorem stopHall_sent : l <:+ (stopHall s).outbox := by unfold stopHall; split <;> simp [h]

@[simp] theorem reroute_sent : l <:+ (reroute s).outbox := by unfold reroute; (repeat' split) <;> simp [h]

@[simp] theorem noteLink_sent (ord i : Nat) (up : Bool) : l <:+ (noteLink ord i up s).outbox := by
  unfold noteLink; dsimp only; split <;> simp [h]

@[simp] theorem reportLink_sent (i : Nat) (up : Bool) : l <:+ (reportLink i up s).outbox := by
  unfold reportLink; dsimp only; (repeat' split) <;> simp [h]

@[simp] theorem watchHealth_sent : l <:+ (watchHealth s).outbox := by unfold watchHealth; dsimp only; split <;> simp [h]

@[simp] theorem partnerLost_sent (before : Nat) : l <:+ (partnerLost before s).outbox := by unfold partnerLost; split <;> simp [h]

@[simp] theorem moveMessages_sent (i : Nat) : l <:+ (moveMessages i s).outbox :=
  forEach_sent _ _ (fun m a ha => by split <;> simp [ha]) (by simp [h])

@[simp] theorem closeBulk_sent (d : CopyDesc) (st : Status) (bytes : Nat) : l <:+ (closeBulk d st bytes s).outbox := by
  unfold closeBulk; dsimp only; (repeat' split) <;> simp [h]

@[simp] theorem endRunning_sent (k : Nat) (st : Status) (bytes digest : Nat) : l <:+ (endRunning k st bytes digest s).outbox := by
  unfold endRunning; (repeat' split) <;> simp [setBusy_frame, endCopy_frame, h]

@[simp] theorem dropBulks_sent : l <:+ (dropBulks s).outbox :=
  forEach_sent _ _ (fun b a ha => by split <;> simp [ha]) h

@[simp] theorem openBulk_sent (d : CopyDesc) : l <:+ (openBulk d s).outbox := by unfold openBulk; dsimp only; split <;> simp [h]

@[simp] theorem startHead_sent (k : Nat) : l <:+ (startHead k s).outbox := by
  unfold startHead; dsimp only; (repeat' split) <;> simp [setBusy_frame, endCopy_frame, h]

theorem serveService_sent (fuel : Nat) : l <:+ (serveService fuel s).outbox := by
  induction fuel generalizing s with
  | zero => exact h
  | succ n ih =>
    unfold serveService
    split
    · exact h
    · exact ih (startHead_sent h 0)

theorem serveFirmware_sent (fuel : Nat) : l <:+ (serveFirmware fuel s).outbox := by
  induction fuel generalizing s with
  | zero => exact h
  | succ n ih =>
    unfold serveFirmware
    split
    · exact h
    · exact ih (by simp [h])

@[simp] theorem startCopies_sent : l <:+ (startCopies s).outbox := serveFirmware_sent (serveService_sent h _) _

@[simp] theorem linkFalls_sent (i : Nat) (dest : LinkSt) : l <:+ (linkFalls i dest s).outbox := by
  unfold linkFalls
  dsimp only
  split
  · simp [h]
  · exact startCopies_sent (dropBulks_sent (partnerLost_sent (reportLink_sent (by split <;> simp [loseRef_frame, h]) _ _) _))

@[simp] theorem writeLink_sent (i : Nat) (v : Word) : l <:+ (writeLink i v s).outbox := by
  unfold writeLink; dsimp only; (repeat' split) <;> simp [h]

/-! #### Stored registers -/

@[simp] theorem driveAux_sent (p : Nat) (level : Bool) : l <:+ (driveAux p level s).outbox := by simp [driveAux, h]

@[simp] theorem startSwitch_sent (p : Nat) (v : Word) : l <:+ (startSwitch p v s).outbox := by
  unfold startSwitch; dsimp only; split <;> simp [h]

@[simp] theorem auxEffect_sent (p : Nat) (v : Word) : l <:+ (auxEffect p v s).outbox := by
  unfold auxEffect; dsimp only; (repeat' split) <;> simp [h]

@[simp] theorem configEffect_sent (u off : Nat) (old new : Word) (before : Nat → Bool) : l <:+ (configEffect u off old new before s).outbox := by
  unfold configEffect
  dsimp only
  (repeat' split) <;> simp [followPaths_frame, joinBus_frame, leaveBus_frame, intEffect_frame, h]

@[simp] theorem sendConfig_sent (u : Nat) : l <:+ (sendConfig u s).outbox := by unfold sendConfig; (repeat' split) <;> simp [h]

@[simp] theorem writeConfig_sent (u off : Nat) (v : Word) : l <:+ (writeConfig u off v s).outbox := by
  exact sendConfig_sent (configEffect_sent (by simp [h]) _ _ _ _ _) _

@[simp] theorem writeSp_sent (i : Nat) (w : Write) : l <:+ (writeSp i w s).outbox := by simp [writeSp, h]

@[simp] theorem writeTrv_sent (w : Write) : l <:+ (writeTrv w s).outbox := by unfold writeTrv; dsimp only; split <;> simp [h]

@[simp] theorem writeBeacon_sent (r : Nat) (w : Write) : l <:+ (writeBeacon r w s).outbox := by simp [writeBeacon, h]

@[simp] theorem writeCtrl_sent (w : Write) : l <:+ (writeCtrl w s).outbox := by simp [writeCtrl, h]

@[simp] theorem mirrorRack_sent (r : Nat) : l <:+ (mirrorRack r s).outbox := by simp [mirrorRack, h]

@[simp] theorem sendGrant_sent (r kind : Nat) (raId : BitVec 32) (expected leaves : Time) :
    l <:+ (sendGrant r kind raId expected leaves s).outbox := by simp [sendGrant, h]

@[simp] theorem grantSet_sent (source : Nat) (new : Power) (causeSeq : BitVec 32) (leaves : Time) (r : Nat) :
    l <:+ (grantSet source new causeSeq leaves r s).outbox := by simp [grantSet, h]

@[simp] theorem writeRackCfg_sent (r : Nat) (w : Write) : l <:+ (writeRackCfg r w s).outbox := by
  unfold writeRackCfg; dsimp only; split <;> simp [h]

end

end Sys2Proof.Machine
end

section
/-! R407, R409: the rules of a register's write, and the state that a batch of writes leaves. -/

namespace Sys2Proof.Machine

open Sys2Proof Sys2Proof.Safety

/-! ### The effects of judged writes -/

/-- The effect of a write that is accepted in its frame takes nothing back that was sent. -/
def Judged.KeepsSent : Judged → Prop
  | .ok f => ∀ (l : List Out) (a : State), l <:+ a.outbox → l <:+ (f a).outbox
  | _ => True

@[simp] theorem Judged.refuse_keepsSent (st : Status) : (Judged.refuse st).KeepsSent := trivial
@[simp] theorem Judged.band_keepsSent (b : BandEntry) : (Judged.band b).KeepsSent := trivial
@[simp] theorem Judged.command_keepsSent (a : Answer) : (Judged.command a).KeepsSent := trivial
@[simp] theorem Judged.ok_keepsSent (f : State → State) :
    (Judged.ok f).KeepsSent ↔ ∀ (l : List Out) (a : State), l <:+ a.outbox → l <:+ (f a).outbox := Iff.rfl

@[simp] theorem Judged.ite_keepsSent {p : Prop} [Decidable p] (a b : Judged) :
    (if p then a else b).KeepsSent ↔ (p → a.KeepsSent) ∧ (¬ p → b.KeepsSent) := by split <;> simp [*]

@[simp] theorem judged_keepsSent {r : Option Status} {f : State → State}
    (hf : ∀ (l : List Out) (a : State), l <:+ a.outbox → l <:+ (f a).outbox) : (judged r f).KeepsSent := by
  cases r
  · exact hf
  · trivial

@[simp] theorem judgeSys_keepsSent (w : Write) (s : State) : (judgeSys w s).KeepsSent := by
  unfold judgeSys
  dsimp only
  refine (Judged.ite_keepsSent _ _).2 ⟨fun _ => judged_keepsSent fun _ _ h => by simp [h], fun _ => ?_⟩
  refine (Judged.ite_keepsSent _ _).2 ⟨fun _ _ _ h => setLocate_sent h _ _, fun _ => ?_⟩
  iterate 8
    refine (Judged.ite_keepsSent _ _).2 ⟨fun _ => judged_keepsSent fun _ _ h => by simp [h], fun _ => ?_⟩
  exact judged_keepsSent fun _ _ h => by simp [h]
@[simp] theorem judgeValve_keepsSent (w : Write) (s : State) : (judgeValve w s).KeepsSent := by simp +contextual [judgeValve, clearEvents_frame]
@[simp] theorem judgeMotor_keepsSent (w : Write) (s : State) : (judgeMotor w s).KeepsSent := by simp +contextual [judgeMotor, clearEvents_frame]
@[simp] theorem judgeSense_keepsSent (w : Write) (s : State) : (judgeSense w s).KeepsSent := by simp +contextual [judgeSense, queueCal_frame]
@[simp] theorem judgeAnalog_keepsSent (w : Write) (s : State) : (judgeAnalog w s).KeepsSent := by simp +contextual [judgeAnalog]
@[simp] theorem judgeBuoy_keepsSent (w : Write) (s : State) : (judgeBuoy w s).KeepsSent := by simp +contextual [judgeBuoy, recoverBus_frame]
@[simp] theorem judgeLink_keepsSent (w : Write) (s : State) : (judgeLink w s).KeepsSent := by simp +contextual [judgeLink]
@[simp] theorem judgeBeacon_keepsSent (w : Write) (s : State) : (judgeBeacon w s).KeepsSent := by simp +contextual [judgeBeacon]
@[simp] theorem judgeDie_keepsSent (w : Write) (s : State) : (judgeDie w s).KeepsSent := by
  unfold judgeDie
  dsimp only
  iterate 5
    split
    · exact judged_keepsSent fun _ _ h => by simp [writeDie_frame, h]
  trivial
@[simp] theorem judgeLoop_keepsSent (w : Write) (s : State) : (judgeLoop w s).KeepsSent := by simp +contextual [judgeLoop]
@[simp] theorem judgeCap_keepsSent (w : Write) (s : State) : (judgeCap w s).KeepsSent := by simp +contextual [judgeCap]
@[simp] theorem judgeAux_keepsSent (w : Write) (s : State) : (judgeAux w s).KeepsSent := by simp +contextual [judgeAux]

theorem judgeWrite_keepsSent (w : Write) (s : State) : (judgeWrite w s).KeepsSent := by
  dsimp only [judgeWrite]
  (repeat' split) <;> simp +contextual [clearEvents_frame]

theorem judgeMember_keepsSent (e : Session) (o : Origin) (m off : Nat) (v : Word) (s : State) : (judgeMember e o m off v s).KeepsSent := by
  unfold judgeMember
  split
  · trivial
  split
  · trivial
  · exact judgeWrite_keepsSent _ _

theorem after_sent {f : State → Judged} {l : List Out} {s : State} (hf : (f s).KeepsSent) (h : l <:+ s.outbox) : l <:+ (after f s).outbox := by
  unfold after
  cases hj : f s with
  | ok g => rw [hj] at hf; exact hf l s h
  | refuse | band | command => exact h

/-! ### Writes judged in order -/

/-- The state that the first `n` of a series of writes leave, each judged in the state the ones before it leave. -/
def tentAfter (j : Nat → State → Judged) (u : State) (n : Nat) : State := (List.range n).foldl (fun a k => after (j k) a) u

@[simp] theorem tentAfter_zero (j : Nat → State → Judged) (u : State) : tentAfter j u 0 = u := rfl

theorem tentAfter_succ (j : Nat → State → Judged) (u : State) (n : Nat) : tentAfter j u (n + 1) = after (j n) (tentAfter j u n) := by
  simp [tentAfter, List.range_succ]

theorem tentAfter_sent {j : Nat → State → Judged} (hj : ∀ k s, (j k s).KeepsSent) (u : State) (n : Nat) :
    u.outbox <:+ (tentAfter j u n).outbox := by
  induction n with
  | zero => exact List.suffix_refl _
  | succ n ih => rw [tentAfter_succ]; exact after_sent (hj _ _) ih

/-- The list written out by its indices. -/
theorem map_range_getD {α : Type} (l : List α) (d : α) : (List.range l.length).map (fun k => l.getD k d) = l := by
  refine List.ext_getElem (by simp) fun i h _ => ?_
  have hi : i < l.length := by simpa using h
  simp [hi]

theorem zipIdx_eq_map_range {α : Type} (l : List α) (d : α) : l.zipIdx = (List.range l.length).map (fun k => (l.getD k d, k)) := by
  refine List.ext_getElem (by simp) fun i h _ => ?_
  have hi : i < l.length := by simpa using h
  simp [hi]

/-- A batch of writes of registers alone: what it leaves is `t`, and it waits for nothing. -/
structure Batch.Leaves (b : Batch) (t : State) : Prop where
  tent : b.tent = t
  bands : b.bands = []
  committed : b.committed = none

/-- A batch that waits for nothing is answered OK with the state it leaves. -/
theorem Batch.Leaves.answer {b : Batch} {t : State} (hb : b.Leaves t) (u : Nat) (tag : BitVec 16) (o : Origin) (data : List Nat) (s : State) :
    b.answer u tag o data s = .done (nextFrame s) data t := by simp [Batch.answer, hb.bands, hb.committed, hb.tent]

theorem Batch.Leaves.part {b : Batch} {t : State} (hb : b.Leaves t) (o : Origin) : b.part o = t := by simp [Batch.part, hb.bands, hb.tent]

theorem Batch.Leaves.take_ok {b : Batch} {t : State} {f : State → Judged} (hb : b.Leaves t) (i : Nat) (hf : takesEffect (f t) = true) :
    (b.take i (f b.tent)).Leaves (after f t) ∧ (b.take i (f b.tent)).bad = b.bad ∧ (b.take i (f b.tent)).good = b.good + 1 := by
  obtain ⟨ht, hbands, hc⟩ := hb
  cases hj : f t with
  | ok g => simp only [Batch.take, Batch.add, after, ht, hj]; exact ⟨⟨rfl, hbands, hc⟩, by simp⟩
  | refuse | band | command => simp [takesEffect, hj] at hf

theorem Batch.Leaves.take_refuse {b : Batch} {t : State} {f : State → Judged} {st : Status} (hb : b.Leaves t) (i : Nat)
    (hf : refusal (f t) = some st) :
    (b.take i (f b.tent)).Leaves (after f t) ∧ (b.take i (f b.tent)).bad = b.bad ++ [(i, st)] ∧ (b.take i (f b.tent)).good = b.good := by
  obtain ⟨ht, hbands, hc⟩ := hb
  cases hj : f t with
  | refuse st' =>
    obtain rfl : st' = st := by simpa [refusal, hj] using hf
    simp only [Batch.take, Batch.fail, after, ht, hj]
    exact ⟨⟨rfl, hbands, hc⟩, by simp⟩
  | ok | band | command => simp [refusal, hj] at hf

/-! ### A range of registers (R407) -/

/-- The batch of the first `n` writes of a range, which stops at the first refusal. -/
def rangeBatch (j : Nat → State → Judged) (u : State) (n : Nat) : Batch :=
  (List.range n).foldl (fun b k => if b.bad.isEmpty then b.take k (j k b.tent) else b) { tent := u }

theorem rangeBatch_succ (j : Nat → State → Judged) (u : State) (n : Nat) : rangeBatch j u (n + 1)
    = if (rangeBatch j u n).bad.isEmpty then (rangeBatch j u n).take n (j n (rangeBatch j u n).tent) else rangeBatch j u n := by
  simp [rangeBatch, List.range_succ]

theorem rangeBatch_all {j : Nat → State → Judged} {u : State} {n : Nat} (hok : ∀ k, k < n → takesEffect (j k (tentAfter j u k)) = true) :
    (rangeBatch j u n).Leaves (tentAfter j u n) ∧ (rangeBatch j u n).bad = [] := by
  induction n with
  | zero => exact ⟨⟨rfl, rfl, rfl⟩, rfl⟩
  | succ n ih =>
    obtain ⟨hb, hbad⟩ := ih fun k hk => hok k (by omega)
    obtain ⟨ht, hbad', -⟩ := hb.take_ok n (hok n (by omega))
    rw [rangeBatch_succ, if_pos (by simp [hbad]), tentAfter_succ]
    exact ⟨ht, hbad'.trans hbad⟩

theorem rangeBatch_first {j : Nat → State → Judged} {u : State} {n k : Nat} {st : Status} (hk : k < n)
    (hok : ∀ i, i < k → takesEffect (j i (tentAfter j u i)) = true) (hst : refusal (j k (tentAfter j u k)) = some st) :
    (rangeBatch j u n).bad = [(k, st)] := by
  obtain ⟨m, rfl⟩ : ∃ m, n = k + 1 + m := ⟨n - (k + 1), by omega⟩
  induction m with
  | zero =>
    obtain ⟨hb, hbad⟩ := rangeBatch_all hok
    rw [Nat.add_zero, rangeBatch_succ, if_pos (by simp [hbad]), (hb.take_refuse k hst).2.1, hbad]
    rfl
  | succ m ih =>
    have hbad := ih (by omega)
    rw [← Nat.add_assoc, rangeBatch_succ, if_neg (by simp [hbad]), hbad]

/-- The rule of the k-th register of a range. -/
def judgeRange (e : Session) (o : Origin) (u off : Nat) (vs : List Word) (k : Nat) (a : State) : Judged :=
  judgeWrite { session := e, origin := o, unit := u, off := off + 4 * k, value := vs.getD k 0 } a

/-- The batch that a range WRITE folds over its values is the one of its registers, by their index. -/
theorem foldl_zipIdx_judgeRange (vs : List Word) (u off : Nat) (e : Session) (o : Origin) (s : State) :
    vs.zipIdx.foldl (fun (b : Batch) x => if b.bad.isEmpty then
      b.take x.2 (judgeWrite { session := e, origin := o, unit := u, off := off + 4 * x.2, value := x.1 } b.tent) else b) { tent := s }
    = rangeBatch (judgeRange e o u off vs) s vs.length := by
  rw [zipIdx_eq_map_range vs 0, List.foldl_map]
  exact rfl

section
variable {u off : Nat} {vs : List Word} {e : Session} {o : Origin} {s : State}

theorem writeAnswer_length (h : vs.length < 1 ∨ 16 < vs.length) : writeAnswer u off vs e o s = .refuse .badParam 0 := if_pos h

variable (h1 : 1 ≤ vs.length) (h16 : vs.length ≤ 16) (hc : commandIn u off vs.length = none)
include h1 h16 hc

theorem writeAnswer_of_bad_nil (hbad : (rangeBatch (judgeRange e o u off vs) s vs.length).bad = []) :
    writeAnswer u off vs e o s = (rangeBatch (judgeRange e o u off vs) s vs.length).answer u (tagOf (vs.headD 0)) o [] s := by
  have hb := foldl_zipIdx_judgeRange vs u off e o s
  unfold writeAnswer
  rw [if_neg (by omega)]
  simp only [hc, hb, hbad]

theorem writeAnswer_of_bad_cons {k : Nat} {st : Status} {l : List (Nat × Status)}
    (hbad : (rangeBatch (judgeRange e o u off vs) s vs.length).bad = (k, st) :: l) : writeAnswer u off vs e o s = .refuse st k := by
  have hb := foldl_zipIdx_judgeRange vs u off e o s
  unfold writeAnswer
  rw [if_neg (by omega)]
  simp only [hc, hb, hbad]

theorem writeAnswer_all (hok : ∀ k, k < vs.length → takesEffect (judgeRange e o u off vs k (tentAfter (judgeRange e o u off vs) s k)) = true) :
    writeAnswer u off vs e o s = .done (nextFrame s) [] (tentAfter (judgeRange e o u off vs) s vs.length) := by
  obtain ⟨hb, hbad⟩ := rangeBatch_all hok
  exact (writeAnswer_of_bad_nil h1 h16 hc hbad).trans (hb.answer _ _ _ _ _)

theorem writeAnswer_first {k : Nat} {st : Status} (hk : k < vs.length)
    (hok : ∀ i, i < k → takesEffect (judgeRange e o u off vs i (tentAfter (judgeRange e o u off vs) s i)) = true)
    (hst : refusal (judgeRange e o u off vs k (tentAfter (judgeRange e o u off vs) s k)) = some st) :
    writeAnswer u off vs e o s = .refuse st k := writeAnswer_of_bad_cons h1 h16 hc (rangeBatch_first hk hok hst)

end

/-- A write of one register, by its rule. -/
theorem writeAnswer_one_refuse {u off : Nat} {v : Word} {e : Session} {o : Origin} {s : State} {st : Status}
    (hj : judgeWrite { session := e, origin := o, unit := u, off, value := v } s = .refuse st) : writeAnswer u off [v] e o s = .refuse st 0 :=
  writeAnswer_first (by simp) (by simp) rfl (by simp) (by simp) (congrArg refusal hj)

theorem writeAnswer_one_ok {u off : Nat} {v : Word} {e : Session} {o : Origin} {s : State} {f : State → State}
    (hj : judgeWrite { session := e, origin := o, unit := u, off, value := v } s = .ok f) :
    writeAnswer u off [v] e o s = .done (nextFrame s) [] (f s) := by
  have hj' : judgeRange e o u off [v] 0 s = .ok f := hj
  have hafter : tentAfter (judgeRange e o u off [v]) s [v].length = f s := by
    show after (judgeRange e o u off [v] 0) s = f s
    rw [after, hj']
  rw [writeAnswer_all (by simp) (by simp) rfl, hafter]
  intro k hk
  obtain rfl : k = 0 := by simpa using hk
  exact congrArg takesEffect hj'

/-! ### The members of a group (R409) -/

/-- The batch of the writes of the first `n` members of a group; `inst` names each in the reply. -/
def groupBatch (inst : Nat → Nat) (j : Nat → State → Judged) (u : State) (n : Nat) : Batch :=
  (List.range n).foldl (fun b k => b.take (inst k) (j k b.tent)) { tent := u }

theorem groupBatch_succ (inst : Nat → Nat) (j : Nat → State → Judged) (u : State) (n : Nat) :
    groupBatch inst j u (n + 1) = (groupBatch inst j u n).take (inst n) (j n (groupBatch inst j u n).tent) := by
  simp [groupBatch, List.range_succ]

/-- The members among the first `n` that refuse the write. -/
def refusing (j : Nat → State → Judged) (u : State) (n : Nat) : List Nat :=
  (List.range n).filter fun k => (refusal (j k (tentAfter j u k))).isSome

theorem refusing_succ (j : Nat → State → Judged) (u : State) (n : Nat) :
    refusing j u (n + 1) = refusing j u n ++ if (refusal (j n (tentAfter j u n))).isSome then [n] else [] := by
  simp [refusing, List.range_succ, List.filter_singleton]

theorem refusing_eq_nil {j : Nat → State → Judged} {u : State} {n : Nat} (hok : ∀ k, k < n → ∃ f, j k (tentAfter j u k) = .ok f) :
    refusing j u n = [] :=
  List.filter_eq_nil_iff.2 fun k hk => by
    obtain ⟨f, hf⟩ := hok k (List.mem_range.1 hk)
    simp [hf, refusal]

theorem decidedNow_of_ok {j : Nat → State → Judged} {u : State} {n : Nat} (hok : ∀ k, k < n → ∃ f, j k (tentAfter j u k) = .ok f) :
    ∀ k, k < n → Safety.decidedNow (j k (tentAfter j u k)) = true := fun k hk => by
  obtain ⟨f, hf⟩ := hok k hk
  exact congrArg Safety.decidedNow hf

/-- The reply's entry for a member that refuses. -/
def refusalOf (inst : Nat → Nat) (j : Nat → State → Judged) (u : State) (k : Nat) : Nat × Status :=
  (inst k, (refusal (j k (tentAfter j u k))).getD .ok)

theorem groupBatch_all (inst : Nat → Nat) {j : Nat → State → Judged} {u : State} {n : Nat}
    (hd : ∀ k, k < n → Safety.decidedNow (j k (tentAfter j u k)) = true) :
    (groupBatch inst j u n).Leaves (tentAfter j u n) ∧ (groupBatch inst j u n).bad = (refusing j u n).map (refusalOf inst j u)
      ∧ (groupBatch inst j u n).good + (refusing j u n).length = n := by
  induction n with
  | zero => exact ⟨⟨rfl, rfl, rfl⟩, rfl, rfl⟩
  | succ n ih =>
    obtain ⟨hb, hbad, hgood⟩ := ih fun k hk => hd k (by omega)
    have hn := hd n (by omega)
    rw [groupBatch_succ, tentAfter_succ, refusing_succ]
    cases hj : j n (tentAfter j u n) with
    | ok f =>
      obtain ⟨ht, hbad', hgood'⟩ := hb.take_ok (f := j n) (inst n) (by simp [takesEffect, hj])
      exact ⟨ht, by simp [hbad', hbad, refusal], by simp [hgood', refusal]; omega⟩
    | refuse st =>
      have hst : refusal (j n (tentAfter j u n)) = some st := by simp [refusal, hj]
      obtain ⟨ht, hbad', hgood'⟩ := hb.take_refuse (inst n) hst
      exact ⟨ht, by simp [hbad', hbad, refusal, refusalOf, hj], by simp [hgood', refusal]; omega⟩
    | band | command => simp [Safety.decidedNow, hj] at hn

/-- The rule of the k-th member. -/
def judgeGroup (e : Session) (o : Origin) (ms : List Nat) (off : Nat) (v : Word) (k : Nat) (a : State) : Judged :=
  judgeMember e o (ms.getD k 0) off v a

/-- The batch of the writes of all members. -/
def memberBatch (e : Session) (o : Origin) (ms : List Nat) (off : Nat) (v : Word) (s : State) : Batch :=
  groupBatch (fun k => unitInst (ms.getD k 0)) (judgeGroup e o ms off v) s ms.length

section
variable {e : Session} {o : Origin} {ms : List Nat} {off : Nat} {v : Word} {s : State}
  (hd : ∀ k, k < ms.length → Safety.decidedNow (judgeGroup e o ms off v k (tentAfter (judgeGroup e o ms off v) s k)) = true)
include hd

theorem memberBatch_all : (memberBatch e o ms off v s).Leaves (tentAfter (judgeGroup e o ms off v) s ms.length)
    ∧ (memberBatch e o ms off v s).bad
      = (refusing (judgeGroup e o ms off v) s ms.length).map (refusalOf (fun k => unitInst (ms.getD k 0)) (judgeGroup e o ms off v) s)
    ∧ (memberBatch e o ms off v s).good + (refusing (judgeGroup e o ms off v) s ms.length).length = ms.length := groupBatch_all _ hd

end

theorem foldl_judgeMember (ms : List Nat) (off : Nat) (v : Word) (e : Session) (o : Origin) (s : State) :
    ms.foldl (fun (b : Batch) m => b.take (unitInst m) (judgeMember e o m off v b.tent)) { tent := s } = memberBatch e o ms off v s := by
  conv_lhs => rw [← map_range_getD ms 0, List.foldl_map]
  exact rfl

section
variable {u off : Nat} {v : Word} {e : Session} {o : Origin} {s : State} {ms : List Nat} (hms : groupMembers s u = ms)
include hms

theorem groupAnswer_none (h0 : ms = []) :
    groupAnswer u off v e o s = .refuse (if unitInst u = 0xFFF then .notPresent else .badParam) 0 := by
  unfold groupAnswer
  rw [if_pos (by simp [hms, h0])]

variable (h0 : ms ≠ [])
include h0

theorem groupAnswer_of_bad_nil (hbad : (memberBatch e o ms off v s).bad = []) :
    groupAnswer u off v e o s = (memberBatch e o ms off v s).answer u (tagOf v) o [(memberBatch e o ms off v s).good, 0] s := by
  have hb := foldl_judgeMember ms off v e o s
  unfold groupAnswer
  rw [if_neg (by simp [hms, h0])]
  simp only [hms, hb, hbad]

theorem groupAnswer_of_bad_cons {i : Nat} {st : Status} {l : List (Nat × Status)} (hbad : (memberBatch e o ms off v s).bad = (i, st) :: l) :
    groupAnswer u off v e o s = .status st i [(memberBatch e o ms off v s).good, l.length + 1] ((memberBatch e o ms off v s).part o) := by
  have hb := foldl_judgeMember ms off v e o s
  unfold groupAnswer
  rw [if_neg (by simp [hms, h0])]
  simp only [hms, hb, hbad, List.length_cons]

variable (hd : ∀ k, k < ms.length → Safety.decidedNow (judgeGroup e o ms off v k (tentAfter (judgeGroup e o ms off v) s k)) = true)
include hd

theorem groupAnswer_all (hbad : refusing (judgeGroup e o ms off v) s ms.length = []) :
    groupAnswer u off v e o s = .done (nextFrame s) [ms.length, 0] (tentAfter (judgeGroup e o ms off v) s ms.length) := by
  obtain ⟨hb, hbad', hgood⟩ := memberBatch_all hd
  rw [hbad] at hbad' hgood
  rw [groupAnswer_of_bad_nil hms h0 hbad', hb.answer, show (memberBatch e o ms off v s).good = ms.length from hgood]

theorem groupAnswer_some {k : Nat} {l : List Nat} {st : Status} (hbad : refusing (judgeGroup e o ms off v) s ms.length = k :: l)
    (hst : refusal (judgeGroup e o ms off v k (tentAfter (judgeGroup e o ms off v) s k)) = some st) :
    groupAnswer u off v e o s = .status st (unitInst (ms.getD k 0)) [ms.length - (k :: l).length, (k :: l).length]
      (tentAfter (judgeGroup e o ms off v) s ms.length) := by
  obtain ⟨hb, hbad', hgood⟩ := memberBatch_all hd
  rw [hbad] at hbad' hgood
  rw [groupAnswer_of_bad_cons hms h0 hbad', hb.part, Nat.eq_sub_of_add_eq hgood, hst]
  simp

end

end Sys2Proof.Machine
end

section
/-! R7, R8, R399, R407, R409: WRITE and WRITE_GROUP, settled by the rules of one register and by the batches of writes. -/

namespace Sys2Proof.Machine

open Sys2Proof Sys2Proof.Safety

/-! ### Requests answered with what they leave -/

section
variable {op : Op} {h : Hdr} {e : Session} {s u t : State} {body : Session → State → Answer} {data : List Nat}
  (hu : u = touch h e.id s) (hs : Served op h e s) (hsent : u.outbox <:+ t.outbox)
include hu hs hsent

theorem vcp_done_spec (hb : body e u = .done (nextFrame u) data t) (hd : deadlineMissed h (nextFrame s) s.now = false) :
    Answers h .ok (nextFrame s) data s (vcp op h body s)
      ∧ ChangesOnly [.outbox, .regs, .vcp] t (vcp op h body s) ∧ RegsOnly [] t (vcp op h body s) := by
  have hn : nextFrame u = nextFrame s := by simp [hu, nextFrame]
  rw [vcp_done hu hs (hb.trans (by rw [hn])) hd]
  obtain ⟨m, hm⟩ := hsent
  exact ⟨finish_sends_from _ _ _ _ _ _ ⟨m, by rw [← hm, hu]; rfl⟩, finish_changesOnly _ _ _ _ _ _ _ _, finish_regsOnly _ _ _ _ _ _ _ _⟩

theorem vcp_status_spec {st : Status} {d : Nat} (hb : body e u = .status st d data t) :
    Sends (.reply h.version h.opcode h.session h.sequence h.unit.toNat st d 0 data) s (vcp op h body s)
      ∧ ChangesOnly [.outbox, .regs, .vcp] t (vcp op h body s) ∧ RegsOnly [] t (vcp op h body s) := by
  rw [vcp_status hu hs hb]
  obtain ⟨k, hk, ho⟩ := finish_sends_detail op h e.identity st d 0 data t
  obtain ⟨m, hm⟩ := hsent
  exact ⟨⟨k ++ m, by rw [hk, ← hm, hu, List.append_assoc]; rfl, List.mem_append_left _ ho⟩,
    finish_changesOnly _ _ _ _ _ _ _ _, finish_regsOnly _ _ _ _ _ _ _ _⟩

end

/-! ### WRITE (R407) -/

section
variable {h : Hdr} {e : Session} {s u : State} (hu : u = touch h e.id s)
include hu

section
variable {off : Nat} {vs : List Word} (hs : Served (writeOp h.unit.toNat off (Nat.min 16 vs.length)) h e s)
include hs

theorem writeRegs_refuse {st : Status} {d : Nat} (ha : writeAnswer h.unit.toNat off vs e (originOf h e) u = .refuse st d) :
    Sends (.reply h.version h.opcode h.session h.sequence h.unit.toNat st d 0 []) s (writeRegs h off vs s)
      ∧ ChangesOnly [.outbox, .regs, .vcp] s (writeRegs h off vs s) ∧ RegsOnly [] s (writeRegs h off vs s) :=
  vcp_refuse_spec hu hs (by simp only [ha, releaseAsk, ite_self])

theorem writeRegs_done {t : State} (hne : ¬ (h.unit.toNat = U.cap ∧ off = Off.leakRelease))
    (ha : writeAnswer h.unit.toNat off vs e (originOf h e) u = .done (nextFrame u) [] t) (hsent : u.outbox <:+ t.outbox)
    (hd : deadlineMissed h (nextFrame s) s.now = false) :
    Answers h .ok (nextFrame s) [] s (writeRegs h off vs s)
      ∧ ChangesOnly [.outbox, .regs, .vcp] t (writeRegs h off vs s) ∧ RegsOnly [] t (writeRegs h off vs s) :=
  vcp_done_spec hu hs hsent ((if_neg hne).trans ha) hd

end

end

/-! #### The rules that hold for any register -/

theorem changesOnly_of_touch {h : Hdr} {sid : BitVec 16} {ps : List Part} {s t : State} (hv : Part.vcp ∈ ps)
    (hch : ChangesOnly ps (touch h sid s) t) : ChangesOnly ps s t :=
  changesOnly_trans (changesOnly_mono (touch_changesOnly h sid s) (by simp [hv])) hch

theorem regsOnly_of_touch {h : Hdr} {sid : BitVec 16} {l : List (Nat × Nat)} {s t : State} (hr : RegsOnly l (touch h sid s) t) : RegsOnly l s t :=
  regsOnly_trans (regsOnly_of_regs (touch_regs h sid s)) hr

theorem regsOnly_nil {l : List (Nat × Nat)} {s t : State} (h : RegsOnly [] s t) : RegsOnly l s t :=
  fun u off ho _ hr => h u off ho (by simp) hr

theorem setReg_changesOnly (u off : Nat) (v : Word) (s : State) : ChangesOnly [.regs] s (s.setReg u off v) := by
  intro p hp
  cases p <;> simp [Part.Same] at hp ⊢

theorem setReg_regsOnly {u off : Nat} (h : off < 0x1000) (v : Word) (s : State) : RegsOnly [(u, off)] s (s.setReg u off v) :=
  fun _ _ ho hl _ => s.reg_setReg_other v h ho fun ⟨h1, h2⟩ => hl (by simp [h1, h2])

/-- The command register of a released leak is write-only. -/
theorem not_leakRelease {u off : Nat} {r : RegRow} (hf : findReg u off = some r) (ha : r.acc ≠ .wo) : ¬ (u = U.cap ∧ off = Off.leakRelease) := by
  rintro ⟨rfl, rfl⟩
  have hwo : ∀ q, findReg U.cap Off.leakRelease = some q → q.acc = .wo := by decide +kernel
  exact ha (hwo r hf)

section
variable {w : Write} {r : RegRow} {s : State} (hf : findReg w.unit w.off = some r) (h9 : unitClass w.unit ≠ 9)
include hf h9

theorem judgeWrite_ro (ha : r.acc = .ro) : judgeWrite w s = .refuse .badAddress := by simp [judgeWrite, hf, h9, ha]

theorem judgeWrite_rc (ha : r.acc = .rc) : judgeWrite w s = .ok id := by simp [judgeWrite, hf, h9, ha]

/-- Beyond read-only and RC registers, a write is judged by its reserved bits first, and events are cleared apart from the rules of the unit. -/
theorem judgeWrite_reserved (hro : r.acc ≠ .ro) (hrc : r.acc ≠ .rc) (hres : w.value &&& r.reserved ≠ 0) :
    judgeWrite w s = .refuse .badParam := by
  unfold judgeWrite
  simp only [hf, h9, false_and, if_false]
  cases ha : r.acc with
  | ro => exact absurd ha hro
  | rc => exact absurd ha hrc
  | rw | wo | w1c => exact if_pos hres

theorem judgeWrite_w1c (ha : r.acc = .w1c) (hres : w.value &&& r.reserved = 0) (h1 : unitClass w.unit ≠ 1) (h2 : unitClass w.unit ≠ 2) :
    judgeWrite w s = .ok (clearEvents w) := by simp [judgeWrite, hf, h9, ha, hres, h1, h2]

end

/-- A stored value of a unit of class 0x0 (but VCP_CTRL) or 0x7 has no further effect: the write is mirrored and stored. -/
theorem writeConfig_plain {u off : Nat} (hc : unitClass u = 0 ∨ unitClass u = 7) (ho : off ≠ Off.vcpCtrl) (v : Word) (s : State) :
    writeConfig u off v s = (toPartner (.register (BitVec.ofNat 16 u) (BitVec.ofNat 16 off) v) s).setReg u off v := by
  obtain hc | hc := hc <;> simp [writeConfig, storeConfig, configEffect, sendConfig, slotOfUnit, hc, ho]

theorem writeConfig_plain_changesOnly {u off : Nat} (hc : unitClass u = 0 ∨ unitClass u = 7) (ho : off ≠ Off.vcpCtrl) (v : Word) (s : State) :
    ChangesOnly [.outbox, .regs] s (writeConfig u off v s) := by
  rw [writeConfig_plain hc ho]
  intro p hp
  cases p <;> simp [Part.Same] at hp ⊢

theorem writeConfig_plain_regsOnly {u off : Nat} (hc : unitClass u = 0 ∨ unitClass u = 7) (ho : off ≠ Off.vcpCtrl) (hlt : off < 0x1000)
    (v : Word) (s : State) : RegsOnly [(u, off)] s (writeConfig u off v s) := by
  rw [writeConfig_plain hc ho]
  exact regsOnly_trans (regsOnly_of_regs (toPartner_regs _ s)) (setReg_regsOnly hlt v _)

/-- SYS_MODE_CTRL (Table 3-13): its value is stored within 100 to 10000, and nothing else is asked of it. -/
theorem judgeSys_modeCtrl {w : Write} {s : State} (hoff : w.off = Off.sysModeCtrl) :
    judgeSys w s = if between 100 10000 (fld w.value 31 16) then .ok (writeConfig w.unit w.off w.value) else .refuse .badParam := by
  unfold judgeSys
  rw [if_neg (by rw [hoff]; decide), if_neg (by rw [hoff]; decide), if_pos hoff]
  by_cases h : between 100 10000 (fld w.value 31 16) = true <;> simp [firstFail, judged, h]

/-! ### The site's configuration (R12, R14, R508) -/

/-- What `setVfd` does to one pump. -/
def vfdStep (set : BitVec 8) (p : Nat) (a : State) : State :=
  let on := set.getLsbD p
  if on = (a.pump p).vfd then a
  else
    let a1 := a.modPump p (fun k => { k with vfd := on, vfdTrip := false, vfdStatusAt := none })
    if on then setUse p (if (reservePump a).isSome then .idle else .reserve) a1 else setUse p .none a1

theorem vfdStep_vfd (set : BitVec 8) (p q : Nat) (a : State) :
    ((vfdStep set p a).pump q).vfd = if q = p then set.getLsbD p else (a.pump q).vfd := by
  unfold vfdStep
  dsimp only
  by_cases hq : q = p
  · subst hq
    (repeat' split) <;> simp_all [setUse]
  · (repeat' split) <;> simp [setUse, hq]

theorem forEach_vfdStep_vfd (set : BitVec 8) (l : List Nat) (q : Nat) (a : State) :
    ((forEach l (vfdStep set) a).pump q).vfd = if q ∈ l then set.getLsbD q else (a.pump q).vfd := by
  unfold forEach
  induction l generalizing a with
  | nil => rfl
  | cons p l ih =>
    rw [List.foldl_cons, ih, vfdStep_vfd]
    by_cases hq : q = p <;> simp [hq]

theorem setVfd_vfd (set : BitVec 8) (s : State) {p : Nat} (hp : p < 8) : ((setVfd set s).pump p).vfd = set.getLsbD p :=
  (forEach_vfdStep_vfd set pumps8 p s).trans (if_pos (List.mem_range.2 hp))

theorem mget_map_self {α : Type} (d : α) (f : Nat → α) {l : List Nat} {k : Nat} (hk : k ∈ l) : mget d (l.map fun r => (r, f r)) k = f k := by
  induction l with
  | nil => simp at hk
  | cons r l ih =>
    by_cases h : r = k
    · simp [mget, h]
    · simp [mget, h, ih (by simpa [Ne.symm h] using hk)]

/-- Where one element of a list satisfies `p`, its index is the first at which `p` holds. -/
theorem find?_index_of_unique {α : Type} {p : α → Bool} {l : List α} (d : α) (hone : (l.filter p).length = 1) {k : Nat} (hk : k < l.length)
    (hp : p (l.getD k d) = true) : (List.range l.length).find? (fun i => p (l.getD i d)) = some k := by
  have hlen : ((List.range l.length).filter fun i => p (l.getD i d)).length = 1 := by
    rw [← map_range_getD l d, List.filter_map, List.length_map] at hone
    exact hone
  obtain ⟨a, ha⟩ := List.length_eq_one_iff.1 hlen
  have hmem : k ∈ (List.range l.length).filter fun i => p (l.getD i d) := List.mem_filter.2 ⟨List.mem_range.2 hk, hp⟩
  obtain rfl : k = a := List.mem_singleton.1 (ha ▸ hmem)
  rw [← List.head?_filter, ha]
  rfl

theorem writeSite_sectors {l : List (BitVec 16)} {s : State} (hok : sectorsOk s l = true) {r k : Nat} (hr : r < 16) (hk : k < l.length)
    (hin : inSet (l.getD k 0) r = true) : sectorOf (writeSite (.sectors l) s) r = k := by
  simp only [sectorsOk, Bool.and_eq_true, List.all_eq_true, decide_eq_true_eq] at hok
  obtain ⟨⟨-, hone⟩, -⟩ := hok
  have hfind := find?_index_of_unique (p := fun m => inSet m r) 0 (hone r (List.mem_range.2 hr)) hk hin
  unfold sectorOf
  refine (mget_map_self (r / 2) (fun r => ((upTo l.length).find? (fun k => inSet (l.getD k 0) r)).getD 0) (List.mem_range.2 hr)).trans ?_
  rw [upTo, hfind]
  rfl

theorem writeSite_channelFive (n : Fin 17) (on : Bool) (s : State) : (writeSite (.channelFive n on) s).plant.channelFive.getLsbD n.val = on := by
  have hbit : (BitVec.ofNat 17 (2 ^ n.val)).getLsbD n.val = true := by
    rw [BitVec.getLsbD_ofNat, Nat.testBit_two_pow_self]
    simp
  cases on <;> simp only [writeSite, if_true, if_false, Bool.false_eq_true, BitVec.getLsbD_or, BitVec.getLsbD_and, BitVec.getLsbD_not, hbit] <;> simp

end Sys2Proof.Machine
end

section
/-! R9, R120, R407, R409: one write to every Beacon, and what WRITE and WRITE_GROUP do. -/

namespace Sys2Proof.Machine

open Sys2Proof Sys2Proof.Safety

/-! ### One write to every Beacon (R9) -/

section
variable {r : Nat} (hr : r < 16)
include hr

theorem beacon_class : unitClass (U.beacon r) = 7 := by simp only [unitClass, U.beacon]; omega

theorem beacon_findReg : findReg (U.beacon r) Off.beaconCtrl = some ⟨Off.beaconCtrl, 4, 1, .rw, 0xFFFFFFFE, 0x00000000⟩ := by
  have hi : unitInst (U.beacon r) < 0x10 := by simp only [unitInst, U.beacon]; omega
  unfold findReg unitRegs
  simp only [beacon_class hr, hi, if_true]
  rfl

theorem beacon_unitWithRegs (s : State) (e : Session) : unitWithRegs (U.beacon r) Off.beaconCtrl 1 s e = none := by
  have hc := beacon_class hr
  have hex : unitExists (U.beacon r) = true := by
    interval_cases r <;> rfl
  have hcl : unitClosing s (U.beacon r) = false := by simp [unitClosing, slotOfUnit, hc]
  have hp : unitPresent s (U.beacon r) = true := by simp [unitPresent, hc]
  have hn : notRegister (U.beacon r) Off.beaconCtrl 1 = none := by
    simp [notRegister, upTo, beacon_findReg hr]
  have hm : 7 ∈ upTo 15 := by decide
  simp [unitWithRegs, unitOfClass, hex, hcl, hp, hn, hc, hm]

/-- The role that may write one Beacon may write every Beacon. -/
theorem beacon_mayWrite (e : Session) : mayWrite e (U.beacon r) Off.beaconCtrl = mayWrite e (U.beacon 0) Off.beaconCtrl := by
  have hc := beacon_class hr
  have h0 : unitClass (U.beacon 0) = 7 := rfl
  have hh : U.beacon r ≠ U.hub := by simp only [U.beacon, U.hub]; omega
  simp [mayWrite, firmwareOnly, commissionOnly, engineerOnly, selectionReg, hc, h0, hh]

end

/-- The write of BEACON_CTRL of one Beacon. -/
def beaconWrite (e : Session) (o : Origin) (v : Word) (r : Nat) : Write :=
  { session := e, origin := o, unit := U.beacon r, off := Off.beaconCtrl, value := v }

theorem unitInst_beacon {r : Nat} (hr : r < 16) : unitInst (U.beacon r) = r := by simp only [unitInst, U.beacon]; omega

/-- BEACON_CTRL has one bit beside its reserved ones. -/
theorem beaconCtrl_reserved {v : Word} (hv : v.toNat ≤ 1) : v &&& 0xFFFFFFFE#32 = 0#32 := by
  obtain h | h : v.toNat = 0 ∨ v.toNat = 1 := by omega
  · obtain rfl : v = 0 := BitVec.eq_of_toNat_eq h
    rfl
  · obtain rfl : v = 1 := BitVec.eq_of_toNat_eq h
    rfl

/-- In service, a client that may write Beacons is not refused. -/
theorem judgeMember_beacon {e : Session} {o : Origin} {v : Word} {s : State} {r : Nat} (hr : r < 16) (hv : v.toNat ≤ 1)
    (hsvc : inService s = true) (hrole : mayWrite e (U.beacon 0) Off.beaconCtrl = true) :
    judgeMember e o (U.beacon r) Off.beaconCtrl v s = .ok (writeBeacon r (beaconWrite e o v r)) := by
  have hres := beaconCtrl_reserved hv
  simp [judgeMember, beacon_unitWithRegs hr, beacon_mayWrite hr, hrole, judgeWrite, beacon_findReg hr, beacon_class hr, hres, judgeBeacon, judged,
    firstFail, hsvc, unitInst_beacon hr, beaconWrite]

/-- A Beacon's manual cause: BEACON_CTRL, the causes in the plant, and the ACTION record. -/
theorem writeBeacon_changesOnly {e : Session} {o : Origin} {v : Word} {r : Nat} (hr : r < 16) (s : State) :
    ChangesOnly [.log, .outbox, .plant, .regs] s (writeBeacon r (beaconWrite e o v r) s) := by
  have hw := writeConfig_plain (u := U.beacon r) (off := Off.beaconCtrl) (.inr (beacon_class hr)) (by decide) v s
  intro p hp
  cases p <;> simp [Part.Same, writeBeacon, beaconWrite, hw] at hp ⊢

theorem writeBeacon_inService {e : Session} {o : Origin} {v : Word} {r : Nat} (hr : r < 16) (s : State) :
    inService (writeBeacon r (beaconWrite e o v r) s) = inService s := by
  have hw := writeConfig_plain (u := U.beacon r) (off := Off.beaconCtrl) (.inr (beacon_class hr)) (by decide) v s
  simp [inService, writeBeacon, beaconWrite, hw]

theorem writeBeacon_reg {e : Session} {o : Origin} {v : Word} {r : Nat} (hr : r < 16) (s : State) {u off : Nat}
    (hu : (u, off) ∉ reportRegs) (ho : off < 0x1000) :
    (writeBeacon r (beaconWrite e o v r) s).reg u off = if (u, off) = (U.beacon r, Off.beaconCtrl) then v else s.reg u off := by
  have hlog : (writeBeacon r (beaconWrite e o v r) s).reg u off = (writeConfig (U.beacon r) Off.beaconCtrl v s).reg u off :=
    logAction_reg hu ho _ _ _ _ _ _ _ _
  rw [hlog, writeConfig_plain (.inr (beacon_class hr)) (by decide)]
  split
  next h =>
    obtain ⟨rfl, rfl⟩ := Prod.mk.inj h
    exact State.reg_setReg_self _ _ _ _
  next h =>
    have hlt : Off.beaconCtrl < 0x1000 := by decide
    rw [State.reg_setReg_other _ _ hlt ho fun ⟨h1, h2⟩ => h (Prod.ext h1 h2), toPartner_reg hu ho]

/-- What the writes of the first `n` Beacons leave. -/
structure BeaconsWritten (v : Word) (n : Nat) (s t : State) : Prop where
  svc : inService t = inService s
  parts : ChangesOnly [.log, .outbox, .plant, .regs] s t
  regs : ∀ u off, (u, off) ∉ reportRegs → off < 0x1000 →
    t.reg u off = if ∃ r, r < n ∧ (u, off) = (U.beacon r, Off.beaconCtrl) then v else s.reg u off

theorem BeaconsWritten.step {e : Session} {o : Origin} {v : Word} {n : Nat} {s t : State} (h : BeaconsWritten v n s t) (hn : n < 16) :
    BeaconsWritten v (n + 1) s (writeBeacon n (beaconWrite e o v n) t) := by
  obtain ⟨hsvc, hparts, hregs⟩ := h
  refine ⟨(writeBeacon_inService hn t).trans hsvc, changesOnly_trans hparts (writeBeacon_changesOnly hn t), fun u off hu ho => ?_⟩
  rw [writeBeacon_reg hn t hu ho, hregs u off hu ho]
  by_cases h : (u, off) = (U.beacon n, Off.beaconCtrl)
  · rw [if_pos h, if_pos ⟨n, by omega, h⟩]
  · have hiff : (∃ r, r < n + 1 ∧ (u, off) = (U.beacon r, Off.beaconCtrl)) ↔ ∃ r, r < n ∧ (u, off) = (U.beacon r, Off.beaconCtrl) :=
      ⟨fun ⟨r, hr, hur⟩ => ⟨r, by have : r ≠ n := fun he => h (he ▸ hur); omega, hur⟩, fun ⟨r, hr, hur⟩ => ⟨r, by omega, hur⟩⟩
    simp only [if_neg h, hiff]

/-- The units of the sixteen Beacons. -/
def beaconUnits : List Nat := (List.range 16).map fun r => U.beacon r

theorem beaconUnits_getD {r : Nat} (hr : r < 16) : beaconUnits.getD r 0 = U.beacon r := by simp [beaconUnits, hr]

/-- The members of the class of Beacons are the Beacons, none of which can be absent. -/
theorem groupMembers_beacons (s : State) : groupMembers s 0x7FFF = beaconUnits := by
  have hall : classUnits 7 = beaconUnits := by decide +kernel
  have hpres : ∀ m ∈ beaconUnits, (unitPresent s m && !(decide (7 = 8) && s.power.closed.elem (unitInst m))) = true := by
    intro m hm
    obtain ⟨r, hr, rfl⟩ := List.mem_map.1 hm
    simp [unitPresent, beacon_class (List.mem_range.1 hr)]
  show (classUnits 7).filter (fun m => unitPresent s m && !(decide (7 = 8) && s.power.closed.elem (unitInst m))) = beaconUnits
  rw [hall, List.filter_eq_self.2 hpres]

/-- R398: the role of a served request may do what its opcode asks. -/
theorem served_role {op : Op} {h : Hdr} {e : Session} {s : State} (hs : Served op h e s) : op.role (touch h e.id s) e = true := by
  have hc := hs.checks
  unfold preCheck at hc
  by_contra hr
  simp only [Bool.not_eq_true] at hr
  simp only [hr] at hc
  (repeat' split at hc) <;> simp_all

theorem BeaconsWritten.reg {v : Word} {n r : Nat} {s t : State} (h : BeaconsWritten v n s t) (hr : r < n) :
    t.reg (U.beacon r) Off.beaconCtrl = v := by
  have hrep : (U.beacon r, Off.beaconCtrl) ∉ reportRegs := by simp [reportRegs]
  exact (h.regs _ _ hrep (by decide)).trans (if_pos ⟨r, hr, rfl⟩)

theorem BeaconsWritten.regsOnly {v : Word} {n : Nat} {s t : State} (h : BeaconsWritten v n s t) :
    RegsOnly ((List.range n).map fun r => (U.beacon r, Off.beaconCtrl)) s t := by
  intro u off ho hl hr
  refine (h.regs u off hr ho).trans (if_neg ?_)
  rintro ⟨r, hrn, hur⟩
  exact hl (List.mem_map.2 ⟨r, List.mem_range.2 hrn, hur.symm⟩)

/-- The rule of the k-th Beacon, under one write to all of them. -/
def judgeBeacons (e : Session) (o : Origin) (v : Word) : Nat → State → Judged := judgeGroup e o beaconUnits Off.beaconCtrl v

/-- The writes of the first `n` Beacons, each accepted. -/
theorem tentAfter_beacons {e : Session} {o : Origin} {v : Word} {s : State} (hv : v.toNat ≤ 1) (hsvc : inService s = true)
    (hrole : mayWrite e (U.beacon 0) Off.beaconCtrl = true) {n : Nat} (hn : n ≤ 16) :
    BeaconsWritten v n s (tentAfter (judgeBeacons e o v) s n)
      ∧ ∀ k, k < n → ∃ f, judgeBeacons e o v k (tentAfter (judgeBeacons e o v) s k) = .ok f := by
  induction n with
  | zero => exact ⟨⟨rfl, fun p _ => by cases p <;> rfl, by simp⟩, by simp⟩
  | succ n ih =>
    obtain ⟨hb, hok⟩ := ih (by omega)
    have hj : judgeBeacons e o v n (tentAfter (judgeBeacons e o v) s n) = .ok (writeBeacon n (beaconWrite e o v n)) := by
      have hmember := judgeMember_beacon (o := o) (r := n) (by omega) hv (hb.svc.trans hsvc) hrole
      rwa [← beaconUnits_getD (by omega)] at hmember
    refine ⟨?_, fun k hk => ?_⟩
    · rw [tentAfter_succ, after, hj]
      exact hb.step (by omega)
    · obtain rfl | hlt := Nat.eq_or_lt_of_le (Nat.le_of_lt_succ hk)
      · exact ⟨_, hj⟩
      · exact hok k hlt

/-! ### WRITE and WRITE_GROUP -/

theorem judgeWrite_modeCtrl {w : Write} {s : State} (hu : w.unit = U.sys) (ho : w.off = Off.sysModeCtrl)
    (hres : ∀ r, findReg U.sys Off.sysModeCtrl = some r → w.value &&& r.reserved = 0) :
    judgeWrite w s = if between 100 10000 (fld w.value 31 16) then .ok (writeConfig U.sys Off.sysModeCtrl w.value) else .refuse .badParam := by
  obtain ⟨r, hr, hacc⟩ : ∃ r, findReg U.sys Off.sysModeCtrl = some r ∧ r.acc = .rw := ⟨_, rfl, rfl⟩
  have hc : unitClass U.sys = 0 := rfl
  have hrule := judgeSys_modeCtrl (s := s) ho
  rw [hu, ho] at hrule
  rw [← hrule]
  simp [judgeWrite, hu, ho, hr, hacc, hres r hr, hc]

section
variable {h : Hdr} {e : Session} {s u : State} (hu : u = touch h e.id s)
include hu

section
variable {off : Nat} {v : Word} {r : RegRow} (hd : deadlineMissed h (nextFrame s) s.now = false)
  (hs : Served (writeOp h.unit.toNat off 1) h e s) (hf : findReg h.unit.toNat off = some r) (h9 : unitClass h.unit.toNat ≠ 9)
include hd hs hf h9

/-- R7: a write of an RC register changes nothing. -/
theorem writeRegs_rc (ha : r.acc = .rc) : Answers h .ok (nextFrame s) [] s (writeRegs h off [v] s)
    ∧ ChangesOnly [.outbox, .regs, .vcp] s (writeRegs h off [v] s) ∧ RegsOnly [] s (writeRegs h off [v] s) := by
  obtain ⟨hans, hch, hregs⟩ := writeRegs_done hu (vs := [v]) hs (not_leakRelease hf (by simp [ha]))
    (writeAnswer_one_ok (judgeWrite_rc hf h9 ha)) (List.suffix_refl _) hd
  subst hu
  exact ⟨hans, changesOnly_of_touch (by simp) hch, regsOnly_of_touch hregs⟩

/-- R7: a write of 1s clears event bits and no other. -/
theorem writeRegs_w1c (ha : r.acc = .w1c) (hres : v &&& r.reserved = 0) (h1 : unitClass h.unit.toNat ≠ 1) (h2 : unitClass h.unit.toNat ≠ 2)
    (hrep : (h.unit.toNat, off) ∉ reportRegs) : Answers h .ok (nextFrame s) [] s (writeRegs h off [v] s)
    ∧ (writeRegs h off [v] s).reg h.unit.toNat off = s.reg h.unit.toNat off &&& ~~~ v
    ∧ ChangesOnly [.outbox, .regs, .vcp] s (writeRegs h off [v] s) ∧ RegsOnly [(h.unit.toNat, off)] s (writeRegs h off [v] s) := by
  have hlt := off_lt_of_findReg hf
  obtain ⟨hans, hch, hregs⟩ := writeRegs_done hu (vs := [v]) hs (not_leakRelease hf (by simp [ha]))
    (writeAnswer_one_ok (judgeWrite_w1c hf h9 ha hres h1 h2)) (by simp [clearEvents_frame]) hd
  subst hu
  refine ⟨hans, (hregs _ _ hlt (by simp) hrep).trans (State.reg_setReg_self _ _ _ _), ?_, ?_⟩
  · exact changesOnly_of_touch (by simp) (changesOnly_trans (changesOnly_mono (setReg_changesOnly _ _ _ _) (by simp)) hch)
  · exact regsOnly_of_touch (regsOnly_trans (setReg_regsOnly hlt _ _) (regsOnly_nil hregs))

end

section
variable {v : Word} (hsys : h.unit.toNat = U.sys) (hs : Served (writeOp h.unit.toNat Off.sysModeCtrl 1) h e s)
  (hres : ∀ r, findReg U.sys Off.sysModeCtrl = some r → v &&& r.reserved = 0)
include hsys hs hres

/-- Table 3-13: SYS_MODE_CTRL stores a value of its range. -/
theorem writeRegs_modeCtrl_ok (hd : deadlineMissed h (nextFrame s) s.now = false) (hin : between 100 10000 (fld v 31 16) = true) :
    Answers h .ok (nextFrame s) [] s (writeRegs h Off.sysModeCtrl [v] s) ∧ (writeRegs h Off.sysModeCtrl [v] s).reg U.sys Off.sysModeCtrl = v
      ∧ ChangesOnly [.outbox, .regs, .vcp] s (writeRegs h Off.sysModeCtrl [v] s)
      ∧ RegsOnly [(U.sys, Off.sysModeCtrl)] s (writeRegs h Off.sysModeCtrl [v] s) := by
  have hj := judgeWrite_modeCtrl (w := { session := e, origin := originOf h e, unit := h.unit.toNat, off := Off.sysModeCtrl, value := v }) (s := u)
    hsys rfl hres
  obtain ⟨hans, hch, hregs⟩ := writeRegs_done hu (vs := [v]) hs (by rw [hsys]; decide)
    (writeAnswer_one_ok (hj.trans (if_pos hin))) (by simp) hd
  have hw := writeConfig_plain_changesOnly (u := U.sys) (off := Off.sysModeCtrl) (.inl rfl) (by decide) v u
  have hwr := writeConfig_plain_regsOnly (u := U.sys) (off := Off.sysModeCtrl) (.inl rfl) (by decide) (by decide) v u
  have hval : (writeConfig U.sys Off.sysModeCtrl v u).reg U.sys Off.sysModeCtrl = v := by
    rw [writeConfig_plain (.inl rfl) (by decide)]
    exact State.reg_setReg_self _ _ _ _
  subst hu
  exact ⟨hans, (hregs _ _ (by decide) (by simp) (by decide)).trans hval,
    changesOnly_of_touch (by simp) (changesOnly_trans (changesOnly_mono hw (by simp)) hch),
    regsOnly_of_touch (regsOnly_trans hwr (regsOnly_nil hregs))⟩

/-- Table 3-13: SYS_MODE_CTRL refuses a value out of its range. -/
theorem writeRegs_modeCtrl_badParam (hout : between 100 10000 (fld v 31 16) = false) :
    Sends (.reply h.version h.opcode h.session h.sequence h.unit.toNat .badParam 0 0 []) s (writeRegs h Off.sysModeCtrl [v] s)
      ∧ ChangesOnly [.outbox, .regs, .vcp] s (writeRegs h Off.sysModeCtrl [v] s) ∧ RegsOnly [] s (writeRegs h Off.sysModeCtrl [v] s) := by
  have hj := judgeWrite_modeCtrl (w := { session := e, origin := originOf h e, unit := h.unit.toNat, off := Off.sysModeCtrl, value := v }) (s := u)
    hsys rfl hres
  exact writeRegs_refuse hu (vs := [v]) hs (writeAnswer_one_refuse (hj.trans (if_neg (by simp [hout]))))

end

end

theorem siteAnswer_denied {i : SiteItem} {s : State} (hcom : commissioning s = false) : siteAnswer i s = .refuse .denied 0 :=
  if_pos (by rw [hcom]; rfl)

theorem siteAnswer_badParam {i : SiteItem} {s : State} (hcom : commissioning s = true) (hok : siteOk s i = false) :
    siteAnswer i s = .refuse .badParam 0 :=
  (if_neg (by simp [hcom])).trans (if_pos (by rw [hok]; rfl))

theorem siteAnswer_ok {i : SiteItem} {s : State} (hcom : commissioning s = true) (hok : siteOk s i = true) :
    siteAnswer i s = .done (nextFrame s) [] (toPartner (.site i) (writeSite i s)) :=
  (if_neg (by simp [hcom])).trans (if_neg (by simp [hok]))

/-- The request that configures the site. -/
def siteRequest (h : Hdr) (i : SiteItem) (s : State) : State := vcp (opSite h) h (fun _ s => siteAnswer i s) s

/-- R12, R14, R508: the site's configuration. -/
theorem siteRequest_ok {h : Hdr} {e : Session} {s u : State} {i : SiteItem} (hu : u = touch h e.id s) (hs : Served (opSite h) h e s)
    (hd : deadlineMissed h (nextFrame s) s.now = false) (hcom : commissioning s = true) (hok : siteOk s i = true) :
    Answers h .ok (nextFrame s) [] s (siteRequest h i s)
      ∧ (siteRequest h i s).plant = (writeSite i u).plant
      ∧ ChangesOnly [.outbox, .plant, .regs, .vcp] s (siteRequest h i s)
      ∧ RegsOnly [] s (siteRequest h i s) := by
  have hb := siteAnswer_ok (i := i) (s := u) (by rw [hu]; exact hcom) (by rw [hu]; exact hok)
  obtain ⟨hans, hch, hregs⟩ := vcp_done_spec (body := fun _ s => siteAnswer i s) hu hs (toPartner_sent (by simp [writeSite_frame]) _) hb hd
  have hsite : ChangesOnly [.outbox, .plant] u (toPartner (.site i) (writeSite i u)) := by
    intro p hp
    cases p <;> simp [Part.Same, writeSite_frame] at hp ⊢
  have hplant := hch .plant (by simp)
  refine ⟨hans, hplant.trans (by simp), ?_, ?_⟩
  · subst hu
    exact changesOnly_of_touch (by simp) (changesOnly_trans (changesOnly_mono hsite (by simp)) (changesOnly_mono hch (by simp)))
  · exact regsOnly_trans (regsOnly_of_regs (by simp [writeSite_frame, hu])) hregs

/-- The request WRITE_GROUP. -/
def groupRequest (h : Hdr) (off : BitVec 16) (v : Word) (s : State) : State :=
  vcp (opWriteGroup h off) h (fun e s => groupAnswer h.unit.toNat off.toNat v e (originOf h e) s) s

section
variable {h : Hdr} {off : BitVec 16} {v : Word} {e : Session} {s u : State} (hu : u = touch h e.id s)
  (hs : Served (opWriteGroup h off) h e s) (hunit : h.unit = 0x7FFF) (hoff : off = BitVec.ofNat 16 Off.beaconCtrl)

/-- A client whose write to the group of Beacons is served may write each of them. -/
theorem mayWrite_of_served_beacons (hs : Served (opWriteGroup h off) h e s) (hunit : h.unit = 0x7FFF)
    (hoff : off = BitVec.ofNat 16 Off.beaconCtrl) : mayWrite e (U.beacon 0) Off.beaconCtrl = true := by
  subst hoff
  have hrep : (groupRep 0x7FFF Off.beaconCtrl).getD 0x7FFF = U.beacon 0 := by decide +kernel
  have hr : mayWrite e ((groupRep h.unit.toNat Off.beaconCtrl).getD h.unit.toNat) Off.beaconCtrl = true := served_role hs
  rw [hunit] at hr
  exact hrep ▸ hr

include hu hs hunit hoff

/-- R9: one write to every Beacon. -/
theorem groupRequest_beacons (hd : deadlineMissed h (nextFrame s) s.now = false) (hv : v.toNat ≤ 1) (hsvc : inService s = true) :
    Answers h .ok (nextFrame s) [16, 0] s (groupRequest h off v s)
      ∧ ∃ z, BeaconsWritten v 16 u z ∧ ChangesOnly [.outbox, .regs, .vcp] z (groupRequest h off v s)
        ∧ RegsOnly [] z (groupRequest h off v s) := by
  have hrole := mayWrite_of_served_beacons hs hunit hoff
  obtain ⟨hw, hok⟩ := tentAfter_beacons (o := originOf h e) (s := u) hv (by rw [hu]; exact hsvc) hrole (Nat.le_refl 16)
  have hall := groupAnswer_all (o := originOf h e) (groupMembers_beacons u) (by simp [beaconUnits])
    (decidedNow_of_ok hok)
    (refusing_eq_nil hok)
  subst hoff
  obtain ⟨hans, hch, hregs⟩ := vcp_done_spec hu hs (tentAfter_sent (fun _ _ => judgeMember_keepsSent _ _ _ _ _ _) u 16)
    (body := fun e s => groupAnswer h.unit.toNat Off.beaconCtrl v e (originOf h e) s) (by rw [hunit]; exact hall) hd
  exact ⟨hans, _, hw, hch, hregs⟩

end

/-- Settles O41: a range and a group of writes leave what their batches leave, and one register's write follows the register's access. -/
theorem registersWritten : Obligations.RegistersWritten := by
  refine ⟨fun h e s u hu hd => ⟨
    fun off vs hs => ⟨fun hlen => ?_, fun h1 h16 hc hne => ⟨fun hok => ?_, fun k st hk hok hst => ?_⟩⟩,
    fun off v r hs hf h9 => ⟨fun ha => ?_, fun ha => ?_, fun hro hrc hres => ?_, fun ha hres h1 h2 hrep => ?_⟩,
    fun v hsys hs hres => ⟨fun h100 h10000 => ?_, fun hout => ?_⟩,
    fun off i hs => ⟨fun hcom hok => ?_, fun hcom => ?_, fun hcom hok => ?_⟩⟩,
    fun h off v e s u hu hd hs => ⟨fun h0 => ?_, fun h0 hdec => ⟨fun hbad => ?_, fun k l hbad st hst => ?_⟩, fun hunit hoff hv hsvc => ?_⟩⟩
  · exact ⟨_, rfl, writeRegs_refuse hu hs (writeAnswer_length hlen)⟩
  · exact ⟨_, rfl, writeRegs_done hu hs hne (writeAnswer_all h1 h16 hc hok) (tentAfter_sent (fun _ _ => judgeWrite_keepsSent _ _) u _) hd⟩
  · exact ⟨_, rfl, writeRegs_refuse hu hs (writeAnswer_first h1 h16 hc hk hok hst)⟩
  · exact ⟨_, rfl, writeRegs_refuse hu (vs := [v]) hs (writeAnswer_one_refuse (judgeWrite_ro hf h9 ha))⟩
  · exact ⟨_, rfl, writeRegs_rc hu hd hs hf h9 ha⟩
  · exact ⟨_, rfl, writeRegs_refuse hu (vs := [v]) hs (writeAnswer_one_refuse (judgeWrite_reserved hf h9 hro hrc hres))⟩
  · exact ⟨_, rfl, writeRegs_w1c hu hd hs hf h9 ha hres h1 h2 hrep⟩
  · exact ⟨_, rfl, writeRegs_modeCtrl_ok hu hsys (by rw [hsys]; exact hs) hres hd (by simp [between, h100, h10000])⟩
  · exact ⟨_, rfl, writeRegs_modeCtrl_badParam hu hsys (by rw [hsys]; exact hs) hres (by simp [between]; omega)⟩
  · obtain ⟨hans, hplant, hch, hregs⟩ := siteRequest_ok hu hs hd hcom hok
    refine ⟨siteRequest h i s, rfl, hans, ?_, ?_, ?_, ?_, ?_, hch, hregs⟩
    · rintro set rfl p hp
      rw [State.pump_congr hplant]
      exact setVfd_vfd set u hp
    · rintro l rfl
      refine ⟨by rw [hplant]; rfl, fun r k hr hk hin => ?_⟩
      have hsec : sectorsOk u l = true := by rw [hu]; exact hok
      unfold sectorOf
      rw [hplant]
      exact writeSite_sectors hsec hr hk hin
    · rintro j x rfl
      rw [hplant, hu]
      rfl
    · rintro r id rfl
      rw [hplant]
      exact mget_mset_self _ _ _ _
    · rintro n on rfl
      rw [hplant]
      exact writeSite_channelFive n on u
  · exact ⟨_, rfl, vcp_refuse_spec hu hs (siteAnswer_denied (by rw [hu]; exact hcom))⟩
  · exact ⟨_, rfl, vcp_refuse_spec hu hs (siteAnswer_badParam (by rw [hu]; exact hcom) (by rw [hu]; exact hok))⟩
  · exact ⟨_, rfl, vcp_refuse_spec hu hs (groupAnswer_none rfl h0)⟩
  · exact ⟨_, rfl, vcp_done_spec hu hs (tentAfter_sent (fun _ _ => judgeMember_keepsSent _ _ _ _ _ _) u _)
      (groupAnswer_all rfl h0 hdec hbad) hd⟩
  · rw [hbad]
    exact ⟨_, rfl, vcp_status_spec hu hs (tentAfter_sent (fun _ _ => judgeMember_keepsSent _ _ _ _ _ _) u _)
      (groupAnswer_some rfl h0 hdec hbad hst)⟩
  · obtain ⟨hans, z, hz, hch, hregs⟩ := groupRequest_beacons hu hs hunit hoff hd hv hsvc
    subst hu
    exact ⟨_, rfl, hans, fun r hr => (hregs _ _ (by decide) (by simp) (by simp [reportRegs])).trans (hz.reg hr),
      changesOnly_of_touch (by simp) (changesOnly_trans (changesOnly_mono hz.parts (by simp)) (changesOnly_mono hch (by simp))),
      regsOnly_of_touch (regsOnly_trans hz.regsOnly (regsOnly_nil hregs))⟩

end Sys2Proof.Machine
end

section
/-! R413, R414: what an event leaves: its bit, and beside its register and the registers of reporting no stored register changed. -/

namespace Sys2Proof.Machine

open Sys2Proof Sys2Proof.Safety

theorem changesOnly_refl (ps : List Part) (s : State) : ChangesOnly ps s s := fun p _ => by cases p <;> rfl

theorem regsOnly_refl (l : List (Nat × Nat)) (s : State) : RegsOnly l s s := fun _ _ _ _ _ => rfl

theorem notifyEvent_changesOnly (n : Notify) (s : State) : ChangesOnly [.outbox, .regs, .vcp] s (notifyEvent n s) := by
  intro p hp
  cases p <;> simp [Part.Same] at hp ⊢

theorem notifyEvent_regsOnly (n : Notify) (s : State) : RegsOnly [] s (notifyEvent n s) :=
  fun _ _ ho _ hr => notifyEvent_reg hr ho n s

theorem setEvent_changesOnly (u off n : Nat) (s : State) : ChangesOnly [.regs] s (s.setEvent u off n) := setReg_changesOnly _ _ _ s

theorem setEvent_regsOnly {u off : Nat} (h : off < 0x1000) (n : Nat) (s : State) : RegsOnly [(u, off)] s (s.setEvent u off n) :=
  setReg_regsOnly h _ s

theorem event_changesOnly (u off bit : Nat) (s : State) : ChangesOnly [.outbox, .regs, .vcp] s (event u off bit s) := by
  intro p hp
  cases p <;> simp [Part.Same] at hp ⊢

theorem event_regsOnly {u off : Nat} (h : off < 0x1000) (bit : Nat) (s : State) : RegsOnly [(u, off)] s (event u off bit s) :=
  regsOnly_trans (setEvent_regsOnly h bit s) (regsOnly_nil (notifyEvent_regsOnly _ _))

section
variable {u off bit : Nat} (hu : (u, off) ∉ reportRegs) (ho : off < 0x1000) (s : State)
include hu ho

theorem event_reg_self : (event u off bit s).reg u off = orBit (s.reg u off) bit :=
  (event_reg hu ho u off bit s).trans (State.reg_setReg_self _ _ _ _)

theorem event_bitAt_self (hb : bit < 32) : (event u off bit s).bitAt u off bit = true := by
  simp [State.bitAt, event_reg_self hu ho, bitOf_orBit _ hb]

end

theorem hwEvents_not_report : (U.sys, Off.hwEvents) ∉ reportRegs := by decide

/-! ### The locate flag (R26) -/

theorem hwPanel_not_report : (U.sys, Off.hwPanel) ∉ reportRegs := by decide

theorem setLocate_changesOnly (path : Nat) (on : Bool) (s : State) : ChangesOnly [.outbox, .regs, .vcp] s (setLocate path on s) := by
  intro p hp
  cases p <;> simp [Part.Same, setLocate_frame] at hp ⊢

/-- A change of the flag stores HW_PANEL and is notified. -/
theorem setLocate_regsOnly (path : Nat) (on : Bool) (s : State) : RegsOnly [(U.sys, Off.hwPanel)] s (setLocate path on s) := by
  unfold setLocate
  split
  · exact regsOnly_refl _ s
  · exact regsOnly_trans (setReg_regsOnly (by decide) _ s) (regsOnly_nil (notifyEvent_regsOnly _ _))

theorem setLocate_bitAt (path : Nat) (on : Bool) (s : State) : (setLocate path on s).bitAt U.sys Off.hwPanel 0 = on := by
  unfold setLocate
  split
  next h => exact h
  next =>
    rw [State.bitAt, notifyEvent_reg hwPanel_not_report (by decide), State.reg_setReg_self]
    cases on <;> rfl

/-! ### The harness loop (R31, R262) -/

/-- A Relief whose harness loop is open is BARRED, and remembers its role. -/
def barred (s : State) : State := { s with pair := { s.pair with role := .barred, barredFrom := s.pair.role } }

/-- HARNESS_OPEN in force and the loop known to be open, before the role follows. -/
def loopOpened (s : State) : State := event U.sys Off.hwEvents 6 { s with pair.harnessClosed := false }

theorem loopOpened_pair (s : State) : (loopOpened s).pair = { s.pair with harnessClosed := false } := by simp [loopOpened]

theorem loopOpened_changesOnly (s : State) : ChangesOnly [.outbox, .pair, .regs, .vcp] s (loopOpened s) := by
  intro p hp
  cases p <;> simp [Part.Same, loopOpened] at hp ⊢

theorem loopOpened_regsOnly (s : State) : RegsOnly [(U.sys, Off.hwEvents)] s (loopOpened s) := event_regsOnly (by decide) _ _

theorem loopOpened_bitAt (s : State) : (loopOpened s).bitAt U.sys Off.hwEvents 6 = true :=
  event_bitAt_self hwEvents_not_report (by decide) _ (by decide)

theorem execHarnessOpen_eq (s : State) : execHarnessOpen s = .next (if isRelief s then barred (loopOpened s) else loopOpened s) := by
  have hrole : (loopOpened s).pair.role = s.pair.role := by rw [loopOpened_pair]
  simp only [barred, hrole]
  rfl

theorem barred_changesOnly (s : State) : ChangesOnly [.pair] s (barred s) := by
  intro p hp
  cases p <;> simp [Part.Same, barred] at hp ⊢

theorem isKeeper_iff (s : State) : isKeeper s = true ↔ s.pair.role = .keeper := by simp [isKeeper]

theorem not_isRelief_of_isKeeper {s : State} (h : isKeeper s = true) : isRelief s = false := by
  simp [isRelief, (isKeeper_iff s).1 h]

/-! ### LOCATE and its button (R26, R410) -/

/-- The request LOCATE. -/
def locateRequest (h : Hdr) (action : BitVec 8) (s : State) : State :=
  vcp (opLocate h) h (fun _ s => if 1 < action.toNat then .refuse .badParam 0
    else .done (nextFrame s) [] (setLocate 1 (decide (action = 1)) s)) s

section
variable {h : Hdr} {e : Session} {s : State} {action : BitVec 8} (hs : Served (opLocate h) h e s)
include hs

theorem locateRequest_ok (ha : action.toNat ≤ 1) (hd : deadlineMissed h (nextFrame s) s.now = false) :
    Answers h .ok (nextFrame s) [] s (locateRequest h action s)
      ∧ (locateRequest h action s).bitAt U.sys Off.hwPanel 0 = decide (action = 1)
      ∧ ChangesOnly [.outbox, .regs, .vcp] s (locateRequest h action s) ∧ RegsOnly [(U.sys, Off.hwPanel)] s (locateRequest h action s) := by
  obtain ⟨hans, hch, hregs⟩ := vcp_done_spec rfl hs (setLocate_sent (List.suffix_refl _) 1 (decide (action = 1)))
    (body := fun _ s => if 1 < action.toNat then .refuse .badParam 0 else .done (nextFrame s) [] (setLocate 1 (decide (action = 1)) s))
    (if_neg (by omega)) hd
  refine ⟨hans, ?_, ?_, ?_⟩
  · exact (congrArg (bitOf · 0) (hregs _ _ (by decide) (by simp) hwPanel_not_report)).trans (setLocate_bitAt _ _ _)
  · exact changesOnly_of_touch (by simp) (changesOnly_trans (setLocate_changesOnly _ _ _) hch)
  · exact regsOnly_of_touch (regsOnly_trans (setLocate_regsOnly _ _ _) (regsOnly_nil hregs))

theorem locateRequest_badParam (ha : 1 < action.toNat) :
    Answers h .badParam 0 [] s (locateRequest h action s) ∧ ChangesOnly [.outbox, .regs, .vcp] s (locateRequest h action s)
      ∧ RegsOnly [] s (locateRequest h action s) :=
  vcp_refuse_spec rfl hs (if_pos ha)

end

/-- Settles O22: the harness loop's event and the roles it bars and gives back, and the locate flag by its three paths. -/
theorem harnessAndLocate : Obligations.HarnessAndLocate := by
  intro s
  refine ⟨⟨_, execHarnessOpen_eq s, ?_⟩, fun hopen => ?_, fun h action e hs =>
    ⟨fun ha hd => ⟨_, rfl, locateRequest_ok hs ha hd⟩, fun ha => ⟨_, rfl, locateRequest_badParam hs ha⟩⟩, ?_, ⟨s, rfl, rfl⟩⟩
  · have hpair := loopOpened_pair s
    have hch := loopOpened_changesOnly s
    cases hr : isRelief s with
    | false =>
      exact ⟨loopOpened_bitAt s, by simp [hpair], fun hk => by simpa [hpair, isKeeper] using hk, by simp, hch, loopOpened_regsOnly s⟩
    | true =>
      refine ⟨loopOpened_bitAt s, by simp [hpair, barred], fun hk => ?_, fun _ => by simp [hpair, barred], ?_, loopOpened_regsOnly s⟩
      · rw [not_isRelief_of_isKeeper hk] at hr
        exact absurd hr (by decide)
      · exact changesOnly_trans hch (changesOnly_mono (barred_changesOnly _) (by simp))
  · refine ⟨_, rfl, ?_, ?_⟩
    · by_cases hb : s.pair.role = .barred <;> simp [hb, hopen]
    · intro p hp
      cases p <;> simp [Part.Same] at hp ⊢
  · exact ⟨_, rfl, setLocate_bitAt _ _ _, setLocate_changesOnly _ _ _, setLocate_regsOnly _ _ _⟩

end Sys2Proof.Machine
end

section
/-! R443 to R447, R506: what one pass over a list of units leaves, channels whose card goes away or loses its power, and the gates. -/

namespace Sys2Proof.Machine

open Sys2Proof Sys2Proof.Safety

/-! ### One pass over a list of units -/

section
variable {α : Type} {l : List α} {f : α → State → State} {s : State} {P : State → Prop}

/-- What every step keeps holds after the pass. -/
theorem forEach_keeps (hs : P s) (hf : ∀ x ∈ l, ∀ a, P a → P (f x a)) : P (forEach l f s) := by
  unfold forEach
  induction l generalizing s with
  | nil => exact hs
  | cons x l ih => exact ih (hf x (by simp) s hs) fun y hy => hf y (by simp [hy])

/-- What the step of one element brings about, under a condition that every step keeps, holds after the pass where no other step undoes it. -/
theorem forEach_sets {I : State → Prop} {x : α} (hx : x ∈ l) (hs : I s) (hI : ∀ y ∈ l, ∀ a, I a → I (f y a))
    (hset : ∀ a, I a → P (f x a)) (hkeep : ∀ y ∈ l, y ≠ x → ∀ a, P a → P (f y a)) : P (forEach l f s) := by
  obtain ⟨l₁, l₂, rfl⟩ := List.append_of_mem hx
  have hsplit : forEach (l₁ ++ x :: l₂) f s = forEach l₂ f (f x (forEach l₁ f s)) := by simp [forEach]
  have hbefore : I (forEach l₁ f s) := forEach_keeps hs fun y hy => hI y (by simp [hy])
  have hboth : I (f x (forEach l₁ f s)) ∧ P (f x (forEach l₁ f s)) := ⟨hI x (by simp) _ hbefore, hset _ hbefore⟩
  rw [hsplit]
  refine (forEach_keeps (P := fun a => I a ∧ P a) hboth fun y hy a ha => ⟨hI y (by simp [hy]) a ha.1, ?_⟩).2
  by_cases hyx : y = x
  · exact hyx ▸ hset a ha.1
  · exact hkeep y (by simp [hy]) hyx a ha.2

end

/-! ### Channels that go off -/

/-- A valve channel without command and current. -/
def Valve.Idle (v : Valve) : Prop := v.cmd = none ∧ v.phase = .off

/-- A motor channel without command that stands still. -/
def Motor.Idle (m : Motor) : Prop := m.cmd = none ∧ m.st = .stopped

@[simp] theorem endChanCmd_valve (c : Option ChanCmd) (st : Status) (s : State) (j : Nat) : (endChanCmd c st s).valve j = s.valve j :=
  State.valve_congr (by simp) j

@[simp] theorem endChanCmd_motor (c : Option ChanCmd) (st : Status) (s : State) (j : Nat) : (endChanCmd c st s).motor j = s.motor j :=
  State.motor_congr (by simp) j

theorem dropValveCmd_valve (c : Nat) (st : Status) (s : State) (j : Nat) :
    ((dropValveCmd c st s).valve c).cmd = none ∧ (j ≠ c → (dropValveCmd c st s).valve j = s.valve j) := by
  unfold dropValveCmd
  refine ⟨by simp, fun h => ?_⟩
  simp [h]
  rfl

theorem endMotorCmd_motor (c : Nat) (st : Status) (s : State) (j : Nat) :
    ((endMotorCmd c st s).motor c).cmd = none ∧ (j ≠ c → (endMotorCmd c st s).motor j = s.motor j) := by
  unfold endMotorCmd
  dsimp only
  split
  · exact ⟨by simp, fun h => by simp [h]⟩
  next h => exact ⟨h, fun _ => rfl⟩

theorem valveUnpowered_eq (c : Nat) (s : State) : ∃ st, valveUnpowered c s = (dropValveCmd c st s).modValve c coilOff := by
  unfold valveUnpowered
  dsimp only
  split <;> exact ⟨_, rfl⟩

theorem valveUnpowered_valve (c : Nat) (s : State) (j : Nat) :
    ((valveUnpowered c s).valve c).Idle ∧ (j ≠ c → (valveUnpowered c s).valve j = s.valve j) := by
  obtain ⟨st, he⟩ := valveUnpowered_eq c s
  obtain ⟨hself, hother⟩ := dropValveCmd_valve c st s j
  rw [he]
  exact ⟨by simp [Valve.Idle, coilOff, hself], fun h => by simp [h, hother h]⟩

theorem motorUnpowered_motor (st : Status) (c : Nat) (s : State) (j : Nat) :
    ((motorUnpowered st c s).motor c).Idle ∧ (j ≠ c → (motorUnpowered st c s).motor j = s.motor j) := by
  obtain ⟨hself, hother⟩ := endMotorCmd_motor c st s j
  exact ⟨by simp [Motor.Idle, motorUnpowered, hself], fun h => by simp [motorUnpowered, h, hother h]⟩

theorem mem_valvesOf {k c : Nat} : c ∈ valvesOf k ↔ c < 96 ∧ slotOfValve c = k := by simp [valvesOf, valves96]

theorem mem_motorsOf {k c : Nat} : c ∈ motorsOf k ↔ c < 48 ∧ slotOfMotor c = k := by simp [motorsOf, motors48]

section
variable {f : Nat → State → State} (k : Nat) (s : State)

/-- A pass over the valve channels of a card, each step of which puts its own channel to rest. -/
theorem forEach_valvesOf (hf : ∀ c a j, ((f c a).valve c).Idle ∧ (j ≠ c → (f c a).valve j = a.valve j)) (j : Nat) :
    (j < 96 → slotOfValve j = k → ((forEach (valvesOf k) f s).valve j).Idle)
      ∧ (slotOfValve j ≠ k → (forEach (valvesOf k) f s).valve j = s.valve j) := by
  refine ⟨fun hj hk => ?_, fun hk => ?_⟩
  · exact forEach_sets (P := fun a => (a.valve j).Idle) (I := fun _ => True) (mem_valvesOf.2 ⟨hj, hk⟩) trivial (fun _ _ _ _ => trivial)
      (fun a _ => (hf j a j).1) fun c _ hc a ha => by rwa [(hf c a j).2 (Ne.symm hc)]
  · refine forEach_keeps (P := fun a => a.valve j = s.valve j) rfl fun c hc a ha => ?_
    have hne : j ≠ c := fun h => hk (h ▸ (mem_valvesOf.1 hc).2)
    exact ((hf c a j).2 hne).trans ha

/-- The same of the motor channels of a card. -/
theorem forEach_motorsOf (hf : ∀ c a j, ((f c a).motor c).Idle ∧ (j ≠ c → (f c a).motor j = a.motor j)) {j : Nat} (hj : j < 48)
    (hk : slotOfMotor j = k) : ((forEach (motorsOf k) f s).motor j).Idle :=
  forEach_sets (P := fun a => (a.motor j).Idle) (I := fun _ => True) (mem_motorsOf.2 ⟨hj, hk⟩) trivial (fun _ _ _ _ => trivial)
    (fun a _ => (hf j a j).1) fun c _ hc a ha => by rwa [(hf c a j).2 (Ne.symm hc)]

end

/-- R23, R444: the valve channels of a card that is removed are at rest, and those of other cards as before. -/
theorem cardRemoved_valve (st : Status) (k : Nat) (s : State) (j : Nat) :
    ((s.card k).type = 1 → j < 96 → slotOfValve j = k → ((cardRemoved st k s).valve j).Idle)
      ∧ (slotOfValve j ≠ k → (cardRemoved st k s).valve j = s.valve j) := by
  unfold cardRemoved
  split
  next ht =>
    have hstep := forEach_valvesOf k s (f := fun c a => (dropValveCmd c st a).modValve c (fun v =>
      { coilOff v with cardReset := v.cardReset || ((a.valve c).cmd.isSome && decide (st = .cardReset)) })) (fun c a j => by
        obtain ⟨hself, hother⟩ := dropValveCmd_valve c st a j
        exact ⟨by simp [Valve.Idle, coilOff, hself], fun h => by simp [h, hother h]⟩) j
    exact ⟨fun _ => hstep.1, hstep.2⟩
  next ht => exact ⟨fun h => by simp [h] at ht, fun _ => State.valve_congr (by simp [motorUnpowered_frame]) j⟩
  next ht => exact ⟨fun h => by simp [h] at ht, fun _ => State.valve_congr (by simp) j⟩
  next h1 _ _ => exact ⟨fun h => absurd h h1, fun _ => rfl⟩

/-- R23, R444: the motor channels of a card that is removed are at rest. -/
theorem cardRemoved_motor (st : Status) {k : Nat} {s : State} (ht : (s.card k).type = 2) {j : Nat} (hj : j < 48) (hk : slotOfMotor j = k) :
    ((cardRemoved st k s).motor j).Idle := by
  unfold cardRemoved
  rw [ht]
  exact forEach_motorsOf k s (f := fun c a => (motorUnpowered st c a).modMotor c (fun m =>
    { m with cardReset := m.cardReset || ((a.motor c).cmd.isSome && decide (st = .cardReset)) })) (fun c a j => by
      obtain ⟨⟨hcmd, hst⟩, hother⟩ := motorUnpowered_motor st c a j
      exact ⟨by simp [Motor.Idle, hcmd, hst], fun h => by simp [h, hother h]⟩) hj hk

/-! ### Gates (R443 to R447) -/

theorem closeGate_changesOnly (code : Nat) (ejector : Bool) (s : State) : ChangesOnly [.power] s (closeGate code ejector s) := by
  intro p hp
  cases p <;> simp [Part.Same, closeGate_frame] at hp ⊢

theorem closeGate_regs (code : Nat) (ejector : Bool) (s : State) : (closeGate code ejector s).regs = s.regs := by simp [closeGate_frame]

/-- R444 step 1: an open gate closes. -/
theorem closeGate_power {code : Nat} {s : State} (h : code ∉ s.power.closed) (ejector : Bool) :
    (closeGate code ejector s).power
      = { s.power with closed := code :: s.power.closed, closing := (code, s.now, ejector) :: s.power.closing } := by
  simp [closeGate, h]

/-- The gate stands closed afterwards, whether it stood open or not. -/
theorem mem_closed_closeGate (code : Nat) (ejector : Bool) (s : State) : code ∈ (closeGate code ejector s).power.closed := by
  by_cases h : code ∈ s.power.closed
  · simp [closeGate, h]
  · simp [closeGate_power h]

/-- R447: PWR_EVENTS and PWR_XRESET after the reset of a domain is signalled. -/
theorem signalReset_regs {code : Nat} (hcode : code < 256) (s : State) :
    (signalReset code s).bitAt U.sys Off.pwrEvents 5 = true ∧ (signalReset code s).fldOf U.sys Off.pwrXreset 31 24 = code := by
  unfold signalReset
  refine ⟨?_, ?_⟩
  · rw [State.bitAt, State.reg_setReg_other _ _ (by decide) (by decide) (by decide),
      State.reg_addCount_other _ (by decide) (by decide) (by decide)]
    exact State.bitAt_setEvent_self _ _ _ _ (by decide)
  · rw [State.fldOf, State.reg_setReg_self, fld_putFld_self _ _ (by decide) (by omega)]

theorem signalReset_changesOnly (code : Nat) (s : State) : ChangesOnly [.regs] s (signalReset code s) := by
  intro p hp
  cases p <;> simp [Part.Same, signalReset_frame] at hp ⊢

/-- R444: the state in which a domain whose drain has ended goes down. -/
def drained (code : Nat) (s : State) : State := { s with power.closing := s.power.closing.filter (fun f => decide (f.1 ≠ code)) }

theorem drained_changesOnly (code : Nat) (s : State) : ChangesOnly [.power] s (drained code s) := by
  intro p hp
  cases p <;> simp [Part.Same, drained] at hp ⊢

theorem not_closing_of_drained {code : Nat} {s t : State} (h : t.power = (drained code s).power) : ∀ f ∈ t.power.closing, f.1 ≠ code := by
  simp [h, drained]

/-- At the end of the drain limit the domain goes down and its reset is signalled. -/
theorem execDomainDrainEnd_eq {d : Domain} {code : Nat} {s : State} {z : Time} {e : Bool} (hd : domainCode d = code)
    (hf : s.power.closing.find? (fun c => decide (c.1 = code)) = some (code, z, e)) (hz : z + 100 * Config.us ≤ s.now) :
    execDomainDrainEnd d s
      = .next (signalReset code (if 0x20 ≤ code then slotDown (code - 0x20) e (drained code s) else dieDown code (drained code s))) := by
  subst hd
  simp only [execDomainDrainEnd, hf]
  exact if_pos hz

theorem slotDown_changesOnly (k : Nat) (e : Bool) (s : State) :
    ChangesOnly [.analogs, .cards, .log, .motors, .outbox, .plant, .regs, .senses, .service, .valves, .vcp] s (slotDown k e s) := by
  intro p hp
  cases p <;> simp [Part.Same, slotDown_frame] at hp ⊢

section
variable (k : Nat) (e : Bool) (s : State)

/-- R444: the slot's card is GATED, or stays FAULTED, in HOLD. -/
theorem slotDown_card (j : Nat) : (slotDown k e s).card j
    = if j = k then { s.card k with st := if (s.card k).st = .faulted then .faulted else .gated, hold := true } else s.card j := by
  have hcard : ∀ i, (dropService k (cardRemoved (if e then .cardReset else .domainDown) k s)).card i = s.card i :=
    State.card_congr (by simp [dropService_frame, cardRemoved_frame])
  simp [slotDown, hcard]

theorem slotDown_valves : (slotDown k e s).valves = (cardRemoved (if e then .cardReset else .domainDown) k s).valves := by
  simp [slotDown, dropService_frame]

theorem slotDown_motors : (slotDown k e s).motors = (cardRemoved (if e then .cardReset else .domainDown) k s).motors := by
  simp [slotDown, dropService_frame]

end

/-! #### Copies leave the firmware alone -/

theorem startHead_fw (k : Nat) (s : State) : (startHead k s).fw = s.fw := by
  unfold startHead
  dsimp only
  (repeat' split) <;> simp [endCopy_frame, openBulk_frame, setBusy_frame]

theorem serveService_fw (fuel : Nat) (s : State) : (serveService fuel s).fw = s.fw := by
  induction fuel generalizing s with
  | zero => rfl
  | succ n ih =>
    unfold serveService
    split
    · rfl
    · rw [ih, startHead_fw]

theorem serveFirmware_fw (fuel : Nat) (s : State) : (serveFirmware fuel s).fw = s.fw := by
  induction fuel generalizing s with
  | zero => rfl
  | succ n ih =>
    unfold serveFirmware
    split
    · rfl
    · rw [ih, startHead_fw]

theorem dropCopies_fw (p : Mem → Bool) (s : State) : (dropCopies p s).fw = s.fw := by
  unfold dropCopies startCopies
  rw [serveFirmware_fw, serveService_fw]
  refine forEach_keeps (P := fun a => a.fw = s.fw) rfl fun k _ a ha => ?_
  (repeat' split) <;> simp [endRunning_frame, ha]

theorem dieDown_fw (code : Nat) (s : State) : (dieDown code s).fw = s.fw := by
  unfold dieDown
  split <;> simp [gateDie_frame, dropCopies_fw]

/-- A die below the package loses its copies and its power. -/
theorem dieDown_eq {code : Nat} (h : code ≠ 24) (s : State) : ∃ p, dieDown code s = gateDie code (dropCopies p s) := by
  unfold dieDown
  rw [if_neg h]
  exact ⟨_, rfl⟩

theorem gateDie_die (i : Nat) (s : State) (j : Nat) : (gateDie i s).die j
    = if j = i then { s.die i with st := if (s.die i).st = 3 then 3 else 2, power := 0 } else s.die j := by
  simp [gateDie]

theorem dieDown_die {code : Nat} (h : code ≠ 24) (s : State) (j : Nat) : (dieDown code s).die j
    = if j = code then { s.die code with st := if (s.die code).st = 3 then 3 else 2, power := 0 } else s.die j := by
  obtain ⟨p, he⟩ := dieDown_eq h s
  have hdies : ∀ i, (dropCopies p s).die i = s.die i := State.die_congr (by simp [dropCopies_frame])
  rw [he, gateDie_die, hdies, hdies]

theorem dieDown_changesOnly (code : Nat) (s : State) :
    ChangesOnly [.copies, .dies, .free, .hall, .links, .outbox, .power, .regs] s (dieDown code s) := by
  intro p hp
  cases p <;> simp [Part.Same, dieDown_frame, dieDown_fw] at hp ⊢

end Sys2Proof.Machine
end

section
/-! R23, R312, R443 to R447: card slots and dies close and come back. -/

namespace Sys2Proof.Machine

open Sys2Proof Sys2Proof.Safety

/-- R23, R443: a fitted card's gate closes, with the way its pending commands will end. -/
theorem closeGate_ofCard {k : Nat} {s : State} (hst : (s.card k).st ≠ .absent) (hopen : 0x20 + k ∉ s.power.closed) (ejector : Bool) :
    (if (s.card k).st = .absent then s else closeGate (0x20 + k) ejector s).power
        = { s.power with closed := (0x20 + k) :: s.power.closed, closing := (0x20 + k, s.now, ejector) :: s.power.closing }
      ∧ ChangesOnly [.power] s (if (s.card k).st = .absent then s else closeGate (0x20 + k) ejector s) := by
  rw [if_neg hst]
  exact ⟨closeGate_power hopen ejector, closeGate_changesOnly _ _ _⟩

/-! ### A card that fails (R312) -/

/-- The card is FAULTED, its slot closes, and the sessions are told. -/
def cardFault (k : Nat) (s : State) : State :=
  closeGate (0x20 + k) false (cardNotify k .faulted (some (k + 1)) (s.setCard k { s.card k with st := .faulted, hold := true }))

theorem execCardFaulted_eq {k : Fin 6} {s : State} (hrun : 20 ≤ (s.card k.val).missedRun) (hst : (s.card k.val).st = .active) :
    execCardFaulted k s = .next (cardFault k.val s) := if_pos ⟨hrun, .inl hst⟩

theorem cardFault_card (k : Nat) (s : State) (j : Nat) :
    (cardFault k s).card j = if j = k then { s.card k with st := .faulted, hold := true } else s.card j :=
  (State.card_congr (by simp [cardFault, closeGate_frame, cardNotify_frame]) j).trans (State.card_setCard _ _ _ _)

theorem cardFault_changesOnly (k : Nat) (s : State) : ChangesOnly [.cards, .outbox, .power, .regs, .vcp] s (cardFault k s) := by
  intro p hp
  cases p <;> simp [Part.Same, cardFault, closeGate_frame, cardNotify_frame] at hp ⊢

theorem cardFault_regsOnly (k : Nat) (s : State) : RegsOnly [] s (cardFault k s) :=
  regsOnly_trans (t := s.setCard k { s.card k with st := .faulted, hold := true }) (regsOnly_of_regs (by simp))
    (regsOnly_trans (notifyEvent_regsOnly _ _) (regsOnly_of_regs (closeGate_regs _ _ _)))

/-! ### The end of a drain (R444, R447) -/

/-- A slot whose drain has ended. -/
def slotDrained (k : Nat) (e : Bool) (s : State) : State := signalReset (0x20 + k) (slotDown k e (drained (0x20 + k) s))

theorem execDomainDrainEnd_slot {k : Fin 6} {s : State} {z : Time} {e : Bool}
    (hf : s.power.closing.find? (fun c => decide (c.1 = 0x20 + k.val)) = some (0x20 + k.val, z, e)) (hz : z + 100 * Config.us ≤ s.now) :
    execDomainDrainEnd (.slot k) s = .next (slotDrained k.val e s) := by
  rw [execDomainDrainEnd_eq (d := .slot k) (code := 0x20 + k.val) rfl hf hz, if_pos (by omega), Nat.add_sub_cancel_left]
  rfl

section
variable (k : Nat) (e : Bool) (s : State)

theorem slotDrained_power : (slotDrained k e s).power = (drained (0x20 + k) s).power := by
  simp [slotDrained, signalReset_frame, slotDown_frame]

theorem slotDrained_card (j : Nat) : (slotDrained k e s).card j
    = if j = k then { s.card k with st := if (s.card k).st = .faulted then .faulted else .gated, hold := true } else s.card j :=
  (State.card_congr (by simp [slotDrained, signalReset_frame]) j).trans (slotDown_card k e (drained (0x20 + k) s) j)

theorem slotDrained_valve (j : Nat) :
    ((s.card k).type = 1 → j < 96 → slotOfValve j = k → ((slotDrained k e s).valve j).Idle)
      ∧ (slotOfValve j ≠ k → (slotDrained k e s).valve j = s.valve j) := by
  rw [State.valve_congr (show (slotDrained k e s).valves = (cardRemoved (if e then .cardReset else .domainDown) k (drained (0x20 + k) s)).valves
    by simp [slotDrained, signalReset_frame, slotDown_valves])]
  exact cardRemoved_valve _ k (drained (0x20 + k) s) j

theorem slotDrained_motor {j : Nat} (ht : (s.card k).type = 2) (hj : j < 48) (hk : slotOfMotor j = k) : ((slotDrained k e s).motor j).Idle := by
  rw [State.motor_congr (show (slotDrained k e s).motors = (cardRemoved (if e then .cardReset else .domainDown) k (drained (0x20 + k) s)).motors
    by simp [slotDrained, signalReset_frame, slotDown_motors])]
  exact cardRemoved_motor _ (s := drained (0x20 + k) s) ht hj hk

theorem slotDrained_changesOnly :
    ChangesOnly [.analogs, .cards, .log, .motors, .outbox, .plant, .power, .regs, .senses, .service, .valves, .vcp] s (slotDrained k e s) :=
  changesOnly_trans (changesOnly_mono (drained_changesOnly _ s) (by simp))
    (changesOnly_trans (changesOnly_mono (slotDown_changesOnly _ _ _) (by simp)) (changesOnly_mono (signalReset_changesOnly _ _) (by simp)))

end

/-- A compute die whose drain has ended. -/
def dieDrained (i : Nat) (s : State) : State := signalReset i (dieDown i (drained i s))

theorem execDomainDrainEnd_compute {i : Fin 16} {s : State} {z : Time} {e : Bool}
    (hf : s.power.closing.find? (fun c => decide (c.1 = i.val)) = some (i.val, z, e)) (hz : z + 100 * Config.us ≤ s.now) :
    execDomainDrainEnd (.compute i) s = .next (dieDrained i.val s) := by
  rw [execDomainDrainEnd_eq (d := .compute i) (code := i.val) rfl hf hz, if_neg (by omega)]
  rfl

theorem dieDrained_die {i : Nat} (hi : i < 16) (s : State) (j : Nat) : (dieDrained i s).die j
    = if j = i then { s.die i with st := if (s.die i).st = 3 then 3 else 2, power := 0 } else s.die j :=
  (State.die_congr (by simp [dieDrained, signalReset_frame]) j).trans (dieDown_die (by omega) (drained i s) j)

theorem dieDrained_changesOnly (i : Nat) (s : State) :
    ChangesOnly [.copies, .dies, .free, .hall, .links, .log, .outbox, .plant, .power, .regs, .vcp] s (dieDrained i s) :=
  changesOnly_trans (changesOnly_mono (drained_changesOnly i s) (by simp))
    (changesOnly_trans (changesOnly_mono (dieDown_changesOnly i _) (by simp)) (changesOnly_mono (signalReset_changesOnly _ _) (by simp)))

/-! ### A die that reports ready (R446) -/

/-- Its gate is open, and it may be gated by its temperature again; a gated die works on, or idles while no leg runs. -/
def dieReady (i : Nat) (s : State) : State :=
  ({ s with power.closed := s.power.closed.filter (fun e => decide (e ≠ i)), fans.gatedHot := s.fans.gatedHot && decide (0x20 ≤ i) }).modDie i
    (fun x => { x with st := if x.st = 2 then (if legsRun s then 0 else 1) else x.st })

theorem execDomainReady_compute {i : Fin 16} {s : State} (hcl : i.val ∈ s.power.closed) (hdr : ∀ e ∈ s.power.closing, e.1 ≠ i.val)
    (hst : (s.die i.val).st ≠ 3) (hre : s.integ.resetAt = none) : execDomainReady (.compute i) s = .next (dieReady i.val s) := by
  have hdr' : s.power.closing.any (fun e => decide (e.1 = i.val)) = false :=
    List.any_eq_false.2 fun e he => by simpa using hdr e he
  have hgo : ¬ (s.power.closing.any (fun e => decide (e.1 = i.val)) = true ∨ (!s.power.closed.elem i.val) = true
      ∨ (i.val < 24 ∧ (s.die i.val).st = 3) ∨ (i.val ≤ 24 ∧ s.integ.resetAt.isSome = true)) := by
    simp [hdr', hcl, hst, hre]
  exact if_neg hgo

/-- Table 15-7: the gate of a RETIRED die stays closed. -/
theorem execDomainReady_retired {i : Fin 16} {s : State} (hst : (s.die i.val).st = 3) : execDomainReady (.compute i) s = .next s :=
  if_pos (.inr (.inr (.inl ⟨show i.val < 24 by omega, hst⟩)))

theorem dieReady_die (i : Nat) (s : State) (j : Nat) : (dieReady i s).die j
    = if j = i then { s.die i with st := if (s.die i).st = 2 then (if legsRun s then 0 else 1) else (s.die i).st } else s.die j :=
  State.die_modDie _ _ _ _

theorem not_closed_dieReady (i : Nat) (s : State) : i ∉ (dieReady i s).power.closed := by simp [dieReady]

theorem dieReady_changesOnly (i : Nat) (s : State) : ChangesOnly [.dies, .fans, .power] s (dieReady i s) := by
  intro p hp
  cases p <;> simp [Part.Same, dieReady] at hp ⊢

/-- Settles O19: gates close, drains end with what they gated at rest, and a die that reports ready opens again unless it is RETIRED. -/
theorem domainsClose : Obligations.DomainsClose := by
  intro s
  refine ⟨fun k hst hopen => ⟨⟨_, rfl, closeGate_ofCard hst hopen true⟩, ⟨_, rfl, closeGate_ofCard hst hopen false⟩⟩, fun k hrun hst => ?_,
    fun k z e hf hz => ?_, fun i z e hf hz => ?_, fun i hcl hdr hst hre => ?_, fun i hst => ⟨s, execDomainReady_retired hst, rfl⟩⟩
  · exact ⟨_, execCardFaulted_eq hrun hst, (cardFault_card _ s _).trans (if_pos rfl), mem_closed_closeGate _ _ _,
      fun j hj => (cardFault_card _ s j).trans (if_neg hj), cardFault_changesOnly _ s, cardFault_regsOnly _ s⟩
  · have hself := (slotDrained_card k.val e s k.val).trans (if_pos rfl)
    obtain ⟨hevent, hcode⟩ := signalReset_regs (code := 0x20 + k.val) (by omega) (slotDown k.val e (drained (0x20 + k.val) s))
    exact ⟨_, execDomainDrainEnd_slot hf hz, by rw [hself], by rw [hself],
      fun c hc hk ht => (slotDrained_valve k.val e s c).1 ht hc hk, fun c hc hk ht => slotDrained_motor k.val e s ht hc hk,
      fun c _ hk => (slotDrained_valve k.val e s c).2 hk, hevent, hcode, not_closing_of_drained (slotDrained_power _ e s),
      fun j hj => (slotDrained_card _ e s j).trans (if_neg hj), slotDrained_changesOnly _ e s⟩
  · obtain ⟨hevent, hcode⟩ := signalReset_regs (code := i.val) (by omega) (dieDown i.val (drained i.val s))
    exact ⟨_, execDomainDrainEnd_compute hf hz, (dieDrained_die i.isLt s _).trans (if_pos rfl), hevent, hcode,
      fun j hj => (dieDrained_die i.isLt s j).trans (if_neg hj), dieDrained_changesOnly _ s⟩
  · exact ⟨_, execDomainReady_compute hcl hdr hst hre, not_closed_dieReady _ s, (dieReady_die _ s _).trans (if_pos rfl),
      fun j hj => (dieReady_die _ s j).trans (if_neg hj), dieReady_changesOnly _ s⟩

end Sys2Proof.Machine
end

section
/-! R29, R36, R37, R506: the main and field inputs, and the cards and channels that lose their supply. -/

namespace Sys2Proof.Machine

open Sys2Proof Sys2Proof.Safety

/-! ### Main inputs (R36) -/

/-- Whether a main input is in its range. -/
def setMain (i : InputId) (on : Bool) (s : State) : State :=
  match i with
  | .a => { s with power.mainA := on }
  | .b => { s with power.mainB := on }

/-- MAIN_A_LOSS or MAIN_B_LOSS. -/
def mainLossBit : InputId → Nat
  | .a => 0
  | .b => 1

theorem execMainInputLoss_eq (i : InputId) (s : State) :
    execMainInputLoss i s = .next (event U.sys Off.hwEvents (mainLossBit i) (setMain i false s)) := by cases i <;> rfl

theorem execMainInputReturn_eq (i : InputId) (s : State) : execMainInputReturn i s = .next (setMain i true s) := by cases i <;> rfl

theorem setMain_changesOnly (i : InputId) (on : Bool) (s : State) : ChangesOnly [.power] s (setMain i on s) := by
  intro p hp
  cases i <;> cases p <;> simp [Part.Same, setMain] at hp ⊢

/-- An event of HW_EVENTS that comes with a change of the power inputs. -/
theorem powerEvent_frame {bit : Nat} {s a : State} (h : ChangesOnly [.power] s a) :
    ChangesOnly [.outbox, .power, .regs, .vcp] s (event U.sys Off.hwEvents bit a)
      ∧ RegsOnly [(U.sys, Off.hwEvents)] s (event U.sys Off.hwEvents bit a) := by
  have hregs : a.regs = s.regs := h .regs (by simp)
  exact ⟨changesOnly_trans (changesOnly_mono h (by simp)) (changesOnly_mono (event_changesOnly _ _ _ _) (by simp)),
    regsOnly_trans (regsOnly_of_regs hregs) (event_regsOnly (by decide) _ _)⟩

theorem mainLoss_power (i : InputId) (s : State) :
    (event U.sys Off.hwEvents (mainLossBit i) (setMain i false s)).power = (setMain i false s).power :=
  (event_changesOnly _ _ _ _) .power (by simp)

theorem mainLoss_bitAt (i : InputId) (s : State) :
    (event U.sys Off.hwEvents (mainLossBit i) (setMain i false s)).bitAt U.sys Off.hwEvents (mainLossBit i) = true :=
  event_bitAt_self hwEvents_not_report (by decide) _ (by cases i <;> decide)

/-! ### A field input is lost (R29, R37, R506) -/

/-- Whether a field input is present. -/
def setField (i : InputId) (on : Bool) (s : State) : State :=
  match i with
  | .a => { s with power.fieldA := on }
  | .b => { s with power.fieldB := on }

/-- FIELD_A_LOSS or FIELD_B_LOSS. -/
def fieldLossBit : InputId → Nat
  | .a => 2
  | .b => 3

theorem setField_changesOnly (i : InputId) (on : Bool) (s : State) : ChangesOnly [.power] s (setField i on s) := by
  intro p hp
  cases i <;> cases p <;> simp [Part.Same, setField] at hp ⊢

/-- The input is lost, with its event. -/
def fieldLost (i : InputId) (s : State) : State := event U.sys Off.hwEvents (fieldLossBit i) (setField i false s)

theorem fieldLost_bitAt (i : InputId) (s : State) : (fieldLost i s).bitAt U.sys Off.hwEvents (fieldLossBit i) = true :=
  event_bitAt_self hwEvents_not_report (by decide) _ (by cases i <;> decide)

theorem fieldLost_frame (i : InputId) (s : State) :
    ChangesOnly [.outbox, .power, .regs, .vcp] s (fieldLost i s) ∧ RegsOnly [(U.sys, Off.hwEvents)] s (fieldLost i s) :=
  powerEvent_frame (setField_changesOnly i false s)

theorem fieldOn_congr {s t : State} (h : t.power = s.power) : fieldOn t = fieldOn s := by simp [fieldOn, h]

/-- The slots of the cards that carry out commands. -/
def activeSlots (s : State) : List Nat := slots6.filter (fun k => decide ((s.card k).st = .active))

/-- R29, R506: the ACTIVE cards and the Beacons without their supply. -/
def unpowered (ks : List Nat) (s : State) : State := { forEach ks cardUnpowered s with plant.beacons := 0 }

theorem execFieldInputLoss_eq (i : InputId) (s : State) : execFieldInputLoss i s
    = .next (if fieldOn s && !fieldOn (fieldLost i s) then unpowered (activeSlots s) (fieldLost i s) else fieldLost i s) := by
  cases i <;> exact (apply_ite Host.Outcome.next _ _ _).symm

section
variable {u off : Nat} (hu : (u, off) ∉ reportRegs) (ho : off < 0x1000)
include hu ho

theorem dropValveCmd_reg (c : Nat) (st : Status) (s : State) : (dropValveCmd c st s).reg u off = s.reg u off := endChanCmd_reg hu ho _ _ _

theorem valveUnpowered_reg (c : Nat) (s : State) : (valveUnpowered c s).reg u off = s.reg u off := by
  obtain ⟨st, he⟩ := valveUnpowered_eq c s
  rw [he]
  exact dropValveCmd_reg hu ho c st s

theorem endMotorCmd_reg (c : Nat) (st : Status) (s : State) : (endMotorCmd c st s).reg u off = s.reg u off := by
  unfold endMotorCmd
  dsimp only
  split
  · exact endChanCmd_reg hu ho _ _ _
  · rfl

theorem cardUnpowered_reg (k : Nat) (s : State) : (cardUnpowered k s).reg u off = s.reg u off := by
  unfold cardUnpowered
  split
  · exact forEach_keeps (P := fun a => a.reg u off = s.reg u off) rfl fun c _ a ha => (valveUnpowered_reg hu ho c a).trans ha
  · exact forEach_keeps (P := fun a => a.reg u off = s.reg u off) rfl fun c _ a ha => (endMotorCmd_reg hu ho c .faulted a).trans ha
  · exact forEach_keeps (P := fun a => a.reg u off = s.reg u off) rfl fun c _ a ha => ha
  · rfl

theorem unpowered_reg (ks : List Nat) (s : State) : (unpowered ks s).reg u off = s.reg u off :=
  forEach_keeps (P := fun a => a.reg u off = s.reg u off) rfl fun k _ a ha => (cardUnpowered_reg hu ho k a).trans ha

end

/-- R506: the valve channels of a card without power are at rest, and those of other cards as before. -/
theorem cardUnpowered_valve (k : Nat) (s : State) (j : Nat) :
    ((s.card k).type = 1 → j < 96 → slotOfValve j = k → ((cardUnpowered k s).valve j).Idle)
      ∧ (slotOfValve j ≠ k → (cardUnpowered k s).valve j = s.valve j) := by
  unfold cardUnpowered
  split
  next ht =>
    have hpass := forEach_valvesOf k s valveUnpowered_valve j
    exact ⟨fun _ => hpass.1, hpass.2⟩
  next ht => exact ⟨fun h => by simp [h] at ht, fun _ => State.valve_congr (by simp [motorUnpowered_frame]) j⟩
  next ht => exact ⟨fun h => by simp [h] at ht, fun _ => State.valve_congr (by simp) j⟩
  next h1 _ _ => exact ⟨fun h => absurd h h1, fun _ => rfl⟩

theorem unpowered_power (ks : List Nat) (s : State) : (unpowered ks s).power = s.power := by simp [unpowered, cardUnpowered_frame]

theorem unpowered_changesOnly (ks : List Nat) (s : State) :
    ChangesOnly [.analogs, .log, .motors, .outbox, .plant, .regs, .valves, .vcp] s (unpowered ks s) := by
  intro p hp
  cases p <;> simp [Part.Same, unpowered, cardUnpowered_frame] at hp ⊢

/-- R506: every valve channel of a card in the list is at rest. -/
theorem unpowered_valve {ks : List Nat} {s : State} {c : Nat} (hk : slotOfValve c ∈ ks) (hc : c < 96)
    (ht : (s.card (slotOfValve c)).type = 1) : ((unpowered ks s).valve c).Idle :=
  forEach_sets (f := cardUnpowered) (P := fun a => (a.valve c).Idle) (I := fun a => a.cards = s.cards) hk rfl
    (fun k _ a ha => (by simp [cardUnpowered_frame] : (cardUnpowered k a).cards = a.cards).trans ha)
    (fun a ha => (cardUnpowered_valve _ a c).1 (by rwa [State.card_congr ha]) hc rfl)
    fun k _ hne a ha => by rwa [(cardUnpowered_valve k a c).2 (Ne.symm hne)]

theorem mem_activeSlots {s : State} {k : Nat} : k ∈ activeSlots s ↔ k < 6 ∧ (s.card k).st = .active := by simp [activeSlots, slots6]

/-- R506: with the last field input the valve channels of the ACTIVE valve cards go off. -/
theorem unpowered_active {i : InputId} {s : State} {c : Nat} (hc : c < 96) (hst : (s.card (slotOfValve c)).st = .active)
    (ht : (s.card (slotOfValve c)).type = 1) : ((unpowered (activeSlots s) (fieldLost i s)).valve c).Idle := by
  have hcard := State.card_congr ((fieldLost_frame i s).1 .cards (by simp)) (slotOfValve c)
  refine unpowered_valve (mem_activeSlots.2 ⟨?_, hst⟩) hc (by rw [hcard, ht])
  unfold slotOfValve
  omega

/-- What the loss of a field input leaves, whether it was the last one or not. -/
theorem fieldInputLoss_spec (i : InputId) (s : State) :
    let t := if fieldOn s && !fieldOn (fieldLost i s) then unpowered (activeSlots s) (fieldLost i s) else fieldLost i s
    t.bitAt U.sys Off.hwEvents (fieldLossBit i) = true
      ∧ (fieldOn t = true → ChangesOnly [.outbox, .power, .regs, .vcp] s t ∧ RegsOnly [(U.sys, Off.hwEvents)] s t)
      ∧ (fieldOn s = true → fieldOn t = false → t.plant.beacons = 0
          ∧ ∀ c, c < 96 → (s.card (slotOfValve c)).st = .active → (s.card (slotOfValve c)).type = 1 → (t.valve c).phase = .off ∧ (t.valve c).cmd = none)
      ∧ ChangesOnly [.analogs, .log, .motors, .outbox, .plant, .power, .regs, .valves, .vcp] s t := by
  obtain ⟨hch, hregs⟩ := fieldLost_frame i s
  have hbit := fieldLost_bitAt i s
  dsimp only
  split
  next h =>
    obtain ⟨-, hlost⟩ := Bool.and_eq_true_iff.1 h
    have hpower := unpowered_power (activeSlots s) (fieldLost i s)
    refine ⟨?_, fun hon => ?_, fun _ _ => ⟨rfl, fun c hc hst ht => (unpowered_active hc hst ht).symm⟩, ?_⟩
    · exact (congrArg (bitOf · _) (unpowered_reg hwEvents_not_report (by decide) _ _)).trans hbit
    · rw [fieldOn_congr hpower] at hon
      simp [hon] at hlost
    · exact changesOnly_trans (changesOnly_mono hch (by simp)) (changesOnly_mono (unpowered_changesOnly _ _) (by simp))
  next h =>
    exact ⟨hbit, fun _ => ⟨hch, hregs⟩, fun hon hlost => absurd (by simp [hon, hlost]) h, changesOnly_mono hch (by simp)⟩

/-! ### Field power returns (R506) -/

theorem enumerate_card (k : Nat) (z : Time) (s : State) (j : Nat) : (enumerate k z s).card j
    = if j = k then { tryFirmware (s.card k) with
        st := .enumerating, hold := true, cardHold := true, reason := 0, seenAt := z, missedRun := 0, descReads := 0, segBad := false }
      else s.card j := State.card_modCard _ _ _ _

/-- A card that was ACTIVE or ENUMERATING is enumerated again, its presence debounce behind it. -/
def enumerateAgain (k : Nat) (a : State) : State :=
  if (a.card k).st = .active ∨ (a.card k).st = .enumerating then enumerate k (a.now - 100 * Config.ms) a else a

theorem execFieldPowerReturn_eq {s : State} (hoff : fieldOn s = false) (i : InputId) :
    execFieldPowerReturn i s = .next (forEach slots6 enumerateAgain (setField i true s)) := by
  cases i <;> exact if_neg (by simp [hoff])

theorem enumerateAgain_changesOnly (k : Nat) (a : State) : ChangesOnly [.cards, .power, .service] a (enumerateAgain k a) := by
  unfold enumerateAgain
  split
  · intro p hp
    cases p <;> simp [Part.Same, enumerate_frame] at hp ⊢
  · exact changesOnly_refl _ a

theorem enumerateAgain_card {k : Nat} {a : State} (h : (a.card k).st = .active ∨ (a.card k).st = .enumerating) :
    ((enumerateAgain k a).card k).st = .enumerating ∧ ((enumerateAgain k a).card k).cardHold = true
      ∧ ((enumerateAgain k a).card k).seenAt = a.now - 100 * Config.ms := by
  rw [enumerateAgain, if_pos h, enumerate_card, if_pos rfl]
  exact ⟨rfl, rfl, rfl⟩

theorem enumerateAgain_card_other {k j : Nat} (hj : j ≠ k) (a : State) : (enumerateAgain k a).card j = a.card j := by
  unfold enumerateAgain
  split
  · exact (enumerate_card k _ a j).trans (if_neg hj)
  · rfl

theorem enumerateAgain_now (k : Nat) (a : State) : (enumerateAgain k a).now = a.now := enumerateAgain_changesOnly k a .now (by simp)

theorem enumerateAgain_fieldOn (k : Nat) (a : State) : fieldOn (enumerateAgain k a) = fieldOn a := by
  unfold enumerateAgain
  split <;> rfl

theorem setField_fieldOn (i : InputId) (s : State) : fieldOn (setField i true s) = true := by cases i <;> simp [fieldOn, setField]

/-- The cards after field power is back. -/
theorem forEach_enumerateAgain_card {s : State} {k : Nat} (hk : k < 6) (hst : (s.card k).st = .active) :
    ((forEach slots6 enumerateAgain s).card k).st = .enumerating ∧ ((forEach slots6 enumerateAgain s).card k).cardHold = true
      ∧ ((forEach slots6 enumerateAgain s).card k).seenAt = s.now - 100 * Config.ms := by
  refine forEach_sets (x := k)
    (P := fun a => (a.card k).st = .enumerating ∧ (a.card k).cardHold = true ∧ (a.card k).seenAt = s.now - 100 * Config.ms)
    (I := fun a => a.now = s.now ∧ ((a.card k).st = .active ∨ (a.card k).st = .enumerating)) (List.mem_range.2 hk) ⟨rfl, .inl hst⟩ ?_ ?_ ?_
  · rintro j _ a ⟨hn, ha⟩
    refine ⟨(enumerateAgain_now j a).trans hn, ?_⟩
    by_cases hj : k = j
    · subst hj
      exact .inr (enumerateAgain_card ha).1
    · rwa [enumerateAgain_card_other hj]
  · rintro a ⟨hn, ha⟩
    rw [← hn]
    exact enumerateAgain_card ha
  · intro j _ hj a ha
    rwa [enumerateAgain_card_other (Ne.symm hj)]

theorem forEach_enumerateAgain_frame (l : List Nat) (s : State) : fieldOn (forEach l enumerateAgain s) = fieldOn s
    ∧ ChangesOnly [.cards, .power, .service] s (forEach l enumerateAgain s) :=
  forEach_keeps (P := fun a => fieldOn a = fieldOn s ∧ ChangesOnly [.cards, .power, .service] s a) ⟨rfl, changesOnly_refl _ s⟩
    fun k _ a ha => ⟨(enumerateAgain_fieldOn k a).trans ha.1, changesOnly_trans ha.2 (enumerateAgain_changesOnly k a)⟩

end Sys2Proof.Machine
end

section
/-! R42, R43, R151: fans, temperatures and measured values; the power inputs, fans and heat. -/

namespace Sys2Proof.Machine

open Sys2Proof Sys2Proof.Safety

/-! ### Fans (R42) -/

/-- FAN_FAIL, the fan noted, and a duty no lower than before. -/
def fanNoted (k : Nat) (s : State) : State :=
  ({ s.draw with fans := { s.fans with
    failed := s.fans.failed ||| BitVec.ofNat 6 (2 ^ k), duty := Nat.max s.fans.duty (Nat.min 100 (Config.fanDuty s.free)) } }).setEvent
    U.sys Off.hwEvents 4

theorem execFanFail_eq {k : Fin 6} {s : State} (h : s.fans.failed.getLsbD k.val = false) : execFanFail k s
    = .next (if 2 ≤ popN 6 (s.fans.failed ||| BitVec.ofNat 6 (2 ^ k.val)).toNat then askHandover (fanNoted k.val s) else fanNoted k.val s) :=
  if_neg (by rw [h]; exact Bool.false_ne_true)

theorem askHandover_changesOnly (s : State) : ChangesOnly [.hall, .links, .outbox, .pair] s (askHandover s) := by
  intro p hp
  cases p <;> simp [Part.Same, askHandover_frame] at hp ⊢

theorem fanNoted_changesOnly (k : Nat) (s : State) : ChangesOnly [.fans, .free, .regs] s (fanNoted k s) := by
  intro p hp
  cases p <;> simp [Part.Same, fanNoted] at hp ⊢

/-- With or without the handover it may ask for, a failed fan is noted and changes nothing else of the fans and registers. -/
theorem fanFail_frame (k : Nat) (s : State) (p : Prop) [Decidable p] :
    (if p then askHandover (fanNoted k s) else fanNoted k s).fans = (fanNoted k s).fans
      ∧ (if p then askHandover (fanNoted k s) else fanNoted k s).regs = (fanNoted k s).regs
      ∧ ChangesOnly [.fans, .free, .hall, .links, .outbox, .pair, .regs] s (if p then askHandover (fanNoted k s) else fanNoted k s) := by
  have hnoted := changesOnly_mono (fanNoted_changesOnly k s) (qs := [.fans, .free, .hall, .links, .outbox, .pair, .regs]) (by simp)
  split
  · have hask := askHandover_changesOnly (fanNoted k s)
    exact ⟨hask .fans (by simp), hask .regs (by simp), changesOnly_trans hnoted (changesOnly_mono hask (by simp))⟩
  · exact ⟨rfl, rfl, hnoted⟩

theorem fanNoted_fans (k : Nat) (s : State) : (fanNoted k s).fans.failed = s.fans.failed ||| BitVec.ofNat 6 (2 ^ k)
    ∧ s.fans.duty ≤ (fanNoted k s).fans.duty := ⟨rfl, Nat.le_max_left _ _⟩

theorem fanNoted_bitAt (k : Nat) (s : State) : (fanNoted k s).bitAt U.sys Off.hwEvents 4 = true :=
  State.bitAt_setEvent_self _ _ _ _ (by decide)

/-! ### Thermal shutdown (R42) -/

theorem gatePackage_fw (s : State) : (gatePackage s).fw = s.fw := by simp [gatePackage, signalReset_frame, gateDie_frame, dropCopies_fw]

theorem signalReset_die (code : Nat) (s : State) (j : Nat) : (signalReset code s).die j = s.die j :=
  State.die_congr (by simp [signalReset_frame]) j

/-- R42, R443: every die is gated, but a RETIRED one stays RETIRED. -/
theorem gatePackage_die {i : Nat} (hi : i < 24) (s : State) :
    ((gatePackage s).die i).st = (if (s.die i).st = 3 then 3 else 2) ∧ ((gatePackage s).die i).power = 0 := by
  unfold gatePackage
  rw [signalReset_die]
  refine forEach_sets (x := i) (f := gateDie) (P := fun a => (a.die i).st = (if (s.die i).st = 3 then 3 else 2) ∧ (a.die i).power = 0)
    (I := fun a => (a.die i).st = 3 ↔ (s.die i).st = 3) (List.mem_range.2 hi) ?_ (fun j _ a ha => ?_) (fun a ha => ?_) fun j _ hj a ha => ?_
  · have hd := State.die_congr (show (dropCopies (fun _ => true) s).dies = s.dies by simp [dropCopies_frame]) i
    exact (congrArg (fun d : Die => d.st = 3) hd).to_iff
  · rw [gateDie_die]
    split
    next h =>
      subst h
      by_cases h3 : (a.die i).st = 3
      · simpa [h3] using ha
      · simpa [h3] using ha
    · exact ha
  · simp [gateDie_die, ha]
  · rwa [gateDie_die, if_neg (Ne.symm hj)]

/-- The engine gated by its temperature: every die down, the legs stopped, and the engine lost to the plant. -/
def shutDown (s : State) : State := engineDown true (stopLegs .loaded (gatePackage { s with fans.gatedHot := true }))

theorem execThermalShutdown_eq {s : State} (hj : 1050 ≤ s.fans.junction) (hg : s.fans.gatedHot = false) :
    execThermalShutdown s = .next (shutDown s) := if_pos ⟨hj, by simp [hg]⟩

section
variable (s : State)

theorem shutDown_fans : (shutDown s).fans = { s.fans with gatedHot := true } := by
  simp [shutDown, engineDown_frame, stopLegs_frame, gatePackage_frame]

theorem shutDown_die {i : Nat} (hi : i < 24) :
    ((shutDown s).die i).st = (if (s.die i).st = 3 then 3 else 2) ∧ ((shutDown s).die i).power = 0 := by
  rw [State.die_congr (by simp [shutDown, engineDown_frame, stopLegs_frame] :
    (shutDown s).dies = (gatePackage { s with fans.gatedHot := true }).dies)]
  exact gatePackage_die hi _

theorem shutDown_seqr : ((shutDown s).seqr.st = .loaded ∨ (shutDown s).seqr.st = .empty) ∧ ∀ r ∈ (shutDown s).seqr.legs, r.dropped = true := by
  refine ⟨?_, by simp [shutDown, engineDown, stopLegs]⟩
  show (if _ then SeqSt.empty else SeqSt.loaded) = .loaded ∨ (if _ then SeqSt.empty else SeqSt.loaded) = .empty
  split
  · exact .inr rfl
  · exact .inl rfl

/-- R447: the reset signalled is the package's. -/
theorem shutDown_pwrXreset : (shutDown s).fldOf U.sys Off.pwrXreset 31 24 = 24 := by
  have hregs : (shutDown s).regs = (gatePackage { s with fans.gatedHot := true }).regs := by simp [shutDown, engineDown_frame, stopLegs_frame]
  rw [State.fldOf, State.reg_congr hregs]
  exact (signalReset_regs (code := 24) (by decide) _).2

/-- R52: the module's own transition waits for the frame boundary. -/
theorem shutDown_plant : (shutDown s).plant
    = { s.plant with engineOk := false, fall := if isKeeper s then some true else s.plant.fall } := by
  have hplant : (stopLegs .loaded (gatePackage { s with fans.gatedHot := true })).plant = s.plant := by simp [stopLegs, gatePackage_frame]
  have hpair : (stopLegs .loaded (gatePackage { s with fans.gatedHot := true })).pair = s.pair := by simp [stopLegs_frame, gatePackage_frame]
  simp [shutDown, engineDown, isKeeper, hplant, hpair]

theorem shutDown_changesOnly : ChangesOnly [.broker, .copies, .dies, .fans, .free, .hall, .integ, .links, .log, .motors, .outbox, .plant,
    .power, .regs, .seqr, .vcp] s (shutDown s) := by
  intro p hp
  cases p <;> simp [Part.Same, shutDown, engineDown_frame, stopLegs_frame, gatePackage_frame, gatePackage_fw] at hp ⊢

end

/-! ### Measured values (R43, R151) -/

theorem foldl_max_le (f : Nat → Int) (l : List Nat) (a : Int) : a ≤ l.foldl (fun a i => if a < f i then f i else a) a
    ∧ ∀ i ∈ l, f i ≤ l.foldl (fun a i => if a < f i then f i else a) a := by
  induction l generalizing a with
  | nil => exact ⟨Int.le_refl a, by simp⟩
  | cons i l ih =>
    obtain ⟨hle, hall⟩ := ih (if a < f i then f i else a)
    have hstep : a ≤ (if a < f i then f i else a) ∧ f i ≤ (if a < f i then f i else a) := by split <;> omega
    refine ⟨Int.le_trans hstep.1 hle, fun j hj => ?_⟩
    obtain rfl | hj := List.mem_cons.1 hj
    · exact Int.le_trans hstep.2 hle
    · exact hall j hj

theorem foldl_max_mem (f : Nat → Int) (l : List Nat) (a : Int) : l.foldl (fun a i => if a < f i then f i else a) a = a
    ∨ ∃ i ∈ l, f i = l.foldl (fun a i => if a < f i then f i else a) a := by
  induction l generalizing a with
  | nil => exact .inl rfl
  | cons i l ih =>
    simp only [List.foldl_cons, List.mem_cons, exists_eq_or_imp]
    obtain h | h := ih (if a < f i then f i else a)
    · by_cases hlt : a < f i
      · exact .inr (.inl (by rw [h, if_pos hlt]))
      · exact .inl (by rw [h, if_neg hlt])
    · exact .inr (.inr h)

/-- R42: the junction is the highest of the 25 dies'. -/
theorem junction_le_hottest (s : State) {i : Nat} (hi : i < 25) : (s.die i).junction ≤ hottest s :=
  (foldl_max_le (fun i => (s.die i).junction) (upTo 25) _).2 i (List.mem_range.2 hi)

theorem hottest_mem (s : State) : ∃ i, i < 25 ∧ (s.die i).junction = hottest s := by
  obtain h | ⟨i, hi, h⟩ := foldl_max_mem (fun i => (s.die i).junction) (upTo 25) (s.die 0).junction
  · exact ⟨0, by omega, h.symm⟩
  · exact ⟨i, List.mem_range.1 hi, h⟩

/-- The three registers of the inputs. -/
def measuredInputs (m : Measured) (s : State) : State :=
  ((s.setReg U.sys Off.hwMainV (pairReg m.mainA m.mainB)).setReg U.sys Off.hwFieldV (pairReg m.fieldA m.fieldB)).setReg
    U.sys Off.hwFieldI (pairReg m.fieldIA m.fieldIB)

/-- R42: a fan's speed, and how long it has been slow. -/
def measuredFan (now : Time) (f : Fans) (e : Nat × Nat) : Fans :=
  { f with rpm := mset 0 f.rpm e.2 e.1,
           slowSince := mset none f.slowSince e.2
             (sinceOf now (some (decide (e.1 * 100 < Config.fanFullRpm * f.duty * 30 / 100))) (mget none f.slowSince e.2)) }

/-- The fans' speeds and the inlet temperature. -/
def measuredFans (m : Measured) (s : State) : Fans := m.fanRpm.zipIdx.foldl (measuredFan s.now) { s.fans with inlet := m.inlet }

/-- What is measured of one die. -/
def measuredDie (e : Fin 25 × Nat × Int × Nat) (a : State) : State :=
  (a.modDie e.1.val (fun d => { d with power := e.2.1, junction := e.2.2.1 })).addCount (U.die e.1.val) Off.dieEcc 31 0 e.2.2.2

/-- The values before the junction is taken from the dies. -/
def measuredAll (m : Measured) (s : State) : State :=
  forEach m.dies measuredDie { measuredInputs m s with fans := measuredFans m s, power.bankV := m.bankV }

theorem execMeasureRefresh_eq (m : Measured) (s : State) :
    execMeasureRefresh m s = .next { measuredAll m s with fans.junction := hottest (measuredAll m s) } := rfl

theorem measuredFans_inlet (m : Measured) (s : State) : (measuredFans m s).inlet = m.inlet :=
  List.foldlRecOn (motive := fun f : Fans => f.inlet = m.inlet) _ _ rfl fun _ hf _ _ => hf

theorem measuredDie_reg {off : Nat} (ho : off < 0x1000) (e : Fin 25 × Nat × Int × Nat) (a : State) :
    (measuredDie e a).reg U.sys off = a.reg U.sys off := by
  have hne : ¬ (U.sys = U.die e.1.val ∧ off = Off.dieEcc) := by simp only [U.sys, U.die]; omega
  exact (State.reg_addCount_other _ (by decide) ho hne).trans (State.reg_congr (by simp) _ _)

theorem measuredAll_reg {off : Nat} (ho : off < 0x1000) (m : Measured) (s : State) :
    (measuredAll m s).reg U.sys off = (measuredInputs m s).reg U.sys off := by
  have hstart : ({ measuredInputs m s with fans := measuredFans m s, power.bankV := m.bankV } : State).reg U.sys off
      = (measuredInputs m s).reg U.sys off := State.reg_congr (by simp) _ _
  exact forEach_keeps (f := measuredDie) (P := fun a => a.reg U.sys off = (measuredInputs m s).reg U.sys off) hstart
    fun e _ a ha => (measuredDie_reg ho e a).trans ha

theorem measuredInputs_reg (m : Measured) (s : State) :
    (measuredInputs m s).reg U.sys Off.hwMainV = pairReg m.mainA m.mainB
      ∧ (measuredInputs m s).reg U.sys Off.hwFieldV = pairReg m.fieldA m.fieldB
      ∧ (measuredInputs m s).reg U.sys Off.hwFieldI = pairReg m.fieldIA m.fieldIB := by
  refine ⟨?_, ?_, State.reg_setReg_self _ _ _ _⟩
  · rw [measuredInputs, State.reg_setReg_other _ _ (by decide) (by decide) (by decide),
      State.reg_setReg_other _ _ (by decide) (by decide) (by decide), State.reg_setReg_self]
  · rw [measuredInputs, State.reg_setReg_other _ _ (by decide) (by decide) (by decide), State.reg_setReg_self]

theorem measuredDie_die (e : Fin 25 × Nat × Int × Nat) (a : State) (j : Nat) :
    (measuredDie e a).die j = if j = e.1.val then { a.die e.1.val with power := e.2.1, junction := e.2.2.1 } else a.die j :=
  State.die_modDie a e.1.val j fun d => { d with power := e.2.1, junction := e.2.2.1 }

/-- Each die named once has what was measured of it. -/
theorem measuredAll_die {m : Measured} (hnd : (m.dies.map (fun e => e.1)).Nodup) {e : Fin 25 × Nat × Int × Nat} (he : e ∈ m.dies) (s : State) :
    ((measuredAll m s).die e.1.val).power = e.2.1 ∧ ((measuredAll m s).die e.1.val).junction = e.2.2.1 := by
  refine forEach_sets (f := measuredDie) (P := fun a => (a.die e.1.val).power = e.2.1 ∧ (a.die e.1.val).junction = e.2.2.1) (I := fun _ => True) he
    trivial (fun _ _ _ _ => trivial) (fun a _ => ?_) fun y hy hne a ha => ?_
  · simp [measuredDie_die]
  · have hkey : e.1.val ≠ y.1.val := fun h => hne (List.inj_on_of_nodup_map hnd hy he (Fin.ext h.symm))
    rwa [measuredDie_die, if_neg hkey]

theorem measuredAll_frame (m : Measured) (s : State) : (measuredAll m s).fans = measuredFans m s
    ∧ (measuredAll m s).power = { s.power with bankV := m.bankV } ∧ ChangesOnly [.dies, .fans, .power, .regs] s (measuredAll m s) := by
  refine ⟨by simp [measuredAll, measuredDie], by simp [measuredAll, measuredDie, measuredInputs], fun p hp => ?_⟩
  cases p <;> simp [Part.Same, measuredAll, measuredDie, measuredInputs] at hp ⊢

/-- R43: the refreshed values. -/
def measured (m : Measured) (s : State) : State := { measuredAll m s with fans.junction := hottest (measuredAll m s) }

theorem measured_changesOnly (m : Measured) (s : State) : ChangesOnly [.dies, .fans, .power, .regs] s (measured m s) := by
  refine changesOnly_trans (measuredAll_frame m s).2.2 fun p hp => ?_
  cases p <;> simp [Part.Same, measured] at hp ⊢

/-- Settles O21: the inputs of power, the fans, the two temperatures and the measured values. -/
theorem powerFansAndHeat : Obligations.PowerFansAndHeat := by
  intro s
  refine ⟨fun i => ⟨_, execMainInputLoss_eq i s, ?_, ?_, powerEvent_frame (setMain_changesOnly i false s)⟩,
    fun i => ⟨_, execMainInputReturn_eq i s, by cases i <;> rfl, setMain_changesOnly i true s⟩,
    fun i => ⟨_, execFieldInputLoss_eq i s, by cases i <;> exact fieldInputLoss_spec _ s⟩,
    fun hoff i => ?_, fun k hk => ?_, fun hj => ?_, fun hj hg => ?_, fun m => ?_⟩
  · cases i <;> exact mainLoss_power _ s
  · cases i <;> exact mainLoss_bitAt _ s
  · obtain ⟨hon, hch⟩ := forEach_enumerateAgain_frame slots6 (setField i true s)
    have hfield := setField_changesOnly i true s
    refine ⟨_, execFieldPowerReturn_eq hoff i, hon.trans (setField_fieldOn i s), fun k hk hst => ?_,
      changesOnly_trans (changesOnly_mono hfield (by simp)) hch⟩
    have hcard := forEach_enumerateAgain_card (s := setField i true s) hk (by rwa [State.card_congr (hfield .cards (by simp))])
    rwa [show (setField i true s).now = s.now from hfield .now (by simp)] at hcard
  · obtain ⟨hfans, hregs, hch⟩ := fanFail_frame k.val s (2 ≤ popN 6 (s.fans.failed ||| BitVec.ofNat 6 (2 ^ k.val)).toNat)
    refine ⟨_, execFanFail_eq hk, ?_, ?_, ?_, hch⟩
    · rw [hfans, (fanNoted_fans k.val s).1]
    · rw [hfans]
      exact (fanNoted_fans k.val s).2
    · rw [State.bitAt, State.reg_congr hregs]
      exact fanNoted_bitAt k.val s
  · exact ⟨_, congrArg Host.Outcome.next (if_pos hj), event_reg_self hwEvents_not_report (by decide) s, event_changesOnly _ _ _ s,
      event_regsOnly (by decide) _ s⟩
  · have hplant := shutDown_plant s
    refine ⟨_, execThermalShutdown_eq hj hg, by rw [shutDown_fans], fun i hi => shutDown_die s hi, (shutDown_seqr s).1, (shutDown_seqr s).2,
      shutDown_pwrXreset s, fun hk => by simp [hplant, hk], by rw [hplant], fun l _ => ?_, shutDown_changesOnly s⟩
    simp [State.loop, hplant]
  · obtain ⟨hmain, hfield, hcurrent⟩ := measuredInputs_reg m s
    obtain ⟨hfans, hpower, -⟩ := measuredAll_frame m s
    refine ⟨measured m s, rfl, (measuredAll_reg (by decide) m s).trans hmain, (measuredAll_reg (by decide) m s).trans hfield,
      (measuredAll_reg (by decide) m s).trans hcurrent, fun i hi => junction_le_hottest (measuredAll m s) hi, hottest_mem (measuredAll m s),
      ?_, congrArg Power_.bankV hpower, fun hnd e he => measuredAll_die hnd he s, measured_changesOnly m s⟩
    exact (congrArg Fans.inlet hfans).trans (measuredFans_inlet m s)

end Sys2Proof.Machine
end

section
/-! R26, R120, R327, R407: a WRITE of one register, by the rule of its unit; HW_PANEL, AO_OUT and BEACON_CTRL. -/

namespace Sys2Proof.Machine

open Sys2Proof Sys2Proof.Safety

/-! ### A WRITE of one register (R407) -/

/-- The write of one register as its request brings it. -/
def oneWrite (h : Hdr) (e : Session) (u off : Nat) (v : Word) : Write := { session := e, origin := originOf h e, unit := u, off, value := v }

/-- What an accepted write leaves: `z` is the state its effect leaves, `t` the one after the reply. -/
structure WriteDone (h : Hdr) (s z t : State) : Prop where
  answers : Answers h .ok (nextFrame s) [] s t
  parts : ChangesOnly [.outbox, .regs, .vcp] z t
  regs : RegsOnly [] z t

section
variable {h : Hdr} {s z t : State} (hw : WriteDone h s z t)
include hw

theorem WriteDone.changesOnly {sid : BitVec 16} {ps : List Part} (hz : ChangesOnly ps (touch h sid s) z)
    (hps : [Part.outbox, .regs, .vcp] ⊆ ps := by simp) : ChangesOnly ps s t :=
  changesOnly_of_touch (hps (by simp)) (changesOnly_trans hz (changesOnly_mono hw.parts hps))

theorem WriteDone.regsOnly {sid : BitVec 16} {l : List (Nat × Nat)} (hz : RegsOnly l (touch h sid s) z) : RegsOnly l s t :=
  regsOnly_of_touch (regsOnly_trans hz (regsOnly_nil hw.regs))

theorem WriteDone.reg {u off : Nat} (ho : off < 0x1000) (hr : (u, off) ∉ reportRegs) : t.reg u off = z.reg u off :=
  hw.regs u off ho (by simp) hr

end

section
variable {h : Hdr} {e : Session} {s : State} {u off : Nat} {v : Word} (hu : h.unit.toNat = u) (hs : Served (writeOp u off 1) h e s)
include hu hs

/-- A write that its rule accepts takes effect in its frame and is answered OK. -/
theorem registerWriteAt_done {f : State → State} (hd : deadlineMissed h (nextFrame s) s.now = false)
    (hne : ¬ (u = U.cap ∧ off = Off.leakRelease)) (hj : judgeWrite (oneWrite h e u off v) (touch h e.id s) = .ok f) :
    WriteDone h s (f (touch h e.id s)) (registerWriteAt h off v s) := by
  subst hu
  have hkeeps : (Judged.ok f).KeepsSent := hj ▸ judgeWrite_keepsSent _ _
  obtain ⟨hans, hch, hregs⟩ := writeRegs_done rfl (vs := [v]) hs hne (writeAnswer_one_ok hj) (hkeeps _ _ (List.suffix_refl _)) hd
  exact ⟨hans, hch, hregs⟩

/-- A write that its rule refuses is answered with the status, and changes nothing else. -/
theorem registerWriteAt_refuse {st : Status} (hj : judgeWrite (oneWrite h e u off v) (touch h e.id s) = .refuse st) :
    Answers h st 0 [] s (registerWriteAt h off v s) ∧ ChangesOnly [.outbox, .regs, .vcp] s (registerWriteAt h off v s)
      ∧ RegsOnly [] s (registerWriteAt h off v s) := by
  subst hu
  exact writeRegs_refuse rfl (vs := [v]) hs (writeAnswer_one_refuse hj)

end

/-! ### The rules by class -/

/-- The rule of a class, which judges a write that no access code and no reserved bit refuses. -/
def judgeClass (cls : Nat) (w : Write) (s : State) : Judged :=
  match cls with
  | 0 => judgeSys w s
  | 1 => judgeValve w s
  | 2 => judgeMotor w s
  | 3 => judgeSense w s
  | 4 => judgeAnalog w s
  | 5 => judgeBuoy w s
  | 6 => judgeLink w s
  | 7 => judgeBeacon w s
  | 8 => judgeDie w s
  | 9 => judgeLoop w s
  | 10 => judgeCap w s
  | 14 => judgeAux w s
  | _ => .ok (fun s => s.setReg w.unit w.off w.value)

/-- The access codes under which a class judges its register's write itself. -/
def judgedByClass (r : RegRow) (cls : Nat) : Bool :=
  decide (r.acc = .rw) || decide (r.acc = .wo) || (decide (r.acc = .w1c) && (decide (cls = 1) || decide (cls = 2)))

theorem judgeWrite_eq_judgeClass {h : Hdr} {e : Session} {u off cls : Nat} {v : Word} {r : RegRow} (s : State) (hc : unitClass u = cls)
    (hf : findReg u off = some r) (hacc : judgedByClass r cls = true) (h9 : cls ≠ 9 ∨ off ≠ Off.loopPumpTrip)
    (hres : ∀ q, findReg u off = some q → v &&& q.reserved = 0) :
    judgeWrite (oneWrite h e u off v) s = judgeClass cls (oneWrite h e u off v) s := by
  subst hc
  have htrip : ¬ (unitClass u = 9 ∧ off = Off.loopPumpTrip ∧ unitInst u < 4) := fun ⟨h1, h2, _⟩ => h9.elim (· h1) (· h2)
  have hw1c : ¬ (r.acc = .w1c ∧ unitClass u ≠ 1 ∧ unitClass u ≠ 2) := by
    rintro ⟨ha, h1, h2⟩
    simp [judgedByClass, ha, h1, h2] at hacc
  unfold judgeWrite judgeClass
  simp only [oneWrite, hf, if_neg htrip, hres _ hf]
  cases ha : r.acc with
  | ro | rc => simp [judgedByClass, ha] at hacc
  | rw | wo => rfl
  | w1c =>
    rw [ha] at hw1c
    exact (if_neg (by simp)).trans (if_neg hw1c)

/-! ### HW_PANEL (R26) -/

section
variable {h : Hdr} {e : Session} {s : State} {v : Word}

theorem hwPanelWrite_done (hu : h.unit.toNat = U.sys) (hs : Served (writeOp U.sys Off.hwPanel 1) h e s)
    (hres : ∀ r, findReg U.sys Off.hwPanel = some r → v &&& r.reserved = 0) (hd : deadlineMissed h (nextFrame s) s.now = false) :
    WriteDone h s (setLocate 2 (bitOf v 0) (touch h e.id s)) (registerWriteAt h Off.hwPanel v s) :=
  registerWriteAt_done hu hs hd (by decide)
    (judgeWrite_eq_judgeClass (touch h e.id s) rfl rfl (by decide) (by decide) hres)

/-! ### AO_OUT (R327) -/

section
variable {i : Nat} (hi : i < 16)
include hi

theorem ao_class : unitClass (U.ao i) = 4 := by simp only [unitClass, U.ao]; omega

theorem ao_inst : unitInst (U.ao i) = i := by simp only [unitInst, U.ao]; omega

theorem aoOut_findReg : findReg (U.ao i) Off.aoOut = some ⟨Off.aoOut, 4, 1, .rw, 0xFFFF0000, 0x00000000⟩ := by
  unfold findReg unitRegs
  simp only [ao_class hi, ao_inst hi, if_pos hi]
  rfl

variable (hres : ∀ r, findReg (U.ao i) Off.aoOut = some r → v &&& r.reserved = 0)
include hres

/-- A manual demand is judged by the mode and the output's assignment, then by its range. -/
theorem judgeWrite_aoOut (a : State) : judgeWrite (oneWrite h e (U.ao i) Off.aoOut v) a
    = judged (firstFail [(inService a && decide (3 < a.fldOf (U.ao i) Off.aoCfg 15 8), .denied), (decide (fld v 15 0 ≤ 10000), .badParam)])
        (writeDemand i (oneWrite h e (U.ao i) Off.aoOut v)) := by
  rw [judgeWrite_eq_judgeClass a (ao_class hi) (aoOut_findReg hi) (by decide) (by decide) hres]
  exact congrArg (fun j => judged _ (writeDemand j (oneWrite h e (U.ao i) Off.aoOut v))) (ao_inst hi)

end

theorem writeDemand_analog (i j : Nat) (w : Write) (a : State) :
    (writeDemand i w a).analog j = if j = i then { a.analog i with demand := fld w.value 15 0 } else a.analog j := by
  have hlog : ∀ k, (logAction w.unit 6 Act.set 16 (a.analog i).demand (fld w.value 15 0) w.origin.sequence a).analog k = a.analog k :=
    State.analog_congr (by simp)
  simp [writeDemand, hlog]

theorem writeDemand_changesOnly (i : Nat) (w : Write) (a : State) : ChangesOnly [.analogs, .log, .outbox, .regs] a (writeDemand i w a) := by
  intro p hp
  cases p <;> simp [Part.Same, writeDemand] at hp ⊢

theorem writeDemand_regsOnly (i : Nat) (w : Write) (a : State) : RegsOnly [] a (writeDemand i w a) :=
  fun _ _ ho _ hr => logAction_reg hr ho _ _ _ _ _ _ _ a

end

/-! ### BEACON_CTRL (R120) -/

theorem judgeWrite_beaconCtrl {h : Hdr} {e : Session} {v : Word} {r : Nat} (hr : r < 16)
    (hres : ∀ q, findReg (U.beacon r) Off.beaconCtrl = some q → v &&& q.reserved = 0) (a : State) :
    judgeWrite (oneWrite h e (U.beacon r) Off.beaconCtrl v) a
      = judged (firstFail [(inService a, .denied)]) (writeBeacon r (beaconWrite e (originOf h e) v r)) := by
  rw [judgeWrite_eq_judgeClass a (beacon_class hr) (beacon_findReg hr) (by decide) (by decide) hres]
  exact congrArg (fun j => judged _ (writeBeacon j (oneWrite h e (U.beacon r) Off.beaconCtrl v))) (unitInst_beacon hr)

theorem writeBeacon_regsOnly {e : Session} {o : Origin} {v : Word} {r : Nat} (hr : r < 16) (s : State) :
    RegsOnly [(U.beacon r, Off.beaconCtrl)] s (writeBeacon r (beaconWrite e o v r) s) :=
  fun _ _ ho hl hrep => (writeBeacon_reg hr s hrep ho).trans (if_neg (by simpa using hl))

end Sys2Proof.Machine
end

section
/-! R61, R73, R509: a manual LOOP_OUT, and a pump that is restored. -/

namespace Sys2Proof.Machine

open Sys2Proof Sys2Proof.Safety

/-! ### Units of the plant loops -/

theorem loop_class {l : Nat} (hl : l < 5) : unitClass (U.loop l) = 9 := by simp only [unitClass, U.loop]; omega

theorem loop_inst {l : Nat} (hl : l < 5) : unitInst (U.loop l) = l := by simp only [unitInst, U.loop]; omega

theorem loopOut_findReg {l : Nat} (hl : l < 5) : findReg (U.loop l) Off.loopOut = some ⟨Off.loopOut, 4, 1, .rw, 0xFFFF0000, 0x00000000⟩ := by
  interval_cases l <;> rfl

/-! ### Commanding a pump -/

theorem pump_setPump_use {p : Nat} {s : State} {k : Pump} (hk : k.use = (s.pump p).use) (q : Nat) : ((s.setPump p k).pump q).use = (s.pump q).use := by
  rw [State.pump_setPump]
  split
  next h => rw [hk, h]
  next => rfl

/-- The speed of a pump is no matter of its use. -/
theorem sendSpeed_use (p : Nat) (s : State) (q : Nat) : ((sendSpeed p s).pump q).use = (s.pump q).use :=
  pump_setPump_use (s := s) (k := { s.pump p with sentAt := some s.now }) rfl q

theorem sendSpeed_loops (p : Nat) (s : State) : (sendSpeed p s).plant.loops = s.plant.loops := rfl

theorem motorCommanded_plant (source p c target : Nat) (speed : Int) (s : State) :
    (if source = 2 ∧ (s.motor c).target ≠ target then
        motorRun 2 target c (if source = 2 then preemptMotor c (s.setPump p { s.pump p with speed := speed }) else s.setPump p { s.pump p with speed := speed })
      else motorFollow target c
        (if source = 2 then preemptMotor c (s.setPump p { s.pump p with speed := speed }) else s.setPump p { s.pump p with speed := speed })).plant
      = (s.setPump p { s.pump p with speed := speed }).plant := by
  (repeat' split) <;> simp [motorRun_frame, motorFollow_frame, preemptMotor_frame]

section
variable (source p : Nat) (speed : Int) (s : State)

theorem pumpSpeed_loops : (pumpSpeed source p speed s).plant.loops = s.plant.loops := by
  unfold pumpSpeed
  dsimp only
  split
  · rw [motorCommanded_plant]
    rfl
  · split <;> rfl

theorem pumpSpeed_use (q : Nat) : ((pumpSpeed source p speed s).pump q).use = (s.pump q).use := by
  have hset := pump_setPump_use (s := s) (k := { s.pump p with speed := speed }) rfl q
  unfold pumpSpeed
  dsimp only
  split
  · rw [State.pump_congr (motorCommanded_plant ..)]
    exact hset
  · split
    · exact (sendSpeed_use p _ q).trans hset
    · exact hset

end

/-! ### Joining and leaving the duty set (R61) -/

/-- Where a change of the pumps keeps the loops and reads the pumps alone, so does its stage action. -/
theorem stageAction_plant_eq (source : Nat) {change : State → State} (hc : ∀ a b : State, a.plant = b.plant → (change a).plant = (change b).plant)
    (s : State) : (stageAction source change s).plant = (change s).plant := hc _ _ (by simp)

section
variable (source p : Nat) (s : State)

theorem joinDuty_loops : (joinDuty source p s).plant.loops = s.plant.loops := by
  have hstage := stageAction_plant_eq source (change := setUse p .duty) (fun a b h => by simp [setUse, State.modPump, State.setPump, State.pump, h]) s
  unfold joinDuty
  rw [pumpSpeed_loops]
  simp [State.modPump, State.setPump, hstage, setUse]

theorem joinDuty_use (q : Nat) : ((joinDuty source p s).pump q).use = if q = p then .duty else (s.pump q).use := by
  have hstage := stageAction_plant_eq source (change := setUse p .duty) (fun a b h => by simp [setUse, State.modPump, State.setPump, State.pump, h]) s
  unfold joinDuty
  rw [pumpSpeed_use]
  by_cases hq : q = p
  · subst hq
    simp [State.pump_congr hstage, setUse]
  · simp [State.pump_congr hstage, setUse, hq]

/-- What a pump that leaves the duty set is from then on. -/
def leftDuty (use : PumpUse) (k : Pump) : Pump := { k with use, leaving := some use, starting := false, sinceRest := 0 }

theorem leaveDuty_plant (use : PumpUse) : (leaveDuty source p use s).plant = (s.modPump p (leftDuty use)).plant :=
  stageAction_plant_eq source (fun a b h => by simp [State.modPump, State.setPump, State.pump, h]) s

end

/-- R73: one pump of a manual LOOP_OUT of instance 4. -/
def dutyStep (v p : Nat) (a : State) : State :=
  if v.testBit p then (if pumpDuty a p then a else joinDuty 6 p a)
  else if pumpDuty a p then leaveDuty 6 p (if (reservePump a).isSome then .idle else .reserve) a else a

theorem dutyStep_loops (v p : Nat) (a : State) : (dutyStep v p a).plant.loops = a.plant.loops := by
  unfold dutyStep
  by_cases hv : v.testBit p = true
  · rw [if_pos hv]
    split
    · rfl
    · exact joinDuty_loops _ _ _
  · rw [if_neg hv]
    by_cases hd : pumpDuty a p = true
    · rw [if_pos hd, leaveDuty_plant]
      rfl
    · rw [if_neg hd]

theorem dutyStep_self (v p : Nat) (a : State) : pumpDuty (dutyStep v p a) p = v.testBit p := by
  unfold dutyStep
  by_cases hv : v.testBit p = true
  · rw [if_pos hv, hv]
    by_cases hd : pumpDuty a p = true
    · rw [if_pos hd, hd]
    · rw [if_neg hd]
      simp [pumpDuty, joinDuty_use]
  · rw [if_neg hv, Bool.eq_false_of_not_eq_true hv]
    by_cases hd : pumpDuty a p = true
    · have huse : (if (reservePump a).isSome then PumpUse.idle else .reserve) ≠ .duty := by split <;> decide
      rw [if_pos hd, pumpDuty, State.pump_congr (leaveDuty_plant _ _ _ _)]
      simpa [leftDuty] using huse
    · rw [if_neg hd, Bool.eq_false_of_not_eq_true hd]

theorem dutyStep_other {p q : Nat} (h : q ≠ p) (v : Nat) (a : State) : pumpDuty (dutyStep v p a) q = pumpDuty a q := by
  have hjoin : pumpDuty (joinDuty 6 p a) q = pumpDuty a q := by simp [pumpDuty, joinDuty_use, h]
  have hleave : ∀ use, pumpDuty (leaveDuty 6 p use a) q = pumpDuty a q := fun use => by
    rw [pumpDuty, State.pump_congr (leaveDuty_plant _ _ _ _)]
    simp [h, pumpDuty]
  unfold dutyStep
  by_cases hv : v.testBit p = true
  · rw [if_pos hv]
    split
    · rfl
    · exact hjoin
  · rw [if_neg hv]
    by_cases hd : pumpDuty a p = true
    · rw [if_pos hd]
      exact hleave _
    · rw [if_neg hd]

/-! ### LOOP_OUT (R73) -/

section
variable {h : Hdr} {e : Session} {v : Word} {l : Nat} (hl : l < 5)
  (hres : ∀ r, findReg (U.loop l) Off.loopOut = some r → v &&& r.reserved = 0)
include hl hres

/-- A manual output is judged by the mode and the reflexes that hold the loop, then by its range. -/
theorem judgeWrite_loopOut (a : State) : judgeWrite (oneWrite h e (U.loop l) Off.loopOut v) a
    = judged (firstFail [(inService a && (a.loop l).holders.isEmpty, .denied), (outOk a l (fld v 15 0), .badParam)])
        (writeOut l (oneWrite h e (U.loop l) Off.loopOut v)) := by
  rw [judgeWrite_eq_judgeClass a (loop_class hl) (loopOut_findReg hl) (by decide) (.inr (by decide)) hres]
  exact congrArg (fun j => judged (firstFail [(inService a && (a.loop j).holders.isEmpty, .denied), (outOk a j (fld v 15 0), .badParam)])
    (writeOut j (oneWrite h e (U.loop l) Off.loopOut v))) (loop_inst hl)

end

/-- The write's ACTION record, and the loop under manual output. -/
def manualOut (l : Nat) (w : Write) (s : State) : State :=
  (logAction w.unit 6 Act.set 16 (loopOut s l) (fld w.value 15 0) w.origin.sequence s).modLoop l (fun k => { k with manual := true })

/-- The loop's output moves towards `x`. -/
def aimLoop (l : Nat) (x : Int) (s : State) : State := s.modLoop l (fun k => { k with target := x })

/-- Every rack's valve moves towards `x`. -/
def aimRacks (x : Int) (s : State) : State := forEach (upTo 16) (fun r a => a.modRack r (fun k => { k with target := x })) s

theorem writeOut_eq (l : Nat) (w : Write) (s : State) : writeOut l w s
    = if l = 4 then forEach pumps8 (dutyStep (fld w.value 15 0)) (manualOut l w s)
      else if l = 2 then aimRacks (fld w.value 15 0 * outUnit) (aimLoop l (fld w.value 15 0 * outUnit) (manualOut l w s))
      else aimLoop l (fld w.value 15 0 * outUnit) (manualOut l w s) := rfl

theorem manualOut_loop (l : Nat) (w : Write) (s : State) (j : Nat) :
    (manualOut l w s).loop j = if j = l then { s.loop l with manual := true } else s.loop j := by
  have hlog : ∀ k, (logAction w.unit 6 Act.set 16 (loopOut s l) (fld w.value 15 0) w.origin.sequence s).loop k = s.loop k :=
    State.loop_congr (by simp)
  simp [manualOut, hlog]

theorem aimRacks_loop (x : Int) (s : State) (j : Nat) : (aimRacks x s).loop j = s.loop j := State.loop_congr (by simp [aimRacks]) j

theorem aimRacks_rack (x : Int) (s : State) {r : Nat} (hr : r < 16) :
    ((aimRacks x s).rack r).target = x ∧ ((aimRacks x s).rack r).pos = (s.rack r).pos := by
  refine forEach_sets (x := r) (P := fun a => (a.rack r).target = x ∧ (a.rack r).pos = (s.rack r).pos)
    (I := fun a => (a.rack r).pos = (s.rack r).pos) (List.mem_range.2 hr) rfl (fun q _ a ha => ?_) (fun a ha => ?_) fun q _ hq a ha => ?_
  · by_cases hq : r = q
    · subst hq
      simpa using ha
    · simpa [hq] using ha
  · simpa using ha
  · simpa [Ne.symm hq] using ha

/-- R73: what a manual output leaves of the loops. -/
theorem writeOut_loop (l : Nat) (w : Write) (s : State) (j : Nat) : (writeOut l w s).loop j
    = if j = l then { s.loop l with manual := true, target := if l = 4 then (s.loop l).target else fld w.value 15 0 * outUnit } else s.loop j := by
  have hman := manualOut_loop l w s
  have haim : (aimLoop l (fld w.value 15 0 * outUnit) (manualOut l w s)).loop j
      = if j = l then { s.loop l with manual := true, target := fld w.value 15 0 * outUnit } else s.loop j := by
    by_cases hj : j = l <;> simp [aimLoop, hman, hj]
  rw [writeOut_eq]
  by_cases h4 : l = 4
  · have hloops : (forEach pumps8 (dutyStep (fld w.value 15 0)) (manualOut l w s)).plant.loops = (manualOut l w s).plant.loops :=
      forEach_keeps (P := fun a => a.plant.loops = (manualOut l w s).plant.loops) rfl fun p _ a ha => (dutyStep_loops _ p a).trans ha
    rw [if_pos h4, State.loop, hloops, ← State.loop, hman]
    simp [h4]
  · rw [if_neg h4]
    split
    · rw [aimRacks_loop, haim]
    · rw [haim]

theorem writeOut_rack (w : Write) (s : State) {r : Nat} (hr : r < 16) :
    ((writeOut 2 w s).rack r).target = fld w.value 15 0 * outUnit ∧ ((writeOut 2 w s).rack r).pos = (s.rack r).pos := by
  obtain ⟨htarget, hpos⟩ := aimRacks_rack (fld w.value 15 0 * outUnit) (aimLoop 2 (fld w.value 15 0 * outUnit) (manualOut 2 w s)) hr
  rw [writeOut_eq, if_neg (by decide), if_pos rfl]
  exact ⟨htarget, hpos.trans (congrArg Rack.pos (State.rack_congr (by simp [aimLoop, manualOut]) r))⟩

theorem writeOut_pumpDuty (w : Write) (s : State) {p : Nat} (hp : p < 8) : pumpDuty (writeOut 4 w s) p = (fld w.value 15 0).testBit p := by
  rw [writeOut_eq, if_pos rfl]
  exact forEach_sets (f := dutyStep (fld w.value 15 0)) (P := fun a => pumpDuty a p = (fld w.value 15 0).testBit p) (I := fun _ => True)
    (List.mem_range.2 hp) trivial (fun _ _ _ _ => trivial) (fun a _ => dutyStep_self _ p a)
    fun q _ hq a ha => (dutyStep_other (Ne.symm hq) _ a).trans ha

theorem writeOut_changesOnly (l : Nat) (w : Write) (s : State) :
    ChangesOnly [.broker, .log, .motors, .outbox, .plant, .regs, .vcp] s (writeOut l w s) := by
  intro p hp
  cases p <;> simp [Part.Same, writeOut_frame] at hp ⊢

/-! ### LOOP_PUMP_RESTORE (R509) -/

theorem judgeWrite_loopPumpRestore {h : Hdr} {e : Session} {v : Word}
    (hres : ∀ r, findReg (U.loop 4) Off.loopPumpRestore = some r → v &&& r.reserved = 0) (a : State) :
    judgeWrite (oneWrite h e (U.loop 4) Off.loopPumpRestore v) a
      = judged (firstFail [(pumpPath a (fld v 2 0) && (a.pump (fld v 2 0)).tripped, .badParam), (!pathFaulted a (fld v 2 0), .denied)])
          (restorePump (fld v 2 0)) :=
  (judgeWrite_eq_judgeClass (h := h) (e := e) (cls := 9) a rfl (r := ⟨Off.loopPumpRestore, 4, 1, .wo, 0xFFFFFFF8, 0⟩) (by rfl) (by decide)
    (.inr (by decide)) hres).trans (by simp [judgeClass, judgeLoop, oneWrite, unitInst, U.loop])

/-- The pump-trip reflex ends with its last tripped pump. -/
def pumpTripEnd (s : State) : State := if pumps8.any (fun q => (s.pump q).tripped) then s else rowEnd .pumpTrip s

/-- What a restored pump is. -/
def restored (use : PumpUse) (k : Pump) : Pump := { k with use, tripped := false, vfdTrip := false }

theorem rowEnd_pump (row : ReflexRow) (s : State) (q : Nat) : (rowEnd row s).pump q = s.pump q := by
  have hrel : (releaseLoops row (s.modRow row (fun k => { k with active := false, condSince := none, okSince := none }))).plant.pumps
      = s.plant.pumps := forEach_keeps (P := fun a => a.plant.pumps = s.plant.pumps) rfl fun _ _ _ ha => ha
  unfold rowEnd
  cases row <;> exact congrArg (mget {} · q) hrel

section
variable (p : Nat) (s : State)

/-- The pump is back in the path, in reserve unless the path has a reserve already. -/
def restoredPump : State :=
  stageAction 6 (fun a => a.modPump p (restored (if (reservePump s).isSome then .idle else .reserve))) s

theorem restorePump_eq : restorePump p s
    = notifyEvent { unit := U.loop 4, status := .ok, time := s.now, eventReg := Off.loopPumpTrip, code := p } (pumpTripEnd (restoredPump p s)) := rfl

theorem pumpTripEnd_pump (q : Nat) : (pumpTripEnd s).pump q = s.pump q := by
  unfold pumpTripEnd
  split
  · rfl
  · exact rowEnd_pump _ s q

theorem pumpTripEnd_regs : (pumpTripEnd s).regs = s.regs := by
  unfold pumpTripEnd
  split <;> simp [rowEnd_frame]

theorem restorePump_pump (q : Nat) : (restorePump p s).pump q
    = if q = p then restored (if (reservePump s).isSome then .idle else .reserve) (s.pump p) else s.pump q := by
  have hstage := stageAction_plant_eq 6 (change := fun a => a.modPump p (restored (if (reservePump s).isSome then .idle else .reserve)))
    (fun a b h => by simp [State.modPump, State.setPump, State.pump, h]) s
  have hnotify : ∀ n a, (notifyEvent n a).pump q = a.pump q := fun n a => State.pump_congr (by simp) q
  rw [restorePump_eq, hnotify, pumpTripEnd_pump, restoredPump, State.pump_congr hstage, State.pump_modPump]

theorem restorePump_changesOnly : ChangesOnly [.broker, .log, .outbox, .plant, .regs, .vcp] s (restorePump p s) := by
  intro q hq
  cases q <;> simp [Part.Same, restorePump_frame] at hq ⊢

theorem restorePump_regsOnly : RegsOnly [] s (restorePump p s) := by
  have hstage : RegsOnly [] s (restoredPump p s) := fun _ _ ho _ hr => by
    rw [restoredPump, stageAction]
    exact logAction_reg hr ho _ _ _ _ _ _ _ s
  rw [restorePump_eq]
  exact regsOnly_trans hstage (regsOnly_trans (regsOnly_of_regs (pumpTripEnd_regs _)) (notifyEvent_regsOnly _ _))

end

end Sys2Proof.Machine
end

section
/-! R117, R118: a leak's release asked for, judged at the frame boundary, and carried out. -/

namespace Sys2Proof.Machine

open Sys2Proof Sys2Proof.Safety

/-! ### A request judged at its frame boundary -/

section
variable {op : Op} {h : Hdr} {e : Session} {s : State} (hs : ServedLate op h e s)
include hs

/-- R52: a request that waited and passes checks 2 to 4 is judged by its opcode's own checks. -/
theorem vcpLate_served (body : Session → State → Answer) : vcpLate op h body s = settle op h e (body e s) s := by
  obtain ⟨hsession, hfresh, hchecks⟩ := hs
  simp [vcpLate, hsession, hfresh, hchecks]

theorem vcpLate_done {body : Session → State → Answer} {c : Time} {data : List Nat} {t : State} (hb : body e s = .done c data t)
    (hd : deadlineMissed h c s.now = false) : vcpLate op h body s = finish op h e.identity .ok 0 c data t := by
  rw [vcpLate_served hs, hb, settle_done hd]

theorem vcpLate_refuse {body : Session → State → Answer} {st : Status} {d : Nat} (hb : body e s = .refuse st d) :
    vcpLate op h body s = finish op h e.identity st d 0 [] s := by
  rw [vcpLate_served hs, hb]
  rfl

end

/-! ### LEAK_RELEASE waits for the frame's end (R117) -/

/-- The state with one more release asked for. -/
def askRelease (h : Hdr) (v : Word) (s : State) : State :=
  { s with plant.releaseAsks := s.plant.releaseAsks ++ [(h, v)] }

theorem leakRelease_waits {h : Hdr} {e : Session} {v : Word} {s : State} (hu : h.unit.toNat = U.cap)
    (hs : Served (writeOp U.cap Off.leakRelease 1) h e s)
    (hres : ∀ r, findReg U.cap Off.leakRelease = some r → v &&& r.reserved = 0) :
    registerWriteAt h Off.leakRelease v s = askRelease h v (touch h e.id s) := by
  have hj : judgeWrite (oneWrite h e U.cap Off.leakRelease v) (touch h e.id s) = .ok id :=
    judgeWrite_eq_judgeClass (touch h e.id s) rfl rfl (by decide) (by decide) hres
  have hans := writeAnswer_one_ok hj
  have hserved : Served (writeOp h.unit.toNat Off.leakRelease 1) h e s := by rwa [hu]
  unfold registerWriteAt writeRegs
  refine vcp_wait rfl hserved ?_
  simp only [hu, hans, releaseAsk]
  rfl

/-! ### The leak-held channels of a rack are let go -/

/-- Reporting leaves its traces in the system unit and the log unit alone. -/
theorem not_report_of_unit {u : Nat} (hlog : u ≠ U.log) (hsys : u ≠ U.sys) (off : Nat) : (u, off) ∉ reportRegs := by
  simp [reportRegs, hlog, hsys]

theorem vlv_not_report {c : Nat} (hc : c < 96) (off : Nat) : (U.vlv c, off) ∉ reportRegs :=
  not_report_of_unit (by simp only [U.vlv, U.log]; omega) (by simp [U.vlv]) off

theorem vlvRole_of_regsOnly {c : Nat} (hc : c < 96) {s t : State} (h : RegsOnly [] s t) :
    vlvRole t c = vlvRole s c ∧ vlvIndex t c = vlvIndex s c := by
  have hreg := h (U.vlv c) Off.vlvRole (by decide) (by simp) (vlv_not_report hc _)
  exact ⟨congrArg (fld · 3 0) hreg, congrArg (fld · 15 12) hreg⟩

theorem startRelease_leakHeld (source d : Nat) (s : State) (c : Nat) :
    ((startRelease source d s).valve c).leakHeld = (s.valve c).leakHeld := by
  have hlog : ∀ a b n, (logAction (U.vlv d) source Act.release 16 a b n s).valve c = s.valve c :=
    fun a b n => State.valve_congr (by simp) c
  unfold startRelease
  dsimp only
  rw [State.valve_setValve]
  split
  next h => rw [h]
  next => rw [hlog]

theorem startRelease_regsOnly (source d : Nat) (s : State) : RegsOnly [] s (startRelease source d s) :=
  fun _ _ ho _ hr => logAction_reg hr ho _ _ _ _ _ _ _ s

/-- A leak no longer holds the valve. -/
def letGo (v : Valve) : Valve := { v with leakHeld := false, reflex := false, judged := true }

/-- The channel `c` is let go where it has the role `q` and a leak holds it. -/
def freeChan (q : Nat × Nat) (c : Nat) (s : State) : State :=
  if vlvRole s c = q.1 ∧ vlvIndex s c = q.2 ∧ (s.valve c).leakHeld then
    if (s.valve c).phase = .peak ∨ (s.valve c).phase = .held then startRelease 6 c (s.modValve c letGo) else s.modValve c letGo
  else s

theorem freeRoles_eq (roles : List (Nat × Nat)) (s : State) :
    freeRoles roles s = forEach roles (fun q => forEach valves96 (freeChan q)) s := rfl

section
variable (q : Nat × Nat) (d : Nat) (s : State)

theorem freeChan_regsOnly : RegsOnly [] s (freeChan q d s) := by
  have hlet : RegsOnly [] s (s.modValve d letGo) := regsOnly_of_regs rfl
  unfold freeChan
  (repeat' split)
  · exact regsOnly_trans hlet (startRelease_regsOnly _ _ _)
  · exact hlet
  · exact regsOnly_refl _ _

theorem freeChan_leakHeld (c : Nat) : ((freeChan q d s).valve c).leakHeld
    = if c = d ∧ vlvRole s d = q.1 ∧ vlvIndex s d = q.2 then false else (s.valve c).leakHeld := by
  have hlet : ((s.modValve d letGo).valve c).leakHeld = if c = d then false else (s.valve c).leakHeld := by
    rw [State.valve_modValve]
    split <;> rfl
  have hgo : ((if (s.valve d).phase = .peak ∨ (s.valve d).phase = .held then startRelease 6 d (s.modValve d letGo)
      else s.modValve d letGo).valve c).leakHeld = if c = d then false else (s.valve c).leakHeld := by
    split
    · rw [startRelease_leakHeld, hlet]
    · exact hlet
  unfold freeChan
  by_cases hrole : vlvRole s d = q.1 ∧ vlvIndex s d = q.2
  · by_cases hheld : (s.valve d).leakHeld = true
    · rw [if_pos ⟨hrole.1, hrole.2, hheld⟩, hgo]
      simp [hrole]
    · rw [if_neg fun hall => hheld hall.2.2]
      split
      next hall => rw [hall.1, Bool.eq_false_of_not_eq_true hheld]
      next => rfl
  · rw [if_neg fun hall => hrole ⟨hall.1, hall.2.1⟩, if_neg fun hall => hrole hall.2]

end

/-- Letting channels go holds none. -/
theorem freeChan_keeps_free (q : Nat × Nat) (d : Nat) {s : State} {c : Nat} (h : (s.valve c).leakHeld = false) :
    ((freeChan q d s).valve c).leakHeld = false := by
  rw [freeChan_leakHeld]
  split
  · rfl
  · exact h

theorem freeRoles_keeps_free (roles : List (Nat × Nat)) {s : State} {c : Nat} (h : (s.valve c).leakHeld = false) :
    ((freeRoles roles s).valve c).leakHeld = false := by
  rw [freeRoles_eq]
  exact forEach_keeps (P := fun a => (a.valve c).leakHeld = false) h fun q _ _ ha =>
    forEach_keeps (P := fun a => (a.valve c).leakHeld = false) ha fun d _ _ hb => freeChan_keeps_free q d hb

theorem freePass_regsOnly (q : Nat × Nat) {s a : State} (h : RegsOnly [] s a) : RegsOnly [] s (forEach valves96 (freeChan q) a) :=
  forEach_keeps (P := RegsOnly [] s) h fun d _ b hb => regsOnly_trans hb (freeChan_regsOnly q d b)

/-- R118: no channel of the roles is held by a leak any more. -/
theorem freeRoles_frees {roles : List (Nat × Nat)} {q : Nat × Nat} (hq : q ∈ roles) {s : State} {c : Nat} (hc : c < 96)
    (hrole : vlvRole s c = q.1) (hindex : vlvIndex s c = q.2) : ((freeRoles roles s).valve c).leakHeld = false := by
  rw [freeRoles_eq]
  refine forEach_sets (P := fun a => (a.valve c).leakHeld = false) (I := RegsOnly [] s) hq (regsOnly_refl _ _)
    (fun p _ a ha => freePass_regsOnly p ha) (fun a ha => ?_) fun p _ _ a ha =>
      forEach_keeps (P := fun a => (a.valve c).leakHeld = false) ha fun d _ _ hb => freeChan_keeps_free p d hb
  refine forEach_sets (P := fun a => (a.valve c).leakHeld = false) (I := RegsOnly [] s) (List.mem_range.2 hc) ha
    (fun d _ b hb => regsOnly_trans hb (freeChan_regsOnly q d b)) (fun b hb => ?_) fun d _ _ _ hb => freeChan_keeps_free q d hb
  obtain ⟨hsame, hindexSame⟩ := vlvRole_of_regsOnly hc hb
  rw [freeChan_leakHeld, if_pos ⟨rfl, hsame.trans hrole, hindexSame.trans hindex⟩]

/-! ### What the release of a rack leaves (R118) -/

theorem mirrorRack_rack (r : Nat) (s : State) (j : Nat) : (mirrorRack r s).rack j = s.rack j :=
  State.rack_congr (by simp [mirrorRack_frame]) j

theorem setStage_rack (r : Nat) (st : LeakStage) (s : State) (j : Nat) :
    (setStage r st s).rack j = if j = r then { s.rack r with stage := st } else s.rack j := by
  unfold setStage
  dsimp only
  split
  next h =>
    split
    next hj => rw [hj, ← h]
    next => rfl
  next =>
    have hlog : ∀ i, (logAction U.cap 2 Act.leakStage r (stageCode (s.rack r).stage) (stageCode st) 0 s).rack i = s.rack i :=
      State.rack_congr (by simp)
    have hnotify : ∀ n a, (notifyEvent n a).rack j = a.rack j := fun n a => State.rack_congr (by simp) j
    rw [hnotify, mirrorRack_rack, State.rack_modRack, hlog, hlog]

/-- A rack without a leak sequence. -/
def withoutLeak (k : Rack) : Rack := { k with leak := none, seen := 0, seenCables := [] }

/-- R118: the channels of the rack let go, and those of its sector where no other of its racks needs them. -/
def freedChannels (r : Nat) (s : State) : State :=
  if (upTo 16).any (fun q => decide (q ≠ r) && decide (sectorOf s q = sectorOf s r) && leakDeep s q) then freeRoles (isolationRoles r) s
  else freeRoles (headerRoles (sectorOf s r)) (freeRoles (isolationRoles r) s)

theorem releaseLeak_eq (r : Nat) (s : State) :
    releaseLeak r s = unisolateRack r (setStage r .clear ((freedChannels r s).modRack r withoutLeak)) := rfl

section
variable (r : Nat) (s : State)

theorem freedChannels_broker : (freedChannels r s).broker = s.broker := by
  unfold freedChannels
  split <;> simp [freeRoles_frame]

theorem freedChannels_free {q : Nat × Nat} (hq : q ∈ isolationRoles r) {c : Nat} (hc : c < 96) (hrole : vlvRole s c = q.1)
    (hindex : vlvIndex s c = q.2) : ((freedChannels r s).valve c).leakHeld = false := by
  have hfree := freeRoles_frees hq hc hrole hindex
  unfold freedChannels
  split
  · exact hfree
  · exact freeRoles_keeps_free _ hfree

theorem releaseLeak_rack (j : Nat) : (releaseLeak r s).rack j
    = if j = r then { withoutLeak (s.rack r) with stage := .clear } else s.rack j := by
  have hfreed := State.rack_congr (freedChannels_broker r s)
  have hback : ∀ a : State, (unisolateRack r a).rack j = a.rack j := fun a => State.rack_congr (by simp [unisolateRack_frame]) j
  rw [releaseLeak_eq, hback, setStage_rack]
  rw [State.rack_modRack, if_pos rfl, State.rack_modRack, hfreed, hfreed]
  by_cases hj : j = r
  · rw [if_pos hj, if_pos hj]
  · rw [if_neg hj, if_neg hj, if_neg hj]

theorem releaseLeak_leakHeld (c : Nat) : ((releaseLeak r s).valve c).leakHeld = ((freedChannels r s).valve c).leakHeld := by
  have hvalves : (releaseLeak r s).valves = (freedChannels r s).valves := by
    rw [releaseLeak_eq]
    simp [unisolateRack_frame, setStage_frame]
  rw [State.valve_congr hvalves]

theorem unisolateRack_isolated {r : Nat} (hr : r < 16) (s : State) : inSet (unisolateRack r s).plant.isolated r = false := by
  have hplant : (unisolateRack r s).plant.isolated = s.plant.isolated &&& ~~~ BitVec.ofNat 16 (2 ^ r) := by
    simp [unisolateRack, mirrorMode]
  have hbit : (BitVec.ofNat 16 (2 ^ r)).getLsbD r = true := by
    rw [BitVec.getLsbD_ofNat, Nat.testBit_two_pow_self]
    simp [hr]
  rw [inSet, hplant, BitVec.getLsbD_and, BitVec.getLsbD_not, hbit]
  simp

end

/-! ### What the release sends -/

section
variable {l : List Out} {s : State} (h : l <:+ s.outbox)
include h

theorem startRelease_sent (source d : Nat) : l <:+ (startRelease source d s).outbox := logAction_sent h _ _ _ _ _ _ _

theorem freeChan_sent (q : Nat × Nat) (d : Nat) : l <:+ (freeChan q d s).outbox := by
  have hlet : l <:+ (s.modValve d letGo).outbox := h
  unfold freeChan
  (repeat' split)
  · exact startRelease_sent hlet _ _
  · exact hlet
  · exact h

theorem freeRoles_sent (roles : List (Nat × Nat)) : l <:+ (freeRoles roles s).outbox :=
  forEach_sent roles (fun q => forEach valves96 (freeChan q)) (fun q _ ha => forEach_sent valves96 (freeChan q) (fun d _ hb => freeChan_sent hb q d) ha) h

theorem setStage_sent (r : Nat) (st : LeakStage) : l <:+ (setStage r st s).outbox := by
  have hmod : ∀ a b n g, l <:+ ((logAction U.cap 2 Act.leakStage r a b n s).modRack r g).outbox := fun a b n _ => logAction_sent h _ _ _ _ a b n
  unfold setStage
  dsimp only
  split
  · exact h
  · exact notifyEvent_sent (mirrorRack_sent (hmod _ _ _ _) _) _

theorem freedChannels_sent (r : Nat) : l <:+ (freedChannels r s).outbox := by
  unfold freedChannels
  split
  · exact freeRoles_sent h _
  · exact freeRoles_sent (freeRoles_sent h _) _

theorem releaseLeak_sent (r : Nat) : l <:+ (releaseLeak r s).outbox := by
  have hmod : l <:+ ((freedChannels r s).modRack r withoutLeak).outbox := freedChannels_sent h r
  rw [releaseLeak_eq]
  exact toPartner_sent (s := { setStage r .clear ((freedChannels r s).modRack r withoutLeak) with
    plant.isolated := (setStage r .clear ((freedChannels r s).modRack r withoutLeak)).plant.isolated &&& ~~~ BitVec.ofNat 16 (2 ^ r) })
    (setStage_sent hmod r .clear) _

end

/-! ### The releases of a frame are judged (R117) -/

/-- The frame's releases are taken up. -/
def asksTaken (s : State) : State := { s with plant.releaseAsks := [] }

/-- What the judgement of a release comes to. -/
def releaseAnswer (v : Word) (s : State) : Answer :=
  if leakReleasable s (fld v 3 0) then .done s.now [] (releaseLeak (fld v 3 0) s) else .refuse .denied 0

section
variable {h : Hdr} {e : Session} {v : Word} {s : State} (hask : s.plant.releaseAsks = [(h, v)])
include hask

theorem judgeReleases_one :
    judgeReleases s = vcpLate (writeOp U.cap Off.leakRelease 1) h (fun _ => releaseAnswer v) (asksTaken s) := by
  rw [judgeReleases, hask]
  rfl

variable (hs : ServedLate (writeOp U.cap Off.leakRelease 1) h e (asksTaken s))
include hs

/-- The one release of a frame that may be carried out is, and is answered OK. -/
theorem judgeReleases_done (hd : deadlineMissed h s.now s.now = false) (hr : leakReleasable s (fld v 3 0) = true) :
    judgeReleases s = finish (writeOp U.cap Off.leakRelease 1) h e.identity .ok 0 s.now [] (releaseLeak (fld v 3 0) (asksTaken s)) := by
  have hans : releaseAnswer v (asksTaken s) = .done s.now [] (releaseLeak (fld v 3 0) (asksTaken s)) := if_pos hr
  rw [judgeReleases_one hask]
  exact vcpLate_done hs hans hd

/-- The one release of a frame that may not be carried out is refused. -/
theorem judgeReleases_refuse (hr : leakReleasable s (fld v 3 0) = false) :
    judgeReleases s = finish (writeOp U.cap Off.leakRelease 1) h e.identity .denied 0 0 [] (asksTaken s) := by
  have hans : releaseAnswer v (asksTaken s) = .refuse .denied 0 := if_neg (Bool.eq_false_iff.1 hr)
  rw [judgeReleases_one hask]
  exact vcpLate_refuse hs hans

/-- R117, R118: what the frame's one release leaves. -/
theorem judgeReleases_released (hd : deadlineMissed h s.now s.now = false) (hr : leakReleasable s (fld v 3 0) = true) :
    Answers h .ok s.now [] s (judgeReleases s)
      ∧ (∀ j, (judgeReleases s).rack j = if j = fld v 3 0 then { withoutLeak (s.rack (fld v 3 0)) with stage := .clear } else s.rack j)
      ∧ inSet (judgeReleases s).plant.isolated (fld v 3 0) = false
      ∧ (∀ q ∈ isolationRoles (fld v 3 0), ∀ c, c < 96 → vlvRole s c = q.1 → vlvIndex s c = q.2 →
          ((judgeReleases s).valve c).leakHeld = false) := by
  have hrack : fld v 3 0 < 16 := Nat.mod_lt _ (by decide)
  have htaken : s.outbox <:+ (asksTaken s).outbox := List.suffix_refl _
  have hfin := judgeReleases_done hask hs hd hr
  have hframe := hfin ▸ finish_changesOnly (writeOp U.cap Off.leakRelease 1) h e.identity .ok 0 s.now [] (releaseLeak (fld v 3 0) (asksTaken s))
  have hbroker := hframe .broker (by simp)
  have hplant := hframe .plant (by simp)
  have hvalves := hframe .valves (by simp)
  refine ⟨?_, fun j => (State.rack_congr hbroker j).trans (releaseLeak_rack _ _ j), ?_, fun q hq c hc hrole hindex => ?_⟩
  · have hsent : s.outbox <:+ (releaseLeak (fld v 3 0) (asksTaken s)).outbox := releaseLeak_sent htaken _
    obtain ⟨m, hm⟩ := hsent
    rw [hfin]
    exact finish_sends_from _ _ _ _ _ _ ⟨m, hm.symm⟩
  · rw [hplant, releaseLeak_eq]
    exact unisolateRack_isolated hrack _
  · rw [State.valve_congr hvalves, releaseLeak_leakHeld]
    exact freedChannels_free _ _ hq hc hrole hindex

/-- R117: what a refused release leaves. -/
theorem judgeReleases_denied (hr : leakReleasable s (fld v 3 0) = false) :
    Answers h .denied 0 [] s (judgeReleases s) ∧ (judgeReleases s).plant = (asksTaken s).plant
      ∧ ChangesOnly [.outbox, .plant, .regs, .vcp] s (judgeReleases s) := by
  have hfin := judgeReleases_refuse hask hs hr
  have hframe := hfin ▸ finish_changesOnly (writeOp U.cap Off.leakRelease 1) h e.identity .denied 0 0 [] (asksTaken s)
  refine ⟨?_, hframe .plant (by simp), ?_⟩
  · rw [hfin]
    exact finish_sends_from _ _ _ _ _ _ ⟨[], rfl⟩
  · refine changesOnly_trans (t := asksTaken s) (fun p hp => ?_) (changesOnly_mono hframe (by simp))
    cases p <;> simp [Part.Same, asksTaken] at hp ⊢

end

end Sys2Proof.Machine
end

section
/-! R74, R295, R320, R326, R332: CAP_RACK_CFG, SNS_CAL, and the ends of a valve trip, of spent restarts and of an encoder fault. -/

namespace Sys2Proof.Machine

open Sys2Proof Sys2Proof.Safety

/-! ### CAP_RACK_CFG (R74) -/

theorem capRackCfg_findReg (rack : Fin 16) :
    findReg U.cap (Off.capRackCfg + 0x20 * rack.val) = some ⟨Off.capRackCfg, 32, 16, .rw, 0x00000000, 0x271003E8⟩ := by
  revert rack
  decide +kernel

theorem judgeCap_rackCfg {w : Write} {rack : Fin 16} (hoff : w.off = Off.capRackCfg + 0x20 * rack.val) (s : State) :
    judgeCap w s = judged (firstFail [(commissioning s, .denied), (rackCfgOk s rack.val w.value, .badParam)]) (writeRackCfg rack.val w) := by
  have hoff : w.off = 0x100 + 0x20 * rack.val := hoff
  have hrack : (w.off - 0x100) / 0x20 = rack.val := by omega
  have hmod : w.off % 0x20 = 0 := by omega
  have h1 : w.off ≠ Off.capCtrl := show w.off ≠ 0x000 by omega
  have h2 : w.off ≠ Off.sightCtrl := show w.off ≠ 0x010 by omega
  have h3 : w.off ≠ Off.leakCtrl := show w.off ≠ 0x01C by omega
  have h4 : w.off ≠ Off.leakRelease := show w.off ≠ 0x018 by omega
  unfold judgeCap
  simp only [if_neg h1, if_neg h2, if_neg h3, if_neg h4, hmod, if_true, hrack]

theorem judgeWrite_rackCfg {h : Hdr} {e : Session} {v : Word} {rack : Fin 16}
    (hres : ∀ r, findReg U.cap (Off.capRackCfg + 0x20 * rack.val) = some r → v &&& r.reserved = 0) (a : State) :
    judgeWrite (oneWrite h e U.cap (Off.capRackCfg + 0x20 * rack.val) v) a
      = judged (firstFail [(commissioning a, .denied), (rackCfgOk a rack.val v, .badParam)])
          (writeRackCfg rack.val (oneWrite h e U.cap (Off.capRackCfg + 0x20 * rack.val) v)) :=
  (judgeWrite_eq_judgeClass (cls := 10) a rfl (capRackCfg_findReg rack) (by decide) (.inl (by decide)) hres).trans (judgeCap_rackCfg rfl a)

/-- A configuration register of the cap broker's unit is mirrored and stored. -/
theorem writeConfig_cap (off : Nat) (v : Word) (s : State) :
    writeConfig U.cap off v s = (toPartner (.register (BitVec.ofNat 16 U.cap) (BitVec.ofNat 16 off) v) s).setReg U.cap off v := rfl

/-- A grant sends the rack's cap, and leaves it. -/
theorem sendGrant_cap (r kind : Nat) (raId : BitVec 32) (expected leaves : Time) (s : State) (j : Nat) :
    ((sendGrant r kind raId expected leaves s).rack j).cap = (s.rack j).cap ∧ (j ≠ r → (sendGrant r kind raId expected leaves s).rack j = s.rack j) := by
  have hemit : ∀ (a : State) (o : Out), (a.emit o).rack j = a.rack j := fun _ _ => rfl
  unfold sendGrant
  dsimp only
  rw [mirrorRack_rack, hemit, State.rack_setRack]
  by_cases hj : j = r
  · simp [hj]
  · simp [hj]

section
variable (source : Nat) (new : Power) (causeSeq : BitVec 32) (leaves : Time) (r : Nat) (s : State)

theorem grantSet_cap : ((grantSet source new causeSeq leaves r s).rack r).cap = new := by
  rw [grantSet, (sendGrant_cap _ _ _ _ _ _ r).1]
  simp

theorem grantSet_rack_ne {j : Nat} (hj : j ≠ r) : (grantSet source new causeSeq leaves r s).rack j = s.rack j := by
  have hlog : (logAction U.cap source Act.grant r (s.rack r).cap new causeSeq s).rack j = s.rack j := State.rack_congr (by simp) j
  rw [grantSet, (sendGrant_cap _ _ _ _ _ _ j).2 hj, State.rack_modRack, if_neg hj, hlog]

theorem grantSet_regsOnly : RegsOnly [] s (grantSet source new causeSeq leaves r s) := by
  have hregs : (grantSet source new causeSeq leaves r s).regs = (logAction U.cap source Act.grant r (s.rack r).cap new causeSeq s).regs := by
    unfold grantSet sendGrant
    simp [mirrorRack_frame]
  exact fun u off ho _ hr => (State.reg_congr hregs u off).trans (logAction_reg hr ho _ _ _ _ _ _ _ s)

end

section
variable {r : Nat} {w : Write} (hu : w.unit = U.cap) (s : State)
include hu

theorem writeRackCfg_regs (hlt : w.off < 0x1000) : RegsOnly [(U.cap, w.off)] s (writeRackCfg r w s) ∧ (writeRackCfg r w s).reg U.cap w.off = w.value := by
  have hconf : RegsOnly [(U.cap, w.off)] s (writeConfig w.unit w.off w.value s) := by
    rw [hu, writeConfig_cap]
    exact regsOnly_trans (regsOnly_of_regs (toPartner_regs _ s)) (setReg_regsOnly hlt _ _)
  have hval : (writeConfig w.unit w.off w.value s).reg U.cap w.off = w.value := by
    rw [hu, writeConfig_cap, State.reg_setReg_self]
  unfold writeRackCfg
  dsimp only
  split
  · exact ⟨hconf, hval⟩
  · have hgrant := regsOnly_trans (regsOnly_of_regs rfl) (grantSet_regsOnly 6 (capInside s r w.value) w.origin.sequence
      (grantLeaves (writeConfig w.unit w.off w.value s)) r (writeConfig w.unit w.off w.value s).draw)
    exact ⟨regsOnly_trans hconf (regsOnly_nil hgrant),
      (hgrant U.cap w.off hlt (by simp) (not_report_of_unit (by decide) (by decide) _)).trans hval⟩

omit hu in
theorem writeRackCfg_rack : ((writeRackCfg r w s).rack r).cap = capInside s r w.value ∧ ∀ j, j ≠ r → (writeRackCfg r w s).rack j = s.rack j := by
  have hconf : ∀ j, (writeConfig w.unit w.off w.value s).rack j = s.rack j := State.rack_congr (by simp [writeConfig_frame])
  unfold writeRackCfg
  dsimp only
  split
  next hcap => exact ⟨(congrArg Rack.cap (hconf r)).trans hcap.symm, fun j _ => hconf j⟩
  next => exact ⟨grantSet_cap .., fun j hj => (grantSet_rack_ne _ _ _ _ _ _ hj).trans (hconf j)⟩

theorem writeRackCfg_changesOnly : ChangesOnly [.broker, .free, .log, .outbox, .regs, .vcp] s (writeRackCfg r w s) := by
  have hconf : ChangesOnly [.outbox, .regs] s (writeConfig w.unit w.off w.value s) := by
    rw [hu, writeConfig_cap]
    intro p hp
    cases p <;> simp [Part.Same] at hp ⊢
  unfold writeRackCfg
  dsimp only
  split
  · exact changesOnly_mono hconf (by simp)
  · refine changesOnly_trans (changesOnly_mono hconf (by simp)) fun p hp => ?_
    cases p <;> simp [Part.Same, grantSet_frame] at hp ⊢

end

/-! ### SNS_CAL (R326) -/

section
variable {i : Nat} (hi : i < 64)
include hi

theorem sns_class : unitClass (U.sns i) = 3 := by simp only [unitClass, U.sns]; omega

theorem sns_inst : unitInst (U.sns i) = i := by simp only [unitInst, U.sns]; omega

theorem snsCal_findReg : findReg (U.sns i) Off.snsCal = some ⟨Off.snsCal, 4, 1, .rw, 0x0000FFFE, 0x02580000⟩ := by
  unfold findReg unitRegs
  simp only [sns_class hi, sns_inst hi, if_pos hi]
  rfl

theorem sns_not_report (off : Nat) : (U.sns i, off) ∉ reportRegs :=
  not_report_of_unit (by simp only [U.sns, U.log]; omega) (by simp [U.sns]) off

/-- A calibration asked for: the register's other bits are stored, and the input queued. -/
def writeCal (i : Nat) (v : Word) (s : State) : State :=
  if bitOf v 0 then queueCal i (writeConfig (U.sns i) Off.snsCal (clrBit v 0) s) else writeConfig (U.sns i) Off.snsCal (clrBit v 0) s

theorem judgeWrite_snsCal {h : Hdr} {e : Session} {v : Word}
    (hres : ∀ r, findReg (U.sns i) Off.snsCal = some r → v &&& r.reserved = 0) (a : State) :
    judgeWrite (oneWrite h e (U.sns i) Off.snsCal v) a
      = judged (firstFail [(decide (fld v 31 16 = 0) || decide (60 ≤ fld v 31 16), .badParam)]) (writeCal i v) := by
  rw [judgeWrite_eq_judgeClass a (sns_class hi) (snsCal_findReg hi) (by decide) (by decide) hres]
  simp only [judgeClass, judgeSense, oneWrite, sns_inst hi, if_neg (Nat.not_le.2 hi), if_true]
  rfl

end

theorem sendConfig_regs (u : Nat) (s : State) : (sendConfig u s).regs = s.regs := by
  unfold sendConfig
  (repeat' split) <;> rfl

section
variable {i : Nat} (hi : i < 64) (off : Nat) (v : Word) (s : State)
include hi

/-- A configuration register of an input is mirrored, stored, and written to the input's card. -/
theorem writeConfig_sns : writeConfig (U.sns i) off v s
    = sendConfig (U.sns i) ((toPartner (.register (BitVec.ofNat 16 (U.sns i)) (BitVec.ofNat 16 off) v) s).setReg (U.sns i) off v) := by
  unfold writeConfig storeConfig configEffect
  simp only [sns_class hi]

theorem writeConfig_sns_regs : (writeConfig (U.sns i) off v s).regs
    = ((toPartner (.register (BitVec.ofNat 16 (U.sns i)) (BitVec.ofNat 16 off) v) s).setReg (U.sns i) off v).regs := by
  rw [writeConfig_sns hi, sendConfig_regs]

theorem writeConfig_sns_reg : (writeConfig (U.sns i) off v s).reg (U.sns i) off = v := by
  rw [State.reg_congr (writeConfig_sns_regs hi off v s), State.reg_setReg_self]

theorem writeConfig_sns_regsOnly (hlt : off < 0x1000) : RegsOnly [(U.sns i, off)] s (writeConfig (U.sns i) off v s) :=
  regsOnly_trans (regsOnly_trans (regsOnly_of_regs (toPartner_regs _ s)) (setReg_regsOnly hlt v _))
    (regsOnly_of_regs (writeConfig_sns_regs hi off v s))

theorem writeConfig_sns_changesOnly : ChangesOnly [.outbox, .regs, .service] s (writeConfig (U.sns i) off v s) := by
  have hsend : ∀ a : State, ChangesOnly [.service] a (sendConfig (U.sns i) a) := fun a p hp => by
    cases p <;> simp [Part.Same, sendConfig_frame] at hp ⊢
  rw [writeConfig_sns hi]
  refine changesOnly_trans (fun p hp => ?_) (changesOnly_mono (hsend _) (by simp))
  cases p <;> simp [Part.Same] at hp ⊢

end

section
variable {i : Nat} (hi : i < 64) (v : Word) (s : State)
include hi

/-- The type of an input is no matter of its calibration. -/
theorem snsType_writeConfig : snsType (writeConfig (U.sns i) Off.snsCal v s) i = snsType s i :=
  congrArg (fld · 31 28) (writeConfig_sns_regsOnly hi Off.snsCal v s (by decide) (U.sns i) Off.snsCfg (by decide) (by simp) (sns_not_report hi _))

theorem writeCal_queued (hb : bitOf v 0 = true) (hty : between 1 8 (snsType s i) = true) (hfree : (s.sense i).calQueued = none) :
    writeCal i v s = (writeConfig (U.sns i) Off.snsCal (clrBit v 0) s).modSense i (fun x => { x with calQueued := some s.now }) := by
  have hnow : (writeConfig (U.sns i) Off.snsCal (clrBit v 0) s).now = s.now := by simp [writeConfig_frame]
  have hsense : (writeConfig (U.sns i) Off.snsCal (clrBit v 0) s).sense i = s.sense i := State.sense_congr (by simp [writeConfig_frame]) i
  unfold writeCal queueCal
  rw [if_pos hb, snsType_writeConfig hi, hsense, hfree, hnow, if_pos ⟨hty, rfl⟩]

theorem writeCal_stored (hno : bitOf v 0 = false ∨ between 1 8 (snsType s i) = false ∨ (s.sense i).calQueued.isSome = true) :
    writeCal i v s = writeConfig (U.sns i) Off.snsCal (clrBit v 0) s := by
  have hsense : (writeConfig (U.sns i) Off.snsCal (clrBit v 0) s).sense i = s.sense i := State.sense_congr (by simp [writeConfig_frame]) i
  unfold writeCal queueCal
  rw [snsType_writeConfig hi, hsense]
  obtain hb | hty | hq := hno
  · simp [hb]
  · simp [hty]
  · simp [Option.isSome_iff_ne_none.1 hq]

end

theorem modSense_changesOnly (i : Nat) (g : Sense → Sense) (s : State) : ChangesOnly [.senses] s (s.modSense i g) := fun p hp => by
  cases p <;> simp [Part.Same] at hp ⊢

/-! ### VLV_EVENTS (R295) -/

theorem clearEvents_reg (w : Write) (s : State) : (clearEvents w s).reg w.unit w.off = s.reg w.unit w.off &&& ~~~ w.value :=
  State.reg_setReg_self ..

section
variable {c : Nat} (hc : c < 96)
include hc

theorem vlv_class : unitClass (U.vlv c) = 1 := by simp only [unitClass, U.vlv]; omega

theorem vlv_inst : unitInst (U.vlv c) = c := by simp only [unitInst, U.vlv]; omega

theorem vlvEvents_findReg : findReg (U.vlv c) Off.vlvEvents = some ⟨Off.vlvEvents, 4, 1, .w1c, 0xFFFFF000, 0x00000000⟩ := by
  unfold findReg unitRegs
  simp only [vlv_class hc, vlv_inst hc, if_pos hc]
  rfl

/-- The trip of the channel ends with its events. -/
def clearTrip (c : Nat) (w : Write) (s : State) : State := (clearEvents w s).modValve c (fun x => { x with tripped := false })

omit hc in
theorem clearTrip_changesOnly (w : Write) (s : State) : ChangesOnly [.outbox, .regs, .valves, .vcp] s (clearTrip c w s) := fun p hp => by
  cases p <;> simp [Part.Same, clearTrip, clearEvents_frame] at hp ⊢

theorem judgeWrite_vlvEvents {h : Hdr} {e : Session} {v : Word}
    (hres : ∀ r, findReg (U.vlv c) Off.vlvEvents = some r → v &&& r.reserved = 0) (htrip : bitOf v 0 = true ∨ bitOf v 8 = true) (a : State) :
    judgeWrite (oneWrite h e (U.vlv c) Off.vlvEvents v) a
      = judged (firstFail [(inService a, .denied)]) (clearTrip c (oneWrite h e (U.vlv c) Off.vlvEvents v)) := by
  have hbits : (bitOf v 0 || bitOf v 8) = true := by simpa using htrip
  rw [judgeWrite_eq_judgeClass a (vlv_class hc) (vlvEvents_findReg hc) (by decide) (by decide) hres]
  simp only [judgeClass, judgeValve, oneWrite, vlv_inst hc, hbits]
  rfl

end

/-! ### MOT_EVENTS (R320, R332) -/

section
variable {c : Nat} (hc : c < 48)
include hc

theorem mot_class : unitClass (U.mot c) = 2 := by simp only [unitClass, U.mot]; omega

theorem mot_inst : unitInst (U.mot c) = c := by simp only [unitInst, U.mot]; omega

theorem motEvents_findReg : findReg (U.mot c) Off.motEvents = some ⟨Off.motEvents, 4, 1, .w1c, 0xFFFFFC00, 0x00000000⟩ := by
  unfold findReg unitRegs
  simp only [mot_class hc, mot_inst hc, if_pos hc]
  rfl

theorem mot_not_report (off : Nat) : (U.mot c, off) ∉ reportRegs :=
  not_report_of_unit (by simp only [U.mot, U.log]; omega) (by simp [U.mot]) off

theorem judgeWrite_motEvents {h : Hdr} {e : Session} {v : Word}
    (hres : ∀ r, findReg (U.mot c) Off.motEvents = some r → v &&& r.reserved = 0) {a : State} (hin : inService a = true) :
    judgeWrite (oneWrite h e (U.mot c) Off.motEvents v) a = .ok (fun s => clearMotor c v (clearEvents (oneWrite h e (U.mot c) Off.motEvents v) s)) := by
  rw [judgeWrite_eq_judgeClass a (mot_class hc) (motEvents_findReg hc) (by decide) (by decide) hres]
  simp only [judgeClass, judgeMotor, oneWrite, mot_inst hc, hin, Bool.or_true]
  rfl

end

section
variable (c : Nat) (v : Word) (s : State)

/-- R332: the channel is STOPPED again. -/
theorem clearMotor_restarts (h7 : bitOf v 7 = true) (h6 : bitOf v 6 = false) (hst : (s.motor c).st = .faulted) :
    clearMotor c v s = (motorTo 6 .stopped 0 c s).modMotor c (fun m => { m with failures := 0, target := 0 }) := by
  simp [clearMotor, h7, h6, hst]

/-- R320: the speed source is the encoder again, whose next index only sets the reference. -/
theorem clearMotor_encoder_motor (h6 : bitOf v 6 = true) (h7 : bitOf v 7 = false) (j : Nat) :
    (clearMotor c v s).motor j = if j = c then { s.motor c with encFault := false, refValid := false, slipRun := 0 } else s.motor j := by
  have hclear : clearMotor c v s = s.modMotor c (fun m => { m with encFault := false, refValid := false, slipRun := 0 }) := by
    simp [clearMotor, h7, h6]
  rw [hclear, State.motor_modMotor]

theorem motorTo_motor_ne (source : Nat) (st : MotState) (cmd : Int) {j : Nat} (hj : j ≠ c) : (motorTo source st cmd c s).motor j = s.motor j := by
  have hlog : ∀ a x y n, (logAction (U.mot c) source a 16 x y n s).motor j = s.motor j := fun _ _ _ _ => State.motor_congr (by simp) j
  unfold motorTo
  dsimp only
  rw [State.motor_setMotor, if_neg hj, hlog]

theorem motorTo_st (source : Nat) (st : MotState) (cmd : Int) : ((motorTo source st cmd c s).motor c).st = st := by
  unfold motorTo
  dsimp only
  rw [State.motor_setMotor, if_pos rfl]

theorem clearMotor_restarts_motor (h7 : bitOf v 7 = true) (h6 : bitOf v 6 = false) (hst : (s.motor c).st = .faulted) :
    ((clearMotor c v s).motor c).st = .stopped ∧ ((clearMotor c v s).motor c).failures = 0 ∧ ((clearMotor c v s).motor c).target = 0
      ∧ ∀ j, j ≠ c → (clearMotor c v s).motor j = s.motor j := by
  rw [clearMotor_restarts c v s h7 h6 hst]
  refine ⟨?_, ?_, ?_, fun j hj => ?_⟩
  · rw [State.motor_modMotor, if_pos rfl]
    exact motorTo_st c s 6 .stopped 0
  · rw [State.motor_modMotor, if_pos rfl]
  · rw [State.motor_modMotor, if_pos rfl]
  · rw [State.motor_modMotor, if_neg hj, motorTo_motor_ne c s 6 .stopped 0 hj]

theorem clearMotor_changesOnly : ChangesOnly [.log, .motors, .outbox, .regs] s (clearMotor c v s) := by
  intro p hp
  cases p <;> simp [Part.Same, clearMotor_frame] at hp ⊢

theorem motorTo_regsOnly (source : Nat) (st : MotState) (cmd : Int) : RegsOnly [] s (motorTo source st cmd c s) :=
  fun _ _ ho _ hr => logAction_reg hr ho _ _ _ _ _ _ _ s

theorem clearMotor_regsOnly : RegsOnly [] s (clearMotor c v s) := by
  have hstop : RegsOnly [] s (if bitOf v 7 ∧ (s.motor c).st = .faulted then
      (motorTo 6 .stopped 0 c s).modMotor c (fun m => { m with failures := 0, target := 0 }) else s) := by
    split
    · exact regsOnly_trans (motorTo_regsOnly c s 6 .stopped 0) (regsOnly_of_regs rfl)
    · exact regsOnly_refl _ _
  unfold clearMotor
  dsimp only
  split
  · exact regsOnly_trans hstop (regsOnly_of_regs rfl)
  · exact hstop

end

end Sys2Proof.Machine
end

section
/-! R26, R73, R74, R117, R120, R295, R320, R326, R327, R332, R509: the writes of one register of the plant (O42). -/

namespace Sys2Proof.Machine

open Sys2Proof Sys2Proof.Safety

/-- What a refused write leaves: its reply. -/
def WriteRefused (h : Hdr) (st : Status) (s t : State) : Prop :=
  Answers h st 0 [] s t ∧ ChangesOnly [.outbox, .regs, .vcp] s t ∧ RegsOnly [] s t

/-! ### Conditions in their order -/

section
variable {a b : Bool} {x y : Status} {f : State → State}

theorem judged_ok (ha : a = true) : judged (firstFail [(a, x)]) f = .ok f := by simp [judged, firstFail, ha]

theorem judged_ok_two (ha : a = true) (hb : b = true) : judged (firstFail [(a, x), (b, y)]) f = .ok f := by simp [judged, firstFail, ha, hb]

theorem judged_refuse (ha : a = false) (l : List (Bool × Status)) : judged (firstFail ((a, x) :: l)) f = .refuse x := by
  simp [judged, firstFail, ha]

theorem judged_refuse_second (ha : a = true) (hb : b = false) (l : List (Bool × Status)) :
    judged (firstFail ((a, x) :: (b, y) :: l)) f = .refuse y := by simp [judged, firstFail, ha, hb]

end

section
variable {h : Hdr} {e : Session} {s : State} {v : Word}

/-! ### LOOP_OUT (R73) -/

section
variable {l : Nat} (hl : l < 5) (hu : h.unit.toNat = U.loop l) (hs : Served (writeOp (U.loop l) Off.loopOut 1) h e s)
  (hres : ∀ r, findReg (U.loop l) Off.loopOut = some r → v &&& r.reserved = 0)
include hl hu hs hres

theorem loopOutWrite_done (hd : deadlineMissed h (nextFrame s) s.now = false) (hin : inService s = true) (hout : outOk s l (fld v 15 0) = true)
    (hfree : (s.loop l).holders = []) :
    WriteDone h s (writeOut l (oneWrite h e (U.loop l) Off.loopOut v) (touch h e.id s)) (registerWriteAt h Off.loopOut v s) := by
  have hheld : (inService s && (s.loop l).holders.isEmpty) = true := by simp [hin, hfree]
  exact registerWriteAt_done hu hs hd (fun hne => absurd hne.2 (by decide)) ((judgeWrite_loopOut hl hres _).trans (judged_ok_two hheld hout))

theorem loopOutWrite_held (hheld : (s.loop l).holders ≠ []) :
    WriteRefused h .denied s (registerWriteAt h Off.loopOut v s) := by
  have hno : (inService s && (s.loop l).holders.isEmpty) = false := by simp [hheld]
  exact registerWriteAt_refuse hu hs ((judgeWrite_loopOut hl hres _).trans (judged_refuse hno _))

end

/-- R73: what an accepted manual output leaves of the loops, the racks' valves and the pumps. -/
theorem writeOut_spec {l : Nat} {w : Write} {t : State} (hw : WriteDone h s (writeOut l w (touch h e.id s)) t) :
    (t.loop l).manual = true ∧ (∀ j, j ≠ l → t.loop j = s.loop j) ∧ (∀ j, (t.loop j).out = (s.loop j).out)
      ∧ (l ≠ 4 → (t.loop l).target = fld w.value 15 0 * outUnit)
      ∧ (l = 2 → ∀ r, r < 16 → (t.rack r).target = fld w.value 15 0 * outUnit ∧ (t.rack r).pos = (s.rack r).pos)
      ∧ (l = 4 → ∀ p, p < 8 → pumpDuty t p = (fld w.value 15 0).testBit p) := by
  have hplant := hw.parts .plant (by simp)
  have hbroker := hw.parts .broker (by simp)
  have hloop : ∀ j, t.loop j = if j = l then
      { s.loop l with manual := true, target := if l = 4 then (s.loop l).target else fld w.value 15 0 * outUnit } else s.loop j :=
    fun j => (State.loop_congr hplant j).trans (writeOut_loop l w (touch h e.id s) j)
  refine ⟨?_, fun j hj => (hloop j).trans (if_neg hj), fun j => ?_, fun h4 => ?_, fun h2 r hr => ?_, fun h4 p hp => ?_⟩
  · rw [hloop, if_pos rfl]
  · rw [hloop]
    split
    next hj => rw [hj]
    next => rfl
  · rw [hloop, if_pos rfl]
    exact if_neg h4
  · subst h2
    rw [State.rack_congr hbroker]
    exact writeOut_rack w (touch h e.id s) hr
  · subst h4
    rw [pumpDuty, State.pump_congr hplant]
    exact writeOut_pumpDuty w _ hp

/-! ### AO_OUT (R327) -/

section
variable {i : Nat} (hi : i < 16) (hu : h.unit.toNat = U.ao i) (hs : Served (writeOp (U.ao i) Off.aoOut 1) h e s)
  (hres : ∀ r, findReg (U.ao i) Off.aoOut = some r → v &&& r.reserved = 0)
include hi hu hs hres

theorem aoOutWrite_done (hd : deadlineMissed h (nextFrame s) s.now = false) (hin : inService s = true)
    (hcfg : 3 < s.fldOf (U.ao i) Off.aoCfg 15 8) (hv : fld v 15 0 ≤ 10000) :
    WriteDone h s (writeDemand i (oneWrite h e (U.ao i) Off.aoOut v) (touch h e.id s)) (registerWriteAt h Off.aoOut v s) := by
  have hfree : (inService s && decide (3 < s.fldOf (U.ao i) Off.aoCfg 15 8)) = true := by simp [hin, hcfg]
  exact registerWriteAt_done hu hs hd (fun hne => absurd hne.2 (by decide))
    ((judgeWrite_aoOut hi hres _).trans (judged_ok_two hfree (decide_eq_true hv)))

theorem aoOutWrite_denied (hno : inService s = false ∨ s.fldOf (U.ao i) Off.aoCfg 15 8 ≤ 3) :
    WriteRefused h .denied s (registerWriteAt h Off.aoOut v s) := by
  have hfree : (inService s && decide (3 < s.fldOf (U.ao i) Off.aoCfg 15 8)) = false := by
    obtain hin | hcfg := hno
    · simp [hin]
    · simp [hcfg]
  exact registerWriteAt_refuse hu hs ((judgeWrite_aoOut hi hres _).trans (judged_refuse hfree _))

end

/-- R327: what an accepted manual demand leaves of the outputs. -/
theorem writeDemand_spec {i : Nat} {w : Write} {t : State} (hw : WriteDone h s (writeDemand i w (touch h e.id s)) t) (j : Nat) :
    t.analog j = if j = i then { s.analog i with demand := fld w.value 15 0 } else s.analog j :=
  (State.analog_congr (hw.parts .analogs (by simp)) j).trans (writeDemand_analog i j w (touch h e.id s))

/-! ### BEACON_CTRL (R120) -/

section
variable {r : Nat} (hr : r < 16) (hu : h.unit.toNat = U.beacon r) (hs : Served (writeOp (U.beacon r) Off.beaconCtrl 1) h e s)
  (hres : ∀ q, findReg (U.beacon r) Off.beaconCtrl = some q → v &&& q.reserved = 0)
include hr hu hs hres

theorem beaconCtrlWrite_done (hd : deadlineMissed h (nextFrame s) s.now = false) (hin : inService s = true) :
    WriteDone h s (writeBeacon r (beaconWrite e (originOf h e) v r) (touch h e.id s)) (registerWriteAt h Off.beaconCtrl v s) :=
  registerWriteAt_done hu hs hd (fun hne => absurd hne.2 (by decide))
    ((judgeWrite_beaconCtrl hr hres _).trans (judged_ok (a := inService (touch h e.id s)) hin))

theorem beaconCtrlWrite_denied (hin : inService s = false) : WriteRefused h .denied s (registerWriteAt h Off.beaconCtrl v s) :=
  registerWriteAt_refuse hu hs ((judgeWrite_beaconCtrl hr hres _).trans (judged_refuse (a := inService (touch h e.id s)) hin []))

end

/-- R120: what an accepted manual Beacon leaves of its register. -/
theorem writeBeacon_spec {r : Nat} (hr : r < 16) {t : State}
    (hw : WriteDone h s (writeBeacon r (beaconWrite e (originOf h e) v r) (touch h e.id s)) t) : t.reg (U.beacon r) Off.beaconCtrl = v := by
  have hrep : (U.beacon r, Off.beaconCtrl) ∉ reportRegs := not_report_of_unit (by simp only [U.beacon, U.log]; omega) (by simp [U.beacon]) _
  rw [hw.reg (by decide) hrep, writeBeacon_reg hr _ hrep (by decide)]
  exact if_pos rfl

/-! ### LOOP_PUMP_RESTORE (R509) -/

section
variable (hu : h.unit.toNat = U.loop 4) (hs : Served (writeOp (U.loop 4) Off.loopPumpRestore 1) h e s)
  (hres : ∀ r, findReg (U.loop 4) Off.loopPumpRestore = some r → v &&& r.reserved = 0)
  (hpath : pumpPath s (fld v 2 0) = true) (htrip : (s.pump (fld v 2 0)).tripped = true)
include hu hs hres hpath htrip

theorem pumpRestore_done (hd : deadlineMissed h (nextFrame s) s.now = false) (hok : pathFaulted s (fld v 2 0) = false) :
    WriteDone h s (restorePump (fld v 2 0) (touch h e.id s)) (registerWriteAt h Off.loopPumpRestore v s) := by
  have hpump : (pumpPath s (fld v 2 0) && (s.pump (fld v 2 0)).tripped) = true := by simp [hpath, htrip]
  have hclear : (!pathFaulted s (fld v 2 0)) = true := by simp [hok]
  exact registerWriteAt_done hu hs hd (by decide) ((judgeWrite_loopPumpRestore hres _).trans (judged_ok_two hpump hclear))

theorem pumpRestore_faulted (hbad : pathFaulted s (fld v 2 0) = true) :
    WriteRefused h .denied s (registerWriteAt h Off.loopPumpRestore v s) := by
  have hpump : (pumpPath s (fld v 2 0) && (s.pump (fld v 2 0)).tripped) = true := by simp [hpath, htrip]
  have hno : (!pathFaulted s (fld v 2 0)) = false := by simp [hbad]
  exact registerWriteAt_refuse hu hs ((judgeWrite_loopPumpRestore hres _).trans (judged_refuse_second hpump hno []))

end

/-- R509: what a restored pump leaves of the pumps. -/
theorem restorePump_spec {p : Nat} {t : State} (hw : WriteDone h s (restorePump p (touch h e.id s)) t) (q : Nat) :
    t.pump q = if q = p then restored (if (reservePump s).isSome then .idle else .reserve) (s.pump p) else s.pump q :=
  (State.pump_congr (hw.parts .plant (by simp)) q).trans (restorePump_pump p (touch h e.id s) q)

/-! ### CAP_RACK_CFG (R74) -/

theorem rackCfgWrite_done {rack : Fin 16} (hu : h.unit.toNat = U.cap) (hs : Served (writeOp U.cap (Off.capRackCfg + 0x20 * rack.val) 1) h e s)
    (hres : ∀ r, findReg U.cap (Off.capRackCfg + 0x20 * rack.val) = some r → v &&& r.reserved = 0)
    (hd : deadlineMissed h (nextFrame s) s.now = false) (hcom : commissioning s = true) (hok : rackCfgOk s rack.val v = true) :
    WriteDone h s (writeRackCfg rack.val (oneWrite h e U.cap (Off.capRackCfg + 0x20 * rack.val) v) (touch h e.id s))
      (registerWriteAt h (Off.capRackCfg + 0x20 * rack.val) v s) := by
  have hoff : Off.capRackCfg + 0x20 * rack.val ≠ Off.leakRelease := show 0x100 + 0x20 * rack.val ≠ 0x018 by omega
  exact registerWriteAt_done hu hs hd (fun hne => hoff hne.2) ((judgeWrite_rackCfg hres _).trans (judged_ok_two hcom hok))

/-- R74: what an accepted rating and floor leaves of the racks. -/
theorem writeRackCfg_spec {r : Nat} {w : Write} {t : State} (hw : WriteDone h s (writeRackCfg r w (touch h e.id s)) t) :
    (t.rack r).cap = capInside s r w.value ∧ ∀ j, j ≠ r → t.rack j = s.rack j := by
  have hrack := State.rack_congr (hw.parts .broker (by simp))
  obtain ⟨hcap, hother⟩ := writeRackCfg_rack (r := r) (w := w) (touch h e.id s)
  exact ⟨(congrArg Rack.cap (hrack r)).trans hcap, fun j hj => (hrack j).trans (hother j hj)⟩

/-! ### SNS_CAL (R326) -/

section
variable {i : Nat} (hi : i < 64) (hu : h.unit.toNat = U.sns i) (hs : Served (writeOp (U.sns i) Off.snsCal 1) h e s)
  (hres : ∀ r, findReg (U.sns i) Off.snsCal = some r → v &&& r.reserved = 0) (hd : deadlineMissed h (nextFrame s) s.now = false)
  (hper : fld v 31 16 = 0 ∨ 60 ≤ fld v 31 16)
include hi hu hs hres hd hper

theorem calNow_done : WriteDone h s (writeCal i v (touch h e.id s)) (registerWriteAt h Off.snsCal v s) := by
  have hperiod : (decide (fld v 31 16 = 0) || decide (60 ≤ fld v 31 16)) = true := by simpa using hper
  exact registerWriteAt_done hu hs hd (fun hne => absurd hne.2 (by decide)) ((judgeWrite_snsCal hi hres _).trans (judged_ok hperiod))

/-- R326: the input is queued for its calibration. -/
theorem calNow_queues (hb : bitOf v 0 = true) (hty : between 1 8 (snsType s i) = true) (hfree : (s.sense i).calQueued = none) :
    WriteDone h s ((writeConfig (U.sns i) Off.snsCal (clrBit v 0) (touch h e.id s)).modSense i (fun x => { x with calQueued := some s.now }))
      (registerWriteAt h Off.snsCal v s) :=
  writeCal_queued hi v (touch h e.id s) hb hty hfree ▸ calNow_done hi hu hs hres hd hper

omit hu hs hres hd hper in
/-- R326: what a queued calibration leaves of the inputs. -/
theorem calQueued_spec {w : Word} {t : State}
    (hw : WriteDone h s ((writeConfig (U.sns i) Off.snsCal w (touch h e.id s)).modSense i (fun x => { x with calQueued := some s.now })) t) (j : Nat) :
    t.sense j = if j = i then { s.sense i with calQueued := some s.now } else s.sense j := by
  have hconf := State.sense_congr (writeConfig_sns_changesOnly hi Off.snsCal w (touch h e.id s) .senses (by simp))
  rw [State.sense_congr (hw.parts .senses (by simp)), State.sense_modSense, hconf, hconf]
  rfl

/-- R326: an input without a calibration, or queued already, only has its register written. -/
theorem calNow_stores (hno : bitOf v 0 = false ∨ between 1 8 (snsType s i) = false ∨ (s.sense i).calQueued.isSome = true) :
    WriteDone h s (writeConfig (U.sns i) Off.snsCal (clrBit v 0) (touch h e.id s)) (registerWriteAt h Off.snsCal v s) :=
  writeCal_stored hi v (touch h e.id s) hno ▸ calNow_done hi hu hs hres hd hper

end

/-! ### VLV_EVENTS (R295) and MOT_EVENTS (R320, R332) -/

section
variable {c : Nat} (hc : c < 96) (hu : h.unit.toNat = U.vlv c) (hs : Served (writeOp (U.vlv c) Off.vlvEvents 1) h e s)
  (hres : ∀ r, findReg (U.vlv c) Off.vlvEvents = some r → v &&& r.reserved = 0) (hbits : bitOf v 0 = true ∨ bitOf v 8 = true)
include hc hu hs hres hbits

theorem tripClear_done (hd : deadlineMissed h (nextFrame s) s.now = false) (hin : inService s = true) :
    WriteDone h s (clearTrip c (oneWrite h e (U.vlv c) Off.vlvEvents v) (touch h e.id s)) (registerWriteAt h Off.vlvEvents v s) :=
  registerWriteAt_done hu hs hd (fun hne => absurd hne.2 (by decide))
    ((judgeWrite_vlvEvents hc hres hbits _).trans (judged_ok (a := inService (touch h e.id s)) hin))

theorem tripClear_denied (hin : inService s = false) : WriteRefused h .denied s (registerWriteAt h Off.vlvEvents v s) :=
  registerWriteAt_refuse hu hs ((judgeWrite_vlvEvents hc hres hbits _).trans (judged_refuse (a := inService (touch h e.id s)) hin []))

end

/-- R295: what the end of a trip leaves of the valves. -/
theorem clearTrip_spec {c : Nat} {w : Write} {t : State} (hw : WriteDone h s (clearTrip c w (touch h e.id s)) t) (j : Nat) :
    t.valve j = if j = c then { s.valve c with tripped := false } else s.valve j :=
  (State.valve_congr (hw.parts .valves (by simp)) j).trans (State.valve_modValve (clearEvents w (touch h e.id s)) c j _)

theorem motEventsWrite_done {c : Nat} (hc : c < 48) (hu : h.unit.toNat = U.mot c) (hs : Served (writeOp (U.mot c) Off.motEvents 1) h e s)
    (hres : ∀ r, findReg (U.mot c) Off.motEvents = some r → v &&& r.reserved = 0) (hd : deadlineMissed h (nextFrame s) s.now = false)
    (hin : inService s = true) :
    WriteDone h s (clearMotor c v (clearEvents (oneWrite h e (U.mot c) Off.motEvents v) (touch h e.id s))) (registerWriteAt h Off.motEvents v s) :=
  registerWriteAt_done hu hs hd (fun hne => absurd hne.2 (by decide)) (judgeWrite_motEvents hc hres hin)

/-- R7: the cleared events, and what else clearing them leaves. -/
theorem motEventsWrite_spec {c : Nat} (hc : c < 48) {t : State}
    (hw : WriteDone h s (clearMotor c v (clearEvents (oneWrite h e (U.mot c) Off.motEvents v) (touch h e.id s))) t) :
    t.reg (U.mot c) Off.motEvents = s.reg (U.mot c) Off.motEvents &&& ~~~ v
      ∧ ChangesOnly [.log, .motors, .outbox, .regs, .vcp] s t ∧ RegsOnly [(U.mot c, Off.motEvents)] s t := by
  have hclear : ChangesOnly [.regs] (touch h e.id s) (clearEvents (oneWrite h e (U.mot c) Off.motEvents v) (touch h e.id s)) :=
    setReg_changesOnly _ _ _ _
  have hclearRegs : RegsOnly [(U.mot c, Off.motEvents)] (touch h e.id s) (clearEvents (oneWrite h e (U.mot c) Off.motEvents v) (touch h e.id s)) :=
    setReg_regsOnly (by decide) _ _
  have hrep := mot_not_report hc Off.motEvents
  refine ⟨?_, hw.changesOnly (changesOnly_trans (changesOnly_mono hclear (by simp)) (changesOnly_mono (clearMotor_changesOnly c v _) (by simp))),
    hw.regsOnly (regsOnly_trans hclearRegs (regsOnly_nil (clearMotor_regsOnly c v _)))⟩
  rw [hw.reg (by decide) hrep, clearMotor_regsOnly c v _ (U.mot c) Off.motEvents (by decide) (by simp) hrep]
  exact clearEvents_reg (oneWrite h e (U.mot c) Off.motEvents v) (touch h e.id s)

end

/-- Settles O42, write by write: each has a judgement by its own rule, an effect, and a reply that changes nothing else. -/
theorem plantRegistersWritten : Obligations.PlantRegistersWritten := by
  intro h v e s hd at_ ok refused
  refine ⟨?hwPanel, ?loopOut, ?analogOut, ?beacon, ?pumpRestore, ?leakAsked, ?leakJudged, ?rackCfg,
    ?calNow, ?calStored, ?tripClear, ?motorEvents⟩
  case hwPanel =>
    rintro ⟨hu, hs, hres⟩
    have hw := hwPanelWrite_done hu hs hres hd
    have hbit : (registerWriteAt h Off.hwPanel v s).bitAt U.sys Off.hwPanel 0 = bitOf v 0 :=
      (congrArg (bitOf · 0) (hw.reg (by decide) hwPanel_not_report)).trans (setLocate_bitAt 2 (bitOf v 0) (touch h e.id s))
    exact ⟨_, ⟨rfl, hw.answers⟩, hbit, hw.changesOnly (setLocate_changesOnly _ _ _), hw.regsOnly (setLocate_regsOnly _ _ _)⟩
  case loopOut =>
    rintro l hl ⟨hu, hs, hres⟩ hin hout
    refine ⟨fun hfree => ?_, fun hheld => ⟨_, rfl, loopOutWrite_held hl hu hs hres hheld⟩⟩
    have hw := loopOutWrite_done hl hu hs hres hd hin hout hfree
    obtain ⟨hmanual, hother, hsame, htarget, hracks, hduty⟩ := writeOut_spec hw
    exact ⟨_, ⟨rfl, hw.answers⟩, hmanual, hother, hsame, htarget, hracks, hduty, hw.changesOnly (writeOut_changesOnly _ _ _)⟩
  case analogOut =>
    rintro i hi ⟨hu, hs, hres⟩
    refine ⟨fun hin hcfg hv => ?_, fun hno => ⟨_, rfl, aoOutWrite_denied hi hu hs hres hno⟩⟩
    have hw := aoOutWrite_done hi hu hs hres hd hin hcfg hv
    exact ⟨_, ⟨rfl, hw.answers⟩, (writeDemand_spec hw i).trans (if_pos rfl), fun j hj => (writeDemand_spec hw j).trans (if_neg hj),
      hw.changesOnly (changesOnly_mono (writeDemand_changesOnly _ _ _) (by simp)), hw.regsOnly (writeDemand_regsOnly _ _ _)⟩
  case beacon =>
    rintro r hr ⟨hu, hs, hres⟩
    refine ⟨fun hin => ?_, fun hin => ⟨_, rfl, beaconCtrlWrite_denied hr hu hs hres hin⟩⟩
    have hw := beaconCtrlWrite_done hr hu hs hres hd hin
    exact ⟨_, ⟨rfl, hw.answers⟩, writeBeacon_spec hr hw,
      hw.changesOnly (changesOnly_mono (writeBeacon_changesOnly hr _) (by simp)), hw.regsOnly (writeBeacon_regsOnly hr _)⟩
  case pumpRestore =>
    rintro p rfl ⟨hu, hs, hres⟩ hpath htrip
    refine ⟨fun hclear => ?_, fun hbad => ⟨_, rfl, pumpRestore_faulted hu hs hres hpath htrip hbad⟩⟩
    have hw := pumpRestore_done hu hs hres hpath htrip hd hclear
    have hpump := (restorePump_spec hw (fld v 2 0)).trans (if_pos rfl)
    exact ⟨_, ⟨rfl, hw.answers⟩, congrArg Pump.tripped hpump, congrArg Pump.use hpump, fun q hq => (restorePump_spec hw q).trans (if_neg hq),
      hw.changesOnly (restorePump_changesOnly _ _), hw.regsOnly (restorePump_regsOnly _ _)⟩
  case leakAsked =>
    rintro ⟨hu, hs, hres⟩
    have hasked : exec (.leakRelease h v) s = .next (askRelease h v (touch h e.id s)) :=
      congrArg Host.Outcome.next (leakRelease_waits hu hs hres)
    refine ⟨_, hasked, rfl, rfl, fun p hp => ?_⟩
    cases p <;> simp [Part.Same, askRelease] at hp ⊢
  case leakJudged =>
    rintro r rfl hask hs hdl
    refine ⟨fun hr => ?_, judgeReleases_denied hask hs⟩
    obtain ⟨hans, hrack, hisolated, hvalves⟩ := judgeReleases_released hask hs hdl hr
    have hself := (hrack (fld v 3 0)).trans (if_pos rfl)
    have hother : ∀ j, j ≠ fld v 3 0 → (judgeReleases s).rack j = s.rack j := fun j hj => (hrack j).trans (if_neg hj)
    exact ⟨hans, congrArg Rack.stage hself, congrArg Rack.leak hself, hisolated, hvalves,
      fun j hj => ⟨congrArg Rack.stage (hother j hj), congrArg Rack.cap (hother j hj)⟩⟩
  case rackCfg =>
    rintro rack ⟨hu, hs, hres⟩ hcom hok
    have hw := rackCfgWrite_done hu hs hres hd hcom hok
    have hlt : Off.capRackCfg + 0x20 * rack.val < 0x1000 := show 0x100 + 0x20 * rack.val < 0x1000 by omega
    obtain ⟨hregs, hval⟩ := writeRackCfg_regs (r := rack.val) (w := oneWrite h e U.cap _ v) rfl (touch h e.id s) hlt
    obtain ⟨hcap, hother⟩ := writeRackCfg_spec hw
    exact ⟨_, ⟨rfl, hw.answers⟩, (hw.reg hlt (not_report_of_unit (by decide) (by decide) _)).trans hval, hcap, hother,
      hw.changesOnly (writeRackCfg_changesOnly rfl _), hw.regsOnly hregs⟩
  case calNow =>
    rintro i hi ⟨hu, hs, hres⟩ hb hper hty hfree
    have hw := calNow_queues hi hu hs hres hd hper hb hty hfree
    have hconf := writeConfig_sns_changesOnly hi Off.snsCal (clrBit v 0) (touch h e.id s)
    have hsense := calQueued_spec hi hw
    exact ⟨_, ⟨rfl, hw.answers⟩, (hsense i).trans (if_pos rfl),
      (hw.reg (by decide) (sns_not_report hi _)).trans (writeConfig_sns_reg hi Off.snsCal (clrBit v 0) (touch h e.id s)),
      fun j hj => (hsense j).trans (if_neg hj), hw.changesOnly (changesOnly_trans (changesOnly_mono hconf (by simp)) (changesOnly_mono (modSense_changesOnly _ _ _) (by simp))),
      hw.regsOnly (regsOnly_trans (writeConfig_sns_regsOnly hi Off.snsCal _ _ (by decide)) (regsOnly_of_regs rfl))⟩
  case calStored =>
    rintro i hi ⟨hu, hs, hres⟩ hno hper
    have hw := calNow_stores hi hu hs hres hd hper hno
    exact ⟨_, ⟨rfl, hw.answers⟩,
      (hw.reg (by decide) (sns_not_report hi _)).trans (writeConfig_sns_reg hi Off.snsCal (clrBit v 0) (touch h e.id s)),
      hw.changesOnly (changesOnly_mono (writeConfig_sns_changesOnly hi _ _ _) (by simp)),
      hw.regsOnly (writeConfig_sns_regsOnly hi Off.snsCal _ _ (by decide))⟩
  case tripClear =>
    rintro c hc ⟨hu, hs, hres⟩ hbits
    refine ⟨fun hin => ?_, fun hin => ⟨_, rfl, tripClear_denied hc hu hs hres hbits hin⟩⟩
    have hw := tripClear_done hc hu hs hres hbits hd hin
    exact ⟨_, ⟨rfl, hw.answers⟩, (clearTrip_spec hw c).trans (if_pos rfl),
      (hw.reg (by decide) (vlv_not_report hc _)).trans (clearEvents_reg (oneWrite h e (U.vlv c) Off.vlvEvents v) (touch h e.id s)),
      fun j hj => (clearTrip_spec hw j).trans (if_neg hj), hw.changesOnly (clearTrip_changesOnly _ _),
      hw.regsOnly (setReg_regsOnly (by decide) _ _)⟩
  case motorEvents =>
    rintro c hc ⟨hu, hs, hres⟩ hin
    have hw := motEventsWrite_done hc hu hs hres hd hin
    obtain ⟨hreg, hparts, hregs⟩ := motEventsWrite_spec hc hw
    have hmotors := State.motor_congr (hw.parts .motors (by simp))
    refine ⟨fun h7 h6 hst => ?_, fun h6 h7 => ?_⟩
    · obtain ⟨hstop, hfail, htarget, hother⟩ := clearMotor_restarts_motor c v
        (clearEvents (oneWrite h e (U.mot c) Off.motEvents v) (touch h e.id s)) h7 h6 hst
      exact ⟨_, ⟨rfl, hw.answers⟩, (congrArg Motor.st (hmotors c)).trans hstop, (congrArg Motor.failures (hmotors c)).trans hfail,
        (congrArg Motor.target (hmotors c)).trans htarget, hreg, fun j hj => (hmotors j).trans (hother j hj), hparts, hregs⟩
    · have hmotor := fun j => (hmotors j).trans (clearMotor_encoder_motor c v
        (clearEvents (oneWrite h e (U.mot c) Off.motEvents v) (touch h e.id s)) h6 h7 j)
      exact ⟨_, ⟨rfl, hw.answers⟩, (hmotor c).trans (if_pos rfl), hreg, fun j hj => (hmotor j).trans (if_neg hj), hparts, hregs⟩

end Sys2Proof.Machine
end

section
/-! R61, Table 3-6: what commands to the pumps leave of the plant, and the staging of the pumps. -/

namespace Sys2Proof.Machine

open Sys2Proof Sys2Proof.Safety

/-! ### The plant after an event -/

@[simp] theorem loop_setEvent (s : State) (u off i l : Nat) : (s.setEvent u off i).loop l = s.loop l := rfl
@[simp] theorem pump_setEvent (s : State) (u off i p : Nat) : (s.setEvent u off i).pump p = s.pump p := rfl
@[simp] theorem row_setEvent (s : State) (u off i : Nat) (r : ReflexRow) : (s.setEvent u off i).row r = s.row r := rfl
@[simp] theorem rack_setEvent (s : State) (u off i r : Nat) : (s.setEvent u off i).rack r = s.rack r := rfl

/-! ### The pumps a speed command reaches -/

section
variable (source p : Nat) (speed : Int) (s : State)

theorem sendSpeed_pump (p : Nat) (s : State) (q : Nat) :
    (sendSpeed p s).pump q = if q = p then { s.pump p with sentAt := some s.now } else s.pump q :=
  State.pump_setPump ..

/-- Of the plant nothing but its pumps changes. -/
def PumpsOnly (s t : State) : Prop := ∃ m, t.plant = { s.plant with pumps := m }

theorem PumpsOnly.loop {s t : State} (h : PumpsOnly s t) (l : Nat) : t.loop l = s.loop l := by
  obtain ⟨m, hm⟩ := h
  simp [State.loop, hm]

theorem PumpsOnly.row {s t : State} (h : PumpsOnly s t) (r : ReflexRow) : t.row r = s.row r := by
  obtain ⟨m, hm⟩ := h
  simp [State.row, hm]

theorem PumpsOnly.trans {s t u : State} (h : PumpsOnly s t) (k : PumpsOnly t u) : PumpsOnly s u := by
  obtain ⟨m, hm⟩ := h
  obtain ⟨n, hn⟩ := k
  exact ⟨n, by rw [hn, hm]⟩

theorem PumpsOnly.of_plant {s t : State} (h : t.plant = s.plant) : PumpsOnly s t := ⟨s.plant.pumps, h⟩

/-- A speed command writes the pumps and nothing else of the plant. -/
theorem pumpSpeed_pumpsOnly : PumpsOnly s (pumpSpeed source p speed s) := by
  unfold pumpSpeed
  dsimp only
  split
  · exact ⟨_, motorCommanded_plant ..⟩
  · split
    · exact ⟨_, rfl⟩
    · exact ⟨_, rfl⟩

theorem pumpSpeed_pump_other {q : Nat} (h : q ≠ p) : (pumpSpeed source p speed s).pump q = s.pump q := by
  unfold pumpSpeed
  dsimp only
  split
  · rw [State.pump_congr (motorCommanded_plant ..)]
    simp [h]
  · split <;> simp [sendSpeed_pump, h]

theorem pumpSpeed_speed : ((pumpSpeed source p speed s).pump p).speed = speed := by
  unfold pumpSpeed
  dsimp only
  split
  · rw [State.pump_congr (motorCommanded_plant ..)]
    simp
  · split <;> simp [sendSpeed_pump]

end

theorem setUse_plant_congr (p : Nat) (u : PumpUse) (a b : State) (h : a.plant = b.plant) : (setUse p u a).plant = (setUse p u b).plant := by
  simp [setUse, State.modPump, State.setPump, State.pump, h]

theorem stageUse_plant (source p : Nat) (u : PumpUse) (s : State) : (stageAction source (setUse p u) s).plant = (setUse p u s).plant :=
  stageAction_plant_eq source (setUse_plant_congr p u) s

theorem modPump_pumpsOnly (p : Nat) (g : Pump → Pump) (s : State) : PumpsOnly s (s.modPump p g) := ⟨_, rfl⟩

theorem stageUse_pumpsOnly (source p : Nat) (u : PumpUse) (s : State) : PumpsOnly s (stageAction source (setUse p u) s) :=
  ⟨_, stageUse_plant source p u s⟩

section
variable (source p : Nat) (s : State)

theorem joinDuty_pumpsOnly : PumpsOnly s (joinDuty source p s) := by
  unfold joinDuty
  exact ((stageUse_pumpsOnly source p .duty s).trans (modPump_pumpsOnly p _ _)).trans (pumpSpeed_pumpsOnly _ _ _ _)

theorem joinDuty_pump_other {q : Nat} (h : q ≠ p) : (joinDuty source p s).pump q = s.pump q := by
  unfold joinDuty
  rw [pumpSpeed_pump_other _ _ _ _ h]
  simp [h, State.pump_congr (stageUse_plant source p .duty s), setUse]

theorem joinDuty_speed : ((joinDuty source p s).pump p).speed = (s.loop 0).out := by
  unfold joinDuty
  rw [pumpSpeed_speed, State.loop_congr (stageUse_plant source p .duty s)]
  simp [setUse, State.loop, State.modPump, State.setPump]

theorem joinDuty_changesOnly : ChangesOnly [.log, .motors, .outbox, .plant, .regs, .vcp] s (joinDuty source p s) := by
  intro q hq
  cases q <;> simp [Part.Same, joinDuty_frame] at hq ⊢

theorem leaveDuty_changesOnly (use : PumpUse) : ChangesOnly [.log, .outbox, .plant, .regs] s (leaveDuty source p use s) := by
  intro q hq
  cases q <;> simp [Part.Same, leaveDuty_frame] at hq ⊢

theorem leaveDuty_pump (use : PumpUse) (q : Nat) :
    (leaveDuty source p use s).pump q = if q = p then leftDuty use (s.pump p) else s.pump q := by
  rw [State.pump_congr (leaveDuty_plant source p s use), State.pump_modPump]

theorem leaveDuty_loop (use : PumpUse) (l : Nat) : (leaveDuty source p use s).loop l = s.loop l := by
  rw [State.loop_congr (leaveDuty_plant source p s use)]
  simp [State.loop, State.modPump, State.setPump]

/-- A stage change whose `change` writes the plant alone leaves registers to reporting. -/
theorem stageAction_regsOnly {change : State → State} (hc : ∀ a, (change a).regs = a.regs) :
    RegsOnly [] s (stageAction source change s) := by
  intro u off ho _ hrep
  unfold stageAction
  rw [State.reg_congr (hc _)]
  exact logAction_reg hrep ho ..

theorem leaveDuty_regsOnly (use : PumpUse) : RegsOnly [] s (leaveDuty source p use s) :=
  stageAction_regsOnly source s (fun _ => rfl)

end

/-! ### The duty pump that a measure puts first -/

/-- What the search of `mostOf` keeps is its start or a pump it has passed. -/
theorem mostOf_mem (s : State) (f : Pump → Nat) (l : List Nat) (a : Option Nat) {q : Nat}
    (h : l.foldl (fun a p => match a with
      | none => some p
      | some q => if f (s.pump q) < f (s.pump p) then some p else some q) a = some q) : a = some q ∨ q ∈ l := by
  induction l generalizing a with
  | nil => exact .inl h
  | cons p l ih =>
    rcases ih _ h with hq | hq
    · cases a with
      | none => exact .inr (by simp_all)
      | some r =>
        dsimp only at hq
        split at hq
        · exact .inr (by simp_all)
        · exact .inl hq
    · exact .inr (List.mem_cons_of_mem _ hq)

theorem mostOf_use {s : State} {f : Pump → Nat} {q : Nat} (h : mostOf s f = some q) : (s.pump q).use = .duty := by
  rcases mostOf_mem s f _ none h with hq | hq
  · cases hq
  · simpa [pumpDuty] using (List.mem_filter.mp hq).2

theorem reservePump_use {s : State} {p : Nat} (h : reservePump s = some p) : (s.pump p).use = .reserve := by
  simpa using List.find?_some h

/-! ### Decisions of staging (R67) -/

theorem decideStaging_cons {s : State} {r : LegRec} {l : List LegRec} (h : s.seqr.legs = r :: l) (d : Machine.Staging) :
    decideStaging d s = { s with seqr.legs := { r with staging := r.staging ++ [d] } :: l } := by
  unfold decideStaging
  rw [h]

theorem exec_rotationSwap {s : State} {p : Nat} (hp : s.plant.rotating = some p) (huse : (s.pump p).use = .reserve)
    (hrun : stagingRuns s = true) (hnone : ∀ x ∈ s.seqr.legs, Machine.Staging.swap ∉ x.staging)
    (hnear : (pumpActual s p - (s.loop 0).out).natAbs ≤ (50 * outUnit).natAbs) :
    exec .rotationSwap s = .next (decideStaging .swap s) := by
  have hwaits : stagingWaits s (fun d => decide (d = .swap)) = false := by
    simp only [stagingWaits, List.any_eq_false, List.any_eq_true, decide_eq_true_eq, not_exists, not_and]
    rintro x hx d hd rfl
    exact hnone x hx hd
  show execRotationSwap s = _
  unfold execRotationSwap
  rw [hp]
  exact (if_neg (not_not_intro huse)).trans (if_pos ⟨hrun, hwaits, hnear⟩)

/-! ### What a decision does with the results of its leg -/

/-- The timers of staging restart with a stage-up (Table 3-6). -/
def restartFast (s : State) : State := { s with plant.fastSince := some s.now }
/-- They restart with a stage-down. -/
def restartSlow (s : State) : State := { s with plant.slowSince := some s.now }
/-- The rotation ends and its counter restarts. -/
def endRotating (s : State) : State := { s with plant := { s.plant with rotating := none, rotRun := 0 } }
/-- The reserve p runs up for a rotation. -/
def runUp (p : Nat) (s : State) : State := { (s.modPump p (fun k => { k with starting := true, sinceRest := 0 })) with plant.rotating := some p }
/-- The reserve p has joined the duty set at the exchange. -/
def exchanged (p : Nat) (s : State) : State := (stageAction 4 (setUse p .duty) (endRotating s)).modPump p (fun k => { k with starting := false })

theorem stageUp_joins (source : Nat) {p : Nat} {s : State} (hp : idlePump s = some p) :
    stageUp source s = (joinDuty source p s).modLoop 0 (fun k => { k with capacityBound := false }) := by
  unfold stageUp
  rw [hp]

/-- Without an idle pump a stage-up sets CAPACITY_BOUND and moves no pump. -/
theorem stageUp_bounds (source : Nat) {s : State} (hp : idlePump s = none) :
    ((stageUp source s).loop 0).capacityBound = true ∧ ∀ q, (stageUp source s).pump q = s.pump q := by
  unfold stageUp
  rw [hp]
  dsimp only
  split
  next hbound => exact ⟨hbound, fun _ => rfl⟩
  next => exact ⟨by simp, fun _ => by simp [State.pump, State.modLoop, State.setLoop]⟩

/-- A pump that joins the duty set at a stage-up leaves every output where it stands. -/
theorem stageUp_out (source : Nat) {p : Nat} {s : State} (hp : idlePump s = some p) (l : Nat) :
    ((stageUp source s).loop l).out = (s.loop l).out := by
  have hloop := (joinDuty_pumpsOnly source p s).loop
  rw [stageUp_joins source hp, State.loop_modLoop]
  split
  next h => rw [hloop, h]
  next => rw [hloop]

theorem stageUp_pump (source : Nat) {p : Nat} {s : State} (hp : idlePump s = some p) (q : Nat) :
    (stageUp source s).pump q = (joinDuty source p s).pump q := by
  rw [stageUp_joins source hp]
  rfl

theorem stageUp_changesOnly (source : Nat) {p : Nat} {s : State} (hp : idlePump s = some p) :
    ChangesOnly [.log, .motors, .outbox, .plant, .regs, .vcp] s (stageUp source s) := by
  rw [stageUp_joins source hp]
  refine changesOnly_trans (joinDuty_changesOnly source p s) fun q hq => ?_
  cases q <;> simp [Part.Same] at hq ⊢

theorem exchanged_plant (p : Nat) (s : State) :
    (exchanged p s).plant = ((setUse p .duty (endRotating s)).modPump p (fun k => { k with starting := false })).plant := by
  simp [exchanged, State.modPump, State.setPump, State.pump, stageUse_plant]

theorem exchanged_pump (p : Nat) (s : State) (j : Nat) :
    (exchanged p s).pump j = if j = p then { s.pump p with use := .duty, starting := false } else s.pump j := by
  have hsame : ∀ k, (endRotating s).pump k = s.pump k := fun _ => rfl
  rw [State.pump_congr (exchanged_plant p s)]
  by_cases hj : j = p
  · simp [hj, setUse, hsame]
  · simp [hj, setUse, hsame]

theorem exchanged_loop (p : Nat) (s : State) (l : Nat) : (exchanged p s).loop l = s.loop l :=
  State.loop_congr (exchanged_plant p s) l

theorem exchanged_changesOnly (p : Nat) (s : State) : ChangesOnly [.log, .outbox, .plant, .regs] s (exchanged p s) := by
  intro x hx
  cases x <;> simp [exchanged, endRotating, Part.Same, setUse] at hx ⊢

theorem exchanged_regsOnly (p : Nat) (s : State) : RegsOnly [] s (exchanged p s) :=
  stageAction_regsOnly 4 (endRotating s) (fun _ => rfl)

section
variable {s : State} (hfree : (s.loop 4).holders = [])
include hfree

theorem commitStaging_up : commitStaging .up s = markStaged (stageUp (if stageForward s then 5 else 4) (restartFast s)) := by
  unfold commitStaging
  rw [hfree]
  rfl

theorem commitStaging_down {p : Nat} (hduty : 2 < dutyCount s) (hp : mostOf s (fun k => k.runNs) = some p) :
    commitStaging .down s = leaveDuty 4 p .idle (restartSlow s) := by
  unfold commitStaging stageDown
  rw [if_pos (show 2 < dutyCount { s with plant.slowSince := some s.now } from hduty),
    show mostOf { s with plant.slowSince := some s.now } (fun k => k.runNs) = some p from hp, hfree]
  rfl

theorem commitStaging_rotate {p : Nat} (hp : reservePump s = some p) :
    commitStaging .rotate s = pumpSpeed 4 p (s.loop 0).out (runUp p s) := by
  unfold commitStaging startRotation
  rw [hp, hfree]
  rfl

theorem commitStaging_swap {p q : Nat} (hp : s.plant.rotating = some p) (huse : (s.pump p).use = .reserve)
    (hq : mostOf s (fun k => k.sinceRest) = some q) : commitStaging .swap s = leaveDuty 4 q .reserve (exchanged p s) := by
  unfold commitStaging swapReserve
  rw [hfree, hp]
  refine (if_neg (by simp)).trans ((if_neg (not_not_intro huse)).trans ?_)
  rw [hq]
  rfl

end

/-- Settles O15, by what each decision leaves of the pumps, the loops and the registers. -/
theorem staging : Obligations.Staging := by
  unfold Obligations.Staging
  refine ⟨fun s r l hlegs => ?decides, fun s hfree => ⟨fun p hp => ?up, fun hp => ?bound, fun hduty p hp => ?down,
    fun p hp => ?rotate, fun p q hp huse hq _ => ?swap⟩⟩
  case decides =>
    have hdec := decideStaging_cons hlegs
    refine ⟨fun h => ⟨_, ?_, hdec .up⟩, fun h => ⟨_, ?_, hdec .down⟩, fun h => ⟨_, ?_, hdec .rotate⟩,
      fun p hp huse hrun hnone hnear => ⟨_, exec_rotationSwap hp huse hrun hnone hnear, hdec .swap⟩⟩
    · exact congrArg Host.Outcome.next (if_pos h)
    · exact congrArg Host.Outcome.next (if_pos h)
    · exact congrArg Host.Outcome.next (if_pos h)
  case up =>
    rw [commitStaging_up hfree]
    generalize (if stageForward s then 5 else 4) = source
    have hp' : idlePump (restartFast s) = some p := hp
    have hpump : ∀ q, (markStaged (stageUp source (restartFast s))).pump q = (joinDuty source p (restartFast s)).pump q := stageUp_pump source hp'
    refine ⟨?_, ?_, ?_, fun q hq => ?_, fun l => stageUp_out source hp' l, ?_⟩
    · rw [hpump, joinDuty_use, if_pos rfl]
    · rw [hpump, joinDuty_speed]
      rfl
    · obtain ⟨m, hm⟩ := joinDuty_pumpsOnly source p (restartFast s)
      rw [stageUp_joins source hp']
      exact congrArg Plant.fastSince hm
    · exact (hpump q).trans (joinDuty_pump_other source p (restartFast s) hq)
    · have hstart : ChangesOnly [.broker, .log, .motors, .outbox, .plant, .regs, .vcp] s (restartFast s) := fun x hx => by
        cases x <;> simp [Part.Same, restartFast] at hx ⊢
      refine changesOnly_trans hstart (changesOnly_trans (changesOnly_mono (stageUp_changesOnly source hp') (by simp)) fun x hx => ?_)
      cases x <;> simp [Part.Same, markStaged] at hx ⊢
  case bound =>
    rw [commitStaging_up hfree]
    exact stageUp_bounds _ (s := restartFast s) hp
  case down =>
    rw [commitStaging_down hfree hduty hp]
    have hstart : ChangesOnly [.log, .outbox, .plant, .regs] s (restartSlow s) := fun x hx => by
      cases x <;> simp [Part.Same, restartSlow] at hx ⊢
    refine ⟨?_, congrArg Plant.slowSince (leaveDuty_plant 4 p (restartSlow s) .idle), fun q hq => (leaveDuty_pump ..).trans (if_neg hq),
      leaveDuty_loop 4 p (restartSlow s) .idle, changesOnly_trans hstart (leaveDuty_changesOnly 4 p _ .idle),
      leaveDuty_regsOnly 4 p (restartSlow s) .idle⟩
    rw [leaveDuty_pump, if_pos rfl]
    rfl
  case rotate =>
    rw [commitStaging_rotate hfree hp]
    have hpump : ∀ q, (runUp p s).pump q = if q = p then { s.pump p with starting := true, sinceRest := 0 } else s.pump q :=
      fun q => State.pump_modPump s p q (fun k => { k with starting := true, sinceRest := 0 })
    obtain ⟨m, hm⟩ := pumpSpeed_pumpsOnly 4 p (s.loop 0).out (runUp p s)
    refine ⟨congrArg Plant.rotating hm, ?_, pumpSpeed_speed .., fun q hq => ?_, fun l => ((pumpSpeed_pumpsOnly ..).loop l).trans rfl, ?_⟩
    · rw [pumpSpeed_use, hpump, if_pos rfl]
      exact reservePump_use hp
    · rw [pumpSpeed_pump_other _ _ _ _ hq, hpump, if_neg hq]
    · intro x hx
      cases x <;> simp [runUp, Part.Same, pumpSpeed_frame] at hx ⊢
  case swap =>
    have hne : q ≠ p := by
      rintro rfl
      exact absurd ((mostOf_use hq).symm.trans huse) (by decide)
    rw [commitStaging_swap hfree hp huse hq]
    have hleft := leaveDuty_plant 4 q (exchanged p s) .reserve
    have hjoin := exchanged_plant p s
    refine ⟨(congrArg Plant.rotating hleft).trans (congrArg Plant.rotating hjoin),
      (congrArg Plant.rotRun hleft).trans (congrArg Plant.rotRun hjoin), ?_, ?_, fun j hjp hjq => ?_, fun l => ?_,
      changesOnly_trans (exchanged_changesOnly p s) (leaveDuty_changesOnly 4 q _ .reserve),
      regsOnly_trans (exchanged_regsOnly p s) (leaveDuty_regsOnly 4 q (exchanged p s) .reserve)⟩
    · rw [leaveDuty_pump, if_neg hne.symm, exchanged_pump, if_pos rfl]
    · rw [leaveDuty_pump, if_pos rfl]
      rfl
    · rw [leaveDuty_pump, if_neg hjq, exchanged_pump, if_neg hjp]
    · rw [leaveDuty_loop, exchanged_loop]

end Sys2Proof.Machine
end

section
/-! R82, R87: what a pass that lowers caps leaves, and the loops that are bound. -/

namespace Sys2Proof.Machine

open Sys2Proof Sys2Proof.Safety

/-! ### Lowering a cap -/

section
variable (source : Nat) (causeSeq : BitVec 32) (leaves : Time) (r : Nat) (cap : Power) (s : State)

theorem lowerCap_cap : ((lowerCap source causeSeq leaves r cap s).rack r).cap = Nat.min (s.rack r).cap cap := by
  unfold lowerCap
  split
  next h => rw [grantSet_cap]; exact (Nat.min_eq_right h.le).symm
  next h => exact (Nat.min_eq_left (not_lt.mp h)).symm

theorem lowerCap_rack_ne {j : Nat} (hj : j ≠ r) : (lowerCap source causeSeq leaves r cap s).rack j = s.rack j := by
  unfold lowerCap
  split
  · rw [grantSet_rack_ne _ _ _ _ _ _ hj, State.rack_modRack, if_neg hj]
  · rfl

theorem lowerCap_regsOnly : RegsOnly [] s (lowerCap source causeSeq leaves r cap s) := by
  unfold lowerCap
  split
  · refine regsOnly_trans (regsOnly_of_regs ?_) (grantSet_regsOnly _ _ _ _ _ _)
    rfl
  · exact regsOnly_refl _ _

end

theorem floor_of_regsOnly {s t : State} (h : RegsOnly [] s t) {r : Nat} (hr : r < 16) : floor t r = floor s r := by
  have hreg := h U.cap (Off.capRackCfg + 0x20 * r) (show 0x100 + 0x20 * r < 0x1000 by omega) (by simp) (not_report_of_unit (by decide) (by decide) _)
  simp only [floor, State.fldOf, hreg]

/-- A pass that treats each rack's cap by a law of its own, and no rack beside it: each cap follows its law. -/
theorem forEach_caps {l : List Nat} (hl : l.Nodup) {f : Nat → State → State} {law : Nat → Power → Power} {s a : State} (ha : RegsOnly [] s a)
    (hself : ∀ r ∈ l, ∀ b, RegsOnly [] s b → ((f r b).rack r).cap = law r (b.rack r).cap)
    (hother : ∀ r b j, j ≠ r → (f r b).rack j = b.rack j) (hregs : ∀ r b, RegsOnly [] b (f r b)) {r : Nat} (hr : r ∈ l) :
    ((forEach l f a).rack r).cap = law r (a.rack r).cap := by
  obtain ⟨l₁, l₂, rfl⟩ := List.append_of_mem hr
  obtain ⟨hl₁, hl₂⟩ : r ∉ l₁ ∧ r ∉ l₂ := by
    rw [List.nodup_append, List.nodup_cons] at hl
    exact ⟨fun h => hl.2.2 r h r (by simp) rfl, hl.2.1.1⟩
  have hbefore : RegsOnly [] s (forEach l₁ f a) ∧ (forEach l₁ f a).rack r = a.rack r :=
    forEach_keeps (P := fun b => RegsOnly [] s b ∧ b.rack r = a.rack r) ⟨ha, rfl⟩ fun x hx b hb =>
      ⟨regsOnly_trans hb.1 (hregs x b), (hother x b r (fun h => hl₁ (h ▸ hx))).trans hb.2⟩
  have hafter : ∀ b, (forEach l₂ f b).rack r = b.rack r := fun b =>
    forEach_keeps (P := fun c => c.rack r = b.rack r) rfl fun x hx c hc => (hother x c r (fun h => hl₂ (h ▸ hx))).trans hc
  have hsplit : forEach (l₁ ++ r :: l₂) f a = forEach l₂ f (f r (forEach l₁ f a)) := by simp [forEach]
  rw [hsplit, hafter, hself r hr _ hbefore.1, hbefore.2]

theorem upTo_nodup (n : Nat) : (upTo n).Nodup := List.nodup_range

/-! ### What one step of a bound loop takes (R87) -/

theorem byReturn_perm (s : State) (r : Nat) (l : List Nat) : (byReturn s r l).Perm (r :: l) := by
  induction l with
  | nil => exact .refl _
  | cons q l ih =>
    unfold byReturn
    split
    · exact .refl _
    · exact (ih.cons q).trans (.swap r q l)

/-- The racks of a loop in order of falling return temperature. -/
def inReturnOrder (s : State) (l : Nat) : List Nat := (boundRacks s l).foldl (fun a r => byReturn s r a) []

theorem mem_inReturnOrder (s : State) (l r : Nat) : r ∈ inReturnOrder s l ↔ r ∈ boundRacks s l := by
  have hfold : ∀ (racks : List Nat) (a : List Nat), r ∈ racks.foldl (fun a r => byReturn s r a) a ↔ r ∈ racks ∨ r ∈ a := fun racks => by
    induction racks with
    | nil => simp
    | cons q racks ih =>
      intro a
      rw [List.foldl_cons, ih, (byReturn_perm s q a).mem_iff]
      simp only [List.mem_cons]
      tauto
  simpa [inReturnOrder] using hfold (boundRacks s l) []

theorem shareCut_mem {s : State} {e : Nat × Nat} {l : List Nat} {d : Nat} (h : e ∈ shareCut s d l) :
    e.1 ∈ l ∧ e.2 ≤ (s.rack e.1).cap - floor s e.1 := by
  induction l generalizing d with
  | nil => cases h
  | cons r l ih =>
    rcases List.mem_cons.mp h with rfl | h
    · exact ⟨by simp, Nat.min_le_right _ _⟩
    · obtain ⟨hmem, hle⟩ := ih h
      exact ⟨List.mem_cons_of_mem _ hmem, hle⟩

theorem shareCut_sum (s : State) (d : Nat) (l : List Nat) : ((shareCut s d l).map Prod.snd).sum ≤ d := by
  induction l generalizing d with
  | nil => simp [shareCut]
  | cons r l ih =>
    have hrest := ih (d - Nat.min d ((s.rack r).cap - floor s r))
    have hle : Nat.min d ((s.rack r).cap - floor s r) ≤ d := Nat.min_le_left _ _
    simp only [shareCut, List.map_cons, List.sum_cons]
    omega

/-- The cuts of one step: the racks that lose something, and how much. -/
def boundCuts (s : State) (l d : Nat) : List (Nat × Nat) :=
  (shareCut s (Nat.min d ((boundRacks s l).foldl (fun a r => a + rating s r) 0 * 2 / 100)) (inReturnOrder s l)).filter (fun e => decide (0 < e.2))

/-- What the list of cuts takes from rack r. -/
def taken (cuts : List (Nat × Nat)) (r : Nat) : Nat := ((cuts.find? (fun e => decide (e.1 = r))).map Prod.snd).getD 0

theorem sumRacks_eq (f : Nat → Nat) : sumRacks f = ∑ r ∈ Finset.range 16, f r := by
  simp [sumRacks, upTo, List.range_succ, Finset.sum_range_succ]

theorem sum_taken_le (cuts : List (Nat × Nat)) : sumRacks (taken cuts) ≤ (cuts.map Prod.snd).sum := by
  rw [sumRacks_eq]
  induction cuts with
  | nil => simp [taken]
  | cons e cuts ih =>
    have hone : ∀ r, taken (e :: cuts) r ≤ (if r = e.1 then e.2 else 0) + taken cuts r := fun r => by
      by_cases h : e.1 = r
      · simp [taken, h]
      · simp [taken, h, Ne.symm h]
    calc ∑ r ∈ Finset.range 16, taken (e :: cuts) r
        ≤ ∑ r ∈ Finset.range 16, ((if r = e.1 then e.2 else 0) + taken cuts r) := Finset.sum_le_sum fun r _ => hone r
      _ ≤ e.2 + (cuts.map Prod.snd).sum := by
        rw [Finset.sum_add_distrib, Finset.sum_ite_eq']
        split <;> omega
      _ = ((e :: cuts).map Prod.snd).sum := by simp

section
variable (s : State) (l d : Nat)

theorem boundCuts_taken {r : Nat} : taken (boundCuts s l d) r ≤ (s.rack r).cap - floor s r := by
  unfold taken
  cases h : (boundCuts s l d).find? (fun e => decide (e.1 = r)) with
  | none => simp
  | some e =>
    have hkey : e.1 = r := by simpa using List.find?_some h
    have hmem := (List.mem_filter.mp (List.mem_of_find?_eq_some h)).1
    simpa [hkey] using (shareCut_mem hmem).2

theorem boundCuts_find_none {r : Nat} (hr : r ∉ boundRacks s l) : (boundCuts s l d).find? (fun e => decide (e.1 = r)) = none := by
  rw [List.find?_eq_none]
  intro e he hkey
  have hmem := (shareCut_mem (List.mem_filter.mp he).1).1
  rw [mem_inReturnOrder, of_decide_eq_true hkey] at hmem
  exact hr hmem

theorem boundCuts_sum : sumRacks (taken (boundCuts s l d)) ≤ Nat.min d ((boundRacks s l).foldl (fun a r => a + rating s r) 0 * 2 / 100) := by
  refine (sum_taken_le _).trans ((List.Sublist.sum_le_sum ?_ (by simp)).trans (shareCut_sum s _ (inReturnOrder s l)))
  exact List.filter_sublist.map _

end

/-- What one step does to rack r. -/
def cutStep (leaves : Time) (cuts : List (Nat × Nat)) (r : Nat) (a : State) : State :=
  match cuts.find? (fun e => decide (e.1 = r)) with
  | some e => lowerCap 4 0 leaves r ((a.rack r).cap - e.2) a
  | none => a

section
variable (leaves : Time) (cuts : List (Nat × Nat)) (r : Nat) (a : State)

theorem cutStep_cap : ((cutStep leaves cuts r a).rack r).cap = (a.rack r).cap - taken cuts r := by
  unfold cutStep taken
  split
  next e h => rw [lowerCap_cap, h]; exact Nat.min_eq_right (Nat.sub_le _ _)
  next h => rw [h]; rfl

theorem cutStep_rack_ne {j : Nat} (hj : j ≠ r) : (cutStep leaves cuts r a).rack j = a.rack j := by
  unfold cutStep
  split
  · exact lowerCap_rack_ne _ _ _ _ _ _ hj
  · rfl

theorem cutStep_regsOnly : RegsOnly [] a (cutStep leaves cuts r a) := by
  unfold cutStep
  split
  · exact lowerCap_regsOnly _ _ _ _ _ _
  · exact regsOnly_refl _ _

end

/-- The state a step of bound loop l leaves where it takes something. -/
def afterCuts (decided : Time) (l d : Nat) (s : State) : State :=
  forEach (upTo 16) (cutStep (leavesFrom decided s) (boundCuts s l d)) s.draw

section
variable (decided : Time) (l d : Nat) (s : State)

theorem boundCut_eq : boundCut decided l d s =
    if boundCuts s l d = [] then s else (afterCuts decided l d s).setEvent U.cap Off.capEvents 2 := rfl

theorem boundCut_cap {r : Nat} (hr : r < 16) : ((boundCut decided l d s).rack r).cap = (s.rack r).cap - taken (boundCuts s l d) r := by
  rw [boundCut_eq]
  split
  next h => rw [h]; rfl
  next =>
    exact forEach_caps (upTo_nodup 16) (law := fun r c => c - taken (boundCuts s l d) r) (regsOnly_refl [] s.draw)
      (fun x _ b _ => cutStep_cap _ _ x b) (fun x b j hj => cutStep_rack_ne _ _ x b hj) (cutStep_regsOnly _ _) (List.mem_range.2 hr)

theorem boundCut_rack_other {r : Nat} (hr : r ∉ boundRacks s l) : (boundCut decided l d s).rack r = s.rack r := by
  rw [boundCut_eq]
  split
  · rfl
  · refine forEach_keeps (P := fun b => b.rack r = s.rack r) rfl fun x _ b hb => Eq.trans ?_ hb
    by_cases hx : r = x
    · unfold cutStep
      rw [← hx, boundCuts_find_none s l d hr]
    · exact cutStep_rack_ne _ _ x b hx

theorem boundCut_regsOnly : RegsOnly [(U.cap, Off.capEvents)] s (boundCut decided l d s) := by
  rw [boundCut_eq]
  split
  · exact regsOnly_refl _ _
  · refine regsOnly_trans (regsOnly_nil ?_) (setEvent_regsOnly (by decide) 2 _)
    exact forEach_keeps (P := fun b => RegsOnly [] s b) (regsOnly_of_regs rfl) fun x _ b hb => regsOnly_trans hb (cutStep_regsOnly _ _ x b)

theorem boundCut_changesOnly : ChangesOnly [.broker, .free, .log, .outbox, .regs] s (boundCut decided l d s) := by
  intro x hx
  cases x <;> simp [Part.Same, boundCut_frame] at hx ⊢

/-- What the caps lose together is what the cuts take. -/
theorem boundCut_capSum : capSum s = capSum (boundCut decided l d s) + sumRacks (taken (boundCuts s l d)) := by
  simp only [capSum, sumRacks_eq, ← Finset.sum_add_distrib]
  refine Finset.sum_congr rfl fun r hr => ?_
  have htaken := boundCuts_taken s l d (r := r)
  rw [boundCut_cap decided l d s (Finset.mem_range.mp hr)]
  exact (Nat.sub_add_cancel (htaken.trans (Nat.sub_le _ _))).symm

theorem boundCut_event (h : capSum (boundCut decided l d s) < capSum s) : (boundCut decided l d s).bitAt U.cap Off.capEvents 2 = true := by
  rw [boundCut_eq] at h ⊢
  split at h
  · exact absurd h (lt_irrefl _)
  · rename_i hne
    rw [if_neg hne]
    exact State.bitAt_setEvent_self _ _ _ _ (by decide)

end

/-! ### The events of a bound loop -/

/-- R60: what a switch to the redundant sensor leaves, as one is live or not. -/
def switchSensor (live : Bool) (l : Nat) (s : State) : State :=
  if live then s.setLoop l { s.loop l with redundant := true }
  else (s.setLoop l { s.loop l with staleBound := true }).setEvent (U.loop l) Off.loopEvents 0

section
variable (live : Bool) (l : Nat) (s : State)

theorem switchSensor_loop_other {j : Nat} (hj : j ≠ l) : (switchSensor live l s).loop j = s.loop j := by
  cases live <;> simp [switchSensor, hj]

theorem switchSensor_changesOnly : ChangesOnly [.plant, .regs] s (switchSensor live l s) := by
  intro x hx
  cases x <;> simp [switchSensor, Part.Same] at hx ⊢

theorem switchSensor_regsOnly : RegsOnly [(U.loop l, Off.loopEvents)] s (switchSensor live l s) := by
  cases live
  · exact regsOnly_trans (regsOnly_of_regs rfl) (setEvent_regsOnly (by decide) 0 _)
  · exact regsOnly_of_regs rfl

end

theorem exec_redundantSwitch {l : Fin 2} {z : Time} {s : State} (hz : (s.loop l.val).staleSince = some z)
    (hb : (s.loop l.val).staleBound = false) (hd : z + 2 * Config.sec ≤ s.now) :
    exec (.redundantSwitch l) s = .next (switchSensor
      (if l.val = 0 then (pvLive s 0 true).isSome && (pvLive s 1 true).isSome else (pvLive s 2 true).isSome) l.val s) := by
  show execRedundantSwitch l s = _
  unfold execRedundantSwitch
  dsimp only
  split
  next hnone => cases hz.symm.trans hnone
  next t ht =>
    obtain rfl : z = t := Option.some.inj (hz.symm.trans ht)
    exact (if_pos ⟨hd, by simp [hb]⟩).trans (apply_ite Host.Outcome.next _ _ _).symm

/-- Settles O13: the clauses on one loop by the branch that acts, the step of a bound loop by the cuts it shares out. -/
theorem boundLoops : Obligations.BoundLoops := by
  unfold Obligations.BoundLoops
  refine fun s => ⟨fun l z hz hb hd => ?clear, fun l z hz hb hd => ?stale, fun l hk he hb hu hd => ?step, fun decided l d => ?cut⟩
  case clear =>
    refine ⟨s.setLoop l.val { s.loop l.val with policyBound := false }, ?_, (State.loop_setLoop ..).trans (if_pos rfl),
      fun j hj => (State.loop_setLoop ..).trans (if_neg hj), fun x hx => ?_⟩
    · show execPolicyBoundClear l s = _
      unfold execPolicyBoundClear
      simp only [hz, hb, hd, and_self, if_true]
    · cases x <;> simp [Part.Same] at hx ⊢
  case stale =>
    refine ⟨_, exec_redundantSwitch hz hb hd, fun hlive => ?_, fun hdead => ?_, fun j hj => switchSensor_loop_other _ _ s hj,
      switchSensor_changesOnly _ _ s, switchSensor_regsOnly _ _ s⟩
    · rw [hlive]
      exact ⟨(State.loop_setLoop ..).trans (if_pos rfl), rfl⟩
    · rw [hdead]
      exact ⟨(State.loop_setLoop ..).trans (if_pos rfl), State.reg_setReg_self ..⟩
  case step =>
    have hloop := fun j => State.loop_modLoop s l.val j (fun k => { k with lastBoundStep := s.now })
    refine ⟨_, if_pos ⟨hk, he, by simpa [or_assoc] using hb, hu, hd⟩, (hloop l.val).trans (if_pos rfl), fun j hj => (hloop j).trans (if_neg hj),
      rfl, fun x hx => ?_⟩
    cases x <;> simp [Part.Same] at hx ⊢
  case cut =>
    have hsum := boundCut_capSum decided l d s
    refine ⟨(Nat.le_add_right _ _).trans_eq hsum.symm, (Nat.sub_eq_of_eq_add' hsum).le.trans (boundCuts_sum s l d), boundCut_event decided l d s, fun r hr => ?_, fun r => boundCut_rack_other decided l d s,
      boundCut_changesOnly decided l d s, boundCut_regsOnly decided l d s⟩
    rw [boundCut_cap decided l d s hr]
    exact ⟨Nat.sub_le _ _, fun hfloor => Nat.le_sub_of_add_le (Nat.add_le_of_le_sub' hfloor (boundCuts_taken s l d))⟩

end Sys2Proof.Machine
end

section
/-! R61 to R63, Table 3-8: outputs that a reflex moves, the caps it lowers, and the rows that act, repeat and release. -/

namespace Sys2Proof.Machine

open Sys2Proof Sys2Proof.Safety

/-! ### Outputs that a reflex moves -/

theorem dropActed_plant (u : Nat) (acted : Option Nat) (old new : Int) (s : State) : (dropActed u acted old new s).plant = s.plant := by
  simp [dropActed_frame]

theorem overrideIf_plant (l : Nat) (old new : Int) (s : State) : (overrideIf l old new s).plant = s.plant := by simp [overrideIf_frame]

theorem pushDuty_pumpsOnly (source : Nat) (s : State) : PumpsOnly s (pushDuty source s) := by
  refine forEach_keeps (P := PumpsOnly s) (.of_plant rfl) fun p _ a ha => ?_
  split
  · exact ha.trans (pumpSpeed_pumpsOnly _ _ _ _)
  · exact ha

/-- A loop whose output a reflex has moved. -/
def moved (new : Int) (k : Loop) : Loop := { k with out := new, target := new, actedIn := none }

theorem reflexOut_pumpsOnly (l : Nat) (new : Int) (s : State) : PumpsOnly (s.modLoop l (moved new)) (reflexOut l new s) := by
  have hset : ∀ a : State, a.plant = s.plant → (a.modLoop l (moved new)).plant = (s.modLoop l (moved new)).plant := fun a h => by
    simp [State.modLoop, State.setLoop, State.loop, h]
  have hmoved : PumpsOnly (s.modLoop l (moved new)) ((logAction (U.loop l) 2 Act.set 16 ((s.loop l).out / outUnit) (new / outUnit) 0
      (overrideIf l (s.loop l).out new (dropActed (U.loop l) (s.loop l).actedIn (s.loop l).out (s.loop l).target s))).modLoop l (moved new)) :=
    .of_plant (hset _ (by simp [overrideIf_plant, dropActed_plant]))
  unfold reflexOut
  dsimp only
  split
  · exact hmoved.trans (pushDuty_pumpsOnly 2 _)
  · exact hmoved

theorem reflexOut_loop (l : Nat) (new : Int) (s : State) (j : Nat) :
    (reflexOut l new s).loop j = if j = l then moved new (s.loop l) else s.loop j := by
  rw [(reflexOut_pumpsOnly l new s).loop, State.loop_modLoop]

theorem reflexOut_row (l : Nat) (new : Int) (s : State) (r : ReflexRow) : (reflexOut l new s).row r = s.row r :=
  (reflexOut_pumpsOnly l new s).row r

section
variable (l : Nat) (row : ReflexRow) (s : State)

theorem holdLoop_holds : row ∈ ((holdLoop l row s).loop l).holders := by
  unfold holdLoop
  rw [State.loop_modLoop, if_pos rfl]
  dsimp only
  split
  next h => exact List.elem_iff.mp h
  next => simp

theorem holdLoop_out (j : Nat) : ((holdLoop l row s).loop j).out = (s.loop j).out := by
  unfold holdLoop
  rw [State.loop_modLoop]
  split
  next h => rw [h]
  next => rfl

end

/-- A reflex that takes loop l and moves its output leaves every other output where it is. -/
theorem reflexOut_holdLoop (l : Nat) (new : Int) (row : ReflexRow) (s : State) :
    ((reflexOut l new (holdLoop l row s)).loop l).out = new ∧ row ∈ ((reflexOut l new (holdLoop l row s)).loop l).holders
      ∧ ∀ j, j ≠ l → ((reflexOut l new (holdLoop l row s)).loop j).out = (s.loop j).out := by
  have hloop := reflexOut_loop l new (holdLoop l row s)
  refine ⟨?_, ?_, fun j hj => ?_⟩
  · rw [hloop, if_pos rfl]
    rfl
  · rw [hloop, if_pos rfl]
    exact holdLoop_holds l row s
  · rw [hloop, if_neg hj, holdLoop_out]

/-- The common speed after a cut by 5 % of full speed (R63). -/
def speedCut (o : Int) : Int := if o ≤ 0 then o else if o < 50 * outUnit then 0 else o - 50 * outUnit

theorem cutSpeed_out (s : State) (j : Nat) : ((cutSpeed s).loop j).out = if j = 0 then speedCut (s.loop 0).out else (s.loop j).out := by
  unfold cutSpeed speedCut
  dsimp only
  split
  · split
    next h => rw [h]
    next => rfl
  · rw [reflexOut_loop]
    split <;> rfl

theorem cutSpeed_holders (s : State) (j : Nat) : ((cutSpeed s).loop j).holders = (s.loop j).holders := by
  unfold cutSpeed
  dsimp only
  split
  · rfl
  · rw [reflexOut_loop]
    split
    next h => rw [h]; rfl
    next => rfl

theorem cutSpeed_row (s : State) (r : ReflexRow) : (cutSpeed s).row r = s.row r := by
  unfold cutSpeed
  dsimp only
  split
  · rfl
  · exact reflexOut_row _ _ _ _

/-! ### The reserve -/

theorem startReserve_eq {p : Nat} {s : State} (hp : reservePump s = some p) :
    startReserve s = pumpSpeed 2 p ((stageAction 2 (setUse p .duty) s).loop 0).out
      ((stageAction 2 (setUse p .duty) s).modPump p (fun k => { k with starting := true, sinceRest := 0 })) := by
  unfold startReserve
  rw [hp]

theorem startReserve_pumpsOnly (s : State) : PumpsOnly s (startReserve s) := by
  cases hp : reservePump s with
  | none =>
    unfold startReserve
    rw [hp]
    exact .of_plant rfl
  | some p =>
    rw [startReserve_eq hp]
    exact ((stageUse_pumpsOnly 2 p .duty s).trans (modPump_pumpsOnly p _ _)).trans (pumpSpeed_pumpsOnly _ _ _ _)

theorem startReserve_joins {p : Nat} {s : State} (hp : reservePump s = some p) :
    ((startReserve s).pump p).use = .duty ∧ ((startReserve s).pump p).speed = (s.loop 0).out := by
  rw [startReserve_eq hp]
  constructor
  · rw [pumpSpeed_use, State.pump_modPump, if_pos rfl, State.pump_congr (stageUse_plant 2 p .duty s)]
    simp [setUse]
  · rw [pumpSpeed_speed, State.loop_congr (stageUse_plant 2 p .duty s)]
    rfl

/-! ### Caps -/

theorem rating_of_regsOnly {s t : State} (h : RegsOnly [] s t) {r : Nat} (hr : r < 16) : rating t r = rating s r := by
  have hreg := h U.cap (Off.capRackCfg + 0x20 * r) (show 0x100 + 0x20 * r < 0x1000 by omega) (by simp) (not_report_of_unit (by decide) (by decide) _)
  simp only [rating, State.fldOf, hreg]

section
variable (source : Nat) (p : Nat → Bool) (s : State)

/-- What `floorCaps` does to rack r. -/
def floorStep (leaves : Time) (r : Nat) (a : State) : State := if p r then lowerCap source 0 leaves r (floor a r) a else a

theorem floorCaps_eq : floorCaps source p s = forEach (upTo 16) (floorStep source p (grantLeaves s)) s.draw := rfl

theorem floorStep_rack_ne (leaves : Time) (r : Nat) (a : State) {j : Nat} (hj : j ≠ r) : (floorStep source p leaves r a).rack j = a.rack j := by
  unfold floorStep
  split
  · exact lowerCap_rack_ne _ _ _ _ _ _ hj
  · rfl

theorem floorStep_regsOnly (leaves : Time) (r : Nat) (a : State) : RegsOnly [] a (floorStep source p leaves r a) := by
  unfold floorStep
  split
  · exact lowerCap_regsOnly _ _ _ _ _ _
  · exact regsOnly_refl _ _

theorem floorCaps_cap {r : Nat} (hr : r < 16) :
    ((floorCaps source p s).rack r).cap = if p r then Nat.min (s.rack r).cap (floor s r) else (s.rack r).cap := by
  refine forEach_caps (upTo_nodup 16) (law := fun r c => if p r then Nat.min c (floor s r) else c) (s := s) (a := s.draw) (regsOnly_of_regs rfl)
    (fun x hx b hb => ?_) (fun x b j hj => floorStep_rack_ne _ _ _ x b hj) (floorStep_regsOnly _ _ _) (List.mem_range.2 hr)
  unfold floorStep
  split
  · rw [lowerCap_cap, floor_of_regsOnly hb (List.mem_range.1 hx)]
  · rfl

theorem floorCaps_rack_other {r : Nat} (hr : p r = false) : (floorCaps source p s).rack r = s.rack r := by
  refine forEach_keeps (P := fun b => b.rack r = s.rack r) rfl fun x _ b hb => Eq.trans ?_ hb
  by_cases hx : r = x
  · rw [← hx, hr]
    rfl
  · exact floorStep_rack_ne source p _ x b hx

theorem floorCaps_regsOnly : RegsOnly [] s (floorCaps source p s) :=
  forEach_keeps (P := fun b => RegsOnly [] s b) (regsOnly_of_regs rfl) fun x _ b hb => regsOnly_trans hb (floorStep_regsOnly source p _ x b)

theorem floorCaps_row (row : ReflexRow) : (floorCaps source p s).row row = s.row row := State.row_congr (by simp [floorCaps_frame]) row

end

theorem cutCaps_cap (s : State) {r : Nat} (hr : r < 16) :
    ((cutCaps s).rack r).cap = Nat.min (s.rack r).cap (Nat.max (floor s r) ((s.rack r).cap - rating s r / 10)) := by
  refine forEach_caps (upTo_nodup 16) (law := fun r c => Nat.min c (Nat.max (floor s r) (c - rating s r / 10))) (s := s) (a := s.draw)
    (regsOnly_of_regs rfl) (fun x hx b hb => ?_) (fun x b j hj => lowerCap_rack_ne _ _ _ _ _ _ hj)
    (fun x b => lowerCap_regsOnly _ _ _ _ _ _) (List.mem_range.2 hr)
  rw [lowerCap_cap, floor_of_regsOnly hb (List.mem_range.1 hx), rating_of_regsOnly hb (List.mem_range.1 hx)]

/-! ### The valve of a rack -/

section
variable (r : Nat) (s : State)

theorem rackOpen_rack (j : Nat) : (rackOpen r s).rack j =
    if j = r then { s.rack r with pos := 1000 * outUnit, target := 1000 * outUnit, actedIn := none } else s.rack j := by
  have hsame : ∀ (n : Int) j, (logAction (U.loop 2) 2 Act.set r ((s.rack r).pos / outUnit) 1000 0
      (overrideIf 2 (s.rack r).pos n (dropActed (U.loop 2) (s.rack r).actedIn (s.rack r).pos (s.rack r).target s))).rack j = s.rack j :=
    fun n => State.rack_congr (by simp [overrideIf_frame, dropActed_frame])
  unfold rackOpen
  dsimp only
  rw [State.rack_modRack, hsame, hsame]

theorem rackOpen_plant : (rackOpen r s).plant = s.plant := by
  unfold rackOpen
  simp [overrideIf_plant, dropActed_plant]

end

/-! ### Rows in force -/

/-- The row comes into force, before its action. -/
def started (row : ReflexRow) (s : State) : State :=
  s.modRow row (fun k => { k with active := true, since := s.now, lastStep := s.now, okSince := none })

section
variable {row : ReflexRow} (hrow : row ≠ .pressureTrip) (s : State)
include hrow

/-- No action but that of PS_TRIP writes a row. -/
theorem rowAct_row (r : ReflexRow) : (rowAct row s).row r = s.row r := by
  have hheld : ∀ l, (holdLoop l row s).row r = s.row r := fun _ => rfl
  cases row with
  | pressureTrip => exact absurd rfl hrow
  | pressureHigh => exact (cutSpeed_row _ r).trans (hheld 0)
  | dpHigh => exact (cutSpeed_row _ r).trans (hheld 0)
  | dpLow => exact ((startReserve_pumpsOnly _).row r).trans (hheld 4)
  | pumpTrip => rfl
  | supplyHigh => exact (reflexOut_row _ _ _ r).trans (hheld 1)
  | supplyLow => exact (reflexOut_row _ _ _ r).trans (hheld 1)
  | supplyOver => exact floorCaps_row 2 (fun _ => true) { s with plant.safetyAll := true } r
  | rackFlow _ => exact (State.row_congr (rackOpen_plant _ _) r).trans (hheld 2)
  | rackFlowCap _ => exact floorCaps_row _ _ _ r
  | rackReturn _ => exact floorCaps_row _ _ _ r
  | returnHigh => exact State.row_congr (by simp [rowAct, cutCaps_frame]) r

theorem rowStart_inForce : ((rowStart row s).row row).active = true ∧ ((rowStart row s).row row).since = s.now := by
  have hstarted : (rowStart row s).row row = { s.row row with active := true, since := s.now, lastStep := s.now, okSince := none } :=
    (rowAct_row hrow (started row s) row).trans ((State.row_modRow ..).trans (if_pos rfl))
  rw [hstarted]
  exact ⟨rfl, rfl⟩

end

theorem rowAct_changesOnly (row : ReflexRow) (s : State) : ChangesOnly [.broker, .free, .log, .motors, .outbox, .plant, .regs, .vcp] s (rowAct row s) := by
  intro x hx
  cases x <;> simp [Part.Same, rowAct_frame] at hx ⊢

theorem rowStart_changesOnly (row : ReflexRow) (s : State) : ChangesOnly [.broker, .free, .log, .motors, .outbox, .plant, .regs, .vcp] s (rowStart row s) := by
  intro x hx
  cases x <;> simp [Part.Same, rowStart_frame] at hx ⊢

/-- A row acts once its condition has held for its persistence. -/
theorem rowAfter_eq {row : ReflexRow} {d : Nat} {s : State} (hk : isKeeper s = true) (h : rowHolds s row d = true) :
    rowAfter row d s = rowAct row (started row s) := if_pos (by rw [hk, h]; rfl)

/-! ### Rows that end -/

theorem releaseLoops_out (row : ReflexRow) (s : State) (l : Nat) : ((releaseLoops row s).loop l).out = (s.loop l).out := by
  refine forEach_keeps (P := fun a => (a.loop l).out = (s.loop l).out) rfl fun x _ a ha => ?_
  rw [State.loop_modLoop]
  split
  next h => rw [← h]; exact ha
  next => exact ha

theorem releaseLoops_holders (row : ReflexRow) (s : State) {l : Nat} (hl : l < 5) : row ∉ ((releaseLoops row s).loop l).holders := by
  refine forEach_sets (P := fun a => row ∉ (a.loop l).holders) (I := fun _ => True) (x := l) (by simp; omega) trivial (fun _ _ _ _ => trivial)
    (fun a _ => ?_) fun y _ hy a ha => ?_
  · rw [State.loop_modLoop, if_pos rfl]
    simp
  · rw [State.loop_modLoop, if_neg (Ne.symm hy)]
    exact ha

theorem releaseLoops_row (row : ReflexRow) (s : State) (r : ReflexRow) : (releaseLoops row s).row r = s.row r :=
  forEach_keeps (P := fun a => a.row r = s.row r) rfl fun _ _ _ ha => ha

/-- The loops and the rows of one plant are those of another. -/
theorem loop_row_of_plant {s t : State} (h : t.plant.loops = s.plant.loops) (k : t.plant.rows = s.plant.rows) :
    (∀ l, t.loop l = s.loop l) ∧ ∀ r, t.row r = s.row r := by
  simp [State.loop, State.row, h, k]

/-- The row's timers go back, before its actuators are let go. -/
def ended (row : ReflexRow) (s : State) : State := s.modRow row (fun k => { k with active := false, condSince := none, okSince := none })

theorem rowEnd_loop_row (row : ReflexRow) (s : State) :
    (∀ l, (rowEnd row s).loop l = (releaseLoops row (ended row s)).loop l) ∧ ∀ r, (rowEnd row s).row r = (releaseLoops row (ended row s)).row r := by
  cases row <;> exact ⟨fun _ => rfl, fun _ => rfl⟩

theorem rowEnd_cap (row : ReflexRow) (s : State) (r : Nat) : ((rowEnd row s).rack r).cap = (s.rack r).cap := by
  have hsame : ∀ j, (releaseLoops row (ended row s)).rack j = s.rack j := State.rack_congr (by simp [releaseLoops_frame, ended])
  have hmod : ∀ (a : State) q (g : Rack → Rack), (∀ k, (g k).cap = k.cap) → ((a.modRack q g).rack r).cap = (a.rack r).cap := fun a q g hg => by
    rw [State.rack_modRack]
    split
    next h => rw [hg, h]
    next => rfl
  have hcap := congrArg Rack.cap (hsame r)
  cases row with
  | rackFlow q =>
    refine Eq.trans ?_ hcap
    exact hmod (releaseLoops (.rackFlow q) (ended (.rackFlow q) s)) q.val (fun k => { k with
      droppedValue := none,
      target := if loopsDriven (releaseLoops (.rackFlow q) (ended (.rackFlow q) s)) then clampI
          (outLo (releaseLoops (.rackFlow q) (ended (.rackFlow q) s)) 2) (outHi (releaseLoops (.rackFlow q) (ended (.rackFlow q) s)) 2) k.pos
        else k.target }) fun _ => rfl
  | rackFlowCap q => exact (hmod _ q.val (fun k => { k with safetyFlow := false }) fun _ => rfl).trans hcap
  | _ => exact hcap

theorem chooseReserve_pumpsOnly (s : State) : PumpsOnly s (chooseReserve s) := by
  unfold chooseReserve
  split
  · exact modPump_pumpsOnly _ _ _
  · exact .of_plant rfl

/-- What the release of a row leaves. -/
def released (row : ReflexRow) (s : State) : State := if row = .dpLow then chooseReserve (rowEnd row s) else rowEnd row s

theorem released_pumpsOnly (row : ReflexRow) (s : State) : PumpsOnly (rowEnd row s) (released row s) := by
  unfold released
  split
  · exact chooseReserve_pumpsOnly _
  · exact .of_plant rfl

theorem released_changesOnly (row : ReflexRow) (s : State) : ChangesOnly [.broker, .plant] s (released row s) := by
  intro x hx
  unfold released
  split <;> cases x <;> simp [Part.Same, chooseReserve_frame, rowEnd_frame] at hx ⊢

theorem released_cap (row : ReflexRow) (s : State) (r : Nat) : ((released row s).rack r).cap = (s.rack r).cap := by
  refine Eq.trans (congrArg Rack.cap (State.rack_congr ?_ r)) (rowEnd_cap row s r)
  unfold released
  split <;> simp [chooseReserve_frame]

theorem exec_reflexRelease {row : ReflexRow} {z : Time} {s : State} (hk : isKeeper s = true) (hz : (s.row row).okSince = some z)
    (ha : (s.row row).active = true) (hb : releasedByTime row = true) (hd : z + 10 * Config.sec ≤ s.now) :
    exec (.reflexRelease row) s = .next (released row s) := by
  show execReflexRelease row s = _
  unfold execReflexRelease
  rw [hz]
  exact if_pos ⟨hk, ha, hb, hd⟩

/-- Settles O14: each row by what its action moves, the repeat by the same action, the release by what the row lets go. -/
theorem safetyRows : Obligations.SafetyRows := by
  unfold Obligations.SafetyRows
  refine fun s hk => ⟨fun h => ?dpLow, fun h => ?dpHigh, fun h => ?supplyHigh, fun h => ?supplyLow, fun h => ?supplyOver, fun h => ?returnHigh,
    fun r h => ?rackFlow, fun r hact hsince h => ?rackFlowCap, fun r h => ?rackReturn, fun hc ha hd => ?again, fun row z hz ha hb hd => ?release⟩
  case dpLow =>
    refine ⟨_, congrArg Host.Outcome.next (rowAfter_eq hk h), rowStart_inForce (by simp) s, ?_, fun p hp => ?_, fun r _ => ?_, rowStart_changesOnly _ s⟩
    · exact ((startReserve_pumpsOnly _).loop 4).symm ▸ holdLoop_holds 4 .dpLow (started .dpLow s)
    · obtain ⟨huse, hspeed⟩ := startReserve_joins (s := holdLoop 4 .dpLow (started .dpLow s)) (p := p) hp
      exact ⟨huse, hspeed.trans (holdLoop_out 4 .dpLow (started .dpLow s) 0)⟩
    · exact congrArg Rack.cap (State.rack_congr (by simp [rowAct, startReserve_frame, holdLoop_frame, started]) r)
  case dpHigh =>
    have hout := cutSpeed_out (holdLoop 0 .dpHigh (started .dpHigh s))
    have hheld := holdLoop_out 0 .dpHigh (started .dpHigh s)
    refine ⟨_, congrArg Host.Outcome.next (rowAfter_eq hk h), rowStart_inForce (by simp) s, ?_, ?_, fun l hl => ?_, rowStart_changesOnly _ s⟩
    · exact (hout 0).trans ((if_pos rfl).trans (congrArg speedCut (hheld 0)))
    · exact (cutSpeed_holders _ 0).symm ▸ holdLoop_holds 0 .dpHigh (started .dpHigh s)
    · exact (hout l).trans ((if_neg hl).trans (hheld l))
  case supplyHigh =>
    obtain ⟨hout, hheld, hother⟩ := reflexOut_holdLoop 1 (1000 * outUnit) .supplyHigh (started .supplyHigh s)
    exact ⟨_, congrArg Host.Outcome.next (rowAfter_eq hk h), rowStart_inForce (by simp) s, hout, hheld, hother, rowStart_changesOnly _ s⟩
  case supplyLow =>
    obtain ⟨hout, hheld, hother⟩ := reflexOut_holdLoop 1 0 .supplyLow (started .supplyLow s)
    exact ⟨_, congrArg Host.Outcome.next (rowAfter_eq hk h), rowStart_inForce (by simp) s, hout, hheld, hother, rowStart_changesOnly _ s⟩
  case supplyOver =>
    refine ⟨_, congrArg Host.Outcome.next (rowAfter_eq hk h), rowStart_inForce (by simp) s, fun r hr => ?_, rowStart_changesOnly _ s⟩
    exact floorCaps_cap 2 (fun _ => true) { started .supplyOver s with plant.safetyAll := true } hr
  case returnHigh =>
    refine ⟨_, congrArg Host.Outcome.next (rowAfter_eq hk h), rowStart_inForce (by simp) s, fun r hr => ?_, rowStart_changesOnly _ s⟩
    exact cutCaps_cap _ hr
  case rackFlow =>
    refine ⟨_, congrArg Host.Outcome.next (rowAfter_eq hk h), rowStart_inForce (by simp) s, ?_, ?_, fun q hq => ?_, rowStart_changesOnly _ s⟩
    · exact congrArg Rack.pos ((rackOpen_rack r.val _ r.val).trans (if_pos rfl))
    · exact (State.loop_congr (rackOpen_plant _ _) 2).symm ▸ holdLoop_holds 2 (.rackFlow r) (started (.rackFlow r) s)
    · exact (rackOpen_rack r.val _ q).trans (if_neg hq)
  case rackFlowCap =>
    set a := (started (.rackFlowCap r) s).modRack r.val (fun k => { k with safetyFlow := true }) with ha
    have hrack : ∀ q, a.rack q = if q = r.val then { s.rack r.val with safetyFlow := true } else s.rack q := fun q =>
      State.rack_modRack (started (.rackFlowCap r) s) r.val q (fun k => { k with safetyFlow := true })
    have hcap : (a.rack r.val).cap = (s.rack r.val).cap := by rw [hrack, if_pos rfl]
    refine ⟨_, congrArg Host.Outcome.next ((if_pos ⟨hact, hsince⟩).trans (rowAfter_eq hk h)), rowStart_inForce (by simp) s, ?_, fun q hq => ?_,
      rowStart_changesOnly _ s⟩
    · exact (floorCaps_cap 2 (fun q => decide (q = r.val)) a r.isLt).trans ((if_pos (by simp)).trans
        (congrArg (fun c => Nat.min c (floor s r.val)) hcap))
    · exact (floorCaps_rack_other 2 (fun q => decide (q = r.val)) a (by simpa using hq)).trans ((hrack q).trans (if_neg hq))
  case rackReturn =>
    refine ⟨_, congrArg Host.Outcome.next (rowAfter_eq hk h), rowStart_inForce (by simp) s, ?_, fun q hq => ?_, rowStart_changesOnly _ s⟩
    · exact (floorCaps_cap 2 (fun q => decide (q = r.val)) (started (.rackReturn r) s) r.isLt).trans (if_pos (by simp))
    · exact floorCaps_rack_other 2 (fun q => decide (q = r.val)) (started (.rackReturn r) s) (by simpa using hq)
  case again =>
    set a := s.modRow .dpHigh (fun k => { k with lastStep := s.now }) with ha'
    have hrow : a.row .dpHigh = { s.row .dpHigh with lastStep := s.now } := (State.row_modRow ..).trans (if_pos rfl)
    have hexec : exec (.reflexRepeat .dpHigh) s = .next (rowAct .dpHigh a) := if_pos ⟨hk, ha, hc, hd⟩
    have hstart : ChangesOnly [.broker, .free, .log, .motors, .outbox, .plant, .regs, .vcp] s a := fun x hx => by
      cases x <;> simp [Part.Same, a] at hx ⊢
    refine ⟨_, hexec, congrArg RowState.lastStep ((rowAct_row (by simp) a .dpHigh).trans hrow), ?_, changesOnly_trans hstart (rowAct_changesOnly _ a)⟩
    exact (cutSpeed_out (holdLoop 0 .dpHigh a) 0).trans ((if_pos rfl).trans (congrArg speedCut (holdLoop_out 0 .dpHigh a 0)))
  case release =>
    have hpumps := released_pumpsOnly row s
    obtain ⟨hloop, hrow⟩ := rowEnd_loop_row row s
    refine ⟨_, exec_reflexRelease hk hz ha hb hd, ?_, fun l hl => ?_, released_cap row s, released_changesOnly row s⟩
    · rw [hpumps.row, hrow, releaseLoops_row]
      exact congrArg RowState.active ((State.row_modRow ..).trans (if_pos rfl))
    · rw [hpumps.loop, hloop]
      exact ⟨releaseLoops_holders row (ended row s) hl, releaseLoops_out row (ended row s) l⟩

end Sys2Proof.Machine
end

section
/-! R50 to R56, Table 3-4: what a change of the mode keeps, and what it sets. -/

namespace Sys2Proof.Machine

open Sys2Proof Sys2Proof.Safety

/-! ### What the parts of a change of mode keep -/

/-- Of the plant only loops, pumps and rows change, no output moves, no mode event is set, and what was sent stays sent. -/
structure OutsHeld (s t : State) : Prop where
  plant : ∃ ls ps rs, t.plant = { s.plant with loops := ls, pumps := ps, rows := rs }
  out : ∀ l, (t.loop l).out = (s.loop l).out
  events : t.reg U.sys Off.sysModeEvents = s.reg U.sys Off.sysModeEvents
  sent : s.outbox <:+ t.outbox

/-- Besides, no cap changes. -/
structure AllHeld (s t : State) : Prop extends OutsHeld s t where
  cap : ∀ r, (t.rack r).cap = (s.rack r).cap

theorem modeEvents_not_report : (U.sys, Off.sysModeEvents) ∉ reportRegs := by decide

theorem OutsHeld.trans {s t u : State} (h : OutsHeld s t) (k : OutsHeld t u) : OutsHeld s u := by
  obtain ⟨⟨ls, ps, rs, hp⟩, ho, he, hs⟩ := h
  obtain ⟨⟨ls', ps', rs', hp'⟩, ho', he', hs'⟩ := k
  exact ⟨⟨ls', ps', rs', by rw [hp', hp]⟩, fun l => (ho' l).trans (ho l), he'.trans he, hs.trans hs'⟩

theorem OutsHeld.of_plant {s t : State} (hp : t.plant = s.plant) (he : t.reg U.sys Off.sysModeEvents = s.reg U.sys Off.sysModeEvents)
    (ho : s.outbox <:+ t.outbox) : OutsHeld s t :=
  ⟨⟨_, _, _, hp⟩, fun l => congrArg Loop.out (State.loop_congr hp l), he, ho⟩

namespace AllHeld

theorem refl (s : State) : AllHeld s s := ⟨.of_plant rfl rfl (List.suffix_refl _), fun _ => rfl⟩

theorem trans {s t u : State} (h : AllHeld s t) (k : AllHeld t u) : AllHeld s u :=
  ⟨h.toOutsHeld.trans k.toOutsHeld, fun r => (k.cap r).trans (h.cap r)⟩

theorem of_plant {s t : State} (hp : t.plant = s.plant) (hb : t.broker = s.broker)
    (he : t.reg U.sys Off.sysModeEvents = s.reg U.sys Off.sysModeEvents) (ho : s.outbox <:+ t.outbox) : AllHeld s t :=
  ⟨.of_plant hp he ho, fun r => congrArg Rack.cap (State.rack_congr hb r)⟩

theorem ite {c : Prop} [Decidable c] {s a b : State} (ha : AllHeld s a) (hb : AllHeld s b) : AllHeld s (if c then a else b) := by
  split
  · exact ha
  · exact hb

theorem pass {α : Type} {l : List α} {f : α → State → State} {s : State} (hf : ∀ x ∈ l, ∀ a, AllHeld a (f x a)) : AllHeld s (forEach l f s) :=
  forEach_keeps (P := AllHeld s) (refl s) fun x hx a ha => ha.trans (hf x hx a)

theorem modLoop {g : Loop → Loop} (hg : ∀ k, (g k).out = k.out) (l : Nat) (s : State) : AllHeld s (s.modLoop l g) := by
  refine ⟨⟨⟨_, _, _, rfl⟩, fun j => ?_, rfl, List.suffix_refl _⟩, fun _ => rfl⟩
  rw [State.loop_modLoop]
  split
  next h => rw [hg, h]
  next => rfl

theorem modPump (p : Nat) (g : Pump → Pump) (s : State) : AllHeld s (s.modPump p g) :=
  ⟨⟨⟨_, _, _, rfl⟩, fun _ => rfl, rfl, List.suffix_refl _⟩, fun _ => rfl⟩

theorem modRack {g : Rack → Rack} (hg : ∀ k, (g k).cap = k.cap) (r : Nat) (s : State) : AllHeld s (s.modRack r g) := by
  refine ⟨.of_plant rfl rfl (List.suffix_refl _), fun j => ?_⟩
  rw [State.rack_modRack]
  split
  next h => rw [hg, h]
  next => rfl

end AllHeld

section
variable (s : State)

theorem draw_held : AllHeld s s.draw := ⟨.of_plant rfl rfl (List.suffix_refl _), fun _ => rfl⟩

theorem logActionAs_held (type v source action rack : Nat) (old new : Int) (c ra link : BitVec 32) :
    AllHeld s (logActionAs type v source action rack old new c ra link s) :=
  .of_plant (by simp) (by simp) (logActionAs_reg modeEvents_not_report (by decide) ..) (logActionAs_sent (List.suffix_refl _) ..)

theorem logAction_held (v source action rack : Nat) (old new : Int) (c : BitVec 32) : AllHeld s (logAction v source action rack old new c s) :=
  logActionAs_held ..

theorem toPartner_held (i : MirrorItem) : AllHeld s (toPartner i s) :=
  .of_plant (by simp) (by simp) (State.reg_congr (by simp) _ _) (toPartner_sent (List.suffix_refl _) i)

theorem mirrorMode_held : AllHeld s (mirrorMode s) := toPartner_held s _

theorem mirrorMode_plant : (mirrorMode s).plant = s.plant := by simp [mirrorMode]

theorem holdOutputs_held : AllHeld s (holdOutputs s) :=
  (AllHeld.pass fun l _ a => .modLoop (by intro _; rfl) l a).trans (AllHeld.pass fun r _ a => .ite (.refl a) (.modRack (by intro _; rfl) r a))

theorem preemptMotor_held (c : Nat) : AllHeld s (preemptMotor c s) := by
  refine .of_plant (by simp [preemptMotor_frame]) (by simp [preemptMotor_frame]) ?_ (preemptMotor_sent (List.suffix_refl _) c)
  unfold preemptMotor
  split
  · rw [State.reg_setEvent_other _ (by decide) (by decide) (by simp)]
    exact endMotorCmd_reg modeEvents_not_report (by decide) c .denied s
  · rfl

theorem takePumps_held : AllHeld s (takePumps s) := by
  have hadopt : AllHeld s (adoptPumps s) := AllHeld.pass fun p _ a => by
    exact .ite (.modPump p _ a) (.refl a)
  exact hadopt.trans (AllHeld.pass fun c _ a => .ite (preemptMotor_held a c) (.refl a))

theorem clearManual_held (ls : List Nat) : AllHeld s (clearManual ls s) := AllHeld.pass fun l _ a => .modLoop (by intro _; rfl) l a

theorem clearManual_manual {ls : List Nat} {l : Nat} (hl : l ∈ ls) : ((clearManual ls s).loop l).manual = false := by
  refine forEach_sets (P := fun a => (a.loop l).manual = false) (I := fun _ => True) hl trivial (fun _ _ _ _ => trivial) (fun a _ => ?_)
    fun y _ hy a ha => ?_
  · rw [State.loop_modLoop, if_pos rfl]
  · rw [State.loop_modLoop, if_neg (Ne.symm hy)]
    exact ha

theorem piStart_held (l : Nat) : AllHeld s (piStart l s) := by
  unfold piStart
  exact .trans (.modLoop (by intro _; rfl) l s) (.modLoop (by intro _; rfl) l _)

theorem floorCaps_held (source : Nat) (p : Nat → Bool) : OutsHeld s (floorCaps source p s) := by
  refine .of_plant (by simp [floorCaps_frame]) (floorCaps_regsOnly source p s U.sys Off.sysModeEvents (by decide) (by simp) modeEvents_not_report) ?_
  refine forEach_sent (s := s.draw) (upTo 16) _ (fun r a ha => ?_) (List.suffix_refl _)
  split
  · unfold lowerCap
    split
    · exact grantSet_sent (s := a.modRack r _) ha _ _ _ _ _
    · exact ha
  · exact ha

theorem sendGrant_held (r kind : Nat) (raId : BitVec 32) (expected leaves : Time) : AllHeld s (sendGrant r kind raId expected leaves s) := by
  refine ⟨.of_plant (by simp [sendGrant_frame]) (State.reg_congr ?_ _ _) (sendGrant_sent (List.suffix_refl _) _ _ _ _ _),
    fun j => (sendGrant_cap r kind raId expected leaves s j).1⟩
  simp [sendGrant, mirrorRack_frame]

theorem removeProv_held (raId : BitVec 32) (notify : Bool) : AllHeld s (removeProv raId notify s) := by
  unfold removeProv
  dsimp only
  have hlogged := AllHeld.pass (s := s) (l := s.broker.prov.filter (fun p => decide (p.act.raId = raId)))
    (f := fun p a => logActionAs Log.revoke (U.loop p.act.loop.val) 5 Act.provisional 16 p.act.sp 0 0 raId p.logSeq a)
    fun p _ a => logActionAs_held a ..
  refine (fun hY => AllHeld.ite (hY.trans (AllHeld.trans (draw_held _) (AllHeld.pass fun r _ a => .ite (sendGrant_held a ..) (.refl a)))) hY) ?_
  refine AllHeld.trans ?_ (AllHeld.pass fun r _ a => .ite (.modRack (by intro _; rfl) r a) (.refl a))
  exact hlogged.trans ⟨.of_plant rfl rfl (List.suffix_refl _), fun _ => rfl⟩

theorem revokeRa_held (raId : BitVec 32) (notify : Bool) : AllHeld s (revokeRa raId notify s) := by
  unfold revokeRa
  exact .ite ⟨.of_plant rfl rfl (List.suffix_refl _), fun _ => rfl⟩ (removeProv_held s raId notify)

theorem revokeAll_held : AllHeld s (revokeAll s) := AllHeld.pass fun r _ a => revokeRa_held a r true

end

/-! ### The effects of entering a mode -/

/-- `g` sets no loop, pump or row of the plant, and reads none. -/
def PlantMap (g : Plant → Plant) : Prop :=
  ∀ p ls ps rs, g { p with loops := ls, pumps := ps, rows := rs } = { g p with loops := ls, pumps := ps, rows := rs }

/-- The plant changed by `g`. -/
def withPlant (g : Plant → Plant) (s : State) : State := { s with plant := g s.plant }

theorem PlantMap.loops {g : Plant → Plant} (hg : PlantMap g) (p : Plant) : (g p).loops = p.loops :=
  (congrArg Plant.loops (hg p p.loops p.pumps p.rows)).trans rfl

theorem PlantMap.loop {g : Plant → Plant} (hg : PlantMap g) (s : State) (l : Nat) : (withPlant g s).loop l = s.loop l := by
  simp [State.loop, withPlant, hg.loops]

theorem withPlant_reg (g : Plant → Plant) (s : State) (u off : Nat) : (withPlant g s).reg u off = s.reg u off := rfl

theorem withPlant_rack (g : Plant → Plant) (s : State) (r : Nat) : (withPlant g s).rack r = s.rack r := rfl

theorem withPlant_outbox (g : Plant → Plant) (s : State) : (withPlant g s).outbox = s.outbox := rfl

theorem OutsHeld.map {g : Plant → Plant} (hg : PlantMap g) {s t : State} (h : OutsHeld s t) : OutsHeld (withPlant g s) (withPlant g t) := by
  obtain ⟨⟨ls, ps, rs, hp⟩, ho, he, hs⟩ := h
  refine ⟨⟨ls, ps, rs, ?_⟩, fun l => ?_, he, hs⟩
  · exact (congrArg g hp).trans (hg ..)
  · rw [hg.loop, hg.loop, ho]

theorem AllHeld.map {g : Plant → Plant} (hg : PlantMap g) {s t : State} (h : AllHeld s t) : AllHeld (withPlant g s) (withPlant g t) :=
  ⟨h.toOutsHeld.map hg, h.cap⟩

/-- The next tick of the fallback loops is set (R69). -/
def tickSet (t : Time) (p : Plant) : Plant := { p with nextTick := t }

/-- FORCED and the armed return clear (R53). -/
def unforced (p : Plant) : Plant := { p with forced := false, armed := false }

/-- What entering a mode sets of the plant beside its loops, pumps and rows. -/
def enteredPlant (m : Mode) (fb : Bool) (tick : Time) (p : Plant) : Plant :=
  match m with
  | .off => unforced p
  | .commission => unforced p
  | .maintain => unforced p
  | .run => p
  | .fallback => tickSet tick p
  | .isolate => if fb && !p.fbLoops then tickSet tick p else p

/-- The mode, the one before it and the source of the loops are written. -/
def underMode (m prev : Mode) (fb : Bool) (p : Plant) : Plant := { p with mode := m, prevMode := prev, fbLoops := fb }

/-- What a change of mode sets of it (R50, R52). -/
def switchedPlant (m : Mode) (fb : Bool) (tick : Time) (p : Plant) : Plant := underMode m p.mode fb (enteredPlant m fb tick p)

theorem enteredPlant_map (m : Mode) (fb : Bool) (tick : Time) : PlantMap (enteredPlant m fb tick) := by
  intro p ls ps rs
  cases m with
  | isolate =>
    simp only [enteredPlant]
    split <;> rfl
  | _ => rfl

theorem underMode_map (m prev : Mode) (fb : Bool) : PlantMap (underMode m prev fb) := fun _ _ _ _ => rfl

theorem switchedPlant_map (m : Mode) (fb : Bool) (tick : Time) : PlantMap (switchedPlant m fb tick) := fun p ls ps rs => by
  unfold switchedPlant
  rw [enteredPlant_map]
  rfl

theorem restartClean_held (s : State) : AllHeld s (restartClean s) := ⟨.of_plant rfl rfl (List.suffix_refl _), fun _ => rfl⟩

/-- The fallback loops take over where the outputs stand; their first tick is 10 ms away. -/
theorem enterFallbackLoops_held (s : State) : AllHeld (withPlant (tickSet (s.now + 10 * Config.ms)) s) (enterFallbackLoops s) :=
  (((piStart_held s 0).trans (piStart_held _ 1)).map (g := tickSet (s.now + 10 * Config.ms)) fun _ _ _ _ => rfl).trans (restartClean_held _)

/-- Entering a mode that lowers no cap keeps every cap. -/
theorem modeEntry_allHeld {m : Mode} (hoff : m ≠ .off) (hcom : m ≠ .commission) (fb : Bool) (s : State) :
    AllHeld (withPlant (enteredPlant m fb (s.now + 10 * Config.ms)) s) (modeEntry m fb s) := by
  cases m with
  | off => exact absurd rfl hoff
  | commission => exact absurd rfl hcom
  | maintain => exact revokeAll_held (withPlant unforced s)
  | run => exact (takePumps_held s).trans (clearManual_held _ _)
  | fallback =>
    have hnow : (revokeAll s).now = s.now := by simp [revokeAll_frame]
    have henter := enterFallbackLoops_held (revokeAll s)
    rw [hnow] at henter
    exact (((revokeAll_held s).map fun _ _ _ _ => rfl).trans henter).trans (takePumps_held _)
  | isolate =>
    refine AllHeld.trans ?_ (takePumps_held _)
    cases fb with
    | false => exact clearManual_held s _
    | true =>
      show AllHeld _ (if s.plant.fbLoops = true then s else enterFallbackLoops s)
      by_cases hfb : s.plant.fbLoops = true
      · have hsame : withPlant (enteredPlant .isolate true (s.now + 10 * Config.ms)) s = s := by simp [withPlant, enteredPlant, hfb]
        rw [if_pos hfb, hsame]
        exact .refl s
      · have htick : withPlant (enteredPlant .isolate true (s.now + 10 * Config.ms)) s = withPlant (tickSet (s.now + 10 * Config.ms)) s := by
          simp [withPlant, enteredPlant, hfb]
        rw [if_neg hfb, htick]
        exact enterFallbackLoops_held s

theorem modeEntry_off {m : Mode} (hm : m = .off ∨ m = .commission) (fb : Bool) (s : State) :
    modeEntry m fb s = floorCaps 6 (fun _ => true) (withPlant unforced s) := by
  rcases hm with rfl | rfl <;> rfl

theorem modeEntry_held (m : Mode) (fb : Bool) (s : State) :
    OutsHeld (withPlant (enteredPlant m fb (s.now + 10 * Config.ms)) s) (modeEntry m fb s) := by
  by_cases hm : m = .off ∨ m = .commission
  · have hplant : enteredPlant m fb (s.now + 10 * Config.ms) = unforced := by rcases hm with rfl | rfl <;> rfl
    rw [modeEntry_off hm, hplant]
    exact floorCaps_held _ _ _
  · exact (modeEntry_allHeld (fun h => hm (.inl h)) (fun h => hm (.inr h)) fb s).toOutsHeld

/-! ### The change of mode -/

section
variable (source : Nat) (q : BitVec 32) (m : Mode) (fb : Bool) (s : State)

/-- The outputs held, with the record of the change. -/
def beforeMode : State := holdOutputs (logAction U.sys source Act.mode 16 (modeCode s.plant.mode) (modeCode m) q s)

/-- The state of a change of mode before its event. -/
def modeChanged : State :=
  mirrorMode (withPlant (underMode m s.plant.mode fb) (modeEntry m fb (beforeMode source q m s)))

theorem changeMode_eq : changeMode source q m fb s = event U.sys Off.sysModeEvents 0 (modeChanged source q m fb s) := rfl

theorem beforeMode_held : AllHeld s (beforeMode source q m s) := (logAction_held s ..).trans (holdOutputs_held _)

theorem beforeMode_now : (beforeMode source q m s).now = s.now := by simp [beforeMode, holdOutputs_frame]

theorem modeChanged_held : OutsHeld (withPlant (switchedPlant m fb (s.now + 10 * Config.ms)) s) (modeChanged source q m fb s) := by
  have hbefore := beforeMode_held source q m s
  have hentry := modeEntry_held m fb (beforeMode source q m s)
  rw [beforeMode_now] at hentry
  exact (((hbefore.toOutsHeld.map (enteredPlant_map m fb _)).trans hentry).map (underMode_map m s.plant.mode fb)).trans (mirrorMode_held _).toOutsHeld

theorem changeMode_plant : (changeMode source q m fb s).plant = (modeChanged source q m fb s).plant := by rw [changeMode_eq]; simp

/-- R50, R52: mode, previous mode and source of the loops after a change, and what entry set. -/
theorem changeMode_switched : ∃ ls ps rs, (changeMode source q m fb s).plant =
    { switchedPlant m fb (s.now + 10 * Config.ms) s.plant with loops := ls, pumps := ps, rows := rs } := by
  rw [changeMode_plant]
  exact (modeChanged_held source q m fb s).plant

/-- R52: no output jumps. -/
theorem changeMode_out (l : Nat) : ((changeMode source q m fb s).loop l).out = (s.loop l).out := by
  rw [State.loop_congr (changeMode_plant source q m fb s), (modeChanged_held source q m fb s).out, (switchedPlant_map m fb _).loop]

theorem changeMode_events : (changeMode source q m fb s).reg U.sys Off.sysModeEvents = orBit (s.reg U.sys Off.sysModeEvents) 0 := by
  rw [changeMode_eq, event_reg_self modeEvents_not_report (by decide), (modeChanged_held source q m fb s).events, withPlant_reg]

theorem changeMode_sent : s.outbox <:+ (changeMode source q m fb s).outbox := by
  have hsent := (modeChanged_held source q m fb s).sent
  rw [withPlant_outbox] at hsent
  exact event_sent hsent _ _ _

theorem changeMode_cap_kept (hoff : m ≠ .off) (hcom : m ≠ .commission) (r : Nat) : ((changeMode source q m fb s).rack r).cap = (s.rack r).cap := by
  have hevent : (changeMode source q m fb s).broker = (modeChanged source q m fb s).broker := by rw [changeMode_eq]; simp
  rw [State.rack_congr hevent, modeChanged, (mirrorMode_held _).cap, withPlant_rack, (modeEntry_allHeld hoff hcom fb _).cap, withPlant_rack,
    (beforeMode_held source q m s).cap]

/-- R54: OFF and COMMISSION lower every cap to its floor. -/
theorem changeMode_cap_floor (hm : m = .off ∨ m = .commission) {r : Nat} (hr : r < 16) :
    ((changeMode source q m fb s).rack r).cap = Nat.min (s.rack r).cap (floor s r) := by
  have hevent : (changeMode source q m fb s).broker = (modeChanged source q m fb s).broker := by rw [changeMode_eq]; simp
  have hregs : RegsOnly [] s (beforeMode source q m s) := fun u off ho _ hrep =>
    (State.reg_congr (by simp [beforeMode, holdOutputs_frame]) u off).trans (logAction_reg hrep ho U.sys source Act.mode 16
      (modeCode s.plant.mode) (modeCode m) q s)
  have hfloor : ∀ a : State, floor (withPlant unforced a) r = floor a r := fun _ => rfl
  rw [State.rack_congr hevent, modeChanged, (mirrorMode_held _).cap, withPlant_rack, modeEntry_off hm, floorCaps_cap _ _ _ hr, if_pos rfl,
    withPlant_rack, (beforeMode_held source q m s).cap, hfloor, floor_of_regsOnly hregs hr]

end

theorem changeMode_manual (source : Nat) (q : BitVec 32) (fb : Bool) (s : State) {l : Nat} (hl : l < 5) :
    ((changeMode source q .run fb s).loop l).manual = false := by
  rw [State.loop_congr (changeMode_plant source q .run fb s), modeChanged, State.loop_congr (mirrorMode_plant _),
    (underMode_map .run s.plant.mode fb).loop]
  exact clearManual_manual (takePumps (beforeMode source q .run s)) (by simp; omega)

end Sys2Proof.Machine
end

section
/-! R52, R53, R67 to R71: the loss and the return of the engine, and a tick of the fallback loops. -/

namespace Sys2Proof.Machine

open Sys2Proof Sys2Proof.Safety

/-! ### A tick of the fallback loops (R69) -/

theorem approach_bounds (x t : Int) {d : Int} (hd : 0 ≤ d) : x - d ≤ approach x t d ∧ approach x t d ≤ x + d := by
  unfold approach
  split
  · split <;> omega
  · split <;> omega

/-- A scaled value that has moved by at most a scaled step has moved by at most that step. -/
theorem natAbs_ediv_sub_le {v x d sc : Int} (hsc : 0 < sc) (hd : 0 ≤ d) (hlo : x * sc - d * sc ≤ v) (hhi : v ≤ x * sc + d * sc) :
    (v / sc - x).natAbs ≤ d.natAbs := by
  have hle : v / sc ≤ x + d := Int.le_of_lt_add_one ((Int.ediv_lt_iff_lt_mul hsc).2 (by nlinarith))
  have hge : x - d ≤ v / sc := (Int.le_ediv_iff_mul_le hsc).2 (by nlinarith)
  omega

theorem piScale_pos (ti : Nat) : 0 < piScale ti := by
  have h : 1 ≤ Nat.max 1 ti := Nat.le_max_left 1 ti
  simp only [piScale]
  omega

theorem outStep_nonneg (s : State) (l : Nat) : 0 ≤ outStep s l := by
  simp only [outStep]
  omega

section
variable (l : Nat) (s : State)

/-- A tick leaves a held loop, notes a stale input, or writes the loop with an output moved by at most what OUT_RATE allows in its 200
frames (R57, Table 3-10). -/
theorem piTick_cases : piTick l s = s ∨ (s.loop l).holders = [] ∧ (piTick l s = s.setEvent (U.loop l) Off.loopEvents 1
    ∨ ∃ k : Loop, (k.out - (s.loop l).out).natAbs ≤ (outStep s l * 200).natAbs ∧ piTick l s = s.setLoop l k) := by
  unfold piTick
  by_cases hheld : (s.loop l).holders = []
  · refine .inr ⟨hheld, ?_⟩
    rw [if_neg (by simp [hheld])]
    by_cases hstale : (if l = 0 then s.plant.dp.stale else s.plant.supplyT.stale) = true
    · exact .inl (if_pos hstale)
    · refine .inr ⟨_, ?_, if_neg hstale⟩
      have hstep : 0 ≤ outStep s l * 200 := by have := outStep_nonneg s l; omega
      have hsc := piScale_pos (s.loop l).ti
      obtain ⟨hlo, hhi⟩ := approach_bounds ((s.loop l).out * piScale (s.loop l).ti)
        (clampI (outLo s l * piScale (s.loop l).ti) (outHi s l * piScale (s.loop l).ti)
          ((s.loop l).integ + piProp l (s.loop l).kp (s.loop l).ti (piErr s l))) (mul_nonneg hstep hsc.le)
      exact natAbs_ediv_sub_le hsc hstep hlo hhi
  · exact .inl (if_pos (by simpa using hheld))

theorem piTick_loop_other {j : Nat} (hj : j ≠ l) : (piTick l s).loop j = s.loop j := by
  rcases piTick_cases l s with h | ⟨-, h | ⟨k, -, h⟩⟩ <;> rw [h]
  · rfl
  · exact (State.loop_setLoop ..).trans (if_neg hj)

theorem piTick_held (hheld : (s.loop l).holders ≠ []) : piTick l s = s := by
  rcases piTick_cases l s with h | ⟨hnone, -⟩
  · exact h
  · exact absurd hnone hheld

theorem piTick_out : (((piTick l s).loop l).out - (s.loop l).out).natAbs ≤ (outStep s l * 200).natAbs := by
  rcases piTick_cases l s with h | ⟨-, h | ⟨k, hk, h⟩⟩ <;> rw [h]
  · simp
  · simp
  · rwa [State.loop_setLoop, if_pos rfl]

theorem piTick_tick : (piTick l s).plant.nextTick = s.plant.nextTick ∧ (piTick l s).plant.mode = s.plant.mode := by
  rcases piTick_cases l s with h | ⟨-, h | ⟨k, -, h⟩⟩ <;> rw [h] <;> exact ⟨rfl, rfl⟩

theorem piTick_rate (j : Nat) : (piTick l s).reg (U.loop j) Off.loopCtrl = s.reg (U.loop j) Off.loopCtrl := by
  rcases piTick_cases l s with h | ⟨-, h | ⟨k, -, h⟩⟩ <;> rw [h]
  · rw [State.reg_setEvent_other _ (by decide) (by decide) (by simp)]
  · rfl

end

/-- OUT_RATE stands in LOOP_CTRL. -/
theorem outStep_congr {s t : State} {l : Nat} (h : t.reg (U.loop l) Off.loopCtrl = s.reg (U.loop l) Off.loopCtrl) : outStep t l = outStep s l := by
  simp only [outStep, outRate, State.fldOf, h]

/-! ### Bands that come into force (R66) -/

/-- What a new band keeps: the tick, the mode, the outputs with what holds them, the caps, and the rates. -/
structure BandsHeld (s t : State) : Prop where
  tick : t.plant.nextTick = s.plant.nextTick
  mode : t.plant.mode = s.plant.mode
  out : ∀ l, (t.loop l).out = (s.loop l).out
  holders : ∀ l, (t.loop l).holders = (s.loop l).holders
  cap : ∀ r, (t.rack r).cap = (s.rack r).cap
  rate : ∀ l, l < 5 → t.reg (U.loop l) Off.loopCtrl = s.reg (U.loop l) Off.loopCtrl

namespace BandsHeld

theorem refl (s : State) : BandsHeld s s := ⟨rfl, rfl, fun _ => rfl, fun _ => rfl, fun _ => rfl, fun _ _ => rfl⟩

theorem trans {s t u : State} (h : BandsHeld s t) (k : BandsHeld t u) : BandsHeld s u :=
  ⟨k.tick.trans h.tick, k.mode.trans h.mode, fun l => (k.out l).trans (h.out l), fun l => (k.holders l).trans (h.holders l),
    fun r => (k.cap r).trans (h.cap r), fun l hl => (k.rate l hl).trans (h.rate l hl)⟩

theorem of_plant {s t : State} (hp : t.plant = s.plant) (hb : t.broker = s.broker)
    (hr : ∀ l, l < 5 → t.reg (U.loop l) Off.loopCtrl = s.reg (U.loop l) Off.loopCtrl) : BandsHeld s t :=
  ⟨congrArg _ hp, congrArg _ hp, fun l => congrArg _ (State.loop_congr hp l), fun l => congrArg _ (State.loop_congr hp l),
    fun r => congrArg _ (State.rack_congr hb r), hr⟩

theorem ite {c : Prop} [Decidable c] {s a b : State} (ha : BandsHeld s a) (hb : BandsHeld s b) : BandsHeld s (if c then a else b) := by
  split
  · exact ha
  · exact hb

theorem pass {α : Type} {l : List α} {f : α → State → State} {s : State} (hf : ∀ x ∈ l, ∀ a, BandsHeld a (f x a)) : BandsHeld s (forEach l f s) :=
  forEach_keeps (P := BandsHeld s) (refl s) fun x hx a ha => ha.trans (hf x hx a)

theorem modLoop {g : Loop → Loop} (hout : ∀ k, (g k).out = k.out) (hheld : ∀ k, (g k).holders = k.holders) (l : Nat) (s : State) :
    BandsHeld s (s.modLoop l g) := by
  refine ⟨rfl, rfl, fun j => ?_, fun j => ?_, fun _ => rfl, fun _ _ => rfl⟩
  all_goals
    rw [State.loop_modLoop]
    split
    next h => simp [hout, hheld, h]
    next => rfl

theorem modRack {g : Rack → Rack} (hg : ∀ k, (g k).cap = k.cap) (r : Nat) (s : State) : BandsHeld s (s.modRack r g) := by
  refine ⟨rfl, rfl, fun _ => rfl, fun _ => rfl, fun j => ?_, fun _ _ => rfl⟩
  rw [State.rack_modRack]
  split
  next h => rw [hg, h]
  next => rfl

end BandsHeld

theorem loop_not_report {l : Nat} (hl : l < 5) (off : Nat) : (U.loop l, off) ∉ reportRegs :=
  not_report_of_unit (by simp only [U.loop, U.log]; omega) (by simp [U.loop]) off

section
variable (s : State)

theorem logAction_bandsHeld (v source action rack : Nat) (old new : Int) (c : BitVec 32) :
    BandsHeld s (logAction v source action rack old new c s) :=
  .of_plant (by simp) (by simp) fun l hl => logAction_reg (loop_not_report hl _) (by decide) ..

theorem endRequest_bandsHeld (o : Origin) (st : Status) : BandsHeld s (endRequest o st s) :=
  .of_plant (by simp) (by simp) fun l hl => endRequest_reg (loop_not_report hl _) (by decide) o st s

theorem setBand_bandsHeld (u : Nat) {off : Nat} (ho : off < 0x1000) (hne : Off.loopCtrl ≠ off) (v : Word) : BandsHeld s (s.setReg u off v) :=
  .of_plant rfl rfl fun _ _ => State.reg_setReg_other _ _ ho (by decide) fun h => hne h.2

theorem bandEdges_bandsHeld (l : Nat) (mask : BitVec 8) : BandsHeld s (bandEdges l mask s) := by
  have hsp : BandsHeld s (if mask.getLsbD 0 then s.modLoop l (fun k => { k with spEdge := true }) else s) :=
    .ite (.modLoop (by intro _; rfl) (by intro _; rfl) l s) (.refl s)
  unfold bandEdges
  refine .ite (hsp.trans (.pass fun r _ a => .ite (.refl a) (.modRack (by intro _; rfl) r a))) (.ite (hsp.trans ?_) hsp)
  exact .modLoop (by intro _; rfl) (by intro _; rfl) l _

theorem applyBands_bandsHeld : BandsHeld s (applyBands s) := by
  refine BandsHeld.trans (BandsHeld.pass fun e _ a => ?_) ⟨rfl, rfl, fun _ => rfl, fun _ => rfl, fun _ => rfl, fun _ _ => rfl⟩
  obtain ⟨b, o⟩ := e
  have hband : ∀ (c : Bool) (off : Nat) (v : Word) (x : State), off < 0x1000 → Off.loopCtrl ≠ off →
      BandsHeld x (if c then x.setReg (U.loop b.loop.toNat) off v else x) := fun c off v x ho hne =>
    .ite (setBand_bandsHeld x _ ho hne v) (.refl x)
  have hwritten := fun q vsp vout => ((logAction_bandsHeld a (U.loop b.loop.toNat) 6 Act.band 16 0 0 q).trans
    (hband (b.mask.getLsbD 0) Off.loopSpBand vsp _ (by decide) (by decide))).trans (hband (b.mask.getLsbD 1) Off.loopOutBand vout _ (by decide) (by decide))
  cases o with
  | none => exact (hwritten _ _ _).trans (bandEdges_bandsHeld _ _ _)
  | some o => exact ((hwritten _ _ _).trans (bandEdges_bandsHeld _ _ _)).trans (endRequest_bandsHeld _ _ _)

end

/-! ### The loss and the return of the engine -/

/-- What a tick leaves before the common speed goes to the pumps. -/
def ticked (s : State) : State := piTick 1 (piTick 0 (applyBands { s with plant.nextTick := s.plant.nextTick + 10 * Config.ms }))

theorem exec_fallbackTick {s : State} (hk : isKeeper s = true) (hf : s.plant.fbLoops = true) (ht : s.plant.nextTick ≤ s.now) :
    exec .fallbackTick s = .next (pushDuty 2 (ticked s)) := if_pos ⟨hk, hf, ht⟩

section
variable (s : State)

theorem ticked_bands : BandsHeld { s with plant.nextTick := s.plant.nextTick + 10 * Config.ms }
    (applyBands { s with plant.nextTick := s.plant.nextTick + 10 * Config.ms }) := applyBands_bandsHeld _

theorem ticked_loop_other {l : Nat} (h0 : l ≠ 0) (h1 : l ≠ 1) : ((ticked s).loop l).out = (s.loop l).out := by
  unfold ticked
  rw [piTick_loop_other 1 _ h1, piTick_loop_other 0 _ h0]
  exact (ticked_bands s).out l

/-- Each of the two PI loops is moved by its own tick alone. -/
theorem ticked_loop {l : Nat} (hl : l < 2) : ∃ a, (ticked s).loop l = (piTick l a).loop l ∧ (a.loop l).out = (s.loop l).out
    ∧ (a.loop l).holders = (s.loop l).holders ∧ outStep a l = outStep s l := by
  have hbands := ticked_bands s
  have hrate := fun l hl => outStep_congr (l := l) (hbands.rate l hl)
  have hcases : l = 0 ∨ l = 1 := by omega
  rcases hcases with rfl | rfl
  · exact ⟨_, piTick_loop_other 1 _ (by decide), hbands.out 0, hbands.holders 0, hrate 0 (by decide)⟩
  · have hsame := piTick_loop_other 0 (applyBands { s with plant.nextTick := s.plant.nextTick + 10 * Config.ms }) (j := 1) (by decide)
    exact ⟨_, rfl, (congrArg Loop.out hsame).trans (hbands.out 1), (congrArg Loop.holders hsame).trans (hbands.holders 1),
      (outStep_congr (piTick_rate 0 _ 1)).trans (hrate 1 (by decide))⟩

theorem ticked_tick : (ticked s).plant.nextTick = s.plant.nextTick + 10 * Config.ms ∧ (ticked s).plant.mode = s.plant.mode := by
  have hbands := ticked_bands s
  obtain ⟨htick0, hmode0⟩ := piTick_tick 0 (applyBands { s with plant.nextTick := s.plant.nextTick + 10 * Config.ms })
  obtain ⟨htick1, hmode1⟩ := piTick_tick 1 (piTick 0 (applyBands { s with plant.nextTick := s.plant.nextTick + 10 * Config.ms }))
  exact ⟨htick1.trans (htick0.trans hbands.tick), hmode1.trans (hmode0.trans hbands.mode)⟩

theorem ticked_cap (r : Nat) : ((ticked s).rack r).cap = (s.rack r).cap := by
  have hticks : (ticked s).broker = (applyBands { s with plant.nextTick := s.plant.nextTick + 10 * Config.ms }).broker := by
    simp [ticked, piTick_frame]
  exact (congrArg Rack.cap (State.rack_congr hticks r)).trans ((ticked_bands s).cap r)

end

/-- The engine's loss in RUN: the change to FALLBACK, with ENGINE_LOST after a loss. -/
theorem engineFall_run {s : State} (hrun : s.plant.mode = .run) (lost : Bool) : engineFall lost s =
    if lost then (changeMode 2 0 .fallback true s).setEvent U.sys Off.sysModeEvents 2 else changeMode 2 0 .fallback true s := by
  unfold engineFall
  rw [hrun]

/-- Settles O12: the transitions by what a change of mode keeps and sets, the tick by the bound on each PI loop. -/
theorem loopSource : Obligations.LoopSource := by
  unfold Obligations.LoopSource
  refine fun s hk => ⟨fun h => ?withheld, fun h => ?lost, fun lost hrun => ?fall, fun h => ⟨?ask, fun hiso hfb => ?back⟩, fun hf ht => ?tick⟩
  case withheld =>
    refine ⟨_, congrArg Host.Outcome.next (if_pos h), ?_, rfl, fun x hx => ?_⟩
    · simp [engineDown, hk]
    · cases x <;> simp [Part.Same, engineDown] at hx ⊢
  case lost =>
    refine ⟨_, congrArg Host.Outcome.next (if_pos h), ?_, rfl, fun x hx => ?_⟩
    · simp [engineDown, hk]
    · cases x <;> simp [Part.Same, engineDown] at hx ⊢
  case fall =>
    obtain ⟨ls, ps, rs, hplant⟩ := changeMode_switched 2 0 .fallback true s
    have hfall : (engineFall lost s).plant = (changeMode 2 0 .fallback true s).plant := by
      rw [engineFall_run hrun]
      split <;> rfl
    have hevents := changeMode_events 2 0 .fallback true s
    have hbits : (engineFall lost s).reg U.sys Off.sysModeEvents =
        if lost then orBit (orBit (s.reg U.sys Off.sysModeEvents) 0) 2 else orBit (s.reg U.sys Off.sysModeEvents) 0 := by
      rw [engineFall_run hrun]
      cases lost with
      | true => exact (State.reg_setReg_self ..).trans (congrArg (fun w => orBit w 2) hevents)
      | false => exact hevents
    refine ⟨congrArg Plant.mode (hfall.trans hplant), (congrArg Plant.prevMode (hfall.trans hplant)).trans hrun,
      congrArg Plant.fbLoops (hfall.trans hplant), ?_, ?_, fun l _ => ?_, fun x hx => ?_⟩
    · rw [State.bitAt, hbits]
      cases lost <;> simp [bitOf_orBit]
    · rw [State.bitAt, hbits]
      cases lost <;> simp [bitOf_orBit, State.bitAt]
    · exact (congrArg Loop.out (State.loop_congr hfall l)).trans (changeMode_out 2 0 .fallback true s l)
    · cases x <;> simp [Part.Same, engineFall_frame] at hx ⊢
  case ask => exact ⟨_, congrArg Host.Outcome.next (if_pos (by simp [hk, h])), rfl⟩
  case back =>
    have hback : returnEngine s = changeMode 2 0 .run false { s with plant.armed := false } := if_pos ⟨hfb, hiso⟩
    obtain ⟨ls, ps, rs, hplant⟩ := changeMode_switched 2 0 .run false { s with plant.armed := false }
    have hevents := changeMode_events 2 0 .run false { s with plant.armed := false }
    refine ⟨?_, ?_, ?_, ?_, ?_, fun l hl => ⟨?_, ?_⟩, fun x hx => ?_⟩
    · rw [hback]; exact congrArg Plant.mode hplant
    · rw [hback]; exact (congrArg Plant.prevMode hplant).trans hfb
    · rw [hback]; exact congrArg Plant.fbLoops hplant
    · rw [hback]; exact congrArg Plant.armed hplant
    · rw [hback, State.bitAt, hevents]
      simp [bitOf_orBit]
    · rw [hback]; exact changeMode_out 2 0 .run false { s with plant.armed := false } l
    · rw [hback]; exact changeMode_manual 2 0 false _ hl
    · cases x <;> simp [Part.Same, returnEngine_frame] at hx ⊢
  case tick =>
    have hpush := pushDuty_pumpsOnly 2 (ticked s)
    obtain ⟨htick, hmode⟩ := ticked_tick s
    refine ⟨_, exec_fallbackTick hk hf ht, ?_, ?_, fun l hl => ?_, fun l hl hheld => ?_, fun l hl _ => ?_, fun r _ => ?_, fun x hx => ?_⟩
    · obtain ⟨m, hm⟩ := hpush
      exact (congrArg Plant.nextTick hm).trans htick
    · obtain ⟨m, hm⟩ := hpush
      exact (congrArg Plant.mode hm).trans hmode
    · obtain ⟨a, hloop, hout, -, hstep⟩ := ticked_loop s hl
      rw [hpush.loop, hloop, ← hout, ← hstep]
      exact piTick_out l a
    · obtain ⟨a, hloop, hout, hholders, -⟩ := ticked_loop s hl
      rw [hpush.loop, hloop, piTick_held l a (hholders ▸ hheld), hout]
    · rw [hpush.loop]
      exact ticked_loop_other s (by omega) (by omega)
    · rw [State.rack_congr (show (pushDuty 2 (ticked s)).broker = (ticked s).broker by simp [pushDuty_frame])]
      exact ticked_cap s r
    · cases x <;> simp [Part.Same, ticked, pushDuty_frame, piTick_frame, applyBands_frame] at hx ⊢

end Sys2Proof.Machine
end

section
/-! R51 to R54, R64 to R66, R410, R411: MODE_SET and POLICY_SET. -/

namespace Sys2Proof.Machine

open Sys2Proof Sys2Proof.Safety

/-! ### MODE_SET waits for its frame boundary -/

/-- One more MODE_SET waits. -/
def askMode (h : Hdr) (code : Nat) (s : State) : State := { s with plant.modeAsks := s.plant.modeAsks ++ [(h, code)] }

theorem modeSet_waits {h : Hdr} {code : Nat} {e : Session} {s : State} (hs : Served (opModeSet h code) h e s) {m : Mode} (hm : askedMode code = some m) :
    modeSet h code s = askMode h code (touch h e.id s) :=
  vcp_wait rfl hs (if_neg (by simp [hm]))

theorem askMode_touch_changesOnly (h : Hdr) (code : Nat) (sid : BitVec 16) (s : State) :
    ChangesOnly [.plant, .vcp] s (askMode h code (touch h sid s)) := by
  intro p hp
  cases p <;> simp [Part.Same, askMode] at hp ⊢

/-! ### A MODE_SET is judged -/

/-- The mode requests of the frame have been taken up. -/
def unasked (s : State) : State := { s with plant.modeAsks := [] }

section
variable {h : Hdr} {code : Nat} {e : Session} {s : State} (hask : s.plant.modeAsks = [(h, code)])
  (hs : ServedLate (opModeSet h code) h e (unasked s))
include hask

theorem judgeModes_one : judgeModes s = judgeMode h code (unasked s) := by
  unfold judgeModes
  rw [hask]
  rfl

include hs

theorem judgeModes_done {t : State} (hd : deadlineMissed h s.now s.now = false) (hb : modeAnswer code e (originOf h e) (unasked s) = .done s.now [] t) :
    judgeModes s = finish (opModeSet h code) h e.identity .ok 0 s.now [] t := by
  rw [judgeModes_one hask]
  exact vcpLate_done hs hb hd

theorem judgeModes_denied (hb : modeAnswer code e (originOf h e) (unasked s) = .refuse .denied 0) :
    judgeModes s = finish (opModeSet h code) h e.identity .denied 0 0 [] (unasked s) := by
  rw [judgeModes_one hask]
  exact vcpLate_refuse hs hb

theorem judgeModes_accepted {c : Time} {u : Nat} {tag : BitVec 16} {eff : State → State} (ha : Admits h e c s)
    (hb : modeAnswer code e (originOf h e) (unasked s) = .accept c u tag eff []) :
    judgeModes s = eff (accepting (opModeSet h code) h e c u tag eff [] (unasked s)) := by
  have hadmits : Admits h e c (unasked s) := ha
  rw [judgeModes_one hask]
  exact (vcpLate_served hs _).trans ((congrArg (settle _ h e · _) hb).trans (settle_accept hadmits u tag eff []))

end

/-! ### The rows of Table 3-4 -/

/-- The transitions of Table 3-4 that nothing but the request conditions. -/
def plainTable : List (Mode × Mode) :=
  [(.off, .commission), (.off, .maintain), (.commission, .off), (.commission, .maintain), (.run, .maintain), (.run, .off),
   (.fallback, .maintain), (.fallback, .off), (.isolate, .maintain), (.isolate, .off), (.maintain, .off)]

/-- The transitions asked for that the table has no row for. -/
def noRowTable : List (Mode × Mode) :=
  [(.run, .commission), (.fallback, .commission), (.isolate, .commission), (.isolate, .run), (.isolate, .fallback), (.off, .fallback),
   (.commission, .fallback), (.maintain, .fallback)]

theorem plainTable_modes {m n : Mode} (h : (m, n) ∈ plainTable) : n = .off ∨ n = .commission ∨ n = .maintain := by
  simp only [plainTable, List.mem_cons, Prod.mk.injEq, List.not_mem_nil, or_false] at h
  tauto

section
variable {code : Nat} {e : Session} {m : Mode} (o : Origin) {s : State} (hm : askedMode code = some m)
include hm

theorem modeAnswer_plain (h : (s.plant.mode, m) ∈ plainTable) (hrole : m = .commission → e.role = .engineer) :
    modeAnswer code e o s = modeDone m (changeMode 6 o.sequence m false) s := by
  have hok : ¬ (m = .commission ∧ e.role ≠ .engineer) := fun ⟨hc, he⟩ => he (hrole hc)
  have hne : m ≠ s.plant.mode := by
    intro heq
    rw [← heq] at h
    cases m <;> simp [plainTable] at h
  unfold modeAnswer
  rw [hm]
  refine (if_neg hok).trans ((if_neg hne).trans ?_)
  simp only [plainTable, List.mem_cons, Prod.mk.injEq, List.not_mem_nil, or_false] at h
  rcases h with ⟨hold, rfl⟩ | ⟨hold, rfl⟩ | ⟨hold, rfl⟩ | ⟨hold, rfl⟩ | ⟨hold, rfl⟩ | ⟨hold, rfl⟩ | ⟨hold, rfl⟩ | ⟨hold, rfl⟩ | ⟨hold, rfl⟩ | ⟨hold, rfl⟩ | ⟨hold, rfl⟩
  all_goals
    rw [hold]

theorem modeAnswer_noRow (h : (s.plant.mode, m) ∈ noRowTable) : modeAnswer code e o s = .refuse .denied 0 := by
  have hne : m ≠ s.plant.mode := by
    intro heq
    rw [← heq] at h
    cases m <;> simp [noRowTable] at h
  unfold modeAnswer
  rw [hm]
  by_cases hok : m = .commission ∧ e.role ≠ .engineer
  · exact if_pos hok
  · refine (if_neg hok).trans ((if_neg hne).trans ?_)
    simp only [noRowTable, List.mem_cons, Prod.mk.injEq, List.not_mem_nil, or_false] at h
    rcases h with ⟨hold, rfl⟩ | ⟨hold, rfl⟩ | ⟨hold, rfl⟩ | ⟨hold, rfl⟩ | ⟨hold, rfl⟩ | ⟨hold, rfl⟩ | ⟨hold, rfl⟩ | ⟨hold, rfl⟩
    all_goals
      rw [hold]

theorem modeAnswer_same (h : s.plant.mode = m) (hrole : m = .commission → e.role = .engineer) :
    modeAnswer code e o s = .done s.now [] (releaseTrip m s) := by
  have hok : ¬ (m = .commission ∧ e.role ≠ .engineer) := fun ⟨hc, he⟩ => he (hrole hc)
  unfold modeAnswer
  rw [hm]
  exact (if_neg hok).trans (if_pos h.symm)

end

theorem modeAnswer_fallback (e : Session) (o : Origin) {s : State} (h : s.plant.mode = .run) :
    modeAnswer 3 e o s = modeDone .fallback (fun s => changeMode 6 o.sequence .fallback true { s with plant.forced := true }) s := by
  unfold modeAnswer
  rw [h]
  rfl

theorem modeAnswer_run (e : Session) (o : Origin) {s : State} (h : s.plant.mode = .off ∨ s.plant.mode = .maintain) (hc : s.plant.commissioned = true) :
    modeAnswer 2 e o s = runAnswer o s := by
  unfold modeAnswer
  rcases h with h | h <;> rw [h] <;> exact if_pos hc

/-! ### What a judged MODE_SET leaves -/

/-- The parts of the state a change of mode writes. -/
def modeParts : List Part := [.broker, .free, .integ, .log, .motors, .outbox, .plant, .regs, .seqr, .vcp]

theorem unasked_changesOnly (s : State) : ChangesOnly modeParts s (unasked s) := fun x hx => by
  cases x <;> simp [Part.Same, unasked, modeParts] at hx ⊢

theorem changeMode_changesOnly (source : Nat) (q : BitVec 32) (m : Mode) (fb : Bool) (s : State) :
    ChangesOnly modeParts s (changeMode source q m fb s) := fun x hx => by
  cases x <;> simp [Part.Same, changeMode_frame, modeParts] at hx ⊢

theorem releaseTrip_changesOnly (m : Mode) (s : State) : ChangesOnly modeParts s (releaseTrip m s) := fun x hx => by
  cases x <;> simp [Part.Same, releaseTrip_frame, modeParts] at hx ⊢

theorem withPlant_changesOnly (g : Plant → Plant) (s : State) : ChangesOnly modeParts s (withPlant g s) := fun x hx => by
  cases x <;> simp [Part.Same, withPlant, modeParts] at hx ⊢

theorem releaseLoops_held (row : ReflexRow) (s : State) : AllHeld s (releaseLoops row s) :=
  AllHeld.pass fun l _ a => .modLoop (by intro _; rfl) l a

theorem ended_held (row : ReflexRow) (s : State) : AllHeld s (ended row s) :=
  ⟨⟨⟨_, _, _, rfl⟩, fun _ => rfl, rfl, List.suffix_refl _⟩, fun _ => rfl⟩

theorem rowEnd_trip_held (s : State) : AllHeld s (rowEnd .pressureTrip s) := (ended_held .pressureTrip s).trans (releaseLoops_held _ _)

theorem releaseTrip_held (m : Mode) (s : State) : AllHeld s (releaseTrip m s) := .ite (rowEnd_trip_held s) (.refl s)

theorem releaseTrip_inactive {m : Mode} {s : State} (h : (s.row .pressureTrip).active = false) : releaseTrip m s = s :=
  if_neg (by simp [h])

section
variable (n m : Mode) (fb : Bool) (q : BitVec 32) {g : Plant → Plant} (hg : PlantMap g) (s : State)

/-- The change of a MODE_SET that asks for mode n, after the pressure trip it may end. -/
def modeSetChange (g : Plant → Plant) (n m : Mode) (fb : Bool) (q : BitVec 32) (s : State) : State :=
  changeMode 6 q m fb (withPlant g (releaseTrip n s))

theorem modeSetChange_sent : s.outbox <:+ (modeSetChange g n m fb q s).outbox :=
  (releaseTrip_held n s).sent.trans (changeMode_sent 6 q m fb (withPlant g (releaseTrip n s)))

theorem modeSetChange_changesOnly : ChangesOnly modeParts s (modeSetChange g n m fb q s) :=
  changesOnly_trans (changesOnly_trans (releaseTrip_changesOnly n s) (withPlant_changesOnly g _)) (changeMode_changesOnly 6 q m fb _)

theorem modeSetChange_event : (modeSetChange g n m fb q s).bitAt U.sys Off.sysModeEvents 0 = true := by
  rw [State.bitAt, modeSetChange, changeMode_events]
  simp [bitOf_orBit]

theorem modeSetChange_cap_kept (hoff : m ≠ .off) (hcom : m ≠ .commission) (r : Nat) :
    ((modeSetChange g n m fb q s).rack r).cap = (s.rack r).cap := by
  rw [modeSetChange, changeMode_cap_kept _ _ _ _ _ hoff hcom, withPlant_rack, (releaseTrip_held n s).cap]

theorem modeSetChange_cap_floor (hm : m = .off ∨ m = .commission) {r : Nat} (hr : r < 16) :
    ((modeSetChange g n m fb q s).rack r).cap = Nat.min (s.rack r).cap (floor s r) := by
  have hregs : RegsOnly [] s (withPlant g (releaseTrip n s)) := regsOnly_of_regs (by simp [withPlant, releaseTrip_frame])
  rw [modeSetChange, changeMode_cap_floor _ _ _ _ _ hm hr, withPlant_rack, (releaseTrip_held n s).cap, floor_of_regsOnly hregs hr]

include hg

theorem modeSetChange_out (l : Nat) : ((modeSetChange g n m fb q s).loop l).out = (s.loop l).out := by
  rw [modeSetChange, changeMode_out, hg.loop, (releaseTrip_held n s).out]

theorem modeSetChange_plant : ∃ ls ps rs, (modeSetChange g n m fb q s).plant =
    { switchedPlant m fb (s.now + 10 * Config.ms) (g s.plant) with loops := ls, pumps := ps, rows := rs } := by
  obtain ⟨ls, ps, rs, hswitched⟩ := changeMode_switched 6 q m fb (withPlant g (releaseTrip n s))
  obtain ⟨ls', ps', rs', htrip⟩ := (releaseTrip_held n s).plant
  have hnow : (withPlant g (releaseTrip n s)).now = s.now := by simp [withPlant, releaseTrip_frame]
  have hbefore : (withPlant g (releaseTrip n s)).plant = { g s.plant with loops := ls', pumps := ps', rows := rs' } :=
    (congrArg g htrip).trans (hg ..)
  refine ⟨ls, ps, rs, ?_⟩
  rw [modeSetChange, hswitched, hnow, hbefore, switchedPlant_map]

end

theorem exists_append_of_suffix {α : Type} {l m : List α} (h : l <:+ m) : ∃ k, m = k ++ l := by
  obtain ⟨k, hk⟩ := h
  exact ⟨k, hk.symm⟩

section
variable {op : Op} {h : Hdr} {i : Nat} {n m : Mode} {fb : Bool} {q : BitVec 32} {g : Plant → Plant} {s : State}
  (hj : judgeModes s = finish op h i .ok 0 s.now [] (modeSetChange g n m fb q (unasked s)))
include hj

theorem judgeModes_rack (r : Nat) : (judgeModes s).rack r = (modeSetChange g n m fb q (unasked s)).rack r := by
  rw [hj]
  exact State.rack_congr (by simp) r

theorem judgeModes_loop (l : Nat) : (judgeModes s).loop l = (modeSetChange g n m fb q (unasked s)).loop l := by
  rw [hj]
  exact State.loop_congr (by simp) l

/-- R52, R410: what a MODE_SET that changes the mode leaves: the reply, the plant as the change and `g` set it, the outputs, the event. -/
theorem judgeModes_changes (hg : PlantMap g) : Answers h .ok s.now [] s (judgeModes s)
    ∧ (∃ ls ps rs, (judgeModes s).plant =
        { switchedPlant m fb (s.now + 10 * Config.ms) (g (unasked s).plant) with loops := ls, pumps := ps, rows := rs })
    ∧ (judgeModes s).bitAt U.sys Off.sysModeEvents 0 = true ∧ (∀ l, ((judgeModes s).loop l).out = (s.loop l).out)
    ∧ ChangesOnly modeParts s (judgeModes s) := by
  refine ⟨?_, ?_, ?_, fun l => ?_, ?_⟩
  · rw [hj]
    exact finish_sends_from _ _ _ _ _ _ (exists_append_of_suffix (modeSetChange_sent n m fb q (unasked s)))
  · have hplant : (judgeModes s).plant = (modeSetChange g n m fb q (unasked s)).plant := by
      rw [hj]
      simp
    rw [hplant]
    exact modeSetChange_plant n m fb q hg (unasked s)
  · rw [State.bitAt, hj, finish_reg modeEvents_not_report (by decide)]
    exact modeSetChange_event n m fb q (unasked s)
  · rw [judgeModes_loop hj]
    exact modeSetChange_out n m fb q hg (unasked s) l
  · rw [hj]
    exact changesOnly_trans (changesOnly_trans (unasked_changesOnly s) (modeSetChange_changesOnly n m fb q _))
      (changesOnly_mono (finish_changesOnly _ _ _ _ _ _ _ _) (by simp [modeParts]))

end

/-- A MODE_SET that changes nothing but its own waiting: answered, and the plant as it was. -/
theorem finish_unasked (op : Op) (h : Hdr) (i : Nat) (st : Status) (c : Time) (s : State) :
    Answers h st c [] s (finish op h i st 0 c [] (unasked s)) ∧ (finish op h i st 0 c [] (unasked s)).plant = { s.plant with modeAsks := [] }
    ∧ ChangesOnly [.outbox, .plant, .regs, .vcp] s (finish op h i st 0 c [] (unasked s)) := by
  refine ⟨finish_sends_from _ _ _ _ _ _ ⟨[], rfl⟩, by simp [unasked], fun x hx => ?_⟩
  cases x <;> simp [Part.Same, unasked] at hx ⊢

/-! ### POLICY_SET -/

theorem queueBands_plant (o : Origin) (l : List BandEntry) (s : State) :
    ∃ k, (queueBands o l s).plant = { s.plant with bandsNext := s.plant.bandsNext ++ k } ∧ k.map Prod.fst = l := by
  have hsame : (forEach l (fun b a => toPartner (.band b) a) s).plant = s.plant := by simp
  refine ⟨l.zipIdx.map (fun e => (e.1, if e.2 + 1 = l.length then some o else none)), ?_, ?_⟩
  · simp only [queueBands, hsame]
  · simp only [List.map_map, Function.comp_def]
    exact List.zipIdx_map_fst 0 l

theorem queueBands_sent (o : Origin) (l : List BandEntry) (s : State) : s.outbox <:+ (queueBands o l s).outbox :=
  forEach_sent l _ (fun b _ ha => toPartner_sent ha (.band b)) (List.suffix_refl _)

section
variable {h : Hdr} {entries : List BandEntry} {e : Session} {s u : State} (hu : u = touch h e.id s) (hs : Served (opPolicySet h) h e s)
include hu hs

/-- R411: bands that pass their checks wait for their boundary. -/
theorem policySet_accepted (h1 : 1 ≤ entries.length) (h4 : entries.length ≤ 4) (hok : firstBadBand u [] 0 entries = none)
    (ha : Admits h e (bandsBoundary u + Config.gapNs) u) :
    exec (.policySet h entries) s = .next (queueBands (originOf h e) entries (accepting (opPolicySet h) h e (bandsBoundary u + Config.gapNs) 0 0
      (queueBands (originOf h e) entries) [] u)) := by
  have hanswer : policyAnswer entries (originOf h e) u =
      .accept (bandsBoundary u + Config.gapNs) 0 0 (queueBands (originOf h e) entries) := by
    unfold policyAnswer
    rw [if_neg (by omega), hok]
  exact congrArg Host.Outcome.next (vcp_accept hu hs hanswer ha)

/-- R411: a refused POLICY_SET changes nothing but what a reply does. -/
theorem policySet_refused {d : Nat} (hanswer : policyAnswer entries (originOf h e) u = .refuse .badParam d) :
    ∃ t, exec (.policySet h entries) s = .next t
      ∧ Sends (.reply h.version h.opcode h.session h.sequence h.unit.toNat .badParam d 0 []) s t
      ∧ ChangesOnly [.vcp, .outbox, .regs] s t ∧ RegsOnly [] s t := by
  obtain ⟨hsends, hparts, hregs⟩ := vcp_refuse_spec (body := fun e s => policyAnswer entries (originOf h e) s) hu hs hanswer
  exact ⟨_, rfl, hsends, changesOnly_mono hparts (by simp), hregs⟩

end

/-! ### The entry to RUN -/

/-- The plant is commissioned, and its return armed or not (Table 3-4, OFF → RUN). -/
def runEntered (armed : Bool) (p : Plant) : Plant := { p with commissioned := true, armed := armed }

/-- A forced FALLBACK (R53). -/
def forcedPlant (p : Plant) : Plant := { p with forced := true }

theorem enterRun_eq (q : BitVec 32) {s : State} (hiso : s.plant.isolated = 0) {ok : Bool} (hok : s.plant.engineOk = ok) :
    enterRun q s = changeMode 6 q (if ok then .run else .fallback) (!ok) (withPlant (runEntered (!ok)) s) := by
  unfold enterRun
  rw [if_pos hiso, hok]
  cases ok <;> rfl

theorem enterRun_released (q : BitVec 32) {s : State} (hiso : s.plant.isolated = 0) {ok : Bool} (hok : s.plant.engineOk = ok) :
    enterRun q (releaseTrip .run s) = modeSetChange (runEntered (!ok)) .run (if ok then .run else .fallback) (!ok) q s := by
  obtain ⟨ls, ps, rs, hplant⟩ := (releaseTrip_held .run s).plant
  exact enterRun_eq q ((congrArg Plant.isolated hplant).trans hiso) ((congrArg Plant.engineOk hplant).trans hok)

/-- The state of a MODE_SET RUN accepted while the engine does not commit its legs. -/
def armedRun (op : Op) (h : Hdr) (e : Session) (o : Origin) (c : Time) (u : Nat) (eff : State → State) (s : State) : State :=
  markTimed o (enterRun o.sequence (releaseTrip .run (accepting op h e c u 0 eff [] s)))

section
variable (op : Op) (h : Hdr) (e : Session) (o : Origin) (c : Time) (u : Nat) (eff : State → State) {s : State}
  (hiso : s.plant.isolated = 0) (hok : s.plant.engineOk = false)
include hiso hok

theorem armedRun_eq : armedRun op h e o c u eff s =
    markTimed o (modeSetChange (runEntered true) .run .fallback true o.sequence (accepting op h e c u 0 eff [] s)) := by
  unfold armedRun
  rw [enterRun_released o.sequence (s := accepting op h e c u 0 eff [] s) (ok := false) (by simpa using hiso) (by simpa using hok)]
  rfl

theorem armedRun_leaves : Answers h .accepted c [] s (armedRun op h e o c u eff s) ∧ (armedRun op h e o c u eff s).plant.mode = .fallback
    ∧ (armedRun op h e o c u eff s).plant.armed = true ∧ (armedRun op h e o c u eff s).plant.fbLoops = true
    ∧ (∀ l, ((armedRun op h e o c u eff s).loop l).out = (s.loop l).out) ∧ ChangesOnly modeParts s (armedRun op h e o c u eff s) := by
  have hmap : PlantMap (runEntered true) := fun _ _ _ _ => rfl
  set a := accepting op h e c u 0 eff [] s with ha
  obtain ⟨ls, ps, rs, hplant⟩ := modeSetChange_plant .run .fallback true o.sequence hmap a
  have heq : armedRun op h e o c u eff s = markTimed o (modeSetChange (runEntered true) .run .fallback true o.sequence a) :=
    armedRun_eq op h e o c u eff hiso hok
  have hmark : ∀ x, (markTimed o x).plant = x.plant := fun _ => rfl
  have hout : ∀ x, (markTimed o x).outbox = x.outbox := fun _ => rfl
  have hsame : (armedRun op h e o c u eff s).plant = (modeSetChange (runEntered true) .run .fallback true o.sequence a).plant := by
    rw [heq]
    exact hmark _
  have hmode := hsame.trans hplant
  refine ⟨?_, congrArg Plant.mode hmode, congrArg Plant.armed hmode, congrArg Plant.fbLoops hmode, fun l => ?_, ?_⟩
  · rw [heq]
    refine sends_mono (accepting_sends op h e c u 0 eff [] s) ?_
    rw [hout]
    exact exists_append_of_suffix (modeSetChange_sent .run .fallback true o.sequence a)
  · rw [State.loop_congr hsame, modeSetChange_out .run .fallback true o.sequence hmap a]
    exact congrArg Loop.out (State.loop_congr (by simp [a]) l)
  · rw [heq]
    have hacc : ChangesOnly modeParts s a := fun x hx => by cases x <;> simp [Part.Same, a, modeParts] at hx ⊢
    have hstamp : ∀ x, ChangesOnly modeParts x (markTimed o x) := fun x p hp => by cases p <;> simp [Part.Same, modeParts] at hp ⊢
    exact changesOnly_trans hacc (changesOnly_trans (modeSetChange_changesOnly .run .fallback true o.sequence a) (hstamp _))

end

/-! ### Bands accepted -/

theorem queueBands_accepted (o : Origin) (entries : List BandEntry) (op : Op) (h : Hdr) (e : Session) (c : Time) (eff : State → State) (sid : BitVec 16)
    (ho : o = originOf h e) (s : State) :
    Answers h .accepted c [] s (queueBands o entries (accepting op h e c 0 0 eff [] (touch h sid s)))
    ∧ Waits o (queueBands o entries (accepting op h e c 0 0 eff [] (touch h sid s)))
    ∧ (∃ l, (queueBands o entries (accepting op h e c 0 0 eff [] (touch h sid s))).plant =
        { s.plant with bandsNext := s.plant.bandsNext ++ l } ∧ l.map Prod.fst = entries)
    ∧ ChangesOnly [.vcp, .outbox, .plant, .regs] s (queueBands o entries (accepting op h e c 0 0 eff [] (touch h sid s)))
    ∧ RegsOnly [] s (queueBands o entries (accepting op h e c 0 0 eff [] (touch h sid s))) := by
  have hvcp : ∀ a, (queueBands o entries a).vcp = a.vcp := fun a => by simp [queueBands_frame]
  have hregs : ∀ a, (queueBands o entries a).regs = a.regs := fun a => by simp [queueBands_frame]
  refine ⟨?_, ?_, ?_, fun x hx => ?_, fun v off hoff _ hrep => ?_⟩
  · exact sends_from (sends_mono (accepting_sends op h e c 0 0 eff [] (touch h sid s)) (exists_append_of_suffix (queueBands_sent o entries _)))
      (touch_outbox ..)
  · unfold Waits
    rw [hvcp, ho]
    exact accepting_waits op h e c 0 0 eff [] (touch h sid s)
  · have hplant : (accepting op h e c 0 0 eff [] (touch h sid s)).plant = s.plant := by simp
    obtain ⟨l, hl, hfst⟩ := queueBands_plant o entries (accepting op h e c 0 0 eff [] (touch h sid s))
    exact ⟨l, by rw [hl, hplant], hfst⟩
  · cases x <;> simp [Part.Same, queueBands_frame] at hx ⊢
  · rw [State.reg_congr (hregs _), accepting_reg hrep hoff]
    exact State.reg_congr (by simp) v off

/-- Settles O11: the request waits, is judged at its boundary by the row of Table 3-4 that its mode and the present one pick, and leaves
what a change of mode keeps and sets; the bands wait or are refused. -/
theorem modeAndPolicy : Obligations.ModeAndPolicy := by
  unfold Obligations.ModeAndPolicy
  refine ⟨⟨fun h code e s u hu hs => ?wait, fun up s hstep => ?judge, fun h code e s hask hs hd => ?judged⟩,
    fun h entries e s u hu hs => ⟨fun h1 h4 => ⟨fun hok ha => ?accepted, fun k hk => ?bad⟩, fun hn => ?none⟩⟩
  case wait =>
    subst hu
    refine ⟨fun m hm => ?_, fun hcode => ?_, fun hm => ?_⟩
    · exact ⟨_, congrArg Host.Outcome.next (modeSet_waits hs hm), by simp [askMode], rfl, askMode_touch_changesOnly h code.toNat e.id s⟩
    · subst hcode
      exact ⟨_, congrArg Host.Outcome.next (modeSet_waits hs (m := .fallback) rfl), by simp [askMode], rfl, askMode_touch_changesOnly h 3 e.id s⟩
    · have hbody : modeAsk h code.toNat (touch h e.id s) = .refuse .badParam 0 := if_pos (by simp [hm])
      obtain ⟨hsends, hparts, hregs⟩ := vcp_refuse_spec (body := fun _ s => modeAsk h code.toNat s) rfl hs hbody
      exact ⟨_, rfl, hsends, changesOnly_mono hparts (by simp), hregs⟩
  case judge =>
    show execCardBusFrame up s = _
    unfold execCardBusFrame
    exact if_neg hstep
  case judged =>
    change ServedLate (opModeSet h code) h e (unasked s) at hs
    refine ⟨fun m hm hcode hrole => ?plain, fun hrun hcode => ?fallback, fun hold hcom hiso hcode => ⟨fun hok => ?run, fun hok ha => ?arm⟩,
      fun m hcode hm hrole htrip => ?same, fun m hcode hm => ?noRow⟩
    case plain =>
      have hj : judgeModes s = finish (opModeSet h code) h e.identity .ok 0 s.now [] (modeSetChange id m m false (originOf h e).sequence (unasked s)) :=
        judgeModes_done hask hs hd (modeAnswer_plain (originOf h e) hcode (s := unasked s) hm hrole)
      obtain ⟨hanswer, ⟨ls, ps, rs, hplant⟩, hevent, hout, hparts⟩ := judgeModes_changes hj fun _ _ _ _ => rfl
      have hclears : (judgeModes s).plant.forced = false ∧ (judgeModes s).plant.armed = false ∧ (judgeModes s).plant.modeAsks = [] := by
        rw [hplant]
        rcases plainTable_modes hm with rfl | rfl | rfl <;> exact ⟨rfl, rfl, rfl⟩
      refine ⟨hanswer, congrArg Plant.mode hplant, ?_, hclears.1, hclears.2.1, congrArg Plant.fbLoops hplant, hevent, fun l _ => hout l,
        fun r hr => ?_, hclears.2.2, hparts⟩
      · exact (congrArg Plant.prevMode hplant).trans (by rcases plainTable_modes hm with rfl | rfl | rfl <;> rfl)
      · rw [judgeModes_rack hj]
        by_cases hlow : m = .off ∨ m = .commission
        · rw [if_pos hlow]
          exact modeSetChange_cap_floor m m false _ (unasked s) hlow hr
        · rw [if_neg hlow]
          exact modeSetChange_cap_kept m m false _ (unasked s) (fun h => hlow (.inl h)) (fun h => hlow (.inr h)) r
    case fallback =>
      subst hcode
      have hj : judgeModes s = finish (opModeSet h 3) h e.identity .ok 0 s.now []
          (modeSetChange forcedPlant .fallback .fallback true (originOf h e).sequence (unasked s)) :=
        judgeModes_done hask hs hd (modeAnswer_fallback e (originOf h e) (s := unasked s) hrun)
      obtain ⟨hanswer, ⟨ls, ps, rs, hplant⟩, hevent, hout, hparts⟩ := judgeModes_changes hj fun _ _ _ _ => rfl
      refine ⟨hanswer, congrArg Plant.mode hplant, (congrArg Plant.prevMode hplant).trans hrun, congrArg Plant.forced hplant,
        congrArg Plant.fbLoops hplant, congrArg Plant.nextTick hplant, hevent, fun l _ => hout l, fun r _ => ?_, hparts⟩
      rw [judgeModes_rack hj]
      exact modeSetChange_cap_kept .fallback .fallback true _ (unasked s) (by decide) (by decide) r
    case run =>
      subst hcode
      have hdone : runAnswer (originOf h e) (unasked s) =
          .done s.now [] (modeSetChange (runEntered false) .run .run false (originOf h e).sequence (unasked s)) :=
        (if_pos hok).trans (congrArg (Answer.done s.now []) (enterRun_released (originOf h e).sequence (s := unasked s) (ok := true) hiso hok))
      have hj := judgeModes_done hask hs hd ((modeAnswer_run e (originOf h e) (s := unasked s) hold hcom).trans hdone)
      obtain ⟨hanswer, ⟨ls, ps, rs, hplant⟩, -, hout, hparts⟩ := judgeModes_changes hj fun _ _ _ _ => rfl
      refine ⟨hanswer, congrArg Plant.mode hplant, congrArg Plant.fbLoops hplant, fun l hl => ?_, fun l _ => hout l, hparts⟩
      rw [judgeModes_loop hj]
      exact changeMode_manual 6 _ false _ hl
    case arm =>
      subst hcode
      have haccept : runAnswer (originOf h e) (unasked s) = modeAccept (originOf h e) .run (enterRun (originOf h e).sequence) (unasked s) :=
        if_neg (by simp [unasked, hok])
      rw [judgeModes_accepted hask hs ha ((modeAnswer_run e (originOf h e) (s := unasked s) hold hcom).trans haccept)]
      obtain ⟨hanswer, hmode, harmed, hloops, hout, hparts⟩ := armedRun_leaves (opModeSet h 2) h e (originOf h e) (s.now + Config.gapNs) U.sys
        (fun s => markTimed (originOf h e) (enterRun (originOf h e).sequence (releaseTrip .run s))) (s := unasked s) hiso hok
      exact ⟨sends_from hanswer rfl, hmode, harmed, hloops, fun l _ => hout l, changesOnly_trans (unasked_changesOnly s) hparts⟩
    case same =>
      have hj := judgeModes_done hask hs hd ((modeAnswer_same (originOf h e) hcode (s := unasked s) hm hrole).trans
        (congrArg (Answer.done s.now []) (releaseTrip_inactive htrip)))
      rw [hj]
      exact finish_unasked ..
    case noRow =>
      rw [judgeModes_denied hask hs (modeAnswer_noRow (originOf h e) hcode (s := unasked s) hm)]
      exact finish_unasked ..
  case accepted =>
    subst hu
    exact ⟨_, policySet_accepted rfl hs h1 h4 hok ha, queueBands_accepted _ _ _ _ _ _ _ _ rfl _⟩
  case bad =>
    refine policySet_refused hu hs ?_
    unfold policyAnswer
    rw [if_neg (by omega), hk]
  case none =>
    exact policySet_refused hu hs (if_pos (by omega))

end Sys2Proof.Machine
end

section
/-! R67, R191, R204, R219: what the work of a leg boundary keeps of the plant and of the withheld legs' count and event. -/

namespace Sys2Proof.Machine

open Sys2Proof Sys2Proof.Safety

/-! ### No output jumps -/

/-- No output moves, and the mode stays. -/
structure OutsStill (s t : State) : Prop where
  out : ∀ l, (t.loop l).out = (s.loop l).out
  mode : t.plant.mode = s.plant.mode

theorem OutsHeld.still {s t : State} (h : OutsHeld s t) : OutsStill s t := by
  obtain ⟨⟨ls, ps, rs, hp⟩, ho, -, -⟩ := h
  exact ⟨ho, by rw [hp]⟩

namespace OutsStill

theorem refl (s : State) : OutsStill s s := ⟨fun _ => rfl, rfl⟩

theorem trans {s t u : State} (h : OutsStill s t) (k : OutsStill t u) : OutsStill s u :=
  ⟨fun l => (k.out l).trans (h.out l), k.mode.trans h.mode⟩

theorem of_loops {s t : State} (hl : t.plant.loops = s.plant.loops) (hm : t.plant.mode = s.plant.mode) : OutsStill s t :=
  ⟨fun l => by simp [State.loop, hl], hm⟩

theorem of_plant {s t : State} (hp : t.plant = s.plant) : OutsStill s t := of_loops (congrArg _ hp) (congrArg _ hp)

theorem ite {c : Prop} [Decidable c] {s a b : State} (ha : OutsStill s a) (hb : OutsStill s b) : OutsStill s (if c then a else b) := by
  split
  · exact ha
  · exact hb

theorem pass {α : Type} {l : List α} {f : α → State → State} {s : State} (hf : ∀ x a, OutsStill a (f x a)) : OutsStill s (forEach l f s) :=
  forEach_keeps (P := OutsStill s) (refl s) fun x _ a ha => ha.trans (hf x a)

theorem modLoop {g : Loop → Loop} (hg : ∀ k, (g k).out = k.out) (l : Nat) (s : State) : OutsStill s (s.modLoop l g) :=
  (AllHeld.modLoop hg l s).still

theorem setLoop {k : Loop} {l : Nat} {s : State} (hk : k.out = (s.loop l).out) : OutsStill s (s.setLoop l k) := by
  refine ⟨fun j => ?_, rfl⟩
  rw [State.loop_setLoop]
  split
  next h => rw [hk, h]
  next => rfl

theorem of_pumpsOnly {s t : State} (h : PumpsOnly s t) : OutsStill s t := by
  obtain ⟨m, hm⟩ := h
  exact of_loops (by rw [hm]) (by rw [hm])

end OutsStill

/-! ### The release of a leg (R191) -/

section
variable (s : State)

theorem bindLoop_still (l : Nat) : OutsStill s (bindLoop l s) := by
  have hbound : OutsStill s (s.setLoop l { s.loop l with policyBound := true, insideSince := none }) := .setLoop rfl
  exact .ite hbound (hbound.trans (.of_plant (by rfl)))

theorem demand_still (l : Nat) (sp out : Int) : OutsStill s (demand l sp out s) := by
  unfold demand
  dsimp only
  refine OutsStill.trans (.ite (.setLoop ?_) (bindLoop_still s l)) (.modLoop ?_ l _)
  · rfl
  · exact fun _ => rfl

theorem heldResult_still (l : Nat) (out : Int) : OutsStill s (heldResult l out s) := by
  unfold heldResult
  refine .ite (.refl s) (OutsStill.trans (t := s.setLoop l { s.loop l with droppedValue := some out }) (.setLoop rfl) (.of_plant ?_))
  simp

theorem applyLoop_still (e : Fin 5 × Int × Int) : OutsStill s (applyLoop e s) := by
  have hdemand := demand_still s e.1.val e.2.1 e.2.2
  unfold applyLoop
  exact .ite (.refl s) (.ite hdemand (.ite (hdemand.trans (heldResult_still _ _ _))
    (.ite (hdemand.trans (.of_plant rfl)) (hdemand.trans (.modLoop (by intro _; rfl) _ _)))))

theorem applyPosition_still (e : Fin 16 × Nat) : OutsStill s (applyPosition e s) := by
  have hband : OutsStill s (if insideBand (outLo s 2) (outHi s 2) ((e.2 : Int) * outUnit) then s else bindLoop 2 s) :=
    .ite (.refl s) (bindLoop_still s 2)
  unfold applyPosition
  refine .ite (hband.trans (.of_plant ?_)) (.ite hband (.ite (hband.trans (.of_plant rfl)) (hband.trans (.of_plant rfl))))
  simp [heldRack_frame]

theorem stageUp_still (source : Nat) : OutsStill s (stageUp source s) := by
  cases hp : idlePump s with
  | some p =>
    rw [stageUp_joins source hp]
    exact (OutsStill.of_pumpsOnly (joinDuty_pumpsOnly _ _ _)).trans (.modLoop (by intro _; rfl) _ _)
  | none =>
    simp only [stageUp, hp]
    refine .ite (.refl s) (OutsStill.trans (t := s.modLoop 0 fun k => { k with capacityBound := true }) (.modLoop ?_ 0 s) (.of_plant rfl))
    exact fun _ => rfl

theorem leaveDuty_still (source p : Nat) (use : PumpUse) : OutsStill s (leaveDuty source p use s) :=
  .of_loops (by rw [leaveDuty_plant]; rfl) (by rw [leaveDuty_plant]; rfl)

theorem stageDown_still : OutsStill s (stageDown s) := by
  unfold stageDown
  refine .ite ?_ (.refl s)
  split
  · exact leaveDuty_still _ _ _ _
  · exact .refl s

theorem startRotation_still : OutsStill s (startRotation s) := by
  unfold startRotation
  split
  next p _ => exact OutsStill.trans (t := runUp p s) (.of_loops rfl rfl) (.of_pumpsOnly (pumpSpeed_pumpsOnly 4 p _ _))
  next => exact .refl s

theorem exchanged_still (p : Nat) : OutsStill s (exchanged p s) :=
  ⟨fun l => congrArg Loop.out (exchanged_loop p s l), by rw [exchanged_plant]; rfl⟩

theorem swapReserve_still : OutsStill s (swapReserve s) := by
  unfold swapReserve
  split
  next p _ =>
    refine .ite (.of_loops rfl rfl) ?_
    have hjoined := exchanged_still s p
    cases hrest : mostOf s (fun k => k.sinceRest) with
    | some q => exact hjoined.trans (leaveDuty_still _ _ _ _)
    | none => exact hjoined
  next => exact .refl s

theorem commitStaging_still (d : Machine.Staging) : OutsStill s (commitStaging d s) := by
  unfold commitStaging
  refine .ite (.of_plant (by simp)) ?_
  cases d with
  | up =>
    have hmarked : ∀ a : State, OutsStill a (markStaged a) := fun _ => .of_plant rfl
    have hrestart : OutsStill s (restartFast s) := .of_loops rfl rfl
    exact hrestart.trans ((stageUp_still _ _).trans (hmarked _))
  | down => exact OutsStill.trans (t := restartSlow s) (.of_loops rfl rfl) (stageDown_still _)
  | rotate => exact startRotation_still s
  | swap => exact swapReserve_still s

theorem actRack_still (p : ProvAction) (r : Nat) : OutsStill s (actRack p r s) :=
  .ite (.refl s) (.ite (.of_plant (by simp)) (.of_plant rfl))

theorem actProv_still (p : ProvAction) (old : Option Provisional) : OutsStill s (actProv p old s) := by
  have hmarked : ∀ a : State, OutsStill a (markStaged a) := fun _ => .of_plant rfl
  have hbound : OutsStill s (if provBinds p s then bindLoop p.loop.val s else s) := .ite (bindLoop_still s _) (.refl s)
  unfold actProv
  exact .ite (hbound.trans (.pass fun r a => actRack_still a p r)) (.ite (hbound.trans ((stageUp_still _ _).trans (hmarked _))) hbound)

theorem applyProv_still (p : ProvAction) : OutsStill s (applyProv p s) := by
  have hrecord : OutsStill s (if (oldProv p s).map (·.act) = some p then s else recordProv p (oldProv p s) s) :=
    .ite (.refl s) (.of_plant (by simp [recordProv_frame]))
  have hstored := fun fresh => (hrecord.trans (u := storeProv p (oldProv p s) fresh _) (.of_plant rfl)).trans
    (actProv_still _ p (oldProv p s))
  have hnotice : ∀ (fresh : BitVec 16) (a : State), OutsStill a (noticeProv p fresh a) := fun _ _ => .of_plant (by simp [noticeProv_frame])
  unfold applyProv
  exact .ite (.refl s) (.ite (hstored _) ((hstored _).trans (hnotice _ _)))

/-- The committed results of a leg move targets, not outputs. -/
theorem applyOut_still (o : EngineOut) : OutsStill s (applyOut o s) := by
  have hloops : OutsStill s (forEach o.loops applyLoop s) := .pass fun e a => applyLoop_still a e
  have hplaces := fun a => OutsStill.pass (l := o.positions) (f := applyPosition) (s := a) fun e a => applyPosition_still a e
  have hheat := fun a => OutsStill.pass (l := o.unserved) (f := applyUnserved) (s := a) fun e a => .modLoop (by intro _; rfl) _ a
  have hrooms := fun a => OutsStill.pass (l := o.capacity) (f := fun e a => a.modRack e.1.val (fun k => { k with confirmed := e.2 })) (s := a)
    fun _ _ => .of_plant rfl
  have hgone := fun a => OutsStill.pass (l := o.withdraw) (f := fun id a => revokeRa id true a) (s := a)
    fun id a => (revokeRa_held a id true).still
  have hprov := fun a => OutsStill.pass (l := o.prov) (f := applyProv) (s := a) fun p a => applyProv_still a p
  have hasks : ∀ a : State, OutsStill a (askCaps o.want a) := fun a => .of_plant (by simp [askCaps_frame])
  unfold applyOut
  refine ((((((hloops.trans (hplaces _)).trans (hheat _)).trans (.of_loops ?_ ?_)).trans (hrooms _)).trans (hgone _)).trans (hprov _)).trans (hasks _)
  · rfl
  · rfl

theorem withhold_still (r : LegRec) : OutsStill s (withhold r s) := by
  have hnote : ∀ (c : Prop) [Decidable c] (a b : State), a.plant.loops = b.plant.loops → a.plant.mode = b.plant.mode →
      OutsStill b (if c then holdOutputs a else a) := fun c _ a b hl hm =>
    (OutsStill.of_loops hl hm).trans (.ite (holdOutputs_held a).still (.refl a))
  unfold withhold
  refine OutsStill.trans (hnote _ _ s ?_ ?_) (.of_plant (by rfl))
  all_goals
    dsimp only
    split <;> rfl

theorem releaseLeg_still (r : LegRec) : OutsStill s (releaseLeg r s) := by
  have hstaged := fun a => OutsStill.pass (l := r.staging) (f := commitStaging) (s := a) fun d a => commitStaging_still a d
  have hlogged := fun a => OutsStill.pass (l := r.satTensors)
    (f := fun t a => logSubmit true false Log.saturated 16 a.now (.words [t, r.leg]) a) (s := a) fun _ a => .of_plant (by simp)
  unfold releaseLeg
  refine .ite ((((OutsStill.of_loops ?_ ?_).trans (applyOut_still _ _)).trans (hstaged _)).trans (hlogged _)) (.of_loops rfl rfl)
  · rfl
  · rfl

theorem releaseDue_still (r : LegRec) : OutsStill s (releaseDue r s) := .ite (releaseLeg_still s r) (withhold_still s r)

theorem closeLeg_still (n : Nat) : OutsStill s (closeLeg n s) := .of_plant (by simp [closeLeg_frame])

theorem endRotation_still : OutsStill s (endRotation s) := .of_plant (by simp [endRotation_frame])

theorem releaseAt_still (m : Nat) : OutsStill s (releaseAt m s) := by
  have hclosed := closeLeg_still s (m - 2)
  unfold releaseAt
  refine .ite (.refl s) ?_
  dsimp only
  split
  · exact .ite hclosed (hclosed.trans (releaseDue_still _ _))
  · exact hclosed

end

/-! ### What follows the release of a withheld leg keeps -/

/-- No output moves, a lost engine stays lost, no event of the traverse clears, and the count of withheld legs stays. -/
structure LegHeld (s t : State) : Prop extends OutsStill s t where
  engine : s.plant.engineOk = false → t.plant.engineOk = false
  events : ∀ i, s.bitAt U.hub Off.trvEvents i = true → t.bitAt U.hub Off.trvEvents i = true
  withheld : t.reg U.hub Off.trvWithheld = s.reg U.hub Off.trvWithheld

theorem hub_not_report (off : Nat) : (U.hub, off) ∉ reportRegs := not_report_of_unit (by decide) (by decide) off

namespace LegHeld

theorem refl (s : State) : LegHeld s s := ⟨.refl s, id, fun _ => id, rfl⟩

theorem trans {s t u : State} (h : LegHeld s t) (k : LegHeld t u) : LegHeld s u :=
  ⟨h.toOutsStill.trans k.toOutsStill, fun e => k.engine (h.engine e), fun i e => k.events i (h.events i e), k.withheld.trans h.withheld⟩

theorem of_hub {s t : State} (hs : OutsStill s t) (he : s.plant.engineOk = false → t.plant.engineOk = false)
    (hr : ∀ off, off < 0x1000 → t.reg U.hub off = s.reg U.hub off) : LegHeld s t :=
  ⟨hs, he, fun i h => by rw [State.bitAt, hr _ (by decide)]; exact h, hr _ (by decide)⟩

theorem of_plant {s t : State} (hp : t.plant = s.plant) (hr : ∀ off, off < 0x1000 → t.reg U.hub off = s.reg U.hub off) : LegHeld s t :=
  .of_hub (.of_plant hp) (fun e => by rw [hp]; exact e) hr

theorem of_same {s t : State} (hp : t.plant = s.plant) (hr : t.regs = s.regs) : LegHeld s t :=
  .of_plant hp fun off _ => State.reg_congr hr _ off

theorem ite {c : Prop} [Decidable c] {s a b : State} (ha : LegHeld s a) (hb : LegHeld s b) : LegHeld s (if c then a else b) := by
  split
  · exact ha
  · exact hb

theorem pass {α : Type} {l : List α} {f : α → State → State} {s : State} (hf : ∀ x a, LegHeld a (f x a)) : LegHeld s (forEach l f s) :=
  forEach_keeps (P := LegHeld s) (refl s) fun x _ a ha => ha.trans (hf x a)

theorem setReg (u : Nat) {off : Nat} (ho : off < 0x1000) (hev : off ≠ Off.trvEvents) (hwh : off ≠ Off.trvWithheld) (v : Word) (s : State) :
    LegHeld s (s.setReg u off v) := by
  refine ⟨.of_plant rfl, id, fun i h => ?_, State.reg_setReg_other _ _ ho (by decide) fun h => hwh h.2.symm⟩
  rw [State.bitAt, State.reg_setReg_other _ _ ho (by decide) fun h => hev h.2.symm]
  exact h

theorem setEvent (u : Nat) {off n : Nat} (ho : off < 0x1000) (hwh : off ≠ Off.trvWithheld) (hn : n < 32) (s : State) :
    LegHeld s (s.setEvent u off n) :=
  ⟨.of_plant rfl, id, fun _ h => State.bitAt_setEvent_mono s hn h, State.reg_setEvent_other _ ho (by decide) fun h => hwh h.2.symm⟩

end LegHeld

theorem OutsHeld.legHeld {s t : State} (h : OutsHeld s t) (hr : ∀ off, off < 0x1000 → t.reg U.hub off = s.reg U.hub off) : LegHeld s t := by
  obtain ⟨ls, ps, rs, hp⟩ := h.plant
  exact .of_hub h.still (fun e => by rw [hp]; exact e) hr

section
variable (s : State)

theorem endRequest_legHeld (o : Origin) (st : Status) : LegHeld s (endRequest o st s) :=
  .of_plant (by simp) fun off ho => endRequest_reg (hub_not_report off) ho o st s

theorem logActionAs_legHeld (type v source action rack : Nat) (old new : Int) (c ra link : BitVec 32) :
    LegHeld s (logActionAs type v source action rack old new c ra link s) :=
  .of_plant (by simp) fun off ho => logActionAs_reg (hub_not_report off) ho ..

theorem seqr_legHeld (q : Seqr) : LegHeld s { s with seqr := q } := .of_same rfl rfl

theorem integ_legHeld (g : Integ) : LegHeld s { s with integ := g } := .of_same rfl rfl

theorem copies_legHeld (c : Copies) : LegHeld s { s with copies := c } := .of_same rfl rfl

theorem tellHall_legHeld (payload : List Nat) : LegHeld s (tellHall payload s) := .of_same (by simp [tellHall_frame]) (by simp [tellHall_frame])

theorem askHandover_legHeld : LegHeld s (askHandover s) := .of_same (by simp [askHandover_frame]) (by simp [askHandover_frame])

theorem markCkpt_legHeld (p : Ckpt → Bool) (st : Nat) : LegHeld s (markCkpt p st s) := .of_same rfl rfl

theorem setDies_legHeld (active : Bool) : LegHeld s (setDies active s) := .of_same (by simp [setDies_frame]) (by simp [setDies_frame])

theorem engineDown_legHeld (lost : Bool) : LegHeld s (engineDown lost s) := .of_hub (.of_loops rfl rfl) (fun _ => rfl) fun _ _ => rfl

/-! ### Boundary work -/

theorem setBand_legHeld (l : Nat) {off : Nat} (ho : off < 0x100) (v : Word) (hev : off ≠ Off.trvEvents) (hwh : off ≠ Off.trvWithheld) :
    LegHeld s (s.setReg (U.loop l) off v) := .setReg _ (by omega) hev hwh v s

theorem bandEdges_held (l : Nat) (mask : BitVec 8) : AllHeld s (bandEdges l mask s) := by
  have hsp : AllHeld s (if mask.getLsbD 0 then s.modLoop l (fun k => { k with spEdge := true }) else s) :=
    .ite (.modLoop (by intro _; rfl) l s) (.refl s)
  unfold bandEdges
  refine .ite (hsp.trans (.pass fun r _ a => .ite (.refl a) (.modRack (by intro _; rfl) r a))) (.ite (hsp.trans ?_) hsp)
  exact .modLoop (by intro _; rfl) l _

theorem applyBands_legHeld : LegHeld s (applyBands s) := by
  refine LegHeld.trans (LegHeld.pass fun e a => ?_) (.of_hub (.of_loops rfl rfl) id fun _ _ => rfl)
  obtain ⟨b, o⟩ := e
  have hband : ∀ (c : Bool) (off : Nat) (v : Word) (x : State), off < 0x100 → off ≠ Off.trvEvents → off ≠ Off.trvWithheld →
      LegHeld x (if c then x.setReg (U.loop b.loop.toNat) off v else x) := fun c off v x ho hev hwh =>
    .ite (setBand_legHeld x _ ho v hev hwh) (.refl x)
  have hedges : ∀ x : State, LegHeld x (bandEdges b.loop.toNat b.mask x) := fun x =>
    (bandEdges_held x _ _).legHeld fun off _ => State.reg_congr (by simp [bandEdges_frame]) _ off
  have hwritten := fun q vsp vout => ((logActionAs_legHeld a Log.action (U.loop b.loop.toNat) 6 Act.band 16 0 0 q 0 0).trans
    (hband (b.mask.getLsbD 0) Off.loopSpBand vsp _ (by decide) (by decide) (by decide))).trans
      (hband (b.mask.getLsbD 1) Off.loopOutBand vout _ (by decide) (by decide) (by decide))
  cases o with
  | none => exact (hwritten _ _ _).trans (hedges _)
  | some o => exact ((hwritten _ _ _).trans (hedges _)).trans (endRequest_legHeld _ _ _)

theorem applyCtrl_legHeld : LegHeld s (applyCtrl s) := by
  have hstep : ∀ (e : Nat × Word) (a : State), LegHeld a (if e.1 = Off.capCtrl then { a with plant.raiseRate := fld e.2 15 8 }
      else if e.1 = Off.sightCtrl then { a with plant.horizon := fld e.2 31 16, plant.depth := fld e.2 15 0 }
      else { a with plant.resRate := fld e.2 31 16, plant.decay := fld e.2 15 0 }) := fun e a =>
    .ite (.of_hub (.of_loops rfl rfl) id fun _ _ => rfl) (.ite (.of_hub (.of_loops rfl rfl) id fun _ _ => rfl)
      (.of_hub (.of_loops rfl rfl) id fun _ _ => rfl))
  exact (LegHeld.pass hstep).trans (.of_hub (.of_loops rfl rfl) id fun _ _ => rfl)

theorem removeProv_legHeld (raId : BitVec 32) (notify : Bool) : LegHeld s (removeProv raId notify s) := by
  unfold removeProv
  dsimp only
  have hlogged := LegHeld.pass (s := s) (l := s.broker.prov.filter (fun p => decide (p.act.raId = raId)))
    (f := fun p a => logActionAs Log.revoke (U.loop p.act.loop.val) 5 Act.provisional 16 p.act.sp 0 0 raId p.logSeq a)
    fun p a => logActionAs_legHeld a ..
  have hgrant : ∀ r leaves (a : State), LegHeld a (sendGrant r Kind.revoke raId 0 leaves a) := fun r leaves a =>
    (sendGrant_held a ..).legHeld fun off _ => State.reg_congr (by simp [sendGrant, mirrorRack_frame]) _ off
  have hdrawn : ∀ a : State, LegHeld a a.draw := fun _ => .of_same rfl rfl
  refine (fun hY => LegHeld.ite (hY.trans ((hdrawn _).trans (LegHeld.pass fun r a => .ite (hgrant r _ a) (.refl a)))) hY) ?_
  refine LegHeld.trans ?_ (LegHeld.pass fun r a => .ite (.of_same rfl rfl) (.refl a))
  exact hlogged.trans (.of_same rfl rfl)

theorem boundaryWork_legHeld : LegHeld s (boundaryWork s) := by
  have hbands : LegHeld s (if engineDriven s then applyBands s else s) := .ite (applyBands_legHeld s) (.refl s)
  have hpreviews : ∀ a : State, LegHeld a { previewsAtBoundary a with broker.revoke := [] } := fun _ => .of_same rfl rfl
  exact (hbands.trans ((applyCtrl_legHeld _).trans (hpreviews _))).trans (.pass fun e a => removeProv_legHeld a e.1 e.2)

/-! ### A stop, a restore and a failed sequencer -/

theorem stopLegs_legHeld (st : SeqSt) : LegHeld s (stopLegs st s) := .of_same rfl rfl

theorem faultSeq_legHeld : LegHeld s (faultSeq s) := by
  unfold faultSeq
  exact (((stopLegs_legHeld s _).trans (.setEvent _ (by decide) (by decide) (by decide) _)).trans (setDies_legHeld _ _)).trans
    (engineDown_legHeld _ _)

theorem loadActivated_legHeld : LegHeld s (loadActivated s) := .of_same (by simp [loadActivated_frame]) (by simp [loadActivated_frame])

theorem stopTraverse_legHeld : LegHeld s (stopTraverse s) := by
  have hmarked : ∀ a : State, LegHeld a { a with seqr.hallFault := false } := fun _ => .of_same rfl rfl
  have hloaded : ∀ a : State, LegHeld a (loadActivated (engineDown true (setDies false (stopLegs .loaded a)))) := fun a =>
    (((stopLegs_legHeld a _).trans (setDies_legHeld _ _)).trans (engineDown_legHeld _ _)).trans (loadActivated_legHeld _)
  unfold stopTraverse
  dsimp only
  have hstopped : ∀ a : State, LegHeld a
      (if s.seqr.hallFault then faultSeq { a with seqr.hallFault := false } else loadActivated (engineDown true (setDies false (stopLegs .loaded a)))) :=
    fun a => .ite ((hmarked a).trans (faultSeq_legHeld _)) (hloaded a)
  have hmark : LegHeld s (markCkpt (fun c => decide (c.state = 1)) 3 { s with seqr.stopOrigin := none, seqr.hallStop := none }) := .of_same rfl rfl
  cases s.seqr.stopOrigin with
  | some o => exact (hmark.trans (hstopped _)).trans (endRequest_legHeld _ _ _)
  | none => exact hmark.trans (hstopped _)

/-- The later legs are discarded, with a slot they were writing (Table 7-8 step 1). -/
def legsDiscarded (s : State) : State :=
  endScheduled (markCkpt (fun c => decide (c.state = 1)) 3 (dropLegs { s with seqr.rollbackAt := none }))

/-- The sequencer waits for the copies of a restore that began at `ts`. -/
def restoreWaits (ts reload : Nat) (s : State) : State :=
  { s with seqr := { s.seqr with st := .restoring, restore := some (ts, reload), cleanRun := 0 }, plant.engineOk := false }

/-- The restore that begins waits for its copies. -/
def restoreBegun (reload : Nat) (s : State) : State :=
  (restoreWaits s.now reload (toPartner (.restoreAt (s.seqr.leg + 1)) (legsDiscarded s))).setEvent U.hub Off.trvEvents 3

theorem startRestore_eq (reload : Nat) :
    startRestore reload s = if (lastCkpt (legsDiscarded s)).isSome then restoreBegun reload s else faultSeq (legsDiscarded s) := by
  have hsplit : startRestore reload s = (match lastCkpt (legsDiscarded s) with
      | none => faultSeq (legsDiscarded s) | some _ => restoreBegun reload s) := rfl
  rw [hsplit]
  cases lastCkpt (legsDiscarded s) <;> rfl

theorem legsDiscarded_legHeld : LegHeld s (legsDiscarded s) := .of_same rfl rfl

theorem restoreBegun_legHeld (reload : Nat) : LegHeld s (restoreBegun reload s) := by
  have htold : ∀ a : State, LegHeld a (toPartner (.restoreAt (s.seqr.leg + 1)) a) := fun _ => .of_same (by simp) (by simp)
  have hwaits : ∀ a : State, LegHeld a (restoreWaits s.now reload a) := fun _ => .of_hub (.of_loops rfl rfl) (fun _ => rfl) fun _ _ => rfl
  exact (((legsDiscarded_legHeld s).trans (htold _)).trans (hwaits _)).trans (.setEvent _ (by decide) (by decide) (by decide) _)

theorem startRestore_legHeld (reload : Nat) : LegHeld s (startRestore reload s) := by
  rw [startRestore_eq]
  exact .ite (restoreBegun_legHeld s reload) ((legsDiscarded_legHeld s).trans (faultSeq_legHeld _))

theorem hallRestore_legHeld (c : Nat) : LegHeld s (hallRestore c s) := by
  have hmarked : LegHeld s { markCkpt (fun k => decide (c < k.leg) && decide (k.state = 2)) 3 s with seqr.hallRestore := none } := .of_same rfl rfl
  unfold hallRestore
  exact (hmarked.trans (startRestore_legHeld _ 0)).trans (.of_same rfl rfl)

/-! ### Placement -/

theorem intCount_legHeld (ev : IntEv) : LegHeld s (intCount ev s) := by
  have hcount : ∀ (g : Integ) (off hi lo k : Nat), off < 0x1000 → off ≠ Off.trvEvents → off ≠ Off.trvWithheld →
      LegHeld s (State.addCount { s with integ := g } U.hub off hi lo k) := fun g off hi lo k ho hev hwh =>
    (integ_legHeld s g).trans (.setReg _ ho hev hwh _ _)
  cases ev
  case residue | dataCorrupt | checkCorrupt | rtFail => exact hcount _ _ _ _ _ (by decide) (by decide) (by decide)
  all_goals exact .of_same rfl rfl

theorem emit_legHeld (o : Out) : LegHeld s (s.emit o) := .of_same rfl rfl

theorem sendReport_legHeld (kind ev leg loc : Nat) (p : Session → Bool) : LegHeld s (sendReport kind ev leg loc p s) :=
  (integ_legHeld s _).trans (.pass fun _ a => emit_legHeld a _)

theorem intEvent_legHeld (ev : IntEv) (c : Option ClusterAt) (leg : Nat) : LegHeld s (intEvent ev c leg s) := by
  have hnote : ∀ (n : Notify) (a : State), LegHeld a (notifyEvent n a) := fun n a =>
    .of_plant (by simp) fun off ho => notifyEvent_reg (hub_not_report off) ho n a
  have hlog : ∀ (ws : List Nat) (a : State), LegHeld a (logWords Log.integrity 64 ws a) := fun ws a =>
    .of_plant (by simp) fun off ho => logWords_reg (hub_not_report off) ho _ _ ws a
  unfold intEvent
  dsimp only
  refine LegHeld.trans ?_ (hlog _ _)
  refine (fun h => LegHeld.ite (h.trans ((integ_legHeld _ _).trans (sendReport_legHeld _ _ _ _ _ _))) h) ?_
  refine LegHeld.trans ((intCount_legHeld s ev).trans ?_) (hnote _ _)
  cases intBit ev with
  | some b => exact .setReg _ (by decide) (by decide) (by decide) _ _
  | none => exact .refl _

theorem retireDie_legHeld (i : Nat) : LegHeld s (retireDie i s) := by
  have hgate : ∀ a : State, LegHeld a (closeGate i false a) := fun _ => .of_same (by simp [closeGate_frame]) (by simp [closeGate_frame])
  unfold retireDie
  exact LegHeld.trans (t := s.modDie i _) (.of_same rfl rfl) ((intEvent_legHeld _ _ _ _).trans (hgate _))

theorem applyDies_legHeld (asked : Bool) : LegHeld s (applyDies asked s) := by
  refine LegHeld.pass fun i a => ?_
  have hdie := LegHeld.ite (c := (a.die i).failed || (asked && (a.die i).retireReq)) (retireDie_legHeld a i)
    (LegHeld.ite (c := asked && (a.die i).restoreReq) (b := a) (a := restoreDie i a) (.of_same rfl rfl) (.refl a))
  exact .ite hdie (hdie.trans (.of_same rfl rfl))

theorem setDegraded_legHeld (on : Bool) : LegHeld s (setDegraded on s) := by
  have hset : LegHeld s { s with seqr.degraded := on } := seqr_legHeld s _
  exact .ite (hset.trans (.setEvent _ (by decide) (by decide) (by decide) _)) hset

theorem setVariant_legHeld (v : Nat) : LegHeld s (setVariant v s) := by
  have hset : LegHeld s (setDegraded (decide (0x300 ≤ v) && decide (v < 0x400)) { s with seqr.variant := v }) :=
    (seqr_legHeld s _).trans (setDegraded_legHeld _ _)
  exact .ite hset (hset.trans (.setEvent _ (by decide) (by decide) (by decide) _))

/-- The request for a placement is taken (R207). -/
def placementAsked (asked : Bool) (img : Image) (s : State) : State :=
  if asked then { s with seqr := { s.seqr with placement := none, placementDue := false, placementNow := false },
                         integ.dual := s.bitAt U.hub Off.intCtrl 0 && holdsVariant img 0x400 }
  else { s with seqr.placementNow := false }

/-- It is applied to the dies. -/
def placementApplied (asked : Bool) (img : Image) (s : State) : State := applyDies asked (placementAsked asked img s)

/-- Dual comparison goes with the DUAL variant (R231). -/
def variantTaken (v : Nat) (s : State) : State := { s with integ.dual := s.integ.dual && decide (v = 0x400) }

/-- R207: a variant runs, the Relief is asked, or the traverse stops. -/
theorem choosePlacement_cases (asked : Bool) (img : Image) :
    (∃ v, choosePlacement asked img s = .runs (variantTaken v (setVariant v (placementApplied asked img s))))
      ∨ choosePlacement asked img s = .handsOver (askHandover (setDegraded true s))
      ∨ choosePlacement asked img s = .stops (setDegraded true (placementApplied asked img s)) := by
  unfold choosePlacement
  dsimp only
  rw [show (if asked = true then _ else _) = placementAsked asked img s from rfl,
    show applyDies asked (placementAsked asked img s) = placementApplied asked img s from rfl]
  split
  next v _ => exact .inl ⟨v, rfl⟩
  next =>
    by_cases hrelief : reliefHealthy s = true
    · exact .inr (.inl (if_pos hrelief))
    · exact .inr (.inr (if_neg hrelief))

/-- The placement chosen, or asked of the Relief. -/
theorem choosePlacement_legHeld (asked : Bool) (img : Image) : LegHeld s (choosePlacement asked img s).state := by
  have hasked : LegHeld s (placementAsked asked img s) := .ite (.of_same rfl rfl) (.of_same rfl rfl)
  have happlied : LegHeld s (placementApplied asked img s) := hasked.trans (applyDies_legHeld _ asked)
  have htaken : ∀ v a, LegHeld a (variantTaken v a) := fun v a => integ_legHeld a _
  rcases choosePlacement_cases s asked img with ⟨v, h⟩ | h | h <;> rw [h, Placed.state]
  · exact (happlied.trans (setVariant_legHeld _ v)).trans (htaken v _)
  · exact (setDegraded_legHeld s true).trans (askHandover_legHeld _)
  · exact happlied.trans (setDegraded_legHeld _ _)

theorem changePlacement_legHeld (rolls : Bool) (img : Image) : LegHeld s (changePlacement rolls img s) := by
  have hnow : ∀ a : State, LegHeld a { a with seqr.placementNow := false } := fun _ => .of_same rfl rfl
  unfold changePlacement
  have hchosen := choosePlacement_legHeld s s.seqr.placementDue img
  cases hp : choosePlacement s.seqr.placementDue img s with
  | runs t =>
    rw [hp] at hchosen
    exact hchosen.trans (startRestore_legHeld t _)
  | handsOver t =>
    rw [hp] at hchosen
    exact .ite ((hchosen.trans (hnow t)).trans (startRestore_legHeld _ 0)) (hchosen.trans (hnow t))
  | stops t =>
    rw [hp] at hchosen
    exact hchosen.trans (faultSeq_legHeld t)

theorem rollback_legHeld (m : Nat) : LegHeld s (rollback m s) := by
  have hleft : LegHeld s (leaveMirror s) := .of_same (by simp [leaveMirror_frame]) (by simp [leaveMirror_frame])
  unfold rollback
  refine .ite ((hleft.trans (stopLegs_legHeld _ _)).trans (setDies_legHeld _ _)) ?_
  cases s.seqr.image with
  | none => exact .refl s
  | some i =>
    dsimp only
    have htold : LegHeld s (match lastCkpt s with | some c => if 1 < i.modules then tellHall [3, m, c.leg] s else s | none => s) := by
      split
      · exact .ite (tellHall_legHeld s _) (.refl s)
      · exact .refl s
    exact .ite (htold.trans (changePlacement_legHeld _ true i)) (htold.trans (startRestore_legHeld _ 0))

/-! ### The next leg -/

theorem switchRoute_legHeld (m : Nat) : LegHeld s (switchRoute m s) := by
  have hset : ∀ (q : Seqr), LegHeld s (({ s with seqr := q }.setEvent U.hub Off.trvEvents 7).setEvent U.sys Off.hallEvents 5) := fun q =>
    ((seqr_legHeld s q).trans (.setEvent _ (by decide) (by decide) (by decide) _)).trans (.setEvent _ (by decide) (by decide) (by decide) _)
  unfold switchRoute
  split
  · exact .ite (hset _) (.refl s)
  · exact .refl s

theorem copyEvent_legHeld (ring : Nat) (d : CopyDesc) (st : Status) : LegHeld s (copyEvent ring d st s) := by
  have hbit : ∀ n, LegHeld s (s.setEvent U.hub Off.ceEvents n) := fun n => .setReg _ (by decide) (by decide) (by decide) _ s
  unfold copyEvent
  split
  next => exact .ite (.refl s) (.ite ((hbit 0).trans (.setReg _ (by decide) (by decide) (by decide) _ _)) (hbit 0))
  next => exact hbit 1
  next => exact hbit 1
  next => exact hbit 2
  next => exact hbit 3
  next => exact .refl s

theorem issueCopies_legHeld (start : Time) (l : List (Nat × CopyDesc)) : LegHeld s (issueCopies start l s) := by
  refine forEach_keeps (l := l.zipIdx) (P := LegHeld s) (.refl s) fun e _ a ha => ha.trans ?_
  dsimp only
  split
  · exact (copies_legHeld a _).trans (copyEvent_legHeld _ _ _ _)
  · exact copies_legHeld a _

end

/-- The phase positions of the loaded image. -/
def phaseCount (s : State) : Nat := match s.seqr.image with | some i => i.phases.length | none => 1

theorem phaseCount_congr {s t : State} (h : t.seqr.image = s.seqr.image) : phaseCount t = phaseCount s := by simp only [phaseCount, h]

section
variable (n start phase : Nat) (first restored : Bool) (out : EngineOut) (w : LegWork) (s : State)

/-- Neither slot holds `c`. -/
def NotHeld (c : Ckpt) (s : State) : Prop := s.seqr.slotA ≠ c ∧ s.seqr.slotB ≠ c

/-- Leg `n` runs from `start` and `phase`, with its record; a restore that was waited for is not touched, and no slot comes to hold a CLOSED
checkpoint. -/
structure LegRuns (t : State) : Prop where
  st : t.seqr.st = .running
  leg : t.seqr.leg = n
  start : t.seqr.legStart = start
  phase : t.seqr.phase = (phase + 1) % Nat.max 1 (phaseCount s)
  restore : t.seqr.restore = s.seqr.restore
  record : ∃ r l, t.seqr.legs = r :: l ∧ r.leg = n ∧ r.out = out ∧ r.restored = restored ∧ r.ckptLeg = (first || decide (s.seqr.ckptIn ≤ 1))
  slots : ∀ c : Ckpt, c.state = 2 → NotHeld c s → NotHeld c t

theorem LegRuns.of_seqr {a t : State} (h : LegRuns n start phase first restored out s a) (hq : t.seqr = a.seqr) :
    LegRuns n start phase first restored out s t := by
  obtain ⟨hst, hleg, hstart, hphase, hrestore, hrecord, hslots⟩ := h
  exact ⟨by rw [hq, hst], by rw [hq, hleg], by rw [hq, hstart], by rw [hq, hphase], by rw [hq, hrestore], by rw [hq]; exact hrecord,
    by simpa only [NotHeld, hq] using hslots⟩

theorem LegRuns.writeCkpt {a : State} (h : LegRuns n start phase first restored out s a) (m at_ next : Nat) (r : LegRec) :
    LegRuns n start phase first restored out s (writeCkpt m at_ next r a) := by
  obtain ⟨hst, hleg, hstart, hphase, hrestore, hrecord, hslots⟩ := h
  have hwriting : ∀ k c : Ckpt, k.state = 1 → c.state = 2 → k ≠ c := fun k c hk hc he => by
    rw [he, hc] at hk
    exact absurd hk (by decide)
  unfold Machine.writeCkpt
  dsimp only
  split
  · exact ⟨hst, hleg, hstart, hphase, hrestore, hrecord, fun c hc hnot => ⟨hwriting _ c rfl hc, (hslots c hc hnot).2⟩⟩
  · exact ⟨hst, hleg, hstart, hphase, hrestore, hrecord, fun c hc hnot => ⟨(hslots c hc hnot).1, hwriting _ c rfl hc⟩⟩

theorem LegRuns.congr {b t : State} (h : LegRuns n start phase first restored out b t) (hq : b.seqr = s.seqr) :
    LegRuns n start phase first restored out s t := by
  obtain ⟨hst, hleg, hstart, hphase, hrestore, hrecord, hslots⟩ := h
  exact ⟨hst, hleg, hstart, by rw [hphase, phaseCount_congr (congrArg Seqr.image hq)], by rw [hrestore, hq], by rw [← hq]; exact hrecord,
    fun c hc hnot => hslots c hc (by rw [NotHeld, hq]; exact hnot)⟩

theorem beginLeg_runs : LegRuns n start phase first restored out s (beginLeg n start phase first restored out w s) := by
  have hdies : (setDies true s).seqr = s.seqr := by simp [setDies_frame]
  have hafter : ∀ r a, (sendLegDigest r (legStrobe (fansFor phase a))).seqr = a.seqr := by
    simp [sendLegDigest_frame, legStrobe_frame, fansFor_frame]
  have hissue : ∀ l a, (issueCopies start l (endScheduled a)).seqr = a.seqr := by simp [issueCopies_frame, endScheduled]
  refine LegRuns.congr n start phase first restored out s (b := setDies true s) ?_ hdies
  unfold beginLeg
  dsimp only
  generalize setDies true s = b
  refine LegRuns.of_seqr _ _ _ _ _ _ _ ?_ (hafter _ _)
  have hwritten : ∀ (c : Bool) (next : Nat) (r : LegRec) (a : State), LegRuns n start phase first restored out b a →
      LegRuns n start phase first restored out b (if c then writeCkpt n start next r a else a) := fun c next r a ha => by
    cases c with
    | true => exact LegRuns.writeCkpt _ _ _ _ _ _ _ ha _ _ _ _
    | false => exact ha
  split
  next i himage =>
    split
    · refine LegRuns.of_seqr _ _ _ _ _ _ _ ?_ (hissue _ _)
      refine hwritten _ _ _ _ ?_
      exact ⟨rfl, rfl, rfl, by simp [phaseCount, himage], rfl, ⟨_, _, rfl, rfl, rfl, rfl, rfl⟩, fun _ _ hnot => hnot⟩
    · refine hwritten _ _ _ _ ?_
      exact ⟨rfl, rfl, rfl, by simp [phaseCount, himage], rfl, ⟨_, _, rfl, rfl, rfl, rfl, rfl⟩, fun _ _ hnot => hnot⟩
  next himage =>
    refine hwritten _ _ _ _ ?_
    exact ⟨rfl, rfl, rfl, by simp [phaseCount, himage], rfl, ⟨_, _, rfl, rfl, rfl, rfl, rfl⟩, fun _ _ hnot => hnot⟩

theorem beginLeg_legHeld : LegHeld s (beginLeg n start phase first restored out w s) := by
  have hafter : ∀ r a, LegHeld a (sendLegDigest r (legStrobe (fansFor phase a))) := fun r a => by
    exact .of_same (by simp [sendLegDigest_frame, legStrobe_frame, fansFor_frame]) (by simp [sendLegDigest_frame, legStrobe_frame, fansFor_frame])
  have hwrite : ∀ (next : Nat) (r : LegRec) (a : State), LegHeld a (writeCkpt n start next r a) := fun next r a =>
    .of_same (by simp [writeCkpt_frame]) (by simp [writeCkpt_frame])
  have hwritten : ∀ (c : Bool) (next : Nat) (r : LegRec) (a : State) (q : Seqr),
      LegHeld a (if c then writeCkpt n start next r { a with seqr := q } else { a with seqr := q }) := fun c next r a q =>
    .ite ((seqr_legHeld a q).trans (hwrite _ _ _)) (seqr_legHeld a q)
  have hissue : ∀ l a, LegHeld a (issueCopies start l (endScheduled a)) := fun l a =>
    (copies_legHeld a _).trans (issueCopies_legHeld _ _ _)
  refine (setDies_legHeld s true).trans ?_
  unfold beginLeg
  dsimp only
  generalize setDies true s = b
  refine LegHeld.trans ?_ (hafter _ _)
  split
  · split
    · refine LegHeld.trans ?_ (hissue _ _)
      exact hwritten _ _ _ _ _
    · exact hwritten _ _ _ _ _
  · exact hwritten _ _ _ _ _

end

end Sys2Proof.Machine
end

section
/-! R67, R203, R228, R233, R234: the checks of a leg close. -/

namespace Sys2Proof.Machine

open Sys2Proof Sys2Proof.Safety

/-! ### What the charges of a leg keep of the sequencer -/

/-- Of the sequencer only the waiting placement and the round counter change, and the role stays. -/
structure Charged (s t : State) : Prop where
  seqr : ∃ p n, t.seqr = { s.seqr with placementNow := p, round := n }
  role : t.pair.role = s.pair.role

namespace Charged

theorem refl (s : State) : Charged s s := ⟨⟨_, _, rfl⟩, rfl⟩

theorem trans {s t u : State} (h : Charged s t) (k : Charged t u) : Charged s u := by
  obtain ⟨⟨p, n, hq⟩, hr⟩ := h
  obtain ⟨⟨p', n', hq'⟩, hr'⟩ := k
  exact ⟨⟨p', n', by rw [hq', hq]⟩, hr'.trans hr⟩

theorem of_role {s t : State} (hq : t.seqr = s.seqr) (hr : t.pair.role = s.pair.role) : Charged s t := ⟨⟨_, _, hq⟩, hr⟩

theorem of_same {s t : State} (hq : t.seqr = s.seqr) (hp : t.pair = s.pair) : Charged s t := .of_role hq (congrArg _ hp)

theorem ite {c : Prop} [Decidable c] {s a b : State} (ha : Charged s a) (hb : Charged s b) : Charged s (if c then a else b) := by
  split
  · exact ha
  · exact hb

theorem pass {α : Type} {l : List α} {f : α → State → State} {s : State} (hf : ∀ x a, Charged a (f x a)) : Charged s (forEach l f s) :=
  forEach_keeps (P := Charged s) (refl s) fun x _ a ha => ha.trans (hf x a)

end Charged

section
variable (s : State)

theorem intEvent_charged (ev : IntEv) (c : Option ClusterAt) (leg : Nat) : Charged s (intEvent ev c leg s) :=
  .of_same (by simp [intEvent_frame]) (by simp [intEvent_frame])

theorem clusters_charged (m : IMap Cluster) : Charged s { s with clusters := m } := .of_same rfl rfl

theorem replaceCluster_charged (c : ClusterAt) : Charged s (replaceCluster c s) := by
  have hdie : ∀ g, Charged s (s.modDie c.die.val g) := fun _ => .of_same rfl rfl
  have hnow : ∀ a : State, Charged a { a with seqr.placementNow := true } := fun a => ⟨⟨_, _, rfl⟩, rfl⟩
  unfold replaceCluster
  exact .ite (.refl s) ((Charged.ite (hdie _) (hdie _)).trans (hnow _))

theorem suspect_charged (c : ClusterAt) : Charged s (suspect c s) := (clusters_charged s _).trans (intEvent_charged _ _ _ _)

theorem failCluster_charged (isResidue : Bool) (c : ClusterAt) : Charged s (failCluster isResidue c s) := by
  have hset := clusters_charged s
  unfold failCluster
  dsimp only
  split
  · exact .ite (hset _) ((hset _).trans (suspect_charged _ c))
  · refine .ite ((hset _).trans (clusters_charged _ _)) ?_
    exact (((hset _).trans (clusters_charged _ _)).trans (intEvent_charged _ _ _ _)).trans (replaceCluster_charged _ c)
  · exact hset _

theorem roundDone_charged (c : ClusterAt) : Charged s (roundDone c s) := clusters_charged s _

theorem failedRound_charged (c : ClusterAt) : Charged s (failedRound c s) :=
  ((roundDone_charged s c).trans (intEvent_charged _ _ _ _)).trans (failCluster_charged _ _ _)

theorem cleanRound_charged (c : ClusterAt) : Charged s (cleanRound c s) := .of_same (by simp [cleanRound_frame]) (by simp [cleanRound_frame])

theorem judgeRound_charged (r : RoundResult) : Charged s (judgeRound r s) := by
  have hround : Charged s { s with seqr.round := s.seqr.round + 1 } := ⟨⟨_, _, rfl⟩, rfl⟩
  have hclean := fun c a => cleanRound_charged a c
  have hfailed := fun c a => failedRound_charged a c
  unfold judgeRound
  dsimp only
  refine .ite ((hround.trans (hclean _ _)).trans (hclean _ _)) ?_
  split
  · exact (hround.trans (hfailed _ _)).trans (hfailed _ _)
  · exact .ite (((hround.trans (hclean _ _)).trans (hfailed _ _)).trans (hclean _ _))
      (.ite (((hround.trans (hfailed _ _)).trans (hclean _ _)).trans (hclean _ _))
        (((hround.trans (hfailed _ _)).trans (hfailed _ _)).trans (hfailed _ _)))

theorem logWords_charged (type n : Nat) (ws : List Nat) : Charged s (logWords type n ws s) := .of_same (by simp) (by simp)

theorem chargeLeg_charged (r : LegRec) : Charged s (chargeLeg r s) := by
  have hresidue := fun a => Charged.pass (l := r.residueBad) (s := a)
    (f := fun c a => failCluster true c (intEvent .residue (some c) r.leg a)) fun c a =>
      (intEvent_charged a _ _ _).trans (failCluster_charged _ _ _)
  have hcontrib := fun a => Charged.pass (l := r.contribBad) (s := a)
    (f := fun e a => if e.2 then failCluster true e.1 (intEvent .residue (some e.1) r.leg a) else a) fun e a =>
      .ite ((intEvent_charged a _ _ _).trans (failCluster_charged _ _ _)) (.refl a)
  have hlogged := fun (l : List ClusterAt) a => Charged.pass (l := l) (s := a)
    (f := fun c a => logWords Log.integrity 64 (reportBody 1 0 r.leg (clusterLoc c) a) a) fun c a => logWords_charged a _ _ _
  have hparity := fun a => Charged.pass (l := r.parity) (s := a) (f := fun p a => logWords Log.parity 16 [p, r.leg] a) fun p a => logWords_charged a _ _ _
  have hslots := fun a => Charged.pass (l := r.slotResidues) (s := a) (f := fun c a => failedRound c (intEvent .residue (some c) r.leg a)) fun c a =>
    (intEvent_charged a _ _ _).trans (failedRound_charged _ _)
  have hrounds := fun a => Charged.pass (l := r.rounds) (s := a) (f := judgeRound) fun x a => judgeRound_charged a x
  have hslotted := fun l => ((((hresidue s).trans (hcontrib _)).trans (hlogged l _)).trans (hparity _)).trans (hslots _)
  exact .ite ((hslotted _).trans (hrounds _)) (hslotted _)

theorem askHandover_role : (askHandover s).pair.role = s.pair.role := by
  unfold askHandover startHandover
  (repeat' split) <;> simp

theorem unresolvedMismatch_charged : Charged s (unresolvedMismatch s) := by
  have hnoted : ∀ g : Integ, Charged s { s with integ := g } := fun _ => .of_same rfl rfl
  have hdies := fun t a => Charged.pass (s := a) (l := (List.finRange 16).filter (fun d => decide ((s.die d.val).st = 0)))
    (f := suspectDie t) fun d a => .of_same (by simp [suspectDie_frame]) (by simp [suspectDie_frame])
  unfold unresolvedMismatch
  exact .ite (hnoted _) (.ite ((hnoted _).trans (.of_role (by simp [askHandover_frame]) (askHandover_role _))) ((hnoted _).trans (hdies s _)))

theorem compareFailed_charged (r : LegRec) : Charged s (compareFailed r s) :=
  .ite (intEvent_charged s _ _ _) ((intEvent_charged s _ _ _).trans (unresolvedMismatch_charged _))

end

/-! ### The record of a leg whose checks close -/

/-- `q` is the record `r` with its checks closed: a check that had failed stays failed. -/
structure ClosedFrom (r q : LegRec) : Prop where
  leg : q.leg = r.leg
  dropped : q.dropped = r.dropped
  closed : q.checksClosed = true
  ok : q.checksOk = decide (q.fail = 0)
  fail : r.fail ≠ 0 → q.fail ≠ 0

theorem or_ne_zero {a : BitVec 6} (b : BitVec 6) (h : a ≠ 0) : a ||| b ≠ 0 := fun hor => h (BitVec.or_eq_zero_iff.1 hor).1

/-- Each dispute left open adds to FAIL and changes nothing else of the record. -/
theorem disputes_charged (l : List (Transfer × Nat × Option Nat)) (s : State) (r : LegRec) :
    let d := l.foldl (fun (a : State × LegRec) q => dataCorrupt q.1.src a.2 a.1) (s, r)
    Charged s d.1 ∧ ∃ f, d.2 = { r with fail := f } ∧ (r.fail ≠ 0 → f ≠ 0) := by
  induction l generalizing s r with
  | nil => exact ⟨.refl s, r.fail, rfl, id⟩
  | cons q l ih =>
    obtain ⟨hcharged, f, hrec, hfail⟩ := ih (intEvent .dataCorrupt (some q.1.src) r.leg s) { r with fail := r.fail ||| failBit Fail.digest }
    exact ⟨(intEvent_charged s _ _ _).trans hcharged, f, hrec, fun h => hfail (or_ne_zero _ h)⟩

/-- The checks of a leg close with one record, put back in its place and told to its checkpoint slot. -/
theorem closeLeg_closes {n : Nat} {s : State} {r : LegRec} (hrec : legRec s n = some r) (hopen : r.checksClosed = false) :
    ∃ a q, closeLeg n s = closeCkpt q (setLeg q a) ∧ Charged s a ∧ ClosedFrom r q := by
  have hdisputes := disputes_charged (r.disputes.filter (fun q => q.2.2.isNone)) s { r with disputes := [] }
  unfold closeLeg
  rw [hrec]
  dsimp only
  rw [if_neg (by simp [hopen])]
  dsimp only at hdisputes
  generalize (r.disputes.filter (fun q => q.2.2.isNone)).foldl (fun (a : State × LegRec) q => dataCorrupt q.1.src a.2 a.1)
    (s, { r with disputes := [] }) = d at hdisputes ⊢
  obtain ⟨a, x⟩ := d
  obtain ⟨hcharged, f, rfl, hfail⟩ := hdisputes
  have hcount : ∀ (c : Prop) [Decidable c] (hi lo : Nat) (b : State), Charged b (if c then b.addCount U.hub Off.trvFlagCount hi lo 1 else b) :=
    fun c _ hi lo b => .ite (.of_same rfl rfl) (.refl b)
  have hdiffer : ∀ (c : Prop) [Decidable c] (b : State), Charged b (if c then { b with pair.legsMismatch := b.pair.legsMismatch + 1 } else b) :=
    fun c _ b => .ite (.of_role rfl rfl) (.refl b)
  have hcompare : ∀ (c : Prop) [Decidable c] (q : LegRec) (b : State), Charged b (if c then compareFailed q b else b) :=
    fun c _ q b => .ite (compareFailed_charged b q) (.refl b)
  refine ⟨_, _, rfl, ?charged, ?record⟩
  case charged =>
    exact ((((hcharged.trans (chargeLeg_charged _ _)).trans (hcompare _ _ _)).trans (hdiffer _ _)).trans (hcount _ _ _ _)).trans (hcount _ _ _ _)
  case record =>
    by_cases hbad : (mirrorDiffers a { r with disputes := [], fail := f } || r.dualBad) = true
    · simp only [hbad, if_true]
      exact ⟨rfl, rfl, rfl, rfl, fun h => or_ne_zero _ (hfail h)⟩
    · simp only [hbad]
      exact ⟨rfl, rfl, rfl, rfl, hfail⟩

/-! ### Records in their place -/

theorem legRec_spec {s : State} {n : Nat} {r : LegRec} (h : legRec s n = some r) : r.leg = n ∧ r.dropped = false := by
  simpa using List.find?_some h

theorem legRec_of_legs {s t : State} (h : t.seqr.legs = s.seqr.legs) (n : Nat) : legRec t n = legRec s n := by
  simp [legRec, h]

theorem legRec_setLeg_other {q : LegRec} {n : Nat} (h : n ≠ q.leg) (s : State) : legRec (setLeg q s) n = legRec s n := by
  unfold legRec setLeg
  dsimp only
  induction s.seqr.legs with
  | nil => rfl
  | cons x xs ih =>
    rw [List.map_cons, List.find?_cons, List.find?_cons, ih]
    by_cases hx : x.leg = q.leg ∧ (!x.dropped) = true
    · simp [hx, Ne.symm h]
    · rw [if_neg hx]

theorem legRec_setLeg_self {s : State} {q r : LegRec} (h : legRec s q.leg = some r) (hq : q.dropped = false) : legRec (setLeg q s) q.leg = some q := by
  unfold legRec at h ⊢
  unfold setLeg
  dsimp only
  revert h
  induction s.seqr.legs with
  | nil => simp
  | cons x xs ih =>
    intro h
    rw [List.map_cons]
    by_cases hx : x.leg = q.leg ∧ (!x.dropped) = true
    · rw [if_pos hx, List.find?_cons_of_pos (by simp [hq])]
    · have hmiss : (decide (x.leg = q.leg) && !x.dropped) = false := by simpa using hx
      rw [if_neg hx, List.find?_cons_of_neg (by simp [hmiss])]
      rw [List.find?_cons_of_neg (by simp [hmiss])] at h
      exact ih h

/-! ### The slot of a checkpoint leg (R203) -/

/-- Of the sequencer only the slots and the placement that falls due change, and the role stays. -/
structure SlotsOnly (s t : State) : Prop where
  seqr : ∃ a b due, t.seqr = { s.seqr with slotA := a, slotB := b, placementDue := due }
  role : t.pair.role = s.pair.role

namespace SlotsOnly

theorem refl (s : State) : SlotsOnly s s := ⟨⟨_, _, _, rfl⟩, rfl⟩

theorem trans {s t u : State} (h : SlotsOnly s t) (k : SlotsOnly t u) : SlotsOnly s u := by
  obtain ⟨⟨a, b, d, hq⟩, hr⟩ := h
  obtain ⟨⟨a', b', d', hq'⟩, hr'⟩ := k
  exact ⟨⟨a', b', d', by rw [hq', hq]⟩, hr'.trans hr⟩

theorem of_role {s t : State} (hq : t.seqr = s.seqr) (hr : t.pair.role = s.pair.role) : SlotsOnly s t := ⟨⟨_, _, _, hq⟩, hr⟩

theorem ite {c : Prop} [Decidable c] {s a b : State} (ha : SlotsOnly s a) (hb : SlotsOnly s b) : SlotsOnly s (if c then a else b) := by
  split
  · exact ha
  · exact hb

end SlotsOnly

theorem closeCkpt_slotsOnly (q : LegRec) (s : State) : SlotsOnly s (closeCkpt q s) := by
  have hmark : ∀ p st, SlotsOnly s (markCkpt p st s) := fun _ _ => ⟨⟨_, _, _, rfl⟩, rfl⟩
  have htold : ∀ i a, SlotsOnly a (toPartner i a) := fun i a => .of_role (by simp) (by simp)
  have hrestart : ∀ (c : Prop) [Decidable c] (a : State),
      SlotsOnly a (if c then { a with pair := { a.pair with joinReady := false, resync := .checkpoint } } else a) := fun c _ a =>
    .ite (.of_role rfl rfl) (.refl a)
  have hdue : ∀ (c : Prop) [Decidable c] (a : State), SlotsOnly a (if c then { a with seqr.placementDue := true } else a) := fun c _ a =>
    .ite ⟨⟨_, _, _, rfl⟩, rfl⟩ (.refl a)
  unfold closeCkpt
  refine .ite (.refl s) ?_
  dsimp only
  refine SlotsOnly.trans (SlotsOnly.trans ?_ (hrestart _ _)) (hdue _ _)
  split
  · exact .ite ((hmark _ _).trans (htold _ _)) (hmark _ _)
  · exact hmark _ _

section
variable {n : Nat} {s : State} {r : LegRec}

theorem closeLeg_of_closed (hrec : legRec s n = some r) (hclosed : r.checksClosed = true) : closeLeg n s = s := by
  simp [closeLeg, hrec, hclosed]

/-- The record of the leg is closed, and the records of the other legs are not touched. -/
theorem closeLeg_record (hrec : legRec s n = some r) (hopen : r.checksClosed = false) :
    ∃ q, legRec (closeLeg n s) n = some q ∧ ClosedFrom r q ∧ ∀ k, k ≠ n → legRec (closeLeg n s) k = legRec s k := by
  obtain ⟨a, q, hclose, ⟨⟨p, rd, hcharged⟩, -⟩, hfrom⟩ := closeLeg_closes hrec hopen
  obtain ⟨⟨sa, sb, due, hslots⟩, -⟩ := closeCkpt_slotsOnly q (setLeg q a)
  have hlegs : ∀ k, legRec (closeLeg n s) k = legRec (setLeg q a) k := fun k => legRec_of_legs (by rw [hclose, hslots]) k
  have hcharged : ∀ k, legRec a k = legRec s k := fun k => legRec_of_legs (by rw [hcharged]) k
  obtain ⟨hleg, hdropped⟩ := legRec_spec hrec
  have hplace : q.leg = n := hfrom.leg.trans hleg
  refine ⟨q, ?_, hfrom, fun k hk => ?_⟩
  · rw [hlegs, ← hplace]
    exact legRec_setLeg_self (r := r) (by rw [hcharged, hplace, hrec]) (hfrom.dropped.trans hdropped)
  · rw [hlegs, legRec_setLeg_other (by rwa [hplace]), hcharged]

theorem closeLeg_changesOnly (n : Nat) (s : State) :
    ChangesOnly [.clusters, .dies, .hall, .integ, .links, .log, .outbox, .pair, .regs, .seqr, .vcp] s (closeLeg n s) := by
  intro x hx
  cases x <;> simp [Part.Same, closeLeg_frame] at hx ⊢

end

/-! ### What a boundary keeps of the sequencer -/

/-- A leg whose checks have closed is settled: beside its record only the rotation step and the runs of legs change in the sequencer, and
the checks of every record stay as they are. -/
structure Settled (s t : State) : Prop where
  seqr : ∃ ls k w c, t.seqr = { s.seqr with legs := ls, rotStep := k, withheldRun := w, cleanRun := c }
  pair : t.pair = s.pair
  upds : t.upds = s.upds
  records : ∀ n q, legRec s n = some q → ∃ x, legRec t n = some x ∧ x.checksClosed = q.checksClosed ∧ x.fail = q.fail

namespace Settled

theorem trans {s t u : State} (h : Settled s t) (k : Settled t u) : Settled s u := by
  obtain ⟨⟨_, _, _, _, hq⟩, hp, hu, hrec⟩ := h
  obtain ⟨⟨ls, rot, w, c, hq'⟩, hp', hu', hrec'⟩ := k
  refine ⟨⟨ls, rot, w, c, by rw [hq', hq]⟩, hp'.trans hp, hu'.trans hu, fun n q hn => ?_⟩
  obtain ⟨x, hx, hclosed, hfail⟩ := hrec n q hn
  obtain ⟨y, hy, hclosed', hfail'⟩ := hrec' n x hx
  exact ⟨y, hy, hclosed'.trans hclosed, hfail'.trans hfail⟩

theorem of_legs {s t : State} (hl : t.seqr.legs = s.seqr.legs)
    (hq : ∃ ls k w c, t.seqr = { s.seqr with legs := ls, rotStep := k, withheldRun := w, cleanRun := c })
    (hp : t.pair = s.pair) (hu : t.upds = s.upds) : Settled s t :=
  ⟨hq, hp, hu, fun n q hn => ⟨q, by rw [legRec_of_legs hl, hn], rfl, rfl⟩⟩

theorem of_same {s t : State} (hq : t.seqr = s.seqr) (hp : t.pair = s.pair) (hu : t.upds = s.upds) : Settled s t :=
  of_legs (by rw [hq]) ⟨_, _, _, _, hq⟩ hp hu

theorem refl (s : State) : Settled s s := of_same rfl rfl rfl

theorem ite {c : Prop} [Decidable c] {s a b : State} (ha : Settled s a) (hb : Settled s b) : Settled s (if c then a else b) := by
  split
  · exact ha
  · exact hb

theorem pass {α : Type} {l : List α} {f : α → State → State} {s : State} (hf : ∀ x a, Settled a (f x a)) : Settled s (forEach l f s) :=
  forEach_keeps (P := Settled s) (refl s) fun x _ a ha => ha.trans (hf x a)

/-- A record replaced by one of the same leg with the same checks. -/
theorem setLeg {s : State} {q r : LegRec} (h : legRec s q.leg = some r) (hd : q.dropped = false) (hc : q.checksClosed = r.checksClosed)
    (hf : q.fail = r.fail) : Settled s (setLeg q s) := by
  refine ⟨⟨_, _, _, _, rfl⟩, rfl, rfl, fun n x hn => ?_⟩
  by_cases hleg : n = q.leg
  · subst hleg
    obtain rfl : r = x := Option.some.inj (h.symm.trans hn)
    exact ⟨q, legRec_setLeg_self h hd, hc, hf⟩
  · exact ⟨x, by rw [legRec_setLeg_other hleg, hn], rfl, rfl⟩

end Settled

section
variable (s : State)

theorem endRotation_legs : (endRotation s).seqr.legs = s.seqr.legs := by
  unfold endRotation
  split
  · split <;> rfl
  · rfl

theorem endRotation_settled : Settled s (endRotation s) := by
  unfold endRotation
  split
  · exact .ite (.of_legs rfl ⟨_, _, _, _, rfl⟩ rfl rfl) (.refl s)
  · exact .refl s

theorem boundaryWork_settled : Settled s (boundaryWork s) :=
  .of_same (by simp [boundaryWork_frame]) (by simp [boundaryWork_frame]) (by simp [boundaryWork_frame])

theorem withhold_settled {r : LegRec} (hrec : legRec s r.leg = some r) : Settled s (withhold r s) := by
  have hplaced : Settled s (setLeg { r with withheld := true, staging := [] } s) := .setLeg (r := r) hrec (legRec_spec hrec).2 rfl rfl
  have hnoted := fun (c : Prop) [Decidable c] (a : State) (n : Nat) => Settled.ite (c := c) (s := a) (a := a.setEvent U.sys Off.sysModeEvents n) (b := a)
    (.of_same rfl rfl rfl) (.refl a)
  have hheld : ∀ a : State, Settled a (holdOutputs a) := fun a =>
    .of_same (by simp [holdOutputs_frame]) (by simp [holdOutputs_frame]) (by simp [holdOutputs_frame])
  have hcount : ∀ a : State, Settled a ((a.setEvent U.hub Off.trvEvents 2).addCount U.hub Off.trvWithheld 31 0 1) := fun _ => .of_same rfl rfl rfl
  have hruns : ∀ (a : State) w c, Settled a { a with plant.engineOk := false, seqr.withheldRun := w, seqr.cleanRun := c } := fun a w c =>
    .of_legs rfl ⟨_, _, _, _, rfl⟩ rfl rfl
  unfold withhold
  have hlost := (hplaced.trans (hnoted (s.seqr.withheldRun + 1 = 20) _ 3)).trans (hruns _ (s.seqr.withheldRun + 1) 0)
  exact (Settled.ite (hlost.trans (hheld _)) hlost).trans (hcount _)

theorem releaseLeg_settled {r : LegRec} (hrec : legRec s r.leg = some r) : Settled s (releaseLeg r s) := by
  have hplaced : ∀ b, Settled s (setLeg { r with committed := b, staging := [] } s) := fun b => .setLeg (r := r) hrec (legRec_spec hrec).2 rfl rfl
  have hruns : ∀ (a : State) c, Settled a { a with plant.engineOk := true, seqr.withheldRun := 0, seqr.cleanRun := c } := fun a c =>
    .of_legs rfl ⟨_, _, _, _, rfl⟩ rfl rfl
  have hout : ∀ a : State, Settled a (applyOut r.out a) := fun a =>
    .of_same (by simp [applyOut_frame]) (by simp [applyOut_frame]) (by simp [applyOut_frame])
  have hstaged := fun a => Settled.pass (l := r.staging) (f := commitStaging) (s := a) fun d a =>
    .of_same (by simp [commitStaging_frame]) (by simp [commitStaging_frame]) (by simp [commitStaging_frame])
  have hlogged := fun a => Settled.pass (l := r.satTensors)
    (f := fun t a => logSubmit true false Log.saturated 16 a.now (.words [t, r.leg]) a) (s := a) fun _ a => .of_same (by simp) (by simp) (by simp)
  unfold releaseLeg
  exact .ite (((((hplaced _).trans (hruns _ _)).trans (hout _)).trans (hstaged _)).trans (hlogged _)) ((hplaced _).trans (hruns _ _))

theorem releaseDue_settled {r : LegRec} (hrec : legRec s r.leg = some r) : Settled s (releaseDue r s) :=
  .ite (releaseLeg_settled s hrec) (withhold_settled s hrec)

theorem releaseAt_first {m : Nat} (hm : m < 2) : releaseAt m s = s := if_pos hm

theorem releaseAt_closed {m : Nat} (hm : 2 ≤ m) {r : LegRec} (hrec : legRec s (m - 2) = some r) (hclosed : r.checksClosed = true) :
    releaseAt m s = if r.committed || r.withheld then s else releaseDue r s := by
  unfold releaseAt
  rw [if_neg (by omega), closeLeg_of_closed hrec hclosed]
  dsimp only
  rw [hrec]

theorem releaseAt_settled {m : Nat} (h : m < 2 ∨ ∃ r, legRec s (m - 2) = some r ∧ r.checksClosed = true) : Settled s (releaseAt m s) := by
  by_cases hm : m < 2
  · rw [releaseAt_first s hm]
    exact .refl s
  · obtain ⟨r, hrec, hclosed⟩ := h.resolve_left hm
    rw [releaseAt_closed s (by omega) hrec hclosed]
    exact .ite (.refl s) (releaseDue_settled s (by rw [(legRec_spec hrec).1, hrec]))

theorem sat_le (top n : Nat) : sat top n ≤ top := by
  unfold sat
  split <;> omega

/-- A withheld leg sets its event, counts, and leaves the engine lost (R68). -/
theorem withhold_counts (r : LegRec) : (withhold r s).bitAt U.hub Off.trvEvents 2 = true
    ∧ (withhold r s).fldOf U.hub Off.trvWithheld 31 0 = sat (2 ^ 32 - 1) (s.fldOf U.hub Off.trvWithheld 31 0 + 1)
    ∧ (withhold r s).plant.engineOk = false := by
  have hlost : ∃ a : State, withhold r s = (a.setEvent U.hub Off.trvEvents 2).addCount U.hub Off.trvWithheld 31 0 1
      ∧ a.reg U.hub Off.trvWithheld = s.reg U.hub Off.trvWithheld ∧ a.plant.engineOk = false := by
    have hheld : ∀ a : State, a.plant.engineOk = false → (holdOutputs a).plant.engineOk = false := fun a ha =>
      ((holdOutputs_held a).legHeld fun off _ => State.reg_congr (by simp [holdOutputs_frame]) _ off).engine ha
    have hnote : ∀ (c : Prop) [Decidable c] (a : State),
        (if c then a.setEvent U.sys Off.sysModeEvents 3 else a).reg U.hub Off.trvWithheld = a.reg U.hub Off.trvWithheld := fun c _ a => by
      split
      · exact State.reg_setEvent_other _ (by decide) (by decide) (by decide)
      · rfl
    have hsame : ∀ (c : Prop) [Decidable c] (a : State), (if c then holdOutputs a else a).regs = a.regs := fun c _ a => by
      split
      · simp [holdOutputs_frame]
      · rfl
    refine ⟨_, rfl, ?_, ?_⟩
    · exact (State.reg_congr (hsame _ _) _ _).trans (hnote _ _)
    · split
      · exact hheld _ rfl
      · rfl
  obtain ⟨a, hcounted, hreg, hengine⟩ := hlost
  rw [hcounted]
  refine ⟨?_, ?_, hengine⟩
  · rw [State.bitAt, State.reg_addCount_other _ (by decide) (by decide) (by decide)]
    exact State.bitAt_setEvent_self _ _ _ _ (by decide)
  · have hbefore : (a.setEvent U.hub Off.trvEvents 2).reg U.hub Off.trvWithheld = s.reg U.hub Off.trvWithheld :=
      (State.reg_setEvent_other _ (by decide) (by decide) (by decide)).trans hreg
    rw [State.fldOf, State.addCount, State.reg_setReg_self, fld_putFld_self _ _ (by decide) (Nat.lt_of_le_of_lt (sat_le _ _) (by decide)), hbefore]
    rfl

end

/-- The work of a leg boundary before the next leg, or what stands before it. -/
def atBoundary (s : State) : State := boundaryWork (releaseAt (s.seqr.leg + 1) (endRotation s))

section
variable (s : State)

theorem atBoundary_still : OutsStill s (atBoundary s) :=
  ((endRotation_still s).trans (releaseAt_still _ _)).trans (boundaryWork_legHeld _).toOutsStill

theorem atBoundary_settled (h : s.seqr.leg = 0 ∨ ∃ r, legRec s (s.seqr.leg - 1) = some r ∧ r.checksClosed = true) : Settled s (atBoundary s) := by
  have hrotated := endRotation_settled s
  refine (hrotated.trans (releaseAt_settled _ ?_)).trans (boundaryWork_settled _)
  rcases h with h | ⟨r, hrec, hclosed⟩
  · exact .inl (by omega)
  · obtain ⟨x, hx, hxclosed, -⟩ := hrotated.records _ r hrec
    exact .inr ⟨x, by rw [show s.seqr.leg + 1 - 2 = s.seqr.leg - 1 by omega]; exact hx, hxclosed.trans hclosed⟩

/-- Withheld, the leg counts before what waits for the boundary comes about. -/
theorem atBoundary_withheld {r : LegRec} (hleg : 1 ≤ s.seqr.leg) (hrec : legRec s (s.seqr.leg - 1) = some r) (hclosed : r.checksClosed = true)
    (hcommitted : r.committed = false) (hwithheld : r.withheld = false) (hok : (r.checksOk && s.fw.deckUp && !s.pair.misaligned) = false) :
    atBoundary s = boundaryWork (withhold r (endRotation s)) := by
  have hrotated : legRec (endRotation s) (s.seqr.leg + 1 - 2) = some r := by
    rw [legRec_of_legs (endRotation_legs s), show s.seqr.leg + 1 - 2 = s.seqr.leg - 1 by omega, hrec]
  unfold atBoundary
  rw [releaseAt_closed _ (by omega) hrotated hclosed]
  simp [hcommitted, hwithheld, releaseDue, endRotation_frame, hok]

end

end Sys2Proof.Machine
end

section
/-! R67, R68, R188, R204, R219: the leg boundary. -/

namespace Sys2Proof.Machine

open Sys2Proof Sys2Proof.Safety

/-! ### What stands at the boundary -/

/-- The next leg runs from `a`, once a route set named for its boundary is in force. -/
def nextLeg (out : EngineOut) (w : LegWork) (m : Nat) (t : Time) (a : State) : State :=
  beginLeg m t (switchRoute m a).seqr.phase false false out w (switchRoute m a)

/-- What stands at the boundary before leg `m`, or that leg (Table 7-12). -/
def pastBoundary (out : EngineOut) (w : LegWork) (m : Nat) (t : Time) (a : State) : State :=
  match boundaryOf a m with
  | .stop => stopTraverse a
  | .rollback => rollback m a
  | .placement =>
    match a.seqr.image with
    | some i =>
      match choosePlacement a.seqr.placementDue i a with
      | .runs b => startRestore (if b.seqr.variant = a.seqr.variant then 0 else i.weightBytes) b
      | .handsOver b => nextLeg out w m t { b with seqr := { b.seqr with placementNow := false, placementDue := false } }
      | .stops b => if 1 < i.modules then faultSeq (tellHall [2, m, 1] b) else faultSeq b
    | none => a
  | .hallRestore c => hallRestore c a
  | .withKeeper => startRestore 0 { a with pair.restoreAt := none }
  | .join => (startRestore 0 { a with pair.joinAt := none }).setEvent U.sys Off.pairEvents 7
  | .go => nextLeg out w m t a

section
variable (out : EngineOut) (w : LegWork)

theorem exec_legStart {s : State} (hrun : legsRun s = true) (ht : s.seqr.legStart + legNs s ≤ s.now) :
    exec (.legStart out w) s = .next (pastBoundary out w (s.seqr.leg + 1) (s.seqr.legStart + legNs s) (atBoundary s)) := by
  have hexec : exec (.legStart out w) s = execLegStart out w s := rfl
  rw [hexec, execLegStart, if_pos ⟨hrun, ht⟩]
  dsimp only
  rw [show boundaryWork (releaseAt (s.seqr.leg + 1) (endRotation s)) = atBoundary s from rfl]
  generalize atBoundary s = a
  unfold pastBoundary
  cases boundaryOf a (s.seqr.leg + 1) with
  | placement =>
    dsimp only
    cases a.seqr.image with
    | none => rfl
    | some i =>
      dsimp only
      cases choosePlacement a.seqr.placementDue i a <;> rfl
  | stop | rollback | hallRestore | withKeeper | join | go => rfl

variable (m : Nat) (t : Time) (a : State)

theorem nextLeg_legHeld : LegHeld a (nextLeg out w m t a) := (switchRoute_legHeld a m).trans (beginLeg_legHeld ..)

/-- Whatever stands at the boundary keeps what the work before it has left. -/
theorem pastBoundary_legHeld : LegHeld a (pastBoundary out w m t a) := by
  have hpair : ∀ p : Pair, LegHeld a { a with pair := p } := fun _ => .of_same rfl rfl
  unfold pastBoundary
  cases boundaryOf a m with
  | stop => exact stopTraverse_legHeld a
  | rollback => exact rollback_legHeld a m
  | placement =>
    dsimp only
    cases a.seqr.image with
    | none => exact .refl a
    | some i =>
      dsimp only
      have hchosen := choosePlacement_legHeld a a.seqr.placementDue i
      cases hp : choosePlacement a.seqr.placementDue i a with
      | runs b =>
        rw [hp] at hchosen
        exact hchosen.trans (startRestore_legHeld b _)
      | handsOver b =>
        rw [hp] at hchosen
        exact (hchosen.trans (seqr_legHeld b _)).trans (nextLeg_legHeld ..)
      | stops b =>
        rw [hp] at hchosen
        exact .ite ((hchosen.trans (tellHall_legHeld b _)).trans (faultSeq_legHeld _)) (hchosen.trans (faultSeq_legHeld b))
  | hallRestore c => exact hallRestore_legHeld a c
  | withKeeper => exact (hpair _).trans (startRestore_legHeld _ 0)
  | join => exact ((hpair _).trans (startRestore_legHeld _ 0)).trans (.setEvent _ (by decide) (by decide) (by decide) _)
  | go => exact nextLeg_legHeld ..

end

/-! ### Which boundary it is -/

section
variable {a : State} {m : Nat}

theorem boundaryOf_stop {k : Nat} (hstop : a.seqr.stopAt = some k) (hk : k ≤ m) : boundaryOf a m = .stop := by
  simp [boundaryOf, named, hstop, hk]

theorem boundaryOf_rollback (hstop : a.seqr.stopAt = none) (hhall : a.seqr.hallStop = none) {r : LegRec} (hm : 2 ≤ m)
    (hrec : legRec a (m - 2) = some r) (hclosed : r.checksClosed = true) (hroll : wantsRollback r = true) : boundaryOf a m = .rollback := by
  simp [boundaryOf, named, hstop, hhall, hrec, hm, hclosed, hroll]

theorem boundaryOf_go (hstop : a.seqr.stopAt = none) (hhall : a.seqr.hallStop = none) (hnow : a.seqr.placementNow = false)
    (hdue : a.seqr.placementDue = false) (hrestore : a.seqr.hallRestore = none) (hjoin : a.pair.joinAt = none) (hkeeper : a.pair.restoreAt = none)
    (hgood : m < 2 ∨ ∃ r, legRec a (m - 2) = some r ∧ r.fail = 0) : boundaryOf a m = .go := by
  have hroll : ∀ r, legRec a (m - 2) = some r → (decide (2 ≤ m) && wantsRollback r && r.checksClosed) = false := fun r hr => by
    rcases hgood with hm | ⟨q, hrec, hfail⟩
    · simp [Nat.not_le.2 hm]
    · obtain rfl : q = r := Option.some.inj (hrec.symm.trans hr)
      simp [wantsRollback, hfail]
  cases hrec : legRec a (m - 2) with
  | none => simp [boundaryOf, named, hstop, hhall, hnow, hdue, hrestore, hjoin, hkeeper, hrec]
  | some r => simp [boundaryOf, named, hstop, hhall, hnow, hdue, hrestore, hjoin, hkeeper, hrec, hroll r hrec]

end

/-! ### A stop (R219) -/

theorem endRequest_accepted (o : Origin) (st : Status) (s : State) : ∀ b ∈ (endRequest o st s).vcp.accepted, isOrigin o b = false := by
  unfold endRequest
  split
  next hnone => simpa using List.find?_eq_none.1 hnone
  next x _ =>
    dsimp only
    split
    · simp [handOver]
    · split
      · simp [notifySession]
      · split <;> simp [handOver]

/-- The traverse has stopped, and its request is still to be answered. -/
def stopped (a : State) : State :=
  engineDown true (setDies false (stopLegs .loaded (markCkpt (fun c => decide (c.state = 1)) 3 { a with seqr := { a.seqr with stopOrigin := none, hallStop := none } })))

section
variable {a : State} (hfault : a.seqr.hallFault = false) (hidle : (a.upd 2).activating = none)
include hfault hidle

theorem stopTraverse_eq : stopTraverse a = a.seqr.stopOrigin.elim (stopped a) fun o => endRequest o .completed (stopped a) := by
  have hloaded : loadActivated (stopped a) = stopped a := by
    unfold loadActivated
    rw [if_neg]
    rw [State.upd_congr (show (stopped a).upds = a.upds by simp [stopped, engineDown, setDies_frame, stopLegs, markCkpt]), hidle]
    decide
  unfold stopTraverse
  dsimp only
  rw [if_neg (by simp [hfault]), show engineDown true (setDies false (stopLegs .loaded _)) = stopped a from rfl, hloaded]
  cases a.seqr.stopOrigin with
  | none => rw [Option.elim_none]
  | some o => rw [Option.elim_some]

end

theorem stopped_loaded {a : State} (hst : a.seqr.st = .running) : (stopped a).seqr.st = .loaded := by
  simp [stopped, engineDown, setDies_frame, stopLegs, markCkpt, hst]

theorem stopped_legs (a : State) : ∀ r ∈ (stopped a).seqr.legs, r.dropped = true := by
  intro r hr
  simp only [stopped, engineDown, setDies_frame, stopLegs, markCkpt, List.mem_map] at hr
  obtain ⟨q, -, rfl⟩ := hr
  rfl

theorem stopped_stopAt (a : State) : (stopped a).seqr.stopAt = none := by
  simp [stopped, engineDown, setDies_frame, stopLegs]

theorem stopped_fall {a : State} (hk : isKeeper a = true) : (stopped a).plant.fall = some true := by
  have hrole : (setDies false (stopLegs .loaded (markCkpt (fun c => decide (c.state = 1)) 3
      { a with seqr := { a.seqr with stopOrigin := none, hallStop := none } }))).pair = a.pair := by
    simp [setDies_frame, stopLegs, markCkpt]
  have hkeeps : ∀ b : State, b.pair = a.pair → (engineDown true b).plant.fall = some true := fun b hb => by
    have hkb : isKeeper b = true := by rw [isKeeper, hb]; exact hk
    simp [engineDown, hkb]
  exact hkeeps _ hrole

/-- What a stop reads is as it was before the work at its boundary. -/
structure StopKept (s t : State) : Prop where
  st : t.seqr.st = s.seqr.st
  stopAt : t.seqr.stopAt = s.seqr.stopAt
  stopOrigin : t.seqr.stopOrigin = s.seqr.stopOrigin
  hallFault : t.seqr.hallFault = s.seqr.hallFault
  role : t.pair.role = s.pair.role
  upds : t.upds = s.upds

theorem StopKept.trans {s t u : State} (h : StopKept s t) (k : StopKept t u) : StopKept s u :=
  ⟨k.st.trans h.st, k.stopAt.trans h.stopAt, k.stopOrigin.trans h.stopOrigin, k.hallFault.trans h.hallFault, k.role.trans h.role,
    k.upds.trans h.upds⟩

theorem Settled.stopKept {s t : State} (h : Settled s t) : StopKept s t := by
  obtain ⟨⟨_, _, _, _, hq⟩, hp, hu, -⟩ := h
  exact ⟨by rw [hq], by rw [hq], by rw [hq], by rw [hq], by rw [hp], hu⟩

theorem closeLeg_stopKept (n : Nat) (s : State) : StopKept s (closeLeg n s) := by
  have hupds : (closeLeg n s).upds = s.upds := by simp [closeLeg_frame]
  cases hrec : legRec s n with
  | none => 
    rw [show closeLeg n s = s by simp [closeLeg, hrec]]
    exact (Settled.refl s).stopKept
  | some r =>
    cases hclosed : r.checksClosed with
    | true =>
      rw [closeLeg_of_closed hrec hclosed]
      exact (Settled.refl s).stopKept
    | false =>
      obtain ⟨a, q, hclose, ⟨⟨p, rd, hcharged⟩, hrole⟩, -⟩ := closeLeg_closes hrec hclosed
      obtain ⟨⟨sa, sb, due, hslots⟩, hrole'⟩ := closeCkpt_slotsOnly q (setLeg q a)
      have hseqr : (closeLeg n s).seqr.st = s.seqr.st ∧ (closeLeg n s).seqr.stopAt = s.seqr.stopAt
          ∧ (closeLeg n s).seqr.stopOrigin = s.seqr.stopOrigin ∧ (closeLeg n s).seqr.hallFault = s.seqr.hallFault := by
        rw [hclose, hslots]
        simp [setLeg, hcharged]
      obtain ⟨hst, hat, horigin, hfault⟩ := hseqr
      exact ⟨hst, hat, horigin, hfault, by rw [hclose, hrole']; exact hrole, hupds⟩

theorem releaseAt_stopKept (m : Nat) (s : State) : StopKept s (releaseAt m s) := by
  have hclosed := closeLeg_stopKept (m - 2) s
  unfold releaseAt
  split
  · exact (Settled.refl s).stopKept
  · dsimp only
    split
    next r hrec =>
      split
      · exact hclosed
      · exact hclosed.trans (releaseDue_settled _ (by rw [(legRec_spec hrec).1, hrec])).stopKept
    next => exact hclosed

theorem atBoundary_stopKept (s : State) : StopKept s (atBoundary s) :=
  ((endRotation_settled s).stopKept.trans (releaseAt_stopKept _ _)).trans (boundaryWork_settled _).stopKept

/-! ### A restore (R204, R205) -/

/-- A slot that was being written is invalid. -/
def unwritten (c : Ckpt) : Ckpt := if decide (c.state = 1) then { c with state := 3 } else c

/-- Only a slot being written is marked, and that one was of no use. -/
theorem usableCkpt_unwritten (s : State) (c : Ckpt) (l : Option Ckpt) :
    (if usableCkpt (legsDiscarded s) (unwritten c) then some (unwritten c) else l) = if usableCkpt s c then some c else l := by
  have himage : (legsDiscarded s).seqr.image = s.seqr.image := rfl
  by_cases hw : c.state = 1
  · simp [unwritten, usableCkpt, hw]
  · simp [unwritten, usableCkpt, hw, himage]

theorem legsDiscarded_slots (s : State) : (legsDiscarded s).seqr.slotA = unwritten s.seqr.slotA ∧ (legsDiscarded s).seqr.slotB = unwritten s.seqr.slotB
    ∧ (legsDiscarded s).seqr.lastB = s.seqr.lastB := by
  exact ⟨rfl, rfl, rfl⟩

theorem lastCkpt_discarded (s : State) : lastCkpt (legsDiscarded s) = lastCkpt s := by
  obtain ⟨hA, hB, hlast⟩ := legsDiscarded_slots s
  unfold lastCkpt
  rw [hA, hB, hlast]
  cases s.seqr.lastB with
  | true => simp [usableCkpt_unwritten]
  | false => simp [usableCkpt_unwritten]

theorem startRestore_usable {s : State} {c : Ckpt} (h : lastCkpt s = some c) (reload : Nat) : startRestore reload s = restoreBegun reload s := by
  rw [startRestore_eq, lastCkpt_discarded, h]
  rfl

theorem restoreBegun_seqr (reload : Nat) (s : State) :
    (restoreBegun reload s).seqr.st = .restoring ∧ ∀ q ∈ (restoreBegun reload s).seqr.legs, q.dropped = true := by
  refine ⟨rfl, fun q hq => ?_⟩
  have hlegs : (restoreBegun reload s).seqr.legs = s.seqr.legs.map (fun r => { r with dropped := true }) := by
    simp [restoreBegun, restoreWaits, legsDiscarded, endScheduled, markCkpt, dropLegs]
  rw [hlegs] at hq
  obtain ⟨r, -, rfl⟩ := List.mem_map.1 hq
  rfl

/-- On a Keeper outside a hall, with no placement waiting, a rollback is a restore (R228). -/
theorem rollback_alone {a : State} {m : Nat} {i : Image} {c : Ckpt} (hk : isKeeper a = true) (himage : a.seqr.image = some i) (hone : i.modules ≤ 1)
    (hckpt : lastCkpt a = some c) (hnow : a.seqr.placementNow = false) (hdue : a.seqr.placementDue = false) : rollback m a = restoreBegun 0 a := by
  unfold rollback
  rw [if_neg (by simp [not_isRelief_of_isKeeper hk])]
  simp only [himage, hckpt, if_neg (Nat.not_lt.2 hone), hnow, hdue]
  exact startRestore_usable hckpt 0

/-! ### The checkpoint of a restore (R204, R205) -/



theorem lastCkpt_closed {s : State} {c : Ckpt} (h : lastCkpt s = some c) : c.state = 2 := by
  have hpick : ∀ x y : Ckpt, (if usableCkpt s x then some x else if usableCkpt s y then some y else none) = some c → usableCkpt s c = true :=
    fun x y hxy => by
      split at hxy
      next hu => exact Option.some.inj hxy ▸ hu
      next =>
        split at hxy
        next hu => exact Option.some.inj hxy ▸ hu
        next => exact absurd hxy (by simp)
  have husable : usableCkpt s c = true := hpick _ _ h
  simp only [usableCkpt, Bool.and_eq_true, decide_eq_true_eq] at husable
  exact husable.1

/-- The last valid checkpoint is marked bad. -/
def ckptBad (c : Ckpt) (s : State) : State := (markCkpt (fun k => decide (k = c)) 3 s).setEvent U.hub Off.trvEvents 8

theorem soundCkpt_match {n : Nat} {digests : Nat × Nat} {s : State} {c : Ckpt} (h : lastCkpt s = some c)
    (hd : (if s.seqr.slotA = c then digests.1 else digests.2) = c.digest) : soundCkpt (n + 1) digests s = (some c, s) := by
  simp [soundCkpt, h, hd]

theorem soundCkpt_bad {n : Nat} {digests : Nat × Nat} {s : State} {c : Ckpt} (h : lastCkpt s = some c)
    (hd : (if s.seqr.slotA = c then digests.1 else digests.2) ≠ c.digest) : soundCkpt (n + 1) digests s = soundCkpt n digests (ckptBad c s) := by
  simp [soundCkpt, h, hd, ckptBad]

theorem ckptBad_notHeld {c : Ckpt} (hc : c.state = 2) (s : State) : NotHeld c (ckptBad c s) := by
  have hmarked : ∀ k : Ckpt, (if decide (k = c) then { k with state := 3 } else k) ≠ c := fun k hk => by
    by_cases h : k = c
    · rw [if_pos (by simp [h])] at hk
      exact absurd (congrArg Ckpt.state hk) (by simp [hc])
    · rw [if_neg (by simp [h])] at hk
      exact h hk
  exact ⟨hmarked _, hmarked _⟩

/-- Marking further slots brings no checkpoint back. -/
theorem NotHeld.ckptBad {c : Ckpt} (hc : c.state = 2) {s : State} (h : NotHeld c s) (k : Ckpt) : NotHeld c (ckptBad k s) := by
  have hmarked : ∀ x : Ckpt, x ≠ c → (if decide (x = k) then { x with state := 3 } else x) ≠ c := fun x hx hk => by
    by_cases he : x = k
    · rw [if_pos (by simp [he])] at hk
      exact absurd (congrArg Ckpt.state hk) (by simp [hc])
    · rw [if_neg (by simp [he])] at hk
      exact hx hk
  exact ⟨hmarked _ h.1, hmarked _ h.2⟩

/-- The search for a sound slot marks slots and nothing else. -/
theorem soundCkpt_keeps (n : Nat) (digests : Nat × Nat) {c : Ckpt} (hc : c.state = 2) (s : State) (h : NotHeld c s) :
    LegHeld s (soundCkpt n digests s).2 ∧ NotHeld c (soundCkpt n digests s).2 ∧ (soundCkpt n digests s).2.seqr.st = s.seqr.st := by
  induction n generalizing s with
  | zero => exact ⟨.refl s, h, rfl⟩
  | succ n ih =>
    cases hlast : lastCkpt s with
    | none =>
      rw [show soundCkpt (n + 1) digests s = (none, s) by simp [soundCkpt, hlast]]
      exact ⟨.refl s, h, rfl⟩
    | some k =>
      by_cases hd : (if s.seqr.slotA = k then digests.1 else digests.2) = k.digest
      · rw [soundCkpt_match hlast hd]
        exact ⟨.refl s, h, rfl⟩
      · rw [soundCkpt_bad hlast hd]
        obtain ⟨hheld, hnot, hst⟩ := ih (ckptBad k s) (h.ckptBad hc k)
        exact ⟨((markCkpt_legHeld s _ _).trans (.setEvent _ (by decide) (by decide) (by decide) _)).trans hheld, hnot, hst⟩

theorem faultSeq_seqr {s : State} (hst : s.seqr.st = .restoring) : (faultSeq s).seqr.st = .faulted
    ∧ (faultSeq s).seqr.slotA = s.seqr.slotA ∧ (faultSeq s).seqr.slotB = s.seqr.slotB := by
  refine ⟨?_, ?_, ?_⟩ <;> simp [faultSeq, engineDown, setDies_frame, stopLegs, hst]

/-- The legs of a restore count as withheld before what waits for the boundary comes about (R204 step 3). -/
def lostCounted (lost : Nat) (s : State) : State :=
  ({ s with seqr := { s.seqr with restore := none, withheldRun := s.seqr.withheldRun + lost, cleanRun := 0 } }).addCount U.hub Off.trvWithheld 31 0 lost

/-- Legs are about to resume. -/
def resumed (ts : Time) (s : State) : State := boundaryWork (lostCounted ((ceilFrame s.now - ts) / Nat.max 1 (legNs s)) s)

section
variable (c : Ckpt) (ts : Time) (out : EngineOut) (w : LegWork) (s : State)

theorem resumed_seqr : ∃ k, (resumed ts s).seqr = { s.seqr with restore := none, withheldRun := k, cleanRun := 0 } := by
  have hwork : (resumed ts s).seqr = (lostCounted ((ceilFrame s.now - ts) / Nat.max 1 (legNs s)) s).seqr := by simp [resumed, boundaryWork_frame]
  exact ⟨_, hwork⟩

theorem resume_eq : resume c ts out w s = beginLeg (s.seqr.leg + 1) (ceilFrame s.now) c.phase true true out w (resumed ts s) := by
  unfold resume resumed lostCounted
  dsimp only [State.addCount, State.setReg]

theorem resume_runs : LegRuns (s.seqr.leg + 1) (ceilFrame s.now) c.phase true true out (resumed ts s) (resume c ts out w s) := by
  rw [resume_eq]
  exact beginLeg_runs _ _ _ _ _ _ _ _

theorem resumed_legHeld : OutsStill s (resumed ts s) ∧ ∀ i, s.bitAt U.hub Off.trvEvents i = true → (resumed ts s).bitAt U.hub Off.trvEvents i = true := by
  have hwork := boundaryWork_legHeld (lostCounted ((ceilFrame s.now - ts) / Nat.max 1 (legNs s)) s)
  have hcounted : OutsStill s (lostCounted ((ceilFrame s.now - ts) / Nat.max 1 (legNs s)) s) := .of_plant rfl
  refine ⟨hcounted.trans hwork.toOutsStill, fun i hi => hwork.events i ?_⟩
  rw [State.bitAt, lostCounted, State.reg_addCount_other _ (by decide) (by decide) (by decide)]
  exact hi

end

/-! ### The commands at a boundary -/

theorem exec_checksClosed {s : State} {r : LegRec} (hrun : legsRun s = true) (hleg : 1 ≤ s.seqr.leg) (hrec : legRec s (s.seqr.leg - 1) = some r)
    (hmirror : mirrorActive s = false) : exec .checksClosed s = .next (closeLeg (s.seqr.leg - 1) s) := by
  have hexec : exec .checksClosed s = execChecksClosed s := rfl
  rw [hexec, execChecksClosed, if_pos ⟨hrun, hleg⟩]
  dsimp only
  rw [hrec]
  dsimp only
  rw [if_neg (by simp [hmirror])]

/-- Legs resume from the checkpoint the search finds, or the sequencer enters FAULTED. -/
theorem exec_restoreResume {digests : Nat × Nat} (out : EngineOut) (w : LegWork) {s a : State} {z x : Nat} {found : Option Ckpt}
    (hst : s.seqr.st = .restoring) (hrestore : s.seqr.restore = some (z, x)) (hsearch : soundCkpt 2 digests s = (found, a)) :
    exec (.restoreResume digests out w) s = .next (found.elim (faultSeq a) fun c => resume c z out w a) := by
  have hexec : exec (.restoreResume digests out w) s = execRestoreResume digests out w s := rfl
  rw [hexec, execRestoreResume, hst, hrestore]
  dsimp only
  rw [hsearch]
  cases found with
  | none => rw [Option.elim_none]
  | some c => rw [Option.elim_some]

section
variable (out : EngineOut) (w : LegWork) {s : State}

/-- What the search leaves runs on from a sound checkpoint, or faults. -/
theorem restoreResume_bad {digests : Nat × Nat} {z x : Nat} {c : Ckpt} (hst : s.seqr.st = .restoring) (hrestore : s.seqr.restore = some (z, x))
    (hlast : lastCkpt s = some c) (hbad : (if s.seqr.slotA = c then digests.1 else digests.2) ≠ c.digest) :
    ∃ t, exec (.restoreResume digests out w) s = .next t ∧ OutsStill s t ∧ t.bitAt U.hub Off.trvEvents 8 = true ∧ NotHeld c t
      ∧ ((soundCkpt 2 digests s).1 = none → t.seqr.st = .faulted) := by
  have hc := lastCkpt_closed hlast
  have hmarked : (ckptBad c s).bitAt U.hub Off.trvEvents 8 = true := State.bitAt_setEvent_self _ _ _ _ (by decide)
  have hstill : OutsStill s (ckptBad c s) := .of_plant rfl
  have hkeeps := soundCkpt_keeps 1 digests hc (ckptBad c s) (ckptBad_notHeld hc s)
  rw [← soundCkpt_bad hlast hbad] at hkeeps
  cases hsearch : soundCkpt 2 digests s with | mk found a
  rw [hsearch] at hkeeps
  obtain ⟨hheld, hnot, hstays⟩ := hkeeps
  refine ⟨_, exec_restoreResume out w hst hrestore hsearch, ?_⟩
  cases found with
  | none =>
    obtain ⟨hfaulted, hA, hB⟩ := faultSeq_seqr (s := a) (hstays.trans hst)
    have hfault := hheld.trans (faultSeq_legHeld a)
    exact ⟨hstill.trans hfault.toOutsStill, hfault.events 8 hmarked, by rw [NotHeld, Option.elim_none, hA, hB]; exact hnot, fun _ => hfaulted⟩
  | some k =>
    obtain ⟨hresumed, hevents⟩ := resumed_legHeld z a
    obtain ⟨run, hseqr⟩ := resumed_seqr z a
    have hbegun := beginLeg_legHeld (a.seqr.leg + 1) (ceilFrame a.now) k.phase true true out w (resumed z a)
    have hslots := (resume_runs k z out w a).slots c hc (by rw [NotHeld, hseqr]; exact hnot)
    rw [Option.elim_some]
    refine ⟨?_, ?_, hslots, fun h => absurd h (by simp)⟩
    · rw [resume_eq]
      exact (hstill.trans hheld.toOutsStill).trans (hresumed.trans hbegun.toOutsStill)
    · rw [resume_eq]
      exact hbegun.events 8 (hevents 8 (hheld.events 8 hmarked))

variable (hrun : legsRun s = true) (ht : s.seqr.legStart + legNs s ≤ s.now)
include hrun ht

/-- With nothing else named for the boundary the next leg runs. -/
theorem legStart_runs (hstop : s.seqr.stopAt = none) (hhall : s.seqr.hallStop = none) (hnow : s.seqr.placementNow = false)
    (hdue : s.seqr.placementDue = false) (hrestore : s.seqr.hallRestore = none) (hjoin : s.pair.joinAt = none) (hkeeper : s.pair.restoreAt = none)
    (hgood : s.seqr.leg = 0 ∨ ∃ r, legRec s (s.seqr.leg - 1) = some r ∧ r.checksClosed = true ∧ r.fail = 0) :
    ∃ (a : State) (phase : Nat) (t : State), exec (.legStart out w) s = .next t ∧ OutsStill s t
      ∧ LegRuns (s.seqr.leg + 1) (s.seqr.legStart + legNs s) phase false false out a t := by
  have hsettled : Settled s (atBoundary s) := atBoundary_settled s (hgood.imp id fun ⟨r, hrec, hclosed, _⟩ => ⟨r, hrec, hclosed⟩)
  obtain ⟨⟨_, _, _, _, hseqr⟩, hpair, -, hrecords⟩ := hsettled
  have hgo : boundaryOf (atBoundary s) (s.seqr.leg + 1) = .go := by
    refine boundaryOf_go (by rw [hseqr, ← hstop]) (by rw [hseqr, ← hhall]) (by rw [hseqr, ← hnow]) (by rw [hseqr, ← hdue])
      (by rw [hseqr, ← hrestore]) (by rw [hpair, hjoin]) (by rw [hpair, hkeeper]) ?_
    rcases hgood with hleg | ⟨r, hrec, -, hfail⟩
    · exact .inl (by omega)
    · obtain ⟨x, hx, -, hxfail⟩ := hrecords _ r hrec
      exact .inr ⟨x, by rw [show s.seqr.leg + 1 - 2 = s.seqr.leg - 1 by omega]; exact hx, hxfail.trans hfail⟩
  have hpast : pastBoundary out w (s.seqr.leg + 1) (s.seqr.legStart + legNs s) (atBoundary s)
      = nextLeg out w (s.seqr.leg + 1) (s.seqr.legStart + legNs s) (atBoundary s) := by simp only [pastBoundary, hgo]
  refine ⟨switchRoute (s.seqr.leg + 1) (atBoundary s), (switchRoute (s.seqr.leg + 1) (atBoundary s)).seqr.phase, _,
    exec_legStart out w hrun ht, (atBoundary_still s).trans (pastBoundary_legHeld ..).toOutsStill, ?_⟩
  rw [hpast]
  exact beginLeg_runs _ _ _ _ _ _ _ _

/-- A stop that is due ends the traverse at the boundary. -/
theorem legStart_stops {k : Nat} (hstop : s.seqr.stopAt = some k) (hk : k ≤ s.seqr.leg + 1) (hidle : (s.upd 2).activating = none)
    (hfault : s.seqr.hallFault = false) : exec (.legStart out w) s = .next (stopTraverse (atBoundary s))
      ∧ stopTraverse (atBoundary s) = s.seqr.stopOrigin.elim (stopped (atBoundary s)) fun o => endRequest o .completed (stopped (atBoundary s)) := by
  obtain ⟨-, hat, horigin, hfaults, -, hupds⟩ := atBoundary_stopKept s
  refine ⟨?_, ?_⟩
  · rw [exec_legStart out w hrun ht, pastBoundary, boundaryOf_stop (hat.trans hstop) hk]
  · rw [stopTraverse_eq (hfaults.trans hfault) (by rw [State.upd_congr hupds]; exact hidle), horigin]

/-- A failed leg rolls a single module back. -/
theorem legStart_rollsBack {r : LegRec} {i : Image} {c : Ckpt} (hleg : 1 ≤ s.seqr.leg) (hrec : legRec s (s.seqr.leg - 1) = some r)
    (hclosed : r.checksClosed = true) (hroll : wantsRollback r = true) (hstop : s.seqr.stopAt = none) (hhall : s.seqr.hallStop = none)
    (hnow : s.seqr.placementNow = false) (hdue : s.seqr.placementDue = false) (hk : isKeeper s = true) (himage : s.seqr.image = some i)
    (hone : i.modules ≤ 1) (hlast : lastCkpt s = some c) : exec (.legStart out w) s = .next (restoreBegun 0 (atBoundary s)) := by
  obtain ⟨⟨_, _, _, _, hseqr⟩, hpair, -, hrecords⟩ := atBoundary_settled s (.inr ⟨r, hrec, hclosed⟩)
  obtain ⟨x, hx, hxclosed, hxfail⟩ := hrecords _ r hrec
  have hback : boundaryOf (atBoundary s) (s.seqr.leg + 1) = .rollback :=
    boundaryOf_rollback (by rw [hseqr, ← hstop]) (by rw [hseqr, ← hhall]) (by omega)
      (by rw [show s.seqr.leg + 1 - 2 = s.seqr.leg - 1 by omega]; exact hx) (hxclosed.trans hclosed) (by rw [wantsRollback, hxfail]; exact hroll)
  have hckpt : lastCkpt (atBoundary s) = some c := by
    rw [← hlast]
    simp [lastCkpt, usableCkpt, hseqr]
  rw [exec_legStart out w hrun ht, pastBoundary, hback]
  dsimp only
  rw [rollback_alone (by rw [isKeeper, hpair]; exact hk) (by rw [hseqr]; exact himage) hone hckpt (by rw [hseqr, ← hnow]) (by rw [hseqr, ← hdue])]

/-- A leg whose checks failed, or released while Deck is stopped or the legs stand outside the hall, is withheld whatever stands at the boundary. -/
theorem legStart_withholds {r : LegRec} (hleg : 1 ≤ s.seqr.leg) (hrec : legRec s (s.seqr.leg - 1) = some r) (hclosed : r.checksClosed = true)
    (hcommitted : r.committed = false) (hwithheld : r.withheld = false) (hok : (r.checksOk && s.fw.deckUp && !s.pair.misaligned) = false) :
    ∃ t, exec (.legStart out w) s = .next t ∧ OutsStill s t ∧ LegHeld (withhold r (endRotation s)) t := by
  have hpast := pastBoundary_legHeld out w (s.seqr.leg + 1) (s.seqr.legStart + legNs s) (atBoundary s)
  refine ⟨_, exec_legStart out w hrun ht, (atBoundary_still s).trans hpast.toOutsStill, ?_⟩
  exact (atBoundary_withheld s hleg hrec hclosed hcommitted hwithheld hok ▸ boundaryWork_legHeld _ : LegHeld _ (atBoundary s)).trans hpast

end

theorem endRotation_withheld (s : State) : (endRotation s).reg U.hub Off.trvWithheld = s.reg U.hub Off.trvWithheld := by
  unfold endRotation
  split
  · split
    · exact State.reg_setEvent_other _ (by decide) (by decide) (by decide)
    · rfl
  · rfl

/-- Settles O32: what the work at a boundary keeps, with what the boundary named for it does; the closing of a leg's checks; the search for a
sound checkpoint. -/
theorem legBoundaries : Obligations.LegBoundaries := by
  unfold Obligations.LegBoundaries
  refine fun out w s => ⟨fun hrun ht => ⟨?runs, ?withheld, ?stops, ?rollsBack⟩, ?closes, ?restores⟩
  case runs =>
    rintro ⟨hstop, hhall, hnow, hdue, hrestore, hjoin, hkeeper⟩ hgood
    obtain ⟨a, phase, t, hexec, hstill, hruns⟩ := legStart_runs out w hrun ht hstop hhall hnow hdue hrestore hjoin hkeeper hgood
    obtain ⟨q, l, hlegs, hq, hout, -, -⟩ := hruns.record
    exact ⟨t, hexec, hruns.st, hruns.leg, hruns.start, ⟨q, l, hlegs, hq, hout⟩, fun l _ => hstill.out l, hstill.mode⟩
  case withheld =>
    intro r hleg hrec hclosed hcommitted hwithheld hok
    obtain ⟨t, hexec, hstill, hheld⟩ := legStart_withholds out w hrun ht hleg hrec hclosed hcommitted hwithheld hok
    obtain ⟨hevent, hcount, hengine⟩ := withhold_counts (endRotation s) r
    refine ⟨t, hexec, hheld.events 2 hevent, ?_, hheld.engine hengine, fun l _ => hstill.out l⟩
    rw [State.fldOf, hheld.withheld]
    rw [State.fldOf, State.fldOf, endRotation_withheld] at hcount
    exact hcount
  case stops =>
    intro k hstop hk hidle hfault
    obtain ⟨hexec, hanswered⟩ := legStart_stops out w hrun ht hstop hk hidle hfault
    have hkept := atBoundary_stopKept s
    have hstill := (atBoundary_still s).trans (stopTraverse_legHeld (atBoundary s)).toOutsStill
    have hsame : (stopTraverse (atBoundary s)).seqr = (stopped (atBoundary s)).seqr
        ∧ (stopTraverse (atBoundary s)).plant = (stopped (atBoundary s)).plant := by
      rw [hanswered]
      cases s.seqr.stopOrigin with
      | none => exact ⟨rfl, rfl⟩
      | some o => simp
    obtain ⟨hseqr, hplant⟩ := hsame
    refine ⟨_, hexec, ?_, ?_, ?_, ?_, fun hk _ => ?_, fun l _ => hstill.out l, fun o ho => ?_⟩
    · rw [hseqr, stopped_loaded (hkept.st.trans (by simpa [legsRun] using hrun))]
    · rw [hseqr]
      exact stopped_legs _
    · rw [hseqr, stopped_stopAt]
    · rw [hplant]
      rfl
    · rw [hplant, stopped_fall (by rw [isKeeper, hkept.role]; exact hk)]
    · rw [hanswered, ho, Option.elim_some]
      exact endRequest_accepted o .completed _
  case rollsBack =>
    rintro r hleg hrec hclosed hroll hstop hhall hnow hdue hk ⟨i, c, himage, hone, hlast⟩
    have hexec := legStart_rollsBack out w hrun ht hleg hrec hclosed hroll hstop hhall hnow hdue hk himage hone hlast
    obtain ⟨hst, hdropped⟩ := restoreBegun_seqr 0 (atBoundary s)
    refine ⟨_, hexec, hst, hdropped, fun l _ => ?_⟩
    exact ((atBoundary_still s).trans (restoreBegun_legHeld (atBoundary s) 0).toOutsStill).out l
  case closes =>
    intro r hrun hleg hrec hmirror
    refine ⟨fun hopen => ?_, fun hclosed => ?_⟩
    · obtain ⟨q, hq, hfrom, hothers⟩ := closeLeg_record hrec hopen
      refine ⟨_, q, exec_checksClosed hrun hleg hrec hmirror, hq, hfrom.closed, hfrom.ok, hfrom.fail, hothers, fun l => ?_, closeLeg_changesOnly _ _⟩
      exact State.loop_congr (by simp [closeLeg_frame]) l
    · rw [exec_checksClosed hrun hleg hrec hmirror, closeLeg_of_closed hrec hclosed]
  case restores =>
    intro z x c digests hrestore hlast hst
    refine ⟨fun hmatch => ?_, fun hbad => ?_⟩
    · have hexec := exec_restoreResume out w hst hrestore (soundCkpt_match hlast hmatch)
      rw [Option.elim_some] at hexec
      obtain ⟨run, hseqr⟩ := resumed_seqr z s
      obtain ⟨hrunning, hleg, hstart, hphase, hnone, ⟨q, l, hlegs, -, -, hrestored, hckpt⟩, -⟩ := resume_runs c z out w s
      refine ⟨_, hexec, hrunning, hleg, hstart, ?_, ⟨q, l, hlegs, hrestored, hckpt.trans (Bool.true_or _)⟩, ?_⟩
      · rw [hnone, hseqr]
      · exact hphase.trans (congrArg (fun k => (c.phase + 1) % Nat.max 1 k) (phaseCount_congr (by rw [hseqr])))
    · obtain ⟨t, hexec, hstill, hevent, ⟨hA, hB⟩, hfaulted⟩ := restoreResume_bad out w hst hrestore hlast hbad
      exact ⟨t, hexec, hevent, hA, hB, hfaulted, fun l _ => hstill.out l⟩

end Sys2Proof.Machine
end

section
/-! R76 to R78: what an accepted request leaves, the cut of the caps by a lower envelope, and ENVELOPE_SET. -/

namespace Sys2Proof.Machine

open Sys2Proof Sys2Proof.Safety

/-! ### A change of one part -/

section
variable (s : State)

theorem with_pair_changesOnly (p : Pair) : ChangesOnly [.pair] s { s with pair := p } := by
  intro q hq
  cases q <;> simp [Part.Same] at hq ⊢

theorem with_vcp_changesOnly (v : Vcp) : ChangesOnly [.vcp] s { s with vcp := v } := by
  intro q hq
  cases q <;> simp [Part.Same] at hq ⊢

theorem with_broker_changesOnly (b : Broker) : ChangesOnly [.broker] s { s with broker := b } := by
  intro q hq
  cases q <;> simp [Part.Same] at hq ⊢

theorem with_plant_changesOnly (p : Plant) : ChangesOnly [.plant] s { s with plant := p } := by
  intro q hq
  cases q <;> simp [Part.Same] at hq ⊢

theorem with_integ_changesOnly (i : Integ) : ChangesOnly [.integ] s { s with integ := i } := by
  intro q hq
  cases q <;> simp [Part.Same] at hq ⊢

theorem with_seqr_changesOnly (x : Seqr) : ChangesOnly [.seqr] s { s with seqr := x } := by
  intro q hq
  cases q <;> simp [Part.Same] at hq ⊢

theorem with_plant_broker_changesOnly (p : Plant) (b : Broker) : ChangesOnly [.broker, .plant] s { s with plant := p, broker := b } := by
  intro q hq
  cases q <;> simp [Part.Same] at hq ⊢

theorem modValve_changesOnly (c : Nat) (g : Valve → Valve) : ChangesOnly [.valves] s (s.modValve c g) := by
  intro q hq
  cases q <;> simp [Part.Same] at hq ⊢

theorem modMotor_changesOnly (c : Nat) (g : Motor → Motor) : ChangesOnly [.motors] s (s.modMotor c g) := by
  intro q hq
  cases q <;> simp [Part.Same] at hq ⊢

end

/-! ### Requests that are accepted -/

section
variable {op : Op} {h : Hdr} {e : Session} {s u : State} {c : Time} {v : Nat} {tag : BitVec 16} {eff : State → State} {data : List Nat}
  {ps : List Part} {l : List (Nat × Nat)} (hu : u = touch h e.id s)
include hu

/-- An accepted request is answered, and beside the reply it changes what its effect changes. -/
theorem accepted_spec (hps : [.outbox, .regs, .vcp] ⊆ ps) (hsent : ∀ a, a.outbox <:+ (eff a).outbox) (hparts : ∀ a, ChangesOnly ps a (eff a))
    (hregs : ∀ a, RegsOnly l a (eff a)) :
    Answers h .accepted c data s (eff (accepting op h e c v tag eff data u)) ∧ ChangesOnly ps s (eff (accepting op h e c v tag eff data u))
      ∧ RegsOnly l s (eff (accepting op h e c v tag eff data u)) := by
  subst hu
  have hacc : ChangesOnly [.outbox, .regs, .vcp] (touch h e.id s) (accepting op h e c v tag eff data (touch h e.id s)) := fun p hp => by
    cases p <;> simp [Part.Same] at hp ⊢
  refine ⟨?_, ?_, ?_⟩
  · exact sends_from (sends_mono (accepting_sends op h e c v tag eff data _) (exists_append_of_suffix (hsent _))) (touch_outbox ..)
  · exact changesOnly_of_touch (hps (by simp)) (changesOnly_trans (changesOnly_mono hacc hps) (hparts _))
  · exact regsOnly_of_touch (regsOnly_trans (fun x off ho _ hr => accepting_reg hr ho op h e c v tag eff data _) (hregs _))

end

/-- A request that waits still waits once it is timed. -/
theorem markTimed_waits {o p : Origin} {s : State} (h : Waits o s) : Waits o (markTimed p s) := by
  obtain ⟨a, ha, ho⟩ := h
  refine ⟨if isOrigin p a then { a with timed := true } else a, List.mem_map_of_mem ha, ?_⟩
  split
  · exact ho
  · exact ho

theorem waits_congr {o : Origin} {s t : State} (h : t.vcp = s.vcp) : Waits o t ↔ Waits o s := by
  unfold Waits
  rw [h]

theorem markTimed_changesOnly (o : Origin) (s : State) : ChangesOnly [.vcp] s (markTimed o s) := with_vcp_changesOnly s _

theorem toPartner_changesOnly (i : MirrorItem) (s : State) : ChangesOnly [.outbox] s (toPartner i s) := by
  intro p hp
  cases p <;> simp [Part.Same] at hp ⊢

/-! ### Grants change the racks and nothing else of the broker -/

section
variable (source : Nat) (new : Power) (causeSeq : BitVec 32) (leaves : Time) (r : Nat) (s : State)

theorem sendGrant_broker (kind : Nat) (raId : BitVec 32) (expected : Time) :
    ∃ m, (sendGrant r kind raId expected leaves s).broker = { s.broker with racks := m } := by
  unfold sendGrant
  dsimp only
  rw [(mirrorRack_frame _ _).2.2.2.2.2.2.1]
  exact ⟨_, rfl⟩

theorem grantSet_broker : ∃ m, (grantSet source new causeSeq leaves r s).broker = { s.broker with racks := m } := by
  obtain ⟨m, hm⟩ := sendGrant_broker leaves r
    ((logAction U.cap source Act.grant r (s.rack r).cap new causeSeq s).modRack r (fun k => { k with cap := new })) Kind.set 0 0
  refine ⟨m, hm.trans ?_⟩
  simp [State.modRack, State.setRack]

theorem lowerCap_broker : ∃ m, (lowerCap source causeSeq leaves r new s).broker = { s.broker with racks := m } := by
  unfold lowerCap
  split
  · obtain ⟨m, hm⟩ := grantSet_broker source new causeSeq leaves r (s.modRack r fun k => { k with
      raises := [], cutIn := if source = 2 then some s.frame else k.cutIn })
    exact ⟨m, hm⟩
  · exact ⟨_, rfl⟩

theorem lowerCap_sent {l : List Out} (h : l <:+ s.outbox) : l <:+ (lowerCap source causeSeq leaves r new s).outbox := by
  unfold lowerCap
  split
  · exact grantSet_sent (s := s.modRack r _) h _ _ _ _ _
  · exact h

end

/-! ### The cut of R77 -/

/-- R77: shares of a cut by `x`, in proportion to what lies above the floors, come to `x` together. -/
theorem le_sum_envelopeShare (head : Nat → Nat) {x : Nat} (hx : x ≤ ∑ r ∈ Finset.range 16, head r) :
    x ≤ ∑ r ∈ Finset.range 16, envelopeShare x (head r) (∑ q ∈ Finset.range 16, head q) := by
  set total := ∑ r ∈ Finset.range 16, head r
  rcases Nat.eq_zero_or_pos total with hzero | hpos
  · omega
  · have hshare : ∀ r, x * head r ≤ total * envelopeShare x (head r) total := fun r => by
      have hwhole : x * head r ≤ total * head r := Nat.mul_le_mul_right _ hx
      have hceil : x * head r ≤ total * ceilDiv (x * head r) total := by
        have hlt := Nat.lt_mul_div_succ (x * head r + total - 1) hpos
        rw [Nat.mul_succ] at hlt
        unfold ceilDiv
        omega
      rcases Nat.le_total (head r) (ceilDiv (x * head r) total) with hle | hle
      · exact hwhole.trans_eq (congrArg _ (Nat.min_eq_left hle).symm)
      · exact hceil.trans_eq (congrArg _ (Nat.min_eq_right hle).symm)
    refine Nat.le_of_mul_le_mul_left ?_ hpos
    calc total * x = ∑ r ∈ Finset.range 16, x * head r := by rw [← Finset.mul_sum, Nat.mul_comm]
      _ ≤ ∑ r ∈ Finset.range 16, total * envelopeShare x (head r) total := Finset.sum_le_sum fun r _ => hshare r
      _ = total * ∑ r ∈ Finset.range 16, envelopeShare x (head r) total := by rw [Finset.mul_sum]

/-- What lies above the floor of rack r. -/
def headroom (s : State) (r : Nat) : Nat := (s.rack r).cap - floor s r

/-- R77: what an envelope of `env` takes from rack r. -/
def envelopeTakes (env : Nat) (s : State) (r : Nat) : Nat := envelopeShare (capSum s - env) (headroom s r) (sumRacks (headroom s))

theorem envelopeTakes_le (env : Nat) (s : State) (r : Nat) : envelopeTakes env s r ≤ headroom s r := Nat.min_le_left _ _

/-- R78: the caps fit an envelope no lower than the floors once each rack has lost its share. -/
theorem sum_envelopeTakes {env : Nat} {s : State} (hfloor : floorSum s ≤ env) : capSum s ≤ env + sumRacks (envelopeTakes env s) := by
  have htotal : capSum s - env ≤ ∑ r ∈ Finset.range 16, headroom s r := by
    have hsum : capSum s ≤ floorSum s + ∑ r ∈ Finset.range 16, headroom s r := by
      simp only [capSum, floorSum, sumRacks_eq, ← Finset.sum_add_distrib]
      exact Finset.sum_le_sum fun r _ => Nat.sub_le_iff_le_add'.1 le_rfl
    exact Nat.sub_le_iff_le_add'.2 (hsum.trans (Nat.add_le_add_right hfloor _))
  have hshares := le_sum_envelopeShare (headroom s) htotal
  simp only [envelopeTakes, sumRacks_eq]
  exact Nat.sub_le_iff_le_add'.1 hshares

section
variable (q : BitVec 32) (s : State)

/-- What the cut does to rack r. -/
def envelopeStep (r : Nat) (a : State) : State :=
  lowerCap 4 q (grantLeaves s) r ((s.rack r).cap - envelopeTakes s.broker.envelope s r) a

theorem envelopeCut_eq : envelopeCut q s =
    if capSum s ≤ s.broker.envelope then s else forEach (upTo 16) (envelopeStep q s) (s.draw.setEvent U.cap Off.capEvents 1) := rfl

theorem envelopeCut_cap {r : Nat} (hr : r < 16) : ((envelopeCut q s).rack r).cap =
    if capSum s ≤ s.broker.envelope then (s.rack r).cap else (s.rack r).cap - envelopeTakes s.broker.envelope s r := by
  rw [envelopeCut_eq]
  split
  · rfl
  · rw [forEach_caps (upTo_nodup 16) (f := envelopeStep q s)
      (law := fun r c => Nat.min c ((s.rack r).cap - envelopeTakes s.broker.envelope s r)) (regsOnly_refl [] _)
      (fun x _ b _ => lowerCap_cap ..) (fun x b j hj => lowerCap_rack_ne _ _ _ _ _ _ hj) (fun x b => lowerCap_regsOnly _ _ _ _ _ b)
      (List.mem_range.2 hr)]
    exact Nat.min_eq_right (Nat.sub_le _ _)

theorem envelopeCut_capSum (hfloor : floorSum s ≤ s.broker.envelope) : capSum (envelopeCut q s) ≤ s.broker.envelope := by
  by_cases hfits : capSum s ≤ s.broker.envelope
  · rw [envelopeCut_eq, if_pos hfits]
    exact hfits
  · have hlost : capSum (envelopeCut q s) + sumRacks (envelopeTakes s.broker.envelope s) = capSum s := by
      simp only [capSum, sumRacks_eq, ← Finset.sum_add_distrib]
      refine Finset.sum_congr rfl fun r hr => ?_
      rw [envelopeCut_cap q s (Finset.mem_range.mp hr), if_neg hfits]
      exact Nat.sub_add_cancel ((envelopeTakes_le _ s r).trans (Nat.sub_le _ _))
    exact Nat.le_of_add_le_add_right (hlost.le.trans (sum_envelopeTakes hfloor))

theorem envelopeCut_envelope : (envelopeCut q s).broker.envelope = s.broker.envelope := by
  rw [envelopeCut_eq]
  split
  · rfl
  · refine forEach_keeps (P := fun a => a.broker.envelope = s.broker.envelope) rfl fun r _ a ha => ?_
    obtain ⟨m, hm⟩ := lowerCap_broker 4 ((s.rack r).cap - envelopeTakes s.broker.envelope s r) q (grantLeaves s) r a
    rw [envelopeStep, hm]
    exact ha

theorem envelopePass_regsOnly (a : State) : RegsOnly [] a (forEach (upTo 16) (envelopeStep q s) a) :=
  forEach_keeps (P := RegsOnly [] a) (regsOnly_refl [] a) fun _ _ b hb => regsOnly_trans hb (lowerCap_regsOnly _ _ _ _ _ b)

theorem envelopeCut_regsOnly : RegsOnly [(U.cap, Off.capEvents)] s (envelopeCut q s) := by
  rw [envelopeCut_eq]
  split
  · exact regsOnly_refl _ _
  · exact regsOnly_trans (regsOnly_trans (regsOnly_of_regs rfl) (setEvent_regsOnly (by decide) 1 s.draw))
      (regsOnly_nil (envelopePass_regsOnly q s _))

theorem envelopeCut_event :
    (envelopeCut q s).bitAt U.cap Off.capEvents 1 = (s.bitAt U.cap Off.capEvents 1 || decide (s.broker.envelope < capSum s)) := by
  rw [envelopeCut_eq]
  split
  next h => simp [Nat.not_lt.2 h]
  next h =>
    have hreg := envelopePass_regsOnly q s (s.draw.setEvent U.cap Off.capEvents 1) U.cap Off.capEvents (by decide) (by simp) (by decide)
    rw [State.bitAt, hreg, decide_eq_true (Nat.not_le.1 h), Bool.or_true]
    exact State.bitAt_setEvent_self _ _ _ _ (by decide)

theorem envelopeCut_changesOnly : ChangesOnly [.broker, .free, .log, .outbox, .regs] s (envelopeCut q s) := by
  intro p hp
  cases p <;> simp [Part.Same, envelopeCut_frame] at hp ⊢

theorem envelopeCut_sent : s.outbox <:+ (envelopeCut q s).outbox := by
  rw [envelopeCut_eq]
  split
  · exact List.suffix_refl _
  · exact forEach_sent (s := s.draw.setEvent U.cap Off.capEvents 1) (upTo 16) _ (fun r a ha => lowerCap_sent _ _ _ _ _ _ ha) (List.suffix_refl _)

end

/-! ### ENVELOPE_SET -/

/-- R76: the envelope in force, mirrored. -/
def withEnvelope (env : Nat) (s : State) : State := toPartner (.envelope env) { s with broker.envelope := env }

/-- R76 to R78: the effect of an ENVELOPE_SET that is accepted. -/
def envelopeEffect (q : BitVec 32) (env : Nat) (o : Origin) (s : State) : State := markTimed o (envelopeCut q (withEnvelope env s))

section
variable (env : Nat) (s : State)

theorem withEnvelope_broker : (withEnvelope env s).broker = { s.broker with envelope := env } := by simp [withEnvelope]

theorem withEnvelope_rack (r : Nat) : (withEnvelope env s).rack r = s.rack r := by simp [State.rack, withEnvelope_broker]

theorem withEnvelope_regs : (withEnvelope env s).regs = s.regs := by simp [withEnvelope]

theorem withEnvelope_capSum : capSum (withEnvelope env s) = capSum s := by simp [capSum, withEnvelope_rack]

theorem withEnvelope_changesOnly : ChangesOnly [.broker, .outbox] s (withEnvelope env s) := by
  intro p hp
  cases p <;> simp [Part.Same, withEnvelope] at hp ⊢

theorem envelopeEffect_changesOnly (q : BitVec 32) (o : Origin) :
    ChangesOnly [.broker, .vcp, .outbox, .regs, .log, .free] s (envelopeEffect q env o s) :=
  changesOnly_trans (changesOnly_mono (withEnvelope_changesOnly env s) (by simp))
    (changesOnly_trans (changesOnly_mono (envelopeCut_changesOnly q _) (by simp)) (changesOnly_mono (markTimed_changesOnly o _) (by simp)))

theorem envelopeEffect_regsOnly (q : BitVec 32) (o : Origin) : RegsOnly [(U.cap, Off.capEvents)] s (envelopeEffect q env o s) :=
  regsOnly_trans (regsOnly_of_regs (withEnvelope_regs env s)) (envelopeCut_regsOnly q _)

theorem envelopeEffect_sent (q : BitVec 32) (o : Origin) : s.outbox <:+ (envelopeEffect q env o s).outbox :=
  List.IsSuffix.trans (toPartner_sent (s := { s with broker.envelope := env }) (List.suffix_refl _) (.envelope env))
    (envelopeCut_sent q (withEnvelope env s))

end

/-- Two states with the same racks and, but for reporting, the same registers have the same caps, floors and shares. -/
theorem caps_of_same {s t : State} (hrack : ∀ r, t.rack r = s.rack r) (hr : RegsOnly [] s t) :
    capSum t = capSum s ∧ floorSum t = floorSum s ∧ ∀ env r, r < 16 → envelopeTakes env t r = envelopeTakes env s r := by
  have hhead : ∀ r, r < 16 → headroom t r = headroom s r := fun r h => by rw [headroom, headroom, hrack, floor_of_regsOnly hr h]
  have hsums : ∀ {f g : Nat → Nat}, (∀ r, r < 16 → f r = g r) → sumRacks f = sumRacks g := fun h => by
    rw [sumRacks_eq, sumRacks_eq]
    exact Finset.sum_congr rfl fun r hr => h r (Finset.mem_range.1 hr)
  have hcap : capSum t = capSum s := by simp [capSum, hrack]
  exact ⟨hcap, hsums fun _ h => floor_of_regsOnly hr h, fun env r h => by rw [envelopeTakes, envelopeTakes, hcap, hsums hhead, hhead r h]⟩

section
variable {s a : State} (hb : a.broker = s.broker) (hr : RegsOnly [] s a) (q : BitVec 32) (env : Nat) (o : Origin)

theorem envelopeEffect_envelope : (envelopeEffect q env o a).broker.envelope = env := by
  have hcut := envelopeCut_envelope q (withEnvelope env a)
  rw [withEnvelope_broker] at hcut
  exact hcut

include hb hr

theorem withEnvelope_caps : capSum (withEnvelope env a) = capSum s ∧ floorSum (withEnvelope env a) = floorSum s
    ∧ ∀ r, r < 16 → envelopeTakes env (withEnvelope env a) r = envelopeTakes env s r := by
  obtain ⟨hcap, hfloor, htakes⟩ := caps_of_same (t := withEnvelope env a) (fun r => (withEnvelope_rack env a r).trans (State.rack_congr hb r))
    (regsOnly_trans hr (regsOnly_of_regs (withEnvelope_regs env a)))
  exact ⟨hcap, hfloor, htakes env⟩

theorem envelopeEffect_cap {r : Nat} (h : r < 16) : ((envelopeEffect q env o a).rack r).cap =
    if capSum s ≤ env then (s.rack r).cap else (s.rack r).cap - envelopeTakes env s r := by
  obtain ⟨hcap, -, htakes⟩ := withEnvelope_caps hb hr env
  have hcut := envelopeCut_cap q (withEnvelope env a) h
  rw [withEnvelope_broker, hcap, withEnvelope_rack, State.rack_congr hb, htakes r h] at hcut
  exact hcut

theorem envelopeEffect_capSum (hfloor : floorSum s ≤ env) : capSum (envelopeEffect q env o a) ≤ env := by
  have hcut := envelopeCut_capSum q (withEnvelope env a)
  rw [withEnvelope_broker, (withEnvelope_caps hb hr env).2.1] at hcut
  exact hcut hfloor

theorem envelopeEffect_event : (envelopeEffect q env o a).bitAt U.cap Off.capEvents 1
    = (s.bitAt U.cap Off.capEvents 1 || decide (env < capSum s)) := by
  have hcut := envelopeCut_event q (withEnvelope env a)
  have hreg : (withEnvelope env a).reg U.cap Off.capEvents = s.reg U.cap Off.capEvents :=
    (State.reg_congr (withEnvelope_regs env a) _ _).trans (hr _ _ (by decide) (by simp) (by decide))
  rw [withEnvelope_broker, (withEnvelope_caps hb hr env).1, State.bitAt, State.bitAt, hreg] at hcut
  exact hcut

end

theorem rating_of_cap_regs {s t : State} {off : Nat} (hoff : off < 0x100) (h : RegsOnly [(U.cap, off)] s t) {r : Nat} (hr : r < 16) :
    rating t r = rating s r := by
  have hne : (U.cap, 0x100 + 0x20 * r) ∉ [(U.cap, off)] := by simp; omega
  have hreg := h U.cap (Off.capRackCfg + 0x20 * r) (show 0x100 + 0x20 * r < 0x1000 by omega) hne (not_report_of_unit (by decide) (by decide) _)
  simp only [rating, State.fldOf, hreg]

/-- Settles O7: the share that each rack loses is `envelopeTakes`; the shares cover what the caps exceed the envelope by, and none reaches
below a floor. -/
theorem envelopeInForce : Obligations.EnvelopeInForce := by
  unfold Obligations.EnvelopeInForce
  refine fun h env e s u hu hs => ⟨fun hfloor ha => ?accepted, fun hlow => ?refused⟩
  case accepted =>
    have hnow : u.now = s.now := by simp [hu]
    have hfloors : floorSum u = floorSum s := (caps_of_same (fun r => State.rack_congr (by simp [hu]) r) (regsOnly_of_regs (by simp [hu]))).2.1
    have hanswer : envelopeAnswer h env.toNat (originOf h e) u =
        .accept (s.now + 2000000) U.cap 0 (envelopeEffect h.sequence env.toNat (originOf h e)) := by
      unfold envelopeAnswer
      rw [if_neg (by rw [hfloors]; exact Nat.not_lt.2 hfloor), hnow]
      rfl
    have heff := vcp_accept (op := opEnvelopeSet h) (body := fun e s => envelopeAnswer h env.toNat (originOf h e) s) hu hs hanswer ha
    set a := accepting (opEnvelopeSet h) h e (s.now + 2000000) U.cap 0 (envelopeEffect h.sequence env.toNat (originOf h e)) [] u with hdef
    have hbroker : a.broker = s.broker := by simp [hdef, hu]
    have hregs : RegsOnly [] s a := fun v off ho _ hr => (accepting_reg hr ho _ _ _ _ _ _ _ _ _).trans (State.reg_congr (by simp [hu]) v off)
    obtain ⟨hanswers, hparts, hregsOnly⟩ := accepted_spec (op := opEnvelopeSet h) (h := h) (c := s.now + 2000000) (v := U.cap)
      (tag := 0) (data := [])
      hu (by simp) (envelopeEffect_sent env.toNat · h.sequence (originOf h e)) (envelopeEffect_changesOnly env.toNat · h.sequence (originOf h e))
      (envelopeEffect_regsOnly env.toNat · h.sequence (originOf h e))
    have hcap := fun r (hr : r < 16) => envelopeEffect_cap hbroker hregs h.sequence env.toNat (originOf h e) hr
    refine ⟨_, congrArg Host.Outcome.next heff, hanswers, markTimed_waits ?_, envelopeEffect_envelope ..,
      envelopeEffect_capSum hbroker hregs _ _ _ hfloor,
      hcap, fun r hr hle => ?_, fun r hr => ?_, envelopeEffect_event hbroker hregs _ _ _, hparts, hregsOnly⟩
    · exact (waits_congr (s := a) (by simp [envelopeCut_frame, withEnvelope])).2 (accepting_waits ..)
    · rw [hcap r hr]
      split
      · exact hle
      · exact Nat.le_sub_of_add_le (Nat.add_le_of_le_sub' hle (envelopeTakes_le env.toNat s r))
    · have hfalls : ((envelopeEffect h.sequence env.toNat (originOf h e) a).rack r).cap ≤ (s.rack r).cap := by
        rw [hcap r hr]
        split
        · exact le_rfl
        · exact Nat.sub_le _ _
      exact ⟨hfalls, fun hle => (hfalls.trans hle).trans_eq (rating_of_cap_regs (by decide) hregsOnly hr).symm⟩
  case refused =>
    have hfloors : floorSum u = floorSum s := (caps_of_same (fun r => State.rack_congr (by simp [hu]) r) (regsOnly_of_regs (by simp [hu]))).2.1
    have hanswer : envelopeAnswer h env.toNat (originOf h e) u = .refuse .badParam 0 := if_pos (by rw [hfloors]; exact hlow)
    obtain ⟨hsends, hparts, hregs⟩ := vcp_refuse_spec (body := fun e s => envelopeAnswer h env.toNat (originOf h e) s) hu hs hanswer
    exact ⟨_, rfl, hsends, changesOnly_mono hparts (by simp), hregs⟩

end Sys2Proof.Machine
end

section
/-! R81 to R86: CAP_ACK, windows that close unanswered, and the newest grant sent again. -/

namespace Sys2Proof.Machine

open Sys2Proof Sys2Proof.Safety

/-! ### CAP_ACK (R81 to R86) -/

/-- R83: the windows of the grant `q` and of every older one are closed; older grants are forgotten. -/
def closedBy (q : BitVec 32) (l : List Grant) : List Grant :=
  (l.map fun o => if o.seq = q then { o with open_ := false, acked := true } else if seqNewer q o.seq then { o with open_ := false } else o).filter
    fun o => !seqNewer q o.seq

theorem closedBy_closed {q : BitVec 32} {l : List Grant} {o : Grant} (ho : o ∈ closedBy q l) (h : o.seq = q ∨ seqNewer q o.seq = true) :
    o.open_ = false := by
  obtain ⟨hmem, hkept⟩ := List.mem_filter.1 ho
  obtain ⟨g, -, rfl⟩ := List.mem_map.1 hmem
  by_cases hq : g.seq = q
  · rw [if_pos hq]
  · by_cases hnew : seqNewer q g.seq = true
    · rw [if_neg hq, if_pos hnew]
    · rw [if_neg hq, if_neg hnew] at h
      exact absurd h (not_or.2 ⟨hq, hnew⟩)

section
variable (r : Nat) (q : BitVec 32) (power : Nat) (s : State)

theorem ackGrant_rack_ne {j : Nat} (hj : j ≠ r) : (ackGrant r q power s).rack j = s.rack j := by
  unfold ackGrant
  dsimp only
  split
  · rw [State.rack_setRack, if_neg hj]
  · rw [mirrorRack_rack, State.rack_setRack, if_neg hj]

theorem ackGrant_power_cap : ((ackGrant r q power s).rack r).power = power ∧ ((ackGrant r q power s).rack r).cap = (s.rack r).cap := by
  unfold ackGrant
  dsimp only
  split
  · simp
  · simp [mirrorRack_rack]

/-- R83 to R85: the answer to a grant whose window or answer is kept. -/
theorem ackGrant_answers {g : Grant} (hg : (s.rack r).grants.find? (fun g => decide (g.seq = q)) = some g) :
    ((ackGrant r q power s).rack r).acked = (if g.acked then (s.rack r).acked else some g.cap)
      ∧ ((ackGrant r q power s).rack r).grants = closedBy q (s.rack r).grants
      ∧ ((ackGrant r q power s).rack r).noAckNext = if q = (s.rack r).grantSeq then some false else (s.rack r).noAckNext := by
  unfold ackGrant
  dsimp only
  rw [hg]
  dsimp only
  rw [mirrorRack_rack, State.rack_setRack, if_pos rfl]
  exact ⟨rfl, rfl, rfl⟩

theorem ackGrant_changesOnly : ChangesOnly [.broker, .outbox] s (ackGrant r q power s) := by
  intro p hp
  cases p with
  | power =>
    unfold ackGrant
    dsimp only
    split <;> simp [Part.Same, mirrorRack_frame]
  | _ => simp [Part.Same, ackGrant_frame] at hp ⊢

theorem ackGrant_sent : s.outbox <:+ (ackGrant r q power s).outbox := by
  unfold ackGrant
  dsimp only
  split
  · exact List.suffix_refl _
  · exact mirrorRack_sent (s := s.setRack r _) (List.suffix_refl _) r

end

/-! ### Windows that close unanswered (R83, R84) -/

/-- R84: a grant that lowers the acknowledged cap. -/
def lowers (r : Nat) (g : Grant) (s : State) : Bool := decide (g.kind = 0) && decide (g.cap < ackedCap s r)

/-- R84: rack r after the window of `g` has closed unanswered. -/
def unanswered (r : Nat) (g : Grant) (s : State) : Rack :=
  { s.rack r with
    grants := (s.rack r).grants.map fun o => if o.seq = g.seq then { o with open_ := false } else o
    noAck := true
    beaconNoAck := (s.rack r).beaconNoAck || lowers r g s }

section
variable (r : Nat) (g : Grant) (s : State)

theorem unanswered_closed {o : Grant} (ho : o ∈ (unanswered r g s).grants) (hseq : o.seq = g.seq) : o.open_ = false := by
  obtain ⟨x, -, rfl⟩ := List.mem_map.1 ho
  by_cases hx : x.seq = g.seq
  · rw [if_pos hx]
  · rw [if_neg hx] at hseq
    exact absurd hseq hx

theorem closeUnanswered_eq : closeUnanswered r g s =
    eventWith .noAck 0 none U.cap Off.capEvents 0 (mirrorRack r (s.setRack r (unanswered r g s))) := rfl

theorem closeUnanswered_rack (j : Nat) : (closeUnanswered r g s).rack j = if j = r then unanswered r g s else s.rack j := by
  have hevent : ∀ a, (eventWith .noAck 0 none U.cap Off.capEvents 0 a).rack j = a.rack j := fun a => State.rack_congr (by simp) j
  rw [closeUnanswered_eq, hevent, mirrorRack_rack, State.rack_setRack]

theorem closeUnanswered_event : (closeUnanswered r g s).bitAt U.cap Off.capEvents 0 = true := by
  rw [closeUnanswered_eq, State.bitAt, eventWith_reg (by decide) (by decide)]
  exact State.bitAt_setEvent_self _ _ _ _ (by decide)

theorem closeUnanswered_changesOnly : ChangesOnly [.broker, .outbox, .regs, .vcp] s (closeUnanswered r g s) := by
  intro p hp
  cases p with
  | power => simp [Part.Same, closeUnanswered_eq, mirrorRack_frame]
  | _ => simp [Part.Same, closeUnanswered_frame] at hp ⊢

theorem closeUnanswered_regsOnly : RegsOnly [(U.cap, Off.capEvents)] s (closeUnanswered r g s) := by
  have hmirror : (mirrorRack r (s.setRack r (unanswered r g s))).regs = s.regs := by simp [mirrorRack_frame]
  refine regsOnly_trans (regsOnly_of_regs hmirror) fun v off ho hl hr => ?_
  rw [closeUnanswered_eq, eventWith_reg hr ho]
  exact setEvent_regsOnly (by decide) 0 _ v off ho hl hr

end

/-! ### A grant that is sent (R80, R85) -/

/-- R80: a rack that is sent one more grant. -/
def granted (kind : Nat) (raId : BitVec 32) (expected leaves : Time) (k : Rack) : Rack :=
  { k with
    grantSeq := k.grantSeq + 1
    ceiling := ceilingFor k.ceiling (k.grantSeq + 1)
    sent := extendSent (k.grantSeq + 1) k.sent
    grants := { seq := k.grantSeq + 1, kind, cap := k.cap, raId, expected, leftAt := leaves } :: k.grants.filter fun o => !o.acked }

section
variable (r kind : Nat) (raId : BitVec 32) (expected leaves : Time) (s : State)

theorem sendGrant_eq : sendGrant r kind raId expected leaves s = mirrorRack r ((s.setRack r (granted kind raId expected leaves (s.rack r))).emit
    (.grant (fin16 r) kind ((s.rack r).grantSeq + 1) (s.rack r).cap raId expected leaves)) := rfl

theorem sendGrant_rack (j : Nat) : (sendGrant r kind raId expected leaves s).rack j =
    if j = r then granted kind raId expected leaves (s.rack r) else s.rack j := by
  rw [sendGrant_eq, mirrorRack_rack]
  exact State.rack_setRack ..

theorem sendGrant_sends :
    Sends (.grant (fin16 r) kind ((s.rack r).grantSeq + 1) (s.rack r).cap raId expected leaves) s (sendGrant r kind raId expected leaves s) := by
  rw [sendGrant_eq]
  exact sends_mono (t := (s.setRack r _).emit _) ⟨[.grant (fin16 r) kind _ _ raId expected leaves], rfl, List.mem_singleton.2 rfl⟩
    (exists_append_of_suffix (mirrorRack_sent (List.suffix_refl _) r))

theorem sendGrant_changesOnly : ChangesOnly [.broker, .outbox] s (sendGrant r kind raId expected leaves s) := by
  intro p hp
  cases p <;> simp [Part.Same, sendGrant_frame] at hp ⊢

end

/-- R85: the record of a grant that is sent again. -/
def repeatLogged (r : Nat) (g : Grant) (s : State) : State :=
  if g.kind = Kind.revoke then s
  else logActionAs Log.action U.cap 2 Act.grant r (s.rack r).cap (s.rack r).cap 0 g.raId 0 s

section
variable (r : Nat) (g : Grant) (s : State)

theorem repeatLogged_broker : (repeatLogged r g s).broker = s.broker := by
  unfold repeatLogged
  split <;> simp

theorem repeatLogged_changesOnly : ChangesOnly [.log, .outbox, .regs] s (repeatLogged r g s) := by
  unfold repeatLogged
  split
  · exact changesOnly_refl _ _
  · intro p hp
    cases p <;> simp [Part.Same] at hp ⊢

theorem repeatLogged_regsOnly : RegsOnly [] s (repeatLogged r g s) := by
  unfold repeatLogged
  split
  · exact regsOnly_refl _ _
  · exact fun _ _ ho _ hr => logActionAs_reg hr ho _ _ _ _ _ _ _ _ _ _ s

theorem repeatLogged_sent : s.outbox <:+ (repeatLogged r g s).outbox := by
  unfold repeatLogged
  split
  · exact List.suffix_refl _
  · exact logActionAs_sent (List.suffix_refl _) ..

end

/-- Settles O8: what CAP_ACK leaves of the grants it answers, the window that closes unanswered, and the grant that leaves again. -/
theorem capAcknowledged : Obligations.CapAcknowledged := by
  unfold Obligations.CapAcknowledged
  refine ⟨fun h rack seq power e s hs => ⟨fun hrack hsent hd => ?answered, fun hbad => ?refused⟩,
    fun r s => ⟨fun seq g hg hopen hend => ?closes, fun g rest hg hopen hacked hdue => ?again⟩⟩
  case answered =>
    have hrackOf : ∀ j, (touch h e.id s).rack j = s.rack j := State.rack_congr (by simp)
    have hanswer : capAckAnswer rack.toNat seq power.toNat (touch h e.id s) =
        .done s.now [] (ackGrant rack.toNat seq power.toNat (touch h e.id s)) := by
      unfold capAckAnswer
      rw [if_neg (by omega), hrackOf, if_pos hsent]
      simp
    have hdone := vcp_done (body := fun _ s => capAckAnswer rack.toNat seq power.toNat s) rfl hs hanswer hd
    set a := ackGrant rack.toNat seq power.toNat (touch h e.id s) with ha
    have hfin := finish_changesOnly (opCapAck h rack) h e.identity .ok 0 s.now [] a
    have hafter : ∀ j, (finish (opCapAck h rack) h e.identity .ok 0 s.now [] a).rack j = a.rack j := State.rack_congr (hfin .broker (by simp))
    obtain ⟨hpower, hcap⟩ := ackGrant_power_cap rack.toNat seq power.toNat (touch h e.id s)
    refine ⟨_, congrArg Host.Outcome.next hdone, ?_, ?_, ?_, fun g hg => ?_, fun q hq => ?_, ?_, ?_⟩
    · exact finish_sends_from _ _ _ _ _ _ (exists_append_of_suffix (ackGrant_sent rack.toNat seq power.toNat (touch h e.id s)))
    · rw [hafter, hpower]
    · rw [hafter, hcap, hrackOf]
    · obtain ⟨hacked, hgrants, hnext⟩ := ackGrant_answers rack.toNat seq power.toNat (touch h e.id s) (hrackOf rack.toNat ▸ hg)
      rw [hafter, hacked, hgrants, hnext, hrackOf]
      exact ⟨fun hnot => if_neg (by simp [hnot]), fun o ho hold => closedBy_closed ho hold, fun hnewest => if_pos hnewest⟩
    · rw [hafter, ha, ackGrant_rack_ne _ _ _ _ hq, hrackOf]
    · exact changesOnly_of_touch (by simp)
        (changesOnly_trans (changesOnly_mono (ackGrant_changesOnly _ _ _ _) (by simp)) (changesOnly_mono hfin (by simp)))
    · exact regsOnly_trans (regsOnly_of_regs (by simp [ha, ackGrant_frame])) (finish_regsOnly _ _ _ _ _ _ _ a)
  case refused =>
    have hanswer : capAckAnswer rack.toNat seq power.toNat (touch h e.id s) = .refuse .badParam 0 := by
      unfold capAckAnswer
      rcases hbad with hrack | hnot
      · exact if_pos hrack
      · rw [State.rack_congr (t := touch h e.id s) (s := s) (by simp), hnot]
        simp
    obtain ⟨hsends, hparts, hregs⟩ := vcp_refuse_spec (body := fun _ s => capAckAnswer rack.toNat seq power.toNat s) rfl hs hanswer
    exact ⟨_, rfl, hsends, changesOnly_mono hparts (by simp), hregs⟩
  case closes =>
    obtain rfl : g.seq = seq := by simpa using List.find?_some hg
    have hexec : exec (.ackWindowClose r g.seq) s = .next (closeUnanswered r.val g s) := by
      show execAckWindowClose r g.seq s = _
      unfold execAckWindowClose
      rw [hg]
      exact if_pos ⟨hopen, hend⟩
    have hself : (closeUnanswered r.val g s).rack r.val = unanswered r.val g s := (closeUnanswered_rack r.val g s r.val).trans (if_pos rfl)
    refine ⟨_, hexec, ?_, ?_, fun o ho hseq => ?_, ?_, closeUnanswered_event r.val g s,
      fun q hq => (closeUnanswered_rack r.val g s q).trans (if_neg hq), changesOnly_mono (closeUnanswered_changesOnly r.val g s) (by simp),
      closeUnanswered_regsOnly r.val g s⟩
    · rw [hself]; rfl
    · rw [hself]; rfl
    · rw [hself] at ho
      exact unanswered_closed r.val g s ho hseq
    · rw [hself]; rfl
  case again =>
    have hexec : exec (.grantRepeat r) s = .next (sendGrant r.val g.kind g.raId g.expected s.now (repeatLogged r.val g s)) := by
      show execGrantRepeat r s = _
      unfold execGrantRepeat
      rw [hg]
      exact if_pos ⟨by simp [hopen], by simp [hacked], hdue⟩
    have hlogged : ∀ j, (repeatLogged r.val g s).rack j = s.rack j := State.rack_congr (repeatLogged_broker r.val g s)
    have hgrant := sendGrant_rack r.val g.kind g.raId g.expected s.now (repeatLogged r.val g s)
    have hself := (hgrant r.val).trans (if_pos rfl)
    have hsends := sendGrant_sends r.val g.kind g.raId g.expected s.now (repeatLogged r.val g s)
    rw [hlogged] at hself hsends
    refine ⟨_, hexec, ?_, ?_, ?_, fun q hq => ((hgrant q).trans (if_neg hq)).trans (hlogged q), ?_, ?_⟩
    · rw [hself]; rfl
    · rw [hself]; rfl
    · obtain ⟨l, hl, ho⟩ := hsends
      obtain ⟨m, hm⟩ := repeatLogged_sent r.val g s
      exact ⟨l ++ m, by rw [hl, ← hm, List.append_assoc], List.mem_append_left _ ho⟩
    · exact changesOnly_trans (changesOnly_mono (repeatLogged_changesOnly r.val g s) (by simp))
        (changesOnly_mono (sendGrant_changesOnly _ _ _ _ _ _) (by simp))
    · exact regsOnly_trans (repeatLogged_regsOnly r.val g s) (regsOnly_of_regs (by simp [sendGrant_frame]))

end Sys2Proof.Machine
end

section
/-! R95 to R107: previews, their cancellation and their end, and what the revocation of their components leaves. -/

namespace Sys2Proof.Machine

open Sys2Proof Sys2Proof.Safety

/-! ### Records send nothing but their mirror -/

/-- What left the module between two states is the mirror's. -/
structure MirrorsOnly (s t : State) : Prop where
  sent : ∀ o ∈ t.outbox, o ∈ s.outbox ∨ ∃ i, o = .mirror i

namespace MirrorsOnly

theorem of_outbox {s t : State} (h : t.outbox = s.outbox) : MirrorsOnly s t := ⟨fun _ ho => .inl (h ▸ ho)⟩

theorem trans {s t u : State} (h : MirrorsOnly s t) (k : MirrorsOnly t u) : MirrorsOnly s u :=
  ⟨fun o ho => (k.sent o ho).elim (h.sent o) .inr⟩

theorem ite {c : Prop} [Decidable c] {s a b : State} (ha : MirrorsOnly s a) (hb : MirrorsOnly s b) : MirrorsOnly s (if c then a else b) := by
  split
  · exact ha
  · exact hb

end MirrorsOnly

section
variable (s : State)

theorem toPartner_mirrorsOnly (i : MirrorItem) : MirrorsOnly s (toPartner i s) :=
  .ite ⟨fun _ ho => (List.mem_cons.1 ho).elim (fun h => .inr ⟨i, h⟩) .inl⟩ (.of_outbox rfl)

theorem logGap_mirrorsOnly (deck : Bool) : MirrorsOnly s (logGap deck s) :=
  .ite (.of_outbox rfl) (.trans (.of_outbox (by simp)) (toPartner_mirrorsOnly _ _))

theorem logSubmit_mirrorsOnly (deck reserved : Bool) (type bodyLen : Nat) (time : Time) (body : LogBody) :
    MirrorsOnly s (logSubmit deck reserved type bodyLen time body s) :=
  .ite (.of_outbox (by cases deck <;> simp))
    ((logGap_mirrorsOnly s deck).trans (.trans (.of_outbox (by cases deck <;> simp)) (toPartner_mirrorsOnly _ _)))

theorem logActionAs_mirrorsOnly (type u source action rack : Nat) (old new : Int) (causeSeq raId link : BitVec 32) :
    MirrorsOnly s (logActionAs type u source action rack old new causeSeq raId link s) :=
  have hsubmit := logSubmit_mirrorsOnly s false true type _ s.now _
  .ite hsubmit (.ite (hsubmit.trans (.of_outbox rfl)) hsubmit)

end

/-! ### The components of a run-ahead ID are removed (R101, R104) -/

/-- The components in force of a run-ahead ID. -/
def provOf (raId : BitVec 32) (s : State) : List Provisional := s.broker.prov.filter (fun p => decide (p.act.raId = raId))

/-- R106: their REVOKE records. -/
def revokeLogged (raId : BitVec 32) (s : State) : State :=
  forEach (provOf raId s) (fun p a => logActionAs Log.revoke (U.loop p.act.loop.val) 5 Act.provisional 16 p.act.sp 0 0 raId p.logSeq a) s

/-- The broker without the components of a run-ahead ID. -/
def withoutProv (raId : BitVec 32) (b : Broker) : Broker :=
  { b with prov := b.prov.filter (fun p => decide (p.act.raId ≠ raId)), sighted := b.sighted.filter (fun i => decide (i ≠ raId)) }

/-- R101: rack r's valve goes to its target where its components were of the ID. -/
def retargeted (raId : BitVec 32) (s : State) (r : Nat) (a : State) : State :=
  if inSet ((provOf raId s).foldl (fun (a : BitVec 16) p => if p.act.loop.val = 2 then a ||| p.act.racks else a) 0) r
    ∧ engineDriven a ∧ rackHeld a r = false then rackTarget r a else a

/-- The components removed, before any rack is told. -/
def provRemoved (raId : BitVec 32) (s : State) : State :=
  forEach (upTo 16) (retargeted raId s) { revokeLogged raId s with broker := withoutProv raId (revokeLogged raId s).broker }

/-- The racks that had a NOTICE of the ID. -/
def noticedBy (raId : BitVec 32) (s : State) : BitVec 16 := (provOf raId s).foldl (fun (a : BitVec 16) p => a ||| p.noticed) 0

/-- R104: a rack that had a NOTICE is sent its NOTICE_REVOKE. -/
def revokeTold (raId : BitVec 32) (s : State) (r : Nat) (a : State) : State :=
  if inSet (noticedBy raId s) r then sendGrant r Kind.revoke raId 0 (grantLeaves (provRemoved raId s)) a else a

section
variable (raId : BitVec 32) (s : State)

theorem removeProv_eq (notify : Bool) : removeProv raId notify s =
    if notify && decide (noticedBy raId s ≠ 0) then forEach (upTo 16) (revokeTold raId s) (provRemoved raId s).draw else provRemoved raId s := rfl

/-- Only the racks of the broker differ from `b`. -/
def BrokerIs (b : Broker) (a : State) : Prop := ∃ m, a.broker = { b with racks := m }

theorem revokeLogged_broker : (revokeLogged raId s).broker = s.broker := by simp [revokeLogged]

theorem retargeted_brokerIs (r : Nat) {b : Broker} {a : State} (h : BrokerIs b a) : BrokerIs b (retargeted raId s r a) := by
  obtain ⟨m, hm⟩ := h
  unfold retargeted
  split
  · exact ⟨(rackTarget r a).broker.racks, congrArg (fun x : Broker => { x with racks := (rackTarget r a).broker.racks }) hm⟩
  · exact ⟨m, hm⟩

theorem revokeTold_brokerIs (r : Nat) {b : Broker} {a : State} (h : BrokerIs b a) : BrokerIs b (revokeTold raId s r a) := by
  obtain ⟨m, hm⟩ := h
  unfold revokeTold
  split
  · obtain ⟨n, hn⟩ := sendGrant_broker (grantLeaves (provRemoved raId s)) r a Kind.revoke raId 0
    exact ⟨n, by rw [hn, hm]⟩
  · exact ⟨m, hm⟩

theorem provRemoved_brokerIs : BrokerIs (withoutProv raId s.broker) (provRemoved raId s) :=
  forEach_keeps (P := BrokerIs _) ⟨s.broker.racks, by simp only [revokeLogged_broker]; rfl⟩ fun r _ _ ha => retargeted_brokerIs raId s r ha

/-- R104: of the broker, beside the racks, the components of the ID go and nothing else. -/
theorem removeProv_brokerIs (notify : Bool) : BrokerIs (withoutProv raId s.broker) (removeProv raId notify s) := by
  rw [removeProv_eq]
  split
  · exact forEach_keeps (P := BrokerIs _) (provRemoved_brokerIs raId s) fun r _ _ ha => revokeTold_brokerIs raId s r ha
  · exact provRemoved_brokerIs raId s

theorem revokeLogged_regsOnly : RegsOnly [] s (revokeLogged raId s) :=
  forEach_keeps (P := RegsOnly [] s) (regsOnly_refl _ _) fun _ _ a ha => regsOnly_trans ha
    fun _ _ ho _ hr => logActionAs_reg hr ho _ _ _ _ _ _ _ _ _ _ a

theorem provRemoved_regs : (provRemoved raId s).regs = (revokeLogged raId s).regs :=
  forEach_keeps (P := fun a => a.regs = (revokeLogged raId s).regs) rfl fun r _ a ha => by
    unfold retargeted
    split
    · exact (rackTarget_frame r a).2.2.2.1.trans ha
    · exact ha

theorem removeProv_regsOnly (notify : Bool) : RegsOnly [] s (removeProv raId notify s) := by
  have hregs : (removeProv raId notify s).regs = (revokeLogged raId s).regs := by
    rw [removeProv_eq]
    split
    · exact forEach_keeps (P := fun a => a.regs = _) (provRemoved_regs raId s) fun r _ a ha => by
        unfold revokeTold
        split
        · exact (sendGrant_frame ..).2.2.2.1.trans ha
        · exact ha
    · exact provRemoved_regs raId s
  exact regsOnly_trans (revokeLogged_regsOnly raId s) (regsOnly_of_regs hregs)

theorem provRemoved_mirrorsOnly : MirrorsOnly s (provRemoved raId s) := by
  have hlogged : MirrorsOnly s (revokeLogged raId s) :=
    forEach_keeps (P := MirrorsOnly s) (.of_outbox rfl) fun _ _ a ha => ha.trans (logActionAs_mirrorsOnly a ..)
  refine forEach_keeps (P := MirrorsOnly s) (hlogged.trans (.of_outbox rfl)) fun r _ a ha => ha.trans (.of_outbox ?_)
  unfold retargeted
  split
  · exact (rackTarget_frame r a).2.2.2.2.1
  · rfl

/-! ### A run-ahead ID is revoked (R104) -/

section
variable (notify : Bool)

theorem revokeRa_of_running (h : s.seqr.st = .running) :
    (revokeRa raId notify s).broker = { s.broker with revoke := s.broker.revoke ++ [(raId, notify)] } := by
  rw [revokeRa, if_pos (.inl h)]

theorem revokeRa_of_loaded (h : s.seqr.st = .loaded) : revokeRa raId notify s = removeProv raId notify s := if_neg (by simp [h])

theorem revokeRa_previews : (revokeRa raId notify s).broker.previews = s.broker.previews := by
  unfold revokeRa
  split
  · rfl
  · obtain ⟨m, hm⟩ := removeProv_brokerIs raId s notify
    rw [hm]
    rfl

theorem revokeRa_gone (h : s.seqr.st = .loaded) : ∀ p ∈ (revokeRa raId notify s).broker.prov, p.act.raId ≠ raId := by
  obtain ⟨m, hm⟩ := removeProv_brokerIs raId s notify
  rw [revokeRa_of_loaded raId s notify h, hm]
  exact fun p hp => of_decide_eq_true (List.mem_filter.1 hp).2

theorem revokeRa_regsOnly : RegsOnly [] s (revokeRa raId notify s) := by
  unfold revokeRa
  split
  · exact regsOnly_of_regs rfl
  · exact removeProv_regsOnly raId s notify

theorem revokeRa_changesOnly : ChangesOnly [.broker, .free, .log, .outbox, .regs] s (revokeRa raId notify s) := by
  intro p hp
  cases p <;> simp [Part.Same, revokeRa_frame] at hp ⊢

end

/-- R99: a preview that ends by itself sends no NOTICE_REVOKE. -/
theorem revokeRa_silent : MirrorsOnly s (revokeRa raId false s) := by
  unfold revokeRa
  split
  · exact .of_outbox rfl
  · exact provRemoved_mirrorsOnly raId s

end

/-! ### PREVIEW (R95 to R98) -/

/-- What R96 asks of a PREVIEW. -/
def PreviewInLimits (id : BitVec 32) (racks flags : BitVec 16) (start duration : Nat) (e : Session) (s : State) : Prop :=
  flags.toNat < 2 ∧ (flags.getLsbD 0 = true → hasCap e 3 = true) ∧ 1 ≤ id.toNat ∧ id.toNat ≤ 0x7FFFFFFF ∧ racks ≠ 0
    ∧ s.now ≤ start ∧ start ≤ s.now + s.plant.horizon * 1000000000 ∧ 1000 ≤ duration ∧ duration ≤ 86400000

/-- The preview is active. -/
def previewActive (id : BitVec 32) (s : State) : Bool := s.broker.previews.any (fun p => decide (p.id = id))

/-- R95: the effect of an accepted PREVIEW, which makes `x` of the broker. -/
def previewTold (id : BitVec 32) (racks : BitVec 16) (start duration load ramp : Nat) (o : Origin) (x : State → State) (s : State) : State :=
  markTimed o (toPartner (.preview id racks start duration load ramp) (x s))

section
variable (id : BitVec 32) (racks flags : BitVec 16) (start duration load ramp : Nat) (e : Session) (o : Origin) (s : State)

/-- R96 to R98: a PREVIEW inside the limits is answered by its ID, its REPLACE and the room there is. -/
theorem previewAnswer_of_limits (hlim : PreviewInLimits id racks flags start duration e s) :
    previewAnswer id racks flags start duration load ramp e o s =
      if previewActive id s ∧ flags.getLsbD 0 = false then .refuse .badParam 0
      else if previewActive id s then
        .accept (previewCommitted s) 0 0 (previewTold id racks start duration load ramp o (replacePreview id racks start duration load ramp))
      else if 64 ≤ s.broker.previews.length then .refuse .busy 0
      else .accept (previewCommitted s) 0 0 (previewTold id racks start duration load ramp o (addPreview id racks start duration load ramp)) := by
  obtain ⟨hflag, hcap, hid, hidTop, hracks, hnow, hhorizon, hshort, hlong⟩ := hlim
  have hhorizon' : ¬ s.now + s.plant.horizon * Config.sec < start := Nat.not_lt.2 hhorizon
  unfold previewAnswer
  dsimp only
  rw [if_neg (by omega), if_neg (by simpa using hcap)]
  refine if_congr ?_ rfl rfl
  simp only [hracks, hhorizon', Nat.not_lt.2 hidTop, Nat.not_lt.2 hnow, Nat.not_lt.2 hshort, Nat.not_lt.2 hlong,
    Nat.ne_of_gt hid, false_or, Bool.not_eq_true']
  rfl

/-- R96: a PREVIEW outside the limits is refused. -/
theorem previewAnswer_of_not_limits (hlim : ¬ PreviewInLimits id racks flags start duration e s) :
    previewAnswer id racks flags start duration load ramp e o s = .refuse .badParam 0 := by
  unfold previewAnswer
  dsimp only
  by_cases hflag : flags.toNat / 2 ≠ 0
  · exact if_pos hflag
  by_cases hcap : (flags.getLsbD 0 && !hasCap e 3) = true
  · rw [if_neg hflag, if_pos hcap]
  rw [if_neg hflag, if_neg hcap, if_pos]
  by_contra hok
  simp only [not_or, not_lt] at hok
  obtain ⟨hid, hidTop, hracks, hnow, hhorizon, hshort, hlong, -⟩ := hok
  exact hlim ⟨by omega, by simpa using hcap, Nat.pos_of_ne_zero hid, hidTop, hracks, hnow, hhorizon, hshort, hlong⟩

end

/-- What a request leaves that changes the broker, tells the partner and is timed. -/
theorem toldTimed_spec (i : MirrorItem) (o : Origin) {s x : State} (hx : ChangesOnly [.broker] s x) :
    ChangesOnly [.broker, .vcp, .outbox, .regs] s (markTimed o (toPartner i x)) ∧ RegsOnly [] s (markTimed o (toPartner i x))
      ∧ s.outbox <:+ (markTimed o (toPartner i x)).outbox := by
  have hregs : x.regs = s.regs := hx .regs (by simp)
  have hout : x.outbox = s.outbox := hx .outbox (by simp)
  exact ⟨changesOnly_trans (changesOnly_mono hx (by simp))
      (changesOnly_trans (changesOnly_mono (toPartner_changesOnly i x) (by simp)) (changesOnly_mono (markTimed_changesOnly o _) (by simp))),
    regsOnly_of_regs ((toPartner_regs i x).trans hregs), toPartner_sent (s := x) (hout ▸ List.suffix_refl _) i⟩

section
variable (id : BitVec 32) (racks : BitVec 16) (start duration load ramp : Nat) (s : State)

theorem addPreview_changesOnly : ChangesOnly [.broker] s (addPreview id racks start duration load ramp s) :=
  with_broker_changesOnly s _

theorem replacePreview_changesOnly : ChangesOnly [.broker] s (replacePreview id racks start duration load ramp s) :=
  with_broker_changesOnly s _

theorem cancelPreview_changesOnly : ChangesOnly [.broker] s (cancelPreview id s) :=
  with_broker_changesOnly s _

/-- R98: every preview of the ID has the new content. -/
theorem replacePreview_next : ∀ p ∈ (replacePreview id racks start duration load ramp s).broker.previews, p.id = id →
    p.next = some (racks, start, duration, load, ramp) := by
  intro p hp hid
  obtain ⟨q, -, rfl⟩ := List.mem_map.1 hp
  by_cases hq : q.id = id
  · simp [hq]
  · simp [hq] at hid

/-- R98: the other previews stay. -/
theorem replacePreview_mem_of_ne {p : Preview} (hid : p.id ≠ id) :
    p ∈ (replacePreview id racks start duration load ramp s).broker.previews ↔ p ∈ s.broker.previews := by
  refine List.mem_map.trans ⟨?_, fun hp => ⟨p, hp, if_neg hid⟩⟩
  rintro ⟨q, hq, rfl⟩
  by_cases hqid : q.id = id
  · simp [hqid] at hid
  · simpa [hqid] using hq

theorem cancelPreview_broker :
    (cancelPreview id s).broker = { s.broker with previews := s.broker.previews.filter (fun p => decide (p.id ≠ id)) } := rfl

theorem cancelPreview_mem (p : Preview) : p ∈ (cancelPreview id s).broker.previews ↔ p ∈ s.broker.previews ∧ p.id ≠ id := by
  simp [cancelPreview]

end

/-! ### PREVIEW is served -/

section
variable {h : Hdr} {id : BitVec 32} {racks flags : BitVec 16} {start : BitVec 64} {duration load ramp : BitVec 32} {e : Session} {s u : State}
  (hu : u = touch h e.id s) (hs : Served (opPreview h) h e s)
include hu hs

theorem preview_refused {st : Status} (hanswer : previewAnswer id racks flags start.toNat duration.toNat load.toNat ramp.toNat e (originOf h e) u
      = .refuse st 0) :
    ∃ t, exec (.preview h id racks flags start duration load ramp) s = .next t ∧ Answers h st 0 [] s t ∧ ChangesOnly [.vcp, .outbox, .regs] s t
      ∧ RegsOnly [] s t := by
  obtain ⟨hsends, hparts, hregs⟩ := vcp_refuse_spec
    (body := fun e s => previewAnswer id racks flags start.toNat duration.toNat load.toNat ramp.toNat e (originOf h e) s) hu hs hanswer
  exact ⟨_, rfl, hsends, changesOnly_mono hparts (by simp), hregs⟩

/-- An accepted PREVIEW: `x` is what it makes of the broker, in the state `a` in which its effect acts. -/
theorem preview_accepted {x : State → State} (hx : ∀ a, ChangesOnly [.broker] a (x a))
    (hanswer : previewAnswer id racks flags start.toNat duration.toNat load.toNat ramp.toNat e (originOf h e) u
      = .accept (previewCommitted u) 0 0 (previewTold id racks start.toNat duration.toNat load.toNat ramp.toNat (originOf h e) x))
    (ha : Admits h e (previewCommitted u) u) :
    ∃ a t, a.broker = s.broker ∧ t.broker = (x a).broker ∧ exec (.preview h id racks flags start duration load ramp) s = .next t
      ∧ Answers h .accepted (previewCommitted u) [] s t ∧ Waits (originOf h e) t
      ∧ ChangesOnly [.broker, .vcp, .outbox, .regs] s t ∧ RegsOnly [] s t := by
  have heff := vcp_accept
    (body := fun e s => previewAnswer id racks flags start.toNat duration.toNat load.toNat ramp.toNat e (originOf h e) s) hu hs hanswer ha
  have hspec := fun a => toldTimed_spec (.preview id racks start.toNat duration.toNat load.toNat ramp.toNat) (originOf h e) (hx a)
  obtain ⟨hanswers, hparts, hregs⟩ := accepted_spec (op := opPreview h) (h := h) (c := previewCommitted u) (v := 0) (tag := 0) (data := [])
    hu (by simp) (eff := previewTold id racks start.toNat duration.toNat load.toNat ramp.toNat (originOf h e) x)
    (fun a => (hspec a).2.2) (fun a => (hspec a).1) (fun a => (hspec a).2.1)
  set a := accepting (opPreview h) h e (previewCommitted u) 0 0
    (previewTold id racks start.toNat duration.toNat load.toNat ramp.toNat (originOf h e) x) [] u with hdef
  have hvcp : (toPartner (.preview id racks start.toNat duration.toNat load.toNat ramp.toNat) (x a)).vcp = a.vcp :=
    (toPartner_vcp ..).trans (hx a .vcp (by simp))
  exact ⟨a, _, by simp [hdef, hu], by simp [previewTold], congrArg Host.Outcome.next heff, hanswers,
    markTimed_waits ((waits_congr hvcp).2 (accepting_waits ..)), hparts, hregs⟩

end

/-! ### PREVIEW_CANCEL (R107) -/

/-- The preview is active and its end lies after the frame. -/
def previewLasts (id : BitVec 32) (s : State) : Bool :=
  s.broker.previews.any (fun p => decide (p.id = id) && decide (s.now / 50000 < (p.start + p.duration * 1000000) / 50000))

/-- R107: what an accepted PREVIEW_CANCEL leaves before the revocation. -/
def cancelTold (id : BitVec 32) (o : Origin) (s : State) : State := markTimed o (toPartner (.previewCancel id) (cancelPreview id s))

section
variable (id : BitVec 32) (o : Origin) (s : State)

theorem cancelAnswer_eq : cancelAnswer id o s =
    if previewLasts id s then .accept (nextBoundary s) 0 0 (fun a => revokeRa id true (cancelTold id o a))
    else if s.broker.everPreviews.elem id then .status .alreadyComplete 0 [] s else .refuse .badParam 0 := rfl

theorem cancelTold_broker : (cancelTold id o s).broker = (cancelPreview id s).broker := by simp [cancelTold]

theorem cancelTold_seqr : (cancelTold id o s).seqr = s.seqr := by simp [cancelTold, cancelPreview]

theorem cancelEffect_spec :
    ChangesOnly [.broker, .vcp, .outbox, .regs, .log, .free] s (revokeRa id true (cancelTold id o s))
      ∧ RegsOnly [] s (revokeRa id true (cancelTold id o s)) ∧ s.outbox <:+ (revokeRa id true (cancelTold id o s)).outbox := by
  obtain ⟨hparts, hregs, hsent⟩ := toldTimed_spec (.previewCancel id) o (cancelPreview_changesOnly id s)
  exact ⟨changesOnly_trans (changesOnly_mono hparts (by simp)) (changesOnly_mono (revokeRa_changesOnly id _ true) (by simp)),
    regsOnly_trans hregs (revokeRa_regsOnly id _ true), hsent.trans (revokeRa_held (cancelTold id o s) id true).sent⟩

end

section
variable {h : Hdr} {id : BitVec 32} {e : Session} {s u : State} (hu : u = touch h e.id s) (hs : Served (opPreviewCancel h) h e s)
include hu hs

theorem previewCancel_accepted (hlast : previewLasts id s = true) (ha : Admits h e (nextBoundary u) u) :
    ∃ t, exec (.previewCancel h id) s = .next t ∧ Answers h .accepted (nextBoundary u) [] s t
      ∧ (∀ p, p ∈ t.broker.previews ↔ p ∈ s.broker.previews ∧ p.id ≠ id)
      ∧ (s.seqr.st = .running → t.broker.revoke = s.broker.revoke ++ [(id, true)] ∧ t.broker.prov = s.broker.prov)
      ∧ (s.seqr.st = .loaded → ∀ p ∈ t.broker.prov, p.act.raId ≠ id)
      ∧ ChangesOnly [.broker, .vcp, .outbox, .regs, .log, .free] s t ∧ RegsOnly [] s t := by
  have hanswer : cancelAnswer id (originOf h e) u = .accept (nextBoundary u) 0 0 (fun a => revokeRa id true (cancelTold id (originOf h e) a)) := by
    rw [cancelAnswer_eq, if_pos]
    simpa [previewLasts, hu] using hlast
  have heff := vcp_accept (op := opPreviewCancel h) (body := fun e s => cancelAnswer id (originOf h e) s) hu hs hanswer ha
  obtain ⟨hanswers, hparts, hregs⟩ := accepted_spec (op := opPreviewCancel h) (h := h) (c := nextBoundary u) (v := 0) (tag := 0) (data := []) hu
    (eff := fun a => revokeRa id true (cancelTold id (originOf h e) a)) (by simp) (fun a => (cancelEffect_spec id _ a).2.2)
    (fun a => (cancelEffect_spec id _ a).1) (fun a => (cancelEffect_spec id _ a).2.1)
  set a := accepting (opPreviewCancel h) h e (nextBoundary u) 0 0 (fun a => revokeRa id true (cancelTold id (originOf h e) a)) [] u with hdef
  have hbroker : a.broker = s.broker := by simp [hdef, hu]
  have hseqr : (cancelTold id (originOf h e) a).seqr = s.seqr := (cancelTold_seqr ..).trans (by simp [hdef, hu])
  refine ⟨_, congrArg Host.Outcome.next heff, hanswers, fun p => ?_, fun hrun => ?_, fun hload => ?_, hparts, hregs⟩
  · rw [revokeRa_previews, cancelTold_broker, cancelPreview_mem, hbroker]
  · rw [revokeRa_of_running id (cancelTold id (originOf h e) a) true (by rw [hseqr, hrun]), cancelTold_broker,
      cancelPreview_broker, hbroker]
    exact ⟨rfl, rfl⟩
  · exact revokeRa_gone id (cancelTold id (originOf h e) a) true (by rw [hseqr, hload])

theorem previewCancel_refused (hlast : previewLasts id s = false) :
    ∃ t, exec (.previewCancel h id) s = .next t ∧ Answers h (if s.broker.everPreviews.elem id then .alreadyComplete else .badParam) 0 [] s t
      ∧ ChangesOnly [.vcp, .outbox, .regs] s t ∧ RegsOnly [] s t := by
  have hanswer : cancelAnswer id (originOf h e) u =
      if s.broker.everPreviews.elem id then .status .alreadyComplete 0 [] u else .refuse .badParam 0 := by
    have hlast' : previewLasts id u = false := by simpa [previewLasts, hu] using hlast
    have hever : u.broker = s.broker := by simp [hu]
    rw [cancelAnswer_eq, if_neg (by simp [hlast']), hever]
  by_cases hever : s.broker.everPreviews.elem id = true
  · rw [if_pos hever] at hanswer ⊢
    obtain ⟨hsends, hparts, hregs⟩ := vcp_status_spec (body := fun e s => cancelAnswer id (originOf h e) s) hu hs (List.suffix_refl _) hanswer
    exact ⟨_, rfl, hsends, changesOnly_trans (hu ▸ changesOnly_mono (touch_changesOnly h e.id s) (by simp)) (changesOnly_mono hparts (by simp)),
      regsOnly_trans (regsOnly_of_regs (by simp [hu])) hregs⟩
  · rw [if_neg hever] at hanswer ⊢
    obtain ⟨hsends, hparts, hregs⟩ := vcp_refuse_spec (body := fun e s => cancelAnswer id (originOf h e) s) hu hs hanswer
    exact ⟨_, rfl, hsends, changesOnly_mono hparts (by simp), hregs⟩

end

/-! ### A preview ends by itself (R99) -/

/-- R99: a preview that ends leaves the list, and its components are revoked without a notice. -/
theorem previewEnd_spec {id : BitVec 32} {s : State}
    (hend : s.broker.previews.any (fun p => decide (p.id = id) && decide (p.start + p.duration * 1000000 ≤ s.now)) = true) :
    ∃ t, exec (.previewEnd id) s = .next t ∧ (∀ p, p ∈ t.broker.previews ↔ p ∈ s.broker.previews ∧ p.id ≠ id)
      ∧ (s.seqr.st = .running → t.broker.revoke = s.broker.revoke ++ [(id, false)])
      ∧ (s.seqr.st = .loaded → ∀ p ∈ t.broker.prov, p.act.raId ≠ id)
      ∧ (∀ o ∈ t.outbox, (∃ r q c x l, o = .grant r Kind.revoke q c id x l) → o ∈ s.outbox)
      ∧ ChangesOnly [.broker, .outbox, .regs, .log, .free] s t ∧ RegsOnly [] s t := by
  have hnext : exec (.previewEnd id) s = .next (revokeRa id false (cancelPreview id s)) := by
    show execPreviewEnd id s = _
    exact if_pos hend
  have hcancel := cancelPreview_changesOnly id s
  refine ⟨_, hnext, fun p => ?_, fun hrun => ?_, fun hload => revokeRa_gone id (cancelPreview id s) false hload, fun o ho hgrant => ?_, ?_, ?_⟩
  · rw [revokeRa_previews, cancelPreview_mem]
  · rw [revokeRa_of_running id (cancelPreview id s) false hrun, cancelPreview_broker]
  · obtain hold | ⟨i, rfl⟩ := (revokeRa_silent id (cancelPreview id s)).sent o ho
    · exact hold
    · obtain ⟨r, q, c, x, l, hne⟩ := hgrant
      cases hne
  · exact changesOnly_trans (changesOnly_mono hcancel (by simp)) (changesOnly_mono (revokeRa_changesOnly id (cancelPreview id s) false) (by simp))
  · exact regsOnly_trans (regsOnly_of_regs rfl) (revokeRa_regsOnly id (cancelPreview id s) false)

/-- Settles O9: the answer to a PREVIEW by its limits, then by its ID, its REPLACE and the room there is. -/
theorem previewsAccepted : Obligations.PreviewsAccepted := by
  unfold Obligations.PreviewsAccepted
  refine ⟨fun h id racks flags start duration load ramp e s u hu hs => ?preview, fun h id e s u hu hs => ?cancel,
    fun id s hend => previewEnd_spec hend⟩
  case preview =>
    have hactive : previewActive id u = previewActive id s := by simp [previewActive, hu]
    have hlen : u.broker.previews.length = s.broker.previews.length := by simp [hu]
    have hlimits : PreviewInLimits id racks flags start.toNat duration.toNat e u
        ↔ PreviewInLimits id racks flags start.toNat duration.toNat e s := by
      simp [PreviewInLimits, hu]
    have hanswer := fun hlim => previewAnswer_of_limits id racks flags start.toNat duration.toNat load.toNat ramp.toNat e (originOf h e) u
      (hlimits.2 hlim)
    rw [hactive, hlen] at hanswer
    refine ⟨fun hlim hact hroom ha => ?_, fun hlim hact hrep ha => ?_, fun hlim hact hfull => ?_, fun hlim hact hrep => ?_, fun hlim => ?_⟩
    · replace hact : previewActive id s = false := hact
      obtain ⟨a, t, hab, htb, hrest⟩ := preview_accepted hu hs (addPreview_changesOnly id racks start.toNat duration.toNat load.toNat ramp.toNat)
        (by rw [hanswer hlim]; simp [hact, Nat.not_le.2 hroom]) ha
      obtain ⟨hnext, hans, hwaits, hparts, hregs⟩ := hrest
      exact ⟨t, hnext, hans, hwaits, by rw [htb]; simp [addPreview, hab], hparts, hregs⟩
    · replace hact : previewActive id s = true := hact
      obtain ⟨a, t, hab, htb, hrest⟩ := preview_accepted hu hs
        (replacePreview_changesOnly id racks start.toNat duration.toNat load.toNat ramp.toNat)
        (by rw [hanswer hlim]; simp [hact, hrep]) ha
      obtain ⟨hnext, hans, hwaits, hparts, hregs⟩ := hrest
      refine ⟨t, hnext, hans, hwaits, ?_, fun p hp => ?_, hparts, hregs⟩
      · rw [htb]
        exact replacePreview_next id racks start.toNat duration.toNat load.toNat ramp.toNat a
      · rw [htb, replacePreview_mem_of_ne id racks _ _ _ _ a hp, hab]
    · replace hact : previewActive id s = false := hact
      exact preview_refused hu hs (by rw [hanswer hlim]; simp [hact, hfull])
    · replace hact : previewActive id s = true := hact
      exact preview_refused hu hs ((hanswer hlim).trans (if_pos ⟨hact, hrep⟩))
    · exact preview_refused hu hs (previewAnswer_of_not_limits id racks flags _ _ _ _ e (originOf h e) u (mt hlimits.1 hlim))
  case cancel =>
    exact ⟨previewCancel_accepted hu hs, previewCancel_refused hu hs⟩

end Sys2Proof.Machine
end

section
/-! R109 to R112: leak sources, the stage of a rack, and the isolation valves taken without the CAP_ACK. -/

namespace Sys2Proof.Machine

open Sys2Proof Sys2Proof.Safety

/-! ### The evaluation of a stage leaves the sources (R111) -/

section
variable (r q : Nat) (s : State)

theorem modRack_sources {g : Rack → Rack} (hg : ∀ k, (g k).sources = k.sources) : ((s.modRack r g).rack q).sources = (s.rack q).sources := by
  rw [State.rack_modRack]
  split
  next h => rw [hg, h]
  next => rfl

theorem setStage_sources (st : LeakStage) : ((setStage r st s).rack q).sources = (s.rack q).sources := by
  rw [setStage_rack]
  split
  next h => rw [h]
  next => rfl

theorem confirmLeak_sources : ((confirmLeak r s).rack q).sources = (s.rack q).sources := by
  rw [confirmLeak, modRack_sources, setStage_sources]
  exact fun _ => rfl

theorem evalStage_sources (wet : Bool) : ((evalStage r wet s).rack q).sources = (s.rack q).sources := by
  have hseen : ∀ seen cables, ((s.modRack r (fun k => { k with seen := seen, seenCables := cables })).rack q).sources = (s.rack q).sources :=
    fun _ _ => modRack_sources r q s fun _ => rfl
  have hseenOwn : ∀ seen, ((s.modRack r (fun k => { k with seen := seen, seenCables := k.cables })).rack q).sources = (s.rack q).sources :=
    fun _ => modRack_sources r q s fun _ => rfl
  unfold evalStage
  dsimp only
  split
  · rfl
  split
  · split
    · rw [confirmLeak_sources, hseenOwn]
    split
    · split
      · rw [confirmLeak_sources, setStage_sources, hseenOwn]
      · rw [setStage_sources, hseenOwn]
    · rfl
  · split
    · rw [confirmLeak_sources, hseen]
    · exact hseen _ _
  · rfl

theorem setSource_sources (bit : Nat) (on wet : Bool) : ((setSource r bit on wet s).rack q).sources =
    if q = r then (if on then (s.rack r).sources ||| BitVec.ofNat 8 (2 ^ bit) else (s.rack r).sources &&& ~~~ BitVec.ofNat 8 (2 ^ bit))
    else (s.rack q).sources := by
  refine (evalStage_sources ..).trans ?_
  rw [State.rack_modRack]
  split
  · rfl
  · rfl

end

/-! ### A source leads to SUSPECT at least (R111) -/

section
variable (r : Nat) (s : State)

theorem confirmLeak_stage : ((confirmLeak r s).rack r).stage = .confirmed := by
  simp [confirmLeak, setStage_rack]

theorem evalStage_suspects (wet : Bool) (hkeeper : isKeeper s = true) (hclear : (s.rack r).stage = .clear)
    (hown : (s.rack r).sources &&& 15 ≠ 0) : 1 ≤ stageCode ((evalStage r wet s).rack r).stage := by
  unfold evalStage
  dsimp only
  rw [if_neg (by simp [hkeeper]), hclear]
  dsimp only
  rw [if_pos hown]
  split
  · simp [confirmLeak_stage, stageCode]
  split
  · simp [confirmLeak_stage, stageCode]
  · simp [setStage_rack, stageCode]

theorem setSource_suspects {bit : Nat} (hbit : bit < 4) (wet : Bool) (hkeeper : isKeeper s = true) (hclear : (s.rack r).stage = .clear) :
    1 ≤ stageCode ((setSource r bit true wet s).rack r).stage := by
  refine evalStage_suspects r _ wet hkeeper (by simpa using hclear) ?_
  rw [State.rack_modRack, if_pos rfl]
  intro hzero
  have hset := congrArg (fun b => b.getLsbD bit) hzero
  interval_cases bit <;> simp at hset

end

/-! ### The reservoir is a source of every rack (R109, R111) -/

/-- The reservoir's source of rack r, and its stage. -/
def reservoirRack (falls : Bool) (r : Nat) (a : State) : State :=
  evalStage r false (a.modRack r (fun k => { k with sources := if falls then k.sources ||| 16 else k.sources &&& ~~~ 16 }))

/-- ROW_SUSPECT, and the level kept. -/
def reservoirSeen (level : Nat) (s : State) : State :=
  { s with plant.rowSuspect := reservoirFalls s level,
           plant.levels := (s.now, level) :: s.plant.levels.filter (fun e => decide (s.now ≤ e.1 + 61 * Config.sec)) }

/-- The racks after the evaluation of the reservoir. -/
def reservoirRacks (level : Nat) (s : State) : State := forEach (upTo 16) (reservoirRack (reservoirFalls s level)) (reservoirSeen level s)

section
variable (level : Nat) (s : State)

theorem reservoirCheck_eq : exec (.reservoirCheck level) s =
    .next (if reservoirFalls s level && !s.plant.rowSuspect then event U.cap Off.capEvents 3 (reservoirRacks level s) else reservoirRacks level s) :=
  (apply_ite Host.Outcome.next _ _ _).symm

theorem reservoirRack_sources (falls : Bool) (r q : Nat) (a : State) : ((reservoirRack falls r a).rack q).sources =
    if q = r then (if falls then (a.rack r).sources ||| 16 else (a.rack r).sources &&& ~~~ 16) else (a.rack q).sources := by
  refine (evalStage_sources ..).trans ?_
  rw [State.rack_modRack]
  split
  · rfl
  · rfl

theorem reservoirRacks_source {q : Nat} (hq : q < 16) : ((reservoirRacks level s).rack q).sources.getLsbD 4 = reservoirFalls s level := by
  refine forEach_sets (P := fun a => (a.rack q).sources.getLsbD 4 = reservoirFalls s level) (I := fun _ => True) (List.mem_range.2 hq) trivial
    (fun _ _ _ _ => trivial) (fun a _ => ?_) fun r _ hr a ha => ?_
  · rw [reservoirRack_sources, if_pos rfl]
    cases reservoirFalls s level <;> simp
  · rw [reservoirRack_sources, if_neg (Ne.symm hr)]
    exact ha

theorem reservoirRacks_plant : (reservoirRacks level s).plant = (reservoirSeen level s).plant :=
  forEach_keeps (P := fun a => a.plant = (reservoirSeen level s).plant) rfl fun r _ a ha => by
    rw [reservoirRack, (evalStage_frame ..).2.2.2.1]
    exact ha

end

/-! ### SUSPECT ends (R111) -/

/-- The sources seen since SUSPECT are forgotten. -/
def seenCleared (r : Nat) (s : State) : State := s.setRack r { s.rack r with seen := 0, seenCables := [] }

section
variable (r : Nat) (st : LeakStage) (s : State)

theorem seenCleared_changesOnly : ChangesOnly [.broker] s (seenCleared r s) := with_broker_changesOnly s _

theorem setStage_changesOnly : ChangesOnly [.broker, .vcp, .outbox, .regs, .log] s (setStage r st s) := by
  intro p hp
  cases p <;> simp [Part.Same, setStage_frame] at hp ⊢

theorem setStage_regsOnly : RegsOnly [] s (setStage r st s) := by
  unfold setStage
  dsimp only
  split
  · exact regsOnly_refl _ _
  · refine regsOnly_trans (t := logAction U.cap 2 Act.leakStage r (stageCode (s.rack r).stage) (stageCode st) 0 s)
      (fun _ _ ho _ hr => logAction_reg hr ho _ _ _ _ _ _ _ s) (regsOnly_trans (regsOnly_of_regs ?_) (notifyEvent_regsOnly _ (mirrorRack r _)))
    exact (mirrorRack_frame _ _).2.2.2.1

end

/-! ### The isolation valves are taken (R112) -/

/-- Rack r has the same cap, and of its sequence the same t_v and the same isolation valves. -/
def SequenceKept (r : Nat) (s t : State) : Prop :=
  (t.rack r).cap = (s.rack r).cap ∧ (t.rack r).leak.map (fun l => (l.tv, l.isolation)) = (s.rack r).leak.map (fun l => (l.tv, l.isolation))

namespace SequenceKept

variable {r : Nat} {s t u : State}

theorem of_rack (h : t.rack r = s.rack r) : SequenceKept r s t := ⟨by rw [h], by rw [h]⟩

theorem trans (h : SequenceKept r s t) (k : SequenceKept r t u) : SequenceKept r s u := ⟨k.1.trans h.1, k.2.trans h.2⟩

theorem setStage (st : LeakStage) : SequenceKept r s (setStage r st s) := by
  constructor <;> rw [setStage_rack, if_pos rfl]

theorem modLeak {g : LeakRun → LeakRun} (hg : ∀ l, (g l).tv = l.tv ∧ (g l).isolation = l.isolation) : SequenceKept r s (modLeak r g s) := by
  constructor
  · simp [Machine.modLeak]
  · simp [Machine.modLeak, Function.comp_def, hg]

end SequenceKept

theorem escalate_sequenceKept (r : Nat) (s : State) : SequenceKept r s (escalate r s) :=
  (SequenceKept.setStage .escalated).trans (.modLeak fun _ => ⟨rfl, rfl⟩)

theorem uncontain_sequenceKept (r : Nat) (s : State) : SequenceKept r s (uncontain r s) := by
  have hleak : SequenceKept r (setStage r .uncontained s)
      (modLeak r (fun l => { l with uncontainAt := some (nextFrame s) }) (setStage r .uncontained s)) := .modLeak fun _ => ⟨rfl, rfl⟩
  exact (SequenceKept.setStage .uncontained).trans (hleak.trans (.of_rack rfl))

theorem judgeRack_sequenceKept (r : Nat) (s : State) : SequenceKept r s (judgeRack r s) := by
  unfold judgeRack
  split
  · exact .of_rack rfl
  split
  · split
    · exact .trans (.of_rack (rack_setEvent ..)) (escalate_sequenceKept r _)
    split
    · exact .setStage .isolated
    · exact .of_rack rfl
  · split
    · exact .trans (.of_rack (rack_setEvent ..)) (escalate_sequenceKept r _)
    · exact .of_rack rfl
  · split
    · exact .trans (.of_rack (rack_setEvent ..)) (uncontain_sequenceKept r _)
    split
    · have hclosed : SequenceKept r s (modLeak r (fun l => { l with closed := true }) s) := .modLeak fun _ => ⟨rfl, rfl⟩
      exact hclosed.trans (.of_rack (State.rack_congr (by simp) r))
    · exact .of_rack rfl
  · exact .of_rack rfl

/-- R112: a role's channel and its judgement are added to those taken before. -/
def takeRole (a : State × List (Nat × Option Bool)) (q : Nat × Nat) : State × List (Nat × Option Bool) :=
  match roleChan a.1 q.1 q.2 with
  | some c => ((takeChannel c a.1).1, a.2 ++ [(c, (takeChannel c a.1).2)])
  | none => (a.1.setEvent U.cap Off.capEvents 4, a.2 ++ [(96, some false)])

theorem takeRole_length (a : State × List (Nat × Option Bool)) (q : Nat × Nat) : (takeRole a q).2.length = a.2.length + 1 := by
  unfold takeRole
  split
  · simp
  · simp

theorem foldl_takeRole_length (roles : List (Nat × Nat)) (a : State × List (Nat × Option Bool)) :
    (roles.foldl takeRole a).2.length = a.2.length + roles.length := by
  induction roles generalizing a with
  | nil => rfl
  | cons q roles ih => rw [List.foldl_cons, ih, takeRole_length, List.length_cons, Nat.add_right_comm, Nat.add_assoc]

/-- R112: one judgement for each role. -/
theorem takeRoles_length (roles : List (Nat × Nat)) (s : State) : (takeRoles roles s).2.length = roles.length :=
  (foldl_takeRole_length roles (s, [])).trans (Nat.zero_add _)

section
variable {r : Nat} {s : State} {l : LeakRun} (hleak : (s.rack r).leak = some l) (hbegun : l.begun = true) (htv : l.tv = none)
include hleak hbegun htv

theorem takeIsolation_eq : takeIsolation r s = judgeRack r (modLeak r
    (fun l => { l with tv := some s.now, isolation := (takeRoles (isolationRoles r) s).2 }) (takeRoles (isolationRoles r) s).1) := by
  simp [takeIsolation, hleak, hbegun, htv]

/-- R112: t_v is now, each isolation valve has its judgement, and the cap stays. -/
theorem takeIsolation_taken : ∃ l', ((takeIsolation r s).rack r).leak = some l' ∧ l'.tv = some s.now
    ∧ l'.isolation.length = (isolationRoles r).length ∧ ((takeIsolation r s).rack r).cap = (s.rack r).cap := by
  have hrack : (takeRoles (isolationRoles r) s).1.rack r = s.rack r := State.rack_congr (by simp [takeRoles_frame]) r
  obtain ⟨hcap, hkept⟩ := judgeRack_sequenceKept r
    (modLeak r (fun l => { l with tv := some s.now, isolation := (takeRoles (isolationRoles r) s).2 }) (takeRoles (isolationRoles r) s).1)
  rw [← takeIsolation_eq hleak hbegun htv] at hcap hkept
  simp only [modLeak, State.rack_modRack, if_pos, hrack, hleak, Option.map_some] at hcap hkept
  obtain ⟨l', hl', hpair⟩ := Option.map_eq_some_iff.1 hkept
  obtain ⟨htaken, hisolation⟩ := Prod.mk.inj hpair
  exact ⟨l', hl', htaken, hisolation ▸ takeRoles_length _ _, hcap⟩

end

theorem takeIsolation_changesOnly (r : Nat) (s : State) :
    ChangesOnly [.broker, .valves, .plant, .vcp, .outbox, .regs, .log] s (takeIsolation r s) := by
  intro p hp
  cases p <;> simp [Part.Same, takeIsolation_frame] at hp ⊢

theorem capEvents_not_report : (U.cap, Off.capEvents) ∉ reportRegs := by decide

/-- Settles O10: the evaluation of a stage leaves every source, so a source is what its own event made of it. -/
theorem leakSources : Obligations.LeakSources := by
  unfold Obligations.LeakSources
  refine fun r s => ⟨fun hset hold => ?alarm, fun z hz himb hold => ?imbalance, fun level => ?reservoir, fun z hz hstage hold => ?clear,
    fun l hl hbegun htv hold => ?isolation⟩
  case alarm =>
    refine ⟨setSource r.val 1 false false s, if_pos ⟨hset, hold⟩, ?_, fun q hq => ?_⟩
    · rw [setSource_sources, if_pos rfl]
      rfl
    · rw [setSource_sources, if_neg hq]
  case imbalance =>
    refine ⟨setSource r.val 2 true false s, ?_, ?_,
      fun hkeeper hclear => setSource_suspects r.val s (by decide) false hkeeper hclear, fun q hq => ?_⟩
    · show execFlowImbalance r s = _
      rw [execFlowImbalance, hz]
      exact if_pos ⟨himb, hold⟩
    · rw [setSource_sources, if_pos rfl]
      rfl
    · rw [setSource_sources, if_neg hq]
  case reservoir =>
    refine ⟨_, reservoirCheck_eq level s, ?_, fun q hq => ?_, fun hfalls hwas => ?_⟩
    · split
      · rw [(event_frame ..).2.2.2.1, reservoirRacks_plant]
        rfl
      · rw [reservoirRacks_plant]
        rfl
    · split
      · rw [State.rack_congr (s := reservoirRacks level s) (by simp) q, reservoirRacks_source level s hq]
      · exact reservoirRacks_source level s hq
    · rw [if_pos (by simp [hfalls, hwas])]
      exact event_bitAt_self capEvents_not_report (by decide) _ (by decide)
  case clear =>
    refine ⟨setStage r.val .clear (seenCleared r.val s), ?_, ?_, fun q hq => ?_, ?_, ?_⟩
    · show execLeakClear r s = _
      unfold execLeakClear
      dsimp only
      split
      next y hy =>
        obtain rfl : y = z := Option.some.inj (hy.symm.trans hz)
        exact if_pos ⟨hstage, hold⟩
      next hnone => exact absurd (hz.symm.trans hnone) (by simp)
    · simp [setStage_rack, seenCleared]
    · simp [setStage_rack, seenCleared, hq]
    · exact changesOnly_trans (changesOnly_mono (seenCleared_changesOnly r.val s) (by simp)) (setStage_changesOnly r.val .clear _)
    · exact regsOnly_trans (t := seenCleared r.val s) (regsOnly_of_regs rfl) (setStage_regsOnly r.val .clear _)
  case isolation =>
    obtain ⟨l', hl', htaken, hlength, hcap⟩ := takeIsolation_taken hl hbegun htv
    refine ⟨takeIsolation r.val s, l', ?_, hl', htaken, hlength, hcap, takeIsolation_changesOnly r.val s⟩
    show execLeakIsolateTimeout r s = _
    rw [execLeakIsolateTimeout, hl]
    exact if_pos hold

end Sys2Proof.Machine
end

section
/-! R266, R267, R404: what each item of the mirror leaves on a Relief; R234: the mismatch; R276, R277: the phases of a resync and the join. -/

namespace Sys2Proof.Machine

open Sys2Proof Sys2Proof.Safety

/-! ### Who applies an item (R267) -/

section
variable {item : MirrorItem} {same : Bool} {s : State}

theorem mirror_keeper (h : isKeeper s = true) : exec (.mirror ⟨item, same⟩) s = .next s :=
  if_neg (by simp [not_isRelief_of_isKeeper h, (isKeeper_iff s).1 h])

theorem mirror_relief (h : isRelief s = true) : exec (.mirror ⟨item, same⟩) s =
    .next (if plantItem item && !same then mirrorMismatch (mirrorItem item s) else mirrorItem item s) := if_pos (by simp [h])

/-- An item that is not compared, or that the Relief's own state agrees with, is applied and nothing more. -/
theorem mirror_applied (h : isRelief s = true) (hagrees : plantItem item = false ∨ same = true) :
    exec (.mirror ⟨item, same⟩) s = .next (mirrorItem item s) := by
  rw [mirror_relief h, if_neg]
  rcases hagrees with hitem | hsame
  · simp [hitem]
  · simp [hsame]

theorem mirror_differs (h : isRelief s = true) (hitem : plantItem item = true) :
    exec (.mirror ⟨item, false⟩) s = .next (mirrorMismatch (mirrorItem item s)) := by
  rw [mirror_relief h, if_pos (by simp [hitem])]

end

/-! ### Readings and replies (R190, R404) -/

section
variable (s : State)

/-- R190: an input frame of uplinks brings no forwarded reading. -/
theorem forwardedReadings_uplinks {values : List (Nat × InputVal)}
    (h : values.all (fun x => match x.2 with | .uplink _ => true | _ => false) = true) : forwardedReadings values s = s := by
  refine forEach_keeps (P := fun a => a = s) rfl fun x hx a ha => ?_
  have hup := List.all_eq_true.1 h x (List.mem_reverse.1 hx)
  split
  next heq => simp [heq] at hup
  next => exact ha

/-- R404: the reply is kept where none was. -/
theorem keepReply_keeps {id : Nat} {q : BitVec 32} (st : Status) (c : Time) (h : keptOf s id q = none) :
    ∃ k, keptOf (keepReply id q st c s) id q = some k ∧ k.status = st ∧ k.committed = c := by
  refine ⟨{ identity := id, sequence := q, status := st, committed := c }, ?_, rfl, rfl⟩
  rw [keepReply, if_neg (by simp [h])]
  simp [keptOf]

theorem keepReply_changesOnly (id : Nat) (q : BitVec 32) (st : Status) (c : Time) : ChangesOnly [.vcp] s (keepReply id q st c s) := by
  intro p hp
  cases p <;> simp [Part.Same] at hp ⊢

end

/-! ### The commands that wait (R266) -/

/-- The command that waits on a channel, of a list of them. -/
def waitingCmd {n : Nat} (l : List (Fin n × ChanCmd)) (c : Nat) : Option ChanCmd := (l.find? (fun e => decide (e.1.val = c))).map (·.2)

/-- Valve channel c takes the command that waits on the Keeper's. -/
def takeValveCmd (w : Waiting) (c : Nat) (a : State) : State :=
  if (a.valve c).cmd = waitingCmd w.valves c then a else a.modValve c (fun v => { v with cmd := waitingCmd w.valves c })

/-- Motor channel c takes the command that waits on the Keeper's. -/
def takeMotorCmd (w : Waiting) (c : Nat) (a : State) : State :=
  if (a.motor c).cmd = waitingCmd w.motors c then a else a.modMotor c (fun v => { v with cmd := waitingCmd w.motors c })

/-- Every channel has the command that waits on the Keeper's. -/
def cmdsTaken (w : Waiting) (s : State) : State := forEach (upTo 48) (takeMotorCmd w) (forEach valves96 (takeValveCmd w) s)

section
variable (w : Waiting) (s : State)

theorem mirrorItem_waiting : mirrorItem (.waiting w) s =
    { cmdsTaken w s with
      plant := { (cmdsTaken w s).plant with modeAsks := w.modes, releaseAsks := w.releases },
      broker := { (cmdsTaken w s).broker with asks := w.caps } } := by
  dsimp only [mirrorItem]
  delta cmdsTaken takeValveCmd takeMotorCmd waitingCmd
  dsimp only


theorem takeValveCmd_valve (c j : Nat) : ((takeValveCmd w c s).valve j).cmd = if j = c then waitingCmd w.valves c else (s.valve j).cmd := by
  unfold takeValveCmd
  split
  next h =>
    split
    next hj => rw [hj, h]
    next => rfl
  next =>
    rw [State.valve_modValve]
    split
    · rfl
    · rfl

theorem takeMotorCmd_motor (c j : Nat) : ((takeMotorCmd w c s).motor j).cmd = if j = c then waitingCmd w.motors c else (s.motor j).cmd := by
  unfold takeMotorCmd
  split
  next h =>
    split
    next hj => rw [hj, h]
    next => rfl
  next =>
    rw [State.motor_modMotor]
    split
    · rfl
    · rfl

theorem takeValveCmd_changesOnly (c : Nat) : ChangesOnly [.valves] s (takeValveCmd w c s) := by
  unfold takeValveCmd
  split
  · exact changesOnly_refl _ _
  · exact modValve_changesOnly s c _

theorem takeMotorCmd_changesOnly (c : Nat) : ChangesOnly [.motors] s (takeMotorCmd w c s) := by
  unfold takeMotorCmd
  split
  · exact changesOnly_refl _ _
  · exact modMotor_changesOnly s c _

theorem valveCmds_changesOnly : ChangesOnly [.valves] s (forEach valves96 (takeValveCmd w) s) :=
  forEach_keeps (P := ChangesOnly [.valves] s) (changesOnly_refl _ _) fun c _ a ha => changesOnly_trans ha (takeValveCmd_changesOnly w a c)

theorem motorCmds_changesOnly : ChangesOnly [.motors] s (forEach (upTo 48) (takeMotorCmd w) s) :=
  forEach_keeps (P := ChangesOnly [.motors] s) (changesOnly_refl _ _) fun c _ a ha => changesOnly_trans ha (takeMotorCmd_changesOnly w a c)

theorem cmdsTaken_changesOnly : ChangesOnly [.motors, .valves] s (cmdsTaken w s) :=
  changesOnly_trans (changesOnly_mono (valveCmds_changesOnly w s) (by simp)) (changesOnly_mono (motorCmds_changesOnly w _) (by simp))

theorem cmdsTaken_valve {c : Nat} (hc : c < 96) : ((cmdsTaken w s).valve c).cmd = waitingCmd w.valves c := by
  have hvalves : (cmdsTaken w s).valves = (forEach valves96 (takeValveCmd w) s).valves := motorCmds_changesOnly w _ .valves (by simp)
  rw [State.valve_congr hvalves]
  refine forEach_sets (P := fun a => (a.valve c).cmd = waitingCmd w.valves c) (I := fun _ => True) (List.mem_range.2 hc) trivial
    (fun _ _ _ _ => trivial) (fun a _ => ?_) fun d _ hd a ha => ?_
  · rw [takeValveCmd_valve, if_pos rfl]
  · rw [takeValveCmd_valve, if_neg (Ne.symm hd), ha]

theorem cmdsTaken_motor {c : Nat} (hc : c < 48) : ((cmdsTaken w s).motor c).cmd = waitingCmd w.motors c := by
  refine forEach_sets (P := fun a => (a.motor c).cmd = waitingCmd w.motors c) (I := fun _ => True) (List.mem_range.2 hc) trivial
    (fun _ _ _ _ => trivial) (fun a _ => ?_) fun d _ hd a ha => ?_
  · rw [takeMotorCmd_motor, if_pos rfl]
  · rw [takeMotorCmd_motor, if_neg (Ne.symm hd), ha]

/-- R266: the Relief has the Keeper's waiting commands and asks. -/
theorem mirrorItem_waiting_spec : (mirrorItem (.waiting w) s).broker = { s.broker with asks := w.caps }
    ∧ (mirrorItem (.waiting w) s).plant = { s.plant with modeAsks := w.modes, releaseAsks := w.releases }
    ∧ (∀ c, c < 96 → ((mirrorItem (.waiting w) s).valve c).cmd = waitingCmd w.valves c)
    ∧ (∀ c, c < 48 → ((mirrorItem (.waiting w) s).motor c).cmd = waitingCmd w.motors c)
    ∧ ChangesOnly [.broker, .motors, .plant, .valves] s (mirrorItem (.waiting w) s) := by
  have hcmds := cmdsTaken_changesOnly w s
  have hbroker : (cmdsTaken w s).broker = s.broker := hcmds .broker (by simp)
  have hplant : (cmdsTaken w s).plant = s.plant := hcmds .plant (by simp)
  have hvalves : (mirrorItem (.waiting w) s).valves = (cmdsTaken w s).valves := by rw [mirrorItem_waiting]
  have hmotors : (mirrorItem (.waiting w) s).motors = (cmdsTaken w s).motors := by rw [mirrorItem_waiting]
  refine ⟨?_, ?_, fun c hc => ?_, fun c hc => ?_, ?_⟩
  · rw [mirrorItem_waiting, hbroker]
  · rw [mirrorItem_waiting, hplant]
  · rw [State.valve_congr hvalves, cmdsTaken_valve w s hc]
  · rw [State.motor_congr hmotors, cmdsTaken_motor w s hc]
  · rw [mirrorItem_waiting]
    exact changesOnly_trans (changesOnly_mono hcmds (by simp)) (changesOnly_mono (with_plant_broker_changesOnly (cmdsTaken w s) _ _) (by simp))

end

/-! ### The plant's event state (R116) -/

theorem row_of_rows {s t : State} (h : t.plant.rows = s.plant.rows) (row : ReflexRow) : t.row row = s.row row := by
  rw [State.row, h]
  rfl

theorem loop_of_loops {s t : State} (h : t.plant.loops = s.plant.loops) (l : Nat) : t.loop l = s.loop l := by
  rw [State.loop, h]
  rfl

/-- A row is as active as on the Keeper. -/
def takeRow (active : List ReflexRow) (row : ReflexRow) (a : State) : State :=
  if active.elem row = (a.row row).active then a
  else a.modRow row (fun k => { k with active := active.elem row, since := a.now, lastStep := a.now })

/-- A loop has the Keeper's holders. -/
def takeHolders (holds : List (List ReflexRow)) (l : Nat) (a : State) : State := a.modLoop l (fun k => { k with holders := holds.getD l [] })

/-- Rows and loops are as on the Keeper. -/
def rowsTaken (active : List ReflexRow) (holds : List (List ReflexRow)) (s : State) : State :=
  forEach [0, 1, 2, 3, 4] (takeHolders holds) (forEach (allRows ++ racks16.map .rackFlowCap ++ [.pumpTrip]) (takeRow active) s)

section
variable (active : List ReflexRow) (holds : List (List ReflexRow)) (s : State)

theorem takeRow_row (row j : ReflexRow) : ((takeRow active row s).row j).active = if j = row then active.elem row else (s.row j).active := by
  unfold takeRow
  split
  next h =>
    split
    next hj => rw [hj, h]
    next => rfl
  next =>
    rw [State.row_modRow]
    split
    · rfl
    · rfl

theorem takeRow_changesOnly (row : ReflexRow) : ChangesOnly [.plant] s (takeRow active row s) := by
  unfold takeRow
  split
  · exact changesOnly_refl _ _
  · exact with_plant_changesOnly s _

theorem takeHolders_changesOnly (l : Nat) : ChangesOnly [.plant] s (takeHolders holds l s) :=
  with_plant_changesOnly s _

theorem rowsTaken_changesOnly : ChangesOnly [.plant] s (rowsTaken active holds s) := by
  have hrows : ∀ l, ChangesOnly [.plant] s (forEach l (takeRow active) s) := fun l =>
    forEach_keeps (P := ChangesOnly [.plant] s) (changesOnly_refl _ _) fun r _ a ha => changesOnly_trans ha (takeRow_changesOnly active a r)
  exact forEach_keeps (P := ChangesOnly [.plant] s) (hrows _) fun l _ a ha => changesOnly_trans ha (takeHolders_changesOnly holds a l)

theorem rowsTaken_row {row : ReflexRow} (h : row ∈ allRows) : ((rowsTaken active holds s).row row).active = active.elem row := by
  refine forEach_keeps (P := fun a => (a.row row).active = active.elem row) ?_ fun l _ a ha => ha
  refine forEach_sets (P := fun a => (a.row row).active = active.elem row) (I := fun _ => True)
    (List.mem_append_left _ (List.mem_append_left _ h)) trivial (fun _ _ _ _ => trivial) (fun a _ => ?_) fun d _ hd a ha => ?_
  · rw [takeRow_row, if_pos rfl]
  · rw [takeRow_row, if_neg (Ne.symm hd), ha]

theorem rowsTaken_loop {l : Nat} (h : l < 5) : ((rowsTaken active holds s).loop l).holders = holds.getD l [] := by
  have hmem : l ∈ [0, 1, 2, 3, 4] := List.mem_range.2 h
  refine forEach_sets (P := fun a => (a.loop l).holders = holds.getD l []) (I := fun _ => True) hmem trivial
    (fun _ _ _ _ => trivial) (fun a _ => ?_) fun d _ hd a ha => ?_
  · rw [takeHolders, State.loop_modLoop, if_pos rfl]
  · rw [takeHolders, State.loop_modLoop, if_neg (Ne.symm hd), ha]

theorem mirrorItem_plantEvents (all : Bool) (prov : List (ProvAction × BitVec 32 × BitVec 16)) (n : Nat) : ∃ sighted,
    mirrorItem (.plantEvents active holds all prov n) s =
      { rowsTaken active holds s with
        plant := { (rowsTaken active holds s).plant with safetyAll := all },
        broker := { (rowsTaken active holds s).broker with
          prov := prov.map (fun e => { act := e.1, logSeq := e.2.1, noticed := e.2.2 }), sightings := n, sighted := sighted } } := by
  refine ⟨((prov.map (fun e => e.1.raId)).filter (fun i => i.getLsbD 31)).eraseDups, ?_⟩
  dsimp only [mirrorItem]
  delta rowsTaken takeHolders takeRow
  dsimp only

/-- R116: rows, holders, the components in force and the sightings are as on the Keeper. -/
theorem mirrorItem_plantEvents_spec (all : Bool) (prov : List (ProvAction × BitVec 32 × BitVec 16)) (n : Nat) :
    (mirrorItem (.plantEvents active holds all prov n) s).plant.safetyAll = all
    ∧ (mirrorItem (.plantEvents active holds all prov n) s).broker.sightings = n
    ∧ (∀ row ∈ allRows, ((mirrorItem (.plantEvents active holds all prov n) s).row row).active = active.elem row)
    ∧ (∀ l, l < 5 → ((mirrorItem (.plantEvents active holds all prov n) s).loop l).holders = holds.getD l [])
    ∧ (mirrorItem (.plantEvents active holds all prov n) s).broker.prov.map (fun e => e.act) = prov.map (fun e => e.1)
    ∧ ChangesOnly [.broker, .plant] s (mirrorItem (.plantEvents active holds all prov n) s) := by
  obtain ⟨sighted, heq⟩ := mirrorItem_plantEvents active holds s all prov n
  have hrows : (mirrorItem (.plantEvents active holds all prov n) s).plant.rows = (rowsTaken active holds s).plant.rows := by rw [heq]
  have hloops : (mirrorItem (.plantEvents active holds all prov n) s).plant.loops = (rowsTaken active holds s).plant.loops := by rw [heq]
  refine ⟨by rw [heq], by rw [heq], fun row h => ?_, fun l h => ?_, ?_, ?_⟩
  · rw [row_of_rows hrows, rowsTaken_row active holds s h]
  · rw [loop_of_loops hloops, rowsTaken_loop active holds s h]
  · rw [heq]
    simp
  · rw [heq]
    exact changesOnly_trans (changesOnly_mono (rowsTaken_changesOnly active holds s) (by simp))
      (with_plant_broker_changesOnly (rowsTaken active holds s) _ _)

end

/-! ### Records and registers (R267) -/

section
variable (s : State)

theorem logPlace_ring (pos len type : Nat) (mirrored : Bool) (time : Time) (body : LogBody) :
    ∃ l, (logPlace pos len type mirrored time body s).log.ring = { seq := s.log.nextSeq, type, mirrored, length := len, time, pos, body } :: l := by
  unfold logPlace
  dsimp only
  split
  · exact ⟨_, rfl⟩
  · exact ⟨_, rfl⟩

theorem logTx_ring : (logTx s).log.ring = s.log.ring := by
  unfold logTx
  dsimp only
  split
  · split
    · rfl
    · rfl
  · rfl

/-- R471: a record that is put is the newest of the ring. -/
theorem logPut_ring (type len : Nat) (mirrored : Bool) (time : Time) (body : LogBody) : ∃ r l,
    (logPut type len mirrored time body s).log.ring = r :: l ∧ r.type = type ∧ r.mirrored = mirrored ∧ r.time = time ∧ r.length = len
      ∧ r.body = body := by
  unfold logPut
  dsimp only
  rw [logTx_ring]
  split
  · obtain ⟨l, hl⟩ := logPlace_ring (logPlace s.log.nextPos (Config.logRing - s.log.nextPos) Log.pad false s.now .pad s) 0 len type
      mirrored time body
    exact ⟨_, l, hl, rfl, rfl, rfl, rfl, rfl⟩
  · obtain ⟨l, hl⟩ := logPlace_ring s s.log.nextPos len type mirrored time body
    exact ⟨_, l, hl, rfl, rfl, rfl, rfl, rfl⟩

theorem afterDue_ring (time : Time) (seq : BitVec 32) (body : ActionBody) : (afterDue time seq body s).log.ring = s.log.ring := rfl

theorem afterDue_regs (time : Time) (seq : BitVec 32) (body : ActionBody) : (afterDue time seq body s).regs = s.regs := rfl

/-- R267: a record that fits is put; its ACTION_AFTER may wait. -/
theorem logMirrored_fits (type : Nat) {len : Nat} (hlen : len ≤ 4088) (time : Time) (seq : BitVec 32) (slot : SlotId) (body : LogBody) :
    (logMirrored type len time seq slot body s).log.ring = (logPut type (len + 8) true time (.mirrored seq slot body) s).log.ring
    ∧ (logMirrored type len time seq slot body s).regs = (logPut type (len + 8) true time (.mirrored seq slot body) s).regs := by
  unfold logMirrored
  rw [if_neg (by omega)]
  dsimp only
  split
  · split
    · exact ⟨afterDue_ring .., afterDue_regs ..⟩
    · exact ⟨rfl, rfl⟩
  · exact ⟨rfl, rfl⟩

/-- R267: a record of the Keeper that fits is kept, marked and with its sequence and its module's slot. -/
theorem logMirrored_spec (type : Nat) {len : Nat} (hlen : len ≤ 4088) (time : Time) (seq : BitVec 32) (slot : SlotId) (body : LogBody) :
    (∃ r l, (logMirrored type len time seq slot body s).log.ring = r :: l ∧ r.type = type ∧ r.mirrored = true ∧ r.time = time
      ∧ r.length = len + 8 ∧ r.body = .mirrored seq slot body)
    ∧ ChangesOnly [.log, .outbox, .regs] s (logMirrored type len time seq slot body s)
    ∧ RegsOnly [] s (logMirrored type len time seq slot body s) := by
  obtain ⟨hring, hregs⟩ := logMirrored_fits s type hlen time seq slot body
  refine ⟨hring ▸ logPut_ring s type (len + 8) true time (.mirrored seq slot body), fun p hp => ?_, fun u off ho _ hr => ?_⟩
  · cases p <;> simp [Part.Same] at hp ⊢
  · exact (State.reg_congr hregs u off).trans (logPut_reg hr ho ..)

theorem sendConfig_changesOnly (u : Nat) : ChangesOnly [.service] s (sendConfig u s) := by
  unfold sendConfig
  split
  · split
    · intro p hp
      cases p <;> simp [Part.Same] at hp ⊢
    · exact changesOnly_refl _ _
  · exact changesOnly_refl _ _

/-- R313: a register of a valve channel brings about nothing besides its value and the write to the card. -/
theorem storeConfig_vlv {u : Nat} (hclass : unitClass u = 1) (off : Nat) (v : Word) : storeConfig u off v s = sendConfig u (s.setReg u off v) := by
  unfold storeConfig configEffect
  rw [hclass]
  rfl

theorem mirrorItem_register_vlv {u off : BitVec 16} (hclass : unitClass u.toNat = 1) (v : Word) :
    mirrorItem (.register u off v) s = sendConfig u.toNat (s.setReg u.toNat off.toNat v) := by
  have hcap : u.toNat ≠ U.cap := fun h => absurd (h ▸ hclass) (by decide)
  rw [← storeConfig_vlv s hclass off.toNat v]
  exact if_neg (by simp [hcap])

end

/-! ### The mismatch (R234) -/

section
variable (ev : IntEv) (c : Option ClusterAt) (leg : Nat) (s : State)

theorem intEvent_changesOnly : ChangesOnly [.integ, .log, .outbox, .regs, .vcp] s (intEvent ev c leg s) := by
  intro p hp
  cases p <;> simp [Part.Same, intEvent_frame] at hp ⊢

theorem sendReport_regs (kind event loc : Nat) (p : Session → Bool) : (sendReport kind event leg loc p s).regs = s.regs := by
  simp [sendReport]

theorem sendReport_sweep (kind event loc : Nat) (p : Session → Bool) : (sendReport kind event leg loc p s).integ.sweep = s.integ.sweep := by
  simp [sendReport]

theorem intCount_sweep : (intCount ev s).integ.sweep = s.integ.sweep := by cases ev <;> simp [intCount]

/-- What holds of both states holds of either. -/
theorem proj_ite {α : Type} (f : State → α) {x : α} {p : Prop} [Decidable p] {a b : State} (ha : f a = x) (hb : f b = x) :
    f (if p then a else b) = x := by
  split
  · exact ha
  · exact hb

theorem intEvent_sweep : (intEvent ev c leg s).integ.sweep = s.integ.sweep := by
  have hlog : ∀ ws a, (logWords Log.integrity 64 ws a).integ = a.integ := by simp
  have hcount : ∀ n, (notifyEvent n (match intBit ev with
      | some b => (intCount ev s).setEvent U.hub Off.intEvents b | none => intCount ev s)).integ.sweep = s.integ.sweep := fun n => by
    rw [(notifyEvent_changesOnly n _) .integ (by simp)]
    split
    · exact intCount_sweep ev s
    · exact intCount_sweep ev s
  unfold intEvent
  dsimp only
  rw [hlog]
  exact proj_ite (fun a => a.integ.sweep) ((sendReport_sweep ..).trans (hcount _)) (hcount _)

/-- Table 8-6: COMPARE_MISMATCH sets its bit. -/
theorem intEvent_compareMismatch_bit : (intEvent .compareMismatch c leg s).bitAt U.hub Off.intEvents 6 = true := by
  have hreg : (intEvent .compareMismatch c leg s).reg U.hub Off.intEvents = orBit (s.reg U.hub Off.intEvents) 6 := by
    have hnotify : ∀ n, (notifyEvent n ((intCount .compareMismatch s).setEvent U.hub Off.intEvents 6)).reg U.hub Off.intEvents
        = orBit (s.reg U.hub Off.intEvents) 6 := fun n => by
      rw [notifyEvent_reg (hub_not_report _) (by decide)]
      exact State.reg_setReg_self ..
    unfold intEvent
    dsimp only [intBit]
    rw [logWords_reg (hub_not_report _) (by decide)]
    exact proj_ite (fun a => a.reg U.hub Off.intEvents) ((State.reg_congr (sendReport_regs ..) _ _).trans (hnotify _)) (hnotify _)
  simp [State.bitAt, hreg, bitOf_orBit]

end

/-- R234: the array is swept, and the mismatch is counted. -/
def mismatchCounted (s : State) : State := { s with integ.sweep := true, pair.legsMismatch := s.pair.legsMismatch + 1 }

/-- R234: the event of the mismatch. -/
def mismatchTold (s : State) : State := intEvent .compareMismatch none s.seqr.leg (mismatchCounted s)

/-- R234: a Relief that resyncs from its start. -/
def resyncAsked (s : State) : State :=
  { s with pair := { s.pair with role := .reliefResync, resync := .handshake, resyncPct := 0, joinReady := false, joinLeg := none } }

section
variable (s : State)

theorem mismatchCounted_changesOnly : ChangesOnly [.integ, .pair] s (mismatchCounted s) := by
  intro p hp
  cases p <;> simp [Part.Same, mismatchCounted] at hp ⊢

theorem mismatchTold_changesOnly : ChangesOnly [.integ, .log, .outbox, .regs, .vcp] (mismatchCounted s) (mismatchTold s) :=
  intEvent_changesOnly .compareMismatch none s.seqr.leg (mismatchCounted s)

theorem mismatchTold_pair : (mismatchTold s).pair = { s.pair with legsMismatch := s.pair.legsMismatch + 1 } :=
  mismatchTold_changesOnly s .pair (by simp)

theorem resyncAsked_changesOnly : ChangesOnly [.pair] s (resyncAsked s) := with_pair_changesOnly s _

theorem resyncAsked_integ : (resyncAsked s).integ = s.integ := rfl

theorem resyncAsked_bitAt (u off n : Nat) : (resyncAsked s).bitAt u off n = s.bitAt u off n := rfl

theorem resyncAsked_pair : (resyncAsked s).pair.role = .reliefResync ∧ (resyncAsked s).pair.legsMismatch = s.pair.legsMismatch := ⟨rfl, rfl⟩

theorem mirrorMismatch_eq (hrole : s.pair.role = .reliefMirror) : mirrorMismatch s = resyncAsked (mismatchTold s) := by
  have hleaves : leaveMirror (mismatchTold s) = resyncAsked (mismatchTold s) := if_pos (by rw [mismatchTold_pair, hrole])
  rw [mirrorMismatch, if_pos hrole, ← hleaves, mismatchTold, mismatchCounted]

/-- R234: a mirroring Relief leaves mirroring, sweeps its array and counts and reports the mismatch. -/
theorem mirrorMismatch_spec (hrole : s.pair.role = .reliefMirror) :
    (mirrorMismatch s).pair.role = .reliefResync ∧ (mirrorMismatch s).integ.sweep = true
    ∧ (mirrorMismatch s).pair.legsMismatch = s.pair.legsMismatch + 1 ∧ (mirrorMismatch s).bitAt U.hub Off.intEvents 6 = true
    ∧ ChangesOnly [.integ, .log, .outbox, .pair, .regs, .vcp] s (mirrorMismatch s) := by
  rw [mirrorMismatch_eq s hrole, resyncAsked_integ, resyncAsked_bitAt]
  obtain ⟨hresync, hcount⟩ := resyncAsked_pair (mismatchTold s)
  refine ⟨hresync, intEvent_sweep .compareMismatch none s.seqr.leg (mismatchCounted s), by rw [hcount, mismatchTold_pair],
    intEvent_compareMismatch_bit none s.seqr.leg (mismatchCounted s), ?_⟩
  exact changesOnly_trans (changesOnly_mono (mismatchCounted_changesOnly s) (by simp)) (changesOnly_trans
    (changesOnly_mono (mismatchTold_changesOnly s) (by simp)) (changesOnly_mono (resyncAsked_changesOnly (mismatchTold s)) (by simp)))

end

end Sys2Proof.Machine
end

section
/-! R276, R277: the phases of a resync and the join; and the mirror and the resync as a whole. -/

namespace Sys2Proof.Machine

open Sys2Proof Sys2Proof.Safety

/-! ### A checkpoint of the Keeper (R203, R267) -/

section
variable (c : Ckpt) (s : State)

theorem storeCkpt_seqr : (storeCkpt c s).seqr =
    if s.seqr.lastB then { s.seqr with slotA := c, lastB := false } else { s.seqr with slotB := c, lastB := true } := by
  unfold storeCkpt
  split
  · rfl
  · rfl

theorem storeCkpt_changesOnly : ChangesOnly [.seqr] s (storeCkpt c s) := by
  intro p hp
  cases p <;> simp [Part.Same, storeCkpt_frame] at hp ⊢

/-- R277: a checkpoint of phase 4 with which the module could join is superseded. -/
def ckptSuperseded (ready : Bool) (s : State) : State :=
  if ready then { s with pair := { s.pair with joinReady := false, resync := .checkpoint } } else s

theorem ckptSuperseded_seqr (ready : Bool) : (ckptSuperseded ready s).seqr = s.seqr := by
  unfold ckptSuperseded
  split
  · rfl
  · rfl

theorem ckptSuperseded_changesOnly (ready : Bool) : ChangesOnly [.pair] s (ckptSuperseded ready s) := by
  unfold ckptSuperseded
  split
  · exact with_pair_changesOnly s _
  · exact changesOnly_refl _ _

end

/-- The checkpoint that the Keeper has completed. -/
def keeperCkpt (leg mid digest phase bodyLen : Nat) (rings : List Nat) : Ckpt :=
  { state := 2, mirrorId := mid, leg := leg, phase := phase, bodyLen := bodyLen, digest := digest, rings := rings.take 64 }

section
variable (leg mid digest phase bodyLen : Nat) (rings : List Nat) (s : State)

/-- R267: a Relief that does not mirror keeps the checkpoints of its own image; a mirroring one takes its own. -/
theorem mirrorItem_checkpoint : mirrorItem (.checkpoint leg mid digest phase bodyLen rings) s =
    if mid = imageOr s (·.mirrorId) ∧ s.pair.role ≠ .reliefMirror then
      ckptSuperseded s.pair.joinReady (storeCkpt (keeperCkpt leg mid digest phase bodyLen rings) s)
    else s := rfl

end

/-! ### The phases of a resync (R276) -/

/-- Table 9-12 phase 1 begins. -/
def resyncBegun (s : State) : State :=
  loadForResync { s with pair := { s.pair with resync := .handshake, copied := 0, resyncPct := 0, joinReady := false } }

section
variable (s : State)

theorem loadForResync_changesOnly : ChangesOnly [.seqr] s (loadForResync s) := by
  intro p hp
  cases p <;> simp [Part.Same, loadForResync_frame] at hp ⊢

theorem loadForResync_loads (hrelief : isRelief s = true) (hempty : s.seqr.st = .empty) (hbank : bankVerified (activeBank (s.upd 2)) = true) :
    (loadForResync s).seqr.st = .loading := by
  rw [loadForResync, if_pos (by simp [hrelief, hempty]), if_pos hbank]
  rfl

theorem resyncBegun_changesOnly : ChangesOnly [.pair, .seqr] s (resyncBegun s) :=
  changesOnly_trans (changesOnly_mono (with_pair_changesOnly s _) (by simp)) (changesOnly_mono (loadForResync_changesOnly _) (by simp))

theorem resyncBegun_resync : (resyncBegun s).pair.resync = .handshake := by
  rw [resyncBegun, loadForResync_changesOnly _ .pair (by simp)]

theorem resyncBegun_loads (hrelief : isRelief s = true) (hempty : s.seqr.st = .empty) (hbank : bankVerified (activeBank (s.upd 2)) = true) :
    (resyncBegun s).seqr.st = .loading := loadForResync_loads _ hrelief hempty hbank

theorem askJoin_keeps : ChangesOnly [.pair] s (askJoin s) ∧ (askJoin s).pair.resync = s.pair.resync
    ∧ (askJoin s).pair.joinReady = s.pair.joinReady := by
  unfold askJoin
  split
  · exact ⟨with_pair_changesOnly s _, rfl, rfl⟩
  · exact ⟨changesOnly_refl _ _, rfl, rfl⟩

end

/-- R276: what a phase that ends leaves, on the Keeper and on the Relief. -/
def PhaseEnded (eq : Bool) (moved : Nat) (ok : Bool) (s t : State) : Prop :=
  ChangesOnly [.pair, .seqr] s t
    ∧ (s.pair.resync = .idle → t.pair.resync = .handshake
        ∧ (isRelief s = true → s.seqr.st = .empty → bankVerified (activeBank (s.upd 2)) = true → t.seqr.st = .loading))
    ∧ (s.pair.resync ≠ .idle → t.seqr = s.seqr)
    ∧ (s.pair.resync = .handshake → t.pair.idMatch = eq ∧ t.pair.resync = (if eq = true then .bulk else .idle)
        ∧ (eq = false → isKeeper s = false → t.pair.role = .reliefCold))
    ∧ (s.pair.resync = .bulk → t.pair.resync = .delta ∧ t.pair.copied = s.pair.copied + moved)
    ∧ (s.pair.resync = .delta → t.pair.resync = if moved < 64 * 2 ^ 20 then .checkpoint else .delta)
    ∧ (s.pair.resync = .checkpoint → ok = true → t.pair.resync = .join ∧ t.pair.joinReady = true)
    ∧ (s.pair.resync = .checkpoint → ok = false → t = s) ∧ (s.pair.resync = .join → t = s)

/-- A phase that ends changes the pair alone, but for the first, which may begin a load. -/
theorem PhaseEnded.of_pair {eq : Bool} {moved : Nat} {ok : Bool} {s t : State} (hparts : ChangesOnly [.pair] s t) (hidle : s.pair.resync ≠ .idle)
    (hhandshake : s.pair.resync = .handshake → t.pair.idMatch = eq ∧ t.pair.resync = (if eq = true then .bulk else .idle)
        ∧ (eq = false → isKeeper s = false → t.pair.role = .reliefCold))
    (hbulk : s.pair.resync = .bulk → t.pair.resync = .delta ∧ t.pair.copied = s.pair.copied + moved)
    (hdelta : s.pair.resync = .delta → t.pair.resync = if moved < 64 * 2 ^ 20 then .checkpoint else .delta)
    (hckpt : s.pair.resync = .checkpoint → ok = true → t.pair.resync = .join ∧ t.pair.joinReady = true)
    (hwait : s.pair.resync = .checkpoint → ok = false → t = s) (hjoin : s.pair.resync = .join → t = s) : PhaseEnded eq moved ok s t :=
  ⟨changesOnly_mono hparts (by simp), fun h => absurd h hidle, fun _ => hparts .seqr (by simp), hhandshake, hbulk, hdelta, hckpt, hwait, hjoin⟩

theorem resyncPhaseDone_spec {s : State} (eq : Bool) (moved : Nat) (ok : Bool) (h : resyncing s = true) :
    ∃ t, exec (.resyncPhaseDone eq moved ok) s = .next t ∧ PhaseEnded eq moved ok s t := by
  show ∃ t, execResyncPhaseDone eq moved ok s = .next t ∧ PhaseEnded eq moved ok s t
  unfold execResyncPhaseDone
  rw [if_neg (by simp [h])]
  dsimp only
  split
  next hphase =>
    refine ⟨_, rfl, resyncBegun_changesOnly s, fun _ => ⟨resyncBegun_resync s, resyncBegun_loads s⟩, fun hne => absurd hphase hne, ?_⟩
    simp [hphase]
  next hphase =>
    cases eq with
    | true => exact ⟨_, rfl, .of_pair (with_pair_changesOnly s _) (by simp [hphase]) (by simp) (by simp [hphase]) (by simp [hphase])
        (by simp [hphase]) (by simp [hphase]) (by simp [hphase])⟩
    | false => exact ⟨_, rfl, .of_pair (with_pair_changesOnly s _) (by simp [hphase]) (fun _ => ⟨rfl, rfl, fun _ hk => by simp [hk]⟩)
        (by simp [hphase]) (by simp [hphase]) (by simp [hphase]) (by simp [hphase]) (by simp [hphase])⟩
  next hphase => exact ⟨_, rfl, .of_pair (with_pair_changesOnly s _) (by simp [hphase]) (by simp [hphase]) (fun _ => ⟨rfl, rfl⟩)
      (by simp [hphase]) (by simp [hphase]) (by simp [hphase]) (by simp [hphase])⟩
  next hphase => exact ⟨_, rfl, .of_pair (with_pair_changesOnly s _) (by simp [hphase]) (by simp [hphase]) (by simp [hphase])
      (fun _ => rfl) (by simp [hphase]) (by simp [hphase]) (by simp [hphase])⟩
  next hphase =>
    cases ok with
    | true =>
      have hjoined := askJoin_keeps { s with pair := { s.pair with
        resync := .join, joinReady := true, copied := s.pair.copied + moved, resyncPct := 100 } }
      obtain ⟨hasked, hresync, hready⟩ := hjoined
      have hset := with_pair_changesOnly s { s.pair with resync := .join, joinReady := true, copied := s.pair.copied + moved, resyncPct := 100 }
      refine ⟨_, rfl, .of_pair ?_ (by simp [hphase]) (by simp [hphase]) (by simp [hphase]) (by simp [hphase]) (fun _ _ => ?_) (by simp)
        (by simp [hphase])⟩
      · split
        · exact hset
        · exact changesOnly_trans hset hasked
      · split
        · exact ⟨rfl, rfl⟩
        · exact ⟨hresync, hready⟩
    | false => exact ⟨s, rfl, .of_pair (changesOnly_refl _ _) (by simp [hphase]) (by simp [hphase]) (by simp [hphase]) (by simp [hphase])
        (by simp) (fun _ _ => rfl) (fun _ => rfl)⟩
  next hphase => exact ⟨s, rfl, .of_pair (changesOnly_refl _ _) (by simp [hphase]) (by simp [hphase]) (by simp [hphase]) (by simp [hphase])
      (by simp [hphase]) (fun _ _ => rfl) (fun _ => rfl)⟩

/-! ### The join (R276, R277) -/

/-- R276: a Relief mirrors from now on, with the Keeper's leg numbers. -/
def joined (s : State) : State :=
  { s with pair := { s.pair with role := .reliefMirror, resync := .idle, joinReady := false, joinAt := none },
           integ.sweep := false, seqr.leg := s.pair.partnerLeg, seqr.anyLeg := true }

/-- R276: the joined Relief restores the shared checkpoint. -/
def joinRestores (s : State) : State := restoreBegun 0 (setDies true (joined s))

/-- R276: the join with its event and its count. -/
def joinDone (s : State) : State := ((joinRestores s).setEvent U.sys Off.pairEvents 8).addCount U.sys Off.pairCount 23 16 1

section
variable (s : State)

theorem setDies_joined : (setDies true (joined s)).seqr = (joined s).seqr ∧ (setDies true (joined s)).pair = (joined s).pair
    ∧ (setDies true (joined s)).regs = s.regs := by
  simp [setDies_frame, joined]

theorem lastCkpt_joined : lastCkpt (setDies true (joined s)) = lastCkpt s := by
  unfold lastCkpt usableCkpt
  rw [(setDies_joined s).1]
  rfl

theorem restoreBegun_pair (reload : Nat) : (restoreBegun reload s).pair = s.pair := by
  simp [restoreBegun, restoreWaits, legsDiscarded, endScheduled, markCkpt, dropLegs]

theorem restoreBegun_leg (reload : Nat) : (restoreBegun reload s).seqr.leg = s.seqr.leg := by
  simp [restoreBegun, restoreWaits, legsDiscarded, endScheduled, markCkpt, dropLegs]

theorem restoreBegun_sys_reg (reload : Nat) {off : Nat} (h : off < 0x1000) : (restoreBegun reload s).reg U.sys off = s.reg U.sys off := by
  rw [restoreBegun, State.reg_setEvent_other _ (by decide) h fun heq => absurd heq.1 (by decide)]
  exact State.reg_congr (by simp [restoreWaits, legsDiscarded, endScheduled, markCkpt, dropLegs]) _ _

theorem joinDone_pair : (joinDone s).pair = (joined s).pair :=
  have hrestores : (joinRestores s).pair = (joined s).pair := (restoreBegun_pair _ 0).trans (setDies_joined s).2.1
  by simp [joinDone, hrestores]

theorem joinDone_seqr : (joinDone s).seqr.st = .restoring ∧ (joinDone s).seqr.leg = s.pair.partnerLeg := by
  have hseqr : (joinDone s).seqr = (joinRestores s).seqr := by simp [joinDone]
  rw [hseqr]
  exact ⟨(restoreBegun_seqr 0 _).1, (restoreBegun_leg _ 0).trans (congrArg Seqr.leg (setDies_joined s).1)⟩

theorem joinRestores_reg {off : Nat} (h : off < 0x1000) : (joinRestores s).reg U.sys off = s.reg U.sys off :=
  (restoreBegun_sys_reg _ 0 h).trans (State.reg_congr (setDies_joined s).2.2 _ _)

/-- R276: a Relief that is ready joins with its last checkpoint, with its event and its count. -/
theorem resyncJoin_relief {c : Ckpt} (hckpt : lastCkpt s = some c) (hkeeper : isKeeper s = false) (hrole : s.pair.role = .reliefResync)
    (hready : s.pair.joinReady = true) :
    exec .resyncJoin s = .next (joinDone s) := by
  rw [joinDone, joinRestores, ← startRestore_usable ((lastCkpt_joined s).trans hckpt) 0]
  show execResyncJoin s = _
  rw [execResyncJoin, if_neg (by simp [hkeeper]), if_pos ⟨hrole, hready, by simp [hckpt]⟩]
  rfl

/-- A count in a field of 8 bits. -/
theorem fldOf_addCount_self (u off k : Nat) : (s.addCount u off 23 16 k).fldOf u off 23 16 = sat 0xFF (s.fldOf u off 23 16 + k) := by
  rw [State.fldOf, State.addCount, State.reg_setReg_self, fld_putFld_self _ _ (by decide) (Nat.lt_of_le_of_lt (sat_le _ _) (by decide))]
  rfl

theorem joinDone_counted : (joinDone s).bitAt U.sys Off.pairEvents 8 = true
    ∧ (joinDone s).fldOf U.sys Off.pairCount 23 16
      = sat 0xFF (s.fldOf U.sys Off.pairCount 23 16 + 1) := by
  unfold joinDone
  constructor
  · rw [State.bitAt, State.reg_addCount_other _ (by decide) (by decide) (by decide)]
    exact State.bitAt_setEvent_self _ _ _ _ (by decide)
  · rw [fldOf_addCount_self, State.fldOf, State.reg_setEvent_other _ (by decide) (by decide) (by decide), joinRestores_reg s (by decide)]
    rfl

/-- R277: on a Keeper outside a hall the join comes at the next leg boundary. -/
theorem resyncJoin_keeper (hkeeper : isKeeper s = true) (hready : s.pair.joinReady = true) (hjoin : s.pair.joinAt = none)
    (hone : imageOr s (·.modules) ≤ 1) :
    exec .resyncJoin s = .next { s with pair := { s.pair with joinReady := false, resync := .idle, joinAt := some (s.seqr.leg + 1) } } := by
  show execResyncJoin s = _
  rw [execResyncJoin, if_pos hkeeper, if_pos ⟨hready, by simp [hjoin]⟩, joinNow]
  dsimp only
  rw [if_neg (Nat.not_lt.2 hone), askJoin]
  exact congrArg Host.Outcome.next (if_pos hkeeper)

end

/-! ### What a Relief applies (R267) -/

section
variable {s : State} (h : isRelief s = true)
include h

theorem mirror_register_vlv {un off : BitVec 16} {v : Word} {same : Bool} (hclass : unitClass un.toNat = 1) (hoff : off.toNat < 0x1000) :
    ∃ t, exec (.mirror ⟨.register un off v, same⟩) s = .next t ∧ t.reg un.toNat off.toNat = v ∧ ChangesOnly [.regs, .service] s t
      ∧ RegsOnly [(un.toNat, off.toNat)] s t := by
  refine ⟨sendConfig un.toNat (s.setReg un.toNat off.toNat v), ?_, ?_, ?_, ?_⟩
  · rw [mirror_applied h (.inl rfl), mirrorItem_register_vlv s hclass]
  · rw [State.reg_congr (sendConfig_regs ..), State.reg_setReg_self]
  · exact changesOnly_trans (changesOnly_mono (setReg_changesOnly _ _ _ s) (by simp)) (changesOnly_mono (sendConfig_changesOnly _ _) (by simp))
  · exact regsOnly_trans (setReg_regsOnly hoff v s) (regsOnly_of_regs (sendConfig_regs ..))

theorem mirror_inputFrame (f : Nat) (l : List (Nat × InputVal)) (same : Bool) :
    ∃ t, exec (.mirror ⟨.inputFrame f l, same⟩) s = .next t ∧ t.seqr = { s.seqr with inputs := l ++ s.seqr.inputs }
      ∧ (l.all (fun x => match x.2 with | .uplink _ => true | _ => false) = true → ChangesOnly [.seqr] s t) := by
  refine ⟨forwardedReadings l { s with seqr.inputs := l ++ s.seqr.inputs }, mirror_applied h (.inl rfl),
    by simp [forwardedReadings_frame], fun hup => ?_⟩
  rw [forwardedReadings_uplinks _ hup]
  exact with_seqr_changesOnly s _

theorem mirror_checkpoint (leg d ph bl : Nat) (rg : List Nat) (same : Bool) (hrole : s.pair.role ≠ .reliefMirror) :
    ∃ t, exec (.mirror ⟨.checkpoint leg (imageOr s (·.mirrorId)) d ph bl rg, same⟩) s = .next t ∧ ChangesOnly [.pair, .seqr] s t
      ∧ t.seqr = (if s.seqr.lastB then { s.seqr with slotA := keeperCkpt leg (imageOr s (·.mirrorId)) d ph bl rg, lastB := false }
          else { s.seqr with slotB := keeperCkpt leg (imageOr s (·.mirrorId)) d ph bl rg, lastB := true }) := by
  refine ⟨ckptSuperseded s.pair.joinReady (storeCkpt (keeperCkpt leg (imageOr s (·.mirrorId)) d ph bl rg) s), ?_, ?_, ?_⟩
  · rw [mirror_applied h (.inl rfl), mirrorItem_checkpoint, if_pos ⟨rfl, hrole⟩]
  · exact changesOnly_trans (changesOnly_mono (storeCkpt_changesOnly _ s) (by simp)) (changesOnly_mono (ckptSuperseded_changesOnly _ _) (by simp))
  · rw [ckptSuperseded_seqr, storeCkpt_seqr]

theorem mirror_preview (id : BitVec 32) (rk : BitVec 16) (z d l rp : Nat) (same : Bool)
    (hnew : s.broker.previews.any (fun p => decide (p.id = id)) = false) :
    ∃ t, exec (.mirror ⟨.preview id rk z d l rp, same⟩) s = .next t ∧ ChangesOnly [.broker] s t ∧ (∀ r, t.rack r = s.rack r)
      ∧ t.broker.previews = s.broker.previews ++ [{ id := id, racks := rk, start := z, duration := d, load := l, ramp := rp }] := by
  refine ⟨addPreview id rk z d l rp s, (mirror_applied h (.inl rfl)).trans ?_, addPreview_changesOnly id rk z d l rp s, fun _ => rfl, rfl⟩
  exact congrArg Host.Outcome.next (if_neg (by simp [hnew]))

/-- R234: an item of the plant's event state that differs is taken all the same, and the Relief leaves mirroring. -/
theorem mirror_differs_spec {item : MirrorItem} (hitem : plantItem item = true) (hrole : s.pair.role = .reliefMirror) :
    ∃ t, exec (.mirror ⟨item, false⟩) s = .next t ∧ t.pair.role = .reliefResync ∧ t.integ.sweep = true
      ∧ t.bitAt U.hub Off.intEvents 6 = true ∧ t.plant = (mirrorItem item s).plant ∧ t.broker = (mirrorItem item s).broker := by
  have hpair : (mirrorItem item s).pair = s.pair := by
    cases item with
    | plantEvents active holds all prov n => exact (mirrorItem_plantEvents_spec active holds s all prov n).2.2.2.2.2 .pair (by simp)
    | mode | rack => rfl
    | _ => simp [plantItem] at hitem
  obtain ⟨hresync, hsweep, -, hbit, hparts⟩ := mirrorMismatch_spec (mirrorItem item s) (hpair ▸ hrole)
  exact ⟨_, mirror_differs h hitem, hresync, hsweep, hbit, hparts .plant (by simp), hparts .broker (by simp)⟩

end

/-- Settles O40: each item of the mirror by what it leaves, then each phase of the resync, then the join on either module. -/
theorem mirrorAndResync : Obligations.MirrorAndResync := by
  unfold Obligations.MirrorAndResync
  refine ⟨fun s => ⟨fun _ _ => mirror_keeper, fun h => ?items⟩,
    fun s => ⟨fun eq moved ok h => resyncPhaseDone_spec eq moved ok h, ?join, ?keeper⟩⟩
  case items =>
    have happlied := fun {item same} => mirror_applied (item := item) (same := same) h
    refine ⟨mirror_inputFrame h, ?_, ?_, ?_, ?_, ?_, ?_, ?_, ?_, ?_, ?_, ?_, ?_, ?_, ?_, mirror_preview h, ?_, ?_,
      fun _ _ _ _ hclass hoff => mirror_register_vlv h hclass hoff, ?_, ?_, fun item hitem hrole => mirror_differs_spec h hitem hrole,
      mirror_checkpoint h, ?_⟩
    · exact fun ch vs a b same => ⟨_, happlied (.inl rfl), with_pair_changesOnly s _, rfl⟩
    · exact fun id sid q un tag c same => ⟨_, happlied (.inl rfl), with_vcp_changesOnly s _, rfl⟩
    · refine fun id q st same => ⟨_, happlied (.inl rfl), with_vcp_changesOnly s _, fun a ha => ?_, rfl, List.length_map _⟩
      simpa using (List.mem_filter.1 ha).2
    · exact fun id q st c same hnone => ⟨keepReply id q st c s, happlied (.inl rfl), keepReply_changesOnly s id q st c,
        keepReply_keeps s st c hnone, (keepReply_lists id q st c s).2.1⟩
    · exact fun key m same => ⟨_, happlied (.inl rfl), with_vcp_changesOnly s _, mget_mset_self ..⟩
    · exact fun v same => ⟨_, happlied (.inl rfl), rfl, with_broker_changesOnly s _⟩
    · exact fun b same => ⟨_, happlied (.inl rfl), rfl, with_plant_changesOnly s _⟩
    · exact fun v z same => ⟨_, happlied (.inl rfl), with_integ_changesOnly s _, rfl⟩
    · exact fun w same => ⟨_, happlied (.inl rfl), mirrorItem_waiting_spec w s⟩
    · exact fun leg same => ⟨_, happlied (.inl rfl), rfl, with_pair_changesOnly s _⟩
    · exact fun i same => ⟨_, happlied (.inl rfl), rfl⟩
    · exact fun m q f fb co ar iso => ⟨_, happlied (.inr rfl), with_plant_changesOnly s _, rfl⟩
    · refine fun r c => ⟨_, happlied (.inr rfl), with_broker_changesOnly s _, (State.rack_modRack ..).trans (if_pos rfl), fun j hj => ?_⟩
      exact (State.rack_modRack ..).trans (if_neg hj)
    · exact fun act hl all pv n => ⟨_, happlied (.inr rfl), mirrorItem_plantEvents_spec act hl s all pv n⟩
    · exact fun id same => ⟨_, happlied (.inl rfl), cancelPreview_changesOnly id s, fun _ => rfl, rfl⟩
    · intro ty z len q b same hlen
      obtain ⟨⟨r, l, hring, htype, hmir, htime, hlength, hbody⟩, hparts, hregs⟩ :=
        logMirrored_spec s ty hlen z q (if s.pair.slot = .a then .b else .a) b
      exact ⟨_, r, l, happlied (.inl rfl), hring, htype, hmir, htime, hlength, hbody, hparts, hregs⟩
    · exact fun d same => (happlied (.inl rfl)).trans (congrArg Host.Outcome.next (if_pos rfl))
    · intro a b same hne hrole
      exact ⟨_, (happlied (.inl rfl)).trans (congrArg Host.Outcome.next (if_neg hne)), mirrorMismatch_spec s hrole⟩
    · exact fun leg mid d ph bl rg same hrole => (happlied (.inl rfl)).trans (congrArg Host.Outcome.next (if_neg (by simp [hrole])))
  case join =>
    intro c hckpt hkeeper hrole hready
    obtain ⟨hst, hleg⟩ := joinDone_seqr s
    obtain ⟨hbit, hcount⟩ := joinDone_counted s
    have hpair := joinDone_pair s
    exact ⟨joinDone s, resyncJoin_relief s hckpt hkeeper hrole hready, congrArg Pair.role hpair, hleg, hst,
      congrArg Pair.joinReady hpair, hbit, hcount⟩
  case keeper =>
    exact fun hkeeper hready hjoin hone => ⟨_, resyncJoin_keeper s hkeeper hready hjoin hone, rfl, with_pair_changesOnly s _⟩

end Sys2Proof.Machine
end

section
/-! R139 to R144, R147, R153, R154: the rings of the copy engines: what a doorbell, a layout and the end of a copy leave, and which copies start. -/

namespace Sys2Proof.Machine

open Sys2Proof Sys2Proof.Safety

theorem with_copies_changesOnly (s : State) (c : Copies) : ChangesOnly [.copies] s { s with copies := c } := by
  intro q hq
  cases q <;> simp [Part.Same] at hq ⊢

theorem emit_changesOnly (s : State) (o : Out) : ChangesOnly [.outbox] s (s.emit o) := by
  intro q hq
  cases q <;> simp [Part.Same] at hq ⊢

theorem regsOnly_mono {l l' : List (Nat × Nat)} {s t : State} (h : RegsOnly l s t) (hs : l ⊆ l') : RegsOnly l' s t :=
  fun u off ho hl hr => h u off ho (fun hm => hl (hs hm)) hr

/-! ### Rings, heads and tails -/

section
variable (c : Copies) (j k n : Nat) (l : List Copy)

@[simp] theorem Copies.ring_setRing : (c.setRing k l).ring k = l := by
  unfold Copies.ring Copies.setRing
  split_ifs <;> rfl

theorem Copies.ring_setRing_other {j k : Nat} (hj : j < 3) (hk : k < 3) (h : j ≠ k) : (c.setRing k l).ring j = c.ring j := by
  unfold Copies.ring Copies.setRing
  grind

@[simp] theorem Copies.tail_setTail : (c.setTail k n).tail k = n := by
  unfold Copies.tail Copies.setTail
  split_ifs <;> rfl

@[simp] theorem Copies.head_setHead : (c.setHead k n).head k = n := by
  unfold Copies.head Copies.setHead
  split_ifs <;> rfl

@[simp] theorem Copies.ring_setTail : (c.setTail j n).ring k = c.ring k := by
  unfold Copies.setTail
  split_ifs <;> rfl

@[simp] theorem Copies.head_setTail : (c.setTail j n).head k = c.head k := by
  unfold Copies.setTail
  split_ifs <;> rfl

@[simp] theorem Copies.head_setRing : (c.setRing j l).head k = c.head k := by
  unfold Copies.setRing
  split_ifs <;> rfl

@[simp] theorem Copies.tail_setRing : (c.setRing j l).tail k = c.tail k := by
  unfold Copies.setRing
  split_ifs <;> rfl

end

/-! ### Which copies start -/

section
variable {s : State}

/-- CE6 starts nothing: ring 0 is empty, one of its copies runs, or a peer's request waits. -/
theorem serveService_idle (h : s.copies.ring0 = [] ∨ s.copies.ring0.any (·.running) = true ∨ s.copies.incoming ≠ []) (n : Nat) :
    serveService n s = s := by
  cases n with
  | zero => rfl
  | succ n => exact if_pos (by obtain h | h | h := h <;> simp [h])

/-- CE7 starts nothing: it is moving data, or its rings are empty. -/
theorem serveFirmware_idle (h : firmwareBusy s.copies = true ∨ s.copies.ring1 = [] ∧ s.copies.ring2 = []) (n : Nat) : serveFirmware n s = s := by
  cases n with
  | zero => rfl
  | succ n => exact if_pos (by obtain h | ⟨h1, h2⟩ := h <;> simp [*])

theorem startCopies_idle (h0 : s.copies.ring0 = [] ∨ s.copies.ring0.any (·.running) = true ∨ s.copies.incoming ≠ [])
    (h1 : firmwareBusy s.copies = true ∨ s.copies.ring1 = [] ∧ s.copies.ring2 = []) : startCopies s = s := by
  unfold startCopies
  rw [serveService_idle h0]
  exact serveFirmware_idle h1 _

/-- What refuses a descriptor: the image and the sequencer, the dies in force, the gates, the ordinal and the time. -/
theorem copyRefusal_congr {t : State} (hnow : t.now = s.now) (hseqr : t.seqr = s.seqr) (hpower : t.power = s.power) (hdies : t.dies = s.dies)
    (hord : t.fldOf U.sys Off.hallCfg 3 0 = s.fldOf U.sys Off.hallCfg 3 0) (user : Nat) (d : CopyDesc) :
    copyRefusal t user d = copyRefusal s user d := by
  have hphys : physicalOf t = physicalOf s := by
    unfold physicalOf logicalOf State.die
    rw [hdies, hseqr]
  have hgated : memGated t = memGated s := by
    unfold memGated
    rw [hpower, hphys]
  have htime : copyInTime t d = copyInTime s d := by
    unfold copyInTime pathInTime freeShareOf
    rw [hnow, hseqr]
  have hpair : pairRefusal t user d = pairRefusal s user d := by
    unfold pairRefusal idleOnly legsRun firmwareHub imageDram imageOr
    rw [hseqr, hord]
  unfold copyRefusal
  rw [hgated, htime, hpair]

/-- The first copy of a ring of firmware runs on CE7. -/
def firstStarted (k : Nat) (c : Copy) (rest : List Copy) (s : State) : State :=
  { s with copies := { s.copies.setRing k ({ c with running := true } :: rest) with lastRing := k, busy := s.copies.busy ||| 128 } }

section
variable (k : Nat) (c : Copy) (rest : List Copy) (s : State)

theorem firstStarted_ring : (firstStarted k c rest s).copies.ring k = { c with running := true } :: rest := Copies.ring_setRing _ _ _

theorem firstStarted_tail : (firstStarted k c rest s).copies.tail k = s.copies.tail k := Copies.tail_setRing _ _ _ _

theorem firstStarted_changesOnly : ChangesOnly [.copies] s (firstStarted k c rest s) := with_copies_changesOnly s _

end

/-- R139: CE7 starts the head of the one ring of firmware that holds descriptors. -/
theorem startCopies_first {k : Nat} {c : Copy} {rest : List Copy} (hk : k = 1 ∨ k = 2) (h0 : s.copies.ring0 = [])
    (hfree : firmwareBusy s.copies = false) (hring : s.copies.ring k = c :: rest) (hother : s.copies.ring (3 - k) = [])
    (hgo : copyRefusal s (k + 1) c.desc = none) :
    startCopies s = firstStarted k c rest s := by
  have hstop : c.running = false := by
    obtain rfl | rfl := hk
    · have h1 : s.copies.ring1 = c :: rest := hring
      simp only [firmwareBusy, h1, List.any_cons, Bool.or_eq_false_iff] at hfree
      exact hfree.1.1
    · have h2 : s.copies.ring2 = c :: rest := hring
      simp only [firmwareBusy, h2, List.any_cons, Bool.or_eq_false_iff] at hfree
      exact hfree.2.1
  have hnext : nextFirmwareRing s.copies = k := by
    obtain rfl | rfl := hk
    · have h1 : s.copies.ring1 = c :: rest := hring
      have h2 : s.copies.ring2 = [] := hother
      by_cases hl : s.copies.lastRing = 1 <;> simp [nextFirmwareRing, Copies.ring, hl, h1, h2]
    · have h1 : s.copies.ring1 = [] := hother
      have h2 : s.copies.ring2 = c :: rest := hring
      by_cases hl : s.copies.lastRing = 1 <;> simp [nextFirmwareRing, Copies.ring, hl, h1, h2]
  have hstart : startHead k { s with copies.lastRing := k } = firstStarted k c rest s := by
    unfold startHead
    have hhead : ({ s with copies.lastRing := k } : State).copies.ring k = c :: rest := hring
    have hallowed : copyRefusal { s with copies.lastRing := k } (k + 1) c.desc = none :=
      (copyRefusal_congr rfl rfl rfl rfl rfl _ _).trans hgo
    simp only [hhead, hstop, hallowed]
    obtain rfl | rfl := hk <;> rfl
  have hbusy : firmwareBusy (firstStarted k c rest s).copies = true := by
    obtain rfl | rfl := hk <;> simp [firmwareBusy, firstStarted, Copies.setRing]
  have hsome : (firmwareBusy s.copies || (s.copies.ring1.isEmpty && s.copies.ring2.isEmpty)) = false := by
    obtain rfl | rfl := hk
    · have h1 : s.copies.ring1 = c :: rest := hring
      simp [hfree, h1]
    · have h2 : s.copies.ring2 = c :: rest := hring
      simp [hfree, h2]
  unfold startCopies
  rw [serveService_idle (.inl h0)]
  unfold serveFirmware
  simp only [hsome, hnext, hstart, serveFirmware_idle (.inl hbusy)]
  rfl

end

/-! ### Doorbells (R153) -/

/-- Firmware clears the events it has taken. -/
def eventsTaken (clear : Word) (s : State) : State := s.setReg U.hub Off.ceEvents (s.reg U.hub Off.ceEvents &&& ~~~ clear)

/-- The descriptors of a ring, and those that a doorbell adds. -/
def ringHeld (s : State) (k : Nat) : Nat := (s.copies.tail k + ringSize s k - s.copies.head k) % ringSize s k
def ringMore (s : State) (k : Nat) (tail : BitVec 16) : Nat := (tail.toNat % ringSize s k + ringSize s k - s.copies.tail k) % ringSize s k

/-- Descriptors as a ring holds them before they start. -/
def waitingCopies (k : Nat) (l : List CopyDesc) : List Copy := l.map (fun d => { desc := d, ring := k })

/-- A ring with new descriptors up to its TAIL. -/
def ringFilled (k tail : Nat) (l : List CopyDesc) (s : State) : State :=
  { s with copies := (s.copies.setRing k (s.copies.ring k ++ waitingCopies k l)).setTail k tail }

section
variable {k : Nat} (hk : k < 3) (s : State)
include hk

theorem ringSize_setEvents (v : Word) : ringSize (s.setReg U.hub Off.ceEvents v) k = ringSize s k := by
  have hoff : Off.ceRingCtrl + 0x10 * k ≠ Off.ceEvents := show 0x114 + 0x10 * k ≠ 0x104 by omega
  have hlt : Off.ceRingCtrl + 0x10 * k < 0x1000 := show 0x114 + 0x10 * k < 0x1000 by omega
  unfold ringSize State.fldOf
  rw [State.reg_setReg_other s v (by decide) hlt fun h => hoff h.2]

end

section
variable {s : State} {ring : Fin 3} {tail : BitVec 16} {descs : List CopyDesc} {clear : Word}

/-- A doorbell without room adds nothing. -/
theorem ceRingTail_overrun (h : ringSize s ring.val ≤ ringHeld s ring.val + ringMore s ring.val tail) :
    exec (.ceRingTail ring tail ⟨descs, clear⟩) s = .next ((eventsTaken clear s).setEvent U.hub Off.ceEvents 4) := by
  have hn := ringSize_setEvents ring.isLt s (s.reg U.hub Off.ceEvents &&& ~~~ clear)
  show execCeRingTail ring tail ⟨descs, clear⟩ s = _
  simp only [execCeRingTail, hn]
  exact if_pos h

/-- A doorbell with room adds its descriptors, and what may start does. -/
theorem ceRingTail_fills (h : ringHeld s ring.val + ringMore s ring.val tail < ringSize s ring.val) :
    exec (.ceRingTail ring tail ⟨descs, clear⟩) s = .next (startCopies
      (ringFilled ring.val (tail.toNat % ringSize s ring.val) (descs.take (ringMore s ring.val tail)) (eventsTaken clear s))) := by
  have hn := ringSize_setEvents ring.isLt s (s.reg U.hub Off.ceEvents &&& ~~~ clear)
  show execCeRingTail ring tail ⟨descs, clear⟩ s = _
  simp only [execCeRingTail, hn]
  exact if_neg (Nat.not_le.2 h)

theorem eventsTaken_events : (eventsTaken clear s).reg U.hub Off.ceEvents = s.reg U.hub Off.ceEvents &&& ~~~ clear := State.reg_setReg_self ..

theorem eventsTaken_refusal (user : Nat) (d : CopyDesc) : copyRefusal (eventsTaken clear s) user d = copyRefusal s user d := by
  have hord : (eventsTaken clear s).reg U.sys Off.hallCfg = s.reg U.sys Off.hallCfg :=
    State.reg_setReg_other s _ (by decide) (by decide) (by decide)
  exact copyRefusal_congr (s := s) (t := eventsTaken clear s) rfl rfl rfl rfl (congrArg (fld · 3 0) hord) user d

theorem eventsTaken_changesOnly : ChangesOnly [.regs] s (eventsTaken clear s) := setReg_changesOnly _ _ _ s

theorem eventsTaken_regsOnly : RegsOnly [(U.hub, Off.ceEvents)] s (eventsTaken clear s) := setReg_regsOnly (by decide) _ s

end

/-! #### What starts after a doorbell -/

section
variable {s : State} {k tail : Nat} {l : List CopyDesc} (hk : k < 3)
include hk

theorem ringFilled_other {j : Nat} (hj : j < 3) (h : j ≠ k) : (ringFilled k tail l s).copies.ring j = s.copies.ring j :=
  (Copies.ring_setTail _ _ _ _).trans (Copies.ring_setRing_other _ _ hj hk h)

omit hk in
theorem ringFilled_self : (ringFilled k tail l s).copies.ring k = s.copies.ring k ++ waitingCopies k l :=
  (Copies.ring_setTail _ _ _ _).trans (Copies.ring_setRing _ _ _)

omit hk in
theorem ringFilled_head : (ringFilled k tail l s).copies.head k = s.copies.head k :=
  (Copies.head_setTail _ _ _ _).trans (Copies.head_setRing _ _ _ _)

omit hk in
theorem ringFilled_tail : (ringFilled k tail l s).copies.tail k = tail := Copies.tail_setTail _ _ _

omit hk in
theorem ringFilled_busy : (ringFilled k tail l s).copies.busy = s.copies.busy := by
  unfold ringFilled Copies.setTail Copies.setRing
  split_ifs <;> rfl

/-- New descriptors wait. -/
theorem ringFilled_running {j : Nat} (hj : j < 3) :
    ((ringFilled k tail l s).copies.ring j).any (·.running) = (s.copies.ring j).any (·.running) := by
  by_cases h : j = k
  · subst h
    simp [ringFilled_self, waitingCopies]
  · rw [ringFilled_other hk hj h]

theorem ringFilled_firmwareBusy : firmwareBusy (ringFilled k tail l s).copies = firmwareBusy s.copies :=
  congrArg₂ or (ringFilled_running hk (j := 1) (by decide)) (ringFilled_running hk (j := 2) (by decide))

/-- While both engines are busy, new descriptors wait. -/
theorem ringFilled_idle (hbusy : firmwareBusy s.copies = true) (h0 : s.copies.ring0.any (·.running) = true) :
    startCopies (ringFilled k tail l s) = ringFilled k tail l s :=
  startCopies_idle (.inr (.inl ((ringFilled_running hk (j := 0) (by decide)).trans h0))) (.inl ((ringFilled_firmwareBusy hk).trans hbusy))

/-- Where nothing else waits, the first of the new descriptors starts. -/
theorem ringFilled_starts {d : CopyDesc} {rest : List CopyDesc} (h0 : k ≠ 0) (hempty : ∀ j, s.copies.ring j = [])
    (hgo : copyRefusal s (k + 1) d = none) :
    startCopies (ringFilled k tail (d :: rest) s)
      = firstStarted k { desc := d, ring := k } (waitingCopies k rest) (ringFilled k tail (d :: rest) s) := by
  have hfree : firmwareBusy s.copies = false := by
    have h1 : s.copies.ring1 = [] := hempty 1
    have h2 : s.copies.ring2 = [] := hempty 2
    simp [firmwareBusy, h1, h2]
  have hempty' : ∀ j, j < 3 → j ≠ k → (ringFilled k tail (d :: rest) s).copies.ring j = [] :=
    fun j hj h => (ringFilled_other hk hj h).trans (hempty j)
  refine startCopies_first (by omega) (hempty' 0 (by decide) (Ne.symm h0)) ((ringFilled_firmwareBusy hk).trans hfree) ?_
    (hempty' (3 - k) (by omega) (by omega)) ((copyRefusal_congr rfl rfl rfl rfl rfl _ _).trans hgo)
  rw [ringFilled_self, hempty]
  rfl

end

/-! ### The layout of a ring (R154) -/

section
variable {s : State} {ring : Fin 3} {base size : Word}

/-- Table 5-25, R154: a base and a size that a ring may have. -/
def LayoutOk (base size : Word) : Prop :=
  base.toNat % 64 = 0 ∧ 0x3800000 ≤ base.toNat ∧ base.toNat + 64 * size.toNat ≤ 0x3C00000 ∧ ringSizeOk size.toNat = true

theorem not_layoutOk_iff : ¬ LayoutOk base size
    ↔ base.toNat % 64 ≠ 0 ∨ base.toNat < 0x3800000 ∨ 0x3C00000 < base.toNat + 64 * size.toNat ∨ (!ringSizeOk size.toNat) = true := by
  simp only [LayoutOk, not_and_or, Nat.not_le, Bool.not_eq_true, Bool.not_eq_true']

/-- A layout written: the base and the size, HEAD and TAIL modulo the size. -/
def layoutWritten (k : Nat) (base size : Word) (s : State) : State :=
  { (s.setReg U.hub (Off.ceRingBase + 0x10 * k) base).setReg U.hub (Off.ceRingCtrl + 0x10 * k) size with
    copies := (s.copies.setHead k (s.copies.head k % size.toNat)).setTail k (s.copies.tail k % size.toNat) }

theorem ceRingLayoutWrite_ok (he : s.copies.head ring.val = s.copies.tail ring.val) (hok : LayoutOk base size) :
    exec (.ceRingLayoutWrite ring (some base) (some size)) s = .next ((layoutWritten ring.val base size s).emit (.ringLayout ring .ok)) := by
  show execCeRingLayoutWrite ring (some base) (some size) s = _
  unfold execCeRingLayoutWrite
  exact (if_neg (not_not_intro he)).trans (if_neg (mt not_layoutOk_iff.2 (not_not_intro hok)))

theorem ceRingLayoutWrite_refused (hbad : s.copies.head ring.val ≠ s.copies.tail ring.val ∨ ¬ LayoutOk base size) :
    exec (.ceRingLayoutWrite ring (some base) (some size)) s
      = .next (s.emit (.ringLayout ring (if s.copies.head ring.val ≠ s.copies.tail ring.val then .busy else .badParam))) := by
  show execCeRingLayoutWrite ring (some base) (some size) s = _
  unfold execCeRingLayoutWrite
  by_cases he : s.copies.head ring.val = s.copies.tail ring.val
  · have hst : (if s.copies.head ring.val ≠ s.copies.tail ring.val then Status.busy else .badParam) = .badParam := if_neg (not_not_intro he)
    have hlayout : ¬ LayoutOk base size := hbad.resolve_left (not_not_intro he)
    rw [hst]
    exact (if_neg (not_not_intro he)).trans (if_pos (not_layoutOk_iff.1 hlayout))
  · have hst : (if s.copies.head ring.val ≠ s.copies.tail ring.val then Status.busy else .badParam) = .busy := if_pos he
    rw [hst]
    exact if_pos he

section
variable {k : Nat} (hk : k < 3)
include hk

theorem layoutWritten_base : (layoutWritten k base size s).reg U.hub (Off.ceRingBase + 0x10 * k) = base := by
  have hlt : Off.ceRingBase + 0x10 * k < 0x1000 := show 0x110 + 0x10 * k < 0x1000 by omega
  have hlt' : Off.ceRingCtrl + 0x10 * k < 0x1000 := show 0x114 + 0x10 * k < 0x1000 by omega
  have hne : Off.ceRingBase + 0x10 * k ≠ Off.ceRingCtrl + 0x10 * k := show 0x110 + 0x10 * k ≠ 0x114 + 0x10 * k by omega
  exact (State.reg_setReg_other _ size hlt' hlt fun h => hne h.2).trans (State.reg_setReg_self ..)

theorem layoutWritten_regsOnly : RegsOnly [(U.hub, Off.ceRingBase + 0x10 * k), (U.hub, Off.ceRingCtrl + 0x10 * k)] s (layoutWritten k base size s) := by
  have hlt : Off.ceRingBase + 0x10 * k < 0x1000 := show 0x110 + 0x10 * k < 0x1000 by omega
  have hlt' : Off.ceRingCtrl + 0x10 * k < 0x1000 := show 0x114 + 0x10 * k < 0x1000 by omega
  exact regsOnly_trans (regsOnly_mono (setReg_regsOnly hlt base s) (by simp)) (regsOnly_mono (setReg_regsOnly hlt' size _) (by simp))

end

theorem layoutWritten_head (k : Nat) : (layoutWritten k base size s).copies.head k = s.copies.head k % size.toNat :=
  (Copies.head_setTail _ _ _ _).trans (Copies.head_setHead _ _ _)

theorem layoutWritten_tail (k : Nat) : (layoutWritten k base size s).copies.tail k = s.copies.tail k % size.toNat := Copies.tail_setTail _ _ _

theorem layoutWritten_changesOnly (k : Nat) : ChangesOnly [.copies, .regs] s (layoutWritten k base size s) := by
  intro p hp
  cases p <;> simp [Part.Same, layoutWritten] at hp ⊢

end

/-! ### The end of a copy (R140, R146, R147) -/

section
variable (ring : Nat) (d : CopyDesc) (s : State)

theorem copyEvent_events_completed : (copyEvent ring d .completed s).reg U.hub Off.ceEvents
    = if d.notify then orBit (s.reg U.hub Off.ceEvents) 0 else s.reg U.hub Off.ceEvents := by
  unfold copyEvent
  cases d.notify with
  | false => rfl
  | true =>
    dsimp only
    have hset : (s.setEvent U.hub Off.ceEvents 0).reg U.hub Off.ceEvents = orBit (s.reg U.hub Off.ceEvents) 0 := State.reg_setReg_self ..
    rw [if_neg (by decide), if_pos rfl]
    split
    · exact (State.reg_addCount_other _ (by decide) (by decide) (by decide)).trans hset
    · exact hset

theorem copyEvent_regsOnly (st : Status) : RegsOnly [(U.hub, Off.ceEvents), (U.hub, Off.ceMerge)] s (copyEvent ring d st s) := by
  have hbit : ∀ n, RegsOnly [(U.hub, Off.ceEvents), (U.hub, Off.ceMerge)] s (s.setEvent U.hub Off.ceEvents n) :=
    fun n => regsOnly_mono (setEvent_regsOnly (by decide) n s) (by simp)
  have hcount : ∀ hi lo (a : State), RegsOnly [(U.hub, Off.ceEvents), (U.hub, Off.ceMerge)] a (a.addCount U.hub Off.ceMerge hi lo 1) :=
    fun hi lo a => regsOnly_mono (setReg_regsOnly (by decide) _ a) (by simp)
  unfold copyEvent
  split
  next =>
    split
    · exact regsOnly_refl _ s
    · dsimp only
      split
      · exact regsOnly_trans (hbit 0) (hcount _ _ _)
      · exact hbit 0
  next => exact hbit 1
  next => exact hbit 1
  next => exact hbit 2
  next => exact hbit 3
  next => exact regsOnly_refl _ s

theorem copyEvent_changesOnly (st : Status) : ChangesOnly [.regs] s (copyEvent ring d st s) := by
  intro p hp
  cases p <;> simp [Part.Same, copyEvent_frame] at hp ⊢

end

/-! #### Scheduled copies (R142) -/

/-- The end of a scheduled copy is counted for no ring. -/
theorem copyEvent_sched_completed (d : CopyDesc) (s : State) :
    copyEvent 3 d .completed s = if d.notify then s.setEvent U.hub Off.ceEvents 0 else s := by
  unfold copyEvent
  cases d.notify with
  | false => rfl
  | true => rfl

theorem copyEvent_sched_regsOnly (d : CopyDesc) (s : State) : RegsOnly [(U.hub, Off.ceEvents)] s (copyEvent 3 d .completed s) := by
  rw [copyEvent_sched_completed]
  split
  · exact setEvent_regsOnly (by decide) _ s
  · exact regsOnly_refl _ s

/-- The state after the end of a scheduled copy is written back. -/
def schedEnded (d : CopyDesc) (rest : List (Nat × CopyDesc × Time)) (st : Status) (bytes digest : Nat) (s : State) : State :=
  { s with copies := { s.copies with sched := rest, ended := copyEndOf 3 d st bytes digest s :: s.copies.ended } }

section
variable {s : State} {ce : Fin 8} {bytes digest : Nat} {d : CopyDesc} {rest : List (Nat × CopyDesc × Time)}
  (htake : takeSched ce.val s.now s.copies.sched = some (d, rest)) (hce : ce.val < 6)
include htake hce

theorem copyComplete_sched_completed :
    exec (.copyComplete ce .completed bytes digest) s = .next (copyEvent 3 d .completed (schedEnded d rest .completed bytes digest s)) := by
  show execCopyComplete ce .completed bytes digest s = _
  unfold execCopyComplete endSched
  rw [if_pos hce, htake]
  rfl

theorem copyComplete_sched_faulted :
    exec (.copyComplete ce .faulted bytes digest) s = .next (poisonLeg (pathOf (memOf d.src) (memOf d.dst))
      ((schedEnded d rest .faulted bytes digest s).setEvent U.hub Off.ceEvents 3)) := by
  show execCopyComplete ce .faulted bytes digest s = _
  unfold execCopyComplete endSched
  rw [if_pos hce, htake]
  rfl

end

theorem poisonLeg_changesOnly (path : Nat) (s : State) : ChangesOnly [.seqr] s (poisonLeg path s) := with_seqr_changesOnly s _

/-- R146: the leg in progress fails by parity. -/
theorem poisonLeg_fails (path : Nat) (s : State) (r : LegRec) (hr : r ∈ (poisonLeg path s).seqr.legs) (hleg : r.leg = s.seqr.leg)
    (hkept : r.dropped = false) : r.fail &&& 0x20#6 = 0x20#6 := by
  have hbit : ∀ f : BitVec 6, (f ||| 0x20#6) &&& 0x20#6 = 0x20#6 := by decide
  obtain ⟨q, -, rfl⟩ := List.mem_map.1 hr
  by_cases hq : q.leg = s.seqr.leg ∧ (!q.dropped) = true
  · rw [if_pos hq]
    exact hbit q.fail
  · rw [if_neg hq] at hleg hkept
    exact absurd ⟨hleg, by simp [hkept]⟩ hq

/-! #### Copies of CE6 (R140) -/

/-- A copy that did not fail by a fault ends as its status says, and the engine takes the next one. -/
theorem endOn_of_ne_faulted {st : Status} (h : st ≠ .faulted) (k bytes digest : Nat) (s : State) :
    endOn k st bytes digest s = startCopies (endRunning k st bytes digest s) := by
  unfold endOn
  cases runningDesc k s with
  | none => rfl
  | some d => simp only [if_neg h]

theorem closeBulk_none {s : State} (h : s.hall.bulks = []) (d : CopyDesc) (st : Status) (bytes : Nat) : closeBulk d st bytes s = s := by
  simp [closeBulk, h]

/-- The last copy of ring 0 completes, and CE6 is left without work. -/
def serviceEnded (c : Copy) (bytes digest : Nat) (s : State) : State :=
  setBusy 6 false (endCopy 0 c.desc .completed bytes digest [] s)

section
variable {s : State} {c : Copy} {bytes digest : Nat}

theorem serviceEnded_copies : (serviceEnded c bytes digest s).copies = { s.copies with
    ring0 := [], head0 := (s.copies.head0 + 1) % ringSize s 0, busy := s.copies.busy &&& ~~~ BitVec.ofNat 8 (2 ^ 6),
    ended := copyEndOf 0 c.desc .completed bytes digest s :: s.copies.ended } := by
  simp only [serviceEnded, setBusy, endCopy, copyEvent_frame]
  rfl

theorem serviceEnded_events (hn : c.desc.notify = true) :
    (serviceEnded c bytes digest s).reg U.hub Off.ceEvents = orBit (s.reg U.hub Off.ceEvents) 0 :=
  (copyEvent_events_completed 0 c.desc _).trans (if_pos hn)

theorem serviceEnded_regsOnly : RegsOnly [(U.hub, Off.ceEvents), (U.hub, Off.ceMerge)] s (serviceEnded c bytes digest s) :=
  copyEvent_regsOnly 0 c.desc _ .completed

theorem serviceEnded_changesOnly : ChangesOnly [.copies, .regs] s (serviceEnded c bytes digest s) := by
  intro p hp
  cases p <;> simp [Part.Same, serviceEnded, setBusy_frame, endCopy_frame] at hp ⊢

theorem copyComplete_service (hring : s.copies.ring0 = [c]) (hrun : c.running = true)
    (hbulks : s.hall.bulks = []) (h1 : s.copies.ring1 = []) (h2 : s.copies.ring2 = []) :
    exec (.copyComplete 6 .completed bytes digest) s = .next (serviceEnded c bytes digest s) := by
  have hruns : s.copies.ring0.any (·.running) = true := by simp [hring, hrun]
  have hhead : s.copies.ring 0 = [c] := hring
  have hend : endRunning 0 .completed bytes digest s = serviceEnded c bytes digest s := by
    unfold endRunning
    simp only [hhead, if_pos hrun]
    exact closeBulk_none (by simp [setBusy_frame, endCopy_frame, hbulks]) _ _ _
  have hidle : startCopies (serviceEnded c bytes digest s) = serviceEnded c bytes digest s :=
    startCopies_idle (.inl (by rw [serviceEnded_copies])) (.inr (by rw [serviceEnded_copies]; exact ⟨h1, h2⟩))
  show execCopyComplete 6 .completed bytes digest s = _
  unfold execCopyComplete
  rw [if_neg (by decide), if_pos (by decide), if_pos hruns, endOn_of_ne_faulted (by decide), hend, hidle]

end

end Sys2Proof.Machine
end

section
/-! R139, R144, R145: what the engines leave when they take their next copies; and the aborts of copies. -/

namespace Sys2Proof.Machine

open Sys2Proof Sys2Proof.Safety

/-! ### Taking the next copies -/

/-- What has been written back stays, no event of the copy engines clears, and only their events and merged counts change among the registers. -/
structure CopiesGoOn (s t : State) : Prop where
  ended : s.copies.ended <:+ t.copies.ended
  events : ∀ i, s.bitAt U.hub Off.ceEvents i = true → t.bitAt U.hub Off.ceEvents i = true
  regs : RegsOnly [(U.hub, Off.ceEvents), (U.hub, Off.ceMerge)] s t

namespace CopiesGoOn

theorem refl (s : State) : CopiesGoOn s s := ⟨List.suffix_refl _, fun _ => id, regsOnly_refl _ s⟩

theorem trans {s t u : State} (h : CopiesGoOn s t) (k : CopiesGoOn t u) : CopiesGoOn s u :=
  ⟨h.ended.trans k.ended, fun i hi => k.events i (h.events i hi), regsOnly_trans h.regs k.regs⟩

theorem of_regs {s t : State} (he : s.copies.ended <:+ t.copies.ended) (hr : t.regs = s.regs) : CopiesGoOn s t :=
  ⟨he, fun i hi => by rw [State.bitAt, State.reg_congr hr]; exact hi, regsOnly_of_regs hr⟩

end CopiesGoOn

theorem copyEvent_bitAt_mono (ring : Nat) (d : CopyDesc) (st : Status) {s : State} {i : Nat} (h : s.bitAt U.hub Off.ceEvents i = true) :
    (copyEvent ring d st s).bitAt U.hub Off.ceEvents i = true := by
  have hset : ∀ n, n < 32 → (s.setEvent U.hub Off.ceEvents n).bitAt U.hub Off.ceEvents i = true := fun n hn => State.bitAt_setEvent_mono s hn h
  by_cases hst : st = .completed
  · subst hst
    rw [State.bitAt, copyEvent_events_completed]
    split
    · rw [bitOf_orBit _ (by decide)]
      exact Bool.or_eq_true_iff.2 (.inr h)
    · exact h
  · unfold copyEvent
    split
    next => exact absurd rfl hst
    next => exact hset 1 (by decide)
    next => exact hset 1 (by decide)
    next => exact hset 2 (by decide)
    next => exact hset 3 (by decide)
    next => exact h

section
variable (s : State)

/-- A copy that ends is the newest one written back. -/
theorem endCopy_ended (k : Nat) (d : CopyDesc) (st : Status) (bytes digest : Nat) (rest : List Copy) :
    (endCopy k d st bytes digest rest s).copies.ended = copyEndOf k d st bytes digest s :: s.copies.ended := by
  have hrings : ∀ c : Copies, ((c.setRing k rest).setHead k ((c.head k + 1) % ringSize s k)).ended = c.ended := fun c => by
    unfold Copies.setHead Copies.setRing
    split_ifs <;> rfl
  unfold endCopy
  simp only [copyEvent_frame]
  split <;> simp [hrings]

theorem endCopy_changesOnly (k : Nat) (d : CopyDesc) (st : Status) (bytes digest : Nat) (rest : List Copy) :
    ChangesOnly [.copies, .regs] s (endCopy k d st bytes digest rest s) := by
  intro p hp
  cases p <;> simp [Part.Same, endCopy_frame] at hp ⊢

theorem endCopy_goesOn (k : Nat) (d : CopyDesc) (st : Status) (bytes digest : Nat) (rest : List Copy) :
    CopiesGoOn s (endCopy k d st bytes digest rest s) :=
  ⟨by rw [endCopy_ended]; exact List.suffix_cons _ _, fun _ hi => copyEvent_bitAt_mono k d st hi, copyEvent_regsOnly k d _ st⟩

theorem setBusy_goesOn (e : Nat) (on : Bool) : CopiesGoOn s (setBusy e on s) := .of_regs (List.suffix_refl _) rfl

theorem openBulk_goesOn (d : CopyDesc) : CopiesGoOn s (openBulk d s) :=
  .of_regs (by simp [openBulk_frame]) (by simp [openBulk_frame])

theorem closeBulk_goesOn (d : CopyDesc) (st : Status) (bytes : Nat) : CopiesGoOn s (closeBulk d st bytes s) :=
  .of_regs (by simp [closeBulk_frame]) (by simp [closeBulk_frame])

theorem copies_goesOn {c : Copies} (hc : c.ended = s.copies.ended) : CopiesGoOn s { s with copies := c } :=
  .of_regs ⟨[], hc.symm⟩ rfl

theorem startHead_goesOn (k : Nat) : CopiesGoOn s (startHead k s) := by
  have hset : ∀ l, (s.copies.setRing k l).ended = s.copies.ended := fun l => by
    unfold Copies.setRing
    split_ifs <;> rfl
  unfold startHead
  split
  next => exact .refl s
  next c rest hring =>
    split
    · exact .refl s
    · split
      next st _ => exact endCopy_goesOn s k c.desc st 0 0 rest
      next =>
        have hrun := (copies_goesOn s (hset ({ c with running := true } :: rest))).trans (setBusy_goesOn _ (ringEngine k) true)
        dsimp only
        split
        · exact hrun.trans (openBulk_goesOn _ c.desc)
        · exact hrun

theorem serveService_goesOn (fuel : Nat) : CopiesGoOn s (serveService fuel s) := by
  induction fuel generalizing s with
  | zero => exact .refl s
  | succ n ih =>
    unfold serveService
    split
    · exact .refl s
    · exact (startHead_goesOn s 0).trans (ih _)

theorem serveFirmware_goesOn (fuel : Nat) : CopiesGoOn s (serveFirmware fuel s) := by
  induction fuel generalizing s with
  | zero => exact .refl s
  | succ n ih =>
    unfold serveFirmware
    split
    · exact .refl s
    · have hserve : CopiesGoOn s { s with copies.lastRing := nextFirmwareRing s.copies } := copies_goesOn s rfl
      exact (hserve.trans (startHead_goesOn _ _)).trans (ih _)

theorem startCopies_goesOn : CopiesGoOn s (startCopies s) := (serveService_goesOn s _).trans (serveFirmware_goesOn _ _)

theorem startCopies_changesOnly : ChangesOnly [.copies, .hall, .links, .outbox, .regs] s (startCopies s) := by
  have hfw : (startCopies s).fw = s.fw := (serveFirmware_fw _ _).trans (serveService_fw _ s)
  intro p hp
  cases p <;> simp [Part.Same, startCopies_frame, hfw] at hp ⊢

end

/-! ### ABORT of a copy (R145) -/

section
variable {h : Hdr} {ring : BitVec 8} {tag : BitVec 16} {e : Session} {s : State} (hs : Served (opAbortCopy h) h e s)
include hs

/-- An abort that names no copy is refused. -/
theorem abortCopy_refused (hno : 2 < ring.toNat ∨ (takeCopy tag (s.copies.ring ring.toNat)).isSome = false
      ∧ completedIn ring.toNat tag (s.now / 50000) s = false) :
    ∃ t, exec (.abortCopy h ring tag) s = .next t ∧ Answers h .badParam 0 [] s t ∧ ChangesOnly [.outbox, .regs, .vcp] s t ∧ RegsOnly [] s t := by
  have hask : abortCopyAsk h ring.toNat tag (touch h e.id s) = .refuse .badParam 0 := by
    unfold abortCopyAsk
    obtain hring | ⟨htake, hdone⟩ := hno
    · exact if_pos hring
    · by_cases hring : 2 < ring.toNat
      · exact if_pos hring
      · have hnone : ((takeCopy tag (s.copies.ring ring.toNat)).isSome || completedIn ring.toNat tag (s.now / 50000) s) = false := by
          rw [htake, hdone]
          rfl
        exact (if_neg hring).trans (if_neg (Bool.eq_false_iff.1 hnone))
  exact ⟨_, rfl, vcp_refuse_spec (body := fun _ s => abortCopyAsk h ring.toNat tag s) rfl hs hask⟩

/-- An abort of a copy of its ring waits for the end of its frame. -/
theorem abortCopy_waits (hring : ring.toNat ≤ 2) (htake : (takeCopy tag (s.copies.ring ring.toNat)).isSome = true) :
    exec (.abortCopy h ring tag) s
      = .next { touch h e.id s with copies.aborts := s.copies.aborts ++ [(h, ring.toNat, tag)] } := by
  have hask : abortCopyAsk h ring.toNat tag (touch h e.id s)
      = .wait { touch h e.id s with copies.aborts := s.copies.aborts ++ [(h, ring.toNat, tag)] } := by
    unfold abortCopyAsk
    have hsome : ((takeCopy tag (s.copies.ring ring.toNat)).isSome || completedIn ring.toNat tag (s.now / 50000) s) = true := by
      rw [htake]
      rfl
    exact (if_neg (Nat.not_lt.2 hring)).trans (if_pos hsome)
  exact congrArg Host.Outcome.next (vcp_wait (body := fun _ s => abortCopyAsk h ring.toNat tag s) rfl hs hask)

end

/-- The aborts that waited are taken at the end of their frame. -/
def abortsTaken (s : State) : State := { s with copies.aborts := [] }

section
variable {h : Hdr} {ring : Nat} {tag : BitVec 16} {e : Session} {s : State} {frame : Nat}
  (hask : s.copies.aborts = [(h, ring, tag)]) (hs : ServedLate (opAbortCopy h) h e (abortsTaken s))
include hask hs

theorem judgeAborts_one : judgeAborts frame s = settle (opAbortCopy h) h e (abortCopyAnswer ring tag frame (abortsTaken s)) (abortsTaken s) := by
  unfold judgeAborts
  rw [hask]
  exact vcpLate_served hs _

/-- A completion in the frame wins. -/
theorem judgeAborts_completed (hdone : completedIn ring tag frame s = true) :
    judgeAborts frame s = finish (opAbortCopy h) h e.identity .alreadyComplete 0 0 [] (abortsTaken s) := by
  have hans : abortCopyAnswer ring tag frame (abortsTaken s) = .status .alreadyComplete 0 [] (abortsTaken s) := if_pos hdone
  rw [judgeAborts_one hask hs, hans]
  rfl

/-- A queued copy ends DENIED, and the engines go on. -/
def copyDenied (ring : Nat) (c : Copy) (rest : List Copy) (s : State) : State :=
  startCopies (endCopy ring c.desc .denied 0 0 rest (abortsTaken s))

omit hask hs in
/-- What the engines do next takes back neither the end of the copy nor its event. -/
theorem copyDenied_spec (ring : Nat) (c : Copy) (rest : List Copy) (s : State) :
    copyEndOf ring c.desc .denied 0 0 s :: s.copies.ended <:+ (copyDenied ring c rest s).copies.ended
      ∧ s.outbox <:+ (copyDenied ring c rest s).outbox ∧ (copyDenied ring c rest s).bitAt U.hub Off.ceEvents 1 = true
      ∧ ChangesOnly [.copies, .hall, .links, .outbox, .regs] s (copyDenied ring c rest s) := by
  have hend := endCopy_ended (abortsTaken s) ring c.desc .denied 0 0 rest
  have hnext := startCopies_goesOn (endCopy ring c.desc .denied 0 0 rest (abortsTaken s))
  have hout : (endCopy ring c.desc .denied 0 0 rest (abortsTaken s)).outbox = s.outbox := by simp [endCopy_frame, abortsTaken]
  refine ⟨hend ▸ hnext.ended, startCopies_sent (hout ▸ List.suffix_refl _), hnext.events 1 (State.bitAt_setEvent_self _ _ _ _ (by decide)), ?_⟩
  exact changesOnly_trans (changesOnly_mono (with_copies_changesOnly s _) (by simp)) (changesOnly_trans
    (changesOnly_mono (endCopy_changesOnly _ _ _ _ _ _ _) (by simp)) (startCopies_changesOnly _))

theorem judgeAborts_queued {c : Copy} {rest : List Copy} (htake : takeCopy tag (s.copies.ring ring) = some (c, rest))
    (hnot : completedIn ring tag frame s = false) (hrun : c.running = false) (hd : deadlineMissed h s.now s.now = false) :
    judgeAborts frame s = finish (opAbortCopy h) h e.identity .ok 0 s.now [] (copyDenied ring c rest s) := by
  have htake' : takeCopy tag ((abortsTaken s).copies.ring ring) = some (c, rest) := htake
  have hans : abortCopyAnswer ring tag frame (abortsTaken s) = .done s.now [] (copyDenied ring c rest s) := by
    have hnot' : completedIn ring tag frame (abortsTaken s) = false := hnot
    unfold abortCopyAnswer
    simp only [hnot', htake', hrun]
    rfl
  rw [judgeAborts_one hask hs, hans]
  exact settle_done (s := abortsTaken s) hd _ _

end

/-- Settles O29: a doorbell by the room it finds and what may start, a layout by its conditions, the end of a copy by its engine, and an abort by
what its ring holds when it arrives and at the end of its frame. -/
theorem copyRings : Obligations.CopyRings := by
  unfold Obligations.CopyRings
  refine fun s => ⟨?doorbell, ?layout, ?scheduled, ?service, ?peer, ?abort, ?judged⟩
  case doorbell =>
    intro ring tail descs clear k n kept held more
    have hk : k < 3 := ring.isLt
    have htaken : ChangesOnly [.copies, .regs] s (eventsTaken clear s) := changesOnly_mono eventsTaken_changesOnly (by simp)
    have hfilled : ∀ l, ChangesOnly [.copies, .regs] s (ringFilled k (tail.toNat % n) l (eventsTaken clear s)) :=
      fun l => changesOnly_trans htaken (changesOnly_mono (with_copies_changesOnly _ _) (by simp))
    refine ⟨fun hfull => ?_, fun hroom hbusy h0 _ => ?_, fun d rest htake hroom hne h0 h1 h2 hgo => ?_⟩
    · refine ⟨_, ceRingTail_overrun hfull, ?_, changesOnly_trans eventsTaken_changesOnly (setEvent_changesOnly _ _ _ _),
        regsOnly_trans eventsTaken_regsOnly (setEvent_regsOnly (by decide) _ _)⟩
      exact (State.reg_setReg_self ..).trans (congrArg (orBit · 4) eventsTaken_events)
    · have hidle := ringFilled_idle (s := eventsTaken clear s) (tail := tail.toNat % n) (l := descs.take more) hk hbusy h0
      exact ⟨_, (ceRingTail_fills hroom).trans (congrArg Host.Outcome.next hidle), ringFilled_self, ringFilled_tail, ringFilled_head,
        eventsTaken_events, hfilled _, eventsTaken_regsOnly⟩
    · have hempty : ∀ j, (eventsTaken clear s).copies.ring j = [] := fun j => by
        show s.copies.ring j = []
        unfold Copies.ring
        split_ifs <;> assumption
      have hallowed : copyRefusal (eventsTaken clear s) (k + 1) d = none := (eventsTaken_refusal _ _).trans hgo
      have hstart := ringFilled_starts (tail := tail.toNat % n) (rest := rest) hk hne hempty hallowed
      rw [← htake] at hstart
      exact ⟨_, (ceRingTail_fills hroom).trans (congrArg Host.Outcome.next hstart), firstStarted_ring .., congrArg (· ||| 128) ringFilled_busy, rfl,
        (firstStarted_tail ..).trans ringFilled_tail, eventsTaken_events,
        changesOnly_trans (hfilled _) (changesOnly_mono (firstStarted_changesOnly _ _ _ _) (by simp)), eventsTaken_regsOnly⟩
  case layout =>
    intro ring base size k ok
    have hk : k < 3 := ring.isLt
    refine ⟨fun he hok => ?_, fun hbad => ?_⟩
    · refine ⟨_, ceRingLayoutWrite_ok he hok, layoutWritten_base hk, State.reg_setReg_self .., layoutWritten_head (base := base) k, layoutWritten_tail (base := base) k, rfl, ?_,
        regsOnly_trans (layoutWritten_regsOnly hk) (regsOnly_of_regs rfl)⟩
      exact changesOnly_trans (changesOnly_mono (layoutWritten_changesOnly k) (by simp)) (changesOnly_mono (emit_changesOnly _ _) (by simp))
    · exact ⟨_, ceRingLayoutWrite_refused hbad, rfl, emit_changesOnly _ _⟩
  case scheduled =>
    intro ce bytes digest d rest htake hce
    have hended : ∀ st, ChangesOnly [.copies, .regs] s (schedEnded d rest st bytes digest s) :=
      fun st => changesOnly_mono (with_copies_changesOnly s _) (by simp)
    refine ⟨?_, ?_⟩
    · have hcopies : (copyEvent 3 d .completed (schedEnded d rest .completed bytes digest s)).copies
          = (schedEnded d rest .completed bytes digest s).copies := by simp [copyEvent_frame]
      exact ⟨_, copyComplete_sched_completed htake hce, congrArg Copies.sched hcopies, hcopies, copyEvent_events_completed 3 d _,
        changesOnly_trans (hended _) (changesOnly_mono (copyEvent_changesOnly _ _ _ _) (by simp)), copyEvent_sched_regsOnly d _⟩
    · have hpoison := poisonLeg_changesOnly (pathOf (memOf d.src) (memOf d.dst))
        ((schedEnded d rest .faulted bytes digest s).setEvent U.hub Off.ceEvents 3)
      exact ⟨_, copyComplete_sched_faulted htake hce, rfl, State.reg_setReg_self .., fun r hr => poisonLeg_fails _ _ r hr,
        changesOnly_trans (changesOnly_mono (hended _) (by simp)) (changesOnly_trans (changesOnly_mono (setEvent_changesOnly _ _ _ _) (by simp))
          (changesOnly_mono hpoison (by simp))), setEvent_regsOnly (by decide) _ _⟩
  case service =>
    intro c hring bytes digest hrun _ hbulks h1 h2
    exact ⟨_, copyComplete_service hring hrun hbulks h1 h2, congrArg Copies.ring0 serviceEnded_copies, congrArg Copies.head0 serviceEnded_copies,
      congrArg Copies.ended serviceEnded_copies, serviceEnded_events, serviceEnded_changesOnly, serviceEnded_regsOnly⟩
  case peer => exact fun ord bytes => ⟨_, rfl, rfl, with_copies_changesOnly s _⟩
  case abort =>
    intro h ring tag e hs
    refine ⟨fun hring => abortCopy_refused hs (.inl hring), fun hring htake => ?_, fun _ hnone hnot => abortCopy_refused hs (.inr ⟨hnone, hnot⟩)⟩
    exact ⟨_, abortCopy_waits hs hring htake, rfl, changesOnly_trans (changesOnly_mono (touch_changesOnly h e.id s) (by simp))
      (changesOnly_mono (with_copies_changesOnly _ _) (by simp)), regsOnly_of_regs rfl⟩
  case judged =>
    intro h ring tag e frame hring hask hs
    refine ⟨fun hdone => ?_, fun c rest htake hnot hrun hd => ?_⟩
    · rw [judgeAborts_completed hask hs hdone]
      exact ⟨sends_from (finish_sends _ _ _ _ _ _ (abortsTaken s)) rfl, finish_changesOnly _ _ _ _ _ _ _ (abortsTaken s) .copies (by simp)⟩
    · rw [judgeAborts_queued hask hs htake hnot hrun hd]
      obtain ⟨hended, hsent, hbit, hparts⟩ := copyDenied_spec ring c rest s
      have hfinish := finish_changesOnly (opAbortCopy h) h e.identity .ok 0 s.now [] (copyDenied ring c rest s)
      refine ⟨finish_sends_from _ _ _ _ _ _ (exists_append_of_suffix hsent), ?_, ?_,
        changesOnly_trans (changesOnly_mono hparts (by simp)) (changesOnly_mono hfinish (by simp))⟩
      · rw [hfinish .copies (by simp)]
        exact hended
      · rw [State.bitAt, finish_reg (hub_not_report _) (by decide)]
        exact hbit

end Sys2Proof.Machine
end

section
/-! R152, R277, R407: writes of the die and pair registers: the rule of each, and what it leaves. -/

namespace Sys2Proof.Machine

open Sys2Proof Sys2Proof.Safety

section
variable {a b c : Bool} {x y z : Status} {f : State → State}

theorem judged_ok_three (ha : a = true) (hb : b = true) (hc : c = true) : judged (firstFail [(a, x), (b, y), (c, z)]) f = .ok f := by
  simp [judged, firstFail, ha, hb, hc]

theorem judged_refuse_third (ha : a = true) (hb : b = true) (hc : c = false) :
    judged (firstFail [(a, x), (b, y), (c, z)]) f = .refuse z := by
  simp [judged, firstFail, ha, hb, hc]

end

/-! ### DIE_CTRL (R152) -/

section
variable {i : Nat} (hi : i < 25)
include hi

theorem die_class : unitClass (U.die i) = 8 := by simp only [unitClass, U.die]; omega

theorem die_inst : unitInst (U.die i) = i := by simp only [unitInst, U.die]; omega

theorem dieCtrl_findReg : findReg (U.die i) Off.dieCtrl = some ⟨Off.dieCtrl, 4, 1, .rw, 0xFFFFFFFC, 0x00000000⟩ := by
  unfold findReg unitRegs
  simp only [die_class hi, die_inst hi]
  by_cases h : i < 0x18
  · rw [if_pos h]
    rfl
  · rw [if_neg h, if_pos (by omega)]
    rfl

/-- Only a compute die, in MAINTAIN, is retired or restored, and only a retired one restored. -/
theorem judgeWrite_dieCtrl {h : Hdr} {e : Session} {v : Word}
    (hres : ∀ r, findReg (U.die i) Off.dieCtrl = some r → v &&& r.reserved = 0) (a : State) :
    judgeWrite (oneWrite h e (U.die i) Off.dieCtrl v) a
      = judged (firstFail [(decide (i < 16), .badParam), (decide (v = 0) || decide (a.plant.mode = .maintain), .denied),
          (decide (v ≠ 3) && (!bitOf v 1 || decide ((a.die i).st = 3)), .badParam)]) (writeDie i v) := by
  rw [judgeWrite_eq_judgeClass a (die_class hi) (dieCtrl_findReg hi) (by decide) (by decide) hres]
  simp only [judgeClass, judgeDie, oneWrite, die_inst hi, if_true]
  rfl

end

/-- A die's change waits for the placement change that is asked for. -/
def dieAsked (i : Nat) (g : Die → Die) (s : State) : State := askPlacement (s.modDie i g)

section
variable {h : Hdr} {e : Session} {s : State} {i : Nat}

theorem dieAsked_changesOnly (g : Die → Die) (s : State) : ChangesOnly [.dies, .seqr] s (dieAsked i g s) := by
  intro p hp
  cases p <;> simp [Part.Same, dieAsked, askPlacement] at hp ⊢

theorem dieAsked_spec {g : Die → Die} {t : State} (hw : WriteDone h s (dieAsked i g (touch h e.id s)) t) :
    t.die i = g (s.die i) ∧ t.seqr = { s.seqr with placement := some s.seqr.leg } ∧ (∀ j, j ≠ i → t.die j = s.die j)
      ∧ ChangesOnly [.dies, .outbox, .regs, .seqr, .vcp] s t ∧ RegsOnly [] s t := by
  have hdie : ∀ j, t.die j = if j = i then g (s.die i) else s.die j := fun j =>
    (State.die_congr (hw.parts .dies (by simp)) j).trans (State.die_modDie (touch h e.id s) i j g)
  exact ⟨(hdie i).trans (if_pos rfl), hw.parts .seqr (by simp), fun j hj => (hdie j).trans (if_neg hj),
    hw.changesOnly (changesOnly_mono (dieAsked_changesOnly g _) (by simp)), hw.regsOnly (sid := e.id) (regsOnly_of_regs rfl)⟩

section
variable {v : Word} (hi : i < 25) (hu : h.unit.toNat = U.die i) (hs : Served (writeOp (U.die i) Off.dieCtrl 1) h e s)
  (hres : ∀ r, findReg (U.die i) Off.dieCtrl = some r → v &&& r.reserved = 0)
include hi hu hs hres

theorem dieCtrlWrite_done {f : State → State} (hd : deadlineMissed h (nextFrame s) s.now = false)
    (hj : judged (firstFail [(decide (i < 16), .badParam), (decide (v = 0) || decide (s.plant.mode = .maintain), .denied),
      (decide (v ≠ 3) && (!bitOf v 1 || decide ((s.die i).st = 3)), .badParam)]) (writeDie i v) = .ok f) :
    WriteDone h s (f (touch h e.id s)) (registerWriteAt h Off.dieCtrl v s) :=
  registerWriteAt_done hu hs hd (fun hne => absurd hne.2 (by decide)) ((judgeWrite_dieCtrl hi hres _).trans hj)

theorem dieCtrlWrite_refused {st : Status}
    (hj : judged (firstFail [(decide (i < 16), .badParam), (decide (v = 0) || decide (s.plant.mode = .maintain), .denied),
      (decide (v ≠ 3) && (!bitOf v 1 || decide ((s.die i).st = 3)), .badParam)]) (writeDie i v) = .refuse st) :
    WriteRefused h st s (registerWriteAt h Off.dieCtrl v s) :=
  registerWriteAt_refuse hu hs ((judgeWrite_dieCtrl hi hres _).trans hj)

/-- The hub and the store dies are neither retired nor restored. -/
theorem dieCtrlWrite_notCompute (h16 : 16 ≤ i) : WriteRefused h .badParam s (registerWriteAt h Off.dieCtrl v s) :=
  dieCtrlWrite_refused hi hu hs hres (judged_refuse (decide_eq_false (Nat.not_lt.2 h16)) _)

end

end

/-! ### PAIR_CTRL (R277) -/

section
variable {h : Hdr} {e : Session} {s : State} {v : Word}

/-- A write of PAIR_CTRL stores it without JOIN, which begins the join. -/
def writePairCtrl (v : Word) (s : State) : State :=
  if bitOf v 2 then joinNow (writeConfig U.sys Off.pairCtrl (clrBit v 2) s) else writeConfig U.sys Off.pairCtrl (clrBit v 2) s

theorem judgeWrite_pairCtrl (hres : ∀ r, findReg U.sys Off.pairCtrl = some r → v &&& r.reserved = 0) (a : State) :
    judgeWrite (oneWrite h e U.sys Off.pairCtrl v) a
      = judged (firstFail [(decide (60 ≤ fld v 31 16), .badParam), (!bitOf v 2 || a.pair.joinReady, .denied)]) (writePairCtrl v) :=
  judgeWrite_eq_judgeClass (cls := 0) a rfl rfl (by decide) (by decide) hres

/-- The Keeper of a module of its own rolls back at the next leg boundary. -/
theorem joinNow_keeper {a : State} (hk : isKeeper a = true) (hone : imageOr a (·.modules) ≤ 1) :
    joinNow a = { a with pair := { a.pair with joinReady := false, resync := .idle, joinAt := some (a.seqr.leg + 1) } } := by
  unfold joinNow
  exact (if_neg (Nat.not_lt.2 hone)).trans (if_pos hk)

/-- A Relief, or a module of a hall, names no boundary of its own. -/
theorem joinNow_pair_other {a : State} (ho : isKeeper a = false ∨ 1 < imageOr a (·.modules)) :
    (joinNow a).pair = { a.pair with joinReady := false, resync := .idle } := by
  unfold joinNow
  by_cases hhall : 1 < imageOr a (·.modules)
  · simp only [if_pos hhall]
    split <;> simp [nameRestore_frame]
  · have hrelief : ¬ isKeeper a = true := Bool.eq_false_iff.1 (ho.resolve_right hhall)
    simp only [if_neg hhall]
    exact congrArg State.pair (if_neg hrelief)

theorem joinNow_changesOnly (a : State) : ChangesOnly [.hall, .links, .outbox, .pair, .seqr] a (joinNow a) := by
  intro p hp
  cases p <;> simp [Part.Same, joinNow_frame] at hp ⊢

/-- PAIR_CTRL as the write leaves it, before the join. -/
def pairStored (v : Word) (s : State) : State := writeConfig U.sys Off.pairCtrl (clrBit v 2) s

theorem pairStored_changesOnly (a : State) : ChangesOnly [.outbox, .regs] a (pairStored v a) :=
  writeConfig_plain_changesOnly (.inl rfl) (by decide) _ a

theorem pairStored_regsOnly (a : State) : RegsOnly [(U.sys, Off.pairCtrl)] a (pairStored v a) :=
  writeConfig_plain_regsOnly (.inl rfl) (by decide) (by decide) _ a

theorem pairStored_reg (a : State) : (pairStored v a).reg U.sys Off.pairCtrl = clrBit v 2 := by
  unfold pairStored
  rw [writeConfig_plain (.inl rfl) (by decide)]
  exact State.reg_setReg_self ..

theorem pairStored_pair (a : State) : (pairStored v a).pair = a.pair := pairStored_changesOnly a .pair (by simp)

theorem pairStored_seqr (a : State) : (pairStored v a).seqr = a.seqr := pairStored_changesOnly a .seqr (by simp)

section
variable (hu : h.unit.toNat = U.sys) (hs : Served (writeOp U.sys Off.pairCtrl 1) h e s)
  (hres : ∀ r, findReg U.sys Off.pairCtrl = some r → v &&& r.reserved = 0) (hper : 60 ≤ fld v 31 16) (hjoin : bitOf v 2 = true)
include hu hs hres hper hjoin

theorem join_denied (hno : s.pair.joinReady = false) : WriteRefused h .denied s (registerWriteAt h Off.pairCtrl v s) := by
  have hcond : (!bitOf v 2 || s.pair.joinReady) = false := by simp [hjoin, hno]
  exact registerWriteAt_refuse hu hs ((judgeWrite_pairCtrl hres _).trans (judged_refuse_second (decide_eq_true hper) hcond []))

theorem join_done (hd : deadlineMissed h (nextFrame s) s.now = false) (hready : s.pair.joinReady = true) :
    WriteDone h s (joinNow (pairStored v (touch h e.id s))) (registerWriteAt h Off.pairCtrl v s) := by
  have hcond : (!bitOf v 2 || s.pair.joinReady) = true := by simp [hready]
  have hw := registerWriteAt_done (v := v) hu hs hd (by decide) ((judgeWrite_pairCtrl hres _).trans (judged_ok_two (decide_eq_true hper) hcond))
  unfold writePairCtrl at hw
  rwa [if_pos hjoin] at hw

end

/-- R277: what the start of a join leaves. -/
theorem join_spec {t : State} (hw : WriteDone h s (joinNow (pairStored v (touch h e.id s))) t) :
    t.reg U.sys Off.pairCtrl = clrBit v 2
      ∧ (isKeeper s = true → imageOr s (·.modules) ≤ 1 →
          t.pair = { s.pair with joinReady := false, resync := .idle, joinAt := some (s.seqr.leg + 1) }
            ∧ ChangesOnly [.outbox, .pair, .regs, .vcp] s t)
      ∧ (isKeeper s = false ∨ 1 < imageOr s (·.modules) → t.pair = { s.pair with joinReady := false, resync := .idle })
      ∧ ChangesOnly [.hall, .links, .outbox, .pair, .regs, .seqr, .vcp] s t ∧ RegsOnly [(U.sys, Off.pairCtrl)] s t := by
  have hregs : (joinNow (pairStored v (touch h e.id s))).regs = (pairStored v (touch h e.id s)).regs := by simp [joinNow_frame]
  have hkeeper : isKeeper (pairStored v (touch h e.id s)) = isKeeper s := by simp only [isKeeper, pairStored_pair]; rfl
  have himage : imageOr (pairStored v (touch h e.id s)) (·.modules) = imageOr s (·.modules) := by
    unfold imageOr
    rw [pairStored_seqr]
    rfl
  have hpair := hw.parts .pair (by simp)
  have hstored : ∀ ps : List Part, [Part.outbox, .regs] ⊆ ps → ChangesOnly ps (touch h e.id s) (pairStored v (touch h e.id s)) :=
    fun ps hps => changesOnly_mono (pairStored_changesOnly _) hps
  refine ⟨?_, fun hk hone => ?_, fun ho => ?_, ?_, ?_⟩
  · rw [hw.reg (by decide) (by decide), State.reg_congr hregs]
    exact pairStored_reg _
  · have hjoin := joinNow_keeper (hkeeper.trans hk) (himage.trans_le hone)
    rw [hjoin] at hw hpair
    refine ⟨?_, hw.changesOnly (changesOnly_trans (hstored _ (by simp)) (changesOnly_mono (with_pair_changesOnly _ _) (by simp)))⟩
    rw [pairStored_pair, pairStored_seqr] at hpair
    exact hpair
  · have hother := joinNow_pair_other (a := pairStored v (touch h e.id s)) (by rwa [hkeeper, himage])
    rw [pairStored_pair] at hother
    exact Eq.trans hpair hother
  · exact hw.changesOnly (changesOnly_trans (hstored _ (by simp)) (changesOnly_mono (joinNow_changesOnly _) (by simp)))
  · exact hw.regsOnly (regsOnly_trans (pairStored_regsOnly _) (regsOnly_of_regs hregs))

end

end Sys2Proof.Machine
end

section
/-! R341, R364: LINK_CTRL, and what the fall of a link leaves of the links' states and registers. -/

namespace Sys2Proof.Machine

open Sys2Proof Sys2Proof.Safety

/-! ### What leaves the states and the registers of the links -/

/-- No link changes its state, and no register of a link changes. -/
structure LinksStay (s t : State) : Prop where
  st : ∀ j, (t.link j).st = (s.link j).st
  regs : ∀ j off, j < 32 → off < 0x1000 → t.reg (U.link j) off = s.reg (U.link j) off

theorem link_not_report {j : Nat} (hj : j < 32) (off : Nat) : (U.link j, off) ∉ reportRegs :=
  not_report_of_unit (by simp only [U.link, U.log]; omega) (by simp [U.link]) off

namespace LinksStay

theorem refl (s : State) : LinksStay s s := ⟨fun _ => rfl, fun _ _ _ _ => rfl⟩

theorem trans {s t u : State} (h : LinksStay s t) (k : LinksStay t u) : LinksStay s u :=
  ⟨fun j => (k.st j).trans (h.st j), fun j off hj ho => (k.regs j off hj ho).trans (h.regs j off hj ho)⟩

theorem of_parts {s t : State} (hl : t.links = s.links) (hr : t.regs = s.regs) : LinksStay s t :=
  ⟨fun j => congrArg Link.st (State.link_congr hl j), fun _ _ _ _ => State.reg_congr hr _ _⟩

/-- Registers of the hub and of the system unit, and those of reporting, are none of a link. -/
theorem of_regsOnly {s t : State} {l : List (Nat × Nat)} (hl : t.links = s.links) (hr : RegsOnly l s t) (hu : ∀ p ∈ l, p.1 = U.sys ∨ p.1 = U.hub) :
    LinksStay s t := by
  refine ⟨fun j => congrArg Link.st (State.link_congr hl j), fun j off hj ho => hr _ off ho (fun hm => ?_) (link_not_report hj off)⟩
  obtain h | h := hu _ hm
  · simp [U.link] at h
  · simp only [U.link, U.hub] at h
    omega

theorem modLink {g : Link → Link} (hg : ∀ k, (g k).st = k.st) (l : Nat) (s : State) : LinksStay s (s.modLink l g) := by
  refine ⟨fun j => ?_, fun _ _ _ _ => rfl⟩
  rw [State.link_modLink]
  split
  next h => rw [hg, h]
  next => rfl

theorem ite {c : Prop} [Decidable c] {s a b : State} (ha : LinksStay s a) (hb : LinksStay s b) : LinksStay s (if c then a else b) := by
  split
  · exact ha
  · exact hb

theorem pass {α : Type} {l : List α} {f : α → State → State} {s : State} (hf : ∀ x a, LinksStay a (f x a)) : LinksStay s (forEach l f s) :=
  forEach_keeps (P := LinksStay s) (refl s) fun x _ a ha => ha.trans (hf x a)

end LinksStay

section
variable (s : State)

theorem with_seqr_linksStay (q : Seqr) : LinksStay s { s with seqr := q } := .of_parts rfl rfl

theorem with_hall_linksStay (h : Hall) : LinksStay s { s with hall := h } := .of_parts rfl rfl

theorem with_copies_linksStay (c : Copies) : LinksStay s { s with copies := c } := .of_parts rfl rfl

theorem emit_linksStay (o : Out) : LinksStay s (s.emit o) := .of_parts rfl rfl

theorem draw_linksStay : LinksStay s s.draw := .of_parts rfl rfl

theorem sendService_linksStay (type dst : Nat) (payload : List Nat) : LinksStay s (sendService type dst payload s) := by
  unfold sendService
  split
  · exact .refl s
  next l _ =>
    have hsent := emit_linksStay s (.service type dst payload)
    dsimp only
    exact .ite ((hsent.trans (with_hall_linksStay _ _)).trans (.modLink (by intro _; rfl) l _)) (hsent.trans (.modLink (by intro _; rfl) l _))

theorem sendHall_linksStay (payload : List Nat) : LinksStay s (sendHall payload s) :=
  LinksStay.pass (l := upTo (imageOr s (·.modules))) (f := fun o a => if o = 0 then a else sendService 0x10 o payload a)
    fun o a => .ite (.refl a) (sendService_linksStay a 0x10 o payload)

theorem tellHall_linksStay (payload : List Nat) : LinksStay s (tellHall payload s) :=
  .ite (sendHall_linksStay s payload) (sendService_linksStay s 0x10 0 payload)

theorem nameRoute_linksStay (set : Nat) : LinksStay s (nameRoute set s) :=
  (with_seqr_linksStay s _).trans (sendHall_linksStay _ _)

theorem stopHall_linksStay : LinksStay s (stopHall s) :=
  .ite ((with_seqr_linksStay s _).trans (tellHall_linksStay _ _)) (.refl s)

theorem reroute_linksStay : LinksStay s (reroute s) := by
  unfold reroute
  split
  · exact .refl s
  · split
    · exact .ite (.refl s) (nameRoute_linksStay s _)
    · exact stopHall_linksStay s

theorem noteLink_linksStay (ord l : Nat) (up : Bool) : LinksStay s (noteLink ord l up s) := by
  unfold noteLink
  dsimp only
  exact .ite ((with_hall_linksStay s _).trans (reroute_linksStay _)) (with_hall_linksStay s _)

theorem reportLink_linksStay (l : Nat) (up : Bool) : LinksStay s (reportLink l up s) :=
  .ite (.refl s) (.ite (noteLink_linksStay s 0 l up) (sendService_linksStay s 0x10 0 _))

theorem moveMessages_linksStay (l : Nat) : LinksStay s (moveMessages l s) := by
  refine (LinksStay.modLink (by intro _; rfl) l s).trans (.pass fun m a => ?_)
  split
  · exact (LinksStay.modLink (by intro _; rfl) _ a).trans (emit_linksStay _ _)
  · exact .refl a

theorem takeRef_linksStay (l : Nat) : LinksStay s (takeRef l s) :=
  .ite (.of_regsOnly (l := [(U.sys, Off.hallEvents)]) rfl (setEvent_regsOnly (by decide) 0 _) (by simp)) (.of_parts rfl rfl)

theorem loseRef_linksStay : LinksStay s (loseRef s) := by
  unfold loseRef
  refine .ite (.refl s) ?_
  split
  · exact takeRef_linksStay s _
  · exact .of_parts rfl rfl

theorem watchHealth_linksStay : LinksStay s (watchHealth s) := by
  have hkept : LinksStay s { s with pair.wasHealthy := reliefHealthy s } := .of_parts rfl rfl
  unfold watchHealth
  exact .ite (hkept.trans (.of_regsOnly (by simp) (event_regsOnly (by decide) 9 _) (by simp))) hkept

theorem partnerLost_linksStay (before : Nat) : LinksStay s (partnerLost before s) :=
  .ite (LinksStay.trans (.of_regsOnly (by simp) (setEvent_regsOnly (off := Off.pairEvents) (u := U.sys) (by decide) 6 s) (by simp))
    (watchHealth_linksStay _)) (.refl s)

/-! #### Copies -/

theorem endCopy_linksStay (k : Nat) (d : CopyDesc) (st : Status) (bytes digest : Nat) (rest : List Copy) :
    LinksStay s (endCopy k d st bytes digest rest s) :=
  .of_regsOnly (by simp [endCopy_frame]) (endCopy_goesOn s k d st bytes digest rest).regs (by simp)

theorem setBusy_linksStay (e : Nat) (on : Bool) : LinksStay s (setBusy e on s) := .of_parts rfl rfl

theorem openBulk_linksStay (d : CopyDesc) : LinksStay s (openBulk d s) := by
  unfold openBulk
  split
  · exact (with_hall_linksStay s _).trans (sendService_linksStay _ _ _ _)
  · exact .refl s

theorem closeBulk_linksStay (d : CopyDesc) (st : Status) (bytes : Nat) : LinksStay s (closeBulk d st bytes s) := by
  unfold closeBulk
  dsimp only
  split
  · exact .ite ((with_hall_linksStay s _).trans (sendService_linksStay _ _ _ _)) (with_hall_linksStay s _)
  · exact .refl s

theorem startHead_linksStay (k : Nat) : LinksStay s (startHead k s) := by
  unfold startHead
  split
  · exact .refl s
  next c rest _ =>
    refine .ite (.refl s) ?_
    split
    · exact endCopy_linksStay s _ _ _ _ _ _
    · have hrun := (with_copies_linksStay s (s.copies.setRing k ({ c with running := true } :: rest))).trans (setBusy_linksStay _ (ringEngine k) true)
      exact .ite (hrun.trans (openBulk_linksStay _ _)) hrun

theorem serveService_linksStay (fuel : Nat) : LinksStay s (serveService fuel s) := by
  induction fuel generalizing s with
  | zero => exact .refl s
  | succ n ih => exact .ite (.refl s) ((startHead_linksStay s 0).trans (ih _))

theorem serveFirmware_linksStay (fuel : Nat) : LinksStay s (serveFirmware fuel s) := by
  induction fuel generalizing s with
  | zero => exact .refl s
  | succ n ih =>
    exact .ite (.refl s) (((with_copies_linksStay s _).trans (startHead_linksStay _ _)).trans (ih _))

theorem startCopies_linksStay : LinksStay s (startCopies s) := (serveService_linksStay s _).trans (serveFirmware_linksStay _ _)

theorem endRunning_linksStay (k : Nat) (st : Status) (bytes digest : Nat) : LinksStay s (endRunning k st bytes digest s) := by
  unfold endRunning
  split
  · exact .ite (((endCopy_linksStay s _ _ _ _ _ _).trans (setBusy_linksStay _ _ _)).trans (closeBulk_linksStay _ _ _ _)) (.refl s)
  · exact .refl s

theorem dropBulks_linksStay : LinksStay s (dropBulks s) := by
  refine .pass fun b a => ?_
  have hgone : LinksStay a { a with hall.bulks := a.hall.bulks.filter (fun c => decide (c ≠ b)) } := with_hall_linksStay a _
  exact .ite ((hgone.trans (draw_linksStay _)).trans (endRunning_linksStay _ _ _ _ _)) hgone

/-! ### The fall of a link -/

/-- A link as it leaves for `dest`. -/
def Link.leaving (dest : LinkSt) (now : Time) (k : Link) : Link :=
  { k with st := dest, since := now, badTimes := [], lateTimes := [], pad := 0, ackDue := none }

/-- The link that leaves for `dest`, before what hangs on it. -/
def linkLeft (l : Nat) (dest : LinkSt) (s : State) : State :=
  (s.modLink l (Link.leaving dest s.now)).setEvent (U.link l) Off.linkEvents 0

/-- What hangs on an UP link stirs no other link. -/
theorem linkFalls_linksStay (l : Nat) (dest : LinkSt) : LinksStay (linkLeft l dest s) (linkFalls l dest s) := by
  have href : LinksStay (linkLeft l dest s) (if s.hall.refLink = some l then loseRef (moveMessages l (linkLeft l dest s))
      else moveMessages l (linkLeft l dest s)) :=
    .ite ((moveMessages_linksStay _ l).trans (loseRef_linksStay _)) (moveMessages_linksStay _ l)
  exact .ite (.refl _) ((((href.trans (reportLink_linksStay _ l false)).trans (partnerLost_linksStay _ (partnerLinks s))).trans
    (dropBulks_linksStay _)).trans (startCopies_linksStay _))

theorem linkFalls_st (l : Nat) (dest : LinkSt) (j : Nat) : ((linkFalls l dest s).link j).st = if j = l then dest else (s.link j).st := by
  have hleft : (linkLeft l dest s).link j = if j = l then (s.link l).leaving dest s.now else s.link j :=
    State.link_modLink s l j (Link.leaving dest s.now)
  rw [(linkFalls_linksStay s l dest).st, hleft]
  split
  · rfl
  · rfl

section
variable {l : Nat} (hl : l < 32) (dest : LinkSt)
include hl

theorem linkFalls_event : (linkFalls l dest s).bitAt (U.link l) Off.linkEvents 0 = true := by
  rw [State.bitAt, (linkFalls_linksStay s l dest).regs l _ hl (by decide)]
  exact State.bitAt_setEvent_self _ _ _ _ (by decide)

theorem linkFalls_ctrl : (linkFalls l dest s).reg (U.link l) Off.linkCtrl = s.reg (U.link l) Off.linkCtrl := by
  rw [(linkFalls_linksStay s l dest).regs l _ hl (by decide)]
  exact State.reg_setEvent_other _ (by decide) (by decide) fun h => absurd h.2 (by decide)

end

end

/-! ### LINK_CTRL (R341, R364) -/

section
variable {h : Hdr} {e : Session} {s : State} {v : Word} {l : Nat} (hl : l < 32)
include hl

theorem link_class : unitClass (U.link l) = 6 := by simp only [unitClass, U.link]; omega

theorem link_inst : unitInst (U.link l) = l := by simp only [unitInst, U.link]; omega

theorem linkCtrl_findReg : findReg (U.link l) Off.linkCtrl = some ⟨Off.linkCtrl, 4, 1, .rw, 0xFFFFFFFC, 0x00000001⟩ := by
  unfold findReg unitRegs
  simp only [link_class hl, link_inst hl, if_pos hl]
  rfl

/-- A link that the module needs may not be taken down. -/
theorem judgeWrite_linkCtrl (hres : ∀ r, findReg (U.link l) Off.linkCtrl = some r → v &&& r.reserved = 0) (a : State) :
    judgeWrite (oneWrite h e (U.link l) Off.linkCtrl v) a
      = judged (firstFail [(!((bitOf v 1 || (!bitOf v 0 && a.bitAt (U.link l) Off.linkCtrl 0)) && linkNeeded a l), .denied)]) (writeLink l v) := by
  rw [judgeWrite_eq_judgeClass a (link_class hl) (linkCtrl_findReg hl) (by decide) (by decide) hres]
  simp only [judgeClass, judgeLink, oneWrite, link_inst hl]

omit hl in
/-- A link that is alive falls when it is trained again or disabled. -/
theorem writeLink_falls {a : State} (hon : a.bitAt (U.link l) Off.linkCtrl 0 = true) (halive : linkAlive a l = true)
    (hdown : bitOf v 0 = true → bitOf v 1 = true) :
    writeLink l v a = linkFalls l (if bitOf v 0 then .training else .disabled) (a.setReg (U.link l) Off.linkCtrl (clrBit v 1)) := by
  unfold writeLink
  cases h0 : bitOf v 0 with
  | false => simp [hon, halive]
  | true => simp [hon, halive, hdown h0]

section
variable (hu : h.unit.toNat = U.link l) (hs : Served (writeOp (U.link l) Off.linkCtrl 1) h e s)
  (hres : ∀ r, findReg (U.link l) Off.linkCtrl = some r → v &&& r.reserved = 0)
  (hon : s.bitAt (U.link l) Off.linkCtrl 0 = true) (hdown : bitOf v 0 = true → bitOf v 1 = true)
include hu hs hres hon hdown

omit hl hu hs hres in
theorem linkDown_asked : (bitOf v 1 || (!bitOf v 0 && s.bitAt (U.link l) Off.linkCtrl 0)) = true := by
  cases h0 : bitOf v 0 with
  | false => simp [hon]
  | true => simp [hdown h0]

theorem linkCtrlWrite_denied (hneed : linkNeeded s l = true) : WriteRefused h .denied s (registerWriteAt h Off.linkCtrl v s) := by
  have hcond : (!((bitOf v 1 || (!bitOf v 0 && s.bitAt (U.link l) Off.linkCtrl 0)) && linkNeeded s l)) = false := by
    rw [linkDown_asked hon hdown, hneed]
    rfl
  exact registerWriteAt_refuse hu hs ((judgeWrite_linkCtrl hl hres _).trans (judged_refuse hcond []))

theorem linkCtrlWrite_done (hd : deadlineMissed h (nextFrame s) s.now = false) (halive : linkAlive s l = true) (hfree : linkNeeded s l = false) :
    WriteDone h s (linkFalls l (if bitOf v 0 then .training else .disabled) ((touch h e.id s).setReg (U.link l) Off.linkCtrl (clrBit v 1)))
      (registerWriteAt h Off.linkCtrl v s) := by
  have hcond : (!((bitOf v 1 || (!bitOf v 0 && s.bitAt (U.link l) Off.linkCtrl 0)) && linkNeeded s l)) = true := by
    rw [hfree, Bool.and_false]
    rfl
  have hw := registerWriteAt_done (v := v) hu hs hd (fun hne => absurd hne.2 (by decide)) ((judgeWrite_linkCtrl hl hres _).trans (judged_ok hcond))
  rwa [writeLink_falls (a := touch h e.id s) hon halive hdown] at hw

end

/-- R364: what the fall of a link that a client takes down leaves. -/
theorem linkCtrlWrite_spec {dest : LinkSt} {t : State}
    (hw : WriteDone h s (linkFalls l dest ((touch h e.id s).setReg (U.link l) Off.linkCtrl (clrBit v 1))) t) :
    (∀ j, (t.link j).st = if j = l then dest else (s.link j).st) ∧ t.bitAt (U.link l) Off.linkEvents 0 = true
      ∧ t.bitAt (U.link l) Off.linkCtrl 0 = bitOf v 0 := by
  refine ⟨fun j => (congrArg Link.st (State.link_congr (hw.parts .links (by simp)) j)).trans (linkFalls_st _ l dest j), ?_, ?_⟩
  · rw [State.bitAt, hw.reg (by decide) (link_not_report hl _)]
    exact linkFalls_event _ hl dest
  · rw [State.bitAt, hw.reg (by decide) (link_not_report hl _), linkFalls_ctrl _ hl, State.reg_setReg_self, bitOf_clrBit _ (by decide)]
    simp

end

end Sys2Proof.Machine
end

section
/-! R330, R331, R386: an accepted write exactly, a stored configuration register, and the writes of BL_RECOVER and AUX_CFG. -/

namespace Sys2Proof.Machine

open Sys2Proof Sys2Proof.Safety

/-! ### An accepted write of one register, exactly -/

section
variable {h : Hdr} {e : Session} {s : State} {u off : Nat} {v : Word}

/-- After an accepted write, the reply stands upon what its effect leaves: the sessions are those, and no output is taken back. -/
theorem registerWriteAt_finished {f : State → State} (hu : h.unit.toNat = u) (hs : Served (writeOp u off 1) h e s)
    (hd : deadlineMissed h (nextFrame s) s.now = false) (hne : ¬ (u = U.cap ∧ off = Off.leakRelease))
    (hj : judgeWrite (oneWrite h e u off v) (touch h e.id s) = .ok f) :
    (registerWriteAt h off v s).vcp.sessions = (f (touch h e.id s)).vcp.sessions
      ∧ ∃ m, (registerWriteAt h off v s).outbox = m ++ (f (touch h e.id s)).outbox := by
  subst hu
  have hans := writeAnswer_one_ok hj
  have hfin : registerWriteAt h off v s
      = finish (writeOp h.unit.toNat off 1) h e.identity .ok 0 (nextFrame s) [] (f (touch h e.id s)) := by
    unfold registerWriteAt writeRegs
    exact vcp_done rfl hs ((if_neg hne).trans hans) hd
  rw [hfin]
  exact ⟨(finish_lists ..).1, (finish_sends _ h e.identity .ok (nextFrame s) [] _).imp fun _ hm => hm.1⟩

end

/-! ### A stored configuration register -/

/-- A configuration register mirrored and stored, before what its change brings about. -/
def configStored (u off : Nat) (v : Word) (s : State) : State :=
  (toPartner (.register (BitVec.ofNat 16 u) (BitVec.ofNat 16 off) v) s).setReg u off v

section
variable (u off : Nat) (v : Word) (s : State)

theorem configStored_changesOnly : ChangesOnly [.outbox, .regs] s (configStored u off v s) := by
  intro p hp
  cases p <;> simp [Part.Same, configStored] at hp ⊢

theorem configStored_regsOnly (ho : off < 0x1000) : RegsOnly [(u, off)] s (configStored u off v s) :=
  regsOnly_trans (regsOnly_of_regs (toPartner_regs _ s)) (setReg_regsOnly ho v _)

theorem configStored_reg : (configStored u off v s).reg u off = v := State.reg_setReg_self ..

theorem configStored_sent : s.outbox <:+ (configStored u off v s).outbox := toPartner_sent (List.suffix_refl _) _

/-- A unit on no card has nothing written to a card. -/
theorem writeConfig_off_card (hcard : slotOfUnit u = none) :
    writeConfig u off v s = configEffect u off (s.reg u off) v
      (pumpPath (toPartner (.register (BitVec.ofNat 16 u) (BitVec.ofNat 16 off) v) s)) (configStored u off v s) := by
  have hold : (toPartner (.register (BitVec.ofNat 16 u) (BitVec.ofNat 16 off) v) s).reg u off = s.reg u off :=
    State.reg_congr (toPartner_regs _ s) u off
  unfold writeConfig storeConfig sendConfig
  rw [hcard, hold]
  rfl

end

/-! ### BL_RECOVER (R386) -/

section
variable {h : Hdr} {e : Session} {s : State} {v : Word} {c : Nat} (hc : c < 6)
include hc

theorem bl_class : unitClass (U.bl c) = 5 := by simp only [unitClass, U.bl]; omega

theorem bl_inst : unitInst (U.bl c) = c := by simp only [unitInst, U.bl]; omega

theorem blRecover_findReg : findReg (U.bl c) Off.blRecover = some ⟨Off.blRecover, 4, 1, .wo, 0xFFFFFFFE, 0x00000000⟩ := by
  unfold findReg unitRegs
  simp only [bl_class hc, bl_inst hc, if_pos hc]
  rfl

theorem judgeWrite_blRecover (hres : ∀ r, findReg (U.bl c) Off.blRecover = some r → v &&& r.reserved = 0) (a : State) :
    judgeWrite (oneWrite h e (U.bl c) Off.blRecover v) a = .ok (recoverBus c v) := by
  rw [judgeWrite_eq_judgeClass a (bl_class hc) (blRecover_findReg hc) (by decide) (by decide) hres]
  simp only [judgeClass, judgeBuoy, oneWrite, bl_inst hc, if_true]

theorem blRecoverWrite_done (hu : h.unit.toNat = U.bl c) (hs : Served (writeOp (U.bl c) Off.blRecover 1) h e s)
    (hres : ∀ r, findReg (U.bl c) Off.blRecover = some r → v &&& r.reserved = 0) (hd : deadlineMissed h (nextFrame s) s.now = false) :
    WriteDone h s (recoverBus c v (touch h e.id s)) (registerWriteAt h Off.blRecover v s) :=
  registerWriteAt_done hu hs hd (fun hne => absurd hne.1 (by simp only [U.bl, U.cap]; omega)) (judgeWrite_blRecover hc hres _)

end

section
variable (c : Nat) (v : Word) (s : State)

/-- Recovery begins on a channel that is off the bus, and only there. -/
theorem recoverBus_bus (j : Nat) :
    (recoverBus c v s).bus j = if j = c ∧ bitOf v 0 = true ∧ (s.bus c).st = .busOff then { s.bus c with recovering := true } else s.bus j := by
  unfold recoverBus
  by_cases hoff : bitOf v 0 = true ∧ (s.bus c).st = .busOff
  · rw [if_pos hoff, State.bus_modBus]
    simp [hoff]
  · rw [if_neg hoff, if_neg fun h => hoff h.2]

theorem recoverBus_changesOnly : ChangesOnly [.buses] s (recoverBus c v s) := by
  unfold recoverBus
  split
  · intro p hp
    cases p <;> simp [Part.Same] at hp ⊢
  · exact changesOnly_refl _ _

theorem recoverBus_regsOnly : RegsOnly [] s (recoverBus c v s) := by
  unfold recoverBus
  split
  · exact regsOnly_of_regs rfl
  · exact regsOnly_refl _ _

end

/-! ### AUX_CFG (R330, R331) -/

section
variable {p : Nat} (hp : p < 16)
include hp

theorem aux_class : unitClass (U.aux p) = 14 := by simp only [unitClass, U.aux]; omega

theorem aux_inst : unitInst (U.aux p) = p := by simp only [unitInst, U.aux]; omega

theorem aux_not_report (off : Nat) : (U.aux p, off) ∉ reportRegs :=
  not_report_of_unit (by simp only [U.aux, U.log]; omega) (by simp [U.aux]) off

theorem auxCfg_findReg : findReg (U.aux p) Off.auxCfg = some ⟨Off.auxCfg, 4, 1, .rw, 0xFFFFFFE0, 0x00000000⟩ := by
  unfold findReg unitRegs
  simp only [aux_class hp, aux_inst hp, if_pos hp]
  rfl

/-- A pin changes function only when it is not changing it already, and only to one it has. -/
theorem judgeWrite_auxCfg {h : Hdr} {e : Session} {v : Word}
    (hres : ∀ r, findReg (U.aux p) Off.auxCfg = some r → v &&& r.reserved = 0) (a : State) :
    judgeWrite (oneWrite h e (U.aux p) Off.auxCfg v) a
      = judged (firstFail [((a.aux p).switching.isNone, .busy), (auxOffers p (fld v 3 0), .badParam)]) (writeConfig (U.aux p) Off.auxCfg v) := by
  rw [judgeWrite_eq_judgeClass a (aux_class hp) (auxCfg_findReg hp) (by decide) (by decide) hres]
  simp only [judgeClass, judgeAux, oneWrite, aux_inst hp]

theorem writeConfig_auxCfg (v : Word) (s : State) :
    writeConfig (U.aux p) Off.auxCfg v s = auxEffect p v (configStored (U.aux p) Off.auxCfg v s) := by
  rw [writeConfig_off_card _ _ _ _ (by simp only [slotOfUnit, aux_class hp])]
  simp only [configEffect, aux_class hp, aux_inst hp, if_true]

end

section
variable {p : Nat} {v : Word} {s : State}

theorem auxEffect_switches (hfunc : fld v 3 0 ≠ (s.aux p).func) : auxEffect p v s = startSwitch p v s := if_pos hfunc

theorem auxEffect_drives (hfunc : fld v 3 0 = (s.aux p).func) (hout : (s.aux p).func = 2) (hlevel : bitOf v 4 ≠ (s.aux p).outLevel) :
    auxEffect p v s = driveAux p (bitOf v 4) s :=
  (if_neg (not_not_intro hfunc)).trans ((if_pos hout).trans (if_neg hlevel))

theorem startSwitch_aux (a : State) (j : Nat) :
    (startSwitch p v a).aux j = if j = p then { a.aux p with switching := some (a.now, fld v 3 0, bitOf v 4) } else a.aux j := by
  unfold startSwitch
  dsimp only
  split
  · exact State.aux_modAux a p j fun x => { x with switching := some (a.now, fld v 3 0, bitOf v 4) }
  · exact State.aux_modAux a p j fun x => { x with switching := some (a.now, fld v 3 0, bitOf v 4) }

theorem startSwitch_changesOnly (a : State) : ChangesOnly [.auxs, .outbox] a (startSwitch p v a) := by
  unfold startSwitch
  dsimp only
  split
  · intro q hq
    cases q <;> simp [Part.Same] at hq ⊢
  · intro q hq
    cases q <;> simp [Part.Same] at hq ⊢

theorem driveAux_changesOnly (level : Bool) (a : State) : ChangesOnly [.auxs, .outbox] a (driveAux p level a) := by
  intro q hq
  cases q <;> simp [Part.Same, driveAux] at hq ⊢

theorem driveAux_aux (level : Bool) (a : State) (j : Nat) :
    (driveAux p level a).aux j = if j = p then { a.aux p with outLevel := level, level := level } else a.aux j :=
  State.aux_modAux a p j fun x => { x with outLevel := level, level := level }

end

/-- AUX_CFG as it is stored, before the pin follows. -/
def auxStored (p : Nat) (v : Word) (s : State) : State := configStored (U.aux p) Off.auxCfg v s

theorem auxStored_aux (p : Nat) (v : Word) (s : State) (j : Nat) : (auxStored p v s).aux j = s.aux j :=
  State.aux_congr (configStored_changesOnly _ _ _ _ .auxs (by simp)) j

section
variable {h : Hdr} {e : Session} {s : State} {v : Word} {p : Nat} (hp : p < 16) (hu : h.unit.toNat = U.aux p)
  (hs : Served (writeOp (U.aux p) Off.auxCfg 1) h e s) (hres : ∀ r, findReg (U.aux p) Off.auxCfg = some r → v &&& r.reserved = 0)
include hp hu hs hres

theorem auxCfgWrite_busy (hsw : (s.aux p).switching ≠ none) : WriteRefused h .busy s (registerWriteAt h Off.auxCfg v s) := by
  have hcond : (s.aux p).switching.isNone = false := Option.isNone_eq_false_iff.2 (Option.isSome_iff_ne_none.2 hsw)
  exact registerWriteAt_refuse hu hs ((judgeWrite_auxCfg hp hres _).trans (judged_refuse hcond _))

section
variable (hsw : (s.aux p).switching = none)
include hsw

theorem auxCfgWrite_badParam (hno : auxOffers p (fld v 3 0) = false) : WriteRefused h .badParam s (registerWriteAt h Off.auxCfg v s) :=
  registerWriteAt_refuse hu hs ((judgeWrite_auxCfg hp hres _).trans (judged_refuse_second (Option.isNone_iff_eq_none.2 hsw) hno []))

variable (hoff : auxOffers p (fld v 3 0) = true)
include hoff

omit hu hs in
theorem judgeWrite_auxCfg_ok :
    judgeWrite (oneWrite h e (U.aux p) Off.auxCfg v) (touch h e.id s) = .ok (fun a => auxEffect p v (auxStored p v a)) :=
  ((judgeWrite_auxCfg hp hres _).trans (judged_ok_two (Option.isNone_iff_eq_none.2 hsw) hoff)).trans
    (congrArg Judged.ok (funext (writeConfig_auxCfg hp v)))

theorem auxCfgWrite_done (hd : deadlineMissed h (nextFrame s) s.now = false) :
    WriteDone h s (auxEffect p v (auxStored p v (touch h e.id s))) (registerWriteAt h Off.auxCfg v s) :=
  registerWriteAt_done hu hs hd (fun hne => absurd hne.2 (by decide)) (judgeWrite_auxCfg_ok hp hres hsw hoff)

theorem auxCfgWrite_outbox (hd : deadlineMissed h (nextFrame s) s.now = false) :
    ∃ m, (registerWriteAt h Off.auxCfg v s).outbox = m ++ (auxEffect p v (auxStored p v (touch h e.id s))).outbox :=
  (registerWriteAt_finished hu hs hd (fun hne => absurd hne.2 (by decide)) (judgeWrite_auxCfg_ok hp hres hsw hoff)).2

end

end

end Sys2Proof.Machine
end

section
/-! R251, R330, R331, R422: what the writes of AUX_CFG leave, and the writes of INT_CTRL and VCP_CTRL. -/

namespace Sys2Proof.Machine

open Sys2Proof Sys2Proof.Safety

/-! ### What the writes of AUX_CFG leave (R330, R331) -/

section
variable {h : Hdr} {e : Session} {s t : State} {v : Word} {p : Nat} (hp : p < 16)
include hp

/-- R330: a pin begins to change its function. -/
theorem auxSwitch_spec (hfunc : fld v 3 0 ≠ (s.aux p).func) (hw : WriteDone h s (auxEffect p v (auxStored p v (touch h e.id s))) t) :
    t.aux p = { s.aux p with switching := some (s.now, fld v 3 0, bitOf v 4) } ∧ t.reg (U.aux p) Off.auxCfg = v
      ∧ (∀ j, j ≠ p → t.aux j = s.aux j) ∧ ChangesOnly [.auxs, .outbox, .regs, .vcp] s t ∧ RegsOnly [(U.aux p, Off.auxCfg)] s t := by
  have hstored := configStored_changesOnly (U.aux p) Off.auxCfg v (touch h e.id s)
  have hsame : ∀ j, (auxStored p v (touch h e.id s)).aux j = s.aux j := auxStored_aux p v (touch h e.id s)
  have hnow : (auxStored p v (touch h e.id s)).now = s.now := hstored .now (by simp)
  rw [auxEffect_switches (s := auxStored p v (touch h e.id s)) (by rwa [hsame])] at hw
  have hregs : (startSwitch p v (auxStored p v (touch h e.id s))).regs = (auxStored p v (touch h e.id s)).regs := by simp [startSwitch_frame]
  have haux : ∀ j, t.aux j = if j = p then { s.aux p with switching := some (s.now, fld v 3 0, bitOf v 4) } else s.aux j := fun j => by
    rw [State.aux_congr (hw.parts .auxs (by simp)), startSwitch_aux, hsame, hsame, hnow]
  refine ⟨(haux p).trans (if_pos rfl), ?_, fun j hj => (haux j).trans (if_neg hj),
    hw.changesOnly (changesOnly_trans (changesOnly_mono hstored (by simp)) (changesOnly_mono (startSwitch_changesOnly _) (by simp))),
    hw.regsOnly (regsOnly_trans (configStored_regsOnly _ _ v _ (by decide)) (regsOnly_of_regs hregs))⟩
  rw [hw.reg (by decide) (aux_not_report hp _), State.reg_congr hregs]
  exact configStored_reg ..

end

/-- A level written to an output pin: FUNC 2 with OUT_LEVEL. -/
theorem outLevelWord_spec (level : Bool) : fld (wd (2 + 16 * b2n level)) 3 0 = 2 ∧ bitOf (wd (2 + 16 * b2n level)) 4 = level := by
  cases level <;> decide

section
variable {h : Hdr} {e : Session} {s : State} {level : Bool} {p : Nat} (hp : p < 16) (hu : h.unit.toNat = U.aux p)
  (hs : Served (writeOp (U.aux p) Off.auxCfg 1) h e s)
  (hres : ∀ r, findReg (U.aux p) Off.auxCfg = some r → wd (2 + 16 * b2n level) &&& r.reserved = 0)
  (hsw : (s.aux p).switching = none) (hfunc : (s.aux p).func = 2) (hlevel : (s.aux p).outLevel = !level)
  (hd : deadlineMissed h (nextFrame s) s.now = false)
include hp hu hs hres hsw hfunc hlevel hd

/-- R331: an output pin takes its new level at once. -/
theorem auxOutLevel_spec {t : State} (ht : t = registerWriteAt h Off.auxCfg (wd (2 + 16 * b2n level)) s) :
    Answers h .ok (nextFrame s) [] s t ∧ t.aux p = { s.aux p with outLevel := level, level := level } ∧ Sends (.pin (fin16 p) level) s t
      ∧ (∀ j, j ≠ p → t.aux j = s.aux j) ∧ ChangesOnly [.auxs, .outbox, .regs, .vcp] s t ∧ RegsOnly [(U.aux p, Off.auxCfg)] s t := by
  subst ht
  obtain ⟨hfld, hbit⟩ := outLevelWord_spec level
  have hoff : auxOffers p (fld (wd (2 + 16 * b2n level)) 3 0) = true := by rw [hfld]; rfl
  have hw := auxCfgWrite_done hp hu hs hres hsw hoff hd
  have hout := auxCfgWrite_outbox hp hu hs hres hsw hoff hd
  have hstored := configStored_changesOnly (U.aux p) Off.auxCfg (wd (2 + 16 * b2n level)) (touch h e.id s)
  have hsent := configStored_sent (U.aux p) Off.auxCfg (wd (2 + 16 * b2n level)) (touch h e.id s)
  have hsame : ∀ j, (auxStored p (wd (2 + 16 * b2n level)) (touch h e.id s)).aux j = s.aux j := auxStored_aux p _ (touch h e.id s)
  have hdrive : auxEffect p (wd (2 + 16 * b2n level)) (auxStored p (wd (2 + 16 * b2n level)) (touch h e.id s))
      = driveAux p level (auxStored p (wd (2 + 16 * b2n level)) (touch h e.id s)) := by
    rw [auxEffect_drives (by rw [hsame, hfld, hfunc]) (by rw [hsame, hfunc]) (by rw [hsame, hbit, hlevel]; cases level <;> decide), hbit]
  rw [hdrive] at hw hout
  have haux : ∀ j, (registerWriteAt h Off.auxCfg (wd (2 + 16 * b2n level)) s).aux j
      = if j = p then { s.aux p with outLevel := level, level := level } else s.aux j := fun j => by
    rw [State.aux_congr (hw.parts .auxs (by simp)), driveAux_aux, hsame, hsame]
  refine ⟨hw.answers, (haux p).trans (if_pos rfl), ?_, fun j hj => (haux j).trans (if_neg hj),
    hw.changesOnly (changesOnly_trans (changesOnly_mono hstored (by simp)) (changesOnly_mono (driveAux_changesOnly level _) (by simp))),
    hw.regsOnly (regsOnly_trans (configStored_regsOnly _ _ _ _ (by decide)) (regsOnly_of_regs rfl))⟩
  obtain ⟨k, hk⟩ := exists_append_of_suffix hsent
  exact sends_mono ⟨.pin (fin16 p) level :: k, congrArg (List.cons _) hk, by simp⟩ hout

end

/-! ### INT_CTRL (R251) -/

theorem intCtrl_findReg : ∃ r, findReg U.hub Off.intCtrl = some r ∧ judgedByClass r 8 = true := by decide +kernel

section
variable {h : Hdr} {e : Session} {v : Word}

/-- A program is stopped only in MAINTAIN, and one set within its limits; two arrays need the variant that has them. -/
theorem judgeWrite_intCtrl (hres : ∀ r, findReg U.hub Off.intCtrl = some r → v &&& r.reserved = 0) (a : State) :
    judgeWrite (oneWrite h e U.hub Off.intCtrl v) a
      = judged (firstFail [(bitOf v 2 || decide (a.plant.mode = .maintain), .denied),
          (decide (1 ≤ fld v 23 16) && between 6 60 (fld v 15 8), .badParam), (!bitOf v 0 || dualOffered a, .badParam)])
          (writeConfig U.hub Off.intCtrl v) := by
  obtain ⟨r, hf, hacc⟩ := intCtrl_findReg
  exact judgeWrite_eq_judgeClass a rfl hf hacc (by decide) hres

theorem writeConfig_intCtrl (s : State) :
    writeConfig U.hub Off.intCtrl v s = intEffect (s.reg U.hub Off.intCtrl) v (configStored U.hub Off.intCtrl v s) :=
  writeConfig_off_card _ _ _ _ rfl

/-- A program that keeps DUAL counts its periods from when it is enabled. -/
theorem intEffect_sameDual {old : Word} {a : State} (hdual : bitOf old 0 = bitOf v 0) (hon : bitOf v 2 = true) :
    intEffect old v a = { a with integ := { a.integ with since := if bitOf old 2 then a.integ.since else a.now } } := by
  unfold intEffect
  simp only [if_pos hdual, rises, hon, Bool.and_true]
  cases bitOf old 2 with
  | false => rfl
  | true => rfl

section
variable {s : State} (hu : h.unit.toNat = U.hub) (hs : Served (writeOp U.hub Off.intCtrl 1) h e s)
  (hres : ∀ r, findReg U.hub Off.intCtrl = some r → v &&& r.reserved = 0)
include hu hs hres

theorem intCtrlWrite_denied (hoff : bitOf v 2 = false) (hm : s.plant.mode ≠ .maintain) :
    WriteRefused h .denied s (registerWriteAt h Off.intCtrl v s) := by
  have hcond : (bitOf v 2 || decide (s.plant.mode = .maintain)) = false := by simp [hoff, hm]
  exact registerWriteAt_refuse hu hs ((judgeWrite_intCtrl hres _).trans (judged_refuse hcond _))

theorem intCtrlWrite_done (hd : deadlineMissed h (nextFrame s) s.now = false) (hon : bitOf v 2 = true) (hsingle : bitOf v 0 = false)
    (hcount : 1 ≤ fld v 23 16) (hlow : 6 ≤ fld v 15 8) (hhigh : fld v 15 8 ≤ 60) :
    WriteDone h s (writeConfig U.hub Off.intCtrl v (touch h e.id s)) (registerWriteAt h Off.intCtrl v s) := by
  have hmode : (bitOf v 2 || decide (s.plant.mode = .maintain)) = true := by simp [hon]
  have hlimits : (decide (1 ≤ fld v 23 16) && between 6 60 (fld v 15 8)) = true := by simp [between, hcount, hlow, hhigh]
  have hdual : (!bitOf v 0 || dualOffered (touch h e.id s)) = true := by simp [hsingle]
  exact registerWriteAt_done hu hs hd (by decide) ((judgeWrite_intCtrl hres _).trans (judged_ok_three hmode hlimits hdual))

end

/-- R251: what a valid program leaves. -/
theorem intCtrlWrite_spec {s t : State} (hdual : bitOf v 0 = s.bitAt U.hub Off.intCtrl 0) (hon : bitOf v 2 = true)
    (hw : WriteDone h s (writeConfig U.hub Off.intCtrl v (touch h e.id s)) t) :
    t.reg U.hub Off.intCtrl = v ∧ t.integ = { s.integ with since := if s.bitAt U.hub Off.intCtrl 2 then s.integ.since else s.now }
      ∧ ChangesOnly [.integ, .outbox, .regs, .vcp] s t ∧ RegsOnly [(U.hub, Off.intCtrl)] s t := by
  have hstored := configStored_changesOnly U.hub Off.intCtrl v (touch h e.id s)
  have hint : (configStored U.hub Off.intCtrl v (touch h e.id s)).integ = s.integ := hstored .integ (by simp)
  have hnow : (configStored U.hub Off.intCtrl v (touch h e.id s)).now = s.now := hstored .now (by simp)
  have hold : (touch h e.id s).reg U.hub Off.intCtrl = s.reg U.hub Off.intCtrl := State.reg_congr (touch_regs h e.id s) _ _
  rw [writeConfig_intCtrl, hold, intEffect_sameDual hdual.symm hon] at hw
  have hinteg := hw.parts .integ (by simp)
  simp only [Part.Same, hint, hnow] at hinteg
  exact ⟨(hw.reg (by decide) (hub_not_report _)).trans (configStored_reg ..), hinteg,
    hw.changesOnly (changesOnly_trans (changesOnly_mono hstored (by simp)) (changesOnly_mono (with_integ_changesOnly _ _) (by simp))),
    hw.regsOnly (regsOnly_trans (configStored_regsOnly _ _ _ _ (by decide)) (regsOnly_of_regs rfl))⟩

end

/-! ### VCP_CTRL (R422) -/

section
variable (s : State)

theorem logSession_regsOnly (e : Session) : RegsOnly [] s (logSession e s) :=
  fun _ _ ho _ hr => logWords_reg hr ho _ _ _ s

/-- A session that ends is no longer among the sessions; the others stay. -/
theorem endSession_sessions (sid : BitVec 16) : (endSession sid s).vcp.sessions = s.vcp.sessions.filter (fun x => decide (x.id ≠ sid)) := by
  unfold endSession
  split
  next hnone =>
    refine (List.filter_eq_self.2 fun x hx => decide_eq_true (p := x.id ≠ sid) fun hid => ?_).symm
    exact absurd (decide_eq_true hid) (List.find?_eq_none.1 hnone x hx)
  next e _ => simp [logSession_frame]

theorem endSession_changesOnly (sid : BitVec 16) : ChangesOnly [.log, .outbox, .regs, .upds, .vcp] s (endSession sid s) := by
  intro p hp
  cases p <;> simp [Part.Same, endSession_frame] at hp ⊢

theorem endSession_regsOnly (sid : BitVec 16) : RegsOnly [] s (endSession sid s) := by
  unfold endSession
  split
  · exact regsOnly_refl _ _
  next e _ =>
    have hgone : RegsOnly [] s (logSession e { s with vcp.sessions := s.vcp.sessions.filter (fun x => decide (x.id ≠ sid)) }) :=
      logSession_regsOnly { s with vcp.sessions := s.vcp.sessions.filter (fun x => decide (x.id ≠ sid)) } e
    exact forEach_keeps hgone fun k _ a ha => regsOnly_trans ha (regsOnly_of_regs rfl)

theorem forEach_endSession_sessions (ids : List (BitVec 16)) :
    (forEach ids endSession s).vcp.sessions = s.vcp.sessions.filter (fun x => decide (x.id ∉ ids)) := by
  induction ids generalizing s with
  | nil => simp [forEach]
  | cons sid ids ih =>
    have hstep : forEach (sid :: ids) endSession s = forEach ids endSession (endSession sid s) := rfl
    rw [hstep, ih, endSession_sessions, List.filter_filter]
    refine List.filter_congr fun x _ => ?_
    simp [Bool.and_comm]

/-- R422: no session on the service port outlasts the end of the service sessions. -/
theorem endServiceSessions_none : ∀ x ∈ (endServiceSessions s).vcp.sessions, x.port ≠ .service := by
  intro x hx hport
  unfold endServiceSessions at hx
  rw [forEach_endSession_sessions] at hx
  obtain ⟨hmem, hid⟩ := List.mem_filter.1 hx
  exact of_decide_eq_true hid (List.mem_map_of_mem (List.mem_filter.2 ⟨hmem, decide_eq_true hport⟩))

theorem endServiceSessions_changesOnly : ChangesOnly [.log, .outbox, .regs, .upds, .vcp] s (endServiceSessions s) :=
  forEach_keeps (changesOnly_refl _ _) fun sid _ a ha => changesOnly_trans ha (endSession_changesOnly a sid)

theorem endServiceSessions_regsOnly : RegsOnly [] s (endServiceSessions s) :=
  forEach_keeps (regsOnly_refl _ _) fun sid _ a ha => regsOnly_trans ha (endSession_regsOnly a sid)

end

theorem vcpCtrl_findReg : ∃ r, findReg U.sys Off.vcpCtrl = some r ∧ judgedByClass r 0 = true := by decide +kernel

section
variable {h : Hdr} {e : Session} {v : Word}

/-- A session on the service port may not end the service sessions. -/
theorem judgeWrite_vcpCtrl (hres : ∀ r, findReg U.sys Off.vcpCtrl = some r → v &&& r.reserved = 0) (a : State) :
    judgeWrite (oneWrite h e U.sys Off.vcpCtrl v) a
      = judged (firstFail [(bitOf v 0 || decide (e.port ≠ .service), .denied), (between 5 600 (fld v 31 16), .badParam)])
          (writeConfig U.sys Off.vcpCtrl v) := by
  obtain ⟨r, hf, hacc⟩ := vcpCtrl_findReg
  exact judgeWrite_eq_judgeClass a rfl hf hacc (by decide) hres

theorem writeConfig_vcpCtrl_falls {a : State} (hon : a.bitAt U.sys Off.vcpCtrl 0 = true) (hoff : bitOf v 0 = false) :
    writeConfig U.sys Off.vcpCtrl v a = endServiceSessions (configStored U.sys Off.vcpCtrl v a) := by
  have hfalls : falls (a.reg U.sys Off.vcpCtrl) v 0 = true := by
    rw [falls, show bitOf (a.reg U.sys Off.vcpCtrl) 0 = true from hon, hoff]
    rfl
  exact (writeConfig_off_card _ _ _ _ rfl).trans (if_pos ⟨rfl, hfalls⟩)

section
variable {s : State} (hu : h.unit.toNat = U.sys) (hs : Served (writeOp U.sys Off.vcpCtrl 1) h e s)
  (hres : ∀ r, findReg U.sys Off.vcpCtrl = some r → v &&& r.reserved = 0) (hoff : bitOf v 0 = false)
include hu hs hres hoff

theorem serviceEnClear_denied (hport : e.port = .service) : WriteRefused h .denied s (registerWriteAt h Off.vcpCtrl v s) := by
  have hcond : (bitOf v 0 || decide (e.port ≠ .service)) = false := by simp [hoff, hport]
  exact registerWriteAt_refuse hu hs ((judgeWrite_vcpCtrl hres _).trans (judged_refuse hcond _))

section
variable (hport : e.port ≠ .service) (hlow : 5 ≤ fld v 31 16) (hhigh : fld v 31 16 ≤ 600)
include hport hlow hhigh

omit hu hs hoff in
theorem judgeWrite_vcpCtrl_ok (a : State) : judgeWrite (oneWrite h e U.sys Off.vcpCtrl v) a = .ok (writeConfig U.sys Off.vcpCtrl v) := by
  have hother : (bitOf v 0 || decide (e.port ≠ .service)) = true := by simp [hport]
  have htime : between 5 600 (fld v 31 16) = true := by simp [between, hlow, hhigh]
  exact (judgeWrite_vcpCtrl hres a).trans (judged_ok_two hother htime)

/-- R422: clearing SERVICE_EN ends the service sessions. -/
theorem serviceEnClear_spec (hd : deadlineMissed h (nextFrame s) s.now = false) (hon : s.bitAt U.sys Off.vcpCtrl 0 = true) {t : State}
    (ht : t = registerWriteAt h Off.vcpCtrl v s) :
    Answers h .ok (nextFrame s) [] s t ∧ t.reg U.sys Off.vcpCtrl = v ∧ (∀ x ∈ t.vcp.sessions, x.port ≠ .service)
      ∧ ChangesOnly [.log, .outbox, .regs, .upds, .vcp] s t ∧ RegsOnly [(U.sys, Off.vcpCtrl)] s t := by
  subst ht
  have hj := judgeWrite_vcpCtrl_ok (h := h) hres hport hlow hhigh (touch h e.id s)
  have hw := registerWriteAt_done hu hs hd (by decide) hj
  have hsessions := (registerWriteAt_finished hu hs hd (by decide) hj).1
  have hon' : (touch h e.id s).bitAt U.sys Off.vcpCtrl 0 = true := hon
  rw [writeConfig_vcpCtrl_falls hon' hoff] at hw hsessions
  have hstored := configStored_changesOnly U.sys Off.vcpCtrl v (touch h e.id s)
  have hregs := endServiceSessions_regsOnly (configStored U.sys Off.vcpCtrl v (touch h e.id s))
  refine ⟨hw.answers, ?_, fun x hx => endServiceSessions_none _ x (hsessions ▸ hx),
    hw.changesOnly (changesOnly_trans (changesOnly_mono hstored (by simp)) (endServiceSessions_changesOnly _)),
    hw.regsOnly (regsOnly_trans (configStored_regsOnly _ _ _ _ (by decide)) (regsOnly_nil hregs))⟩
  rw [hw.reg (by decide) (by decide), hregs _ _ (by decide) (by simp) (by decide)]
  exact configStored_reg ..

end

end

end

end Sys2Proof.Machine
end

section
/-! R152, R251, R277, R330, R331, R364, R386, R422: the writes of one register of the module (O43). -/

namespace Sys2Proof.Machine

open Sys2Proof Sys2Proof.Safety

/-- Settles O43, write by write: each has a judgement by its own rule, an effect, and a reply that changes nothing else. -/
theorem moduleRegistersWritten : Obligations.ModuleRegistersWritten := by
  intro h v e s hd at_ ok refused
  refine ⟨?dies, ?otherDies, ?pair, ?links, ?recover, ?auxCfg, ?auxLevel, ?intCtrl, ?intDenied, ?vcpCtrl⟩
  case dies =>
    intro i hi
    have hi25 : i < 25 := by omega
    have hcompute : decide (i < 16) = true := decide_eq_true hi
    refine ⟨?retire, ?restore⟩
    case retire =>
      rintro ⟨hu, hs, hres⟩
      refine ⟨fun hm => ?_, fun hm => ?_⟩
      · have hmode : (decide ((1 : Word) = 0) || decide (s.plant.mode = .maintain)) = true := by simp [hm]
        have hw : WriteDone h s (dieAsked i (fun d => { d with retireReq := true }) (touch h e.id s)) (registerWriteAt h Off.dieCtrl 1 s) :=
          dieCtrlWrite_done hi25 hu hs hres hd (judged_ok_three hcompute hmode rfl)
        exact ⟨_, ⟨rfl, hw.answers⟩, dieAsked_spec hw⟩
      · have hmode : (decide ((1 : Word) = 0) || decide (s.plant.mode = .maintain)) = false := by simp [hm]
        exact ⟨_, rfl, dieCtrlWrite_refused hi25 hu hs hres (judged_refuse_second hcompute hmode _)⟩
    case restore =>
      rintro ⟨hu, hs, hres⟩ hm
      have hmode : (decide ((2 : Word) = 0) || decide (s.plant.mode = .maintain)) = true := by simp [hm]
      refine ⟨fun hst => ?_, fun hst => ?_⟩
      · have hretired : (decide ((2 : Word) ≠ 3) && (!bitOf 2 1 || decide ((s.die i).st = 3))) = true := by simp [hst]
        have hw : WriteDone h s (dieAsked i (fun d => { d with restoreReq := true }) (touch h e.id s)) (registerWriteAt h Off.dieCtrl 2 s) :=
          dieCtrlWrite_done hi25 hu hs hres hd (judged_ok_three hcompute hmode hretired)
        exact ⟨_, ⟨rfl, hw.answers⟩, dieAsked_spec hw⟩
      · have hretired : (decide ((2 : Word) ≠ 3) && (!bitOf 2 1 || decide ((s.die i).st = 3))) = false := by
          rw [decide_eq_false hst]
          rfl
        exact ⟨_, rfl, dieCtrlWrite_refused hi25 hu hs hres (judged_refuse_third hcompute hmode hretired)⟩
  case otherDies =>
    exact fun i h16 hi => ⟨fun ⟨hu, hs, hres⟩ => ⟨_, rfl, dieCtrlWrite_notCompute hi hu hs hres h16⟩,
      fun ⟨hu, hs, hres⟩ => ⟨_, rfl, dieCtrlWrite_notCompute hi hu hs hres h16⟩⟩
  case pair =>
    rintro ⟨hu, hs, hres⟩ hper hjoin
    refine ⟨fun hready hk hone => ?_, fun hready ho => ?_, fun hno => ⟨_, rfl, join_denied hu hs hres hper hjoin hno⟩⟩
    · have hw := join_done hu hs hres hper hjoin hd hready
      obtain ⟨hreg, hkeeper, -, -, hregs⟩ := join_spec hw
      obtain ⟨hpair, hparts⟩ := hkeeper hk hone
      exact ⟨_, ⟨rfl, hw.answers⟩, hreg, hpair, hparts, hregs⟩
    · have hw := join_done hu hs hres hper hjoin hd hready
      obtain ⟨hreg, -, hother, hparts, -⟩ := join_spec hw
      have hpair := hother ho
      have hjoinAt := congrArg Pair.joinAt hpair
      exact ⟨_, ⟨rfl, hw.answers⟩, hreg, congrArg Pair.joinReady hpair, congrArg Pair.resync hpair, hjoinAt, hparts⟩
  case links =>
    rintro l hl ⟨hu, hs, hres⟩ hon halive others
    have hleft : (bitOf v 0 = true → bitOf v 1 = true) → linkNeeded s l = false →
        ∃ t, registerWriteAt h Off.linkCtrl v s = t ∧ Answers h .ok (nextFrame s) [] s t
          ∧ (t.link l).st = (if bitOf v 0 then .training else .disabled) ∧ others t
          ∧ t.bitAt (U.link l) Off.linkEvents 0 = true ∧ t.bitAt (U.link l) Off.linkCtrl 0 = bitOf v 0 := fun hdown hfree => by
      have hw := linkCtrlWrite_done hl hu hs hres hon hdown hd halive hfree
      obtain ⟨hst, hevent, hctrl⟩ := linkCtrlWrite_spec hl hw
      have hself := (hst l).trans (if_pos rfl)
      exact ⟨_, rfl, hw.answers, hself, fun j => (hst j).trans (by rw [hself]), hevent, hctrl⟩
    refine ⟨fun hfree h0 h1 => ?_, fun hfree h0 => ?_, fun hneed h0 h1 => ?_, fun hneed h0 => ?_⟩
    · obtain ⟨t, ht, hans, hst, hothers, hevent, -⟩ := hleft (fun _ => h1) hfree
      exact ⟨t, ⟨congrArg Host.Outcome.next ht, hans⟩, hst.trans (if_pos h0), hothers, hevent⟩
    · obtain ⟨t, ht, hans, hst, hothers, -, hctrl⟩ := hleft (fun h1 => absurd (h0.symm.trans h1) (by decide)) hfree
      exact ⟨t, ⟨congrArg Host.Outcome.next ht, hans⟩, hst.trans (if_neg (Bool.eq_false_iff.1 h0)), hothers, hctrl.trans h0⟩
    · exact ⟨_, rfl, linkCtrlWrite_denied hl hu hs hres hon (fun _ => h1) hneed⟩
    · exact ⟨_, rfl, linkCtrlWrite_denied hl hu hs hres hon (fun h1 => absurd (h0.symm.trans h1) (by decide)) hneed⟩
  case recover =>
    rintro c hc ⟨hu, hs, hres⟩
    have hw := blRecoverWrite_done hc hu hs hres hd
    have hbus : ∀ j, (registerWriteAt h Off.blRecover v s).bus j
        = if j = c ∧ bitOf v 0 = true ∧ (s.bus c).st = .busOff then { s.bus c with recovering := true } else s.bus j := fun j =>
      (State.bus_congr (hw.parts .buses (by simp)) j).trans (recoverBus_bus c v (touch h e.id s) j)
    refine ⟨_, ⟨rfl, hw.answers⟩, fun hb hoff => (hbus c).trans (if_pos ⟨rfl, hb, hoff⟩), fun hno => (hbus c).trans (if_neg ?_),
      fun j hj => (hbus j).trans (if_neg fun hself => hj hself.1),
      hw.changesOnly (changesOnly_mono (recoverBus_changesOnly c v _) (by simp)), hw.regsOnly (recoverBus_regsOnly c v _)⟩
    rintro ⟨-, hb, hoff⟩
    exact hno.elim (fun hclear => absurd (hclear.symm.trans hb) (by decide)) (fun hst => hst hoff)
  case auxCfg =>
    rintro p hp ⟨hu, hs, hres⟩
    refine ⟨fun hsw hoff hfunc => ?_, fun hsw => ⟨_, rfl, auxCfgWrite_busy hp hu hs hres hsw⟩,
      fun hsw hno => ⟨_, rfl, auxCfgWrite_badParam hp hu hs hres hsw hno⟩⟩
    have hw := auxCfgWrite_done hp hu hs hres hsw hoff hd
    exact ⟨_, ⟨rfl, hw.answers⟩, auxSwitch_spec hp hfunc hw⟩
  case auxLevel =>
    rintro p level hp ⟨hu, hs, hres⟩ hsw hfunc hlevel
    obtain ⟨hans, hrest⟩ := auxOutLevel_spec hp hu hs hres hsw hfunc hlevel hd rfl
    have hexec : exec (.auxOutLevel h level) s = .next (registerWriteAt h Off.auxCfg (wd (2 + 16 * b2n level)) s) := by
      show Host.Outcome.next (registerWriteAt h Off.auxCfg (wd ((s.aux (unitInst h.unit.toNat)).func + 16 * b2n level)) s) = _
      rw [hu, aux_inst hp, hfunc]
    exact ⟨_, ⟨hexec, hans⟩, hrest⟩
  case intCtrl =>
    rintro ⟨hu, hs, hres⟩ hon hdual hsingle hcount hlow hhigh
    have hw := intCtrlWrite_done hu hs hres hd hon hsingle hcount hlow hhigh
    exact ⟨_, ⟨rfl, hw.answers⟩, intCtrlWrite_spec hdual hon hw⟩
  case intDenied => exact fun ⟨hu, hs, hres⟩ hoff hm => ⟨_, rfl, intCtrlWrite_denied hu hs hres hoff hm⟩
  case vcpCtrl =>
    rintro ⟨hu, hs, hres⟩ hoff
    refine ⟨fun hport hlow hhigh hon => ?_, fun hport => ⟨_, rfl, serviceEnClear_denied hu hs hres hoff hport⟩⟩
    obtain ⟨hans, hrest⟩ := serviceEnClear_spec hu hs hres hoff hport hlow hhigh hd hon rfl
    exact ⟨_, ⟨rfl, hans⟩, hrest⟩

end Sys2Proof.Machine
end
